-- ==== Sys2Proof/Word.lean ====
section
/-!
DEFINITION. The word types of the KS-40 (R7: little-endian, bit 0 least significant) and the
identifiers by which the manual names its parts (R3, R8, R20, R21).
-/
namespace Sys2Proof

/-- A byte of any space. -/
abbrev Byte := BitVec 8
/-- A 64-bit word: a general register, a port, a local-memory word. -/
abbrev Word := BitVec 64

/-- Logical core ID, y × 128 + x (R8). -/
abbrev CoreId := Fin 10240
/-- C-die index j × 8 + k (R8, R15). -/
abbrev DieId := Fin 32
/-- E-die number e (R20). -/
abbrev EDie := Fin 16
/-- Region number (R29). -/
abbrev RegionId := Fin 256
/-- Stream engine (R21, R251). -/
abbrev EngineId := Fin 256
/-- Shore port: x on the north row is x, x on the south row is 128 + x (R8, R20). -/
abbrev ShoreId := Fin 256
/-- Host link (R21). -/
abbrev LinkId := Fin 2
/-- Device-link port (R21). -/
abbrev PortId := Fin 16

/-- One hardware thread of one core (R119). -/
structure Hart where
  core : CoreId
  thread : Fin 4
  deriving DecidableEq, Repr

/-- One PCIe function: the PF of a link (`vf = none`) or one of its VFs (R312, R314). -/
structure FnId where
  link : LinkId
  vf : Option (Fin 128)
  deriving DecidableEq, Repr

end Sys2Proof
end

