-- ==== Sys2Proof/Syntax.lean ====
section
/-!
DEFINITION. The commands of the KS-40, one constructor of `Instr` for each row of
spec/opcode_table.json, and the types of their operands.

The first rows are the core's instructions: each names the thread that issues it (`h`) and, where
the instruction is predicable (R98, R102), its predicate register `p`. The other rows are events of
the part's own units and commands that reach it from outside (95_what_each_step_holds.md). The table
gives no operands; each operand here is one that the row's rule names.
-/
namespace Sys2Proof

/-- Conditions of `CMP` (R102), in FN order. -/
inductive CmpCond | eq | ne | lt | ge | ltu | geu
  deriving DecidableEq, Repr
/-- Conditions of `CMPI` (R102), in D[4:3] order. -/
inductive CmpiCond | eq | ne | lt | ltu
  deriving DecidableEq, Repr
/-- Conditions of `FCMP` (R104). -/
inductive FcmpCond | eq | lt | le | un
  deriving DecidableEq, Repr
/-- `.D` (FP64) or `.S` (FP32). -/
inductive FpFmt | d | s
  deriving DecidableEq, Repr
/-- Element sizes of the block-repeat operations: 1, 2, 4 and 8 bytes. -/
inductive ElemSize | b | h | w | d
  deriving DecidableEq, Repr
/-- Lane widths of the vector integer groups: 1, 2, 4 and 8 bytes (R149). -/
inductive LaneW | w1 | w2 | w4 | w8
  deriving DecidableEq, Repr
/-- Operations of `MLOG` (R151). -/
inductive MaskOp | and | or | xor | andn | not
  deriving DecidableEq, Repr
/-- A flag or a counter of a window (R305). -/
inductive FlagOrCtr | flag | ctr
  deriving DecidableEq, Repr

/-- A cell create request (R38): through the monitor's port, the register `d` holding the value
written to `CELL_CREATE` (R115), or an operator's command (R406) with the entry's fields and the
wanted index. -/
inductive CreateReq
  | port (h : Hart) (p : Fin 8) (d : Fin 32)
  | operator (entry : BitVec 128) (wanted : Option (BitVec 11))
  deriving DecidableEq, Repr
/-- A cell delete request (R39). -/
inductive DeleteReq
  | port (h : Hart) (p : Fin 8) (d : Fin 32)
  | operator (index : BitVec 11)
  deriving DecidableEq, Repr
/-- A route load (R63): the monitor's `ROUTE_LOAD` port or the operator's command. -/
inductive LoadReq
  | port (h : Hart) (p : Fin 8) (d : Fin 32)
  | operator (r : RegionId) (addr : BitVec 40)
  deriving DecidableEq, Repr
/-- What a `REGISTER_WRITE` names: a port of a core's I/O space (R94, R115), or a BAR0 register, by
its byte offset, the number of bytes (4 or 8), the byte enables and the value (R452). -/
inductive RegTarget
  | ioPort (h : Hart) (p : Fin 8) (d : Fin 32) (port : BitVec 16)
  | bar0 (fn : FnId) (offset : BitVec 16) (eight : Bool) (enables : BitVec 8) (value : BitVec 64)
  /-- A write of one word of a function's configuration space (R313). -/
  | config (fn : FnId) (offset : BitVec 12) (enables : BitVec 4) (value : BitVec 32)
  deriving DecidableEq, Repr
/-- What the SECDED check of a router finds in a flit (R409, R411). -/
inductive FlitEcc | ok | corrected | payload (word : Fin 8) | header
  deriving DecidableEq, Repr
/-- What an error-correcting check finds (R241, R409). -/
inductive EccOutcome | clean | corrected | uncorrectable
  deriving DecidableEq, Repr
/-- The hardware queues whose pointers are held twice (R295). -/
inductive HwQueue
  | notice (core : CoreId) (q : Fin 5)
  | injection (core : CoreId) (q : Fin 16)
  | staging (port : ShoreId) (e : EngineId)
  | crossing (e : EDie) (unit : Fin 32)
  deriving DecidableEq, Repr
/-- Direction of a shore slot, seen from the mesh (R71). -/
inductive SlotDir | inbound | outbound
  deriving DecidableEq, Repr
/-- A word of a table or flag bank found uncorrectable (R412). `replica` names a C-die (0–31) or an
E-die (32–47); a flag-bank word below 8 holds 64 flags, a later one two counters. -/
inductive TableWord
  | routeBank (core : CoreId) (bank : Bool) (entry : Fin 1024)
  /-- `stuck`: the bits also read wrong once they have been derived anew (R390). -/
  | borderMask (core : CoreId) (ports : BitVec 5) (stuck : Bool)
  | replica (unit : Fin 48) (entry : Fin 2048)
  | flagBank (die : DieId) (word : Fin 136)
  /-- An entry of an E-die's copy of the device route table (R377, R409). -/
  | deviceRoute (die : EDie) (entry : BitVec 14)
  deriving DecidableEq, Repr
/-- What holds a stored word that the scrub or an access checks (R409, R413): local memory or code space of
64-bit words; a queue of notices of two words or of flits of eight; a table; a way of a spill cache. -/
inductive WordStore
  | memory (core : CoreId) (code : Bool)
  | notice (core : CoreId) (q : Fin 5)
  | injection (core : CoreId) (q : Fin 16)
  | landing (core : CoreId)
  /-- What an engine holds in the staging queue of a shore port. -/
  | staging (e : EngineId) (port : ShoreId)
  | table (t : TableWord)
  | spill (link : LinkId) (way : Fin 16)
  deriving DecidableEq, Repr
/-- What the code finds in the 64-byte sectors of bulk memory that a command reads (R241): those it corrects and those
it cannot, by address / 64. A sector that is named and not read plays no part. -/
structure SectorEcc where
  corrected : List Nat := []
  bad : List Nat := []
  deriving DecidableEq, Repr
/-- The end of a region's route load (R68), and what its reads find (R241). -/
structure RouteRead where
  region : RegionId
  ecc : SectorEcc
  deriving DecidableEq, Repr
/-- The load of a region's boot image (R393), and what its reads find (R241). -/
structure BootRead where
  region : RegionId
  ecc : SectorEcc
  deriving DecidableEq, Repr
/-- An engine and what its read of a bitmap or a tag finds (R215, R241, R263). -/
structure EngineRead where
  engine : EngineId
  ecc : SectorEcc
  deriving DecidableEq, Repr
/-- How the data of a port burst came: the bytes, from and to, that completions with EP brought (R345), and what the
bulk reads of the burst find (R241). -/
structure BurstRead where
  poisoned : List (Nat × Nat)
  ecc : SectorEcc
  deriving DecidableEq, Repr
/-- A pushed TLP's EP bit (R345), and what the reads of tags that it completes find (R241, R346). -/
structure PushRead where
  ep : Bool
  ecc : SectorEcc
  deriving DecidableEq, Repr
/-- Who opens a management connection (R407): the certificate it presents, and whether it comes over SGMII1 (R475). -/
structure TlsPeer where
  cert : Option (BitVec 384)
  sgmii1 : Bool
  deriving DecidableEq, Repr
/-- The next entries of a link window load, and whether more follow (R367). -/
structure WindowPiece where
  entries : List (BitVec 128)
  more : Bool
  deriving DecidableEq, Repr
/-- A submission or completion ring of a function (R318). -/
inductive RingName | sq (i : Fin 16) | cq (i : Fin 16)
  deriving DecidableEq, Repr
/-- An ATS translation response (R349): the translated page and the permissions it grants. -/
structure AtsAnswer where
  hostPage : BitVec 52
  read : Bool
  write : Bool
  deriving DecidableEq, Repr
/-- A PRI response (R349). -/
inductive PriAnswer | success | invalidRequest | responseFailure
  deriving DecidableEq, Repr
/-- The host access that timed out or failed (R347, R351, R333). -/
inductive HostAccess
  /-- The line read that outstanding burst `i` of an engine waits for, numbered as `BURST_COMPLETE` numbers them, or past
  them the one that a write or a fill of the engine waits for. -/
  | farBurst (e : EngineId) (i : Nat)
  /-- A line read that nothing waits for any more. -/
  | line (link : LinkId) (region : RegionId) (line : BitVec 36)
  /-- The read or the write of the port's burst number `j`, its first being 0. -/
  | port (fn : FnId) (port : Fin 64) (j : Nat)
  | query (fn : FnId) (ring : Fin 16)
  | writeBack (link : LinkId) (region : RegionId) (line : BitVec 36)
  deriving DecidableEq, Repr
/-- Why an Up port goes down (R357). -/
inductive DownCause | laser | fecLost | noFlit | nakEight
  deriving DecidableEq, Repr
/-- The fields of a `CREATE_REGION` command (R383). -/
structure RegionReq where
  region : RegionId
  entry : BitVec 128
  quota : BitVec 11
  cellQuota : BitVec 11
  engines : BitVec 256
  staging : List (BitVec 7)
  bulk : List (BitVec 11 × BitVec 11)
  domain : BitVec 16
  vf : BitVec 9
  bootImage : BitVec 40
  deriving DecidableEq, Repr
/-- A firmware image with its 256-byte slot header (R440). -/
structure FwImage where
  seq : BitVec 32
  svn : BitVec 32
  len : BitVec 32
  digest : BitVec 384
  sig : BitVec 768
  crc : BitVec 32
  image : List (BitVec 8)
  deriving DecidableEq, Repr
/-- A failed core named by `REINSTATE` (R423): a spare-map row and physical column, or an entry of
the removal list. -/
inductive FailedCore
  | spare (row : Fin 640) (col : Fin 17)
  | removal (j : Fin 64)
  deriving DecidableEq, Repr
/-- A debug command (R403). -/
inductive DebugOp
  | halt (h : Hart)
  | resume (h : Hart)
  | readG (h : Hart) (r : Fin 32)
  | writeG (h : Hart) (r : Fin 32) (v : BitVec 64)
  | readP (h : Hart) (r : Fin 8)
  | writeP (h : Hart) (r : Fin 8) (v : Bool)
  | readV (h : Hart) (r : Fin 32)
  | writeV (h : Hart) (r : Fin 32) (v : BitVec 512)
  | readM (h : Hart) (r : Fin 8)
  | writeM (h : Hart) (r : Fin 8) (v : BitVec 64)
  | readPc (h : Hart)
  | writePc (h : Hart) (v : BitVec 16)
  | readTileRow (h : Hart) (t : Fin 8) (r : Fin 16)
  | writeTileRow (h : Hart) (t : Fin 8) (r : Fin 16) (v : BitVec 512)
  | readDesc (h : Hart) (t : Fin 8)
  | writeDesc (h : Hart) (t : Fin 8) (v : BitVec 64)
  | readAccRow (h : Hart) (a : Fin 4) (r : Fin 16)
  | writeAccRow (h : Hart) (a : Fin 4) (r : Fin 16) (v : BitVec 512)
  | readLocal (core : CoreId) (addr : BitVec 20) (len : Nat)
  | writeLocal (core : CoreId) (addr : BitVec 20) (data : List (BitVec 8))
  | readCode (core : CoreId) (addr : BitVec 16) (len : Nat)
  | writeCode (core : CoreId) (addr : BitVec 16) (data : List (BitVec 8))
  | readBulk (addr : BitVec 40) (len : Nat)
  | setBreakpoint (h : Hart) (pc : BitVec 16)
  | setWatchpoint (h : Hart) (addr : BitVec 20)
  | clearPoints (h : Hart)
  deriving DecidableEq, Repr
/-- A debug command over the debug TAP or over the management network (R405). -/
structure DebugRequest where
  jtag : Bool
  op : DebugOp
  deriving DecidableEq, Repr
/-- What a Night command names (R448). -/
inductive NightTarget
  | region (r : RegionId) (wakeOnLaunch : Bool)
  | core (c : CoreId)
  deriving DecidableEq, Repr
/-- The two kinds of Night (R448). -/
inductive NightKind | retention | full
  deriving DecidableEq, Repr
/-- Who sends a `QUERY` or `SET` (R405, R457). -/
inductive Requester | operator | bmc
  deriving DecidableEq, Repr
/-- Transport of an SPDM request (R392, R405). -/
inductive SpdmTransport | doe (link : LinkId) | smbus | vdm
  deriving DecidableEq, Repr
/-- The algorithms a requester offers (R392). -/
structure SpdmAlgs where
  ecdsaP384 : Bool
  sha384 : Bool
  secp384r1 : Bool
  aes256gcm : Bool
  dmtfMeasurements : Bool
  deriving DecidableEq, Repr
/-- The body of an `INSTALL_KEY` request (R396, R400). -/
structure KeyReq where
  slot : Fin 16
  key : BitVec 256
  imageId : BitVec 64
  imageBase : BitVec 40
  imageLen : BitVec 40
  tagBase : BitVec 40
  ivSalt : BitVec 32
  measurement : BitVec 384
  gen : BitVec 8
  deriving DecidableEq, Repr
/-- What made the controller declare a core failed (R416). -/
inductive FailTrigger | bist | selfTest | repeatedWord | eightWords | fourLinkErrors
  deriving DecidableEq, Repr
/-- A persistent item of the flashes (R430). -/
inductive FlashItem | firmware (slot : Fin 2) | spareMap | certificates | rollback | persistentLog
  deriving DecidableEq, Repr
/-- What a boot finds: whether E-S0's ROM passes its self-check (R436 step 1), and the level of
`PRESENCE_N` at the end of Armaik boot (R408). -/
structure RomReport where
  es0Ok : Bool
  presenceLow : Bool
  deriving DecidableEq, Repr
/-- A reference clock (R434). -/
inductive RefClock | svc | core | link | pcie (h : LinkId)
  deriving DecidableEq, Repr
/-- One set of telemetry samples (R468): temperatures in 0.1 °C (index 0–55, and the optical
engines' after them, log 208), rails as (mV, 0.1 A, 0.1 W) (index 0–47), none where no regulator answers (R483), device power in W,
laser inputs in 0.01 dBm (port 0–15). -/
structure Telemetry where
  temps : List (BitVec 16)
  rails : List (Option (BitVec 16 × BitVec 16 × BitVec 16))
  watts : BitVec 16
  lasers : List (BitVec 16)
  deriving DecidableEq, Repr

/-- The commands of the KS-40, one constructor for each row of the opcode table. -/
inductive Instr where
  /-- `ADD` (R102). -/
  | add (h : Hart) (p : Fin 8) (d : Fin 32) (a : Fin 32) (b : Fin 32)
  /-- `SUB` (R102). -/
  | sub (h : Hart) (p : Fin 8) (d : Fin 32) (a : Fin 32) (b : Fin 32)
  /-- `AND` (R102). -/
  | and (h : Hart) (p : Fin 8) (d : Fin 32) (a : Fin 32) (b : Fin 32)
  /-- `OR` (R102). -/
  | or (h : Hart) (p : Fin 8) (d : Fin 32) (a : Fin 32) (b : Fin 32)
  /-- `XOR` (R102). -/
  | xor (h : Hart) (p : Fin 8) (d : Fin 32) (a : Fin 32) (b : Fin 32)
  /-- `ANDN` (R102). -/
  | andn (h : Hart) (p : Fin 8) (d : Fin 32) (a : Fin 32) (b : Fin 32)
  /-- `SHL` (R102). -/
  | shl (h : Hart) (p : Fin 8) (d : Fin 32) (a : Fin 32) (b : Fin 32)
  /-- `SHR` (R102). -/
  | shr (h : Hart) (p : Fin 8) (d : Fin 32) (a : Fin 32) (b : Fin 32)
  /-- `SAR` (R102). -/
  | sar (h : Hart) (p : Fin 8) (d : Fin 32) (a : Fin 32) (b : Fin 32)
  /-- `ROR` (R102). -/
  | ror (h : Hart) (p : Fin 8) (d : Fin 32) (a : Fin 32) (b : Fin 32)
  /-- `MUL` (R102). -/
  | mul (h : Hart) (p : Fin 8) (d : Fin 32) (a : Fin 32) (b : Fin 32)
  /-- `MULH` (R102). -/
  | mulh (h : Hart) (p : Fin 8) (d : Fin 32) (a : Fin 32) (b : Fin 32)
  /-- `MULHU` (R102). -/
  | mulhu (h : Hart) (p : Fin 8) (d : Fin 32) (a : Fin 32) (b : Fin 32)
  /-- `DIV` (R103). -/
  | div (h : Hart) (p : Fin 8) (d : Fin 32) (a : Fin 32) (b : Fin 32)
  /-- `DIVU` (R103). -/
  | divu (h : Hart) (p : Fin 8) (d : Fin 32) (a : Fin 32) (b : Fin 32)
  /-- `REM` (R103). -/
  | rem (h : Hart) (p : Fin 8) (d : Fin 32) (a : Fin 32) (b : Fin 32)
  /-- `REMU` (R103). -/
  | remu (h : Hart) (p : Fin 8) (d : Fin 32) (a : Fin 32) (b : Fin 32)
  /-- `MIN` (R102). -/
  | min (h : Hart) (p : Fin 8) (d : Fin 32) (a : Fin 32) (b : Fin 32)
  /-- `MAX` (R102). -/
  | max (h : Hart) (p : Fin 8) (d : Fin 32) (a : Fin 32) (b : Fin 32)
  /-- `MINU` (R102). -/
  | minu (h : Hart) (p : Fin 8) (d : Fin 32) (a : Fin 32) (b : Fin 32)
  /-- `MAXU` (R102). -/
  | maxu (h : Hart) (p : Fin 8) (d : Fin 32) (a : Fin 32) (b : Fin 32)
  /-- `CLZ` (R102). -/
  | clz (h : Hart) (p : Fin 8) (d : Fin 32) (a : Fin 32)
  /-- `CTZ` (R102). -/
  | ctz (h : Hart) (p : Fin 8) (d : Fin 32) (a : Fin 32)
  /-- `POPC` (R102). -/
  | popc (h : Hart) (p : Fin 8) (d : Fin 32) (a : Fin 32)
  /-- `SEXTB` (R102). -/
  | sextb (h : Hart) (p : Fin 8) (d : Fin 32) (a : Fin 32)
  /-- `SEXTH` (R102). -/
  | sexth (h : Hart) (p : Fin 8) (d : Fin 32) (a : Fin 32)
  /-- `SEXTW` (R102). -/
  | sextw (h : Hart) (p : Fin 8) (d : Fin 32) (a : Fin 32)
  /-- `ZEXTW` (R102). -/
  | zextw (h : Hart) (p : Fin 8) (d : Fin 32) (a : Fin 32)
  /-- `ADDI` (R102). -/
  | addi (h : Hart) (p : Fin 8) (d : Fin 32) (a : Fin 32) (imm : BitVec 12)
  /-- `ANDI` (R102). -/
  | andi (h : Hart) (p : Fin 8) (d : Fin 32) (a : Fin 32) (imm : BitVec 12)
  /-- `ORI` (R102). -/
  | ori (h : Hart) (p : Fin 8) (d : Fin 32) (a : Fin 32) (imm : BitVec 12)
  /-- `XORI` (R102). -/
  | xori (h : Hart) (p : Fin 8) (d : Fin 32) (a : Fin 32) (imm : BitVec 12)
  /-- `SHLI` (R102). -/
  | shli (h : Hart) (p : Fin 8) (d : Fin 32) (a : Fin 32) (n : BitVec 6)
  /-- `SHRI` (R102). -/
  | shri (h : Hart) (p : Fin 8) (d : Fin 32) (a : Fin 32) (n : BitVec 6)
  /-- `SARI` (R102). -/
  | sari (h : Hart) (p : Fin 8) (d : Fin 32) (a : Fin 32) (n : BitVec 6)
  /-- `RORI` (R102). -/
  | rori (h : Hart) (p : Fin 8) (d : Fin 32) (a : Fin 32) (n : BitVec 6)
  /-- `MOVI` (R102). -/
  | movi (h : Hart) (p : Fin 8) (d : Fin 32) (imm : BitVec 17)
  /-- `MOVSH` (R102). -/
  | movsh (h : Hart) (p : Fin 8) (d : Fin 32) (imm : BitVec 16)
  /-- `CMP` (R102). -/
  | cmp (h : Hart) (p : Fin 8) (c : CmpCond) (d : Fin 8) (a : Fin 32) (b : Fin 32)
  /-- `CMPI` (R102). -/
  | cmpi (h : Hart) (p : Fin 8) (c : CmpiCond) (d : Fin 8) (a : Fin 32) (imm : BitVec 12)
  /-- `PAND` (R102). -/
  | pand (h : Hart) (p : Fin 8) (d : Fin 8) (a : Fin 8) (b : Fin 8)
  /-- `POR` (R102). -/
  | por (h : Hart) (p : Fin 8) (d : Fin 8) (a : Fin 8) (b : Fin 8)
  /-- `PXOR` (R102). -/
  | pxor (h : Hart) (p : Fin 8) (d : Fin 8) (a : Fin 8) (b : Fin 8)
  /-- `PANDN` (R102). -/
  | pandn (h : Hart) (p : Fin 8) (d : Fin 8) (a : Fin 8) (b : Fin 8)
  /-- `PNOT` (R102). -/
  | pnot (h : Hart) (p : Fin 8) (d : Fin 8) (a : Fin 8)
  /-- `PMOV` (R102). -/
  | pmov (h : Hart) (p : Fin 8) (d : Fin 8) (a : Fin 8)
  /-- `FADD` (R104). -/
  | fadd (h : Hart) (p : Fin 8) (f : FpFmt) (d : Fin 32) (a : Fin 32) (b : Fin 32)
  /-- `FSUB` (R104). -/
  | fsub (h : Hart) (p : Fin 8) (f : FpFmt) (d : Fin 32) (a : Fin 32) (b : Fin 32)
  /-- `FMUL` (R104). -/
  | fmul (h : Hart) (p : Fin 8) (f : FpFmt) (d : Fin 32) (a : Fin 32) (b : Fin 32)
  /-- `FDIV` (R104). -/
  | fdiv (h : Hart) (p : Fin 8) (f : FpFmt) (d : Fin 32) (a : Fin 32) (b : Fin 32)
  /-- `FMIN` (R104). -/
  | fmin (h : Hart) (p : Fin 8) (f : FpFmt) (d : Fin 32) (a : Fin 32) (b : Fin 32)
  /-- `FMAX` (R104). -/
  | fmax (h : Hart) (p : Fin 8) (f : FpFmt) (d : Fin 32) (a : Fin 32) (b : Fin 32)
  /-- `FSQRT` (R104). -/
  | fsqrt (h : Hart) (p : Fin 8) (f : FpFmt) (d : Fin 32) (a : Fin 32)
  /-- `FABS` (R104). -/
  | fabs (h : Hart) (p : Fin 8) (f : FpFmt) (d : Fin 32) (a : Fin 32)
  /-- `FNEG` (R104). -/
  | fneg (h : Hart) (p : Fin 8) (f : FpFmt) (d : Fin 32) (a : Fin 32)
  /-- `FCVT` (R104). -/
  | fcvt (h : Hart) (p : Fin 8) (f : FpFmt) (d : Fin 32) (a : Fin 32)
  /-- `FCVTI` (R104). -/
  | fcvti (h : Hart) (p : Fin 8) (f : FpFmt) (d : Fin 32) (a : Fin 32)
  /-- `FCVTU` (R104). -/
  | fcvtu (h : Hart) (p : Fin 8) (f : FpFmt) (d : Fin 32) (a : Fin 32)
  /-- `ICVTF` (R104). -/
  | icvtf (h : Hart) (p : Fin 8) (f : FpFmt) (d : Fin 32) (a : Fin 32)
  /-- `UCVTF` (R104). -/
  | ucvtf (h : Hart) (p : Fin 8) (f : FpFmt) (d : Fin 32) (a : Fin 32)
  /-- `FCLASS` (R102). -/
  | fclass (h : Hart) (p : Fin 8) (f : FpFmt) (d : Fin 32) (a : Fin 32)
  /-- `FMA` (R104). -/
  | fma (h : Hart) (p : Fin 8) (f : FpFmt) (d : Fin 32) (a : Fin 32) (b : Fin 32)
  /-- `FNMA` (R104). -/
  | fnma (h : Hart) (p : Fin 8) (f : FpFmt) (d : Fin 32) (a : Fin 32) (b : Fin 32)
  /-- `FCMP` (R104). -/
  | fcmp (h : Hart) (p : Fin 8) (c : FcmpCond) (f : FpFmt) (d : Fin 8) (a : Fin 32) (b : Fin 32)
  /-- `BR` (R105). -/
  | br (h : Hart) (p : Fin 8) (disp : BitVec 22)
  /-- `CALL` (R105). -/
  | call (h : Hart) (p : Fin 8) (disp : BitVec 22)
  /-- `JMP` (R92). -/
  | jmp (h : Hart) (p : Fin 8) (a : Fin 32)
  /-- `JMPL` (R92). -/
  | jmpl (h : Hart) (p : Fin 8) (d : Fin 32) (a : Fin 32)
  /-- `LDB` (R93). -/
  | ldb (h : Hart) (p : Fin 8) (d : Fin 32) (a : Fin 32) (imm : BitVec 12)
  /-- `LDBU` (R93). -/
  | ldbu (h : Hart) (p : Fin 8) (d : Fin 32) (a : Fin 32) (imm : BitVec 12)
  /-- `LDH` (R93). -/
  | ldh (h : Hart) (p : Fin 8) (d : Fin 32) (a : Fin 32) (imm : BitVec 12)
  /-- `LDHU` (R93). -/
  | ldhu (h : Hart) (p : Fin 8) (d : Fin 32) (a : Fin 32) (imm : BitVec 12)
  /-- `LDW` (R93). -/
  | ldw (h : Hart) (p : Fin 8) (d : Fin 32) (a : Fin 32) (imm : BitVec 12)
  /-- `LDWU` (R93). -/
  | ldwu (h : Hart) (p : Fin 8) (d : Fin 32) (a : Fin 32) (imm : BitVec 12)
  /-- `LDD` (R93). -/
  | ldd (h : Hart) (p : Fin 8) (d : Fin 32) (a : Fin 32) (imm : BitVec 12)
  /-- `STB` (R93). -/
  | stb (h : Hart) (p : Fin 8) (d : Fin 32) (a : Fin 32) (imm : BitVec 12)
  /-- `STH` (R93). -/
  | sth (h : Hart) (p : Fin 8) (d : Fin 32) (a : Fin 32) (imm : BitVec 12)
  /-- `STW` (R93). -/
  | stw (h : Hart) (p : Fin 8) (d : Fin 32) (a : Fin 32) (imm : BitVec 12)
  /-- `STD` (R93). -/
  | std (h : Hart) (p : Fin 8) (d : Fin 32) (a : Fin 32) (imm : BitVec 12)
  /-- `VLD` (R159). -/
  | vld (h : Hart) (p : Fin 8) (d : Fin 32) (a : Fin 32) (imm : BitVec 12)
  /-- `VST` (R159). -/
  | vst (h : Hart) (p : Fin 8) (d : Fin 32) (a : Fin 32) (imm : BitVec 12)
  /-- `IN` (R94). -/
  | portIn (h : Hart) (p : Fin 8) (d : Fin 32) (port : BitVec 16)
  /-- `OUT` (R94). -/
  | portOut (h : Hart) (p : Fin 8) (d : Fin 32) (port : BitVec 16)
  /-- `INR` (R94). -/
  | inr (h : Hart) (p : Fin 8) (d : Fin 32) (a : Fin 32)
  /-- `OUTR` (R94). -/
  | outr (h : Hart) (p : Fin 8) (d : Fin 32) (a : Fin 32)
  /-- `SMOVE` (R108). -/
  | smove (h : Hart) (p : Fin 8) (sz : ElemSize) (d : Fin 32) (a : Fin 32) (b : Fin 32)
  /-- `SFILL` (R108). -/
  | sfill (h : Hart) (p : Fin 8) (sz : ElemSize) (d : Fin 32) (a : Fin 32) (b : Fin 32)
  /-- `SCMP` (R110). -/
  | scmp (h : Hart) (p : Fin 8) (sz : ElemSize) (d : Fin 32) (a : Fin 32) (b : Fin 32)
  /-- `SSCAN` (R110). -/
  | sscan (h : Hart) (p : Fin 8) (sz : ElemSize) (d : Fin 32) (a : Fin 32) (b : Fin 32)
  /-- `SSCANN` (R110). -/
  | sscann (h : Hart) (p : Fin 8) (sz : ElemSize) (d : Fin 32) (a : Fin 32) (b : Fin 32)
  /-- `CLOAD` (R112). -/
  | cload (h : Hart) (p : Fin 8) (d : Fin 32) (a : Fin 32) (b : Fin 32)
  /-- `CREAD` (R108). -/
  | cread (h : Hart) (p : Fin 8) (d : Fin 32) (a : Fin 32) (b : Fin 32)
  /-- `SEND` (R107). -/
  | send (h : Hart) (p : Fin 8) (q : Fin 16) (a : Fin 32) (b : Fin 32)
  /-- `NOP` (R102). -/
  | nop (h : Hart) (p : Fin 8)
  /-- `FENCE` (R106). -/
  | fence (h : Hart) (p : Fin 8) (scope : Fin 8)
  /-- `TRAP` (R114). -/
  | trap (h : Hart) (p : Fin 8) (n : BitVec 8)
  /-- `RETT` (R142). -/
  | rett (h : Hart)
  /-- `HOLD` (R144). -/
  | hold (h : Hart) (n : BitVec 17)
  /-- `RESERVED_ENCODING` (R97). -/
  | reservedEncoding (h : Hart) (w : BitVec 32)
  /-- `MOV16` (R101). -/
  | mov16 (h : Hart) (d : Fin 16) (r : Fin 16)
  /-- `ADD16` (R101). -/
  | add16 (h : Hart) (d : Fin 16) (r : Fin 16)
  /-- `SUB16` (R101). -/
  | sub16 (h : Hart) (d : Fin 16) (r : Fin 16)
  /-- `AND16` (R101). -/
  | and16 (h : Hart) (d : Fin 16) (r : Fin 16)
  /-- `OR16` (R101). -/
  | or16 (h : Hart) (d : Fin 16) (r : Fin 16)
  /-- `XOR16` (R101). -/
  | xor16 (h : Hart) (d : Fin 16) (r : Fin 16)
  /-- `SHL16` (R101). -/
  | shl16 (h : Hart) (d : Fin 16) (r : Fin 16)
  /-- `SHR16` (R101). -/
  | shr16 (h : Hart) (d : Fin 16) (r : Fin 16)
  /-- `ADDI16` (R101). -/
  | addi16 (h : Hart) (d : Fin 16) (imm : BitVec 7)
  /-- `MOVI16` (R101). -/
  | movi16 (h : Hart) (d : Fin 16) (imm : BitVec 7)
  /-- `SHLI16` (R101). -/
  | shli16 (h : Hart) (d : Fin 16) (n : BitVec 5)
  /-- `SHRI16` (R101). -/
  | shri16 (h : Hart) (d : Fin 16) (n : BitVec 5)
  /-- `SARI16` (R101). -/
  | sari16 (h : Hart) (d : Fin 16) (n : BitVec 5)
  /-- `LDD16` (R101). -/
  | ldd16 (h : Hart) (d : Fin 16) (b : Fin 16) (off : BitVec 3)
  /-- `STD16` (R101). -/
  | std16 (h : Hart) (d : Fin 16) (b : Fin 16) (off : BitVec 3)
  /-- `LDW16` (R101). -/
  | ldw16 (h : Hart) (d : Fin 16) (b : Fin 16) (off : BitVec 3)
  /-- `STW16` (R101). -/
  | stw16 (h : Hart) (d : Fin 16) (b : Fin 16) (off : BitVec 3)
  /-- `BZ16` (R101). -/
  | bz16 (h : Hart) (r : Fin 16) (disp : BitVec 7)
  /-- `BNZ16` (R101). -/
  | bnz16 (h : Hart) (r : Fin 16) (disp : BitVec 7)
  /-- `BLTZ16` (R101). -/
  | bltz16 (h : Hart) (r : Fin 16) (disp : BitVec 7)
  /-- `BGEZ16` (R101). -/
  | bgez16 (h : Hart) (r : Fin 16) (disp : BitVec 7)
  /-- `BR16` (R101). -/
  | br16 (h : Hart) (disp : BitVec 11)
  /-- `IN16` (R101). -/
  | in16 (h : Hart) (d : Fin 16) (port : BitVec 7)
  /-- `OUT16` (R101). -/
  | out16 (h : Hart) (d : Fin 16) (port : BitVec 7)
  /-- `NOP16` (R101). -/
  | nop16 (h : Hart)
  /-- `RET16` (R101). -/
  | ret16 (h : Hart)
  /-- `TRAP16` (R101). -/
  | trap16 (h : Hart) (n : BitVec 7)
  /-- `VMOV` (R151). -/
  | vmov (h : Hart) (p : Fin 8) (m : Fin 8) (d : Fin 32) (a : Fin 32)
  /-- `VBCAST` (R151). -/
  | vbcast (h : Hart) (p : Fin 8) (m : Fin 8) (w : LaneW) (d : Fin 32) (a : Fin 32)
  /-- `VEXT` (R160). -/
  | vext (h : Hart) (p : Fin 8) (d : Fin 32) (a : Fin 32) (n : Fin 8)
  /-- `VINS` (R151). -/
  | vins (h : Hart) (p : Fin 8) (d : Fin 32) (a : Fin 32) (n : Fin 8)
  /-- `VROTB` (R151). -/
  | vrotb (h : Hart) (p : Fin 8) (m : Fin 8) (d : Fin 32) (a : Fin 32) (b : Fin 32)
  /-- `VSEL` (R151). -/
  | vsel (h : Hart) (p : Fin 8) (m : Fin 8) (d : Fin 32) (a : Fin 32) (b : Fin 32)
  /-- `VTOT` (R168). -/
  | vtot (h : Hart) (p : Fin 8) (d : Fin 8) (a : Fin 32) (r : Fin 16)
  /-- `VFROMT` (R168). `bad`: rows 16 × tile + row whose parity fails twice (R177). -/
  | vfromt (h : Hart) (p : Fin 8) (d : Fin 32) (a : Fin 8) (r : Fin 16) (bad : List Nat)
  /-- `MLOG` (R151). -/
  | mlog (h : Hart) (p : Fin 8) (op : MaskOp) (d : Fin 8) (a : Fin 8) (b : Fin 8)
  /-- `MFROMG` (R151). -/
  | mfromg (h : Hart) (p : Fin 8) (d : Fin 8) (a : Fin 32)
  /-- `MTOG` (R151). -/
  | mtog (h : Hart) (p : Fin 8) (d : Fin 32) (a : Fin 8)
  /-- `TINFO` (R167). -/
  | tinfo (h : Hart) (p : Fin 8) (d : Fin 32) (sel : Fin 32)
  /-- `VTZ` (R157). -/
  | vtz (h : Hart) (p : Fin 8) (m : Fin 8) (d : Fin 8) (a : Fin 32)
  /-- `VZBM` (R157). -/
  | vzbm (h : Hart) (p : Fin 8) (d : Fin 32) (a : Fin 32) (k : Fin 8)
  /-- `VADD` (R152). -/
  | vadd (h : Hart) (p : Fin 8) (w : LaneW) (m : Fin 8) (d : Fin 32) (a : Fin 32) (b : Fin 32)
  /-- `VSUB` (R152). -/
  | vsub (h : Hart) (p : Fin 8) (w : LaneW) (m : Fin 8) (d : Fin 32) (a : Fin 32) (b : Fin 32)
  /-- `VMUL` (R152). -/
  | vmul (h : Hart) (p : Fin 8) (w : LaneW) (m : Fin 8) (d : Fin 32) (a : Fin 32) (b : Fin 32)
  /-- `VMIN` (R152). -/
  | vmin (h : Hart) (p : Fin 8) (w : LaneW) (m : Fin 8) (d : Fin 32) (a : Fin 32) (b : Fin 32)
  /-- `VMAX` (R152). -/
  | vmax (h : Hart) (p : Fin 8) (w : LaneW) (m : Fin 8) (d : Fin 32) (a : Fin 32) (b : Fin 32)
  /-- `VMINU` (R152). -/
  | vminu (h : Hart) (p : Fin 8) (w : LaneW) (m : Fin 8) (d : Fin 32) (a : Fin 32) (b : Fin 32)
  /-- `VMAXU` (R152). -/
  | vmaxu (h : Hart) (p : Fin 8) (w : LaneW) (m : Fin 8) (d : Fin 32) (a : Fin 32) (b : Fin 32)
  /-- `VAND` (R152). -/
  | vand (h : Hart) (p : Fin 8) (w : LaneW) (m : Fin 8) (d : Fin 32) (a : Fin 32) (b : Fin 32)
  /-- `VOR` (R152). -/
  | vor (h : Hart) (p : Fin 8) (w : LaneW) (m : Fin 8) (d : Fin 32) (a : Fin 32) (b : Fin 32)
  /-- `VXOR` (R152). -/
  | vxor (h : Hart) (p : Fin 8) (w : LaneW) (m : Fin 8) (d : Fin 32) (a : Fin 32) (b : Fin 32)
  /-- `VSHL` (R152). -/
  | vshl (h : Hart) (p : Fin 8) (w : LaneW) (m : Fin 8) (d : Fin 32) (a : Fin 32) (b : Fin 32)
  /-- `VSHR` (R152). -/
  | vshr (h : Hart) (p : Fin 8) (w : LaneW) (m : Fin 8) (d : Fin 32) (a : Fin 32) (b : Fin 32)
  /-- `VSAR` (R152). -/
  | vsar (h : Hart) (p : Fin 8) (w : LaneW) (m : Fin 8) (d : Fin 32) (a : Fin 32) (b : Fin 32)
  /-- `VCMPEQ` (R150). -/
  | vcmpeq (h : Hart) (p : Fin 8) (w : LaneW) (m : Fin 8) (d : Fin 8) (a : Fin 32) (b : Fin 32)
  /-- `VCMPLT` (R150). -/
  | vcmplt (h : Hart) (p : Fin 8) (w : LaneW) (m : Fin 8) (d : Fin 8) (a : Fin 32) (b : Fin 32)
  /-- `VCMPLTU` (R150). -/
  | vcmpltu (h : Hart) (p : Fin 8) (w : LaneW) (m : Fin 8) (d : Fin 8) (a : Fin 32) (b : Fin 32)
  /-- `VFADD` (R153). -/
  | vfadd (h : Hart) (p : Fin 8) (f : FpFmt) (m : Fin 8) (d : Fin 32) (a : Fin 32) (b : Fin 32)
  /-- `VFSUB` (R153). -/
  | vfsub (h : Hart) (p : Fin 8) (f : FpFmt) (m : Fin 8) (d : Fin 32) (a : Fin 32) (b : Fin 32)
  /-- `VFMUL` (R153). -/
  | vfmul (h : Hart) (p : Fin 8) (f : FpFmt) (m : Fin 8) (d : Fin 32) (a : Fin 32) (b : Fin 32)
  /-- `VFDIV` (R154). -/
  | vfdiv (h : Hart) (p : Fin 8) (f : FpFmt) (m : Fin 8) (d : Fin 32) (a : Fin 32) (b : Fin 32)
  /-- `VFSQRT` (R154). -/
  | vfsqrt (h : Hart) (p : Fin 8) (f : FpFmt) (m : Fin 8) (d : Fin 32) (a : Fin 32)
  /-- `VFMA` (R153). -/
  | vfma (h : Hart) (p : Fin 8) (f : FpFmt) (m : Fin 8) (d : Fin 32) (a : Fin 32) (b : Fin 32)
  /-- `VFNMA` (R153). -/
  | vfnma (h : Hart) (p : Fin 8) (f : FpFmt) (m : Fin 8) (d : Fin 32) (a : Fin 32) (b : Fin 32)
  /-- `VFMIN` (R153). -/
  | vfmin (h : Hart) (p : Fin 8) (f : FpFmt) (m : Fin 8) (d : Fin 32) (a : Fin 32) (b : Fin 32)
  /-- `VFMAX` (R153). -/
  | vfmax (h : Hart) (p : Fin 8) (f : FpFmt) (m : Fin 8) (d : Fin 32) (a : Fin 32) (b : Fin 32)
  /-- `VFABS` (R153). -/
  | vfabs (h : Hart) (p : Fin 8) (f : FpFmt) (m : Fin 8) (d : Fin 32) (a : Fin 32)
  /-- `VFNEG` (R153). -/
  | vfneg (h : Hart) (p : Fin 8) (f : FpFmt) (m : Fin 8) (d : Fin 32) (a : Fin 32)
  /-- `VFCMPEQ` (R153). -/
  | vfcmpeq (h : Hart) (p : Fin 8) (f : FpFmt) (m : Fin 8) (d : Fin 8) (a : Fin 32) (b : Fin 32)
  /-- `VFCMPLT` (R153). -/
  | vfcmplt (h : Hart) (p : Fin 8) (f : FpFmt) (m : Fin 8) (d : Fin 8) (a : Fin 32) (b : Fin 32)
  /-- `VFCMPLE` (R153). -/
  | vfcmple (h : Hart) (p : Fin 8) (f : FpFmt) (m : Fin 8) (d : Fin 8) (a : Fin 32) (b : Fin 32)
  /-- `VFCMPUN` (R153). -/
  | vfcmpun (h : Hart) (p : Fin 8) (f : FpFmt) (m : Fin 8) (d : Fin 8) (a : Fin 32) (b : Fin 32)
  /-- `VCVTS` (R155). -/
  | vcvts (h : Hart) (p : Fin 8) (f : Fin 16) (m : Fin 8) (d : Fin 32) (a : Fin 32)
  /-- `VCVTF` (R155). -/
  | vcvtf (h : Hart) (p : Fin 8) (f : Fin 16) (sr : Bool) (m : Fin 8) (d : Fin 32) (a : Fin 32)
  /-- `VCVTIS` (R155). -/
  | vcvtis (h : Hart) (p : Fin 8) (m : Fin 8) (d : Fin 32) (a : Fin 32)
  /-- `VCVTSI` (R155). -/
  | vcvtsi (h : Hart) (p : Fin 8) (m : Fin 8) (d : Fin 32) (a : Fin 32)
  /-- `VCVTLD` (R155). -/
  | vcvtld (h : Hart) (p : Fin 8) (m : Fin 8) (d : Fin 32) (a : Fin 32)
  /-- `VCVTDL` (R155). -/
  | vcvtdl (h : Hart) (p : Fin 8) (m : Fin 8) (d : Fin 32) (a : Fin 32)
  /-- `VUNPKT2` (R156). -/
  | vunpkt2 (h : Hart) (p : Fin 8) (m : Fin 8) (d : Fin 32) (a : Fin 32)
  /-- `VPACKT2` (R155). -/
  | vpackt2 (h : Hart) (p : Fin 8) (m : Fin 8) (d : Fin 32) (a : Fin 32)
  /-- `TCFG` (R164). -/
  | tcfg (h : Hart) (p : Fin 8) (a : Fin 32) (mask : BitVec 8)
  /-- `TLD` (R169). -/
  | tld (h : Hart) (p : Fin 8) (d : Fin 8) (a : Fin 32) (b : Fin 32)
  /-- `TST` (R169). `bad`: rows 16 × tile + row whose parity fails twice (R177). -/
  | tst (h : Hart) (p : Fin 8) (d : Fin 8) (a : Fin 32) (b : Fin 32) (bad : List Nat)
  /-- `TREL` (R166). -/
  | trel (h : Hart) (p : Fin 8) (mask : BitVec 8)
  /-- `MMA` (R188). `bad`: rows 16 × tile + row whose parity fails twice (R177). -/
  | mma (h : Hart) (p : Fin 8) (acc : Bool) (sp : Bool) (tm : Fin 8) (tb : Fin 8) (ta : Fin 8) (ad : Fin 4) (bad : List Nat)
  /-- `MMA_START` (R193). -/
  | mmaStart (core : CoreId)
  /-- `MMA_COMPLETE` (R200). -/
  | mmaComplete (core : CoreId)
  /-- `ACVT` (R206). -/
  | acvt (h : Hart) (p : Fin 8) (wide : Bool) (half : Bool) (row : Fin 16) (b : Fin 32) (dv : Bool) (aa : Fin 4) (d : Fin 32)
  /-- `ACVT_COMPLETE` (R210). -/
  | acvtComplete (h : Hart)
  /-- `AZERO` (R191). -/
  | azero (h : Hart) (p : Fin 8) (d : Fin 4)
  /-- `ALD` (R191). -/
  | ald (h : Hart) (p : Fin 8) (d : Fin 4) (a : Fin 32)
  /-- `AST` (R191). -/
  | ast (h : Hart) (p : Fin 8) (d : Fin 4) (a : Fin 32)
  /-- `STORE_BUFFER_RETIRE` (R147). -/
  | storeBufferRetire (core : CoreId)
  /-- `HANDLER_ENTRY` (R142). -/
  | handlerEntry (h : Hart)
  /-- `EVENT_TAKEN` (R132). -/
  | eventTaken (h : Hart)
  /-- `HOLD_EXPIRY` (R144). -/
  | holdExpiry (h : Hart)
  /-- `TIMER_EXPIRY` (R128). -/
  | timerExpiry (h : Hart)
  /-- `WAIT_COMPLETE` (R116). -/
  | waitComplete (h : Hart)
  /-- `EV_WAIT` (R131). -/
  | evWait (h : Hart) (p : Fin 8) (d : Fin 32)
  /-- `NOTICE_LO` (R291). -/
  | noticeLo (h : Hart) (p : Fin 8) (d : Fin 32)
  /-- `NOTICE_HI` (R291). -/
  | noticeHi (h : Hart) (p : Fin 8) (d : Fin 32)
  /-- `MON_NOTICE_LO` (R291). -/
  | monNoticeLo (h : Hart) (p : Fin 8) (d : Fin 32)
  /-- `MON_NOTICE_HI` (R291). -/
  | monNoticeHi (h : Hart) (p : Fin 8) (d : Fin 32)
  /-- `NOTICE_MARK` (R291). -/
  | noticeMark (h : Hart) (p : Fin 8)
  /-- `NOTICE_REWIND` (R291). -/
  | noticeRewind (h : Hart) (p : Fin 8)
  /-- `NOTICE_RELEASE` (R291). -/
  | noticeRelease (h : Hart) (p : Fin 8)
  /-- `TIMER_SET` (R115). -/
  | timerSet (h : Hart) (p : Fin 8) (d : Fin 32)
  /-- `SR_SEED` (R186). -/
  | srSeed (h : Hart) (p : Fin 8) (d : Fin 32)
  /-- `ERR_CAUSE_READ` (R138). -/
  | errCauseRead (h : Hart) (p : Fin 8) (d : Fin 32)
  /-- `CTR_TARGET` (R130). -/
  | ctrTarget (h : Hart) (p : Fin 8) (d : Fin 32)
  /-- `DAY_DONE` (R75). -/
  | dayDone (h : Hart) (p : Fin 8) (d : Fin 32)
  /-- `MOVER_SUBMIT` (R249). -/
  | moverSubmit (h : Hart) (p : Fin 8) (d : Fin 32)
  /-- `MOVER_DONE` (R250). -/
  | moverDone (h : Hart) (p : Fin 8) (d : Fin 32)
  /-- `STREAM_SUBMIT` (R251). -/
  | streamSubmit (h : Hart) (p : Fin 8) (d : Fin 32)
  /-- `STREAM_DONE` (R253). -/
  | streamDone (h : Hart) (p : Fin 8) (d : Fin 32)
  /-- `STREAM_CANCEL` (R273). -/
  | streamCancel (h : Hart) (p : Fin 8) (d : Fin 32)
  /-- `FLAG_SET` (R305). -/
  | flagSet (h : Hart) (p : Fin 8) (n : Fin 512)
  /-- `FLAG_CLEAR` (R305). -/
  | flagClear (h : Hart) (p : Fin 8) (n : Fin 512)
  /-- `CTR_ADD` (R305). -/
  | ctrAdd (h : Hart) (p : Fin 8) (d : Fin 32) (n : Fin 256)
  /-- `FLAG_COUNTER_READ` (R305). -/
  | flagCounterRead (h : Hart) (p : Fin 8) (d : Fin 32) (which : FlagOrCtr) (n : Fin 512)
  /-- `FLAG_WAIT` (R117). -/
  | flagWait (h : Hart) (p : Fin 8) (d : Fin 32) (n : Fin 512)
  /-- `CTR_WAIT` (R117). -/
  | ctrWait (h : Hart) (p : Fin 8) (d : Fin 32) (n : Fin 256)
  /-- `CELL_CREATE` (R38). -/
  | cellCreate (req : CreateReq)
  /-- `CELL_DELETE` (R39). -/
  | cellDelete (req : DeleteReq)
  /-- `CELL_STATUS` (R41). -/
  | cellStatus (h : Hart) (p : Fin 8) (d : Fin 32)
  /-- `ROUTE_LOAD` (R63). -/
  | routeLoad (req : LoadReq)
  /-- `ROUTE_LOAD_DONE` (R66). -/
  | routeLoadDone (q : RouteRead)
  /-- `REGION_RESUME` (R79). -/
  | regionResume (h : Hart) (p : Fin 8) (d : Fin 32)
  /-- `HOST_NOTIFICATION` (R338). -/
  | hostNotification (h : Hart) (p : Fin 8) (d : Fin 32)
  /-- `LAUNCH_COMPLETION` (R338). -/
  | launchCompletion (h : Hart) (p : Fin 8) (d : Fin 32)
  /-- `REGISTER_WRITE` (R9). -/
  | registerWrite (target : RegTarget)
  /-- `DAYBREAK` (R52). -/
  | daybreak
  /-- `DAWN_CONTROL_WORDS` (R52). -/
  | dawnControlWords
  /-- `VARIANT_LATCH` (R219). -/
  | variantLatch
  /-- `SHADOW_ACCUMULATOR_RESOLVE` (R234). -/
  | shadowAccumulatorResolve (h : Hart) (n : Fin 4)
  /-- `DEFERRED_FAULT_ENTRY` (R231). -/
  | deferredFaultEntry (h : Hart)
  /-- `DAWN_FLAG_CLEAR` (R52). -/
  | dawnFlagClear (die : DieId)
  /-- `LAUNCH_START` (R335). -/
  | launchStart
  /-- `DAWN_EVENT` (R52). -/
  | dawnEvent
  /-- `NOON_START` (R56). -/
  | noonStart
  /-- `DUSK_START` (R57). -/
  | duskStart
  /-- `DAY_OVERRUN` (R75). -/
  | dayOverrun (core : CoreId)
  /-- `FLIT_AT_ROUTER` (R60). -/
  | flitAtRouter (core : CoreId) (inPort : Fin 5) (cycle : BitVec 24) (ecc : FlitEcc)
  /-- `MESSAGE_LANDING` (R285). -/
  | messageLanding (core : CoreId)
  /-- `LANDING_FLIT` (R286). -/
  | landingFlit (core : CoreId)
  /-- `LANDING_COMPLETE` (R286). -/
  | landingComplete (core : CoreId)
  /-- `TAIL_WRITE_RELEASE` (R298). -/
  | tailWriteRelease (core : CoreId) (n : Fin 8)
  /-- `TAIL_HOLD_EXPIRY` (R299). -/
  | tailHoldExpiry (core : CoreId) (n : Fin 8)
  /-- `FLAG_BANK_UPDATE` (R306). -/
  | flagBankUpdate (die : DieId) (picks : List Nat)
  /-- `QUEUE_POINTER_MISMATCH` (R295). -/
  | queuePointerMismatch (q : HwQueue)
  /-- `MOVER_TRANSFER_START` (R247). -/
  | moverTransferStart (core : CoreId)
  /-- `MOVER_COMPLETION` (R250). -/
  | moverCompletion (core : CoreId)
  /-- `STREAM_DESCRIPTOR_START` (R256). -/
  | streamDescriptorStart (q : EngineRead)
  /-- `DEPENDENCE_MARKER_RELEASE` (R266). -/
  | dependenceMarkerRelease (e : EngineId)
  /-- `BURST_ISSUE` (R264). -/
  | burstIssue (e : EngineId)
  /-- `BURST_COMPLETE` (R264): the sectors, by address / 64, that the code corrected and those it could not (R241). -/
  | burstComplete (e : EngineId) (n : Nat) (corrected : List Nat) (bad : List Nat)
  /-- `DECRYPT_BLOCK_CHECK` (R263). -/
  | decryptBlockCheck (q : EngineRead)
  /-- `SHORE_SLOT` (R71). -/
  | shoreSlot (port : ShoreId) (dir : SlotDir) (cycle : BitVec 24)
  /-- `STREAM_COMPLETE` (R274). -/
  | streamComplete (e : EngineId)
  /-- `STREAM_ARRIVAL_SIGNAL` (R275). -/
  | streamArrivalSignal (e : EngineId)
  /-- `HBM_PATROL` (R242). -/
  | hbmPatrol (stack : Fin 8) (sector : BitVec 30) (ecc : EccOutcome)
  /-- `LOCAL_SCRUB` (R413). -/
  | localScrub (store : WordStore) (entry : Nat) (word : Fin 8) (ecc : EccOutcome)
  /-- `TABLE_UNCORRECTABLE` (R412). -/
  | tableUncorrectable (t : TableWord)
  /-- `SPILL_CACHE_MISS_FILL` (R277). -/
  | spillCacheMissFill (link : LinkId) (region : RegionId) (line : BitVec 36) (data : List (BitVec 64))
  /-- `SPILL_WAY_DISABLE` (R278). -/
  | spillWayDisable (link : LinkId) (way : Fin 16) (unreadable : List (BitVec 36))
  /-- `TAIL_POLL` (R321). -/
  | tailPoll (fn : FnId) (tails : List (BitVec 17)) (heads : List (BitVec 17))
  /-- `DESCRIPTOR_FETCH` (R323). -/
  | descriptorFetch (fn : FnId) (ring : Fin 16) (descs : List (List (BitVec 64)))
  /-- `NOP_DESCRIPTOR` (R325). -/
  | nopDescriptor (fn : FnId) (ring : Fin 16)
  /-- `LAUNCH` (R335). -/
  | launch (fn : FnId) (ring : Fin 16)
  /-- `NOTIFY` (R339). -/
  | notify (fn : FnId) (ring : Fin 16)
  /-- `PORT_OPEN` (R341). -/
  | portOpen (fn : FnId) (ring : Fin 16)
  /-- `PORT_CLOSE` (R341). -/
  | portClose (fn : FnId) (ring : Fin 16)
  /-- `QUERY` (R328). -/
  | query (fn : FnId) (ring : Fin 16)
  /-- `COMPLETION_ENTRY_WRITE` (R331). -/
  | completionEntryWrite (fn : FnId) (cq : Fin 16)
  /-- `INTERRUPT_MESSAGE` (R332). -/
  | interruptMessage (fn : FnId) (cq : Fin 16)
  /-- `PUSH_WRITE` (R342). -/
  | pushWrite (fn : FnId) (offset : BitVec 22) (data : List (BitVec 8)) (allEnabled : Bool) (read : PushRead)
  /-- `PORT_BURST_DONE` (R343). -/
  | portBurstDone (fn : FnId) (port : Fin 64) (n : Fin 8) (data : List (BitVec 8)) (read : BurstRead)
  /-- `PORT_CLOSED` (R341). -/
  | portClosed (fn : FnId) (port : Fin 64)
  /-- `NOTIFY_WRITE` (R321). -/
  | notifyWrite (fn : FnId) (v : BitVec 32)
  /-- `SETUP_LOCK` (R10). -/
  | setupLock (fn : FnId) (v : BitVec 32)
  /-- `RING_ENABLE` (R455). -/
  | ringEnable (fn : FnId) (ring : RingName) (v : BitVec 32)
  /-- `FUNCTION_LEVEL_RESET` (R317). -/
  | functionLevelReset (fn : FnId)
  /-- `PERST` (R432). -/
  | perst (link : LinkId)
  /-- `TRANSLATION_COMPLETION` (R349). -/
  | translationCompletion (fn : FnId) (page : BitVec 52) (ans : AtsAnswer)
  /-- `PAGE_REQUEST_RESPONSE` (R349). -/
  | pageRequestResponse (fn : FnId) (page : BitVec 52) (ans : PriAnswer)
  /-- `ATS_INVALIDATION` (R350). -/
  | atsInvalidation (fn : FnId) (page : BitVec 52) (count : Nat)
  /-- `COMPLETION_TIMEOUT` (R351). -/
  | completionTimeout (t : HostAccess)
  /-- `LASER_INPUT_LOSS` (R354). -/
  | laserInputLoss (port : PortId)
  /-- `HANDSHAKE` (R355). -/
  | handshake (port : PortId) (body : List (BitVec 64)) (arrival : Nat)
  /-- `LINK_DOWN` (R357). -/
  | linkDown (port : PortId) (why : DownCause)
  /-- `RETRAIN_TIMEOUT` (R357). -/
  | retrainTimeout (port : PortId)
  /-- `LINK_FLIT_SEND` (R363). -/
  | linkFlitSend (port : PortId) (cycle : BitVec 24)
  /-- `LINK_FLIT_RECEIVED` (R364). -/
  | linkFlitReceived (port : PortId) (ctrl : BitVec 64) (body : List (BitVec 64))
  /-- `CONTROL_FLIT` (R360). -/
  | controlFlit (port : PortId) (body : List (BitVec 64)) (arrival : Nat)
  /-- `CONTROL_FLIT_DUE` (R361). -/
  | controlFlitDue (port : PortId)
  /-- `NAK_RESEND` (R364). -/
  | nakResend (port : PortId)
  /-- `DAYBREAK_MARKER` (R371). -/
  | daybreakMarker (port : PortId) (day : BitVec 48) (ofs : BitVec 24) (arrival : Nat)
  /-- `DAYBREAK_IN_EDGE` (R477). -/
  | daybreakInEdge (arrival : Nat)
  /-- `LINK_WINDOW_OPEN` (R366). -/
  | linkWindowOpen (port : PortId) (n : Fin 256)
  /-- `LINK_WINDOW_LOAD` (R367). -/
  | linkWindowLoad (port : PortId) (piece : WindowPiece)
  /-- `CREATE_REGION` (R384). -/
  | createRegion (req : RegionReq)
  /-- `DELETE_REGION` (R387). -/
  | deleteRegion (r : RegionId)
  /-- `SWITCH_CONTEXT` (R388). -/
  | switchContext (r : RegionId) (image : BitVec 40)
  /-- `BOOT_IMAGE_LOAD` (R393). -/
  | bootImageLoad (q : BootRead)
  /-- `BULK_WINDOW_ZERO_FILL` (R387). -/
  | bulkWindowZeroFill (base : BitVec 11) (size : BitVec 11)
  /-- `CORE_ZEROING_COMPLETE` (R387). -/
  | coreZeroingComplete (r : RegionId)
  /-- `TAKE_OWNERSHIP` (R406). -/
  | takeOwnership (certs : List (BitVec 384))
  /-- `RELEASE_OWNERSHIP` (R406). -/
  | releaseOwnership
  /-- `FIRMWARE_UPDATE` (R443). -/
  | firmwareUpdate (img : FwImage)
  /-- `FIRMWARE_ROLLBACK` (R443). -/
  | firmwareRollback (slot : Fin 2)
  /-- `CLEAR_KEYS` (R402). -/
  | clearKeys (r : Option RegionId)
  /-- `CLEAR_SPARE_MAP` (R406). -/
  | clearSpareMap
  /-- `REINSTATE` (R423). -/
  | reinstate (who : FailedCore) (passed : Bool)
  /-- `DEBUG_OPEN` (R404). -/
  | debugOpen (r : RegionId)
  /-- `DEBUG_CLOSE` (R404). -/
  | debugClose
  /-- `DEBUG_COMMAND` (R403). -/
  | debugCommand (q : DebugRequest)
  /-- `BREAKPOINT_MATCH` (R128). -/
  | breakpointMatch (h : Hart)
  /-- `JTAG_DEBUG_SESSION` (R404). -/
  | jtagDebugSession
  /-- `ENTER_DAYLIGHT` (R446). -/
  | enterDaylight
  /-- `ENTER_TWILIGHT` (R447). -/
  | enterTwilight
  /-- `NIGHT_COMMAND` (R448). -/
  | nightCommand (t : NightTarget) (kind : NightKind)
  /-- `WAKE_REGION` (R450). -/
  | wakeRegion (r : RegionId)
  /-- `SELF_TEST_COMPLETE` (R425). -/
  | selfTestComplete (core : CoreId) (passed : Bool)
  /-- `DEVICE_RESET` (R432). -/
  | deviceReset (roms : RomReport)
  /-- `CORE_RESTART` (R432). -/
  | coreRestart (core : CoreId)
  /-- `MANAGEMENT_QUERY` (R457). -/
  | managementQuery (who : Requester) (addr : BitVec 32) (len : Nat)
  /-- `SET` (R457). -/
  | mgmtSet (who : Requester) (addr : BitVec 32) (v : BitVec 64)
  /-- `SPILL_WAYS_POWER` (R461). -/
  | spillWaysPower (link : LinkId) (v : BitVec 64)
  /-- `TLS_HANDSHAKE` (R407). -/
  | tlsHandshake (peer : TlsPeer)
  /-- `GET_VERSION` (R392). -/
  | getVersion (tr : SpdmTransport)
  /-- `GET_CAPABILITIES` (R392). -/
  | getCapabilities (tr : SpdmTransport)
  /-- `NEGOTIATE_ALGORITHMS` (R392). -/
  | negotiateAlgorithms (tr : SpdmTransport) (algs : SpdmAlgs)
  /-- `GET_DIGESTS` (R392). -/
  | getDigests (tr : SpdmTransport)
  /-- `GET_CERTIFICATE` (R392). -/
  | getCertificate (tr : SpdmTransport) (slot : Fin 8)
  /-- `CHALLENGE` (R392). -/
  | challenge (tr : SpdmTransport) (nonce : BitVec 256)
  /-- `GET_MEASUREMENTS` (R395). -/
  | getMeasurements (sess : Option (Fin 16)) (index : BitVec 8) (nonce : BitVec 256)
  /-- `KEY_EXCHANGE` (R392). -/
  | keyExchange (tr : SpdmTransport) (share : BitVec 768)
  /-- `FINISH` (R392). -/
  | finish (sess : Fin 16) (macOk : Bool)
  /-- `HEARTBEAT` (R392). -/
  | heartbeat (sess : Fin 16)
  /-- `BIND_REGION` (R395). -/
  | bindRegion (sess : Fin 16) (r : RegionId)
  /-- `INSTALL_KEY` (R401). -/
  | installKey (sess : Fin 16) (req : KeyReq)
  /-- `PRESENCE_N_FALL` (R408). -/
  | presenceNFall
  /-- `PRESENCE_WINDOW_CLOSE` (R408). -/
  | presenceWindowClose
  /-- `CORE_FAILURE_DECLARATION` (R416). -/
  | coreFailureDeclaration (row : Fin 640) (col : Fin 17) (trigger : FailTrigger)
  /-- `MIGRATION` (R420). -/
  | migration (row : Fin 640) (readable : Bool) (badWords : List Nat)
  /-- `HOP_FAULT` (R422). -/
  | hopFault (a : CoreId) (b : CoreId)
  /-- `FLASH_STORE` (R430). -/
  | flashStore (item : FlashItem) (ok : Bool)
  /-- `POWER_ON` (R432). -/
  | powerOn
  /-- `POWER_LOSS` (R485). -/
  | powerLoss
  /-- `RESET_N_ASSERT` (R432). -/
  | resetNAssert
  /-- `RESET_N_DEASSERT` (R436). -/
  | resetNDeassert (roms : RomReport)
  /-- `HBM_TRAINING_DONE` (R439). -/
  | hbmTrainingDone
  /-- `BIST_DONE` (R438). -/
  | bistDone (failed : List (Fin 640 × Fin 17))
  /-- `FIRST_DAYBREAK` (R436). -/
  | firstDaybreak
  /-- `RECOVERY_IMAGE` (R444). -/
  | recoveryImage (img : FwImage)
  /-- `CLOCK_LOSS` (R435). -/
  | clockLoss (clk : RefClock)
  /-- `THERMAL_TRIP` (R432). -/
  | thermalTrip
  /-- `THERMAL_ALERT` (R478): what the sensors read, in 0.1 °C, in the order of R468. -/
  | thermalAlert (temps : List (BitVec 16))
  /-- `ARMAIK_WATCHDOG` (R432). -/
  | armaikWatchdog (standbyHealthy : Bool) (roms : RomReport)
  /-- `BOOT_WATCHDOG` (R442). -/
  | bootWatchdog (roms : RomReport)
  /-- `TELEMETRY_SAMPLE` (R468). -/
  | telemetrySample (t : Telemetry)
  /-- `LASER_INPUT_RESTORED` (R354). -/
  | laserInputRestored (port : PortId)
  /-- `FEC_LOCK_GAINED` (R355). -/
  | fecLockGained (port : PortId)
  /-- `REFERENCE_CLOCK_RETURN` (R435). -/
  | referenceClockReturn (clk : RefClock) (roms : RomReport)
  /-- `PERST_N_DEASSERT` (R437). -/
  | perstNDeassert (link : LinkId)
  /-- `END_SESSION` (R401). -/
  | endSession (sess : Fin 16)
  /-- `MANAGEMENT_CONNECTION_END` (R404). -/
  | managementConnectionEnd
  deriving DecidableEq, Repr

end Sys2Proof
end

