-- ==== Sys2Proof/Decode.lean ====
section
/-!
DEFINITION. The command that a table word spells. No row of spec/opcode_table.json gives bits, so no
word spells one; the instruction words of the core are decoded in Machine/Encoding.lean.
-/
namespace Sys2Proof

/-- The command of a table word: none, because the table gives no row bits. -/
def decodeTableWord (_nbits _w : Nat) : Option Instr := none

end Sys2Proof
end

