-- ==== Sys2Proof/Machine/State.lean ====
section
/-!
DEFINITION. The state of the KS-40 as plain data, the reasons a step can stop, and the state after
reset (Midnight, R14, R433). Large arrays (cores, cells, route entries, memories) are sparse tables
whose absent keys read as the reset value their rule gives.
-/
namespace Sys2Proof.Machine
open Sys2Proof

/-- A sparse array: keys strictly rising; a key that is not listed reads as the array's default. -/
abbrev Tab (α : Type) := List (Nat × α)
/-- A byte memory in canonical form: addresses strictly rising, no listed byte 0 (`Mem.wf`). -/
abbrev Mem := List Host.Cell

/-! ### Cores and their threads (R88, R115, R119) -/

/-- What a thread that has left the rotation waits for (R126). -/
inductive Wait
  /-- `IN` or `INR` of a waiting port into a general register; the instruction is `len` bytes (R116). -/
  | portRead (port : BitVec 16) (d : Fin 32) (len : Nat)
  /-- `OUT` or `OUTR` to a waiting port (R116). -/
  | portWrite (port : BitVec 16) (v : Word) (len : Nat)
  /-- `FENCE` (R106). -/
  | fence (scope : Fin 8)
  /-- `SEND` of the message `mid` from queue `q` (R70). -/
  | send (q : Fin 16) (mid : Nat)
  /-- A speculative instruction that would make a refused write, or that meets Dusk (R226, R228). -/
  | resolution
  /-- The thread's own `MMA` under R200. -/
  | mma
  /-- The thread's own `ACVT` (R210). -/
  | acvt
  deriving DecidableEq, Repr

/-- Whether a thread can issue (R122, R126, R142, R146). -/
inductive Run
  /-- The core has not been released (R122), or its registers are lost in Night (R449). -/
  | unreleased
  /-- Held until its region's committed load swaps in (R78, R122). -/
  | held
  | ready
  | waiting (w : Wait)
  /-- Between the decision to enter a handler and its entry (R142): the vector and the restart address. -/
  | entering (vec : BitVec 7) (restart : BitVec 17)
  /-- Halted by a failed entry (R146). -/
  | halted
  deriving DecidableEq, Repr

/-- An open hold (R144): the cycle at which its count reaches zero, and its two marks. -/
structure Hold where
  deadline : Nat
  entry : Bool
  one : Bool
  deriving DecidableEq, Repr

/-- A fault kept for the commit of its group (R230, R231). -/
structure DeferredFault where
  cause : BitVec 8
  pc : BitVec 17
  info : Word
  lost : Bool
  deriving DecidableEq, Repr

/-- One row of a tile register (R165): its 64 bytes, valid bit, poison mark and speculative state. -/
structure TileRow where
  data : BitVec 512
  valid : Bool
  poison : Bool
  spec : Bool
  deriving DecidableEq, Repr

/-- The deferred record of a thread (R230). -/
structure Deferred where
  fault : Option DeferredFault
  flags : BitVec 5
  sr : Option Word
  /-- Rows, as they stood, whose parity failed while a speculative instruction read them (R177, R229). -/
  parity : List (Nat × TileRow)
  /-- Addresses of speculative instructions that dropped poison, to be logged at the commit (R160, R229; log 187). -/
  dropped : List (BitVec 17)
  deriving DecidableEq, Repr

/-- A 64-byte register with a poison mark: a vector register (R159) or an accumulator row (R191). -/
structure Marked where
  data : BitVec 512
  poison : Bool
  deriving DecidableEq, Repr

/-- The result of an `ACVT` between issue and completion (R206, R208, R210). -/
structure AcvtJob where
  /-- `none`: the result is written; otherwise the fault taken at completion and its info. -/
  fault : Option (BitVec 8 × Word)
  flags : BitVec 5
  sr : Word
  /-- Speculative at issue (R224). -/
  spec : Bool
  /-- Tile rows (tile, row, data, mark) to write. -/
  rows : List (Fin 8 × Fin 16 × BitVec 512 × Bool)
  /-- Vector register to write. -/
  vec : Option (Fin 32 × BitVec 512 × Bool)
  deriving DecidableEq, Repr

/-- The state one thread owns (R88, R115, R123). -/
structure Thread where
  /-- Number of the start that made the unwritten registers undefined; 0 is the device reset. A
  field of the model (free values), not of the spec. -/
  epoch : Nat
  g : Tab Word
  p : Tab Bool
  v : Tab Marked
  m : Tab Word
  /-- Tile descriptors (R161). -/
  desc : Tab Word
  /-- Row r of tile t at key 16t + r (R165). -/
  rows : Tab TileRow
  /-- Row r of accumulator a at key 16a + r (R189, R191). -/
  acc : Tab Marked
  pc : BitVec 17
  mode : Bool
  run : Run
  hold : Option Hold
  evEnable : BitVec 16
  evPending : BitVec 8
  /-- Cycle at which the armed timer expires. -/
  timer : Option Nat
  /-- D+n of the last expiry, returned by `TIMER_WAIT`. -/
  expired : Option (BitVec 24)
  fpCtrl : BitVec 8
  fpFlags : BitVec 5
  sr : Word
  t2Policy : Bool
  /-- A wait on a flag or counter port that an update has satisfied: the port and the value (R306). -/
  met : Option (BitVec 16 × Word)
  errCause : BitVec 10
  errPc : BitVec 17
  errInfo : Word
  ctrTarget : Word
  retPc : BitVec 17
  taskTrap : Word
  /-- Unread mover completion records, oldest first (R250). -/
  moverDone : List Word
  /-- Unread stream completion records, oldest first (R253). -/
  streamDone : List Word
  /-- Engine of the command stream the thread last opened (R251). -/
  lastStream : Option (EngineId × Nat)
  /-- Speculative copies of predicate and vector registers (R225). -/
  pSpec : Tab Bool
  vSpec : Tab Marked
  /-- Shadow accumulators, keyed as `acc` (R225). -/
  accSpec : Tab Marked
  deferred : Option Deferred
  /-- A committed group's fault waiting to be taken (R231). -/
  deferredFault : Option DeferredFault
  acvt : Option AcvtJob
  /-- Halted by the operator through the debug unit (R403). -/
  debugHalt : Bool
  breakpoints : List (BitVec 16)
  watchpoints : List (BitVec 20)
  deriving DecidableEq, Repr

/-- One store waiting in the store buffer (R147): 1 to 8 bytes inside a word, or the 64 bytes of a `VST`. -/
structure StoreEntry where
  thread : Fin 4
  addr : Nat
  bytes : List Byte
  poison : Bool
  /-- The store is speculative and keeps its word's mark (R225). -/
  spec : Bool
  deriving DecidableEq, Repr

/-- Where a queued notice stands (R290, R292). -/
inductive NoticePlace
  | bank (b : Bool)
  | cell (id : Nat)
  | overflow (slot : Fin 1024)
  deriving DecidableEq, Repr

/-- A queued notice (R288). -/
structure Notice where
  lo : Word
  hi : Word
  place : NoticePlace
  deriving DecidableEq, Repr

/-- One notice queue (R289–R292). `items` are the notices not yet released, oldest first; `rd` and
`mark` count from the first of them. -/
structure NoticeQ where
  items : List Notice
  rd : Nat
  mark : Nat
  /-- Bytes 8–15 returned by `NOTICE_HI`, and whether the next such read advances. -/
  hi : Option (Word × Bool)
  /-- Position of the notice `hi` belongs to, and whether it still stands in the queue. -/
  hiPos : Nat
  spill : Bool
  fillBank : Bool
  filled : Nat
  cellId : Nat
  cellFill : Nat
  deriving DecidableEq, Repr

/-- A 64-bit word on its way through the mesh with its poison mark. -/
structure PWord where
  data : Word
  poison : Bool
  deriving DecidableEq, Repr

/-- The source word of a message (R282): bits [29:0] as R359; port-engine traffic is marked by its
core ID 0x3FFF (R344). -/
abbrev SourceWord := BitVec 30

/-- One flit (R282): its message's header, source word, place in the message and payload words. `mid`
names the message inside the model (DESIGN CHOICE, log 6). -/
structure Flit where
  mid : Nat
  header : BitVec 128
  source : SourceWord
  index : Nat
  last : Bool
  words : List PWord
  /-- Group of a speculative stream (R221). -/
  group : Option (BitVec 8)
  /-- Region of the sender, for the link domain (R380) and window owner (R366). -/
  region : Option RegionId
  /-- Engine whose outbound window the flit belongs to (R271). -/
  outbound : Option EngineId
  /-- Positions it has still to reach, once a router has resolved the header in Twilight (R36, R81). -/
  dest : Option (List CoreId)
  deriving DecidableEq, Repr

/-- A flit still to be built from local memory when it enters its queue (R248, R283). -/
structure FlitPlan where
  mid : Nat
  header : BitVec 128
  source : SourceWord
  index : Nat
  last : Bool
  /-- Local addresses of the payload words. -/
  addrs : List Nat
  /-- Thread whose own buffered stores are seen (R283), for `SEND`. -/
  thread : Option (Fin 4)
  region : Option RegionId
  outbound : Option EngineId
  deriving DecidableEq, Repr

/-- An injection queue (R69): the flits that stand in it and those that will enter it, in order. -/
structure InjQ where
  flits : List Flit
  plans : List FlitPlan
  deriving DecidableEq, Repr

/-- A transfer submitted to the core mover (R249). -/
structure MoverJob where
  thread : Fin 4
  list : Nat
  /-- Stream engine for which the mover carries a write stream (R271). -/
  stream : Option EngineId
  deriving DecidableEq, Repr

/-- A message that is landing (R286). -/
structure LandMsg where
  mid : Nat
  header : BitVec 128
  source : SourceWord
  /-- Flits of it that have landed; whether the last has. -/
  landed : Nat
  complete : Bool
  /-- Queue that receives the notice (R286, R289). -/
  queue : Option (Fin 5)
  poison : Bool
  /-- The write is poisoned because its hold expired (R299). -/
  expired : Bool
  /-- A held tail write: its flits are kept until it is released (R298). -/
  held : Bool
  kept : List Flit
  heldDays : Nat
  deriving DecidableEq, Repr

/-- An `MMA` on the matrix unit (R193): what it will write when it completes. -/
structure MmaJob where
  thread : Fin 4
  /-- Tiles it reads, accumulators it writes and their type (0 FP32, 1 INT32, 2 FP64) (R194). -/
  tiles : List (Fin 8)
  accs : List Nat
  ty : Nat
  /-- The thread waits for it, and a fault that it meets is taken at its completion (R200). -/
  blocks : Bool
  fault : Option (BitVec 8 × Word)
  flags : BitVec 5
  spec : Bool
  /-- Accumulator rows at keys 16a + r: the new low bytes, how many they are, and the mark. -/
  rows : List (Nat × BitVec 512 × Nat × Bool)
  /-- Marks are ORed into the old ones (`ACC` = 1, R202). -/
  orMarks : Bool
  /-- Cycles it occupies the unit (R192). -/
  cycles : Nat
  deriving DecidableEq, Repr

/-- The boot block of a core (R120). -/
structure BootBlock where
  t0 : Word
  t1 : Word
  t2 : Word
  t3 : Word
  core : Word
  deriving DecidableEq, Repr

/-- One logical core with its landing unit, mover and queues. -/
structure Core where
  boot : BootBlock
  released : Bool
  night : Option NightKind
  /-- Rotation pointer (R124). -/
  rot : Fin 4
  /-- Threads that let the slot of the current cycle pass: an operand or a unit is not yet free (R124). -/
  passed : List (Fin 4)
  /-- By thread, the `TLD` or `TST` it has moved rows of, and the next row (R169). -/
  rowsAt : Tab (Instr × Nat)
  threads : Tab Thread
  mem : Mem
  /-- Word indices (address / 8) marked poisoned (R236) and speculative (R221), rising. -/
  poison : List Nat
  specMark : List Nat
  code : Mem
  codePoison : List Nat
  stores : List StoreEntry
  trapBase : BitVec 20
  notices : Tab NoticeQ
  inj : Tab InjQ
  moverQ : List MoverJob
  /-- Transfers submitted whose completion record has not been read (R249), by thread. -/
  outstanding : List (Fin 4)
  /-- The mover's transfer in progress: submitting thread, queue, message id of its last write,
  completion record, and the stream it serves. -/
  moving : Option (Fin 4 × Fin 16 × Nat × Word × Option EngineId)
  /-- Flits copied to port 0 that the landing unit has not yet taken. -/
  inbox : List Flit
  landing : List LandMsg
  holdCtr : Tab (BitVec 12)
  portHold : Tab (BitVec 12)
  group : Option (BitVec 8)
  /-- Shadow accumulators still to resolve at this Dawn, keys 4 × thread + accumulator, and the
  decision (true commits) (R234). -/
  resolving : List (Nat × Bool)
  dayDone : Bool
  overrun : Bool
  budget : BitVec 24
  budgetNext : BitVec 24
  mmaRun : Option MmaJob
  mmaWait : Option MmaJob
  /-- Self-test of a waking or reinstated core (R425): none, running, passed. -/
  selfTest : Option Bool
  /-- Behind the isolation gate (R417); first stray of the Day already logged. -/
  isolated : Bool
  strayLogged : Bool
  deriving DecidableEq, Repr

/-- One router (R59–R61, R73, R80). -/
structure Router where
  bank0 : Tab (BitVec 128)
  bank1 : Tab (BitVec 128)
  active : Bool
  /-- Flits present or under way to inputs 1–4, and in the buffer of input 0 in Twilight (R80), oldest first. -/
  inputs : Tab (List Flit)
  /-- Entries invalid for the rest of the Day and ports masked by an uncorrectable word (R412). -/
  badEntries : List Nat
  badPorts : BitVec 5
  /-- Ports whose mask bit reads wrong after each derivation (R390). -/
  stuckPorts : BitVec 5
  deriving DecidableEq, Repr

/-! ### Regions and cells (R28, R383) -/

/-- A key slot (R396). -/
structure KeySlot where
  key : BitVec 256
  imageId : BitVec 64
  imageBase : BitVec 40
  imageLen : BitVec 40
  tagBase : BitVec 40
  ivSalt : BitVec 32
  deriving DecidableEq, Repr

/-- A launch slot (R335). -/
structure Launch where
  fn : FnId
  ring : Fin 16
  cid : BitVec 16
  cell : BitVec 11
  laddr : BitVec 20
  args : List Word
  started : Bool
  /-- Started before a Function Level Reset: its completion is discarded (R317). -/
  orphan : Bool
  noCqe : Bool
  /-- Its completion entry waits to be written; the slot is held until then (R331). -/
  ended : Bool
  /-- Its number among the descriptors its function has read. -/
  seq : Nat
  /-- `FENCE`: it starts only when every earlier descriptor of its ring has completed (R323). -/
  fence : Bool
  deriving DecidableEq, Repr

/-- A pending `NOTIFY` descriptor (R339). -/
structure PendNotify where
  fn : FnId
  ring : Fin 16
  cid : BitVec 16
  laddr : BitVec 20
  args : List Word
  noCqe : Bool
  seq : Nat
  deriving DecidableEq, Repr

/-- A route load (R63–R67). -/
structure RouteLoad where
  addr : BitVec 40
  /-- Day number in which it counts as started (R68). -/
  day : Nat
  /-- Whether it still runs; and, once it ended, whether it committed. -/
  running : Bool
  committed : Bool
  deriving DecidableEq, Repr

/-- What a region waits for at a coming Daybreak. -/
inductive RegionChange
  | create | delete
  | switch (image : BitVec 40)
  | night (kind : NightKind) (wakeOnLaunch : Bool)
  deriving DecidableEq, Repr

/-- A region (R383–R395, R462). -/
structure Region where
  valid : Bool
  /-- Changes awaiting their Daybreaks, with the numbers of those Daybreaks, in the order accepted. -/
  pending : List (Nat × RegionChange)
  cell : BitVec 11
  entry : BitVec 128
  quota : BitVec 11
  /-- Accepted quotas, each with the number of its Daybreak (R458); `vfNext` likewise. -/
  quotaNext : List (Nat × BitVec 11)
  cellQuota : BitVec 11
  engines : BitVec 256
  staging : List (BitVec 7)
  bulk : List (BitVec 11 × BitVec 11)
  domain : BitVec 16
  vf : BitVec 9
  vfNext : List (Nat × BitVec 9)
  /-- The VF that serves the region's far accesses (R456, R464). -/
  farVf : BitVec 9
  bootImage : BitVec 40
  gen : BitVec 8
  /-- Daybreak number from which the number is free again (R303), and zeroing pending (R387). -/
  freeFrom : Nat
  zeroing : Bool
  stopped : Bool
  stopCause : BitVec 8
  monError : BitVec 8
  /-- Stopped and not yet past D+32: E5 is due (R78). -/
  stopE5 : Bool
  night : Option NightKind
  wakeOnLaunch : Bool
  waking : Bool
  /-- Daybreak number at which the woken cores rejoin (R450), and at which a lost core stops it (R419). -/
  wakeAt : Option Nat
  failStop : Option Nat
  loaded : Bool
  loadFailed : Bool
  /-- A boot image load is due (R385, R388). -/
  bootDue : Bool
  measurement : BitVec 384
  debugCount : BitVec 32
  borderOk : Bool
  keys : Tab KeySlot
  variantNext : BitVec 4
  confirm : BitVec 256
  sampledVariant : BitVec 4
  sampledMask : BitVec 256
  variant : BitVec 4
  load : Option RouteLoad
  /-- A load started during Dusk, whose first step falls at the next Daybreak (R68): its image. -/
  loadNext : Option (BitVec 40)
  /-- Its route load was still running at Daybreak: it stops at the next one (R67, R77). -/
  late : Bool
  routeStatus : BitVec 8
  resumeReq : Bool
  cellReqLo : Word
  cellReqHi : Word
  cellStatus : Word
  cellReadSel : BitVec 11
  launches : Tab Launch
  notifies : List PendNotify
  /-- A launch has started since the context began (R311). -/
  launched : Bool
  /-- Number of the Daybreak of the last notices of launches and `NOTIFY`s, and how many it posted (R339). -/
  posted : Nat × Nat
  /-- Removed positions keep it stopped until the operator re-places it (R421, R422). -/
  lostPosition : Bool
  /-- Number of the first Daybreak at which it may resume after its monitor's core has moved (R421). -/
  resumeFrom : Nat
  deriving DecidableEq, Repr

/-- A pending change of the cell table (R41). -/
structure CellChange where
  day : Nat
  index : BitVec 11
  /-- `some e`: creation of entry e; `none`: deletion. -/
  entry : Option (BitVec 128)
  deriving DecidableEq, Repr

/-! ### Flags and counters (R305) -/

/-- Where an update comes from: its order to one bank is kept (R305). -/
inductive UpdSource
  | thread (h : Hart)
  | landing (core : CoreId)
  | engine (e : EngineId)
  deriving DecidableEq, Repr

/-- What an update does to its bank (R305); `arm` is the arming write of an E1 watch (R130). -/
inductive UpdKind
  | set (n : Nat)
  | clear (n : Nat)
  | add (n : Nat) (v : BitVec 32)
  | arm (h : Hart)
  deriving DecidableEq, Repr

/-- An update on its way to a bank. -/
structure FlagUpd where
  src : UpdSource
  die : DieId
  kind : UpdKind
  deriving DecidableEq, Repr

/-- A flag bank (R305). -/
structure FlagBank where
  flags : BitVec 512
  ctrs : Tab (BitVec 32)
  deriving DecidableEq, Repr

/-! ### Stream engines, staging and the spill caches (R251–R280) -/

/-- A submitted stream descriptor (R251). -/
structure StreamCmd where
  desc : List Word
  hart : Hart
  region : RegionId
  deriving DecidableEq, Repr

/-- A burst issued and not completed (R264). -/
structure Burst where
  /-- First stored byte of the stream it fetches, and how many. -/
  offset : Nat
  len : Nat
  /-- Of the range at ADDR_B (R269). -/
  second : Bool
  deriving DecidableEq, Repr

/-- A flit's worth of delivered data (64 bytes) in staging (R259). -/
structure StagedFlit where
  position : Nat
  words : List PWord
  deriving DecidableEq, Repr

/-- What is left of a window of shore slots (R260): the Daybreak number and Noon offset from which its next slot is
sought, and the slots it still has. -/
structure SlotWindow where
  day : Nat
  offset : Nat
  left : Nat
  deriving DecidableEq, Repr

/-- The descriptor an engine is carrying out (R256–R275). -/
structure StreamRun where
  cmd : StreamCmd
  /-- First of the message ids of its writes; later streams have larger ones. -/
  midBase : Nat
  /-- The bitmap of a block-sparse run, as read when the descriptor started. -/
  bitmap : List Byte
  /-- Stored bytes requested so far, and bursts outstanding (R264). -/
  issued : Nat
  bursts : List Burst
  /-- Data of completed bursts by stored word; a compare holds word w of ADDR_A at 2w and of ADDR_B at
  2w + 1. -/
  ingest : Tab PWord
  /-- Decryption blocks checked (R263). -/
  released : Nat
  /-- Delivered flits that have entered staging (R264), those waiting there by shore port, and the flits
  before which every absent block has been staged (R215). -/
  staged : Nat
  queue : Tab (List StagedFlit)
  passed : Nat
  /-- Shore ports whose queue has reached its high water mark and drains (R265). -/
  full : List Nat
  /-- By shore port, the flit at which the search for the next one to send begins, and positions replaced
  by poison whose data is discarded (R261). -/
  cursor : Tab Nat
  replaced : List Nat
  /-- Slot windows by shore port (R260). -/
  window : Tab SlotWindow
  status : BitVec 8
  poisoned : Nat
  /-- Stored bytes written to memory by a write stream or fill. -/
  written : Nat
  /-- Flits of a write stream that the E-die has taken, not yet written, and the bytes of the first that
  have been. -/
  outq : List StagedFlit
  part : Nat
  /-- Cycle since power-on at which the next burst became ready (R267). -/
  ready : Nat
  overflowed : Bool
  /-- The group was committed: later data lands unmarked (R232). -/
  committed : Bool
  deriving DecidableEq, Repr

/-- One stream engine (R251). -/
structure Engine where
  queue : List StreamCmd
  run : Option StreamRun
  /-- Descriptors behind the one in progress for which it already fetches (R266), in order. -/
  ahead : List StreamRun
  /-- Completion records its thread has no room for (R253). -/
  undelivered : List (Hart × Word)
  /-- Number of the command stream now on the engine (R251). -/
  chain : Nat
  /-- Arrival signals of finished write streams still to be sent (R275): cell, kind, index. -/
  arrivals : List (BitVec 11 × BitVec 2 × BitVec 10)
  /-- Finished read streams whose flits are still in staging (R274). -/
  draining : List StreamRun
  /-- Cancelled streams whose accepted bursts have not completed: their staging is still held (R273). -/
  dying : List StreamRun
  deriving DecidableEq, Repr

/-- A line of a spill cache (R276). -/
structure SpillLine where
  region : RegionId
  /-- The VF whose far address it holds (R23, R456). -/
  fn : FnId
  /-- Far address / 256. -/
  line : BitVec 36
  way : Fin 16
  dirty : Bool
  words : List PWord
  /-- Recency: larger is more recent. -/
  used : Nat
  deriving DecidableEq, Repr

/-- A line asked of host memory and not yet whole: for which VF, the 64 bytes asked for first, and the
64-byte pieces that have come (R277). -/
structure WantedLine where
  region : RegionId
  line : BitVec 36
  fn : FnId
  first : Fin 4
  pieces : List (List (BitVec 64))
  /-- Asked for before a launch start of its region: it brings no line (R280). -/
  void : Bool
  deriving DecidableEq, Repr

/-- A cached translation: of a VF's page in an address space, with its permissions (R348, R349). -/
structure Translation where
  fn : FnId
  pasid : BitVec 20
  page : BitVec 52
  host : BitVec 52
  read : Bool
  write : Bool
  deriving DecidableEq, Repr

/-- The far memory of an E-H: its spill cache (R276–R279, R459) and its translations (R348). -/
structure Spill where
  lines : List SpillLine
  power : BitVec 16
  gated : BitVec 16
  disabled : BitVec 16
  /-- Far lines lost by a failed way or write-back (R278, R351). -/
  lost : List (RegionId × BitVec 36)
  /-- Errors that the ways have shown: way, and the cycle of a corrected one (R278). -/
  faults : List (Fin 16 × Option Nat)
  /-- Lines asked of host memory and not yet filled. -/
  wanted : List WantedLine
  clock : Nat
  /-- Translations held, oldest first (R348). -/
  atc : List Translation
  deriving DecidableEq, Repr

/-! ### Host functions (R312–R352, R452) -/

/-- A completion entry before its ring position is known (R330). -/
structure Cqe where
  cid : BitVec 16
  sq : Fin 16
  kind : BitVec 4
  status : BitVec 8
  opcode : BitVec 8
  result : Word
  info : Word
  /-- Launch slot to free when the entry is written (R331). -/
  slot : Option (RegionId × Nat)
  deriving DecidableEq, Repr

/-- A submission ring (R318, R319, R455). -/
structure SqRing where
  head : BitVec 16
  headWrap : Bool
  tail : BitVec 16
  tailWrap : Bool
  error : Bool
  /-- Descriptors read and not started, in index order, each with its number among those its function has read
  (R323). -/
  queue : List (Nat × List Word)
  /-- Descriptors started and not completed, by number. -/
  live : List Nat
  deriving DecidableEq, Repr

/-- A completion ring (R318, R331, R332). -/
structure CqRing where
  tail : BitVec 16
  tailWrap : Bool
  head : BitVec 16
  headWrap : Bool
  /-- Entries written since the last MSI-X message; when the time of the first runs out, and the vector it
  then sends; messages due (R332, R455). -/
  unsignalled : Nat
  timer : Option (Nat × BitVec 6)
  due : List (BitVec 6)
  deriving DecidableEq, Repr

/-- A burst that a port has asked for and not moved (R343): first stream byte, device and host address,
length. -/
structure PortBurst where
  offset : Nat
  dev : Nat
  host : Nat
  len : Nat
  /-- Cycle since power-on at which it became ready (R267). -/
  ready : Nat
  deriving DecidableEq, Repr

/-- An open data port (R341–R346). -/
structure DataPort where
  cid : BitVec 16
  ring : Fin 16
  /-- Number of its `PORT_OPEN` among the descriptors of its function (R323). -/
  seq : Nat
  /-- The words of its descriptor (R327). -/
  words : List Word
  /-- Device and host address of the next burst. -/
  cursor : Nat
  hostCursor : Nat
  /-- `BYTE_COUNT` left: bytes not yet appended or asked for. -/
  left : Nat
  /-- Push bytes of the burst being filled, with their marks (R342). -/
  buffer : List (Byte × Bool)
  /-- Bursts outstanding (R343). -/
  bursts : List PortBurst
  /-- Bursts of a decrypting port that wait for the rest of their block (R346). -/
  held : List (PortBurst × List (Byte × Bool))
  /-- Inbound bursts whose data waits for its controllers and ring segments (R245). -/
  toBulk : List (PortBurst × List (Byte × Bool))
  moved : Nat
  /-- Writes sent to a local destination so far, and whether its tail write has landed (R344). -/
  writes : Nat
  landed : Bool
  /-- Writes that have landed, and the `PORT_CLOSE` that waits for them: ring, number, CID, `NO_CQE` (R352). -/
  arrived : Nat
  closing : Option (Fin 16 × Nat × BitVec 16 × Bool)
  /-- Byte offset of the first poisoned burst (R345). -/
  poisonAt : Option Nat
  /-- Blocks decrypted (R346). -/
  blocks : Nat
  deriving DecidableEq, Repr

/-- One PCIe function (R315, R453–R456). -/
structure HostFn where
  /-- BAR0 registers at their offsets; absent registers hold their reset value. -/
  regs : Tab (BitVec 32)
  lock : Bool
  /-- `IDLE` as last written; the last read of the tail records is due; polling has stopped (R321). -/
  idle : Bool
  lastPoll : Bool
  quiet : Bool
  /-- Consecutive empty polls. -/
  polls : Nat
  sq : Tab SqRing
  /-- Descriptors read so far (R323). -/
  nextSeq : Nat
  cq : Tab CqRing
  holding : List (Fin 16 × Cqe)
  ports : Tab DataPort
  drop : BitVec 32
  /-- Page requests awaiting a response, and those that wait for one of them to end (R349). -/
  pageReqs : List (BitVec 52)
  pageWait : List (BitVec 52)
  /-- ATS requests awaiting a completion, and pages whose translation is asked for the second time. -/
  atsReqs : List (BitVec 52)
  retried : List (BitVec 52)
  priFailed : Bool
  /-- ATS invalidations that wait for accesses under way: first page and count, and the cycle at which they complete
at the latest (R312, R350). -/
  invalidations : List (BitVec 52 × Nat × Nat)
  /-- Far registers in force (R456): base and PASID. -/
  farBase : Word
  farPasid : BitVec 20
  /-- MSI-X table words and pending bits (R315). -/
  msix : Tab (BitVec 32)
  pba : BitVec 64
  /-- Writable words of the configuration space, by offset (R313, R314), and the MSI-X messages that D3hot
  withholds (R312). -/
  config : Tab (BitVec 32)
  withheld : List (BitVec 6)
  deriving DecidableEq, Repr

/-- How a request to a host is addressed: untranslated without PASID (R318), or translated with one (R348). -/
inductive HostAddr
  | untranslated (addr : Word)
  | translated (pasid : BitVec 20) (addr : Word)
  deriving DecidableEq, Repr

/-- What the part sends to a host: a memory write, a read request, an MSI-X message, an ATS or PRI
request. The host's memory is outside the part (R1). -/
inductive HostOut
  | write (fn : FnId) (addr : HostAddr) (bytes : List Byte)
  /-- A write with the Relaxed Ordering attribute (R343). -/
  | relaxedWrite (fn : FnId) (addr : HostAddr) (bytes : List Byte)
  | read (fn : FnId) (addr : HostAddr) (len : Nat)
  | msix (fn : FnId) (vector : BitVec 6)
  | translationRequest (fn : FnId) (pasid : BitVec 20) (page : BitVec 52)
  | pageRequest (fn : FnId) (pasid : BitVec 20) (page : BitVec 52)
  | invalidationDone (fn : FnId) (page : BitVec 52)
  /-- An error message (R312; log 169). -/
  | errorMessage (fn : FnId) (fatal : Bool)
  deriving DecidableEq, Repr

/-! ### Device links (R353–R382) -/

/-- A link flit: control word and the eight words of its body (R358). -/
structure LinkFlit where
  ctrl : Word
  body : List Word
  deriving DecidableEq, Repr

/-- A message waiting to be sent on a port, as its remaining flits (R362). -/
structure LinkMsg where
  mid : Nat
  tc : BitVec 2
  /-- Owner of the window it may use: a region, or transit (R366). -/
  owner : Option RegionId
  flits : List LinkFlit
  started : Bool
  /-- Its last flit has come. -/
  whole : Bool
  deriving DecidableEq, Repr

/-- Port states (R355). -/
inductive PortState | down | training | up
  deriving DecidableEq, Repr

/-- One optical port (R355–R371). -/
structure LinkPort where
  state : PortState
  laserOk : Bool
  fecLock : Bool
  peerDevice : BitVec 14
  peerPort : BitVec 4
  oneWay : BitVec 20
  /-- Handshakes received from the same peer since Training began (R355). -/
  handshakes : Nat
  /-- The last 16 delay results (R371). -/
  delays : List Nat
  credits : Tab Nat
  txSeq : BitVec 16
  replay : List LinkFlit
  /-- Flits of `replay` still to be resent. -/
  resend : List LinkFlit
  /-- Times in a row that the peer has asked for the flit at the mark (R357). -/
  naks : Nat
  rxSeq : BitVec 16
  gap : Bool
  /-- Flits received since the last control flit, and credits to return. -/
  rxCount : Nat
  owed : Tab Nat
  /-- The ingress buffer: the flits of the open incoming message of each class (R361, R362). -/
  rxOpen : Tab (List LinkFlit)
  /-- Flits of the open TC0 message whose slots have passed while it was replayed: the message's number in the mesh, and
  how many (R369). -/
  missed : Option (Nat × Nat)
  queue : List LinkMsg
  /-- Weighted round robin position over TC1–TC3 (R363). -/
  rr : Nat
  ctrlDue : Bool
  nakDue : Bool
  markerDue : Bool
  bank0 : List (BitVec 128)
  bank1 : List (BitVec 128)
  active : Bool
  /-- A load under way, and one committed in Dusk, with the Daybreak it waits for (R367). -/
  loading : Option (List (BitVec 128))
  loadNext : Option (Nat × List (BitVec 128))
  /-- Number of the Daybreak at which a committed load of the inactive bank swaps in (R367). -/
  loaded : Option Nat
  /-- The open TC0 window: its owner, its first Noon offset and the flits it may still start (R366). -/
  window : Option (BitVec 9 × Nat × Nat)
  /-- `HS_TX` of the last handshake and when it came (R360). -/
  lastEcho : Option (Nat × Nat)
  /-- Arrival of the last control flit that gave a delay result (R371). -/
  measured : Option Nat
  /-- Down after having been Up: the peer it must find again (R357). -/
  retraining : Option (BitVec 14 × BitVec 4)
  deriving DecidableEq, Repr

/-! ### The error log (R414, R415) -/

/-- An error log record. -/
structure LogRec where
  day : BitVec 48
  cycle : BitVec 24
  cause : BitVec 8
  source : BitVec 6
  location : BitVec 14
  region : Option RegionId
  thread : Fin 4
  deferred : Bool
  info : Word
  /-- What a rule says the record holds without saying where in `INFO` (log 149). -/
  detail : List Nat
  seq : BitVec 32
  read : Bool
  deriving DecidableEq, Repr

/-- The log, oldest record first, with its counts per source and cause of the current Day. -/
structure ErrLog where
  recs : List LogRec
  next : BitVec 32
  lost : BitVec 32
  suppressed : BitVec 32
  sel : BitVec 32
  selBmc : BitVec 32
  counts : List (BitVec 6 × BitVec 8 × Nat)
  persistent : List LogRec
  /-- Records of causes 0x39–0x3B since the last store (R430). -/
  unsaved : Nat
  deriving DecidableEq, Repr

/-! ### Spares, flash and management -/

/-- A row of the spare map with its pending value (R418). -/
structure SpareRow where
  first : BitVec 5
  second : BitVec 5
  pending : Option (BitVec 5 × BitVec 5)
  /-- Daybreak number at which the row's regions stop, and whether its migration is done (R419). -/
  stopDay : Nat
  migrated : Bool
  /-- Daybreak number at which the pending value takes effect, once known. -/
  shiftDay : Option Nat
  deriving DecidableEq, Repr

/-- A firmware slot (R440): its image, or contents that fail their CRC. -/
structure FwSlot where
  image : Option FwImage
  valid : Bool
  deriving DecidableEq, Repr

/-- The spare map as stored: its rows (row, FIRST, SECOND), the removal list, and the C-dies that hop
faults on a full list have removed (R422). -/
structure StoredMap where
  rows : List (Nat × BitVec 5 × BitVec 5)
  removals : List (BitVec 14)
  dies : List (Fin 32)
  deriving DecidableEq, Repr

/-- One slot of a persistent item (R430): its sequence number, whether its CRC holds, and its contents. -/
structure FlashSlot (α : Type) where
  seq : Nat
  valid : Bool
  value : α
  deriving DecidableEq, Repr

/-- The two slots of a persistent item, and the one that the last completed store wrote (`true`: `b`). -/
structure FlashPair (α : Type) where
  a : FlashSlot α
  b : FlashSlot α
  last : Bool
  deriving DecidableEq, Repr

/-- The flashes (R429–R431). -/
structure Flash where
  slotA : FwSlot
  slotB : FwSlot
  spare : FlashPair StoredMap
  certs : FlashPair (List (BitVec 384))
  rollback : FlashPair (BitVec 32)
  plog : FlashPair (List LogRec)
  /-- Stores that are running (R430). -/
  busy : List FlashItem
  deriving DecidableEq, Repr

/-- An SPDM secured session (R392, R395). -/
structure Session where
  transport : SpdmTransport
  finished : Bool
  region : Option RegionId
  deriving DecidableEq, Repr

/-- What a management command, `QUERY`, `SET` or SPDM request answers. -/
structure Reply where
  status : BitVec 8
  /-- Code of an SPDM `ERROR` response. -/
  error : Option (BitVec 8)
  data : List Word
  deriving DecidableEq, Repr

/-- The pins that the part drives or samples, and its clocks (R434, R476–R478). -/
structure Pins where
  resetN : Bool
  presenceN : Bool
  thermtripN : Bool
  thermalertN : Bool
  daybreakOut : Bool
  perstN0 : Bool
  perstN1 : Bool
  svcClk : Bool
  coreClk : Bool
  linkClk : Bool
  pcieClk0 : Bool
  pcieClk1 : Bool
  railsOk : Bool
  /-- Ports whose laser input lies within its range (R354). -/
  lasers : BitVec 16
  deriving DecidableEq, Repr

/-- Device states (R14, R445). -/
inductive DevState | midnight | twilight | daylight
  deriving DecidableEq, Repr

/-- Phases of a Day (R45). -/
inductive Phase | dawn | noon | dusk
  deriving DecidableEq, Repr

/-- Time: Day, cycle and the registers that set them (R44–R51, R459). -/
structure Clock where
  /-- Core-clock cycles since power-on (the model's own count). -/
  now : Nat
  /-- Daybreaks since Midnight (the model's own count; `dayCount` can be loaded, R47). -/
  dayNo : Nat
  dayCount : BitVec 48
  cycle : Nat
  phase : Phase
  /-- L / 256 and K / 64 in force, and as last accepted (R458). -/
  dayDiv : BitVec 17
  duskDiv : BitVec 18
  dayDivNext : BitVec 17
  duskDivNext : BitVec 18
  src : BitVec 2
  port : BitVec 4
  srcNext : BitVec 2
  portNext : BitVec 4
  alignLost : Bool
  offset : BitVec 24
  /-- The measured offset as it is, in 0.1 ns (R477). -/
  measured : Int
  /-- Consecutive Days within 20 ns (R50, R51), and reference seen this Day. -/
  aligned : Nat
  refSeen : Bool
  /-- DAY_COUNT taken from a marker after aligning (R373). -/
  dayTaken : Bool
  deriving DecidableEq, Repr

/-- How far boot has come (R436): the last step completed. -/
structure Boot where
  step : Nat
  hbmDone : Bool
  bistDone : Bool
  slot : Bool
  activeEs : Bool
  /-- SHA-384 of the image that the ROM measured, and whether it has locked the UDS (R391, R436). -/
  measured : BitVec 384
  udsLocked : Bool
  /-- The attempt record of each E-S: whether slot A and slot B are marked (R442). -/
  marks0 : Bool × Bool
  marks1 : Bool × Bool
  recovery : Bool
  tripped : Bool
  /-- Slots skipped or refused by the ROM and not yet logged (R441): slot B, and the check (0: marked). -/
  refused : List (Bool × Nat)
  deriving DecidableEq, Repr

/-- A physical core under its reinstatement test (R423): one that a row of the spare map names, or the one whose entry of the
removal list holds a core ID. -/
inductive UnderTest
  | spare (row : Fin 640) (col : Fin 17)
  | removal (core : BitVec 14)
  deriving DecidableEq, Repr

/-- Management and security state (R391–R408). -/
structure Mgmt where
  owned : List (BitVec 384)
  /-- A management connection is open; it presented an operator certificate. -/
  connected : Bool
  authenticated : Bool
  /-- Open presence windows, oldest first, by the cycle at which each opened (R408). -/
  presence : List Nat
  debug : Option RegionId
  jtagSessions : BitVec 32
  sessions : Tab Session
  /-- Hash of the SPDM negotiation: GET_VERSION, GET_CAPABILITIES, NEGOTIATE_ALGORITHMS done. -/
  spdmVersion : Bool
  spdmCaps : Bool
  spdmAlgs : Bool
  rollback : BitVec 32
  /-- Reinstatement tests that run: the core, the result, and the cycle at which it is known (R423). -/
  testing : List (UnderTest × Bool × Nat)
  reply : Reply
  deriving DecidableEq, Repr

/-- What a physical core has shown (R416): words found uncorrectable (code space, word, cycle), and the
cycles of uncorrectable errors at its router or links. -/
structure ErrHistory where
  words : List (Bool × Nat × Nat)
  links : List Nat
  deriving DecidableEq, Repr

/-! ### The whole state -/

/-- The state of a KS-40. -/
structure State where
  /-- Commands waiting, first in first out. -/
  pending : List Instr
  dev : DevState
  daylightReq : Bool
  /-- Daybreak number of a scheduled entry into Twilight (R447). -/
  twilightAt : Option Nat
  clock : Clock
  boot : Boot
  pins : Pins
  deviceId : BitVec 14
  assigned : Bool
  deviceIdNext : BitVec 14
  assignedNext : Bool
  cores : Tab Core
  routers : Tab Router
  regions : Tab Region
  /-- Cell table in force, entries by index, and pending changes (R28, R41). -/
  cells : Tab (BitVec 128)
  cellChanges : List CellChange
  /-- Daybreak number from which a deleted index may be granted again (R43). -/
  cellReuse : Tab Nat
  /-- Replicas that lost an entry until the next Daybreak (R412): unit and entry. -/
  badReplicas : List (Nat × Nat)
  banks : Tab FlagBank
  flight : List FlagUpd
  /-- Flag windows that this Day's Dawn clears (R52, R53): die, first flag and count. -/
  dawnClear : List (DieId × Nat × Nat)
  /-- Flag-bank words found uncorrectable, to stop regions (R412). -/
  badFlagWords : List (Nat × Nat)
  engines : Tab Engine
  /-- Bulk memory, and its poisoned 64-byte sectors (R241). -/
  bulk : Mem
  bulkPoison : List Nat
  /-- Bulk windows being filled with zeros after a deletion (R387): base and size. -/
  scrubbing : List (BitVec 11 × BitVec 11)
  spill0 : Spill
  spill1 : Spill
  /-- The window of 1,024 cycles that the controllers and ring segments count in, and the bursts served in
  it, by resource and region (R245): key 256 × resource + region. -/
  serviceWindow : Nat
  served : Tab Nat
  fns : Tab HostFn
  hostOut : List HostOut
  ports : Tab LinkPort
  /-- Link flits driven out of each port: port, flit. -/
  linkOut : List (PortId × LinkFlit)
  /-- Device route table in force and as last written (R377): entry by device ID. -/
  routes : Tab (BitVec 16)
  routesNext : List (Nat × Nat × BitVec 16)
  /-- Messages at an E-die on their way to a destination shore, by shore port, oldest first. -/
  shoreIn : Tab (List Flit)
  /-- The same for TC0 messages of the links, which wait apart (R379). -/
  shoreTc0 : Tab (List Flit)
  /-- Flits a shore router has sent toward the E-die and the port has not yet handed over (R71), by
  shore port, oldest first. -/
  shoreOut : Tab (List Flit)
  /-- Windows that an aborted stream leaves, whose slots carry nothing (R261), by shore port. -/
  deadSlots : Tab (List SlotWindow)
  /-- Counters of R470 at their management addresses. -/
  counters : Tab (BitVec 32)
  log : ErrLog
  spares : Tab SpareRow
  removals : List (BitVec 14)
  /-- Changed removal lists, each with the C-dies removed whole and the number of the Daybreak at which it takes effect,
  in their order (R422, R466). -/
  removalsNext : List (Nat × List (BitVec 14) × List (Fin 32))
  /-- C-dies every position of which a hop fault has removed (R422). -/
  removedDies : List (Fin 32)
  /-- Error histories by physical core, 17 × C-die row + physical column (R416). -/
  history : Tab ErrHistory
  /-- Night of cores in no region, by the number of its Daybreak (R448). -/
  coreNights : List (Nat × CoreId × NightKind)
  flash : Flash
  mgmt : Mgmt
  telemetry : Telemetry
  /-- The last sample of `FLASH_BUSY`, and of `HELD` and `ALLOCATED` by E-die (R468). -/
  busySample : Bool
  poolSample : List (Nat × Nat)
  /-- Next message id (log 6), next thread epoch and next free value (log 2). -/
  nextMid : Nat
  nextEpoch : Nat
  nextFree : Nat
  deriving DecidableEq, Repr

/-- Why the machine stops. -/
inductive Fault
  /-- Raised by no meaning: the spec stops the whole device only by a reset, which is a next state. -/
  | none
  deriving DecidableEq, Repr

/-- Why a command has no meaning. -/
inductive Refusal
  /-- The command has no meaning yet; raised by exec's arms only. Safe. -/
  | notModelled (mnemonic : String)
  deriving DecidableEq, Repr

/-! ### Reset -/

/-- A thread right after a device reset (R88, R123): p0 reads 1 by its accessor; registers the spec
leaves undefined read 0 (DESIGN CHOICE, log 1). -/
def Thread.reset : Thread where
  epoch := 0
  g := []
  p := []
  v := []
  m := []
  desc := []
  rows := []
  acc := []
  pc := 0
  mode := false
  run := .unreleased
  hold := none
  evEnable := 0
  evPending := 0
  timer := none
  expired := none
  fpCtrl := 0
  fpFlags := 0
  sr := 0x9E3779B97F4A7C15
  t2Policy := false
  met := none
  errCause := 0
  errPc := 0
  errInfo := 0
  ctrTarget := 0
  retPc := 0
  taskTrap := 0
  moverDone := []
  streamDone := []
  lastStream := none
  pSpec := []
  vSpec := []
  accSpec := []
  deferred := none
  deferredFault := none
  acvt := none
  debugHalt := false
  breakpoints := []
  watchpoints := []

/-- An empty notice queue (R290). -/
def NoticeQ.reset : NoticeQ where
  items := []
  rd := 0
  mark := 0
  hi := none
  hiPos := 0
  spill := false
  fillBank := false
  filled := 0
  cellId := 0
  cellFill := 0

/-- A core in Midnight: held, its code space zero (R91, R433). -/
def Core.reset : Core where
  boot := ⟨0, 0, 0, 0, 0⟩
  released := false
  night := none
  rot := 0
  passed := []
  rowsAt := []
  threads := []
  mem := []
  poison := []
  specMark := []
  code := []
  codePoison := []
  stores := []
  trapBase := 0xFFFC0
  notices := []
  inj := []
  moverQ := []
  outstanding := []
  moving := none
  inbox := []
  landing := []
  holdCtr := []
  portHold := []
  group := none
  resolving := []
  dayDone := false
  overrun := false
  budget := 0
  budgetNext := 0
  mmaRun := none
  mmaWait := none
  selfTest := none
  isolated := false
  strayLogged := false

/-- A router in Midnight: both banks zero (R59). -/
def Router.reset : Router where
  bank0 := []
  bank1 := []
  active := false
  inputs := []
  badEntries := []
  badPorts := 0
  stuckPorts := 0

/-- A region number that no region holds (R462). -/
def Region.reset : Region where
  valid := false
  pending := []
  cell := 0
  entry := 0
  quota := 0
  quotaNext := []
  cellQuota := 0
  engines := 0
  staging := []
  bulk := []
  domain := 0
  vf := 0x0FF
  vfNext := []
  farVf := 0x0FF
  bootImage := 0
  gen := 0
  freeFrom := 0
  zeroing := false
  stopped := false
  stopCause := 0
  monError := 0
  stopE5 := false
  night := none
  wakeOnLaunch := false
  waking := false
  wakeAt := none
  failStop := none
  loaded := false
  loadFailed := false
  bootDue := false
  measurement := 0
  debugCount := 0
  borderOk := true
  keys := []
  variantNext := 0
  confirm := 0
  sampledVariant := 0
  sampledMask := 0
  variant := 0
  load := none
  loadNext := none
  late := false
  routeStatus := 0
  resumeReq := false
  cellReqLo := 0
  cellReqHi := 0
  cellStatus := 0
  cellReadSel := 0
  launches := []
  notifies := []
  launched := false
  posted := (0, 0)
  lostPosition := false
  resumeFrom := 0

/-- A flag bank in Midnight (R449: flags cleared, counters 0). -/
def FlagBank.reset : FlagBank where
  flags := 0
  ctrs := []

/-- An idle stream engine (R251). -/
def Engine.reset : Engine where
  queue := []
  run := none
  ahead := []
  undelivered := []
  chain := 0
  arrivals := []
  draining := []
  dying := []

/-- An empty spill cache, every way powered (R276, R459). -/
def Spill.reset : Spill where
  lines := []
  power := 0xFFFF
  gated := 0
  disabled := 0
  lost := []
  faults := []
  wanted := []
  clock := 0
  atc := []

/-- A submission ring before it is enabled (R455). -/
def SqRing.reset : SqRing where
  head := 0
  headWrap := false
  tail := 0
  tailWrap := false
  error := false
  queue := []
  live := []

/-- A completion ring before it is enabled (R455). -/
def CqRing.reset : CqRing where
  tail := 0
  tailWrap := false
  head := 0
  headWrap := false
  unsignalled := 0
  timer := none
  due := []

/-- A function after a Function Level Reset (R317, R453). -/
def HostFn.reset : HostFn where
  regs := []
  lock := false
  idle := false
  lastPoll := false
  quiet := false
  polls := 0
  sq := []
  nextSeq := 0
  cq := []
  holding := []
  ports := []
  drop := 0
  pageReqs := []
  pageWait := []
  atsReqs := []
  retried := []
  priFailed := false
  invalidations := []
  farBase := 0
  farPasid := 0
  msix := []
  pba := 0
  config := []
  withheld := []

/-- A port in Midnight: Down, no laser, link windows zero (R355, R356, R365). -/
def LinkPort.reset : LinkPort where
  state := .down
  laserOk := false
  fecLock := false
  peerDevice := 0
  peerPort := 0
  oneWay := 0
  handshakes := 0
  delays := []
  credits := []
  txSeq := 0
  replay := []
  resend := []
  naks := 0
  rxSeq := 0
  gap := false
  rxCount := 0
  owed := []
  rxOpen := []
  missed := none
  queue := []
  rr := 0
  ctrlDue := false
  nakDue := false
  markerDue := false
  bank0 := []
  bank1 := []
  active := false
  loading := none
  loadNext := none
  loaded := none
  window := none
  lastEcho := none
  measured := none
  retraining := none

/-- A row of the spare map with no failure (R418). -/
def SpareRow.reset : SpareRow where
  first := 31
  second := 31
  pending := none
  stopDay := 0
  migrated := false
  shiftDay := none

/-- The time registers in Midnight (R45, R459): L = 131,072, K = 256. -/
def Clock.reset : Clock where
  now := 0
  dayNo := 0
  dayCount := 0
  cycle := 0
  phase := .dawn
  dayDiv := 512
  duskDiv := 4
  dayDivNext := 512
  duskDivNext := 4
  src := 0
  port := 0
  srcNext := 0
  portNext := 0
  alignLost := false
  offset := 0
  measured := 0
  aligned := 0
  refSeen := false
  dayTaken := false

/-- The error log in Midnight (R469). -/
def ErrLog.reset : ErrLog where
  recs := []
  next := 0
  lost := 0
  suppressed := 0
  sel := 0
  selBmc := 0
  counts := []
  persistent := []
  unsaved := 0

/-- A slot that holds no valid record. -/
def FlashSlot.empty {α : Type} (v : α) : FlashSlot α := ⟨0, false, v⟩

/-- The slots of an item that has never been stored. -/
def FlashPair.empty {α : Type} (v : α) : FlashPair α := ⟨.empty v, .empty v, false⟩

/-- Flashes that hold no firmware and an empty spare map (log 141). -/
def Flash.reset : Flash where
  slotA := ⟨none, false⟩
  slotB := ⟨none, false⟩
  spare := ⟨⟨1, true, ⟨[], [], []⟩⟩, .empty ⟨[], [], []⟩, false⟩
  certs := .empty []
  rollback := .empty 0
  plog := .empty []
  busy := []

/-- The KS-40 in Midnight (R14, R433), before any boot step, with empty flashes, `RESET_N` low, the
rails up, and no command waiting. -/
def State.reset : State where
  pending := []
  dev := .midnight
  daylightReq := false
  twilightAt := none
  clock := Clock.reset
  boot := ⟨0, false, false, false, false, 0, false, (false, false), (false, false), false, false, []⟩
  pins := ⟨false, true, true, true, false, false, false, true, true, true, true, true, true, 0⟩
  deviceId := 0
  assigned := false
  deviceIdNext := 0
  assignedNext := false
  cores := []
  routers := []
  regions := []
  cells := []
  cellChanges := []
  cellReuse := []
  badReplicas := []
  banks := []
  flight := []
  dawnClear := []
  badFlagWords := []
  engines := []
  bulk := []
  bulkPoison := []
  scrubbing := []
  spill0 := Spill.reset
  spill1 := Spill.reset
  serviceWindow := 0
  served := []
  fns := []
  hostOut := []
  ports := []
  linkOut := []
  routes := []
  routesNext := []
  shoreIn := []
  shoreTc0 := []
  shoreOut := []
  deadSlots := []
  counters := []
  log := ErrLog.reset
  spares := []
  removals := []
  removalsNext := []
  removedDies := []
  history := []
  coreNights := []
  flash := Flash.reset
  mgmt := ⟨[], false, false, [], none, 0, [], false, false, false, 0, [], ⟨0, none, []⟩⟩
  telemetry := ⟨[], [], 0, []⟩
  busySample := false
  poolSample := []
  nextMid := 0
  nextEpoch := 0
  nextFree := 0

end Sys2Proof.Machine
end

