-- ==== Sys2Proof/Machine/Tab.lean ====
section
/-!
DEFINITION. Sparse tables, canonical byte memories, sets of word indices, and bit-field helpers.
-/
namespace Sys2Proof.Machine
open Sys2Proof

/-! ### Tables -/

/-- The entry listed at key `i`. -/
def tfind {α : Type} : Tab α → Nat → Option α
  | [], _ => none
  | (k, v) :: t, i => if k = i then some v else tfind t i

/-- The value at key `i`, `d` where none is listed. -/
def tget {α : Type} (d : α) (t : Tab α) (i : Nat) : α := (tfind t i).getD d

/-- The table with `v` at key `i`, keys kept rising. -/
def tset {α : Type} : Tab α → Nat → α → Tab α
  | [], i, v => [(i, v)]
  | (k, w) :: t, i, v =>
    if i < k then (i, v) :: (k, w) :: t
    else if i = k then (i, v) :: t
    else (k, w) :: tset t i v

/-- The table with key `i` no longer listed. -/
def tdel {α : Type} : Tab α → Nat → Tab α
  | [], _ => []
  | (k, w) :: t, i => if i = k then tdel t i else (k, w) :: tdel t i

/-- Keys rise strictly. -/
def tsorted {α : Type} : Tab α → Bool
  | [] => true
  | [_] => true
  | (k, _) :: (l, w) :: t => decide (k < l) && tsorted ((l, w) :: t)

/-- Every listed value changed by `f`. -/
def tmap {α : Type} (f : Nat → α → α) : Tab α → Tab α
  | [] => []
  | (k, v) :: t => (k, f k v) :: tmap f t

/-! ### Byte memories -/

/-- The byte at an address; an unlisted address reads 0. -/
def mget (m : Mem) (a : Nat) : Byte := tget 0 m a

/-- The memory with byte `b` at address `a`, kept canonical: a 0 is not listed. -/
def mset : Mem → Nat → Byte → Mem
  | [], a, b => if b = 0 then [] else [(a, b)]
  | (k, w) :: t, a, b =>
    if a < k then (if b = 0 then (k, w) :: t else (a, b) :: (k, w) :: t)
    else if a = k then (if b = 0 then t else (a, b) :: t)
    else (k, w) :: mset t a b

/-- Bytes stored at rising addresses from `a`. -/
def mwrite : Mem → Nat → List Byte → Mem
  | m, _, [] => m
  | m, a, b :: bs => mwrite (mset m a b) (a + 1) bs

/-- `n` bytes at rising addresses from `a`. -/
def mread (m : Mem) (a : Nat) : Nat → List Byte
  | 0 => []
  | n + 1 => mget m a :: mread m (a + 1) n

/-- No byte of `lo ≤ a < hi` is listed any longer: the range reads 0. -/
def mzero (m : Mem) (lo hi : Nat) : Mem :=
  m.filter fun c => decide (c.1 < lo) || decide (hi ≤ c.1)

/-- The canonical form of a byte memory. -/
def Mem.wf (m : Mem) : Bool := tsorted m && m.all fun c => decide (c.2 ≠ 0)

/-- The number whose little-endian bytes are given (R7). -/
def bytesNat : List Byte → Nat
  | [] => 0
  | b :: bs => b.toNat + 256 * bytesNat bs

/-- The `n` little-endian bytes of a number (R7). -/
def natBytes : Nat → Nat → List Byte
  | 0, _ => []
  | n + 1, x => BitVec.ofNat 8 x :: natBytes n (x / 256)

/-- The 64-bit words of a byte list, eight bytes to a word. -/
def bytesWords : Nat → List Byte → List Word
  | 0, _ => []
  | n + 1, bs => BitVec.ofNat 64 (bytesNat (bs.take 8)) :: bytesWords n (bs.drop 8)

/-- The bytes of a list of words. -/
def wordsBytes : List Word → List Byte
  | [] => []
  | w :: ws => natBytes 8 w.toNat ++ wordsBytes ws

/-! ### Sets of naturals as rising lists -/

/-- `x` added to a rising list. -/
def sins : List Nat → Nat → List Nat
  | [], x => [x]
  | y :: t, x => if x < y then x :: y :: t else if x = y then y :: t else y :: sins t x

/-- `x` removed. -/
def sdel (l : List Nat) (x : Nat) : List Nat := l.filter fun y => decide (y ≠ x)

/-- `x` added or removed. -/
def sput (l : List Nat) (x : Nat) (b : Bool) : List Nat := if b then sins l x else sdel l x

/-! ### Bit fields -/

/-- Bits [lo + n − 1 : lo] as a number. -/
def fld {w : Nat} (x : BitVec w) (lo n : Nat) : Nat := x.toNat / 2 ^ lo % 2 ^ n

/-- Bit `i`. -/
def bit {w : Nat} (x : BitVec w) (i : Nat) : Bool := x.getLsbD i

/-- `v` placed at bit `lo`. -/
def at_ (v lo : Nat) : Nat := v * 2 ^ lo

/-- 1 for true. -/
def b2n (b : Bool) : Nat := if b then 1 else 0

/-- A signed reading of `n` bits of a number. -/
def sgn (n x : Nat) : Int := if x % 2 ^ n < 2 ^ (n - 1) then (x % 2 ^ n : Nat) else (x % 2 ^ n : Nat) - (2 ^ n : Nat)

/-- A 32-bit saturating sum (R415). -/
def satAdd (x : BitVec 32) (n : Nat) : BitVec 32 := BitVec.ofNat 32 (min (x.toNat + n) (2 ^ 32 - 1))

/-- The element at position `i`, `d` past the end. -/
def nth {α : Type} (d : α) (l : List α) (i : Nat) : α := (l[i]?).getD d

/-- `f` applied to the element at position `i`. -/
def updAt {α : Type} : List α → Nat → (α → α) → List α
  | [], _, _ => []
  | x :: t, 0, f => f x :: t
  | x :: t, i + 1, f => x :: updAt t i f

/-- The list without its element at position `i`. -/
def dropAt {α : Type} : List α → Nat → List α
  | [], _ => []
  | _ :: t, 0 => t
  | x :: t, i + 1 => x :: dropAt t i

end Sys2Proof.Machine
end

