-- ==== Sys2Proof/Machine/Encoding.lean ====
section
/-!
DEFINITION. The instruction words of the core (R96–R102, R151, R187, R203): the word of an instruction
and the instruction a word stands for. Reserved encodings (R97) stand for none.
-/
namespace Sys2Proof.Machine
open Sys2Proof

def cmpCode : CmpCond → Nat | .eq => 0 | .ne => 1 | .lt => 2 | .ge => 3 | .ltu => 4 | .geu => 5
def cmpiCode : CmpiCond → Nat | .eq => 0 | .ne => 1 | .lt => 2 | .ltu => 3
def fcmpCode : FcmpCond → Nat | .eq => 0 | .lt => 1 | .le => 2 | .un => 3
def fmtCode : FpFmt → Nat | .d => 0 | .s => 1
def sizeCode : ElemSize → Nat | .b => 0 | .h => 1 | .w => 2 | .d => 3
def laneCode : LaneW → Nat | .w1 => 0 | .w2 => 1 | .w4 => 2 | .w8 => 3
def mopCode : MaskOp → Nat | .and => 0 | .or => 1 | .xor => 2 | .andn => 3 | .not => 4

def cmpOf : Nat → CmpCond | 0 => .eq | 1 => .ne | 2 => .lt | 3 => .ge | 4 => .ltu | _ => .geu
def cmpiOf : Nat → CmpiCond | 0 => .eq | 1 => .ne | 2 => .lt | _ => .ltu
def fcmpOf : Nat → FcmpCond | 0 => .eq | 1 => .lt | 2 => .le | _ => .un
def fmtOf : Nat → FpFmt | 0 => .d | _ => .s
def sizeOf : Nat → ElemSize | 0 => .b | 1 => .h | 2 => .w | _ => .d
def laneOf : Nat → LaneW | 0 => .w1 | 1 => .w2 | 2 => .w4 | _ => .w8
def mopOf : Nat → MaskOp | 0 => .and | 1 => .or | 2 => .xor | 3 => .andn | _ => .not

/-! ### Formats (R99, R101) -/

def fR (op fn b a d : Nat) (p : Fin 8) : Nat := 1 + 2 * p.val + 16 * op + 2 ^ 10 * d + 2 ^ 15 * a + 2 ^ 20 * b + 2 ^ 25 * fn
def fI (op imm a d : Nat) (p : Fin 8) : Nat := 1 + 2 * p.val + 16 * op + 2 ^ 10 * d + 2 ^ 15 * a + 2 ^ 20 * imm
def fU (op imm d : Nat) (p : Fin 8) : Nat := 1 + 2 * p.val + 16 * op + 2 ^ 10 * d + 2 ^ 15 * imm
def fB (op disp : Nat) (p : Fin 8) : Nat := 1 + 2 * p.val + 16 * op + 2 ^ 10 * disp
def fP (op port d : Nat) (p : Fin 8) : Nat := 1 + 2 * p.val + 16 * op + 2 ^ 10 * d + 2 ^ 16 * port
def fS (sub imm8 : Nat) (p : Fin 8) : Nat := 1 + 2 * p.val + 16 * 0x30 + 2 ^ 20 * sub + 2 ^ 24 * imm8
def fV (op fn m b a d : Nat) (p : Fin 8) : Nat :=
  1 + 2 * p.val + 16 * op + 2 ^ 10 * d + 2 ^ 15 * a + 2 ^ 20 * b + 2 ^ 25 * m + 2 ^ 28 * fn
def fT (acc sp tm tb ta ad : Nat) (p : Fin 8) : Nat :=
  1 + 2 * p.val + 16 * 0x32 + 2 ^ 10 * ad + 2 ^ 13 * ta + 2 ^ 16 * tb + 2 ^ 19 * tm + 2 ^ 22 * sp + 2 ^ 23 * acc
def fAC (wide half row b dv aa d : Nat) (p : Fin 8) : Nat :=
  1 + 2 * p.val + 16 * 0x33 + 2 ^ 10 * d + 2 ^ 15 * aa + 2 ^ 17 * dv + 2 ^ 18 * b + 2 ^ 23 * row + 2 ^ 27 * half + 2 ^ 28 * wide
/-- COP, bits [15:9] and bits [8:5] of a compact instruction. -/
def fC (cop hi d : Nat) : Nat := 2 * cop + 32 * d + 512 * hi

/-- Length in bytes and word of a core instruction; none for the other commands. -/
def encode : Instr → Option (Nat × Nat)
  | .add _ p d a b => some (4, fR 0x01 0 b.val a.val d.val p)
  | .sub _ p d a b => some (4, fR 0x01 1 b.val a.val d.val p)
  | .and _ p d a b => some (4, fR 0x01 2 b.val a.val d.val p)
  | .or _ p d a b => some (4, fR 0x01 3 b.val a.val d.val p)
  | .xor _ p d a b => some (4, fR 0x01 4 b.val a.val d.val p)
  | .andn _ p d a b => some (4, fR 0x01 5 b.val a.val d.val p)
  | .shl _ p d a b => some (4, fR 0x01 6 b.val a.val d.val p)
  | .shr _ p d a b => some (4, fR 0x01 7 b.val a.val d.val p)
  | .sar _ p d a b => some (4, fR 0x01 8 b.val a.val d.val p)
  | .ror _ p d a b => some (4, fR 0x01 9 b.val a.val d.val p)
  | .mul _ p d a b => some (4, fR 0x01 10 b.val a.val d.val p)
  | .mulh _ p d a b => some (4, fR 0x01 11 b.val a.val d.val p)
  | .mulhu _ p d a b => some (4, fR 0x01 12 b.val a.val d.val p)
  | .div _ p d a b => some (4, fR 0x01 13 b.val a.val d.val p)
  | .divu _ p d a b => some (4, fR 0x01 14 b.val a.val d.val p)
  | .rem _ p d a b => some (4, fR 0x01 15 b.val a.val d.val p)
  | .remu _ p d a b => some (4, fR 0x01 16 b.val a.val d.val p)
  | .min _ p d a b => some (4, fR 0x01 17 b.val a.val d.val p)
  | .max _ p d a b => some (4, fR 0x01 18 b.val a.val d.val p)
  | .minu _ p d a b => some (4, fR 0x01 19 b.val a.val d.val p)
  | .maxu _ p d a b => some (4, fR 0x01 20 b.val a.val d.val p)
  | .clz _ p d a => some (4, fR 0x01 21 0 a.val d.val p)
  | .ctz _ p d a => some (4, fR 0x01 22 0 a.val d.val p)
  | .popc _ p d a => some (4, fR 0x01 23 0 a.val d.val p)
  | .sextb _ p d a => some (4, fR 0x01 24 0 a.val d.val p)
  | .sexth _ p d a => some (4, fR 0x01 25 0 a.val d.val p)
  | .sextw _ p d a => some (4, fR 0x01 26 0 a.val d.val p)
  | .zextw _ p d a => some (4, fR 0x01 27 0 a.val d.val p)
  | .addi _ p d a imm => some (4, fI 0x02 imm.toNat a.val d.val p)
  | .andi _ p d a imm => some (4, fI 0x03 imm.toNat a.val d.val p)
  | .ori _ p d a imm => some (4, fI 0x04 imm.toNat a.val d.val p)
  | .xori _ p d a imm => some (4, fI 0x05 imm.toNat a.val d.val p)
  | .shli _ p d a n => some (4, fI 0x06 (0 + n.toNat) a.val d.val p)
  | .shri _ p d a n => some (4, fI 0x06 (1024 + n.toNat) a.val d.val p)
  | .sari _ p d a n => some (4, fI 0x06 (2048 + n.toNat) a.val d.val p)
  | .rori _ p d a n => some (4, fI 0x06 (3072 + n.toNat) a.val d.val p)
  | .movi _ p d imm => some (4, fU 0x07 imm.toNat d.val p)
  | .movsh _ p d imm => some (4, fU 0x08 imm.toNat d.val p)
  | .cmp _ p c d a b => some (4, fR 0x09 (cmpCode c) b.val a.val d.val p)
  | .cmpi _ p c d a imm => some (4, fI 0x0A imm.toNat a.val (8 * (cmpiCode c) + d.val) p)
  | .pand _ p d a b => some (4, fR 0x0B 0 b.val a.val d.val p)
  | .por _ p d a b => some (4, fR 0x0B 1 b.val a.val d.val p)
  | .pxor _ p d a b => some (4, fR 0x0B 2 b.val a.val d.val p)
  | .pandn _ p d a b => some (4, fR 0x0B 3 b.val a.val d.val p)
  | .pnot _ p d a => some (4, fR 0x0B 4 0 a.val d.val p)
  | .pmov _ p d a => some (4, fR 0x0B 5 0 a.val d.val p)
  | .fadd _ p f d a b => some (4, fR 0x0C (0 + 64 * (fmtCode f)) b.val a.val d.val p)
  | .fsub _ p f d a b => some (4, fR 0x0C (1 + 64 * (fmtCode f)) b.val a.val d.val p)
  | .fmul _ p f d a b => some (4, fR 0x0C (2 + 64 * (fmtCode f)) b.val a.val d.val p)
  | .fdiv _ p f d a b => some (4, fR 0x0C (3 + 64 * (fmtCode f)) b.val a.val d.val p)
  | .fsqrt _ p f d a => some (4, fR 0x0C (4 + 64 * (fmtCode f)) 0 a.val d.val p)
  | .fmin _ p f d a b => some (4, fR 0x0C (5 + 64 * (fmtCode f)) b.val a.val d.val p)
  | .fmax _ p f d a b => some (4, fR 0x0C (6 + 64 * (fmtCode f)) b.val a.val d.val p)
  | .fabs _ p f d a => some (4, fR 0x0C (7 + 64 * (fmtCode f)) 0 a.val d.val p)
  | .fneg _ p f d a => some (4, fR 0x0C (8 + 64 * (fmtCode f)) 0 a.val d.val p)
  | .fcvt _ p f d a => some (4, fR 0x0C (9 + 64 * (fmtCode f)) 0 a.val d.val p)
  | .fcvti _ p f d a => some (4, fR 0x0C (10 + 64 * (fmtCode f)) 0 a.val d.val p)
  | .fcvtu _ p f d a => some (4, fR 0x0C (11 + 64 * (fmtCode f)) 0 a.val d.val p)
  | .icvtf _ p f d a => some (4, fR 0x0C (12 + 64 * (fmtCode f)) 0 a.val d.val p)
  | .ucvtf _ p f d a => some (4, fR 0x0C (13 + 64 * (fmtCode f)) 0 a.val d.val p)
  | .fclass _ p f d a => some (4, fR 0x0C (14 + 64 * (fmtCode f)) 0 a.val d.val p)
  | .fma _ p f d a b => some (4, fR 0x0D (fmtCode f) b.val a.val d.val p)
  | .fnma _ p f d a b => some (4, fR 0x0D (2 + (fmtCode f)) b.val a.val d.val p)
  | .fcmp _ p c f d a b => some (4, fR 0x0E (fcmpCode c + 64 * (fmtCode f)) b.val a.val d.val p)
  | .br _ p disp => some (4, fB 0x10 disp.toNat p)
  | .call _ p disp => some (4, fB 0x11 disp.toNat p)
  | .jmp _ p a => some (4, fR 0x12 0 0 a.val 0 p)
  | .jmpl _ p d a => some (4, fR 0x12 1 0 a.val d.val p)
  | .ldb _ p d a imm => some (4, fI 0x14 imm.toNat a.val d.val p)
  | .ldbu _ p d a imm => some (4, fI 0x15 imm.toNat a.val d.val p)
  | .ldh _ p d a imm => some (4, fI 0x16 imm.toNat a.val d.val p)
  | .ldhu _ p d a imm => some (4, fI 0x17 imm.toNat a.val d.val p)
  | .ldw _ p d a imm => some (4, fI 0x18 imm.toNat a.val d.val p)
  | .ldwu _ p d a imm => some (4, fI 0x19 imm.toNat a.val d.val p)
  | .ldd _ p d a imm => some (4, fI 0x1A imm.toNat a.val d.val p)
  | .stb _ p d a imm => some (4, fI 0x1B imm.toNat a.val d.val p)
  | .sth _ p d a imm => some (4, fI 0x1C imm.toNat a.val d.val p)
  | .stw _ p d a imm => some (4, fI 0x1D imm.toNat a.val d.val p)
  | .std _ p d a imm => some (4, fI 0x1E imm.toNat a.val d.val p)
  | .vld _ p d a imm => some (4, fI 0x1F imm.toNat a.val d.val p)
  | .vst _ p d a imm => some (4, fI 0x20 imm.toNat a.val d.val p)
  | .portIn _ p d port => some (4, fP 0x28 port.toNat d.val p)
  | .portOut _ p d port => some (4, fP 0x29 port.toNat d.val p)
  | .inr _ p d a => some (4, fR 0x2A 0 0 a.val d.val p)
  | .outr _ p d a => some (4, fR 0x2B 0 0 a.val d.val p)
  | .smove _ p sz d a b => some (4, fR 0x38 (sizeCode sz) b.val a.val d.val p)
  | .sfill _ p sz d a b => some (4, fR 0x39 (sizeCode sz) b.val a.val d.val p)
  | .scmp _ p sz d a b => some (4, fR 0x3A (sizeCode sz) b.val a.val d.val p)
  | .sscan _ p sz d a b => some (4, fR 0x3B (sizeCode sz) b.val a.val d.val p)
  | .sscann _ p sz d a b => some (4, fR 0x3B (sizeCode sz + 4) b.val a.val d.val p)
  | .cload _ p d a b => some (4, fR 0x3C 0 b.val a.val d.val p)
  | .cread _ p d a b => some (4, fR 0x3D 0 b.val a.val d.val p)
  | .send _ p q a b => some (4, fR 0x36 0 b.val a.val q.val p)
  | .nop _ p => some (4, fS 0 0 p)
  | .fence _ p scope => some (4, fS 1 scope.val p)
  | .trap _ p n => some (4, fS 2 n.toNat p)
  | .rett _ => some (4, fS 3 0 0)
  | .hold _ n => some (4, fU 0x31 n.toNat 0 0)
  | .vmov _ p m d a => some (4, fV 0x21 0 m.val 0 a.val d.val p)
  | .vbcast _ p m w d a => some (4, fV 0x21 1 m.val (laneCode w) a.val d.val p)
  | .vext _ p d a i => some (4, fV 0x21 2 0 i.val a.val d.val p)
  | .vins _ p d a i => some (4, fV 0x21 3 0 i.val a.val d.val p)
  | .vrotb _ p m d a b => some (4, fV 0x21 4 m.val b.val a.val d.val p)
  | .vsel _ p m d a b => some (4, fV 0x21 5 m.val b.val a.val d.val p)
  | .vtot _ p d a r => some (4, fV 0x21 6 0 r.val a.val d.val p)
  | .vfromt _ p d a r _ => some (4, fV 0x21 7 0 r.val a.val d.val p)
  | .mlog _ p op d a b => some (4, fV 0x21 8 (mopCode op) b.val a.val d.val p)
  | .mfromg _ p d a => some (4, fV 0x21 9 0 0 a.val d.val p)
  | .mtog _ p d a => some (4, fV 0x21 10 0 0 a.val d.val p)
  | .tinfo _ p d sel => some (4, fV 0x21 11 0 sel.val 0 d.val p)
  | .vtz _ p m d a => some (4, fV 0x21 12 m.val 0 a.val d.val p)
  | .vzbm _ p d a k => some (4, fV 0x21 13 0 k.val a.val d.val p)
  | .vadd _ p w m d a b => some (4, fV (0x22 + (laneCode w)) 0 m.val b.val a.val d.val p)
  | .vsub _ p w m d a b => some (4, fV (0x22 + (laneCode w)) 1 m.val b.val a.val d.val p)
  | .vmul _ p w m d a b => some (4, fV (0x22 + (laneCode w)) 2 m.val b.val a.val d.val p)
  | .vmin _ p w m d a b => some (4, fV (0x22 + (laneCode w)) 3 m.val b.val a.val d.val p)
  | .vmax _ p w m d a b => some (4, fV (0x22 + (laneCode w)) 4 m.val b.val a.val d.val p)
  | .vminu _ p w m d a b => some (4, fV (0x22 + (laneCode w)) 5 m.val b.val a.val d.val p)
  | .vmaxu _ p w m d a b => some (4, fV (0x22 + (laneCode w)) 6 m.val b.val a.val d.val p)
  | .vand _ p w m d a b => some (4, fV (0x22 + (laneCode w)) 7 m.val b.val a.val d.val p)
  | .vor _ p w m d a b => some (4, fV (0x22 + (laneCode w)) 8 m.val b.val a.val d.val p)
  | .vxor _ p w m d a b => some (4, fV (0x22 + (laneCode w)) 9 m.val b.val a.val d.val p)
  | .vshl _ p w m d a b => some (4, fV (0x22 + (laneCode w)) 10 m.val b.val a.val d.val p)
  | .vshr _ p w m d a b => some (4, fV (0x22 + (laneCode w)) 11 m.val b.val a.val d.val p)
  | .vsar _ p w m d a b => some (4, fV (0x22 + (laneCode w)) 12 m.val b.val a.val d.val p)
  | .vcmpeq _ p w m d a b => some (4, fV (0x22 + (laneCode w)) 13 m.val b.val a.val d.val p)
  | .vcmplt _ p w m d a b => some (4, fV (0x22 + (laneCode w)) 14 m.val b.val a.val d.val p)
  | .vcmpltu _ p w m d a b => some (4, fV (0x22 + (laneCode w)) 15 m.val b.val a.val d.val p)
  | .vfadd _ p f m d a b => some (4, fV (0x27 - (fmtCode f)) 0 m.val b.val a.val d.val p)
  | .vfsub _ p f m d a b => some (4, fV (0x27 - (fmtCode f)) 1 m.val b.val a.val d.val p)
  | .vfmul _ p f m d a b => some (4, fV (0x27 - (fmtCode f)) 2 m.val b.val a.val d.val p)
  | .vfdiv _ p f m d a b => some (4, fV (0x27 - (fmtCode f)) 3 m.val b.val a.val d.val p)
  | .vfsqrt _ p f m d a => some (4, fV (0x27 - (fmtCode f)) 4 m.val 0 a.val d.val p)
  | .vfma _ p f m d a b => some (4, fV (0x27 - (fmtCode f)) 5 m.val b.val a.val d.val p)
  | .vfnma _ p f m d a b => some (4, fV (0x27 - (fmtCode f)) 6 m.val b.val a.val d.val p)
  | .vfmin _ p f m d a b => some (4, fV (0x27 - (fmtCode f)) 7 m.val b.val a.val d.val p)
  | .vfmax _ p f m d a b => some (4, fV (0x27 - (fmtCode f)) 8 m.val b.val a.val d.val p)
  | .vfabs _ p f m d a => some (4, fV (0x27 - (fmtCode f)) 9 m.val 0 a.val d.val p)
  | .vfneg _ p f m d a => some (4, fV (0x27 - (fmtCode f)) 10 m.val 0 a.val d.val p)
  | .vfcmpeq _ p f m d a b => some (4, fV (0x27 - (fmtCode f)) 11 m.val b.val a.val d.val p)
  | .vfcmplt _ p f m d a b => some (4, fV (0x27 - (fmtCode f)) 12 m.val b.val a.val d.val p)
  | .vfcmple _ p f m d a b => some (4, fV (0x27 - (fmtCode f)) 13 m.val b.val a.val d.val p)
  | .vfcmpun _ p f m d a b => some (4, fV (0x27 - (fmtCode f)) 14 m.val b.val a.val d.val p)
  | .vcvts _ p f m d a => some (4, fV 0x35 0 m.val f.val a.val d.val p)
  | .vcvtf _ p f sr m d a => some (4, fV 0x35 1 m.val (f.val + 16 * b2n sr) a.val d.val p)
  | .vcvtis _ p m d a => some (4, fV 0x35 2 m.val 0 a.val d.val p)
  | .vcvtsi _ p m d a => some (4, fV 0x35 3 m.val 0 a.val d.val p)
  | .vcvtld _ p m d a => some (4, fV 0x35 4 m.val 0 a.val d.val p)
  | .vcvtdl _ p m d a => some (4, fV 0x35 5 m.val 0 a.val d.val p)
  | .vunpkt2 _ p m d a => some (4, fV 0x35 6 m.val 0 a.val d.val p)
  | .vpackt2 _ p m d a => some (4, fV 0x35 7 m.val 0 a.val d.val p)
  | .tcfg _ p a mask => some (4, fI 0x2C mask.toNat a.val 0 p)
  | .tld _ p d a b => some (4, fR 0x2D 0 b.val a.val d.val p)
  | .tst _ p d a b _ => some (4, fR 0x2E 0 b.val a.val d.val p)
  | .trel _ p mask => some (4, fI 0x2F mask.toNat 0 0 p)
  | .mma _ p acc sp tm tb ta ad _ => some (4, fT (b2n acc) (b2n sp) tm.val tb.val ta.val ad.val p)
  | .acvt _ p wide half row b dv aa d => some (4, fAC (b2n wide) (b2n half) row.val b.val (b2n dv) aa.val d.val p)
  | .azero _ p d => some (4, fR 0x34 0 0 0 d.val p)
  | .ald _ p d a => some (4, fR 0x34 1 0 a.val d.val p)
  | .ast _ p d a => some (4, fR 0x34 2 0 a.val d.val p)
  | .mov16 _ d r => some (2, fC 0 r.val d.val)
  | .add16 _ d r => some (2, fC 0 (16 * 1 + r.val) d.val)
  | .sub16 _ d r => some (2, fC 0 (16 * 2 + r.val) d.val)
  | .and16 _ d r => some (2, fC 0 (16 * 3 + r.val) d.val)
  | .or16 _ d r => some (2, fC 0 (16 * 4 + r.val) d.val)
  | .xor16 _ d r => some (2, fC 0 (16 * 5 + r.val) d.val)
  | .shl16 _ d r => some (2, fC 0 (16 * 6 + r.val) d.val)
  | .shr16 _ d r => some (2, fC 0 (16 * 7 + r.val) d.val)
  | .addi16 _ d imm => some (2, fC 1 imm.toNat d.val)
  | .movi16 _ d imm => some (2, fC 2 imm.toNat d.val)
  | .shli16 _ d n => some (2, fC 3 (0 + n.toNat) d.val)
  | .shri16 _ d n => some (2, fC 3 (32 + n.toNat) d.val)
  | .sari16 _ d n => some (2, fC 3 (64 + n.toNat) d.val)
  | .ldd16 _ d b off => some (2, fC 4 (16 * off.toNat + b.val) d.val)
  | .std16 _ d b off => some (2, fC 5 (16 * off.toNat + b.val) d.val)
  | .ldw16 _ d b off => some (2, fC 6 (16 * off.toNat + b.val) d.val)
  | .stw16 _ d b off => some (2, fC 7 (16 * off.toNat + b.val) d.val)
  | .bz16 _ r disp => some (2, fC 8 disp.toNat r.val)
  | .bnz16 _ r disp => some (2, fC 9 disp.toNat r.val)
  | .bltz16 _ r disp => some (2, fC 10 disp.toNat r.val)
  | .bgez16 _ r disp => some (2, fC 11 disp.toNat r.val)
  | .br16 _ disp => some (2, 24 + 32 * disp.toNat)
  | .in16 _ d port => some (2, fC 13 port.toNat d.val)
  | .out16 _ d port => some (2, fC 14 port.toNat d.val)
  | .nop16 _ => some (2, fC 15 0 0)
  | .ret16 _ => some (2, fC 15 0 1)
  | .trap16 _ n => some (2, fC 15 n.toNat 2)
  | _ => none

/-- `ERR_INFO` of a reserved encoding (R113): the word, or the halfword with bit 32 set. -/
def encodeInfo (i : Instr) : Word :=
  match encode i with
  | some (4, w) => BitVec.ofNat 64 w
  | some (_, w) => BitVec.ofNat 64 (w + 2 ^ 32)
  | none => 0

/-- Major opcode 0x01. -/
def decOp01 (h : Hart) (p : Fin 8) (w : BitVec 32) : Option Instr :=
  let fn := fld w 25 7
  let b := fld w 20 5
  let dG := Fin.ofNat 32 (fld w 10 5)
  let aG := Fin.ofNat 32 (fld w 15 5)
  let bG := Fin.ofNat 32 (fld w 20 5)
  if fn = 0 then some (.add h p dG aG bG) else
  if fn = 1 then some (.sub h p dG aG bG) else
  if fn = 2 then some (.and h p dG aG bG) else
  if fn = 3 then some (.or h p dG aG bG) else
  if fn = 4 then some (.xor h p dG aG bG) else
  if fn = 5 then some (.andn h p dG aG bG) else
  if fn = 6 then some (.shl h p dG aG bG) else
  if fn = 7 then some (.shr h p dG aG bG) else
  if fn = 8 then some (.sar h p dG aG bG) else
  if fn = 9 then some (.ror h p dG aG bG) else
  if fn = 10 then some (.mul h p dG aG bG) else
  if fn = 11 then some (.mulh h p dG aG bG) else
  if fn = 12 then some (.mulhu h p dG aG bG) else
  if fn = 13 then some (.div h p dG aG bG) else
  if fn = 14 then some (.divu h p dG aG bG) else
  if fn = 15 then some (.rem h p dG aG bG) else
  if fn = 16 then some (.remu h p dG aG bG) else
  if fn = 17 then some (.min h p dG aG bG) else
  if fn = 18 then some (.max h p dG aG bG) else
  if fn = 19 then some (.minu h p dG aG bG) else
  if fn = 20 then some (.maxu h p dG aG bG) else
  if fn = 21 ∧ b = 0 then some (.clz h p dG aG) else
  if fn = 22 ∧ b = 0 then some (.ctz h p dG aG) else
  if fn = 23 ∧ b = 0 then some (.popc h p dG aG) else
  if fn = 24 ∧ b = 0 then some (.sextb h p dG aG) else
  if fn = 25 ∧ b = 0 then some (.sexth h p dG aG) else
  if fn = 26 ∧ b = 0 then some (.sextw h p dG aG) else
  if fn = 27 ∧ b = 0 then some (.zextw h p dG aG) else
  none

/-- Major opcode 0x02. -/
def decOp02 (h : Hart) (p : Fin 8) (w : BitVec 32) : Option Instr :=
  let dG := Fin.ofNat 32 (fld w 10 5)
  let aG := Fin.ofNat 32 (fld w 15 5)
  let imm12 := BitVec.ofNat 12 (fld w 20 12)
  some (.addi h p dG aG imm12)

/-- Major opcode 0x03. -/
def decOp03 (h : Hart) (p : Fin 8) (w : BitVec 32) : Option Instr :=
  let dG := Fin.ofNat 32 (fld w 10 5)
  let aG := Fin.ofNat 32 (fld w 15 5)
  let imm12 := BitVec.ofNat 12 (fld w 20 12)
  some (.andi h p dG aG imm12)

/-- Major opcode 0x04. -/
def decOp04 (h : Hart) (p : Fin 8) (w : BitVec 32) : Option Instr :=
  let dG := Fin.ofNat 32 (fld w 10 5)
  let aG := Fin.ofNat 32 (fld w 15 5)
  let imm12 := BitVec.ofNat 12 (fld w 20 12)
  some (.ori h p dG aG imm12)

/-- Major opcode 0x05. -/
def decOp05 (h : Hart) (p : Fin 8) (w : BitVec 32) : Option Instr :=
  let dG := Fin.ofNat 32 (fld w 10 5)
  let aG := Fin.ofNat 32 (fld w 15 5)
  let imm12 := BitVec.ofNat 12 (fld w 20 12)
  some (.xori h p dG aG imm12)

/-- Major opcode 0x06. -/
def decOp06 (h : Hart) (p : Fin 8) (w : BitVec 32) : Option Instr :=
  let imm := fld w 20 12
  let dG := Fin.ofNat 32 (fld w 10 5)
  let aG := Fin.ofNat 32 (fld w 15 5)
  let imm6 := BitVec.ofNat 6 (fld w 20 12)
  if imm / 64 = 0 then some (.shli h p dG aG imm6) else
  if imm / 64 = 16 then some (.shri h p dG aG imm6) else
  if imm / 64 = 32 then some (.sari h p dG aG imm6) else
  if imm / 64 = 48 then some (.rori h p dG aG imm6) else
  none

/-- Major opcode 0x07. -/
def decOp07 (h : Hart) (p : Fin 8) (w : BitVec 32) : Option Instr :=
  let dG := Fin.ofNat 32 (fld w 10 5)
  let imm17 := BitVec.ofNat 17 (fld w 15 17)
  some (.movi h p dG imm17)

/-- Major opcode 0x08. -/
def decOp08 (h : Hart) (p : Fin 8) (w : BitVec 32) : Option Instr :=
  let dG := Fin.ofNat 32 (fld w 10 5)
  let port15 := BitVec.ofNat 16 (fld w 15 17)
  if bit w 31 = false then some (.movsh h p dG port15) else
  none

/-- Major opcode 0x09. -/
def decOp09 (h : Hart) (p : Fin 8) (w : BitVec 32) : Option Instr :=
  let fn := fld w 25 7
  let d := fld w 10 5
  let aG := Fin.ofNat 32 (fld w 15 5)
  let bG := Fin.ofNat 32 (fld w 20 5)
  let dP := Fin.ofNat 8 (fld w 10 5)
  if d < 8 ∧ fn < 6 then some (.cmp h p (cmpOf fn) dP aG bG) else
  none

/-- Major opcode 0x0A. -/
def decOp0A (h : Hart) (p : Fin 8) (w : BitVec 32) : Option Instr :=
  let d := fld w 10 5
  let aG := Fin.ofNat 32 (fld w 15 5)
  let dP := Fin.ofNat 8 (fld w 10 5)
  let imm12 := BitVec.ofNat 12 (fld w 20 12)
  some (.cmpi h p (cmpiOf (d / 8)) dP aG imm12)

/-- Major opcode 0x0B. -/
def decOp0B (h : Hart) (p : Fin 8) (w : BitVec 32) : Option Instr :=
  let fn := fld w 25 7
  let b := fld w 20 5
  let a := fld w 15 5
  let d := fld w 10 5
  let dP := Fin.ofNat 8 (fld w 10 5)
  let aP := Fin.ofNat 8 (fld w 15 5)
  let bP := Fin.ofNat 8 (fld w 20 5)
  if fn = 0 ∧ d < 8 ∧ a < 8 ∧ b < 8 then some (.pand h p dP aP bP) else
  if fn = 1 ∧ d < 8 ∧ a < 8 ∧ b < 8 then some (.por h p dP aP bP) else
  if fn = 2 ∧ d < 8 ∧ a < 8 ∧ b < 8 then some (.pxor h p dP aP bP) else
  if fn = 3 ∧ d < 8 ∧ a < 8 ∧ b < 8 then some (.pandn h p dP aP bP) else
  if fn = 4 ∧ d < 8 ∧ a < 8 ∧ b = 0 then some (.pnot h p dP aP) else
  if fn = 5 ∧ d < 8 ∧ a < 8 ∧ b = 0 then some (.pmov h p dP aP) else
  none

/-- Major opcode 0x0C. -/
def decOp0C (h : Hart) (p : Fin 8) (w : BitVec 32) : Option Instr :=
  let fn := fld w 25 7
  let b := fld w 20 5
  let dG := Fin.ofNat 32 (fld w 10 5)
  let aG := Fin.ofNat 32 (fld w 15 5)
  let bG := Fin.ofNat 32 (fld w 20 5)
  if fn % 64 = 0 then some (.fadd h p (fmtOf (fn / 64)) dG aG bG) else
  if fn % 64 = 1 then some (.fsub h p (fmtOf (fn / 64)) dG aG bG) else
  if fn % 64 = 2 then some (.fmul h p (fmtOf (fn / 64)) dG aG bG) else
  if fn % 64 = 3 then some (.fdiv h p (fmtOf (fn / 64)) dG aG bG) else
  if fn % 64 = 4 ∧ b = 0 then some (.fsqrt h p (fmtOf (fn / 64)) dG aG) else
  if fn % 64 = 5 then some (.fmin h p (fmtOf (fn / 64)) dG aG bG) else
  if fn % 64 = 6 then some (.fmax h p (fmtOf (fn / 64)) dG aG bG) else
  if fn % 64 = 7 ∧ b = 0 then some (.fabs h p (fmtOf (fn / 64)) dG aG) else
  if fn % 64 = 8 ∧ b = 0 then some (.fneg h p (fmtOf (fn / 64)) dG aG) else
  if fn % 64 = 9 ∧ b = 0 then some (.fcvt h p (fmtOf (fn / 64)) dG aG) else
  if fn % 64 = 10 ∧ b = 0 then some (.fcvti h p (fmtOf (fn / 64)) dG aG) else
  if fn % 64 = 11 ∧ b = 0 then some (.fcvtu h p (fmtOf (fn / 64)) dG aG) else
  if fn % 64 = 12 ∧ b = 0 then some (.icvtf h p (fmtOf (fn / 64)) dG aG) else
  if fn % 64 = 13 ∧ b = 0 then some (.ucvtf h p (fmtOf (fn / 64)) dG aG) else
  if fn % 64 = 14 ∧ b = 0 then some (.fclass h p (fmtOf (fn / 64)) dG aG) else
  none

/-- Major opcode 0x0D. -/
def decOp0D (h : Hart) (p : Fin 8) (w : BitVec 32) : Option Instr :=
  let fn := fld w 25 7
  let dG := Fin.ofNat 32 (fld w 10 5)
  let aG := Fin.ofNat 32 (fld w 15 5)
  let bG := Fin.ofNat 32 (fld w 20 5)
  if fn < 2 then some (.fma h p (fmtOf fn) dG aG bG) else
  if fn / 2 = 1 then some (.fnma h p (fmtOf (fn % 2)) dG aG bG) else
  none

/-- Major opcode 0x0E. -/
def decOp0E (h : Hart) (p : Fin 8) (w : BitVec 32) : Option Instr :=
  let fn := fld w 25 7
  let d := fld w 10 5
  let aG := Fin.ofNat 32 (fld w 15 5)
  let bG := Fin.ofNat 32 (fld w 20 5)
  let dP := Fin.ofNat 8 (fld w 10 5)
  if d < 8 ∧ fn % 64 < 4 then some (.fcmp h p (fcmpOf (fn % 64)) (fmtOf (fn / 64)) dP aG bG) else
  none

/-- Major opcode 0x10. -/
def decOp10 (h : Hart) (p : Fin 8) (w : BitVec 32) : Option Instr :=
  let disp22 := BitVec.ofNat 22 (fld w 10 22)
  some (.br h p disp22)

/-- Major opcode 0x11. -/
def decOp11 (h : Hart) (p : Fin 8) (w : BitVec 32) : Option Instr :=
  let disp22 := BitVec.ofNat 22 (fld w 10 22)
  some (.call h p disp22)

/-- Major opcode 0x12. -/
def decOp12 (h : Hart) (p : Fin 8) (w : BitVec 32) : Option Instr :=
  let fn := fld w 25 7
  let b := fld w 20 5
  let d := fld w 10 5
  let dG := Fin.ofNat 32 (fld w 10 5)
  let aG := Fin.ofNat 32 (fld w 15 5)
  if fn = 0 ∧ b = 0 ∧ d = 0 then some (.jmp h p aG) else
  if fn = 1 ∧ b = 0 then some (.jmpl h p dG aG) else
  none

/-- Major opcode 0x14. -/
def decOp14 (h : Hart) (p : Fin 8) (w : BitVec 32) : Option Instr :=
  let dG := Fin.ofNat 32 (fld w 10 5)
  let aG := Fin.ofNat 32 (fld w 15 5)
  let imm12 := BitVec.ofNat 12 (fld w 20 12)
  some (.ldb h p dG aG imm12)

/-- Major opcode 0x15. -/
def decOp15 (h : Hart) (p : Fin 8) (w : BitVec 32) : Option Instr :=
  let dG := Fin.ofNat 32 (fld w 10 5)
  let aG := Fin.ofNat 32 (fld w 15 5)
  let imm12 := BitVec.ofNat 12 (fld w 20 12)
  some (.ldbu h p dG aG imm12)

/-- Major opcode 0x16. -/
def decOp16 (h : Hart) (p : Fin 8) (w : BitVec 32) : Option Instr :=
  let dG := Fin.ofNat 32 (fld w 10 5)
  let aG := Fin.ofNat 32 (fld w 15 5)
  let imm12 := BitVec.ofNat 12 (fld w 20 12)
  some (.ldh h p dG aG imm12)

/-- Major opcode 0x17. -/
def decOp17 (h : Hart) (p : Fin 8) (w : BitVec 32) : Option Instr :=
  let dG := Fin.ofNat 32 (fld w 10 5)
  let aG := Fin.ofNat 32 (fld w 15 5)
  let imm12 := BitVec.ofNat 12 (fld w 20 12)
  some (.ldhu h p dG aG imm12)

/-- Major opcode 0x18. -/
def decOp18 (h : Hart) (p : Fin 8) (w : BitVec 32) : Option Instr :=
  let dG := Fin.ofNat 32 (fld w 10 5)
  let aG := Fin.ofNat 32 (fld w 15 5)
  let imm12 := BitVec.ofNat 12 (fld w 20 12)
  some (.ldw h p dG aG imm12)

/-- Major opcode 0x19. -/
def decOp19 (h : Hart) (p : Fin 8) (w : BitVec 32) : Option Instr :=
  let dG := Fin.ofNat 32 (fld w 10 5)
  let aG := Fin.ofNat 32 (fld w 15 5)
  let imm12 := BitVec.ofNat 12 (fld w 20 12)
  some (.ldwu h p dG aG imm12)

/-- Major opcode 0x1A. -/
def decOp1A (h : Hart) (p : Fin 8) (w : BitVec 32) : Option Instr :=
  let dG := Fin.ofNat 32 (fld w 10 5)
  let aG := Fin.ofNat 32 (fld w 15 5)
  let imm12 := BitVec.ofNat 12 (fld w 20 12)
  some (.ldd h p dG aG imm12)

/-- Major opcode 0x1B. -/
def decOp1B (h : Hart) (p : Fin 8) (w : BitVec 32) : Option Instr :=
  let dG := Fin.ofNat 32 (fld w 10 5)
  let aG := Fin.ofNat 32 (fld w 15 5)
  let imm12 := BitVec.ofNat 12 (fld w 20 12)
  some (.stb h p dG aG imm12)

/-- Major opcode 0x1C. -/
def decOp1C (h : Hart) (p : Fin 8) (w : BitVec 32) : Option Instr :=
  let dG := Fin.ofNat 32 (fld w 10 5)
  let aG := Fin.ofNat 32 (fld w 15 5)
  let imm12 := BitVec.ofNat 12 (fld w 20 12)
  some (.sth h p dG aG imm12)

/-- Major opcode 0x1D. -/
def decOp1D (h : Hart) (p : Fin 8) (w : BitVec 32) : Option Instr :=
  let dG := Fin.ofNat 32 (fld w 10 5)
  let aG := Fin.ofNat 32 (fld w 15 5)
  let imm12 := BitVec.ofNat 12 (fld w 20 12)
  some (.stw h p dG aG imm12)

/-- Major opcode 0x1E. -/
def decOp1E (h : Hart) (p : Fin 8) (w : BitVec 32) : Option Instr :=
  let dG := Fin.ofNat 32 (fld w 10 5)
  let aG := Fin.ofNat 32 (fld w 15 5)
  let imm12 := BitVec.ofNat 12 (fld w 20 12)
  some (.std h p dG aG imm12)

/-- Major opcode 0x1F. -/
def decOp1F (h : Hart) (p : Fin 8) (w : BitVec 32) : Option Instr :=
  let dG := Fin.ofNat 32 (fld w 10 5)
  let aG := Fin.ofNat 32 (fld w 15 5)
  let imm12 := BitVec.ofNat 12 (fld w 20 12)
  some (.vld h p dG aG imm12)

/-- Major opcode 0x20. -/
def decOp20 (h : Hart) (p : Fin 8) (w : BitVec 32) : Option Instr :=
  let dG := Fin.ofNat 32 (fld w 10 5)
  let aG := Fin.ofNat 32 (fld w 15 5)
  let imm12 := BitVec.ofNat 12 (fld w 20 12)
  some (.vst h p dG aG imm12)

/-- Major opcode 0x21. -/
def decOp21 (h : Hart) (p : Fin 8) (w : BitVec 32) : Option Instr :=
  let b := fld w 20 5
  let a := fld w 15 5
  let d := fld w 10 5
  let vfn := fld w 28 4
  let m := fld w 25 3
  let dG := Fin.ofNat 32 (fld w 10 5)
  let aG := Fin.ofNat 32 (fld w 15 5)
  let bG := Fin.ofNat 32 (fld w 20 5)
  let dP := Fin.ofNat 8 (fld w 10 5)
  let aP := Fin.ofNat 8 (fld w 15 5)
  let bP := Fin.ofNat 8 (fld w 20 5)
  let mM := Fin.ofNat 8 (fld w 25 3)
  if vfn = 0 ∧ b = 0 then some (.vmov h p mM dG aG) else
  if vfn = 1 ∧ b < 4 then some (.vbcast h p mM (laneOf b) dG aG) else
  if vfn = 2 ∧ m = 0 ∧ b < 8 then some (.vext h p dG aG bP) else
  if vfn = 3 ∧ m = 0 ∧ b < 8 then some (.vins h p dG aG bP) else
  if vfn = 4 then some (.vrotb h p mM dG aG bG) else
  if vfn = 5 then some (.vsel h p mM dG aG bG) else
  if vfn = 6 ∧ m = 0 ∧ d < 8 ∧ b < 16 then some (.vtot h p dP aG (Fin.ofNat 16 b)) else
  if vfn = 7 ∧ m = 0 ∧ a < 8 ∧ b < 16 then some (.vfromt h p dG aP (Fin.ofNat 16 b) []) else
  if vfn = 8 ∧ m < 5 ∧ d < 8 ∧ a < 8 ∧ b < 8 ∧ (m = 4 → b = 0) then some (.mlog h p (mopOf m) dP aP bP) else
  if vfn = 9 ∧ m = 0 ∧ b = 0 ∧ d < 8 then some (.mfromg h p dP aG) else
  if vfn = 10 ∧ m = 0 ∧ b = 0 ∧ a < 8 then some (.mtog h p dG aP) else
  if vfn = 11 ∧ m = 0 ∧ a = 0 ∧ (b ≤ 8 ∨ 16 ≤ b ∧ b ≤ 23) then some (.tinfo h p dG bG) else
  if vfn = 12 ∧ b = 0 ∧ d < 8 then some (.vtz h p mM dP aG) else
  if vfn = 13 ∧ m = 0 ∧ 2 ≤ b ∧ b ≤ 6 then some (.vzbm h p dG aG bP) else
  none

/-- Major opcode 0x28. -/
def decOp28 (h : Hart) (p : Fin 8) (w : BitVec 32) : Option Instr :=
  let dG := Fin.ofNat 32 (fld w 10 5)
  let port16 := BitVec.ofNat 16 (fld w 16 16)
  if bit w 15 = false then some (.portIn h p dG port16) else
  none

/-- Major opcode 0x29. -/
def decOp29 (h : Hart) (p : Fin 8) (w : BitVec 32) : Option Instr :=
  let dG := Fin.ofNat 32 (fld w 10 5)
  let port16 := BitVec.ofNat 16 (fld w 16 16)
  if bit w 15 = false then some (.portOut h p dG port16) else
  none

/-- Major opcode 0x2A. -/
def decOp2A (h : Hart) (p : Fin 8) (w : BitVec 32) : Option Instr :=
  let fn := fld w 25 7
  let b := fld w 20 5
  let dG := Fin.ofNat 32 (fld w 10 5)
  let aG := Fin.ofNat 32 (fld w 15 5)
  if fn = 0 ∧ b = 0 then some (.inr h p dG aG) else
  none

/-- Major opcode 0x2B. -/
def decOp2B (h : Hart) (p : Fin 8) (w : BitVec 32) : Option Instr :=
  let fn := fld w 25 7
  let b := fld w 20 5
  let dG := Fin.ofNat 32 (fld w 10 5)
  let aG := Fin.ofNat 32 (fld w 15 5)
  if fn = 0 ∧ b = 0 then some (.outr h p dG aG) else
  none

/-- Major opcode 0x2C. -/
def decOp2C (h : Hart) (p : Fin 8) (w : BitVec 32) : Option Instr :=
  let d := fld w 10 5
  let imm := fld w 20 12
  let aG := Fin.ofNat 32 (fld w 15 5)
  if imm < 256 ∧ imm ≠ 0 ∧ d = 0 then some (.tcfg h p aG (BitVec.ofNat 8 imm)) else
  none

/-- Major opcode 0x2D. -/
def decOp2D (h : Hart) (p : Fin 8) (w : BitVec 32) : Option Instr :=
  let fn := fld w 25 7
  let d := fld w 10 5
  let aG := Fin.ofNat 32 (fld w 15 5)
  let bG := Fin.ofNat 32 (fld w 20 5)
  let dP := Fin.ofNat 8 (fld w 10 5)
  if fn = 0 ∧ d < 8 then some (.tld h p dP aG bG) else
  none

/-- Major opcode 0x2E. -/
def decOp2E (h : Hart) (p : Fin 8) (w : BitVec 32) : Option Instr :=
  let fn := fld w 25 7
  let d := fld w 10 5
  let aG := Fin.ofNat 32 (fld w 15 5)
  let bG := Fin.ofNat 32 (fld w 20 5)
  let dP := Fin.ofNat 8 (fld w 10 5)
  if fn = 0 ∧ d < 8 then some (.tst h p dP aG bG []) else
  none

/-- Major opcode 0x2F. -/
def decOp2F (h : Hart) (p : Fin 8) (w : BitVec 32) : Option Instr :=
  let a := fld w 15 5
  let d := fld w 10 5
  let imm := fld w 20 12
  if imm < 256 ∧ a = 0 ∧ d = 0 then some (.trel h p (BitVec.ofNat 8 imm)) else
  none

/-- Major opcode 0x30. -/
def decOp30 (h : Hart) (p : Fin 8) (w : BitVec 32) : Option Instr :=
  let a := fld w 15 5
  let d := fld w 10 5
  let sub := fld w 20 4
  let imm8 := fld w 24 8
  if sub = 0 ∧ imm8 = 0 ∧ a = 0 ∧ d = 0 then some (.nop h p) else
  if sub = 1 ∧ imm8 < 8 ∧ a = 0 ∧ d = 0 then some (.fence h p (Fin.ofNat 8 imm8)) else
  if sub = 2 ∧ a = 0 ∧ d = 0 then some (.trap h p (BitVec.ofNat 8 imm8)) else
  if sub = 3 ∧ imm8 = 0 ∧ a = 0 ∧ d = 0 ∧ p = 0 then some (.rett h) else
  none

/-- Major opcode 0x31. -/
def decOp31 (h : Hart) (p : Fin 8) (w : BitVec 32) : Option Instr :=
  let d := fld w 10 5
  let imm17 := BitVec.ofNat 17 (fld w 15 17)
  if d = 0 ∧ p = 0 ∧ 1 ≤ fld w 15 17 ∧ fld w 15 17 ≤ 512 then some (.hold h imm17) else
  none

/-- Major opcode 0x32. -/
def decOp32 (h : Hart) (p : Fin 8) (w : BitVec 32) : Option Instr :=
  if fld w 24 8 = 0 ∧ bit w 12 = false ∧ (bit w 22 = false → fld w 19 3 = 0) then some (.mma h p (bit w 23) (bit w 22) (Fin.ofNat 8 (fld w 19 3)) (Fin.ofNat 8 (fld w 16 3)) (Fin.ofNat 8 (fld w 13 3)) (Fin.ofNat 4 (fld w 10 2)) []) else
  none

/-- Major opcode 0x33. -/
def decOp33 (h : Hart) (p : Fin 8) (w : BitVec 32) : Option Instr :=
  let d := fld w 10 5
  let dG := Fin.ofNat 32 (fld w 10 5)
  if fld w 29 3 = 0 ∧ (bit w 28 → bit w 15 = false ∧ bit w 27 = false) ∧ (bit w 17 = false → fld w 23 4 = 0 ∧ d < 8) then
    some (.acvt h p (bit w 28) (bit w 27) (Fin.ofNat 16 (fld w 23 4)) (Fin.ofNat 32 (fld w 18 5)) (bit w 17) (Fin.ofNat 4 (fld w 15 2)) dG)
  else
  none

/-- Major opcode 0x34. -/
def decOp34 (h : Hart) (p : Fin 8) (w : BitVec 32) : Option Instr :=
  let fn := fld w 25 7
  let b := fld w 20 5
  let a := fld w 15 5
  let d := fld w 10 5
  let aG := Fin.ofNat 32 (fld w 15 5)
  if fn = 0 ∧ d < 4 ∧ a = 0 ∧ b = 0 then some (.azero h p (Fin.ofNat 4 d)) else
  if fn = 1 ∧ d < 4 ∧ b = 0 then some (.ald h p (Fin.ofNat 4 d) aG) else
  if fn = 2 ∧ d < 4 ∧ b = 0 then some (.ast h p (Fin.ofNat 4 d) aG) else
  none

/-- Major opcode 0x35. -/
def decOp35 (h : Hart) (p : Fin 8) (w : BitVec 32) : Option Instr :=
  let b := fld w 20 5
  let vfn := fld w 28 4
  let dG := Fin.ofNat 32 (fld w 10 5)
  let aG := Fin.ofNat 32 (fld w 15 5)
  let mM := Fin.ofNat 8 (fld w 25 3)
  if vfn = 0 ∧ b < 12 ∧ b ≠ 1 then some (.vcvts h p (Fin.ofNat 16 b) mM dG aG) else
  if vfn = 1 ∧ b % 16 < 12 ∧ b % 16 ≠ 1 ∧ (16 ≤ b → 2 ≤ b % 16) then some (.vcvtf h p (Fin.ofNat 16 b) (decide (16 ≤ b)) mM dG aG) else
  if vfn = 2 ∧ b = 0 then some (.vcvtis h p mM dG aG) else
  if vfn = 3 ∧ b = 0 then some (.vcvtsi h p mM dG aG) else
  if vfn = 4 ∧ b = 0 then some (.vcvtld h p mM dG aG) else
  if vfn = 5 ∧ b = 0 then some (.vcvtdl h p mM dG aG) else
  if vfn = 6 ∧ b = 0 then some (.vunpkt2 h p mM dG aG) else
  if vfn = 7 ∧ b = 0 then some (.vpackt2 h p mM dG aG) else
  none

/-- Major opcode 0x36. -/
def decOp36 (h : Hart) (p : Fin 8) (w : BitVec 32) : Option Instr :=
  let fn := fld w 25 7
  let a := fld w 15 5
  let d := fld w 10 5
  let aG := Fin.ofNat 32 (fld w 15 5)
  let bG := Fin.ofNat 32 (fld w 20 5)
  if fn = 0 ∧ d < 16 ∧ a % 2 = 0 then some (.send h p (Fin.ofNat 16 d) aG bG) else
  none

/-- Major opcode 0x38. -/
def decOp38 (h : Hart) (p : Fin 8) (w : BitVec 32) : Option Instr :=
  let fn := fld w 25 7
  let b := fld w 20 5
  let a := fld w 15 5
  let d := fld w 10 5
  let dG := Fin.ofNat 32 (fld w 10 5)
  let aG := Fin.ofNat 32 (fld w 15 5)
  let bG := Fin.ofNat 32 (fld w 20 5)
  if fn / 4 = 0 ∧ d ≠ a ∧ d ≠ b ∧ a ≠ b then some (.smove h p (sizeOf (fn % 4)) dG aG bG) else
  none

/-- Major opcode 0x39. -/
def decOp39 (h : Hart) (p : Fin 8) (w : BitVec 32) : Option Instr :=
  let fn := fld w 25 7
  let b := fld w 20 5
  let a := fld w 15 5
  let d := fld w 10 5
  let dG := Fin.ofNat 32 (fld w 10 5)
  let aG := Fin.ofNat 32 (fld w 15 5)
  let bG := Fin.ofNat 32 (fld w 20 5)
  if fn / 4 = 0 ∧ d ≠ a ∧ d ≠ b ∧ a ≠ b then some (.sfill h p (sizeOf (fn % 4)) dG aG bG) else
  none

/-- Major opcode 0x3A. -/
def decOp3A (h : Hart) (p : Fin 8) (w : BitVec 32) : Option Instr :=
  let fn := fld w 25 7
  let b := fld w 20 5
  let a := fld w 15 5
  let d := fld w 10 5
  let dG := Fin.ofNat 32 (fld w 10 5)
  let aG := Fin.ofNat 32 (fld w 15 5)
  let bG := Fin.ofNat 32 (fld w 20 5)
  if fn / 4 = 0 ∧ d ≠ a ∧ d ≠ b ∧ a ≠ b then some (.scmp h p (sizeOf (fn % 4)) dG aG bG) else
  none

/-- Major opcode 0x3B. -/
def decOp3B (h : Hart) (p : Fin 8) (w : BitVec 32) : Option Instr :=
  let fn := fld w 25 7
  let b := fld w 20 5
  let a := fld w 15 5
  let d := fld w 10 5
  let dG := Fin.ofNat 32 (fld w 10 5)
  let aG := Fin.ofNat 32 (fld w 15 5)
  let bG := Fin.ofNat 32 (fld w 20 5)
  if fn / 4 = 0 ∧ d ≠ a ∧ d ≠ b ∧ a ≠ b then some (.sscan h p (sizeOf (fn % 4)) dG aG bG) else
  if fn / 4 = 1 ∧ d ≠ a ∧ d ≠ b ∧ a ≠ b then some (.sscann h p (sizeOf (fn % 4)) dG aG bG) else
  none

/-- Major opcode 0x3C. -/
def decOp3C (h : Hart) (p : Fin 8) (w : BitVec 32) : Option Instr :=
  let fn := fld w 25 7
  let b := fld w 20 5
  let a := fld w 15 5
  let d := fld w 10 5
  let dG := Fin.ofNat 32 (fld w 10 5)
  let aG := Fin.ofNat 32 (fld w 15 5)
  let bG := Fin.ofNat 32 (fld w 20 5)
  if fn = 0 ∧ d ≠ a ∧ d ≠ b ∧ a ≠ b then some (.cload h p dG aG bG) else
  none

/-- Major opcode 0x3D. -/
def decOp3D (h : Hart) (p : Fin 8) (w : BitVec 32) : Option Instr :=
  let fn := fld w 25 7
  let b := fld w 20 5
  let a := fld w 15 5
  let d := fld w 10 5
  let dG := Fin.ofNat 32 (fld w 10 5)
  let aG := Fin.ofNat 32 (fld w 15 5)
  let bG := Fin.ofNat 32 (fld w 20 5)
  if fn = 0 ∧ d ≠ a ∧ d ≠ b ∧ a ≠ b then some (.cread h p dG aG bG) else
  none

/-- Vector integer groups, by lane width (R151). -/
def decVecInt (h : Hart) (p : Fin 8) (lane : LaneW) (w : BitVec 32) : Option Instr :=
  let d := fld w 10 5
  let vfn := fld w 28 4
  let dG := Fin.ofNat 32 (fld w 10 5)
  let aG := Fin.ofNat 32 (fld w 15 5)
  let bG := Fin.ofNat 32 (fld w 20 5)
  let dP := Fin.ofNat 8 (fld w 10 5)
  let mM := Fin.ofNat 8 (fld w 25 3)
  if vfn = 0 then some (.vadd h p lane mM dG aG bG) else
  if vfn = 1 then some (.vsub h p lane mM dG aG bG) else
  if vfn = 2 then some (.vmul h p lane mM dG aG bG) else
  if vfn = 3 then some (.vmin h p lane mM dG aG bG) else
  if vfn = 4 then some (.vmax h p lane mM dG aG bG) else
  if vfn = 5 then some (.vminu h p lane mM dG aG bG) else
  if vfn = 6 then some (.vmaxu h p lane mM dG aG bG) else
  if vfn = 7 then some (.vand h p lane mM dG aG bG) else
  if vfn = 8 then some (.vor h p lane mM dG aG bG) else
  if vfn = 9 then some (.vxor h p lane mM dG aG bG) else
  if vfn = 10 then some (.vshl h p lane mM dG aG bG) else
  if vfn = 11 then some (.vshr h p lane mM dG aG bG) else
  if vfn = 12 then some (.vsar h p lane mM dG aG bG) else
  if vfn = 13 ∧ d < 8 then some (.vcmpeq h p lane mM dP aG bG) else
  if vfn = 14 ∧ d < 8 then some (.vcmplt h p lane mM dP aG bG) else
  if vfn = 15 ∧ d < 8 then some (.vcmpltu h p lane mM dP aG bG) else
  none

/-- Vector floating-point groups (R151). -/
def decVecFp (h : Hart) (p : Fin 8) (ff : FpFmt) (w : BitVec 32) : Option Instr :=
  let b := fld w 20 5
  let d := fld w 10 5
  let vfn := fld w 28 4
  let dG := Fin.ofNat 32 (fld w 10 5)
  let aG := Fin.ofNat 32 (fld w 15 5)
  let bG := Fin.ofNat 32 (fld w 20 5)
  let dP := Fin.ofNat 8 (fld w 10 5)
  let mM := Fin.ofNat 8 (fld w 25 3)
  if vfn = 0 then some (.vfadd h p ff mM dG aG bG) else
  if vfn = 1 then some (.vfsub h p ff mM dG aG bG) else
  if vfn = 2 then some (.vfmul h p ff mM dG aG bG) else
  if vfn = 3 then some (.vfdiv h p ff mM dG aG bG) else
  if vfn = 4 ∧ b = 0 then some (.vfsqrt h p ff mM dG aG) else
  if vfn = 5 then some (.vfma h p ff mM dG aG bG) else
  if vfn = 6 then some (.vfnma h p ff mM dG aG bG) else
  if vfn = 7 then some (.vfmin h p ff mM dG aG bG) else
  if vfn = 8 then some (.vfmax h p ff mM dG aG bG) else
  if vfn = 9 ∧ b = 0 then some (.vfabs h p ff mM dG aG) else
  if vfn = 10 ∧ b = 0 then some (.vfneg h p ff mM dG aG) else
  if vfn = 11 ∧ d < 8 then some (.vfcmpeq h p ff mM dP aG bG) else
  if vfn = 12 ∧ d < 8 then some (.vfcmplt h p ff mM dP aG bG) else
  if vfn = 13 ∧ d < 8 then some (.vfcmple h p ff mM dP aG bG) else
  if vfn = 14 ∧ d < 8 then some (.vfcmpun h p ff mM dP aG bG) else
  none

/-- A 32-bit instruction word (R100). -/
def decode32 (h : Hart) (w : BitVec 32) : Option Instr :=
  let p := Fin.ofNat 8 (fld w 1 3)
  match fld w 4 6 with
  | 0x01 => decOp01 h p w
  | 0x02 => decOp02 h p w
  | 0x03 => decOp03 h p w
  | 0x04 => decOp04 h p w
  | 0x05 => decOp05 h p w
  | 0x06 => decOp06 h p w
  | 0x07 => decOp07 h p w
  | 0x08 => decOp08 h p w
  | 0x09 => decOp09 h p w
  | 0x0A => decOp0A h p w
  | 0x0B => decOp0B h p w
  | 0x0C => decOp0C h p w
  | 0x0D => decOp0D h p w
  | 0x0E => decOp0E h p w
  | 0x10 => decOp10 h p w
  | 0x11 => decOp11 h p w
  | 0x12 => decOp12 h p w
  | 0x14 => decOp14 h p w
  | 0x15 => decOp15 h p w
  | 0x16 => decOp16 h p w
  | 0x17 => decOp17 h p w
  | 0x18 => decOp18 h p w
  | 0x19 => decOp19 h p w
  | 0x1A => decOp1A h p w
  | 0x1B => decOp1B h p w
  | 0x1C => decOp1C h p w
  | 0x1D => decOp1D h p w
  | 0x1E => decOp1E h p w
  | 0x1F => decOp1F h p w
  | 0x20 => decOp20 h p w
  | 0x21 => decOp21 h p w
  | 0x28 => decOp28 h p w
  | 0x29 => decOp29 h p w
  | 0x2A => decOp2A h p w
  | 0x2B => decOp2B h p w
  | 0x2C => decOp2C h p w
  | 0x2D => decOp2D h p w
  | 0x2E => decOp2E h p w
  | 0x2F => decOp2F h p w
  | 0x30 => decOp30 h p w
  | 0x31 => decOp31 h p w
  | 0x32 => decOp32 h p w
  | 0x33 => decOp33 h p w
  | 0x34 => decOp34 h p w
  | 0x35 => decOp35 h p w
  | 0x36 => decOp36 h p w
  | 0x38 => decOp38 h p w
  | 0x39 => decOp39 h p w
  | 0x3A => decOp3A h p w
  | 0x3B => decOp3B h p w
  | 0x3C => decOp3C h p w
  | 0x3D => decOp3D h p w
  | 0x22 => decVecInt h p .w1 w
  | 0x23 => decVecInt h p .w2 w
  | 0x24 => decVecInt h p .w4 w
  | 0x25 => decVecInt h p .w8 w
  | 0x26 => decVecFp h p .s w
  | 0x27 => decVecFp h p .d w
  | _ => none

/-- Compact opcode 0. -/
def decCop0 (h : Hart) (w : BitVec 32) : Option Instr :=
  let f3 := fld w 13 3
  let r := fld w 9 4
  let d := fld w 5 4
  let dC := Fin.ofNat 16 (fld w 5 4)
  let rC := Fin.ofNat 16 (fld w 9 4)
  if f3 = 0 ∧ r ≠ d then some (.mov16 h dC rC) else
  if f3 = 1 then some (.add16 h dC rC) else
  if f3 = 2 then some (.sub16 h dC rC) else
  if f3 = 3 then some (.and16 h dC rC) else
  if f3 = 4 then some (.or16 h dC rC) else
  if f3 = 5 then some (.xor16 h dC rC) else
  if f3 = 6 then some (.shl16 h dC rC) else
  if f3 = 7 then some (.shr16 h dC rC) else
  none

/-- Compact opcode 1. -/
def decCop1 (h : Hart) (w : BitVec 32) : Option Instr :=
  let dC := Fin.ofNat 16 (fld w 5 4)
  let imm7 := BitVec.ofNat 7 (fld w 9 7)
  some (.addi16 h dC imm7)

/-- Compact opcode 2. -/
def decCop2 (h : Hart) (w : BitVec 32) : Option Instr :=
  let dC := Fin.ofNat 16 (fld w 5 4)
  let imm7 := BitVec.ofNat 7 (fld w 9 7)
  some (.movi16 h dC imm7)

/-- Compact opcode 3. -/
def decCop3 (h : Hart) (w : BitVec 32) : Option Instr :=
  let i7 := fld w 9 7
  let dC := Fin.ofNat 16 (fld w 5 4)
  if i7 / 32 = 0 then some (.shli16 h dC (BitVec.ofNat 5 i7)) else
  if i7 / 32 = 1 then some (.shri16 h dC (BitVec.ofNat 5 i7)) else
  if i7 / 32 = 2 then some (.sari16 h dC (BitVec.ofNat 5 i7)) else
  none

/-- Compact opcode 4. -/
def decCop4 (h : Hart) (w : BitVec 32) : Option Instr :=
  let f3 := fld w 13 3
  let dC := Fin.ofNat 16 (fld w 5 4)
  let rC := Fin.ofNat 16 (fld w 9 4)
  some (.ldd16 h dC rC (BitVec.ofNat 3 f3))

/-- Compact opcode 5. -/
def decCop5 (h : Hart) (w : BitVec 32) : Option Instr :=
  let f3 := fld w 13 3
  let dC := Fin.ofNat 16 (fld w 5 4)
  let rC := Fin.ofNat 16 (fld w 9 4)
  some (.std16 h dC rC (BitVec.ofNat 3 f3))

/-- Compact opcode 6. -/
def decCop6 (h : Hart) (w : BitVec 32) : Option Instr :=
  let f3 := fld w 13 3
  let dC := Fin.ofNat 16 (fld w 5 4)
  let rC := Fin.ofNat 16 (fld w 9 4)
  some (.ldw16 h dC rC (BitVec.ofNat 3 f3))

/-- Compact opcode 7. -/
def decCop7 (h : Hart) (w : BitVec 32) : Option Instr :=
  let f3 := fld w 13 3
  let dC := Fin.ofNat 16 (fld w 5 4)
  let rC := Fin.ofNat 16 (fld w 9 4)
  some (.stw16 h dC rC (BitVec.ofNat 3 f3))

/-- Compact opcode 8. -/
def decCop8 (h : Hart) (w : BitVec 32) : Option Instr :=
  let dC := Fin.ofNat 16 (fld w 5 4)
  let imm7 := BitVec.ofNat 7 (fld w 9 7)
  some (.bz16 h dC imm7)

/-- Compact opcode 9. -/
def decCop9 (h : Hart) (w : BitVec 32) : Option Instr :=
  let dC := Fin.ofNat 16 (fld w 5 4)
  let imm7 := BitVec.ofNat 7 (fld w 9 7)
  some (.bnz16 h dC imm7)

/-- Compact opcode 10. -/
def decCop10 (h : Hart) (w : BitVec 32) : Option Instr :=
  let dC := Fin.ofNat 16 (fld w 5 4)
  let imm7 := BitVec.ofNat 7 (fld w 9 7)
  some (.bltz16 h dC imm7)

/-- Compact opcode 11. -/
def decCop11 (h : Hart) (w : BitVec 32) : Option Instr :=
  let dC := Fin.ofNat 16 (fld w 5 4)
  let imm7 := BitVec.ofNat 7 (fld w 9 7)
  some (.bgez16 h dC imm7)

/-- Compact opcode 12. -/
def decCop12 (h : Hart) (w : BitVec 32) : Option Instr :=
  some (.br16 h (BitVec.ofNat 11 (fld w 5 11)))

/-- Compact opcode 13. -/
def decCop13 (h : Hart) (w : BitVec 32) : Option Instr :=
  let dC := Fin.ofNat 16 (fld w 5 4)
  let imm7 := BitVec.ofNat 7 (fld w 9 7)
  some (.in16 h dC imm7)

/-- Compact opcode 14. -/
def decCop14 (h : Hart) (w : BitVec 32) : Option Instr :=
  let dC := Fin.ofNat 16 (fld w 5 4)
  let imm7 := BitVec.ofNat 7 (fld w 9 7)
  some (.out16 h dC imm7)

/-- Compact opcode 15. -/
def decCop15 (h : Hart) (w : BitVec 32) : Option Instr :=
  let d := fld w 5 4
  let i7 := fld w 9 7
  let imm7 := BitVec.ofNat 7 (fld w 9 7)
  if d = 0 ∧ i7 = 0 then some (.nop16 h) else
  if d = 1 ∧ i7 = 0 then some (.ret16 h) else
  if d = 2 then some (.trap16 h imm7) else
  none

/-- A compact instruction, in bits [15:0] (R101). -/
def decode16 (h : Hart) (w : BitVec 32) : Option Instr :=
  match fld w 1 4 with
  | 0 => decCop0 h w
  | 1 => decCop1 h w
  | 2 => decCop2 h w
  | 3 => decCop3 h w
  | 4 => decCop4 h w
  | 5 => decCop5 h w
  | 6 => decCop6 h w
  | 7 => decCop7 h w
  | 8 => decCop8 h w
  | 9 => decCop9 h w
  | 10 => decCop10 h w
  | 11 => decCop11 h w
  | 12 => decCop12 h w
  | 13 => decCop13 h w
  | 14 => decCop14 h w
  | 15 => decCop15 h w
  | _ => none

/-- The instruction a word stands for; none for a reserved encoding (R97). -/
def decodeWord (h : Hart) (w : BitVec 32) : Option Instr :=
  if bit w 0 then decode32 h w else decode16 h w

end Sys2Proof.Machine
end

