-- ==== Sys2Proof/Config.lean ====
section
/-!
DEFINITION. The values the manual leaves open (free values): opaque, so nothing can be proved of
them, and a statement holds whatever they are.
-/
namespace Sys2Proof.Config
open Sys2Proof

/-- General register `i` of a thread after its `n`-th start, until the thread writes it (R79, R88). -/
opaque freeG : Nat → Nat → Word
/-- Predicate register (R88). -/
opaque freeP : Nat → Nat → Bool
/-- Vector register (R88). -/
opaque freeV : Nat → Nat → BitVec 512
/-- Mask register (R88). -/
opaque freeM : Nat → Nat → Word
/-- Accumulator row, key 16 × accumulator + row (R88). -/
opaque freeAcc : Nat → Nat → BitVec 512
/-- A value the manual leaves open, fresh for each draw (log 2). -/
opaque freeWord : Nat → Word
/-- The data that a row whose parity fails is read as (R177), fresh for each failure. -/
opaque freeRow : Nat → BitVec 512
/-- `INFO` of a log record of a cause whose rule says what the record holds and not where (log 149). -/
opaque infoOf : Nat → List Nat → Word
/-- Result of a scalar `FCVTI` or `FCVTU` of a NaN or an out-of-range value (R104 gives none), from
the source format (`true`: FP32), the signedness and the operand. -/
opaque freeToInt : Bool → Bool → Word → Word
/-- The Xanxiva firmware key's verdict on a signature over header bytes 0–59 (R440, R441): the key
is not given. -/
opaque firmwareSigOk : List Byte → BitVec 768 → Bool
/-- Digest of the Armaik boot ROM, whose contents are not given (R395 block 1). -/
opaque romDigest : BitVec 384
/-- The region monitor firmware image that the flash holds (R436): its contents are not given. -/
opaque monitorImage : List Byte
/-- The Unique Device Secret, fused at manufacture (R391). -/
opaque uds : List Byte
/-- The certificate chain of slot 0, of the Alias key that a layer 1 CDI gives (R391, R392). -/
opaque certChain : List Byte → List Byte
/-- The Management certificate of a layer 1 CDI (R391, R405). -/
opaque managementCert : List Byte → List Byte
/-- The ECDSA signature over a message by the Alias key of a layer 1 CDI (R391, R392). -/
opaque aliasSign : List Byte → List Byte → BitVec 768
/-- The bytes of a region's configuration, from its fields, whose layout is not given (R393 step 5). -/
opaque configBytes : List Nat → List Byte
/-- The responder's key-exchange share (R392): not given. -/
opaque dheShare : Nat → BitVec 768

/-- The bits of a word of the PCIe configuration space to which the spec gives no value (R313, log 169): by
kind of function and offset. -/
opaque configWord : Bool → Nat → BitVec 32

end Sys2Proof.Config
end

