-- ==== Sys2Proof/Machine/Ops.lean ====
section
/-!
DEFINITION. The shared operations: cores, threads and registers, the cell lookup, the error log and
counters, local memory behind the store buffer, events, faults and handler entry, and the issue of one
instruction with its speculative redirection (R88–R148, R221–R231).
-/
namespace Sys2Proof.Machine
open Sys2Proof

/-! ### Cores and threads -/

def coreOf (s : State) (c : CoreId) : Core := tget Core.reset s.cores c.val
def setCore (s : State) (c : CoreId) (x : Core) : State := { s with cores := tset s.cores c.val x }
def modCore (s : State) (c : CoreId) (f : Core → Core) : State := setCore s c (f (coreOf s c))

def thOf (c : Core) (i : Fin 4) : Thread := tget Thread.reset c.threads i.val
def setTh (c : Core) (i : Fin 4) (t : Thread) : Core := { c with threads := tset c.threads i.val t }
def thread (s : State) (h : Hart) : Thread := thOf (coreOf s h.core) h.thread
def modTh (s : State) (h : Hart) (f : Thread → Thread) : State :=
  modCore s h.core fun c => setTh c h.thread (f (thOf c h.thread))

def coreX (c : CoreId) : Nat := c.val % 128
def coreY (c : CoreId) : Nat := c.val / 128
/-- C-die index j × 8 + k of a core (R8). -/
def dieOf (c : CoreId) : Nat := coreY c / 20 * 8 + coreX c / 16
/-- The core at x, y (taken inside the mesh). -/
def coreAt (x y : Nat) : CoreId := Fin.ofNat 10240 (y * 128 + x)

/-! ### Registers (R88–R90, R225) -/

def gReg (t : Thread) (i : Fin 32) : Word :=
  match tfind t.g i.val with
  | some v => v
  | none => if t.epoch = 0 then 0 else Config.freeG (t.epoch - 1) i.val

/-- p0 reads 1 (R89); a speculative copy is what is read (R227). -/
def pReg (t : Thread) (i : Fin 8) : Bool :=
  if i = 0 then true
  else match tfind t.pSpec i.val with
    | some b => b
    | none => match tfind t.p i.val with
      | some b => b
      | none => if t.epoch = 0 then false else Config.freeP (t.epoch - 1) i.val

/-- The architectural vector register, its speculative copy left aside. -/
def vArch (t : Thread) (i : Fin 32) : Marked :=
  match tfind t.v i.val with
  | some v => v
  | none => ⟨if t.epoch = 0 then 0 else Config.freeV (t.epoch - 1) i.val, false⟩

def vReg (t : Thread) (i : Fin 32) : Marked :=
  match tfind t.vSpec i.val with
  | some v => v
  | none => vArch t i

def mReg (t : Thread) (i : Fin 8) : Word :=
  match tfind t.m i.val with
  | some v => v
  | none => if t.epoch = 0 then 0 else Config.freeM (t.epoch - 1) i.val

/-- The architectural accumulator row, its shadow left aside. -/
def accArch (t : Thread) (k : Nat) : Marked :=
  match tfind t.acc k with
  | some v => v
  | none => ⟨if t.epoch = 0 then 0 else Config.freeAcc (t.epoch - 1) k, false⟩

/-- Row `k % 16` of accumulator `k / 16`, the shadow where one is held (R225). -/
def accRow (t : Thread) (k : Nat) : Marked :=
  match tfind t.accSpec k with
  | some v => v
  | none => accArch t k

def descOf (t : Thread) (i : Nat) : Word := tget 0 t.desc i
/-- Row `k % 16` of tile `k / 16`; an invalid row reads zero without mark (R165). -/
def rowOf (t : Thread) (k : Nat) : TileRow := tget ⟨0, false, false, false⟩ t.rows k

/-! ### The cell table (R28–R34) -/

def cellEntry (s : State) (i : Nat) : BitVec 128 := tget 0 s.cells i
def cValid (e : BitVec 128) : Bool := bit e 0
def cIsRegion (e : BitVec 128) : Bool := bit e 1
def cRegion (e : BitVec 128) : Nat := fld e 2 8
def cX (e : BitVec 128) : Nat := fld e 10 7
def cY (e : BitVec 128) : Nat := fld e 17 7
def cW (e : BitVec 128) : Nat := fld e 24 7 + 1
def cH (e : BitVec 128) : Nat := fld e 31 7 + 1
def cParent (e : BitVec 128) : Nat := fld e 38 11
def cFront (e : BitVec 128) : Nat := fld e 49 14
def cHandler (e : BitVec 128) : Nat := fld e 64 20
def cDie (e : BitVec 128) : Nat := fld e 84 5
def cFlagBase (e : BitVec 128) : Nat := fld e 89 9
def cFlagCount (e : BitVec 128) : Nat := fld e 98 10
def cCtrBase (e : BitVec 128) : Nat := fld e 108 8
def cCtrCount (e : BitVec 128) : Nat := fld e 116 9

def cCovers (e : BitVec 128) (x y : Nat) : Bool :=
  decide (cX e ≤ x) && decide (x < cX e + cW e) && decide (cY e ≤ y) && decide (y < cY e + cH e)

/-- Core of a member index (R30). -/
def cMember (e : BitVec 128) (m : Nat) : CoreId := coreAt (cX e + m % cW e) (cY e + m / cW e)
/-- Member index of a core (R30). -/
def cIndexOf (e : BitVec 128) (c : CoreId) : Nat := (coreY c - cY e) * cW e + (coreX c - cX e)

/-- Valid cells that contain a core, with their indices. -/
def cellsOver (s : State) (c : CoreId) : List (Nat × BitVec 128) :=
  s.cells.filter fun e => cValid e.2 && cCovers e.2 (coreX c) (coreY c)

/-- Index of the innermost valid cell that contains a core (R34). -/
def innermost (s : State) (c : CoreId) : Nat :=
  let l := cellsOver s c
  match l.find? fun e => l.all fun f => decide (f.1 = e.1) || decide (cParent f.2 ≠ e.1) with
  | some e => e.1
  | none => 0

/-- The region that contains a core (R32). -/
def regionOf (s : State) (c : CoreId) : Option RegionId :=
  match (cellsOver s c).find? fun e => cIsRegion e.2 with
  | some e => some (Fin.ofNat 256 (cRegion e.2))
  | none => none

def regOf (s : State) (r : RegionId) : Region := tget Region.reset s.regions r.val
def setReg (s : State) (r : RegionId) (x : Region) : State := { s with regions := tset s.regions r.val x }
def modReg (s : State) (r : RegionId) (f : Region → Region) : State := setReg s r (f (regOf s r))

/-- Front core of a region (R134). -/
def frontOf (s : State) (r : RegionId) : CoreId :=
  let e := cellEntry s (regOf s r).cell.toNat
  cMember e (cFront e)

/-- The region monitor thread of a region (R134). -/
def monitorOf (s : State) (r : RegionId) : Hart := ⟨frontOf s r, 0⟩

/-- Whether a thread is the monitor thread of the region of its core. -/
def isMonitor (s : State) (h : Hart) : Bool :=
  match regionOf s h.core with
  | some r => decide (monitorOf s r = h)
  | none => false

/-- Cores of a rectangle. -/
def coresOf (e : BitVec 128) : List CoreId := (List.range (cW e * cH e)).map (cMember e)
/-- Cores of a region's rectangle. -/
def regionCores (s : State) (r : RegionId) : List CoreId := coresOf (cellEntry s (regOf s r).cell.toNat)

/-! ### Counters and the error log (R414, R415, R470, R491) -/

def ctrRegion (r k : Nat) : Nat := 0x80000 + 64 * r + 8 * k
def ctrDie (d k : Nat) : Nat := 0x84000 + 256 * d + 8 * k
def ctrEdie (e k : Nat) : Nat := 0x86000 + 256 * e + 8 * k
def ctrLink (p k : Nat) : Nat := 0x87000 + 16 * p + 8 * k
def ctrCore (n k : Nat) : Nat := 0x100000 + 64 * n + 8 * k

/-- Add to a counter, saturating (R415). -/
def count (s : State) (addr n : Nat) : State :=
  { s with counters := tset s.counters addr (satAdd (tget 0 s.counters addr) n) }

def srcCount (l : List (BitVec 6 × BitVec 8 × Nat)) (src : BitVec 6) (cause : BitVec 8) : Nat :=
  match l.find? fun x => decide (x.1 = src ∧ x.2.1 = cause) with
  | some x => x.2.2
  | none => 0

def srcBump (l : List (BitVec 6 × BitVec 8 × Nat)) (src : BitVec 6) (cause : BitVec 8) :
    List (BitVec 6 × BitVec 8 × Nat) :=
  (src, cause, srcCount l src cause + 1) :: l.filter fun x => !decide (x.1 = src ∧ x.2.1 = cause)

/-- What a record says beside its time and number. -/
structure LogItem where
  cause : BitVec 8
  source : BitVec 6
  location : BitVec 14
  region : Option RegionId
  thread : Fin 4
  deferred : Bool
  info : Word
  detail : List Nat
  deriving DecidableEq, Repr

/-- A flash store of an item begins (R430). -/
def wantStore (i : FlashItem) (s : State) : State :=
  if s.flash.busy.contains i then s else { s with flash := { s.flash with busy := s.flash.busy ++ [i] } }

/-- The persistent log is stored at every 64 of its records (R430). -/
def storeLog (s : State) : State := if 64 ≤ s.log.unsaved then wantStore .persistentLog s else s

/-- Log one record, or count it as suppressed (R414, R415). -/
def logItem (i : LogItem) (s : State) : State :=
  let l := s.log
  if 64 ≤ srcCount l.counts i.source i.cause then
    { s with log := { l with suppressed := satAdd l.suppressed 1 } }
  else
    let rec_ : LogRec :=
      { day := s.clock.dayCount, cycle := BitVec.ofNat 24 s.clock.cycle, cause := i.cause,
        source := i.source, location := i.location, region := i.region, thread := i.thread,
        deferred := i.deferred, info := i.info, detail := i.detail, seq := l.next, read := false }
    let full := decide (4096 ≤ l.recs.length)
    let lostOne := full && (match l.recs.head? with | some r => !r.read | none => false)
    let keep := decide (0x39 ≤ i.cause.toNat ∧ i.cause.toNat ≤ 0x3B)
    (if keep then storeLog else id) { s with log := { l with
        recs := (if full then l.recs.drop 1 else l.recs) ++ [rec_]
        next := l.next + 1
        lost := if lostOne then satAdd l.lost 1 else l.lost
        counts := srcBump l.counts i.source i.cause
        persistent := if keep then (if 256 ≤ l.persistent.length then l.persistent.drop 1 else l.persistent) ++ [rec_]
                      else l.persistent
        unsaved := if keep then l.unsaved + 1 else l.unsaved } }

/-- Log a record located at a core (R491). -/
def logCore (c : CoreId) (th : Fin 4) (cause : BitVec 8) (info : Word) (s : State) : State :=
  logItem ⟨cause, BitVec.ofNat 6 (dieOf c), BitVec.ofNat 14 c.val, regionOf s c, th, false, info, []⟩ s

/-- Log a record located at a core whose rule says what it holds and not where (log 149). -/
def noteCore (c : CoreId) (th : Fin 4) (cause : BitVec 8) (held : List Nat) (s : State) : State :=
  logItem ⟨cause, BitVec.ofNat 6 (dieOf c), BitVec.ofNat 14 c.val, regionOf s c, th, false,
    Config.infoOf cause.toNat held, held⟩ s

/-- Log a record located at unit `loc` of E-die `e` (R414). -/
def logEdie (e loc : Nat) (r : Option RegionId) (cause : BitVec 8) (info : Word) (s : State) : State :=
  logItem ⟨cause, BitVec.ofNat 6 (32 + e), BitVec.ofNat 14 loc, r, 0, false, info, []⟩ s

/-- Log a record of the Armaik service controller (R414). -/
def logArmaik (r : Option RegionId) (cause : BitVec 8) (info : Word) (s : State) : State :=
  logItem ⟨cause, 48, 0, r, 0, false, info, []⟩ s

/-- As `noteCore`, of the Armaik service controller. -/
def noteArmaik (r : Option RegionId) (cause : BitVec 8) (held : List Nat) (s : State) : State :=
  logItem ⟨cause, 48, 0, r, 0, false, Config.infoOf cause.toNat held, held⟩ s

/-- A tile row whose parity failed is logged with 0x20 and counted (R177). -/
def logParity (h : Hart) (k : Nat) (s : State) : State :=
  count (logCore h.core h.thread 0x20 (BitVec.ofNat 64 k) s) (ctrDie (dieOf h.core) 10) 1

/-- A value that the manual leaves open (log 2), and the state after the draw. -/
def drawFree (s : State) : Word × State := (Config.freeWord s.nextFree, { s with nextFree := s.nextFree + 1 })

/-! ### Local memory and the store buffer (R93, R95, R147, R236, R410) -/

/-- First unmapped local address (R25, R93). -/
def localTop : Nat := 0xC0000

/-- Word indices that `n` bytes at `a` touch. -/
def wordsOf (a n : Nat) : List Nat := List.range' (a / 8) ((a + n - 1) / 8 + 1 - a / 8)

/-- The marks of one word after a write of `n` bytes at `a` (R227, R410); a speculative write leaves it
marked (R225). -/
def markWord (a n : Nat) (poison keepSpec : Bool) (c : Core) (w : Nat) : Core :=
  { c with
    poison := if poison then sins c.poison w
      else if a ≤ 8 * w ∧ 8 * w + 8 ≤ a + n then sdel c.poison w else c.poison
    specMark := if keepSpec then sins c.specMark w else sdel c.specMark w }

/-- Bytes written to local memory, with the marks of the words they touch. -/
def memPut (c : Core) (a : Nat) (bs : List Byte) (poison keepSpec : Bool) : Core :=
  (wordsOf a bs.length).foldl (markWord a bs.length poison keepSpec) { c with mem := mwrite c.mem a bs }

/-- The oldest store leaves the buffer. -/
def retireOne (c : Core) : Core :=
  match c.stores with
  | [] => c
  | e :: t => memPut { c with stores := t } e.addr e.bytes e.poison e.spec

def retireN : Nat → Core → Core
  | 0, c => c
  | n + 1, c => retireN n (retireOne c)

/-- The whole buffer drains (R143). -/
def drainAll (c : Core) : Core := retireN c.stores.length c

/-- Entries up to and including the last one of a thread. -/
def lastOwn (th : Fin 4) : List StoreEntry → Nat
  | [] => 0
  | e :: t => if lastOwn th t ≠ 0 then lastOwn th t + 1 else if e.thread = th then 1 else 0

/-- The buffer drains until no store of the thread is left in it (R106, R171). -/
def drainOwn (th : Fin 4) (c : Core) : Core := retireN (lastOwn th c.stores) c

/-- A store enters the buffer; into a full buffer after the oldest has left (R147). -/
def pushStore (e : StoreEntry) (c : Core) : Core :=
  let c := if 8 ≤ c.stores.length then retireOne c else c
  { c with stores := c.stores ++ [e] }

/-- The byte at `a` as a thread sees it (its own buffered stores first), or as no thread does (R95). -/
def byteView (c : Core) (own : Option (Fin 4)) (a : Nat) : Byte :=
  c.stores.foldl (fun b e => if own = some e.thread ∧ e.addr ≤ a ∧ a < e.addr + e.bytes.length
    then nth b e.bytes (a - e.addr) else b) (mget c.mem a)

def readView (c : Core) (own : Option (Fin 4)) (a n : Nat) : List Byte :=
  (List.range' a n).map (byteView c own)

/-- Poison mark of a word as a thread sees it. -/
def poisonView (c : Core) (own : Option (Fin 4)) (w : Nat) : Bool :=
  c.stores.foldl (fun b e => if own = some e.thread ∧ e.addr ≤ 8 * w ∧ 8 * w + 8 ≤ e.addr + e.bytes.length
    then e.poison else b) (c.poison.contains w)

/-- Speculative mark of a word as a thread sees it: its own buffered store gives the word its mark or takes it away,
whatever has landed in the word meanwhile (R225, R227, R229). -/
def specView (c : Core) (own : Option (Fin 4)) (w : Nat) : Bool :=
  c.stores.foldl (fun b e => if own = some e.thread ∧ e.addr < 8 * w + 8 ∧ 8 * w < e.addr + e.bytes.length
    then e.spec else b) (c.specMark.contains w)

/-- The lowest word a read touches that is marked poisoned. -/
def firstPoison (c : Core) (own : Option (Fin 4)) (a n : Nat) : Option Nat :=
  (wordsOf a n).find? (poisonView c own)

/-! ### Events, faults and handler entry (R128–R146) -/

/-- Raise event `e` on a thread (R129). -/
def raiseEvent (h : Hart) (e : Nat) (s : State) : State :=
  modTh s h fun t => { t with evPending := t.evPending ||| BitVec.ofNat 8 (2 ^ e) }

/-- What the rest of the device delivers to a core; the isolation gate of a failed core lets nothing in
(R417). -/
def deliver (c : CoreId) (f : State → State) (s : State) : State := if (coreOf s c).isolated then s else f s

/-- Deliver an error that its rule logs by itself as E5 (R139): with E5 already pending the old record stays
and `LOST` is set. -/
def noteE5 (h : Hart) (cause : BitVec 8) (pc : BitVec 17) (info : Word) (s : State) : State :=
  if bit (thread s h).evPending 5 then modTh s h fun t => { t with errCause := t.errCause ||| 0x100 }
  else
    raiseEvent h 5 (modTh s h fun t =>
      { t with errCause := (t.errCause &&& 0x100) ||| cause.setWidth 10, errPc := pc, errInfo := info })

/-- Deliver any other error as E5 (R139): with E5 already pending the new error goes to the log. -/
def raiseE5 (h : Hart) (cause : BitVec 8) (pc : BitVec 17) (info : Word) (s : State) : State :=
  let s' := noteE5 h cause pc info s
  if bit (thread s h).evPending 5 then logCore h.core h.thread cause info s' else s'

/-- A thread halts (R146). -/
def haltThread (h : Hart) (vec : BitVec 7) (s : State) : State :=
  let s := modCore s h.core fun c =>
    let c := drainOwn h.thread c
    setTh c h.thread { thOf c h.thread with run := .halted }
  let s := logCore h.core h.thread 0x1E (vec.setWidth 64) s
  match regionOf s h.core with
  | none => s
  | some r =>
    let s := if (regOf s r).stopped then s else modReg s r fun x => { x with monError := 0x1E }
    if monitorOf s r = h then s
    else
      deliver (frontOf s r) (noteE5 (monitorOf s r) 0x1E 0
        (BitVec.ofNat 64 (h.core.val + 2 ^ 14 * h.thread.val + 2 ^ 16 * vec.toNat))) s

/-- The decision to enter through a vector (R142): with a hold open the thread halts. -/
def decideEntry (h : Hart) (vec : BitVec 7) (restart : BitVec 17) (s : State) : State :=
  if (thread s h).hold.isSome then haltThread h vec s
  else modTh (modCore s h.core fun c => { c with rowsAt := tdel c.rowsAt h.thread.val }) h fun t =>
    { t with run := .entering vec restart }

/-- A fault an instruction raises. `next`: `RET_PC` names the next instruction (R114). -/
structure Flt where
  cause : BitVec 8
  info : Word
  next : Bool
  deriving DecidableEq, Repr

/-- The fault records a fault leaves (R138, R139). -/
def recordFault (cause : BitVec 8) (info : Word) (deferred lost : Bool) (pc : BitVec 17) (t : Thread) : Thread :=
  { t with
    errCause := cause.setWidth 10 ||| (if lost || bit t.errCause 8 || bit t.evPending 5 then 0x100 else 0)
      ||| (if deferred then 0x200 else 0)
    errPc := pc
    errInfo := info }

/-- An instruction of `len` bytes faults (R135, R138, R142). -/
def takeFault (h : Hart) (len : Nat) (f : Flt) (s : State) : State :=
  let pc := (thread s h).pc
  let s := modTh s h (recordFault f.cause f.info false false pc)
  decideEntry h (f.cause.setWidth 7) (if f.next then pc + BitVec.ofNat 17 len else pc) s

/-- Events pending that `TAKE` lets a thread take (R129, R132). -/
def takeable (t : Thread) : List Nat :=
  if t.hold.isSome then [] else (List.range 8).filter fun e => bit t.evPending e && bit t.evEnable (8 + e)

/-- An event goes at this boundary: one is takeable, and no deferred fault goes before it (R132, R231). -/
def eventGoes (t : Thread) : Bool := t.deferredFault.isNone && !(takeable t).isEmpty

/-- A thread takes its lowest takeable event with `restart` as return address (R132). -/
def takeEvent (h : Hart) (restart : BitVec 17) (s : State) : State :=
  match takeable (thread s h) with
  | [] => s
  | e :: _ =>
    decideEntry h (BitVec.ofNat 7 (64 + e)) restart
      (modTh s h fun t => { t with evPending := t.evPending &&& ~~~ BitVec.ofNat 8 (2 ^ e) })

/-! ### Issuing an instruction (R92, R98, R124, R224–R230) -/

/-- What an instruction reads that can be speculative (R224): predicates beside its own, vector
registers, accumulators, tile rows (16t + r) and words of local memory. -/
structure Reads where
  p : List (Fin 8) := []
  v : List (Fin 32) := []
  acc : List Nat := []
  rows : List Nat := []
  words : List Nat := []
  /-- The words are read past the store buffer, after the thread's earlier stores have left it (R171). -/
  drained : Bool := false
  /-- A result of the thread's own unfinished speculative `MMA`. -/
  spec : Bool := false
  deriving DecidableEq, Repr

/-- What an instruction writes (R225). `other` stands for anything a speculative instruction may not do. -/
inductive Wr
  | g (i : Fin 32) (x : Word)
  | p (i : Fin 8) (x : Bool)
  /-- `copy`: the writer is `VLD` or `VFROMT`. -/
  | v (i : Fin 32) (x : Marked) (copy : Bool)
  | m (i : Fin 8) (x : Word)
  | row (k : Nat) (x : BitVec 512) (poison : Bool)
  | acc (k : Nat) (x : Marked)
  /-- Through the store buffer. -/
  | store (a : Nat) (bs : List Byte) (poison : Bool)
  /-- Past the store buffer (R171). -/
  | direct (a : Nat) (bs : List Byte) (poison : Bool)
  | pc (target : BitVec 17)
  | other
  deriving DecidableEq, Repr

/-- One instruction's reads, fault, writes, IEEE exceptions and generator state after its draws. -/
structure Act where
  reads : Reads := {}
  fault : Option Flt := none
  writes : List Wr := []
  flags : BitVec 5 := 0
  sr : Option Word := none
  /-- An `MMA` in FP32 or FP64: it never runs speculatively (R228). -/
  noSpec : Bool := false
  /-- A unit or operand is not yet free: the instruction does not issue (R193, R194). -/
  stall : Bool := false
  /-- Accumulators it starts an `MMA` into. -/
  accs : List Nat := []
  /-- Its earlier rows have moved: Dusk does not hold it back (R169, R228). -/
  going : Bool := false
  deriving DecidableEq, Repr

def isSpec (c : Core) (th : Fin 4) (t : Thread) (p : Fin 8) (r : Reads) : Bool :=
  r.spec || (decide (p ≠ 0) && (tfind t.pSpec p.val).isSome)
  || r.p.any (fun i => decide (i ≠ 0) && (tfind t.pSpec i.val).isSome)
  || r.v.any (fun i => (tfind t.vSpec i.val).isSome)
  || r.acc.any (fun a => t.accSpec.any fun e => decide (e.1 / 16 = a))
  || r.rows.any (fun k => (rowOf t k).spec)
  || r.words.any (if r.drained then specView (drainOwn th c) none else specView c (some th))

/-- Whether R225 refuses a write of a speculative instruction. -/
def refusedWr (c : Core) (th : Fin 4) (t : Thread) (faulted : Bool) : Wr → Bool
  | .g _ _ | .m _ _ | .pc _ | .other => true
  | .p _ _ | .acc _ _ => false
  | .v _ _ copy => !copy
  | .row k _ _ => (rowOf t k).valid && !(rowOf t k).spec
  | .store a bs _ | .direct a bs _ => !faulted && !(wordsOf a bs.length).all (specView c (some th))

/-- The accumulator rows of a table without those of one accumulator. -/
def dropAcc {α : Type} (l : Tab α) (a : Nat) : Tab α := l.filter fun e => !decide (e.1 / 16 = a)

/-- An accumulator that the instruction reads or writes has its shadow still to resolve (R53). -/
def resolvingHit (c : Core) (th : Fin 4) (a : Act) : Bool :=
  (a.accs ++ a.reads.acc ++ a.writes.filterMap fun w => match w with | .acc k _ => some (k / 16) | _ => none).any
    fun i => c.resolving.any fun e => decide (e.1 = 4 * th.val + i)

/-- Marked words that the core mover has reached and waits for (R227): those of the first flit that is to
enter a queue, or of the list of its next transfer. -/
def moverWants (c : Core) : List Nat :=
  let marked := c.specMark.contains
  let heads := c.inj.flatMap fun e => match e.2.plans with
    | p :: _ => if p.thread.isNone ∧ e.2.flits.length < 8 then
        (e.2.plans.filter fun y => decide (y.mid = p.mid ∧ (p.index = 0 ∨ y.index = p.index))).flatMap fun y => y.addrs.map (· / 8)
      else []
    | [] => []
  let list := match c.moving, c.moverQ with
    | none, j :: _ =>
      if j.stream.isNone then
        let ctl := BitVec.ofNat 64 (bytesNat (mread c.mem (j.list + 16) 8))
        wordsOf j.list (40 + 8 * (fld ctl 0 6 + fld ctl 6 6))
      else []
    | _, _ => []
  (heads ++ list).filter marked

/-- One ordinary write (R227: it drops a speculative copy). -/
def applyWr (h : Hart) (c : Core) : Wr → Core
  | .g i x => let t := thOf c h.thread; setTh c h.thread { t with g := tset t.g i.val x }
  | .p i x =>
    let t := thOf c h.thread
    if i = 0 then c else setTh c h.thread { t with p := tset t.p i.val x, pSpec := tdel t.pSpec i.val }
  | .v i x _ =>
    let t := thOf c h.thread
    setTh c h.thread { t with v := tset t.v i.val x, vSpec := tdel t.vSpec i.val }
  | .m i x => let t := thOf c h.thread; setTh c h.thread { t with m := tset t.m i.val x }
  | .row k x poison =>
    let t := thOf c h.thread
    setTh c h.thread { t with rows := tset t.rows k ⟨x, true, poison, false⟩ }
  | .acc k x =>
    let t := thOf c h.thread
    setTh c h.thread { t with acc := tset t.acc k x, accSpec := dropAcc t.accSpec (k / 16) }
  | .store a bs poison => pushStore ⟨h.thread, a, bs, poison, false⟩ c
  | .direct a bs poison => memPut c a bs poison false
  | .pc target => let t := thOf c h.thread; setTh c h.thread { t with pc := target }
  | .other => c

/-- One speculative write (R225). -/
def applySpecWr (h : Hart) (c : Core) : Wr → Core
  | .p i x =>
    let t := thOf c h.thread
    if i = 0 then c else setTh c h.thread { t with pSpec := tset t.pSpec i.val x }
  | .v i x _ => let t := thOf c h.thread; setTh c h.thread { t with vSpec := tset t.vSpec i.val x }
  | .row k x poison =>
    let t := thOf c h.thread
    setTh c h.thread { t with rows := tset t.rows k ⟨x, true, poison, true⟩ }
  | .acc k x => let t := thOf c h.thread; setTh c h.thread { t with accSpec := tset t.accSpec k x }
  | .store a bs poison => pushStore ⟨h.thread, a, bs, poison, true⟩ c
  | .direct a bs poison => memPut c a bs poison true
  | _ => c

def advPc (len : Nat) (t : Thread) : Thread := { t with pc := t.pc + BitVec.ofNat 17 len }

/-- The urgent thread of a core (R121, R125). -/
def urgentOf (c : Core) : Option (Fin 4) :=
  if bit c.boot.core 2 then some (Fin.ofNat 4 (fld c.boot.core 0 2)) else none

/-- The threads in the order in which the slot is offered to them (R124). -/
def turn (c : Core) : List (Fin 4) :=
  (match urgentOf c with | some u => [u] | none => [])
  ++ (([0, 1, 2, 3] : List (Fin 4)).map fun i => c.rot + i).filter fun i => decide (urgentOf c ≠ some i)

/-- A thread is ready and has not let the current slot pass (R124). -/
def wantsSlot (c : Core) (i : Fin 4) : Bool :=
  decide ((thOf c i).run = .ready) && !(thOf c i).debugHalt && !c.passed.contains i

/-- Every thread that is offered the slot before thread `i` lets it pass (R124, R125). -/
def hasSlot (c : Core) (i : Fin 4) : Bool :=
  ((turn c).takeWhile fun j => decide (j ≠ i)).all fun j => !wantsSlot c j

/-- The thread is no longer in the middle of a `TLD` or `TST`. -/
def dropRows (i : Fin 4) (c : Core) : Core := { c with rowsAt := tdel c.rowsAt i.val }

/-- A thread issues: the rotation pointer moves on (R124), and every thread is asked again for the next slot. -/
def rotate (h : Hart) (s : State) : State :=
  modCore s h.core fun c =>
    { dropRows h.thread c with rot := if urgentOf c = some h.thread then c.rot else h.thread + 1, passed := [] }

/-- The slot of a new cycle is offered to every thread of a core again (R124). -/
def newSlot (core : CoreId) (s : State) : State := modCore s core fun c => { c with passed := [] }

/-- The thread stalls: it lets the slot pass (R124). -/
def letPass (h : Hart) (s : State) : State :=
  modCore s h.core fun c => { c with passed := h.thread :: c.passed.erase h.thread }

def setRun (h : Hart) (r : Run) (s : State) : State := modTh s h fun t => { t with run := r }

/-- The thread waits for its core's group to be resolved (R226). -/
def awaitGroup (h : Hart) (s : State) : State :=
  setRun h (.waiting .resolution) (modCore s h.core (dropRows h.thread))

def deferredOf (t : Thread) : Deferred := t.deferred.getD ⟨none, 0, none, [], []⟩

/-- A speculative fault goes to the thread's deferred record (R230). -/
def deferFault (pc : BitVec 17) (f : Flt) (t : Thread) : Thread :=
  let d := deferredOf t
  { t with deferred := some { d with fault := match d.fault with
      | none => some ⟨f.cause, pc, f.info, false⟩
      | some g => some { g with lost := true } } }

/-- Exceptions and draws of a speculative instruction (R225, R230). -/
def deferFlags (fl : BitVec 5) (sr : Option Word) (t : Thread) : Thread :=
  if fl = 0 ∧ sr = none then t
  else let d := deferredOf t
    { t with deferred := some { d with flags := d.flags ||| fl, sr := match sr with | some x => some x | none => d.sr } }

/-- The generator state an instruction draws from (R230). -/
def srState (spec : Bool) (t : Thread) : Word :=
  if spec then match (deferredOf t).sr with | some x => x | none => t.sr else t.sr

/-- The ordinary completion of an instruction: its writes, flags and draws, and the PC moved past its
`len` bytes unless a write names another target. -/
def finish (h : Hart) (len : Nat) (a : Act) (s : State) : State :=
  modCore s h.core fun c =>
    let c := setTh c h.thread (advPc len (thOf c h.thread))
    let c := a.writes.foldl (applyWr h) c
    let t := thOf c h.thread
    setTh c h.thread { t with fpFlags := t.fpFlags ||| a.flags, sr := a.sr.getD t.sr }

/-- The completion of a speculative instruction (R225). -/
def finishSpec (h : Hart) (len : Nat) (a : Act) (s : State) : State :=
  modCore s h.core fun c =>
    let c := setTh c h.thread (advPc len (thOf c h.thread))
    let c := a.writes.foldl (applySpecWr h) c
    setTh c h.thread (deferFlags a.flags a.sr (thOf c h.thread))

/-- Word of the code space that fetching `len` bytes at `pc` finds poisoned (R410). -/
def fetchPoison (c : Core) (pc : BitVec 17) (len : Nat) : Option Nat :=
  (wordsOf pc.toNat len).find? fun w => c.codePoison.contains w

/-- Issue one instruction of `len` bytes under predicate `p`. A thread that cannot issue, or to which the
slot does not fall, changes nothing. `act` is what the instruction does in the state it meets; `eff`
completes it when it neither faults nor is speculative. A predicate that is a speculative copy makes the
instruction speculative whatever it reads (R224, R226, R228; DEDUCED, log 150). A `TLD` or `TST` part-way through its
rows is judged anew at each row: where a landing has meanwhile marked a word of any of its rows and the write of its
next one is refused, it waits and begins again at row 0 (R170, R226; DESIGN CHOICE, log 188). -/
def issueWith (h : Hart) (p : Fin 8) (len : Nat) (act : Core → Thread → Act) (eff effSpec : Act → State → State)
    (s : State) : Host.Outcome State Fault Refusal :=
  let c := coreOf s h.core
  let t := thOf c h.thread
  if t.run ≠ .ready ∨ t.debugHalt ∨ !hasSlot c h.thread then .next s
  else if 0x10000 < t.pc.toNat + len then .next (takeFault h len ⟨0x1B, 0x10000, false⟩ (rotate h s))
  else match fetchPoison c t.pc len with
    | some w => .next (takeFault h len ⟨0x39, BitVec.ofNat 64 (2 ^ 63 + 8 * w), false⟩ (rotate h s))
    | none =>
      if !pReg t p && (decide (p = 0) || (tfind t.pSpec p.val).isNone) then .next (modTh (rotate h s) h (advPc len))
      else
        let a := act c t
        let spec := isSpec c h.thread t p a.reads
        if resolvingHit c h.thread a then .next (letPass h s)
        else if spec && (decide (s.clock.phase ≠ .noon ∧ !a.going) || a.noSpec
            || a.writes.any (refusedWr c h.thread t a.fault.isSome) || a.reads.words.any (moverWants c).contains) then
          .next (awaitGroup h s)
        else if !pReg t p then .next (modTh (rotate h s) h (advPc len))
        else if a.stall && a.fault.isNone then .next (letPass h s)
        else if spec then
          match a.fault with
          | some f => .next (modTh (rotate h s) h fun t => deferFlags a.flags none (advPc len (deferFault t.pc f t)))
          | none => .next (effSpec a (rotate h s))
        else match a.fault with
          | some f =>
            .next (takeFault h len f (modTh (rotate h s) h fun t => { t with fpFlags := t.fpFlags ||| a.flags }))
          | none => .next (eff a (rotate h s))

/-- Issue an instruction whose whole effect is its `Act`. -/
def issue (h : Hart) (p : Fin 8) (len : Nat) (act : Core → Thread → Act) (s : State) :
    Host.Outcome State Fault Refusal :=
  issueWith h p len act (finish h len) (finishSpec h len) s

/-- Issue an instruction that runs only unspeculatively and has an effect of its own. -/
def issueOwn (h : Hart) (p : Fin 8) (len : Nat) (act : Core → Thread → Act) (eff : State → State) (s : State) :
    Host.Outcome State Fault Refusal :=
  issueWith h p len (fun c t => { act c t with writes := .other :: (act c t).writes }) (fun _ => eff) (fun _ s => s) s

/-- Issue a reserved encoding (R97): it traps with 0x01, whatever its predicate. -/
def issueReserved (h : Hart) (len : Nat) (info : Word) (s : State) : Host.Outcome State Fault Refusal :=
  let c := coreOf s h.core
  let t := thOf c h.thread
  if t.run ≠ .ready ∨ t.debugHalt ∨ !hasSlot c h.thread then .next s
  else if 0x10000 < t.pc.toNat + len then .next (takeFault h len ⟨0x1B, 0x10000, false⟩ (rotate h s))
  else match fetchPoison c t.pc len with
    | some w => .next (takeFault h len ⟨0x39, BitVec.ofNat 64 (2 ^ 63 + 8 * w), false⟩ (rotate h s))
    | none => .next (takeFault h len ⟨0x01, info, false⟩ (rotate h s))

/-- The privilege fault of an S instruction in task mode (R133). -/
def privFault (t : Thread) (word : Word) : Option Flt :=
  if t.mode then none else some ⟨0x02, word, false⟩

/-- A hold of `n` cycles opens (R144). -/
def openHold (now n : Nat) (entry : Bool) (t : Thread) : Thread :=
  { t with hold := some ⟨now + n, entry, decide (n = 1)⟩ }

end Sys2Proof.Machine
end

