-- ==== Sys2Proof/WellFormed.lean ====
section
/-!
DEFINITION. Which commands spell an assigned encoding: the operand combinations that R97 and the
instruction tables reserve. Every operand's width is already its type's.
-/
namespace Sys2Proof

/-- Three different registers (R108). -/
def distinct3 (d a b : Fin 32) : Bool := decide (d ≠ a) && decide (d ≠ b) && decide (a ≠ b)

/-- Whether the operands of a command form an assigned encoding (R97, R101, R102, R108, R151, R155,
R167, R174, R203). Commands that are not instructions carry no encoding. -/
def Instr.wf : Instr → Bool
  | .smove _ _ _ d a b => distinct3 d a b
  | .sfill _ _ _ d a b => distinct3 d a b
  | .scmp _ _ _ d a b => distinct3 d a b
  | .sscan _ _ _ d a b => distinct3 d a b
  | .sscann _ _ _ d a b => distinct3 d a b
  | .cload _ _ d a b => distinct3 d a b
  | .cread _ _ d a b => distinct3 d a b
  | .send _ _ _ a _ => decide (a.val % 2 = 0)
  | .hold _ n => decide (1 ≤ n.toNat) && decide (n.toNat ≤ 512)
  | .mov16 _ d r => decide (d ≠ r)
  | .mlog _ _ op _ _ b => decide (op = .not → b = 0)
  | .tinfo _ _ _ sel => decide (sel.val ≤ 8) || (decide (16 ≤ sel.val) && decide (sel.val ≤ 23))
  | .vzbm _ _ _ _ k => decide (2 ≤ k.val) && decide (k.val ≤ 6)
  | .vcvts _ _ f _ _ _ => decide (f.val < 12) && decide (f.val ≠ 1)
  | .vcvtf _ _ f sr _ _ _ => decide (f.val < 12) && decide (f.val ≠ 1) && (!sr || decide (2 ≤ f.val))
  | .tcfg _ _ _ mask => decide (mask ≠ 0)
  | .mma _ _ _ sp tm _ _ _ _ => sp || decide (tm = 0)
  | .acvt _ _ wide half row _ dv aa d =>
    (!wide || (decide (aa.val % 2 = 0) && !half)) && (dv || (decide (row = 0) && decide (d.val < 8)))
  | _ => true

end Sys2Proof
end

