-- ==== Sys2Proof/Machine/Operands.lean ====
section
/-!
DEFINITION. Operand forms: immediates, effective addresses and their checks, local-memory reads and
writes as an instruction makes them, code targets, and the FP views of a general register (R90, R93,
R99, R101, R105).
-/
namespace Sys2Proof.Machine
open Sys2Proof

/-- A reserved combination of operands traps (R97); any other goes on. -/
def guardWf (i : Instr) (h : Hart) (len : Nat) (k : State → Host.Outcome State Fault Refusal) (s : State) :
    Host.Outcome State Fault Refusal :=
  if i.wf then k s else issueReserved h len (encodeInfo i) s

def sext12 (i : BitVec 12) : Word := i.signExtend 64
def sext7 (i : BitVec 7) : Word := i.signExtend 64
/-- g0–g15 named by a compact instruction (R101). -/
def cg (r : Fin 16) : Fin 32 := Fin.ofNat 32 r.val

/-- Effective address gA + s × imm12 in 64 bits (R93). -/
def effAddr (t : Thread) (a : Fin 32) (size : Nat) (imm : BitVec 12) : Word :=
  gReg t a + BitVec.ofNat 64 size * sext12 imm

/-- Alignment, then bounds, of an access of `n` bytes (R93, R137). -/
def addrFault (a : Word) (n : Nat) : Option Flt :=
  if a.toNat % n ≠ 0 then some ⟨0x04, a, false⟩
  else if localTop < a.toNat + n then some ⟨0x03, BitVec.ofNat 64 (max a.toNat localTop), false⟩
  else none

/-- Bytes as a register value. -/
def bytes64 (bs : List Byte) : Word := BitVec.ofNat 64 (bytesNat bs)
def bytes512 (bs : List Byte) : BitVec 512 := BitVec.ofNat 512 (bytesNat bs)

/-- A scalar load of `n` bytes (R93, R95, R410). -/
def loadAct (c : Core) (th : Fin 4) (a : Word) (n : Nat) (d : Fin 32) (ext : Word → Word) : Act :=
  match addrFault a n with
  | some f => { fault := some f, writes := [.g d 0] }
  | none =>
    { reads := { words := wordsOf a.toNat n }
      fault := (firstPoison c (some th) a.toNat n).map fun _ => ⟨0x39, a, false⟩
      writes := [.g d (ext (bytes64 (readView c (some th) a.toNat n)))] }

/-- A scalar store of the low `n` bytes of a register (R93, R147). -/
def storeAct (a : Word) (n : Nat) (v : Word) : Act :=
  { fault := addrFault a n, writes := [.store a.toNat (natBytes n v.toNat) false] }

/-- `VLD` (R93, R159): poison travels. -/
def vldAct (c : Core) (th : Fin 4) (a : Word) (d : Fin 32) : Act :=
  match addrFault a 64 with
  | some f => { fault := some f, writes := [.v d ⟨0, false⟩ true] }
  | none =>
    { reads := { words := wordsOf a.toNat 64 }
      writes := [.v d ⟨bytes512 (readView c (some th) a.toNat 64),
        (wordsOf a.toNat 64).any (poisonView c (some th))⟩ true] }

/-- `VST` (R93, R159). -/
def vstAct (t : Thread) (a : Word) (d : Fin 32) : Act :=
  let x := vReg t d
  { reads := { v := [d] }, fault := addrFault a 64,
    writes := [.store a.toNat (natBytes 64 x.data.toNat) x.poison] }

/-- The address of the next instruction. -/
def nextPc (t : Thread) (len : Nat) : Word := (t.pc + BitVec.ofNat 17 len).setWidth 64

/-- Target of a branch: its own address plus 2 × displacement, modulo 2^16 (R105). -/
def brTarget {w : Nat} (t : Thread) (disp : BitVec w) : BitVec 17 :=
  (t.pc.setWidth 16 + 2 * disp.signExtend 16).setWidth 17

/-- Target check of `JMP` and `JMPL` (R92). -/
def jmpFault (x : Word) : Option Flt :=
  if 0xFFFF < x.toNat then some ⟨0x1B, x, false⟩
  else if bit x 0 then some ⟨0x04, x, false⟩ else none

/-- The bits of a scalar FP operand (R90). -/
def fpBits (f : FpFmt) (x : Word) : Nat := match f with | .d => x.toNat | .s => x.toNat % 2 ^ 32

end Sys2Proof.Machine
end

