-- ==== Sys2Proof/Machine/BlockRepeat.lean ====
section
/-!
DEFINITION. The block-repeat and code-space operations (R108–R112). One command is one issue slot of the
operation: it moves at most 64 bytes, and stops between elements.
-/
namespace Sys2Proof.Machine
open Sys2Proof

/-! ### Shared operations -/

/-- An operation in progress: the core, the three registers, the words read so far, and why it stops. -/
structure Blk where
  c : Core
  d : Word
  a : Word
  b : Word
  words : List Nat
  flt : Option Flt
  hit : Bool
  deriving DecidableEq, Repr

def blkLoop (step : Blk → Blk) : Nat → Blk → Blk
  | 0, x => x
  | n + 1, x => if x.b = 0 ∨ x.flt.isSome ∨ x.hit then x else blkLoop step n (step x)

def blockLocalOk (x : Word) (n : Nat) : Bool := decide (x.toNat + n ≤ localTop)
def codeOk (x : Word) (n : Nat) : Bool := decide (x.toNat + n ≤ 0x10000)
def elemBytes : ElemSize → Nat | .b => 1 | .h => 2 | .w => 4 | .d => 8

def stopAt (x : Blk) (cause : BitVec 8) (a : Word) : Blk := { x with flt := some ⟨cause, a, false⟩ }
/-- The registers moved past one element of `n` bytes; gB by `k`. -/
def stepBy (x : Blk) (n : Nat) (moveA : Bool) (k : Nat) : Blk :=
  { x with d := x.d + BitVec.ofNat 64 n, a := if moveA then x.a + BitVec.ofNat 64 n else x.a,
           b := x.b - BitVec.ofNat 64 k }
def sawWord (x : Blk) (a : Word) : Blk := { x with words := a.toNat / 8 :: x.words }
def poisonAt (x : Blk) (th : Fin 4) (a : Word) : Bool := poisonView x.c (some th) (a.toNat / 8)
def putElem (x : Blk) (th : Fin 4) (a : Word) (bs : List Byte) : Blk :=
  { x with c := pushStore ⟨th, a.toNat, bs, false, false⟩ x.c }

def smoveStep (th : Fin 4) (n : Nat) (x : Blk) : Blk :=
  if !blockLocalOk x.a n then stopAt x 0x03 x.a
  else if !blockLocalOk x.d n then stopAt x 0x03 x.d
  else
    let y := sawWord x x.a
    if poisonAt x th x.a then stopAt y 0x39 x.a
    else stepBy (putElem y th x.d (readView x.c (some th) x.a.toNat n)) n true 1

def sfillStep (th : Fin 4) (n : Nat) (x : Blk) : Blk :=
  if !blockLocalOk x.d n then stopAt x 0x03 x.d
  else stepBy (putElem x th x.d (natBytes n x.a.toNat)) n false 1

def scmpStep (th : Fin 4) (n : Nat) (x : Blk) : Blk :=
  if !blockLocalOk x.a n then stopAt x 0x03 x.a
  else if !blockLocalOk x.d n then stopAt x 0x03 x.d
  else
    let y := sawWord (sawWord x x.a) x.d
    if poisonAt x th x.a && (!poisonAt x th x.d || decide (x.a ≤ x.d)) then stopAt y 0x39 x.a
    else if poisonAt x th x.d then stopAt y 0x39 x.d
    else if readView x.c (some th) x.d.toNat n ≠ readView x.c (some th) x.a.toNat n then { y with hit := true }
    else stepBy y n true 1

def sscanStep (th : Fin 4) (n : Nat) (neg : Bool) (x : Blk) : Blk :=
  if !blockLocalOk x.d n then stopAt x 0x03 x.d
  else
    let y := sawWord x x.d
    if poisonAt x th x.d then stopAt y 0x39 x.d
    else if decide (readView x.c (some th) x.d.toNat n = natBytes n x.a.toNat) != neg then { y with hit := true }
    else stepBy y n false 1

def cloadStep (th : Fin 4) (x : Blk) : Blk :=
  if !blockLocalOk x.a 4 then stopAt x 0x03 x.a
  else if !codeOk x.d 4 then stopAt x 0x1B x.d
  else
    let y := sawWord x x.a
    if poisonAt x th x.a then stopAt y 0x39 x.a
    else stepBy { y with c := { y.c with code := mwrite y.c.code x.d.toNat (readView x.c (some th) x.a.toNat 4) } } 4 true 4

def creadStep (th : Fin 4) (x : Blk) : Blk :=
  if !codeOk x.a 4 then stopAt x 0x1B x.a
  else if !blockLocalOk x.d 4 then stopAt x 0x03 x.d
  else if x.c.codePoison.contains (x.a.toNat / 8) then stopAt x 0x39 x.a
  else stepBy (putElem x th x.d (mread x.c.code x.a.toNat 4)) 4 true 4

/-- The first misaligned register among those an operation tests (R108). -/
def misaligned (n : Nat) : List Word → Option Flt
  | [] => none
  | x :: t => if x.toNat % n ≠ 0 then some ⟨0x04, x, false⟩ else misaligned n t

def blkStart (c : Core) (t : Thread) (d a b : Fin 32) : Blk := ⟨c, gReg t d, gReg t a, gReg t b, [], none, false⟩

/-- The elements of `n` bytes of one issue slot (R111). -/
def runBlk (n : Nat) (step : Blk → Blk) (x : Blk) : Blk := blkLoop step (64 / n) x

/-- The registers an operation leaves (R109). -/
def putRegs (h : Hart) (d a b : Fin 32) (x : Blk) : Core :=
  let t := thOf x.c h.thread
  setTh x.c h.thread { t with g := tset (tset (tset t.g d.val x.d) a.val x.a) b.val x.b }

/-- One issue slot of the operation (R108, R109, R111, R231): an event to be taken goes before its first element; the
elements of the slot move in one cycle, so no other falls between them. The PC stays at the operation while
elements are left. -/
def blkEff (h : Hart) (d a b : Fin 32) (n : Nat) (step : Blk → Blk) (s : State) : State :=
  let c := coreOf s h.core
  let t := thOf c h.thread
  let x := blkStart c t d a b
  if x.b = 0 then modTh s h (advPc 4)
  else if eventGoes t then takeEvent h t.pc s
  else
    let y := runBlk n step x
    let s := setCore s h.core (putRegs h d a b y)
    match y.flt with
    | some f => takeFault h 4 f s
    | none => if y.b = 0 ∨ y.hit then modTh s h (advPc 4) else s

/-- A block-repeat instruction: `tests` are the registers its alignment check takes in order, `n` its
element size; `priv` the privilege fault of `CLOAD` and `CREAD`. -/
def blk (h : Hart) (p : Fin 8) (d a b : Fin 32) (n : Nat) (tests : List (Fin 32)) (step : Blk → Blk)
    (priv : Thread → Option Flt) (s : State) : Host.Outcome State Fault Refusal :=
  issueOwn h p 4 (fun c t =>
    match priv t with
    | some f => { fault := some f }
    | none =>
      if gReg t b = 0 then {}
      else match misaligned n (tests.map (gReg t)) with
        | some f => { fault := some f }
        | none => { reads := { words := (runBlk n step (blkStart c t d a b)).words } })
    (blkEff h d a b n step) s

/-! ### Meanings -/

/-- `SMOVE` (R108). -/
def execSmove (h : Hart) (p : Fin 8) (sz : ElemSize) (d : Fin 32) (a : Fin 32) (b : Fin 32) (s : State) :
    Host.Outcome State Fault Refusal :=
  guardWf (.smove h p sz d a b) h 4
    (blk h p d a b (elemBytes sz) [d, a] (smoveStep h.thread (elemBytes sz)) fun _ => none) s

/-- `SFILL` (R108). -/
def execSfill (h : Hart) (p : Fin 8) (sz : ElemSize) (d : Fin 32) (a : Fin 32) (b : Fin 32) (s : State) :
    Host.Outcome State Fault Refusal :=
  guardWf (.sfill h p sz d a b) h 4
    (blk h p d a b (elemBytes sz) [d] (sfillStep h.thread (elemBytes sz)) fun _ => none) s

/-- `SCMP` (R108, R110). -/
def execScmp (h : Hart) (p : Fin 8) (sz : ElemSize) (d : Fin 32) (a : Fin 32) (b : Fin 32) (s : State) :
    Host.Outcome State Fault Refusal :=
  guardWf (.scmp h p sz d a b) h 4
    (blk h p d a b (elemBytes sz) [d, a] (scmpStep h.thread (elemBytes sz)) fun _ => none) s

/-- `SSCAN` (R108, R110). -/
def execSscan (h : Hart) (p : Fin 8) (sz : ElemSize) (d : Fin 32) (a : Fin 32) (b : Fin 32) (s : State) :
    Host.Outcome State Fault Refusal :=
  guardWf (.sscan h p sz d a b) h 4
    (blk h p d a b (elemBytes sz) [d] (sscanStep h.thread (elemBytes sz) false) fun _ => none) s

/-- `SSCANN` (R108, R110). -/
def execSscann (h : Hart) (p : Fin 8) (sz : ElemSize) (d : Fin 32) (a : Fin 32) (b : Fin 32) (s : State) :
    Host.Outcome State Fault Refusal :=
  guardWf (.sscann h p sz d a b) h 4
    (blk h p d a b (elemBytes sz) [d] (sscanStep h.thread (elemBytes sz) true) fun _ => none) s

/-- `CLOAD` (R108, R112). -/
def execCload (h : Hart) (p : Fin 8) (d : Fin 32) (a : Fin 32) (b : Fin 32) (s : State) :
    Host.Outcome State Fault Refusal :=
  guardWf (.cload h p d a b) h 4
    (blk h p d a b 4 [d, a, b] (cloadStep h.thread) fun t => privFault t (encodeInfo (.cload h p d a b))) s

/-- `CREAD` (R108). -/
def execCread (h : Hart) (p : Fin 8) (d : Fin 32) (a : Fin 32) (b : Fin 32) (s : State) :
    Host.Outcome State Fault Refusal :=
  guardWf (.cread h p d a b) h 4
    (blk h p d a b 4 [d, a, b] (creadStep h.thread) fun t => privFault t (encodeInfo (.cread h p d a b))) s

end Sys2Proof.Machine
end

