-- ==== Sys2Proof/Machine/Float.lean ====
section
/-!
DEFINITION. Number formats and exact arithmetic with one rounding at the end (R104, R153, R179–R186).
A finite value is kept as sign, magnitude and power of two, so that nothing is lost before it is rounded.
-/
namespace Sys2Proof.Machine
open Sys2Proof

/-- A value: NaN (signalling or quiet), an infinity, or (−1)^neg × m × 2^e. -/
inductive FV
  | nan (sig : Bool)
  | inf (neg : Bool)
  | fin (neg : Bool) (m : Nat) (e : Int)
  deriving DecidableEq, Repr

/-- Rounding modes (R104, R184); `sr r` is stochastic with the draw `r` (R186). -/
inductive RM | rne | rz | ru | rd | rna | sr (r : Nat)
  deriving DecidableEq, Repr

/-- IEEE exceptions as bits of `FP_FLAGS` (R104): [4] invalid, [3] division by zero, [2] overflow,
[1] underflow, [0] inexact. DEDUCED: the rule lists the five in this order for bits [4:0] (log 8). -/
def fNV : BitVec 5 := 16
def fDZ : BitVec 5 := 8
def fOF : BitVec 5 := 4
def fUF : BitVec 5 := 2
def fNX : BitVec 5 := 1

/-- Special codes of a format (R179). -/
inductive FKind | ieee | e4m3 | finite
  deriving DecidableEq, Repr

/-- A floating-point format: exponent and mantissa widths, bias, special codes. -/
structure FFmt where
  ex : Nat
  man : Nat
  bias : Int
  kind : FKind
  deriving DecidableEq, Repr

def fp64 : FFmt := ⟨11, 52, 1023, .ieee⟩
def fp32 : FFmt := ⟨8, 23, 127, .ieee⟩

/-- Formats `0x0` to `0x8` (R179). -/
def ffmt : Nat → FFmt
  | 0 => fp64
  | 1 => fp32
  | 2 => ⟨5, 10, 15, .ieee⟩
  | 3 => ⟨8, 7, 127, .ieee⟩
  | 4 => ⟨4, 3, 7, .e4m3⟩
  | 5 => ⟨5, 2, 15, .ieee⟩
  | 6 => ⟨3, 2, 3, .finite⟩
  | 7 => ⟨2, 3, 1, .finite⟩
  | _ => ⟨2, 1, 1, .finite⟩

def scalarFmt : FpFmt → FFmt | .d => fp64 | .s => fp32

/-- Container width in bits (R162). -/
def contBits : Nat → Nat
  | 0 => 64 | 1 => 32 | 2 => 16 | 3 => 16 | 4 => 8 | 5 => 8 | 6 => 8 | 7 => 8 | 8 => 4 | 9 => 8 | 10 => 4 | _ => 2

/-- The value of a code (R179). -/
def fdecode (f : FFmt) (x : Nat) : FV :=
  let fr := x % 2 ^ f.man
  let ex := x / 2 ^ f.man % 2 ^ f.ex
  let neg := decide (x / 2 ^ (f.man + f.ex) % 2 = 1)
  if f.kind = .ieee ∧ ex = 2 ^ f.ex - 1 then
    if fr = 0 then .inf neg else .nan (decide (fr < 2 ^ (f.man - 1)))
  else if f.kind = .e4m3 ∧ ex = 15 ∧ fr = 7 then .nan false
  else if ex = 0 then .fin neg fr (1 - f.bias - f.man)
  else .fin neg (2 ^ f.man + fr) (ex - f.bias - f.man)

/-- Default NaN (R104, R185). -/
def defaultNaN (f : FFmt) : Nat :=
  if f.kind = .ieee ∧ f.man ≠ 2 then (2 ^ f.ex - 1) * 2 ^ f.man + 2 ^ (f.man - 1) else 0x7F

/-- Largest finite magnitude as significand and exponent of its last bit. -/
def maxFin (f : FFmt) : Nat × Int :=
  match f.kind with
  | .ieee => (2 ^ (f.man + 1) - 1, (2 ^ f.ex - 2 : Nat) - f.bias - f.man)
  | .e4m3 => (14, 15 - f.bias - f.man)
  | .finite => (2 ^ (f.man + 1) - 1, (2 ^ f.ex - 1 : Nat) - f.bias - f.man)

/-- m1 × 2^e1 ≤ m2 × 2^e2. -/
def magLe (m1 : Nat) (e1 : Int) (m2 : Nat) (e2 : Int) : Bool :=
  if e2 ≤ e1 then decide (m1 * 2 ^ (e1 - e2).toNat ≤ m2) else decide (m1 ≤ m2 * 2 ^ (e2 - e1).toNat)

/-- m × 2^e rounded to a multiple of 2^q: the multiple, and whether it is inexact. -/
def roundAt (rm : RM) (neg : Bool) (m : Nat) (e q : Int) : Nat × Bool :=
  if q ≤ e then (m * 2 ^ (e - q).toNat, false)
  else
    let d := (q - e).toNat
    let n := m / 2 ^ d
    let r := m % 2 ^ d
    let up := match rm with
      | .rne => decide (2 ^ d < 2 * r) || (decide (2 * r = 2 ^ d) && decide (n % 2 = 1))
      | .rz => false
      | .ru => !neg && decide (r ≠ 0)
      | .rd => neg && decide (r ≠ 0)
      | .rna => decide (2 ^ d ≤ 2 * r)
      | .sr x => decide (2 ^ 16 ≤ r * 2 ^ 16 / 2 ^ d + x)
    (if up then n + 1 else n, decide (r ≠ 0))

/-- The code of a rounded magnitude n × 2^q that the format holds. -/
def encodeFin (f : FFmt) (neg : Bool) (n : Nat) (q : Int) : Nat :=
  let n' := if 2 ^ (f.man + 1) ≤ n then n / 2 else n
  let q' := if 2 ^ (f.man + 1) ≤ n then q + 1 else q
  (if n' < 2 ^ f.man then n' else (q' + f.man + f.bias).toNat * 2 ^ f.man + (n' - 2 ^ f.man))
    + (if neg then 2 ^ (f.ex + f.man) else 0)

def maxCode (f : FFmt) (neg : Bool) : Nat := encodeFin f neg (maxFin f).1 (maxFin f).2
def infCode (f : FFmt) (neg : Bool) : Nat := (2 ^ f.ex - 1) * 2 ^ f.man + (if neg then 2 ^ (f.ex + f.man) else 0)

/-- The mode rounds a magnitude of this sign toward zero (R185). -/
def towardZero (rm : RM) (neg : Bool) : Bool :=
  match rm with
  | .rz => true
  | .rd => !neg
  | .ru => neg
  | _ => false

/-- A finite value rounded into a format, with the overflow rows of R185 (R184, R185). -/
def roundFin (f : FFmt) (rm : RM) (sat neg : Bool) (m : Nat) (e : Int) : Nat × BitVec 5 :=
  if m = 0 then (encodeFin f neg 0 0, 0)
  else
    let q1 : Int := (Nat.log2 m : Nat) + e - f.man
    let qmin : Int := 1 - f.bias - f.man
    let n1 := (roundAt rm neg m e q1).1
    let tiny := decide ((Nat.log2 n1 : Nat) + q1 < 1 - f.bias)
    let q := if q1 < qmin then qmin else q1
    let r := roundAt rm neg m e q
    if !magLe r.1 q (maxFin f).1 (maxFin f).2 then
      match f.kind with
      | .finite => (maxCode f neg, fOF ||| fNX)
      | .e4m3 => (if sat then maxCode f neg else 0x7F, fOF ||| fNX)
      | .ieee => (if sat || towardZero rm neg then maxCode f neg else infCode f neg, fOF ||| fNX)
    else (encodeFin f neg r.1 q, (if r.2 then fNX else 0) ||| (if r.2 && tiny then fUF else 0))

/-- A result of FP32 or FP64 arithmetic (R104): every NaN is the default NaN. -/
def fround (f : FFmt) (rm : RM) : FV → Nat × BitVec 5
  | .nan _ => (defaultNaN f, 0)
  | .inf neg => (infCode f neg, 0)
  | .fin neg m e => roundFin f rm false neg m e

/-! ### Exact operations -/

def isSig : FV → Bool | .nan b => b | _ => false
def isNan : FV → Bool | .nan _ => true | _ => false
def isInf : FV → Bool | .inf _ => true | _ => false
def isZero : FV → Bool | .fin _ 0 _ => true | _ => false
def isNeg : FV → Bool | .nan _ => false | .inf n => n | .fin n _ _ => n
def negV : FV → FV | .nan b => .nan b | .inf n => .inf (!n) | .fin n m e => .fin (!n) m e

def sint (neg : Bool) (m : Nat) : Int := if neg then -(m : Int) else m

/-- Exact sum; an exact zero of operands of different signs is +0, −0 when rounding down (R104). -/
def addV (rm : RM) (a b : FV) : FV × BitVec 5 :=
  let nv := if isSig a || isSig b then fNV else 0
  match a, b with
  | .nan _, _ => (.nan false, nv)
  | _, .nan _ => (.nan false, nv)
  | .inf x, .inf y => if x = y then (.inf x, 0) else (.nan false, fNV)
  | .inf x, _ => (.inf x, 0)
  | _, .inf y => (.inf y, 0)
  | .fin x m e, .fin y n g =>
    let q := min e g
    let i := sint x m * (2 ^ (e - q).toNat : Nat) + sint y n * (2 ^ (g - q).toNat : Nat)
    if i = 0 then (.fin (if x = y then x else decide (rm = .rd)) 0 q, 0)
    else (.fin (decide (i < 0)) i.natAbs q, 0)

def mulV (a b : FV) : FV × BitVec 5 :=
  let nv := if isSig a || isSig b then fNV else 0
  match a, b with
  | .nan _, _ => (.nan false, nv)
  | _, .nan _ => (.nan false, nv)
  | .inf x, b => if isZero b then (.nan false, fNV) else (.inf (x != isNeg b), 0)
  | a, .inf y => if isZero a then (.nan false, fNV) else (.inf (isNeg a != y), 0)
  | .fin x m e, .fin y n g => (.fin (x != y) (m * n) (e + g), 0)

/-- a × b + c, exact; 0 × ∞ is invalid whatever c holds (R104). -/
def fmaV (rm : RM) (a b c : FV) : FV × BitVec 5 :=
  let p := mulV a b
  let r := addV rm p.1 c
  (r.1, p.2 ||| r.2 ||| (if isSig a || isSig b || isSig c then fNV else 0))

/-- Quotient with at least `bits` significant bits and a last bit that is 1 for any remainder. -/
def divV (bits : Nat) (a b : FV) : FV × BitVec 5 :=
  let nv := if isSig a || isSig b then fNV else 0
  match a, b with
  | .nan _, _ => (.nan false, nv)
  | _, .nan _ => (.nan false, nv)
  | .inf x, b => if isInf b then (.nan false, fNV) else (.inf (x != isNeg b), 0)
  | a, .inf y => (.fin (isNeg a != y) 0 0, 0)
  | .fin x m e, .fin y n g =>
    if n = 0 then if m = 0 then (.nan false, fNV) else (.inf (x != y), fDZ)
    else
      let k := bits + Nat.log2 n + 1
      let t := m * 2 ^ k
      (.fin (x != y) (2 * (t / n) + (if t % n = 0 then 0 else 1)) (e - g - k - 1), 0)

/-- Integer square root by bits, from bit `n` down. -/
def isqrt (x : Nat) : Nat → Nat → Nat
  | 0, r => if (r + 1) * (r + 1) ≤ x then r + 1 else r
  | n + 1, r => isqrt x n (if (r + 2 ^ (n + 1)) * (r + 2 ^ (n + 1)) ≤ x then r + 2 ^ (n + 1) else r)

def sqrtV (bits : Nat) (a : FV) : FV × BitVec 5 :=
  match a with
  | .nan s => (.nan false, if s then fNV else 0)
  | .inf n => if n then (.nan false, fNV) else (.inf false, 0)
  | .fin n m e =>
    if m = 0 then (.fin n 0 0, 0)
    else if n then (.nan false, fNV)
    else
      let k := 2 * bits + (if (e % 2 = 0) then 0 else 1)
      let t := m * 2 ^ k
      let r := isqrt t (Nat.log2 t / 2 + 1) 0
      (.fin false (2 * r + (if r * r = t then 0 else 1)) ((e - k) / 2 - 1), 0)

/-- a < b as numbers (no NaN). -/
def ltV (a b : FV) : Bool :=
  match a, b with
  | .nan _, _ => false
  | _, .nan _ => false
  | .inf x, .inf y => x && !y
  | .inf x, _ => x
  | _, .inf y => !y
  | .fin x m e, .fin y n g =>
    let q := min e g
    decide (sint x m * (2 ^ (e - q).toNat : Nat) < sint y n * (2 ^ (g - q).toNat : Nat))

def eqV (a b : FV) : Bool := !isNan a && !isNan b && !ltV a b && !ltV b a

/-! ### Operations on FP32 and FP64 codes (R104, R153) -/

def withRound (f : FFmt) (rm : RM) (r : FV × BitVec 5) : Nat × BitVec 5 :=
  let o := fround f rm r.1
  (o.1, o.2 ||| r.2)

def fpAdd (f : FFmt) (rm : RM) (a b : Nat) : Nat × BitVec 5 := withRound f rm (addV rm (fdecode f a) (fdecode f b))
def fpSub (f : FFmt) (rm : RM) (a b : Nat) : Nat × BitVec 5 :=
  withRound f rm (addV rm (fdecode f a) (negV (fdecode f b)))
def fpMul (f : FFmt) (rm : RM) (a b : Nat) : Nat × BitVec 5 := withRound f rm (mulV (fdecode f a) (fdecode f b))
def fpDiv (f : FFmt) (rm : RM) (a b : Nat) : Nat × BitVec 5 :=
  withRound f rm (divV (f.man + 3) (fdecode f a) (fdecode f b))
def fpSqrt (f : FFmt) (rm : RM) (a : Nat) : Nat × BitVec 5 := withRound f rm (sqrtV (f.man + 3) (fdecode f a))
/-- ±(a × b) + c, rounded once. -/
def fpFma (f : FFmt) (rm : RM) (neg : Bool) (a b c : Nat) : Nat × BitVec 5 :=
  let x := fdecode f a
  withRound f rm (fmaV rm (if neg then negV x else x) (fdecode f b) (fdecode f c))

/-- minimumNumber and maximumNumber of IEEE 754-2019 (R153): −0 is below +0. -/
def fpMinMax (f : FFmt) (mx : Bool) (a b : Nat) : Nat × BitVec 5 :=
  let x := fdecode f a
  let y := fdecode f b
  let nv := if isSig x || isSig y then fNV else 0
  if isNan x then (if isNan y then defaultNaN f else b, nv)
  else if isNan y then (a, nv)
  else
    let aLess := ltV x y || (eqV x y && isNeg x)
    (if aLess != mx then a else b, nv)

def signBit (f : FFmt) : Nat := 2 ^ (f.ex + f.man)
/-- Sign cleared, or flipped; nothing is raised. -/
def fpAbs (f : FFmt) (a : Nat) : Nat := a % signBit f
def fpNeg (f : FFmt) (a : Nat) : Nat := if a < signBit f then a + signBit f else a - signBit f

/-- `EQ`, `LT`, `LE`, `UN`: result and exceptions (R104). -/
def fpCmp (f : FFmt) (c : FcmpCond) (a b : Nat) : Bool × BitVec 5 :=
  let x := fdecode f a
  let y := fdecode f b
  let un := isNan x || isNan y
  let sig := if isSig x || isSig y then fNV else 0
  match c with
  | .eq => (eqV x y, sig)
  | .un => (un, sig)
  | .lt => (ltV x y, if un then fNV else 0)
  | .le => (!un && !ltV y x, if un then fNV else 0)

/-- Class number in the order of IEEE 754-2019 clause 5.7.2 (R104, log 9): signalling NaN, quiet NaN,
−∞, negative normal, negative subnormal, −0, +0, positive subnormal, positive normal, +∞. -/
def fpClass (f : FFmt) (a : Nat) : Nat :=
  match fdecode f a with
  | .nan s => if s then 0 else 1
  | .inf n => if n then 2 else 9
  | .fin n m _ =>
    if m = 0 then (if n then 5 else 6)
    else if m < 2 ^ f.man then (if n then 4 else 7)
    else (if n then 3 else 8)

/-- A value rounded to an integer of a range: `none` for a NaN or a value outside it. -/
def toInt (rm : RM) (lo hi : Int) : FV → Option Int × BitVec 5
  | .nan _ => (none, fNV)
  | .inf _ => (none, fNV)
  | .fin neg m e =>
    let r := roundAt rm neg m e 0
    let i := sint neg r.1
    if i < lo ∨ hi < i then (none, fNV) else (some i, if r.2 then fNX else 0)

/-- An integer as a value. -/
def ofInt (i : Int) : FV := .fin (decide (i < 0)) i.natAbs 0

/-! ### Conversions to an element format (R184, R185) -/

/-- Into an integer element format with range `lo` to `hi`. -/
def narrowInt (rm : RM) (sat : Bool) (lo hi : Int) : FV → Int × BitVec 5
  | .nan _ => (0, fNV)
  | .inf neg => (if neg then lo else hi, fNV)
  | .fin neg m e =>
    let r := roundAt rm neg m e 0
    let i := sint neg r.1
    if i < lo then (lo, if sat then fNX else fNV)
    else if hi < i then (hi, if sat then fNX else fNV)
    else (i, if r.2 then fNX else 0)

/-- Two's complement code of `b` bits. -/
def intCode (b : Nat) (i : Int) : Nat := (i % (2 ^ b : Nat)).toNat

/-- The conversion of a value to element format `code` (R184, R185). -/
def narrow (code : Nat) (rm : RM) (sat : Bool) (v : FV) : Nat × BitVec 5 :=
  if code = 9 then let r := narrowInt rm sat (-128) 127 v; (intCode 8 r.1, r.2)
  else if code = 10 then let r := narrowInt rm sat (-8) 7 v; (intCode 4 r.1, r.2)
  else if code = 11 then let r := narrowInt rm sat (-1) 1 v; (intCode 2 r.1, r.2)
  else
    let f := ffmt code
    match v with
    | .fin neg m e => roundFin f rm sat neg m e
    | .inf neg =>
      match f.kind with
      | .finite => (maxCode f neg, fNV)
      | .e4m3 => (if sat then maxCode f neg else 0x7F, fNV)
      | .ieee => if sat then (maxCode f neg, fNV) else (infCode f neg, 0)
    | .nan sig => if f.kind = .finite then (0, fNV) else (defaultNaN f, if sig then fNV else 0)

/-- The value of an element code; `none` is the invalid T2 code (R179, R180). -/
def elemValue (code x : Nat) : Option FV :=
  if code = 9 then some (ofInt (sgn 8 x))
  else if code = 10 then some (ofInt (sgn 4 x))
  else if code = 11 then (if x % 4 = 2 then none else some (ofInt (sgn 2 x)))
  else some (fdecode (ffmt code) (if code = 6 ∨ code = 7 then x % 64 else x))

end Sys2Proof.Machine
end

