-- ==== Sys2Proof/Machine/Flags.lean ====
section
/-!
DEFINITION. IEEE flags and traps (R104, R153), the rounding mode, and the stochastic generator (R186).
-/
namespace Sys2Proof.Machine
open Sys2Proof

/-- Rounding mode of `FP_CTRL`[2:0] (R104); a reserved value is never stored (R94). -/
def rmOfCode : Nat → RM
  | 0 => .rne | 1 => .rz | 2 => .ru | 3 => .rd | _ => .rna

def rmOf (t : Thread) : RM := rmOfCode (fld t.fpCtrl 0 3)

/-- Exceptions whose enable bit in `FP_CTRL`[7:3] is set (R104). -/
def trapped (t : Thread) (fl : BitVec 5) : BitVec 5 := fl &&& BitVec.ofNat 5 (fld t.fpCtrl 3 5)

/-- An instruction that raises `fl`: it faults with 0x0A when an enabled exception is among them, its
flags set in either case (R104, R153). -/
def fpAct (t : Thread) (reads : Reads) (fl : BitVec 5) (ws : List Wr) : Act :=
  { reads := reads
    fault := if trapped t fl = 0 then none else some ⟨0x0A, (trapped t fl).setWidth 64, false⟩
    writes := ws
    flags := fl }

/-- State after one draw of the stochastic-rounding generator (R186). -/
def srNext (s : Word) : Word :=
  let a := s ^^^ (s <<< 13)
  let b := a ^^^ (a >>> 7)
  b ^^^ (b <<< 17)

/-- The 16 bits a draw returns, from the state after it (R186). -/
def srDraw (s : Word) : Nat := fld s 48 16

/-- What a write to `SR_SEED` stores (R186). -/
def srSeedOf (x : Word) : Word := if x = 0 then 0x9E3779B97F4A7C15 else x

end Sys2Proof.Machine
end

