-- ==== Sys2Proof/Machine/Integer.lean ====
section
/-!
DEFINITION. Integer and predicate instructions, 32-bit and compact (R101–R103).
-/
namespace Sys2Proof.Machine
open Sys2Proof

/-! ### Shared operations -/

def shl64 (x y : Word) : Word := x <<< (y.toNat % 64)
def shr64 (x y : Word) : Word := x >>> (y.toNat % 64)
def sar64 (x y : Word) : Word := x.sshiftRight (y.toNat % 64)
def ror64 (x y : Word) : Word := x.rotateRight (y.toNat % 64)
def mulh (x y : Word) : Word := ((x.signExtend 128 * y.signExtend 128) >>> 64).setWidth 64
def mulhu (x y : Word) : Word := ((x.setWidth 128 * y.setWidth 128) >>> 64).setWidth 64
/-- Quotients toward zero and remainders with the dividend's sign; by zero, all ones and the dividend (R103). -/
def divS (x y : Word) : Word := if y = 0 then BitVec.allOnes 64 else x.sdiv y
def divU (x y : Word) : Word := if y = 0 then BitVec.allOnes 64 else x / y
def remS (x y : Word) : Word := if y = 0 then x else x.srem y
def remU (x y : Word) : Word := if y = 0 then x else x % y
def minS (x y : Word) : Word := if x.slt y then x else y
def maxS (x y : Word) : Word := if x.slt y then y else x
def minU (x y : Word) : Word := if x < y then x else y
def maxU (x y : Word) : Word := if x < y then y else x
/-- Leading zeros. -/
def clz (x : Word) : Word := if x = 0 then 64 else BitVec.ofNat 64 (63 - Nat.log2 x.toNat)
/-- Lowest set bit among the lowest `n`, or `n`. -/
def ctzN (x : Word) : Nat → Nat → Nat
  | 0, i => i
  | n + 1, i => if bit x i then i else ctzN x n (i + 1)
def ctz (x : Word) : Word := BitVec.ofNat 64 (ctzN x 64 0)
def popc (x : Word) : Word := BitVec.ofNat 64 ((List.range 64).foldl (fun n i => n + b2n (bit x i)) 0)

def cmpVal (c : CmpCond) (x y : Word) : Bool :=
  match c with
  | .eq => x == y
  | .ne => x != y
  | .lt => x.slt y
  | .ge => !x.slt y
  | .ltu => decide (x < y)
  | .geu => !decide (x < y)

def cmpiVal (c : CmpiCond) (x y : Word) : Bool :=
  match c with
  | .eq => x == y
  | .ne => x != y
  | .lt => x.slt y
  | .ltu => decide (x < y)

/-- An instruction of `len` bytes that writes `f` of the thread's registers to gD. -/
def aluG (h : Hart) (p : Fin 8) (len : Nat) (d : Fin 32) (f : Thread → Word) (s : State) :
    Host.Outcome State Fault Refusal :=
  issue h p len (fun _ t => { writes := [.g d (f t)] }) s

/-- gD := gA op gB. -/
def alu2 (h : Hart) (p : Fin 8) (len : Nat) (d a b : Fin 32) (f : Word → Word → Word) (s : State) :
    Host.Outcome State Fault Refusal :=
  aluG h p len d (fun t => f (gReg t a) (gReg t b)) s

/-- gD := f gA. -/
def alu1 (h : Hart) (p : Fin 8) (len : Nat) (d a : Fin 32) (f : Word → Word) (s : State) :
    Host.Outcome State Fault Refusal :=
  aluG h p len d (fun t => f (gReg t a)) s

/-- An instruction that writes pD from predicates. -/
def aluP (h : Hart) (p d : Fin 8) (ps : List (Fin 8)) (f : Thread → Bool) (s : State) :
    Host.Outcome State Fault Refusal :=
  issue h p 4 (fun _ t => { reads := { p := ps }, writes := [.p d (f t)] }) s

/-! ### Meanings -/

/-- `ADD` (R102, R103). -/
def execAdd (h : Hart) (p : Fin 8) (d : Fin 32) (a : Fin 32) (b : Fin 32) (s : State) : Host.Outcome State Fault Refusal :=
  alu2 h p 4 d a b (· + ·) s

/-- `SUB` (R102, R103). -/
def execSub (h : Hart) (p : Fin 8) (d : Fin 32) (a : Fin 32) (b : Fin 32) (s : State) : Host.Outcome State Fault Refusal :=
  alu2 h p 4 d a b (· - ·) s

/-- `AND` (R102). -/
def execAnd (h : Hart) (p : Fin 8) (d : Fin 32) (a : Fin 32) (b : Fin 32) (s : State) : Host.Outcome State Fault Refusal :=
  alu2 h p 4 d a b (· &&& ·) s

/-- `OR` (R102). -/
def execOr (h : Hart) (p : Fin 8) (d : Fin 32) (a : Fin 32) (b : Fin 32) (s : State) : Host.Outcome State Fault Refusal :=
  alu2 h p 4 d a b (· ||| ·) s

/-- `XOR` (R102). -/
def execXor (h : Hart) (p : Fin 8) (d : Fin 32) (a : Fin 32) (b : Fin 32) (s : State) : Host.Outcome State Fault Refusal :=
  alu2 h p 4 d a b (· ^^^ ·) s

/-- `ANDN` (R102). -/
def execAndn (h : Hart) (p : Fin 8) (d : Fin 32) (a : Fin 32) (b : Fin 32) (s : State) : Host.Outcome State Fault Refusal :=
  alu2 h p 4 d a b (fun x y => x &&& ~~~y) s

/-- `SHL` (R102). -/
def execShl (h : Hart) (p : Fin 8) (d : Fin 32) (a : Fin 32) (b : Fin 32) (s : State) : Host.Outcome State Fault Refusal :=
  alu2 h p 4 d a b shl64 s

/-- `SHR` (R102). -/
def execShr (h : Hart) (p : Fin 8) (d : Fin 32) (a : Fin 32) (b : Fin 32) (s : State) : Host.Outcome State Fault Refusal :=
  alu2 h p 4 d a b shr64 s

/-- `SAR` (R102). -/
def execSar (h : Hart) (p : Fin 8) (d : Fin 32) (a : Fin 32) (b : Fin 32) (s : State) : Host.Outcome State Fault Refusal :=
  alu2 h p 4 d a b sar64 s

/-- `ROR` (R102). -/
def execRor (h : Hart) (p : Fin 8) (d : Fin 32) (a : Fin 32) (b : Fin 32) (s : State) : Host.Outcome State Fault Refusal :=
  alu2 h p 4 d a b ror64 s

/-- `MUL` (R102, R103). -/
def execMul (h : Hart) (p : Fin 8) (d : Fin 32) (a : Fin 32) (b : Fin 32) (s : State) : Host.Outcome State Fault Refusal :=
  alu2 h p 4 d a b (· * ·) s

/-- `MULH` (R102). -/
def execMulh (h : Hart) (p : Fin 8) (d : Fin 32) (a : Fin 32) (b : Fin 32) (s : State) : Host.Outcome State Fault Refusal :=
  alu2 h p 4 d a b mulh s

/-- `MULHU` (R102). -/
def execMulhu (h : Hart) (p : Fin 8) (d : Fin 32) (a : Fin 32) (b : Fin 32) (s : State) : Host.Outcome State Fault Refusal :=
  alu2 h p 4 d a b mulhu s

/-- `DIV` (R102, R103). -/
def execDiv (h : Hart) (p : Fin 8) (d : Fin 32) (a : Fin 32) (b : Fin 32) (s : State) : Host.Outcome State Fault Refusal :=
  alu2 h p 4 d a b divS s

/-- `DIVU` (R102, R103). -/
def execDivu (h : Hart) (p : Fin 8) (d : Fin 32) (a : Fin 32) (b : Fin 32) (s : State) : Host.Outcome State Fault Refusal :=
  alu2 h p 4 d a b divU s

/-- `REM` (R102, R103). -/
def execRem (h : Hart) (p : Fin 8) (d : Fin 32) (a : Fin 32) (b : Fin 32) (s : State) : Host.Outcome State Fault Refusal :=
  alu2 h p 4 d a b remS s

/-- `REMU` (R102, R103). -/
def execRemu (h : Hart) (p : Fin 8) (d : Fin 32) (a : Fin 32) (b : Fin 32) (s : State) : Host.Outcome State Fault Refusal :=
  alu2 h p 4 d a b remU s

/-- `MIN` (R102). -/
def execMin (h : Hart) (p : Fin 8) (d : Fin 32) (a : Fin 32) (b : Fin 32) (s : State) : Host.Outcome State Fault Refusal :=
  alu2 h p 4 d a b minS s

/-- `MAX` (R102). -/
def execMax (h : Hart) (p : Fin 8) (d : Fin 32) (a : Fin 32) (b : Fin 32) (s : State) : Host.Outcome State Fault Refusal :=
  alu2 h p 4 d a b maxS s

/-- `MINU` (R102). -/
def execMinu (h : Hart) (p : Fin 8) (d : Fin 32) (a : Fin 32) (b : Fin 32) (s : State) : Host.Outcome State Fault Refusal :=
  alu2 h p 4 d a b minU s

/-- `MAXU` (R102). -/
def execMaxu (h : Hart) (p : Fin 8) (d : Fin 32) (a : Fin 32) (b : Fin 32) (s : State) : Host.Outcome State Fault Refusal :=
  alu2 h p 4 d a b maxU s

/-- `CLZ` (R102). -/
def execClz (h : Hart) (p : Fin 8) (d : Fin 32) (a : Fin 32) (s : State) : Host.Outcome State Fault Refusal :=
  alu1 h p 4 d a clz s

/-- `CTZ` (R102). -/
def execCtz (h : Hart) (p : Fin 8) (d : Fin 32) (a : Fin 32) (s : State) : Host.Outcome State Fault Refusal :=
  alu1 h p 4 d a ctz s

/-- `POPC` (R102). -/
def execPopc (h : Hart) (p : Fin 8) (d : Fin 32) (a : Fin 32) (s : State) : Host.Outcome State Fault Refusal :=
  alu1 h p 4 d a popc s

/-- `SEXTB` (R102). -/
def execSextb (h : Hart) (p : Fin 8) (d : Fin 32) (a : Fin 32) (s : State) : Host.Outcome State Fault Refusal :=
  alu1 h p 4 d a (fun x => (x.setWidth 8).signExtend 64) s

/-- `SEXTH` (R102). -/
def execSexth (h : Hart) (p : Fin 8) (d : Fin 32) (a : Fin 32) (s : State) : Host.Outcome State Fault Refusal :=
  alu1 h p 4 d a (fun x => (x.setWidth 16).signExtend 64) s

/-- `SEXTW` (R102). -/
def execSextw (h : Hart) (p : Fin 8) (d : Fin 32) (a : Fin 32) (s : State) : Host.Outcome State Fault Refusal :=
  alu1 h p 4 d a (fun x => (x.setWidth 32).signExtend 64) s

/-- `ZEXTW` (R102). -/
def execZextw (h : Hart) (p : Fin 8) (d : Fin 32) (a : Fin 32) (s : State) : Host.Outcome State Fault Refusal :=
  alu1 h p 4 d a (fun x => (x.setWidth 32).setWidth 64) s

/-- `ADDI` (R102). -/
def execAddi (h : Hart) (p : Fin 8) (d : Fin 32) (a : Fin 32) (imm : BitVec 12) (s : State) : Host.Outcome State Fault Refusal :=
  alu1 h p 4 d a (fun x => x + sext12 imm) s

/-- `ANDI` (R102). -/
def execAndi (h : Hart) (p : Fin 8) (d : Fin 32) (a : Fin 32) (imm : BitVec 12) (s : State) : Host.Outcome State Fault Refusal :=
  alu1 h p 4 d a (fun x => x &&& sext12 imm) s

/-- `ORI` (R102). -/
def execOri (h : Hart) (p : Fin 8) (d : Fin 32) (a : Fin 32) (imm : BitVec 12) (s : State) : Host.Outcome State Fault Refusal :=
  alu1 h p 4 d a (fun x => x ||| sext12 imm) s

/-- `XORI` (R102). -/
def execXori (h : Hart) (p : Fin 8) (d : Fin 32) (a : Fin 32) (imm : BitVec 12) (s : State) : Host.Outcome State Fault Refusal :=
  alu1 h p 4 d a (fun x => x ^^^ sext12 imm) s

/-- `SHLI` (R102). -/
def execShli (h : Hart) (p : Fin 8) (d : Fin 32) (a : Fin 32) (n : BitVec 6) (s : State) : Host.Outcome State Fault Refusal :=
  alu1 h p 4 d a (fun x => shl64 x (n.setWidth 64)) s

/-- `SHRI` (R102). -/
def execShri (h : Hart) (p : Fin 8) (d : Fin 32) (a : Fin 32) (n : BitVec 6) (s : State) : Host.Outcome State Fault Refusal :=
  alu1 h p 4 d a (fun x => shr64 x (n.setWidth 64)) s

/-- `SARI` (R102). -/
def execSari (h : Hart) (p : Fin 8) (d : Fin 32) (a : Fin 32) (n : BitVec 6) (s : State) : Host.Outcome State Fault Refusal :=
  alu1 h p 4 d a (fun x => sar64 x (n.setWidth 64)) s

/-- `RORI` (R102). -/
def execRori (h : Hart) (p : Fin 8) (d : Fin 32) (a : Fin 32) (n : BitVec 6) (s : State) : Host.Outcome State Fault Refusal :=
  alu1 h p 4 d a (fun x => ror64 x (n.setWidth 64)) s

/-- `MOVI` (R102). -/
def execMovi (h : Hart) (p : Fin 8) (d : Fin 32) (imm : BitVec 17) (s : State) : Host.Outcome State Fault Refusal :=
  aluG h p 4 d (fun _ => imm.signExtend 64) s

/-- `MOVSH` (R102). -/
def execMovsh (h : Hart) (p : Fin 8) (d : Fin 32) (imm : BitVec 16) (s : State) : Host.Outcome State Fault Refusal :=
  aluG h p 4 d (fun t => (gReg t d <<< 16) ||| imm.setWidth 64) s

/-- `CMP` (R102). -/
def execCmp (h : Hart) (p : Fin 8) (c : CmpCond) (d : Fin 8) (a : Fin 32) (b : Fin 32) (s : State) : Host.Outcome State Fault Refusal :=
  aluP h p d [] (fun t => cmpVal c (gReg t a) (gReg t b)) s

/-- `CMPI` (R102). -/
def execCmpi (h : Hart) (p : Fin 8) (c : CmpiCond) (d : Fin 8) (a : Fin 32) (imm : BitVec 12) (s : State) : Host.Outcome State Fault Refusal :=
  aluP h p d [] (fun t => cmpiVal c (gReg t a) (sext12 imm)) s

/-- `PAND` (R102). -/
def execPand (h : Hart) (p : Fin 8) (d : Fin 8) (a : Fin 8) (b : Fin 8) (s : State) : Host.Outcome State Fault Refusal :=
  aluP h p d [a, b] (fun t => pReg t a && pReg t b) s

/-- `POR` (R102). -/
def execPor (h : Hart) (p : Fin 8) (d : Fin 8) (a : Fin 8) (b : Fin 8) (s : State) : Host.Outcome State Fault Refusal :=
  aluP h p d [a, b] (fun t => pReg t a || pReg t b) s

/-- `PXOR` (R102). -/
def execPxor (h : Hart) (p : Fin 8) (d : Fin 8) (a : Fin 8) (b : Fin 8) (s : State) : Host.Outcome State Fault Refusal :=
  aluP h p d [a, b] (fun t => pReg t a != pReg t b) s

/-- `PANDN` (R102). -/
def execPandn (h : Hart) (p : Fin 8) (d : Fin 8) (a : Fin 8) (b : Fin 8) (s : State) : Host.Outcome State Fault Refusal :=
  aluP h p d [a, b] (fun t => pReg t a && !pReg t b) s

/-- `PNOT` (R102). -/
def execPnot (h : Hart) (p : Fin 8) (d : Fin 8) (a : Fin 8) (s : State) : Host.Outcome State Fault Refusal :=
  aluP h p d [a] (fun t => !pReg t a) s

/-- `PMOV` (R102). -/
def execPmov (h : Hart) (p : Fin 8) (d : Fin 8) (a : Fin 8) (s : State) : Host.Outcome State Fault Refusal :=
  aluP h p d [a] (fun t => pReg t a) s

end Sys2Proof.Machine
end

