-- ==== Sys2Proof/Machine/LoadStore.lean ====
section
/-!
DEFINITION. Control transfer (R92, R105), loads and stores (R93, R95, R410).
-/
namespace Sys2Proof.Machine
open Sys2Proof

/-! ### Shared operations -/

/-- A load of `n` bytes from gA + n × imm12. -/
def loadG (h : Hart) (p : Fin 8) (d a : Fin 32) (imm : BitVec 12) (n : Nat) (ext : Word → Word) (s : State) :
    Host.Outcome State Fault Refusal :=
  issue h p 4 (fun c t => loadAct c h.thread (effAddr t a n imm) n d ext) s

/-- A store of `n` bytes of gD to gA + n × imm12. -/
def storeG (h : Hart) (p : Fin 8) (d a : Fin 32) (imm : BitVec 12) (n : Nat) (s : State) :
    Host.Outcome State Fault Refusal :=
  issue h p 4 (fun _ t => storeAct (effAddr t a n imm) n (gReg t d)) s

def sextN (n : Nat) (x : Word) : Word := (x.setWidth (8 * n)).signExtend 64

/-! ### Meanings -/

/-- `BR` (R105). -/
def execBr (h : Hart) (p : Fin 8) (disp : BitVec 22) (s : State) : Host.Outcome State Fault Refusal :=
  issue h p 4 (fun _ t => { writes := [.pc (brTarget t disp)] }) s

/-- `CALL` (R102, R105). -/
def execCall (h : Hart) (p : Fin 8) (disp : BitVec 22) (s : State) : Host.Outcome State Fault Refusal :=
  issue h p 4 (fun _ t => { writes := [.g 31 (nextPc t 4), .pc (brTarget t disp)] }) s

/-- `JMP` (R92, R102). -/
def execJmp (h : Hart) (p : Fin 8) (a : Fin 32) (s : State) : Host.Outcome State Fault Refusal :=
  issue h p 4 (fun _ t => { fault := jmpFault (gReg t a), writes := [.pc ((gReg t a).setWidth 17)] }) s

/-- `JMPL` (R92, R102). -/
def execJmpl (h : Hart) (p : Fin 8) (d : Fin 32) (a : Fin 32) (s : State) : Host.Outcome State Fault Refusal :=
  issue h p 4 (fun _ t =>
    { fault := jmpFault (gReg t a), writes := [.g d (nextPc t 4), .pc ((gReg t a).setWidth 17)] }) s

/-- `LDB` (R93, R95). -/
def execLdb (h : Hart) (p : Fin 8) (d : Fin 32) (a : Fin 32) (imm : BitVec 12) (s : State) : Host.Outcome State Fault Refusal :=
  loadG h p d a imm 1 (sextN 1) s

/-- `LDBU` (R93, R95). -/
def execLdbu (h : Hart) (p : Fin 8) (d : Fin 32) (a : Fin 32) (imm : BitVec 12) (s : State) : Host.Outcome State Fault Refusal :=
  loadG h p d a imm 1 id s

/-- `LDH` (R93, R95). -/
def execLdh (h : Hart) (p : Fin 8) (d : Fin 32) (a : Fin 32) (imm : BitVec 12) (s : State) : Host.Outcome State Fault Refusal :=
  loadG h p d a imm 2 (sextN 2) s

/-- `LDHU` (R93, R95). -/
def execLdhu (h : Hart) (p : Fin 8) (d : Fin 32) (a : Fin 32) (imm : BitVec 12) (s : State) : Host.Outcome State Fault Refusal :=
  loadG h p d a imm 2 id s

/-- `LDW` (R93, R95). -/
def execLdw (h : Hart) (p : Fin 8) (d : Fin 32) (a : Fin 32) (imm : BitVec 12) (s : State) : Host.Outcome State Fault Refusal :=
  loadG h p d a imm 4 (sextN 4) s

/-- `LDWU` (R93, R95). -/
def execLdwu (h : Hart) (p : Fin 8) (d : Fin 32) (a : Fin 32) (imm : BitVec 12) (s : State) : Host.Outcome State Fault Refusal :=
  loadG h p d a imm 4 id s

/-- `LDD` (R93, R95). -/
def execLdd (h : Hart) (p : Fin 8) (d : Fin 32) (a : Fin 32) (imm : BitVec 12) (s : State) : Host.Outcome State Fault Refusal :=
  loadG h p d a imm 8 id s

/-- `STB` (R93, R147). -/
def execStb (h : Hart) (p : Fin 8) (d : Fin 32) (a : Fin 32) (imm : BitVec 12) (s : State) : Host.Outcome State Fault Refusal :=
  storeG h p d a imm 1 s

/-- `STH` (R93, R147). -/
def execSth (h : Hart) (p : Fin 8) (d : Fin 32) (a : Fin 32) (imm : BitVec 12) (s : State) : Host.Outcome State Fault Refusal :=
  storeG h p d a imm 2 s

/-- `STW` (R93, R147). -/
def execStw (h : Hart) (p : Fin 8) (d : Fin 32) (a : Fin 32) (imm : BitVec 12) (s : State) : Host.Outcome State Fault Refusal :=
  storeG h p d a imm 4 s

/-- `STD` (R93, R147). -/
def execStd (h : Hart) (p : Fin 8) (d : Fin 32) (a : Fin 32) (imm : BitVec 12) (s : State) : Host.Outcome State Fault Refusal :=
  storeG h p d a imm 8 s

/-- `VLD` (R93, R159). -/
def execVld (h : Hart) (p : Fin 8) (d : Fin 32) (a : Fin 32) (imm : BitVec 12) (s : State) : Host.Outcome State Fault Refusal :=
  issue h p 4 (fun c t => vldAct c h.thread (effAddr t a 64 imm) d) s

/-- `VST` (R93, R159). -/
def execVst (h : Hart) (p : Fin 8) (d : Fin 32) (a : Fin 32) (imm : BitVec 12) (s : State) : Host.Outcome State Fault Refusal :=
  issue h p 4 (fun _ t => vstAct t (effAddr t a 64 imm) d) s

end Sys2Proof.Machine
end

