-- ==== Sys2Proof/Machine/Compact.lean ====
section
/-!
DEFINITION. The compact instructions but for the port accesses and `TRAP16` (R101): each acts as the
32-bit instruction its row names, unpredicated and two bytes long.
-/
namespace Sys2Proof.Machine
open Sys2Proof

/-! ### Shared operations -/

/-- gRD := gRD op gRS. -/
def alu16 (h : Hart) (d r : Fin 16) (f : Word → Word → Word) (s : State) : Host.Outcome State Fault Refusal :=
  alu2 h 0 2 (cg d) (cg d) (cg r) f s

/-- A branch that compares gRS with zero. -/
def brz16 (h : Hart) (r : Fin 16) (disp : BitVec 7) (f : Word → Bool) (s : State) :
    Host.Outcome State Fault Refusal :=
  issue h 0 2 (fun _ t => { writes := if f (gReg t (cg r)) then [.pc (brTarget t disp)] else [] }) s

/-- gRB + size × OFF3. -/
def addr16 (t : Thread) (b : Fin 16) (size : Nat) (off : BitVec 3) : Word :=
  gReg t (cg b) + BitVec.ofNat 64 (size * off.toNat)

/-! ### Meanings -/

/-- `MOV16` (R101): RD = RS is reserved. -/
def execMov16 (h : Hart) (d : Fin 16) (r : Fin 16) (s : State) : Host.Outcome State Fault Refusal :=
  guardWf (.mov16 h d r) h 2 (alu16 h d r (fun _ y => y)) s

/-- `ADD16` (R101). -/
def execAdd16 (h : Hart) (d : Fin 16) (r : Fin 16) (s : State) : Host.Outcome State Fault Refusal :=
  alu16 h d r (· + ·) s

/-- `SUB16` (R101). -/
def execSub16 (h : Hart) (d : Fin 16) (r : Fin 16) (s : State) : Host.Outcome State Fault Refusal :=
  alu16 h d r (· - ·) s

/-- `AND16` (R101). -/
def execAnd16 (h : Hart) (d : Fin 16) (r : Fin 16) (s : State) : Host.Outcome State Fault Refusal :=
  alu16 h d r (· &&& ·) s

/-- `OR16` (R101). -/
def execOr16 (h : Hart) (d : Fin 16) (r : Fin 16) (s : State) : Host.Outcome State Fault Refusal :=
  alu16 h d r (· ||| ·) s

/-- `XOR16` (R101). -/
def execXor16 (h : Hart) (d : Fin 16) (r : Fin 16) (s : State) : Host.Outcome State Fault Refusal :=
  alu16 h d r (· ^^^ ·) s

/-- `SHL16` (R101). -/
def execShl16 (h : Hart) (d : Fin 16) (r : Fin 16) (s : State) : Host.Outcome State Fault Refusal :=
  alu16 h d r shl64 s

/-- `SHR16` (R101). -/
def execShr16 (h : Hart) (d : Fin 16) (r : Fin 16) (s : State) : Host.Outcome State Fault Refusal :=
  alu16 h d r shr64 s

/-- `ADDI16` (R101). -/
def execAddi16 (h : Hart) (d : Fin 16) (imm : BitVec 7) (s : State) : Host.Outcome State Fault Refusal :=
  alu1 h 0 2 (cg d) (cg d) (fun x => x + sext7 imm) s

/-- `MOVI16` (R101). -/
def execMovi16 (h : Hart) (d : Fin 16) (imm : BitVec 7) (s : State) : Host.Outcome State Fault Refusal :=
  aluG h 0 2 (cg d) (fun _ => sext7 imm) s

/-- `SHLI16` (R101). -/
def execShli16 (h : Hart) (d : Fin 16) (n : BitVec 5) (s : State) : Host.Outcome State Fault Refusal :=
  alu1 h 0 2 (cg d) (cg d) (fun x => shl64 x (n.setWidth 64)) s

/-- `SHRI16` (R101). -/
def execShri16 (h : Hart) (d : Fin 16) (n : BitVec 5) (s : State) : Host.Outcome State Fault Refusal :=
  alu1 h 0 2 (cg d) (cg d) (fun x => shr64 x (n.setWidth 64)) s

/-- `SARI16` (R101). -/
def execSari16 (h : Hart) (d : Fin 16) (n : BitVec 5) (s : State) : Host.Outcome State Fault Refusal :=
  alu1 h 0 2 (cg d) (cg d) (fun x => sar64 x (n.setWidth 64)) s

/-- `LDD16` (R101). -/
def execLdd16 (h : Hart) (d : Fin 16) (b : Fin 16) (off : BitVec 3) (s : State) : Host.Outcome State Fault Refusal :=
  issue h 0 2 (fun c t => loadAct c h.thread (addr16 t b 8 off) 8 (cg d) id) s

/-- `STD16` (R101). -/
def execStd16 (h : Hart) (d : Fin 16) (b : Fin 16) (off : BitVec 3) (s : State) : Host.Outcome State Fault Refusal :=
  issue h 0 2 (fun _ t => storeAct (addr16 t b 8 off) 8 (gReg t (cg d))) s

/-- `LDW16` (R101): sign-extended, as `LDW`. -/
def execLdw16 (h : Hart) (d : Fin 16) (b : Fin 16) (off : BitVec 3) (s : State) : Host.Outcome State Fault Refusal :=
  issue h 0 2 (fun c t => loadAct c h.thread (addr16 t b 4 off) 4 (cg d) (sextN 4)) s

/-- `STW16` (R101). -/
def execStw16 (h : Hart) (d : Fin 16) (b : Fin 16) (off : BitVec 3) (s : State) : Host.Outcome State Fault Refusal :=
  issue h 0 2 (fun _ t => storeAct (addr16 t b 4 off) 4 (gReg t (cg d))) s

/-- `BZ16` (R101, R105). -/
def execBz16 (h : Hart) (r : Fin 16) (disp : BitVec 7) (s : State) : Host.Outcome State Fault Refusal :=
  brz16 h r disp (fun x => x == 0) s

/-- `BNZ16` (R101, R105). -/
def execBnz16 (h : Hart) (r : Fin 16) (disp : BitVec 7) (s : State) : Host.Outcome State Fault Refusal :=
  brz16 h r disp (fun x => x != 0) s

/-- `BLTZ16` (R101, R105). -/
def execBltz16 (h : Hart) (r : Fin 16) (disp : BitVec 7) (s : State) : Host.Outcome State Fault Refusal :=
  brz16 h r disp (fun x => x.slt 0) s

/-- `BGEZ16` (R101, R105). -/
def execBgez16 (h : Hart) (r : Fin 16) (disp : BitVec 7) (s : State) : Host.Outcome State Fault Refusal :=
  brz16 h r disp (fun x => !x.slt 0) s

/-- `BR16` (R101, R105). -/
def execBr16 (h : Hart) (disp : BitVec 11) (s : State) : Host.Outcome State Fault Refusal :=
  issue h 0 2 (fun _ t => { writes := [.pc (brTarget t disp)] }) s

/-- `NOP16` (R101). -/
def execNop16 (h : Hart) (s : State) : Host.Outcome State Fault Refusal :=
  issue h 0 2 (fun _ _ => {}) s

/-- `RET16` (R101): `JMP` g31. -/
def execRet16 (h : Hart) (s : State) : Host.Outcome State Fault Refusal :=
  issue h 0 2 (fun _ t => { fault := jmpFault (gReg t 31), writes := [.pc ((gReg t 31).setWidth 17)] }) s

end Sys2Proof.Machine
end

