-- ==== Sys2Proof/Machine/Sync.lean ====
section
/-!
DEFINITION. Flags and counters (R33, R305–R307), watches (R130), notice queues (R288–R294) and the
passage of time shared by the families.
-/
namespace Sys2Proof.Machine
open Sys2Proof

/-! ### Time -/

/-- The function kept at key `k`: 129 for each link, the last of them its PF. -/
def fnAt (k : Nat) : FnId := ⟨Fin.ofNat 2 (k / 129), if k % 129 = 128 then none else some (Fin.ofNat 128 (k % 129))⟩

/-- ATS invalidations that have waited for 100 µs complete (R350). -/
def dueInvalidations (s : State) : State :=
  let due := fun x : BitVec 52 × Nat × Nat => decide (x.2.2 ≤ s.clock.now)
  if s.fns.all fun f => !f.2.invalidations.any due then s
  else { s with
    fns := tmap (fun _ f => { f with invalidations := f.invalidations.filter fun x => !due x }) s.fns
    hostOut := s.hostOut ++ s.fns.flatMap fun f =>
      (f.2.invalidations.filter due).map fun x => .invalidationDone (fnAt f.1) x.1 }

/-- Cycles pass; phases change at their own commands. `DAYBREAK_OUT` is high for 16 cycles (R48). A later cycle's
slot is offered to every thread again (R124). -/
def pass (n : Nat) (s : State) : State :=
  dueInvalidations { s with
    cores := if n = 0 then s.cores else tmap (fun _ c => { c with passed := [] }) s.cores
    clock := { s.clock with now := s.clock.now + n, cycle := s.clock.cycle + n }
    pins := { s.pins with daybreakOut := s.pins.daybreakOut && decide (s.clock.cycle + n < 16) } }

/-- The Day has reached cycle `n`. -/
def toCycle (n : Nat) (s : State) : State := pass (n - s.clock.cycle) s
/-- The clock has reached cycle `n` since power-on. -/
def toNow (n : Nat) (s : State) : State := pass (n - s.clock.now) s

/-- Day length and Dusk length in cycles (R44). -/
def dayLen (s : State) : Nat := s.clock.dayDiv.toNat * 256
def duskLen (s : State) : Nat := s.clock.duskDiv.toNat * 64
/-- Length of Noon (R45). -/
def noonLen (s : State) : Nat := dayLen s - 512 - duskLen s

/-- Number of the Daybreak at which a request taken now takes effect (R41). -/
def effDay (s : State) : Nat :=
  if s.dev ≠ .midnight ∧ s.clock.phase = .dusk then s.clock.dayNo + 2 else s.clock.dayNo + 1

/-- A value accepted for Daybreak `n` joins those that wait; of several for one Daybreak the last wins (R458). -/
def putNext {w : Nat} (n : Nat) (v : BitVec w) (l : List (Nat × BitVec w)) : List (Nat × BitVec w) :=
  (l.filter fun e => decide (e.1 ≠ n)) ++ [(n, v)]

/-- The value most recently accepted, where `v` is in force. -/
def lastNext {w : Nat} (l : List (Nat × BitVec w)) (v : BitVec w) : BitVec w :=
  match l.getLast? with | some e => e.2 | none => v

def quotaAccepted (x : Region) : Nat := (lastNext x.quotaNext x.quota).toNat
def vfAccepted (x : Region) : BitVec 9 := lastNext x.vfNext x.vf

/-- A VF is bound to the region, or will be from a coming Daybreak. -/
def claimsVf (x : Region) (v : BitVec 9) : Bool := decide (x.vf = v) || x.vfNext.any fun e => decide (e.2 = v)

/-- Every thread that holds anything. -/
def harts (s : State) : List Hart :=
  s.cores.flatMap fun e => e.2.threads.map fun t => ⟨Fin.ofNat 10240 e.1, Fin.ofNat 4 t.1⟩

/-! ### Flags and counters -/

def bankOf (s : State) (d : DieId) : FlagBank := tget FlagBank.reset s.banks d.val
def setBank (s : State) (d : DieId) (b : FlagBank) : State := { s with banks := tset s.banks d.val b }

def flagAt (s : State) (d : DieId) (n : Nat) : Bool := bit (bankOf s d).flags n
def ctrAt (s : State) (d : DieId) (n : Nat) : BitVec 32 := tget 0 (bankOf s d).ctrs n

def putFlag (b : FlagBank) (n : Nat) (v : Bool) : FlagBank :=
  { b with flags := if v then b.flags ||| BitVec.ofNat 512 (2 ^ n) else b.flags &&& ~~~ BitVec.ofNat 512 (2 ^ n) }
def addCtr (b : FlagBank) (n : Nat) (v : BitVec 32) : FlagBank :=
  { b with ctrs := tset b.ctrs n (tget 0 b.ctrs n + v) }

/-- Clears act before sets; adds sum (R306). -/
def bankClear (b : FlagBank) (u : FlagUpd) : FlagBank := match u.kind with | .clear n => putFlag b n false | _ => b
def bankSet (b : FlagBank) (u : FlagUpd) : FlagBank :=
  match u.kind with | .set n => putFlag b n true | .add n v => addCtr b n v | _ => b
def bankApply (b : FlagBank) (us : List FlagUpd) : FlagBank := us.foldl bankSet (us.foldl bankClear b)

/-- The home die of a cell and its windows (R33). -/
def cHome (e : BitVec 128) : DieId := Fin.ofNat 32 (cDie e)
def flagIn (e : BitVec 128) (n : Nat) : Option (DieId × Nat) :=
  if n < cFlagCount e then some (cHome e, cFlagBase e + n) else none
def ctrIn (e : BitVec 128) (n : Nat) : Option (DieId × Nat) :=
  if n < cCtrCount e then some (cHome e, cCtrBase e + n) else none

/-- The entry of the innermost cell of a core (R34). -/
def ownCell (s : State) (c : CoreId) : BitVec 128 := cellEntry s (innermost s c)

/-- Where the flag or counter that a port names lies; `none` for the other ports. -/
inductive PortName
  | flag (n : Nat)
  | ctr (n : Nat)
  | none
  deriving DecidableEq, Repr

def portName (p : Nat) : PortName :=
  if 0x4000 ≤ p ∧ p < 0x6000 then .flag (p / 8 % 512)
  else if 0x6000 ≤ p ∧ p < 0x7000 then .ctr (p / 8 % 256)
  else .none

/-- The object of a flag or counter port in its bank. -/
def nameAt (s : State) (h : Hart) (p : Nat) : Option (DieId × Nat) :=
  match portName p with
  | .flag n => flagIn (ownCell s h.core) n
  | .ctr n => ctrIn (ownCell s h.core) n
  | .none => none

/-- The signed comparison of R117. -/
def reached (v target : BitVec 32) : Bool := !bit (v - target) 31

/-! Watches (R130) -/

def armed (t : Thread) : Bool := bit t.ctrTarget 63
def watchIsFlag (t : Thread) : Bool := bit t.ctrTarget 41
def watchIx (t : Thread) : Nat := fld t.ctrTarget 32 9
def ctrCmp (t : Thread) : BitVec 32 := t.ctrTarget.setWidth 32

/-- Where the watched flag or counter lies. -/
def watchAt (s : State) (h : Hart) : Option (DieId × Nat) :=
  let t := thread s h
  if watchIsFlag t then flagIn (ownCell s h.core) (watchIx t) else ctrIn (ownCell s h.core) (watchIx t)

/-- Whether an update is one of the occasions at which a thread's watch on `n` is tested. -/
def tests (h : Hart) (isFlag : Bool) (n : Nat) (u : FlagUpd) : Bool :=
  match u.kind with
  | .set m | .clear m => isFlag && decide (m = n)
  | .add m _ => !isFlag && decide (m = n)
  | .arm g => decide (g = h)

/-- Test the watch of one thread after the updates `us` reached bank `d`. -/
def testWatch (d : DieId) (us : List FlagUpd) (s : State) (h : Hart) : State :=
  let t := thread s h
  match watchAt s h with
  | some (e, n) =>
    if armed t && decide (e = d) && !s.flight.any (fun u => decide (u.kind = .arm h))
        && us.any (tests h (watchIsFlag t) n)
        && (if watchIsFlag t then flagAt s d n else reached (ctrAt s d n) (ctrCmp t)) then
      deliver h.core (fun s => raiseEvent h 1 (modTh s h fun t => { t with ctrTarget := t.ctrTarget &&& ~~~ BitVec.ofNat 64 (2 ^ 63) })) s
    else s
  | none => s

/-- A flag of a window that this Dawn clears is not operated on before D+320 (R53). -/
def clearing (s : State) (d : DieId) (n : Nat) : Bool :=
  decide (s.clock.phase = .dawn ∧ s.clock.cycle < 320) &&
    s.dawnClear.any fun w => decide (w.1 = d ∧ w.2.1 ≤ n ∧ n < w.2.1 + w.2.2)

/-- The value with which a wait on a flag or counter of a bank completes now, if its condition holds (R117). -/
def waitValue (s : State) (h : Hart) (p : Nat) (d : DieId) (n : Nat) : Option Word :=
  match portName p with
  | .flag _ => if !clearing s d n && flagAt s d n then some 1 else none
  | _ => if reached (ctrAt s d n) (ctrCmp (thread s h)) then some ((ctrAt s d n).setWidth 64) else none

/-- A wait on a name of bank `d` that the updated value satisfies keeps that value, whatever comes next (R306); the
value does not reach an isolated core (R417). -/
def latchWait (d : DieId) (s : State) (h : Hart) : State :=
  if (coreOf s h.core).isolated then s
  else match (thread s h).run, (thread s h).met with
  | .waiting (.portRead p _ _), none =>
    match nameAt s h p.toNat with
    | some (e, n) => match waitValue s h p.toNat e n with
      | some v => if e = d then modTh s h fun t => { t with met := some (p, v) } else s
      | none => s
    | none => s
  | _, _ => s

/-- The updates `us`, all for bank `d`, reach it in one cycle. -/
def bankCycle (d : DieId) (us : List FlagUpd) (s : State) : State :=
  let s := setBank s d (bankApply (bankOf s d) us)
  let s := (harts s).foldl (latchWait d) s
  (harts s).foldl (testWatch d us) s

/-- An update leaves for its bank. -/
def sendUpd (u : FlagUpd) (s : State) : State := { s with flight := s.flight ++ [u] }

/-- The updates of one thread to one bank arrive, each in its own cycle, before a read of that thread
made after them (R305). -/
def deliverOwn (h : Hart) (d : DieId) (s : State) : State :=
  let mine := fun u : FlagUpd => decide (u.src = .thread h ∧ u.die = d)
  let us := s.flight.filter mine
  us.foldl (fun s u => bankCycle d [u] s) { s with flight := s.flight.filter fun u => !mine u }

/-! ### Notice queues -/

def nqOf (c : Core) (q : Nat) : NoticeQ := tget NoticeQ.reset c.notices q
def setNq (c : Core) (q : Nat) (x : NoticeQ) : Core := { c with notices := tset c.notices q x }

/-- T0's queue and the region-monitor queue have banks; the others draw from the pool (R290). -/
def banked (q : Nat) : Bool := decide (q = 0 ∨ q = 4)

/-- Pool cells in use (R290). -/
def poolUsed (c : Core) : List Nat :=
  [1, 2, 3].flatMap fun q =>
    let x := nqOf c q
    (if 0 < x.cellFill ∧ x.cellFill < 4 then [x.cellId] else []) ++
      x.items.filterMap fun n => match n.place with | .cell i => some i | _ => none

/-- Overflow slots in use (R292). -/
def slotsUsed (c : Core) : List Nat :=
  [0, 1, 2, 3, 4].flatMap fun q =>
    (nqOf c q).items.filterMap fun n => match n.place with | .overflow i => some i.val | _ => none

def isOverflow (n : Notice) : Bool := match n.place with | .overflow _ => true | _ => false
def hasOverflow (x : NoticeQ) : Bool := x.items.any isOverflow

/-- The lowest number below `k` that a list does not hold. -/
def lowestFree (k : Nat) (l : List Nat) : Option Nat := (List.range k).find? fun i => !l.contains i

/-- Place for a notice in a bank or pool cell, with the queue after taking it; `none`: the queue cannot
take it (R290, R292). -/
def ownPlace (c : Core) (q : Nat) : Option (NoticePlace × NoticeQ) :=
  let x := nqOf c q
  if x.spill then none
  else if banked q then
    if x.filled < 16 then some (.bank x.fillBank, { x with filled := x.filled + 1 })
    else if x.items.any (fun n => decide (n.place = .bank !x.fillBank)) then none
    else some (.bank !x.fillBank, { x with fillBank := !x.fillBank, filled := 1 })
  else if 0 < x.cellFill ∧ x.cellFill < 4 then some (.cell x.cellId, { x with cellFill := x.cellFill + 1 })
  else (lowestFree 1024 (poolUsed c)).map fun i => (.cell i, { x with cellId := i, cellFill := 1 })

/-- Queue a notice in a core; `none`: the overflow area is full and the notice is lost (R292, R294). -/
def enqueue (c : Core) (q : Nat) (lo hi : Word) : Option Core :=
  match ownPlace c q with
  | some (p, x) => some (setNq c q { x with items := x.items ++ [⟨lo, hi, p⟩] })
  | none =>
    match lowestFree 1024 (slotsUsed c) with
    | none => none
    | some i =>
      let x := nqOf c q
      let c := memPut c (16 * i) (wordsBytes [lo, hi]) false false
      some (setNq c q { x with items := x.items ++ [⟨lo, hi, .overflow (Fin.ofNat 1024 i)⟩], spill := true })

/-- Owner of a queue and the event a notice raises on it (R289). -/
def queueOwner (c : CoreId) (q : Nat) : Hart := ⟨c, if q = 4 then 0 else Fin.ofNat 4 q⟩

/-- Queue a notice and raise its event `e`; a lost notice is counted, logged and raised as E5 (R294). -/
def postNotice (c : CoreId) (q : Nat) (e : Nat) (lo hi : Word) (s : State) : State :=
  match enqueue (coreOf s c) q lo hi with
  | some x => raiseEvent (queueOwner c q) e (setCore s c x)
  | none =>
    let s := count s (ctrDie (dieOf c) 4) 1
    let s := logCore c (queueOwner c q).thread 0x27 (BitVec.ofNat 64 (fld lo 0 30)) s
    noteE5 (queueOwner c q) 0x27 0 (BitVec.ofNat 64 q) s

/-- A notice the KS-40 posts itself (R288, R336): its fields other than the zero ones. -/
def kNoticeLo (tag gen : Nat) : Word := BitVec.ofNat 64 (at_ tag 30 + at_ gen 48)
def kNoticeHi (kind laddr len xfer cell : Nat) : Word :=
  BitVec.ofNat 64 (laddr + at_ len 20 + at_ xfer 31 + at_ cell 47 + at_ kind 58)

/-- The bytes a reader is given of the notice at position `i`: an overflow notice is read from local
memory with `SPILLED` set (R292, R293). -/
def noticeWord (c : Core) (n : Notice) (high : Bool) : Word :=
  match n.place with
  | .overflow i =>
    let w := bytes64 (mread c.mem (16 * i.val + (if high then 8 else 0)) 8)
    if high then w else w ||| BitVec.ofNat 64 (2 ^ 59)
  | _ => if high then n.hi else n.lo

/-- A read of `NOTICE_LO`; `none` while no notice lies beyond the read pointer (R291). -/
def readLo (c : Core) (q : Nat) : Option (Word × Core) :=
  let x := nqOf c q
  match x.items[x.rd]? with
  | none => none
  | some n => some (noticeWord c n false, setNq c q { x with hi := some (n.hi, true), hiPos := x.rd })

/-- A read of `NOTICE_HI` (R291). -/
def readHi (c : Core) (q : Nat) : Word × Core :=
  let x := nqOf c q
  match x.hi, x.items[x.hiPos]? with
  | some (_, adv), some n =>
    (noticeWord c n true,
      if adv then setNq c q { x with hi := some (n.hi, false), rd := x.hiPos + 1 } else c)
  | _, _ => (0, c)

/-- Release frees every notice before the read pointer (R291, R292). -/
def releaseQ (x : NoticeQ) : NoticeQ :=
  let y := { x with items := x.items.drop x.rd, rd := 0, mark := 0,
                    hi := if x.hiPos < x.rd then none else x.hi, hiPos := x.hiPos - x.rd }
  { y with spill := y.spill && hasOverflow y }

/-- The actions of `NOTICE_CTRL` on one queue (R291). -/
def ctrlQ (v : Nat) (x : NoticeQ) : NoticeQ :=
  if v = 1 then { x with mark := x.rd }
  else if v = 2 then { x with rd := x.mark }
  else if v = 3 then releaseQ x
  else x

/-- `NOTICE_CTRL` acts on the queues its thread owns: its own, and the region-monitor queue for the
region monitor thread (log 20). -/
def noticeCtrl (h : Hart) (v : Nat) (s : State) : State :=
  let mon := isMonitor s h
  modCore s h.core fun c =>
    let c := setNq c h.thread.val (ctrlQ v (nqOf c h.thread.val))
    if mon then setNq c 4 (ctrlQ v (nqOf c 4)) else c

/-- A queue reset to empty (R295). -/
def emptyNq (_x : NoticeQ) : NoticeQ := NoticeQ.reset

end Sys2Proof.Machine
end

