-- ==== Sys2Proof/Machine/Cells.lean ====
section
/-!
DEFINITION. Creating and deleting nested cells (R31–R33, R38–R43), the resolution of a header's cell and
member (R35–R37), and the geometry of regions and shores.
-/
namespace Sys2Proof.Machine
open Sys2Proof

/-! ### The master table -/

def applyChange (t : Tab (BitVec 128)) (c : CellChange) : Tab (BitVec 128) :=
  match c.entry with
  | some e => tset t c.index.toNat e
  | none => tdel t c.index.toNat

/-- The table with every pending change applied, against which requests are validated (R42). -/
def masterCells (s : State) : Tab (BitVec 128) := s.cellChanges.foldl applyChange s.cells

/-- Two stretches of numbers share one. -/
def overlap (a n b m : Nat) : Bool := decide (a < b + m ∧ b < a + n ∧ 0 < n ∧ 0 < m)

def rectsMeet (e f : BitVec 128) : Bool :=
  overlap (cX e) (cW e) (cX f) (cW f) && overlap (cY e) (cH e) (cY f) (cH f)

/-- The first rectangle lies inside the second. -/
def rectInside (e f : BitVec 128) : Bool :=
  decide (cX f ≤ cX e ∧ cX e + cW e ≤ cX f + cW f ∧ cY f ≤ cY e ∧ cY e + cH e ≤ cY f + cH f)

def inMesh (e : BitVec 128) : Bool := decide (cX e + cW e ≤ 128 ∧ cY e + cH e ≤ 80)

/-- Checks 3 and 4 of R38 for an entry of region `r`. -/
def fieldsOk (tbl : Tab (BitVec 128)) (r : Nat) (e : BitVec 128) : Bool :=
  decide (cFront e < cW e * cH e) && decide (cHandler e < localTop) && decide (cHandler e % 512 = 0)
  && overlap (cDie e % 8 * 16) 16 (cX e) (cW e) && overlap (cDie e / 8 * 20) 20 (cY e) (cH e)
  && decide (cFlagBase e + cFlagCount e ≤ 512) && decide (cCtrBase e + cCtrCount e ≤ 256)
  && tbl.all fun f => decide (f.1 = 0) || !cValid f.2 || decide (cRegion f.2 = r) || decide (cDie f.2 ≠ cDie e)
      || (!overlap (cFlagBase f.2) (cFlagCount f.2) (cFlagBase e) (cFlagCount e)
          && !overlap (cCtrBase f.2) (cCtrCount f.2) (cCtrBase e) (cCtrCount e))

/-- Entries that the nested cells of a region hold. -/
def nestedCells (tbl : Tab (BitVec 128)) (r : Nat) : Nat :=
  (tbl.filter fun f => decide (f.1 ≠ 0) && cValid f.2 && !cIsRegion f.2 && decide (cRegion f.2 = r)).length

/-- An index that can be granted now (R43). -/
def indexFree (s : State) (i : Nat) : Bool :=
  decide (0 < i) && (tfind (masterCells s) i).isNone && (tfind s.cells i).isNone
    && decide (tget 0 s.cellReuse i ≤ s.clock.dayNo)

/-- The index a request is granted. -/
def grantIndex (s : State) : Option (BitVec 11) → Option Nat
  | some i => if indexFree s i.toNat then some i.toNat else none
  | none => (List.range 2048).find? (indexFree s)

/-- The RW fields of an entry, with the RO fields as the KS-40 fills them (R29). -/
def fillEntry (e : BitVec 128) (isRegion : Bool) (r : Nat) : BitVec 128 :=
  let rw := e.toNat % 2 ^ 125 / 2 ^ 64 * 2 ^ 64 + e.toNat % 2 ^ 63 / 2 ^ 10 * 2 ^ 10
  BitVec.ofNat 128 (rw + 1 + at_ (b2n isRegion) 1 + at_ r 2)

/-- The status of a create request, the granted index, and the entry (R38). `who`: the requesting
region; `none` for the operator. -/
def createCheck (s : State) (who : Option RegionId) (e : BitVec 128) (wanted : Option (BitVec 11)) :
    BitVec 8 × Nat × BitVec 128 :=
  let tbl := masterCells s
  let p := tget 0 tbl (cParent e)
  let r := cRegion p
  let bad1 := !cValid p || decide (cParent e = 0) || (match who with | some q => decide (r ≠ q.val) | none => false)
  let bad2 := !inMesh e || !rectInside e p
    || tbl.any fun f => decide (f.1 ≠ 0) && cValid f.2 && !cIsRegion f.2 && decide (cParent f.2 = cParent e) && rectsMeet f.2 e
  let new := fillEntry e false r
  if bad1 then (0x16, 0, new)
  else if bad2 then (0x15, 0, new)
  else if !fieldsOk tbl r e then (0x15, 0, new)
  else if (regOf s (Fin.ofNat 256 r)).cellQuota.toNat ≤ nestedCells tbl r then (0x12, 0, new)
  else match grantIndex s wanted with
    | none => (0x12, 0, new)
    | some i => (0x00, i, new)

/-- A create request (R38, R41): its status and index, and the state after it. -/
def cellCreate (who : Option RegionId) (e : BitVec 128) (wanted : Option (BitVec 11)) (s : State) :
    BitVec 8 × Nat × State :=
  match createCheck s who e wanted with
  | (st, i, new) =>
    if st = 0 then
      (st, i, { s with cellChanges := s.cellChanges ++ [⟨effDay s, BitVec.ofNat 11 i, some new⟩] })
    else (st, 0, s)

/-- The status of a delete request (R39). -/
def deleteCheck (s : State) (who : Option RegionId) (i : Nat) : BitVec 8 :=
  let tbl := masterCells s
  let e := tget 0 tbl i
  if i = 0 ∨ !cValid e ∨ cIsRegion e then 0x16
  else if (match who with | some q => decide (cRegion e ≠ q.val) | none => false) then 0x16
  else if tbl.any fun f => decide (f.1 ≠ 0) && cValid f.2 && decide (cParent f.2 = i) then 0x17
  else 0x00

/-- A delete request (R39, R43). -/
def cellDelete (who : Option RegionId) (i : Nat) (s : State) : BitVec 8 × Nat × State :=
  let st := deleteCheck s who i
  if st ≠ 0 then (st, 0, s)
  else if s.cellChanges.any fun c => decide (c.index.toNat = i) && c.entry.isSome then
    (st, i, { s with cellChanges := s.cellChanges.filter fun c => !(decide (c.index.toNat = i) && c.entry.isSome) })
  else
    (st, i, { s with cellChanges := s.cellChanges ++ [⟨effDay s, BitVec.ofNat 11 i, none⟩]
                     cellReuse := tset s.cellReuse i (effDay s + 2) })

/-- What `CELL_STATUS` returns for a request (R115). -/
def statusWord (st : BitVec 8) (i : Nat) : Word := BitVec.ofNat 64 (st.toNat + at_ i 8)

/-! ### Resolution -/

/-- The replica of a unit: the table without the entries its uncorrectable words lost (R412). -/
def replicaEntry (s : State) (unit i : Nat) : BitVec 128 :=
  if s.badReplicas.contains (unit, i) then 0 else cellEntry s i

/-- `CELL` names a valid entry and `MEMBER` is within it (R37). -/
def cellNamed (e : BitVec 128) (member : Nat) : Bool :=
  cValid e && (decide (member = 0x3FFF) || decide (member < cW e * cH e))

/-- The core at which a message to one member, or to the cell as a whole, lands (R35). -/
def landsAt (e : BitVec 128) (member : Nat) : CoreId := cMember e (if member = 0x3FFF then cFront e else member)

/-! ### Shores -/

/-- The region abuts the north shore row; otherwise it abuts the south one (R32, R257). -/
def northOf (e : BitVec 128) : Bool := decide (cY e = 0)

/-- The shore port of column `x` on a region's row. -/
def shoreOfCol (north : Bool) (x : Nat) : ShoreId := Fin.ofNat 256 (if north then x else 128 + x)
/-- The shore port of a core's own column on its region's row. -/
def shoreOf (s : State) (c : CoreId) : ShoreId :=
  match regionOf s c with
  | some r => shoreOfCol (northOf (cellEntry s (regOf s r).cell.toNat)) (coreX c)
  | none => shoreOfCol (decide (coreY c < 40)) (coreX c)
def shoreCore (p : ShoreId) : CoreId := if p.val < 128 then coreAt p.val 0 else coreAt (p.val - 128) 79
/-- Shore ports of a region. -/
def regionShores (s : State) (r : RegionId) : List ShoreId :=
  let e := cellEntry s (regOf s r).cell.toNat
  (List.range (cW e)).map fun i => shoreOfCol (northOf e) (cX e + i)
/-- The E-die beside a shore port (R20): eight to a row, sixteen columns to each. -/
def edieOf (p : ShoreId) : Nat := p.val / 16

/-! ### E-dies by kind (R20, R21) -/

def emDie (n : Nat) : Nat := nth 0 [0, 2, 5, 7, 8, 10, 13, 15] n
def elDie (m : Nat) : Nat := nth 0 [1, 6, 9, 14] m
def ehDie (h : Nat) : Nat := nth 0 [3, 11] h

end Sys2Proof.Machine
end

