-- ==== Sys2Proof/Machine/Inject.lean ====
section
/-!
DEFINITION. Message headers (R281–R283), flits and injection queues (R69, R70), `SEND` (R107) and the
core mover (R246–R250).
-/
namespace Sys2Proof.Machine
open Sys2Proof

/-! ### Header fields (R281) -/

abbrev Header := BitVec 128
def hDevice (x : Header) : Nat := fld x 0 14
def hCell (x : Header) : Nat := fld x 14 11
def hMember (x : Header) : Nat := fld x 25 14
def hGen (x : Header) : Nat := fld x 39 8
def hHandler (x : Header) : Nat := fld x 47 6
def hTc (x : Header) : Nat := fld x 53 2
def hTail (x : Header) : Bool := bit x 55
def hBcast (x : Header) : Bool := bit x 56
def hPoison (x : Header) : Bool := bit x 57
def hNotify (x : Header) : Bool := bit x 58
def hOwnGen (x : Header) : Bool := bit x 59
def hHeld (x : Header) : Bool := bit x 60
def hSig (x : Header) : Nat := fld x 61 2
def hTag (x : Header) : Nat := fld x 64 12
def hSigIx (x : Header) : Nat := fld x 76 10
def hLaddr (x : Header) : Nat := 8 * fld x 86 17
def hLen8 (x : Header) : Nat := fld x 103 8
def hLen (x : Header) : Nat := 8 * hLen8 x
def hXfer (x : Header) : Nat := fld x 111 16

/-- The header with the `n` bits from `lo` replaced by `v`. -/
def setF (x : Header) (lo n v : Nat) : Header :=
  BitVec.ofNat 128 (x.toNat - fld x lo n * 2 ^ lo + v % 2 ^ n * 2 ^ lo)

/-- The first failed condition of R283, as the bit number `ERR_INFO` holds. -/
def headerBad (x : Header) : Option Nat :=
  if bit x 63 then some 63
  else if bit x 127 then some 127
  else if hSig x = 3 then some 61
  else if 128 < hLen8 x then some 103
  else if localTop < hLaddr x + hLen x then some 86
  else if hBcast x ∧ hMember x ≠ 0x3FFF then some 25
  else if !hTail x ∧ hHeld x ∧ hLen8 x = 0 then some 55
  else none

/-- The source word of a thread's messages (R282, R359). -/
def sourceOf (s : State) (h : Hart) : SourceWord :=
  BitVec.ofNat 30 (s.deviceId.toNat + at_ h.core.val 14 + at_ h.thread.val 28)

/-! ### Building flits -/

def injOf (c : Core) (q : Nat) : InjQ := tget ⟨[], []⟩ c.inj q
def setInj (c : Core) (q : Nat) (x : InjQ) : Core := { c with inj := tset c.inj q x }

/-- Local addresses of the payload words of flit `i` of a message with `n` payload bytes at `a`. -/
def flitAddrs (a n i : Nat) : List Nat := (List.range (min 8 (n / 8 - 8 * i))).map fun j => a + 64 * i + 8 * j

/-- Flits that `n` payload bytes occupy (R282). -/
def flitCount (n : Nat) : Nat := max 1 ((n + 63) / 64)

/-- The plans of one message of `n` payload bytes at local address `a`. -/
def messagePlans (mid : Nat) (hd : Header) (src : SourceWord) (a n : Nat) (th : Option (Fin 4))
    (r : Option RegionId) : List FlitPlan :=
  (List.range (flitCount n)).map fun i =>
    ⟨mid, hd, src, i, decide (i + 1 = flitCount n), flitAddrs a n i, th, r, none⟩

/-- A payload word as the reader sees it (R95, R248). -/
def wordView (c : Core) (th : Option (Fin 4)) (a : Nat) : PWord :=
  ⟨bytes64 (readView c th a 8), poisonView c th (a / 8)⟩

/-- The header as it leaves: `GEN` filled under `OWNGEN` and `POISON` from the marks of the payload
(R282, R283). -/
def leaveHeader (s : State) (r : Option RegionId) (poison : Bool) (x : Header) : Header :=
  let x := if hOwnGen x then setF x 39 8 (match r with | some r => (regOf s r).gen.toNat | none => 0) else x
  setF x 57 1 (b2n poison)

/-- Payload words that entering a flit reads: its own, and for the mark of the header all the message's (R282). -/
def planWords (x : InjQ) (p : FlitPlan) : List Nat :=
  if p.index = 0 then (x.plans.filter fun y => decide (y.mid = p.mid)).flatMap (·.addrs) else p.addrs

/-- A core mover does not read a word that is marked speculative (R227). -/
def planBlocked (c : Core) (x : InjQ) (p : FlitPlan) : Bool :=
  p.thread.isNone && (planWords x p).any fun a => c.specMark.contains (a / 8)

/-- One flit enters its queue. -/
def enterOne (s : State) (core : CoreId) (c : Core) (q : Nat) : Core :=
  let x := injOf c q
  match x.plans with
  | [] => c
  | p :: rest =>
    if 8 ≤ x.flits.length ∨ planBlocked c x p then c
    else
      let same := x.plans.filter fun y => decide (y.mid = p.mid)
      let poison := same.any fun y => y.addrs.any fun a => (wordView c y.thread a).poison
      let hd := if p.index = 0 then leaveHeader s (regionOf s core) poison p.header else p.header
      let f : Flit := ⟨p.mid, hd, p.source, p.index, p.last, p.addrs.map (wordView c p.thread), none, p.region, p.outbound, none⟩
      setInj c q { flits := x.flits ++ [f]
                   plans := rest.map fun y => if y.mid = p.mid then { y with header := hd } else y }

def enterN (s : State) (core : CoreId) (q : Nat) : Nat → Core → Core
  | 0, c => c
  | n + 1, c => enterN s core q n (enterOne s core c q)

/-- Flits enter a queue as it has room (log 21). -/
def refill (core : CoreId) (q : Nat) (s : State) : State := setCore s core (enterN s core q 8 (coreOf s core))

/-- The message `mid` has left its queue. -/
def sent (c : Core) (q mid : Nat) : Bool :=
  let x := injOf c q
  !x.flits.any (fun f => decide (f.mid = mid)) && !x.plans.any (fun p => decide (p.mid = mid))

/-- No flit of the message has entered its queue yet (R136). -/
def notStarted (c : Core) (q mid : Nat) : Bool :=
  let x := injOf c q
  !x.flits.any (fun f => decide (f.mid = mid)) && x.plans.any (fun p => decide (p.mid = mid ∧ p.index = 0))

/-! ### SEND -/

/-- Header register pair of `SEND` (R107). -/
def sendHeader (t : Thread) (a : Fin 32) : Header :=
  BitVec.ofNat 128 ((gReg t a).toNat + (gReg t (a + 1)).toNat * 2 ^ 64)

/-- The checks of `SEND`, in the order of R137 (R107, R283). -/
def sendFault (hd : Header) (b : Word) : Option Flt :=
  if b.toNat % 8 ≠ 0 then some ⟨0x04, b, false⟩
  else if 0 < hLen hd ∧ localTop < b.toNat + hLen hd then some ⟨0x03, BitVec.ofNat 64 (max b.toNat localTop), false⟩
  else (headerBad hd).map fun n => ⟨0x1D, BitVec.ofNat 64 n, false⟩

/-- The message goes to its queue and the thread waits until the router has taken it (R70). -/
def sendEff (h : Hart) (q : Fin 16) (hd : Header) (b : Word) (s : State) : State :=
  let mid := s.nextMid
  let plans := messagePlans mid hd (sourceOf s h) b.toNat (hLen hd) (some h.thread) (regionOf s h.core)
  let s := modCore { s with nextMid := mid + 1 } h.core fun c =>
    let x := injOf c q.val
    setInj c q.val { x with plans := x.plans ++ plans }
  setRun h (.waiting (.send q mid)) (refill h.core q.val s)

/-- `SEND` (R107, R283). -/
def execSend (h : Hart) (p : Fin 8) (q : Fin 16) (a : Fin 32) (b : Fin 32) (s : State) :
    Host.Outcome State Fault Refusal :=
  guardWf (.send h p q a b) h 4 (fun s =>
    let t := thread s h
    let hd := sendHeader t a
    issueOwn h p 4 (fun _ _ =>
      match sendFault hd (gReg t b) with
      | some f => { fault := some f }
      | none => { reads := { words := if hLen hd = 0 then [] else wordsOf (gReg t b).toNat (hLen hd) } })
      (sendEff h q hd (gReg t b)) s) s

/-! ### The core mover (R246–R250) -/

def localWord (c : Core) (a : Nat) : Word := bytes64 (mread c.mem a 8)

/-- Pairs of a scatter/gather list: address and length. -/
def listPairs (c : Core) (a n : Nat) : List (Nat × Nat) :=
  (List.range n).map fun i => let w := localWord c (a + 8 * i); (fld w 0 20, fld w 20 20)

/-- Words of a run of pairs, as addresses. -/
def pairWords (l : List (Nat × Nat)) : List Nat :=
  l.flatMap fun p => (List.range (p.2 / 8)).map fun i => p.1 + 8 * i

/-- The writes of one destination pair: landing address and length, at most 1,024 bytes each (R247). -/
def pairWrites (p : Nat × Nat) : List (Nat × Nat) :=
  (List.range ((p.2 + 1023) / 1024)).map fun i => (p.1 + 1024 * i, min 1024 (p.2 - 1024 * i))

/-- A decoded list. -/
structure SgList where
  header : Header
  control : Word
  src : List (Nat × Nat)
  dst : List (Nat × Nat)
  /-- Reserved bits of the pairs are 0. -/
  clean : Bool
  deriving DecidableEq, Repr

def readList (c : Core) (a : Nat) : SgList :=
  let ctl := localWord c (a + 16)
  let n := fld ctl 0 6 + 1
  let m := fld ctl 6 6 + 1
  { header := BitVec.ofNat 128 (bytesNat (mread c.mem a 16)), control := ctl,
    src := listPairs c (a + 24) n, dst := listPairs c (a + 24 + 8 * n) m,
    clean := (List.range (n + m)).all fun i => decide (fld (localWord c (a + 24 + 8 * i)) 40 24 = 0) }

/-- Status of the mover's check of a list (R250). -/
def listStatus (c : Core) (a : Word) : BitVec 8 :=
  let n := fld (localWord c (a.toNat + 16)) 0 6 + fld (localWord c (a.toNat + 16)) 6 6 + 2
  if a.toNat % 8 ≠ 0 then 0x04
  else if localTop < a.toNat + 24 then 0x03
  else if localTop < a.toNat + 24 + 8 * n then 0x03
  else
    let l := readList c a.toNat
    if (l.src ++ l.dst).any (fun p => decide (localTop < p.1 + p.2)) then 0x03
    else if (l.src ++ l.dst).any (fun p => decide (p.1 % 8 ≠ 0 ∨ p.2 % 8 ≠ 0)) then 0x04
    else if !l.clean || decide (fld l.control 45 19 ≠ 0) || decide (fld l.control 17 2 = 3)
        || decide ((l.src.map Prod.snd).sum ≠ (l.dst.map Prod.snd).sum)
        || (headerBad (setF (setF l.header 86 17 0) 103 8 0)).any (fun b => decide (b ≠ 55)) then 0x23
    else 0x00

/-- Header of write `i` of `n` of a mover transfer (R247, R283): the fields that the mover does not
replace stay as the list gives them. -/
def moverHeader (l : SgList) (i n : Nat) (w : Nat × Nat) : Header :=
  let arrive := fld l.control 17 2
  let x := setF (setF (setF (setF l.header 86 17 (w.1 / 8)) 103 8 (w.2 / 8)) 47 6 0) 58 1 0
  let x := setF x 111 16 (fld l.control 29 16)
  if bit l.control 16 || decide (arrive ≠ 0) then
    let x := setF (setF x 60 1 1) 55 1 (b2n (decide (i + 1 = n)))
    if i + 1 = n then setF (setF (setF x 64 12 i) 61 2 arrive) 76 10 (fld l.control 19 10) else x
  else x

/-- Cut the source words into the writes. -/
def dealPlans (src : SourceWord) (r : Option RegionId) : Nat → List Header → List (List Nat) → List FlitPlan
  | mid, hd :: hds, ws :: wss =>
    ((List.range (flitCount (8 * ws.length))).map fun i =>
      (⟨mid, hd, src, i, decide (i + 1 = flitCount (8 * ws.length)), (ws.drop (8 * i)).take 8, none, r, none⟩ : FlitPlan))
      ++ dealPlans src r (mid + 1) hds wss
  | _, _, _ => []

/-- Split a list into pieces of the given lengths. -/
def splitBy {α : Type} : List Nat → List α → List (List α)
  | [], _ => []
  | n :: ns, l => l.take n :: splitBy ns (l.drop n)

/-- A completion record becomes readable and E4 is raised (R250). -/
def moverRecord (h : Hart) (rec_ : Word) (s : State) : State :=
  raiseEvent h 4 (modTh s h fun t => { t with moverDone := t.moverDone ++ [rec_] })

def moverRec (xfer : Nat) (st : BitVec 8) : Word := BitVec.ofNat 64 (xfer + at_ st.toNat 16)

/-- The mover's writes for a good list. -/
def startList (core : CoreId) (j : MoverJob) (s : State) : State :=
  let c := coreOf s core
  let l := readList c j.list
  let writes := l.dst.flatMap pairWrites
  let n := writes.length
  let hds := (List.range n).map fun i => moverHeader l i n (nth (0, 0) writes i)
  let pieces := splitBy (writes.map fun w => w.2 / 8) (pairWords l.src)
  let q := fld l.control 12 4
  let mid := s.nextMid
  let plans := dealPlans (sourceOf s ⟨core, j.thread⟩) (regionOf s core) mid hds pieces
  let rec_ := moverRec (fld l.control 29 16) 0
  let s := modCore { s with nextMid := mid + n } core fun c =>
    let x := injOf c q
    { setInj c q { x with plans := x.plans ++ plans } with
      moving := some (j.thread, Fin.ofNat 16 q, mid + n - 1, rec_, none) }
  refill core q s

/-- The mover's writes for a write stream of engine `e` (R271): flits numbered over the whole stream. -/
def startStreamOut (core : CoreId) (j : MoverJob) (e : EngineId) (laddr len q xfer : Nat) (s : State) : State :=
  let mid := s.nextMid
  let plans := (List.range (flitCount len)).map fun i =>
    (⟨mid, 0, sourceOf s ⟨core, j.thread⟩, i, decide (i + 1 = flitCount len), flitAddrs laddr len i, none,
      regionOf s core, some e⟩ : FlitPlan)
  let s := modCore { s with nextMid := mid + 1 } core fun c =>
    let x := injOf c q
    { setInj c q { x with plans := x.plans ++ plans } with
      moving := some (j.thread, Fin.ofNat 16 q, mid, moverRec xfer 0, some e) }
  refill core q s

/-- The write stream an engine is carrying out, as local address, length, queue and transfer ID. -/
def outStream (s : State) (e : EngineId) : Option (Nat × Nat × Nat × Nat) :=
  match (tget Engine.reset s.engines e.val).run with
  | some r =>
    let w := fun i => nth 0 r.cmd.desc i
    some (fld (w 6) 0 20, fld (w 2) 0 40, fld (w 5) 51 4, fld (w 0) 36 16)
  | none => none

/-- A list the mover would read lies in words marked speculative: the mover waits (R227). -/
def listBlocked (c : Core) (a : Nat) : Bool :=
  let n := fld (localWord c (a + 16)) 0 6 + fld (localWord c (a + 16)) 6 6 + 2
  (wordsOf a (24 + 8 * n)).any c.specMark.contains

/-- `MOVER_TRANSFER_START` (R247, R249, R250): the mover takes the oldest submitted transfer, if it has
none in progress. -/
def moverStart (core : CoreId) (s : State) : State :=
  let c := coreOf s core
  match c.moving, c.moverQ with
  | none, j :: rest =>
    if j.stream.isNone && listBlocked c j.list then s else
    let s := setCore s core { c with moverQ := rest }
    match j.stream with
    | some e =>
      match outStream s e with
      | some (a, n, q, x) => startStreamOut core j e a n q x s
      | none => s
    | none =>
      let st := listStatus c (BitVec.ofNat 64 j.list)
      if st ≠ 0 then
        moverRecord ⟨core, j.thread⟩ (moverRec (fld (localWord c (j.list + 16)) 29 16) st) s
      else if (readList c j.list).dst.flatMap pairWrites = [] then
        moverRecord ⟨core, j.thread⟩ (moverRec (fld (localWord c (j.list + 16)) 29 16) 0) s
      else startList core j s
  | _, _ => s

/-- `MOVER_COMPLETION` (R250): the router has taken the last flit of the transfer in progress. -/
def moverFinish (core : CoreId) (s : State) : State :=
  let c := coreOf s core
  match c.moving with
  | some (th, q, mid, rec_, st) =>
    if sent c q.val mid then
      let s := setCore s core { c with moving := none }
      if st.isSome then s else moverRecord ⟨core, th⟩ rec_ s
    else s
  | none => s

/-- `MOVER_TRANSFER_START` (R247). -/
def execMoverTransferStart (core : CoreId) (s : State) : Host.Outcome State Fault Refusal :=
  .next (moverStart core s)

/-- `MOVER_COMPLETION` (R250). -/
def execMoverCompletion (core : CoreId) (s : State) : Host.Outcome State Fault Refusal :=
  .next (moverFinish core s)

end Sys2Proof.Machine
end

