-- ==== Sys2Proof/Machine/Bandwidth.lean ====
section
/-!
DEFINITION. The ring (R20, R244) and the windows of 1,024 cycles in which HBM controllers and ring segments
count the bursts they serve for each region (R245).
-/
namespace Sys2Proof.Machine
open Sys2Proof

/-! ### Resources -/

/-- Position of an E-die on the ring: 0 to 7 along the north edge, then 15 down to 8 along the south (R21). -/
def ringPos (e : Nat) : Nat := if e < 8 then e else 23 - e

/-- The ring segments from E-die `a` to E-die `b` (R244): resource 8 + k is the segment after position k in the
direction of rising numbers along the north edge, 24 + k in the other (log 170). -/
def ringPath (a b : Nat) : List Nat :=
  let up := (ringPos b + 16 - ringPos a) % 16
  if up ≤ 8 then (List.range up).map fun i => 8 + (ringPos a + i) % 16
  else (List.range (16 - up)).map fun i => 24 + (ringPos a + 15 - i) % 16

/-- What a burst of the bulk unit at `a` that moves from E-die `e`, or to it, uses: the unit's controller, which is
resource n for stack n (R237), and the ring between them. A read stream's burst counts for its engine's E-M, and no
segment beyond it toward the E-dies whose staging takes its flits (DESIGN CHOICE, log 170). -/
def bulkResources (e a : Nat) (toMemory : Bool) : List Nat :=
  let n := a / 256 % 8
  n :: (if toMemory then ringPath e (emDie n) else ringPath (emDie n) e)

/-! ### Windows (R245) -/

/-- The window of 1,024 cycles from Daybreak that runs now. -/
def windowNow (s : State) : Nat := s.clock.dayNo * 2 ^ 20 + s.clock.cycle / 1024

/-- Bursts a resource has served for a region in this window. -/
def servedFor (s : State) (res : Nat) (r : RegionId) : Nat :=
  if s.serviceWindow = windowNow s then tget 0 s.served (256 * res + r.val) else 0

/-- A burst of the region is within its quota at a resource: a controller can serve 20,480 / 3 bursts of 256 bytes
in a window (2,048 bits at 8.0 Gb/s, R3, R240), a ring segment 20,480 in each direction (R244). -/
def withinQuota (s : State) (res : Nat) (r : RegionId) : Bool :=
  decide ((if res < 8 then 3 * servedFor s res r else servedFor s res r) < 20 * (regOf s r).quota.toNat)

/-- The resources have served a burst of the region. -/
def charge (r : RegionId) (res : List Nat) (s : State) : State :=
  let old := if s.serviceWindow = windowNow s then s.served else []
  { s with serviceWindow := windowNow s
           served := res.foldl (fun t k => tset t (256 * k + r.val) (tget 0 t (256 * k + r.val) + 1)) old }

/-- The bulk units that a range touches have been served between memory and E-die `e`. -/
def chargeRange (r : RegionId) (e a n : Nat) (toMemory : Bool) (s : State) : State :=
  (List.range' (a / 256) ((a + n - 1) / 256 + 1 - a / 256)).foldl (fun s u => charge r (bulkResources e (256 * u) toMemory) s) s

end Sys2Proof.Machine
end

