-- ==== Sys2Proof/Machine/Routes.lean ====
section
/-!
DEFINITION. Routers and route programs (R59–R62, R72–R74), Twilight routing (R80–R82), route loads
(R63–R68), bulk windows (R386) and removed positions (R87, R418, R422).
-/
namespace Sys2Proof.Machine
open Sys2Proof

/-! ### Bulk windows and bulk memory -/

def bulkTop : Nat := 0x6000000000

/-- A unit of 256 MiB lies in a bulk window of the region. -/
def unitIn (x : Region) (u : Nat) : Bool :=
  x.bulk.any fun w => decide (w.1.toNat ≤ u ∧ u < w.1.toNat + w.2.toNat)

/-- Every byte of a range is mapped bulk memory of the region (R238, R386). -/
def inWindows (x : Region) (a n : Nat) : Bool :=
  decide (a + n ≤ bulkTop) && (List.range' (a / 2 ^ 28) ((a + n - 1) / 2 ^ 28 + 1 - a / 2 ^ 28)).all (unitIn x)

def bulkRead (s : State) (a n : Nat) : List Byte := mread s.bulk a n
def bulkNat (s : State) (a n : Nat) : Nat := bytesNat (mread s.bulk a n)
def bulkBad (s : State) (a : Nat) : Bool := s.bulkPoison.contains (a / 64)

/-- Sectors of 64 bytes that a range touches. -/
def sectorsOf (a n : Nat) : List Nat := List.range' (a / 64) ((a + n - 1) / 64 + 1 - a / 64)

/-- Write bulk memory; the sectors' marks follow R241. -/
def bulkWrite (a : Nat) (bs : List Byte) (poison : Bool) (s : State) : State :=
  { s with
    bulk := mwrite s.bulk a bs
    bulkPoison := (sectorsOf a bs.length).foldl (fun l w =>
      if poison then sins l w else if a ≤ 64 * w ∧ 64 * w + 64 ≤ a + bs.length then sdel l w else l) s.bulkPoison }

/-- What the code finds in the bulk sector `w` as it is read (R241). -/
def eccSector (w : Nat) (ecc : EccOutcome) (s : State) : State :=
  let die := emDie (w / 4 % 8)
  match ecc with
  | .clean => s
  | .corrected => count s (ctrEdie die 5) 1
  | .uncorrectable => { count s (ctrEdie die 6) 1 with bulkPoison := sins s.bulkPoison w }

/-- What the code finds in the sectors of a bulk range of `n` bytes as it is read (R241). -/
def eccRead (a n : Nat) (x : SectorEcc) (s : State) : State :=
  if n = 0 then s
  else (sectorsOf a n).foldl (fun s w =>
    if x.bad.contains w then eccSector w .uncorrectable s
    else if x.corrected.contains w then eccSector w .corrected s else s) s

/-! ### Removed positions -/

/-- Spare-map row of a position (R418). -/
def spareRow (c : CoreId) : Nat := 20 * dieOf c + coreY c % 20
/-- Logical column, within its C-die, that a row's second failure removes (R418). The spare itself serves no position
while the row names no first failure. -/
def removedCol (x : SpareRow) : Option Nat :=
  if 16 < x.second.toNat ∨ (x.second = 16 ∧ 16 < x.first.toNat) then none
  else if x.first.toNat ≤ 16 ∧ x.first.toNat ≠ 16 ∧ x.first.toNat < x.second.toNat then some (x.second.toNat - 1)
  else some x.second.toNat

/-- The spare-map row of a position. -/
def rowAt (s : State) (c : CoreId) : SpareRow := tget SpareRow.reset s.spares (spareRow c)

/-- The position has been removed (R87, R422). -/
def removedAt (s : State) (c : CoreId) : Bool :=
  s.removals.contains (BitVec.ofNat 14 c.val) || s.removedDies.contains (Fin.ofNat 32 (dieOf c)) ||
    decide (removedCol (rowAt s c) = some (coreX c % 16))

/-- A row of the spare map as it is at Daybreak `n`, as far as its shift is known (R85). -/
def rowOn (n : Nat) (x : SpareRow) : SpareRow :=
  match x.pending, x.shiftDay with
  | some (f, g), some m => if m ≤ n then { x with first := f, second := g } else x
  | _, _ => x

/-- The removal list as it is at Daybreak `n`. -/
def removalsOn (s : State) (n : Nat) : List (BitVec 14) × List (Fin 32) :=
  match (s.removalsNext.filter fun e => decide (e.1 ≤ n)).getLast? with
  | some (_, l) => l
  | none => (s.removals, s.removedDies)

/-- The position is removed under the map of Daybreak `n` (R85, R87). -/
def removedOn (s : State) (n : Nat) (c : CoreId) : Bool :=
  (removalsOn s n).1.contains (BitVec.ofNat 14 c.val) || (removalsOn s n).2.contains (Fin.ofNat 32 (dieOf c))
    || decide (removedCol (rowOn n (rowAt s c)) = some (coreX c % 16))

/-- Physical column of logical column `p` (R83). -/
def physicalCol (f : BitVec 5) (p : Nat) : Nat := if f.toNat < 16 ∧ f.toNat ≤ p then p + 1 else p

/-- The physical core at a position, as a key of the error histories. -/
def physicalOf (s : State) (c : CoreId) : Nat := 17 * spareRow c + physicalCol (rowAt s c).first (coreX c % 16)

def historyOf (s : State) (k : Nat) : ErrHistory := tget ⟨[], []⟩ s.history k

/-- An uncorrectable error at the router or a link of a core (R416). -/
def noteLink (c : CoreId) (s : State) : State :=
  let k := physicalOf s c
  { s with history := tset s.history k { historyOf s k with links := (historyOf s k).links ++ [s.clock.now] } }

/-! ### Route entries (R59, R60) -/

def reValid (e : BitVec 128) : Bool := bit e 0
def reIn (e : BitVec 128) : Nat := fld e 1 3
def reOut (e : BitVec 128) (n : Nat) : Bool := bit e (4 + n)
def reQueue (e : BitVec 128) : Nat := fld e 9 4
def reStart (e : BitVec 128) : Nat := fld e 16 24
def reDur (e : BitVec 128) : Nat := fld e 40 16 + 1
def reRepeat (e : BitVec 128) : Nat := fld e 56 16
def reStride (e : BitVec 128) : Nat := fld e 72 24
def reVariants (e : BitVec 128) : Nat := fld e 96 16

/-- The entry has an active cycle among the `n` offsets from `lo` (R60). -/
def reHits (e : BitVec 128) (lo n : Nat) : Bool :=
  if lo + n ≤ reStart e then false
  else
    let j := if reStride e = 0 then 0 else min (reRepeat e) ((lo + n - 1 - reStart e) / reStride e)
    decide (lo < reStart e + j * reStride e + reDur e)

def reRuns (e : BitVec 128) (variant off : Nat) : Bool := reValid e && bit e (96 + variant) && reHits e off 1

/-- Last active offset (R66 check 5). -/
def reLast (e : BitVec 128) : Nat := reStart e + reRepeat e * reStride e + (reDur e - 1)

def routerOf (s : State) (c : CoreId) : Router := tget Router.reset s.routers c.val
def setRouter (s : State) (c : CoreId) (x : Router) : State := { s with routers := tset s.routers c.val x }
def activeBank (x : Router) : Tab (BitVec 128) := if x.active then x.bank1 else x.bank0
def setInactive (x : Router) (b : Tab (BitVec 128)) : Router :=
  if x.active then { x with bank0 := b } else { x with bank1 := b }

/-! ### The mesh -/

/-- What a port of a router leads to. -/
inductive Hop
  | landing
  | router (c : CoreId) (inPort : Nat)
  | shore (p : ShoreId)
  | nothing
  deriving DecidableEq, Repr

def hop (c : CoreId) (port : Nat) : Hop :=
  match port with
  | 0 => .landing
  | 1 => if coreY c = 0 then .shore (shoreOfCol true (coreX c)) else .router (coreAt (coreX c) (coreY c - 1)) 3
  | 2 => if coreX c = 127 then .nothing else .router (coreAt (coreX c + 1) (coreY c)) 4
  | 3 => if coreY c = 79 then .shore (shoreOfCol false (coreX c)) else .router (coreAt (coreX c) (coreY c + 1)) 1
  | 4 => if coreX c = 0 then .nothing else .router (coreAt (coreX c - 1) (coreY c)) 2
  | _ => .nothing

/-- The port leads out of the router's region, or to a router of no region (R73). -/
def bordered (s : State) (c : CoreId) (port : Nat) : Bool :=
  match hop c port with
  | .router d _ => decide (regionOf s d ≠ regionOf s c) || (regionOf s d).isNone
  | _ => false

/-- A core of a region in Night, gated (R448). -/
def asleep (s : State) (c : CoreId) : Bool := (coreOf s c).night.isSome

/-- The running entry of a router for an input at Noon offset `off` (R60, R412). -/
def entryFor (s : State) (c : CoreId) (inPort off : Nat) : Option (BitVec 128) :=
  match regionOf s c with
  | none => none
  | some r =>
    let x := regOf s r
    if x.stopped ∨ asleep s c then none
    else
      let rt := routerOf s c
      ((activeBank rt).find? fun e => !rt.badEntries.contains e.1 && reRuns e.2 x.variant.toNat off
        && decide (reIn e.2 = inPort)).map Prod.snd

/-- Ports that enter the mesh: the local port and shore ports (R57). -/
def enters (c : CoreId) (inPort : Nat) : Bool :=
  match hop c inPort with | .landing | .shore _ => true | _ => false

/-! ### One flit at a router -/

/-- The next flit a core's queues offer in Twilight: a message under way goes on, else the lowest queue
(log 22). -/
def twilightQueue (c : Core) : Option Nat :=
  match (List.range 16).find? fun q => match (injOf c q).flits.head? with | some f => decide (f.index ≠ 0) | none => false with
  | some q => some q
  | none => (List.range 16).find? fun q => (injOf c q).flits ≠ []

/-- The oldest flit at an input, `q` the queue that input 0 draws on. -/
def flitAt (s : State) (c : CoreId) (inPort : Nat) (q : Option Nat) : Option Flit :=
  if inPort = 0 then match q with | some q => (injOf (coreOf s c) q).flits.head? | none => none
  else (tget [] (routerOf s c).inputs inPort).head?

/-- That flit leaves its input. -/
def takeFlit (c : CoreId) (inPort : Nat) (q : Option Nat) (s : State) : State :=
  if inPort = 0 then
    match q with
    | some q =>
      refill c q (modCore s c fun x => setInj x q { injOf x q with flits := (injOf x q).flits.drop 1 })
    | none => s
  else
    let rt := routerOf s c
    setRouter s c { rt with inputs := tset rt.inputs inPort ((tget [] rt.inputs inPort).drop 1) }

/-- One copy leaves through a port (R61, R62, R73, R417). -/
def sendCopy (c : CoreId) (f : Flit) (s : State) (port : Nat) : State :=
  if bit (routerOf s c).badPorts port then s
  else if bordered s c port then
    logCore c 0 0x13 (BitVec.ofNat 64 c.val) (count s (ctrCore c.val 1) 1)
  else match hop c port with
    | .landing =>
      if (coreOf s c).isolated then count s (ctrCore c.val 3) 1
      else modCore s c fun x => { x with inbox := x.inbox ++ [f] }
    | .router d i =>
      let rt := routerOf s d
      setRouter s d { rt with inputs := tset rt.inputs i (tget [] rt.inputs i ++ [f]) }
    | .shore p => { s with shoreOut := tset s.shoreOut p.val (tget [] s.shoreOut p.val ++ [f]) }
    | .nothing => s

/-- The flit after the router's SECDED check; `none`: dropped (R409, R411). -/
def checkFlit (c : CoreId) (ecc : FlitEcc) (f : Flit) (s : State) : Option Flit × State :=
  match ecc with
  | .ok => (some f, s)
  | .corrected => (some f, count s (ctrDie (dieOf c) 13) 1)
  | .payload w =>
    (some { f with words := updAt f.words w.val fun x => { x with poison := true } },
      logCore c 0 0x39 0 (noteLink c (count s (ctrDie (dieOf c) 14) 1)))
  | .header => (none, logCore c 0 0x39 0 (noteLink c (count s (ctrDie (dieOf c) 14) 1)))

/-- A flit that an isolated core tries to inject (R417). -/
def stray (c : CoreId) (s : State) : State :=
  let s := count s (ctrCore c.val 2) 1
  if (coreOf s c).strayLogged then s
  else logCore c 0 0x3C 0 (modCore s c fun x => { x with strayLogged := true })

/-- The flit `f` goes on from a router to the ports of `outs`. -/
def passFlit (c : CoreId) (inPort : Nat) (q : Option Nat) (f : Flit) (ecc : FlitEcc) (outs : List Nat) (s : State) : State :=
  let s := takeFlit c inPort q s
  if inPort = 0 ∧ (coreOf s c).isolated then stray c s
  else match checkFlit c ecc f s with
    | (some g, s) => outs.foldl (sendCopy c g) s
    | (none, s) => s

/-- A flit that no running entry names (R61, R74). -/
def dropFlit (c : CoreId) (inPort : Nat) (s : State) : State :=
  count (takeFlit c inPort none s) (ctrCore c.val 0) 1

/-- A router at one cycle under its route program (R60, R61). -/
def scheduledFlit (c : CoreId) (inPort cycle : Nat) (ecc : FlitEcc) (s : State) : State :=
  let e := if cycle < 512 ∨ (enters c inPort ∧ s.clock.phase = .dusk) then none else entryFor s c inPort (cycle - 512)
  match e with
  | some e =>
    let q := if inPort = 0 then some (reQueue e) else none
    match flitAt s c inPort q with
    | some f => passFlit c inPort q f ecc ((List.range 5).filter (reOut e)) s
    | none => s
  | none => if inPort ≠ 0 ∧ (flitAt s c inPort none).isSome then dropFlit c inPort s else s

/-- The flit leaves by a shore port (R81). -/
def shoreBound (s : State) (f : Flit) : Bool := f.outbound.isSome || decide (hDevice f.header ≠ s.deviceId.toNat)

/-- The positions a flit has to reach in Twilight: as the source router resolved them, else by this router's replica, a
message with `BCAST` at every member (R36, R81; DEDUCED, log 47); a header that names no member stays here (log 147). -/
def twilightDests (s : State) (c : CoreId) (f : Flit) : List CoreId :=
  f.dest.getD (let e := replicaEntry s (dieOf c) (hCell f.header)
               if shoreBound s f || !cellNamed e (hMember f.header) then [c]
               else if hBcast f.header then coresOf e else [landsAt e (hMember f.header)])

/-- The way out of this router in Twilight toward position `d`, or to the shore (R81). -/
def twilightPort (s : State) (c : CoreId) (f : Flit) (d : CoreId) : Nat :=
  if shoreBound s f then if (shoreOf s c).val < 128 then 1 else 3
  else if coreX c < coreX d then 2 else if coreX d < coreX c then 4
  else if coreY c < coreY d then 3 else if coreY d < coreY c then 1 else 0

/-- The positions that lie through port `o`. -/
def destsVia (s : State) (c : CoreId) (f : Flit) (o : Nat) : List CoreId :=
  (twilightDests s c f).filter fun d => decide (twilightPort s c f d = o)
/-- The positions that do not. -/
def destsBeside (s : State) (c : CoreId) (f : Flit) (o : Nat) : List CoreId :=
  (twilightDests s c f).filter fun d => decide (twilightPort s c f d ≠ o)

/-- The next input buffer has room (R80). -/
def hasRoom (s : State) (c : CoreId) (port : Nat) : Bool :=
  match hop c port with
  | .router d i => decide ((tget [] (routerOf s d).inputs i).length < 4)
  | _ => true

/-- One flit of a core's queues enters the buffer of input 0 (R80); at an isolated core it is a stray (R417). -/
def enterBuffer (c : CoreId) (s : State) : State :=
  let q := twilightQueue (coreOf s c)
  match flitAt s c 0 q with
  | none => s
  | some f =>
    let s := takeFlit c 0 q s
    if (coreOf s c).isolated then stray c s
    else
      let rt := routerOf s c
      setRouter s c { rt with inputs := tset rt.inputs 0 (tget [] rt.inputs 0 ++ [f]) }

/-- The buffer of input 0 fills as it has room (R80). The injection port is open in Noon alone (R57, R82). -/
def fillBuffer (c : CoreId) : Nat → State → State
  | 0, s => s
  | n + 1, s =>
    if s.clock.phase ≠ .noon ∨ 4 ≤ (tget [] (routerOf s c).inputs 0).length then s else fillBuffer c n (enterBuffer c s)

/-- The oldest flit of an input is `f`, or has left. -/
def setOldest (c : CoreId) (inPort : Nat) (f : Option Flit) (s : State) : State :=
  let rt := routerOf s c
  setRouter s c { rt with inputs := tset rt.inputs inPort (f.toList ++ (tget [] rt.inputs inPort).drop 1) }

/-- The copy of flit `f` for the positions through port `o` leaves; the flit stays for the others. -/
def twilightCopy (c : CoreId) (inPort o : Nat) (ecc : FlitEcc) (f : Flit) (s : State) : State :=
  let go := destsVia s c f o
  let rest := destsBeside s c f o
  match checkFlit c ecc f s with
  | (none, s) => setOldest c inPort none s
  | (some g, s) =>
    sendCopy c { g with dest := some go }
      (setOldest c inPort (if rest = [] then none else some { g with dest := some rest }) s) o

/-- The output that serves an input in a frame cycle (R80). -/
def servedBy (inPort cycle : Nat) : Nat := (inPort + 9 - cycle % 4) % 5

/-- A router at one cycle under the Twilight program (R80). -/
def twilightFlit (c : CoreId) (inPort cycle : Nat) (ecc : FlitEcc) (s : State) : State :=
  if asleep s c then (if inPort = 0 ∨ (tget [] (routerOf s c).inputs inPort) = [] then s else dropFlit c inPort s)
  else
    let s := if inPort = 0 then fillBuffer c 4 s else s
    let o := servedBy inPort cycle
    match (tget [] (routerOf s c).inputs inPort).head? with
    | none => s
    | some f => if destsVia s c f o = [] ∨ !hasRoom s c o then s else twilightCopy c inPort o ecc f s

/-- `FLIT_AT_ROUTER` (R60, R80). -/
def execFlitAtRouter (core : CoreId) (inPort : Fin 5) (cycle : BitVec 24) (ecc : FlitEcc) (s : State) :
    Host.Outcome State Fault Refusal :=
  let s := toCycle cycle.toNat s
  .next (match s.dev with
    | .daylight => scheduledFlit core inPort.val cycle.toNat ecc s
    | .twilight => twilightFlit core inPort.val cycle.toNat ecc s
    | .midnight => s)

/-! ### Route loads (R63–R68) -/

/-- A record of a route image: its entry and its description (R64). -/
structure RouteRec where
  body : BitVec 128
  desc : BitVec 128
  poison : Bool
  deriving DecidableEq, Repr

def recordAt (s : State) (a : Nat) : RouteRec :=
  ⟨BitVec.ofNat 128 (bulkNat s a 16), BitVec.ofNat 128 (bulkNat s (a + 16) 16),
    bulkBad s a || bulkBad s (a + 31)⟩

def recKind (x : RouteRec) : Nat := fld x.desc 24 2
def recCore (x : RouteRec) : CoreId := coreAt (fld x.desc 0 7) (fld x.desc 7 7)
def recIndex (x : RouteRec) : Nat := fld x.desc 14 10

/-- What a load has read so far: entries and budgets by core. -/
structure LoadAcc where
  banks : Tab (Tab (BitVec 128))
  budgets : Tab (BitVec 24)
  deriving DecidableEq, Repr

/-- Two entries of one router collide (R66 check 6). -/
def collide (e f : BitVec 128) : Bool :=
  decide (Nat.land (reVariants e) (reVariants f) ≠ 0)
  && (decide (reIn e = reIn f) || (List.range 5).any fun n => reOut e n && reOut f n)
  && (List.range (reRepeat e + 1)).any fun i => reHits f (reStart e + i * reStride e) (reDur e)

/-- Status of one record (R66). -/
def recordStatus (s : State) (r : RegionId) (acc : LoadAcc) (x : RouteRec) : BitVec 8 :=
  let re := cellEntry s (regOf s r).cell.toNat
  let e := x.body
  let c := recCore x
  let len := s.clock.dayDivNext.toNat * 256
  let dusk := s.clock.duskDivNext.toNat * 64
  let noon := len - 512 - dusk
  let ports := reIn e :: (List.range 5).filter (reOut e)
  let isEntry := decide (recKind x = 0)
  let valid := isEntry && reValid e
  if !cCovers re (fld x.desc 0 7) (fld x.desc 7 7) || removedOn s (s.clock.dayNo + 1) c then 0x19
  else if x.poison || decide (recKind x = 3) || decide (fld x.desc 26 102 ≠ 0) then 0x19
  else if isEntry && (decide (4 < reIn e) || decide (fld e 13 3 ≠ 0) || decide (fld e 112 16 ≠ 0)) then 0x19
  else if decide (recKind x = 1) && (decide (fld e 24 104 ≠ 0) || decide (recIndex x ≠ 0)) then 0x19
  else if valid && (ports.any (fun n => decide (hop c n = .nothing)) || reOut e (reIn e)) then 0x19
  else if valid && ports.any (bordered s c) then 0x13
  else if valid && decide (0 < reRepeat e ∧ reStride e < reDur e) then 0x19
  else if valid && decide ((if enters c (reIn e) then noon else noon + dusk - 1) ≤ reLast e) then 0x19
  else if valid && (tget [] acc.banks c.val).any (fun f => decide (f.1 ≠ recIndex x) && reValid f.2 && collide e f.2) then 0x19
  else if decide (recKind x = 1) && decide (len - dusk < fld e 0 24) then 0x19
  else 0x00

def addRecord (acc : LoadAcc) (x : RouteRec) : LoadAcc :=
  let c := (recCore x).val
  if recKind x = 0 then { acc with banks := tset acc.banks c (tset (tget [] acc.banks c) (recIndex x) x.body) }
  else { acc with budgets := tset acc.budgets c (x.body.setWidth 24) }

/-- Read and check the records from address `a`, and say where the reading ends: `none` when the image leaves the
region's windows before its end or its first failing record. Those are the records that the KS-40 reads (R64, R66), and
the test of R63 that the image lies in the windows covers no others (DESIGN CHOICE, log 190). -/
def scanImage (s : State) (r : RegionId) : Nat → Nat → LoadAcc → Option (BitVec 8 × LoadAcc × Nat)
  | 0, _, _ => none
  | n + 1, a, acc =>
    if !inWindows (regOf s r) a 32 then none
    else
      let x := recordAt s a
      if recKind x = 2 then some (0x00, acc, a + 32)
      else
        let st := recordStatus s r acc x
        if st ≠ 0 then some (st, acc, a + 32) else scanImage s r n (a + 32) (addRecord acc x)

/-- Records to look at: those up to the last byte that is not zero and the last poisoned sector, and two zero records
behind them. Where the first zero record passes its checks so does every later one, and none of them ends the image:
it runs out of the windows (log 190). -/
def scanFuel (s : State) (a : Nat) : Nat :=
  max (match s.bulk.getLast? with | some c => c.1 + 64 | none => 64)
    (match s.bulkPoison.getLast? with | some w => 64 * w + 64 | none => 0) / 32 + 2 - a / 32 + 2

def scanRead (s : State) (r : RegionId) (a : Nat) : Option (BitVec 8 × LoadAcc × Nat) :=
  scanImage s r (scanFuel s a) a ⟨[], []⟩

/-- The status and the contents of an image. -/
def scanLoad (s : State) (r : RegionId) (a : Nat) : Option (BitVec 8 × LoadAcc) :=
  (scanRead s r a).map fun x => (x.1, x.2.1)

/-- Bytes of an image that are read: its first failing record ends the reading (R66). -/
def scanLen (s : State) (r : RegionId) (a : Nat) : Nat :=
  match scanRead s r a with | some x => x.2.2 - a | none => 0

/-- The first step of a load: the inactive banks and pending budgets of the region are cleared (R65). -/
def clearInactive (r : RegionId) (s : State) : State :=
  (regionCores s r).foldl (fun s c =>
    let s := if (tfind s.routers c.val).isSome then setRouter s c (setInactive (routerOf s c) []) else s
    if (coreOf s c).budgetNext = 0 then s else modCore s c fun x => { x with budgetNext := 0 }) s

/-- A load is started (R63, R68). -/
def startLoad (r : RegionId) (addr : BitVec 40) (s : State) : State :=
  let x := regOf s r
  let x := { x with load := match x.load with | some l => if l.running then none else some l | none => none }
  let x := { x with loadNext := none }
  match scanLoad s r addr.toNat with
  | none => setReg s r { x with routeStatus := 0x19 }
  | some _ =>
    if s.clock.phase = .dusk ∧ s.dev ≠ .midnight then setReg s r { x with loadNext := some addr }
    else clearInactive r (setReg s r { x with load := some ⟨addr, s.clock.dayNo, true, false⟩ })

/-- Put a committed load's entries and budgets in place. -/
def storeLoad (acc : LoadAcc) (s : State) : State :=
  let s := acc.banks.foldl (fun s b =>
    let c : CoreId := Fin.ofNat 10240 b.1
    setRouter s c (setInactive (routerOf s c) b.2)) s
  acc.budgets.foldl (fun s b => modCore s (Fin.ofNat 10240 b.1) fun x => { x with budgetNext := b.2 }) s

/-- A running load ends: every record has been checked, or one has failed (R66). -/
def finishLoad (r : RegionId) (s : State) : State :=
  match (regOf s r).load with
  | some l =>
    if !l.running then s
    else match scanLoad s r l.addr.toNat with
      | some (st, acc) =>
        if st = 0 then
          storeLoad acc (modReg s r fun x => { x with load := some { l with running := false, committed := true }, routeStatus := 0 })
        else modReg s r fun x => { x with load := none, routeStatus := st }
      | none => modReg s r fun x => { x with load := none, routeStatus := 0x19 }
  | none => s

/-- The records of an image are read: what the code finds in them counts as far as the reading goes, which a record
found poisoned ends (R66, R241). -/
def readImage (r : RegionId) (a : Nat) (ecc : SectorEcc) (s : State) : State :=
  let n := scanLen (eccRead a (scanLen s r a) ecc s) r a
  eccRead a n ecc s

end Sys2Proof.Machine
end

