-- ==== Sys2Proof/Machine/Pcie.lean ====
section
/-!
DEFINITION. The configuration space of a PCIe function (R312–R314): its capability structures, its BARs, and
the fields of the base specification that the options of R312 act through (log 169).
-/
namespace Sys2Proof.Machine
open Sys2Proof

/-! ### Capability structures (R313) -/

/-- Offset, ID, and presence on the PF and on a VF. -/
def capTable : List (Nat × Nat × Bool × Bool) :=
  [(0x40, 0x01, true, true), (0x50, 0x11, true, true), (0x70, 0x10, true, true), (0x100, 0x01, true, true),
   (0x148, 0x0E, true, true), (0x158, 0x03, true, false), (0x168, 0x19, true, false), (0x1A8, 0x25, true, false),
   (0x1B8, 0x26, true, false), (0x1E0, 0x2A, true, false), (0x210, 0x31, true, false), (0x230, 0x27, true, false),
   (0x280, 0x10, true, false), (0x2C0, 0x0F, true, true), (0x2D0, 0x13, true, true), (0x2E0, 0x1B, true, false),
   (0x300, 0x2E, true, false)]

/-- The structures of a function, as offset and ID. -/
def capsOf (pf : Bool) : List (Nat × Nat) :=
  capTable.filterMap fun c => if (if pf then c.2.2.1 else c.2.2.2) then some (c.1, c.2.1) else none

/-- Offset of the structure that follows in the same list; 0 ends it. -/
def nextCap (pf : Bool) (off : Nat) : Nat :=
  match (capsOf pf).find? fun c => decide (off < c.1 ∧ (c.1 < 0x100 ↔ off < 0x100)) with
  | some c => c.1
  | none => 0

/-- Bits of a word that are fixed, and their value. -/
structure FixedBits where
  mask : Nat
  value : Nat

/-- Fixed bits of a BAR: a 64-bit memory BAR of 2^`k` bytes, prefetchable or not (R314). -/
def barFixed (k : Nat) (prefetch : Bool) : FixedBits := ⟨2 ^ k - 1, if prefetch then 0xC else 0x4⟩

/-- Fixed bits of a word of the configuration space (R312): among them no D1, D2, PME or ASPM, 64 GT/s x16, completion
timeout ranges A to D without disable, and 10-bit tags. -/
def configFixed (pf : Bool) (off : Nat) : FixedBits :=
  match (capsOf pf).find? fun c => decide (c.1 = off) with
  | some c => if off < 0x100 then
      ⟨if off = 0x50 then 0x07FFFFFF else if off = 0x40 then 0xFE00FFFF else 0xFFFF,
        c.2 + at_ (nextCap pf off) 8 + (if off = 0x50 then at_ (if pf then 63 else 15) 16 else 0)⟩
    else ⟨0xFFF0FFFF, c.2 + at_ (nextCap pf off) 20⟩
  | none =>
    match off, pf with
    | 0x34, _ => ⟨0xFF, 0x40⟩
    | 0x10, true => barFixed 16 false
    | 0x14, true => ⟨0, 0⟩
    | 0x10, false | 0x14, false | 0x18, _ | 0x1C, _ | 0x20, _ | 0x24, _ => ⟨0xFFFFFFFF, 0⟩
    | 0x44, _ => ⟨0x8100, 0⟩
    | 0x54, _ => ⟨0xFFFFFFFF, 0x2000⟩
    | 0x58, _ => ⟨0xFFFFFFFF, 0x3000⟩
    | 0x74, _ => ⟨0x10000007, 0x10000002⟩
    | 0x7C, _ => ⟨0xFFF, 0x106⟩
    | 0x80, _ => ⟨0x3, 0⟩
    | 0x94, _ => ⟨0x3001F, 0x3000F⟩
    | 0x98, _ => ⟨0x10, 0⟩
    | 0x28C, true => ⟨0xFFFFFFFF, 0x00800080⟩
    | 0x294, true => ⟨0xFFFFFFFF, 0x00010001⟩
    | 0x2A4, true => barFixed 16 false
    | 0x2AC, true => barFixed 22 true
    | 0x2B4, true | 0x2B8, true => ⟨0xFFFFFFFF, 0⟩
    | 0x2C4, _ => ⟨0x1F, 0⟩
    | 0x2D8, _ => ⟨0xFFFFFFFF, 256⟩
    | 0x2E4, true => ⟨0x1F06, at_ 20 8⟩
    | _, _ => ⟨0, 0⟩

/-- Writable bits of a word: BARs, power state, MSI-X control, Device Control and Device Control 2, the AER masks and
severity, SR-IOV, and the ATS, PRI and PASID controls. -/
def configMask (pf : Bool) (off : Nat) : Nat :=
  match off, pf with
  | 0x10, true | 0x2A4, true => 0xFFFF0000
  | 0x14, true | 0x2A8, true | 0x2B0, true => 0xFFFFFFFF
  | 0x2AC, true => 0xFFC00000
  | 0x44, _ => 0x3
  | 0x50, _ => 0xC0000000
  | 0x78, _ => 0x70FF
  | 0x98, _ => 0xF
  | 0x108, _ | 0x10C, _ | 0x114, _ | 0x2DC, _ => 0xFFFFFFFF
  | 0x288, true => 0x11
  | 0x290, true => 0xFFFF
  | 0x2C4, _ => 0x801F0000
  | 0x2D4, _ => 0x1
  | 0x2E4, true => 0x10000
  | _, _ => 0

/-- Bits of a word that the function holds: those a write changes, and the status and logs of AER. -/
def configHeld (pf : Bool) (off : Nat) : Nat :=
  match off with
  | 0x104 | 0x110 | 0x11C | 0x120 | 0x124 | 0x128 | 0x138 | 0x13C | 0x140 | 0x144 => 0xFFFFFFFF
  | 0x118 => 0x1F
  | _ => configMask pf off

/-- Reset value of the bits held: 512-byte reads and Relaxed Ordering enabled in Device Control, and the AER masks and
severity of the base specification (PRESUMED, log 169). -/
def configReset (off : Nat) : BitVec 32 :=
  match off with
  | 0x78 => 0x2010
  | 0x108 => 0x400000
  | 0x10C => 0x462030
  | 0x114 => 0xE000
  | _ => 0

def configOf (f : HostFn) (off : Nat) : BitVec 32 := tget (configReset off) f.config off
def setConfig (f : HostFn) (off : Nat) (v : BitVec 32) : HostFn := { f with config := tset f.config off v }

/-- A read of the configuration space: the bits held, Response Failure of PRI, fixed bits, and free values for the
rest. -/
def configRead (f : HostFn) (pf : Bool) (off : Nat) : BitVec 32 :=
  let x := configFixed pf off
  let w := configHeld pf off
  let rest := ~~~ (BitVec.ofNat 32 x.mask ||| BitVec.ofNat 32 w)
  let v := (configOf f off &&& BitVec.ofNat 32 w) ||| (BitVec.ofNat 32 x.value &&& BitVec.ofNat 32 x.mask)
    ||| (Config.configWord pf off &&& rest)
  if off = 0x2D4 then (v &&& 0xFFFEFFFF) ||| BitVec.ofNat 32 (at_ (b2n f.priFailed) 16) else v

/-! ### What the options of R312 read -/

/-- The function is in D3hot. -/
def inD3 (f : HostFn) : Bool := decide (fld (configOf f 0x44) 0 2 = 3)
/-- MSI-X is enabled, and the function's vectors are not masked as a whole. -/
def msixOn (f : HostFn) : Bool := bit (configOf f 0x50) 31 && !bit (configOf f 0x50) 30
def atsOn (f : HostFn) : Bool := bit (configOf f 0x2C4) 31
def priOn (f : HostFn) : Bool := bit (configOf f 0x2D4) 0
/-- Page requests that a function may have outstanding: 256, or fewer where the host has allocated fewer (log 169). -/
def pageLimit (f : HostFn) : Nat :=
  let n := (configOf f 0x2DC).toNat
  if n = 0 then 256 else min 256 n
/-- PASID of the PF, which governs its VFs. -/
def pasidOn (pf : HostFn) : Bool := bit (configOf pf 0x2E4) 16

end Sys2Proof.Machine
end

