-- ==== Sys2Proof/Machine/HostRings.lean ====
section
/-!
DEFINITION. PCIe functions, their registers and bindings (R314–R316, R452–R456), completion rings (R330–
R332), function events (R340), spill-cache write-back (R276, R280) and what a monitor's `HOST_NOTIFY`
does (R337, R338).
-/
namespace Sys2Proof.Machine
open Sys2Proof

/-! ### Functions -/

def fnKey (f : FnId) : Nat := f.link.val * 129 + (match f.vf with | some v => v.val | none => 128)
def fnOf (s : State) (f : FnId) : HostFn := tget HostFn.reset s.fns (fnKey f)
def setFn (s : State) (f : FnId) (x : HostFn) : State := { s with fns := tset s.fns (fnKey f) x }
def modFn (s : State) (f : FnId) (g : HostFn → HostFn) : State := setFn s f (g (fnOf s f))

/-- Every function: the PF and 128 VFs of each link. -/
def allFns : List FnId :=
  [0, 1].flatMap fun l => ⟨l, none⟩ :: (List.range 128).map fun v => ⟨l, some (Fin.ofNat 128 v)⟩

/-- The function a 9-bit VF code names (R383); `none` for a code that names no VF. -/
def vfOfCode (v : BitVec 9) : Option FnId :=
  if fld v 0 8 < 128 then some ⟨Fin.ofNat 2 (fld v 8 1), some (Fin.ofNat 128 (fld v 0 8))⟩ else none
def codeOfFn (f : FnId) : BitVec 9 :=
  BitVec.ofNat 9 (at_ f.link.val 8 + (match f.vf with | some v => v.val | none => 255))

/-- The VF of a region (R316). -/
def fnOfRegion (s : State) (r : RegionId) : Option FnId := vfOfCode (regOf s r).vf
/-- The region bound to a function (R316). -/
def regionOfFn (s : State) (f : FnId) : Option RegionId :=
  match f.vf with
  | none => none
  | some _ => match s.regions.find? fun e => e.2.valid && decide (e.2.vf = codeOfFn f) with
    | some e => some (Fin.ofNat 256 e.1)
    | none => none

/-! ### BAR0 registers (R453, R454) -/

def sqBase (r : Nat) : Nat := 0x1000 + 32 * r
def cqBase (c : Nat) : Nat := 0x1400 + 32 * c

/-- Reset value of a register (R453, R454). -/
def regReset (off : Nat) : BitVec 32 :=
  if off = 0x20 then 0x0040000A
  else if (0x1000 ≤ off ∧ off < 0x1200 ∨ 0x1400 ≤ off ∧ off < 0x1600) ∧ off % 32 = 0x10 then 6
  else if 0x1400 ≤ off ∧ off < 0x1600 ∧ off % 32 = 0x18 then 0x100
  else 0
def fnReg (f : HostFn) (off : Nat) : BitVec 32 := tget (regReset off) f.regs off
def setFnReg (f : HostFn) (off : Nat) (v : BitVec 32) : HostFn := { f with regs := tset f.regs off v }

def addr64 (f : HostFn) (lo hi : Nat) : Nat := (fnReg f lo).toNat / 4096 * 4096 + (fnReg f hi).toNat * 2 ^ 32
def doorbell (f : HostFn) : Nat := addr64 f 0x10 0x18
def sqEnabled (f : HostFn) (r : Nat) : Bool := bit (fnReg f (sqBase r + 0x18)) 0
def sqCq (f : HostFn) (r : Nat) : Nat := fld (fnReg f (sqBase r + 0x18)) 4 4
def sqSize (f : HostFn) (r : Nat) : Nat := 2 ^ fld (fnReg f (sqBase r + 0x10)) 0 5
def cqEnabled (f : HostFn) (c : Nat) : Bool := bit (fnReg f (cqBase c + 0x10)) 8
def cqSize (f : HostFn) (c : Nat) : Nat := 2 ^ fld (fnReg f (cqBase c + 0x10)) 0 5
def sqOf (f : HostFn) (r : Nat) : SqRing := tget SqRing.reset f.sq r
def cqOf (f : HostFn) (c : Nat) : CqRing := tget CqRing.reset f.cq c

/-! ### Completion entries (R330, R331) -/

/-- No position of the ring is free (R319). -/
def cqFull (x : CqRing) : Bool := decide (x.tail = x.head ∧ x.tailWrap ≠ x.headWrap)

/-- An entry of ring `c` can be written now. -/
def cqTakes (f : HostFn) (c : Nat) : Bool := cqEnabled f c && !cqFull (cqOf f c)

/-- Entries of the holding buffer: those that have found their ring full, not those whose write is under way (R331). -/
def heldBack (f : HostFn) : Nat := f.holding.countP fun e => !cqTakes f e.1.val

/-- An entry waits to be written to its ring (R331). One that comes when the buffer holds 64, of a descriptor read before,
an event or a closing port, waits beyond them (DESIGN CHOICE, log 198). -/
def postCqe (fn : FnId) (c : Nat) (e : Cqe) (s : State) : State :=
  modFn s fn fun f => { f with holding := f.holding ++ [(Fin.ofNat 16 c, e)] }

/-- Statuses that are also logged, at the E-H (R333). -/
def hostLog (fn : FnId) (r : Option RegionId) (st : BitVec 8) (info : Word) (s : State) : State :=
  if st = 0x2A ∨ st = 0x2C ∨ st = 0x2E then logEdie (ehDie fn.link.val) 0 r st info s else s

/-- A descriptor of ring `r` completes (R330). -/
def completeDesc (fn : FnId) (r : Nat) (cid : BitVec 16) (op : BitVec 8) (st : BitVec 8) (info : Word)
    (noCqe : Bool) (s : State) : State :=
  let s := hostLog fn (regionOfFn s fn) st info s
  if noCqe ∧ st = 0 then s
  else postCqe fn (sqCq (fnOf s fn) r) ⟨cid, Fin.ofNat 16 r, 0, st, op, 0, info, none⟩ s

/-- A function event to completion ring 0 (R340). -/
def fnEvent (fn : FnId) (n : Nat) (st : BitVec 8) (info : Word) (s : State) : State :=
  let s := hostLog fn (regionOfFn s fn) st info s
  if cqEnabled (fnOf s fn) 0 then postCqe fn 0 ⟨0, 0, 3, st, 0, BitVec.ofNat 64 n, info, none⟩ s else s

/-- The four words of an entry as written (R330). -/
def cqeWords (s : State) (f : HostFn) (c : Nat) (e : Cqe) : List Word :=
  let head := (sqOf f e.sq.val).head
  [BitVec.ofNat 64 (e.cid.toNat + at_ e.sq.val 16 + at_ e.kind.toNat 20 + at_ e.status.toNat 24
      + at_ head.toNat 32 + at_ e.opcode.toNat 48),
   e.result, e.info,
   BitVec.ofNat 64 (s.clock.dayCount.toNat + at_ (b2n !(cqOf f c).tailWrap) 63)]

/-- The next position of a ring of `n` entries (R319). -/
def bump (n : Nat) (i : BitVec 16) (w : Bool) : BitVec 16 × Bool :=
  if i.toNat + 1 < n then (i + 1, w) else (0, !w)

/-- A ring counts an entry written under its `CQ_IRQ` (R332, R455): the message of the n-th is due; the first
starts the timer of t µs. -/
def countEntry (now : Nat) (irq : BitVec 32) (x : CqRing) : CqRing :=
  let vector := BitVec.ofNat 6 (fld irq 0 6)
  if !bit irq 6 then x
  else if fld irq 8 8 ≤ x.unsignalled + 1 then { x with unsignalled := 0, timer := none, due := x.due ++ [vector] }
  else { x with
    unsignalled := x.unsignalled + 1
    timer := if x.unsignalled = 0 ∧ fld irq 16 16 ≠ 0 then some (now + 1200 * fld irq 16 16, vector) else x.timer }

/-- A slot is free again. -/
def freeSlot (slot : Option (RegionId × Nat)) (s : State) : State :=
  match slot with
  | some (r, k) => modReg s r fun x => { x with launches := tdel x.launches k }
  | none => s

/-- The oldest waiting entry of ring `c` is written (R331). -/
def writeCqe (fn : FnId) (c : Nat) (s : State) : State :=
  let f := fnOf s fn
  if !cqTakes f c then s
  else match f.holding.find? fun e => decide (e.1.val = c) with
    | none => s
    | some (_, e) =>
      let x := cqOf f c
      let addr := addr64 f (cqBase c) (cqBase c + 8) + 32 * x.tail.toNat
      let nxt := bump (cqSize f c) x.tail x.tailWrap
      let f' := { f with
        holding := f.holding.eraseP fun e => decide (e.1.val = c)
        cq := tset f.cq c (countEntry s.clock.now (fnReg f (cqBase c + 0x18)) { x with tail := nxt.1, tailWrap := nxt.2 }) }
      let out := HostOut.write fn (.untranslated (BitVec.ofNat 64 addr)) (wordsBytes (cqeWords s f c e))
      freeSlot e.slot { setFn s fn f' with hostOut := s.hostOut ++ [out] }

/-- `COMPLETION_ENTRY_WRITE` (R331). -/
def execCompletionEntryWrite (fn : FnId) (cq : Fin 16) (s : State) : Host.Outcome State Fault Refusal :=
  .next (writeCqe fn cq.val s)

/-! MSI-X (R332) -/

/-- The vector is masked in the MSI-X table (word 3 of its entry, bit 0; set at reset). -/
def vectorMasked (f : HostFn) (v : Nat) : Bool := bit (tget 1 f.msix (4 * v + 3)) 0

/-- Send a vector's message, set its pending bit while it is masked or MSI-X is off (R332), or withhold it in
D3hot (R312). -/
def sendMsix (fn : FnId) (v : Nat) (s : State) : State :=
  let f := fnOf s fn
  if vectorMasked f v || !msixOn f then
    setFn s fn { f with pba := f.pba ||| BitVec.ofNat 64 (2 ^ v) }
  else if inD3 f then setFn s fn { f with withheld := f.withheld ++ [BitVec.ofNat 6 v] }
  else { s with hostOut := s.hostOut ++ [.msix fn (BitVec.ofNat 6 v)] }

/-- The oldest message due of a completion ring leaves; with none due, that of a timer that has run out (R332). -/
def signalCq (fn : FnId) (c : Nat) (s : State) : State :=
  let x := cqOf (fnOf s fn) c
  let put := fun y : CqRing => modFn s fn fun f => { f with cq := tset f.cq c y }
  match x.due, x.timer with
  | v :: rest, _ => sendMsix fn v.toNat (put { x with due := rest })
  | [], some (t, v) => if t ≤ s.clock.now then sendMsix fn v.toNat (put { x with unsignalled := 0, timer := none }) else s
  | [], none => s

/-- `INTERRUPT_MESSAGE` (R332). -/
def execInterruptMessage (fn : FnId) (cq : Fin 16) (s : State) : Host.Outcome State Fault Refusal :=
  .next (signalCq fn cq.val s)

/-! ### Data writes (R312, R343) -/

/-- Relaxed Ordering is enabled in a function's Device Control (log 169). -/
def relaxedOn (f : HostFn) : Bool := bit (configOf f 0x78) 4

/-- A write of data to host memory: of a port or a spill cache, with Relaxed Ordering where that is enabled (R312,
R343). Rings, records and `QUERY` blocks are written in order (R352). -/
def dataWrite (s : State) (fn : FnId) (a : HostAddr) (bytes : List Byte) : HostOut :=
  if relaxedOn (fnOf s fn) then .relaxedWrite fn a bytes else .write fn a bytes

/-! ### The spill caches -/

def spillOf (s : State) (l : LinkId) : Spill := if l = 0 then s.spill0 else s.spill1
def setSpill (s : State) (l : LinkId) (x : Spill) : State := if l = 0 then { s with spill0 := x } else { s with spill1 := x }

/-- The page of a far address in its VF's address space, and the byte in it (R348). -/
def farVirtual (f : HostFn) (a : Nat) : Nat := (f.farBase.toNat + a) % 2 ^ 64
def farPage (f : HostFn) (a : Nat) : BitVec 52 := BitVec.ofNat 52 (farVirtual f a / 4096)

/-- A translation is of a page of a VF, in the address space its far accesses use. -/
def translates (fn : FnId) (pasid : BitVec 20) (page : BitVec 52) (t : Translation) : Bool :=
  decide (t.fn = fn ∧ t.pasid = pasid ∧ t.page = page)

/-- The translation held for a far page of a VF. -/
def translationOf (s : State) (fn : FnId) (page : BitVec 52) : Option Translation :=
  (spillOf s fn.link).atc.find? (translates fn (fnOf s fn).farPasid page)

/-- How host memory is addressed at a far address (R348): with the PASID, translated. -/
def farAddr (s : State) (fn : FnId) (a : Nat) : Option HostAddr :=
  let f := fnOf s fn
  (translationOf s fn (farPage f a)).map fun t =>
    .translated f.farPasid (BitVec.ofNat 64 (t.host.toNat * 4096 + farVirtual f a % 4096))

/-- The far range of a line is lost: the next read of it comes marked (R278, R351). -/
def markLost (link : LinkId) (r : RegionId) (line : BitVec 36) (s : State) : State :=
  let sp := spillOf s link
  setSpill s link { sp with lost := if sp.lost.contains (r, line) then sp.lost else sp.lost ++ [(r, line)] }

/-- A line is written to host memory. Without a translation, which no run reaches (log 48), it is lost. -/
def lineOut (l : SpillLine) (s : State) : State :=
  match farAddr s l.fn (l.line.toNat * 256) with
  | some a => { s with hostOut := s.hostOut ++ [dataWrite s l.fn a (wordsBytes (l.words.map fun w => w.data))] }
  | none => markLost l.fn.link l.region l.line s

/-- The dirty lines of a cache that satisfy `f` are written back and stay, clean. -/
def cleanLines (link : LinkId) (f : SpillLine → Bool) (s : State) : State :=
  let sp := spillOf s link
  let mine := fun l : SpillLine => f l && l.dirty
  (sp.lines.filter mine).foldl (fun s l => lineOut l s)
    (setSpill s link { sp with lines := sp.lines.map fun l => if mine l then { l with dirty := false } else l })

/-- Write back every dirty line of a region, whichever VF it was written for (R280, R456). -/
def writeBack (r : RegionId) (s : State) : State :=
  let mine := fun l : SpillLine => decide (l.region = r)
  cleanLines 1 mine (cleanLines 0 mine s)

/-- Drop the clean lines of a region from both caches, those on their way with them (R280; log 199). -/
def dropClean (r : RegionId) (s : State) : State :=
  let f := fun sp : Spill => { sp with
    lines := sp.lines.filter fun l => decide (l.region ≠ r) || l.dirty
    wanted := sp.wanted.map fun w => if w.region = r then { w with void := true } else w }
  { s with spill0 := f s.spill0, spill1 := f s.spill1 }

/-! ### HOST_NOTIFY (R337, R338) -/

/-- E5 with 0x2F on the region monitor, and the log record (R331, R338). -/
def notifyLost (r : RegionId) (s : State) : State :=
  deliver (frontOf s r) (noteE5 (monitorOf s r) 0x2F 0 0) (logArmaik (some r) 0x2F 0 s)

/-- A descriptor of a ring has completed (R323). -/
def notLive (fn : FnId) (ring : Fin 16) (seq : Nat) (s : State) : State :=
  modFn s fn fun f =>
    { f with sq := tset f.sq ring.val { sqOf f ring.val with live := (sqOf f ring.val).live.erase seq } }

/-! ### Closing a port (R341) -/

def portOf (s : State) (fn : FnId) (k : Nat) : Option DataPort := tfind (fnOf s fn).ports k
def setPort (fn : FnId) (k : Nat) (p : DataPort) (s : State) : State := modFn s fn fun f => { f with ports := tset f.ports k p }

/-- A port closes with `st`: its `KIND` 1 entry, and that of a `PORT_CLOSE` which waits for it (R341). -/
def closePort (fn : FnId) (k : Nat) (st : BitVec 8) (info : Word) (s : State) : State :=
  match portOf s fn k with
  | none => s
  | some p =>
    let f := fnOf s fn
    let s := hostLog fn (regionOfFn s fn) st info (setFn s fn { f with ports := tdel f.ports k })
    let s := postCqe fn (sqCq f p.ring.val) ⟨p.cid, p.ring, 1, st, 3, BitVec.ofNat 64 p.moved, info, none⟩ s
    match p.closing with
    | none => s
    | some (ring, n, cid, noCqe) => completeDesc fn ring.val cid 4 0 0 noCqe (notLive fn ring n s)

/-- Every open port of a function closes with `st`: it has lost its region (R386). -/
def closePorts (fn : FnId) (st : BitVec 8) (s : State) : State :=
  (fnOf s fn).ports.foldl (fun s p => closePort fn p.1 st 0 s) s

/-! ### The end of a launch (R280, R331, R338) -/

/-- A launch completes with `st` after the region's write-back (R280); its slot is freed when the entry is
written, or at once where none is (R331, R338) or a Function Level Reset has orphaned the launch (R317). -/
def endLaunch (r : RegionId) (k : Nat) (st : BitVec 8) (info : Word) (s : State) : State :=
  match tfind (regOf s r).launches k with
  | none => s
  | some l =>
    if l.ended then s else
    if l.orphan then
      hostLog l.fn (some r) 0x2E (BitVec.ofNat 64 r.val) (modReg s r fun x => { x with launches := tdel x.launches k })
    else
    let f := fnOf s l.fn
    let s := hostLog l.fn (some r) st info (writeBack r s)
    let s := modReg s r fun x => { x with launches := tset x.launches k { l with ended := true } }
    let s := notLive l.fn l.ring l.seq s
    if l.noCqe ∧ st = 0 then freeSlot (some (r, k)) s
    else postCqe l.fn (sqCq f l.ring.val) ⟨l.cid, l.ring, 0, st, 1, 0, info, some (r, k)⟩ s

/-- A launch completion that the monitor reports (R338). -/
def launchDone (r : RegionId) (k : Nat) (st : BitVec 8) (s : State) : State :=
  match tfind (regOf s r).launches k with
  | none => logArmaik (some r) 0x2A (BitVec.ofNat 64 k) s
  | some _ => endLaunch r k st 0 s

/-- A host notification (R338, R331). -/
def notification (r : RegionId) (cq : Nat) (v : Word) (s : State) : State :=
  match fnOfRegion s r with
  | none => notifyLost r s
  | some fn =>
    let f := fnOf s fn
    if !cqEnabled f cq then notifyLost r s
    else if cqFull (cqOf f cq) ∧ 64 ≤ heldBack f then notifyLost r s
    else postCqe fn cq ⟨0, 0, 2, 0, 0, v, 0, none⟩ s

/-- A write of `v` to `HOST_NOTIFY` (R337). -/
def hostNotify (r : RegionId) (v : Word) (s : State) : State :=
  if bit v 0 then
    if 0x40 ≤ fld v 16 8 then s else launchDone r (fld v 8 6) (BitVec.ofNat 8 (fld v 16 8)) s
  else notification r (fld v 1 4) (BitVec.ofNat 64 (fld v 16 48)) s

end Sys2Proof.Machine
end

