-- ==== Sys2Proof/Machine/Streams.lean ====
section
/-!
DEFINITION. Stream engines: descriptors and their checks (R254–R260, R398), submission and credits
(R251–R253), completion records (R274), cancellation (R273), and the start of a descriptor (R256).
-/
namespace Sys2Proof.Machine
open Sys2Proof

/-! ### Descriptor fields (R254, R255) -/

abbrev Desc := List Word
def dWord (d : Desc) (i : Nat) : Word := nth 0 d i
def dKind (d : Desc) : Nat := fld (dWord d 0) 0 3
def dChain (d : Desc) : Bool := bit (dWord d 0) 3
def dFarA (d : Desc) : Bool := bit (dWord d 0) 4
def dFarB (d : Desc) : Bool := bit (dWord d 0) 5
def dSparse (d : Desc) : Nat := fld (dWord d 0) 6 2
def dT2 (d : Desc) : Bool := bit (dWord d 0) 8
def dDecrypt (d : Desc) : Bool := bit (dWord d 0) 9
def dAbort (d : Desc) : Bool := bit (dWord d 0) 10
def dGroupEn (d : Desc) : Bool := bit (dWord d 0) 11
def dGroup (d : Desc) : BitVec 8 := BitVec.ofNat 8 (fld (dWord d 0) 12 8)
/-- Block size 2^z (R214). -/
def dBlock (d : Desc) : Nat := 2 ^ (fld (dWord d 0) 20 3 + 6)
def dTail (d : Desc) : Bool := bit (dWord d 0) 23
def dArrive (d : Desc) : Nat := fld (dWord d 0) 24 2
def dArriveIx (d : Desc) : Nat := fld (dWord d 0) 26 10
def dXfer (d : Desc) : Nat := fld (dWord d 0) 36 16
def dBconst (d : Desc) : Bool := bit (dWord d 0) 52
def dKeySlot (d : Desc) : Nat := fld (dWord d 0) 53 4
def dAddrA (d : Desc) : Nat := fld (dWord d 1) 0 44
def dAwrap (d : Desc) : Nat := fld (dWord d 1) 44 6
def dLength (d : Desc) : Nat := fld (dWord d 2) 0 40
def dAddrB (d : Desc) : Nat := fld (dWord d 4) 0 44
def dCell (d : Desc) : Nat := fld (dWord d 5) 0 11
def dMember0 (d : Desc) : Nat := fld (dWord d 5) 11 14
def dNmem (d : Desc) : Nat := fld (dWord d 5) 25 14 + 1
/-- Bytes dealt to each member in turn. -/
def dChunk (d : Desc) : Nat := 256 * (fld (dWord d 5) 39 12 + 1)
def dQueue (d : Desc) : Nat := fld (dWord d 5) 51 4
def dLaddr (d : Desc) : Nat := fld (dWord d 6) 0 20
def dLwrap (d : Desc) : Nat := fld (dWord d 6) 20 5
def dLaddr2 (d : Desc) : Nat := fld (dWord d 6) 25 20
def dSlot (d : Desc) : Nat := fld (dWord d 7) 0 24
def dScheduled (d : Desc) : Bool := decide (dSlot d ≠ 0xFFFFFF)
/-- Flits of a staging queue. -/
def dStage (d : Desc) : Nat := 2 ^ (6 + fld (dWord d 7) 24 3)
def dLow (d : Desc) : Nat := fld (dWord d 7) 27 13
def dHigh (d : Desc) : Nat := fld (dWord d 7) 40 13
def dMarkCell (d : Desc) : Nat := fld (dWord d 1) 0 11
def dMarkCtr (d : Desc) : Nat := fld (dWord d 1) 11 8
def dMarkTarget (d : Desc) : BitVec 32 := (dWord d 2).setWidth 32

/-! ### Block-sparse and packed data (R183, R214–R217, R270) -/

/-- Blocks of a run. -/
def dBlocks (d : Desc) : Nat := dLength d / dBlock d
/-- Bytes of the bitmap. -/
def dBitmapLen (d : Desc) : Nat := (dBlocks d + 7) / 8
/-- The bitmap of a run, as bulk memory holds it. -/
def readBitmap (s : State) (d : Desc) : List Byte :=
  if dKind d = 0 ∧ dSparse d ≠ 0 then bulkRead s (dAddrB d) (dBitmapLen d) else []
/-- Block `i` of a bitmap is present. -/
def present (bm : List Byte) (i : Nat) : Bool := bit (nth 0 bm (i / 8)) (i % 8)
/-- Present blocks below block `i`. -/
def rankOf (bm : List Byte) (i : Nat) : Nat := ((List.range i).filter (present bm)).length
/-- Stored bytes of one block. -/
def storedBlock (d : Desc) : Nat := if dT2 d then (4 * dBlock d + 4) / 5 else dBlock d
/-- Stored bytes at `ADDR_A` that a read fetches. -/
def dStored (bm : List Byte) (d : Desc) : Nat :=
  if dKind d = 0 ∧ dSparse d ≠ 0 then rankOf bm (dBlocks d) * storedBlock d
  else if dKind d = 0 ∧ dT2 d then (4 * dLength d + 4) / 5
  else dLength d
/-- Payload bytes a read delivers (R215, R216). -/
def dDelivered (bm : List Byte) (d : Desc) : Nat :=
  if dSparse d = 2 then rankOf bm (dBlocks d) * dBlock d else dLength d
/-- Flits of the delivered payload, and of the bitmap that follows it in skip mode. -/
def payFlits (bm : List Byte) (d : Desc) : Nat := dDelivered bm d / 64
def mapFlits (d : Desc) : Nat := if dSparse d = 2 then (dBitmapLen d + 63) / 64 else 0
def allFlits (bm : List Byte) (d : Desc) : Nat := payFlits bm d + mapFlits d

/-- The address of stored byte `o` (R258). -/
def wrapAddr (base w o : Nat) : Nat := if w = 0 then base + o else base / 2 ^ w * 2 ^ w + (base + o) % 2 ^ w

/-! ### Destinations (R257, R258) -/

/-- Bytes of the longest write: a write never crosses a chunk or a local wrap (log 30). -/
def writeMax (d : Desc) : Nat := if dLwrap d = 0 then 1024 else 64

/-- One write of a read stream: its first flit, bytes, member, landing address, its number among the
writes to its member, and whether it is the last of them. -/
structure StreamWrite where
  first : Nat
  len : Nat
  member : Nat
  laddr : Nat
  seq : Nat
  final : Bool
  deriving DecidableEq, Repr

/-- Member that holds the last payload byte (R270). -/
def lastMember (bm : List Byte) (d : Desc) : Nat :=
  dMember0 d + (if dDelivered bm d = 0 then 0 else (dDelivered bm d - 1) / dChunk d % dNmem d)

/-- Writes of the payload to member `m`. -/
def memberWrites (bm : List Byte) (d : Desc) (m : Nat) : Nat :=
  let c := dChunk d
  let t := dDelivered bm d
  let round := c * dNmem d
  let rest := t % round
  let mine := min c (rest - min rest (c * (m - dMember0 d)))
  t / round * ((c + writeMax d - 1) / writeMax d) + (mine + writeMax d - 1) / writeMax d

/-- The write that holds flit `i` of a read stream. -/
def writeOf (bm : List Byte) (d : Desc) (i : Nat) : StreamWrite :=
  let c := dChunk d
  let w := writeMax d
  let t := dDelivered bm d
  if i < payFlits bm d then
    let p := 64 * i
    let o := p % c
    let start := p - o % w
    let k := p / c
    let round := p / (c * dNmem d)
    let len := min (min w (c - o / w * w)) (t - start)
    let bitmapNext := decide (dSparse d = 2) && decide (lastMember bm d = dMember0 d + k % dNmem d)
    { first := start / 64, len := len, member := dMember0 d + k % dNmem d
      laddr := wrapAddr (dLaddr d) (dLwrap d) (c * round + o / w * w)
      seq := round * ((c + w - 1) / w) + o / w
      final := !(decide (o / w * w + w < c) && decide (start + w < t)) && decide (t ≤ (k + dNmem d) * c)
        && !bitmapNext }
  else
    let b := i - payFlits bm d
    let start := b / 16 * 16
    let total := (dBitmapLen d + 7) / 8 * 8
    let m := lastMember bm d
    { first := payFlits bm d + start, len := min 1024 (total - 64 * start), member := m
      laddr := dLaddr2 d + 64 * start, seq := memberWrites bm d m + start / 16
      final := decide (total ≤ 64 * start + 1024) }

/-- The shore port of a member of the destination cell: its column on the row the region abuts. -/
def memberShore (s : State) (r : RegionId) (cell m : Nat) : ShoreId :=
  shoreOfCol (northOf (cellEntry s (regOf s r).cell.toNat)) (coreX (cMember (cellEntry s cell) m))

def flitShore (s : State) (bm : List Byte) (x : StreamCmd) (i : Nat) : ShoreId :=
  memberShore s x.region (dCell x.desc) (writeOf bm x.desc i).member

/-- Numbers without repeats, rising. -/
def distinct (l : List Nat) : List Nat := l.foldl sins []

/-- The members a read stream names exist in its cell. -/
def membersOk (s : State) (r : RegionId) (d : Desc) : Bool :=
  let e := cellEntry s (dCell d)
  decide (dCell d ≠ 0) && cValid e && decide (cRegion e = r.val) && decide (dMember0 d + dNmem d ≤ cW e * cH e)

/-- Shore ports whose staging a descriptor needs (R259). A write stream stages at the port of its
submitting core's column (log 31). -/
def portsOf (s : State) (x : StreamCmd) : List Nat :=
  let d := x.desc
  if dKind d = 0 ∧ membersOk s x.region d then
    distinct ((List.range (dNmem d)).map fun m => (memberShore s x.region (dCell d) (dMember0 d + m)).val)
  else if dKind d = 1 then [(shoreOf s x.hart.core).val]
  else []

/-! ### Staging (R252, R259) -/

def engineOf (s : State) (e : EngineId) : Engine := tget Engine.reset s.engines e.val
def setEngine (s : State) (e : EngineId) (x : Engine) : State := { s with engines := tset s.engines e.val x }
/-- The descriptor in progress and those for which the engine fetches ahead (R266), in order. -/
def activeRuns (x : Engine) : List StreamRun := x.run.toList ++ x.ahead

/-- Bytes of staging that a descriptor takes on an E-die's row position `n` (16 shore ports each). -/
def stageNeed (s : State) (x : StreamCmd) (n : Nat) : Nat :=
  ((portsOf s x).filter fun p => decide (p / 16 = n)).length * (64 * dStage x.desc)

/-- Streams that hold staging now. -/
def stagedRuns (s : State) (r : RegionId) : List StreamCmd :=
  (s.engines.flatMap fun e => (activeRuns e.2 ++ e.2.draining ++ e.2.dying).map fun x => x.cmd).filter fun x =>
    decide (x.region = r)

/-- The descriptor's queues fit in what remains of the region's allocations. -/
def stageFits (s : State) (x : StreamCmd) : Bool :=
  (List.range 16).all fun n =>
    decide (stageNeed s x n = 0) ||
      decide (stageNeed s x n + ((stagedRuns s x.region).map fun y => stageNeed s y n).sum
        ≤ (nth 0 (regOf s x.region).staging n).toNat * 65536)

/-! ### Completion records (R253, R274) -/

/-- A record for a thread: readable at once, or kept by its engine (R253); none passes an isolation gate
(R417). -/
def deliverRecord (e : EngineId) (h : Hart) (w : Word) (s : State) : State :=
  if (coreOf s h.core).isolated then s
  else if (thread s h).streamDone.length < 32 then
    raiseEvent h 4 (modTh s h fun t => { t with streamDone := t.streamDone ++ [w] })
  else
    let x := engineOf s e
    setEngine s e { x with undelivered := x.undelivered ++ [(h, w)] }

def streamRec (xfer : Nat) (st : BitVec 8) (poisoned : Nat) : Word :=
  BitVec.ofNat 64 (xfer + at_ st.toNat 16 + at_ (min poisoned (2 ^ 24 - 1)) 32)

/-- Room has come: the first kept record of a thread, of the lowest engine, becomes readable. -/
def moveRecord (h : Hart) (s : State) : State :=
  if (coreOf s h.core).isolated then s
  else match s.engines.find? fun e => e.2.undelivered.any fun u => decide (u.1 = h) with
  | none => s
  | some (k, x) =>
    match x.undelivered.find? fun u => decide (u.1 = h) with
    | none => s
    | some u =>
      let e : EngineId := Fin.ofNat 256 k
      let s := setEngine s e { x with undelivered := x.undelivered.erase u }
      raiseEvent h 4 (modTh s h fun t => { t with streamDone := t.streamDone ++ [u.2] })

/-! ### Idle engines (R251) -/

def engineIdle (x : Engine) : Bool :=
  x.queue.isEmpty && x.run.isNone && x.ahead.isEmpty && x.undelivered.isEmpty

/-- Lowest-numbered idle engine of the region's set. -/
def idleEngine (s : State) (r : RegionId) : Option EngineId :=
  ((List.range 256).find? fun e => bit (regOf s r).engines e && engineIdle (tget Engine.reset s.engines e)).map
    fun e => Fin.ofNat 256 e

/-- Engine of the command stream a thread last opened, while it has not ended. -/
def openChain (s : State) (t : Thread) : Option EngineId :=
  match t.lastStream with
  | some (e, n) => if (engineOf s e).chain = n ∧ !engineIdle (engineOf s e) then some e else none
  | none => none

/-! ### Cancellation (R273) -/

/-- Rank of a status among the rows of R262. -/
def statusRank (st : BitVec 8) : Nat :=
  match st.toNat with | 0x0D => 1 | 0x24 => 2 | 0x0E => 3 | 0x0F => 4 | 0 => 0 | _ => 5
def worse (a b : BitVec 8) : BitVec 8 := if statusRank a ≤ statusRank b then b else a

/-- Mover jobs of a stream that ended are dropped before they start. -/
def dropJob (e : EngineId) (h : Hart) (s : State) : State :=
  modCore s h.core fun c => { c with moverQ := c.moverQ.filter fun j => !decide (j.stream = some e) }

/-- The running descriptor ends with `st`, the descriptors behind it are discarded with `0x25`, those for which the
engine fetches ahead among them. Accepted bursts are still to complete, and their staging is held until they have
(R273). -/
def cancelEngine (e : EngineId) (st : BitVec 8) (s : State) : State :=
  let x := engineOf s e
  match x.run with
  | none => s
  | some r =>
    let s := setEngine s e { x with
      run := none, ahead := [], queue := []
      dying := x.dying ++ (activeRuns x).filter fun y => decide (y.bursts ≠ []) }
    let s := dropJob e r.cmd.hart s
    let s := deliverRecord e r.cmd.hart (streamRec (dXfer r.cmd.desc) st r.poisoned) s
    let s := x.ahead.foldl (fun s y => deliverRecord e y.cmd.hart (streamRec (dXfer y.cmd.desc) 0x25 y.poisoned) s) s
    x.queue.foldl (fun s q => deliverRecord e q.hart (streamRec (dXfer q.desc) 0x25 0) s) s

/-- `f` acts on the engine's active run number `i`, those before it left alone (R266). -/
def focused (e : EngineId) (i : Nat) (f : State → State) (s : State) : State :=
  if i = 0 then f s
  else
    let x := engineOf s e
    let l := activeRuns x
    let s := f (setEngine s e { x with run := l[i]?, ahead := l.drop (i + 1) })
    let y := engineOf s e
    setEngine s e { y with run := x.run, ahead := x.ahead.take (i - 1) ++ activeRuns y }

/-- Descriptors of a command queue from the first that satisfies `f` are discarded. -/
def cancelQueued (e : EngineId) (f : StreamCmd → Bool) (s : State) : State :=
  let x := engineOf s e
  let keep := x.queue.takeWhile fun q => !f q
  let s := setEngine s e { x with queue := keep }
  (x.queue.drop keep.length).foldl (fun s q => deliverRecord e q.hart (streamRec (dXfer q.desc) 0x25 0) s) s

/-- E5 for a stream's fault, on the submitting thread. -/
def streamE5 (h : Hart) (cause : BitVec 8) (info : Nat) (s : State) : State :=
  deliver h.core (raiseE5 h cause 0 (BitVec.ofNat 64 info)) s

/-- Cancel every running stream that satisfies `g` and every waiting one whose command satisfies `f`. -/
def cancelRuns (g : StreamRun → Bool) (f : StreamCmd → Bool) (s : State) : State :=
  (s.engines.map fun e => (Fin.ofNat 256 e.1 : EngineId)).foldl (fun s e =>
    match (activeRuns (engineOf s e)).findIdx? g with
    | some i => focused e i (cancelEngine e 0x25) s
    | none => cancelQueued e f s) s

/-- Cancel every stream whose command satisfies `f`. -/
def cancelWhere (f : StreamCmd → Bool) (s : State) : State := cancelRuns (fun r => f r.cmd) f s

/-- `STREAM_CANCEL` from a thread of region `r`. -/
def cancelXfer (r : RegionId) (xfer : Nat) (s : State) : State :=
  cancelWhere (fun x => decide (x.region = r) && decide (dXfer x.desc = xfer)) s

/-- Every stream of a region is cancelled and its staging released (R52, R387). -/
def cancelRegion (r : RegionId) (s : State) : State :=
  let s := cancelWhere (fun x => decide (x.region = r)) s
  { s with engines := tmap (fun _ e => { e with draining := e.draining.filter fun x => decide (x.cmd.region ≠ r) }) s.engines }

/-! ### Checks of a descriptor (R256, R258, R398) -/

/-- Bits of word `i` that a descriptor's kind uses (R255). -/
def usedBits (d : Desc) (i : Nat) : List (Nat × Nat) :=
  let data := dKind d ≤ 3
  match i with
  | 0 => [(0, 57)]
  | 1 => if data then [(0, 50)] else [(0, 19)]
  | 2 => if data then [(0, 40)] else [(0, 32)]
  | 3 => if dKind d = 2 ∨ (dKind d = 3 ∧ dBconst d) then [(0, 64)] else []
  | 4 => if (dKind d = 0 ∧ dSparse d ≠ 0) ∨ (dKind d = 3 ∧ !dBconst d) then [(0, 44)] else []
  | 5 => if dKind d = 0 then [(0, 51)] else if dKind d = 1 then (51, 4) :: (if dArrive d ≠ 0 then [(0, 11)] else []) else []
  | 6 => if dKind d = 0 then (0, 25) :: (if dSparse d = 2 then [(25, 20)] else [])
         else if dKind d = 1 then [(0, 20)] else if dKind d = 3 then [(25, 20)] else []
  | 7 => if dKind d = 0 then [(0, 53)] else if dKind d = 1 then [(0, 27)] else []
  | _ => []

def onlyUsed (d : Desc) (i : Nat) : Bool :=
  (List.range 64).all fun b => !bit (dWord d i) b || (usedBits d i).any fun f => decide (f.1 ≤ b ∧ b < f.1 + f.2)

/-- Reserved values of fields (R254, R255). -/
def reservedField (d : Desc) : Bool :=
  decide (4 < dKind d) || decide (dSparse d = 3) || decide (dArrive d = 3)
  || decide (fld (dWord d 0) 20 3 = 7)
  || (decide (dKind d ≤ 3) && decide (dAwrap d ≠ 0 ∧ (dAwrap d < 12 ∨ 43 < dAwrap d)))
  || (decide (dKind d = 0) && decide (dLwrap d ≠ 0 ∧ (dLwrap d < 8 ∨ 19 < dLwrap d)))
  || (decide (dKind d ≤ 1) && decide (fld (dWord d 7) 24 3 = 7))

/-- A range of `n` bytes at `base`, wrapped within 2^w, stays in the region's bulk windows. -/
def bulkRangeOk (x : Region) (base w n : Nat) : Bool :=
  if n = 0 then true
  else if w = 0 ∨ base % 2 ^ w + n ≤ 2 ^ w then inWindows x base n
  else if 2 ^ w ≤ n then inWindows x (base / 2 ^ w * 2 ^ w) (2 ^ w)
  else inWindows x base (2 ^ w - base % 2 ^ w) && inWindows x (base / 2 ^ w * 2 ^ w) (base % 2 ^ w + n - 2 ^ w)

/-- The end of the local range a read writes in its first member. -/
def localEnd (bm : List Byte) (d : Desc) : Nat :=
  let round := dChunk d * dNmem d
  dLaddr d + dDelivered bm d / round * dChunk d + min (dChunk d) (dDelivered bm d % round)

def localOk (bm : List Byte) (d : Desc) : Bool :=
  let e := localEnd bm d
  let w := 2 ^ dLwrap d
  if dLwrap d = 0 then decide (e ≤ localTop)
  else if e ≤ dLaddr d / w * w + w then decide (e ≤ localTop)
  else decide (dLaddr d / w * w + w ≤ localTop)

/-- The arrival name lies in the window of its cell (R256). -/
def arriveOk (s : State) (d : Desc) : Bool :=
  let e := cellEntry s (dCell d)
  decide (dArrive d = 0) || decide (dArrive d = 1 ∧ dArriveIx d < cFlagCount e)
    || decide (dArrive d = 2 ∧ dArriveIx d < cCtrCount e)

/-- The decryption range rule (R398), for every kind of stream: an image is bulk memory, so a far range is in
none. An empty slot names no image: its blocks fail their tags (R399). -/
def decryptOk (s : State) (bm : List Byte) (r : RegionId) (d : Desc) : Bool :=
  !dDecrypt d || (decide (dAwrap d = 0) && !dFarA d && match tfind (regOf s r).keys (dKeySlot d) with
    | none => true
    | some k =>
      let a := dAddrA d
      let e := a + dStored bm d
      decide (k.imageBase.toNat ≤ a ∧ e ≤ k.imageBase.toNat + k.imageLen.toNat)
        && (decide ((e - k.imageBase.toNat) % 4096 = 0) || decide (e = k.imageBase.toNat + k.imageLen.toNat)))

/-- The transfer ID is that of another unfinished stream, running or in a command queue, or mover transfer of the
region. The descriptor itself heads the queue of engine `e`. -/
def xferBusy (s : State) (e : EngineId) (r : RegionId) (xfer : Nat) : Bool :=
  let same := fun q : StreamCmd => decide (q.region = r) && decide (dXfer q.desc = xfer)
  s.engines.any (fun x => (if x.1 = e.val then x.2.queue.drop 1 else x.2.queue).any same
    || (activeRuns x.2).any fun y => same y.cmd)
  || (regionCores s r).any fun c =>
      let x := coreOf s c
      x.moverQ.any (fun j => j.stream.isNone && decide (fld (localWord x (j.list + 16)) 29 16 = xfer))
      || match x.moving with
         | some (_, _, _, rec_, none) => decide (fld rec_ 0 16 = xfer)
         | _ => false

/-! Slots (R260) -/

/-- An entry makes Noon offset `off` a slot of port `p` under a variant. -/
def makesSlot (p : ShoreId) (dir : SlotDir) (variant off : Nat) (e : BitVec 128) : Bool :=
  let port := if p.val < 128 then 1 else 3
  reRuns e variant off && (match dir with | .inbound => decide (reIn e = port) | .outbound => reOut e port)

/-- Entry of the shore router that makes Noon offset `off` of today a slot of port `p`. -/
def isSlot (s : State) (p : ShoreId) (dir : SlotDir) (off : Nat) : Bool :=
  let c := shoreCore p
  match regionOf s c with
  | none => false
  | some r =>
    let x := regOf s r
    let rt := routerOf s c
    !x.stopped && !asleep s c && (activeBank rt).any fun e =>
      !rt.badEntries.contains e.1 && makesSlot p dir x.variant.toNat off e.2

/-- The same of a later Day, as far as it is known: a load that has committed swaps in at the next Daybreak (R67), with
the variant chosen so far for it (log 192). -/
def isNextSlot (s : State) (p : ShoreId) (dir : SlotDir) (off : Nat) : Bool :=
  let c := shoreCore p
  match regionOf s c with
  | none => false
  | some r =>
    let x := regOf s r
    let rt := routerOf s c
    let swaps := match x.load with | some l => l.committed | none => false
    !x.stopped && !asleep s c
      && (activeBank (if swaps then { rt with active := !rt.active } else rt)).any fun e =>
        makesSlot p dir x.variantNext.toNat off e.2

/-- Slots of today. An inbound slot injects and lies in Noon; an outbound one may lie in Dusk (R57). -/
def slotOffsets (s : State) (p : ShoreId) (dir : SlotDir) : List Nat :=
  (List.range (match dir with | .inbound => noonLen s | .outbound => noonLen s + duskLen s)).filter (isSlot s p dir)

/-- Length of the next Day. -/
def nextLen (s : State) : Nat := s.clock.dayDivNext.toNat * 256

/-- Slots of each later Day. -/
def nextOffsets (s : State) (p : ShoreId) (dir : SlotDir) : List Nat :=
  let dusk := s.clock.duskDivNext.toNat * 64
  (List.range (nextLen s - 512 - (match dir with | .inbound => dusk | .outbound => 0))).filter (isNextSlot s p dir)

/-- The slots of a port, today and in a later Day. -/
abbrev PortSlots := List Nat × List Nat
def portSlots (s : State) (p : ShoreId) (dir : SlotDir) : PortSlots := (slotOffsets s p dir, nextOffsets s p dir)

/-- Number, counted from today's first, of the first slot at or after Noon offset `off` of Day `day`. -/
def slotNumber (s : State) (l : PortSlots) (day off : Nat) : Nat :=
  let below := fun (l : List Nat) => (l.filter fun x => decide (x < off)).length
  if day < s.clock.dayNo then 0
  else if day = s.clock.dayNo then below l.1
  else l.1.length + (day - s.clock.dayNo - 1) * l.2.length + below l.2

/-- The window a stream with `n` flits for the port would own (R260): it begins in today's first slot at or after
`start` if that lies ahead, and otherwise in that of the next Day; where the Day has no such slot, in the first slot of
the Day after it (log 192). -/
def windowFor (s : State) (p : ShoreId) (dir : SlotDir) (start n : Nat) : Option SlotWindow :=
  let (l, m) := portSlots s p dir
  match l.find? fun x => decide (start ≤ x) with
  | some x =>
    if s.clock.cycle < 512 + x then some ⟨s.clock.dayNo, x, n⟩
    else match m.find? fun x => decide (start ≤ x) with
      | some y => some ⟨s.clock.dayNo + 1, y, n⟩
      | none => m.head?.map fun y => ⟨s.clock.dayNo + 2, y, n⟩
  | none => m.head?.map fun y => ⟨s.clock.dayNo + 1, y, n⟩

/-- Two windows of one port share a slot. A window that has begun no longer has those it has spent, which lie before
every new window. -/
def windowsMeet (s : State) (l : PortSlots) (a b : SlotWindow) : Bool :=
  overlap (slotNumber s l a.day a.offset) a.left (slotNumber s l b.day b.offset) b.left

def dirOf (d : Desc) : SlotDir := if dKind d = 0 then .inbound else .outbound

/-- Flits of a descriptor for one port. -/
def flitsFor (s : State) (bm : List Byte) (x : StreamCmd) (p : Nat) : Nat :=
  if dKind x.desc = 0 then ((List.range (allFlits bm x.desc)).filter fun i => decide ((flitShore s bm x i).val = p)).length
  else dLength x.desc / 64

/-- Windows of the unfinished streams at a port in one direction. -/
def windowsAt (s : State) (p : Nat) (dir : SlotDir) : List SlotWindow :=
  s.engines.flatMap fun e => (activeRuns e.2 ++ e.2.draining).filterMap fun x =>
    if dirOf x.cmd.desc = dir then tfind x.window p else none

/-- The windows a descriptor would own; `none`: R260 gives it none. Outside Daylight and without
`SLOT_START` every stream is unscheduled. -/
def windowsOf (s : State) (x : StreamCmd) : Option (Tab SlotWindow) :=
  let d := x.desc
  let bm := readBitmap s d
  if 1 < dKind d ∨ !dScheduled d ∨ s.dev ≠ .daylight then some []
  else (portsOf s x).foldl (fun acc p =>
    match acc, windowFor s (Fin.ofNat 256 p) (dirOf d) (dSlot d) (flitsFor s bm x p) with
    | some t, some w =>
      if (windowsAt s p (dirOf d)).any (windowsMeet s (portSlots s (Fin.ofNat 256 p) (dirOf d)) w) then none
      else some (tset t p w)
    | _, _ => none) (some [])

/-- A descriptor passes the checks of R256. -/
def descOk (s : State) (e : EngineId) (x : StreamCmd) : Bool :=
  let d := x.desc
  let bm := readBitmap s d
  let r := regOf s x.region
  let k := dKind d
  let data := decide (k ≤ 3)
  (List.range 8).all (onlyUsed d) && !reservedField d && !xferBusy s e x.region (dXfer d)
  && (if k = 4 then
        let c := cellEntry s (dMarkCell d)
        decide (dMarkCell d ≠ 0) && cValid c && decide (cRegion c = x.region.val) && decide (dMarkCtr d < cCtrCount c)
      else true)
  && (!data || (decide (dLength d ≠ 0) && decide (dAddrA d % 8 = 0)
    && decide (dLength d % (if k ≤ 1 then 64 else 8) = 0)
    && (dFarA d || bulkRangeOk r (dAddrA d) (dAwrap d) (dStored bm d))
    && (dFarA d || decide (dAddrA d < 2 ^ 40))))
  && (k ≠ 0 || (membersOk s x.region d && decide (dLaddr d % 64 = 0) && localOk bm d
    && (decide (dSparse d = 0) || (decide (dLength d % dBlock d = 0) && bulkRangeOk r (dAddrB d) 0 (dBitmapLen d)))
    && (decide (dSparse d ≠ 2) || (decide (dLaddr2 d % 64 = 0) && decide (dLaddr2 d + (dBitmapLen d + 7) / 8 * 8 ≤ localTop)))
    && decide (dLow d < dHigh d) && decide (dHigh d ≤ dStage d)
    && !(decide (dArrive d = 1) && decide (dNmem d ≠ 1)) && arriveOk s d && !(dGroupEn d && dFarA d)))
  && (!data || ((!dDecrypt d || decide (dAddrA d % 4096 = 0)) && decryptOk s bm x.region d))
  && (k = 0 || !dGroupEn d)
  && (k ≠ 1 || (decide (dLaddr d % 64 = 0) && decide (dLaddr d + dLength d ≤ localTop)
    && (decide (dArrive d = 0) || (decide (dCell d ≠ 0) && cValid (cellEntry s (dCell d))
      && decide (cRegion (cellEntry s (dCell d)) = x.region.val) && arriveOk s d))))
  && (k ≠ 3 || (decide (dLaddr2 d % 64 = 0) && decide (dLaddr2 d + 16 ≤ localTop)
    && (dBconst d || dFarB d || bulkRangeOk r (dAddrB d) 0 (dLength d))))
  && (windowsOf s x).isSome

/-! ### The start of a descriptor -/

/-- A run in its initial state. -/
def freshRun (s : State) (x : StreamCmd) (w : Tab SlotWindow) : StreamRun where
  cmd := x
  midBase := s.nextMid
  bitmap := readBitmap s x.desc
  issued := 0
  bursts := []
  ingest := []
  released := 0
  staged := 0
  queue := []
  passed := 0
  full := []
  cursor := []
  replaced := []
  window := w
  status := 0
  poisoned := 0
  written := 0
  outq := []
  part := 0
  ready := s.clock.now
  overflowed := false
  committed := false

/-- The engine fetches for it ahead of its turn: a read or a compare (R266). -/
def fetches (x : StreamCmd) : Bool := decide (dKind x.desc = 0 ∨ dKind x.desc = 3)

/-- Whether the head `q` of a command queue may start: the previous descriptor has completed, or in Daylight both it
and all that are in progress fetch, so that nothing it depends on stands between (R266; log 197). Flits may still stand
in staging, and a record that its thread has no room for does not hold the engine back (log 172). -/
def mayStart (s : State) (x : Engine) (q : StreamCmd) : Bool :=
  (x.run.isNone && x.ahead.isEmpty)
    || (decide (s.dev = .daylight) && fetches q && (activeRuns x).all fun r => fetches r.cmd)

/-- A bitmap read finds a poisoned sector. -/
def mapPoison (s : State) (d : Desc) : Bool :=
  decide (dKind d = 0 ∧ dSparse d ≠ 0) && (sectorsOf (dAddrB d) (dBitmapLen d)).any s.bulkPoison.contains

/-- A run joins those of its engine. -/
def startRun (x : Engine) (r : StreamRun) : Engine :=
  match x.run with
  | none => { x with run := some r }
  | some _ => { x with ahead := x.ahead ++ [r] }

/-- The head descriptor is checked and started, or fails with `0x23` (R256). It waits while its staging
queues do not fit (R252). -/
def startDesc (e : EngineId) (ecc : SectorEcc) (s : State) : State :=
  let x := engineOf s e
  match x.queue with
  | [] => s
  | q :: rest =>
    if !mayStart s x q then s
    else if !descOk s e q then
      deliverRecord e q.hart (streamRec (dXfer q.desc) 0x23 0) (setEngine s e { x with queue := rest })
    else if !stageFits s q then s
    else
      let s := if dKind q.desc = 0 ∧ dSparse q.desc ≠ 0 then eccRead (dAddrB q.desc) (dBitmapLen q.desc) ecc s else s
      let bad := mapPoison s q.desc
      let run := freshRun s q ((windowsOf s q).getD [])
      let run := if bad ∧ !dAbort q.desc then { run with status := 0x24 } else run
      let s := setEngine { s with nextMid := s.nextMid + (if dKind q.desc = 0 then allFlits run.bitmap q.desc else 0) } e
        { startRun x run with queue := rest }
      if dKind q.desc = 1 then
        modCore s q.hart.core fun c => { c with moverQ := c.moverQ ++ [⟨q.hart.thread, 0, some e⟩] }
      else if bad ∧ dAbort q.desc then
        streamE5 q.hart 0x24 (dXfer q.desc) (focused e ((activeRuns x).length) (cancelEngine e 0x24) s)
      else s

/-- `STREAM_DESCRIPTOR_START` (R256): `ecc` is what the read of the bitmap finds (R241). -/
def execStreamDescriptorStart (q : EngineRead) (s : State) : Host.Outcome State Fault Refusal :=
  .next (startDesc q.engine q.ecc s)

/-! ### Submission (R251, R252) -/

/-- What an access to a port does: it completes with a value, waits, stalls or faults. -/
inductive PortRes
  | done (v : Word) (s : State)
  | wait
  | stall
  | fault (f : Flt)
  deriving DecidableEq, Repr

/-- The descriptor a thread submits, as stored, with its own earlier stores (R253). -/
def readDesc (c : Core) (th : Fin 4) (a : Nat) : Desc := bytesWords 8 (readView c (some th) a 64)

/-- A write of `v` to `STREAM_SUBMIT`. -/
def streamSubmit (h : Hart) (v : Word) (s : State) : PortRes :=
  match addrFault v 64, regionOf s h.core with
  | some f, _ => .fault f
  | none, none => .wait
  | none, some r =>
    let d := readDesc (coreOf s h.core) h.thread v.toNat
    let x : StreamCmd := ⟨d, h, r⟩
    if dChain d then
      match openChain s (thread s h) with
      | none =>
        if (thread s h).streamDone.length < 32 then
          .done 0 (raiseEvent h 4 (modTh s h fun t =>
            { t with streamDone := t.streamDone ++ [streamRec (dXfer d) 0x23 0] }))
        else .wait
      | some e =>
        let y := engineOf s e
        if 16 ≤ y.queue.length + (activeRuns y).length ∨ !stageFits s x then .wait
        else .done 0 (setEngine s e { y with queue := y.queue ++ [x] })
    else
      match idleEngine s r with
      | none => .wait
      | some e =>
        if !stageFits s x then .wait
        else
          let y := engineOf s e
          let s := setEngine s e { y with queue := [x], chain := y.chain + 1 }
          .done 0 (modTh s h fun t => { t with lastStream := some (e, y.chain + 1) })

/-- A read of `STREAM_DONE`. -/
def streamDoneRead (h : Hart) (s : State) : PortRes :=
  match (thread s h).streamDone with
  | [] => .wait
  | w :: rest => .done w (moveRecord h (modTh s h fun t => { t with streamDone := rest }))

end Sys2Proof.Machine
end

