-- ==== Sys2Proof/Machine/Spill.lean ====
section
/-!
DEFINITION. Far memory: translations (R348, R349), and the lines of the spill caches (R276–R279).
-/
namespace Sys2Proof.Machine
open Sys2Proof

/-! ### Requests to the host -/

/-- A data port moves bytes out to the host (R327). -/
def portOut (p : DataPort) : Bool := bit (nth 0 p.words 1) 6

/-- Reads and translation requests of a link that await their completions. -/
def linkRequests (s : State) (link : LinkId) : Nat :=
  (spillOf s link).wanted.length + (s.fns.map fun f =>
    if f.1 / 129 = link.val then
      f.2.atsReqs.length + (f.2.ports.map fun p => if portOut p.2 then 0 else p.2.bursts.length).sum
    else 0).sum

/-- One more may be sent: at most 768 are outstanding (R312). -/
def linkFree (s : State) (link : LinkId) : Bool := decide (linkRequests s link < 768)

/-! ### Translations (R348, R349) -/

/-- The function whose requester ID a region's far accesses carry; `none` without a VF (R456, R464). -/
def farFn (s : State) (r : RegionId) : Option FnId := vfOfCode (regOf s r).farVf

/-- ATS, PRI and PASID are enabled for a VF (R348). -/
def farOn (s : State) (fn : FnId) : Bool :=
  atsOn (fnOf s fn) && priOn (fnOf s fn) && pasidOn (fnOf s ⟨fn.link, none⟩)

/-- What the E-H can do about a far access now. -/
inductive FarRes | go | pending | refused
  deriving DecidableEq, Repr

/-- A translation that grants the access. -/
def grants (t : Translation) (write : Bool) : Bool := if write then t.write else t.read

/-- Steps 1, 2 and 5 of R349 for one access, and the refusal of R348. -/
def farState (s : State) (fn : FnId) (page : BitVec 52) (write : Bool) : FarRes :=
  if !farOn s fn then .refused
  else match translationOf s fn page with
    | some t => if grants t write then .go else if (fnOf s fn).priFailed then .refused else .pending
    | none => .pending

/-- An ATS request for a page, when none is outstanding. -/
def askTranslation (fn : FnId) (page : BitVec 52) (s : State) : State :=
  let f := fnOf s fn
  if f.atsReqs.contains page ∨ f.pageReqs.contains page ∨ f.pageWait.contains page ∨ !linkFree s fn.link then s
  else { setFn s fn { f with atsReqs := f.atsReqs ++ [page] } with
    hostOut := s.hostOut ++ [.translationRequest fn f.farPasid page] }

/-- The page of a line that a VF's far address space holds. -/
def linePage (s : State) (l : SpillLine) : BitVec 52 := farPage (fnOf s l.fn) (256 * l.line.toNat)

/-- Translations leave an E-H: the dirty lines that need them are written back first (log 48). -/
def dropTranslations (link : LinkId) (f : Translation → Bool) (s : State) : State :=
  let s := cleanLines link (fun l => (translationOf s l.fn (linePage s l)).any f) s
  let sp := spillOf s link
  setSpill s link { sp with atc := sp.atc.filter fun t => !f t }

/-- A translation is kept: it replaces one of the same page, and the oldest of 4,096 makes room (R348). -/
def keepTranslation (t : Translation) (s : State) : State :=
  let link := t.fn.link
  let s := dropTranslations link (translates t.fn t.pasid t.page) s
  let s := match (spillOf s link).atc with
    | old :: rest => if 4095 ≤ rest.length then dropTranslations link (fun u => decide (u = old)) s else s
    | [] => s
  let sp := spillOf s link
  setSpill s link { sp with atc := sp.atc ++ [t] }

/-! ### Lines (R276–R279) -/

/-- A way that takes and serves lines. -/
def wayUsable (sp : Spill) (w : Nat) : Bool := bit sp.power w && !bit sp.disabled w && !bit sp.gated w
/-- No way takes and serves lines: far accesses pass uncached, as R278 states for 16 disabled ways, and also where some
are gated or powered down instead (DESIGN CHOICE, log 195). -/
def noWays (sp : Spill) : Bool := (List.range 16).all fun w => !wayUsable sp w

def isLine (r : RegionId) (line : BitVec 36) (l : SpillLine) : Bool := decide (l.region = r ∧ l.line = line)
def lineAt (sp : Spill) (r : RegionId) (line : BitVec 36) : Option SpillLine := sp.lines.find? (isLine r line)
/-- Set of a line: far address bits [22:8]. -/
def setOfLine (line : BitVec 36) : Nat := line.toNat % 32768

/-- A line has been asked for. -/
def isWanted (r : RegionId) (line : BitVec 36) (w : WantedLine) : Bool := decide (w.region = r ∧ w.line = line)
/-- It is on its way. -/
def onItsWay (sp : Spill) (r : RegionId) (line : BitVec 36) : Bool := sp.wanted.any (isWanted r line)
/-- It is on its way and will serve who waits for it: no launch start has come between (R280). -/
def wanted (sp : Spill) (r : RegionId) (line : BitVec 36) : Bool := sp.wanted.any fun w => isWanted r line w && !w.void

/-- A line used now. -/
def touchLine (r : RegionId) (line : BitVec 36) (sp : Spill) : Spill :=
  { sp with clock := sp.clock + 1
            lines := sp.lines.map fun l => if isLine r line l then { l with used := sp.clock + 1 } else l }

/-- Way that takes a new line: the lowest free usable one, else that of the least recently used line. -/
def victimWay (sp : Spill) (set : Nat) : Option (Nat × Option SpillLine) :=
  let here := sp.lines.filter fun l => decide (setOfLine l.line = set)
  let ways := (List.range 16).filter (wayUsable sp)
  match ways.find? fun w => !here.any fun l => decide (l.way.val = w) with
  | some w => some (w, none)
  | none =>
    match here.filter fun l => wayUsable sp l.way.val with
    | [] => none
    | l :: t =>
      let v := t.foldl (fun b x => if x.used < b.used then x else b) l
      some (v.way.val, some v)

/-- The line of far address `a` is asked of host memory, its 64 bytes at `a` first (R276, R277): once for all who
wait for it, or, with no way enabled, once for each burst (R278). -/
def wantLine (fn : FnId) (r : RegionId) (a : Nat) (s : State) : State :=
  let sp := spillOf s fn.link
  let line := BitVec.ofNat 36 (a / 256)
  if (wanted sp r line ∧ !noWays sp) ∨ !linkFree s fn.link then s
  else match farAddr s fn (a / 256 * 256) with
    | none => s
    | some host =>
      let s := setSpill s fn.link { sp with wanted := sp.wanted ++ [⟨r, line, fn, Fin.ofNat 4 (a / 64), [], false⟩] }
      { s with hostOut := s.hostOut ++ [.read fn host 256] }

/-- Bytes written into a cached line, which becomes dirty and belongs to the VF that writes it now (R456, R464); a word
written takes no mark (R271). -/
def writeLine (fn : FnId) (r : RegionId) (a : Nat) (bs : List Byte) (s : State) : State :=
  let link := fn.link
  let line := BitVec.ofNat 36 (a / 256)
  let sp := touchLine r line (spillOf s link)
  let put := fun ws : List PWord =>
    (List.range 32).map fun i =>
      let w := nth ⟨0, false⟩ ws i
      let old := natBytes 8 w.data.toNat
      let new := (List.range 8).map fun j =>
        if a % 256 ≤ 8 * i + j ∧ 8 * i + j < a % 256 + bs.length then nth 0 bs (8 * i + j - a % 256) else nth 0 old j
      (⟨bytes64 new, w.poison && !decide (a % 256 ≤ 8 * i ∧ 8 * i + 8 ≤ a % 256 + bs.length)⟩ : PWord)
  setSpill s link { sp with lines := sp.lines.map fun l => if isLine r line l then 
    { l with fn := fn, dirty := true, words := put l.words } else l }

/-- One line leaves the cache, written back if dirty. -/
def evict (link : LinkId) (l : SpillLine) (s : State) : State :=
  let sp := spillOf s link
  let s := setSpill s link { sp with lines := sp.lines.filter fun x => !isLine l.region l.line x }
  if l.dirty then lineOut l s else s

/-- The words of a line as host memory gives them, marked where the line was lost (R278). The pieces come in
ascending order from the one asked for first, with wrap-around (R277). -/
def arrivedWords (sp : Spill) (w : WantedLine) (pieces : List (List (BitVec 64))) : List PWord :=
  (List.range 32).map fun i =>
    ⟨nth 0 (nth [] pieces ((i / 8 + 4 - w.first.val) % 4)) (i % 8), sp.lost.contains (w.region, w.line)⟩

/-- A request for a line is answered in full. -/
def gotLine (link : LinkId) (w : WantedLine) (s : State) : State :=
  let sp := spillOf s link
  setSpill s link { sp with wanted := sp.wanted.eraseP (isWanted w.region w.line), lost := sp.lost.erase (w.region, w.line) }

/-- A line that has arrived is placed (R276). -/
def placeLine (link : LinkId) (w : WantedLine) (ws : List PWord) (s : State) : State :=
  let sp := spillOf s link
  if (lineAt sp w.region w.line).isSome then s
  else match victimWay sp (setOfLine w.line) with
    | none => s
    | some (k, v) =>
      let s := match v with | some l => evict link l s | none => s
      let sp := spillOf s link
      setSpill s link { sp with clock := sp.clock + 1
                                lines := sp.lines ++ [⟨w.region, w.fn, w.line, Fin.ofNat 16 k, false, ws, sp.clock + 1⟩] }

end Sys2Proof.Machine
end

