-- ==== Sys2Proof/Machine/Staging.lean ====
section
/-!
DEFINITION. The data of a started stream on its way to staging: stored and delivered bytes, unpacking and
expansion (R183, R214–R217, R270), staging queues and their marks (R259, R265), and the next burst (R264).
-/
namespace Sys2Proof.Machine
open Sys2Proof

/-! ### Stored and delivered bytes -/

/-- Block of the present block number `k` (expand mode). -/
def nthPresent : List Byte → Nat → Nat → Nat → Nat
  | _, 0, i, _ => i
  | bm, n + 1, i, k =>
    if present bm i then (if k = 0 then i else nthPresent bm n (i + 1) (k - 1)) else nthPresent bm n (i + 1) k

/-- Delivered byte, within its block or dense run, of stored byte `x`. -/
def unpackedByte (d : Desc) (x : Nat) : Nat := if dT2 d then 5 * x / 4 else x

/-- First flit that stored byte `o` concerns. -/
def flitOfStored (bm : List Byte) (d : Desc) (o : Nat) : Nat :=
  if dSparse d = 0 then unpackedByte d o / 64
  else
    let k := o / storedBlock d
    let b := if dSparse d = 1 then nthPresent bm (dBlocks d) 0 k else k
    (b * dBlock d + min (unpackedByte d (o % storedBlock d)) (dBlock d - 1)) / 64

/-- Stored bytes that payload flit `i` needs, as offset and count; `none`: it lies in an absent block. -/
def storedFor (bm : List Byte) (d : Desc) (i : Nat) : Option (Nat × Nat) :=
  let inBlock := fun base j =>
    if dT2 d then (base + 256 * j / 5, (256 * j + 255) / 5 - 256 * j / 5 + 1) else (base + 64 * j, 64)
  if dSparse d = 0 then some (inBlock 0 i)
  else
    let b := 64 * i / dBlock d
    if dSparse d = 1 ∧ !present bm b then none
    else some (inBlock ((if dSparse d = 1 then rankOf bm b else b) * storedBlock d) (64 * i % dBlock d / 64))

/-- The two-bit codes of a packed T2 byte (R183). -/
def t2Codes (b : Byte) : List Nat :=
  if 243 ≤ b.toNat then [2, 2, 2, 2, 2]
  else (List.range 5).map fun i => let x := b.toNat / 3 ^ i % 3; if x = 2 then 3 else x

/-- 256 elements from element `first` of packed bytes that begin with element `first − first % 5`. -/
def unpackFlit (first : Nat) (bs : List Byte) : List Word :=
  let codes := ((bs.flatMap t2Codes).drop (first % 5)).take 256
  (List.range 8).map fun w => BitVec.ofNat 64
    (((codes.drop (32 * w)).take 32).foldr (fun c acc => c + 4 * acc) 0)

/-- Stored bytes `[o, o + n)` have passed the decryption check, or need none. -/
def released (r : StreamRun) (o n : Nat) : Bool :=
  !dDecrypt r.cmd.desc || decide (o + n ≤ r.released * 4096)
    || decide (dStored r.bitmap r.cmd.desc ≤ r.released * 4096)

/-- The words of payload flit `i`, once its data is complete. -/
def flitData (r : StreamRun) (i : Nat) : Option (List PWord) :=
  let d := r.cmd.desc
  match storedFor r.bitmap d i with
  | none => some (List.replicate 8 ⟨0, false⟩)
  | some (o, n) =>
    let ws := List.range' (o / 8) ((o + n - 1) / 8 + 1 - o / 8)
    let got := ws.filterMap fun w => tfind r.ingest w
    if got.length < ws.length ∨ !released r o n then none
    else if dT2 d then
      let bs := ((wordsBytes (got.map fun w => w.data)).drop (o % 8)).take n
      let j := if dSparse d = 0 then 256 * i else 64 * i % dBlock d * 4
      some ((unpackFlit j bs).map fun w => ⟨w, got.any fun x => x.poison⟩)
    else some got

/-- The words of bitmap flit `b`, the last padded with zeros. -/
def mapData (r : StreamRun) (b : Nat) : List PWord :=
  let n := min 8 ((r.bitmap.length + 7) / 8 - 8 * b)
  (bytesWords n ((r.bitmap.drop (64 * b)))).map fun w => ⟨w, false⟩

/-! ### Staging -/

def queueAt (r : StreamRun) (p : Nat) : List StagedFlit := tget [] r.queue p

/-- Flit `i` enters staging (R259); data of a position already replaced is discarded (R261). -/
def stageFlit (s : State) (r : StreamRun) (i : Nat) (ws : List PWord) : StreamRun :=
  let p := (flitShore s r.bitmap r.cmd i).val
  if r.replaced.contains i then { r with staged := r.staged + 1, replaced := sdel r.replaced i }
  else { r with staged := r.staged + 1
                poisoned := r.poisoned + (if ws.any fun w => w.poison then 1 else 0)
                queue := tset r.queue p (queueAt r p ++ [⟨i, ws⟩]) }

/-- The flits among `n` from `lo` that `old` lacked and `new` can deliver enter staging. -/
def stageNew (s : State) (old new : StreamRun) (lo n : Nat) : StreamRun :=
  (List.range' lo n).foldl (fun r i =>
    if i < payFlits r.bitmap r.cmd.desc ∧ (storedFor r.bitmap r.cmd.desc i).isSome ∧ (flitData old i).isNone then
      match flitData new i with
      | some ws => stageFlit s r i ws
      | none => r
    else r) new

/-- Flits of a burst that count for a port (R265): those that still wait for data. -/
def burstFlits (s : State) (r : StreamRun) (p : Nat) (b : Burst) : Nat :=
  let lo := flitOfStored r.bitmap r.cmd.desc b.offset
  let hi := flitOfStored r.bitmap r.cmd.desc (b.offset + b.len - 1)
  ((List.range' lo (hi + 1 - lo)).filter fun i => decide ((flitShore s r.bitmap r.cmd i).val = p) && (flitData r i).isNone).length

/-- Occupancy of a staging queue (R265). -/
def occupancy (s : State) (r : StreamRun) (p : Nat) : Nat :=
  (queueAt r p).length + (r.bursts.map (burstFlits s r p)).sum

/-- The high and low water marks applied to a port (R265). -/
def markPort (s : State) (p : Nat) (r : StreamRun) : StreamRun :=
  let n := occupancy s r p
  if dHigh r.cmd.desc ≤ n then { r with full := sins r.full p }
  else if n ≤ dLow r.cmd.desc then { r with full := sdel r.full p }
  else r

/-- Shore ports that a burst's flits are for. -/
def burstPorts (s : State) (r : StreamRun) (b : Burst) : List Nat :=
  let lo := flitOfStored r.bitmap r.cmd.desc b.offset
  let hi := flitOfStored r.bitmap r.cmd.desc (b.offset + b.len - 1)
  distinct ((List.range' lo (hi + 1 - lo)).map fun i => (flitShore s r.bitmap r.cmd i).val)

/-- The marks of every queue that a burst's flits are for. -/
def markBurst (s : State) (b : Burst) (r : StreamRun) : StreamRun :=
  (burstPorts s r b).foldl (fun r p => markPort s p r) r

/-- `n` more flits may be fetched for a queue: by its water marks, in Twilight by its free space (R265, R266). -/
def queueTakes (s : State) (r : StreamRun) (p n : Nat) : Bool :=
  if s.dev = .twilight then decide (occupancy s r p + n ≤ dStage r.cmd.desc) else !r.full.contains p

/-- A burst may be fetched: the queue of its first flit takes it, in Twilight every queue it is for. -/
def burstTakes (s : State) (r : StreamRun) (b : Burst) : Bool :=
  match s.dev with
  | .twilight => (burstPorts s r b).all fun p => queueTakes s r p (burstFlits s r p b)
  | _ => queueTakes s r (flitShore s r.bitmap r.cmd (flitOfStored r.bitmap r.cmd.desc b.offset)).val 1

/-- Absent blocks before the next stored byte are staged as zeros while their queues have room (R215). -/
def passAbsent (s : State) : Nat → StreamRun → StreamRun
  | 0, r => r
  | n + 1, r =>
    let d := r.cmd.desc
    let i := r.passed
    if payFlits r.bitmap d ≤ i then r
    else match storedFor r.bitmap d i with
      | none =>
        let p := (flitShore s r.bitmap r.cmd i).val
        let r := markPort s p r
        if !queueTakes s r p 1 then r
        else passAbsent s n { stageFlit s r i (List.replicate 8 ⟨0, false⟩) with passed := i + 1 }
      | some (o, k) => if o + k ≤ r.issued then passAbsent s n { r with passed := i + 1 } else r

/-- The next bitmap flit enters staging after the payload has been asked for (R216). -/
def passBitmap (s : State) (r : StreamRun) : StreamRun :=
  let d := r.cmd.desc
  let i := payFlits r.bitmap d + r.passed
  if dSparse d ≠ 2 ∨ r.issued < dStored r.bitmap d ∨ allFlits r.bitmap d ≤ i then r
  else
    let p := (flitShore s r.bitmap r.cmd i).val
    let r := markPort s p r
    if !queueTakes s r p 1 then r
    else { stageFlit s r i (mapData r r.passed) with passed := r.passed + 1 }

/-! ### Bursts -/

/-- Stored bytes that bursts ask for: both ranges of a compare. -/
def burstTotal (r : StreamRun) : Nat :=
  let n := dStored r.bitmap r.cmd.desc
  if dKind r.cmd.desc = 3 ∧ !dBconst r.cmd.desc then 2 * n else n

def burstFar (d : Desc) (b : Burst) : Bool := if b.second then dFarB d else dFarA d
/-- Address of a burst. Far addresses are 44 bits and wrap at their top (log 173). -/
def burstAddr (d : Desc) (b : Burst) : Nat :=
  let a := if b.second then dAddrB d + b.offset else wrapAddr (dAddrA d) (dAwrap d) b.offset
  if burstFar d b then a % 2 ^ 44 else a

/-- The next burst: at most 256 bytes within one interleave unit (R264). -/
def nextBurst (r : StreamRun) : Option Burst :=
  let d := r.cmd.desc
  let n := dStored r.bitmap d
  if burstTotal r ≤ r.issued then none
  else
    let second := decide (n ≤ r.issued)
    let o := if second then r.issued - n else r.issued
    let a := burstAddr d ⟨o, 0, second⟩
    some ⟨o, min (256 - a % 256) (n - o), second⟩

/-- The next fetch has to wait for a burst to complete or for a queue to drain (R264, R265). -/
def fetchHeld (s : State) (r : StreamRun) : Bool :=
  match nextBurst r with
  | none => false
  | some b => decide (8 ≤ r.bursts.length) || (decide (dKind r.cmd.desc = 0) && !burstTakes s r b)

/-- A burst that had to wait becomes ready now (R267). -/
def readied (s : State) (old new : StreamRun) : StreamRun :=
  if fetchHeld s old && !fetchHeld s new then { new with ready := s.clock.now } else new

/-! ### Bursts of a write stream (R271) -/

/-- The flits at the head of the outbound queue whose positions follow each other. -/
def flitRun : Nat → List StagedFlit → List StagedFlit
  | _, [] => []
  | i, f :: t => if f.position = i then f :: flitRun (i + 1) t else []

/-- Bytes of the stream from offset `o`, `n` of them, that a write burst takes from the flits `run`. -/
structure WriteBurst where
  offset : Nat
  len : Nat
  run : List StagedFlit

/-- The next write burst: up to the end of its interleave unit or line, once its bytes have come. -/
def nextWrite (r : StreamRun) : Option WriteBurst :=
  match r.outq with
  | [] => none
  | f :: _ =>
    let o := 64 * f.position + r.part
    let run := flitRun f.position r.outq
    let room := 256 - burstAddr r.cmd.desc ⟨o, 0, false⟩ % 256
    let n := min room (64 * run.length - r.part)
    if n < room ∧ o + n < dLength r.cmd.desc ∧ run.length = r.outq.length then none else some ⟨o, n, run⟩

def flitBad (f : StagedFlit) : Bool := f.words.any fun w => w.poison

/-- The bytes that a burst takes from each of its flits, with the flit's mark. -/
def writePieces : Nat → Nat → List StagedFlit → List (List Byte × Bool)
  | _, _, [] => []
  | skip, n, f :: t =>
    let bs := ((wordsBytes (f.words.map fun w => w.data)).drop skip).take n
    (bs, flitBad f) :: (if n ≤ bs.length then [] else writePieces 0 (n - bs.length) t)

/-- The burst has been written: flits written whole leave the queue. -/
def wroteBurst (now : Nat) (b : WriteBurst) (r : StreamRun) : StreamRun :=
  let k := (r.part + b.len) / 64
  { r with
    outq := r.outq.drop k
    part := (r.part + b.len) % 64
    written := r.written + b.len
    ready := now
    poisoned := r.poisoned + (b.run.take k).countP flitBad }

/-- Poisoned flits that a burst writes whole. -/
def badFlits (b : WriteBurst) (r : StreamRun) : Nat := (b.run.take ((r.part + b.len) / 64)).countP flitBad

end Sys2Proof.Machine
end

