-- ==== Sys2Proof/Machine/Arbiter.lean ====
section
/-!
DEFINITION. Who is served next (R245, R267): the bursts that wait for HBM controllers and ring segments, their
deadlines, and the order in which a resource takes them.
-/
namespace Sys2Proof.Machine
open Sys2Proof

def runOf (s : State) (e : EngineId) : Option StreamRun := (engineOf s e).run
def putRun (e : EngineId) (r : StreamRun) (s : State) : State := setEngine s e { engineOf s e with run := some r }

/-! ### Deadlines (R267) -/

/-- Cycle since power-on of the slot that comes `k` after the next one of a window. In a Day whose bank is not yet
loaded it is the same Noon offset as in the Day before it; `none`: the port has no slot there (log 192). -/
def slotCycle (s : State) (p : ShoreId) (dir : SlotDir) (w : SlotWindow) (k : Nat) : Option Nat :=
  let (l, m) := portSlots s p dir
  let n := slotNumber s (l, m) w.day w.offset + k
  let daybreak := s.clock.now - s.clock.cycle
  if n < l.length then some (daybreak + 512 + nth 0 l n)
  else
    let j := n - l.length
    (m[j % m.length]?).map fun off => daybreak + dayLen s + j / m.length * nextLen s + 512 + off

/-- An unscheduled burst is due 65,536 cycles after it became ready; one that waits for its translation or line is ready
(DESIGN CHOICE, log 193). -/
def agedDeadline (ready : Nat) : Nat := ready + 65536

/-- Deadline of a read burst: the owned slot of its first flit. -/
def readDeadline (s : State) (r : StreamRun) (b : Burst) : Nat :=
  let i := flitOfStored r.bitmap r.cmd.desc b.offset
  let p := flitShore s r.bitmap r.cmd i
  match tfind r.window p.val with
  | none => agedDeadline r.ready
  | some w =>
    let lo := tget 0 r.cursor p.val
    let ahead := (List.range' lo (i - lo)).countP fun j => decide (flitShore s r.bitmap r.cmd j = p)
    (slotCycle s p .inbound w ahead).getD (agedDeadline r.ready)

/-- Deadline of a write burst: the owned slot at which the outbound queue would overflow. One that its window
cannot bring to overflow is due like an unscheduled one (log 174). -/
def writeDeadline (s : State) (r : StreamRun) : Nat :=
  let p := shoreOf s r.cmd.hart.core
  match tfind r.window p.val with
  | none => agedDeadline r.ready
  | some w =>
    let k := dStage r.cmd.desc - r.outq.length
    if k < w.left then (slotCycle s p .outbound w k).getD (agedDeadline r.ready) else agedDeadline r.ready

/-! ### Bursts that wait -/

/-- A burst that waits for the resources it needs. `rank`: its stream's engine, or for a data port or a route load 256 +
its E-die. A core mover moves data between local memories (R248) and waits for no controller or segment. -/
structure Ready where
  rank : Nat
  region : RegionId
  controllers : List Nat
  segments : List Nat
  deadline : Nat
  deriving DecidableEq, Repr

def engineDie (e : EngineId) : Nat := emDie (e.val / 32)

/-- A far access of a region can go now: its translation is held and, where it writes, its line is cached or
no way is enabled. -/
def farGoes (s : State) (r : RegionId) (a : Nat) (write : Bool) : Bool :=
  match farFn s r with
  | none => false
  | some fn =>
    decide (farState s fn (farPage (fnOf s fn) a) write = .go)
      && (!write || noWays (spillOf s fn.link) || (lineAt (spillOf s fn.link) r (BitVec.ofNat 36 (a / 256))).isSome)

/-- A burst at address `a` of engine `e`, as it waits. -/
def burstReady (s : State) (e : EngineId) (r : RegionId) (a : Nat) (far write : Bool) (deadline : Nat) : Option Ready :=
  if far then
    match farFn s r with
    | some fn => if farGoes s r a write then
        let h := ehDie fn.link.val
        some ⟨e.val, r, [], if write then ringPath (engineDie e) h else ringPath h (engineDie e), deadline⟩
      else none
    | none => none
  else some ⟨e.val, r, [a / 256 % 8], (bulkResources (engineDie e) a write).drop 1, deadline⟩

/-- The burst that run `r` of an engine would hand over next, if it may go. -/
def runReady (s : State) (e : EngineId) (r : StreamRun) : Option Ready :=
  let d := r.cmd.desc
  match dKind d with
  | 1 => match nextWrite r with
    | some b => if r.overflowed then none
      else burstReady s e r.cmd.region (burstAddr d ⟨b.offset, b.len, false⟩) (dFarA d) true (writeDeadline s r)
    | none => none
  | 4 => none
  | k => match nextBurst r with
    | none => none
    | some b =>
      if k ≠ 2 ∧ fetchHeld s r then none
      else burstReady s e r.cmd.region (burstAddr d b) (burstFar d b) (decide (k = 2))
        (if k = 0 then readDeadline s r b else agedDeadline r.ready)

/-- The burst that an engine would hand over next: of the first of its descriptors that has one (R266). -/
def engineReady (s : State) (e : EngineId) : Option Ready := (activeRuns (engineOf s e)).findSome? (runReady s e)

/-- A burst of a data port as it waits (R245): it may touch several stacks. -/
def portReady (r : RegionId) (link : LinkId) (b : PortBurst) (write : Bool) : Ready :=
  let h := ehDie link.val
  let units := List.range' (b.dev / 256) ((b.dev + b.len - 1) / 256 + 1 - b.dev / 256)
  let hbm := distinct (units.map fun u => u % 8)
  ⟨256 + h, r, hbm, distinct (hbm.flatMap fun n => if write then ringPath h (emDie n) else ringPath (emDie n) h),
    agedDeadline b.ready⟩

/-- The bursts of a function's ports: those that leave, and those that have come for bulk memory. -/
def portsReady (s : State) (key : Nat) (f : HostFn) : List Ready :=
  let link : LinkId := Fin.ofNat 2 (key / 129)
  match regionOfFn s ⟨link, some (Fin.ofNat 128 (key % 129))⟩ with
  | none => []
  | some r => f.ports.flatMap fun p =>
    (if portOut p.2 then p.2.bursts.map fun b => portReady r link b false else [])
      ++ p.2.toBulk.map fun b => portReady r link b.1 true

/-- Every burst of a stream or port that waits for a controller or a ring segment. A read that one command makes whole,
of a route image or a tag, waits as that command is given (log 170). -/
def waiting (s : State) : List Ready :=
  (s.engines.filterMap fun e => engineReady s (Fin.ofNat 256 e.1)) ++ s.fns.flatMap fun f => portsReady s f.1 f.2

/-! ### The order (R245) -/

/-- At a resource `x` goes before `c`: within quota first, then the earlier deadline, then the lower rank. -/
def before (s : State) (res : Nat) (x c : Ready) : Bool :=
  let qx := withinQuota s res x.region
  let qc := withinQuota s res c.region
  if qx ≠ qc then qx
  else if x.deadline ≠ c.deadline then decide (x.deadline < c.deadline)
  else decide (x.rank < c.rank)

/-- Nothing that waits for one of the resources goes before `c`. -/
def firstAt (s : State) (l : List Ready) (of_ : Ready → List Nat) (c : Ready) : Bool :=
  (of_ c).all fun res => l.all fun x => !(of_ x).contains res || !before s res x c

/-- A burst is taken: it is the choice of its controllers, and of its ring segments among those that are (log 170). -/
def granted (s : State) (c : Ready) : Bool :=
  let l := waiting s
  firstAt s l Ready.controllers c && firstAt s (l.filter (firstAt s l Ready.controllers)) Ready.segments c

/-- A burst has been taken: it counts for its region. -/
def serve (c : Ready) (s : State) : State := charge c.region (c.controllers ++ c.segments) s

/-- A read of `n` bytes of bulk memory at `a` for E-die `e`, as it waits. -/
def rangeReady (s : State) (rank : Nat) (r : RegionId) (e a n : Nat) : Ready :=
  let hbm := distinct ((List.range' (a / 256) ((a + n - 1) / 256 + 1 - a / 256)).map fun u => u % 8)
  ⟨rank, r, hbm, distinct (hbm.flatMap fun k => ringPath (emDie k) e), agedDeadline s.clock.now⟩

/-! ### Route loads (R65, R245) -/

/-- E-die to which a region's route image is read: that of its front core's column. The image is charged to the ring
segments toward it alone (DESIGN CHOICE, log 191). -/
def loadDie (s : State) (r : RegionId) : Nat := edieOf (shoreOf s (frontOf s r))

/-- `ROUTE_LOAD_DONE` (R63–R66): the records of a running load are read and checked once their controllers and ring
segments take the read, which counts for the region as far as the reading goes (R245). -/
def execRouteLoadDone (q : RouteRead) (s : State) : Host.Outcome State Fault Refusal :=
  let r := q.region
  .next (match (regOf s r).load with
    | none => s
    | some l =>
      let a := l.addr.toNat
      let t := readImage r a q.ecc s
      let n := scanLen t r a
      if !l.running then s
      else if n = 0 then finishLoad r t
      else if !granted s (rangeReady s (256 + loadDie s r) r (loadDie s r) a n) then s
      else finishLoad r (chargeRange r (loadDie s r) a n false t))

end Sys2Proof.Machine
end

