-- ==== Sys2Proof/Machine/StreamData.lean ====
section
/-!
DEFINITION. The work of a started stream: bursts (R243, R264), decryption (R263, R397), fill and compare (R268,
R269), writes (R271), completion (R274), and the fills of the spill caches (R276–R278).
-/
namespace Sys2Proof.Machine
open Sys2Proof

/-- A far stream is refused: it ends with `0x0F` (R262, R349). -/
def refuseFar (e : EngineId) (s : State) : State := cancelEngine e 0x0F s

/-- A far access that cannot go now: it is refused, asks for its translation, or, where it writes, for its line
(R276, R349). -/
def askFar (e : EngineId) (r : RegionId) (a : Nat) (write : Bool) (s : State) : State :=
  match farFn s r with
  | none => refuseFar e s
  | some fn =>
    let page := farPage (fnOf s fn) a
    match farState s fn page write with
    | .refused => refuseFar e s
    | .pending => askTranslation fn page s
    | .go => wantLine fn r a s

/-- What a read stream stages without fetching, and the marks of the queues its next burst is for (R215, R216,
R265). -/
def prepare (s : State) (r : StreamRun) : StreamRun :=
  let d := r.cmd.desc
  if dKind d ≠ 0 then r
  else
    let r := if dSparse d = 1 then passAbsent s (payFlits r.bitmap d + 1) r else passBitmap s r
    match nextBurst r with
    | some b => markBurst s b r
    | none => r

/-- The next fetch burst is handed over (R264, R265). -/
def handFetch (e : EngineId) (r : StreamRun) (s : State) : State :=
  match nextBurst r with
  | none => s
  | some b =>
    let d := r.cmd.desc
    let r' := { r with bursts := r.bursts ++ [b], issued := r.issued + b.len, ready := s.clock.now }
    let s := putRun e (if dKind d = 0 then markBurst s b r' else r') s
    if !burstFar d b then s
    else match farFn s r.cmd.region with
      | none => s
      | some fn =>
        if (lineAt (spillOf s fn.link) r.cmd.region (BitVec.ofNat 36 (burstAddr d b / 256))).isSome then s
        else wantLine fn r.cmd.region (burstAddr d b) s

/-- Bytes of one burst reach far memory: through the spill cache, whose line is there, or uncached in one write
(R276, R278). Bytes of poisoned flits are zeros (R271). -/
def writeFar (r : RegionId) (a : Nat) (bs : List Byte) (s : State) : State :=
  match farFn s r with
  | none => s
  | some fn =>
    if noWays (spillOf s fn.link) then
      match farAddr s fn a with
      | some host => { s with hostOut := s.hostOut ++ [dataWrite s fn host bs] }
      | none => s
    else writeLine fn r a bs s

/-- Pieces of a burst are written to bulk memory in address order, each with its mark. -/
def writePiecesBulk : Nat → List (List Byte × Bool) → State → State
  | _, [], s => s
  | a, (bs, bad) :: t, s => writePiecesBulk (a + bs.length) t (bulkWrite a bs bad s)

/-- A fill writes its next burst (R268). -/
def handFill (e : EngineId) (r : StreamRun) (s : State) : State :=
  match nextBurst r with
  | none => s
  | some b =>
    let d := r.cmd.desc
    let bs := (List.range b.len).map fun i => BitVec.ofNat 8 (fld (dWord d 3) (8 * ((b.offset + i) % 8)) 8)
    let s := if dFarA d then writeFar r.cmd.region (burstAddr d b) bs s else bulkWrite (burstAddr d b) bs false s
    putRun e { r with issued := r.issued + b.len, written := r.written + b.len, ready := s.clock.now } s

/-- A poisoned flit bound for far memory is logged (R271). -/
def logFarPoison (r : StreamRun) (s : State) : State :=
  match farFn s r.cmd.region with
  | some fn => logEdie (ehDie fn.link.val) 0 (some r.cmd.region) 0x21 (BitVec.ofNat 64 (dXfer r.cmd.desc)) s
  | none => s

def logFarPoisons (r : StreamRun) : Nat → State → State
  | 0, s => s
  | n + 1, s => logFarPoisons r n (logFarPoison r s)

/-- A write stream writes its next burst (R271). -/
def handWrite (e : EngineId) (r : StreamRun) (s : State) : State :=
  match nextWrite r with
  | none => s
  | some b =>
    let d := r.cmd.desc
    let a := burstAddr d ⟨b.offset, b.len, false⟩
    let l := writePieces r.part b.len b.run
    let s := if dFarA d then
        logFarPoisons r (badFlits b r)
          (writeFar r.cmd.region a (l.flatMap fun p => if p.2 then p.1.map fun _ => 0 else p.1) s)
      else writePiecesBulk a l s
    putRun e (wroteBurst s.clock.now b r) s

/-- What an engine's far access asks for before it can go. -/
def askNext (e : EngineId) (r : StreamRun) (s : State) : State :=
  let d := r.cmd.desc
  match dKind d with
  | 1 => match nextWrite r with
    | some b => if dFarA d then askFar e r.cmd.region (burstAddr d ⟨b.offset, b.len, false⟩) true s else s
    | none => s
  | 4 => s
  | k => match nextBurst r with
    | some b =>
      if burstFar d b ∧ r.bursts.length < 8 ∧ !farGoes s r.cmd.region (burstAddr d b) (decide (k = 2)) then
        askFar e r.cmd.region (burstAddr d b) (decide (k = 2)) s
      else s
    | none => s

/-- The engine's next burst is handed over (R243). -/
def handOver (e : EngineId) (r : StreamRun) (s : State) : State :=
  match dKind r.cmd.desc with
  | 0 | 3 => handFetch e r s
  | 1 => handWrite e r s
  | 2 => handFill e r s
  | _ => s

/-- After an overflow nothing more of a write stream is written (R272). -/
def dropOverflow (r : StreamRun) : StreamRun := if r.overflowed then { r with outq := [] } else r

/-- `f` acts on the run that an engine works for now. -/
def onRun (e : EngineId) (f : StreamRun → State → State) (s : State) : State :=
  match runOf s e with
  | some r => f r s
  | none => s

/-- `f` acts on each active run of an engine in turn (R266). -/
def onRuns (e : EngineId) (f : StreamRun → State → State) (s : State) : State :=
  (List.range (activeRuns (engineOf s e)).length).foldl (fun s i => focused e i (onRun e f) s) s

/-- `BURST_ISSUE` (R245, R264, R266, R268, R271): the engine's next burst goes if its resources choose it. -/
def execBurstIssue (e : EngineId) (s : State) : Host.Outcome State Fault Refusal :=
  let s := onRuns e (fun r s => putRun e (dropOverflow (prepare s r)) s) s
  .next (match (activeRuns (engineOf s e)).findIdx? fun r => (runReady s e r).isSome, engineReady s e with
    | some i, some c => if granted s c then serve c (focused e i (onRun e (handOver e)) s) else s
    | _, _ => onRuns e (askNext e) s)

/-! ### Data of a burst -/

/-- Key of stored word `w` in the ingest buffer. -/
def ingestKey (d : Desc) (second : Bool) (w : Nat) : Nat := if dKind d = 3 then 2 * w + b2n second else w

/-- The words of a burst, its sectors' marks with them: bytes at stored offset `o` from address `a`. -/
def bulkWords (s : State) (a n : Nat) : List PWord :=
  (List.range ((n + 7) / 8)).map fun j =>
    ⟨bytes64 (bulkRead s (a + 8 * j) (min 8 (n - 8 * j))), bulkBad s (a + 8 * j)⟩

/-- Stored word `w` as a burst that need not begin or end on a word completes it: bytes with marks (R269). -/
def mergeWord (old : Option PWord) (b : Burst) (byteAt : Nat → Byte × Bool) (w : Nat) : PWord :=
  let o := old.getD ⟨0, false⟩
  let mine := (List.range 8).filter fun j => decide (b.offset ≤ 8 * w + j ∧ 8 * w + j < b.offset + b.len)
  ⟨bytes64 ((List.range 8).map fun j =>
      if mine.contains j then (byteAt (8 * w + j - b.offset)).1 else nth 0 (natBytes 8 o.data.toNat) j),
    o.poison || mine.any fun j => (byteAt (8 * w + j - b.offset)).2⟩

/-- The words of a burst enter the ingest buffer. -/
def ingestWords (r : StreamRun) (b : Burst) (ws : List PWord) : StreamRun :=
  { r with ingest := (List.range ws.length).foldl (fun t j =>
      tset t (ingestKey r.cmd.desc b.second (b.offset / 8 + j)) (nth ⟨0, false⟩ ws j)) r.ingest }

/-- The words of the second range of a compare, which begins at any byte. -/
def ingestSecond (r : StreamRun) (b : Burst) (byteAt : Nat → Byte × Bool) : StreamRun :=
  { r with ingest := (List.range' (b.offset / 8) ((b.offset + b.len - 1) / 8 + 1 - b.offset / 8)).foldl (fun t w =>
      let k := ingestKey r.cmd.desc true w
      tset t k (mergeWord (tfind t k) b byteAt w)) r.ingest }

/-- What a burst brings: its words, or for the second range of a compare its bytes. -/
inductive BurstData
  | words (ws : List PWord)
  | bytes (l : List (Byte × Bool))

def BurstData.bad : BurstData → Bool
  | .words ws => ws.any fun w => w.poison
  | .bytes l => l.any Prod.snd

/-- The data of burst `i` has come (R262, R264). -/
def burstData (e : EngineId) (r : StreamRun) (i : Nat) (b : Burst) (x : BurstData) (s : State) : State :=
  let d := r.cmd.desc
  if x.bad ∧ dKind d = 0 ∧ dAbort d then
    streamE5 r.cmd.hart 0x24 (dXfer d) (cancelEngine e 0x24 (putRun e { r with bursts := dropAt r.bursts i } s))
  else
    let r' := { r with bursts := dropAt r.bursts i, status := if x.bad then worse r.status 0x24 else r.status }
    let r' := match x with
      | .words ws => ingestWords r' b ws
      | .bytes l => ingestSecond r' b fun k => nth (0, false) l k
    if dKind d = 0 then
      let lo := flitOfStored r.bitmap d b.offset
      let hi := flitOfStored r.bitmap d (b.offset + b.len - 1) + 1
      putRun e (readied s r (markBurst s b (stageNew s r r' lo (hi + 1 - lo)))) s
    else putRun e (readied s r r') s

/-- A burst that bulk memory serves. -/
def bulkData (s : State) (b : Burst) (a : Nat) : BurstData :=
  if b.second then .bytes ((List.range b.len).map fun k => (mget s.bulk (a + k), bulkBad s (a + k)))
  else .words (bulkWords s a b.len)

/-- A burst that a line gives. -/
def lineData (ws : List PWord) (b : Burst) (a : Nat) : BurstData :=
  let bs := ((wordsBytes (ws.map fun w => w.data)).drop (a % 256)).take b.len
  if b.second then
    .bytes ((List.range b.len).map fun k => (nth 0 bs k, (nth ⟨0, false⟩ ws ((a % 256 + k) / 8)).poison))
  else .words ((List.range ((b.len + 7) / 8)).map fun j =>
    ⟨bytes64 ((bs.drop (8 * j)).take 8), (nth ⟨0, false⟩ ws (a % 256 / 8 + j)).poison⟩)

/-- The pieces of a line that have come hold the `n` bytes at `a` (R277). -/
def piecesHold (w : WantedLine) (a n : Nat) : Bool :=
  (List.range' (a / 64) ((a + n - 1) / 64 + 1 - a / 64)).all fun q => decide ((q + 4 - w.first.val) % 4 < w.pieces.length)

/-- A far burst's data: from its cached line, or from the pieces of a line on its way once they hold its last byte
(R277); a line that has left since, or that a launch start has come before, is asked for again (R276, R280). A burst of
a region that has no VF is refused (R262; DEDUCED, log 194). -/
def farData (e : EngineId) (r : StreamRun) (i : Nat) (b : Burst) (s : State) : State :=
  let a := burstAddr r.cmd.desc b
  match farFn s r.cmd.region with
  | none => refuseFar e s
  | some fn =>
    let sp := spillOf s fn.link
    let line := BitVec.ofNat 36 (a / 256)
    match lineAt sp r.cmd.region line with
    | some l => burstData e r i b (lineData l.words b a) (setSpill s fn.link (touchLine r.cmd.region l.line sp))
    | none => match sp.wanted.find? fun w => isWanted r.cmd.region line w && !w.void with
      | none => askFar e r.cmd.region a false s
      | some w =>
        if noWays sp ∨ !piecesHold w a b.len then s
        else burstData e r i b (lineData (arrivedWords sp w w.pieces) b a) s

/-- A burst of a cancelled stream completes: what it brings goes nowhere, and with the last one the stream's
staging is released (R273). -/
def dyingBurst (e : EngineId) (i : Nat) : List StreamRun → List StreamRun
  | [] => []
  | r :: t =>
    if i < r.bursts.length then
      if r.bursts.length = 1 then t else { r with bursts := dropAt r.bursts i } :: t
    else r :: dyingBurst e (i - r.bursts.length) t

/-- The outstanding bursts of an engine's cancelled streams. -/
def dyingBursts (x : Engine) : List (StreamRun × Burst) := x.dying.flatMap fun r => r.bursts.map fun b => (r, b)

/-- Where burst `i` stands among the outstanding bursts of runs in order: its run, and its number there. -/
def burstAt : List StreamRun → Nat → Option (Nat × Nat)
  | [], _ => none
  | r :: t, i => if i < r.bursts.length then some (0, i) else (burstAt t (i - r.bursts.length)).map fun x => (x.1 + 1, x.2)

/-- The outstanding burst `i` of an engine's active runs, handed to `f` with its run in front. -/
def onBurst (e : EngineId) (i : Nat) (f : StreamRun → Nat → Burst → State → State) (s : State) : State :=
  match burstAt (activeRuns (engineOf s e)) i with
  | none => s
  | some (j, k) => focused e j (onRun e fun r s => match r.bursts[k]? with
      | some b => f r k b s
      | none => s) s

/-- A far burst of a cancelled stream is done once its line is no longer on its way. -/
def farDone (s : State) (r : StreamRun) (b : Burst) : Bool :=
  match farFn s r.cmd.region with
  | some fn => !onItsWay (spillOf s fn.link) r.cmd.region (BitVec.ofNat 36 (burstAddr r.cmd.desc b / 256))
  | none => true

/-- `BURST_COMPLETE` (R243, R264): the data of outstanding burst `i` of the engine, those of cancelled streams
first; `ecc` is what the code finds in its 64-byte sectors (R241). A far burst completes once its last byte has come. -/
def execBurstComplete (e : EngineId) (i : Nat) (corrected bad : List Nat) (s : State) : Host.Outcome State Fault Refusal :=
  let x := engineOf s e
  let dead := dyingBursts x
  let found := fun (a n : Nat) (s : State) => eccRead a n ⟨corrected, bad⟩ s
  .next (match dead[i]? with
    | some (r, b) =>
      let far := burstFar r.cmd.desc b
      if far ∧ !farDone s r b then s
      else
        let s := setEngine s e { x with dying := dyingBurst e i x.dying }
        if far then s else found (burstAddr r.cmd.desc b) b.len s
    | none => onBurst e (i - dead.length) (fun r k b s =>
        let a := burstAddr r.cmd.desc b
        if burstFar r.cmd.desc b then farData e r k b s
        else
          let s := found a b.len s
          burstData e r k b (bulkData s b a) s) s)

/-! ### Decryption (R263, R397, R399) -/

/-- Key-slot contents, or zeros for an empty slot, whose blocks fail. -/
def blockIv (k : KeySlot) (b : Nat) : List Byte := natBytes 4 k.ivSalt.toNat ++ natBytes 8 b
def blockAad (k : KeySlot) (b : Nat) : List Byte := natBytes 8 k.imageId.toNat ++ natBytes 8 b

/-- Address of the tag of block `b` of an image (R397). -/
def tagAddr (k : KeySlot) (b : Nat) : Nat := k.tagBase.toNat + 16 * b

/-- The plaintext of block `b` of an image, where its tag checks. A tag that is read poisoned does not (log 200). -/
def openBlock (s : State) (k : KeySlot) (b : Nat) (ct : List Byte) : Option (List Byte) :=
  if bulkBad s (tagAddr k b) then none
  else gcmOpen (natBytes 32 k.key.toNat) (blockIv k b) (blockAad k b) ct (bulkRead s (tagAddr k b) 16)

/-- The read of a tag for E-die `e`, as it waits (R245, R397). -/
def tagReady (s : State) (rank : Nat) (r : RegionId) (e : Nat) (k : KeySlot) (b : Nat) : Ready :=
  rangeReady s rank r e (tagAddr k b) 16

/-- The tag has been read: it counts for its region, and what the code finds in it is noted (R241, R245). -/
def readTag (c : Ready) (k : KeySlot) (b : Nat) (ecc : SectorEcc) (s : State) : State :=
  serve c (eccRead (tagAddr k b) 16 ecc s)

/-- Stored bytes of the next decryption block of a run, as offset and count. -/
def nextBlock (r : StreamRun) : Nat × Nat := (4096 * r.released, min 4096 (dStored r.bitmap r.cmd.desc - 4096 * r.released))

/-- The stored words of the next decryption block that have come. -/
def blockWords (r : StreamRun) : List PWord :=
  let (o, n) := nextBlock r
  (List.range' (o / 8) ((n + 7) / 8)).filterMap fun w => tfind r.ingest (ingestKey r.cmd.desc false w)

/-- A run decrypts, and its next block has come whole: of a read, or of the range at `ADDR_A` of a compare. -/
def blockCame (r : StreamRun) : Bool :=
  let (_, n) := nextBlock r
  decide (dKind r.cmd.desc = 0 ∨ dKind r.cmd.desc = 3) && dDecrypt r.cmd.desc && decide (n ≠ 0)
    && decide ((blockWords r).length = (n + 7) / 8)

/-- The slot of a run's key, and the index of its next block in the image. -/
def blockKey (s : State) (r : StreamRun) : Option KeySlot × Nat :=
  match tfind (regOf s r.cmd.region).keys (dKeySlot r.cmd.desc) with
  | some k => (some k, (dAddrA r.cmd.desc - k.imageBase.toNat) / 4096 + r.released)
  | none => (none, r.released)

/-- The next block of a decrypting stream is checked. -/
def checkBlock (e : EngineId) (r : StreamRun) (s : State) : State :=
  let d := r.cmd.desc
  let (o, n) := nextBlock r
  let ws := List.range' (o / 8) ((n + 7) / 8)
  let got := blockWords r
  let (k, b) := blockKey s r
  let ct := (wordsBytes (got.map fun w => w.data)).take n
  match k.bind fun k => openBlock s k b ct with
  | none => streamE5 r.cmd.hart 0x0E (dXfer d + 2 ^ 16 * b) (cancelEngine e 0x0E s)
  | some bs =>
    let pw := bytesWords ws.length bs
    let r' := { r with
      released := r.released + 1
      ingest := (List.range ws.length).foldl (fun t j =>
        tset t (ingestKey d false (o / 8 + j)) ⟨nth 0 pw j, (nth ⟨0, false⟩ got j).poison⟩) r.ingest }
    let lo := flitOfStored r.bitmap d o
    let hi := flitOfStored r.bitmap d (o + n - 1) + 1
    putRun e (if dKind d = 0 then stageNew s r r' (lo - 1) (hi + 2 - lo) else r') s

/-- The tag of the next block is read, once its resources take the read, and the block is checked (R245, R397). -/
def tagThenCheck (e : EngineId) (ecc : SectorEcc) (r : StreamRun) (s : State) : State :=
  match blockKey s r with
  | (none, _) => checkBlock e r s
  | (some k, b) =>
    let c := tagReady s e.val r.cmd.region (engineDie e) k b
    if granted s c then checkBlock e r (readTag c k b ecc s) else s

/-- `DECRYPT_BLOCK_CHECK` (R263): the first block of the engine's streams that has come; `ecc` is what the code finds in
its tag (R241). -/
def execDecryptBlockCheck (q : EngineRead) (s : State) : Host.Outcome State Fault Refusal :=
  .next (match (activeRuns (engineOf s q.engine)).findIdx? blockCame with
    | some i => focused q.engine i (onRun q.engine (tagThenCheck q.engine q.ecc)) s
    | none => s)

/-! ### Compare results (R269) -/

/-- Words that differ, as offsets; a poisoned word differs. -/
def mismatches (r : StreamRun) : List Nat :=
  let d := r.cmd.desc
  (List.range (dLength d / 8)).filter fun w =>
    let a := tget ⟨0, false⟩ r.ingest (2 * w)
    let b := if dBconst d then ⟨dWord d 3, false⟩ else tget ⟨0, false⟩ r.ingest (2 * w + 1)
    a.poison || b.poison || decide (a.data ≠ b.data)

/-- The 16-byte result at `LADDR2` of the submitting core; none passes an isolation gate (R417). -/
def compareResult (r : StreamRun) (s : State) : State :=
  let l := mismatches r
  let first := match l with | w :: _ => 8 * w | [] => 2 ^ 64 - 1
  deliver r.cmd.hart.core (fun s => modCore s r.cmd.hart.core fun c =>
    memPut c (dLaddr2 r.cmd.desc) (natBytes 8 (min l.length (2 ^ 64 - 1)) ++ natBytes 8 first) false false) s

/-! ### Completion (R274, R275) -/

/-- Everything a stream does before its completion has been done. -/
def streamFinished (r : StreamRun) : Bool :=
  let d := r.cmd.desc
  match dKind d with
  | 0 => decide (r.staged = allFlits r.bitmap d) && r.bursts.isEmpty
  | 1 => r.overflowed || decide (r.written = dLength d)
  | 2 => decide (r.written = dLength d)
  | 3 => decide (r.issued = burstTotal r) && r.bursts.isEmpty && released r 0 (dLength d)
  | _ => false

/-- The running descriptor completes: its record, and what it leaves behind. -/
def finishRun (e : EngineId) (r : StreamRun) (s : State) : State :=
  let d := r.cmd.desc
  let x := engineOf s e
  let s := if dKind d = 3 then compareResult r s else s
  let drain := decide (dKind d = 0) && r.queue.any fun q => decide (q.2 ≠ [])
  let arrive := decide (dKind d = 1) && decide (dArrive d ≠ 0) && !r.overflowed
  let s := setEngine s e { x with
    run := x.ahead.head?
    ahead := x.ahead.drop 1
    draining := if drain then x.draining ++ [r] else x.draining
    arrivals := if arrive then
        x.arrivals ++ [(BitVec.ofNat 11 (dCell d), BitVec.ofNat 2 (dArrive d), BitVec.ofNat 10 (dArriveIx d))]
      else x.arrivals }
  deliverRecord e r.cmd.hart (streamRec (dXfer d) r.status r.poisoned) s

/-- `STREAM_COMPLETE` (R274). -/
def execStreamComplete (e : EngineId) (s : State) : Host.Outcome State Fault Refusal :=
  .next (match runOf s e with
    | some r => if streamFinished r then finishRun e r s else s
    | none => s)

/-- The marker's counter has reached its target (R266). -/
def markerReached (s : State) (d : Desc) : Bool :=
  match ctrIn (cellEntry s (dMarkCell d)) (dMarkCtr d) with
  | some (die, n) => reached (ctrAt s die n) (dMarkTarget d)
  | none => false

/-- `DEPENDENCE_MARKER_RELEASE` (R266): the marker at the head completes when its wait ends. -/
def execDependenceMarkerRelease (e : EngineId) (s : State) : Host.Outcome State Fault Refusal :=
  .next (match runOf s e with
    | some r => if dKind r.cmd.desc = 4 ∧ markerReached s r.cmd.desc then finishRun e r s else s
    | none => s)

/-- `STREAM_ARRIVAL_SIGNAL` (R275): a finished write stream signals its flag or counter. -/
def execStreamArrivalSignal (e : EngineId) (s : State) : Host.Outcome State Fault Refusal :=
  .next (match (engineOf s e).arrivals with
    | [] => s
    | (cell, kind, ix) :: rest =>
      let s := setEngine s e { engineOf s e with arrivals := rest }
      let ent := cellEntry s cell.toNat
      match if kind = 1 then flagIn ent ix.toNat else ctrIn ent ix.toNat with
      | some (die, n) => sendUpd ⟨.engine e, die, if kind = 1 then .set n else .add n 1⟩ s
      | none => s)

/-! ### Fills of the spill caches -/

/-- The outstanding far bursts of a region in a line: each as its engine and its number among those of the engine's
active runs. -/
def waitingBursts (s : State) (r : RegionId) (line : BitVec 36) : List (EngineId × Nat) :=
  s.engines.flatMap fun e =>
    ((activeRuns e.2).flatMap fun x => x.bursts.map fun b =>
      decide (x.cmd.region = r) && burstFar x.cmd.desc b && decide (burstAddr x.cmd.desc b / 256 = line.toNat)).zipIdx.filterMap
      fun m => if m.1 then some (Fin.ofNat 256 e.1, m.2) else none

/-- The first 64 bytes of a line to come, and each that follows, complete the flits of the read bursts that wait
for them (R277). A marked line is left to its completion. -/
def servePiece (link : LinkId) (w : WantedLine) (k : Nat) (data : List (BitVec 64)) (s : State) (x : EngineId × Nat) : State :=
  onBurst x.1 x.2 (fun r _ b s =>
    let d := r.cmd.desc
    let a := burstAddr d b
    let lo := max a (256 * w.line.toNat + 64 * k)
    let hi := min (a + b.len) (256 * w.line.toNat + 64 * k + 64)
    if dKind d ≠ 0 ∨ hi ≤ lo ∨ (spillOf s link).lost.contains (w.region, w.line) then s
    else
      let part : Burst := ⟨b.offset + (lo - a), hi - lo, false⟩
      let r' := ingestWords r part ((List.range ((hi - lo + 7) / 8)).map fun j => ⟨nth 0 data (lo % 64 / 8 + j), false⟩)
      let f := flitOfStored r.bitmap d part.offset
      let g := flitOfStored r.bitmap d (part.offset + part.len - 1) + 1
      putRun x.1 (stageNew s r r' f (g + 1 - f)) s) s

/-- A piece of a line that is not yet whole is kept, and serves who waits: with no way enabled only the burst that
asked for it, and nobody once a launch start has come between (R280). -/
def takePiece (link : LinkId) (w : WantedLine) (data : List (BitVec 64)) (s : State) : State :=
  let sp := spillOf s link
  let k := (w.first.val + w.pieces.length) % 4
  let w' := { w with pieces := w.pieces ++ [data] }
  let s := setSpill s link { sp with wanted := (sp.wanted.takeWhile fun u => !isWanted w.region w.line u) ++ w' ::
    ((sp.wanted.dropWhile fun u => !isWanted w.region w.line u).drop 1) }
  let waits := waitingBursts s w.region w.line
  (if w.void then [] else if noWays sp then waits.take 1 else waits).foldl (servePiece link w k data) s

/-- With no way enabled, a line read from the host completes the burst that has waited for it longest (R278). -/
def passUncached (w : WantedLine) (ws : List PWord) (s : State) : State :=
  match waitingBursts s w.region w.line with
  | [] => s
  | (e, i) :: _ => onBurst e i (fun x k b s => burstData e x k b (lineData ws b (burstAddr x.cmd.desc b)) s) s

/-- An invalidation that waited completes once no access that uses its translations is under way (R350). -/
def lineInFlight (s : State) (fn : FnId) (page count : Nat) : Bool :=
  (spillOf s fn.link).wanted.any fun w =>
    let p := (farPage (fnOf s fn) (256 * w.line.toNat)).toNat
    decide (w.fn = fn ∧ page ≤ p ∧ p < page + count)

def endInvalidations (fn : FnId) (s : State) : State :=
  let f := fnOf s fn
  let done := f.invalidations.filter fun x => !lineInFlight s fn x.1.toNat x.2.1
  if done = [] then s
  else { setFn s fn { f with invalidations := f.invalidations.filter fun x => lineInFlight s fn x.1.toNat x.2.1 } with
    hostOut := s.hostOut ++ done.map fun x => .invalidationDone fn x.1 }

/-- The last piece of a line: it is placed, or passes uncached; one asked for before a launch start is not kept (R280). -/
def wholeLine (link : LinkId) (w : WantedLine) (data : List (BitVec 64)) (s : State) : State :=
  let ws := arrivedWords (spillOf s link) w (w.pieces ++ [data])
  let s := gotLine link w s
  endInvalidations w.fn
    (if w.void then s else if noWays (spillOf s link) then passUncached w ws s else placeLine link w ws s)

/-- `SPILL_CACHE_MISS_FILL` (R276, R277): the next 64 bytes of a line that host memory returns. -/
def execSpillCacheMissFill (link : LinkId) (region : RegionId) (line : BitVec 36) (data : List (BitVec 64)) (s : State) :
    Host.Outcome State Fault Refusal :=
  .next (match (spillOf s link).wanted.find? (isWanted region line) with
    | none => s
    | some w => if w.pieces.length < 3 then takePiece link w data s else wholeLine link w data s)

/-- A dirty line that cannot be read is lost (R278). -/
def loseLine (link : LinkId) (l : SpillLine) (s : State) : State :=
  let sp := spillOf s link
  logEdie (ehDie link.val) l.way.val (some l.region) 0x24 (BitVec.ofNat 64 (l.line.toNat * 256))
    (markLost link l.region l.line
      (setSpill s link { sp with lines := sp.lines.filter fun x => !isLine l.region l.line x }))

/-- Every line of a way leaves the cache; dirty lines among `unreadable` are lost. -/
def cleanWay (link : LinkId) (way : Nat) (unreadable : List (BitVec 36)) (s : State) : State :=
  ((spillOf s link).lines.filter fun l => decide (l.way.val = way)).foldl (fun s l =>
    if l.dirty ∧ unreadable.contains l.line then loseLine link l s else evict link l s) s

/-- The way has shown an uncorrectable error, or 16 corrected ones within 24 hours (R278). -/
def wayFailed (sp : Spill) (now : Nat) (way : Fin 16) : Bool :=
  let mine := sp.faults.filter fun f => decide (f.1 = way)
  mine.any (fun f => f.2.isNone) || decide (16 ≤ mine.countP fun f => match f.2 with
    | some n => decide (now < n + 86400 * 1200000000)
    | none => false)

/-- `SPILL_WAY_DISABLE` (R278): the way disables itself; lines that it cannot read are an uncorrectable error. -/
def execSpillWayDisable (link : LinkId) (way : Fin 16) (unreadable : List (BitVec 36)) (s : State) :
    Host.Outcome State Fault Refusal :=
  .next (if unreadable = [] ∧ !wayFailed (spillOf s link) s.clock.now way then s
    else
      let s := cleanWay link way.val unreadable s
      let s := count s (ctrEdie (ehDie link.val) 8) unreadable.length
      setSpill s link { spillOf s link with disabled := (spillOf s link).disabled ||| BitVec.ofNat 16 (2 ^ way.val) })

end Sys2Proof.Machine
end

