-- ==== Sys2Proof/Machine/System.lean ====
section
/-!
DEFINITION. `NOP`, `FENCE`, `TRAP`, `RETT`, `HOLD` and reserved encodings (R97, R106, R113, R114, R142,
R144).
-/
namespace Sys2Proof.Machine
open Sys2Proof

/-! ### Shared operations -/

/-- A transfer of the thread is queued or still sending (R106, R249). -/
def moverBusy (c : Core) (th : Fin 4) : Bool :=
  c.moverQ.any (fun j => decide (j.thread = th)) ||
    match c.moving with
    | some (t, q, mid, _, _) =>
      decide (t = th) && (tget ⟨[], []⟩ c.inj q.val).plans.any (fun f => decide (f.mid = mid))
    | none => false

/-- Every part of a `FENCE` scope holds (R106). A `SEND` keeps its thread waiting until its last flit
has left (R70), so scope S holds whenever the thread issues. -/
def fenceHolds (c : Core) (th : Fin 4) (scope : Fin 8) : Bool :=
  (!decide (scope.val % 2 = 1) || !c.stores.any (fun e => decide (e.thread = th)))
  && (scope.val < 4 || !moverBusy c th)

/-- A `FENCE` completes, or its thread waits (R106). -/
def fenceStep (h : Hart) (scope : Fin 8) (s : State) : State :=
  if fenceHolds (coreOf s h.core) h.thread scope then modTh s h (advPc 4)
  else setRun h (.waiting (.fence scope)) s

/-- The return from a handler (R142). -/
def rett (t : Thread) : Thread :=
  { t with hold := none, mode := bit t.retPc 16, pc := (t.retPc.setWidth 16).setWidth 17 }

/-- `HOLD` in supervisor mode (R144). -/
def holdInstr (now n : Nat) (t : Thread) : Thread :=
  match t.hold with
  | none => openHold now n false t
  | some x =>
    if x.entry then openHold now n false t
    else { t with hold := some ⟨min x.deadline (now + n), false, decide (n = 1) || x.one⟩ }

/-! ### Meanings -/

/-- `NOP` (R102). -/
def execNop (h : Hart) (p : Fin 8) (s : State) : Host.Outcome State Fault Refusal :=
  issue h p 4 (fun _ _ => {}) s

/-- `FENCE` (R106). -/
def execFence (h : Hart) (p : Fin 8) (scope : Fin 8) (s : State) : Host.Outcome State Fault Refusal :=
  issueWith h p 4 (fun _ _ => {}) (fun _ => fenceStep h scope) (fun _ => fenceStep h scope) s

/-- `TRAP` (R114). -/
def execTrap (h : Hart) (p : Fin 8) (n : BitVec 8) (s : State) : Host.Outcome State Fault Refusal :=
  issue h p 4 (fun _ _ => { fault := some ⟨0x09, n.setWidth 64, true⟩, writes := [.other] }) s

/-- `TRAP16` (R101, R114). -/
def execTrap16 (h : Hart) (n : BitVec 7) (s : State) : Host.Outcome State Fault Refusal :=
  issue h 0 2 (fun _ _ => { fault := some ⟨0x09, n.setWidth 64, true⟩, writes := [.other] }) s

/-- `RETT` (R133, R142). -/
def execRett (h : Hart) (s : State) : Host.Outcome State Fault Refusal :=
  issueOwn h 0 4 (fun _ t => { fault := privFault t (encodeInfo (.rett h)) }) (fun s => modTh s h rett) s

/-- `HOLD` (R144). -/
def execHold (h : Hart) (n : BitVec 17) (s : State) : Host.Outcome State Fault Refusal :=
  guardWf (.hold h n) h 4 (issueOwn h 0 4 (fun _ t => { fault := privFault t (encodeInfo (.hold h n)) })
    (fun s => modTh s h fun t => advPc 4 (holdInstr s.clock.now n.toNat t))) s

/-- `RESERVED_ENCODING` (R97, R113): the word `w`, or the halfword in its low bits, traps where it is
reserved; a word that is not is no reserved encoding and nothing comes of naming it one. -/
def execReservedEncoding (h : Hart) (w : BitVec 32) (s : State) : Host.Outcome State Fault Refusal :=
  match decodeWord h w with
  | some _ => .next s
  | none =>
    if bit w 0 then issueReserved h 4 (w.setWidth 64) s
    else issueReserved h 2 (BitVec.ofNat 64 (fld w 0 16 + 2 ^ 32)) s

end Sys2Proof.Machine
end

