-- ==== Sys2Proof/Machine/Ports.lean ====
section
/-!
DEFINITION. The I/O space of a core (R94, R115–R118): what a read or write of each port does, `IN`,
`OUT`, `INR`, `OUTR`, `IN16`, `OUT16`, and the commands that name one port.
-/
namespace Sys2Proof.Machine
open Sys2Proof

/-! ### Which ports exist and who may use them -/

/-- Mode column of R115. -/
inductive PortMode | any | supervisor | monitor
  deriving DecidableEq, Repr

/-- The port map (R115). -/
def portMode (p : Nat) : Option PortMode :=
  if p = 0x88 then some .supervisor
  else if p ≤ 0x90 then some .any
  else if 0x1000 ≤ p ∧ p ≤ 0x1030 then some .any
  else if 0x2000 ≤ p ∧ p ≤ 0x2028 then some .any
  else if 0x4000 ≤ p ∧ p < 0x7000 then some .any
  else if p = 0x8000 ∨ p = 0x80A8 then some .supervisor
  else if 0x8008 ≤ p ∧ p ≤ 0x80A0 then some .monitor
  else none

/-- The faulting rows of R94, in order. -/
def portFault (s : State) (h : Hart) (p : Word) : Option Flt :=
  let t := thread s h
  if p.toNat % 8 ≠ 0 then some ⟨0x04, p, false⟩
  else match portMode p.toNat with
    | none => some ⟨0x1C, p, false⟩
    | some m =>
      if (m = .supervisor ∧ !t.mode) ∨ (m = .monitor ∧ !(t.mode && isMonitor s h)) then some ⟨0x0B, p, false⟩
      else if portName p.toNat ≠ .none ∧ (nameAt s h p.toNat).isNone then some ⟨0x1C, p, false⟩
      else none

/-! ### Single ports -/

/-- Lowest pending event with its `WAKE` bit set (R131). -/
def wakeEvent (t : Thread) : Option Nat := (List.range 8).find? fun e => bit t.evPending e && bit t.evEnable e

def clearEvent (e : Nat) (t : Thread) : Thread :=
  { t with evPending := t.evPending &&& ~~~ BitVec.ofNat 8 (2 ^ e) }

/-- A read of `EV_WAIT` (R131). -/
def readEvWait (h : Hart) (s : State) : PortRes :=
  match wakeEvent (thread s h) with
  | some e => .done (BitVec.ofNat 64 e) (modTh s h (clearEvent e))
  | none => .wait

/-- A read of a `NOTICE_LO` port on queue `q` (R291). -/
def readNoticeLo (h : Hart) (q : Nat) (s : State) : PortRes :=
  match readLo (coreOf s h.core) q with
  | some (w, c) => .done w (setCore s h.core c)
  | none => .wait

def readNoticeHi (h : Hart) (q : Nat) (s : State) : PortRes :=
  .done (readHi (coreOf s h.core) q).1 (setCore s h.core (readHi (coreOf s h.core) q).2)

/-- A write of `n` to `TIMER_SET`: E3 after n cycles, 0 cancels (R115, R128). -/
def writeTimer (h : Hart) (n : Word) (s : State) : State :=
  modTh s h fun t => { t with timer := if n = 0 then none else some (s.clock.now + n.toNat), expired := none }

/-- A read of `ERR_CAUSE` clears `LOST` (R138). -/
def readErrCause (h : Hart) (s : State) : PortRes :=
  .done ((thread s h).errCause.setWidth 64) (modTh s h fun t => { t with errCause := t.errCause &&& 0x2FF })

/-- A write to `CTR_TARGET`: an arming write leaves for the bank of its name (R130); that of an isolated core
does not arrive (R417). -/
def writeCtrTarget (h : Hart) (v : Word) (s : State) : PortRes :=
  let s' := modTh s h fun t => { t with ctrTarget := BitVec.ofNat 64 (fld v 0 42 + at_ (fld v 63 1) 63) }
  if bit v 63 then
    match if bit v 41 then flagIn (ownCell s h.core) (fld v 32 9) else ctrIn (ownCell s h.core) (fld v 32 9) with
    | none => .fault ⟨0x1C, BitVec.ofNat 64 (fld v 32 10), false⟩
    | some (d, _) => .done 0 (if (coreOf s h.core).isolated then s' else sendUpd ⟨.thread h, d, .arm h⟩ s')
  else .done 0 s'

/-- `THREAD_INFO` (R115). -/
def threadInfo (s : State) (h : Hart) : Word :=
  let c := coreOf s h.core
  let urgent := bit c.boot.core 2 && decide (fld c.boot.core 0 2 = h.thread.val)
  BitVec.ofNat 64 (h.thread.val + at_ (b2n (thread s h).mode) 2 + at_ (b2n urgent) 3)

/-- The core has an armed budget that its time has passed without `DAY_DONE` (R75). -/
def lateDay (s : State) (c : Core) : Bool :=
  decide (c.budget ≠ 0) && decide (c.budget.toNat ≤ s.clock.cycle) && !c.dayDone

/-- A write to `DAY_DONE` (R75): late at or after D+B. -/
def writeDayDone (core : CoreId) (s : State) : State :=
  modCore s core fun c => { c with overrun := c.overrun || lateDay s c, dayDone := true }

/-- `CELL_SELF` (R115). -/
def cellSelf (s : State) (c : CoreId) : Word :=
  BitVec.ofNat 64 (innermost s c + at_ (cIndexOf (ownCell s c) c) 16)

/-- A write to `MOVER_SUBMIT` (R115, R249). -/
def moverSubmit (h : Hart) (v : Word) (s : State) : PortRes :=
  let c := coreOf s h.core
  if 6 ≤ c.outstanding.length then .wait
  else .done 0 (setCore s h.core { c with
    moverQ := c.moverQ ++ [⟨h.thread, v.toNat, none⟩], outstanding := c.outstanding ++ [h.thread] })

/-- A read of `MOVER_DONE` (R249, R250). -/
def moverDone (h : Hart) (s : State) : PortRes :=
  match (thread s h).moverDone with
  | [] => .wait
  | w :: rest =>
    .done w (modCore (modTh s h fun t => { t with moverDone := rest }) h.core fun c =>
      { c with outstanding := c.outstanding.erase h.thread })

/-- A read of `FLAG[n]` or `CTR[n]` sees the thread's own earlier updates (R305). Nothing answers an isolated core: the
read stalls (R417; log 131). -/
def readName (h : Hart) (p : Nat) (s : State) : PortRes :=
  match nameAt s h p with
  | none => .fault ⟨0x1C, BitVec.ofNat 64 p, false⟩
  | some (d, n) =>
    if (coreOf s h.core).isolated then .stall
    else match portName p with
    | .flag _ =>
      if clearing s d n then .stall
      else let s := deliverOwn h d s; .done (BitVec.ofNat 64 (b2n (flagAt s d n))) s
    | _ => let s := deliverOwn h d s; .done ((ctrAt s d n).setWidth 64) s

/-- A read of `FLAG_WAIT[n]` or `CTR_WAIT[n]` (R115, R117); at an isolated core it only waits (R417). -/
def waitName (h : Hart) (p : Nat) (s : State) : PortRes :=
  match nameAt s h p with
  | none => .fault ⟨0x1C, BitVec.ofNat 64 p, false⟩
  | some (d, n) =>
    if (coreOf s h.core).isolated then .wait
    else if (match portName p with | .flag _ => clearing s d n | _ => false) then .stall
    else match waitValue s h p d n with
      | some v => .done v s
      | none => .wait

/-- A write to `FLAG[n]` or `CTR[n]`; an isolated core sends nothing (R417). -/
def writeName (h : Hart) (p : Nat) (v : Word) (s : State) : PortRes :=
  match nameAt s h p with
  | none => .fault ⟨0x1C, BitVec.ofNat 64 p, false⟩
  | some (d, n) =>
    let kind := match portName p with
      | .flag _ => if bit v 0 then UpdKind.set n else .clear n
      | _ => .add n (v.setWidth 32)
    if (match portName p with | .flag _ => clearing s d n | _ => false) then .stall
    else if (coreOf s h.core).isolated then .done 0 s
    else .done 0 (sendUpd ⟨.thread h, d, kind⟩ s)

/-! Region-monitor ports -/

/-- A monitor's create request (R38, R115). -/
def monCreate (r : RegionId) (v : Word) (s : State) : State :=
  let x := regOf s r
  let entry := BitVec.ofNat 128 (x.cellReqLo.toNat + x.cellReqHi.toNat * 2 ^ 64)
  let a := cellCreate (some r) entry (if bit v 11 then none else some (BitVec.ofNat 11 (fld v 0 11))) s
  modReg a.2.2 r fun x => { x with cellStatus := statusWord a.1 a.2.1 }

/-- A monitor's delete request (R39, R115). -/
def monDelete (r : RegionId) (v : Word) (s : State) : State :=
  let a := cellDelete (some r) (fld v 0 11) s
  modReg a.2.2 r fun x => { x with cellStatus := statusWord a.1 a.2.1 }

/-- The selected entry, where it is the region's own (R115, R118). -/
def selected (s : State) (r : RegionId) : BitVec 128 :=
  let i := (regOf s r).cellReadSel.toNat
  let e := cellEntry s i
  if i ≠ 0 ∧ cValid e ∧ cRegion e = r.val then e else 0

/-- `REGION_RESUME` (R79): a request of a stopped region. -/
def resumeRegion (r : RegionId) (s : State) : State :=
  modReg s r fun x => { x with resumeReq := x.resumeReq || x.stopped }

/-- A write of 64 mask bits to `CONFIRM_n` (R220). -/
def writeConfirm (r : RegionId) (n : Nat) (v : Word) (s : State) : State :=
  modReg s r fun x =>
    { x with confirm := BitVec.ofNat 256 (x.confirm.toNat - fld x.confirm (64 * n) 64 * 2 ^ (64 * n) + v.toNat * 2 ^ (64 * n)) }

/-- A read of one of the region monitor's ports. -/
def monRead (r : RegionId) (h : Hart) (p : Nat) (s : State) : PortRes :=
  let x := regOf s r
  match p with
  | 0x8008 => readNoticeLo h 4 s
  | 0x8010 => readNoticeHi h 4 s
  | 0x8018 => .done (x.monError.setWidth 64) s
  | 0x8040 => .done x.cellStatus s
  | 0x8050 => .done ((selected s r).setWidth 64) s
  | 0x8058 => .done (BitVec.ofNat 64 ((selected s r).toNat / 2 ^ 64)) s
  | 0x8068 =>
    if x.loadNext.isSome || (match x.load with | some l => l.running | none => false) then .wait
    else .done (x.routeStatus.setWidth 64) s
  | _ => .done 0 s

/-- A write of one of the region monitor's ports; no service request passes an isolation gate (R417). -/
def monWrite (r : RegionId) (p : Nat) (v : Word) (s : State) : PortRes :=
  if (coreOf s (frontOf s r)).isolated ∧ p ≠ 0x8020 ∧ p ≠ 0x8028 ∧ p ≠ 0x8048 then .done 0 s
  else match p with
  | 0x8020 => .done 0 (modReg s r fun x => { x with cellReqLo := v })
  | 0x8028 => .done 0 (modReg s r fun x => { x with cellReqHi := v })
  | 0x8030 => .done 0 (monCreate r v s)
  | 0x8038 => .done 0 (monDelete r v s)
  | 0x8048 => .done 0 (modReg s r fun x => { x with cellReadSel := BitVec.ofNat 11 (fld v 0 11) })
  | 0x8060 => .done 0 (startLoad r (BitVec.ofNat 40 (fld v 0 40)) s)
  | 0x8070 => .done 0 (resumeRegion r s)
  | 0x8078 => .done 0 (modReg s r fun x => { x with variantNext := BitVec.ofNat 4 (fld v 0 4) })
  | 0x8080 => .done 0 (writeConfirm r 0 v s)
  | 0x8088 => .done 0 (writeConfirm r 1 v s)
  | 0x8090 => .done 0 (writeConfirm r 2 v s)
  | 0x8098 => .done 0 (writeConfirm r 3 v s)
  | 0x80A0 => .done 0 (hostNotify r v s)
  | _ => .done 0 s

/-! ### Every port -/

/-- A read of the thread block. -/
def readThreadBlock (h : Hart) (p : Nat) (s : State) : PortRes :=
  let t := thread s h
  match p with
  | 0x00 => readEvWait h s
  | 0x08 => .done (t.evEnable.setWidth 64) s
  | 0x10 => .done (t.evPending.setWidth 64) s
  | 0x18 => readNoticeLo h h.thread.val s
  | 0x20 => readNoticeHi h h.thread.val s
  | 0x38 => match t.expired with | some n => .done (n.setWidth 64) s | none => .wait
  | 0x40 => .done (t.fpCtrl.setWidth 64) s
  | 0x48 => .done (t.fpFlags.setWidth 64) s
  | 0x58 => .done (BitVec.ofNat 64 (b2n t.t2Policy)) s
  | 0x60 => readErrCause h s
  | 0x68 => .done (t.errPc.setWidth 64) s
  | 0x70 => .done t.errInfo s
  | 0x78 => .done t.ctrTarget s
  | 0x80 => .done (threadInfo s h) s
  | 0x88 => .done (t.retPc.setWidth 64) s
  | 0x90 => .done t.taskTrap s
  | _ => .done 0 s

/-- A read of the core and transfer blocks. -/
def readCoreBlock (h : Hart) (p : Nat) (s : State) : PortRes :=
  let c := coreOf s h.core
  match p with
  | 0x1000 => .done (BitVec.ofNat 64 (h.core.val + at_ s.deviceId.toNat 16)) s
  | 0x1008 => .done (s.clock.dayCount.setWidth 64) s
  | 0x1010 => .done (BitVec.ofNat 64 s.clock.cycle) s
  | 0x1018 => .done (BitVec.ofNat 64 (dayLen s)) s
  | 0x1020 =>
    if s.clock.cycle < 128 then .wait
    else .done (match regionOf s h.core with | some r => (regOf s r).variant.setWidth 64 | none => 0) s
  | 0x1030 => .done (cellSelf s h.core) s
  | 0x2008 => moverDone h s
  | 0x2010 => .done (BitVec.ofNat 64 c.outstanding.length) s
  | 0x2020 => streamDoneRead h s
  | 0x8000 => .done (c.trapBase.setWidth 64) s
  | 0x80A8 => .done ((tget 0 s.counters (ctrCore h.core.val 4)).setWidth 64) s
  | _ => .done 0 s

/-- A read of a port, as the first matching row of R94 states. -/
def portRead (h : Hart) (p : Word) (s : State) : PortRes :=
  match portFault s h p with
  | some f => .fault f
  | none =>
    let n := p.toNat
    if n < 0x1000 then readThreadBlock h n s
    else if n < 0x4000 ∨ n = 0x8000 ∨ n = 0x80A8 then readCoreBlock h n s
    else if n < 0x5000 ∨ (0x6000 ≤ n ∧ n < 0x6800) then readName h n s
    else if n < 0x8000 then waitName h n s
    else match regionOf s h.core with
      | some r => monRead r h n s
      | none => .done 0 s

/-- A write to the thread block. -/
def writeThreadBlock (h : Hart) (p : Nat) (v : Word) (s : State) : PortRes :=
  let set := fun f : Thread → Thread => PortRes.done 0 (modTh s h f)
  match p with
  | 0x08 => set fun t => { t with evEnable := v.setWidth 16 }
  | 0x10 => set fun t => { t with evPending := t.evPending &&& ~~~ v.setWidth 8 }
  | 0x28 => .done 0 (noticeCtrl h (fld v 0 8) s)
  | 0x30 => .done 0 (writeTimer h v s)
  | 0x40 => if 4 < fld v 0 3 then .done 0 s else set fun t => { t with fpCtrl := v.setWidth 8 }
  | 0x48 => set fun t => { t with fpFlags := t.fpFlags &&& ~~~ v.setWidth 5 }
  | 0x50 => set fun t => { t with sr := srSeedOf v }
  | 0x58 => set fun t => { t with t2Policy := bit v 0 }
  | 0x78 => writeCtrTarget h v s
  | 0x88 => if bit v 0 then .done 0 s else set fun t => { t with retPc := v.setWidth 17 }
  | 0x90 => set fun t => { t with taskTrap := v }
  | _ => .done 0 s

/-- A write to the core and transfer blocks; an isolated core submits nothing (R417). -/
def writeCoreBlock (h : Hart) (p : Nat) (v : Word) (s : State) : PortRes :=
  let cut := (coreOf s h.core).isolated
  match p with
  | 0x1028 => .done 0 (writeDayDone h.core s)
  | 0x2000 => if cut then .done 0 s else moverSubmit h v s
  | 0x2018 => if cut then .done 0 s else streamSubmit h v s
  | 0x2028 => .done 0 (if cut then s else match regionOf s h.core with | some r => cancelXfer r (fld v 0 16) s | none => s)
  | 0x8000 => .done 0 (modCore s h.core fun c => { c with trapBase := BitVec.ofNat 20 (at_ (fld v 6 14) 6) })
  | _ => .done 0 s

/-- A write of `v` to a port, as the first matching row of R94 states. -/
def portWrite (h : Hart) (p : Word) (v : Word) (s : State) : PortRes :=
  match portFault s h p with
  | some f => .fault f
  | none =>
    let n := p.toNat
    if n < 0x1000 then writeThreadBlock h n v s
    else if n < 0x4000 ∨ n = 0x8000 ∨ n = 0x80A8 then writeCoreBlock h n v s
    else if n < 0x5000 ∨ (0x6000 ≤ n ∧ n < 0x6800) then writeName h n v s
    else if n < 0x8000 then .done 0 s
    else match regionOf s h.core with
      | some r => monWrite r n v s
      | none => .done 0 s

/-! ### The instructions -/

/-- What an access is as an instruction: never speculative (R225), it faults, stalls, or goes on. -/
def portAct (r : PortRes) : Act :=
  match r with
  | .fault f => { fault := some f }
  | .stall => { stall := true }
  | _ => {}

/-- A completed read: the value and the PC. -/
def readDone (h : Hart) (d : Fin 32) (len : Nat) (v : Word) (s : State) : State :=
  modTh s h fun t => { advPc len t with g := tset t.g d.val v }

/-- A thread waits on a port access (R116), no update having met its condition yet. -/
def waitOn (h : Hart) (w : Wait) (s : State) : State := setRun h (.waiting w) (modTh s h fun t => { t with met := none })

/-- A read instruction of `len` bytes into gD. -/
def inInstr (h : Hart) (p : Fin 8) (len : Nat) (d : Fin 32) (port : Word) (s : State) : Host.Outcome State Fault Refusal :=
  issueOwn h p len (fun _ _ => portAct (portRead h port s)) (fun s =>
    match portRead h port s with
    | .done v s => readDone h d len v s
    | .wait => waitOn h (.portRead (port.setWidth 16) d len) s
    | _ => s) s

/-- Local words that a port write reads as it issues: the descriptor of `STREAM_SUBMIT` (R251, R224). -/
def portWords (s : State) (h : Hart) (port v : Word) : List Nat :=
  if port = 0x2018 ∧ (portFault s h port).isNone ∧ (addrFault v 64).isNone then wordsOf v.toNat 64 else []

/-- A write instruction of `len` bytes with value `v`. -/
def outInstr (h : Hart) (p : Fin 8) (len : Nat) (port v : Word) (s : State) : Host.Outcome State Fault Refusal :=
  issueOwn h p len (fun _ _ => { portAct (portWrite h port v s) with reads := { words := portWords s h port v } }) (fun s =>
    match portWrite h port v s with
    | .done _ s => modTh s h (advPc len)
    | .wait => waitOn h (.portWrite (port.setWidth 16) v len) s
    | _ => s) s

/-- A general register of the issuing thread. -/
def gOf (s : State) (h : Hart) (d : Fin 32) : Word := gReg (thread s h) d

/-- `IN` (R102, R115). -/
def execPortIn (h : Hart) (p : Fin 8) (d : Fin 32) (port : BitVec 16) (s : State) : Host.Outcome State Fault Refusal :=
  inInstr h p 4 d (port.setWidth 64) s

/-- `OUT` (R102, R115). -/
def execPortOut (h : Hart) (p : Fin 8) (d : Fin 32) (port : BitVec 16) (s : State) : Host.Outcome State Fault Refusal :=
  outInstr h p 4 (port.setWidth 64) (gOf s h d) s

/-- `INR` (R102). -/
def execInr (h : Hart) (p : Fin 8) (d : Fin 32) (a : Fin 32) (s : State) : Host.Outcome State Fault Refusal :=
  inInstr h p 4 d (gOf s h a) s

/-- `OUTR` (R102). -/
def execOutr (h : Hart) (p : Fin 8) (d : Fin 32) (a : Fin 32) (s : State) : Host.Outcome State Fault Refusal :=
  outInstr h p 4 (gOf s h a) (gOf s h d) s

/-- `IN16` (R101). -/
def execIn16 (h : Hart) (d : Fin 16) (port : BitVec 7) (s : State) : Host.Outcome State Fault Refusal :=
  inInstr h 0 2 (cg d) (BitVec.ofNat 64 (8 * port.toNat)) s

/-- `OUT16` (R101). -/
def execOut16 (h : Hart) (d : Fin 16) (port : BitVec 7) (s : State) : Host.Outcome State Fault Refusal :=
  outInstr h 0 2 (BitVec.ofNat 64 (8 * port.toNat)) (gOf s h (cg d)) s

/-! ### Commands that name one port -/

/-- `EV_WAIT` (R131). -/
def execEvWait (h : Hart) (p : Fin 8) (d : Fin 32) (s : State) : Host.Outcome State Fault Refusal := inInstr h p 4 d 0x0000 s
/-- `NOTICE_LO` (R291). -/
def execNoticeLo (h : Hart) (p : Fin 8) (d : Fin 32) (s : State) : Host.Outcome State Fault Refusal := inInstr h p 4 d 0x0018 s
/-- `NOTICE_HI` (R291). -/
def execNoticeHi (h : Hart) (p : Fin 8) (d : Fin 32) (s : State) : Host.Outcome State Fault Refusal := inInstr h p 4 d 0x0020 s
/-- `MON_NOTICE_LO` (R291). -/
def execMonNoticeLo (h : Hart) (p : Fin 8) (d : Fin 32) (s : State) : Host.Outcome State Fault Refusal := inInstr h p 4 d 0x8008 s
/-- `MON_NOTICE_HI` (R291). -/
def execMonNoticeHi (h : Hart) (p : Fin 8) (d : Fin 32) (s : State) : Host.Outcome State Fault Refusal := inInstr h p 4 d 0x8010 s
/-- `NOTICE_MARK` (R291). -/
def execNoticeMark (h : Hart) (p : Fin 8) (s : State) : Host.Outcome State Fault Refusal := outInstr h p 4 0x0028 1 s
/-- `NOTICE_REWIND` (R291). -/
def execNoticeRewind (h : Hart) (p : Fin 8) (s : State) : Host.Outcome State Fault Refusal := outInstr h p 4 0x0028 2 s
/-- `NOTICE_RELEASE` (R291). -/
def execNoticeRelease (h : Hart) (p : Fin 8) (s : State) : Host.Outcome State Fault Refusal := outInstr h p 4 0x0028 3 s
/-- `TIMER_SET` (R115, R128). -/
def execTimerSet (h : Hart) (p : Fin 8) (d : Fin 32) (s : State) : Host.Outcome State Fault Refusal := outInstr h p 4 0x0030 (gOf s h d) s
/-- `SR_SEED` (R186). -/
def execSrSeed (h : Hart) (p : Fin 8) (d : Fin 32) (s : State) : Host.Outcome State Fault Refusal := outInstr h p 4 0x0050 (gOf s h d) s
/-- `ERR_CAUSE_READ` (R138). -/
def execErrCauseRead (h : Hart) (p : Fin 8) (d : Fin 32) (s : State) : Host.Outcome State Fault Refusal := inInstr h p 4 d 0x0060 s
/-- `CTR_TARGET` (R130). -/
def execCtrTarget (h : Hart) (p : Fin 8) (d : Fin 32) (s : State) : Host.Outcome State Fault Refusal := outInstr h p 4 0x0078 (gOf s h d) s
/-- `DAY_DONE` (R75). -/
def execDayDone (h : Hart) (p : Fin 8) (d : Fin 32) (s : State) : Host.Outcome State Fault Refusal := outInstr h p 4 0x1028 (gOf s h d) s
/-- `MOVER_SUBMIT` (R249). -/
def execMoverSubmit (h : Hart) (p : Fin 8) (d : Fin 32) (s : State) : Host.Outcome State Fault Refusal := outInstr h p 4 0x2000 (gOf s h d) s
/-- `MOVER_DONE` (R250). -/
def execMoverDone (h : Hart) (p : Fin 8) (d : Fin 32) (s : State) : Host.Outcome State Fault Refusal := inInstr h p 4 d 0x2008 s
/-- `STREAM_SUBMIT` (R251–R253). -/
def execStreamSubmit (h : Hart) (p : Fin 8) (d : Fin 32) (s : State) : Host.Outcome State Fault Refusal := outInstr h p 4 0x2018 (gOf s h d) s
/-- `STREAM_DONE` (R253, R274). -/
def execStreamDone (h : Hart) (p : Fin 8) (d : Fin 32) (s : State) : Host.Outcome State Fault Refusal := inInstr h p 4 d 0x2020 s
/-- `STREAM_CANCEL` (R273). -/
def execStreamCancel (h : Hart) (p : Fin 8) (d : Fin 32) (s : State) : Host.Outcome State Fault Refusal := outInstr h p 4 0x2028 (gOf s h d) s
/-- `FLAG_SET` (R305). -/
def execFlagSet (h : Hart) (p : Fin 8) (n : Fin 512) (s : State) : Host.Outcome State Fault Refusal :=
  outInstr h p 4 (BitVec.ofNat 64 (0x4000 + 8 * n.val)) 1 s
/-- `FLAG_CLEAR` (R305). -/
def execFlagClear (h : Hart) (p : Fin 8) (n : Fin 512) (s : State) : Host.Outcome State Fault Refusal :=
  outInstr h p 4 (BitVec.ofNat 64 (0x4000 + 8 * n.val)) 0 s
/-- `CTR_ADD` (R305). -/
def execCtrAdd (h : Hart) (p : Fin 8) (d : Fin 32) (n : Fin 256) (s : State) : Host.Outcome State Fault Refusal :=
  outInstr h p 4 (BitVec.ofNat 64 (0x6000 + 8 * n.val)) (gOf s h d) s
/-- `FLAG_COUNTER_READ` (R305). A counter number above 255 names no `CTR` port but one of `CTR_WAIT` or
none, and is read there. -/
def execFlagCounterRead (h : Hart) (p : Fin 8) (d : Fin 32) (which : FlagOrCtr) (n : Fin 512) (s : State) :
    Host.Outcome State Fault Refusal :=
  inInstr h p 4 d (BitVec.ofNat 64 ((match which with | .flag => 0x4000 | .ctr => 0x6000) + 8 * n.val)) s
/-- `FLAG_WAIT` (R115, R117). -/
def execFlagWait (h : Hart) (p : Fin 8) (d : Fin 32) (n : Fin 512) (s : State) : Host.Outcome State Fault Refusal :=
  inInstr h p 4 d (BitVec.ofNat 64 (0x5000 + 8 * n.val)) s
/-- `CTR_WAIT` (R117). -/
def execCtrWait (h : Hart) (p : Fin 8) (d : Fin 32) (n : Fin 256) (s : State) : Host.Outcome State Fault Refusal :=
  inInstr h p 4 d (BitVec.ofNat 64 (0x6800 + 8 * n.val)) s
/-- `CELL_STATUS` (R41, R115). -/
def execCellStatus (h : Hart) (p : Fin 8) (d : Fin 32) (s : State) : Host.Outcome State Fault Refusal := inInstr h p 4 d 0x8040 s
/-- `REGION_RESUME` (R79). -/
def execRegionResume (h : Hart) (p : Fin 8) (d : Fin 32) (s : State) : Host.Outcome State Fault Refusal := outInstr h p 4 0x8070 (gOf s h d) s
/-- `HOST_NOTIFICATION` (R337, R338): a write to `HOST_NOTIFY`. -/
def execHostNotification (h : Hart) (p : Fin 8) (d : Fin 32) (s : State) : Host.Outcome State Fault Refusal := outInstr h p 4 0x80A0 (gOf s h d) s
/-- `LAUNCH_COMPLETION` (R337, R338): a write to `HOST_NOTIFY`. -/
def execLaunchCompletion (h : Hart) (p : Fin 8) (d : Fin 32) (s : State) : Host.Outcome State Fault Refusal := outInstr h p 4 0x80A0 (gOf s h d) s

end Sys2Proof.Machine
end

