-- ==== Sys2Proof/Machine/Threads.lean ====
section
/-!
DEFINITION. Thread starts (R119–R123, R79), handler entry (R132, R140–R143), events, holds, timers and
waits (R116, R126–R145), the store buffer (R147), flag-bank cycles (R305, R306), and a queue whose
pointer copies differ (R295).
-/
namespace Sys2Proof.Machine
open Sys2Proof

/-! ### Starting threads -/

def bootWord (b : BootBlock) (i : Fin 4) : Word :=
  match i.val with | 0 => b.t0 | 1 => b.t1 | 2 => b.t2 | _ => b.t3
/-- The boot block starts the thread in supervisor mode (R120). -/
def bootMode (c : Core) (i : Fin 4) : Bool := bit (bootWord c.boot i) 16
def bootEntry (c : Core) (i : Fin 4) : BitVec 17 := ((bootWord c.boot i).setWidth 16).setWidth 17

/-- A thread start (R88, R123): ports at their values, registers undefined until written (their free
values are those of this start's number), tiles not in use. Unread completion records stay. -/
def started (epoch : Nat) (entry : BitVec 17) (mode : Bool) (t : Thread) : Thread :=
  { Thread.reset with
    epoch := epoch
    pc := entry
    mode := mode
    run := .ready
    moverDone := t.moverDone
    streamDone := t.streamDone
    lastStream := t.lastStream
    debugHalt := t.debugHalt
    breakpoints := t.breakpoints
    watchpoints := t.watchpoints }

/-- A started thread has read no `NOTICE_LO` (R291). -/
def unreadNotices (i : Fin 4) (c : Core) : Core :=
  { c with notices := tmap (fun q x => if q = i.val ∨ (q = 4 ∧ i = 0) then { x with hi := none } else x) c.notices }

/-- Start thread `i` of a core at its boot-block entry (R122, R79). -/
def startThread (core : CoreId) (i : Fin 4) (s : State) : State :=
  let n := s.nextEpoch + 1
  modCore { s with nextEpoch := n } core fun c =>
    setTh (dropRows i (unreadNotices i c)) i (started n (bootEntry c i) (bootMode c i) (thOf c i))

/-- At the release of a region's monitor core the monitor has made no request yet (R115). -/
def firstStatus (core : CoreId) (s : State) : State :=
  match regionOf s core with
  | some r => if frontOf s r = core then modReg s r fun x => { x with cellStatus := 0 } else s
  | none => s

/-- A core is released (R122, R123, R300): supervisor threads start, task threads are held. -/
def releaseCore (core : CoreId) (s : State) : State :=
  let s := modCore s core fun c => { c with released := true, trapBase := 0xFFFC0, rot := 0, holdCtr := [], portHold := [] }
  let s := firstStatus core s
  [0, 1, 2, 3].foldl (fun s i =>
    if bootMode (coreOf s core) i then startThread core i s
    else modCore s core fun c => setTh c i { thOf c i with run := .held }) s

/-- A task thread by its boot block (R78). -/
def isTask (c : Core) (i : Fin 4) : Bool := c.released && !bootMode c i

/-- Every task thread of a core starts (R79, R122); a halted one restarts with them (R146). -/
def startTasks (core : CoreId) (s : State) : State :=
  [0, 1, 2, 3].foldl (fun s i => if isTask (coreOf s core) i then startThread core i s else s) s

/-! ### The store buffer -/

/-- `STORE_BUFFER_RETIRE` (R147). -/
def execStoreBufferRetire (core : CoreId) (s : State) : Host.Outcome State Fault Refusal :=
  .next (if (coreOf s core).stores = [] then s else modCore s core retireOne)

/-! ### Handler entry -/

/-- The entry of R142, decided before: the table entry is read behind the drained buffer. -/
def enterHandler (h : Hart) (vec : BitVec 7) (restart : BitVec 17) (s : State) : State :=
  let s := modCore s h.core drainAll
  let c := coreOf s h.core
  let addr := c.trapBase.toNat + 8 * vec.toNat
  let ent := bytes64 (mread c.mem addr 8)
  if localTop ≤ addr + 7 then haltThread h vec s
  else if c.poison.contains (addr / 8) ∨ !bit ent 16 ∨ bit ent 0 then haltThread h vec s
  else modTh s h fun t =>
    openHold s.clock.now 32 true
      { t with retPc := BitVec.ofNat 17 (restart.toNat % 2 ^ 16 + at_ (b2n t.mode) 16)
               mode := true
               pc := (ent.setWidth 16).setWidth 17
               run := .ready }

/-- `HANDLER_ENTRY` (R142, R143). -/
def execHandlerEntry (h : Hart) (s : State) : Host.Outcome State Fault Refusal :=
  .next (match (thread s h).run with
    | .entering vec restart => enterHandler h vec restart (newSlot h.core s)
    | _ => s)

/-! ### Events -/

/-- The thread stands at an instruction boundary or at an interruption point (R132, R136). -/
def interruptible (s : State) (h : Hart) : Bool :=
  match (thread s h).run with
  | .ready => true
  | .waiting (.portRead 0 _ _) => (wakeEvent (thread s h)).isNone
  | .waiting (.portRead _ _ _) | .waiting (.portWrite _ _ _) | .waiting (.fence _) | .waiting .resolution => true
  | .waiting (.send q mid) => notStarted (coreOf s h.core) q.val mid
  | _ => false

/-- An interrupted `SEND` has sent nothing: its message leaves its queue's waiting list (R136). -/
def withdrawSend (h : Hart) (s : State) : State :=
  match (thread s h).run with
  | .waiting (.send q mid) => modCore s h.core fun c =>
      let x := injOf c q.val
      setInj c q.val { x with plans := x.plans.filter fun p => decide (p.mid ≠ mid) }
  | _ => s

/-- `EVENT_TAKEN` (R132): a deferred fault goes before an event (R231). -/
def execEventTaken (h : Hart) (s : State) : Host.Outcome State Fault Refusal :=
  let t := thread s h
  .next (if t.debugHalt || t.deferredFault.isSome || !interruptible s h || (takeable t).isEmpty then s
    else takeEvent h t.pc (withdrawSend h s))

/-- A hold's count reaches zero (R144, R145). -/
def expireHold (h : Hart) (x : Hold) (s : State) : State :=
  let s := toNow x.deadline s
  let pc := (thread s h).pc
  let s := modTh s h fun t => { t with hold := none }
  if x.entry || x.one then s
  else logCore h.core h.thread 0x08 (BitVec.ofNat 64 (pc.toNat % 2 ^ 16)) (count s (ctrCore h.core.val 4) 1)

/-- `HOLD_EXPIRY` (R144). -/
def execHoldExpiry (h : Hart) (s : State) : Host.Outcome State Fault Refusal :=
  .next (match (thread s h).hold with | some x => expireHold h x s | none => s)

/-- `TIMER_EXPIRY` (R115, R128): E3, and the cycle D+n that `TIMER_WAIT` returns. -/
def execTimerExpiry (h : Hart) (s : State) : Host.Outcome State Fault Refusal :=
  .next (match (thread s h).timer with
    | some n =>
      let s := toNow n s
      raiseEvent h 3 (modTh s h fun t => { t with timer := none, expired := some (BitVec.ofNat 24 s.clock.cycle) })
    | none => s)

/-- `BREAKPOINT_MATCH` (R128, R403): a breakpoint or watchpoint of the operator matches. -/
def execBreakpointMatch (h : Hart) (s : State) : Host.Outcome State Fault Refusal :=
  let t := thread s h
  .next (if t.breakpoints.contains (t.pc.setWidth 16) || !t.watchpoints.isEmpty then raiseEvent h 6 s else s)

/-! ### Waits -/

/-- The speculative group of a core has been resolved, but for shadows still under way (R234). -/
def groupResolved (c : Core) : Bool := c.group.isNone || !c.resolving.isEmpty

/-- A thread whose wait has ended is ready (R127). -/
def wake (h : Hart) (s : State) : State := setRun h .ready s

/-- The value that an update has left for a wait on a port (R306). -/
def latched (t : Thread) (port : BitVec 16) : Option Word :=
  match t.met with
  | some (p, v) => if p = port then some v else none
  | none => none

/-- A wait that has its condition ends (R116, R126). -/
def completeWait (h : Hart) (w : Wait) (s : State) : State :=
  match w with
  | .portRead port d len =>
    match latched (thread s h) port with
    | some v => wake h (readDone h d len v (modTh s h fun t => { t with met := none }))
    | none => match portRead h (port.setWidth 64) s with
      | .done v s => wake h (readDone h d len v s)
      | .fault f => takeFault h len f (wake h s)
      | _ => s
  | .portWrite port v len =>
    match portWrite h (port.setWidth 64) v s with
    | .done _ s => wake h (modTh s h (advPc len))
    | .fault f => takeFault h len f (wake h s)
    | _ => s
  | .fence scope => if fenceHolds (coreOf s h.core) h.thread scope then wake h (modTh s h (advPc 4)) else s
  | .send q mid => if sent (coreOf s h.core) q.val mid then wake h (modTh s h (advPc 4)) else s
  | .resolution => if groupResolved (coreOf s h.core) then wake h s else s
  | .mma | .acvt => s

/-- `WAIT_COMPLETE` (R116, R127). -/
def execWaitComplete (h : Hart) (s : State) : Host.Outcome State Fault Refusal :=
  .next (match (thread s h).run with
    | .waiting w => if (thread s h).debugHalt then s else completeWait h w s
    | _ => s)

/-! ### Flag banks -/

/-- An update can reach its bank now: none of the same source to the same bank left before it (R305). -/
def firstOfSource (l : List FlagUpd) (i : Nat) : Bool :=
  match l[i]? with
  | some u => (l.take i).all fun v => !decide (v.src = u.src ∧ v.die = u.die)
  | none => false

/-- The updates at the picked positions that can reach bank `d` in one cycle. -/
def arriving (l : List FlagUpd) (d : DieId) (picks : List Nat) : List Nat :=
  (List.range l.length).filter fun i =>
    picks.contains i && firstOfSource l i && (match l[i]? with | some u => decide (u.die = d) | none => false)

/-- `FLAG_BANK_UPDATE` (R305, R306, R130): the picked updates reach the bank in one cycle. -/
def execFlagBankUpdate (die : DieId) (picks : List Nat) (s : State) : Host.Outcome State Fault Refusal :=
  let l := s.flight
  let ix := arriving l die picks
  let us := ix.filterMap fun i => l[i]?
  let rest := ((List.range l.length).filter fun i => !ix.contains i).filterMap fun i => l[i]?
  .next (if us = [] then s else bankCycle die us { s with flight := rest })

/-! ### Queue pointers (R295) -/

/-- A notice queue is reset: E5 with `0x10` on its owner. -/
def resetNotice (core : CoreId) (q : Fin 5) (s : State) : State :=
  let s := modCore s core fun c => setNq c q.val (emptyNq (nqOf c q.val))
  logCore core 0 0x10 (BitVec.ofNat 64 q.val) (noteE5 (queueOwner core q.val) 0x10 0 (BitVec.ofNat 64 q.val) s)

/-- An injection queue is reset: the messages with a flit in it are lost, and their senders resume. One with
no flit in it yet stays, and its flits now enter (R69, R70; log 171). -/
def resetInj (core : CoreId) (q : Fin 16) (s : State) : State :=
  let mids := (injOf (coreOf s core) q.val).flits.map fun f => f.mid
  let s := modCore s core fun c =>
    let x := injOf c q.val
    setInj c q.val { flits := [], plans := x.plans.filter fun p => !mids.contains p.mid }
  let s := ([0, 1, 2, 3] : List (Fin 4)).foldl (fun s i =>
    match (thread s ⟨core, i⟩).run with
    | .waiting (.send k mid) => if k = q ∧ mids.contains mid then wake ⟨core, i⟩ (modTh s ⟨core, i⟩ (advPc 4)) else s
    | _ => s) s
  refill core q.val s

/-- A staging queue is reset: every stream that uses it is cancelled, those that still drain with it. -/
def resetStaging (port : ShoreId) (e : EngineId) (s : State) : State :=
  let uses := fun r : StreamRun => (portsOf s r.cmd).contains port.val
  let x := engineOf s e
  let s := setEngine s e { x with draining := x.draining.filter fun r => !uses r
                                  dying := x.dying.filter fun r => !uses r }
  match (activeRuns x).findIdx? uses with
  | some i => focused e i (cancelEngine e 0x25) s
  | none => s

end Sys2Proof.Machine
end

