-- ==== Sys2Proof/Machine/Landing.lean ====
section
/-!
DEFINITION. The landing unit (R284–R287), its notices and signals (R288, R289), hold counters and held
tail writes (R297–R299), and speculative landings (R221, R222).
-/
namespace Sys2Proof.Machine
open Sys2Proof

/-! ### Sources and counters -/

def srcDevice (x : SourceWord) : Nat := fld x 0 14
def srcCore (x : SourceWord) : Nat := fld x 14 14
/-- The source word marks port-engine traffic (R344). -/
def fromPort (x : SourceWord) : Bool := decide (srcCore x = 0x3FFF)

/-- The hold counter of a write (R297). -/
def holdOf (c : Core) (hd : Header) (src : SourceWord) : BitVec 12 :=
  if fromPort src then tget 0 c.portHold (hXfer hd % 64) else tget 0 c.holdCtr (hXfer hd % 256)
def setHold (c : Core) (hd : Header) (src : SourceWord) (v : BitVec 12) : Core :=
  if fromPort src then { c with portHold := tset c.portHold (hXfer hd % 64) v }
  else { c with holdCtr := tset c.holdCtr (hXfer hd % 256) v }

/-- The earlier writes of a tail write have landed (R298). -/
def tailReady (c : Core) (hd : Header) (src : SourceWord) : Bool :=
  decide ((holdOf c hd src - BitVec.ofNat 12 (hTag hd)).toNat < 2048)
def tailTake (c : Core) (hd : Header) (src : SourceWord) : Core :=
  setHold c hd src (holdOf c hd src - BitVec.ofNat 12 (hTag hd))

/-! ### Checks (R284, R285) -/

/-- A handler table entry accepts a landing: its thread (R284). -/
def entryTakes (ent : Word) (hd : Header) : Option (Fin 4) :=
  let k := fld ent 3 5
  let base := fld ent 8 20
  if !bit ent 0 ∨ fld ent 28 36 ≠ 0 ∨ k < 6 ∨ 20 < k ∨ base % 2 ^ k ≠ 0 then none
  else if hLaddr hd < base ∨ base + 2 ^ k ≤ hLaddr hd ∨ base + 2 ^ k < hLaddr hd + hLen hd then none
  else some (Fin.ofNat 4 (fld ent 1 2))

/-- The core is one at which the message lands (R62, R285 check 2). -/
def landsHere (e : BitVec 128) (hd : Header) (core : CoreId) : Bool :=
  if hBcast hd then cCovers e (coreX core) (coreY core) else decide (landsAt e (hMember hd) = core)

/-- Region whose generation a message must carry (R285 check 3). -/
def landRegion (s : State) (e : BitVec 128) (hd : Header) (core : CoreId) : Option RegionId :=
  if hCell hd = 0 then regionOf s core else some (Fin.ofNat 256 (cRegion e))

/-- The verdict on a first flit: accepted with the queue of its notice, or dropped with the number of
the check and its counter. -/
inductive Verdict
  | accept (queue : Option (Fin 5))
  | drop (check counter : Nat)
  deriving DecidableEq, Repr

/-- The signal name lies in the window of the cell (R285 check 5). -/
def sigOk (e : BitVec 128) (hd : Header) : Bool :=
  match hSig hd with
  | 0 => true
  | 1 => (flagIn e (hSigIx hd)).isSome
  | _ => (ctrIn e (hSigIx hd)).isSome

/-- The queue of a notice (R289). -/
def noticeQueue (s : State) (core : CoreId) (hd : Header) (th : Fin 4) : Fin 5 :=
  if hHandler hd ≠ 0 then Fin.ofNat 5 th.val
  else match regionOf s core with
    | some r => if frontOf s r = core then 4 else 0
    | none => 0

/-- The checks of R285. Check 5 precedes check 4, whose entry is read one cycle later (R286, log 50). -/
def verdict (s : State) (core : CoreId) (hd : Header) : Verdict :=
  let e := replicaEntry s (dieOf core) (hCell hd)
  if !cellNamed e (hMember hd) then .drop 1 0
  else if !landsHere e hd core then .drop 2 1
  else match landRegion s e hd core with
    | none => .drop 3 0
    | some r =>
      if hGen hd ≠ (regOf s r).gen.toNat then .drop 3 2
      else if !sigOk e hd then .drop 5 3
      else if !hNotify hd then .accept none
      else match entryTakes (bytes64 (mread (coreOf s core).mem (cHandler e + 8 * hHandler hd) 8)) hd with
        | none => .drop 4 3
        | some th => .accept (some (noticeQueue s core hd th))

/-- A dropped message is counted on the landing die; checks 4 and 5 are logged (R285, R491). -/
def dropLanding (core : CoreId) (src : SourceWord) (check counter : Nat) (s : State) : State :=
  let s := count s (ctrDie (dieOf core) counter) 1
  if counter = 3 then logCore core 0 0x29 (BitVec.ofNat 64 (src.toNat + at_ check 32)) s else s

/-! ### Payload -/

/-- One landed word with its marks (R236, R221). -/
def putWord (c : Core) (a : Nat) (w : PWord) (poison spec : Bool) : Core :=
  let c := memPut c a (natBytes 8 w.data.toNat) (w.poison || poison) false
  if spec then { c with specMark := sins c.specMark (a / 8) } else c

def putWords (spec poison : Bool) : Nat → List PWord → Core → Core
  | _, [], c => c
  | a, w :: ws, c => putWords spec poison (a + 8) ws (putWord c a w poison spec)

/-- The payload of one flit is written (R286). -/
def putFlit (hd : Header) (poison : Bool) (c : Core) (f : Flit) : Core :=
  putWords f.group.isSome poison (hLaddr hd + 64 * f.index) f.words c

/-! ### The group of a core (R221, R222) -/

/-- A speculative landing meets a core bound to another group. -/
def conflicts (c : Core) (f : Flit) : Option (BitVec 8 × BitVec 8) :=
  match c.group, f.group with
  | some g, some k => if g = k then none else some (g, k)
  | _, _ => none

/-- The status of a running stream of the region with a transfer ID becomes `0x22` (R222). A stream that has completed
under R274 before its last flits land keeps the status of its record, which has gone; the refused landing is then
counted and logged alone (DESIGN CHOICE, log 189). -/
def markConflict (r : Option RegionId) (xfer : Nat) (x : StreamRun) : StreamRun :=
  if some x.cmd.region = r ∧ dXfer x.cmd.desc = xfer then { x with status := 0x22 } else x

def streamConflict (r : Option RegionId) (xfer : Nat) (s : State) : State :=
  { s with engines := tmap (fun _ e => 
    { e with run := e.run.map (markConflict r xfer), ahead := e.ahead.map (markConflict r xfer) }) s.engines }

def refuseGroup (core : CoreId) (f : Flit) (s : State) : State :=
  let s := count s (ctrDie (dieOf core) 7) 1
  let groups := match conflicts (coreOf s core) f with | some (g, k) => [g.toNat, k.toNat] | none => []
  let s := noteCore core 0 0x22 groups s
  streamConflict (regionOf s core) (hXfer f.header) s

/-- A speculative landing binds a core that is bound to no group (R221). -/
def bindGroup (f : Flit) (c : Core) : Core :=
  { c with group := match c.group, f.group with | none, some g => some g | g, _ => g }

/-! ### Landing -/

def heldList (c : Core) : List LandMsg := c.landing.filter fun m => m.held

/-- Replace the landing message `mid`. -/
def putLand (c : Core) (m : LandMsg) : Core :=
  { c with landing := c.landing.map fun x => if x.mid = m.mid then m else x }

/-- How an accepted message begins: written at once, or held as a tail write (R298, R299). -/
def beginLand (core : CoreId) (f : Flit) (queue : Option (Fin 5)) (s : State) : State :=
  let c := coreOf s core
  let hd := f.header
  let tail := hTail hd && hHeld hd
  let ready := tailReady c hd f.source
  let full := decide (8 ≤ (heldList c).length)
  let hold := tail && !ready && !full
  let m : LandMsg := ⟨f.mid, hd, f.source, 1, f.last, queue, hPoison hd, false, hold, if hold then [f] else [], 0⟩
  let c := if tail && ready then tailTake c hd f.source else c
  let c := if hold then c else putFlit hd false c f
  let s := setCore s core (bindGroup f { c with landing := c.landing ++ [m] })
  if tail && !ready && full then
    let s := count s (ctrDie (dieOf core) 5) 1
    logCore core 0 0x28 (BitVec.ofNat 64 (f.source.toNat + at_ (hXfer hd) 32)) s
  else s

/-- `MESSAGE_LANDING` (R285, R286): the landing unit takes a first flit. -/
def execMessageLanding (core : CoreId) (s : State) : Host.Outcome State Fault Refusal :=
  let c := coreOf s core
  .next (match c.inbox with
    | f :: rest =>
      if f.index ≠ 0 then s
      else
        let s := setCore s core { c with inbox := rest }
        match verdict s core f.header with
        | .drop check counter => dropLanding core f.source check counter s
        | .accept q => match conflicts c f with
          | some _ => refuseGroup core f s
          | none => beginLand core f q s
    | [] => s)

/-- A later flit of a message that is landing is written, or kept while its tail write is held; it binds the core as the
first does, which may since have been resolved (R221). The message is whole only if no flit before its last was lost
(R411). -/
def landFlit (f : Flit) (m : LandMsg) (c : Core) : Core :=
  let m := { m with
    landed := m.landed + 1
    complete := m.complete || (f.last && decide (m.landed = f.index))
    poison := m.poison || hPoison f.header }
  if m.held then putLand (bindGroup f c) { m with kept := m.kept ++ [f] }
  else putLand (putFlit m.header m.expired (bindGroup f c) f) m

/-- Nothing more of a message is written whose core has meanwhile come to belong to another group (R222). -/
def refuseRest (core : CoreId) (mid : Nat) (f : Flit) (s : State) : State :=
  refuseGroup core f (modCore s core fun c => { c with landing := c.landing.filter fun x => decide (x.mid ≠ mid) })

/-- `LANDING_FLIT` (R286, R287): a flit of a message that was dropped is dropped. -/
def execLandingFlit (core : CoreId) (s : State) : Host.Outcome State Fault Refusal :=
  let c := coreOf s core
  .next (match c.inbox with
    | f :: rest =>
      if f.index = 0 then s
      else
        let c := { c with inbox := rest }
        match c.landing.find? fun m => decide (m.mid = f.mid) with
        | some m =>
          if (conflicts c f).isSome then refuseRest core m.mid f (setCore s core c)
          else setCore s core (landFlit f m c)
        | none => setCore s core c
    | [] => s)

/-! ### Completion -/

/-- Bytes 0–7 and 8–15 of a message's notice (R288). `poison`: a flit of it says `POISON`. -/
def noticeLo (hd : Header) (src : SourceWord) (poison : Bool) : Word :=
  BitVec.ofNat 64 (src.toNat + at_ (hTag hd) 30 + at_ (hHandler hd) 42 + at_ (hGen hd) 48 + at_ (b2n (hTail hd)) 56
    + at_ (b2n (hBcast hd)) 57 + at_ (b2n poison) 58 + at_ (hTc hd) 60)
def noticeHi (hd : Header) : Word := kNoticeHi 0 (hLaddr hd) (hLen hd) (hXfer hd) (hCell hd)

/-- The signal of a message leaves for its bank (R286, R305), unless an isolation gate takes it (R417). -/
def sendSig (core : CoreId) (hd : Header) (s : State) : State :=
  let e := replicaEntry s (dieOf core) (hCell hd)
  let send := fun d k => if (coreOf s core).isolated then s else sendUpd ⟨.landing core, d, k⟩ s
  match hSig hd with
  | 0 => s
  | 1 => match flagIn e (hSigIx hd) with
    | some (d, n) => send d (.set n)
    | none => s
  | _ => match ctrIn e (hSigIx hd) with
    | some (d, n) => send d (.add n 1)
    | none => s

/-- A write of a data port has landed, perhaps its tail write (R344, R352). -/
def portLanded (core : CoreId) (m : LandMsg) (s : State) : State :=
  if !fromPort m.source then s
  else match (regionOf s core).bind (fnOfRegion s) with
    | none => s
    | some fn => modFn s fn fun f => match tfind f.ports (hXfer m.header % 64) with
      | some p => { f with
          ports := tset f.ports (hXfer m.header % 64) { p with arrived := p.arrived + 1, landed := p.landed || hTail m.header } }
      | none => f

/-- A whole message has landed: notice, event, signal and hold counter (R286, R289, R297). -/
def completeLand (core : CoreId) (m : LandMsg) (s : State) : State :=
  let hd := m.header
  let s := modCore s core fun c => { c with landing := c.landing.filter fun x => decide (x.mid ≠ m.mid) }
  let s := if hHeld hd && !hTail hd then
      modCore s core fun c => setHold c hd m.source (holdOf c hd m.source + 1) else s
  let s := match m.queue with
    | some q => postNotice core q.val (if hHandler hd = 0 then 7 else 0) (noticeLo hd m.source m.poison) (noticeHi hd) s
    | none => s
  portLanded core m (sendSig core hd s)

/-- `LANDING_COMPLETE` (R286): the oldest message all of whose flits are written completes. -/
def execLandingComplete (core : CoreId) (s : State) : Host.Outcome State Fault Refusal :=
  .next (match (coreOf s core).landing.find? fun m => m.complete && !m.held with
    | some m => completeLand core m s
    | none => s)

/-- The kept flits of a held tail write are written (R298, R299); speculative ones bind the core (R221). -/
def releaseTail (m : LandMsg) (expired : Bool) (c : Core) : Core :=
  putLand (m.kept.foldl (fun c f => putFlit m.header expired (bindGroup f c) f) c)
    { m with held := false, kept := [], expired := expired }

/-- A held tail write is released, unless its core has come to belong to another group (R222). -/
def releaseHeld (core : CoreId) (m : LandMsg) (expired : Bool) (s : State) : State :=
  match m.kept.find? fun f => (conflicts (coreOf s core) f).isSome with
  | some f => refuseRest core m.mid f s
  | none => modCore s core (releaseTail m expired)

/-- `TAIL_WRITE_RELEASE` (R298): held tail write number `i`. -/
def execTailWriteRelease (core : CoreId) (i : Fin 8) (s : State) : Host.Outcome State Fault Refusal :=
  let c := coreOf s core
  .next (match (heldList c)[i.val]? with
    | some m =>
      if tailReady c m.header m.source then
        releaseHeld core m false (setCore s core (tailTake c m.header m.source))
      else s
    | none => s)

/-- A held tail write has been held too long (R299). -/
def holdTooLong (s : State) (m : LandMsg) : Bool :=
  if s.dev = .twilight then decide (16 ≤ m.heldDays)
  else if srcDevice m.source = s.deviceId.toNat then decide (1 ≤ m.heldDays)
  else decide (2 ≤ m.heldDays)

/-- `TAIL_HOLD_EXPIRY` (R299). -/
def execTailHoldExpiry (core : CoreId) (i : Fin 8) (s : State) : Host.Outcome State Fault Refusal :=
  let c := coreOf s core
  .next (match (heldList c)[i.val]? with
    | some m =>
      if holdTooLong s m then
        let s := releaseHeld core m true s
        let s := count s (ctrDie (dieOf core) 6) 1
        logCore core 0 0x28 (BitVec.ofNat 64 (m.source.toNat + at_ (hXfer m.header) 32)) s
      else s
    | none => s)

end Sys2Proof.Machine
end

