-- ==== Sys2Proof/Machine/Regions.lean ====
section
/-!
DEFINITION. Speculative groups resolved (R231–R235), cores reset and gated (R387, R432, R449), regions
stopped, deleted, switched, put to sleep and rejoined (R52, R77–R79, R385–R388, R424, R448–R451).
-/
namespace Sys2Proof.Machine
open Sys2Proof

/-! ### Resolution of a group on one core (R232–R235) -/

def thAll (f : Thread → Thread) (c : Core) : Core := { c with threads := tmap (fun _ t => f t) c.threads }

/-- A table's entries written over another table's. -/
def tmerge {α : Type} (t u : Tab α) : Tab α := u.foldl (fun t e => tset t e.1 e.2) t

/-- A row that still stands as it was when its parity failed is marked (R177, R229). -/
def markFailed (l : Tab TileRow) (e : Nat × TileRow) : Tab TileRow :=
  if tget ⟨0, false, false, false⟩ l e.1 = { e.2 with spec := false } then tset l e.1 { e.2 with spec := false, poison := true } else l

/-- A thread's part of a commit, its shadows left (R232). -/
def commitThread (t : Thread) : Thread :=
  let d := deferredOf t
  { t with
    p := tmerge t.p t.pSpec
    pSpec := []
    v := tmerge t.v t.vSpec
    vSpec := []
    rows := d.parity.foldl markFailed (tmap (fun _ x => { x with spec := false }) t.rows)
    fpFlags := t.fpFlags ||| d.flags
    sr := d.sr.getD t.sr
    deferred := none
    deferredFault := match d.fault with | some f => some f | none => t.deferredFault
    acvt := t.acvt.map fun j => { j with spec := false } }

/-- A thread's part of a discard, its shadows left (R233). -/
def discardThread (t : Thread) : Thread :=
  let t := { t with pSpec := [], vSpec := [], rows := t.rows.filter fun e => !e.2.spec, deferred := none }
  match t.acvt with
  | some j => if j.spec then advPc 4 { t with acvt := none, run := .ready } else t
  | none => t

/-- Numbers of a thread's shadow accumulators. -/
def shadowsOf (t : Thread) : List Nat := (List.range 4).filter fun a => t.accSpec.any fun e => decide (e.1 / 16 = a)

/-- Shadows of a core, as keys 4 × thread + accumulator. -/
def shadowKeys (c : Core) : List Nat :=
  (List.range 4).flatMap fun i => (shadowsOf (thOf c (Fin.ofNat 4 i))).map fun a => 4 * i + a

/-- The binding ends when no shadow is left to resolve (R234). -/
def endBinding (c : Core) : Core := if c.resolving.isEmpty then { c with group := none } else c

def unspecJob (j : Option MmaJob) : Option MmaJob := j.map fun j => { j with spec := false }

/-- Commit at D+128 (R232). -/
def commitCore (c : Core) : Core :=
  endBinding { thAll commitThread c with
    specMark := []
    stores := c.stores.map fun e => { e with spec := false }
    mmaRun := unspecJob c.mmaRun
    mmaWait := unspecJob c.mmaWait
    resolving := (shadowKeys c).map fun k => (k, true) }

/-- A thread whose speculative `MMA` is dropped no longer waits for it. -/
def dropMma (j : Option MmaJob) (c : Core) : Core :=
  match j with
  | some j =>
    if j.spec ∧ j.blocks ∧ (thOf c j.thread).run = .waiting .mma then setTh c j.thread (advPc 4 { thOf c j.thread with run := .ready })
    else c
  | none => c

def keepJob (j : Option MmaJob) : Option MmaJob := j.filter fun j => !j.spec

/-- Marked words read 0 and carry no mark; speculative stores never leave (R233). -/
def discardWords (c : Core) : Core :=
  { c with
    mem := c.specMark.foldl (fun m w => mzero m (8 * w) (8 * w + 8)) c.mem
    poison := c.poison.filter fun w => !c.specMark.contains w
    specMark := []
    stores := c.stores.filter fun e => !e.spec }

/-- Discard at D+128 (R233), its shadows left. -/
def discardCore (c : Core) : Core :=
  let c := dropMma c.mmaRun (dropMma c.mmaWait c)
  endBinding { thAll discardThread (discardWords c) with
    mmaRun := keepJob c.mmaRun
    mmaWait := keepJob c.mmaWait
    resolving := (shadowKeys c).map fun k => (k, false) }

/-- Shadow accumulator `a` of thread `i` resolves (R234). -/
def resolveShadow (i : Fin 4) (a : Nat) (commit : Bool) (c : Core) : Core :=
  let t := thOf c i
  let mine := t.accSpec.filter fun e => decide (e.1 / 16 = a)
  let t := { t with acc := if commit then tmerge t.acc mine else t.acc, accSpec := dropAcc t.accSpec a }
  endBinding { setTh c i t with passed := [], resolving := c.resolving.filter fun e => decide (e.1 ≠ 4 * i.val + a) }

/-- Everything speculative of a core is dropped at once (R235). -/
def dropSpec (c : Core) : Core :=
  { thAll (fun t => { t with accSpec := [] }) (discardCore c) with resolving := [], group := none }

/-- Groups bound to cores of a region. -/
def groupsOf (s : State) (r : RegionId) : List (BitVec 8) :=
  ((regionCores s r).filterMap fun c => if (coreOf s c).resolving.isEmpty then (coreOf s c).group else none).eraseDups

/-- A run of a group of a region. -/
def ofGroup (r : RegionId) (g : BitVec 8) (x : StreamCmd) : Bool :=
  decide (x.region = r) && dGroupEn x.desc && decide (dGroup x.desc = g.toNat)

/-- A flit of a committed group, on its way or kept in a held tail write, lands unmarked (R232). -/
def ordinaryFlit (r : RegionId) (g : BitVec 8) (f : Flit) : Flit :=
  if f.region = some r ∧ f.group = some g then { f with group := none } else f

/-- Streams of a committed group go on as ordinary ones; what they have sent and has not landed lands unmarked
(R232). -/
def commitStreams (r : RegionId) (g : BitVec 8) (s : State) : State :=
  let f := fun x : StreamRun => if ofGroup r g x.cmd then { x with committed := true } else x
  let fl := List.map (ordinaryFlit r g)
  { s with
    engines := tmap (fun _ e => { e with run := e.run.map f, ahead := e.ahead.map f, draining := e.draining.map f }) s.engines
    cores := tmap (fun _ c => { c with
      inbox := fl c.inbox, landing := c.landing.map fun m => { m with kept := fl m.kept } }) s.cores
    routers := tmap (fun _ x => { x with inputs := tmap (fun _ => fl) x.inputs }) s.routers
    shoreIn := tmap (fun _ => fl) s.shoreIn
    shoreOut := tmap (fun _ => fl) s.shoreOut }

/-- Streams of a discarded group are cancelled and its staging released (R233); one that an earlier Dawn
committed is an ordinary stream (R232). -/
def discardStreams (r : RegionId) (g : BitVec 8) (s : State) : State :=
  let mine := fun x : StreamRun => ofGroup r g x.cmd && !x.committed
  let s := cancelRuns mine (ofGroup r g) s
  { s with engines := tmap (fun _ e => { e with draining := e.draining.filter fun x => !mine x }) s.engines }

def regionIds (s : State) : List RegionId := s.regions.map fun e => Fin.ofNat 256 e.1

def coresIn (s : State) (r : RegionId) (f : CoreId → State → State) : State :=
  (regionCores s r).foldl (fun s c => f c s) s

/-- The tile parity and dropped-poison records of a committed group are logged and counted (R160, R177, R229; log 187). -/
def logFailedRows (core : CoreId) (s : State) : State :=
  ([0, 1, 2, 3] : List (Fin 4)).foldl (fun s i =>
    let d := deferredOf (thread s ⟨core, i⟩)
    let s := d.parity.foldl (fun s e => logParity ⟨core, i⟩ e.1 s) s
    d.dropped.foldl (fun s pc => logCore core i 0x21 (pc.setWidth 64) s) s) s

/-- One group of a region resolves at D+128 under its confirmation bit. -/
def resolveGroup (r : RegionId) (s : State) (g : BitVec 8) : State :=
  let commit := bit (regOf s r).sampledMask g.toNat
  let s := coresIn s r fun c s =>
    if (coreOf s c).group = some g then
      if commit then modCore (logFailedRows c s) c commitCore else modCore s c discardCore
    else s
  let s := count s (ctrRegion r.val (if commit then 1 else 2)) 1
  if commit then commitStreams r g s else discardStreams r g s

/-! ### Cores -/

def eachThread (core : CoreId) (f : Hart → State → State) (s : State) : State :=
  ([0, 1, 2, 3] : List (Fin 4)).foldl (fun s i => f ⟨core, i⟩ s) s

/-- A core in Night or reset loses its speculative state, threads, queues and landings (R235, R449). -/
def clearedCore (c : Core) : Core :=
  let c := dropSpec c
  { c with
    threads := []
    stores := []
    rot := 0
    trapBase := 0xFFFC0
    inj := []
    moverQ := []
    outstanding := []
    moving := none
    inbox := []
    landing := []
    mmaRun := none
    mmaWait := none }

/-- Notice queues emptied, hold counters reset (R295, R300, R308). -/
def emptyQueues (c : Core) : Core := { c with notices := [], holdCtr := [], portHold := [] }

/-- Local memory and code space zero, without marks (R387). -/
def zeroedCore (c : Core) : Core := { c with mem := [], poison := [], code := [], codePoison := [] }

/-- A core reset and zeroed (R387 step 4, R388). -/
def resetZero (core : CoreId) (s : State) : State :=
  modCore s core fun c => { emptyQueues (zeroedCore (clearedCore c)) with released := false, night := none, selfTest := none }

/-! ### Boot images as they stand in bulk memory (R393) -/

/-- One image table entry. -/
structure BootImage where
  addr : Nat
  len : Nat
  code : Nat
  zero : Nat
  digest : List Byte
  deriving DecidableEq, Repr

structure BootHeader where
  images : Nat
  blocks : Nat
  imageTable : Nat
  blockTable : Nat
  coreMap : Nat
  deriving DecidableEq, Repr

def bootHeader (s : State) (a : Nat) : BootHeader :=
  ⟨bulkNat s a 2, bulkNat s (a + 2) 2, bulkNat s (a + 8) 8, bulkNat s (a + 16) 8, bulkNat s (a + 24) 8⟩

def bootImageAt (s : State) (h : BootHeader) (i : Nat) : BootImage :=
  let a := h.imageTable + 64 * i
  ⟨bulkNat s a 8, bulkNat s (a + 8) 4, bulkNat s (a + 12) 2, bulkNat s (a + 14) 2, bulkRead s (a + 16) 48⟩

def bootBlockAt (s : State) (h : BootHeader) (j : Nat) : BootBlock :=
  let w := fun i => bytes64 (bulkRead s (h.blockTable + 64 * j + 8 * i) 8)
  ⟨w 0, w 1, w 2, w 3, w 4⟩

def mapEntry (s : State) (h : BootHeader) (m : Nat) : BitVec 16 := BitVec.ofNat 16 (bulkNat s (h.coreMap + 2 * m) 2)
def mapImage (e : BitVec 16) : Nat := fld e 0 6
def mapBlock (e : BitVec 16) : Nat := fld e 6 8

/-- Code words that an image's poisoned bytes reach (R241). -/
def badCode (s : State) (i : BootImage) : List Nat :=
  if i.len = 0 then []
  else (List.range' (i.code / 8) ((i.code + i.len - 1) / 8 + 1 - i.code / 8)).filter fun w =>
    bulkBad s (i.addr + (max (8 * w) i.code - i.code)) || bulkBad s (i.addr + (min (8 * w + 7) (i.code + i.len - 1) - i.code))

/-- Step 3: code image and boot block of one core, through the service path; `bad`: the words whose bytes come poisoned. -/
def placeBoot (b : BootBlock) (i : BootImage) (bytes : List Byte) (bad : List Nat) (c : Core) : Core :=
  { c with boot := b, code := mwrite c.code i.code bytes
           codePoison := bad.foldl sins
             (c.codePoison.filter fun w => decide (8 * w < i.code) || decide (i.code + i.len < 8 * w + 8)) }

def placeMember (s : State) (h : BootHeader) (cell : BitVec 128) (m : Nat) (t : State) : State :=
  let e := mapEntry s h m
  let i := bootImageAt s h (mapImage e)
  modCore t (cMember cell m) (placeBoot (bootBlockAt s h (mapBlock e)) i (bulkRead s i.addr i.len) (badCode s i))

/-- A core of a loaded region takes its code image and boot block again (R449): whether the map lets it be
released. -/
def reloadCore (r : RegionId) (core : CoreId) (s : State) : Bool × State :=
  let x := regOf s r
  let cell := cellEntry s x.cell.toNat
  let h := bootHeader s x.bootImage.toNat
  if x.loaded then (!bit (mapEntry s h (cIndexOf cell core)) 15, placeMember s h cell (cIndexOf cell core) s) else (false, s)

/-- Both banks of a router read zero. -/
def clearBanks (core : CoreId) (s : State) : State :=
  let s := if (tfind s.routers core.val).isSome then setRouter s core { routerOf s core with bank0 := [], bank1 := [] } else s
  modCore s core fun c => { c with budget := 0, budgetNext := 0 }

/-- The active bank of a router reads zero; a load of the coming bank stays (R85, R420). -/
def clearActive (core : CoreId) (s : State) : State :=
  let s := if (tfind s.routers core.val).isSome then
      setRouter s core (let x := routerOf s core; if x.active then { x with bank1 := [] } else { x with bank0 := [] })
    else s
  modCore s core fun c => { c with budget := 0 }

/-- A core is gated (R448, R449). -/
def gateCore (kind : NightKind) (core : CoreId) (s : State) : State :=
  let s := modCore s core fun c =>
    let c := emptyQueues (clearedCore (drainAll (dropSpec c)))
    let c := if kind = .full then zeroedCore c else c
    { c with night := some kind }
  clearBanks core s

/-- Every logical core of a C-die. -/
def dieCores (d : Nat) : List CoreId :=
  (List.range 320).map fun i => coreAt (d % 8 * 16 + i % 16) (d / 8 * 20 + i / 16)

/-- A C-die all of whose cores are in full Night gates its flag bank (R448, R449). -/
def gateDie (d : Nat) (s : State) : State :=
  if (dieCores d).all fun c => decide ((coreOf s c).night = some .full) then
    { s with banks := tdel s.banks d }
  else s

/-! ### Stopping (R52, R76–R78) -/

/-- A thread of a stopped region: task threads hold; a sender whose message is discarded goes on. -/
def quietThread (core : CoreId) (s : State) (i : Fin 4) : State :=
  modCore s core fun c =>
    let t := thOf c i
    if isTask c i then
      (match t.run with | .halted | .unreleased => c | _ => setTh c i { t with run := .held })
    else match t.run with
      | .waiting (.send _ _) => setTh c i (advPc 4 { t with run := .ready })
      | _ => c

/-- D+1 to D+31 of the stopping Dawn (R52, R235). -/
def quiesce (r : RegionId) (s : State) : State :=
  let s := (groupsOf s r).foldl (fun s _ => count s (ctrRegion r.val 2) 1) s
  let s := coresIn s r fun c s =>
    let s := ([0, 1, 2, 3] : List (Fin 4)).foldl (quietThread c) s
    modCore s c fun x => { dropSpec x with inj := [] }
  cancelRegion r s

/-- Started launches complete with the cause of the stop (R338). -/
def endStarted (r : RegionId) (cause : BitVec 8) (s : State) : State :=
  ((regOf s r).launches.filter fun e => e.2.started).foldl (fun s e =>
    endLaunch r e.1 cause (BitVec.ofNat 64 r.val) s) s

/-- A region stops at Daybreak for `cause` (R77, R340); `tell`: its monitor gets E5 at D+32. -/
def stopRegion (r : RegionId) (cause : BitVec 8) (tell : Bool) (s : State) : State :=
  let s := match fnOfRegion s r with
    | some fn => fnEvent fn 3 cause (BitVec.ofNat 64 r.val) s
    | none => s
  let s := endStarted r cause (writeBack r s)
  let s := if cause = 0x3E then logArmaik (some r) 0x3E (BitVec.ofNat 64 r.val) s else s
  let s := modReg s r fun x =>
    { x with stopped := true, stopCause := cause, monError := cause, stopE5 := tell, load := none,
             resumeReq := false, late := false, failStop := none }
  quiesce r s

/-! ### Creation, deletion, context switch -/

/-- The counters of a region read 0, that of its VF with them (R470). -/
def countersZero (r : RegionId) (s : State) : State :=
  let s := match fnOfRegion s r with | some fn => modFn s fn fun f => { f with drop := 0 } | none => s
  { s with counters := s.counters.filter fun e => !decide (ctrRegion r.val 0 ≤ e.1 ∧ e.1 < ctrRegion r.val 8) }

/-- A region becomes valid (R385, R470). -/
def bornRegion (r : RegionId) (s : State) : State :=
  let s := countersZero r s
  let s := modReg s r fun x =>
    { x with valid := true, gen := x.gen + 1, bootDue := true, loaded := false, loadFailed := false,
             measurement := 0, borderOk := true, farVf := x.vf, posted := (0, 0) }
  match fnOfRegion s r with
  | some fn => fnEvent fn 1 0 (BitVec.ofNat 64 r.val) s
  | none => s

/-- Spill-cache lines of a region are invalidated, those on their way with them (R387 step 5). -/
def dropLines (r : RegionId) (s : State) : State :=
  let f := fun sp : Spill => { sp with
    lines := sp.lines.filter fun l => decide (l.region ≠ r)
    lost := sp.lost.filter fun l => decide (l.1 ≠ r)
    wanted := sp.wanted.map fun w => if w.region = r then { w with void := true } else w }
  { s with spill0 := f s.spill0, spill1 := f s.spill1 }

/-- A pending `NOTIFY` completes with `st`. -/
def endNotify (n : PendNotify) (st : BitVec 8) (info : Word) (s : State) : State :=
  completeDesc n.fn n.ring.val n.cid 2 st info n.noCqe (notLive n.fn n.ring n.seq s)

/-- A region is deleted (R387). Its number keeps its generation. Its notices complete with `0x2B`, since `0x2E` is
a status of launches (R333), and so do its VF's open ports (R386; log 68). -/
def deadRegion (r : RegionId) (s : State) : State :=
  let s := quiesce r (writeBack r s)
  let s := (regOf s r).launches.foldl (fun s e => endLaunch r e.1 0x2E (BitVec.ofNat 64 r.val) s) s
  let s := (regOf s r).notifies.foldl (fun s n => endNotify n 0x2B 0 s) s
  let s := match fnOfRegion s r with
    | some fn => fnEvent fn 2 0 (BitVec.ofNat 64 r.val) (closePorts fn 0x2B s)
    | none => s
  let s := coresIn s r resetZero
  let s := dropLines r s
  let x := regOf s r
  let s := { s with scrubbing := s.scrubbing ++ x.bulk.filter fun w => decide (w.2 ≠ 0) }
  setReg s r { Region.reset with
    gen := x.gen, entry := x.entry, freeFrom := s.clock.dayNo + 2, zeroing := true, launches := x.launches }

/-- A region's cores restart from a boot image: context switch (R388) and wake from full Night (R450). -/
def reboot (r : RegionId) (image : BitVec 40) (s : State) : State :=
  let s := coresIn s r resetZero
  modReg s r fun x =>
    { x with keys := [], bootImage := image, bootDue := true, loaded := false, loadFailed := false,
             measurement := 0, launched := false, stopped := true, stopE5 := false, night := none, waking := false, wakeAt := none }

/-- The flag windows of a region's cells (R52, R308). -/
def cellWindows (s : State) (r : RegionId) : List (DieId × Nat × Nat) :=
  s.cells.filterMap fun e =>
    if e.1 ≠ 0 ∧ cValid e.2 ∧ cRegion e.2 = r.val then some (cHome e.2, cFlagBase e.2, cFlagCount e.2) else none

/-- The flag window of a core's innermost cell (R424). -/
def coreWindow (s : State) (c : CoreId) : DieId × Nat × Nat :=
  let e := ownCell s c
  (cHome e, cFlagBase e, cFlagCount e)

def genUp (r : RegionId) (s : State) : State := modReg s r fun x => { x with gen := x.gen + 1 }

/-- The region's context is switched (R388). -/
def switchRegion (r : RegionId) (image : BitVec 40) (s : State) : State :=
  let s := genUp r (reboot r image s)
  { s with dawnClear := s.dawnClear ++ cellWindows s r }

/-! ### Rejoining (R424, R450) -/

/-- The border check of the core's region has passed (R390). -/
def mayRun (s : State) (core : CoreId) : Bool := match regionOf s core with | some r => (regOf s r).borderOk | none => false

/-- One core rejoins: awake, its queues empty and its router's banks invalid. -/
def rejoinCore (core : CoreId) (s : State) : State :=
  let s := modCore s core fun c => { emptyQueues c with night := none, selfTest := none }
  let s := clearBanks core s
  let s := if (coreOf s core).released && mayRun s core then releaseCore core s else s
  { s with dawnClear := s.dawnClear ++ [coreWindow s core] }

/-- A woken region rejoins (R424, R450). After full Night it reloads its boot image and clears its flags as
a context switch does. -/
def rejoinRegion (r : RegionId) (s : State) : State :=
  let full := decide ((regOf s r).night = some .full)
  let s := coresIn s r rejoinCore
  let s := genUp r s
  if full then
    let s := reboot r (regOf s r).bootImage s
    { s with dawnClear := s.dawnClear ++ cellWindows s r }
  else modReg s r fun x => { x with night := none, waking := false, wakeAt := none, stopped := x.bootDue || x.loadFailed }

/-- The cores of a region begin their self-tests (R425, R450). -/
def startWake (r : RegionId) (s : State) : State :=
  let s := coresIn s r fun c s => modCore s c fun x => { x with selfTest := some false }
  modReg s r fun x => { x with waking := true, wakeAt := none }

end Sys2Proof.Machine
end

