-- ==== Sys2Proof/Machine/Spares.lean ====
section
/-!
DEFINITION. Spare-map rows and shifts (R83–R87, R418–R421) and the removal list (R422).
-/
namespace Sys2Proof.Machine
open Sys2Proof

def rowOf_ (s : State) (i : Nat) : SpareRow := tget SpareRow.reset s.spares i
def setRow (i : Nat) (x : SpareRow) (s : State) : State := { s with spares := tset s.spares i x }

/-- Core at logical column `p` of C-die row `i` (R418). -/
def rowCore (i p : Nat) : CoreId := coreAt (i / 20 % 8 * 16 + p) (i / 20 / 8 * 20 + i % 20)

/-- Logical columns whose physical core the pending value of a row changes (R83, R86). -/
def movedCols (x : SpareRow) : List Nat :=
  match x.pending with
  | some (f, _) => if f = x.first then [] else (List.range 16).filter fun p => decide (min f.toNat x.first.toNat ≤ p)
  | none => []

def movedCores (i : Nat) (x : SpareRow) : List CoreId := (movedCols x).map (rowCore i)

/-- Regions that hold a moved position (R86). -/
def movedRegions (s : State) (i : Nat) (x : SpareRow) : List RegionId :=
  ((movedCores i x).filterMap (regionOf s)).eraseDups

/-- A region waits for a pending shift (R419 step 5). -/
def shiftPending (s : State) (r : RegionId) : Bool :=
  s.spares.any fun e => (movedRegions s e.1 e.2).contains r

/-- A region that holds a position which moves is quiesced at this Daybreak (R86, R419 step 1): it runs, or
the row is repaired online and this is the stopping Daybreak of a region not yet stopped for it (R421). -/
def mustQuiesce (s : State) (r : RegionId) : Bool :=
  let x := regOf s r
  s.spares.any fun e => e.2.pending.isSome && decide (e.2.stopDay ≤ s.clock.dayNo) && (movedRegions s e.1 e.2).contains r
    && (!x.stopped || (decide (e.2.stopDay = s.clock.dayNo) && decide (e.2.shiftDay ≠ some e.2.stopDay)
      && decide (x.stopCause ≠ 0x3A)))

/-- The core's position waits for its row to shift (R419 step 2). -/
def isMoving (s : State) (c : CoreId) : Bool :=
  let x := rowAt s c
  x.pending.isSome && decide (x.stopDay ≤ s.clock.dayNo) && (movedCols x).contains (coreX c % 16)

/-- Every thread of a core is held. -/
def holdCore (c : CoreId) (s : State) : State :=
  modCore s c fun x => ([0, 1, 2, 3] : List (Fin 4)).foldl (fun x i => setTh x i { thOf x i with run := .held }) x

/-- From D+32 every thread of a core that moves is held (R419 step 2). -/
def holdMoved (s : State) : State :=
  s.spares.foldl (fun s e =>
    if e.2.pending.isSome ∧ e.2.stopDay ≤ s.clock.dayNo then
      (movedCores e.1 e.2).foldl (fun s c => if (regionOf s c).isNone ∨ !(coreOf s c).released then s else holdCore c s) s
    else s) s

/-- Logical columns at which a core is in service again under the row's pending value (R423). -/
def restoredCols (x : SpareRow) : List Nat :=
  match x.pending with
  | some (f, g) =>
    (if x.first.toNat < 16 ∧ f = 31 then [x.first.toNat] else [])
      ++ (if removedCol x = removedCol { x with first := f, second := g } then [] else (removedCol x).toList)
  | none => []

/-- A core's gate opens (R417). -/
def openGate (c : CoreId) (s : State) : State :=
  if (coreOf s c).isolated then modCore s c fun y => { y with isolated := false } else s

/-- A restored core rejoins its region (R424). One whose position was removed has nothing to take over: it
is as after a wake from full Night (R432, R449). In a sleeping region it holds that from now on (log 205). -/
def restoreCore (fresh : Bool) (s : State) (c : CoreId) : State :=
  let s := openGate c s
  match regionOf s c with
  | some r =>
    let asleep := (regOf s r).night.isSome
    if fresh then
      let a := reloadCore r c (modCore s c fun y => zeroedCore (clearedCore y))
      let s := modCore a.2 c fun y => { y with released := a.1 }
      if asleep then s else rejoinCore c s
    else if asleep then s
    else rejoinCore c s
  | none => if fresh then modCore s c zeroedCore else s

/-- A moved position on its new core: memory, code and boot block only (R420, R432). -/
def migrateCore (c : Core) : Core := { emptyQueues (clearedCore c) with selfTest := none }

/-- Routers on a new physical core read zeros; a load that targets this Daybreak addressed the new routers
(R85, R420). -/
def newBanks (c : CoreId) (s : State) : State :=
  let kept := match (regionOf s c).bind fun r => (regOf s r).load with
    | some l => l.committed && decide (l.day + 1 = s.clock.dayNo)
    | none => false
  if kept then clearActive c s else clearBanks c s

/-- A position in Night moves: its memory is zero, and its new physical core tests like the others at wake, again where
the old one had passed (R451). -/
def moveAsleep (c : CoreId) (s : State) : State :=
  let passed := decide ((coreOf s c).selfTest = some true)
  let s := modCore s c fun x => { zeroedCore x with selfTest := if passed then some false else x.selfTest }
  match regionOf s c with
  | some r => if passed then modReg s r fun x => { x with wakeAt := none } else s
  | none => s

/-- One position on its new physical core (R419 steps 4 and 5, R420, R451). -/
def moveCore (migrated : Bool) (s : State) (c : CoreId) : State :=
  let s := newBanks c (openGate c s)
  let s := if (coreOf s c).night.isSome then moveAsleep c s
    else if (regionOf s c).isSome ∧ !migrated then modCore s c migrateCore else s
  if (coreOf s c).released && mayRun s c && (coreOf s c).night.isNone then releaseCore c s else s

/-- A region whose monitor's core has moved resumes one Day later at the earliest (R421). -/
def delayResume (s : State) (r : RegionId) : State :=
  modReg s r fun x => { x with resumeFrom := s.clock.dayNo + 1, monError := if x.stopped then 0x3A else x.monError }

/-- A row's pending value takes effect at this Daybreak. -/
def rowDue (s : State) (x : SpareRow) : Bool :=
  x.pending.isSome && match x.shiftDay with | some n => decide (n ≤ s.clock.dayNo) | none => false

/-- One row's new value takes effect (R86, R419 steps 4 and 5). A position that it removes is not migrated
(R421). -/
def shiftRow (s : State) (i : Nat) : State :=
  let x := rowOf_ s i
  match x.pending with
  | none => s
  | some (f, g) =>
    if !rowDue s x then s
    else
      let lost := (removedCol { x with first := f, second := g }).map (rowCore i)
      let moved := (movedCores i x).filter fun c => decide (some c ≠ lost)
      let s := wantStore .spareMap (setRow i { SpareRow.reset with first := f, second := g } s)
      let s := moved.foldl (moveCore x.migrated) s
      let s := ((regionIds s).filter fun r => (regOf s r).valid && (regOf s r).night.isNone && moved.contains (frontOf s r)).foldl delayResume s
      let s := (restoredCols x).foldl (fun s p =>
        if some (rowCore i p) = lost then s else restoreCore (decide (some p = removedCol x)) s (rowCore i p)) s
      match lost with
      | some c => modCore s c fun y =>
          { (if (movedCores i x).contains c then zeroedCore (migrateCore y) else y) with isolated := true }
      | none => s

def shiftSpares (s : State) : State := (s.spares.map Prod.fst).foldl shiftRow s

/-- The removal list as it stands with its pending changes. -/
def removalsDue (s : State) : List (BitVec 14) × List (Fin 32) :=
  match s.removalsNext.getLast? with | some (_, x) => x | none => (s.removals, s.removedDies)

/-- The removal list changes by `f` at Daybreak `n`, and with it every list that is to follow (R422, R423). -/
def changeRemovals (n : Nat) (f : List (BitVec 14) × List (Fin 32) → List (BitVec 14) × List (Fin 32)) (s : State) : State :=
  { s with removalsNext := (s.removalsNext.filter fun e => decide (e.1 < n)) ++ (n, f (removalsOn s n))
      :: (s.removalsNext.filter fun e => decide (n < e.1)).map fun e => (e.1, f e.2) }

/-- Positions of a removal list. -/
def listCores (l : List (BitVec 14)) : List CoreId := l.map fun c => Fin.ofNat 10240 c.toNat

/-- Positions of the removal list that a change due at this Daybreak restores. -/
def restoredList (s : State) : List CoreId :=
  listCores (s.removals.filter fun c => !(removalsOn s s.clock.dayNo).1.contains c)

/-- A changed removal list takes effect (R422, R423, R466). -/
def shiftRemovals (s : State) : State :=
  let n := s.clock.dayNo
  let l := removalsOn s n
  if s.removalsNext.all fun e => decide (n < e.1) then s
  else
    (restoredList s).foldl (restoreCore true) (wantStore .spareMap { s with
      removals := l.1, removedDies := l.2, removalsNext := s.removalsNext.filter fun e => decide (n < e.1) })

/-- Cores that rejoin with the map of this Daybreak. -/
def rejoining (s : State) : List CoreId :=
  (s.spares.filter fun e => rowDue s e.2).flatMap (fun e => (restoredCols e.2).map (rowCore e.1)) ++ restoredList s

/-- The map of this Daybreak takes effect; the generation of each region that a core rejoins goes up once
(R301, R424, log 53). -/
def shiftMap (s : State) : State :=
  let back := ((rejoining s).filterMap (regionOf s)).eraseDups.filter fun r => (regOf s r).night.isNone
  back.foldl (fun s r => genUp r s) (shiftRemovals (shiftSpares s))

/-! ### Reinstatement (R423) -/

/-- A row takes a new value at Daybreak `n` without an online repair; its positions migrate with it. -/
def planRow (n i : Nat) (f g : BitVec 5) (s : State) : State :=
  setRow i { rowOf_ s i with pending := some (f, g), stopDay := n, migrated := false, shiftDay := some n } s

/-- The map or list names the core. -/
def namedFailed (s : State) (who : FailedCore) : Bool :=
  match who with
  | .spare i c => decide ((rowOf_ s i.val).first.toNat = c.val) || decide ((rowOf_ s i.val).second.toNat = c.val)
  | .removal j => decide (j.val < s.removals.length)

/-- The core that a reinstatement names (R423). -/
def testedCore (s : State) (who : FailedCore) : UnderTest :=
  match who with
  | .spare i c => .spare i c
  | .removal j => .removal (nth 0 s.removals j.val)

/-- The field or entry is cleared at Daybreak `n`; a row's pending value comes with it (log 205). -/
def clearFailed (n : Nat) (who : UnderTest) (s : State) : State :=
  match who with
  | .spare i c =>
    let x := rowOf_ s i.val
    let v := x.pending.getD (x.first, x.second)
    planRow n i.val (if v.1.toNat = c.val then 31 else v.1) (if v.2.toNat = c.val then 31 else v.2) s
  | .removal x => changeRemovals n (fun l => (l.1.erase x, l.2)) s

/-- Tests whose results are known by this Daybreak: what passed is cleared with it, the rest stays failed and
is logged (R423 steps 3 and 4). -/
def finishTests (s : State) : State :=
  let due := s.mgmt.testing.filter fun t => decide (t.2.2 ≤ s.clock.now)
  due.foldl (fun s t =>
    if t.2.1 then clearFailed s.clock.dayNo t.1 s
    else
      let d := drawFree s
      logArmaik none 0x3B d.1 d.2)
    { s with mgmt := { s.mgmt with testing := s.mgmt.testing.filter fun t => decide (s.clock.now < t.2.2) } }

/-! ### The border check (R390) -/

/-- Routers on a region's perimeter and beside it. -/
def perimeter (s : State) (r : RegionId) : List CoreId :=
  let e := cellEntry s (regOf s r).cell.toNat
  (List.range ((cW e + 2) * (cH e + 2))).filterMap fun k =>
    let i := k % (cW e + 2)
    let j := k / (cW e + 2)
    let outX := decide (i = 0) || decide (i = cW e + 1)
    let outY := decide (j = 0) || decide (j = cH e + 1)
    let edge := decide (i ≤ 1) || decide (cW e ≤ i) || decide (j ≤ 1) || decide (cH e ≤ j)
    let x := cX e + i
    let y := cY e + j
    if edge && !(outX && outY) && decide (1 ≤ x ∧ x ≤ 128 ∧ 1 ≤ y ∧ y ≤ 80) then some (coreAt (x - 1) (y - 1)) else none

/-- A mask as read back differs from the region table's. -/
def maskWrong (s : State) (c : CoreId) : Bool := decide ((routerOf s c).stuckPorts ≠ 0)

/-- The check of one region: on a mismatch its cores are held and the routers are logged. -/
def borderStep (s : State) (r : RegionId) : State :=
  let bad := if (regOf s r).valid then (perimeter s r).filter (maskWrong s) else []
  if bad = [] then s
  else
    let s := bad.foldl (fun s c => logCore c 0 0x13 0 s) s
    coresIn (modReg s r fun x => { x with borderOk := false }) r fun c s => if (coreOf s c).released then holdCore c s else s

/-- Regions that the masks of this Daybreak are checked for: those created, and those that a shift touches. -/
def checkedRegions (s : State) : List RegionId :=
  ((regionIds s).filter fun r => (regOf s r).pending.any fun e => decide (e.1 ≤ s.clock.dayNo) && decide (e.2 = .create))
    ++ (s.spares.filter fun e => rowDue s e.2).flatMap fun e => movedRegions s e.1 e.2

end Sys2Proof.Machine
end

