-- ==== Sys2Proof/Machine/Day.lean ====
section
/-!
DEFINITION. The Day: Daybreak (R44–R58), the steps of Dawn (R52–R55, R218–R235, R335, R339), Noon, Dusk
and the Day-budget watchdog (R75, R76).
-/
namespace Sys2Proof.Machine
open Sys2Proof

def eachRegion (f : RegionId → State → State) (s : State) : State := (regionIds s).foldl (fun s r => f r s) s

/-! ### The new Day -/

/-- The reference of the Day that ends came, and lay within 20 ns: of several the nearest, which only the end of the Day
can tell (R51, R477; DEDUCED, log 204). -/
def referenceGood (s : State) : Bool := s.clock.refSeen && decide (s.clock.measured.natAbs ≤ 200)

/-- What a Day's reference has shown (R50, R51): consecutive Days within 20 ns of the reference followed, and in Daylight
the loss of alignment. Out of alignment, the device will take `DAY_COUNT` again (R373). -/
def judgeReference (s : State) : State :=
  let c := s.clock
  if c.src = 0 then { s with clock := { c with aligned := 0 } }
  else
    let n := if referenceGood s then c.aligned + 1 else 0
    let lost := (c.alignLost && decide (n < 16)) || (!referenceGood s && decide (s.dev = .daylight))
    { s with clock := { c with aligned := n, alignLost := lost, dayTaken := c.dayTaken && decide (16 ≤ n) } }

/-- The Day that `s` ends loses alignment: its reference was missing or lay too far away (R51). -/
def missedReference (s : State) : Bool := decide (s.clock.src ≠ 0) && !referenceGood s && decide (s.dev = .daylight)

/-- Clock, identity and per-Day state of a new Day (R41, R44–R48, R375, R412, R415, R458). -/
def newDay (s : State) : State :=
  let c := s.clock
  { s with
    clock := { c with
      dayNo := c.dayNo + 1, dayCount := c.dayCount + 1, cycle := 0, phase := .dawn
      dayDiv := c.dayDivNext, duskDiv := c.duskDivNext, src := c.srcNext, port := c.portNext, refSeen := false
      aligned := if c.src = c.srcNext ∧ c.port = c.portNext then c.aligned else 0 }
    pins := { s.pins with daybreakOut := true }
    deviceId := s.deviceIdNext
    assigned := s.assignedNext
    dawnClear := []
    badReplicas := []
    log := { s.log with counts := [] } }

/-- No flit stands in the mesh (R58, R446). -/
def meshEmpty (s : State) : Bool := s.routers.all fun e => e.2.inputs.all fun i => decide (i.2 = [])

/-- The conditions of R446. -/
def daylightOk (s : State) : Bool :=
  s.daylightReq && s.assigned && meshEmpty s
    && (decide (s.clock.src = 0) || decide (16 ≤ s.clock.aligned)) && s.flash.busy.isEmpty && s.mgmt.testing.isEmpty

/-- A scheduled entry into Twilight is due (R447). -/
def twilightDue (s : State) : Bool := match s.twilightAt with | some n => decide (n ≤ s.clock.dayNo) | none => false

/-! ### Stops (R77) -/

/-- The changes of a region that take effect at this Daybreak. -/
def dueChanges (s : State) (x : Region) : List RegionChange :=
  (x.pending.filter fun e => decide (e.1 ≤ s.clock.dayNo)).map Prod.snd

def isSwitch (c : RegionChange) : Bool := match c with | .switch _ => true | _ => false
def isNight (c : RegionChange) : Bool := match c with | .night _ _ => true | _ => false

/-- A window of a region touches an uncorrectable flag-bank word (R412). -/
def flagHit (s : State) (r : RegionId) : Bool :=
  s.badFlagWords.any fun w => s.cells.any fun e =>
    decide (e.1 ≠ 0) && cValid e.2 && decide (cRegion e.2 = r.val) && decide (cDie e.2 = w.1)
      && (if w.2 < 8 then overlap (64 * w.2) 64 (cFlagBase e.2) (cFlagCount e.2)
          else overlap (2 * (w.2 - 8)) 2 (cCtrBase e.2) (cCtrCount e.2))

/-- A core of the region overran in the Day that ends (R75, R76). -/
def overran (s : State) (r : RegionId) : Bool :=
  (regionCores s r).any fun c => (coreOf s c).overrun || (decide ((coreOf s c).budget ≠ 0) && !(coreOf s c).dayDone)

/-- The region has lost a position and has not yet stopped for a core failure (R419, R421, R422). -/
def lostDue (s : State) (x : Region) : Bool :=
  (match x.failStop with | some n => decide (n ≤ s.clock.dayNo) | none => false) && !(x.stopped && decide (x.stopCause = 0x3A))

/-- The cause that stops a region at this Daybreak, highest first (R77). -/
def stopCauseOf (s : State) (wasDay twi : Bool) (r : RegionId) : Option (BitVec 8) :=
  let x := regOf s r
  if x.night.isSome then none
  else if twi || (dueChanges s x).any (fun c => isSwitch c || isNight c) then some 0x3E
  else if mustQuiesce s r || lostDue s x then some 0x3A
  else if flagHit s r then some 0x39
  else if !x.stopped && wasDay && overran s r then some 0x0C
  else if x.late then some 0x18
  else none

/-- Deletion, or the stop of one region. Night's E5 reaches no thread (R448). -/
def stopStep (wasDay twi : Bool) (r : RegionId) (s : State) : State :=
  let x := regOf s r
  if !x.valid then s
  else if (dueChanges s x).contains .delete then deadRegion r s
  else match stopCauseOf s wasDay twi r with
    | some c => stopRegion r c (!(dueChanges s x).any isNight) s
    | none => s

/-! ### Changes that take effect -/

/-- The replicas swap to the new table (R41). -/
def swapCells (s : State) : State :=
  let due := s.cellChanges.filter fun c => decide (c.day ≤ s.clock.dayNo)
  { s with cells := due.foldl applyChange s.cells
           cellChanges := s.cellChanges.filter fun c => decide (s.clock.dayNo < c.day) }

/-- One pending change of a region, its stop apart. -/
def applyRegionChange (r : RegionId) (s : State) (c : RegionChange) : State :=
  match c with
  | .create => bornRegion r s
  | .delete => s
  | .switch image => switchRegion r image s
  | .night kind wake =>
    modReg s r fun x => { x with night := some kind, wakeOnLaunch := wake, waking := false, wakeAt := none }

def changeStep (r : RegionId) (s : State) : State :=
  let due := dueChanges s (regOf s r)
  if due = [] then s
  else due.foldl (applyRegionChange r)
    (modReg s r fun x => { x with pending := x.pending.filter fun e => decide (s.clock.dayNo < e.1) })

/-- A VF binding takes effect (R464). The open ports of the old VF have lost their region and close (R386; log 68). -/
def bindVf (r : RegionId) (vf : BitVec 9) (s : State) : State :=
  let old := fnOfRegion s r
  let info := BitVec.ofNat 64 r.val
  let s := match old with | some fn => fnEvent fn 2 0 info (closePorts fn 0x2B s) | none => s
  let x := regOf s r
  let here := fun fn : FnId => decide (some fn = old)
  let s := (x.launches.filter fun e => !e.2.started && here e.2.fn).foldl (fun s e => endLaunch r e.1 0x2B 0 s) s
  let s := (x.notifies.filter fun n => here n.fn).foldl (fun s n => endNotify n 0x2B 0 s) s
  let s := modReg s r fun x => { x with vf := vf, notifies := x.notifies.filter fun n => !here n.fn }
  match fnOfRegion s r with | some fn => fnEvent fn 1 0 info s | none => s

/-- The quota and VF accepted for this Daybreak take effect (R463, R464); a VF already bound stays so. -/
def bindStep (r : RegionId) (s : State) : State :=
  let x := regOf s r
  if x.quotaNext = [] ∧ x.vfNext = [] then s
  else
    let due := fun n : Nat => decide (n ≤ s.clock.dayNo)
    let v := lastNext (x.vfNext.filter fun e => due e.1) x.vf
    let s := modReg s r fun x => { x with
      quota := lastNext (x.quotaNext.filter fun e => due e.1) x.quota
      quotaNext := x.quotaNext.filter fun e => !due e.1
      vfNext := x.vfNext.filter fun e => !due e.1 }
    if v = x.vf then s else bindVf r v s

/-- The banks and budgets of a region's routers and cores swap (R67). -/
def swapBanks (r : RegionId) (s : State) : State :=
  let s := coresIn s r fun c s =>
    let s := if (tfind s.routers c.val).isSome then setRouter s c { routerOf s c with active := !(routerOf s c).active } else s
    let x := coreOf s c
    if x.budget = x.budgetNext then s else setCore s c { x with budget := x.budgetNext, budgetNext := x.budget }
  modReg s r fun x => { x with load := none }

/-- Task threads that are held start (R122). -/
def startHeld (core : CoreId) (s : State) : State :=
  ([0, 1, 2, 3] : List (Fin 4)).foldl (fun s i =>
    if isTask (coreOf s core) i ∧ (thread s ⟨core, i⟩).run = .held then startThread core i s else s) s

/-- A committed load of an earlier Day swaps in; a stopped region resumes with it (R67, R79). -/
def swapStep (r : RegionId) (s : State) : State :=
  let x := regOf s r
  let ready := match x.load with | some l => l.committed && decide (l.day < s.clock.dayNo) | none => false
  if !x.valid || !ready || x.night.isSome || !x.borderOk then s
  else if !x.stopped then let s := swapBanks r s; coresIn s r startHeld
  else if x.resumeReq && !x.lostPosition && !shiftPending s r && decide (x.resumeFrom ≤ s.clock.dayNo) then
    let s := swapBanks r s
    let s := modReg s r fun x => { x with stopped := false, stopE5 := false, resumeReq := false }
    let s := match fnOfRegion s r with
      | some fn => fnEvent fn 4 0 (BitVec.ofNat 64 r.val) s
      | none => s
    coresIn s r startTasks
  else s

/-- Rejoining of woken regions, and waking on a pending launch once the cores are gated (R450, log 163). -/
def wakeStep (r : RegionId) (s : State) : State :=
  let x := regOf s r
  if !x.valid ∨ x.night.isNone then s
  else match x.wakeAt with
    | some n => if n ≤ s.clock.dayNo then rejoinRegion r s else s
    | none =>
      if x.wakeOnLaunch && !x.waking && x.launches.any (fun e => !e.2.started && !e.2.ended)
        && (regionCores s r).all (fun c => (coreOf s c).night.isSome) then startWake r s else s

/-- A region that is created or wakes while one of its positions waits for a shift, or has been lost, is
stopped with the others (R86). -/
def joinStop (r : RegionId) (s : State) : State :=
  let x := regOf s r
  if x.valid && x.night.isNone && !x.stopped && (mustQuiesce s r || lostDue s x) then stopRegion r 0x3A true s else s

/-- The confirmation vector is sampled (R218, R220). -/
def sampleStep (r : RegionId) (s : State) : State :=
  if (regOf s r).valid then
    modReg s r fun x => { x with sampledVariant := x.variantNext, sampledMask := x.confirm, confirm := 0 }
  else s

/-- A load started in Dusk takes its first step (R68). -/
def loadStep (r : RegionId) (s : State) : State :=
  match (regOf s r).loadNext with
  | some a => clearInactive r (modReg s r fun x => { x with loadNext := none, load := some ⟨a, s.clock.dayNo, true, false⟩ })
  | none => s

/-- Per-Day state of the cores (R75, R299, R417). -/
def coreDay (_ : Nat) (c : Core) : Core :=
  { c with dayDone := false, overrun := false, strayLogged := false
           landing := c.landing.map fun m => if m.held then { m with heldDays := m.heldDays + 1 } else m }

/-- Route bank words of the routers are good again, and so are their border masks, derived anew, but for
ports whose bits stay wrong (R73, R390, R412). -/
def routerDay (_ : Nat) (x : Router) : Router := { x with badEntries := [], badPorts := x.stuckPorts }

/-- A launch of a region has started and is not complete. -/
def launchRuns (x : Region) : Bool := x.launches.any fun l => l.2.started && !l.2.ended

/-- The VF code names the function with key `k`. -/
def codeIs (v : BitVec 9) (k : Nat) : Bool := match vfOfCode v with | some fn => decide (fnKey fn = k) | none => false

/-- The values of the far registers. -/
def farRegs (f : HostFn) : Word × BitVec 20 := (BitVec.ofNat 64 (addr64 f 0x28 0x30), (fnReg f 0x38).setWidth 20)

/-- A region without a started launch turns to the far memory of its VF: the lines it has written go to the old one
first (R456, R464). -/
def farStep (r : RegionId) (s : State) : State :=
  let x := regOf s r
  let moves := decide (x.farVf ≠ x.vf) || match fnOfRegion s r with
    | some fn => decide (farRegs (fnOf s fn) ≠ ((fnOf s fn).farBase, (fnOf s fn).farPasid))
    | none => false
  if !x.valid || launchRuns x || !moves then s
  else modReg (writeBack r s) r fun x => { x with farVf := x.vf }

/-- The far registers of a function take their new values at this Daybreak: the region bound to it has no started launch
(R456). -/
def farTurns (s : State) (k : Nat) (f : HostFn) : Bool :=
  !(s.regions.any fun e => e.2.valid && launchRuns e.2 && codeIs e.2.vf k) && decide (farRegs f ≠ (f.farBase, f.farPasid))

/-- The lines written through a function whose far registers change go to the old far memory first. -/
def farFlush (s : State) : State :=
  (s.fns.filter fun f => farTurns s f.1 f.2).foldl (fun s f =>
    cleanLines (fnAt f.1).link (fun l => decide (l.fn = fnAt f.1)) s) s

/-- Far registers in force (R456). Translations asked for in the old address space are void. -/
def farDay (s : State) (k : Nat) (f : HostFn) : HostFn :=
  if farTurns s k f then
    { f with farBase := (farRegs f).1, farPasid := (farRegs f).2, atsReqs := [], retried := [] }
  else f

/-- Writes to the inactive bank of a port (R367). -/
def fillInactive (entries : List (BitVec 128)) (p : LinkPort) : LinkPort :=
  if p.active then { p with bank0 := entries } else { p with bank1 := entries }

/-- Link windows swap with the route banks, a load committed in Dusk takes the bank that this frees, and every Up port
has a marker to send (R367, R370). -/
def portDay (s : State) (_ : Nat) (p : LinkPort) : LinkPort :=
  let swap : Bool := match p.loaded with | some n => decide (n ≤ s.clock.dayNo) && decide (s.dev = .daylight) | none => false
  let p : LinkPort := { p with active := if swap then !p.active else p.active, loaded := if swap then none else p.loaded, window := none
                               markerDue := p.markerDue || decide (p.state = .up) }
  match p.loadNext with
  | some (n, l) => { fillInactive l p with loaded := some n, loadNext := none }
  | none => p

/-- Device route table entries take effect (R377, R467). -/
def routeDay (s : State) : State :=
  let due := s.routesNext.filter fun e => decide (e.1 ≤ s.clock.dayNo)
  { s with routes := due.foldl (fun t e => tset t e.2.1 e.2.2) s.routes
           routesNext := s.routesNext.filter fun e => decide (s.clock.dayNo < e.1) }

/-- Everything a Daybreak does once the clock has turned. `wasDay`: the Day that ended was in Daylight. -/
def daybreakBody (wasDay : Bool) (s : State) : State :=
  let s := finishTests s
  let twi := twilightDue s
  let s := if twi then { s with dev := .twilight, twilightAt := none }
    else if daylightOk s then { s with dev := .daylight, daylightReq := false } else s
  let s := eachRegion (stopStep wasDay twi) s
  let s := swapCells { s with badFlagWords := [] }
  let checked := checkedRegions s
  let s := shiftMap s
  let s := eachRegion changeStep s
  let s := checked.foldl borderStep (eachRegion farStep (eachRegion bindStep s))
  let s := if s.dev = .daylight then eachRegion swapStep s else s
  let s := eachRegion wakeStep s
  let s := eachRegion joinStop s
  let s := eachRegion sampleStep s
  let s := eachRegion loadStep s
  let s := farFlush (if s.log.unsaved = 0 then s else wantStore .persistentLog s)
  routeDay { s with
    cores := tmap coreDay s.cores
    routers := tmap routerDay s.routers
    fns := tmap (farDay s) s.fns
    ports := tmap (portDay s) s.ports }

/-- `DAYBREAK` (R45, R47, R52). In Daylight, and with the internal source, it falls at D+L; a following
device in Twilight may place it elsewhere (R50). -/
def execDaybreak (s : State) : Host.Outcome State Fault Refusal :=
  .next (if s.dev = .midnight then s
    else
      let s := if s.dev = .daylight ∨ s.clock.src = 0 then toCycle (dayLen s) s else s
      let day := newDay (judgeReference s)
      daybreakBody (decide (s.dev = .daylight))
        (if missedReference s then logArmaik none 0x1A (s.clock.offset.setWidth 64) day else day))

/-! ### Dawn -/

/-- A step of Dawn at D+n. -/
def dawnAt (n : Nat) (f : State → State) (s : State) : State :=
  if s.dev ≠ .midnight ∧ s.clock.phase = .dawn ∧ s.clock.cycle ≤ n then f (toCycle n s) else s

/-- A thread that runs: released, not held, not halted. -/
def running (t : Thread) : Bool := match t.run with | .unreleased | .held | .halted => false | _ => true

/-- E5 with the stop's cause on a running monitor (R78). -/
def tellStop (r : RegionId) (s : State) : State :=
  let x := regOf s r
  if !x.stopE5 then s
  else
    let s := modReg s r fun x => { x with stopE5 := false }
    let h := monitorOf s r
    if running (thread s h) then deliver h.core (raiseE5 h x.stopCause 0 (BitVec.ofNat 64 r.val)) s else s

/-- Regions and cores entering Night drain their stores (R147, R448). -/
def drainNight (r : RegionId) (s : State) : State :=
  if (regOf s r).night.isSome then
    coresIn s r fun c s => if (coreOf s c).night.isSome then s else modCore s c fun x => drainAll (dropSpec x)
  else s

/-- `DAWN_CONTROL_WORDS` (R52, R78, R419, R448), from D+32. -/
def execDawnControlWords (s : State) : Host.Outcome State Fault Refusal :=
  .next (dawnAt 32 (fun s => eachRegion drainNight (holdMoved (eachRegion tellStop s))) s)

/-- A region's part of D+128 (R219, R232–R234, R448). -/
def latchRegion (r : RegionId) (s : State) : State :=
  let x := regOf s r
  if !x.valid then s
  else
    let s := modReg s r fun x => { x with variant := x.sampledVariant }
    let s := (groupsOf s r).foldl (resolveGroup r) s
    match x.night with
    | none => s
    | some k =>
      let s := if k = .full then modReg s r fun x => { x with keys := [] } else s
      coresIn s r fun c s => if (coreOf s c).night = some k then s else gateDie (dieOf c) (gateCore k c s)

/-- Single cores that enter Night (R448). -/
def latchCores (s : State) : State :=
  let due := s.coreNights.filter fun e => decide (e.1 ≤ s.clock.dayNo)
  due.foldl (fun s e => gateDie (dieOf e.2.1) (gateCore e.2.2 e.2.1 s))
    { s with coreNights := s.coreNights.filter fun e => decide (s.clock.dayNo < e.1) }

/-- `VARIANT_LATCH` (R219, R232, R233, R448), at D+128. -/
def execVariantLatch (s : State) : Host.Outcome State Fault Refusal :=
  .next (dawnAt 128 (fun s => latchCores (eachRegion latchRegion s)) s)

/-- `SHADOW_ACCUMULATOR_RESOLVE` (R234): shadow accumulator `i` of a thread, in its eight cycles. -/
def execShadowAccumulatorResolve (h : Hart) (i : Fin 4) (s : State) : Host.Outcome State Fault Refusal :=
  let k := 4 * h.thread.val + i.val
  .next (match (coreOf s h.core).resolving.find? fun e => decide (e.1 = k) with
    | some (_, commit) => modCore (toCycle (135 + 8 * k) s) h.core (resolveShadow h.thread i.val commit)
    | none => s)

/-- A deferred fault is taken (R231). -/
def takeDeferred (h : Hart) (f : DeferredFault) (s : State) : State :=
  let pc := (thread s h).pc
  let s := modTh s h fun t => recordFault f.cause f.info true f.lost f.pc { t with deferredFault := none }
  decideEntry h (f.cause.setWidth 7) pc s

/-- A deferred fault that is not taken is logged (R231). -/
def logDeferred (h : Hart) (f : DeferredFault) (s : State) : State :=
  let s := modTh s h fun t => { t with deferredFault := none }
  logItem ⟨f.cause, BitVec.ofNat 6 (dieOf h.core), BitVec.ofNat 14 h.core.val, regionOf s h.core, h.thread, true, f.info, []⟩ s

/-- `DEFERRED_FAULT_ENTRY` (R231): from D+256; it waits for an open hold and for the next boundary. -/
def execDeferredFaultEntry (h : Hart) (s : State) : Host.Outcome State Fault Refusal :=
  .next (match (thread s h).deferredFault with
    | none => s
    | some f =>
      let s := if s.clock.phase = .dawn then toCycle 256 s else s
      let t := thread s h
      let stopped := match regionOf s h.core with | some r => (regOf s r).stopped | none => true
      if !running t || stopped then logDeferred h f s
      else if t.hold.isSome || t.debugHalt || !interruptible s h then s
      else takeDeferred h f (withdrawSend h s))

/-- A bank with the flags of a window cleared. -/
def clearWindow (b : FlagBank) (w : DieId × Nat × Nat) : FlagBank :=
  (List.range w.2.2).foldl (fun b i => putFlag b (w.2.1 + i) false) b

/-- The updates on their way to a bank reach it, each in its own cycle. -/
def deliverAll (d : DieId) (s : State) : State :=
  (s.flight.filter fun u => decide (u.die = d)).foldl (fun s u => bankCycle d [u] s)
    { s with flight := s.flight.filter fun u => decide (u.die ≠ d) }

/-- `DAWN_FLAG_CLEAR` (R52, R55, R308, R424), complete at D+319: no update of an old context comes after it. -/
def execDawnFlagClear (die : DieId) (s : State) : Host.Outcome State Fault Refusal :=
  .next (dawnAt 319 (fun s =>
    let ws := s.dawnClear.filter fun w => decide (w.1 = die)
    if ws = [] then s
    else
      let s := deliverAll die s
      setBank s die (ws.foldl clearWindow (bankOf s die))) s)

/-! ### Launches (R311, R335–R339) -/

/-- What waits in a region, in the order in which it was read. -/
inductive Waiting
  | launch (k : Nat) (l : Launch)
  | note (n : PendNotify)
  deriving DecidableEq, Repr

def Waiting.seq : Waiting → Nat
  | .launch _ l => l.seq
  | .note n => n.seq
def Waiting.ring : Waiting → FnId × Fin 16
  | .launch _ l => (l.fn, l.ring)
  | .note n => (n.fn, n.ring)

def insertWaiting (w : Waiting) : List Waiting → List Waiting
  | [] => [w]
  | x :: t => if w.seq < x.seq then w :: x :: t else x :: insertWaiting w t

def waitingOf (x : Region) : List Waiting :=
  ((x.launches.filter fun e => !e.2.started && !e.2.ended).map (fun e => Waiting.launch e.1 e.2)
    ++ x.notifies.map Waiting.note).foldr insertWaiting []

/-- A core has nothing of the region's messages under way. -/
def coreQuiet (c : Core) : Bool :=
  c.inj.all (fun q => q.2.flits.isEmpty && q.2.plans.isEmpty) && c.moverQ.isEmpty && c.moving.isNone
    && c.inbox.isEmpty && c.landing.isEmpty

/-- Nothing of a region stands in queues of flits. -/
def noneStands (r : RegionId) (t : Tab (List Flit)) : Bool := t.all fun e => e.2.all fun f => decide (f.region ≠ some r)

/-- An engine has no write of a region under way: no stream that runs or is queued writes local, bulk or far memory, as
all but a marker do, and no message of a finished read stream stands in staging (R311). -/
def engineQuiet (r : RegionId) (x : Engine) : Bool :=
  let writes := fun c : StreamCmd => decide (c.region = r) && decide (dKind c.desc ≠ 4)
  !x.queue.any writes && !(activeRuns x).any (fun y => writes y.cmd) && x.draining.all fun c => decide (c.cmd.region ≠ r)

/-- Every message, mover transfer and write stream of a region's launches has landed or been written
(R311). -/
def regionQuiet (s : State) (r : RegionId) : Bool :=
  (regionCores s r).all (fun c => coreQuiet (coreOf s c) && (routerOf s c).inputs.all fun i => decide (i.2 = []))
  && noneStands r s.shoreIn && noneStands r s.shoreTc0 && noneStands r s.shoreOut
  && s.engines.all fun e => engineQuiet r e.2

/-- Arguments and notice of a launch or `NOTIFY`, for the region monitor (R335, R336, R339). -/
def postLaunch (r : RegionId) (kind tag cell : Nat) (laddr : BitVec 20) (args : List Word) (cid : BitVec 16) (s : State) : State :=
  let front := frontOf s r
  deliver front (fun s =>
    let s := if args = [] then s else modCore s front fun c => memPut c laddr.toNat (wordsBytes args) false false
    postNotice front 4 7 (kNoticeLo tag (regOf s r).gen.toNat) (kNoticeHi kind laddr.toNat (8 * args.length) cid.toNat cell) s) s

/-- A cell is valid in the region. -/
def cellInRegion (s : State) (r : RegionId) (i : Nat) : Bool :=
  let e := cellEntry s i
  decide (i ≠ 0) && cValid e && decide (cRegion e = r.val)

/-- A started launch of the same cell is incomplete (R335). -/
def cellBusy (x : Region) (cell : BitVec 11) : Bool :=
  x.launches.any fun e => e.2.started && !e.2.ended && decide (e.2.cell = cell)

/-- A descriptor of the ring with a number below `n` has not completed, or has left a port open. -/
def ringBusy (f : HostFn) (ring : Fin 16) (n : Nat) : Bool :=
  (sqOf f ring.val).live.any (fun m => decide (m < n)) || f.ports.any fun p => decide (p.2.ring = ring ∧ p.2.seq < n)

/-- Earlier descriptors of a launch's ring have not started, or with `FENCE` have not completed or left a port open
(R323, R335). -/
def behind (f : HostFn) (l : Launch) : Bool :=
  (sqOf f l.ring.val).queue.any (fun d => decide (d.1 < l.seq)) || l.fence && ringBusy f l.ring l.seq

/-- What the starts of one region at one Dawn have come to. -/
structure Starts where
  st : State
  posted : Nat
  blocked : List (FnId × Fin 16)

/-- One pending launch or `NOTIFY` starts, or blocks those behind it on its ring. -/
def startWaiting (r : RegionId) (a : Starts) (w : Waiting) : Starts :=
  let s := a.st
  let block : Starts := { a with blocked := w.ring :: a.blocked }
  if a.blocked.contains w.ring then a
  else match w with
    | .launch k l =>
      if behind (fnOf s l.fn) l ∨ cellBusy (regOf s r) l.cell ∨ 8 ≤ a.posted ∨ ((regOf s r).launched ∧ !regionQuiet s r) then block
      else if !cellInRegion s r l.cell.toNat then { a with st := endLaunch r k 0x16 (l.cell.setWidth 64) s }
      else
        let s := dropClean r (writeBack r s)
        let s := modReg s r fun x => { x with launched := true, launches := tset x.launches k { l with started := true } }
        { a with st := postLaunch r 1 k l.cell.toNat l.laddr l.args l.cid s, posted := a.posted + 1 }
    | .note n =>
      if 8 ≤ a.posted then block
      else
        let s := modReg s r fun x => { x with notifies := x.notifies.erase n }
        { a with st := endNotify n 0 0 (postLaunch r 2 0 0 n.laddr n.args n.cid s), posted := a.posted + 1 }

/-- A region's launches at D+320: at most 8 notices in one Dawn (R52, R54, R335, R339, R450). -/
def launchRegion (r : RegionId) (s : State) : State :=
  let x := regOf s r
  if !x.valid ∨ x.stopped ∨ x.night.isSome ∨ (thread s (monitorOf s r)).run = .unreleased then s
  else
    let a := (waitingOf x).foldl (startWaiting r) ⟨s, if x.posted.1 = s.clock.dayNo then x.posted.2 else 0, []⟩
    modReg a.st r fun x => { x with posted := (s.clock.dayNo, a.posted) }

/-- `LAUNCH_START` (R52, R335, R339), at D+320. -/
def execLaunchStart (s : State) : Host.Outcome State Fault Refusal := .next (dawnAt 320 (eachRegion launchRegion) s)

/-- E2 on every thread of a running region. -/
def dawnRegion (r : RegionId) (s : State) : State :=
  let x := regOf s r
  if !x.valid ∨ x.stopped ∨ x.night.isSome then s
  else coresIn s r fun c s => eachThread c (fun h s => if (thread s h).run = .unreleased then s else deliver c (raiseEvent h 2) s) s

/-- `DAWN_EVENT` (R52), at D+448. -/
def execDawnEvent (s : State) : Host.Outcome State Fault Refusal := .next (dawnAt 448 (eachRegion dawnRegion) s)

/-! ### Noon, Dusk and the watchdog -/

/-- `NOON_START` (R45, R56), at D+512. -/
def execNoonStart (s : State) : Host.Outcome State Fault Refusal :=
  .next (dawnAt 512 (fun s => { s with clock := { s.clock with phase := .noon } }) s)

/-- A load still running at the first cycle of Dusk is abandoned (R67). -/
def lateLoad (r : RegionId) (s : State) : State :=
  match (regOf s r).load with
  | some l =>
    if l.running then
      logArmaik (some r) 0x18 (BitVec.ofNat 64 r.val) (modReg s r fun x => { x with load := none, late := true, routeStatus := 0x18 })
    else s
  | none => s

/-- A link window load still running then is abandoned, and logged at its port's E-die (R367). -/
def latePort (k : Nat) (s : State) : State :=
  let p := tget LinkPort.reset s.ports k
  if p.loading.isNone then s
  else logEdie (elDie (k / 4)) (k % 4) none 0x18 (BitVec.ofNat 64 k)
    { s with ports := tset s.ports k { p with loading := none, loaded := none } }

/-- `DUSK_START` (R45, R57, R67, R367), at D+(L − K). -/
def execDuskStart (s : State) : Host.Outcome State Fault Refusal :=
  .next (if s.dev = .midnight ∨ s.clock.phase ≠ .noon then s
    else
      let s := toCycle (dayLen s - duskLen s) s
      let s := eachRegion lateLoad { s with clock := { s.clock with phase := .dusk } }
      (List.range 16).foldl (fun s k => latePort k s) s)

/-- `DAY_OVERRUN` (R75, R76): D+B has come without `DAY_DONE`. -/
def execDayOverrun (core : CoreId) (s : State) : Host.Outcome State Fault Refusal :=
  let c := coreOf s core
  let live : Bool := match regionOf s core with | some r => !(regOf s r).stopped | none => false
  .next (if s.dev = .daylight ∧ live ∧ c.budget ≠ 0 ∧ !c.dayDone then
      modCore (toCycle c.budget.toNat s) core fun c => { c with overrun := true }
    else s)

end Sys2Proof.Machine
end

