-- ==== Sys2Proof/Machine/Mgmt.lean ====
section
/-!
DEFINITION. The management path (R405–R408): who may command, presence, replies and free values.
-/
namespace Sys2Proof.Machine
open Sys2Proof

/-- What the last management command, query or SPDM request answered. -/
def reply (st : BitVec 8) (data : List Word) (s : State) : State := { s with mgmt := { s.mgmt with reply := ⟨st, none, data⟩ } }

/-- Status codes that are also logged (R384, R408, R448). -/
def loggedStatus (st : BitVec 8) : Bool := decide (0x34 ≤ st.toNat ∧ st.toNat ≤ 0x38) || decide (st = 0x3F)

/-- A command's answer, logged where its code is (R148). -/
def answer (r : Option RegionId) (st : BitVec 8) (s : State) : State :=
  reply st [] (if loggedStatus st then logArmaik r st 0 s else s)

/-- A management command over the operator's connection (R405–R407): without a connection nothing arrives;
an unowned device, or a connection without an operator certificate, refuses it with `0x0B`. -/
def operatorCmd (f : State → State) (s : State) : State :=
  if !s.mgmt.connected then s
  else if s.mgmt.owned = [] ∨ !s.mgmt.authenticated then reply 0x0B [] s
  else f s

/-- A presence command is logged with its number in the table of R406 (log 167) and the opening time of the
oldest open window (R408, log 149). -/
def logPresence (cmd : Nat) (s : State) : State := noteArmaik none 0x34 (cmd :: s.mgmt.presence.take 1) s

/-- A presence command runs only while a window is open (R408). -/
def withPresence (f : State → State) (s : State) : State := if s.mgmt.presence ≠ [] then f s else reply 0x34 [] s

/-- A presence command over the operator's connection: logged whether it is accepted or refused (R408). -/
def presenceCmd (cmd : Nat) (f : State → State) (s : State) : State :=
  if !s.mgmt.connected then s else operatorCmd (withPresence f) (logPresence cmd s)

end Sys2Proof.Machine
end

