-- ==== Sys2Proof/Machine/HostRegs.lean ====
section
/-!
DEFINITION. Writes to BAR0 and to the configuration space (R9–R13, R312–R315, R452–R456), function resets (R317,
R432), tail polling (R319–R322), translations and invalidations (R349, R350).
-/
namespace Sys2Proof.Machine
open Sys2Proof

/-! ### The endpoint -/

/-- `PERST_N` of a link. -/
def perstN (s : State) (l : LinkId) : Bool := if l = 0 then s.pins.perstN0 else s.pins.perstN1

/-- `PCIE_REFCLKh` of a link runs (R434, R435). -/
def pcieClk (s : State) (l : LinkId) : Bool := if l = 0 then s.pins.pcieClk0 else s.pins.pcieClk1

/-- The endpoint answers its host: boot has released it (R436 step 3, R437), `PERST_N` is high and the
link has its clock. -/
def hostUp (s : State) (l : LinkId) : Bool := decide (3 ≤ s.boot.step) && perstN s l && pcieClk s l

/-- A command that a host sends reaches the function. -/
def fromHost (fn : FnId) (f : State → State) (s : State) : State := if hostUp s fn.link then f s else s

/-- The KS-40 writes a record of the doorbell page (R320); with no page it writes nothing. -/
def writeRecord (fn : FnId) (off v : Nat) (s : State) : State :=
  let d := doorbell (fnOf s fn)
  if d = 0 then s
  else { s with hostOut := s.hostOut ++ [.write fn (.untranslated (BitVec.ofNat 64 (d + off))) (natBytes 8 v)] }

def sqHeadRecord (x : SqRing) : Nat := x.head.toNat + at_ (b2n x.headWrap) 16

/-! ### Registers (R453–R455) -/

/-- MSI-X vectors of a function (R312). -/
def vectors (fn : FnId) : Nat := match fn.vf with | some _ => 16 | none => 64

/-- Writable bits of a function register. -/
def regMask (off : Nat) : Nat :=
  match off with
  | 0x10 | 0x28 => 0xFFFFF000
  | 0x18 | 0x30 => 0xFFFFFFFF
  | 0x20 => 0x00FF3FFF
  | 0x38 => 0xFFFFF
  | _ => 0

/-- The register stores the writable bits of `v`. -/
def storeReg (fn : FnId) (off mask : Nat) (v : BitVec 32) (s : State) : State :=
  modFn s fn fun f => setFnReg f off (v &&& BitVec.ofNat 32 mask)

/-- A size field that R454 allows. -/
def sizeOk (v : BitVec 32) : Bool := decide (6 ≤ fld v 0 5 ∧ fld v 0 5 ≤ 16)

/-- A submission ring starts at index 0 and its `SQ_HEAD` is written (R455). -/
def startSq (fn : FnId) (r : Nat) (s : State) : State :=
  writeRecord fn (0x100 + 8 * r) 0 (modFn s fn fun f =>
    { f with sq := tset f.sq r { sqOf f r with head := 0, headWrap := false, tail := 0, tailWrap := false } })

/-- A completion ring starts at index 0 (R455). Messages that are due stay due. -/
def startCq (fn : FnId) (c : Nat) (s : State) : State :=
  modFn s fn fun f => { f with cq := tset f.cq c { CqRing.reset with due := (cqOf f c).due } }

/-- A write to `RING_CTRL` of ring `r` (R454, R455). -/
def writeRingCtrl (fn : FnId) (r : Nat) (v : BitVec 32) (s : State) : State :=
  let off := sqBase r + 0x18
  if sqEnabled (fnOf s fn) r then
    if bit v 0 then s else modFn s fn fun f => setFnReg f off (fnReg f off &&& 0xFFFFFFFE)
  else
    let s := storeReg fn off 0xF1 v s
    if bit v 0 then startSq fn r s else s

/-- A write to `CQ_SIZE` of completion ring `c` (R454, R455). DESIGN CHOICE (log 176): on an enabled ring a write that
clears `ENABLE` clears it whatever `LOG2N` it carries, since it changes only `ENABLE`; R12 would leave the register
as it is where that value is reserved. -/
def writeCqSize (fn : FnId) (c : Nat) (v : BitVec 32) (s : State) : State :=
  let off := cqBase c + 0x10
  if cqEnabled (fnOf s fn) c then
    if bit v 8 then s else modFn s fn fun f => setFnReg f off (fnReg f off &&& 0xFFFFFEFF)
  else if !sizeOk v then s
  else
    let s := storeReg fn off 0x11F v s
    if bit v 8 then startCq fn c s else s

/-- A write to a register of submission ring `r` (R454, R455). -/
def writeSqReg (fn : FnId) (r sub : Nat) (v : BitVec 32) (s : State) : State :=
  match sub with
  | 0x18 => writeRingCtrl fn r v s
  | 0x00 => if sqEnabled (fnOf s fn) r then s else storeReg fn (sqBase r) 0xFFFFF000 v s
  | 0x08 => if sqEnabled (fnOf s fn) r then s else storeReg fn (sqBase r + 8) 0xFFFFFFFF v s
  | 0x10 => if sqEnabled (fnOf s fn) r ∨ !sizeOk v then s else storeReg fn (sqBase r + 0x10) 0x1F v s
  | _ => s

/-- A write to a register of completion ring `c` (R454, R455). -/
def writeCqReg (fn : FnId) (c sub : Nat) (v : BitVec 32) (s : State) : State :=
  match sub with
  | 0x10 => writeCqSize fn c v s
  | 0x00 => if cqEnabled (fnOf s fn) c then s else storeReg fn (cqBase c) 0xFFFFF000 v s
  | 0x08 => if cqEnabled (fnOf s fn) c then s else storeReg fn (cqBase c + 8) 0xFFFFFFFF v s
  | 0x18 => if vectors fn ≤ fld v 0 6 ∨ fld v 8 8 = 0 then s else storeReg fn (cqBase c + 0x18) 0xFFFFFF7F v s
  | _ => s

/-- A write to `NOTIFY` (R321). -/
def notifyPoll (fn : FnId) (s : State) : State :=
  writeRecord fn 0x180 0 (modFn s fn fun f => { f with idle := false, lastPoll := false, quiet := false, polls := 0 })

/-- A write to `SETUP_LOCK` (R10, R453). -/
def writeLock (fn : FnId) (v : BitVec 32) (s : State) : State :=
  modFn s fn fun f => { f with lock := f.lock || bit v 0 }

/-- A write of a register's four bytes (R9–R12, R452). -/
def writeReg (fn : FnId) (off : Nat) (v : BitVec 32) (s : State) : State :=
  if off = 0x08 then writeLock fn v s
  else if off = 0x40 then notifyPoll fn s
  else if (fnOf s fn).lock then s
  else if off = 0x20 ∧ (fld v 0 14 = 0 ∨ 10000 < fld v 0 14) then s
  else if off < 0x40 ∧ regMask off ≠ 0 then storeReg fn off (regMask off) v s
  else if 0x1000 ≤ off ∧ off < 0x1200 then writeSqReg fn ((off - 0x1000) / 32) (off % 32) v s
  else if 0x1400 ≤ off ∧ off < 0x1600 then writeCqReg fn ((off - 0x1400) / 32) (off % 32) v s
  else s

/-- A vector's pending message leaves once nothing masks it (R315, R332). -/
def sendPending (fn : FnId) (s : State) (k : Nat) : State :=
  let f := fnOf s fn
  if bit f.pba k ∧ !vectorMasked f k ∧ msixOn f then
    sendMsix fn k (setFn s fn { f with pba := f.pba &&& ~~~ BitVec.ofNat 64 (2 ^ k) })
  else s

/-- A write of one word of the MSI-X table (R315). -/
def writeMsix (fn : FnId) (word : Nat) (v : BitVec 32) (s : State) : State :=
  sendPending fn (modFn s fn fun f => { f with msix := tset f.msix word v }) (word / 4)

/-- Four enabled bytes at an offset that is a multiple of 4 (R452). -/
def writeDword (fn : FnId) (off : Nat) (v : BitVec 32) (s : State) : State :=
  if 0x2000 ≤ off ∧ off < 0x2000 + 16 * vectors fn then writeMsix fn ((off - 0x2000) / 4) v s
  else if off % 8 = 0 ∧ off < 0x2000 then writeReg fn off v s
  else s

/-- A memory write of 4 or 8 bytes to BAR0 (R452). -/
def bar0Write (fn : FnId) (off : Nat) (eight : Bool) (en : BitVec 8) (v : BitVec 64) (s : State) : State :=
  if off % 4 ≠ 0 then s
  else
    let s := if fld en 0 4 = 15 then writeDword fn off (v.setWidth 32) s else s
    if eight ∧ fld en 4 4 = 15 then writeDword fn (off + 4) (BitVec.ofNat 32 (fld v 32 32)) s else s

/-- What a read of a BAR0 register returns (R452–R454). -/
def bar0Read (s : State) (fn : FnId) (off : Nat) : BitVec 32 :=
  let f := fnOf s fn
  if off = 0x00 then
    BitVec.ofNat 32 (fn.link.val + at_ (match fn.vf with | some v => v.val | none => 255) 1 +
      (match regionOfFn s fn with | some r => at_ r.val 9 + at_ 1 17 | none => 0))
  else if off = 0x08 then BitVec.ofNat 32 (b2n f.lock)
  else if off = 0x48 then f.drop
  else if 0x2000 ≤ off ∧ off < 0x2000 + 16 * vectors fn then
    tget (if off % 16 = 12 then 1 else 0) f.msix ((off - 0x2000) / 4)
  else if off = 0x3000 then f.pba.setWidth 32
  else if off = 0x3004 then BitVec.ofNat 32 (fld f.pba 32 32)
  else if off % 8 = 0 ∧ off < 0x2000 then fnReg f off
  else 0

/-! ### Function Level Reset (R317) -/

/-- Launches of a function after its reset: pending ones go, started ones lose their completion, and a
slot whose entry waited is freed. -/
def resetLaunches (fn : FnId) (l : Tab Launch) : Tab Launch :=
  (l.filter fun e => decide (e.2.fn ≠ fn) || (e.2.started && !e.2.ended)).map fun e =>
    (e.1, if e.2.fn = fn then { e.2 with orphan := true } else e.2)

/-- A function resets, its configuration space with it. The far address in force stays; its translations go, and the
dirty lines that need them are written back first (log 48). -/
def resetFn (fn : FnId) (s : State) : State :=
  let s := dropTranslations fn.link (fun t => decide (t.fn = fn)) s
  let s := modFn s fn fun f => { HostFn.reset with farBase := f.farBase, farPasid := f.farPasid }
  { s with regions := tmap (fun _ x => { x with
      launches := resetLaunches fn x.launches
      notifies := x.notifies.filter fun n => decide (n.fn ≠ fn) }) s.regions }

/-- A reset of the PF resets every function of its link. -/
def flr (fn : FnId) (s : State) : State :=
  match fn.vf with
  | some _ => resetFn fn s
  | none => (allFns.filter fun g => decide (g.link = fn.link)).foldl (fun s g => resetFn g s) s

/-! ### The configuration space (R312, R313) -/

/-- The bytes of `v` that are enabled, in place of those of `old`. -/
def mergeBytes (old v : BitVec 32) (en : BitVec 4) : BitVec 32 :=
  BitVec.ofNat 32 (((List.range 4).map fun i => at_ (fld (if bit en i then v else old) (8 * i) 8) (8 * i)).sum)

/-- The power state changes between D0 and D3hot; a write of another state is ignored. In D0 what was withheld is
sent. -/
def writePower (fn : FnId) (v : BitVec 32) (s : State) : State :=
  let f := fnOf s fn
  if fld v 0 2 = 1 ∨ fld v 0 2 = 2 then s
  else
    let f := setConfig f 0x44 v
    if inD3 f then setFn s fn f
    else f.withheld.foldl (fun s k => sendMsix fn k.toNat s) (setFn s fn { f with withheld := [] })

/-- ATS of a function is no longer enabled: its translations go, and what it has asked for is void. -/
def stopAts (fn : FnId) (s : State) : State :=
  modFn (dropTranslations fn.link (fun t => decide (t.fn = fn)) s) fn fun f => { f with atsReqs := [], retried := [] }

/-- The stored word `v` of a function's configuration space, and what follows from it. -/
def putConfig (fn : FnId) (off : Nat) (v : BitVec 32) (s : State) : State :=
  let old := fnOf s fn
  match off with
  | 0x44 => writePower fn v s
  | 0x50 => (List.range (vectors fn)).foldl (sendPending fn) (setFn s fn (setConfig old 0x50 v))
  | 0x2C4 => let s := setFn s fn (setConfig old 0x2C4 v); if bit v 31 then s else stopAts fn s
  | 0x2D4 => setFn s fn { setConfig old 0x2D4 v with priFailed := old.priFailed && (priOn old || !bit v 0) }
  | 0x2E4 =>
    let s := setFn s fn (setConfig old 0x2E4 v)
    if bit v 16 then s else (allFns.filter fun g => decide (g.link = fn.link)).foldl (fun s g => stopAts g s) s
  | _ => setFn s fn (setConfig old off v)

/-- A configuration write of the enabled bytes of a word: a 1 clears a bit of the AER status registers and Response
Failure of PRI, and `Initiate FLR` of Device Control resets the function (log 169). -/
def writeConfig (fn : FnId) (off : Nat) (en : BitVec 4) (v : BitVec 32) (s : State) : State :=
  let pf := fn.vf.isNone
  let old := configOf (fnOf s fn) off
  if off = 0x104 ∨ off = 0x110 then setFn s fn (setConfig (fnOf s fn) off (old &&& ~~~ mergeBytes 0 v en))
  else if off % 4 ≠ 0 ∨ configMask pf off = 0 then s
  else if off = 0x78 ∧ bit en 1 ∧ bit v 15 then flr fn s
  else
    let s := if off = 0x2D4 ∧ bit en 2 ∧ bit v 16 then modFn s fn fun f => { f with priFailed := false } else s
    putConfig fn off (mergeBytes old v en &&& BitVec.ofNat 32 (configMask pf off)) s

/-! ### Advanced Error Reporting (R312) -/

/-- Place of an uncorrectable error in the AER status: a poisoned TLP, and a completion timeout. -/
def aerPoisoned : Nat := 12
def aerTimeout : Nat := 14

/-- The first unmasked error is pointed at, and its header and TLP prefixes are logged: free values, as the commands do
not bring them. -/
def logHeader (fn : FnId) (k : Nat) (s : State) : State :=
  let put := fun (s : State) (off : Nat) =>
    let d := drawFree s
    modFn d.2 fn fun f => setConfig f off (d.1.setWidth 32)
  [0x11C, 0x120, 0x124, 0x128, 0x138, 0x13C, 0x140, 0x144].foldl put
    (modFn s fn fun f => setConfig f 0x118 (BitVec.ofNat 32 k))

/-- An uncorrectable error of a function (PRESUMED, log 169): its status bit is set, and where it is not masked it is
logged, if no other is, and reported, if Device Control enables that. -/
def noteAer (fn : FnId) (k : Nat) (s : State) : State :=
  let f := fnOf s fn
  let clear := decide (configOf f 0x104 &&& ~~~ configOf f 0x108 = 0)
  let s := setFn s fn (setConfig f 0x104 (configOf f 0x104 ||| BitVec.ofNat 32 (2 ^ k)))
  if bit (configOf f 0x108) k then s
  else
    let fatal := bit (configOf f 0x10C) k
    let s := if clear then logHeader fn k s else s
    if bit (configOf f 0x78) (if fatal then 2 else 1) then { s with hostOut := s.hostOut ++ [.errorMessage fn fatal] } else s

/-- A read of host memory has failed: it has timed out, or it was refused, which AER does not record with the
requester. The command does not say which: a free value does. -/
def noteTimeout (fn : FnId) (s : State) : State :=
  let d := drawFree s
  if bit d.1 0 then noteAer fn aerTimeout d.2 else d.2

/-! ### Commands of the host -/

/-- A read of BAR2 returns 0 (R342). -/
def bar2Read (_fn : FnId) (_off : BitVec 22) : BitVec 32 := 0

/-- `REGISTER_WRITE` (R9, R94, R313, R452). -/
def execRegisterWrite (target : RegTarget) (s : State) : Host.Outcome State Fault Refusal :=
  match target with
  | .ioPort h p d port => outInstr h p 4 (port.setWidth 64) (gOf s h d) s
  | .bar0 fn off eight en v => .next (fromHost fn (bar0Write fn off.toNat eight en v) s)
  | .config fn off en v => .next (fromHost fn (writeConfig fn off.toNat en v) s)

/-- `SETUP_LOCK` (R10, R453). -/
def execSetupLock (fn : FnId) (v : BitVec 32) (s : State) : Host.Outcome State Fault Refusal :=
  .next (fromHost fn (writeReg fn 0x08 v) s)

/-- `NOTIFY_WRITE` (R321). -/
def execNotifyWrite (fn : FnId) (v : BitVec 32) (s : State) : Host.Outcome State Fault Refusal :=
  .next (fromHost fn (writeReg fn 0x40 v) s)

/-- `RING_ENABLE` (R455): a write to `RING_CTRL` or `CQ_SIZE`. -/
def execRingEnable (fn : FnId) (ring : RingName) (v : BitVec 32) (s : State) : Host.Outcome State Fault Refusal :=
  .next (fromHost fn (match ring with
    | .sq r => writeReg fn (sqBase r.val + 0x18) v
    | .cq c => writeReg fn (cqBase c.val + 0x10) v) s)

/-- `FUNCTION_LEVEL_RESET` (R317). -/
def execFunctionLevelReset (fn : FnId) (s : State) : Host.Outcome State Fault Refusal :=
  .next (fromHost fn (flr fn) s)

/-- `PERST` (R432): the host drives `PERST_N` low. -/
def execPerst (link : LinkId) (s : State) : Host.Outcome State Fault Refusal :=
  let s := flr ⟨link, none⟩ s
  .next { s with pins := if link = 0 then { s.pins with perstN0 := false } else { s.pins with perstN1 := false } }

/-! ### Tail polling (R319–R321) -/

/-- Entries between the consumer's and the producer's position, as indices with wrap bits (R319). -/
def ringCount (n : Nat) (h : BitVec 16) (hw : Bool) (t : BitVec 16) (tw : Bool) : Nat :=
  (t.toNat + b2n tw * n + 2 * n - (h.toNat + b2n hw * n)) % (2 * n)

/-- A tail record is read (R319). -/
def takeTail (fn : FnId) (tails : List (BitVec 17)) (s : State) (r : Nat) : State :=
  let f := fnOf s fn
  let x := sqOf f r
  match tails[r]? with
  | none => s
  | some t =>
    if !sqEnabled f r ∨ x.error then s
    else
      let i : BitVec 16 := t.setWidth 16
      let n := sqSize f r
      if n ≤ i.toNat ∨ n < ringCount n x.head x.headWrap i (bit t 16) then
        fnEvent fn 5 0x2A (BitVec.ofNat 64 r) (setFn s fn { f with sq := tset f.sq r { x with error := true } })
      else setFn s fn { f with sq := tset f.sq r { x with tail := i, tailWrap := bit t 16 } }

/-- A `CQ_HEAD` record is read; one that does not lie between the old head and the tail is ignored. -/
def takeHead (fn : FnId) (heads : List (BitVec 17)) (s : State) (c : Nat) : State :=
  let f := fnOf s fn
  let x := cqOf f c
  match heads[c]? with
  | none => s
  | some t =>
    let i : BitVec 16 := t.setWidth 16
    let n := cqSize f c
    if cqEnabled f c ∧ i.toNat < n ∧ ringCount n x.head x.headWrap i (bit t 16) ≤ ringCount n x.head x.headWrap x.tail x.tailWrap then
      setFn s fn { f with cq := tset f.cq c { x with head := i, headWrap := bit t 16 } }
    else s

/-- Every enabled submission ring is empty. -/
def ringsEmpty (f : HostFn) : Bool :=
  (List.range 16).all fun r => !sqEnabled f r ||
    decide ((sqOf f r).head = (sqOf f r).tail ∧ (sqOf f r).headWrap = (sqOf f r).tailWrap)

/-- What a poll does after its records: polling counts empty polls, writes `IDLE` and reads once more, and
stops. -/
def idleStep (fn : FnId) (s : State) : State :=
  let f := fnOf s fn
  let limit := fld (fnReg f 0x20) 16 8
  if !ringsEmpty f then setFn s fn { f with polls := 0, lastPoll := false }
  else if f.lastPoll then setFn s fn { f with quiet := true, lastPoll := false }
  else if limit ≠ 0 ∧ limit ≤ f.polls + 1 then
    writeRecord fn 0x180 1 (setFn s fn { f with polls := 0, idle := true, lastPoll := true })
  else setFn s fn { f with polls := f.polls + 1 }

/-- The function reads `len` bytes at an offset of its doorbell page (R318, R320). -/
def readRecords (fn : FnId) (off len : Nat) (s : State) : State :=
  { s with hostOut := s.hostOut ++ [.read fn (.untranslated (BitVec.ofNat 64 (doorbell (fnOf s fn) + off))) len] }

/-- Completion rings that appear full. -/
def fullCqs (f : HostFn) : List Nat := (List.range 16).filter fun c => cqEnabled f c && cqFull (cqOf f c)

/-- `TAIL_POLL` (R321): the tail records and the completion heads that the function reads; while it does not poll,
only the heads of rings that appear full. -/
def execTailPoll (fn : FnId) (tails : List (BitVec 17)) (heads : List (BitVec 17)) (s : State) :
    Host.Outcome State Fault Refusal :=
  .next (fromHost fn (fun s =>
    let f := fnOf s fn
    if doorbell f = 0 then s
    else if f.quiet then (fullCqs f).foldl (fun s c => takeHead fn heads (readRecords fn (0x80 + 8 * c) 8 s) c) s
    else
      let s := readRecords fn 0x80 128 (readRecords fn 0 128 s)
      let s := (List.range 16).foldl (takeTail fn tails) s
      let s := (List.range 16).foldl (takeHead fn heads) s
      idleStep fn s) s)

/-! ### Translations (R349, R350) -/

/-- A far burst has been accepted whose line is neither cached nor on its way (R276). -/
def lineMissing (s : State) (r : StreamRun) (a : Nat) : Bool :=
  match farFn s r.cmd.region with
  | none => false
  | some fn =>
    let line := BitVec.ofNat 36 (a / 256)
    (lineAt (spillOf s fn.link) r.cmd.region line).isNone && !wanted (spillOf s fn.link) r.cmd.region line

/-- Far accesses that a run needs next: address and direction. -/
def nextFar (s : State) (r : StreamRun) : List (Nat × Bool) :=
  let d := r.cmd.desc
  let again := (r.bursts.filter fun b => burstFar d b && lineMissing s r (burstAddr d b)).map fun b => (burstAddr d b, false)
  again ++ match dKind d with
    | 1 => match nextWrite r with
      | some b => if dFarA d then [(burstAddr d ⟨b.offset, b.len, false⟩, true)] else []
      | none => []
    | k => match nextBurst r with
      | some b => if burstFar d b then [(burstAddr d b, decide (k = 2))] else []
      | none => []

/-- A run whose next access needs a page: its engine, its number among the engine's active runs, and the direction. -/
structure PageWaiter where
  engine : EngineId
  index : Nat
  write : Bool
  deriving DecidableEq, Repr

/-- The runs whose next access needs a page of a function. -/
def pageWaiters (s : State) (fn : FnId) (page : BitVec 52) : List PageWaiter :=
  s.engines.flatMap fun e => (activeRuns e.2).zipIdx.flatMap fun r =>
    if farFn s r.1.cmd.region ≠ some fn then []
    else ((nextFar s r.1).filter fun a => decide (farPage (fnOf s fn) a.1 = page)).map fun a => ⟨Fin.ofNat 256 e.1, r.2, a.2⟩

/-- The access is refused: its streams end with `0x0F` (R349 step 5). -/
def refuseAll (l : List PageWaiter) (s : State) : State := l.foldl (fun s w => focused w.engine w.index (refuseFar w.engine) s) s

/-- A page request; where as many are outstanding as may be it waits for one to end (R312, R349 step 4). -/
def askPage (fn : FnId) (page : BitVec 52) (s : State) : State :=
  let f := fnOf s fn
  if pageLimit f ≤ f.pageReqs.length then setFn s fn { f with pageWait := f.pageWait ++ [page] }
  else { setFn s fn { f with pageReqs := f.pageReqs ++ [page] } with
    hostOut := s.hostOut ++ [.pageRequest fn f.farPasid page] }

/-- A page request has ended: the one that has waited longest is sent. -/
def endPageReq (fn : FnId) (page : BitVec 52) (s : State) : State :=
  let f := fnOf s fn
  let f' := { f with pageReqs := f.pageReqs.erase page }
  match f.pageWait with
  | [] => setFn s fn f'
  | p :: rest => askPage fn p (setFn s fn { f' with pageWait := rest })

/-- Engines whose permission a translation lacks. -/
def lacking (l : List PageWaiter) (t : Translation) : List PageWaiter := l.filter fun w => !grants t w.write

/-- A translation response (R349 steps 3 to 5). -/
def translated (t : Translation) (s : State) : State :=
  let fn := t.fn
  let f := fnOf s fn
  let again := f.retried.contains t.page
  let s := setFn s fn { f with atsReqs := f.atsReqs.erase t.page, retried := f.retried.erase t.page }
  let s := if t.read || t.write then keepTranslation t s else dropTranslations fn.link (translates fn t.pasid t.page) s
  match lacking (pageWaiters s fn t.page) t with
  | [] => s
  | l => if again ∨ f.priFailed then refuseAll l s else askPage fn t.page s

/-- `TRANSLATION_COMPLETION` (R349). -/
def execTranslationCompletion (fn : FnId) (page : BitVec 52) (ans : AtsAnswer) (s : State) :
    Host.Outcome State Fault Refusal :=
  let f := fnOf s fn
  .next (if f.atsReqs.contains page then translated ⟨fn, f.farPasid, page, ans.hostPage, ans.read, ans.write⟩ s else s)

/-- Every page request that waits is refused. -/
def refuseWaiting (fn : FnId) (s : State) : State :=
  (fnOf s fn).pageWait.foldl (fun s p => refuseAll (pageWaiters s fn p) s) (modFn s fn fun f => { f with pageWait := [] })

/-- `PAGE_REQUEST_RESPONSE` (R349). -/
def execPageRequestResponse (fn : FnId) (page : BitVec 52) (ans : PriAnswer) (s : State) :
    Host.Outcome State Fault Refusal :=
  .next (if !(fnOf s fn).pageReqs.contains page then s
    else match ans with
      | .success => askTranslation fn page (modFn (endPageReq fn page s) fn fun f => { f with retried := f.retried ++ [page] })
      | .invalidRequest => refuseAll (pageWaiters s fn page) (endPageReq fn page s)
      | .responseFailure =>
        refuseWaiting fn (refuseAll (pageWaiters s fn page) (modFn s fn fun f =>
          { f with pageReqs := f.pageReqs.erase page, priFailed := true })))

/-- `ATS_INVALIDATION` (R350): the translations go at once; it completes once no access that uses one of them is under
way, and after 100 µs whatever is. At most 32 wait (R312): a host that sends more breaks the queue depth it was told. -/
def execAtsInvalidation (fn : FnId) (page : BitVec 52) (count : Nat) (s : State) : Host.Outcome State Fault Refusal :=
  .next (fromHost fn (fun s =>
    let s := dropTranslations fn.link
      (fun t => decide (t.fn = fn ∧ page.toNat ≤ t.page.toNat ∧ t.page.toNat < page.toNat + count)) s
    let f := fnOf s fn
    if lineInFlight s fn page.toNat count then
      (if f.invalidations.length < 32 then setFn s fn { f with invalidations := f.invalidations ++ [(page, count, s.clock.now + 120000)] } else s)
    else { s with hostOut := s.hostOut ++ [.invalidationDone fn page] }) s)

end Sys2Proof.Machine
end

