-- ==== Sys2Proof/Machine/Host.lean ====
section
/-!
DEFINITION. Descriptors (R323–R329), launches and notices as they are read (R335, R339), data ports
(R341–R347) and failed host accesses (R347, R351).
-/
namespace Sys2Proof.Machine
open Sys2Proof

/-! ### Descriptor fields (R324, R326, R327) -/

abbrev HostDesc := List Word
def hWord (d : HostDesc) (i : Nat) : Word := nth 0 d i
def hOp (d : HostDesc) : Nat := fld (hWord d 0) 0 8
def hFence (d : HostDesc) : Bool := bit (hWord d 0) 8
def hNoCqe (d : HostDesc) : Bool := bit (hWord d 0) 9
def hCid (d : HostDesc) : BitVec 16 := BitVec.ofNat 16 (fld (hWord d 0) 16 16)
/-- Arguments of a `LAUNCH` or `NOTIFY`. -/
def hArgAddr (d : HostDesc) : Nat := fld (hWord d 1) 11 20
def hArgLen (d : HostDesc) : Nat := fld (hWord d 1) 31 6
def hArgs (d : HostDesc) : List Word := (List.range (hArgLen d)).map fun i => hWord d (2 + i)
/-- Fields of a `PORT_OPEN`. -/
def pOut (d : HostDesc) : Bool := bit (hWord d 1) 6
def pPull (d : HostDesc) : Bool := bit (hWord d 1) 7
def pLocal (d : HostDesc) : Bool := bit (hWord d 1) 8
def pBurst (d : HostDesc) : Nat := 256 * 2 ^ fld (hWord d 1) 9 3
def pDecrypt (d : HostDesc) : Bool := bit (hWord d 1) 12
def pKeySlot (d : HostDesc) : Nat := fld (hWord d 1) 13 4
def pCursor (d : HostDesc) : Nat := fld (hWord d 2) 0 40
def pCell (d : HostDesc) : Nat := fld (hWord d 3) 0 11
def pMember (d : HostDesc) : Nat := fld (hWord d 3) 11 14
def pStep (d : HostDesc) : Nat := if fld (hWord d 4) 0 32 = 0 then pBurst d else fld (hWord d 4) 0 32
def pHostStep (d : HostDesc) : Nat := if fld (hWord d 4) 32 32 = 0 then pBurst d else fld (hWord d 4) 32 32
def pCount (d : HostDesc) : Nat := fld (hWord d 5) 0 40

/-! ### Checks at fetch (R329) -/

/-- No bit of a word is set from `n` upward. -/
def below (w : Word) (n : Nat) : Bool := decide (w.toNat < 2 ^ n)

/-- Words `l` hold 0. -/
def zeros (d : HostDesc) (l : List Nat) : Option Nat := l.find? fun i => decide (hWord d i ≠ 0)

/-- A burst of `b` bytes at `a + k·step`, for some k below `n`, touches the unit of 256 MiB `u`. -/
def burstsTouch (a step b n u : Nat) : Bool :=
  let k := (u * 2 ^ 28 + 1 - (a + b) + step - 1) / step
  decide (k < n ∧ a + k * step < (u + 1) * 2 ^ 28 ∧ u * 2 ^ 28 < a + k * step + b)

/-- Every burst of a bulk port lies in the region's windows (R329, R386). -/
def portRangeOk (x : Region) (d : HostDesc) : Bool :=
  let b := pBurst d
  let n := pCount d / b
  let rest := pCount d % b
  let a := pCursor d
  let last := a + n * pStep d
  (decide (n = 0) || (decide (a + (n - 1) * pStep d + b ≤ bulkTop) &&
    (List.range' (a / 2 ^ 28) ((a + (n - 1) * pStep d + b - 1) / 2 ^ 28 + 1 - a / 2 ^ 28)).all fun u =>
      !burstsTouch a (pStep d) b n u || unitIn x u))
  && (decide (rest = 0) || inWindows x last rest)

/-- The end of a port's last burst. -/
def portEnd (d : HostDesc) : Nat :=
  let n := (pCount d - 1) / pBurst d
  pCursor d + n * pStep d + (pCount d - n * pBurst d)

/-- Every burst of a local port ends below the unmapped local addresses. -/
def portLocalOk (d : HostDesc) : Bool := decide (portEnd d ≤ localTop)

/-- The range of a decrypting port, up to the end of its last burst (R398). An empty slot names no image: its blocks
fail (R399). -/
def portDecryptOk (x : Region) (d : HostDesc) : Bool :=
  !pDecrypt d || match tfind x.keys (pKeySlot d) with
    | none => true
    | some k =>
      let e := portEnd d
      let top := k.imageBase.toNat + k.imageLen.toNat
      decide (k.imageBase.toNat ≤ pCursor d ∧ e ≤ top)
        && (decide ((e - k.imageBase.toNat) % 4096 = 0) || decide (e = top))

/-- A stride field is 0 or a multiple of 64 that is at least the burst. -/
def strideOk (d : HostDesc) (v : Nat) : Bool := decide (v = 0) || (decide (v % 64 = 0) && decide (pBurst d ≤ v))

/-- First bad word of a `PORT_OPEN`, its ranges apart. -/
def openBad (d : HostDesc) : Option Nat :=
  if !below (hWord d 1) 17 ∨ 4 < fld (hWord d 1) 9 3 ∨ (pOut d ∧ (!pPull d ∨ pLocal d ∨ pDecrypt d))
      ∨ (pDecrypt d ∧ pLocal d) then some 1
  else if !below (hWord d 2) (if pLocal d then 20 else 40) ∨ pCursor d % (if pDecrypt d then 4096 else 64) ≠ 0 then some 2
  else if !below (hWord d 3) (if pLocal d then 25 else 0) then some 3
  else if !strideOk d (fld (hWord d 4) 0 32)
      ∨ (if pPull d then !strideOk d (fld (hWord d 4) 32 32) else decide (fld (hWord d 4) 32 32 ≠ 0)) then some 4
  else if !below (hWord d 5) 40 ∨ pCount d = 0 ∨ pCount d % 64 ≠ 0 then some 5
  else if (if pPull d then decide ((hWord d 6).toNat % 64 ≠ 0) else decide (hWord d 6 ≠ 0)) then some 6
  else zeros d [7]

/-- First bad word of a descriptor (R329); `x`: the bound region. -/
def descBad (x : Option Region) (d : HostDesc) : Option Nat :=
  if 5 < hOp d ∨ fld (hWord d 0) 10 6 ≠ 0 ∨ fld (hWord d 0) 32 32 ≠ 0 then some 0
  else match hOp d with
    | 1 | 2 =>
      if !below (hWord d 1) 37 ∨ hArgAddr d % 8 ≠ 0 ∨ 5 < hArgLen d
          ∨ (0 < hArgLen d ∧ localTop < hArgAddr d + 8 * hArgLen d)
          ∨ (hOp d = 2 ∧ fld (hWord d 1) 0 11 ≠ 0) then some 1
      else zeros d [7]
    | 3 => match openBad d with
      | some i => some i
      | none =>
        if pLocal d then (if portLocalOk d then none else some 2)
        else match x with
          | some x => if portRangeOk x d && portDecryptOk x d then none else some 2
          | none => none
    | 4 => if !below (hWord d 1) 6 then some 1 else zeros d [2, 3, 4, 5, 6, 7]
    | 5 => if (hWord d 1).toNat % 64 ≠ 0 then some 1 else zeros d [2, 3, 4, 5, 6, 7]
    | _ => zeros d [1, 2, 3, 4, 5, 6, 7]

/-! ### Fetching (R318, R323) -/

/-- Descriptor `d` of ring `r` completes with `st`. -/
def endDesc (fn : FnId) (r : Nat) (d : HostDesc) (st : BitVec 8) (info : Nat) (s : State) : State :=
  completeDesc fn r (hCid d) (BitVec.ofNat 8 (hOp d)) st (BitVec.ofNat 64 info) (hNoCqe d) s

/-- A fetched descriptor takes its number; it fails at once, or stands in its ring's queue (R316, R323, R329). -/
def takeDesc (fn : FnId) (r : Nat) (s : State) (d : HostDesc) : State :=
  let n := (fnOf s fn).nextSeq
  let s := modFn s fn fun f => { f with nextSeq := n + 1 }
  let reg := regionOfFn s fn
  match descBad (reg.map (regOf s)) d with
  | some i => endDesc fn r d 0x2A i s
  | none =>
    if reg.isNone ∧ 1 ≤ hOp d ∧ hOp d ≤ 4 then endDesc fn r d 0x2B 0 s
    else modFn s fn fun f => { f with sq := tset f.sq r { sqOf f r with queue := (sqOf f r).queue ++ [(n, d)] } }

/-- The KS-40 fetches from ring `r` now (R319, R321, R331, R455). -/
def mayFetch (f : HostFn) (r : Nat) : Bool :=
  sqEnabled f r && !(sqOf f r).error && cqEnabled f (sqCq f r) && decide (doorbell f ≠ 0)
    && !(cqFull (cqOf f (sqCq f r)) && decide (64 ≤ heldBack f))

/-- The position `k` entries on. -/
def bumpN (n : Nat) : Nat → BitVec 16 × Bool → BitVec 16 × Bool
  | 0, p => p
  | k + 1, p => bumpN n k (bump n p.1 p.2)

/-- The read of `k` descriptors at the head of ring `r` (R318). -/
def fetchRead (f : HostFn) (fn : FnId) (r k : Nat) : HostOut :=
  .read fn (.untranslated (BitVec.ofNat 64 (addr64 f (sqBase r) (sqBase r + 8) + 64 * (sqOf f r).head.toNat))) (64 * k)

/-- `DESCRIPTOR_FETCH` (R323): one read of at most 64 descriptors, in index order, none past the end of the ring. -/
def execDescriptorFetch (fn : FnId) (ring : Fin 16) (descs : List (List (BitVec 64))) (s : State) :
    Host.Outcome State Fault Refusal :=
  .next (fromHost fn (fun s =>
    let f := fnOf s fn
    let x := sqOf f ring.val
    let n := sqSize f ring.val
    let k := min (min (min 64 descs.length) (n - x.head.toNat)) (ringCount n x.head x.headWrap x.tail x.tailWrap)
    if !mayFetch f ring.val ∨ k = 0 then s
    else
      let p := bumpN n k (x.head, x.headWrap)
      let out := fetchRead f fn ring.val k
      let s := setFn { s with hostOut := s.hostOut ++ [out] } fn
        { f with sq := tset f.sq ring.val { x with head := p.1, headWrap := p.2 } }
      let s := writeRecord fn (0x100 + 8 * ring.val) (sqHeadRecord (sqOf (fnOf s fn) ring.val)) s
      (descs.take k).foldl (takeDesc fn ring.val) s) s)

/-! ### Starting (R323, R352) -/

/-- A launch or notice of the ring with a number below `n` has not started. -/
def ringPending (s : State) (fn : FnId) (ring : Fin 16) (n : Nat) : Bool :=
  s.regions.any fun e =>
    e.2.launches.any (fun l => decide (l.2.fn = fn ∧ l.2.ring = ring ∧ l.2.seq < n) && !l.2.started && !l.2.ended && !l.2.orphan)
    || e.2.notifies.any fun m => decide (m.fn = fn ∧ m.ring = ring ∧ m.seq < n)

/-- The oldest descriptor of a ring, where it has the opcode `op` and may start: in index order, and
with `FENCE` once all before it has completed and closed. -/
def startable (s : State) (fn : FnId) (ring : Fin 16) (op : Nat) : Option (Nat × HostDesc) :=
  let f := fnOf s fn
  match (sqOf f ring.val).queue with
  | [] => none
  | (n, d) :: _ =>
    if hOp d ≠ op then none
    else if hFence d ∧ ringBusy f ring n then none
    else if op ≠ 2 ∧ ringPending s fn ring n then none
    else some (n, d)

/-- Descriptor number `n` leaves its queue. -/
def popDesc (fn : FnId) (ring : Fin 16) (n : Nat) (s : State) : State :=
  modFn s fn fun f => { f with
    sq := tset f.sq ring.val { sqOf f ring.val with queue := (sqOf f ring.val).queue.filter fun d => decide (d.1 ≠ n) } }

/-- Descriptor number `n` is to complete later. -/
def goLive (fn : FnId) (ring : Fin 16) (n : Nat) (s : State) : State :=
  modFn s fn fun f => { f with sq := tset f.sq ring.val { sqOf f ring.val with live := (sqOf f ring.val).live ++ [n] } }

/-- Start the oldest descriptor of a ring, if it has opcode `op` and may start. -/
def withDesc (fn : FnId) (ring : Fin 16) (op : Nat) (f : Nat → HostDesc → State → State) (s : State) : State :=
  match startable s fn ring op with
  | none => s
  | some (n, d) => f n d (popDesc fn ring n s)

/-- As `withDesc`, for the opcodes that need a region (R316, R464). -/
def withRegion (fn : FnId) (ring : Fin 16) (op : Nat) (f : RegionId → Nat → HostDesc → State → State) (s : State) : State :=
  withDesc fn ring op (fun n d s => match regionOfFn s fn with
    | none => endDesc fn ring.val d 0x2B 0 s
    | some r => f r n d s) s

/-- `NOP_DESCRIPTOR` (R325). -/
def execNopDescriptor (fn : FnId) (ring : Fin 16) (s : State) : Host.Outcome State Fault Refusal :=
  .next (withDesc fn ring 0 (fun _ d s => endDesc fn ring.val d 0 0 s) s)

/-- The lowest free launch slot of a region (R335). -/
def freeLaunch (x : Region) : Option Nat := lowestFree 64 (x.launches.map Prod.fst)

/-- The oldest `LAUNCH` of a ring that has been read and holds no slot. -/
def firstLaunch (f : HostFn) (ring : Fin 16) : Option (Nat × HostDesc) :=
  (sqOf f ring.val).queue.find? fun d => decide (hOp d.2 = 1)

/-- A launch as it is read. -/
def newLaunch (fn : FnId) (ring : Fin 16) (n : Nat) (d : HostDesc) : Launch :=
  { fn := fn, ring := ring, cid := hCid d, cell := BitVec.ofNat 11 (fld (hWord d 1) 0 11)
    laddr := BitVec.ofNat 20 (hArgAddr d), args := hArgs d, started := false, orphan := false
    noCqe := hNoCqe d, ended := false, seq := n, fence := hFence d }

/-- `LAUNCH` (R335): the launch that has been read takes its slot and is pending there, whatever its start waits for;
with no slot free the ring stops here. -/
def execLaunch (fn : FnId) (ring : Fin 16) (s : State) : Host.Outcome State Fault Refusal :=
  .next (match firstLaunch (fnOf s fn) ring with
    | none => s
    | some (n, d) => match regionOfFn s fn with
      | none => endDesc fn ring.val d 0x2B 0 (popDesc fn ring n s)
      | some r => match freeLaunch (regOf s r) with
        | none => s
        | some k =>
          let s := goLive fn ring n (popDesc fn ring n s)
          modReg s r fun x => { x with launches := tset x.launches k (newLaunch fn ring n d) })

/-- `NOTIFY` (R339): the notice is pending like a launch. -/
def execNotify (fn : FnId) (ring : Fin 16) (s : State) : Host.Outcome State Fault Refusal :=
  .next (withRegion fn ring 2 (fun r n d s =>
    let m : PendNotify :=
      { fn := fn, ring := ring, cid := hCid d, laddr := BitVec.ofNat 20 (hArgAddr d), args := hArgs d
        noCqe := hNoCqe d, seq := n }
    modReg (goLive fn ring n s) r fun x => { x with notifies := x.notifies ++ [m] }) s)

/-- The block that `QUERY` writes (R328). -/
def queryBlock (s : State) (fn : FnId) : List Byte :=
  let r := regionOfFn s fn
  let e := match r with | some r => cellEntry s (regOf s r).cell.toNat | none => 0
  let w0 := s.deviceId.toNat + at_ fn.link.val 14 + at_ (match fn.vf with | some v => v.val | none => 255) 15
    + (match r with | some r => at_ r.val 23 + at_ 1 31 | none => 0)
  let w1 := match r with
    | some _ => cX e + at_ (cY e) 7 + at_ (cW e - 1) 14 + at_ (cH e - 1) 21
    | none => 0
  let w4 := match r with
    | some r => (regOf s r).quota.toNat + at_ ((List.range 256).filter (bit (regOf s r).engines)).length 11
    | none => 0
  natBytes 8 w0 ++ natBytes 8 w1 ++ natBytes 8 s.clock.dayCount.toNat ++ natBytes 8 (dayLen s) ++ natBytes 8 w4
    ++ List.replicate 24 0

/-- `QUERY` (R328): the block is written, then the entry. -/
def execQuery (fn : FnId) (ring : Fin 16) (s : State) : Host.Outcome State Fault Refusal :=
  .next (withDesc fn ring 5 (fun _ d s =>
    endDesc fn ring.val d 0 0 { s with hostOut := s.hostOut ++ [.write fn (.untranslated (hWord d 1)) (queryBlock s fn)] }) s)

/-! ### Data ports: bursts -/

/-- The bytes that a port has still to move. -/
def portLeft (p : DataPort) : Nat := pCount p.words - p.moved

/-- The next burst of a port, and the port after it. -/
def cutBurst (now : Nat) (p : DataPort) : PortBurst × DataPort :=
  let d := p.words
  let n := min (pBurst d) p.left
  (⟨pCount d - p.left, p.cursor, p.hostCursor, n, now⟩,
    { p with cursor := p.cursor + pStep d, hostCursor := (p.hostCursor + pHostStep d) % 2 ^ 64, left := p.left - n })

/-- A pull or outbound port has up to eight bursts outstanding (R343), while its link has a request free (R312). -/
def askBursts (fn : FnId) (k : Nat) : Nat → State → State
  | 0, s => s
  | n + 1, s =>
    match portOf s fn k with
    | none => s
    | some p =>
      if p.left = 0 ∨ 8 ≤ p.bursts.length ∨ !pPull p.words ∨ p.closing.isSome ∨ (!pOut p.words ∧ !linkFree s fn.link) then s
      else
        let (b, p) := cutBurst s.clock.now p
        let s := setPort fn k { p with bursts := p.bursts ++ [b] } s
        askBursts fn k n
          (if pOut p.words then s else { s with hostOut := s.hostOut ++ [.read fn (.untranslated (BitVec.ofNat 64 b.host)) b.len] })

/-- Bytes with marks, in sectors of 64 bytes, to bulk memory (R345). -/
def putSectors : Nat → Nat → List (Byte × Bool) → State → State
  | 0, _, _, s => s
  | n + 1, a, l, s =>
    let c := l.take 64
    putSectors n (a + 64) (l.drop 64) (bulkWrite a (c.map Prod.fst) (c.any Prod.snd) s)

/-- Words of a burst, a marked byte marking its word. -/
def markedWords : Nat → List (Byte × Bool) → List PWord
  | 0, _ => []
  | n + 1, l =>
    ⟨BitVec.ofNat 64 (bytesNat ((l.take 8).map Prod.fst)), (l.take 8).any Prod.snd⟩ :: markedWords n (l.drop 8)

/-- Header and source word of a write of a port (R344). -/
def portHeader (s : State) (r : RegionId) (k : Nat) (d : HostDesc) (laddr len seq : Nat) (tail poison : Bool) : Header :=
  BitVec.ofNat 128 (s.deviceId.toNat + at_ (pCell d) 14 + at_ (pMember d) 25 + at_ (regOf s r).gen.toNat 39
    + at_ (b2n tail) 55 + at_ (b2n poison) 57 + at_ 1 60 + at_ (if tail then seq % 4096 else 0) 64
    + at_ (laddr / 8) 86 + at_ (len / 8) 103 + at_ k 111)
def portSource (s : State) (l : LinkId) : SourceWord :=
  BitVec.ofNat 30 (s.deviceId.toNat + at_ 0x3FFF 14 + at_ l.val 28)

/-- The flits of one write. -/
def writeFlits (mid : Nat) (hd : Header) (src : SourceWord) (r : RegionId) (ws : List PWord) : List Flit :=
  let n := flitCount (8 * ws.length)
  (List.range n).map fun i => ⟨mid, hd, src, i, decide (i + 1 = n), (ws.drop (8 * i)).take 8, none, some r, none, none⟩

/-- The writes of a burst to a local destination, in pieces of at most 1,024 bytes (R344). `last`: nothing of the
port comes after it. -/
def sendLocal (fn : FnId) (r : RegionId) (k : Nat) (last : Bool) : Nat → Nat → List PWord → DataPort → State → DataPort × State
  | 0, _, _, p, s => (p, s)
  | n + 1, a, ws, p, s =>
    if ws = [] then (p, s)
    else
      let c := ws.take 128
      let tail := last && decide (ws.length ≤ 128)
      let hd := portHeader s r k p.words a (8 * c.length) p.writes tail (c.any fun w => w.poison)
      let shore := (memberShore s r (pCell p.words) (pMember p.words)).val
      let s := { s with
        nextMid := s.nextMid + 1
        shoreIn := tset s.shoreIn shore (tget [] s.shoreIn shore ++ writeFlits s.nextMid hd (portSource s fn.link) r c) }
      sendLocal fn r k last n (a + 1024) (ws.drop 128) { p with writes := p.writes + 1 } s

/-- Nothing of a port comes after what it moves now: it ends, or a `PORT_CLOSE` has cut it off. -/
def portLast (p : DataPort) : Bool :=
  p.bursts.isEmpty && p.buffer.isEmpty && (decide (p.left = 0) || p.closing.isSome)

/-- A burst of `b.len` bytes with these marks has been moved (R341, R345). -/
def movedBurst (b : PortBurst) (bad : Bool) (p : DataPort) : DataPort :=
  { p with
    moved := p.moved + b.len
    poisonAt := if bad then some (match p.poisonAt with | some o => min o b.offset | none => b.offset) else p.poisonAt }

/-- Inbound burst `i` of those that wait is written to bulk memory. -/
def writeBurst (fn : FnId) (k i : Nat) (r : RegionId) (p : DataPort) (s : State) : State :=
  match p.toBulk[i]? with
  | none => s
  | some (b, l) =>
    putSectors ((l.length + 63) / 64) b.dev l
      (serve (portReady r fn.link b true)
        (setPort fn k (movedBurst b (l.any Prod.snd) { p with toBulk := dropAt p.toBulk i }) s))

/-- The inbound bursts of a port go to bulk memory as far as their controllers and ring segments take them (R245). -/
def serveBulk (fn : FnId) (k : Nat) : Nat → State → State
  | 0, s => s
  | n + 1, s =>
    match portOf s fn k, regionOfFn s fn with
    | some p, some r =>
      match p.toBulk.findIdx? fun x => granted s (portReady r fn.link x.1 true) with
      | some i => serveBulk fn k n (writeBurst fn k i r p s)
      | none => s
    | _, _ => s

/-- A burst goes to its destination (R342–R345): to local memory as writes, to bulk memory once its controllers and ring
segments take it. A word that a `PORT_CLOSE` leaves part filled has zeros above (log 207). -/
def landBurst (fn : FnId) (k : Nat) (b : PortBurst) (l : List (Byte × Bool)) (s : State) : State :=
  match portOf s fn k with
  | none => s
  | some p =>
    if pLocal p.words then
      let p := movedBurst b (l.any Prod.snd) p
      match regionOfFn s fn with
      | none => setPort fn k p s
      | some r =>
        let (p, s) := sendLocal fn r k (portLast p) 4 b.dev (markedWords ((b.len + 7) / 8) l) p s
        setPort fn k p s
    else
      let p := { p with toBulk := p.toBulk ++ [({ b with ready := s.clock.now }, l)] }
      serveBulk fn k p.toBulk.length (setPort fn k p s)

/-! ### Decrypting ports (R346, R397, R399) -/

/-- Bursts of the next block, in order, once all have come. -/
def blockParts (p : DataPort) : Option (List (PortBurst × List (Byte × Bool))) :=
  let lo := 4096 * p.blocks
  let n := min 4096 (pCount p.words - lo)
  let mine := p.held.filter fun h => decide (lo ≤ h.1.offset ∧ h.1.offset < lo + 4096)
  if n = 0 ∨ (mine.map fun h => h.1.len).sum ≠ n then none
  else some ((List.range 16).flatMap fun i => mine.filter fun h => decide (h.1.offset = lo + 256 * i))

/-- A plaintext block goes to its bursts' destinations, their marks kept. -/
def landParts (fn : FnId) (k : Nat) : List (PortBurst × List (Byte × Bool)) → List Byte → State → State
  | [], _, s => s
  | (b, l) :: t, pt, s =>
    landParts fn k t (pt.drop b.len) (landBurst fn k b ((pt.take b.len).zip (l.map Prod.snd)) s)

/-- The port's next block, once its tag has been read (R397): its plaintext goes to the destinations, and a tag that
fails closes the port with the index `b` (R346). -/
def checkParts (fn : FnId) (k b : Nat) (p : DataPort) (parts : List (PortBurst × List (Byte × Bool))) (key : Option KeySlot)
    (s : State) : State :=
  match key.bind fun x => openBlock s x b ((parts.flatMap fun h => h.2).map Prod.fst) with
  | none => closePort fn k 0x0E (BitVec.ofNat 64 b) s
  | some pt =>
    landParts fn k parts pt (setPort fn k { p with
      blocks := p.blocks + 1
      held := p.held.filter fun h => !decide (4096 * p.blocks ≤ h.1.offset ∧ h.1.offset < 4096 * p.blocks + 4096) } s)

/-- The key slot of a port, and the index of its next block in the image (R397, R399). -/
def portKey (s : State) (fn : FnId) (p : DataPort) : Option KeySlot × Nat :=
  match (regionOfFn s fn).bind fun r => tfind (regOf s r).keys (pKeySlot p.words) with
  | some x => (some x, (pCursor p.words - x.imageBase.toNat) / 4096 + p.blocks)
  | none => (none, p.blocks)

/-- Check and write the blocks that are complete, each once the blocks before it stand in bulk memory and the read of
its tag is taken (R245); `ecc` is what the code finds in the tags (R241). -/
def openBlocks (fn : FnId) (k : Nat) (ecc : SectorEcc) : Nat → State → State
  | 0, s => s
  | n + 1, s =>
    match portOf s fn k, regionOfFn s fn with
    | some p, some r =>
      match blockParts p, portKey s fn p with
      | none, _ => s
      | some parts, (key, b) =>
        if p.toBulk ≠ [] then s
        else match key with
        | none => checkParts fn k b p parts none s
        | some x =>
          let c := tagReady s (256 + ehDie fn.link.val) r (ehDie fn.link.val) x b
          if !granted s c then s
          else openBlocks fn k ecc n (checkParts fn k b p parts key (readTag c x b ecc s))
    | _, _ => s

/-- What waits in an inbound port goes on as far as it can. -/
def advancePort (fn : FnId) (k : Nat) (ecc : SectorEcc) (s : State) : State :=
  match portOf s fn k with
  | none => s
  | some p => openBlocks fn k ecc (p.held.length + 1) (serveBulk fn k p.toBulk.length s)

/-- The data of a burst has come. -/
def burstIn (fn : FnId) (k : Nat) (b : PortBurst) (l : List (Byte × Bool)) (ecc : SectorEcc) (s : State) : State :=
  match portOf s fn k with
  | none => s
  | some p =>
    if pDecrypt p.words then advancePort fn k ecc (setPort fn k { p with held := p.held ++ [(b, l)] } s)
    else landBurst fn k b l s

/-! ### Push (R342) -/

/-- Discarded push bytes are counted (R342, R415). -/
def dropPush (fn : FnId) (n : Nat) (s : State) : State := modFn s fn fun f => { f with drop := satAdd f.drop n }

/-- Bursts that are full, or the last, leave the buffer. -/
def forwardBursts (fn : FnId) (k : Nat) (ecc : SectorEcc) : Nat → State → State
  | 0, s => s
  | n + 1, s =>
    match portOf s fn k with
    | none => s
    | some p =>
      let len := min (pBurst p.words) p.buffer.length
      if p.buffer = [] ∨ (p.buffer.length < pBurst p.words ∧ 0 < p.left) then s
      else
        let b : PortBurst := ⟨pCount p.words - p.left - p.buffer.length, p.cursor, 0, len, s.clock.now⟩
        let l := p.buffer.take len
        let p := { p with buffer := p.buffer.drop len, cursor := p.cursor + pStep p.words }
        forwardBursts fn k ecc n (burstIn fn k b l ecc (setPort fn k p s))

/-- The bytes of the burst being filled leave the buffer as the port closes (R352). They never complete a block, so that
those of a decrypting port stay behind, unchecked (R346). -/
def flushBuffer (fn : FnId) (k : Nat) (s : State) : State :=
  match portOf s fn k with
  | none => s
  | some p =>
    let n := p.buffer.length
    if n = 0 then s
    else
      let b : PortBurst := ⟨pCount p.words - p.left - n, p.cursor, 0, n, s.clock.now⟩
      let s := setPort fn k { p with buffer := [] } s
      if pDecrypt p.words then s else landBurst fn k b p.buffer s

/-- `PUSH_WRITE` (R314, R342): a write to BAR2, in which each port has a window of 64 KiB. -/
def execPushWrite (fn : FnId) (offset : BitVec 22) (data : List (BitVec 8)) (allEnabled : Bool) (read : PushRead)
    (s : State) : Host.Outcome State Fault Refusal :=
  let k := offset.toNat / 0x10000
  .next (if fn.vf.isNone then s
    else fromHost fn (fun s =>
      let s := if read.ep then noteAer fn aerPoisoned s else s
      match portOf s fn k with
      | none => dropPush fn data.length s
      | some p =>
        if pPull p.words ∨ p.closing.isSome ∨ !allEnabled then dropPush fn data.length s
        else
          let n := min data.length p.left
          let s := dropPush fn (data.length - n) s
          let p := { p with left := p.left - n, buffer := p.buffer ++ (data.take n).map fun b => (b, read.ep) }
          advancePort fn k read.ecc
            (forwardBursts fn k read.ecc (p.buffer.length / 256 + 1) (setPort fn k p s))) s)

/-! ### Pull and outbound (R343, R345) -/

/-- The bytes of an outbound burst, with the marks of their sectors. -/
def outBytes (s : State) (b : PortBurst) : List (Byte × Bool) :=
  (List.range b.len).map fun i => (mget s.bulk (b.dev + i), bulkBad s (b.dev + i))

/-- An outbound burst is written to the host, as zeros where it is poisoned. The manual gives its log
record no `INFO`: a free value. -/
def sendOut (fn : FnId) (k : Nat) (b : PortBurst) (s : State) : State :=
  match portOf s fn k with
  | none => s
  | some p =>
    let l := outBytes s b
    let bad := l.any Prod.snd
    let s := setPort fn k (movedBurst b bad p) s
    let s := if bad then let d := drawFree s; logEdie (ehDie fn.link.val) 0 (regionOfFn s fn) 0x21 d.1 d.2 else s
    { s with hostOut := s.hostOut ++ [dataWrite s fn (.untranslated (BitVec.ofNat 64 b.host))
        (if bad then List.replicate b.len 0 else l.map Prod.fst)] }

/-- An outbound burst that bulk memory serves now (R245): `ecc` is what the code finds in its sectors (R241). -/
def serveOut (fn : FnId) (k i : Nat) (p : DataPort) (b : PortBurst) (ecc : SectorEcc) (s : State) : State :=
  match regionOfFn s fn with
  | none => s
  | some r =>
    let c := portReady r fn.link b false
    if !granted s c then s
    else
      let s := setPort fn k { p with bursts := dropAt p.bursts i } (serve c s)
      askBursts fn k 8 (sendOut fn k b (eccRead b.dev b.len ecc s))

/-- Byte `i` of a pull burst came in a completion with EP (R345). -/
def cameBad (read : BurstRead) (i : Nat) : Bool := read.poisoned.any fun x => decide (x.1 ≤ i ∧ i < x.2)

/-- `PORT_BURST_DONE` (R343): the data of outstanding burst `i`, its bytes marked that completions with EP brought
(R345); of an outbound burst, which bulk memory gives, `data` and those marks say nothing. With no such burst what
waits in the port goes on, and it asks for more, where it can. -/
def execPortBurstDone (fn : FnId) (port : Fin 64) (i : Fin 8) (data : List (BitVec 8)) (read : BurstRead)
    (s : State) : Host.Outcome State Fault Refusal :=
  let k := port.val
  .next (match portOf s fn k with
    | none => s
    | some p => match p.bursts[i.val]? with
      | none => askBursts fn k 8 (advancePort fn k read.ecc s)
      | some b =>
        if pOut p.words then serveOut fn k i.val p b read.ecc s
        else if data.length ≠ b.len then s
        else
          let s := if read.poisoned.isEmpty then s else noteAer fn aerPoisoned s
          let s := setPort fn k { p with bursts := dropAt p.bursts i.val } s
          askBursts fn k 8 (burstIn fn k b (data.zipIdx.map fun x => (x.1, cameBad read x.2)) read.ecc s))

/-! ### Opening and closing (R341) -/

/-- `CELL` and `MEMBER` of a local port name a core of the region (R344). -/
def portDestOk (s : State) (r : RegionId) (d : HostDesc) : Bool :=
  let e := cellEntry s (pCell d)
  !pLocal d || (cellInRegion s r (pCell d) && decide (pMember d < cW e * cH e))

/-- A port as its `PORT_OPEN`, number `n` of its function, opens it. -/
def newPort (ring : Fin 16) (n : Nat) (d : HostDesc) : DataPort :=
  { cid := hCid d, ring := ring, seq := n, words := d, cursor := pCursor d, hostCursor := (hWord d 6).toNat
    left := pCount d, buffer := [], bursts := [], held := [], toBulk := [], moved := 0, writes := 0, landed := false
    arrived := 0, closing := none, poisonAt := none, blocks := 0 }

/-- `PORT_OPEN` (R341). -/
def execPortOpen (fn : FnId) (ring : Fin 16) (s : State) : Host.Outcome State Fault Refusal :=
  .next (withRegion fn ring 3 (fun r n d s =>
    let k := fld (hWord d 1) 0 6
    if (portOf s fn k).isSome then endDesc fn ring.val d 0x2A 1 s
    else if !portDestOk s r d then endDesc fn ring.val d 0x2A 3 s
    else askBursts fn k 8 (endDesc fn ring.val d 0 0 (setPort fn k (newPort ring n d) s))) s)

/-- A closing port has delivered what it has: its writes have landed, its bursts stand in bulk memory, and no whole block
waits for its tag (R352). -/
def portSettled (p : DataPort) : Bool :=
  (!pLocal p.words || decide (p.writes ≤ p.arrived)) && p.toBulk.isEmpty && !(pDecrypt p.words && (blockParts p).isSome)

/-- A closing port closes once everything it has taken stands in its destination (R352). -/
def tryClose (fn : FnId) (k : Nat) (s : State) : State :=
  match portOf s fn k with
  | none => s
  | some p =>
    if p.closing.isNone ∨ !portSettled p then s
    else closePort fn k 0x2D (BitVec.ofNat 64 (portLeft p)) s

/-- `PORT_CLOSE` (R341): the bytes pushed so far go to their destination, then the port closes with `0x2D` and the
bytes it has not moved (R352). A port that is closing counts as closed. -/
def execPortClose (fn : FnId) (ring : Fin 16) (s : State) : Host.Outcome State Fault Refusal :=
  .next (withRegion fn ring 4 (fun _ n d s =>
    let k := fld (hWord d 1) 0 6
    match portOf s fn k with
    | none => endDesc fn ring.val d 0x2A 1 s
    | some p =>
      if p.closing.isSome then endDesc fn ring.val d 0x2A 1 s
      else
        let p := { p with bursts := [], held := if pPull p.words then [] else p.held, closing := some (ring, n, hCid d, hNoCqe d) }
        tryClose fn k (flushBuffer fn k (setPort fn k p (goLive fn ring n s)))) s)

/-- Every byte of a port has arrived (R341). -/
def portDone (p : DataPort) : Bool :=
  decide (p.left = 0) && p.buffer.isEmpty && p.bursts.isEmpty && p.held.isEmpty && p.toBulk.isEmpty && (!pLocal p.words || p.landed)

/-- `PORT_CLOSED` (R341, R345): a finished port posts its entry, and so does one that a `PORT_CLOSE` ends. -/
def execPortClosed (fn : FnId) (port : Fin 64) (s : State) : Host.Outcome State Fault Refusal :=
  let s := match portOf s fn port.val with
    | some p => serveBulk fn port.val p.toBulk.length s
    | none => s
  .next (match portOf s fn port.val with
    | none => s
    | some p =>
      if p.closing.isSome then tryClose fn port.val s
      else if !portDone p then s
      else match p.poisonAt with
        | some o => closePort fn port.val 0x24 (BitVec.ofNat 64 o) s
        | none => closePort fn port.val 0 0 s)

/-! ### Failed host accesses (R333, R347, R351) -/

/-- The far address whose line a run's next write waits for: of a write stream or a fill (R276). -/
def awaitedFar (r : StreamRun) : Option Nat :=
  let d := r.cmd.desc
  if !dFarA d then none
  else match dKind d with
    | 1 => (nextWrite r).map fun b => burstAddr d ⟨b.offset, b.len, false⟩
    | 2 => (nextBurst r).map (burstAddr d)
    | _ => none

/-- The oldest request, void or not, for the line at a far address of a region. -/
def wantedAt (s : State) (r : RegionId) (void : Bool) (a : Nat) : Option (FnId × WantedLine) :=
  (farFn s r).bind fun fn =>
    ((spillOf s fn.link).wanted.find? fun w => isWanted r (BitVec.ofNat 36 (a / 256)) w && (void || !w.void)).map fun w => (fn, w)

/-- A line read fails: it is logged, and the line is no longer on its way (R351). -/
def loseRead (link : LinkId) (w : WantedLine) (s : State) : State :=
  let host := BitVec.ofNat 64 (farVirtual (fnOf s w.fn) (256 * w.line.toNat))
  let sp := spillOf s link
  let s := setSpill s link { sp with wanted := sp.wanted.erase w }
  endInvalidations w.fn (hostLog w.fn (some w.region) 0x2C host (noteTimeout w.fn s))

/-- The stream of run `r` loses the burst at far address `a`: it is cancelled, as `r` without it, and its thread gets E5
(R351). Others that wait for the same line ask for it again (DESIGN CHOICE, log 196). -/
def loseStream (e : EngineId) (r : StreamRun) (a : Nat) (s : State) : State :=
  match wantedAt s r.cmd.region false a with
  | none => s
  | some (fn, w) =>
    let s := loseRead fn.link w (putRun e r s)
    streamE5 r.cmd.hart 0x2C (farVirtual (fnOf s fn) a) (cancelEngine e 0x2C s)

/-- Outstanding burst `i` of an engine is lost (R351), those of cancelled streams first: their streams have ended, and
the burst alone goes. Past the outstanding bursts it is the line that a write or fill of the engine waits for. -/
def loseBurst (e : EngineId) (i : Nat) (s : State) : State :=
  let x := engineOf s e
  let dead := dyingBursts x
  match dead[i]? with
  | some (r, b) =>
    if !burstFar r.cmd.desc b then s
    else match wantedAt s r.cmd.region true (burstAddr r.cmd.desc b) with
      | none => s
      | some (fn, w) => loseRead fn.link w (setEngine s e { x with dying := dyingBurst e i x.dying })
  | none =>
    let k := i - dead.length
    if (burstAt (activeRuns x) k).isSome then
      onBurst e k (fun r j b s =>
        if burstFar r.cmd.desc b then
          loseStream e { r with bursts := dropAt r.bursts j } (burstAddr r.cmd.desc b) s
        else s) s
    else match (activeRuns x).findIdx? fun r => (awaitedFar r).any fun a => (wantedAt s r.cmd.region false a).isSome with
      | some j => focused e j (onRun e fun r s => match awaitedFar r with
          | some a => loseStream e r a s
          | none => s) s
      | none => s

/-- A burst, a write or a fill waits for a line on its way. -/
def lineServes (s : State) (w : WantedLine) : Bool :=
  !w.void && (!(waitingBursts s w.region w.line).isEmpty || s.engines.any fun e =>
    (activeRuns e.2).any fun r => decide (r.cmd.region = w.region) &&
      (awaitedFar r).any fun a => decide (a / 256 = w.line.toNat))

/-- A line read that serves nobody fails. -/
def loseLineRead (link : LinkId) (r : RegionId) (line : BitVec 36) (s : State) : State :=
  match (spillOf s link).wanted.find? (isWanted r line) with
  | some w => if lineServes s w then s else loseRead link w s
  | none => s

/-- A spill-cache write-back fails: the line is lost. -/
def loseWriteBack (link : LinkId) (r : RegionId) (line : BitVec 36) (s : State) : State :=
  let sp := spillOf s link
  let s := markLost link r line (setSpill s link { sp with lines := sp.lines.filter fun l => !isLine r line l })
  hostLog ⟨link, none⟩ (some r) 0x2C (BitVec.ofNat 64 (256 * line.toNat)) s

/-- Host address of the access that a port has made for its burst number `j` (R333): an outstanding read, or a write that
has been sent; and whether it is a write. -/
def portAccess (p : DataPort) (j : Nat) : Option (Nat × Bool) :=
  let o := j * pBurst p.words
  let out := p.bursts.find? fun b => decide (b.offset = o)
  if !pOut p.words then out.map fun b => (b.host, false)
  else if out.isSome ∨ pCount p.words - p.left ≤ o then none
  else some (((hWord p.words 6).toNat + j * pHostStep p.words) % 2 ^ 64, true)

/-- `COMPLETION_TIMEOUT` (R347, R351): a Completion Timeout, Unsupported Request or Completer Abort. -/
def execCompletionTimeout (t : HostAccess) (s : State) : Host.Outcome State Fault Refusal :=
  .next (match t with
    | .farBurst e i => loseBurst e i s
    | .line link r line => loseLineRead link r line s
    | .port fn port j => match (portOf s fn port.val).bind fun p => portAccess p j with
      | none => s
      | some (host, out) => closePort fn port.val 0x2C (BitVec.ofNat 64 host) (if out then s else noteTimeout fn s)
    | .query fn ring =>
      withDesc fn ring 5 (fun _ d s => endDesc fn ring.val d 0x2C (hWord d 1).toNat s) s
    | .writeBack link r line => loseWriteBack link r line s)

end Sys2Proof.Machine
end

