-- ==== Sys2Proof/Machine/Links.lean ====
section
/-!
DEFINITION. Device links: port states (R353–R357), link flits, credits, classes and replay (R358–R364),
TC0 windows (R365–R369), markers and alignment (R49–R51, R370–R374, R477), routing and domains (R375–R380).
-/
namespace Sys2Proof.Machine
open Sys2Proof

def portAt (s : State) (k : PortId) : LinkPort := tget LinkPort.reset s.ports k.val
def setPortL (s : State) (k : PortId) (p : LinkPort) : State := { s with ports := tset s.ports k.val p }
def modPortL (s : State) (k : PortId) (f : LinkPort → LinkPort) : State := setPortL s k (f (portAt s k))
/-- E-die of a port (R21). -/
def portDie (k : PortId) : Nat := elDie (k.val / 4)
def logPort (k : PortId) (r : Option RegionId) (cause : BitVec 8) (info : Word) (s : State) : State :=
  logEdie (portDie k) (k.val % 4) r cause info s

/-- Cycles of the core clock in units of 0.1 ns: 1.2 GHz. -/
def tenths (n : Nat) : Nat := n * 25 / 3

/-! ### Link flits (R358–R360) -/

def lKind (x : LinkFlit) : Nat := fld x.ctrl 0 2
def lTc (x : LinkFlit) : Nat := fld x.ctrl 2 2
def lSeq (x : LinkFlit) : BitVec 16 := BitVec.ofNat 16 (fld x.ctrl 4 16)
def lLast (x : LinkFlit) : Bool := bit x.ctrl 20
def lPoison (x : LinkFlit) (i : Nat) : Bool := bit x.ctrl (21 + i)

/-- The CRC of a flit, over the low half of its control word and its body. -/
def flitCrc (ctrl : Word) (body : List Word) : BitVec 32 := crc32c (natBytes 4 (fld ctrl 0 32) ++ wordsBytes body)

/-- A flit with its fields, sequence number 0 and no CRC yet. -/
def mkFlit (kind tc : Nat) (last : Bool) (poison : Nat) (body : List Word) : LinkFlit :=
  ⟨BitVec.ofNat 64 (kind + at_ tc 2 + at_ (b2n last) 20 + at_ poison 21), body⟩

/-- The flit as it is sent: its sequence number and CRC. -/
def sealFlit (seq : BitVec 16) (x : LinkFlit) : LinkFlit :=
  let lo := fld x.ctrl 0 4 + at_ seq.toNat 4 + at_ (fld x.ctrl 20 12) 20
  let crc := flitCrc (BitVec.ofNat 64 lo) x.body
  { x with ctrl := BitVec.ofNat 64 (lo + at_ crc.toNat 32) }

/-- Body of a header flit (R359). -/
def headerBody (hd : Header) (src : SourceWord) (domain : BitVec 16) (hops : Nat) : List Word :=
  [BitVec.ofNat 64 (fld hd 0 64), BitVec.ofNat 64 (fld hd 64 64), src.setWidth 64,
   BitVec.ofNat 64 (domain.toNat + at_ hops 16), 0, 0, 0, 0]

def bodyHeader (b : List Word) : Header := BitVec.ofNat 128 ((nth 0 b 0).toNat + (nth 0 b 1).toNat * 2 ^ 64)
def bodySource (b : List Word) : SourceWord := (nth 0 b 2).setWidth 30
def bodyDomain (b : List Word) : BitVec 16 := (nth 0 b 3).setWidth 16
def bodyHops (b : List Word) : Nat := fld (nth 0 b 3) 16 8

/-- The data flit that a mesh flit's words make, padded with zeros. -/
def dataFlit (tc : Nat) (f : Flit) : LinkFlit :=
  mkFlit 2 tc f.last (((List.range 8).map fun i => at_ (b2n (nth ⟨0, false⟩ f.words i).poison) i).sum)
    ((List.range 8).map fun i => (nth ⟨0, false⟩ f.words i).data)

/-! ### Credits (R361) -/

/-- Partition of the ingress buffer for a class, in flits. -/
def partition (t : Nat) : Nat := if t < 2 then 16384 else 12288
/-- Flits of the replay queue (R364). -/
def replayMax : Nat := 58254

def addCredits (c : Tab Nat) (l : List (Nat × Nat)) : Tab Nat :=
  l.foldl (fun c e => tset c e.1 (min (partition e.1) (tget 0 c e.1 + e.2))) c

/-- `n` flits of class `t` have left the ingress buffer: their credits are owed to the peer. -/
def owe (t n : Nat) (p : LinkPort) : LinkPort := { p with owed := tset p.owed t (tget 0 p.owed t + n) }

/-! ### Port states (R355, R357) -/

/-- The port stops being Up: what it keeps lets it return without loss. -/
def downPort (p : LinkPort) : LinkPort :=
  { p with
    retraining := if p.state = .up then some (p.peerDevice, p.peerPort) else p.retraining
    state := .down, handshakes := 0, window := none }

/-- The replay queue and the ingress buffer are lost (R357). Numbering starts afresh. -/
def discardPort (k : PortId) (s : State) : State :=
  let p := portAt s k
  let lost := p.replay.length + (p.rxOpen.map fun e => e.2.length).sum
  let s := setPortL s k { p with
    retraining := none, replay := [], resend := [], rxOpen := [], missed := none, txSeq := 0, rxSeq := 0, gap := false, owed := [] }
  logPort k none 0x30 (BitVec.ofNat 64 k.val) (count s (ctrLink k.val 0) lost)

/-- The port enters Up (R355, R357, R361). -/
def enterUp (k : PortId) (s : State) : State :=
  let p := portAt s k
  let s := match p.retraining with
    | none => s
    | some q => if q = (p.peerDevice, p.peerPort) then s else discardPort k s
  modPortL s k fun p => { p with
    state := .up, retraining := none, naks := 0, resend := p.replay
    credits := [(0, partition 0), (1, partition 1), (2, partition 2), (3, partition 3)] }

/-- The light at a port's laser input is in or out of its range (R354). -/
def setLaser (k : PortId) (ok : Bool) (s : State) : State :=
  let m := BitVec.ofNat 16 (2 ^ k.val)
  { s with pins := { s.pins with lasers := if ok then s.pins.lasers ||| m else s.pins.lasers &&& ~~~m } }

/-- `LASER_INPUT_LOSS` (R354). -/
def execLaserInputLoss (port : PortId) (s : State) : Host.Outcome State Fault Refusal :=
  .next (modPortL (setLaser port false s) port fun p => { downPort p with laserOk := false })

/-- A port with light and FEC lock leaves Down (R355). -/
def leaveDown (p : LinkPort) : LinkPort :=
  if p.state = .down ∧ p.laserOk ∧ p.fecLock then { p with state := .training, handshakes := 0, delays := [] } else p

/-- Ports train: boot has begun their training (R436 step 5) and `LINK_REFCLK` runs (R435). -/
def linksOn (s : State) : Bool := decide (5 ≤ s.boot.step) && s.pins.linkClk

/-- `LASER_INPUT_RESTORED` (R354, R355): an E-die out of reset sees the light. -/
def execLaserInputRestored (port : PortId) (s : State) : Host.Outcome State Fault Refusal :=
  let s := setLaser port true s
  .next (if 3 ≤ s.boot.step then modPortL s port fun p => leaveDown { p with laserOk := true } else s)

/-- `FEC_LOCK_GAINED` (R355). -/
def execFecLockGained (port : PortId) (s : State) : Host.Outcome State Fault Refusal :=
  .next (if linksOn s then modPortL s port fun p => leaveDown { p with fecLock := true } else s)

/-- `LINK_DOWN` (R2, R355–R357): a port in any state loses its light or its FEC lock; an Up port goes down for the
other causes too. It then retrains. -/
def execLinkDown (port : PortId) (why : DownCause) (s : State) : Host.Outcome State Fault Refusal :=
  let p := portAt s port
  .next (match why with
    | .laser => setPortL (setLaser port false s) port { downPort p with laserOk := false }
    | .fecLost => setPortL s port { downPort p with fecLock := false }
    | .noFlit => if p.state = .up then setPortL s port (downPort p) else s
    | .nakEight => if p.state = .up ∧ 8 ≤ p.naks then setPortL s port (downPort p) else s)

/-- `RETRAIN_TIMEOUT` (R357): 1 ms has passed. -/
def execRetrainTimeout (port : PortId) (s : State) : Host.Outcome State Fault Refusal :=
  .next (if (portAt s port).state ≠ .up ∧ (portAt s port).retraining.isSome then discardPort port s else s)

/-! ### Delay (R371) -/

/-- A number put in its place in a rising list, repeats kept. -/
def insertNat (x : Nat) : List Nat → List Nat
  | [] => [x]
  | y :: t => if x ≤ y then x :: y :: t else y :: insertNat x t

/-- Median; of an even number of results, the lower of the two in the middle. -/
def median (l : List Nat) : Nat := nth 0 (l.foldr insertNat []) ((l.length - 1) / 2)

/-- A control flit with an echo came at `arrival`: half of the round trip is one more result. -/
def measure (arrival : Nat) (body : List Word) (p : LinkPort) : LinkPort :=
  let p := { p with lastEcho := some ((nth 0 body 5).toNat, arrival) }
  let echo := (nth 0 body 6).toNat
  if echo = 0 ∨ arrival < echo then p
  else
    let l := p.delays ++ [(arrival - echo) / 2]
    let l := l.drop (l.length - 16)
    { p with delays := l, oneWay := BitVec.ofNat 20 (median l), measured := some arrival }

/-- A handshake in Training (R355, R371). -/
def takeHandshake (arrival : Nat) (body : List Word) (p : LinkPort) : LinkPort :=
  let dev := BitVec.ofNat 14 (fld (nth 0 body 4) 0 14)
  let prt := BitVec.ofNat 4 (fld (nth 0 body 4) 14 4)
  let same := decide (p.peerDevice = dev ∧ p.peerPort = prt)
  let p := { p with peerDevice := dev, peerPort := prt, handshakes := if same then p.handshakes + 1 else 1
                    delays := if same then p.delays else [] }
  measure arrival body p

/-- `HANDSHAKE` (R355). -/
def execHandshake (port : PortId) (body : List (BitVec 64)) (arrival : Nat) (s : State) :
    Host.Outcome State Fault Refusal :=
  .next (if (portAt s port).state ≠ .training ∨ fld (nth 0 body 0) 18 2 ≠ 1 then s
    else
      let s := modPortL s port (takeHandshake arrival body)
      let p := portAt s port
      if 3 ≤ p.handshakes ∧ p.delays ≠ [] then enterUp port s else s)

/-! ### Alignment (R49–R51, R373, R477) -/

/-- Offset of the nearest own Daybreak from a reference Daybreak, in 0.1 ns. -/
def refOffset (s : State) (ref : Int) : Int :=
  let own : Int := (tenths (s.clock.now - s.clock.cycle) : Nat)
  let next : Int := (tenths (s.clock.now - s.clock.cycle + dayLen s) : Nat)
  if (own - ref).natAbs ≤ (next - ref).natAbs then own - ref else next - ref

/-- A reference Daybreak is measured; of several in a Day the nearest counts (R477). What it shows is judged at the end of
the Day. -/
def takeReference (ref : Int) (s : State) : State :=
  let off := refOffset s ref
  if s.clock.refSeen ∧ s.clock.measured.natAbs ≤ off.natAbs then s
  else { s with clock := { s.clock with offset := BitVec.ofInt 24 off, measured := off, refSeen := true } }

/-- `DAYBREAK_IN_EDGE` (R51, R477): a rising edge at `arrival`, in 0.1 ns. -/
def execDaybreakInEdge (arrival : Nat) (s : State) : Host.Outcome State Fault Refusal :=
  .next (if s.dev ≠ .midnight ∧ s.clock.src = 1 then takeReference ((arrival : Int) - 30) s else s)

/-- A Daybreak marker of port `k` (R47, R371, R373). -/
def takeMarker (k : PortId) (day : BitVec 48) (ofs : BitVec 24) (arrival : Nat) (s : State) : State :=
  if s.dev = .midnight ∨ s.clock.src ≠ 2 ∨ s.clock.port.toNat ≠ k.val ∨ (portAt s k).state ≠ .up then s
  else
    let s := takeReference ((arrival : Int) - (ofs.toNat : Int) - ((portAt s k).oneWay.toNat : Int)) s
    if s.dev = .twilight ∧ 16 ≤ s.clock.aligned ∧ !s.clock.dayTaken then
      { s with clock := { s.clock with dayCount := day, dayTaken := true } }
    else s

/-- `DAYBREAK_MARKER` (R371). -/
def execDaybreakMarker (port : PortId) (day : BitVec 48) (ofs : BitVec 24) (arrival : Nat) (s : State) :
    Host.Outcome State Fault Refusal :=
  .next (takeMarker port day ofs arrival s)

/-! ### Control flits (R360, R361, R364) -/

/-- Acknowledged flits leave the replay queue. -/
def ackTo (n : BitVec 16) (p : LinkPort) : LinkPort :=
  match p.replay with
  | [] => p
  | f :: _ =>
    let k := (n - lSeq f).toNat
    if p.replay.length < k then p
    else
      let l := p.replay.drop k
      { p with replay := l, resend := if l.length < p.resend.length then l else p.resend
               naks := if k = 0 then p.naks else 0 }

/-- Rewind to the mark; every NAK counts (R357). -/
def rewind (p : LinkPort) : LinkPort := { p with resend := p.replay, naks := p.naks + 1 }

/-- 1 ms has passed since the last delay result (R371). -/
def measureDue (arrival : Nat) (p : LinkPort) : Bool :=
  match p.measured with | some t => decide (t + 10000000 ≤ arrival) | none => true

/-- A control flit in Up. -/
def takeControl (arrival : Nat) (body : List Word) (p : LinkPort) : LinkPort :=
  let w := nth 0 body 0
  let c := nth 0 body 1
  let p := ackTo (BitVec.ofNat 16 (fld w 0 16)) p
  let p := { p with credits := addCredits p.credits [(0, fld c 0 16), (1, fld c 16 16), (2, fld c 32 16), (3, fld c 48 16)] }
  let p := if measureDue arrival p then measure arrival body p
    else { p with lastEcho := some ((nth 0 body 5).toNat, arrival) }
  if bit w 16 then rewind p else p

/-- `CONTROL_FLIT` (R360): a control flit whose CRC is good, other than a handshake. -/
def execControlFlit (port : PortId) (body : List (BitVec 64)) (arrival : Nat) (s : State) :
    Host.Outcome State Fault Refusal :=
  .next (if (portAt s port).state ≠ .up ∨ fld (nth 0 body 0) 18 2 ≠ 0 then s
    else
      let s := modPortL s port (takeControl arrival body)
      let s := if bit (nth 0 body 0) 17 then
          takeMarker port ((nth 0 body 2).setWidth 48) ((nth 0 body 3).setWidth 24) arrival s
        else s
      if 8 ≤ (portAt s port).naks then modPortL s port downPort else s)

/-- `CONTROL_FLIT_DUE` (R361, and R355 in Training). -/
def execControlFlitDue (port : PortId) (s : State) : Host.Outcome State Fault Refusal :=
  .next (if (portAt s port).state = .down then s else modPortL s port fun p => { p with ctrlDue := true })

/-- `NAK_RESEND` (R364): the gap persists. -/
def execNakResend (port : PortId) (s : State) : Host.Outcome State Fault Refusal :=
  .next (if (portAt s port).state = .up ∧ (portAt s port).gap then
      modPortL s port fun p => { p with nakDue := true, ctrlDue := true }
    else s)

/-- The control flit a port sends now (R360, R370, R371). -/
def controlBody (s : State) (k : PortId) (p : LinkPort) : List Word :=
  let now := tenths s.clock.now
  let hs := decide (p.state = .training)
  let echo := match p.lastEcho with | some (tx, at0) => tx + (now - at0) | none => 0
  [BitVec.ofNat 64 (p.rxSeq.toNat + at_ (b2n p.nakDue) 16 + at_ (b2n p.markerDue) 17 + at_ (b2n hs) 18),
   BitVec.ofNat 64 (((List.range 4).map fun t => at_ (tget 0 p.owed t % 65536) (16 * t)).sum),
   if p.markerDue then s.clock.dayCount.setWidth 64 else 0,
   if p.markerDue then BitVec.ofNat 64 (tenths s.clock.cycle % 2 ^ 24) else 0,
   if hs then BitVec.ofNat 64 (s.deviceId.toNat + at_ k.val 14) else 0,
   BitVec.ofNat 64 now, BitVec.ofNat 64 echo, 0]

def emitFlit (k : PortId) (x : LinkFlit) (s : State) : State := { s with linkOut := s.linkOut ++ [(k, x)] }

/-- A due control flit leaves. -/
def sendControl (k : PortId) (s : State) : State :=
  let p := portAt s k
  let x := sealFlit 0 (mkFlit 3 0 false 0 (controlBody s k p))
  emitFlit k x (setPortL s k { p with ctrlDue := false, nakDue := false, markerDue := false, owed := [] })

/-! ### TC0 windows (R365–R368) -/

def leOwner (e : BitVec 128) : Nat := fld e 1 9
def leStart (e : BitVec 128) : Nat := fld e 16 24
def leDur (e : BitVec 128) : Nat := fld e 40 16 + 1
def leRepeat (e : BitVec 128) : Nat := fld e 56 16
def leStride (e : BitVec 128) : Nat := fld e 72 24
/-- Last cycle of the last window. -/
def leLast (e : BitVec 128) : Nat := leStart e + leRepeat e * leStride e + (leDur e - 1)

def windowBank (p : LinkPort) : List (BitVec 128) := if p.active then p.bank1 else p.bank0

/-- First offset of the window of an entry that covers offset `off`. -/
def windowStart (e : BitVec 128) (off : Nat) : Option Nat :=
  if !bit e 0 ∨ off < leStart e then none
  else
    let j := if leStride e = 0 then 0 else min (leRepeat e) ((off - leStart e) / leStride e)
    let a := leStart e + j * leStride e
    if off < a + leDur e then some a else none

/-- The window a port runs at an offset: owner, first offset, length. Windows run in Daylight, as route
entries do (R60). -/
def windowAt (s : State) (p : LinkPort) (off : Nat) : Option (BitVec 9 × Nat × Nat) :=
  if s.dev ≠ .daylight then none
  else (windowBank p).findSome? fun e =>
    (windowStart e off).map fun a => (BitVec.ofNat 9 (leOwner e), a, leDur e)

/-- Flits a window of `w` cycles may start (R366). -/
def windowFlits (w : Nat) : Nat := w * 125 / 54

/-- The port's window at an offset, newly opened if it was not open yet. -/
def openAt (s : State) (p : LinkPort) (off : Nat) : LinkPort :=
  match windowAt s p off with
  | none => { p with window := none }
  | some (o, a, w) => match p.window with
    | some (o', a', _) => if o = o' ∧ a = a' then p else { p with window := some (o, a, windowFlits w) }
    | none => { p with window := some (o, a, windowFlits w) }

/-- The first window of an entry that begins at or after an offset. -/
def nextWindow (e : BitVec 128) (off : Nat) : Option Nat :=
  if !bit e 0 then none
  else if off ≤ leStart e then some (leStart e)
  else if leStride e = 0 then none
  else
    let j := (off - leStart e + leStride e - 1) / leStride e
    if j ≤ leRepeat e then some (leStart e + j * leStride e) else none

/-- `LINK_WINDOW_OPEN` (R366): the next window of entry `i` of the active bank opens. -/
def execLinkWindowOpen (port : PortId) (i : Fin 256) (s : State) : Host.Outcome State Fault Refusal :=
  let p := portAt s port
  .next (if s.dev ≠ .daylight then s
    else match nextWindow (nth 0 (windowBank p) i.val) (s.clock.cycle - 512) with
      | none => s
      | some a => modPortL (toCycle (512 + a) s) port fun p => openAt s p a)

/-- Two entries have windows that share a cycle. -/
def windowsClash (e f : BitVec 128) : Bool :=
  (List.range (leRepeat e + 1)).any fun i =>
    let a := leStart e + i * leStride e
    (List.range (leRepeat f + 1)).any fun j => overlap a (leDur e) (leStart f + j * leStride f) (leDur f)

/-- A region with that number exists at the Daybreak `n`. -/
def existsAt (s : State) (n r : Nat) : Bool :=
  let x := regOf s (Fin.ofNat 256 r)
  let due := x.pending.filter fun e => decide (e.1 ≤ n)
  (x.valid || due.any fun e => decide (e.2 = .create)) && !due.any fun e => decide (e.2 = .delete)

/-- One entry is sound (R365, R367): a reserved value is an `OWNER` above 256. A 1 in bits [15:10] or [127:96] is ignored
(R11) and not kept (DEDUCED, log 203). -/
def windowOk (s : State) (n : Nat) (e : BitVec 128) : Bool :=
  let noon := s.clock.dayDivNext.toNat * 256 - 512 - s.clock.duskDivNext.toNat * 64
  decide (leOwner e ≤ 256)
  && (!bit e 0 || ((decide (leRepeat e = 0) || decide (leDur e ≤ leStride e)) && decide (leLast e < noon)
    && (decide (leOwner e = 256) || existsAt s n (leOwner e))))

/-- An entry as a bank holds it: reserved bits read 0 (R11). -/
def windowBits (e : BitVec 128) : BitVec 128 := BitVec.ofNat 128 (fld e 0 10 + at_ (fld e 16 80) 16)

/-- No two valid entries of a bank clash. -/
def windowsClear : List (BitVec 128) → Bool
  | [] => true
  | e :: t => (!bit e 0 || t.all fun f => !bit f 0 || !windowsClash e f) && windowsClear t

/-- A load that has come to its end is rejected, or committed for the Daybreak that R41 names. -/
def endWindowLoad (port : PortId) (l : List (BitVec 128)) (s : State) : State :=
  let n := effDay s
  let s := modPortL s port fun p => { p with loading := none }
  if 256 < l.length ∨ !l.all (windowOk s n) ∨ !windowsClear l then answer none 0x19 s
  else answer none 0 (modPortL s port fun p =>
    if n = s.clock.dayNo + 2 then { p with loadNext := some (n, l) } else { fillInactive l p with loaded := some n })

/-- `LINK_WINDOW_LOAD` (R367): the next entries of a load of the inactive bank; `more` follow (log 175). What was
committed before is overwritten, save in Dusk the program of the coming Daybreak. -/
def execLinkWindowLoad (port : PortId) (piece : WindowPiece) (s : State) : Host.Outcome State Fault Refusal :=
  .next (operatorCmd (fun s =>
    let p := portAt s port
    let l := p.loading.getD [] ++ piece.entries.map windowBits
    let s := if s.clock.phase = .dusk ∧ s.dev ≠ .midnight then s else setPortL s port { p with loaded := none }
    if piece.more then answer none 0 (modPortL s port fun p => { p with loading := some l }) else endWindowLoad port l s) s)

/-! ### Sending (R362–R364, R366) -/

/-- The message whose flit a class sends next: the one it has begun, else the oldest, in a window the
oldest of the owner. -/
def classNext (p : LinkPort) (t : Nat) (owner : Option (Option RegionId)) : Option LinkMsg :=
  let l := p.queue.filter fun m => decide (m.tc.toNat = t)
  let ok : LinkMsg → Bool := fun m => match owner with | some o => decide (m.owner = o) | none => true
  match l.find? fun m => m.started with
  | some m => if ok m && !m.flits.isEmpty then some m else none
  | none => match l.find? ok with
    | some m => if m.flits ≠ [] then some m else none
    | none => none

/-- A class can start a flit: one is ready and a credit is held. -/
def classReady (p : LinkPort) (t : Nat) (owner : Option (Option RegionId)) : Bool :=
  (classNext p t owner).isSome && decide (0 < tget 0 p.credits t)

/-- Class at a position of the weighted round robin 4 : 2 : 1 (R363). -/
def rrClass (i : Nat) : Nat := nth 1 [1, 1, 1, 1, 2, 2, 3] (i % 7)

/-- The class that sends now, and the round robin position after it. -/
def pickClass (p : LinkPort) : Option (Nat × Nat) :=
  if classReady p 0 none then some (0, p.rr)
  else ((List.range 7).find? fun i => classReady p (rrClass (p.rr + i)) none).map fun i =>
    (rrClass (p.rr + i), (p.rr + i + 1) % 7)

/-- The next flit of message `m` is sent: it joins the replay queue. -/
def sendNew (k : PortId) (m : LinkMsg) (s : State) : State :=
  match m.flits with
  | [] => s
  | f :: rest =>
    let p := portAt s k
    let x := sealFlit p.txSeq f
    let t := m.tc.toNat
    let m' := { m with flits := rest, started := true }
    let queue := (p.queue.map fun q => if q.mid = m.mid then m' else q).filter fun q => !(q.flits.isEmpty && q.whole)
    emitFlit k x (setPortL s k { p with
      txSeq := p.txSeq + 1, replay := p.replay ++ [x], credits := tset p.credits t (tget 0 p.credits t - 1), queue := queue })

/-- A rewound flit is sent again; a TC0 flit is counted (R369). -/
def sendAgain (k : PortId) (s : State) : State :=
  let p := portAt s k
  match p.resend with
  | [] => s
  | f :: rest =>
    let s := emitFlit k f (setPortL s k { p with resend := rest })
    if lTc f = 0 then count s (ctrLink k.val 1) 1 else s

/-- One more flit has started in the open window. -/
def spendWindow (p : LinkPort) : LinkPort :=
  { p with window := p.window.map fun w => (w.1, w.2.1, w.2.2 - 1) }

/-- The flits left in the port's window; outside windows nothing limits them. -/
def windowLeft (p : LinkPort) : Bool := match p.window with | some (_, _, n) => decide (0 < n) | none => true

/-- The owner of the open window. -/
def windowOwner (o : BitVec 9) : Option RegionId := if o.toNat < 256 then some (Fin.ofNat 256 o.toNat) else none

/-- The port starts its next flit (R363, R366). -/
def startFlit (k : PortId) (s : State) : State :=
  let p := portAt s k
  let live := decide (p.state = .up) && s.assigned
  if live && !p.resend.isEmpty && windowLeft p then modPortL (sendAgain k s) k spendWindow
  else if p.ctrlDue || p.nakDue || p.markerDue then (if p.state = .down then s else sendControl k s)
  else if !live || decide (replayMax ≤ p.replay.length) || !windowLeft p then s
  else match p.window with
    | some (o, _, _) =>
      match classNext p 0 (some (windowOwner o)) with
      | some m => if 0 < tget 0 p.credits 0 then modPortL (sendNew k m s) k spendWindow else s
      | none => s
    | none => match pickClass p with
      | some (t, rr) => match classNext p t none with
        | some m => sendNew k m (setPortL s k { p with rr := rr })
        | none => s
      | none => s

/-- `LINK_FLIT_SEND` (R363): at D+`cycle`. -/
def execLinkFlitSend (port : PortId) (cycle : BitVec 24) (s : State) : Host.Outcome State Fault Refusal :=
  let s := toCycle cycle.toNat s
  .next (startFlit port (modPortL s port fun p =>
    if cycle.toNat < 512 then { p with window := none } else openAt s p (cycle.toNat - 512)))

/-! ### Routing (R375–R380) -/

/-- The port the route table names for a device (R377). -/
def routeTo (s : State) (dev : Nat) : Option PortId :=
  let e := tget 0 s.routes dev
  let up := fun k : PortId => decide ((portAt s k).state = .up)
  let a : PortId := Fin.ofNat 16 (fld e 0 4)
  let b : PortId := Fin.ofNat 16 (fld e 4 4)
  if bit e 8 ∧ up a then some a else if bit e 9 ∧ up b then some b else none

/-- A message without a route is dropped at E-die `die` (R375, R377). -/
def noRoute (die dev : Nat) (r : Option RegionId) (s : State) : State :=
  logEdie die 0 r 0x32 (BitVec.ofNat 64 dev) (count s (ctrEdie die 9) 1)

/-- A message is queued on a port. -/
def queueMsg (k : PortId) (m : LinkMsg) (s : State) : State := modPortL s k fun p => { p with queue := p.queue ++ [m] }

/-- The first flit of link traffic at E-die `die` (R375–R377, R380). -/
def linkOutFirst (die : Nat) (f : Flit) (s : State) : State :=
  let dev := hDevice f.header
  let domain := match f.region with | some r => (regOf s r).domain | none => 0
  if !s.assigned then noRoute die dev f.region s
  else if domain = 0 then count s (ctrEdie die 11) 1
  else match routeTo s dev with
    | none => noRoute die dev f.region s
    | some k =>
      let tc := hTc f.header
      let head := mkFlit 1 tc f.words.isEmpty 0 (headerBody f.header f.source domain 64)
      queueMsg k ⟨f.mid, BitVec.ofNat 2 tc, f.region,
        if f.words = [] then [head] else [head, dataFlit tc f], false, f.last⟩ s

/-- A later flit joins its message, or is dropped with it. -/
def linkOutMore (f : Flit) (s : State) : State :=
  { s with ports := tmap (fun _ p => { p with queue := p.queue.map fun m =>
      if m.mid = f.mid then { m with flits := m.flits ++ [dataFlit (hTc f.header) f], whole := f.last } else m }) s.ports }

/-- A flit of link traffic at E-die `die` (R376). -/
def linkOutFlit (die : Nat) (f : Flit) (s : State) : State :=
  if f.index = 0 then linkOutFirst die f s else linkOutMore f s

/-! ### Receiving (R362, R364, R378–R380) -/

/-- A message in transit (R378). -/
def transit (k : PortId) (l : List LinkFlit) (s : State) : State :=
  match l with
  | [] => s
  | h :: rest =>
    let hops := bodyHops h.body
    let dev := hDevice (bodyHeader h.body)
    if hops = 0 then
      let s := count s (ctrEdie (portDie k) 10) 1
      let d := drawFree s
      logPort k none 0x33 d.1 d.2
    else match routeTo s dev with
      | none => noRoute (portDie k) dev none s
      | some q =>
        let body := headerBody (bodyHeader h.body) (bodySource h.body) (bodyDomain h.body) (hops - 1)
        let h := mkFlit 1 (lTc h) (lLast h) 0 body
        queueMsg q ⟨s.nextMid, BitVec.ofNat 2 (lTc h), none, h :: rest, false, true⟩ { s with nextMid := s.nextMid + 1 }

/-- The mesh flits of a received message. -/
def meshFlits (mid : Nat) (l : List LinkFlit) : List Flit :=
  match l with
  | [] => []
  | h :: rest =>
    let hd := bodyHeader h.body
    let n := flitCount (hLen hd)
    (List.range n).map fun i =>
      let d := nth ⟨0, []⟩ rest i
      ⟨mid, hd, bodySource h.body, i, decide (i + 1 = n),
        (List.range (min 8 (hLen8 hd - 8 * i))).map fun w => ⟨nth 0 d.body w, lPoison d w⟩, none, none, none, none⟩

/-- Core a message for this device is for, and its region. -/
def messageFor (s : State) (k : PortId) (hd : Header) : CoreId × Option RegionId :=
  let e := replicaEntry s (32 + portDie k) (hCell hd)
  let core := landsAt e (hMember hd)
  (core, if hCell hd = 0 then regionOf s core else some (Fin.ofNat 256 (cRegion e)))

/-- A message for this device (R36, R37, R379, R380): one of TC0 waits apart from the others. Flits whose slots have been
missed are discarded (R261, R369). -/
def arriveHere (k : PortId) (missed : Option (Nat × Nat)) (l : List LinkFlit) (s : State) : State :=
  match l with
  | [] => s
  | h :: _ =>
    let hd := bodyHeader h.body
    let die := portDie k
    let e := replicaEntry s (32 + die) (hCell hd)
    let (core, r) := messageFor s k hd
    if !cellNamed e (hMember hd) then count s (ctrEdie die 0) 1
    else
      let dom := match r with | some r => (regOf s r).domain | none => 0
      if r.isSome ∧ (dom = 0 ∨ dom ≠ bodyDomain h.body) then
        logPort k r 0x31 ((bodySource h.body).setWidth 64) (count s (ctrEdie die 11) 1)
      else
        let p := (shoreOf s core).val
        let flits := match missed with
          | some (mid, n) => (meshFlits mid l).drop n
          | none => meshFlits s.nextMid l
        let s := { s with nextMid := s.nextMid + 1 }
        if hTc hd = 0 then { s with shoreTc0 := tset s.shoreTc0 p (tget [] s.shoreTc0 p ++ flits) }
        else { s with shoreIn := tset s.shoreIn p (tget [] s.shoreIn p ++ flits) }

/-- A whole message leaves the ingress buffer. -/
def forward (k : PortId) (t : Nat) (l : List LinkFlit) (s : State) : State :=
  let missed := if t = 0 then (portAt s k).missed else none
  let s := modPortL s k fun p => owe t l.length
    { p with rxOpen := tdel p.rxOpen t, missed := if t = 0 then none else p.missed }
  match l with
  | [] => s
  | h :: _ => if hDevice (bodyHeader h.body) = s.deviceId.toNat then arriveHere k missed l s else transit k l s

/-- An accepted flit enters the ingress buffer (R361, R362). A header flit that comes while a message of its class is open
takes its place, and a data flit without an open message is dropped: both leave the buffer, their credits are owed, and
neither is counted (DESIGN CHOICE, log 202). -/
def ingressFlit (k : PortId) (x : LinkFlit) (s : State) : State :=
  let p := portAt s k
  let t := lTc x
  let held := tget [] p.rxOpen t
  if lKind x = 2 ∧ held = [] then setPortL s k (owe t 1 p)
  else
    let p := if lKind x = 1 then owe t held.length p else p
    let l := if lKind x = 1 then [x] else held ++ [x]
    let s := setPortL s k
      { p with rxOpen := tset p.rxOpen t l, missed := if lKind x = 1 ∧ t = 0 then none else p.missed }
    if lLast x then forward k t l s else s

/-- `LINK_FLIT_RECEIVED` (R360, R364): of any kind, where its CRC fails. -/
def execLinkFlitReceived (port : PortId) (ctrl : BitVec 64) (body : List (BitVec 64)) (s : State) :
    Host.Outcome State Fault Refusal :=
  let x : LinkFlit := ⟨ctrl, body⟩
  let p := portAt s port
  let bad := decide (body.length ≠ 8 ∨ fld ctrl 32 32 ≠ (flitCrc ctrl body).toNat)
  .next (if p.state ≠ .up ∨ !s.assigned ∨ (!bad ∧ lKind x ≠ 1 ∧ lKind x ≠ 2) then s
    else if bad ∨ lSeq x ≠ p.rxSeq then setPortL s port { p with gap := true, nakDue := p.nakDue || !p.gap }
    else
      let n := p.rxCount + 1
      let p := { p with rxSeq := p.rxSeq + 1, gap := false, rxCount := n % 64, ctrlDue := p.ctrlDue || decide (n = 64) }
      ingressFlit port x (setPortL s port p))

end Sys2Proof.Machine
end

