-- ==== Sys2Proof/Machine/VectorMove.lean ====
section
/-!
DEFINITION. Lanes, masks and poison marks, and the vector move and mask group (R149–R151, R157–R160,
R168).
-/
namespace Sys2Proof.Machine
open Sys2Proof

/-! ### Shared operations -/

/-- Element `i` of `bits` bits. -/
def elemAt (x bits i : Nat) : Nat := x / 2 ^ (bits * i) % 2 ^ bits
/-- `n` elements of `bits` bits put together, element 0 lowest. -/
def assemble (bits : Nat) : List Nat → Nat
  | [] => 0
  | e :: l => e % 2 ^ bits + 2 ^ bits * assemble bits l
def laneBytes : LaneW → Nat | .w1 => 1 | .w2 => 2 | .w4 => 4 | .w8 => 8
/-- Whether lane `i` of `w` bytes is active (R149). -/
def active (t : Thread) (m : Fin 8) (w i : Nat) : Bool := decide (m = 0) || bit (mReg t m) (w * i)
/-- Every lane of `w` bytes: `f` where active, the old lane elsewhere (R149). -/
def laneMap (t : Thread) (m : Fin 8) (w : Nat) (old : BitVec 512) (f : Nat → Nat) : BitVec 512 :=
  BitVec.ofNat 512 (assemble (8 * w) ((List.range (64 / w)).map fun i =>
    if active t m w i then f i else elemAt old.toNat (8 * w) i))
/-- The mark of a result: the sources', and the old one under a mask (R159). -/
def vMark (t : Thread) (m : Fin 8) (d : Fin 32) (srcs : List (Fin 32)) : Bool :=
  srcs.any (fun i => (vReg t i).poison) || (decide (m ≠ 0) && (vReg t d).poison)
/-- Vector registers read: the sources, and the destination under a mask. -/
def vReads (m : Fin 8) (d : Fin 32) (srcs : List (Fin 32)) : Reads :=
  { v := if m = 0 then srcs else d :: srcs }
/-- An instruction that writes lanes of vD. -/
def vLanes (h : Hart) (p : Fin 8) (w : Nat) (m : Fin 8) (d : Fin 32) (srcs : List (Fin 32))
    (f : Thread → Nat → Nat) (s : State) : Host.Outcome State Fault Refusal :=
  issue h p 4 (fun _ t =>
    { reads := vReads m d srcs
      writes := [.v d ⟨laneMap t m w (vReg t d).data (f t), vMark t m d srcs⟩ false] }) s
def vNat (t : Thread) (i : Fin 32) : Nat := (vReg t i).data.toNat

/-- An instruction whose result carries no mark logs 0x21 when a source is marked (R160); a speculative one when its
group commits (R229; DESIGN CHOICE, log 187). -/
def dropsPoison (h : Hart) (p : Fin 8) (srcs : List (Fin 32)) (act : Core → Thread → Act) (s : State) :
    Host.Outcome State Fault Refusal :=
  issueWith h p 4 act (fun a s =>
      let t := thread s h
      let s' := finish h 4 a s
      if srcs.any (fun i => (vReg t i).poison) then logCore h.core h.thread 0x21 (t.pc.setWidth 64) s' else s')
    (fun a s =>
      let t := thread s h
      let s' := finishSpec h 4 a s
      if srcs.any (fun i => (vReg t i).poison) then modTh s' h fun u =>
        let d := deferredOf u
        { u with deferred := some { d with dropped := d.dropped ++ [t.pc] } }
      else s') s

/-- Shape of a tile (R161): rows, bytes per row. -/
def dRows (x : Word) : Nat := fld x 0 5
def dRb (x : Word) : Nat := 4 * (fld x 8 4 + 1)
def dFmt (x : Word) : Nat := fld x 12 4
def tcKind (x : Word) : Nat := fld x 16 2
def dMeta (x : Word) : Bool := bit x 18
def dMetaTile (x : Word) : Nat := fld x 19 3
def dScale (x : Word) : Bool := bit x 22
def dScaleTile (x : Word) : Nat := fld x 23 3
/-- Low `n` bytes of a 64-byte row. -/
def lowBytes (x : BitVec 512) (n : Nat) : BitVec 512 := BitVec.ofNat 512 (x.toNat % 2 ^ (8 * n))
/-- The bytes of a row inside the tile's shape; zero where the row is invalid (R165). -/
def rowData (t : Thread) (tile r : Nat) : BitVec 512 :=
  if (rowOf t (16 * tile + r)).valid then lowBytes (rowOf t (16 * tile + r)).data (dRb (descOf t tile)) else 0
def rowPoison (t : Thread) (tile r : Nat) : Bool :=
  (rowOf t (16 * tile + r)).valid && (rowOf t (16 * tile + r)).poison
/-- A running or waiting `MMA` of the thread that reads one of the tiles (R194). -/
def mmaHolds (c : Core) (th : Fin 4) (tiles : List Nat) : Bool :=
  let uses := fun j : MmaJob => decide (j.thread = th) && j.tiles.any fun x => tiles.contains x.val
  (match c.mmaRun with | some j => uses j | none => false) || (match c.mmaWait with | some j => uses j | none => false)
/-- A row whose parity failed twice: the data as read is a free value, and the row is marked (R177). -/
def spoiledRow (n : Nat) (x : TileRow) : TileRow := { x with data := Config.freeRow n, poison := true }
/-- The rows among those read whose parity fails: an invalid row is not read from the file (R165). -/
def failedRows (t : Thread) (rows bad : List Nat) : List Nat :=
  rows.filter fun k => bad.contains k && (rowOf t k).valid
/-- The rows read whose parity fails twice become what they are read as (R177). -/
def parityFail (h : Hart) (rows bad : List Nat) (s : State) : State :=
  (failedRows (thread s h) rows bad).foldl (fun s k =>
    logParity h k (modTh { s with nextFree := s.nextFree + 1 } h fun t =>
      { t with rows := tset t.rows k (spoiledRow s.nextFree (rowOf t k)) })) s
/-- As `parityFail` of a speculative instruction (R229): `k` runs with the rows as they are read, and what a row
in ordinary state keeps of it, like the record of any row, waits in the deferred record for the commit. -/
def parityDefer (h : Hart) (rows bad : List Nat) (k : State → State) (s : State) : State :=
  let old := (failedRows (thread s h) rows bad).map fun i => (i, rowOf (thread s h) i)
  if old = [] then k s
  else
    let spoil := old.zipIdx.map fun e => (e.1.1, spoiledRow (s.nextFree + e.2) e.1.2)
    let s := modTh { s with nextFree := s.nextFree + old.length } h fun t =>
      { t with rows := spoil.foldl (fun l e => tset l e.1 e.2) t.rows }
    modTh (k s) h fun t =>
      let rows := old.foldl (fun l e => if e.2.spec then l else tset l e.1 e.2) t.rows
      let d := deferredOf t
      { t with rows := rows, deferred := some { d with parity := d.parity ++ old } }

/-- Valid bits of a tile (R165). -/
def validBits (t : Thread) (tile : Nat) : Nat :=
  (List.range 16).foldl (fun n r => n + at_ (b2n (rowOf t (16 * tile + r)).valid) r) 0
/-- The rows whose valid bits `TINFO` returns. -/
def tinfoRows (sel : Nat) : List Nat :=
  if sel < 8 then [] else if sel = 8 then List.range 128 else List.range' (16 * (sel - 16)) 16
/-- What `TINFO` returns (R167). -/
def tinfo (t : Thread) (sel : Nat) : Word :=
  if sel < 8 then descOf t sel
  else if sel = 8 then
    BitVec.ofNat 64 ((List.range 8).foldl (fun n i => n + at_ (b2n (decide (validBits t i ≠ 0))) i) 0)
  else BitVec.ofNat 64 (validBits t (sel - 16))

/-! ### Meanings -/

/-- `VMOV` (R151). -/
def execVmov (h : Hart) (p : Fin 8) (m : Fin 8) (d : Fin 32) (a : Fin 32) (s : State) : Host.Outcome State Fault Refusal :=
  vLanes h p 1 m d [a] (fun t i => elemAt (vNat t a) 8 i) s

/-- `VBCAST` (R151, R159). -/
def execVbcast (h : Hart) (p : Fin 8) (m : Fin 8) (w : LaneW) (d : Fin 32) (a : Fin 32) (s : State) : Host.Outcome State Fault Refusal :=
  issue h p 4 (fun _ t =>
    { reads := vReads m d []
      writes := [.v d ⟨laneMap t m (laneBytes w) (vReg t d).data (fun _ => (gReg t a).toNat),
        decide (m ≠ 0) && (vReg t d).poison⟩ false] }) s

/-- `VEXT` (R151, R160). -/
def execVext (h : Hart) (p : Fin 8) (d : Fin 32) (a : Fin 32) (i : Fin 8) (s : State) : Host.Outcome State Fault Refusal :=
  dropsPoison h p [a] (fun _ t =>
    { reads := { v := [a] }, writes := [.g d (BitVec.ofNat 64 (elemAt (vNat t a) 64 i.val))] }) s

/-- `VINS` (R151, R159). -/
def execVins (h : Hart) (p : Fin 8) (d : Fin 32) (a : Fin 32) (i : Fin 8) (s : State) : Host.Outcome State Fault Refusal :=
  issue h p 4 (fun _ t =>
    { reads := { v := [d] }
      writes := [.v d ⟨BitVec.ofNat 512 (assemble 64 ((List.range 8).map fun j =>
        if j = i.val then (gReg t a).toNat else elemAt (vNat t d) 64 j)), (vReg t d).poison⟩ false] }) s

/-- `VROTB` (R151). -/
def execVrotb (h : Hart) (p : Fin 8) (m : Fin 8) (d : Fin 32) (a : Fin 32) (b : Fin 32) (s : State) : Host.Outcome State Fault Refusal :=
  vLanes h p 1 m d [a] (fun t j => elemAt (vNat t a) 8 ((j + fld (gReg t b) 0 6) % 64)) s

/-- `VSEL` (R151, R159). -/
def execVsel (h : Hart) (p : Fin 8) (m : Fin 8) (d : Fin 32) (a : Fin 32) (b : Fin 32) (s : State) : Host.Outcome State Fault Refusal :=
  issue h p 4 (fun _ t =>
    { reads := vReads m d [a, b]
      writes := [.v d ⟨BitVec.ofNat 512 (assemble 8 ((List.range 64).map fun j =>
        if active t m 1 j then elemAt (vNat t a) 8 j else elemAt (vNat t b) 8 j)), vMark t m d [a, b]⟩ false] }) s

/-- `VTOT` (R168, R194). -/
def execVtot (h : Hart) (p : Fin 8) (d : Fin 8) (a : Fin 32) (r : Fin 16) (s : State) : Host.Outcome State Fault Refusal :=
  issue h p 4 (fun c t =>
    { reads := { v := [a] }
      stall := mmaHolds c h.thread [d.val]
      writes := if r.val < dRows (descOf t d.val) then
        [.row (16 * d.val + r.val) (lowBytes (vReg t a).data (dRb (descOf t d.val))) (vReg t a).poison] else [] }) s

/-- What `VFROMT` does (R168). -/
def vfromtAct (t : Thread) (d : Fin 32) (a : Fin 8) (r : Fin 16) : Act :=
  if r.val < dRows (descOf t a.val) then
    { reads := { rows := [16 * a.val + r.val] }
      writes := [.v d ⟨rowData t a.val r.val, rowPoison t a.val r.val⟩ true] }
  else { writes := [.v d ⟨0, false⟩ true] }

/-- `VFROMT` (R168, R177). -/
def execVfromt (h : Hart) (p : Fin 8) (d : Fin 32) (a : Fin 8) (r : Fin 16) (bad : List Nat) (s : State) : Host.Outcome State Fault Refusal :=
  let act := fun s => vfromtAct (thread s h) d a r
  issueWith h p 4 (fun _ t => vfromtAct t d a r)
    (fun x s => let s := parityFail h x.reads.rows bad s; finish h 4 (act s) s)
    (fun x => parityDefer h x.reads.rows bad fun s => finishSpec h 4 (act s) s) s

/-- `MLOG` (R151). -/
def execMlog (h : Hart) (p : Fin 8) (op : MaskOp) (d : Fin 8) (a : Fin 8) (b : Fin 8) (s : State) : Host.Outcome State Fault Refusal :=
  guardWf (.mlog h p op d a b) h 4 (issue h p 4 (fun _ t =>
    let x := mReg t a
    let y := mReg t b
    { writes := [.m d (match op with
        | .and => x &&& y | .or => x ||| y | .xor => x ^^^ y | .andn => x &&& ~~~y | .not => ~~~x)] })) s

/-- `MFROMG` (R151). -/
def execMfromg (h : Hart) (p : Fin 8) (d : Fin 8) (a : Fin 32) (s : State) : Host.Outcome State Fault Refusal :=
  issue h p 4 (fun _ t => { writes := [.m d (gReg t a)] }) s

/-- `MTOG` (R151). -/
def execMtog (h : Hart) (p : Fin 8) (d : Fin 32) (a : Fin 8) (s : State) : Host.Outcome State Fault Refusal :=
  issue h p 4 (fun _ t => { writes := [.g d (mReg t a)] }) s

/-- `TINFO` (R167). -/
def execTinfo (h : Hart) (p : Fin 8) (d : Fin 32) (sel : Fin 32) (s : State) : Host.Outcome State Fault Refusal :=
  guardWf (.tinfo h p d sel) h 4 (issue h p 4 (fun _ t =>
    { reads := { rows := tinfoRows sel.val }, writes := [.g d (tinfo t sel.val)] })) s

/-- `VTZ` (R157, R160). -/
def execVtz (h : Hart) (p : Fin 8) (m : Fin 8) (d : Fin 8) (a : Fin 32) (s : State) : Host.Outcome State Fault Refusal :=
  dropsPoison h p [a] (fun _ t =>
    { reads := { v := [a] }
      writes := [.p d ((List.range 64).all fun j => !active t m 1 j || decide (elemAt (vNat t a) 8 j = 0))] }) s

/-- `VZBM` (R157, R160). -/
def execVzbm (h : Hart) (p : Fin 8) (d : Fin 32) (a : Fin 32) (k : Fin 8) (s : State) : Host.Outcome State Fault Refusal :=
  guardWf (.vzbm h p d a k) h 4 (dropsPoison h p [a] (fun _ t =>
    { reads := { v := [a] }
      writes := [.g d (BitVec.ofNat 64 (assemble 1 ((List.range (64 / 2 ^ k.val)).map fun i =>
        b2n (decide (elemAt (vNat t a) (8 * 2 ^ k.val) i = 0)))))] })) s

end Sys2Proof.Machine
end

