-- ==== Sys2Proof/Machine/Tile.lean ====
section
/-!
DEFINITION. Tile configuration, tile loads and stores, and the accumulator moves (R161–R172, R189–R191).
-/
namespace Sys2Proof.Machine
open Sys2Proof

/-! ### Shared operations -/

/-- Stored and dense elements per row (R162). -/
def tcStored (x : Word) : Nat := dRb x * 8 / contBits (dFmt x)
def dDense (x : Word) : Nat := if dMeta x then 2 * tcStored x else tcStored x

/-- Block scaling of a format: 0 none, 1 optional, 2 mandatory (R162). -/
def scaling : Nat → Nat
  | 4 => 1 | 5 => 1 | 6 => 2 | 7 => 2 | 8 => 2 | 9 => 1 | 11 => 2 | _ => 0

/-- The conditions of R163 on the descriptor of tile `n` in a set. -/
def tcOk (set : Nat → Word) (n : Nat) : Bool :=
  let x := set n
  let rows := dRows x
  let mt := set (dMetaTile x)
  let sc := set (dScaleTile x)
  decide (fld x 5 3 = 0 ∧ fld x 26 38 = 0 ∧ rows ≤ 16 ∧ dFmt x ≤ 0xB ∧ tcKind x ≠ 3)
  && (if rows = 0 then decide (x = 0)
    else if tcKind x = 1 ∨ tcKind x = 2 then decide (dFmt x = 0) && !dMeta x && !dScale x
    else
      decide (contBits (dFmt x) = 64 → dRb x % 8 = 0)
      && (match scaling (dFmt x) with | 0 => !dScale x | 2 => dScale x | _ => true)
      && (!dMeta x || decide (contBits (dFmt x) ≤ 16 ∧ tcStored x % 16 = 0 ∧ dMetaTile x ≠ n ∧
            tcKind mt = 1 ∧ dRows mt = rows ∧ dRb mt = tcStored x / 4))
      && (!dScale x || decide (dDense x % 32 = 0 ∧ dScaleTile x ≠ n ∧
            tcKind sc = 2 ∧ dRows sc = rows ∧ dDense x / 32 ≤ dRb sc)))

/-- The descriptor set a `TCFG` forms from a block (R163, R164). -/
def newSet (t : Thread) (mask : BitVec 8) (blk : List Word) (n : Nat) : Word :=
  if bit mask n then nth 0 blk n else descOf t n

/-- The first tile whose descriptor fails (R164). -/
def badDesc (mask : BitVec 8) (set : Nat → Word) : Option Nat :=
  (List.range 8).find? fun n =>
    (bit mask n || (dMeta (set n) && bit mask (dMetaTile (set n))) || (dScale (set n) && bit mask (dScaleTile (set n))))
    && !tcOk set n

/-- Tiles named in a mask. -/
def maskTiles (mask : BitVec 8) : List Nat := (List.range 8).filter (bit mask)

/-- The rows of the tiles in a mask no longer valid (R165). -/
def clearRows (mask : BitVec 8) (t : Thread) : Thread :=
  { t with rows := t.rows.filter fun e => !bit mask (e.1 / 16) }

/-- The block a `TCFG` reads. -/
def cfgBlock (c : Core) (th : Fin 4) (a : Word) : List Word := bytesWords 8 (readView c (some th) a.toNat 64)

def tcfgAct (c : Core) (th : Fin 4) (t : Thread) (a : Word) (mask : BitVec 8) : Act :=
  match addrFault a 64 with
  | some f => { fault := some { f with info := a } }
  | none =>
    { reads := { words := wordsOf a.toNat 64 }
      stall := mmaHolds c th (maskTiles mask)
      fault := match firstPoison c (some th) a.toNat 64 with
        | some w => some ⟨0x39, BitVec.ofNat 64 (8 * w), false⟩
        | none => (badDesc mask (newSet t mask (cfgBlock c th a))).map fun n => ⟨0x05, BitVec.ofNat 64 n, false⟩ }

def tcfgEff (h : Hart) (a : Fin 32) (mask : BitVec 8) (s : State) : State :=
  modCore s h.core fun c =>
    let t := thOf c h.thread
    let blk := cfgBlock c h.thread (gReg t a)
    setTh c h.thread (advPc 4 (clearRows mask
      { t with desc := (maskTiles mask).foldl (fun l n => tset l n (nth 0 blk n)) t.desc }))

/-- Address of row `r` (R169). -/
def rowAddr (a stride : Word) (r : Nat) : Word := a + BitVec.ofNat 64 r * stride

/-- Bytes of the rows that lie outside local memory, as their lowest one per row (R169). -/
def badRows (a stride : Word) (rows rb : Nat) : List Nat :=
  ((List.range rows).map fun r => (rowAddr a stride r).toNat).filterMap fun x =>
    if localTop < x + rb then some (max x localTop) else none

/-- The faults of `TLD` and `TST`, all before the first row (R169, R170). -/
def tileFault (x : Word) (tile : Nat) (a stride : Word) : Option Flt :=
  if a.toNat % 4 ≠ 0 then some ⟨0x04, a, false⟩
  else if stride.toNat % 4 ≠ 0 then some ⟨0x04, a + stride, false⟩
  else match badRows a stride (dRows x) (dRb x) with
    | b :: l => some ⟨0x03, BitVec.ofNat 64 (l.foldl min b), false⟩
    | [] => if dRows x = 0 then some ⟨0x05, BitVec.ofNat 64 tile, false⟩ else none

/-- `TLD`, reading after the thread's stores have left the buffer (R169, R171). -/
def tldAct (c0 : Core) (th : Fin 4) (t : Thread) (d : Fin 8) (a stride : Word) : Act :=
  let x := descOf t d.val
  let c := drainOwn th c0
  match tileFault x d.val a stride with
  | some f => { fault := some f, writes := (List.range (dRows x)).map fun r => .row (16 * d.val + r) 0 false }
  | none =>
    { reads := { words := (List.range (dRows x)).flatMap fun r => wordsOf (rowAddr a stride r).toNat (dRb x), drained := true }
      stall := mmaHolds c0 th [d.val]
      writes := (List.range (dRows x)).map fun r =>
        .row (16 * d.val + r) (bytes512 (readView c none (rowAddr a stride r).toNat (dRb x)))
          ((wordsOf (rowAddr a stride r).toNat (dRb x)).any (poisonView c none)) }

/-- `TST` (R169). -/
def tstAct (t : Thread) (d : Fin 8) (a stride : Word) : Act :=
  let x := descOf t d.val
  { reads := { rows := (List.range (dRows x)).map fun r => 16 * d.val + r }
    fault := tileFault x d.val a stride
    writes := (List.range (dRows x)).map fun r =>
      .direct (rowAddr a stride r).toNat (natBytes (dRb x) (rowData t d.val r).toNat)
        (rowPoison t d.val r) }

/-- An instruction that bypasses the store buffer starts when the thread's stores have left it (R171). -/
def afterStores (h : Hart) (k : State → State) (s : State) : State := k (modCore s h.core (drainOwn h.thread))

/-- The row that the instruction `i` moves next: row 0 unless it is under way (R169, R170). -/
def rowNext (c : Core) (th : Fin 4) (i : Instr) : Nat :=
  match tfind c.rowsAt th.val with
  | some (j, r) => if i = j then r else 0
  | none => 0

/-- An `Act` as a whole tells faults, waits and stalls; only the write of row `r` is made. -/
def oneRow (r : Nat) (a : Act) : Act := { a with writes := (a.writes.drop r).take 1 }

/-- One issue slot of the `TLD` or `TST` `i` (R169, R170, R231): before each row an event to be taken goes first, and
the instruction restarts at row 0; the last row completes it. `put` makes the write of row `r`. -/
def rowSlot (h : Hart) (i : Instr) (r rows : Nat) (put : Act → State → State) (a : Act) (s : State) : State :=
  let t := thread s h
  if eventGoes t then takeEvent h t.pc s
  else
    let s := afterStores h (put (oneRow r a)) s
    if r + 1 < rows then
      modCore (modTh s h fun u => { u with pc := t.pc }) h.core fun c => { c with rowsAt := tset c.rowsAt h.thread.val (i, r + 1) }
    else s

/-- Accumulators a running or waiting `MMA` of the thread writes (R194). -/
def mmaWrites (c : Core) (th : Fin 4) (accs : List Nat) : Bool :=
  let w := fun j : MmaJob => decide (j.thread = th) && j.accs.any accs.contains
  (match c.mmaRun with | some j => w j | none => false) || (match c.mmaWait with | some j => w j | none => false)

/-- Address check of `ALD` and `AST` (R102). -/
def accAddrFault (a : Word) : Option Flt :=
  if a.toNat % 64 ≠ 0 then some ⟨0x04, a, false⟩
  else if localTop < a.toNat + 1024 then some ⟨0x03, BitVec.ofNat 64 (max a.toNat localTop), false⟩
  else none

def aldAct (c0 : Core) (th : Fin 4) (d : Fin 4) (a : Word) : Act :=
  let c := drainOwn th c0
  match accAddrFault a with
  | some f => { fault := some f, writes := [.acc (16 * d.val) ⟨0, false⟩] }
  | none =>
    { reads := { words := wordsOf a.toNat 1024, drained := true }
      stall := mmaWrites c0 th [d.val]
      writes := (List.range 16).map fun r =>
        .acc (16 * d.val + r) ⟨bytes512 (readView c none (a.toNat + 64 * r) 64),
          (wordsOf (a.toNat + 64 * r) 64).any (poisonView c none)⟩ }

def astAct (c : Core) (th : Fin 4) (t : Thread) (d : Fin 4) (a : Word) : Act :=
  { reads := { acc := [d.val] }
    fault := accAddrFault a
    stall := mmaWrites c th [d.val]
    writes := (List.range 16).map fun r =>
      .direct (a.toNat + 64 * r) (natBytes 64 (accRow t (16 * d.val + r)).data.toNat)
        (accRow t (16 * d.val + r)).poison }

/-! ### Meanings -/

/-- `TCFG` (R163, R164). -/
def execTcfg (h : Hart) (p : Fin 8) (a : Fin 32) (mask : BitVec 8) (s : State) : Host.Outcome State Fault Refusal :=
  guardWf (.tcfg h p a mask) h 4
    (issueOwn h p 4 (fun c t => tcfgAct c h.thread t (gReg t a) mask) (tcfgEff h a mask)) s

/-- `TLD` (R169–R172), one row per issue slot. -/
def execTld (h : Hart) (p : Fin 8) (d : Fin 8) (a : Fin 32) (b : Fin 32) (s : State) : Host.Outcome State Fault Refusal :=
  let i : Instr := .tld h p d a b
  let r := rowNext (coreOf s h.core) h.thread i
  let rows := dRows (descOf (thread s h) d.val)
  issueWith h p 4 (fun c t => { tldAct c h.thread t d (gReg t a) (gReg t b) with going := decide (r ≠ 0) })
    (rowSlot h i r rows (finish h 4)) (rowSlot h i r rows (finishSpec h 4)) s

/-- `TST` (R169–R172, R177), one row per issue slot; `bad` names the rows whose parity fails as they are read. -/
def execTst (h : Hart) (p : Fin 8) (d : Fin 8) (a : Fin 32) (b : Fin 32) (bad : List Nat) (s : State) : Host.Outcome State Fault Refusal :=
  let i : Instr := .tst h p d a b []
  let r := rowNext (coreOf s h.core) h.thread i
  let rows := dRows (descOf (thread s h) d.val)
  let act := fun s => oneRow r (tstAct (thread s h) d (gReg (thread s h) a) (gReg (thread s h) b))
  issueWith h p 4 (fun _ t => { tstAct t d (gReg t a) (gReg t b) with going := decide (r ≠ 0) })
    (rowSlot h i r rows fun _ s => let s := parityFail h [16 * d.val + r] bad s; finish h 4 (act s) s)
    (rowSlot h i r rows fun _ => parityDefer h [16 * d.val + r] bad fun s => finishSpec h 4 (act s) s) s

/-- `TREL` (R166). -/
def execTrel (h : Hart) (p : Fin 8) (mask : BitVec 8) (s : State) : Host.Outcome State Fault Refusal :=
  issueOwn h p 4 (fun c _ => { stall := mmaHolds c h.thread (maskTiles mask) })
    (fun s => modTh s h fun t => advPc 4 (clearRows mask t)) s

/-- `AZERO` (R191). -/
def execAzero (h : Hart) (p : Fin 8) (d : Fin 4) (s : State) : Host.Outcome State Fault Refusal :=
  issue h p 4 (fun c _ =>
    { stall := mmaWrites c h.thread [d.val]
      writes := (List.range 16).map fun r => .acc (16 * d.val + r) ⟨0, false⟩ }) s

/-- `ALD` (R171, R189, R191). -/
def execAld (h : Hart) (p : Fin 8) (d : Fin 4) (a : Fin 32) (s : State) : Host.Outcome State Fault Refusal :=
  issueWith h p 4 (fun c t => aldAct c h.thread d (gReg t a))
    (fun x => afterStores h (finish h 4 x)) (fun x => afterStores h (finishSpec h 4 x)) s

/-- `AST` (R171, R189, R191). -/
def execAst (h : Hart) (p : Fin 8) (d : Fin 4) (a : Fin 32) (s : State) : Host.Outcome State Fault Refusal :=
  issueWith h p 4 (fun c t => astAct c h.thread t d (gReg t a))
    (fun x => afterStores h (finish h 4 x)) (fun x => afterStores h (finishSpec h 4 x)) s

end Sys2Proof.Machine
end

