-- ==== Sys2Proof/Machine/VectorInt.lean ====
section
/-!
DEFINITION. The vector integer groups (R152) and their compares (R150).
-/
namespace Sys2Proof.Machine
open Sys2Proof

/-! ### Shared operations -/

/-- Lanes of vA and vB combined, in 8w bits (R152). -/
def vInt (h : Hart) (p : Fin 8) (w : LaneW) (m : Fin 8) (d a b : Fin 32) (f : Nat → Nat → Nat → Nat)
    (s : State) : Host.Outcome State Fault Refusal :=
  vLanes h p (laneBytes w) m d [a, b] (fun t i =>
    f (8 * laneBytes w) (elemAt (vNat t a) (8 * laneBytes w) i) (elemAt (vNat t b) (8 * laneBytes w) i)) s

/-- The mask a compare writes (R150). -/
def cmpMask (t : Thread) (m : Fin 8) (w : Nat) (f : Nat → Bool) : Word :=
  BitVec.ofNat 64 (assemble w ((List.range (64 / w)).map fun i => if active t m w i && f i then 2 ^ w - 1 else 0))

def vIntCmp (h : Hart) (p : Fin 8) (w : LaneW) (m d : Fin 8) (a b : Fin 32) (f : Nat → Nat → Nat → Bool)
    (s : State) : Host.Outcome State Fault Refusal :=
  dropsPoison h p [a, b] (fun _ t =>
    { reads := { v := [a, b] }
      writes := [.m d (cmpMask t m (laneBytes w) fun i =>
        f (8 * laneBytes w) (elemAt (vNat t a) (8 * laneBytes w) i) (elemAt (vNat t b) (8 * laneBytes w) i))] }) s

def sarLane (n x k : Nat) : Nat := intCode n (sgn n x / (2 ^ k : Nat))

/-! ### Meanings -/

/-- `VADD` (R152). -/
def execVadd (h : Hart) (p : Fin 8) (w : LaneW) (m : Fin 8) (d : Fin 32) (a : Fin 32) (b : Fin 32) (s : State) : Host.Outcome State Fault Refusal :=
  vInt h p w m d a b (fun _ x y => x + y) s

/-- `VSUB` (R152). -/
def execVsub (h : Hart) (p : Fin 8) (w : LaneW) (m : Fin 8) (d : Fin 32) (a : Fin 32) (b : Fin 32) (s : State) : Host.Outcome State Fault Refusal :=
  vInt h p w m d a b (fun n x y => x + 2 ^ n - y) s

/-- `VMUL` (R152). -/
def execVmul (h : Hart) (p : Fin 8) (w : LaneW) (m : Fin 8) (d : Fin 32) (a : Fin 32) (b : Fin 32) (s : State) : Host.Outcome State Fault Refusal :=
  vInt h p w m d a b (fun _ x y => x * y) s

/-- `VMIN` (R152). -/
def execVmin (h : Hart) (p : Fin 8) (w : LaneW) (m : Fin 8) (d : Fin 32) (a : Fin 32) (b : Fin 32) (s : State) : Host.Outcome State Fault Refusal :=
  vInt h p w m d a b (fun n x y => if sgn n x < sgn n y then x else y) s

/-- `VMAX` (R152). -/
def execVmax (h : Hart) (p : Fin 8) (w : LaneW) (m : Fin 8) (d : Fin 32) (a : Fin 32) (b : Fin 32) (s : State) : Host.Outcome State Fault Refusal :=
  vInt h p w m d a b (fun n x y => if sgn n x < sgn n y then y else x) s

/-- `VMINU` (R152). -/
def execVminu (h : Hart) (p : Fin 8) (w : LaneW) (m : Fin 8) (d : Fin 32) (a : Fin 32) (b : Fin 32) (s : State) : Host.Outcome State Fault Refusal :=
  vInt h p w m d a b (fun _ x y => min x y) s

/-- `VMAXU` (R152). -/
def execVmaxu (h : Hart) (p : Fin 8) (w : LaneW) (m : Fin 8) (d : Fin 32) (a : Fin 32) (b : Fin 32) (s : State) : Host.Outcome State Fault Refusal :=
  vInt h p w m d a b (fun _ x y => max x y) s

/-- `VAND` (R152). -/
def execVand (h : Hart) (p : Fin 8) (w : LaneW) (m : Fin 8) (d : Fin 32) (a : Fin 32) (b : Fin 32) (s : State) : Host.Outcome State Fault Refusal :=
  vInt h p w m d a b (fun _ x y => x &&& y) s

/-- `VOR` (R152). -/
def execVor (h : Hart) (p : Fin 8) (w : LaneW) (m : Fin 8) (d : Fin 32) (a : Fin 32) (b : Fin 32) (s : State) : Host.Outcome State Fault Refusal :=
  vInt h p w m d a b (fun _ x y => x ||| y) s

/-- `VXOR` (R152). -/
def execVxor (h : Hart) (p : Fin 8) (w : LaneW) (m : Fin 8) (d : Fin 32) (a : Fin 32) (b : Fin 32) (s : State) : Host.Outcome State Fault Refusal :=
  vInt h p w m d a b (fun _ x y => x ^^^ y) s

/-- `VSHL` (R152). -/
def execVshl (h : Hart) (p : Fin 8) (w : LaneW) (m : Fin 8) (d : Fin 32) (a : Fin 32) (b : Fin 32) (s : State) : Host.Outcome State Fault Refusal :=
  vInt h p w m d a b (fun n x y => x * 2 ^ (y % n)) s

/-- `VSHR` (R152). -/
def execVshr (h : Hart) (p : Fin 8) (w : LaneW) (m : Fin 8) (d : Fin 32) (a : Fin 32) (b : Fin 32) (s : State) : Host.Outcome State Fault Refusal :=
  vInt h p w m d a b (fun n x y => x / 2 ^ (y % n)) s

/-- `VSAR` (R152). -/
def execVsar (h : Hart) (p : Fin 8) (w : LaneW) (m : Fin 8) (d : Fin 32) (a : Fin 32) (b : Fin 32) (s : State) : Host.Outcome State Fault Refusal :=
  vInt h p w m d a b (fun n x y => sarLane n x (y % n)) s

/-- `VCMPEQ` (R150, R152). -/
def execVcmpeq (h : Hart) (p : Fin 8) (w : LaneW) (m : Fin 8) (d : Fin 8) (a : Fin 32) (b : Fin 32) (s : State) : Host.Outcome State Fault Refusal :=
  vIntCmp h p w m d a b (fun _ x y => decide (x = y)) s

/-- `VCMPLT` (R150, R152). -/
def execVcmplt (h : Hart) (p : Fin 8) (w : LaneW) (m : Fin 8) (d : Fin 8) (a : Fin 32) (b : Fin 32) (s : State) : Host.Outcome State Fault Refusal :=
  vIntCmp h p w m d a b (fun n x y => decide (sgn n x < sgn n y)) s

/-- `VCMPLTU` (R150, R152). -/
def execVcmpltu (h : Hart) (p : Fin 8) (w : LaneW) (m : Fin 8) (d : Fin 8) (a : Fin 32) (b : Fin 32) (s : State) : Host.Outcome State Fault Refusal :=
  vIntCmp h p w m d a b (fun _ x y => decide (x < y)) s

end Sys2Proof.Machine
end

