-- ==== Sys2Proof/Machine/VectorFp.lean ====
section
/-!
DEFINITION. The vector floating-point groups (R153) and the conversions (R155, R156).
-/
namespace Sys2Proof.Machine
open Sys2Proof

/-! ### Shared operations -/

def fmtBytes : FpFmt → Nat | .d => 8 | .s => 4

/-- Exceptions of the active lanes (R153). -/
def laneFlags (t : Thread) (m : Fin 8) (w n : Nat) (f : Nat → BitVec 5) : BitVec 5 :=
  (List.range n).foldl (fun acc i => if active t m w i then acc ||| f i else acc) 0

/-- Lanes of FP results with exceptions (R153). -/
def vFp (h : Hart) (p : Fin 8) (f : FpFmt) (m : Fin 8) (d : Fin 32) (srcs : List (Fin 32))
    (g : Thread → Nat → Nat × BitVec 5) (s : State) : Host.Outcome State Fault Refusal :=
  issue h p 4 (fun _ t => fpAct t (vReads m d srcs)
    (laneFlags t m (fmtBytes f) (64 / fmtBytes f) fun i => (g t i).2)
    [.v d ⟨laneMap t m (fmtBytes f) (vReg t d).data (fun i => (g t i).1), vMark t m d srcs⟩ false]) s

/-- FP lane `i` of a register. -/
def fpLane (t : Thread) (f : FpFmt) (r : Fin 32) (i : Nat) : Nat := elemAt (vNat t r) (8 * fmtBytes f) i

def vFpCmp (h : Hart) (p : Fin 8) (f : FpFmt) (m d : Fin 8) (a b : Fin 32) (c : FcmpCond) (s : State) :
    Host.Outcome State Fault Refusal :=
  dropsPoison h p [a, b] (fun _ t =>
    let g := fun i => fpCmp (scalarFmt f) c (fpLane t f a i) (fpLane t f b i)
    fpAct t { v := [a, b] } (laneFlags t m (fmtBytes f) (64 / fmtBytes f) fun i => (g i).2)
      [.m d (cmpMask t m (fmtBytes f) fun i => (g i).1)]) s

/-- A conversion's result: elements of `bits` bits at the bottom of vD, each governed by mask lane `i`
of `w` bytes, the other bits of vD kept (R155). -/
def convElems (t : Thread) (m : Fin 8) (w bits n : Nat) (d : Fin 32) (f : Nat → Nat) : BitVec 512 :=
  let old := vNat t d
  BitVec.ofNat 512 (assemble bits ((List.range n).map fun i => if active t m w i then f i else elemAt old bits i)
    + old / 2 ^ (bits * n) * 2 ^ (bits * n))

/-- Vector registers that a conversion reads: its source, and its destination where it keeps bits of it (R155, R224). -/
def convReads (m : Fin 8) (bits n : Nat) (d a : Fin 32) : Reads :=
  { v := if m = 0 ∧ bits * n = 512 then [a] else [d, a] }

def vConv (h : Hart) (p : Fin 8) (m : Fin 8) (w bits n : Nat) (d a : Fin 32)
    (g : Thread → Nat → Nat × BitVec 5) (s : State) : Host.Outcome State Fault Refusal :=
  issue h p 4 (fun _ t => fpAct t (convReads m bits n d a) (laneFlags t m w n fun i => (g t i).2)
    [.v d ⟨convElems t m w bits n d (fun i => (g t i).1), vMark t m d [a]⟩ false]) s

/-- A conversion to an integer: 0 for a NaN, the nearest end of the range outside it (R155). -/
def fpToIntSat (f : FFmt) (bits : Nat) (rm : RM) (x : Nat) : Nat × BitVec 5 :=
  let v := fdecode f x
  let hi : Int := (2 ^ (bits - 1) : Nat) - 1
  let r := toInt rm (-hi - 1) hi v
  match r.1 with
  | some i => (intCode bits i, r.2)
  | none => (if isNan v then 0 else intCode bits (if isNeg v then -hi - 1 else hi), r.2)

/-- Active elements whose T2 code is invalid, lowest first (R156). -/
def badT2 (t : Thread) (m : Fin 8) (w n : Nat) (a : Fin 32) : List Nat :=
  (List.range n).filter fun i => active t m w i && decide (elemAt (vNat t a) 2 i = 2)

/-- A conversion from T2 elements (R155, R156). -/
def fromT2 (h : Hart) (p : Fin 8) (m : Fin 8) (w bits n : Nat) (d a : Fin 32) (val : Int → Nat) (s : State) :
    Host.Outcome State Fault Refusal :=
  issue h p 4 (fun _ t =>
    let bad := badT2 t m w n a
    { reads := convReads m bits n d a
      fault := match t.t2Policy, bad with
        | true, i :: _ => some ⟨0x14, BitVec.ofNat 64 i, false⟩
        | _, _ => none
      writes := [.v d ⟨convElems t m w bits n d fun i =>
        let e := elemAt (vNat t a) 2 i
        val (if e = 2 then 0 else sgn 2 e), vMark t m d [a] || decide (bad ≠ [])⟩ false] }) s

/-- FP32 of an element of a floating-point or integer format (R155): exact. -/
def widen32 (code x : Nat) : Nat × BitVec 5 :=
  match elemValue code x with
  | some v => withRound fp32 .rne (v, if isSig v then fNV else 0)
  | none => (0, 0)

/-- FP64 to FP32 (R185). -/
def fpConv32 (rm : RM) (x : Nat) : Nat × BitVec 5 :=
  let v := fdecode fp64 x
  withRound fp32 rm (v, if isSig v then fNV else 0)

/-- Generator states after each draw of the active lanes, in lane order (R186). -/
def draws (t : Thread) (m : Fin 8) (w : Nat) : List Nat → Word → List (Nat × Word)
  | [], _ => []
  | i :: l, x => if active t m w i then (i, srNext x) :: draws t m w l (srNext x) else draws t m w l x

/-- The mode element `i` is rounded with. -/
def drawMode (ds : List (Nat × Word)) (i : Nat) : RM :=
  match ds.find? fun e => decide (e.1 = i) with
  | some e => .sr (srDraw e.2)
  | none => .rne

/-- Generator state after the last of the draws. -/
def lastDraw (ds : List (Nat × Word)) : Option Word := ds.getLast?.map fun e => e.2

/-- Whether an instruction on these registers under `p` is speculative (for R230's generator copy). -/
def specNow (c : Core) (h : Hart) (t : Thread) (p : Fin 8) (r : Reads) : Bool := isSpec c h.thread t p r

/-! ### Meanings -/

/-- `VFADD` (R153). -/
def execVfadd (h : Hart) (p : Fin 8) (f : FpFmt) (m : Fin 8) (d : Fin 32) (a : Fin 32) (b : Fin 32) (s : State) : Host.Outcome State Fault Refusal :=
  vFp h p f m d [a, b] (fun t i => fpAdd (scalarFmt f) (rmOf t) (fpLane t f a i) (fpLane t f b i)) s

/-- `VFSUB` (R153). -/
def execVfsub (h : Hart) (p : Fin 8) (f : FpFmt) (m : Fin 8) (d : Fin 32) (a : Fin 32) (b : Fin 32) (s : State) : Host.Outcome State Fault Refusal :=
  vFp h p f m d [a, b] (fun t i => fpSub (scalarFmt f) (rmOf t) (fpLane t f a i) (fpLane t f b i)) s

/-- `VFMUL` (R153). -/
def execVfmul (h : Hart) (p : Fin 8) (f : FpFmt) (m : Fin 8) (d : Fin 32) (a : Fin 32) (b : Fin 32) (s : State) : Host.Outcome State Fault Refusal :=
  vFp h p f m d [a, b] (fun t i => fpMul (scalarFmt f) (rmOf t) (fpLane t f a i) (fpLane t f b i)) s

/-- `VFDIV` (R153). -/
def execVfdiv (h : Hart) (p : Fin 8) (f : FpFmt) (m : Fin 8) (d : Fin 32) (a : Fin 32) (b : Fin 32) (s : State) : Host.Outcome State Fault Refusal :=
  vFp h p f m d [a, b] (fun t i => fpDiv (scalarFmt f) (rmOf t) (fpLane t f a i) (fpLane t f b i)) s

/-- `VFSQRT` (R153). -/
def execVfsqrt (h : Hart) (p : Fin 8) (f : FpFmt) (m : Fin 8) (d : Fin 32) (a : Fin 32) (s : State) : Host.Outcome State Fault Refusal :=
  vFp h p f m d [a] (fun t i => fpSqrt (scalarFmt f) (rmOf t) (fpLane t f a i)) s

/-- `VFMA` (R153). -/
def execVfma (h : Hart) (p : Fin 8) (f : FpFmt) (m : Fin 8) (d : Fin 32) (a : Fin 32) (b : Fin 32) (s : State) : Host.Outcome State Fault Refusal :=
  vFp h p f m d [a, b, d] (fun t i =>
    fpFma (scalarFmt f) (rmOf t) false (fpLane t f a i) (fpLane t f b i) (fpLane t f d i)) s

/-- `VFNMA` (R153). -/
def execVfnma (h : Hart) (p : Fin 8) (f : FpFmt) (m : Fin 8) (d : Fin 32) (a : Fin 32) (b : Fin 32) (s : State) : Host.Outcome State Fault Refusal :=
  vFp h p f m d [a, b, d] (fun t i =>
    fpFma (scalarFmt f) (rmOf t) true (fpLane t f a i) (fpLane t f b i) (fpLane t f d i)) s

/-- `VFMIN` (R153). -/
def execVfmin (h : Hart) (p : Fin 8) (f : FpFmt) (m : Fin 8) (d : Fin 32) (a : Fin 32) (b : Fin 32) (s : State) : Host.Outcome State Fault Refusal :=
  vFp h p f m d [a, b] (fun t i => fpMinMax (scalarFmt f) false (fpLane t f a i) (fpLane t f b i)) s

/-- `VFMAX` (R153). -/
def execVfmax (h : Hart) (p : Fin 8) (f : FpFmt) (m : Fin 8) (d : Fin 32) (a : Fin 32) (b : Fin 32) (s : State) : Host.Outcome State Fault Refusal :=
  vFp h p f m d [a, b] (fun t i => fpMinMax (scalarFmt f) true (fpLane t f a i) (fpLane t f b i)) s

/-- `VFABS` (R153). -/
def execVfabs (h : Hart) (p : Fin 8) (f : FpFmt) (m : Fin 8) (d : Fin 32) (a : Fin 32) (s : State) : Host.Outcome State Fault Refusal :=
  vFp h p f m d [a] (fun t i => (fpAbs (scalarFmt f) (fpLane t f a i), 0)) s

/-- `VFNEG` (R153). -/
def execVfneg (h : Hart) (p : Fin 8) (f : FpFmt) (m : Fin 8) (d : Fin 32) (a : Fin 32) (s : State) : Host.Outcome State Fault Refusal :=
  vFp h p f m d [a] (fun t i => (fpNeg (scalarFmt f) (fpLane t f a i), 0)) s

/-- `VFCMPEQ` (R150, R153). -/
def execVfcmpeq (h : Hart) (p : Fin 8) (f : FpFmt) (m : Fin 8) (d : Fin 8) (a : Fin 32) (b : Fin 32) (s : State) : Host.Outcome State Fault Refusal :=
  vFpCmp h p f m d a b .eq s

/-- `VFCMPLT` (R150, R153). -/
def execVfcmplt (h : Hart) (p : Fin 8) (f : FpFmt) (m : Fin 8) (d : Fin 8) (a : Fin 32) (b : Fin 32) (s : State) : Host.Outcome State Fault Refusal :=
  vFpCmp h p f m d a b .lt s

/-- `VFCMPLE` (R150, R153). -/
def execVfcmple (h : Hart) (p : Fin 8) (f : FpFmt) (m : Fin 8) (d : Fin 8) (a : Fin 32) (b : Fin 32) (s : State) : Host.Outcome State Fault Refusal :=
  vFpCmp h p f m d a b .le s

/-- `VFCMPUN` (R150, R153). -/
def execVfcmpun (h : Hart) (p : Fin 8) (f : FpFmt) (m : Fin 8) (d : Fin 8) (a : Fin 32) (b : Fin 32) (s : State) : Host.Outcome State Fault Refusal :=
  vFpCmp h p f m d a b .un s

/-- `VCVTS` (R155, R156). -/
def execVcvts (h : Hart) (p : Fin 8) (f : Fin 16) (m : Fin 8) (d : Fin 32) (a : Fin 32) (s : State) : Host.Outcome State Fault Refusal :=
  guardWf (.vcvts h p f m d a) h 4
    (if f = 11 then fromT2 h p m 4 32 16 d a (fun i => (fround fp32 .rne (ofInt i)).1)
     else if f = 0 then vConv h p m 4 32 16 d a (fun t i =>
       if i < 8 then fpConv32 (rmOf t) (elemAt (vNat t a) 64 i) else (0, 0))
     else vConv h p m 4 32 16 d a (fun t i => widen32 f.val (elemAt (vNat t a) (contBits f.val) i))) s

/-- `VCVTF` (R155, R184–R186). -/
def execVcvtf (h : Hart) (p : Fin 8) (f : Fin 16) (sr : Bool) (m : Fin 8) (d : Fin 32) (a : Fin 32) (s : State) : Host.Outcome State Fault Refusal :=
  guardWf (.vcvtf h p f sr m d a) h 4
    (if f = 0 then vConv h p m 4 64 8 d a (fun t i => narrow 0 (rmOf t) false (fdecode fp32 (elemAt (vNat t a) 32 i)))
     else if !sr then vConv h p m 4 (contBits f.val) 16 d a (fun t i =>
       narrow f.val (rmOf t) false (fdecode fp32 (elemAt (vNat t a) 32 i)))
     else issue h p 4 (fun c t =>
       let reads := convReads m (contBits f.val) 16 d a
       let ds := draws t m 4 (List.range 16) (srState (specNow c h t p reads) t)
       let g := fun i => narrow f.val (drawMode ds i) false (fdecode fp32 (elemAt (vNat t a) 32 i))
       { fpAct t reads (laneFlags t m 4 16 fun i => (g i).2)
           [.v d ⟨convElems t m 4 (contBits f.val) 16 d (fun i => (g i).1), vMark t m d [a]⟩ false] with
         sr := lastDraw ds })) s

/-- `VCVTIS` (R155). -/
def execVcvtis (h : Hart) (p : Fin 8) (m : Fin 8) (d : Fin 32) (a : Fin 32) (s : State) : Host.Outcome State Fault Refusal :=
  vConv h p m 4 32 16 d a (fun t i => fpToIntSat fp32 32 (rmOf t) (elemAt (vNat t a) 32 i)) s

/-- `VCVTSI` (R155). -/
def execVcvtsi (h : Hart) (p : Fin 8) (m : Fin 8) (d : Fin 32) (a : Fin 32) (s : State) : Host.Outcome State Fault Refusal :=
  vConv h p m 4 32 16 d a (fun t i => fround fp32 (rmOf t) (ofInt (sgn 32 (elemAt (vNat t a) 32 i)))) s

/-- `VCVTLD` (R155). -/
def execVcvtld (h : Hart) (p : Fin 8) (m : Fin 8) (d : Fin 32) (a : Fin 32) (s : State) : Host.Outcome State Fault Refusal :=
  vConv h p m 8 64 8 d a (fun t i => fpToIntSat fp64 64 (rmOf t) (elemAt (vNat t a) 64 i)) s

/-- `VCVTDL` (R155). -/
def execVcvtdl (h : Hart) (p : Fin 8) (m : Fin 8) (d : Fin 32) (a : Fin 32) (s : State) : Host.Outcome State Fault Refusal :=
  vConv h p m 8 64 8 d a (fun t i => fround fp64 (rmOf t) (ofInt (sgn 64 (elemAt (vNat t a) 64 i)))) s

/-- `VUNPKT2` (R155, R156). -/
def execVunpkt2 (h : Hart) (p : Fin 8) (m : Fin 8) (d : Fin 32) (a : Fin 32) (s : State) : Host.Outcome State Fault Refusal :=
  fromT2 h p m 1 8 64 d a (intCode 8) s

/-- `VPACKT2` (R155). -/
def execVpackt2 (h : Hart) (p : Fin 8) (m : Fin 8) (d : Fin 32) (a : Fin 32) (s : State) : Host.Outcome State Fault Refusal :=
  vConv h p m 1 2 64 d a (fun t i =>
    (intCode 2 (max (-1) (min 1 (sgn 8 (elemAt (vNat t a) 8 i)))), 0)) s

end Sys2Proof.Machine
end

