-- ==== Sys2Proof/Machine/Matrix.lean ====
section
/-!
DEFINITION. The matrix unit: `MMA` under its accumulation contracts (R173, R174, R187–R202, R211–R213)
and `ACVT` (R203–R210).
-/
namespace Sys2Proof.Machine
open Sys2Proof

/-! ### Operands of an `MMA` -/

/-- Accumulator type: 0 FP32, 1 INT32, 2 FP64 (R188). -/
def accTy (fmt : Nat) (scaled : Bool) : Nat :=
  if fmt = 0 then 2 else if fmt = 10 then 1 else if fmt = 9 && !scaled then 1 else 0

/-- The checks of R173 and R174. -/
def mmaFault (t : Thread) (sp : Bool) (tm tb ta : Fin 8) (ad : Fin 4) : Option Flt :=
  let a := descOf t ta.val
  let b := descOf t tb.val
  let bad := fun x : Word => decide (dRows x = 0 ∨ tcKind x ≠ 0)
  if bad a then some ⟨0x05, BitVec.ofNat 64 ta.val, false⟩
  else if bad b then some ⟨0x05, BitVec.ofNat 64 tb.val, false⟩
  else if dFmt a ≠ dFmt b ∨ dMeta a = true ∨ (sp = true ∧ (dMeta b = false ∨ dMetaTile b ≠ tm.val))
      ∨ (sp = false ∧ dMeta b = true) ∨ dDense a ≠ dDense b ∨ dScale a ≠ dScale b
      ∨ (dFmt a = 0 ∧ ad.val % 2 = 1) then
    some ⟨0x06, BitVec.ofNat 64 (ta.val + 8 * tb.val + 64 * tm.val), false⟩
  else none

/-- Code of stored element `i` of a row (R180). -/
def rowElem (t : Thread) (tile fmt r i : Nat) : Nat := elemAt (rowData t tile r).toNat (contBits fmt) i

/-- Value of a code before its block scale; an invalid T2 element counts as 0 (R182, R201). -/
def mmaValue (fmt : Nat) (scaled : Bool) (x : Nat) : FV :=
  match elemValue fmt x with
  | none => .fin false 0 0
  | some (.fin n m e) => if fmt = 9 && scaled then .fin n m (e - 6) else .fin n m e
  | some v => v

/-- Stored element of tB at dense position `k`, none where it is absent (R211, R212). -/
def sparseAt (t : Thread) (tm j k : Nat) : Option Nat :=
  let q := fun i => elemAt (rowData t tm j).toNat 2 i
  let g := k / 4
  if q (2 * g + 1) = k % 4 then some (2 * g + 1)
  else if q (2 * g) = k % 4 then some (2 * g) else none

/-- B(j, k) (R188): none at an absent position. -/
def bElem (t : Thread) (sp : Bool) (tm tb fmt j k : Nat) : Option Nat :=
  if sp then (sparseAt t tm j k).map (rowElem t tb fmt j) else some (rowElem t tb fmt j k)

/-- An E8M0 block scale (R181). -/
def e8m0 (x : Nat) : FV := if x = 255 then .nan false else .fin false 1 ((x : Int) - 127)

/-- Scale of block `b` of row `r` of a tile; 1 when it is unscaled (R181). -/
def blockScale (t : Thread) (x : Word) (r b : Nat) : FV :=
  if dScale x then e8m0 (elemAt (rowData t (dScaleTile x) r).toNat 8 b) else .fin false 1 0

/-! ### Contracts (R188, R196–R198) -/

/-- What a block's products sum to so far: the exact sum, the specials seen, and invalid (R197). -/
structure BlockSum where
  sum : FV
  nan : Bool
  pinf : Bool
  ninf : Bool
  nv : Bool
  deriving DecidableEq, Repr

def addProduct (x : BlockSum) (a b : FV) : BlockSum :=
  let zi := (isInf a && isZero b) || (isZero a && isInf b)
  if isNan a || isNan b then { x with nan := true }
  else if zi then { x with nan := true, nv := true }
  else if isInf a || isInf b then
    if isNeg a != isNeg b then { x with ninf := true } else { x with pinf := true }
  else { x with sum := (addV .rne x.sum (mulV a b).1).1 }

/-- p of R197 and whether it raises invalid; an exact zero is +0. -/
def blockResult (x : BlockSum) : FV × Bool :=
  let clash := x.pinf && x.ninf
  (if x.nan || clash then .nan false else if x.pinf then .inf false else if x.ninf then .inf true
   else if isZero x.sum then .fin false 0 0 else x.sum, x.nv || clash)

/-- One block added to the accumulator (R188, R197): NaN operands raise nothing of themselves. -/
def blockAdd (c : Nat) (sa sb : FV) (ps : List (FV × FV)) : Nat × BitVec 5 :=
  let r := blockResult (ps.foldl (fun x e => addProduct x e.1 e.2) ⟨.fin false 0 0, false, false, false, false⟩)
  let xp := (mulV (mulV sa sb).1 r.1).1
  let cv := fdecode fp32 c
  let o := withRound fp32 .rne (addV .rne (if isNan cv then .nan false else cv) xp)
  (o.1, o.2 ||| (if r.2 then fNV else 0))

/-- Element (i, j) under the block contract. -/
def blockElem (t : Thread) (sp : Bool) (tm tb ta i j c : Nat) : Nat × BitVec 5 :=
  let a := descOf t ta
  let b := descOf t tb
  let fmt := dFmt a
  let kk := dDense a
  (List.range ((kk + 31) / 32)).foldl (fun x blk =>
    let ps := ((List.range' (32 * blk) (min 32 (kk - 32 * blk))).filterMap fun k =>
      (bElem t sp tm tb fmt j k).map fun y =>
        (mmaValue fmt (dScale a) (rowElem t ta fmt i k), mmaValue fmt (dScale b) y))
    let r := blockAdd x.1 (blockScale t a i blk) (blockScale t b j blk) ps
    (r.1, x.2 ||| r.2)) (c, 0)

/-- Element (i, j) under the sequential contract. -/
def seqElem (t : Thread) (tb ta i j c : Nat) : Nat × BitVec 5 :=
  let a := descOf t ta
  let f := ffmt (dFmt a)
  (List.range (dDense a)).foldl (fun x k =>
    let r := fpFma f (rmOf t) false (rowElem t ta (dFmt a) i k) (rowElem t tb (dFmt a) j k) x.1
    (r.1, x.2 ||| r.2)) (c, 0)

/-- Element (i, j) under the integer contract. -/
def intElem (t : Thread) (sp : Bool) (tm tb ta i j c : Nat) : Nat :=
  let a := descOf t ta
  let fmt := dFmt a
  let n := contBits fmt
  intCode 32 ((List.range (dDense a)).foldl (fun x k =>
    match bElem t sp tm tb fmt j k with
    | some y => x + sgn n (rowElem t ta fmt i k) * sgn n y
    | none => x) (c : Int))

/-! ### The `MMA` as a job -/

/-- The 64-byte row that holds the other half of the FP64 pair row at `k` (R191). -/
def pairRow (k : Nat) : Nat := if k % 2 = 0 then k + 1 else k - 1

/-- What a job leaves of accumulator row `k` of `rows` (R188, R202); both marks of an FP64 pair row are set and
cleared together (R191, DEDUCED, log 60). -/
def jobRow (j : MmaJob) (rows : Nat → Marked) (k : Nat) : Marked :=
  let old := rows k
  match j.rows.find? fun e => decide (e.1 = k) with
  | none => old
  | some (_, x, n, m) =>
    ⟨BitVec.ofNat 512 (x.toNat % 2 ^ (8 * n) + old.data.toNat / 2 ^ (8 * n) * 2 ^ (8 * n)),
     m || (j.orMarks && (old.poison || (decide (j.ty = 2) && (rows (pairRow k)).poison)))⟩

/-- Accumulator rows, architectural and as the thread reads them, after one of its unfinished `MMA`s: an ordinary one
writes the architectural row and drops the shadow (R225, R227). -/
def forwardJob (th : Fin 4) (j : Option MmaJob) (x : (Nat → Marked) × (Nat → Marked)) : (Nat → Marked) × (Nat → Marked) :=
  match j with
  | some j =>
    if j.thread ≠ th then x
    else if j.spec then (x.1, jobRow j x.2)
    else (jobRow j x.1, fun k => if j.accs.contains (k / 16) then jobRow j x.1 k else x.2 k)
  | none => x

/-- An accumulator row with the partial results of the thread's own unfinished `MMA`s forwarded (R194). -/
def accForward (c : Core) (th : Fin 4) (t : Thread) (k : Nat) : Marked :=
  (forwardJob th c.mmaWait (forwardJob th c.mmaRun (accArch t, accRow t))).2 k

/-- Code of accumulator element (i, j) of type `ty` (R189). -/
def accElem (row : Nat → Marked) (ad ty i j : Nat) : Nat :=
  if ty = 2 then elemAt (row (16 * (ad + i / 8) + 2 * (i % 8) + j / 8)).data.toNat 64 (j % 8)
  else elemAt (row (16 * ad + i)).data.toNat 32 j

/-- Invalid T2 elements of the operands: tile, row, index, in the order of R201. -/
def badT2s (t : Thread) (tile : Nat) : List (Nat × Nat × Nat) :=
  let x := descOf t tile
  if dFmt x ≠ 11 then []
  else (List.range (dRows x)).flatMap fun r =>
    ((List.range (tcStored x)).filter fun i => decide (rowElem t tile 11 r i = 2)).map fun i => (tile, r, i)

/-- Rows of tA, tB, tM and the scale tiles that an `MMA` reads (R174, R202). -/
def mmaRowsRead (t : Thread) (sp : Bool) (tm tb ta : Fin 8) : List Nat :=
  let a := descOf t ta.val
  let b := descOf t tb.val
  let m := (List.range (dRows a))
  let n := (List.range (dRows b))
  m.map (fun r => 16 * ta.val + r) ++ n.map (fun r => 16 * tb.val + r)
  ++ (if sp then n.map (fun r => 16 * tm.val + r) else [])
  ++ (if dScale a then m.map (fun r => 16 * dScaleTile a + r) else [])
  ++ (if dScale b then n.map (fun r => 16 * dScaleTile b + r) else [])

/-- Mark of accumulator row `i` (R201, R202). -/
def mmaMark (t : Thread) (sp : Bool) (tm tb ta : Fin 8) (i : Nat) : Bool :=
  let a := descOf t ta.val
  let b := descOf t tb.val
  let pm := rowPoison t
  let n := List.range (dRows b)
  pm ta.val i || (dScale a && pm (dScaleTile a) i)
  || n.any (pm tb.val) || (dScale b && n.any (pm (dScaleTile b))) || (sp && n.any (pm tm.val))
  || (badT2s t ta.val).any (fun e => decide (e.2.1 = i)) || decide (badT2s t tb.val ≠ [])

/-- Cycles per sixteenth of a stored element times 16 (R192). -/
def mmaCost : Nat → Nat
  | 0 => 128 | 1 => 32 | 2 => 8 | 3 => 8 | 4 => 4 | 5 => 4 | 6 => 2 | 7 => 2 | 8 => 2 | 9 => 4 | 10 => 2 | _ => 1

/-- T of R192: c × 4 is `mmaCost`. -/
def mmaCycles (fmt stored : Nat) : Nat := max 1 ((stored * mmaCost fmt + 3) / 4)

/-- Whether the thread waits for its `MMA` (R200). -/
def mmaBlocks (t : Thread) (ta : Fin 8) : Bool :=
  let a := descOf t ta.val
  (decide (fld t.fpCtrl 3 5 ≠ 0) && decide (accTy (dFmt a) (dScale a) ≠ 1)) || (t.t2Policy && decide (dFmt a = 11))

/-- The job of an `MMA` with the operands as they stand at issue (R195). -/
def mmaJob (c : Core) (th : Fin 4) (t : Thread) (spec acc sp : Bool) (tm tb ta : Fin 8) (ad : Fin 4) :
    MmaJob :=
  let a := descOf t ta.val
  let b := descOf t tb.val
  let fmt := dFmt a
  let ty := accTy fmt (dScale a)
  let m := dRows a
  let n := dRows b
  let row := accForward c th t
  let start := fun i j => if acc then accElem row ad.val ty i j
    else if ty = 2 then 2 ^ 63 else if ty = 1 then 0 else 2 ^ 31
  let elem := fun i j =>
    if ty = 1 then (intElem t sp tm.val tb.val ta.val i j (start i j), (0 : BitVec 5))
    else if fmt = 0 ∨ fmt = 1 then seqElem t tb.val ta.val i j (start i j)
    else blockElem t sp tm.val tb.val ta.val i j (start i j)
  let grid := (List.range m).map fun i => (List.range n).map fun j => elem i j
  let flags := grid.foldl (fun x r => r.foldl (fun y e => y ||| e.2) x) (0 : BitVec 5)
  let mark := mmaMark t sp tm tb ta
  let rows := ((List.range m).map fun i =>
    let es := (nth [] grid i).map fun e => e.1
    if ty = 2 then
      [(16 * (ad.val + i / 8) + 2 * (i % 8), BitVec.ofNat 512 (assemble 64 (es.take 8)), 8 * min n 8, mark i),
       (16 * (ad.val + i / 8) + 2 * (i % 8) + 1, BitVec.ofNat 512 (assemble 64 (es.drop 8)), 8 * (n - 8), mark i)]
    else [(16 * ad.val + i, BitVec.ofNat 512 (assemble 32 es), 4 * n, mark i)]).flatten
  let badT := badT2s t ta.val ++ badT2s t tb.val
  let fault : Option (BitVec 8 × Word) :=
    match t.t2Policy, badT with
    | true, (tile, r, i) :: _ => some (0x14, BitVec.ofNat 64 (i + 256 * r + 4096 * tile))
    | _, _ => if ty ≠ 1 ∧ trapped t flags ≠ 0 then some (0x0A, (trapped t flags).setWidth 64) else none
  { thread := th
    tiles := [ta, tb] ++ (if sp then [tm] else [])
      ++ (if dScale a then [Fin.ofNat 8 (dScaleTile a), Fin.ofNat 8 (dScaleTile b)] else [])
    accs := if ty = 2 then [ad.val, ad.val + 1] else [ad.val]
    ty := ty
    blocks := mmaBlocks t ta
    fault := fault
    flags := match fault with | some (0x14, _) => 0 | _ => flags
    spec := spec
    rows := rows
    orMarks := acc
    cycles := mmaCycles fmt (tcStored b) }

/-- The stalls of R193 and R194. -/
def mmaStall (c : Core) (th : Fin 4) (t : Thread) (acc : Bool) (ta : Fin 8) (ad : Fin 4) : Bool :=
  let a := descOf t ta.val
  let ty := accTy (dFmt a) (dScale a)
  let accs := if ty = 2 then [ad.val, ad.val + 1] else [ad.val]
  let clash := fun j : MmaJob => decide (j.thread = th) && j.accs.any accs.contains
    && !(acc && decide (j.accs = accs) && decide (j.ty = ty))
  let any := fun j : Option MmaJob => match j with | some j => clash j | none => false
  c.mmaWait.isSome || any c.mmaRun || any c.mmaWait

/-- The thread's latest unfinished `MMA` that writes accumulator `a`. -/
def lastWriter (c : Core) (th : Fin 4) (a : Nat) : Option MmaJob :=
  (c.mmaWait.toList ++ c.mmaRun.toList).find? fun j => decide (j.thread = th) && j.accs.contains a

/-- Accumulators that an accumulation reads from the register, not from an unfinished `MMA` whose result is forwarded
to it (R194, R224, R227). -/
def accsHeld (c : Core) (th : Fin 4) (accs : List Nat) : List Nat := accs.filter fun a => (lastWriter c th a).isNone

/-- An unfinished speculative `MMA` of the thread is the last to write one of the accumulators. -/
def pendingSpec (c : Core) (th : Fin 4) (accs : List Nat) : Bool :=
  accs.any fun a => match lastWriter c th a with | some j => j.spec | none => false

def mmaAct (c : Core) (th : Fin 4) (t : Thread) (acc sp : Bool) (tm tb ta : Fin 8) (ad : Fin 4) : Act :=
  let fmt := dFmt (descOf t ta.val)
  let accs := if fmt = 0 then [ad.val, ad.val + 1] else [ad.val]
  { reads := { rows := mmaRowsRead t sp tm tb ta, acc := if acc then accsHeld c th accs else [],
               spec := acc && pendingSpec c th accs }
    fault := mmaFault t sp tm tb ta ad
    stall := mmaStall c th t acc ta ad
    accs := accs
    noSpec := decide (fmt = 0 ∨ fmt = 1) }

/-- The job enters the waiting place (R193); the thread goes on, or waits under R200. -/
def mmaIssue (h : Hart) (spec acc sp : Bool) (tm tb ta : Fin 8) (ad : Fin 4) (bad : List Nat) (s : State) : State :=
  let rows := mmaRowsRead (thread s h) sp tm tb ta
  let start := fun s => modCore s h.core fun c =>
    { c with mmaWait := some (mmaJob c h.thread (thOf c h.thread) spec acc sp tm tb ta ad) }
  let s := if spec then parityDefer h rows bad start s else start (parityFail h rows bad s)
  if mmaBlocks (thread s h) ta then setRun h (.waiting .mma) s else modTh s h (advPc 4)

/-- The results of a job written (R199, R201, R225). -/
def mmaWrite (h : Hart) (j : MmaJob) (s : State) : State :=
  modCore s h.core fun c =>
    let t := thOf c h.thread
    let ws := j.rows.map fun e =>
      Wr.acc e.1 (jobRow j (if j.spec then accRow t else accArch t) e.1)
    let c := ws.foldl (if j.spec then applySpecWr h else applyWr h) c
    let t := thOf c h.thread
    setTh c h.thread (if j.spec then deferFlags j.flags none t else { t with fpFlags := t.fpFlags ||| j.flags })

/-- The end of the running `MMA` (R193, R199, R200, R201, R230): of a job for which its thread waits, that wait ends,
or its fault is taken; an earlier one that ends meanwhile leaves the thread waiting. -/
def mmaDone (core : CoreId) (j : MmaJob) (s : State) : State :=
  let h : Hart := ⟨core, j.thread⟩
  let waits := j.blocks && decide ((thread s h).run = .waiting .mma)
  match j.fault with
  | none =>
    let s := mmaWrite h j s
    if waits then modTh s h fun t => advPc 4 { t with run := .ready } else s
  | some f =>
    if !waits then s
    else if j.spec then
      modTh s h fun t => deferFlags j.flags none (advPc 4 (deferFault t.pc ⟨f.1, f.2, false⟩ { t with run := .ready }))
    else takeFault h 4 ⟨f.1, f.2, false⟩
      (modTh s h fun t => { t with run := .ready, fpFlags := t.fpFlags ||| j.flags })

/-! ### `ACVT` (R203–R210) -/

/-- A conversion block (R204). -/
structure CvtBlock where
  ctl : Word
  lo : Nat
  hi : Nat
  reserved : Nat
  scale : List Nat
  bias : List Nat
  deriving DecidableEq, Repr

def cvtBlock (bs : List Byte) : CvtBlock :=
  let w32 := fun o => bytesNat ((bs.drop o).take 4)
  { ctl := bytes64 (bs.take 8), lo := w32 8, hi := w32 12, reserved := bytesNat ((bs.drop 16).take 48)
    scale := (List.range 32).map fun i => w32 (64 + 4 * i)
    bias := (List.range 32).map fun i => w32 (192 + 4 * i) }

def cvDst (b : CvtBlock) : Nat := fld b.ctl 0 4
def cvSrc (b : CvtBlock) : Nat := fld b.ctl 4 2
def cvRnd (b : CvtBlock) : Nat := fld b.ctl 6 3
def cvSat (b : CvtBlock) : Bool := bit b.ctl 9
def cvMx (b : CvtBlock) : Bool := bit b.ctl 13

/-- Columns converted per row (R205 check 6, R206). -/
def cvWidth (wide : Bool) (b : CvtBlock) : Nat := if wide then 32 else if cvDst b = 0 then 8 else 16

/-- Checks 3 to 7 of R205. -/
def acvtCheck (t : Thread) (wide half dv : Bool) (aa : Fin 4) (d : Fin 32) (b : CvtBlock) : Option Flt :=
  let dst := cvDst b
  let src := cvSrc b
  let f5 : Flt := ⟨0x05, 0xF, false⟩
  let lo := fdecode fp32 b.lo
  let hi := fdecode fp32 b.hi
  let x := descOf t d.val
  if fld b.ctl 15 49 ≠ 0 ∨ b.reserved ≠ 0 ∨ src = 3 ∨ cvRnd b = 7 ∨ 0xB < dst
      ∨ (bit b.ctl 12 = true ∧ (isNan lo = true ∨ isNan hi = true ∨ ltV hi lo = true)) then some f5
  else if (src = 2 ∧ ¬(aa.val % 2 = 0 ∧ wide = false ∧ cvMx b = false)) ∨ (half = true ∧ dst ≠ 0) then some f5
  else if (cvMx b = true ∧ ¬(wide = true ∧ [4, 5, 6, 7, 8, 9, 11].contains dst = true))
      ∨ (scaling dst = 2 ∧ cvMx b = false) then some f5
  else if 512 < cvWidth wide b * contBits dst then some f5
  else if dv = false ∧ ¬(dRows x ≠ 0 ∧ tcKind x = 0 ∧ dMeta x = false ∧ dFmt x = dst
      ∧ dRb x * 8 = cvWidth wide b * contBits dst ∧ dScale x = cvMx b) then
    some ⟨0x05, BitVec.ofNat 64 d.val, false⟩
  else none

/-- Accumulators an `ACVT` reads: aA, aA+1 when `WIDE`, or the FP64 pair. -/
def acvtAccs (wide : Bool) (src : Nat) (aa : Fin 4) : List Nat :=
  if wide || decide (src = 2) then [aa.val, aa.val + 1] else [aa.val]

/-- Exact value of column `c` of row `r` (R206). -/
def acvtValue (t : Thread) (src aa r c : Nat) : FV :=
  if src = 2 then fdecode fp64 (accElem (accRow t) aa 2 r c)
  else
    let x := accElem (accRow t) (aa + c / 16) 0 r (c % 16)
    if src = 1 then ofInt (sgn 32 x) else fdecode fp32 x

/-- Mark of the accumulator rows row `r` is converted from (R191, R208). -/
def acvtMark (t : Thread) (wide : Bool) (src aa r : Nat) : Bool :=
  if src = 2 then (accRow t (16 * (aa + r / 8) + 2 * (r % 8))).poison || (accRow t (16 * (aa + r / 8) + 2 * (r % 8) + 1)).poison
  else (accRow t (16 * aa + r)).poison || (wide && (accRow t (16 * (aa + 1) + r)).poison)

/-- The scale, bias and clip steps of one element (R206). -/
def acvtStep (b : CvtBlock) (c : Nat) (x : FV) : FV × BitVec 5 :=
  let w := if cvSrc b = 2 then fp64 else fp32
  let one : FV := .fin false 1 0
  let sc := if bit b.ctl 10 then fdecode fp32 (nth 0 b.scale c) else one
  let r : FV × BitVec 5 :=
    if bit b.ctl 11 then
      let o := withRound w .rne (fmaV .rne x sc (fdecode fp32 (nth 0 b.bias c)))
      (fdecode w o.1, o.2)
    else if bit b.ctl 10 then
      let o := withRound w .rne (mulV x sc)
      (fdecode w o.1, o.2)
    else (x, 0)
  if bit b.ctl 12 && !isNan r.1 then
    let lo := fdecode fp32 b.lo
    let hi := fdecode fp32 b.hi
    (if ltV r.1 lo then lo else if ltV hi r.1 then hi else r.1, r.2)
  else r

/-- Largest magnitude of finite values, as magnitude and exponent. -/
def amax : List FV → Nat × Int
  | [] => (0, 0)
  | .fin _ m e :: l => let x := amax l; if magLe m e x.1 x.2 then x else (m, e)
  | _ :: l => amax l

def mxEmax : Nat → Int | 4 => 8 | 5 => 15 | 6 => 4 | 7 => 2 | 8 => 2 | _ => 0

/-- `block_scale` of R207: the scale byte, the scaled values, and whether invalid is raised. -/
def genScale (dst : Nat) (vals : List FV) : Nat × List FV × Bool :=
  if vals.any fun v => isNan v || isInf v then (0xFF, vals.map fun _ => .fin false 0 0, true)
  else
    let a := amax vals
    if a.1 = 0 then (0x7F, vals, false)
    else
      let e0 : Int := (Nat.log2 a.1 : Nat) + a.2 - mxEmax dst
      let e := if e0 < -127 then -127 else e0
      ((e + 127).toNat, vals.map (fun v => match v with
        | .fin n m g => .fin n m (g - e + (if dst = 9 then 6 else 0))
        | v => v), false)

/-- Convert a row's values in column order, drawing where rounding is stochastic (R185, R186, R207). -/
def convRow (t : Thread) (b : CvtBlock) : List FV → Word → List Nat × BitVec 5 × Word
  | [], x => ([], 0, x)
  | v :: l, x =>
    let y := if cvRnd b = 5 then srNext x else x
    let rm := if cvRnd b = 5 then .sr (srDraw y) else if cvRnd b = 6 then rmOf t else rmOfCode (cvRnd b)
    let sat := (cvSat b || cvMx b) && !(decide (cvDst b = 0) && decide (cvSrc b ≠ 2))
    let r := narrow (cvDst b) rm sat v
    let fl := if cvMx b then r.2 &&& ~~~fOF else r.2
    let o := convRow t b l y
    (r.1 :: o.1, fl ||| o.2.1, o.2.2)

/-- One converted row: its bits, its scale byte, and the exceptions. -/
def acvtRow (t : Thread) (wide half : Bool) (aa r : Nat) (b : CvtBlock) (x : Word) :
    BitVec 512 × Nat × BitVec 5 × Word :=
  let cols := (List.range (cvWidth wide b)).map fun c => if half then c + 8 else c
  let vs := cols.map fun c => acvtStep b c (acvtValue t (cvSrc b) aa r c)
  let fl := vs.foldl (fun a v => a ||| v.2) (0 : BitVec 5)
  let g := if cvMx b then genScale (cvDst b) (vs.map fun v => v.1) else (0, vs.map fun v => v.1, false)
  let o := convRow t b g.2.1 x
  (BitVec.ofNat 512 (assemble (contBits (cvDst b)) o.1), g.1, fl ||| o.2.1 ||| (if g.2.2 then fNV else 0), o.2.2)

/-- All rows in order. -/
def acvtRows (t : Thread) (wide half : Bool) (aa : Nat) (b : CvtBlock) : List Nat → Word →
    List (Nat × BitVec 512 × Nat) × BitVec 5 × Word
  | [], x => ([], 0, x)
  | r :: l, x =>
    let o := acvtRow t wide half aa r b x
    let u := acvtRows t wide half aa b l o.2.2.2
    ((r, o.1, o.2.1) :: u.1, o.2.2.1 ||| u.2.1, u.2.2)

/-- The job of an `ACVT` that passed checks 1 to 7 (R206, R208, R209). -/
def acvtJob (c : Core) (th : Fin 4) (t : Thread) (spec wide half : Bool) (row : Fin 16) (a : Word) (dv : Bool)
    (aa : Fin 4) (d : Fin 32) : AcvtJob :=
  let b := cvtBlock (readView c (some th) a.toNat 320)
  let x := descOf t d.val
  let rs := if dv then [row.val] else List.range (dRows x)
  let o := acvtRows t wide half aa.val b rs (srState spec t)
  let mark := acvtMark t wide (cvSrc b) aa.val
  let blkBad := (wordsOf a.toNat 320).any (poisonView c (some th))
  { fault := if trapped t o.2.1 ≠ 0 then some (0x0A, (trapped t o.2.1).setWidth 64)
      else if (bit b.ctl 14 && rs.any mark) || blkBad then
        some (0x07, BitVec.ofNat 64 (aa.val + (if blkBad then 256 else 0)))
      else none
    flags := o.2.1
    sr := o.2.2
    spec := spec
    rows := if dv then [] else o.1.flatMap fun e =>
      (Fin.ofNat 8 d.val, Fin.ofNat 16 e.1, e.2.1, mark e.1) ::
        (if cvMx b then [(Fin.ofNat 8 (dScaleTile x), Fin.ofNat 16 e.1, BitVec.ofNat 512 e.2.2, mark e.1)] else [])
    vec := if dv then match o.1 with
      | e :: _ => some (d, e.2.1 ||| (if cvMx b then BitVec.ofNat 512 (e.2.2 * 2 ^ 504) else 0), mark row.val)
      | [] => none
      else none }

/-- The writes of a finished `ACVT`. -/
def acvtWrites (j : AcvtJob) : List Wr :=
  j.rows.map (fun e => .row (16 * e.1.val + e.2.1.val) e.2.2.1 e.2.2.2)
  ++ (match j.vec with | some (d, x, m) => [.v d ⟨x, m⟩ false] | none => [])

def acvtAct (c : Core) (th : Fin 4) (t : Thread) (wide half : Bool) (_row : Fin 16) (a : Word) (dv : Bool)
    (aa : Fin 4) (d : Fin 32) : Act :=
  let early := if a.toNat % 64 ≠ 0 then some (⟨0x04, a, false⟩ : Flt)
    else if localTop < a.toNat + 320 then some ⟨0x03, BitVec.ofNat 64 (max a.toNat localTop), false⟩ else none
  let dests : List Wr := if dv then [.v d ⟨0, false⟩ false]
    else (List.range (dRows (descOf t d.val))).flatMap fun r =>
      .row (16 * d.val + r) 0 false ::
        (if dScale (descOf t d.val) then [.row (16 * dScaleTile (descOf t d.val) + r) 0 false] else [])
  match early with
  | some f => { reads := { acc := if wide then [aa.val, aa.val + 1] else [aa.val] }, fault := some f, writes := dests }
  | none =>
    let b := cvtBlock (readView c (some th) a.toNat 320)
    let accs := acvtAccs wide (cvSrc b) aa
    { reads := { acc := accs, words := wordsOf a.toNat 320 }
      fault := acvtCheck t wide half dv aa d b
      stall := mmaWrites c th accs || (!dv && mmaHolds c th
        (d.val :: (if dScale (descOf t d.val) then [dScaleTile (descOf t d.val)] else [])))
      writes := dests }

/-- The conversion starts; its thread waits for it (R210). -/
def acvtIssue (h : Hart) (spec wide half : Bool) (row : Fin 16) (b : Fin 32) (dv : Bool) (aa : Fin 4) (d : Fin 32)
    (s : State) : State :=
  modCore s h.core fun c =>
    let t := thOf c h.thread
    setTh c h.thread { t with
      acvt := some (acvtJob c h.thread t spec wide half row (gReg t b) dv aa d), run := .waiting .acvt }

/-- The end of an `ACVT` (R208–R210, R230). -/
def acvtDone (h : Hart) (j : AcvtJob) (s : State) : State :=
  let s := modTh s h fun t => { t with run := .ready, acvt := none }
  match j.fault with
  | none =>
    let a : Act := { writes := acvtWrites j, flags := j.flags, sr := some j.sr }
    if j.spec then finishSpec h 4 { a with sr := if j.sr = srState true (thread s h) then none else a.sr } s
    else finish h 4 a s
  | some f =>
    let fl := if f.1 = 0x0A then j.flags else 0
    if j.spec then modTh s h fun t => deferFlags fl none (advPc 4 (deferFault t.pc ⟨f.1, f.2, false⟩ t))
    else takeFault h 4 ⟨f.1, f.2, false⟩ (modTh s h fun t => { t with fpFlags := t.fpFlags ||| fl })

/-! ### Meanings -/

/-- `MMA` (R173, R174, R187–R202). -/
def execMma (h : Hart) (p : Fin 8) (acc : Bool) (sp : Bool) (tm : Fin 8) (tb : Fin 8) (ta : Fin 8) (ad : Fin 4) (bad : List Nat) (s : State) : Host.Outcome State Fault Refusal :=
  guardWf (.mma h p acc sp tm tb ta ad bad) h 4
    (issueWith h p 4 (fun c t => mmaAct c h.thread t acc sp tm tb ta ad)
      (fun _ => mmaIssue h false acc sp tm tb ta ad bad) (fun _ => mmaIssue h true acc sp tm tb ta ad bad)) s

/-- `MMA_START` (R193). -/
def execMmaStart (core : CoreId) (s : State) : Host.Outcome State Fault Refusal :=
  .next (modCore s core fun c =>
    match c.mmaRun, c.mmaWait with
    | none, some j => { c with mmaRun := some j, mmaWait := none, passed := [] }
    | _, _ => c)

/-- `MMA_COMPLETE` (R193, R199–R202). -/
def execMmaComplete (core : CoreId) (s : State) : Host.Outcome State Fault Refusal :=
  match (coreOf s core).mmaRun with
  | some j => .next (mmaDone core j (modCore s core fun c => { c with mmaRun := none, passed := [] }))
  | none => .next s

/-- `ACVT` (R203–R210). -/
def execAcvt (h : Hart) (p : Fin 8) (wide : Bool) (half : Bool) (row : Fin 16) (b : Fin 32) (dv : Bool) (aa : Fin 4) (d : Fin 32) (s : State) : Host.Outcome State Fault Refusal :=
  guardWf (.acvt h p wide half row b dv aa d) h 4
    (issueWith h p 4 (fun c t => acvtAct c h.thread t wide half row (gReg t b) dv aa d)
      (fun _ => acvtIssue h false wide half row b dv aa d) (fun _ => acvtIssue h true wide half row b dv aa d)) s

/-- `ACVT_COMPLETE` (R208–R210). -/
def execAcvtComplete (h : Hart) (s : State) : Host.Outcome State Fault Refusal :=
  match (thread s h).run, (thread s h).acvt with
  | .waiting .acvt, some j => .next (acvtDone h j (newSlot h.core s))
  | _, _ => .next s

end Sys2Proof.Machine
end

