-- ==== Sys2Proof/Machine/Reliability.lean ====
section
/-!
DEFINITION. Scrub and patrol (R242, R410, R413), table words (R412), failed cores, migration, removal
and reinstatement (R416–R423), self-tests (R425, R450) and flash stores (R429–R431).
-/
namespace Sys2Proof.Machine
open Sys2Proof

/-! ### Memory scrub -/

/-- The physical core has shown an uncorrectable word (R416). -/
def noteWord (core : CoreId) (code : Bool) (w : Nat) (s : State) : State :=
  let k := physicalOf s core
  { s with history := tset s.history k { historyOf s k with words := (historyOf s k).words ++ [(code, w, s.clock.now)] } }

/-- An uncorrectable local or code word is poisoned in place and logged (R410); bit 63 marks the code space. -/
def poisonWord (core : CoreId) (code : Bool) (w : Nat) (s : State) : State :=
  let s := modCore s core fun c =>
    if code then { c with codePoison := sins c.codePoison w } else { c with poison := sins c.poison w }
  let s := noteWord core code w (count s (ctrDie (dieOf core) 9) 1)
  logCore core 0 0x39 (BitVec.ofNat 64 (8 * w + at_ (b2n code) 63)) s

/-- `HBM_PATROL` (R242): 64-byte sector `sector` of a stack. -/
def execHbmPatrol (stack : Fin 8) (sector : BitVec 30) (ecc : EccOutcome) (s : State) : Host.Outcome State Fault Refusal :=
  let a := (sector.toNat / 4 * 8 + stack.val) * 256 + sector.toNat % 4 * 64
  let die := emDie stack.val
  .next (if bulkTop ≤ a then s
    else match ecc with
      | .clean => s
      | .corrected => count s (ctrEdie die 5) 1
      | .uncorrectable =>
        logEdie die 0 none 0x24 (BitVec.ofNat 64 a)
          (count { s with bulkPoison := sins s.bulkPoison (a / 64) } (ctrEdie die 6) 1))

/-! ### Crossings (R295, R296) -/

/-- What the messages in the ingress buffer of a port held is discarded, and their credits are owed to the peer. -/
def emptyIngress (p : LinkPort) : LinkPort :=
  p.rxOpen.foldl (fun p e => owe e.1 e.2.length p) { p with rxOpen := [], missed := none }

/-- The accepted bulk bursts of stack `n` are discarded; a cancelled stream that waited for nothing else gives up its
staging. -/
def dropHbm (n : Nat) (x : Engine) : Engine :=
  let keeps := fun (d : Desc) (b : Burst) => burstFar d b || decide (burstAddr d b / 256 % 8 ≠ n)
  let cut := fun r : StreamRun => { r with bursts := r.bursts.filter (keeps r.cmd.desc) }
  { x with run := x.run.map cut, ahead := x.ahead.map cut, dying := (x.dying.map cut).filter fun r => decide (r.bursts ≠ []) }

/-- A clock-domain crossing is reset. Units 16 to 31 of an E-die are the crossings out of the mesh at its shore ports
(R71). Units 0 to 15 are those of R296: unit 0 of an E-M at its HBM controller, units 0 to 3 and 4 to 7 of an E-L the
messages to send and the ingress buffers of its ports; at the PCIe endpoint, and at the others, nothing stands between
commands (DESIGN CHOICE, log 171). -/
def resetCrossing (die : EDie) (unit : Fin 32) (s : State) : State :=
  let d := die.val
  if 16 ≤ unit.val then { s with shoreOut := tset s.shoreOut (16 * d + unit.val % 16) [] }
  else
    match (List.range 8).find? (fun n => decide (emDie n = d)), (List.range 4).find? (fun n => decide (elDie n = d)) with
    | some n, _ => if unit = 0 then { s with engines := tmap (fun _ => dropHbm n) s.engines } else s
    | none, some n =>
      let k : PortId := Fin.ofNat 16 (4 * n + unit.val % 4)
      if unit.val < 4 then modPortL s k fun p => { p with queue := [] }
      else if unit.val < 8 then modPortL s k emptyIngress
      else s
    | none, none => s

/-- `QUEUE_POINTER_MISMATCH` (R295). -/
def execQueuePointerMismatch (q : HwQueue) (s : State) : Host.Outcome State Fault Refusal :=
  .next (match q with
    | .notice core k => resetNotice core k s
    | .injection core k => logCore core 0 0x10 (BitVec.ofNat 64 k.val) (resetInj core k s)
    | .staging port e => logEdie (edieOf port) e.val none 0x10 (BitVec.ofNat 64 port.val) (resetStaging port e s)
    | .crossing die unit => logEdie die.val unit.val none 0x10 (BitVec.ofNat 64 unit.val) (resetCrossing die unit s))

/-! ### Tables (R412) -/

/-- The log record of a table word holds the die and the word; where `INFO` names the word is not stated (R412, log 149). -/
def logTable (core : CoreId) (word : List Nat) (s : State) : State := noteCore core 0 0x39 word s

/-- A record of a die that names no core. -/
def logDie (d : Nat) (word : List Nat) (s : State) : State :=
  logItem ⟨0x39, BitVec.ofNat 6 d, 0, none, 0, false, Config.infoOf 0x39 word, word⟩ s

/-- The counter numbers `TBL_CE` and `TBL_UE` stand at: the address of `TBL_CE`. -/
def tableCtr : TableWord → Nat
  | .routeBank core _ _ | .borderMask core _ _ => ctrDie (dieOf core) 15
  | .replica unit _ => if unit.val < 32 then ctrDie unit.val 15 else ctrEdie (unit.val - 32) 3
  | .flagBank die _ => ctrDie die.val 15
  | .deviceRoute die _ => ctrEdie die.val 3

/-- What an uncorrectable table or flag-bank word does (R412); one of a route bank or border mask is an error of the core's
router (R416). The word of the device route table has no
row there: its entry is a free value (log 164). -/
def tableWrong (t : TableWord) (s : State) : State :=
  let s := count s (tableCtr t + 8) 1
  match t with
  | .routeBank core bank entry =>
    let rt := routerOf s core
    logTable core [b2n bank, entry.val] <|
      noteLink core (if rt.active = bank then setRouter s core { rt with badEntries := sins rt.badEntries entry.val } else s)
  | .borderMask core ports stuck =>
    let rt := routerOf s core
    logTable core [ports.toNat] <| noteLink core (setRouter s core { rt with
      badPorts := rt.badPorts ||| ports
      stuckPorts := if stuck then rt.stuckPorts ||| ports else rt.stuckPorts })
  | .replica unit entry =>
    let s := { s with badReplicas := s.badReplicas ++ [(unit.val, entry.val)] }
    logDie unit.val [entry.val] s
  | .flagBank die word => logDie die.val [word.val] { s with badFlagWords := s.badFlagWords ++ [(die.val, word.val)] }
  | .deviceRoute die entry =>
    let d := drawFree s
    logDie (32 + die.val) [entry.toNat] { d.2 with routes := tset d.2.routes entry.toNat (d.1.setWidth 16) }

/-- `TABLE_UNCORRECTABLE` (R412). -/
def execTableUncorrectable (t : TableWord) (s : State) : Host.Outcome State Fault Refusal := .next (tableWrong t s)

/-! ### The scrub (R409, R413) -/

/-- The counter `Q_CE` of a queue word's die; `Q_UE` follows it. -/
def queueCtr : WordStore → Nat
  | .staging _ port => ctrEdie (edieOf port) 1
  | .notice core _ | .injection core _ | .landing core => ctrDie (dieOf core) 11
  | _ => 0

def poisonFlit (w : Nat) (f : Flit) : Flit := { f with words := updAt f.words w fun x => { x with poison := true } }

/-- Word `w` of flit `i` of a stream's staging queue at a port is marked: of a write stream, its outbound queue (R259,
R271). -/
def poisonStaged (port i w : Nat) (x : StreamRun) : StreamRun :=
  let mark := fun l : List StagedFlit => updAt l i fun f =>
    { f with words := updAt f.words w fun y => { y with poison := true } }
  if dKind x.cmd.desc = 1 then { x with outq := mark x.outq }
  else { x with queue := tset x.queue port (mark (tget [] x.queue port)) }

/-- An uncorrectable word of a queue is delivered marked poisoned (R409). A notice has no mark to carry: its
half is a free value (log 165). -/
def queueWrong (q : WordStore) (i : Nat) (w : Fin 8) (s : State) : State :=
  match q with
  | .notice core n =>
    let d := drawFree s
    modCore d.2 core fun c =>
      let x := nqOf c n.val
      setNq c n.val { x with items := updAt x.items i fun y => if w = 1 then { y with hi := d.1 } else { y with lo := d.1 } }
  | .injection core n => modCore s core fun c =>
      let x := injOf c n.val
      setInj c n.val { x with flits := updAt x.flits i (poisonFlit w.val) }
  | .landing core => modCore s core fun c => { c with inbox := updAt c.inbox i (poisonFlit w.val) }
  | .staging e port =>
    let x := engineOf s e
    setEngine s e { x with run := x.run.map (poisonStaged port.val i w.val)
                           ahead := x.ahead.map (poisonStaged port.val i w.val)
                           draining := x.draining.map (poisonStaged port.val i w.val) }
  | _ => s

/-- A way of a spill cache has shown an error (R278). -/
def noteWay (link : LinkId) (way : Fin 16) (at_ : Option Nat) (s : State) : State :=
  setSpill s link { spillOf s link with faults := (spillOf s link).faults ++ [(way, at_)] }

/-- The check of one stored word (R409): word `w` of entry `i`. -/
def checkWord (q : WordStore) (i : Nat) (w : Fin 8) (ecc : EccOutcome) (s : State) : State :=
  match ecc, q with
  | .clean, _ => s
  | .corrected, .memory core _ => count s (ctrDie (dieOf core) 8) 1
  | .uncorrectable, .memory core code => poisonWord core code i s
  | .corrected, .table t => count s (tableCtr t) 1
  | .uncorrectable, .table t => tableWrong t s
  | .corrected, .spill link way => noteWay link way (some s.clock.now) (count s (ctrEdie (ehDie link.val) 7) 1)
  | .uncorrectable, .spill link way => noteWay link way none (count s (ctrEdie (ehDie link.val) 8) 1)
  | .corrected, q => count s (queueCtr q) 1
  | .uncorrectable, q => queueWrong q i w (count s (queueCtr q + 8) 1)

/-- Entry `i` of a store exists and has a word `w`; one of a queue exists whether or not it is in use. -/
def wordExists (q : WordStore) (i : Nat) (w : Fin 8) : Bool :=
  match q with
  | .memory _ code => decide (i < if code then 0x2000 else localTop / 8) && decide (w = 0)
  | .notice _ _ => decide (w ≤ 1)
  | .injection _ _ | .landing _ | .staging _ _ => true
  | .table _ | .spill _ _ => decide (i = 0 ∧ w = 0)

/-- `LOCAL_SCRUB` (R409, R410, R413): the scrub, or an access, checks a stored word. -/
def execLocalScrub (q : WordStore) (i : Nat) (w : Fin 8) (ecc : EccOutcome) (s : State) :
    Host.Outcome State Fault Refusal :=
  .next (if wordExists q i w then checkWord q i w ecc s else s)

/-! ### Failed cores (R416–R421) -/

/-- Logical column that physical column `c` holds under FIRST = `f` (R83). -/
def logicalCol (f : BitVec 5) (c : Nat) : Option Nat :=
  if f.toNat < 16 then (if c < f.toNat then some c else if c = f.toNat then none else some (c - 1))
  else if c < 16 then some c else none

/-- The region's deletion is pending (R421). -/
def hasPendingDelete (x : Region) : Bool := x.pending.any fun e => decide (e.2 = .delete)

/-- A region loses a core: it stops at Daybreak `n` (R419, R422). -/
def failRegion (n : Nat) (lost : Bool) (s : State) (r : RegionId) : State :=
  if hasPendingDelete (regOf s r) then s
  else modReg s r fun x => { x with failStop := some (match x.failStop with | some m => min m n | none => n)
                                    lostPosition := x.lostPosition || lost }

/-- The gate of a position closes (R417). -/
def isolate (c : CoreId) (s : State) : State := modCore s c fun x => { x with isolated := true }

/-- A position under the map of Daybreak `n`: a shift that takes effect by then moves its physical core
(R83, R422). -/
def relabel (s : State) (n : Nat) (c : CoreId) : Option CoreId :=
  let x := rowAt s c
  (logicalCol (rowOn n x).first (physicalCol x.first (coreX c % 16))).map (rowCore (spareRow c))

/-- Positions enter the removal list at a coming Daybreak; past 64 entries their whole C-dies go (R422). -/
def removePositions (l : List CoreId) (s : State) : State :=
  let n := effDay s
  let l := (l.filterMap (relabel s n)).eraseDups
  let new := fun cur : List (BitVec 14) × List (Fin 32) => (l.map fun c => BitVec.ofNat 14 c.val).filter fun c => !cur.1.contains c
  let full := fun cur : List (BitVec 14) × List (Fin 32) => decide (64 < cur.1.length + (new cur).length)
  let dies := fun cur : List (BitVec 14) × List (Fin 32) =>
    (l.map fun c => (Fin.ofNat 32 (dieOf c) : Fin 32)).eraseDups.filter fun d => !cur.2.contains d
  let now := removalsOn s n
  let s := changeRemovals n (fun cur => if full cur then (cur.1, cur.2 ++ dies cur) else (cur.1 ++ new cur, cur.2)) s
  ((if full now then (dies now).flatMap fun d => dieCores d.val else l).filterMap (regionOf s)).eraseDups.foldl (failRegion n true) s

/-- A first failure at physical column `c` below 16 (R419): affected regions that are awake stop at Daybreak
`stopDay`, and the shift waits for the migration; without one it takes effect at once (R421, R451). -/
def firstFailure (i c : Nat) (x : SpareRow) (s : State) : State :=
  let n := effDay s
  let x := { x with pending := some (BitVec.ofNat 5 c, x.second), stopDay := n, migrated := false, shiftDay := none }
  let s := isolate (rowCore i c) s
  let hit := (movedRegions s i x).filter fun r => (regOf s r).night.isNone && !hasPendingDelete (regOf s r)
  setRow i (if hit = [] then { x with shiftDay := some n } else x) s

/-- A second failure removes a position (R87, R421). -/
def secondFailure (i c : Nat) (x : SpareRow) (s : State) : State :=
  let n := effDay s
  let first := match x.pending with | some (f, _) => f | none => x.first
  let y := { x with pending := some (first, BitVec.ofNat 5 c)
                    stopDay := if x.pending.isSome then x.stopDay else n
                    shiftDay := if x.pending.isSome then x.shiftDay else some n }
  let s := match logicalCol x.first c with | some p => isolate (rowCore i p) s | none => s
  let s := setRow i y s
  match removedCol { x with first := first, second := BitVec.ofNat 5 c } with
  | some p => match regionOf s (rowCore i p) with
    | some r => failRegion n true s r
    | none => s
  | none => s

/-- Physical column `c` of row `i` is declared failed (R416, R418, R438). -/
def declareFailed (i c : Nat) (s : State) : State :=
  let x := rowOf_ s i
  let v : BitVec 5 × BitVec 5 := x.pending.getD (x.first, x.second)
  if v.1.toNat = c ∨ v.2.toNat = c then s
  else if v.1 = 31 then
    if c = 16 then setRow i { x with pending := some (16, v.2), stopDay := s.clock.dayNo, shiftDay := some (s.clock.dayNo + 1) } s
    else firstFailure i c x s
  else if v.2 = 31 then secondFailure i c x s
  else match logicalCol x.first c with
    | some p => removePositions [rowCore i p] (isolate (rowCore i p) s)
    | none => s

def triggerCode : FailTrigger → Nat
  | .bist => 0 | .selfTest => 1 | .repeatedWord => 2 | .eightWords => 3 | .fourLinkErrors => 4

/-- The record of a declaration holds the physical position and the trigger (R416, log 149), at the logical position that
the core serves; a core that serves none stands under its own column, or under the last one for the spare. -/
def logFailed (i c : Nat) (t : FailTrigger) (s : State) : State :=
  noteCore (rowCore i ((logicalCol (rowOf_ s i).first c).getD (min c 15))) 0 0x3A [i, c, triggerCode t] s

/-- 24 hours of core-clock cycles. -/
def dayAndNight : Nat := 86400 * 1200000000

/-- What the physical core has shown bears the trigger out (R416). A test's verdict is its own. -/
def triggerHolds (s : State) (i c : Nat) (t : FailTrigger) : Bool :=
  let h := historyOf s (17 * i + c)
  let recent := fun n => decide (s.clock.now < n + dayAndNight)
  match t with
  | .bist | .selfTest => true
  | .repeatedWord => h.words.any fun w => decide (2 ≤ h.words.countP fun v => decide (v.1 = w.1 ∧ v.2.1 = w.2.1))
  | .eightWords => decide (8 ≤ ((h.words.filter fun w => recent w.2.2).map fun w => (w.1, w.2.1)).eraseDups.length)
  | .fourLinkErrors => decide (4 ≤ h.links.countP recent)

/-- `CORE_FAILURE_DECLARATION` (R416, R417, R419). -/
def execCoreFailureDeclaration (row : Fin 640) (col : Fin 17) (trigger : FailTrigger) (s : State) :
    Host.Outcome State Fault Refusal :=
  .next (if triggerHolds s row.val col.val trigger then declareFailed row.val col.val (logFailed row.val col.val trigger s) else s)

/-- A word of the failed core that could not be read is zero in its new place, and marked (R420): words below
`localTop` / 8 are local, the next 0x2000 the code space, and the next five the boot block. -/
def spoilWord (c : Core) (w : Nat) : Core :=
  if w < localTop / 8 then { c with mem := mzero c.mem (8 * w) (8 * w + 8), poison := sins c.poison w }
  else
    let i := w - localTop / 8
    if i < 0x2000 then { c with code := mzero c.code (8 * i) (8 * i + 8), codePoison := sins c.codePoison i }
    else { c with boot := match i - 0x2000 with
      | 0 => { c.boot with core := 0 } | 1 => { c.boot with t0 := 0 } | 2 => { c.boot with t1 := 0 }
      | 3 => { c.boot with t2 := 0 } | 4 => { c.boot with t3 := 0 } | _ => c.boot }

/-- The failed core's contents as they reach their new place (R420). -/
def migrateFailed (readable : Bool) (badWords : List Nat) (c : Core) : Core :=
  if readable then badWords.foldl spoilWord c
  else { c with mem := [], poison := List.range (localTop / 8), code := [], codePoison := [] }

/-- The core's region is awake: no migration runs in a region in Night (R451). -/
def regionAwake (s : State) (c : CoreId) : Bool := match regionOf s c with | some r => (regOf s r).night.isNone | none => false

/-- The migration of a row completes (R419 steps 3 and 4, R420). A position that the same shift removes is not
migrated (R421). -/
def migrateRow (i : Nat) (readable : Bool) (badWords : List Nat) (s : State) : State :=
  let x := rowOf_ s i
  match x.pending with
  | none => s
  | some (f, _) =>
    if x.migrated ∨ x.shiftDay.isSome ∨ f = x.first ∨ s.clock.dayNo < x.stopDay then s
    else
      let lost := (x.pending.bind fun v => removedCol { x with first := v.1, second := v.2 }).map (rowCore i)
      let here := (movedCores i x).filter fun c =>
        (regionOf s c).isSome && (coreOf s c).night.isNone && (regionAwake s c) && decide (some c ≠ lost)
      let s := here.foldl (fun s c => modCore s c migrateCore) s
      let s := if f.toNat < 16 ∧ here.contains (rowCore i f.toNat) then
          modCore s (rowCore i f.toNat) (migrateFailed readable badWords) else s
      setRow i { x with migrated := true, shiftDay := some (effDay s) } s

/-- `MIGRATION` (R420): `badWords` are the failed core's words that could not be read. -/
def execMigration (row : Fin 640) (readable : Bool) (badWords : List Nat) (s : State) : Host.Outcome State Fault Refusal :=
  .next (migrateRow row.val readable badWords s)

/-- `HOP_FAULT` (R422): the positions at both ends of the hop are removed. -/
def execHopFault (a b : CoreId) (s : State) : Host.Outcome State Fault Refusal :=
  .next (removePositions [a, b].eraseDups s)

/-! ### Self-tests (R425, R450) -/

/-- Every core of a waking region has passed. -/
def allPassed (s : State) (r : RegionId) : Bool := (regionCores s r).all fun c => decide ((coreOf s c).selfTest = some true)

/-- A waking core's test failed: it is declared failed, and the positions that move test again (R450, R451). -/
def testFailed (core : CoreId) (s : State) : State :=
  let i := spareRow core
  let c := physicalCol (rowOf_ s i).first (coreX core % 16)
  let s := logCore core 0 0x3B 0 s
  let s := declareFailed i c (logFailed i c .selfTest s)
  (movedCores i (rowOf_ s i)).foldl (fun s c =>
    if (coreOf s c).selfTest = some true then modCore s c fun x => { x with selfTest := some false } else s) s

/-- `SELF_TEST_COMPLETE` (R425, R450). -/
def execSelfTestComplete (core : CoreId) (passed : Bool) (s : State) : Host.Outcome State Fault Refusal :=
  .next (if (coreOf s core).selfTest ≠ some false then s
    else if passed then
      let s := modCore s core fun c => { c with selfTest := some true }
      match regionOf s core with
      | some r => if (regOf s r).waking && allPassed s r then modReg s r fun x => { x with wakeAt := some (effDay s) } else s
      | none => s
    else testFailed core s)

/-! ### Reinstatement (R423) -/

/-- Cycles of the destructive test: 9.6 ms (R425). -/
def longTest : Nat := 11520000

/-- The test of a reinstated core starts; `passed` is what it will show. -/
def reinstate (who : FailedCore) (passed : Bool) (s : State) : State :=
  if s.dev ≠ .twilight ∨ !namedFailed s who then answer none 0x3F s
  else reply 0 [] { s with mgmt := { s.mgmt with testing := s.mgmt.testing ++ [(testedCore s who, passed, s.clock.now + longTest)] } }

/-- `REINSTATE` (R423). -/
def execReinstate (who : FailedCore) (passed : Bool) (s : State) : Host.Outcome State Fault Refusal :=
  .next (presenceCmd 5 (reinstate who passed) s)

/-- Every row of the map is cleared at the next Daybreak (R406). -/
def clearMap (s : State) : State :=
  (s.spares.map Prod.fst).foldl (fun s i => planRow (s.clock.dayNo + 1) i 31 31 s) s

/-- `CLEAR_SPARE_MAP` (R406). -/
def execClearSpareMap (s : State) : Host.Outcome State Fault Refusal :=
  .next (presenceCmd 4 (fun s => reply 0 [] (clearMap s)) s)

/-! ### Flash stores (R429–R431) -/

/-- The slot of a firmware image is good, or indeterminate. -/
def storeSlot (x : FwSlot) (ok : Bool) : FwSlot := { x with valid := ok }

/-- The spare map as stored. -/
def mapRows (s : State) : List (Nat × BitVec 5 × BitVec 5) := s.spares.map fun e => (e.1, e.2.first, e.2.second)

/-- A completed store stands in the slot that the last completed one did not write, under the next sequence
number (R430). -/
def writePair {α : Type} (v : α) (p : FlashPair α) : FlashPair α :=
  if p.last then { p with a := ⟨p.b.seq + 1, true, v⟩, last := false }
  else { p with b := ⟨p.a.seq + 1, true, v⟩, last := true }

/-- A store that does not complete leaves its target slot failing its CRC (R429). -/
def spoilPair {α : Type} (p : FlashPair α) : FlashPair α :=
  if p.last then { p with a := { p.a with valid := false } } else { p with b := { p.b with valid := false } }

/-- The value read at boot: that of the valid slot with the higher sequence number (R431). -/
def readPair {α : Type} (p : FlashPair α) : Option α :=
  if p.a.valid ∧ !(p.b.valid ∧ p.a.seq < p.b.seq) then some p.a.value
  else if p.b.valid then some p.b.value else none

/-- The rollback counter read at boot: the higher valid value (R431). -/
def rollbackOf (p : FlashPair (BitVec 32)) : BitVec 32 :=
  let v := fun x : FlashSlot (BitVec 32) => if x.valid then x.value.toNat else 0
  BitVec.ofNat 32 (max (v p.a) (v p.b))

/-- The item's target slot is indeterminate. -/
def spoilItem (f : Flash) (i : FlashItem) : Flash :=
  match i with
  | .firmware slot =>
    if slot = 0 then { f with slotA := storeSlot f.slotA false } else { f with slotB := storeSlot f.slotB false }
  | .spareMap => { f with spare := spoilPair f.spare }
  | .certificates => { f with certs := spoilPair f.certs }
  | .rollback => { f with rollback := spoilPair f.rollback }
  | .persistentLog => { f with plog := spoilPair f.plog }

/-- What a completed store leaves in the flash. -/
def stored (i : FlashItem) (s : State) : State :=
  let f := s.flash
  match i with
  | .firmware slot =>
    { s with flash := if slot = 0 then { f with slotA := storeSlot f.slotA true } else { f with slotB := storeSlot f.slotB true } }
  | .spareMap => { s with flash := { f with spare := writePair ⟨mapRows s, s.removals, s.removedDies⟩ f.spare } }
  | .certificates => { s with flash := { f with certs := writePair s.mgmt.owned f.certs } }
  | .rollback =>
    let p := writePair s.mgmt.rollback f.rollback
    let s := { s with flash := { f with rollback := p } }
    if rollbackOf p = s.mgmt.rollback then s else wantStore .rollback s
  | .persistentLog => { s with flash := { f with plog := writePair s.log.persistent f.plog }, log := { s.log with unsaved := 0 } }

/-- `FLASH_STORE` (R430): a running store completes, or fails with `0x3D` and leaves its target slot indeterminate (log
166); which item failed is not placed in `INFO` by any rule (a free value). -/
def execFlashStore (item : FlashItem) (ok : Bool) (s : State) : Host.Outcome State Fault Refusal :=
  let due := s.flash.busy.contains item
  let s' := { s with flash := { s.flash with busy := s.flash.busy.erase item } }
  .next (if !due then s
    else if ok then stored item s'
    else
      let d := drawFree { s' with flash := spoilItem s'.flash item }
      reply 0x3D [] (logArmaik none 0x3D d.1 d.2))

end Sys2Proof.Machine
end

