-- ==== Sys2Proof/Machine/Tenancy.lean ====
section
/-!
DEFINITION. Creating, deleting and switching regions (R383–R388), boot images (R121, R393, R394), the
zeroing of deleted regions (R387), and the operator's cell and route commands (R38–R43, R63).
-/
namespace Sys2Proof.Machine
open Sys2Proof

def isDelete (c : RegionChange) : Bool := decide (c = .delete)
def isCreate (c : RegionChange) : Bool := decide (c = .create)
def hasPending (x : Region) (f : RegionChange → Bool) : Bool := x.pending.any fun e => f e.2
/-- The region exists or its creation is pending. -/
def existsOrPending (x : Region) : Bool := x.valid || hasPending x isCreate

/-! ### CREATE_REGION (R384) -/

/-- Check 1: the number is free and outside its reuse delay (R303). -/
def numberFree (s : State) (r : RegionId) : Bool :=
  let x := regOf s r
  !existsOrPending x && !x.zeroing && decide (x.freeFrom ≤ s.clock.dayNo)

/-- Check 2. -/
def regionShapeOk (s : State) (q : RegionReq) : Bool :=
  inMesh q.entry && (decide (cY q.entry = 0) || decide (cY q.entry + cH q.entry = 80))
    && fieldsOk (masterCells s) q.region.val q.entry

def windowsApart (a b : BitVec 11 × BitVec 11) : Bool := !overlap a.1.toNat a.2.toNat b.1.toNat b.2.toNat

/-- No two of the windows share a unit. -/
def allApart : List (BitVec 11 × BitVec 11) → Bool
  | [] => true
  | w :: t => t.all (windowsApart w) && allApart t

/-- Regions other than a new one, pending ones included. -/
def otherRegions (s : State) : List Region := (s.regions.map Prod.snd).filter existsOrPending

/-- Check 3. -/
def regionPlaceOk (s : State) (q : RegionReq) : Bool :=
  !(s.cells ++ masterCells s).any (fun e => cValid e.2 && cIsRegion e.2 && rectsMeet e.2 q.entry)
  && q.bulk.all (fun w => decide (w.2 = 0) || decide (w.1.toNat + w.2.toNat ≤ 0x600)) && allApart q.bulk
  && (otherRegions s).all fun x => x.bulk.all fun w => q.bulk.all (windowsApart w)

/-- Check 4: no position of the rectangle has been removed, pending removals included. -/
def positionsOk (s : State) (q : RegionReq) : Bool :=
  !(coresOf q.entry).any fun c => removedAt s c || (removalsDue s).1.contains (BitVec.ofNat 14 c.val)
    || (removalsDue s).2.contains (Fin.ofNat 32 (dieOf c))
    || match (rowAt s c).pending with
      | some (f, g) => decide (removedCol { rowAt s c with first := f, second := g } = some (coreX c % 16))
      | none => false

/-- The quotas most recently accepted (R463). -/
def quotaSum (s : State) : Nat := ((otherRegions s).map quotaAccepted).sum

/-- Check 5. -/
def sharesOk (s : State) (q : RegionReq) : Bool :=
  let o := otherRegions s
  decide (quotaSum s + q.quota.toNat ≤ 1024)
  && o.all (fun x => decide (x.engines &&& q.engines = 0))
  && (List.range 16).all (fun e => decide ((o.map fun x => (nth 0 x.staging e).toNat).sum + (nth 0 q.staging e).toNat ≤ 64))
  && decide ((o.map fun x => 1 + x.cellQuota.toNat).sum + 1 + q.cellQuota.toNat ≤ 2047)
  && (s.scrubbing.all fun w => q.bulk.all (windowsApart w))
  && (s.regions.all fun e => !e.2.zeroing || !rectsMeet e.2.entry q.entry)
  && (grantIndex s none).isSome

/-- The VF is held by a region, now or at a coming Daybreak. -/
def vfHeld (s : State) (v : BitVec 9) (but : Option RegionId) : Bool :=
  s.regions.any fun e => decide (some (Fin.ofNat 256 e.1) ≠ but) && existsOrPending e.2 && claimsVf e.2 v

/-- Check 6. -/
def vfOk (s : State) (v : BitVec 9) (but : Option RegionId) : Bool :=
  decide (v = 0x0FF) || ((vfOfCode v).isSome && !vfHeld s v but)

/-- The status of a `CREATE_REGION` (R384). -/
def createStatus (s : State) (q : RegionReq) : BitVec 8 :=
  if !numberFree s q.region then 0x12
  else if !regionShapeOk s q then 0x15
  else if !regionPlaceOk s q then 0x15
  else if !positionsOk s q then 0x35
  else if !sharesOk s q then 0x12
  else if !vfOk s q.vf none then 0x36
  else 0x00

/-- An accepted request waits for its Daybreak (R385). -/
def acceptRegion (q : RegionReq) (i : Nat) (s : State) : State :=
  let x := regOf s q.region
  let rw := BitVec.ofNat 128 (q.entry.toNat - fld q.entry 38 11 * 2 ^ 38)
  let s := setReg s q.region { Region.reset with
    pending := [(effDay s, .create)], cell := BitVec.ofNat 11 i, entry := q.entry, quota := q.quota
    cellQuota := q.cellQuota, engines := q.engines, staging := q.staging, bulk := q.bulk, domain := q.domain
    vf := q.vf, bootImage := q.bootImage, gen := x.gen, launches := x.launches }
  { s with cellChanges := s.cellChanges ++ [⟨effDay s, BitVec.ofNat 11 i, some (fillEntry rw true q.region.val)⟩] }

def createRegion (q : RegionReq) (s : State) : State :=
  let st := createStatus s q
  match grantIndex s none with
  | some i => if st = 0 then reply 0 [BitVec.ofNat 64 i] (acceptRegion q i s) else answer (some q.region) st s
  | none => answer (some q.region) (if st = 0 then 0x12 else st) s

/-- `CREATE_REGION` (R383–R385). -/
def execCreateRegion (req : RegionReq) (s : State) : Host.Outcome State Fault Refusal :=
  .next (operatorCmd (createRegion req) s)

/-! ### DELETE_REGION, SWITCH_CONTEXT -/

/-- A nested cell of the region is valid or pending (R387). -/
def hasNested (s : State) (r : RegionId) : Bool :=
  (s.cells ++ masterCells s).any fun e => decide (e.1 ≠ 0) && cValid e.2 && !cIsRegion e.2 && decide (cRegion e.2 = r.val)

def deleteRegion (r : RegionId) (s : State) : State :=
  let x := regOf s r
  if !x.valid ∨ hasPending x isDelete then reply 0x16 [] s
  else if hasNested s r then reply 0x17 [] s
  else
    let d := effDay s
    let s := modReg s r fun x => { x with pending := x.pending ++ [(d, .delete)] }
    reply 0 [] { s with cellChanges := s.cellChanges ++ [⟨d, x.cell, none⟩], cellReuse := tset s.cellReuse x.cell.toNat (d + 2) }

/-- `DELETE_REGION` (R387). -/
def execDeleteRegion (r : RegionId) (s : State) : Host.Outcome State Fault Refusal :=
  .next (operatorCmd (deleteRegion r) s)

def switchContext (r : RegionId) (image : BitVec 40) (s : State) : State :=
  let x := regOf s r
  if !x.valid ∨ hasPending x (fun c => isDelete c || isCreate c || isSwitch c) then reply 0x16 [] s
  else reply 0 [] (modReg s r fun x => { x with pending := x.pending ++ [(effDay s, .switch image)] })

/-- `SWITCH_CONTEXT` (R388). -/
def execSwitchContext (r : RegionId) (image : BitVec 40) (s : State) : Host.Outcome State Fault Refusal :=
  .next (operatorCmd (switchContext r image) s)

/-! ### Boot images (R393) -/

/-- Bytes 40–63 of a block. -/
def blockTail (s : State) (h : BootHeader) (j : Nat) : Nat := bulkNat s (h.blockTable + 64 * j + 40) 24

/-- Step 1: fields, windows and tables. -/
def imageOk (s : State) (r : RegionId) (h : BootHeader) (i : Nat) : Bool :=
  let b := bootImageAt s h i
  decide (b.len % 4 = 0) && decide (b.len ≤ 65536) && decide (b.code + b.len ≤ 65536) && decide (b.zero = 0)
    && (decide (b.len = 0) || inWindows (regOf s r) b.addr b.len)

def tablesOk (s : State) (r : RegionId) (members : Nat) : Bool :=
  let x := regOf s r
  let a := x.bootImage.toNat
  inWindows x a 64 &&
    (let h := bootHeader s a
     decide (1 ≤ h.images ∧ h.images ≤ 64) && decide (1 ≤ h.blocks ∧ h.blocks ≤ 256)
     && inWindows x h.imageTable (64 * h.images) && inWindows x h.blockTable (64 * h.blocks)
     && inWindows x h.coreMap (2 * members)
     && (List.range h.images).all (imageOk s r h)
     && (List.range members).all fun m => let e := mapEntry s h m
          decide (mapImage e < h.images) && decide (mapBlock e < h.blocks) && !bit e 14)

/-- Step 2: a boot block under R121. -/
def threadWordOk (w : Word) : Bool := !bit w 0 && decide (fld w 17 47 = 0)
def blockOk (s : State) (h : BootHeader) (j : Nat) : Bool :=
  let b := bootBlockAt s h j
  threadWordOk b.t0 && threadWordOk b.t1 && threadWordOk b.t2 && threadWordOk b.t3
    && decide (fld b.core 3 61 = 0) && decide (blockTail s h j = 0)

/-- A block that no core takes is rejected (R393 step 2). -/
def badSpare (s : State) (h : BootHeader) : Bool := (List.range h.blocks).any fun j => !blockOk s h j

/-- The first member whose boot block is rejected. -/
def badBlock (s : State) (h : BootHeader) (members front : Nat) : Option Nat :=
  (List.range members).find? fun m => !blockOk s h (mapBlock (mapEntry s h m))
    || (decide (m = front) && !bit (bootBlockAt s h (mapBlock (mapEntry s h m))).t0 16)

/-- Members that take image `i`. -/
def membersOf (s : State) (h : BootHeader) (members i : Nat) : List Nat :=
  (List.range members).filter fun m => decide (mapImage (mapEntry s h m) = i)

/-- A core's code as read back from where its image was written. -/
def coreCode (t : State) (cell : BitVec 128) (b : BootImage) (m : Nat) : List Byte :=
  mread (coreOf t (cMember cell m)).code b.code b.len

/-- Step 4: the digest of an image as read back from the first core that takes it; of an image that none
takes, of its bytes in bulk memory (log 168). -/
def readBack (s t : State) (h : BootHeader) (cell : BitVec 128) (members i : Nat) : List Byte :=
  let b := bootImageAt s h i
  match membersOf s h members i with
  | m :: _ => sha384 (coreCode t cell b m)
  | [] => sha384 (bulkRead s b.addr b.len)

/-- The first image of which two cores differ, or whose digest is not the one expected. -/
def badDigest (s t : State) (h : BootHeader) (cell : BitVec 128) (members : Nat) : Option Nat :=
  (List.range h.images).find? fun i =>
    let b := bootImageAt s h i
    match membersOf s h members i with
    | m :: l => l.any (fun k => decide (coreCode t cell b k ≠ coreCode t cell b m))
        || (b.digest.any (fun d => decide (d ≠ 0)) && decide (b.digest ≠ readBack s t h cell members i))
    | [] => b.digest.any (fun d => decide (d ≠ 0)) && decide (b.digest ≠ readBack s t h cell members i)

/-- An extend (R394). -/
def extend (m : List Byte) (e : List Byte) : List Byte := sha384 (m ++ e)

/-- The bytes of the header and the three tables. -/
def tableBytes (s : State) (r : RegionId) (h : BootHeader) (members : Nat) : List Byte :=
  bulkRead s (regOf s r).bootImage.toNat 64 ++ bulkRead s h.imageTable (64 * h.images)
    ++ bulkRead s h.blockTable (64 * h.blocks) ++ bulkRead s h.coreMap (2 * members)

/-- The digest of a region's configuration. How its bytes are laid out is not stated (a free value, log 64). -/
def configDigest (s : State) (r : RegionId) : List Byte :=
  let x := regOf s r
  sha384 (Config.configBytes ([r.val, x.entry.toNat, x.quota.toNat, x.cellQuota.toNat, x.engines.toNat, x.domain.toNat, x.vf.toNat,
    x.bootImage.toNat] ++ x.staging.map (·.toNat) ++ x.bulk.flatMap fun w => [w.1.toNat, w.2.toNat]))

/-- Step 5: the region measurement; `t` holds the cores as written. -/
def measured (s t : State) (r : RegionId) (h : BootHeader) (cell : BitVec 128) (members : Nat) : List Byte :=
  let m := extend (natBytes 48 (regOf s r).measurement.toNat) (configDigest s r)
  let m := extend m (sha384 (tableBytes s r h members))
  (List.range h.images).foldl (fun m i => extend m (readBack s t h cell members i)) m

/-- The load fails: the cores stay held (R393). -/
def failBoot (r : RegionId) (st : BitVec 8) (info : Word) (s : State) : State :=
  let s := modReg s r fun x => { x with bootDue := false, loadFailed := true }
  reply st [info] (if loggedStatus st then logArmaik (some r) st info s else s)

/-- A core whose position waits for its shift is released at it (R419 step 5): till then its threads are held. -/
def releaseLater (c : CoreId) (s : State) : State := holdCore c (modCore s c fun x => { x with released := true })

/-- Step 6: the cores that the map does not leave unreleased are released (R122). -/
def releaseMembers (s0 : State) (h : BootHeader) (cell : BitVec 128) (members : Nat) (s : State) : State :=
  (List.range members).foldl (fun s m =>
    if bit (mapEntry s0 h m) 15 ∨ (coreOf s (cMember cell m)).isolated then s
    else if isMoving s (cMember cell m) then releaseLater (cMember cell m) s
    else releaseCore (cMember cell m) s) s

/-- Bulk ranges of a boot image: header and tables, as address and length. -/
def tableRanges (s : State) (r : RegionId) (members : Nat) : List (Nat × Nat) :=
  let h := bootHeader s (regOf s r).bootImage.toNat
  [((regOf s r).bootImage.toNat, 64), (h.imageTable, 64 * h.images), (h.blockTable, 64 * h.blocks), (h.coreMap, 2 * members)]

/-- The reads of a load: what the code finds in the header, and then in the tables and images that it names, is noted
(R241). -/
def readBoot (r : RegionId) (members : Nat) (ecc : SectorEcc) (s : State) : State :=
  let a := (regOf s r).bootImage.toNat
  let s := if inWindows (regOf s r) a 64 then eccRead a 64 ecc s else s
  if !tablesOk s r members then s
  else
    let h := bootHeader s a
    let images := (List.range h.images).map fun i => let b := bootImageAt s h i; (b.addr, b.len)
    ((tableRanges s r members).drop 1 ++ images).foldl (fun s x => eccRead x.1 x.2 ecc s) s

/-- Header or tables come poisoned: what they say cannot be relied on, and the load fails (DESIGN CHOICE, log 206). -/
def tablesPoisoned (s : State) (r : RegionId) (members : Nat) : Bool :=
  (tableRanges s r members).any fun x => decide (x.2 ≠ 0) && (sectorsOf x.1 x.2).any s.bulkPoison.contains

/-- The load itself. -/
def bootLoad (r : RegionId) (s : State) : State :=
  let x := regOf s r
  let cell := cellEntry s x.cell.toNat
  let members := cW cell * cH cell
  if !tablesOk s r members || tablesPoisoned s r members then failBoot r 0x38 0 s
  else
    let h := bootHeader s x.bootImage.toNat
    match badBlock s h members (cFront cell) with
    | some m => failBoot r 0x1F (BitVec.ofNat 64 (cMember cell m).val) s
    | none =>
      if badSpare s h then (let d := drawFree s; failBoot r 0x1F d.1 d.2) else
      let t := (List.range members).foldl (fun t m => placeMember s h cell m t) s
      match badDigest s t h cell members with
      | some i => failBoot r 0x38 (BitVec.ofNat 64 i) t
      | none =>
        let m := measured s t r h cell members
        let t := modReg t r fun x =>
          { x with bootDue := false, loaded := true, loadFailed := false
                   stopped := x.lostPosition || (regionCores s r).any (isMoving s)
                   measurement := BitVec.ofNat 384 (bytesNat m) }
        releaseMembers s h cell members t

/-- `BOOT_IMAGE_LOAD` (R393): `ecc` is what the code finds in the image (R241). -/
def execBootImageLoad (q : BootRead) (s : State) : Host.Outcome State Fault Refusal :=
  let r := q.region
  let x := regOf s r
  let cell := cellEntry s x.cell.toNat
  .next (if x.valid ∧ x.bootDue ∧ x.night.isNone ∧ x.borderOk then bootLoad r (readBoot r (cW cell * cH cell) q.ecc s) else s)

/-! ### After a deletion (R387) -/

/-- `BULK_WINDOW_ZERO_FILL`: the fill of a deleted region's window completes. -/
def execBulkWindowZeroFill (base size : BitVec 11) (s : State) : Host.Outcome State Fault Refusal :=
  .next (if s.scrubbing.contains (base, size) then
      let lo := base.toNat * 2 ^ 28
      let hi := (base.toNat + size.toNat) * 2 ^ 28
      { s with bulk := mzero s.bulk lo hi
               bulkPoison := s.bulkPoison.filter fun w => decide (64 * w < lo) || decide (hi ≤ 64 * w)
               scrubbing := s.scrubbing.erase (base, size) }
    else s)

/-- `CORE_ZEROING_COMPLETE`: the cores of a deleted region are zero. -/
def execCoreZeroingComplete (r : RegionId) (s : State) : Host.Outcome State Fault Refusal :=
  .next (if (regOf s r).zeroing then modReg s r fun x => { x with zeroing := false } else s)

/-! ### Cells and route programs -/

/-- A port access with its value in a register, or an operator's command. -/
def operatorCell (a : BitVec 8 × Nat × State) : State := reply a.1 [BitVec.ofNat 64 a.2.1] a.2.2

/-- `CELL_CREATE` (R38, R115, R406). -/
def execCellCreate (req : CreateReq) (s : State) : Host.Outcome State Fault Refusal :=
  match req with
  | .port h p d => outInstr h p 4 0x8030 (gOf s h d) s
  | .operator entry wanted => .next (operatorCmd (fun s => operatorCell (cellCreate none entry wanted s)) s)

/-- `CELL_DELETE` (R39, R115, R406). -/
def execCellDelete (req : DeleteReq) (s : State) : Host.Outcome State Fault Refusal :=
  match req with
  | .port h p d => outInstr h p 4 0x8038 (gOf s h d) s
  | .operator i => .next (operatorCmd (fun s => operatorCell (cellDelete none i.toNat s)) s)

/-- The answer to an operator's route load: it has started, or was rejected (R63). -/
def startedLoad (r : RegionId) (s : State) : State :=
  reply (if (regOf s r).load.isSome || (regOf s r).loadNext.isSome then 0 else 0x19) [] s

/-- `ROUTE_LOAD` (R63, R68, R406). -/
def execRouteLoad (req : LoadReq) (s : State) : Host.Outcome State Fault Refusal :=
  match req with
  | .port h p d => outInstr h p 4 0x8060 (gOf s h d) s
  | .operator r addr => .next (operatorCmd (fun s =>
      if (regOf s r).valid then startedLoad r (startLoad r addr s) else reply 0x16 [] s) s)

end Sys2Proof.Machine
end

