-- ==== Sys2Proof/Machine/Security.lean ====
section
/-!
DEFINITION. Ownership, presence and connections (R405–R408), debugging (R403, R404), SPDM attestation
(R391, R392, R395) and weight keys (R396–R402).
-/
namespace Sys2Proof.Machine
open Sys2Proof

/-- Bytes as words, the last padded with zeros. -/
def packed (bs : List Byte) : List Word := bytesWords ((bs.length + 7) / 8) bs

def modMgmt (f : Mgmt → Mgmt) (s : State) : State := { s with mgmt := f s.mgmt }

/-! ### Device identity (R391) -/

/-- The layer 1 CDI, of the firmware that this boot measured. -/
def cdi (s : State) : List Byte := hmac384 Config.uds (natBytes 48 s.boot.measured.toNat)

/-! ### Connections and ownership -/

/-- A connection opens; the device presents its Management certificate (R391, R405). -/
def openConnection (operator : Bool) (s : State) : State :=
  modMgmt (fun m => { m with connected := true, authenticated := operator,
                             reply := ⟨0, none, packed (Config.managementCert (cdi s))⟩ }) s

/-- `TLS_HANDSHAKE` (R405, R407): `cert` is the CA to which the client certificate chains. The management network reaches
the device only through the PHY of the active controller (R475). -/
def execTlsHandshake (peer : TlsPeer) (s : State) : Host.Outcome State Fault Refusal :=
  let cert := peer.cert
  .next (if s.boot.step < 3 ∨ peer.sgmii1 ≠ s.boot.activeEs then s
    else if s.mgmt.owned = [] then openConnection false s
    else match cert with
      | some c => if s.mgmt.owned.contains c then openConnection true s else s
      | none => s)

/-- `MANAGEMENT_CONNECTION_END` (R404). -/
def execManagementConnectionEnd (s : State) : Host.Outcome State Fault Refusal :=
  .next (modMgmt (fun m => { m with connected := false, authenticated := false, debug := none }) s)

/-- The operator CA certificates change and are stored (R406, R430). -/
def setOwners (certs : List (BitVec 384)) (s : State) : State :=
  reply 0 [] (wantStore .certificates (modMgmt (fun m => { m with owned := certs }) s))

def takeOwnership (certs : List (BitVec 384)) (s : State) : State :=
  if certs = [] ∨ 4 < certs.length then reply 0x0B [] s else setOwners certs s

/-- `TAKE_OWNERSHIP` (R406, R407): the one command an unowned device accepts. -/
def execTakeOwnership (certs : List (BitVec 384)) (s : State) : Host.Outcome State Fault Refusal :=
  let s := if s.mgmt.connected then logPresence 0 s else s
  .next (if !s.mgmt.connected then s
    else if s.mgmt.owned ≠ [] ∧ !s.mgmt.authenticated then reply 0x0B [] s
    else withPresence (takeOwnership certs) s)

/-- `RELEASE_OWNERSHIP` (R406). -/
def execReleaseOwnership (s : State) : Host.Outcome State Fault Refusal :=
  .next (presenceCmd 1 (fun s =>
    if s.regions.any fun e => existsOrPending e.2 then reply 0x17 [] s else setOwners [] s) s)

/-! ### Presence (R408) -/

/-- The controller, or the ROM in recovery (R444), samples `PRESENCE_N`. -/
def watchesPresence (s : State) : Bool := decide (3 ≤ s.boot.step) || s.boot.recovery

/-- A window opens. -/
def openPresence (s : State) : State := modMgmt (fun m => { m with presence := m.presence ++ [s.clock.now] }) s

/-- `PRESENCE_N_FALL` (R408). -/
def execPresenceNFall (s : State) : Host.Outcome State Fault Refusal :=
  let s := { s with pins := { s.pins with presenceN := false } }
  .next (if watchesPresence s then openPresence s else s)

/-- `PRESENCE_WINDOW_CLOSE` (R408): the oldest window is 60 s old. -/
def execPresenceWindowClose (s : State) : Host.Outcome State Fault Refusal :=
  .next (modMgmt (fun m => { m with presence := m.presence.drop 1 }) s)

/-! ### Keys cleared (R402) -/

def dropKeys (r : RegionId) (s : State) : State := modReg s r fun x => { x with keys := [] }

/-- `CLEAR_KEYS` (R402, R406): of one region, or of all. -/
def execClearKeys (r : Option RegionId) (s : State) : Host.Outcome State Fault Refusal :=
  .next (presenceCmd 3 (fun s =>
    reply 0 [] (match r with
      | some r => if (tfind s.regions r.val).isSome then dropKeys r s else s
      | none => eachRegion dropKeys s)) s)

/-! ### Debugging (R403, R404) -/

/-- One more debug session of a region. -/
def countDebug (r : RegionId) (s : State) : State :=
  if (regOf s r).valid then modReg s r fun x => { x with debugCount := satAdd x.debugCount 1 } else s

/-- `DEBUG_OPEN` (R404). -/
def execDebugOpen (r : RegionId) (s : State) : Host.Outcome State Fault Refusal :=
  .next (operatorCmd (fun s =>
    if !(regOf s r).valid then reply 0x16 [] s
    else reply 0 [] (modMgmt (fun m => { m with debug := some r }) (countDebug r s))) s)

/-- `DEBUG_CLOSE` (R404). -/
def execDebugClose (s : State) : Host.Outcome State Fault Refusal :=
  .next (operatorCmd (fun s => reply 0 [] (modMgmt (fun m => { m with debug := none }) s)) s)

/-- `JTAG_DEBUG_SESSION` (R404): block 6 and every region that exists count it. -/
def execJtagDebugSession (s : State) : Host.Outcome State Fault Refusal :=
  .next (modMgmt (fun m => { m with jtagSessions := satAdd m.jtagSessions 1 }) (eachRegion countDebug s))

/-- The 64 bytes of a wide register as words. -/
def wide (x : BitVec 512) : List Word := (List.range 8).map fun i => BitVec.ofNat 64 (fld x (64 * i) 64)

/-- The core a debug command acts on, where it names one. -/
def opCore : DebugOp → Option CoreId
  | .halt h | .resume h | .readG h _ | .writeG h _ _ | .readP h _ | .writeP h _ _ | .readV h _ | .writeV h _ _
  | .readM h _ | .writeM h _ _ | .readPc h | .writePc h _ | .readDesc h _ | .writeDesc h _ _ | .readTileRow h _ _ | .writeTileRow h _ _ _
  | .readAccRow h _ _ | .writeAccRow h _ _ _ | .setBreakpoint h _ | .setWatchpoint h _ | .clearPoints h => some h.core
  | .readLocal c _ _ | .writeLocal c _ _ | .readCode c _ _ | .writeCode c _ _ => some c
  | .readBulk _ _ => none

/-- The command lies inside the debugged region, or any region where none is named, and the memory it names. -/
def opInside (s : State) (r : Option RegionId) (op : DebugOp) : Bool :=
  (match opCore op with | some c => decide (regionOf s c = r) || (r.isNone && (regionOf s c).isSome) | none => true) &&
    match op with
    | .readLocal _ a n => decide (a.toNat + n ≤ localTop)
    | .writeLocal _ a d => decide (a.toNat + d.length ≤ localTop)
    | .readCode _ a n => decide (a.toNat + n ≤ 0x10000)
    | .writeCode _ a d => decide (a.toNat + d.length ≤ 0x10000)
    | .readBulk a n => match r with
      | some r => inWindows (regOf s r) a.toNat n
      | none => s.regions.any fun e => e.2.valid && inWindows e.2 a.toNat n
    | _ => true

/-- Bytes written to the code space; a word written whole loses its mark (R410). -/
def putCode (a : Nat) (bs : List Byte) (c : Core) : Core :=
  { c with code := mwrite c.code a bs
           codePoison := c.codePoison.filter fun w => !decide (a ≤ 8 * w ∧ 8 * w + 8 ≤ a + bs.length) }

/-- What a debug command reads. -/
def debugRead (s : State) : DebugOp → List Word
  | .readG h r => [gReg (thread s h) r]
  | .readP h r => [BitVec.ofNat 64 (b2n (pReg (thread s h) r))]
  | .readV h r => wide (vReg (thread s h) r).data
  | .readM h r => [mReg (thread s h) r]
  | .readPc h => [(thread s h).pc.setWidth 64]
  | .readDesc h t => [descOf (thread s h) t.val]
  | .readTileRow h t r => wide (rowOf (thread s h) (16 * t.val + r.val)).data
  | .readAccRow h a r => wide (accRow (thread s h) (16 * a.val + r.val)).data
  | .readLocal c a n => packed (readView (coreOf s c) none a.toNat n)
  | .readCode c a n => packed (mread (coreOf s c).code a.toNat n)
  | .readBulk a n => packed (bulkRead s a.toNat n)
  | _ => []

/-- What a debug command changes. -/
def debugWrite (op : DebugOp) (s : State) : State :=
  let put := fun (h : Hart) (w : Wr) => modCore s h.core fun c => applyWr h c w
  match op with
  | .halt h => modTh s h fun t => { t with debugHalt := true }
  | .resume h => modTh s h fun t => { t with debugHalt := false }
  | .writeG h r v => put h (.g r v)
  | .writeP h r v => put h (.p r v)
  | .writeV h r v => put h (.v r ⟨v, false⟩ false)
  | .writeM h r v => put h (.m r v)
  | .writePc h v => put h (.pc ((v &&& 0xFFFE).setWidth 17))
  | .writeDesc h t v => modTh s h fun x => { x with desc := tset x.desc t.val v }
  | .writeTileRow h t r v => put h (.row (16 * t.val + r.val) v false)
  | .writeAccRow h a r v => put h (.acc (16 * a.val + r.val) ⟨v, false⟩)
  | .writeLocal c a d => modCore s c fun x => memPut x a.toNat d false false
  | .writeCode c a d => modCore s c (putCode a.toNat d)
  | .setBreakpoint h pc => modTh s h fun t => { t with breakpoints := t.breakpoints ++ [pc] }
  | .setWatchpoint h a => modTh s h fun t => { t with watchpoints := t.watchpoints ++ [a] }
  | .clearPoints h => modTh s h fun t => { t with breakpoints := [], watchpoints := [] }
  | _ => s

/-- A debug command that may run. -/
def debugRun (r : Option RegionId) (op : DebugOp) (s : State) : State :=
  if opInside s r op then reply 0 (debugRead s op) (debugWrite op s) else reply 0x0B [] s

/-- `DEBUG_COMMAND` (R403–R405): over the management network, inside the region that `DEBUG_OPEN` named; or
over the debug TAP, inside any region, once a session has selected it. -/
def execDebugCommand (q : DebugRequest) (s : State) : Host.Outcome State Fault Refusal :=
  .next (if q.jtag then (if s.mgmt.jtagSessions = 0 then s else debugRun none q.op s)
    else operatorCmd (fun s => match s.mgmt.debug with
      | some r => debugRun (some r) q.op s
      | none => reply 0x0B [] s) s)

/-! ### SPDM (R392) -/

/-- A transport carries SPDM messages. -/
def carries (s : State) (tr : SpdmTransport) : Bool :=
  match tr with
  | .doe l => hostUp s l
  | .smbus => decide (3 ≤ s.boot.step)
  | .vdm => hostUp s 0 || hostUp s 1

/-- An SPDM response, and an SPDM `ERROR` response (1 InvalidRequest, 3 Busy, 4 UnexpectedRequest,
6 DecryptError; PRESUMED, DSP0274). -/
def spdmReply (data : List Word) (s : State) : State := reply 0 data s
def spdmError (code : BitVec 8) (s : State) : State := modMgmt (fun m => { m with reply := ⟨0, some code, []⟩ }) s

/-- A request that needs the negotiation to have come so far. -/
def spdmAfter (tr : SpdmTransport) (ready : State → Bool) (f : State → State) (s : State) : State :=
  if !carries s tr then s else if ready s then f s else spdmError 4 s

/-- `GET_VERSION` (R392): it starts anew, and the transport's sessions end (PRESUMED, DSP0274). -/
def execGetVersion (tr : SpdmTransport) (s : State) : Host.Outcome State Fault Refusal :=
  .next (spdmAfter tr (fun _ => true) (fun s =>
    spdmReply [0x13] (modMgmt (fun m => { m with
      spdmVersion := true, spdmCaps := false, spdmAlgs := false
      sessions := m.sessions.filter fun e => decide (e.2.transport ≠ tr) }) s)) s)

/-- Flags of the capabilities of R392, at the places DSP0274 gives them (PRESUMED): `CERT_CAP`,
`CHAL_CAP`, `MEAS_CAP` with signatures, `MEAS_FRESH_CAP`, `ENCRYPT_CAP`, `MAC_CAP`, `KEY_EX_CAP`, `HBEAT_CAP`. -/
def spdmCapabilities : Word := 0x22F6

/-- `GET_CAPABILITIES` (R392). -/
def execGetCapabilities (tr : SpdmTransport) (s : State) : Host.Outcome State Fault Refusal :=
  .next (spdmAfter tr (fun s => s.mgmt.spdmVersion) (fun s =>
    spdmReply [spdmCapabilities] (modMgmt (fun m => { m with spdmCaps := true, spdmAlgs := false }) s)) s)

/-- The requester offers every algorithm of R392. -/
def algsOk (a : SpdmAlgs) : Bool := a.ecdsaP384 && a.sha384 && a.secp384r1 && a.aes256gcm && a.dmtfMeasurements

/-- `NEGOTIATE_ALGORITHMS` (R392). -/
def execNegotiateAlgorithms (tr : SpdmTransport) (algs : SpdmAlgs) (s : State) : Host.Outcome State Fault Refusal :=
  .next (spdmAfter tr (fun s => s.mgmt.spdmCaps) (fun s =>
    if algsOk algs then spdmReply [] (modMgmt (fun m => { m with spdmAlgs := true }) s) else spdmError 1 s) s)

def negotiated (s : State) : Bool := s.mgmt.spdmAlgs

/-- `GET_DIGESTS` (R392): slot 0 alone holds a chain. -/
def execGetDigests (tr : SpdmTransport) (s : State) : Host.Outcome State Fault Refusal :=
  .next (spdmAfter tr negotiated (fun s => spdmReply (1 :: packed (sha384 (Config.certChain (cdi s)))) s) s)

/-- `GET_CERTIFICATE` (R392). -/
def execGetCertificate (tr : SpdmTransport) (slot : Fin 8) (s : State) : Host.Outcome State Fault Refusal :=
  .next (spdmAfter tr negotiated (fun s =>
    if slot = 0 then spdmReply (packed (Config.certChain (cdi s))) s else spdmError 1 s) s)

/-- The Alias key's signature over a message, as words (R391, R392). -/
def signature (s : State) (m : List Byte) : List Word := packed (natBytes 96 (Config.aliasSign (cdi s) m).toNat)

/-- `CHALLENGE` (R392): the signature covers the nonce and the chain's digest. -/
def execChallenge (tr : SpdmTransport) (nonce : BitVec 256) (s : State) : Host.Outcome State Fault Refusal :=
  .next (spdmAfter tr negotiated (fun s =>
    spdmReply (signature s (natBytes 32 nonce.toNat ++ sha384 (Config.certChain (cdi s)))) s) s)

/-! ### Measurements (R395) -/

def digestWords (x : BitVec 384) : List Word := packed (natBytes 48 x.toNat)

def slotOf (f : Flash) (b : Bool) : FwSlot := if b then f.slotB else f.slotA
/-- Security version of a slot, 0 where it holds no image. -/
def slotSvn (x : FwSlot) : BitVec 32 := match x.image with | some i => i.svn | none => 0
/-- SHA-384 of the firmware of the running slot. -/
def firmwareDigest (s : State) : List Word :=
  match (slotOf s.flash s.boot.slot).image with
  | some i => packed (sha384 (i.image.take i.len.toNat))
  | none => digestWords 0

/-- The spare map as 640 16-bit entries (R418). -/
def spareMapBytes (s : State) : List Byte :=
  (List.range 640).flatMap fun i =>
    let x := rowOf_ s i
    natBytes 2 (x.first.toNat + at_ x.second.toNat 5 + at_ (b2n x.pending.isSome) 10)

/-- A device block, 1 to 6. -/
def deviceBlock (s : State) (i : Nat) : Option (List Word) :=
  match i with
  | 1 => some (digestWords Config.romDigest)
  | 2 => some (firmwareDigest s)
  | 3 => some (packed (sha384 Config.monitorImage))
  | 4 => some ([s.deviceId.setWidth 64, BitVec.ofNat 64 (dayLen s), BitVec.ofNat 64 (duskLen s)] ++ packed (sha384 (spareMapBytes s)))
  | 5 => some [(slotSvn s.flash.slotA).setWidth 64, (slotSvn s.flash.slotB).setWidth 64, s.mgmt.rollback.setWidth 64]
  | 6 => some [1, s.mgmt.jtagSessions.setWidth 64]
  | _ => none

/-- A region block, `0x80` to `0x83`. -/
def regionBlock (s : State) (r : RegionId) (i : Nat) : Option (List Word) :=
  let x := regOf s r
  match i with
  | 0x80 => some ([BitVec.ofNat 64 r.val, x.gen.setWidth 64, BitVec.ofNat 64 (fld x.entry 0 64), BitVec.ofNat 64 (fld x.entry 64 64),
      x.quota.setWidth 64]
      ++ (List.range 4).map (fun n => BitVec.ofNat 64 (fld x.engines (64 * n) 64))
      ++ (List.range 16).map (fun e => (nth 0 x.staging e).setWidth 64)
      ++ (List.range 8).flatMap (fun n => [(nth (0, 0) x.bulk n).1.setWidth 64, (nth (0, 0) x.bulk n).2.setWidth 64])
      ++ [x.domain.setWidth 64, x.vf.setWidth 64])
  | 0x81 => some (digestWords x.measurement)
  | 0x82 => some [1, x.debugCount.setWidth 64]
  | 0x83 => some [BitVec.ofNat 64 (b2n x.borderOk)]
  | _ => none

/-- A block that a session bound to `r` may read. -/
def measBlock (s : State) (r : Option RegionId) (i : Nat) : Option (List Word) :=
  match deviceBlock s i with
  | some b => some b
  | none => match r with | some r => regionBlock s r i | none => none

/-- The block of an index, or every readable block, each headed by its index. -/
def measuredBlocks (s : State) (r : Option RegionId) (index : Nat) : Option (List Word) :=
  if index = 0xFF then
    some ([1, 2, 3, 4, 5, 6, 0x80, 0x81, 0x82, 0x83].flatMap fun i =>
      match measBlock s r i with | some b => BitVec.ofNat 64 i :: b | none => [])
  else (measBlock s r index).map fun b => BitVec.ofNat 64 index :: b

def sessionOf (s : State) (i : Fin 16) : Option Session := tfind s.mgmt.sessions i.val
/-- A session in which secured messages pass. -/
def secured (s : State) (i : Fin 16) : Option Session := (sessionOf s i).filter fun x => x.finished
def setSession (i : Fin 16) (x : Session) (s : State) : State := modMgmt (fun m => { m with sessions := tset m.sessions i.val x }) s

/-- Blocks, then the signature over them and the nonce. -/
def answerMeasurements (r : Option RegionId) (index : BitVec 8) (nonce : BitVec 256) (s : State) : State :=
  match measuredBlocks s r index.toNat with
  | some b => spdmReply (b ++ signature s (wordsBytes b ++ natBytes 32 nonce.toNat)) s
  | none => spdmError 1 s

/-- `GET_MEASUREMENTS` (R392, R395), in a session or outside one. -/
def execGetMeasurements (sess : Option (Fin 16)) (index : BitVec 8) (nonce : BitVec 256) (s : State) :
    Host.Outcome State Fault Refusal :=
  .next (if s.boot.step < 3 then s
    else match sess with
      | none => if negotiated s then answerMeasurements none index nonce s else spdmError 4 s
      | some i => match secured s i with
        | some x => answerMeasurements x.region index nonce s
        | none => spdmError 1 s)

/-! ### Sessions (R392, R395, R401) -/

/-- `KEY_EXCHANGE` (R392): the responder's share is a free value (log 2). -/
def execKeyExchange (tr : SpdmTransport) (_share : BitVec 768) (s : State) : Host.Outcome State Fault Refusal :=
  .next (spdmAfter tr negotiated (fun s =>
    match lowestFree 16 (s.mgmt.sessions.map Prod.fst) with
    | none => spdmError 3 s
    | some i =>
      let share := Config.dheShare s.nextFree
      let s := { s with nextFree := s.nextFree + 1 }
      spdmReply (BitVec.ofNat 64 i :: packed (natBytes 96 share.toNat))
        (setSession (Fin.ofNat 16 i) ⟨tr, false, none⟩ s)) s)

/-- A request in a session whose transport carries it. -/
def inSession (sess : Fin 16) (get : State → Fin 16 → Option Session) (f : Session → State → State) (s : State) : State :=
  match get s sess with
  | some x => if carries s x.transport then f x s else s
  | none => if s.boot.step < 3 then s else spdmError 1 s

def dropSession (sess : Fin 16) (s : State) : State := modMgmt (fun m => { m with sessions := tdel m.sessions sess.val }) s

/-- `FINISH` (R392): `macOk` tells whether the requester's MAC verifies. -/
def execFinish (sess : Fin 16) (macOk : Bool) (s : State) : Host.Outcome State Fault Refusal :=
  .next (inSession sess sessionOf (fun x s =>
    if x.finished then spdmError 4 s
    else if macOk then spdmReply [] (setSession sess { x with finished := true } s)
    else spdmError 6 (dropSession sess s)) s)

/-- `HEARTBEAT` (R392). -/
def execHeartbeat (sess : Fin 16) (s : State) : Host.Outcome State Fault Refusal :=
  .next (inSession sess secured (fun _ s => spdmReply [] s) s)

/-- `BIND_REGION` (R395). -/
def execBindRegion (sess : Fin 16) (r : RegionId) (s : State) : Host.Outcome State Fault Refusal :=
  .next (inSession sess secured (fun x s =>
    if x.region.isSome ∨ !(regOf s r).valid then spdmError 1 s
    else spdmReply [] (setSession sess { x with region := some r } s)) s)

/-- The fields obey the table of R396. -/
def keyOk (k : KeyReq) : Bool :=
  decide (k.imageBase.toNat % 4096 = 0 ∧ k.imageLen ≠ 0 ∧ k.imageLen.toNat % 64 = 0 ∧ k.tagBase.toNat % 16 = 0)

/-- `INSTALL_KEY` (R401). -/
def execInstallKey (sess : Fin 16) (req : KeyReq) (s : State) : Host.Outcome State Fault Refusal :=
  .next (inSession sess secured (fun x s =>
    match x.region with
    | none => answer none 0x37 s
    | some r =>
      let g := regOf s r
      if !g.valid ∨ req.measurement ≠ g.measurement ∨ req.gen ≠ g.gen ∨ !keyOk req then answer (some r) 0x37 s
      else
        let k : KeySlot := ⟨req.key, req.imageId, req.imageBase, req.imageLen, req.tagBase, req.ivSalt⟩
        reply 0 [] (modReg s r fun g => { g with keys := tset g.keys req.slot.val k })) s)

/-- `END_SESSION` (R401): the keys it installed stay. -/
def execEndSession (sess : Fin 16) (s : State) : Host.Outcome State Fault Refusal := .next (dropSession sess s)

end Sys2Proof.Machine
end

