-- ==== Sys2Proof/Machine/Power.lean ====
section
/-!
DEFINITION. Resets (R432, R433), boot (R436–R444), firmware slots (R440–R443), clocks (R434, R435), power
states (R445–R450), core restart (R432, R449) and the thermal pins (R478).
-/
namespace Sys2Proof.Machine
open Sys2Proof

/-! ### Device-scope reset (R432, R433) -/

/-- A store that a reset or a power loss interrupts leaves its target slot indeterminate (R429). -/
def interruptStores (f : Flash) : Flash :=
  { f.busy.foldl spoilItem f with busy := [] }

/-- Midnight after a device-scope reset: every register at its reset value, the flashes, pins and clocks as
they are. `keep`: the attempt record survives (R442). -/
def midnight (keep : Bool) (s : State) : State :=
  { State.reset with
    pending := s.pending
    pins := { s.pins with daybreakOut := false }
    boot := { State.reset.boot with
      marks0 := if keep then s.boot.marks0 else (false, false)
      marks1 := if keep then s.boot.marks1 else (false, false)
      tripped := s.boot.tripped }
    flash := interruptStores s.flash
    hostOut := s.hostOut
    linkOut := s.linkOut
    nextMid := s.nextMid
    nextEpoch := s.nextEpoch
    nextFree := s.nextFree }

/-! ### Firmware slots (R440, R441) -/

/-- Header bytes 0–59, which `SIG` covers. -/
def signedBytes (i : FwImage) : List Byte :=
  natBytes 4 i.seq.toNat ++ natBytes 4 i.svn.toNat ++ natBytes 4 i.len.toNat ++ natBytes 48 i.digest.toNat
/-- Header bytes 0–251, which `CRC` covers. -/
def headerBytes (i : FwImage) : List Byte := signedBytes i ++ natBytes 96 i.sig.toNat ++ List.replicate 96 0

/-- The first check of R441 that a slot fails: 1 CRC, 2 signature, 3 security version, 4 digest. -/
def slotCheck (rollback : BitVec 32) (x : FwSlot) : Option Nat :=
  match x.image with
  | none => some 1
  | some i =>
    if !x.valid || i.crc ≠ crc32c (headerBytes i) then some 1
    else if !Config.firmwareSigOk (signedBytes i) i.sig then some 2
    else if i.svn < rollback then some 3
    else if digestOf (i.image.take i.len.toNat) ≠ i.digest then some 4
    else none

def slotSeq (x : FwSlot) : Nat := match x.image with | some i => i.seq.toNat | none => 0

/-- The slots in the order in which the ROM tries them (true: B). -/
def slotOrder (f : Flash) : List Bool := if slotSeq f.slotA < slotSeq f.slotB then [true, false] else [false, true]

/-- The active ROM's attempt record marks the slot (R442). -/
def marked (b : Boot) (slot : Bool) : Bool :=
  let m := if b.activeEs then b.marks1 else b.marks0
  if slot then m.2 else m.1

/-- A ROM hands control to a slot: its own record marks it. -/
def markIn (slot : Bool) (m : Bool × Bool) : Bool × Bool := if slot then (m.1, true) else (true, m.2)

/-- The active ROM, and the standby that boots the same slot, mark it; a standby whose self-check failed
does not boot (R436 steps 1 and 2). -/
def setMark (slot : Bool) (b : Boot) : Boot :=
  { b with marks0 := if b.activeEs then b.marks0 else markIn slot b.marks0, marks1 := markIn slot b.marks1 }

/-- The first slot of a list that boots, and those skipped or refused before it. -/
def selectSlot (s : State) : List Bool → Option Bool × List (Bool × Nat)
  | [] => (none, [])
  | b :: t =>
    let rest := selectSlot s t
    if marked s.boot b then (rest.1, (b, 0) :: rest.2)
    else match slotCheck (rollbackOf s.flash.rollback) (slotOf s.flash b) with
      | some k => (rest.1, (b, k) :: rest.2)
      | none => (some b, [])

/-! ### Boot (R436) -/

/-- The spare map and removal list as boot finds them (R431). -/
def loadMap (s : State) : State :=
  match readPair s.flash.spare with
  | some m =>
    { s with spares := m.rows.foldl (fun t e => tset t e.1 { SpareRow.reset with first := e.2.1, second := e.2.2 }) []
             removals := m.removals
             removedDies := m.dies }
  | none => logArmaik none 0x3D 0 s

/-- One record `0x3F` for each slot skipped or refused, with the slot and the check (R441, log 149). -/
def logRefused (s : State) : State :=
  let s' := s.boot.refused.foldl (fun s e => noteArmaik none 0x3F [b2n e.1, e.2] s) s
  { s' with boot := { s'.boot with refused := [] } }

/-- Light is seen by the ports (R354). -/
def litPorts (s : State) : Tab LinkPort :=
  (List.range 16).foldl (fun t k => if bit s.pins.lasers k then tset t k { LinkPort.reset with laserOk := true } else t) []

/-- Step 3: the persistent items are read, and a presence window opens where `PRESENCE_N` is low (R408). -/
def firmwareStart (s : State) : State :=
  let f := s.flash
  let s := { s with
    boot := { s.boot with step := 3, recovery := false }
    mgmt := { s.mgmt with owned := (readPair f.certs).getD [], rollback := rollbackOf f.rollback }
    log := { s.log with persistent := (readPair f.plog).getD [] }
    ports := litPorts s }
  let s := logRefused (loadMap s)
  if s.pins.presenceN then s else openPresence s

/-- The ROM measures the image it boots, and locks the UDS (R391, R436 step 2). -/
def measureSlot (slot : Bool) (f : Flash) (b : Boot) : Boot :=
  { b with slot := slot, udsLocked := true
           measured := match (slotOf f slot).image with | some i => i.digest | none => 0 }

/-- Steps 1 to 3, or recovery when no slot passes (R441, R444). -/
def runRom (roms : RomReport) (s : State) : State :=
  let s := { s with pins := { s.pins with presenceN := !roms.presenceLow }, boot := { s.boot with activeEs := !roms.es0Ok } }
  match selectSlot s (slotOrder s.flash) with
  | (some b, l) => firmwareStart { s with boot := { measureSlot b s.flash (setMark b s.boot) with refused := l } }
  | (none, l) => { s with boot := { s.boot with step := 1, recovery := true, refused := l } }

/-- Boot starts unless something still holds the reset. -/
def bootStart (roms : RomReport) (s : State) : State :=
  let p := s.pins
  if s.dev = .midnight ∧ s.boot.step = 0 ∧ p.resetN ∧ p.railsOk ∧ p.svcClk ∧ p.coreClk ∧ !s.boot.tripped then runRom roms s
  else s

/-- `RESET_N_ASSERT` (R432). -/
def execResetNAssert (s : State) : Host.Outcome State Fault Refusal :=
  let s := midnight false s
  .next { s with pins := { s.pins with resetN := false, thermtripN := true }, boot := { s.boot with tripped := false } }

/-- `RESET_N_DEASSERT` (R436). -/
def execResetNDeassert (roms : RomReport) (s : State) : Host.Outcome State Fault Refusal :=
  .next (bootStart roms { s with pins := { s.pins with resetN := true } })

/-- `POWER_ON` (R432, R484): the board holds `RESET_N` low. -/
def execPowerOn (s : State) : Host.Outcome State Fault Refusal :=
  let s := midnight false s
  .next { s with pins := { s.pins with railsOk := true, resetN := false, thermtripN := true }
                 boot := { s.boot with tripped := false } }

/-- `POWER_LOSS` (R429, R485). -/
def execPowerLoss (s : State) : Host.Outcome State Fault Refusal :=
  let s := midnight false s
  .next { s with pins := { s.pins with railsOk := false } }

/-- `DEVICE_RESET` (R432). -/
def execDeviceReset (roms : RomReport) (s : State) : Host.Outcome State Fault Refusal :=
  .next (operatorCmd (fun s => bootStart roms (midnight false s)) s)

/-- `HBM_TRAINING_DONE` (R436 steps 4 and 5, R439): every byte of bulk memory is zero without mark. -/
def execHbmTrainingDone (s : State) : Host.Outcome State Fault Refusal :=
  .next (if s.boot.step = 3 then
      { s with bulk := [], bulkPoison := [], boot := { s.boot with step := 5, hbmDone := true } }
    else s)

/-- A core that BIST found failed (R438): recorded at once, a third of a row in the removal list. -/
def mergeBist (s : State) (f : Fin 640 × Fin 17) : State :=
  let i := f.1.val
  let c := BitVec.ofNat 5 f.2.val
  let x := rowOf_ s i
  if x.first = c ∨ x.second = c then s
  else
    let s := logFailed i f.2.val .bist s
    if x.first = 31 then setRow i { x with first := c } s
    else if x.second = 31 then setRow i { x with second := c } s
    else match logicalCol x.first f.2.val with
      | none => s
      | some p =>
        let n := BitVec.ofNat 14 (rowCore i p).val
        let s := isolate (rowCore i p) s
        if s.removals.contains n then s
        else if s.removals.length < 64 then { s with removals := s.removals ++ [n] }
        else { s with removedDies := s.removedDies ++ [Fin.ofNat 32 (dieOf (rowCore i p))] }

/-- The gates of the positions that second failures remove are closed (R417). -/
def closeGates (s : State) : State :=
  s.spares.foldl (fun s e => match removedCol e.2 with
    | some p => isolate (rowCore e.1 p) s
    | none => s) s

/-- `BIST_DONE` (R436 steps 6 and 7, R438): every local and code word is zero without mark. -/
def execBistDone (failed : List (Fin 640 × Fin 17)) (s : State) : Host.Outcome State Fault Refusal :=
  .next (if s.boot.step ≠ 5 then s
    else
      let s' := failed.foldl mergeBist { s with cores := tmap (fun _ c => zeroedCore c) s.cores }
      let s' := closeGates { s' with boot := { s'.boot with step := 6, bistDone := true } }
      if s'.spares = s.spares ∧ s'.removals = s.removals ∧ s'.removedDies = s.removedDies ∧ (readPair s.flash.spare).isSome then s'
      else wantStore .spareMap s')

/-- Entry 0 (R28): origin 0, 0, extent 128 × 80. -/
def deviceCell : BitVec 128 := BitVec.ofNat 128 (1 + at_ 127 24 + at_ 79 31)

/-- The rollback counter follows the running slot (R443). -/
def raiseRollback (s : State) : State :=
  let v := slotSvn (slotOf s.flash s.boot.slot)
  if s.mgmt.rollback < v then wantStore .rollback (modMgmt (fun m => { m with rollback := v }) s) else s

/-- `FIRST_DAYBREAK` (R436 step 8, R442, R443, R47). -/
def execFirstDaybreak (s : State) : Host.Outcome State Fault Refusal :=
  .next (if s.dev ≠ .midnight ∨ s.boot.step ≠ 6 ∨ s.flash.busy.contains .spareMap then s
    else
      let req := s.daylightReq
      let s := newDay { s with cells := tset s.cells 0 deviceCell, daylightReq := false }
      let s := daybreakBody false { s with dev := .twilight, clock := { s.clock with dayCount := 0 } }
      raiseRollback { s with daylightReq := req, boot := { s.boot with step := 8, marks0 := (false, false), marks1 := (false, false) } })

/-- `RECOVERY_IMAGE` (R444). -/
def execRecoveryImage (img : FwImage) (s : State) : Host.Outcome State Fault Refusal :=
  .next (if !s.boot.recovery ∨ s.mgmt.presence = [] then s
    else
      let s := { s with flash := { s.flash with slotA := ⟨some img, true⟩ } }
      match slotCheck (rollbackOf s.flash.rollback) s.flash.slotA with
      | some k => { s with boot := { s.boot with refused := s.boot.refused ++ [(false, k)] } }
      | none => firmwareStart { s with boot := measureSlot false s.flash (setMark false s.boot) })

/-- `BOOT_WATCHDOG` (R432, R442). -/
def execBootWatchdog (roms : RomReport) (s : State) : Host.Outcome State Fault Refusal :=
  .next (if s.dev = .midnight ∧ 3 ≤ s.boot.step then bootStart roms (midnight true s) else s)

/-- Failover to the standby (R391, R432): sessions and management connections end. -/
def failover (s : State) : State :=
  { s with
    boot := { s.boot with activeEs := !s.boot.activeEs }
    mgmt := { s.mgmt with
      connected := false, authenticated := false, debug := none, sessions := []
      spdmVersion := false, spdmCaps := false, spdmAlgs := false } }

/-- `ARMAIK_WATCHDOG` (R432, R442). While the reset holds the controllers none serves a watchdog. -/
def execArmaikWatchdog (standbyHealthy : Bool) (roms : RomReport) (s : State) : Host.Outcome State Fault Refusal :=
  .next (if s.boot.step = 0 then s
    else if standbyHealthy then failover s
    else bootStart roms (midnight true s))

/-! ### Clocks and pins (R434, R435, R437, R478) -/

/-- `LINK_REFCLK` is lost: every port goes down (R357, R435). -/
def downAll (s : State) : State :=
  { s with ports := tmap (fun _ p => { (if p.state = .up then downPort p else { p with state := .down }) with fecLock := false }) s.ports }

/-- `CLOCK_LOSS` (R432, R435). -/
def execClockLoss (clk : RefClock) (s : State) : Host.Outcome State Fault Refusal :=
  .next (match clk with
    | .svc => let s := midnight false s; { s with pins := { s.pins with svcClk := false } }
    | .core => let s := midnight false s; { s with pins := { s.pins with coreClk := false } }
    | .link => downAll { s with pins := { s.pins with linkClk := false } }
    | .pcie h => { s with pins := if h = 0 then { s.pins with pcieClk0 := false } else { s.pins with pcieClk1 := false } })

/-- `REFERENCE_CLOCK_RETURN` (R435). -/
def execReferenceClockReturn (clk : RefClock) (roms : RomReport) (s : State) : Host.Outcome State Fault Refusal :=
  .next (match clk with
    | .svc => bootStart roms { s with pins := { s.pins with svcClk := true } }
    | .core => bootStart roms { s with pins := { s.pins with coreClk := true } }
    | .link => { s with pins := { s.pins with linkClk := true } }
    | .pcie h => { s with pins := if h = 0 then { s.pins with pcieClk0 := true } else { s.pins with pcieClk1 := true } })

/-- `PERST_N_DEASSERT` (R437). -/
def execPerstNDeassert (link : LinkId) (s : State) : Host.Outcome State Fault Refusal :=
  .next { s with pins := if link = 0 then { s.pins with perstN0 := true } else { s.pins with perstN1 := true } }

/-- The thermal trip (R432, R478): Midnight, held. -/
def thermalTrip (s : State) : State :=
  let s := midnight false s
  { s with pins := { s.pins with thermtripN := false }, boot := { s.boot with tripped := true } }

/-- `THERMAL_TRIP` (R432, R478). -/
def execThermalTrip (s : State) : Host.Outcome State Fault Refusal := .next (thermalTrip s)

/-- Operating maximum of sensor `n`, in 0.1 °C (R486): C-dies, E-dies and HBM stacks in the order of R468, the optical
engines after them (log 208). -/
def maxTemp (n : Nat) : Int := if n < 56 then 950 else 750
/-- Trip temperature of sensor `n` (R486). -/
def tripTemp (n : Nat) : Int := if n < 48 then 1100 else if n < 56 then 1050 else 900

/-- The sensors read `temps`: one at its trip temperature trips the device, one above its maximum drives `THERMALERT_N` low,
and the pin rises again once every one is 2 °C below (R478, R486). -/
def senseTemps (temps : List (BitVec 16)) (s : State) : State :=
  if temps.zipIdx.any fun t => decide (tripTemp t.2 ≤ t.1.toInt) then thermalTrip s
  else
    let low := if temps.zipIdx.any (fun t => decide (maxTemp t.2 < t.1.toInt)) then true
      else if temps.zipIdx.all (fun t => decide (t.1.toInt ≤ maxTemp t.2 - 20)) then false
      else !s.pins.thermalertN
    { s with pins := { s.pins with thermalertN := !low } }

/-- `THERMAL_ALERT` (R478). -/
def execThermalAlert (temps : List (BitVec 16)) (s : State) : Host.Outcome State Fault Refusal := .next (senseTemps temps s)

/-! ### Firmware commands (R443) -/

def setSlot (b : Bool) (x : FwSlot) (s : State) : State :=
  { s with flash := if b then { s.flash with slotB := x } else { s.flash with slotA := x } }

/-- A slot is being written with an image under a new `SEQ` and its `CRC`. -/
def writeSlot (b : Bool) (seq : Nat) (i : FwImage) (s : State) : State :=
  let i := { i with seq := BitVec.ofNat 32 seq }
  wantStore (.firmware (if b then 1 else 0)) (setSlot b ⟨some { i with crc := crc32c (headerBytes i) }, false⟩ s)

/-- `FIRMWARE_UPDATE` (R443). -/
def execFirmwareUpdate (img : FwImage) (s : State) : Host.Outcome State Fault Refusal :=
  .next (operatorCmd (fun s =>
    reply 0 [] (writeSlot (!s.boot.slot) (slotSeq (slotOf s.flash s.boot.slot) + 1) img s)) s)

/-- A rollback to the named slot. The counter falls to its `SVN` in both slots of the item, one store after the other (R430,
R431, R443). -/
def rollBack (b : Bool) (s : State) : State :=
  match (slotOf s.flash b).image with
  | none => answer none 0x3F s
  | some i =>
    let s := wantStore .rollback (modMgmt (fun m => { m with rollback := i.svn }) s)
    reply 0 [] (writeSlot b (slotSeq (slotOf s.flash (!b)) + 1) i s)

/-- `FIRMWARE_ROLLBACK` (R443), with presence. -/
def execFirmwareRollback (slot : Fin 2) (s : State) : Host.Outcome State Fault Refusal :=
  .next (presenceCmd 2 (rollBack (decide (slot = 1))) s)

/-! ### Twilight, Daylight and Night (R446–R450) -/

/-- `ENTER_DAYLIGHT` (R446). -/
def execEnterDaylight (s : State) : Host.Outcome State Fault Refusal :=
  .next (operatorCmd (fun s => reply 0 [] { s with daylightReq := true }) s)

/-- `ENTER_TWILIGHT` (R446, R447). -/
def execEnterTwilight (s : State) : Host.Outcome State Fault Refusal :=
  .next (operatorCmd (fun s =>
    let n := match s.twilightAt with | some m => min m (effDay s) | none => effDay s
    reply 0 [] { s with daylightReq := false, twilightAt := some n }) s)

/-- A Night command for a region (R448). -/
def nightRegion (r : RegionId) (wake : Bool) (kind : NightKind) (s : State) : State :=
  let x := regOf s r
  if hasPending x (fun c => isCreate c || isDelete c || isSwitch c) then answer (some r) 0x3F s
  else if !x.valid then reply 0x16 [] s
  else reply 0 [] (modReg s r fun x => { x with pending := x.pending ++ [(effDay s, .night kind wake)] })

/-- A region, existing or pending, covers the core. -/
def coveredSoon (s : State) (c : CoreId) : Bool :=
  (s.cells ++ masterCells s).any fun e => cValid e.2 && cIsRegion e.2 && cCovers e.2 (coreX c) (coreY c)

/-- `NIGHT_COMMAND` (R448). -/
def execNightCommand (t : NightTarget) (kind : NightKind) (s : State) : Host.Outcome State Fault Refusal :=
  .next (operatorCmd (fun s =>
    match t with
    | .region r wake => nightRegion r wake kind s
    | .core c =>
      if coveredSoon s c then answer (regionOf s c) 0x3F s
      else reply 0 [] { s with coreNights := s.coreNights ++ [(effDay s, c, kind)] }) s)

/-- `WAKE_REGION` (R450). -/
def execWakeRegion (r : RegionId) (s : State) : Host.Outcome State Fault Refusal :=
  .next (operatorCmd (fun s =>
    let x := regOf s r
    if !x.valid then reply 0x16 [] s
    else if x.night.isNone ∨ x.waking then reply 0 [] s
    else reply 0 [] (startWake r s)) s)

/-! ### Core restart (R432, R449) -/

/-- Registers, tiles and speculative state are lost and the store buffer is discarded; memories, queues
and hold counters stay. -/
def restartedCore (c : Core) : Core :=
  { dropSpec c with stores := [], threads := tmap (fun _ t => { t with acvt := none }) (dropSpec c).threads
                    mmaRun := none, mmaWait := none, trapBase := 0xFFFC0, rot := 0 }

/-- Threads start as at a release (R122, R123): every thread loses its registers, and task threads are held
(R449). -/
def restartThreads (core : CoreId) (s : State) : State :=
  ([0, 1, 2, 3] : List (Fin 4)).foldl (fun s i =>
    let s := startThread core i s
    if bootMode (coreOf s core) i then s else modCore s core fun c => setTh c i { thOf c i with run := .held }) s

/-- `CORE_RESTART` (R432, R449). -/
def execCoreRestart (core : CoreId) (s : State) : Host.Outcome State Fault Refusal :=
  .next (operatorCmd (fun s =>
    let c := coreOf s core
    if !c.released ∨ c.night.isSome ∨ !mayRun s core then answer (regionOf s core) 0x3F s
    else reply 0 [] (restartThreads core (firstStatus core (modCore s core restartedCore)))) s)

end Sys2Proof.Machine
end

