-- ==== Sys2Proof/Machine/Registers.lean ====
section
/-!
DEFINITION. The management registers (R356, R414, R415, R445, R457–R470): what `QUERY` returns, what `SET`
does, the power of the spill-cache ways (R461), and telemetry samples (R468).
-/
namespace Sys2Proof.Machine
open Sys2Proof

/-! ### Words of registers -/

def w64 (n : Nat) : Word := BitVec.ofNat 64 n

/-- `DEVICE_STATE` (R445). -/
def deviceStateWord (s : State) : Word :=
  let st := match s.dev with | .midnight => 0 | .twilight => 1 | .daylight => 2
  w64 (st + at_ (b2n s.daylightReq) 2 + at_ (b2n s.boot.slot) 3 + at_ (b2n s.boot.activeEs) 4)

/-- `DAYBREAK_CTRL` (R459): the accepted source and port, and the measured state. -/
def daybreakCtrlWord (c : Clock) : Word :=
  w64 (c.srcNext.toNat + at_ c.portNext.toNat 2 + at_ (b2n c.alignLost) 6 + at_ c.offset.toNat 8)

/-- `SPILL_WAYS` (R459). -/
def spillWord (sp : Spill) : Word := w64 (sp.power.toNat + at_ sp.gated.toNat 16 + at_ sp.disabled.toNat 32)

def deviceReg (s : State) (a : Nat) : Option Word :=
  match a with
  | 0x00 => some (deviceStateWord s)
  | 0x08 => some (w64 (s.deviceIdNext.toNat + at_ (b2n s.assignedNext) 14))
  | 0x10 => some (w64 s.clock.dayDivNext.toNat)
  | 0x18 => some (w64 s.clock.duskDivNext.toNat)
  | 0x20 => some (daybreakCtrlWord s.clock)
  | 0x28 => some (s.clock.dayCount.setWidth 64)
  | 0x30 => some (spillWord s.spill0)
  | 0x38 => some (spillWord s.spill1)
  | _ => none

/-- The region exists or its creation is pending. -/
def regionNamed (x : Region) : Bool := x.valid || x.pending.any fun e => decide (e.2 = .create)

/-- A creation, deletion or context switch awaits its Daybreak (R448, R462). -/
def changePending (x : Region) : Bool :=
  x.pending.any fun e => match e.2 with | .night _ _ => false | _ => true

def nightCode (n : Option NightKind) : Nat := match n with | none => 0 | some .retention => 1 | some .full => 2

/-- `REGION_STATUS` (R462). -/
def regionStatusWord (x : Region) : Word :=
  w64 (b2n x.valid + at_ (b2n (changePending x)) 1 + at_ (b2n x.stopped) 2
    + at_ (nightCode x.night) 3 + at_ (b2n x.loaded) 5 + at_ (b2n x.loadFailed) 6 + at_ x.gen.toNat 8
    + at_ x.cell.toNat 16 + at_ x.domain.toNat 27)

/-- `BULK_n` (R462). -/
def bulkWord (x : Region) (n : Nat) : Word :=
  let w := fun i : Nat => nth (0, 0) x.bulk i
  w64 ((w (2 * n)).1.toNat + at_ (w (2 * n)).2.toNat 11 + at_ (w (2 * n + 1)).1.toNat 22 + at_ (w (2 * n + 1)).2.toNat 33)

/-- `STAGING_n` (R462). -/
def stagingWord (x : Region) (n : Nat) : Word :=
  w64 (((List.range 8).map fun e => at_ (nth 0 x.staging (8 * n + e)).toNat (7 * e)).sum)

/-- `LAUNCH` (R462). -/
def launchWord (x : Region) : Word :=
  let pend := (x.launches.filter fun e => !e.2.started && !e.2.ended).length + x.notifies.length
  w64 (x.launches.length + at_ (min pend 65535) 7)

/-- A register of region `r` at offset `o` of its block (R462). Of a region that does not exist yet only `PENDING` shows its
creation (DEDUCED, log 102). -/
def regionReg (s : State) (r o : Nat) : Option Word :=
  let x := regOf s (Fin.ofNat 256 r)
  if 0x78 ≤ o ∨ o % 8 ≠ 0 then none
  else if !x.valid then some (if o = 0x10 then 0x0FF else if o = 0 then w64 (at_ (b2n (changePending x)) 1) else 0)
  else match o with
    | 0x00 => some (regionStatusWord x)
    | 0x08 => some (w64 (quotaAccepted x + at_ x.cellQuota.toNat 11 + at_ (nestedCells (masterCells s) r) 22))
    | 0x10 => some ((vfAccepted x).setWidth 64)
    | 0x18 => some (x.bootImage.setWidth 64)
    | 0x70 => some (launchWord x)
    | _ => some (if o < 0x40 then w64 (fld x.engines (64 * ((o - 0x20) / 8)) 64)
        else if o < 0x50 then stagingWord x ((o - 0x40) / 8)
        else bulkWord x ((o - 0x50) / 8))

/-- The cell table (R465). -/
def cellReg (s : State) (o : Nat) : Word := w64 (fld (cellEntry s (o / 16)) (64 * (o / 8 % 2)) 64)

/-- The spare map and removal list (R466, R418). -/
def spareWord (x : SpareRow) : Word := w64 (x.first.toNat + at_ x.second.toNat 5 + at_ (b2n x.pending.isSome) 10)
def removalWord (s : State) (j : Nat) : Word :=
  match s.removals[j]? with | some c => w64 (c.toNat + at_ 1 14) | none => 0
def spareSummary (s : State) : Word :=
  w64 ((s.spares.filter fun e => decide (e.2.first ≠ 31)).length
    + at_ (s.spares.filter fun e => decide (e.2.second ≠ 31)).length 10 + at_ (min s.removals.length 64) 20)
def spareReg (s : State) (o : Nat) : Option Word :=
  if o < 8 * 640 then some (spareWord (rowOf_ s (o / 8)))
  else if 0x2000 ≤ o ∧ o < 0x2200 then some (removalWord s ((o - 0x2000) / 8))
  else if o = 0x2200 then some (spareSummary s)
  else none

/-- `LINK_STATUS` (R356). -/
def linkStatusWord (p : LinkPort) : Word :=
  let st := match p.state with | .down => 0 | .training => 1 | .up => 2
  w64 (st + at_ (b2n p.laserOk) 2 + at_ (b2n p.fecLock) 3 + at_ p.peerDevice.toNat 4 + at_ p.peerPort.toNat 18
    + at_ p.oneWay.toNat 22)

/-- A device route entry as most recently accepted (R377, R458). -/
def routeAccepted (s : State) (i : Nat) : BitVec 16 :=
  s.routesNext.foldl (fun v e => if e.2.1 = i then e.2.2 else v) (tget 0 s.routes i)
def routeReg (s : State) (q : Nat) : Word :=
  w64 (((List.range 4).map fun m => at_ (routeAccepted s (4 * q + m)).toNat (16 * m)).sum)

/-- The telemetry block, as last sampled (R468). The fields of a rail whose regulator does not answer read all ones (R483). -/
def telemetryReg (s : State) (o : Nat) : Option Word :=
  let t := s.telemetry
  if o < 8 * 56 then some ((nth 0 t.temps (o / 8)).setWidth 64)
  else if 0x200 ≤ o ∧ o < 0x200 + 8 * 48 then
    some (match nth none t.rails ((o - 0x200) / 8) with
      | some x => w64 (x.1.toNat + at_ x.2.1.toNat 16 + at_ x.2.2.toNat 32)
      | none => w64 (2 ^ 48 - 1))
  else if o = 0x400 then some (t.watts.setWidth 64)
  else if o = 0x408 then some (w64 (b2n s.busySample))
  else if 0x480 ≤ o ∧ o < 0x500 then some ((nth 0 t.lasers ((o - 0x480) / 8)).setWidth 64)
  else if 0x500 ≤ o ∧ o < 0x580 then
    let x := nth (0, 0) s.poolSample ((o - 0x500) / 8)
    some (w64 (x.1 % 2 ^ 17 + at_ (x.2 % 2 ^ 17) 17))
  else none

/-! ### The error log (R414, R469) -/

/-- Word `w` of a record (R414). -/
def recWord (x : LogRec) (w : Nat) : Word :=
  match w with
  | 0 => w64 (x.day.toNat + at_ x.cycle.toNat 48)
  | 1 => w64 (x.cycle.toNat / 2 ^ 16 + at_ x.cause.toNat 8 + at_ x.source.toNat 16 + at_ x.location.toNat 22
      + at_ (match x.region with | some r => r.val | none => 0) 36 + at_ (b2n x.region.isSome) 44
      + at_ x.thread.val 45 + at_ (b2n x.deferred) 47)
  | 2 => x.info
  | _ => x.seq.setWidth 64

def recAt (s : State) (sel : BitVec 32) : Option LogRec := s.log.recs.find? fun x => decide (x.seq = sel)
def recReg (s : State) (sel : BitVec 32) (w : Nat) : Word := match recAt s sel with | some x => recWord x w | none => 0

def logReg (s : State) (o : Nat) : Option Word :=
  let l := s.log
  if o = 0x00 then some (l.next.setWidth 64)
  else if o = 0x08 then some (l.sel.setWidth 64)
  else if o = 0x10 then some (l.lost.setWidth 64)
  else if o = 0x18 then some (l.suppressed.setWidth 64)
  else if 0x20 ≤ o ∧ o < 0x40 then some (recReg s l.sel ((o - 0x20) / 8))
  else if o = 0x48 then some (l.selBmc.setWidth 64)
  else if 0x60 ≤ o ∧ o < 0x80 then some (recReg s l.selBmc ((o - 0x60) / 8))
  else if 0x1000 ≤ o ∧ o < 0x3000 then
    some (match l.persistent[(o - 0x1000) / 32]? with | some x => recWord x ((o - 0x1000) / 8 % 4) | none => 0)
  else none

/-! ### Counters (R470) -/

/-- An address that is a counter's: its scope has one of that number. -/
def isCounter (a : Nat) : Bool :=
  if a < 0x80000 then false
  else if a < 0x84000 then decide ((a - 0x80000) % 64 / 8 < 5)
  else if a < 0x86000 then decide ((a - 0x84000) % 256 / 8 < 17)
  else if a < 0x87000 then decide ((a - 0x86000) % 256 / 8 < 13)
  else if a < 0x87100 then true
  else decide (0x100000 ≤ a ∧ a < 0x100000 + 64 * 10240 ∧ (a - 0x100000) % 64 / 8 < 5)

/-- A counter of a kind that its E-die lacks: HBM off the E-Ms, spill cache off the E-Hs. -/
def lacksCounter (a : Nat) : Bool :=
  decide (0x86000 ≤ a ∧ a < 0x87000) &&
    (let e := (a - 0x86000) / 256
     let c := (a - 0x86000) % 256 / 8
     ((c == 5 || c == 6) && !(List.range 8).any fun n => emDie n == e)
       || ((c == 7 || c == 8) && !(List.range 2).any fun h => ehDie h == e))

/-- The region whose `PORT_DROP` mirror lies at `a`. -/
def dropMirror (a : Nat) : Option RegionId :=
  if 0x80000 ≤ a ∧ a < 0x84000 ∧ (a - 0x80000) % 64 = 24 then some (Fin.ofNat 256 ((a - 0x80000) / 64)) else none

/-- The VF bound to a region that exists. -/
def boundFn (s : State) (r : RegionId) : Option FnId := if (regOf s r).valid then fnOfRegion s r else none

def counterReg (s : State) (a : Nat) : Word :=
  match dropMirror a with
  | some r => match boundFn s r with | some fn => (fnOf s fn).drop.setWidth 64 | none => 0
  | none => if lacksCounter a then 0 else (tget 0 s.counters a).setWidth 64

def setCounter (a : Nat) (v : BitVec 32) (s : State) : State :=
  match dropMirror a with
  | some r => match boundFn s r with | some fn => modFn s fn fun f => { f with drop := v } | none => s
  | none => if lacksCounter a then s else { s with counters := tset s.counters a v }

/-! ### QUERY (R457) -/

/-- The register at an address, `none` where there is none. -/
def mgmtReg (s : State) (a : Nat) : Option Word :=
  if a % 8 ≠ 0 then none
  else if a < 0x10000 then deviceReg s a
  else if a < 0x18000 then regionReg s ((a - 0x10000) / 128) (a % 128)
  else if a < 0x20000 then none
  else if a < 0x28000 then some (cellReg s (a - 0x20000))
  else if a < 0x30000 then none
  else if a < 0x40000 then spareReg s (a - 0x30000)
  else if a < 0x40080 then some (linkStatusWord (portAt s (Fin.ofNat 16 ((a - 0x40000) / 8))))
  else if a < 0x50000 then none
  else if a < 0x58000 then some (routeReg s ((a - 0x50000) / 8))
  else if a < 0x60000 then none
  else if a < 0x70000 then telemetryReg s (a - 0x60000)
  else if a < 0x80000 then logReg s (a - 0x70000)
  else if isCounter a then some (counterReg s a)
  else none

/-- A requester can speak to the controller: the operator over a connection, the board management
controller over MCTP (R405). -/
def speaks (s : State) (who : Requester) : Bool :=
  match who with | .operator => s.mgmt.connected | .bmc => decide (3 ≤ s.boot.step)

/-- Registers that a requester may read (R405, R407, R445, R457). -/
def mayRead (s : State) (who : Requester) (a : Nat) : Bool :=
  if 0x60000 ≤ a ∧ a < 0x70000 then true
  else decide (s.mgmt.owned ≠ []) && (match who with
    | .operator => s.mgmt.authenticated
    | .bmc => decide (a = 0 ∨ (0x70000 ≤ a ∧ a < 0x80000)))

/-- The registers of a `QUERY`; a hole after the first register reads 0. -/
def queryWords (s : State) (a len : Nat) : List Word :=
  (List.range (len / 8)).map fun i => (mgmtReg s (a + 8 * i)).getD 0

/-- A `QUERY` R457 allows and the requester may make. -/
def queryOk (s : State) (who : Requester) (a len : Nat) : Bool :=
  decide (8 ≤ len ∧ len ≤ 64 ∧ len % 8 = 0 ∧ a / 64 = (a + len - 1) / 64) && (mgmtReg s a).isSome
    && (List.range (len / 8)).all fun i => (mgmtReg s (a + 8 * i)).isNone || mayRead s who (a + 8 * i)

/-- A range covers the register at `r`. -/
def covers (a len r : Nat) : Bool := decide (a ≤ r ∧ r < a + len)

/-- Reading a window marks its record, and its last word moves the selector on (R469). -/
def readWindow (who : Requester) (a len : Nat) (s : State) : State :=
  let base := match who with | .operator => 0x70020 | .bmc => 0x70060
  let sel := match who with | .operator => s.log.sel | .bmc => s.log.selBmc
  let recs := if covers a len base then s.log.recs.map fun x => if x.seq = sel then { x with read := true } else x else s.log.recs
  let sel := if covers a len (base + 24) then sel + 1 else sel
  { s with log := match who with
      | .operator => { s.log with recs := recs, sel := sel }
      | .bmc => { s.log with recs := recs, selBmc := sel } }

def mgmtQuery (who : Requester) (a len : Nat) (s : State) : State :=
  if !speaks s who then s
  else if queryOk s who a len then readWindow who a len (reply 0 (queryWords s a len) s)
  else reply 0x0B [] s

/-- `MANAGEMENT_QUERY` (R457, R469). -/
def execManagementQuery (who : Requester) (addr : BitVec 32) (len : Nat) (s : State) : Host.Outcome State Fault Refusal :=
  .next (mgmtQuery who addr.toNat len s)

/-! ### Spill-cache ways (R279, R461) -/

/-- Ways of `mask` are cleaned and gated. -/
def gateWays (link : LinkId) (mask : BitVec 16) (s : State) : State :=
  let s := setSpill s link { spillOf s link with power := (spillOf s link).power &&& ~~~mask }
  let s := (List.range 16).foldl (fun s w => if bit mask w then cleanWay link w [] s else s) s
  setSpill s link { spillOf s link with gated := (spillOf s link).gated ||| mask }

/-- Ways of `mask` are powered up empty. -/
def powerWays (link : LinkId) (mask : BitVec 16) (s : State) : State :=
  let sp := spillOf s link
  setSpill s link { sp with power := sp.power ||| mask, gated := sp.gated &&& ~~~mask }

/-- A `SET` of `POWER`. -/
def setWays (link : LinkId) (v : BitVec 16) (s : State) : State :=
  let old := (spillOf s link).power
  powerWays link (v &&& ~~~old) (gateWays link (old &&& ~~~v) s)

/-- `SPILL_WAYS_POWER` (R461). -/
def execSpillWaysPower (link : LinkId) (v : BitVec 64) (s : State) : Host.Outcome State Fault Refusal :=
  .next (operatorCmd (fun s => reply 0 [] (setWays link (v.setWidth 16) s)) s)

/-! ### SET (R457–R464) -/

/-- K and L of R44. -/
def dayOk (l k : Nat) : Bool := decide (32 ≤ l ∧ l ≤ 65536 ∧ 4 ≤ k ∧ 64 * k + 4608 ≤ 256 * l)

/-- A register of the device block with a Twilight field. -/
def isTwilightReg (a : Nat) : Bool := decide (a = 0x08 ∨ a = 0x10 ∨ a = 0x18 ∨ a = 0x20)

def setDevice (a : Nat) (v : Word) (s : State) : State :=
  let c := s.clock
  match a with
  | 0x08 => { s with deviceIdNext := v.setWidth 14, assignedNext := bit v 14 }
  | 0x10 => if dayOk (fld v 0 17) c.duskDivNext.toNat then { s with clock := { c with dayDivNext := v.setWidth 17 } } else s
  | 0x18 => if dayOk c.dayDivNext.toNat (fld v 0 18) then { s with clock := { c with duskDivNext := v.setWidth 18 } } else s
  | 0x20 =>
    if fld v 0 2 = 3 then s
    else { s with clock := { c with srcNext := v.setWidth 2, portNext := BitVec.ofNat 4 (fld v 2 4), dayTaken := false } }
  | 0x30 => setWays 0 (v.setWidth 16) s
  | 0x38 => setWays 1 (v.setWidth 16) s
  | _ => s

/-- The quotas of every other region, pending ones included (R463). -/
def otherQuotas (s : State) (r : RegionId) : Nat :=
  ((s.regions.filter fun e => decide (e.1 ≠ r.val) && regionNamed e.2).map fun e => quotaAccepted e.2).sum

/-- Another region holds the VF, now or from a coming Daybreak. -/
def vfTaken (s : State) (v : BitVec 9) (r : RegionId) : Bool :=
  s.regions.any fun e => decide (e.1 ≠ r.val) && regionNamed e.2 && claimsVf e.2 v

def setQuota (r : RegionId) (q : BitVec 11) (s : State) : State :=
  if 1024 < otherQuotas s r + q.toNat then reply 0x12 [] s
  else reply 0 [] (modReg s r fun x => { x with quotaNext := putNext (effDay s) q x.quotaNext })

def setBind (r : RegionId) (v : BitVec 9) (s : State) : State :=
  if v ≠ 0x0FF ∧ vfTaken s v r then answer (some r) 0x36 s
  else if v ≠ 0x0FF ∧ (vfOfCode v).isNone then reply 0 [] s
  else reply 0 [] (modReg s r fun x => { x with vfNext := putNext (effDay s) v x.vfNext })

def setRegion (r : RegionId) (o : Nat) (v : Word) (s : State) : State :=
  if !(regOf s r).valid then reply 0x0B [] s
  else if o = 0x08 then setQuota r (v.setWidth 11) s
  else if o = 0x10 then setBind r (v.setWidth 9) s
  else reply 0 [] s

/-- Four entries of the device route table (R467): their reserved bits [15:10] are not stored (R11, R377). -/
def setRoutes (q : Nat) (v : Word) (s : State) : State :=
  { s with routesNext := s.routesNext ++
    (List.range 4).map fun m => (effDay s, 4 * q + m, BitVec.ofNat 16 (fld v (16 * m) 10)) }

/-- Registers of the error-log block (R415, R469). -/
def setLog (o : Nat) (v : Word) (s : State) : State :=
  match o with
  | 0x08 => { s with log := { s.log with sel := v.setWidth 32 } }
  | 0x10 => { s with log := { s.log with lost := v.setWidth 32 } }
  | 0x18 => { s with log := { s.log with suppressed := v.setWidth 32 } }
  | 0x48 => { s with log := { s.log with selBmc := v.setWidth 32 } }
  | _ => s

/-- Registers that a requester may write: the board management controller only its own selector, and the
operator never that one (R457, R469). -/
def mayWrite (s : State) (who : Requester) (a : Nat) : Bool :=
  match who with
  | .operator => decide (s.mgmt.owned ≠ []) && s.mgmt.authenticated && decide (a ≠ 0x70048)
  | .bmc => decide (s.mgmt.owned ≠ []) && decide (a = 0x70048)

def mgmtWrite (a : Nat) (v : Word) (s : State) : State :=
  if a < 0x10000 then
    if isTwilightReg a && decide (s.dev = .daylight) then answer none 0x3F s else reply 0 [] (setDevice a v s)
  else if a < 0x20000 then setRegion (Fin.ofNat 256 ((a - 0x10000) / 128)) (a % 128) v s
  else if 0x50000 ≤ a ∧ a < 0x60000 then reply 0 [] (setRoutes ((a - 0x50000) / 8) v s)
  else if 0x70000 ≤ a ∧ a < 0x80000 then reply 0 [] (setLog (a - 0x70000) v s)
  else if 0x80000 ≤ a then reply 0 [] (setCounter a (v.setWidth 32) s)
  else reply 0 [] s

/-- `SET` (R457). -/
def execMgmtSet (who : Requester) (addr : BitVec 32) (v : BitVec 64) (s : State) : Host.Outcome State Fault Refusal :=
  .next (if !speaks s who then s
    else if (mgmtReg s addr.toNat).isNone || !mayWrite s who addr.toNat then reply 0x0B [] s
    else mgmtWrite addr.toNat v s)

/-! ### Telemetry (R468) -/

/-- The streams that hold staging. -/
def staged (s : State) : List StreamRun := s.engines.flatMap fun e => activeRuns e.2 ++ e.2.draining

/-- `HELD` and `ALLOCATED` of an E-die. A cancelled stream holds its allocation until its bursts have completed (R273). -/
def poolOf (s : State) (n : Nat) : Nat × Nat :=
  let here := fun p : Nat => decide (p / 16 = n)
  let held := (staged s).map fun r =>
    ((r.queue.filter fun e => here e.1).map fun e => e.2.length).sum
      + (if (portsOf s r.cmd).any here && decide (dKind r.cmd.desc = 1) then r.outq.length else 0)
  let taken := (staged s ++ s.engines.flatMap fun e => e.2.dying).map fun r => ((portsOf s r.cmd).filter here).length * dStage r.cmd.desc
  (held.sum, taken.sum)

/-- `TELEMETRY_SAMPLE` (R468). -/
def execTelemetrySample (t : Telemetry) (s : State) : Host.Outcome State Fault Refusal :=
  .next (if s.boot.step < 3 then s
    else senseTemps t.temps
      { s with telemetry := t, busySample := !s.flash.busy.isEmpty, poolSample := (List.range 16).map (poolOf s) })

end Sys2Proof.Machine
end

