-- ==== Sys2Proof/Machine/ScalarFp.lean ====
section
/-!
DEFINITION. Scalar floating point (R90, R104).
-/
namespace Sys2Proof.Machine
open Sys2Proof

/-! ### Shared operations -/

/-- A code and its exceptions to gD. -/
def fpG (h : Hart) (p : Fin 8) (d : Fin 32) (f : Thread → Nat × BitVec 5) (s : State) :
    Host.Outcome State Fault Refusal :=
  issue h p 4 (fun _ t => fpAct t {} (f t).2 [.g d (BitVec.ofNat 64 (f t).1)]) s

/-- A conversion between FP32 and FP64 (R104, R185). -/
def fpConv (src dst : FFmt) (rm : RM) (x : Nat) : Nat × BitVec 5 :=
  let v := fdecode src x
  withRound dst rm (v, if isSig v then fNV else 0)

/-- A conversion to a 64-bit integer; the result of a NaN or an out-of-range value is free (log 10). -/
def fpToInt (f : FpFmt) (uns : Bool) (rm : RM) (x : Word) : Nat × BitVec 5 :=
  let r := toInt rm (if uns then 0 else -(2 ^ 63)) (if uns then 2 ^ 64 - 1 else 2 ^ 63 - 1)
    (fdecode (scalarFmt f) (fpBits f x))
  match r.1 with
  | some i => (intCode 64 i, r.2)
  | none => ((Config.freeToInt (decide (f = .s)) uns x).toNat, r.2)

/-! ### Meanings -/

/-- `FADD` (R104). -/
def execFadd (h : Hart) (p : Fin 8) (f : FpFmt) (d : Fin 32) (a : Fin 32) (b : Fin 32) (s : State) : Host.Outcome State Fault Refusal :=
  fpG h p d (fun t => fpAdd (scalarFmt f) (rmOf t) (fpBits f (gReg t a)) (fpBits f (gReg t b))) s

/-- `FSUB` (R104). -/
def execFsub (h : Hart) (p : Fin 8) (f : FpFmt) (d : Fin 32) (a : Fin 32) (b : Fin 32) (s : State) : Host.Outcome State Fault Refusal :=
  fpG h p d (fun t => fpSub (scalarFmt f) (rmOf t) (fpBits f (gReg t a)) (fpBits f (gReg t b))) s

/-- `FMUL` (R104). -/
def execFmul (h : Hart) (p : Fin 8) (f : FpFmt) (d : Fin 32) (a : Fin 32) (b : Fin 32) (s : State) : Host.Outcome State Fault Refusal :=
  fpG h p d (fun t => fpMul (scalarFmt f) (rmOf t) (fpBits f (gReg t a)) (fpBits f (gReg t b))) s

/-- `FDIV` (R104). -/
def execFdiv (h : Hart) (p : Fin 8) (f : FpFmt) (d : Fin 32) (a : Fin 32) (b : Fin 32) (s : State) : Host.Outcome State Fault Refusal :=
  fpG h p d (fun t => fpDiv (scalarFmt f) (rmOf t) (fpBits f (gReg t a)) (fpBits f (gReg t b))) s

/-- `FMIN` (R104, R153). -/
def execFmin (h : Hart) (p : Fin 8) (f : FpFmt) (d : Fin 32) (a : Fin 32) (b : Fin 32) (s : State) : Host.Outcome State Fault Refusal :=
  fpG h p d (fun t => fpMinMax (scalarFmt f) false (fpBits f (gReg t a)) (fpBits f (gReg t b))) s

/-- `FMAX` (R104, R153). -/
def execFmax (h : Hart) (p : Fin 8) (f : FpFmt) (d : Fin 32) (a : Fin 32) (b : Fin 32) (s : State) : Host.Outcome State Fault Refusal :=
  fpG h p d (fun t => fpMinMax (scalarFmt f) true (fpBits f (gReg t a)) (fpBits f (gReg t b))) s

/-- `FSQRT` (R104). -/
def execFsqrt (h : Hart) (p : Fin 8) (f : FpFmt) (d : Fin 32) (a : Fin 32) (s : State) : Host.Outcome State Fault Refusal :=
  fpG h p d (fun t => fpSqrt (scalarFmt f) (rmOf t) (fpBits f (gReg t a))) s

/-- `FABS` (R102, R153). -/
def execFabs (h : Hart) (p : Fin 8) (f : FpFmt) (d : Fin 32) (a : Fin 32) (s : State) : Host.Outcome State Fault Refusal :=
  fpG h p d (fun t => (fpAbs (scalarFmt f) (fpBits f (gReg t a)), 0)) s

/-- `FNEG` (R102, R153). -/
def execFneg (h : Hart) (p : Fin 8) (f : FpFmt) (d : Fin 32) (a : Fin 32) (s : State) : Host.Outcome State Fault Refusal :=
  fpG h p d (fun t => (fpNeg (scalarFmt f) (fpBits f (gReg t a)), 0)) s

/-- `FCVT` (R102, R185). -/
def execFcvt (h : Hart) (p : Fin 8) (f : FpFmt) (d : Fin 32) (a : Fin 32) (s : State) : Host.Outcome State Fault Refusal :=
  fpG h p d (fun t => fpConv (scalarFmt f) (match f with | .d => fp32 | .s => fp64) (rmOf t) (fpBits f (gReg t a))) s

/-- `FCVTI` (R102, R104). -/
def execFcvti (h : Hart) (p : Fin 8) (f : FpFmt) (d : Fin 32) (a : Fin 32) (s : State) : Host.Outcome State Fault Refusal :=
  fpG h p d (fun t => fpToInt f false (rmOf t) (gReg t a)) s

/-- `FCVTU` (R102, R104). -/
def execFcvtu (h : Hart) (p : Fin 8) (f : FpFmt) (d : Fin 32) (a : Fin 32) (s : State) : Host.Outcome State Fault Refusal :=
  fpG h p d (fun t => fpToInt f true (rmOf t) (gReg t a)) s

/-- `ICVTF` (R102, R104). -/
def execIcvtf (h : Hart) (p : Fin 8) (f : FpFmt) (d : Fin 32) (a : Fin 32) (s : State) : Host.Outcome State Fault Refusal :=
  fpG h p d (fun t => fround (scalarFmt f) (rmOf t) (ofInt (gReg t a).toInt)) s

/-- `UCVTF` (R102, R104). -/
def execUcvtf (h : Hart) (p : Fin 8) (f : FpFmt) (d : Fin 32) (a : Fin 32) (s : State) : Host.Outcome State Fault Refusal :=
  fpG h p d (fun t => fround (scalarFmt f) (rmOf t) (ofInt (gReg t a).toNat)) s

/-- `FCLASS` (R102). -/
def execFclass (h : Hart) (p : Fin 8) (f : FpFmt) (d : Fin 32) (a : Fin 32) (s : State) : Host.Outcome State Fault Refusal :=
  fpG h p d (fun t => (2 ^ fpClass (scalarFmt f) (fpBits f (gReg t a)), 0)) s

/-- `FMA` (R104). -/
def execFma (h : Hart) (p : Fin 8) (f : FpFmt) (d : Fin 32) (a : Fin 32) (b : Fin 32) (s : State) : Host.Outcome State Fault Refusal :=
  fpG h p d (fun t => fpFma (scalarFmt f) (rmOf t) false (fpBits f (gReg t a)) (fpBits f (gReg t b)) (fpBits f (gReg t d))) s

/-- `FNMA` (R104). -/
def execFnma (h : Hart) (p : Fin 8) (f : FpFmt) (d : Fin 32) (a : Fin 32) (b : Fin 32) (s : State) : Host.Outcome State Fault Refusal :=
  fpG h p d (fun t => fpFma (scalarFmt f) (rmOf t) true (fpBits f (gReg t a)) (fpBits f (gReg t b)) (fpBits f (gReg t d))) s

/-- `FCMP` (R104). -/
def execFcmp (h : Hart) (p : Fin 8) (c : FcmpCond) (f : FpFmt) (d : Fin 8) (a : Fin 32) (b : Fin 32) (s : State) : Host.Outcome State Fault Refusal :=
  issue h p 4 (fun _ t =>
    let r := fpCmp (scalarFmt f) c (fpBits f (gReg t a)) (fpBits f (gReg t b))
    fpAct t {} r.2 [.p d r.1]) s

end Sys2Proof.Machine
end

