-- ==== Sys2Proof/Machine/Shore.lean ====
section
/-!
DEFINITION. Shore slots (R71): inbound flits of streams, data ports and links under R260 and R261, outbound
flits of write streams (R271, R272), link traffic (R376) and drops.
-/
namespace Sys2Proof.Machine
open Sys2Proof

/-! ### Streams at a shore port -/

/-- The runs of an engine whose flits may stand at a shore: those in progress and those that drain. -/
def runsOf (x : Engine) : List StreamRun := activeRuns x ++ x.draining

/-- The run of engine `e` that began with message `base`, changed by `f`; a drained run leaves. -/
def modRun (e : EngineId) (base : Nat) (f : StreamRun → StreamRun) (s : State) : State :=
  let g := fun r : StreamRun => if r.midBase = base then f r else r
  let x := engineOf s e
  setEngine s e { x with
    run := x.run.map g
    ahead := x.ahead.map g
    draining := (x.draining.map g).filter fun r => r.queue.any fun q => decide (q.2 ≠ []) }

/-- The next flit of a read stream for a port: the first of its positions there not yet sent. -/
def nextFlit (s : State) (r : StreamRun) (p : ShoreId) : Option Nat :=
  (List.range' (tget 0 r.cursor p.val) (allFlits r.bitmap r.cmd.desc - tget 0 r.cursor p.val)).find? fun i =>
    decide (flitShore s r.bitmap r.cmd i = p)

/-- That flit, where it stands in staging. -/
def stagedNext (s : State) (r : StreamRun) (p : ShoreId) : Option StagedFlit :=
  match nextFlit s r p with
  | some i => (queueAt r p.val).find? fun f => decide (f.position = i)
  | none => none

/-- Header of the write that holds flit `i` of a read stream (R257, R275, R283). -/
def streamHeader (s : State) (r : StreamRun) (w : StreamWrite) (poison : Bool) : Header :=
  let d := r.cmd.desc
  let held := dTail d || decide (dArrive d ≠ 0)
  let tail := held && w.final
  BitVec.ofNat 128 (s.deviceId.toNat + at_ (dCell d) 14 + at_ w.member 25 + at_ (regOf s r.cmd.region).gen.toNat 39
    + at_ (b2n tail) 55 + at_ (b2n poison) 57 + at_ (b2n held) 60
    + at_ (if tail then dArrive d else 0) 61 + at_ (if tail then w.seq % 4096 else 0) 64
    + at_ (if tail ∧ dArrive d ≠ 0 then dArriveIx d else 0) 76
    + at_ (w.laddr / 8) 86 + at_ ((w.len + 7) / 8) 103 + at_ (dXfer d) 111)

/-- A marked word stands among the flits of a write that are now in staging (R282, log 98). -/
def writeMarked (s : State) (r : StreamRun) (w : StreamWrite) : Bool :=
  (queueAt r (flitShore s r.bitmap r.cmd w.first).val).any fun f =>
    decide (w.first ≤ f.position ∧ 64 * (f.position - w.first) < w.len) && f.words.any fun x => x.poison

/-- The mesh flit of position `i` with the given words. -/
def streamFlit (s : State) (r : StreamRun) (i : Nat) (ws : List PWord) : Flit :=
  let d := r.cmd.desc
  let w := writeOf r.bitmap d i
  ⟨r.midBase + w.first, streamHeader s r w (ws.any (fun x => x.poison) || writeMarked s r w), sourceOf s r.cmd.hart, i - w.first,
    decide (w.len ≤ 64 * (i + 1 - w.first)), ws,
    if dGroupEn d && !r.committed then some (dGroup d) else none, some r.cmd.region, none, none⟩

/-- A flit enters the mesh at a shore port. -/
def enterMesh (p : ShoreId) (f : Flit) (s : State) : State :=
  let c := shoreCore p
  let i := if p.val < 128 then 1 else 3
  let rt := routerOf s c
  setRouter s c { rt with inputs := tset rt.inputs i (tget [] rt.inputs i ++ [f]) }

/-- A window whose slot of this cycle has passed. -/
def spentWindow (s : State) (w : SlotWindow) : SlotWindow := ⟨s.clock.dayNo, s.clock.cycle - 512 + 1, w.left - 1⟩

/-- One slot of a run's window at a port has passed. -/
def spendSlot (s : State) (p : ShoreId) (r : StreamRun) : StreamRun :=
  match tfind r.window p.val with
  | some w => { r with window := tset r.window p.val (spentWindow s w) }
  | none => r

/-- Position `i` has been sent at a port: its queue drains (R265), and the next burst may become ready (R267). -/
def sentAt (s : State) (p : ShoreId) (i : Nat) (r : StreamRun) : StreamRun :=
  readied s r (markPort s p.val (spendSlot s p { r with
    cursor := tset r.cursor p.val (i + 1)
    queue := tset r.queue p.val ((queueAt r p.val).filter fun f => decide (f.position ≠ i)) }))

/-- A staged flit leaves. -/
def sendStaged (p : ShoreId) (e : EngineId) (r : StreamRun) (f : StagedFlit) (s : State) : State :=
  enterMesh p (streamFlit s r f.position f.words) (modRun e r.midBase (sentAt s p f.position) s)

/-- The run of an engine that began with message `base` ends with `st` (R273). -/
def cancelRun (e : EngineId) (base : Nat) (st : BitVec 8) (s : State) : State :=
  match (activeRuns (engineOf s e)).findIdx? fun r => decide (r.midBase = base) with
  | some i => focused e i (cancelEngine e st) s
  | none => s

/-- An owned slot finds no flit (R261). -/
def lateSlot (p : ShoreId) (e : EngineId) (r : StreamRun) (s : State) : State :=
  let d := r.cmd.desc
  let s := count s (ctrRegion r.cmd.region.val 0) 1
  if dAbort d then
    let s := { s with deadSlots := r.window.foldl (fun t w =>
      let x := if w.1 = p.val then spentWindow s w.2 else w.2
      if x.left = 0 then t else tset t w.1 (tget [] t w.1 ++ [x])) s.deadSlots }
    streamE5 r.cmd.hart 0x0D (dXfer d) (cancelRun e r.midBase 0x0D s)
  else match nextFlit s r p with
    | none => modRun e r.midBase (spendSlot s p) s
    | some i =>
      let w := writeOf r.bitmap d i
      let n := min 8 ((w.len + 7) / 8 - 8 * (i - w.first))
      let mark := fun x : StreamRun => { sentAt s p i x with
        replaced := sins x.replaced i, status := worse x.status 0x0D, poisoned := x.poisoned + 1 }
      enterMesh p (streamFlit s r i (List.replicate n ⟨0, true⟩)) (modRun e r.midBase mark s)

/-! ### Who has a slot (R260) -/

/-- A window has begun and has slots left. -/
def windowLive (s : State) (off : Nat) (w : SlotWindow) : Bool :=
  decide (0 < w.left) && (decide (w.day < s.clock.dayNo) || (decide (w.day = s.clock.dayNo) && decide (w.offset ≤ off)))

/-- Every run, with its engine. -/
def allRuns (s : State) : List (EngineId × StreamRun) :=
  s.engines.flatMap fun e => (runsOf e.2).map fun r => (Fin.ofNat 256 e.1, r)

/-- The stream whose window holds the slot. -/
def slotOwner (s : State) (p : ShoreId) (dir : SlotDir) (off : Nat) : Option (EngineId × StreamRun) :=
  (allRuns s).find? fun x => decide (dirOf x.2.cmd.desc = dir) && match tfind x.2.window p.val with
    | some w => windowLive s off w
    | none => false

/-- The slot belongs to an aborted stream: it carries nothing and is spent. -/
def deadSlot (s : State) (p : ShoreId) (off : Nat) : Bool := (tget [] s.deadSlots p.val).any (windowLive s off)

def spendDead (s : State) (p : ShoreId) (off : Nat) : State :=
  let l := tget [] s.deadSlots p.val
  match l.findIdx? (windowLive s off) with
  | none => s
  | some i =>
    let rest := (updAt l i (spentWindow s)).filter fun w => decide (0 < w.left)
    { s with deadSlots := tset s.deadSlots p.val rest }

/-- What an unscheduled slot may carry beside TC0 messages: a flit of an unscheduled stream, or the oldest message
flit that waits at the port, by the age of its stream or message. -/
inductive Offer
  | stream (e : EngineId) (r : StreamRun) (f : StagedFlit)
  | message (f : Flit)
  deriving DecidableEq, Repr

def Offer.age : Offer → Nat
  | .stream _ r _ => r.midBase
  | .message f => f.mid

def offers (s : State) (p : ShoreId) : List Offer :=
  ((allRuns s).filterMap fun x =>
    if dKind x.2.cmd.desc ≠ 0 ∨ (tfind x.2.window p.val).isSome then none
    else (stagedNext s x.2 p).map fun f => Offer.stream x.1 x.2 f)
  ++ ((tget [] s.shoreIn p.val).head?.toList.map Offer.message)

/-- The oldest offer. -/
def oldest : List Offer → Option Offer
  | [] => none
  | o :: t => some (t.foldl (fun b x => if x.age < b.age then x else b) o)

/-- A slot that no stream owns: flits of TC0 messages from a link come first, since schedules own slots for them
(R379, log 99). -/
def sendOffer (p : ShoreId) (s : State) : State :=
  match tget [] s.shoreTc0 p.val with
  | f :: rest => enterMesh p f { s with shoreTc0 := tset s.shoreTc0 p.val rest }
  | [] => match oldest (offers s p) with
    | none => s
    | some (.stream e r f) => sendStaged p e r f s
    | some (.message f) => enterMesh p f { s with shoreIn := tset s.shoreIn p.val ((tget [] s.shoreIn p.val).drop 1) }

/-! ### Replayed messages (R369) -/

/-- A TC0 message for this shore port that a link port is receiving, and whose next flits the peer is to send again. -/
def replayedAt (s : State) (p : ShoreId) (k : PortId) : Bool :=
  let q := portAt s k
  match tget [] q.rxOpen 0 with
  | [] => false
  | h :: _ =>
    let hd := bodyHeader h.body
    let (core, r) := messageFor s k hd
    let dom := match r with | some r => (regOf s r).domain | none => 0
    q.gap && decide (hDevice hd = s.deviceId.toNat) && cellNamed (replicaEntry s (32 + portDie k) (hCell hd)) (hMember hd)
      && decide (r.isNone ∨ (dom ≠ 0 ∧ dom = bodyDomain h.body)) && decide (shoreOf s core = p)
      && (match q.missed with | some (_, n) => decide (n < flitCount (hLen hd)) | none => true)

/-- Its slot has come before its data: a poisoned flit goes in the place of its next one (R261, R369; log 201). -/
def lateMessage (p : ShoreId) (k : PortId) (s : State) : State :=
  let q := portAt s k
  match tget [] q.rxOpen 0 with
  | [] => s
  | h :: _ =>
    let hd := bodyHeader h.body
    let (mid, i) := q.missed.getD (s.nextMid, 0)
    let s := match (messageFor s k hd).2 with | some r => count s (ctrRegion r.val 0) 1 | none => s
    let s := setPortL { s with nextMid := s.nextMid + (if q.missed.isNone then 1 else 0) } k { q with missed := some (mid, i + 1) }
    enterMesh p ⟨mid, hd ||| BitVec.ofNat 128 (at_ 1 57), bodySource h.body, i, decide (i + 1 = flitCount (hLen hd)),
      List.replicate (min 8 (hLen8 hd - 8 * i)) ⟨0, true⟩, none, none, none, none⟩ s

/-! ### Inbound -/

/-- An inbound slot of Noon in Daylight. -/
def inboundSlot (p : ShoreId) (off : Nat) (s : State) : State :=
  match slotOwner s p .inbound off with
  | some (e, r) => match stagedNext s r p with
    | some f => sendStaged p e r f s
    | none => lateSlot p e r s
  | none =>
    if deadSlot s p off then spendDead s p off
    else match (List.range 16).find? fun k => decide (tget [] s.shoreTc0 p.val = []) && replayedAt s p (Fin.ofNat 16 k) with
      | some k => lateMessage p (Fin.ofNat 16 k) s
      | none => sendOffer p s

/-- The shore in Twilight: a flit whenever the router's input has room (R80, R260). -/
def inboundTwilight (p : ShoreId) (s : State) : State :=
  if (tget [] (routerOf s (shoreCore p)).inputs (if p.val < 128 then 1 else 3)).length < 4 then sendOffer p s else s

/-! ### Outbound -/

/-- A write stream's flit at its E-die (R271, R272). -/
def outboundFlit (p : ShoreId) (e : EngineId) (f : Flit) (s : State) : State :=
  match runOf s e with
  | none => s
  | some r =>
    let d := r.cmd.desc
    if dKind d ≠ 1 ∨ f.mid < r.midBase then s
    else
      let s := modRun e r.midBase (spendSlot s p) s
      if r.overflowed then s
      else if r.outq.length < dStage d then
        modRun e r.midBase (fun x =>
          let y := { x with outq := x.outq ++ [⟨f.index, f.words⟩] }
          if (nextWrite x).isNone && (nextWrite y).isSome then { y with ready := s.clock.now } else y) s
      else
        let s := count s (ctrRegion r.cmd.region.val 4) 1
        let s := modRun e r.midBase (fun x => { x with overflowed := true, status := 0x26 }) s
        logEdie (edieOf p) 0 (some r.cmd.region) 0x26 (BitVec.ofNat 64 (dXfer d)) s

/-- The E-die takes the oldest flit that the shore router has sent out (R71, R271, R376). -/
def outboundSlot (p : ShoreId) (s : State) : State :=
  match tget [] s.shoreOut p.val with
  | [] => s
  | f :: rest =>
    let s := { s with shoreOut := tset s.shoreOut p.val rest }
    match f.outbound with
    | some e => outboundFlit p e f s
    | none =>
      if hDevice f.header ≠ s.deviceId.toNat then linkOutFlit (edieOf p) f s
      else if f.index = 0 then count s (ctrEdie (edieOf p) 12) 1
      else s

/-- `SHORE_SLOT` (R71): the cycle D+`cycle` at a shore port. -/
def execShoreSlot (port : ShoreId) (dir : SlotDir) (cycle : BitVec 24) (s : State) : Host.Outcome State Fault Refusal :=
  let n := cycle.toNat
  let s := toCycle n s
  .next (match dir with
    | .outbound => outboundSlot port s
    | .inbound =>
      if s.clock.phase ≠ .noon ∨ n < 512 then s
      else match s.dev with
        | .daylight => if isSlot s port .inbound (n - 512) then inboundSlot port (n - 512) s else s
        | .twilight => inboundTwilight port s
        | .midnight => s)

end Sys2Proof.Machine
end

