-- ==== Sys2Proof/Machine/Dispatch.lean ====
section
/-!
DEFINITION. The arms of exec: one direct call of a meaning for each command.
-/
namespace Sys2Proof.Machine
open Sys2Proof

/-- The effect of a command on everything but the queue of waiting commands. -/
def exec (i : Instr) (s : State) : Host.Outcome State Fault Refusal :=
  match i with
  | .add h p d a b => Sys2Proof.Machine.execAdd h p d a b s
  | .sub h p d a b => Sys2Proof.Machine.execSub h p d a b s
  | .and h p d a b => Sys2Proof.Machine.execAnd h p d a b s
  | .or h p d a b => Sys2Proof.Machine.execOr h p d a b s
  | .xor h p d a b => Sys2Proof.Machine.execXor h p d a b s
  | .andn h p d a b => Sys2Proof.Machine.execAndn h p d a b s
  | .shl h p d a b => Sys2Proof.Machine.execShl h p d a b s
  | .shr h p d a b => Sys2Proof.Machine.execShr h p d a b s
  | .sar h p d a b => Sys2Proof.Machine.execSar h p d a b s
  | .ror h p d a b => Sys2Proof.Machine.execRor h p d a b s
  | .mul h p d a b => Sys2Proof.Machine.execMul h p d a b s
  | .mulh h p d a b => Sys2Proof.Machine.execMulh h p d a b s
  | .mulhu h p d a b => Sys2Proof.Machine.execMulhu h p d a b s
  | .div h p d a b => Sys2Proof.Machine.execDiv h p d a b s
  | .divu h p d a b => Sys2Proof.Machine.execDivu h p d a b s
  | .rem h p d a b => Sys2Proof.Machine.execRem h p d a b s
  | .remu h p d a b => Sys2Proof.Machine.execRemu h p d a b s
  | .min h p d a b => Sys2Proof.Machine.execMin h p d a b s
  | .max h p d a b => Sys2Proof.Machine.execMax h p d a b s
  | .minu h p d a b => Sys2Proof.Machine.execMinu h p d a b s
  | .maxu h p d a b => Sys2Proof.Machine.execMaxu h p d a b s
  | .clz h p d a => Sys2Proof.Machine.execClz h p d a s
  | .ctz h p d a => Sys2Proof.Machine.execCtz h p d a s
  | .popc h p d a => Sys2Proof.Machine.execPopc h p d a s
  | .sextb h p d a => Sys2Proof.Machine.execSextb h p d a s
  | .sexth h p d a => Sys2Proof.Machine.execSexth h p d a s
  | .sextw h p d a => Sys2Proof.Machine.execSextw h p d a s
  | .zextw h p d a => Sys2Proof.Machine.execZextw h p d a s
  | .addi h p d a imm => Sys2Proof.Machine.execAddi h p d a imm s
  | .andi h p d a imm => Sys2Proof.Machine.execAndi h p d a imm s
  | .ori h p d a imm => Sys2Proof.Machine.execOri h p d a imm s
  | .xori h p d a imm => Sys2Proof.Machine.execXori h p d a imm s
  | .shli h p d a n => Sys2Proof.Machine.execShli h p d a n s
  | .shri h p d a n => Sys2Proof.Machine.execShri h p d a n s
  | .sari h p d a n => Sys2Proof.Machine.execSari h p d a n s
  | .rori h p d a n => Sys2Proof.Machine.execRori h p d a n s
  | .movi h p d imm => Sys2Proof.Machine.execMovi h p d imm s
  | .movsh h p d imm => Sys2Proof.Machine.execMovsh h p d imm s
  | .cmp h p c d a b => Sys2Proof.Machine.execCmp h p c d a b s
  | .cmpi h p c d a imm => Sys2Proof.Machine.execCmpi h p c d a imm s
  | .pand h p d a b => Sys2Proof.Machine.execPand h p d a b s
  | .por h p d a b => Sys2Proof.Machine.execPor h p d a b s
  | .pxor h p d a b => Sys2Proof.Machine.execPxor h p d a b s
  | .pandn h p d a b => Sys2Proof.Machine.execPandn h p d a b s
  | .pnot h p d a => Sys2Proof.Machine.execPnot h p d a s
  | .pmov h p d a => Sys2Proof.Machine.execPmov h p d a s
  | .fadd h p f d a b => Sys2Proof.Machine.execFadd h p f d a b s
  | .fsub h p f d a b => Sys2Proof.Machine.execFsub h p f d a b s
  | .fmul h p f d a b => Sys2Proof.Machine.execFmul h p f d a b s
  | .fdiv h p f d a b => Sys2Proof.Machine.execFdiv h p f d a b s
  | .fmin h p f d a b => Sys2Proof.Machine.execFmin h p f d a b s
  | .fmax h p f d a b => Sys2Proof.Machine.execFmax h p f d a b s
  | .fsqrt h p f d a => Sys2Proof.Machine.execFsqrt h p f d a s
  | .fabs h p f d a => Sys2Proof.Machine.execFabs h p f d a s
  | .fneg h p f d a => Sys2Proof.Machine.execFneg h p f d a s
  | .fcvt h p f d a => Sys2Proof.Machine.execFcvt h p f d a s
  | .fcvti h p f d a => Sys2Proof.Machine.execFcvti h p f d a s
  | .fcvtu h p f d a => Sys2Proof.Machine.execFcvtu h p f d a s
  | .icvtf h p f d a => Sys2Proof.Machine.execIcvtf h p f d a s
  | .ucvtf h p f d a => Sys2Proof.Machine.execUcvtf h p f d a s
  | .fclass h p f d a => Sys2Proof.Machine.execFclass h p f d a s
  | .fma h p f d a b => Sys2Proof.Machine.execFma h p f d a b s
  | .fnma h p f d a b => Sys2Proof.Machine.execFnma h p f d a b s
  | .fcmp h p c f d a b => Sys2Proof.Machine.execFcmp h p c f d a b s
  | .br h p disp => Sys2Proof.Machine.execBr h p disp s
  | .call h p disp => Sys2Proof.Machine.execCall h p disp s
  | .jmp h p a => Sys2Proof.Machine.execJmp h p a s
  | .jmpl h p d a => Sys2Proof.Machine.execJmpl h p d a s
  | .ldb h p d a imm => Sys2Proof.Machine.execLdb h p d a imm s
  | .ldbu h p d a imm => Sys2Proof.Machine.execLdbu h p d a imm s
  | .ldh h p d a imm => Sys2Proof.Machine.execLdh h p d a imm s
  | .ldhu h p d a imm => Sys2Proof.Machine.execLdhu h p d a imm s
  | .ldw h p d a imm => Sys2Proof.Machine.execLdw h p d a imm s
  | .ldwu h p d a imm => Sys2Proof.Machine.execLdwu h p d a imm s
  | .ldd h p d a imm => Sys2Proof.Machine.execLdd h p d a imm s
  | .stb h p d a imm => Sys2Proof.Machine.execStb h p d a imm s
  | .sth h p d a imm => Sys2Proof.Machine.execSth h p d a imm s
  | .stw h p d a imm => Sys2Proof.Machine.execStw h p d a imm s
  | .std h p d a imm => Sys2Proof.Machine.execStd h p d a imm s
  | .vld h p d a imm => Sys2Proof.Machine.execVld h p d a imm s
  | .vst h p d a imm => Sys2Proof.Machine.execVst h p d a imm s
  | .portIn h p d port => Sys2Proof.Machine.execPortIn h p d port s
  | .portOut h p d port => Sys2Proof.Machine.execPortOut h p d port s
  | .inr h p d a => Sys2Proof.Machine.execInr h p d a s
  | .outr h p d a => Sys2Proof.Machine.execOutr h p d a s
  | .smove h p sz d a b => Sys2Proof.Machine.execSmove h p sz d a b s
  | .sfill h p sz d a b => Sys2Proof.Machine.execSfill h p sz d a b s
  | .scmp h p sz d a b => Sys2Proof.Machine.execScmp h p sz d a b s
  | .sscan h p sz d a b => Sys2Proof.Machine.execSscan h p sz d a b s
  | .sscann h p sz d a b => Sys2Proof.Machine.execSscann h p sz d a b s
  | .cload h p d a b => Sys2Proof.Machine.execCload h p d a b s
  | .cread h p d a b => Sys2Proof.Machine.execCread h p d a b s
  | .send h p q a b => Sys2Proof.Machine.execSend h p q a b s
  | .nop h p => Sys2Proof.Machine.execNop h p s
  | .fence h p scope => Sys2Proof.Machine.execFence h p scope s
  | .trap h p n => Sys2Proof.Machine.execTrap h p n s
  | .rett h => Sys2Proof.Machine.execRett h s
  | .hold h n => Sys2Proof.Machine.execHold h n s
  | .reservedEncoding h w => Sys2Proof.Machine.execReservedEncoding h w s
  | .mov16 h d r => Sys2Proof.Machine.execMov16 h d r s
  | .add16 h d r => Sys2Proof.Machine.execAdd16 h d r s
  | .sub16 h d r => Sys2Proof.Machine.execSub16 h d r s
  | .and16 h d r => Sys2Proof.Machine.execAnd16 h d r s
  | .or16 h d r => Sys2Proof.Machine.execOr16 h d r s
  | .xor16 h d r => Sys2Proof.Machine.execXor16 h d r s
  | .shl16 h d r => Sys2Proof.Machine.execShl16 h d r s
  | .shr16 h d r => Sys2Proof.Machine.execShr16 h d r s
  | .addi16 h d imm => Sys2Proof.Machine.execAddi16 h d imm s
  | .movi16 h d imm => Sys2Proof.Machine.execMovi16 h d imm s
  | .shli16 h d n => Sys2Proof.Machine.execShli16 h d n s
  | .shri16 h d n => Sys2Proof.Machine.execShri16 h d n s
  | .sari16 h d n => Sys2Proof.Machine.execSari16 h d n s
  | .ldd16 h d b off => Sys2Proof.Machine.execLdd16 h d b off s
  | .std16 h d b off => Sys2Proof.Machine.execStd16 h d b off s
  | .ldw16 h d b off => Sys2Proof.Machine.execLdw16 h d b off s
  | .stw16 h d b off => Sys2Proof.Machine.execStw16 h d b off s
  | .bz16 h r disp => Sys2Proof.Machine.execBz16 h r disp s
  | .bnz16 h r disp => Sys2Proof.Machine.execBnz16 h r disp s
  | .bltz16 h r disp => Sys2Proof.Machine.execBltz16 h r disp s
  | .bgez16 h r disp => Sys2Proof.Machine.execBgez16 h r disp s
  | .br16 h disp => Sys2Proof.Machine.execBr16 h disp s
  | .in16 h d port => Sys2Proof.Machine.execIn16 h d port s
  | .out16 h d port => Sys2Proof.Machine.execOut16 h d port s
  | .nop16 h => Sys2Proof.Machine.execNop16 h s
  | .ret16 h => Sys2Proof.Machine.execRet16 h s
  | .trap16 h n => Sys2Proof.Machine.execTrap16 h n s
  | .vmov h p m d a => Sys2Proof.Machine.execVmov h p m d a s
  | .vbcast h p m w d a => Sys2Proof.Machine.execVbcast h p m w d a s
  | .vext h p d a n => Sys2Proof.Machine.execVext h p d a n s
  | .vins h p d a n => Sys2Proof.Machine.execVins h p d a n s
  | .vrotb h p m d a b => Sys2Proof.Machine.execVrotb h p m d a b s
  | .vsel h p m d a b => Sys2Proof.Machine.execVsel h p m d a b s
  | .vtot h p d a r => Sys2Proof.Machine.execVtot h p d a r s
  | .vfromt h p d a r bad => Sys2Proof.Machine.execVfromt h p d a r bad s
  | .mlog h p op d a b => Sys2Proof.Machine.execMlog h p op d a b s
  | .mfromg h p d a => Sys2Proof.Machine.execMfromg h p d a s
  | .mtog h p d a => Sys2Proof.Machine.execMtog h p d a s
  | .tinfo h p d sel => Sys2Proof.Machine.execTinfo h p d sel s
  | .vtz h p m d a => Sys2Proof.Machine.execVtz h p m d a s
  | .vzbm h p d a k => Sys2Proof.Machine.execVzbm h p d a k s
  | .vadd h p w m d a b => Sys2Proof.Machine.execVadd h p w m d a b s
  | .vsub h p w m d a b => Sys2Proof.Machine.execVsub h p w m d a b s
  | .vmul h p w m d a b => Sys2Proof.Machine.execVmul h p w m d a b s
  | .vmin h p w m d a b => Sys2Proof.Machine.execVmin h p w m d a b s
  | .vmax h p w m d a b => Sys2Proof.Machine.execVmax h p w m d a b s
  | .vminu h p w m d a b => Sys2Proof.Machine.execVminu h p w m d a b s
  | .vmaxu h p w m d a b => Sys2Proof.Machine.execVmaxu h p w m d a b s
  | .vand h p w m d a b => Sys2Proof.Machine.execVand h p w m d a b s
  | .vor h p w m d a b => Sys2Proof.Machine.execVor h p w m d a b s
  | .vxor h p w m d a b => Sys2Proof.Machine.execVxor h p w m d a b s
  | .vshl h p w m d a b => Sys2Proof.Machine.execVshl h p w m d a b s
  | .vshr h p w m d a b => Sys2Proof.Machine.execVshr h p w m d a b s
  | .vsar h p w m d a b => Sys2Proof.Machine.execVsar h p w m d a b s
  | .vcmpeq h p w m d a b => Sys2Proof.Machine.execVcmpeq h p w m d a b s
  | .vcmplt h p w m d a b => Sys2Proof.Machine.execVcmplt h p w m d a b s
  | .vcmpltu h p w m d a b => Sys2Proof.Machine.execVcmpltu h p w m d a b s
  | .vfadd h p f m d a b => Sys2Proof.Machine.execVfadd h p f m d a b s
  | .vfsub h p f m d a b => Sys2Proof.Machine.execVfsub h p f m d a b s
  | .vfmul h p f m d a b => Sys2Proof.Machine.execVfmul h p f m d a b s
  | .vfdiv h p f m d a b => Sys2Proof.Machine.execVfdiv h p f m d a b s
  | .vfsqrt h p f m d a => Sys2Proof.Machine.execVfsqrt h p f m d a s
  | .vfma h p f m d a b => Sys2Proof.Machine.execVfma h p f m d a b s
  | .vfnma h p f m d a b => Sys2Proof.Machine.execVfnma h p f m d a b s
  | .vfmin h p f m d a b => Sys2Proof.Machine.execVfmin h p f m d a b s
  | .vfmax h p f m d a b => Sys2Proof.Machine.execVfmax h p f m d a b s
  | .vfabs h p f m d a => Sys2Proof.Machine.execVfabs h p f m d a s
  | .vfneg h p f m d a => Sys2Proof.Machine.execVfneg h p f m d a s
  | .vfcmpeq h p f m d a b => Sys2Proof.Machine.execVfcmpeq h p f m d a b s
  | .vfcmplt h p f m d a b => Sys2Proof.Machine.execVfcmplt h p f m d a b s
  | .vfcmple h p f m d a b => Sys2Proof.Machine.execVfcmple h p f m d a b s
  | .vfcmpun h p f m d a b => Sys2Proof.Machine.execVfcmpun h p f m d a b s
  | .vcvts h p f m d a => Sys2Proof.Machine.execVcvts h p f m d a s
  | .vcvtf h p f sr m d a => Sys2Proof.Machine.execVcvtf h p f sr m d a s
  | .vcvtis h p m d a => Sys2Proof.Machine.execVcvtis h p m d a s
  | .vcvtsi h p m d a => Sys2Proof.Machine.execVcvtsi h p m d a s
  | .vcvtld h p m d a => Sys2Proof.Machine.execVcvtld h p m d a s
  | .vcvtdl h p m d a => Sys2Proof.Machine.execVcvtdl h p m d a s
  | .vunpkt2 h p m d a => Sys2Proof.Machine.execVunpkt2 h p m d a s
  | .vpackt2 h p m d a => Sys2Proof.Machine.execVpackt2 h p m d a s
  | .tcfg h p a mask => Sys2Proof.Machine.execTcfg h p a mask s
  | .tld h p d a b => Sys2Proof.Machine.execTld h p d a b s
  | .tst h p d a b bad => Sys2Proof.Machine.execTst h p d a b bad s
  | .trel h p mask => Sys2Proof.Machine.execTrel h p mask s
  | .mma h p acc sp tm tb ta ad bad => Sys2Proof.Machine.execMma h p acc sp tm tb ta ad bad s
  | .mmaStart core => Sys2Proof.Machine.execMmaStart core s
  | .mmaComplete core => Sys2Proof.Machine.execMmaComplete core s
  | .acvt h p wide half row b dv aa d => Sys2Proof.Machine.execAcvt h p wide half row b dv aa d s
  | .acvtComplete h => Sys2Proof.Machine.execAcvtComplete h s
  | .azero h p d => Sys2Proof.Machine.execAzero h p d s
  | .ald h p d a => Sys2Proof.Machine.execAld h p d a s
  | .ast h p d a => Sys2Proof.Machine.execAst h p d a s
  | .storeBufferRetire core => Sys2Proof.Machine.execStoreBufferRetire core s
  | .handlerEntry h => Sys2Proof.Machine.execHandlerEntry h s
  | .eventTaken h => Sys2Proof.Machine.execEventTaken h s
  | .holdExpiry h => Sys2Proof.Machine.execHoldExpiry h s
  | .timerExpiry h => Sys2Proof.Machine.execTimerExpiry h s
  | .waitComplete h => Sys2Proof.Machine.execWaitComplete h s
  | .evWait h p d => Sys2Proof.Machine.execEvWait h p d s
  | .noticeLo h p d => Sys2Proof.Machine.execNoticeLo h p d s
  | .noticeHi h p d => Sys2Proof.Machine.execNoticeHi h p d s
  | .monNoticeLo h p d => Sys2Proof.Machine.execMonNoticeLo h p d s
  | .monNoticeHi h p d => Sys2Proof.Machine.execMonNoticeHi h p d s
  | .noticeMark h p => Sys2Proof.Machine.execNoticeMark h p s
  | .noticeRewind h p => Sys2Proof.Machine.execNoticeRewind h p s
  | .noticeRelease h p => Sys2Proof.Machine.execNoticeRelease h p s
  | .timerSet h p d => Sys2Proof.Machine.execTimerSet h p d s
  | .srSeed h p d => Sys2Proof.Machine.execSrSeed h p d s
  | .errCauseRead h p d => Sys2Proof.Machine.execErrCauseRead h p d s
  | .ctrTarget h p d => Sys2Proof.Machine.execCtrTarget h p d s
  | .dayDone h p d => Sys2Proof.Machine.execDayDone h p d s
  | .moverSubmit h p d => Sys2Proof.Machine.execMoverSubmit h p d s
  | .moverDone h p d => Sys2Proof.Machine.execMoverDone h p d s
  | .streamSubmit h p d => Sys2Proof.Machine.execStreamSubmit h p d s
  | .streamDone h p d => Sys2Proof.Machine.execStreamDone h p d s
  | .streamCancel h p d => Sys2Proof.Machine.execStreamCancel h p d s
  | .flagSet h p n => Sys2Proof.Machine.execFlagSet h p n s
  | .flagClear h p n => Sys2Proof.Machine.execFlagClear h p n s
  | .ctrAdd h p d n => Sys2Proof.Machine.execCtrAdd h p d n s
  | .flagCounterRead h p d which n => Sys2Proof.Machine.execFlagCounterRead h p d which n s
  | .flagWait h p d n => Sys2Proof.Machine.execFlagWait h p d n s
  | .ctrWait h p d n => Sys2Proof.Machine.execCtrWait h p d n s
  | .cellCreate req => Sys2Proof.Machine.execCellCreate req s
  | .cellDelete req => Sys2Proof.Machine.execCellDelete req s
  | .cellStatus h p d => Sys2Proof.Machine.execCellStatus h p d s
  | .routeLoad req => Sys2Proof.Machine.execRouteLoad req s
  | .routeLoadDone q => Sys2Proof.Machine.execRouteLoadDone q s
  | .regionResume h p d => Sys2Proof.Machine.execRegionResume h p d s
  | .hostNotification h p d => Sys2Proof.Machine.execHostNotification h p d s
  | .launchCompletion h p d => Sys2Proof.Machine.execLaunchCompletion h p d s
  | .registerWrite target => Sys2Proof.Machine.execRegisterWrite target s
  | .daybreak => Sys2Proof.Machine.execDaybreak s
  | .dawnControlWords => Sys2Proof.Machine.execDawnControlWords s
  | .variantLatch => Sys2Proof.Machine.execVariantLatch s
  | .shadowAccumulatorResolve h n => Sys2Proof.Machine.execShadowAccumulatorResolve h n s
  | .deferredFaultEntry h => Sys2Proof.Machine.execDeferredFaultEntry h s
  | .dawnFlagClear die => Sys2Proof.Machine.execDawnFlagClear die s
  | .launchStart => Sys2Proof.Machine.execLaunchStart s
  | .dawnEvent => Sys2Proof.Machine.execDawnEvent s
  | .noonStart => Sys2Proof.Machine.execNoonStart s
  | .duskStart => Sys2Proof.Machine.execDuskStart s
  | .dayOverrun core => Sys2Proof.Machine.execDayOverrun core s
  | .flitAtRouter core inPort cycle ecc => Sys2Proof.Machine.execFlitAtRouter core inPort cycle ecc s
  | .messageLanding core => Sys2Proof.Machine.execMessageLanding core s
  | .landingFlit core => Sys2Proof.Machine.execLandingFlit core s
  | .landingComplete core => Sys2Proof.Machine.execLandingComplete core s
  | .tailWriteRelease core n => Sys2Proof.Machine.execTailWriteRelease core n s
  | .tailHoldExpiry core n => Sys2Proof.Machine.execTailHoldExpiry core n s
  | .flagBankUpdate die picks => Sys2Proof.Machine.execFlagBankUpdate die picks s
  | .queuePointerMismatch q => Sys2Proof.Machine.execQueuePointerMismatch q s
  | .moverTransferStart core => Sys2Proof.Machine.execMoverTransferStart core s
  | .moverCompletion core => Sys2Proof.Machine.execMoverCompletion core s
  | .streamDescriptorStart q => Sys2Proof.Machine.execStreamDescriptorStart q s
  | .dependenceMarkerRelease e => Sys2Proof.Machine.execDependenceMarkerRelease e s
  | .burstIssue e => Sys2Proof.Machine.execBurstIssue e s
  | .burstComplete e n corrected bad => Sys2Proof.Machine.execBurstComplete e n corrected bad s
  | .decryptBlockCheck q => Sys2Proof.Machine.execDecryptBlockCheck q s
  | .shoreSlot port dir cycle => Sys2Proof.Machine.execShoreSlot port dir cycle s
  | .streamComplete e => Sys2Proof.Machine.execStreamComplete e s
  | .streamArrivalSignal e => Sys2Proof.Machine.execStreamArrivalSignal e s
  | .hbmPatrol stack sector ecc => Sys2Proof.Machine.execHbmPatrol stack sector ecc s
  | .localScrub store entry word ecc => Sys2Proof.Machine.execLocalScrub store entry word ecc s
  | .tableUncorrectable t => Sys2Proof.Machine.execTableUncorrectable t s
  | .spillCacheMissFill link region line data => Sys2Proof.Machine.execSpillCacheMissFill link region line data s
  | .spillWayDisable link way unreadable => Sys2Proof.Machine.execSpillWayDisable link way unreadable s
  | .tailPoll fn tails heads => Sys2Proof.Machine.execTailPoll fn tails heads s
  | .descriptorFetch fn ring descs => Sys2Proof.Machine.execDescriptorFetch fn ring descs s
  | .nopDescriptor fn ring => Sys2Proof.Machine.execNopDescriptor fn ring s
  | .launch fn ring => Sys2Proof.Machine.execLaunch fn ring s
  | .notify fn ring => Sys2Proof.Machine.execNotify fn ring s
  | .portOpen fn ring => Sys2Proof.Machine.execPortOpen fn ring s
  | .portClose fn ring => Sys2Proof.Machine.execPortClose fn ring s
  | .query fn ring => Sys2Proof.Machine.execQuery fn ring s
  | .completionEntryWrite fn cq => Sys2Proof.Machine.execCompletionEntryWrite fn cq s
  | .interruptMessage fn cq => Sys2Proof.Machine.execInterruptMessage fn cq s
  | .pushWrite fn offset data allEnabled read => Sys2Proof.Machine.execPushWrite fn offset data allEnabled read s
  | .portBurstDone fn port n data read => Sys2Proof.Machine.execPortBurstDone fn port n data read s
  | .portClosed fn port => Sys2Proof.Machine.execPortClosed fn port s
  | .notifyWrite fn v => Sys2Proof.Machine.execNotifyWrite fn v s
  | .setupLock fn v => Sys2Proof.Machine.execSetupLock fn v s
  | .ringEnable fn ring v => Sys2Proof.Machine.execRingEnable fn ring v s
  | .functionLevelReset fn => Sys2Proof.Machine.execFunctionLevelReset fn s
  | .perst link => Sys2Proof.Machine.execPerst link s
  | .translationCompletion fn page ans => Sys2Proof.Machine.execTranslationCompletion fn page ans s
  | .pageRequestResponse fn page ans => Sys2Proof.Machine.execPageRequestResponse fn page ans s
  | .atsInvalidation fn page count => Sys2Proof.Machine.execAtsInvalidation fn page count s
  | .completionTimeout t => Sys2Proof.Machine.execCompletionTimeout t s
  | .laserInputLoss port => Sys2Proof.Machine.execLaserInputLoss port s
  | .handshake port body arrival => Sys2Proof.Machine.execHandshake port body arrival s
  | .linkDown port why => Sys2Proof.Machine.execLinkDown port why s
  | .retrainTimeout port => Sys2Proof.Machine.execRetrainTimeout port s
  | .linkFlitSend port cycle => Sys2Proof.Machine.execLinkFlitSend port cycle s
  | .linkFlitReceived port ctrl body => Sys2Proof.Machine.execLinkFlitReceived port ctrl body s
  | .controlFlit port body arrival => Sys2Proof.Machine.execControlFlit port body arrival s
  | .controlFlitDue port => Sys2Proof.Machine.execControlFlitDue port s
  | .nakResend port => Sys2Proof.Machine.execNakResend port s
  | .daybreakMarker port day ofs arrival => Sys2Proof.Machine.execDaybreakMarker port day ofs arrival s
  | .daybreakInEdge arrival => Sys2Proof.Machine.execDaybreakInEdge arrival s
  | .linkWindowOpen port n => Sys2Proof.Machine.execLinkWindowOpen port n s
  | .linkWindowLoad port piece => Sys2Proof.Machine.execLinkWindowLoad port piece s
  | .createRegion req => Sys2Proof.Machine.execCreateRegion req s
  | .deleteRegion r => Sys2Proof.Machine.execDeleteRegion r s
  | .switchContext r image => Sys2Proof.Machine.execSwitchContext r image s
  | .bootImageLoad q => Sys2Proof.Machine.execBootImageLoad q s
  | .bulkWindowZeroFill base size => Sys2Proof.Machine.execBulkWindowZeroFill base size s
  | .coreZeroingComplete r => Sys2Proof.Machine.execCoreZeroingComplete r s
  | .takeOwnership certs => Sys2Proof.Machine.execTakeOwnership certs s
  | .releaseOwnership => Sys2Proof.Machine.execReleaseOwnership s
  | .firmwareUpdate img => Sys2Proof.Machine.execFirmwareUpdate img s
  | .firmwareRollback slot => Sys2Proof.Machine.execFirmwareRollback slot s
  | .clearKeys r => Sys2Proof.Machine.execClearKeys r s
  | .clearSpareMap => Sys2Proof.Machine.execClearSpareMap s
  | .reinstate who passed => Sys2Proof.Machine.execReinstate who passed s
  | .debugOpen r => Sys2Proof.Machine.execDebugOpen r s
  | .debugClose => Sys2Proof.Machine.execDebugClose s
  | .debugCommand q => Sys2Proof.Machine.execDebugCommand q s
  | .breakpointMatch h => Sys2Proof.Machine.execBreakpointMatch h s
  | .jtagDebugSession => Sys2Proof.Machine.execJtagDebugSession s
  | .enterDaylight => Sys2Proof.Machine.execEnterDaylight s
  | .enterTwilight => Sys2Proof.Machine.execEnterTwilight s
  | .nightCommand t kind => Sys2Proof.Machine.execNightCommand t kind s
  | .wakeRegion r => Sys2Proof.Machine.execWakeRegion r s
  | .selfTestComplete core passed => Sys2Proof.Machine.execSelfTestComplete core passed s
  | .deviceReset roms => Sys2Proof.Machine.execDeviceReset roms s
  | .coreRestart core => Sys2Proof.Machine.execCoreRestart core s
  | .managementQuery who addr len => Sys2Proof.Machine.execManagementQuery who addr len s
  | .mgmtSet who addr v => Sys2Proof.Machine.execMgmtSet who addr v s
  | .spillWaysPower link v => Sys2Proof.Machine.execSpillWaysPower link v s
  | .tlsHandshake peer => Sys2Proof.Machine.execTlsHandshake peer s
  | .getVersion tr => Sys2Proof.Machine.execGetVersion tr s
  | .getCapabilities tr => Sys2Proof.Machine.execGetCapabilities tr s
  | .negotiateAlgorithms tr algs => Sys2Proof.Machine.execNegotiateAlgorithms tr algs s
  | .getDigests tr => Sys2Proof.Machine.execGetDigests tr s
  | .getCertificate tr slot => Sys2Proof.Machine.execGetCertificate tr slot s
  | .challenge tr nonce => Sys2Proof.Machine.execChallenge tr nonce s
  | .getMeasurements sess index nonce => Sys2Proof.Machine.execGetMeasurements sess index nonce s
  | .keyExchange tr share => Sys2Proof.Machine.execKeyExchange tr share s
  | .finish sess macOk => Sys2Proof.Machine.execFinish sess macOk s
  | .heartbeat sess => Sys2Proof.Machine.execHeartbeat sess s
  | .bindRegion sess r => Sys2Proof.Machine.execBindRegion sess r s
  | .installKey sess req => Sys2Proof.Machine.execInstallKey sess req s
  | .presenceNFall => Sys2Proof.Machine.execPresenceNFall s
  | .presenceWindowClose => Sys2Proof.Machine.execPresenceWindowClose s
  | .coreFailureDeclaration row col trigger => Sys2Proof.Machine.execCoreFailureDeclaration row col trigger s
  | .migration row readable badWords => Sys2Proof.Machine.execMigration row readable badWords s
  | .hopFault a b => Sys2Proof.Machine.execHopFault a b s
  | .flashStore item ok => Sys2Proof.Machine.execFlashStore item ok s
  | .powerOn => Sys2Proof.Machine.execPowerOn s
  | .powerLoss => Sys2Proof.Machine.execPowerLoss s
  | .resetNAssert => Sys2Proof.Machine.execResetNAssert s
  | .resetNDeassert roms => Sys2Proof.Machine.execResetNDeassert roms s
  | .hbmTrainingDone => Sys2Proof.Machine.execHbmTrainingDone s
  | .bistDone failed => Sys2Proof.Machine.execBistDone failed s
  | .firstDaybreak => Sys2Proof.Machine.execFirstDaybreak s
  | .recoveryImage img => Sys2Proof.Machine.execRecoveryImage img s
  | .clockLoss clk => Sys2Proof.Machine.execClockLoss clk s
  | .thermalTrip => Sys2Proof.Machine.execThermalTrip s
  | .thermalAlert temps => Sys2Proof.Machine.execThermalAlert temps s
  | .armaikWatchdog standbyHealthy roms => Sys2Proof.Machine.execArmaikWatchdog standbyHealthy roms s
  | .bootWatchdog roms => Sys2Proof.Machine.execBootWatchdog roms s
  | .telemetrySample t => Sys2Proof.Machine.execTelemetrySample t s
  | .laserInputRestored port => Sys2Proof.Machine.execLaserInputRestored port s
  | .fecLockGained port => Sys2Proof.Machine.execFecLockGained port s
  | .referenceClockReturn clk roms => Sys2Proof.Machine.execReferenceClockReturn clk roms s
  | .perstNDeassert link => Sys2Proof.Machine.execPerstNDeassert link s
  | .endSession sess => Sys2Proof.Machine.execEndSession sess s
  | .managementConnectionEnd => Sys2Proof.Machine.execManagementConnectionEnd s

end Sys2Proof.Machine
end

