-- ==== Sys2Proof/Safety.lean ====
section
/-!
DEFINITION. What a legal state and a safe run are, in the terms the statements use.
-/
namespace Sys2Proof.Safety
open Sys2Proof Sys2Proof.Machine

/-- The lengths of the Day and of Dusk obey R44, those in force and those accepted for the next Daybreak. -/
def dayLegal (s : State) : Prop :=
  dayOk s.clock.dayDiv.toNat s.clock.duskDiv.toNat = true ∧ dayOk s.clock.dayDivNext.toNat s.clock.duskDivNext.toNat = true

/-- Boot has come to the end of one of its steps (R436), the device is out of Midnight exactly when it has come to
the end of the last (R14, R433), and it waits for a recovery image only where step 2 found no slot (R444). -/
def bootLegal (s : State) : Prop :=
  s.boot.step ∈ [0, 1, 3, 5, 6, 8] ∧ (s.dev = .midnight ↔ s.boot.step ≠ 8) ∧ (s.boot.recovery = true → s.boot.step = 1)

/-- In Daylight the device ID is in use and cannot be withdrawn (R375, R446, R459). -/
def idLegal (s : State) : Prop := s.dev = .daylight → s.assigned = true ∧ s.assignedNext = true

/-- A legal state. -/
def Inv (s : State) : Prop := dayLegal s ∧ bootLegal s ∧ idLegal s

/-- A step is safe when it ends in a next state: the machine never stops. -/
def Safe (s : State) : Prop := ∃ t, step s = .next t

/-! ### An instruction that runs -/

/-- The thread can issue an instruction of `len` bytes: it is ready, the debugger has not halted it, the slot falls to
it, and its bytes lie in the code space, none of them poisoned (R92, R124, R125, R403, R410). -/
def CanIssue (h : Hart) (len : Nat) (s : State) : Prop :=
  (thread s h).run = .ready ∧ (thread s h).debugHalt = false ∧ hasSlot (coreOf s h.core) h.thread = true
    ∧ (thread s h).pc.toNat + len ≤ 0x10000 ∧ fetchPoison (coreOf s h.core) (thread s h).pc len = none

/-- Nothing the thread can read or write is speculative, and no shadow is still to resolve (R53, R221, R223). -/
def Quiet (h : Hart) (s : State) : Prop :=
  (thread s h).pSpec = [] ∧ (thread s h).vSpec = [] ∧ (thread s h).accSpec = []
    ∧ (∀ k, (rowOf (thread s h) k).spec = false) ∧ (coreOf s h.core).specMark = [] ∧ (coreOf s h.core).resolving = []
    ∧ ∀ e ∈ (coreOf s h.core).stores, e.spec = false

/-- The thread issues an instruction of `len` bytes whose predicate `p` reads 1 (R98), unspeculatively. -/
def Runs (h : Hart) (p : Fin 8) (len : Nat) (s : State) : Prop :=
  CanIssue h len s ∧ pReg (thread s h) p = true ∧ Quiet h s

/-- The state after an instruction of `len` bytes whose whole effect is `f` on its own thread: the slot is used
(R124), and the PC has moved past the instruction unless `f` sets it. Everything else is as it was. -/
def after (h : Hart) (len : Nat) (f : Thread → Thread) (s : State) : State :=
  modTh (rotate h s) h fun t => f (advPc len t)

/-- gD := x. -/
def putG (d : Fin 32) (x : Word) (t : Thread) : Thread := { t with g := tset t.g d.val x }

/-- pD := x; a write of p0 is discarded (R89). -/
def putP (d : Fin 8) (x : Bool) (t : Thread) : Thread := if d = 0 then t else { t with p := tset t.p d.val x }

/-- vD := x. -/
def putV (d : Fin 32) (x : Marked) (t : Thread) : Thread := { t with v := tset t.v d.val x }

/-- mD := x. -/
def putM (d : Fin 8) (x : Word) (t : Thread) : Thread := { t with m := tset t.m d.val x }

/-- PC := x. -/
def putPc (x : BitVec 17) (t : Thread) : Thread := { t with pc := x }

/-- The IEEE flags `fl` set beside those already set (R104). -/
def putFlags (fl : BitVec 5) (t : Thread) : Thread := { t with fpFlags := t.fpFlags ||| fl }

/-- The thread that issues an instruction, its predicate and its length in bytes (R96–R98, R101). A command
that is no instruction has none. -/
def slot : Instr → Option (Hart × Fin 8 × Nat)
  | .add h p _ _ _ => some (h, p, 4)
  | .sub h p _ _ _ => some (h, p, 4)
  | .and h p _ _ _ => some (h, p, 4)
  | .or h p _ _ _ => some (h, p, 4)
  | .xor h p _ _ _ => some (h, p, 4)
  | .andn h p _ _ _ => some (h, p, 4)
  | .shl h p _ _ _ => some (h, p, 4)
  | .shr h p _ _ _ => some (h, p, 4)
  | .sar h p _ _ _ => some (h, p, 4)
  | .ror h p _ _ _ => some (h, p, 4)
  | .mul h p _ _ _ => some (h, p, 4)
  | .mulh h p _ _ _ => some (h, p, 4)
  | .mulhu h p _ _ _ => some (h, p, 4)
  | .div h p _ _ _ => some (h, p, 4)
  | .divu h p _ _ _ => some (h, p, 4)
  | .rem h p _ _ _ => some (h, p, 4)
  | .remu h p _ _ _ => some (h, p, 4)
  | .min h p _ _ _ => some (h, p, 4)
  | .max h p _ _ _ => some (h, p, 4)
  | .minu h p _ _ _ => some (h, p, 4)
  | .maxu h p _ _ _ => some (h, p, 4)
  | .clz h p _ _ => some (h, p, 4)
  | .ctz h p _ _ => some (h, p, 4)
  | .popc h p _ _ => some (h, p, 4)
  | .sextb h p _ _ => some (h, p, 4)
  | .sexth h p _ _ => some (h, p, 4)
  | .sextw h p _ _ => some (h, p, 4)
  | .zextw h p _ _ => some (h, p, 4)
  | .addi h p _ _ _ => some (h, p, 4)
  | .andi h p _ _ _ => some (h, p, 4)
  | .ori h p _ _ _ => some (h, p, 4)
  | .xori h p _ _ _ => some (h, p, 4)
  | .shli h p _ _ _ => some (h, p, 4)
  | .shri h p _ _ _ => some (h, p, 4)
  | .sari h p _ _ _ => some (h, p, 4)
  | .rori h p _ _ _ => some (h, p, 4)
  | .movi h p _ _ => some (h, p, 4)
  | .movsh h p _ _ => some (h, p, 4)
  | .cmp h p _ _ _ _ => some (h, p, 4)
  | .cmpi h p _ _ _ _ => some (h, p, 4)
  | .pand h p _ _ _ => some (h, p, 4)
  | .por h p _ _ _ => some (h, p, 4)
  | .pxor h p _ _ _ => some (h, p, 4)
  | .pandn h p _ _ _ => some (h, p, 4)
  | .pnot h p _ _ => some (h, p, 4)
  | .pmov h p _ _ => some (h, p, 4)
  | .fadd h p _ _ _ _ => some (h, p, 4)
  | .fsub h p _ _ _ _ => some (h, p, 4)
  | .fmul h p _ _ _ _ => some (h, p, 4)
  | .fdiv h p _ _ _ _ => some (h, p, 4)
  | .fmin h p _ _ _ _ => some (h, p, 4)
  | .fmax h p _ _ _ _ => some (h, p, 4)
  | .fsqrt h p _ _ _ => some (h, p, 4)
  | .fabs h p _ _ _ => some (h, p, 4)
  | .fneg h p _ _ _ => some (h, p, 4)
  | .fcvt h p _ _ _ => some (h, p, 4)
  | .fcvti h p _ _ _ => some (h, p, 4)
  | .fcvtu h p _ _ _ => some (h, p, 4)
  | .icvtf h p _ _ _ => some (h, p, 4)
  | .ucvtf h p _ _ _ => some (h, p, 4)
  | .fclass h p _ _ _ => some (h, p, 4)
  | .fma h p _ _ _ _ => some (h, p, 4)
  | .fnma h p _ _ _ _ => some (h, p, 4)
  | .fcmp h p _ _ _ _ _ => some (h, p, 4)
  | .br h p _ => some (h, p, 4)
  | .call h p _ => some (h, p, 4)
  | .jmp h p _ => some (h, p, 4)
  | .jmpl h p _ _ => some (h, p, 4)
  | .ldb h p _ _ _ => some (h, p, 4)
  | .ldbu h p _ _ _ => some (h, p, 4)
  | .ldh h p _ _ _ => some (h, p, 4)
  | .ldhu h p _ _ _ => some (h, p, 4)
  | .ldw h p _ _ _ => some (h, p, 4)
  | .ldwu h p _ _ _ => some (h, p, 4)
  | .ldd h p _ _ _ => some (h, p, 4)
  | .stb h p _ _ _ => some (h, p, 4)
  | .sth h p _ _ _ => some (h, p, 4)
  | .stw h p _ _ _ => some (h, p, 4)
  | .std h p _ _ _ => some (h, p, 4)
  | .vld h p _ _ _ => some (h, p, 4)
  | .vst h p _ _ _ => some (h, p, 4)
  | .portIn h p _ _ => some (h, p, 4)
  | .portOut h p _ _ => some (h, p, 4)
  | .inr h p _ _ => some (h, p, 4)
  | .outr h p _ _ => some (h, p, 4)
  | .smove h p _ _ _ _ => some (h, p, 4)
  | .sfill h p _ _ _ _ => some (h, p, 4)
  | .scmp h p _ _ _ _ => some (h, p, 4)
  | .sscan h p _ _ _ _ => some (h, p, 4)
  | .sscann h p _ _ _ _ => some (h, p, 4)
  | .cload h p _ _ _ => some (h, p, 4)
  | .cread h p _ _ _ => some (h, p, 4)
  | .send h p _ _ _ => some (h, p, 4)
  | .nop h p => some (h, p, 4)
  | .fence h p _ => some (h, p, 4)
  | .trap h p _ => some (h, p, 4)
  | .rett h => some (h, 0, 4)
  | .hold h _ => some (h, 0, 4)
  | .mov16 h _ _ => some (h, 0, 2)
  | .add16 h _ _ => some (h, 0, 2)
  | .sub16 h _ _ => some (h, 0, 2)
  | .and16 h _ _ => some (h, 0, 2)
  | .or16 h _ _ => some (h, 0, 2)
  | .xor16 h _ _ => some (h, 0, 2)
  | .shl16 h _ _ => some (h, 0, 2)
  | .shr16 h _ _ => some (h, 0, 2)
  | .addi16 h _ _ => some (h, 0, 2)
  | .movi16 h _ _ => some (h, 0, 2)
  | .shli16 h _ _ => some (h, 0, 2)
  | .shri16 h _ _ => some (h, 0, 2)
  | .sari16 h _ _ => some (h, 0, 2)
  | .ldd16 h _ _ _ => some (h, 0, 2)
  | .std16 h _ _ _ => some (h, 0, 2)
  | .ldw16 h _ _ _ => some (h, 0, 2)
  | .stw16 h _ _ _ => some (h, 0, 2)
  | .bz16 h _ _ => some (h, 0, 2)
  | .bnz16 h _ _ => some (h, 0, 2)
  | .bltz16 h _ _ => some (h, 0, 2)
  | .bgez16 h _ _ => some (h, 0, 2)
  | .br16 h _ => some (h, 0, 2)
  | .in16 h _ _ => some (h, 0, 2)
  | .out16 h _ _ => some (h, 0, 2)
  | .nop16 h => some (h, 0, 2)
  | .ret16 h => some (h, 0, 2)
  | .trap16 h _ => some (h, 0, 2)
  | .vmov h p _ _ _ => some (h, p, 4)
  | .vbcast h p _ _ _ _ => some (h, p, 4)
  | .vext h p _ _ _ => some (h, p, 4)
  | .vins h p _ _ _ => some (h, p, 4)
  | .vrotb h p _ _ _ _ => some (h, p, 4)
  | .vsel h p _ _ _ _ => some (h, p, 4)
  | .vtot h p _ _ _ => some (h, p, 4)
  | .vfromt h p _ _ _ _ => some (h, p, 4)
  | .mlog h p _ _ _ _ => some (h, p, 4)
  | .mfromg h p _ _ => some (h, p, 4)
  | .mtog h p _ _ => some (h, p, 4)
  | .tinfo h p _ _ => some (h, p, 4)
  | .vtz h p _ _ _ => some (h, p, 4)
  | .vzbm h p _ _ _ => some (h, p, 4)
  | .vadd h p _ _ _ _ _ => some (h, p, 4)
  | .vsub h p _ _ _ _ _ => some (h, p, 4)
  | .vmul h p _ _ _ _ _ => some (h, p, 4)
  | .vmin h p _ _ _ _ _ => some (h, p, 4)
  | .vmax h p _ _ _ _ _ => some (h, p, 4)
  | .vminu h p _ _ _ _ _ => some (h, p, 4)
  | .vmaxu h p _ _ _ _ _ => some (h, p, 4)
  | .vand h p _ _ _ _ _ => some (h, p, 4)
  | .vor h p _ _ _ _ _ => some (h, p, 4)
  | .vxor h p _ _ _ _ _ => some (h, p, 4)
  | .vshl h p _ _ _ _ _ => some (h, p, 4)
  | .vshr h p _ _ _ _ _ => some (h, p, 4)
  | .vsar h p _ _ _ _ _ => some (h, p, 4)
  | .vcmpeq h p _ _ _ _ _ => some (h, p, 4)
  | .vcmplt h p _ _ _ _ _ => some (h, p, 4)
  | .vcmpltu h p _ _ _ _ _ => some (h, p, 4)
  | .vfadd h p _ _ _ _ _ => some (h, p, 4)
  | .vfsub h p _ _ _ _ _ => some (h, p, 4)
  | .vfmul h p _ _ _ _ _ => some (h, p, 4)
  | .vfdiv h p _ _ _ _ _ => some (h, p, 4)
  | .vfsqrt h p _ _ _ _ => some (h, p, 4)
  | .vfma h p _ _ _ _ _ => some (h, p, 4)
  | .vfnma h p _ _ _ _ _ => some (h, p, 4)
  | .vfmin h p _ _ _ _ _ => some (h, p, 4)
  | .vfmax h p _ _ _ _ _ => some (h, p, 4)
  | .vfabs h p _ _ _ _ => some (h, p, 4)
  | .vfneg h p _ _ _ _ => some (h, p, 4)
  | .vfcmpeq h p _ _ _ _ _ => some (h, p, 4)
  | .vfcmplt h p _ _ _ _ _ => some (h, p, 4)
  | .vfcmple h p _ _ _ _ _ => some (h, p, 4)
  | .vfcmpun h p _ _ _ _ _ => some (h, p, 4)
  | .vcvts h p _ _ _ _ => some (h, p, 4)
  | .vcvtf h p _ _ _ _ _ => some (h, p, 4)
  | .vcvtis h p _ _ _ => some (h, p, 4)
  | .vcvtsi h p _ _ _ => some (h, p, 4)
  | .vcvtld h p _ _ _ => some (h, p, 4)
  | .vcvtdl h p _ _ _ => some (h, p, 4)
  | .vunpkt2 h p _ _ _ => some (h, p, 4)
  | .vpackt2 h p _ _ _ => some (h, p, 4)
  | .tcfg h p _ _ => some (h, p, 4)
  | .tld h p _ _ _ => some (h, p, 4)
  | .tst h p _ _ _ _ => some (h, p, 4)
  | .trel h p _ => some (h, p, 4)
  | .mma h p _ _ _ _ _ _ _ => some (h, p, 4)
  | .acvt h p _ _ _ _ _ _ _ => some (h, p, 4)
  | .azero h p _ => some (h, p, 4)
  | .ald h p _ _ => some (h, p, 4)
  | .ast h p _ _ => some (h, p, 4)
  | .evWait h p _ => some (h, p, 4)
  | .noticeLo h p _ => some (h, p, 4)
  | .noticeHi h p _ => some (h, p, 4)
  | .monNoticeLo h p _ => some (h, p, 4)
  | .monNoticeHi h p _ => some (h, p, 4)
  | .noticeMark h p => some (h, p, 4)
  | .noticeRewind h p => some (h, p, 4)
  | .noticeRelease h p => some (h, p, 4)
  | .timerSet h p _ => some (h, p, 4)
  | .srSeed h p _ => some (h, p, 4)
  | .errCauseRead h p _ => some (h, p, 4)
  | .ctrTarget h p _ => some (h, p, 4)
  | .dayDone h p _ => some (h, p, 4)
  | .moverSubmit h p _ => some (h, p, 4)
  | .moverDone h p _ => some (h, p, 4)
  | .streamSubmit h p _ => some (h, p, 4)
  | .streamDone h p _ => some (h, p, 4)
  | .streamCancel h p _ => some (h, p, 4)
  | .flagSet h p _ => some (h, p, 4)
  | .flagClear h p _ => some (h, p, 4)
  | .ctrAdd h p _ _ => some (h, p, 4)
  | .flagCounterRead h p _ _ _ => some (h, p, 4)
  | .flagWait h p _ _ => some (h, p, 4)
  | .ctrWait h p _ _ => some (h, p, 4)
  | .cellStatus h p _ => some (h, p, 4)
  | .regionResume h p _ => some (h, p, 4)
  | .hostNotification h p _ => some (h, p, 4)
  | .launchCompletion h p _ => some (h, p, 4)
  | _ => none

end Sys2Proof.Safety
end

