-- ==== Sys2Proof/Certificates/Slice0/Obligations.lean ====
section
/-!
DEFINITION. The statements for the provers, and the words they are stated in.
-/
open Sys2Proof Sys2Proof.Machine Sys2Proof.Safety

/-! ### The machine -/

/-- A step carries out the command at the front of the queue, with the rest of the queue kept (the block's own queue: the
model's frame, log 3). With no command waiting, one cycle of the core clock passes, and in the whole state nothing else
changes than what a passing cycle brings: the 16 cycles of `DAYBREAK_OUT` end, the next issue slot is offered to every
thread, and an invalidation that has waited 100 µs is answered (the model's choice, log 3). -/
def Obligations.StepCarriesOutTheFrontCommand : Prop :=
  (∀ (c : Instr) (rest : List Instr) (s : State),
    step { s with pending := c :: rest } = exec c { s with pending := rest })
  ∧ (∀ s : State, s.pending = [] →
    ∃ t, step s = .next t
      ∧ { t with clock := s.clock, pins := s.pins, cores := [], fns := [], hostOut := [] }
        = { s with cores := [], fns := [], hostOut := [] }
      ∧ t.clock = { s.clock with now := s.clock.now + 1, cycle := s.clock.cycle + 1 }
      ∧ t.pins = { s.pins with daybreakOut := s.pins.daybreakOut && decide (s.clock.cycle + 1 < 16) }
      ∧ (∀ c : CoreId, coreOf t c = { coreOf s c with passed := [] })
      ∧ (∀ f : FnId, { fnOf t f with invalidations := [] } = { fnOf s f with invalidations := [] }
        ∧ ∀ x, x ∈ (fnOf t f).invalidations ↔ x ∈ (fnOf s f).invalidations ∧ s.clock.now + 1 < x.2.2)
      ∧ (∀ (f : FnId) x, x ∈ (fnOf s f).invalidations → x.2.2 ≤ s.clock.now + 1 → HostOut.invalidationDone f x.1 ∈ t.hostOut)
      ∧ ((∀ f ∈ s.fns, ∀ x ∈ f.2.invalidations, s.clock.now + 1 < x.2.2) → t.hostOut = s.hostOut ∧ t.fns = s.fns))

/-- No command changes the queue of waiting commands. Every command answers a next state from every state: the device has no
fault that stops it (R135, R415: errors are taken by threads or logged). -/
def Obligations.EveryCommandAnswersAndKeepsTheQueue : Prop :=
  (∀ (i : Instr) (s t : State), exec i s = .next t → t.pending = s.pending)
  ∧ (∀ (i : Instr) (s : State), ∃ t, exec i s = .next t)

/-- From every legal state, a step leads to a legal state: the Day and Dusk lengths obey R44, the device is out of
Midnight exactly when boot has ended (R14, R436), and Daylight needs a device ID in use (R446). -/
def Obligations.StepKeepsTheStateLegal : Prop :=
  ∀ s t : State, Inv s → step s = .next t → Inv t

/-- Every byte memory of the machine is in canonical form. -/
def memoryForm (s : State) : Prop :=
  s.bulk.wf = true ∧ ∀ c : CoreId, (coreOf s c).mem.wf = true ∧ (coreOf s c).code.wf = true

/-- From every state whose memories are in canonical form, a step leads to one (every write goes through the canonical
operations). -/
def Obligations.StepKeepsMemoriesCanonical : Prop :=
  ∀ s t : State, memoryForm s → step s = .next t → memoryForm t

/-- The state after reset (R14, R45, R433, R459): Midnight, boot not begun, a Day of 131,072 cycles with a Dusk of 256,
no device ID in use, every cell invalid, every region number free, every local byte and code byte zero, every counter 0,
and an empty log; and it is legal. -/
def Obligations.ResetHoldsTheStatedValues : Prop :=
  let s := State.reset
  s.dev = .midnight ∧ s.boot.step = 0 ∧ dayLen s = 131072 ∧ duskLen s = 256 ∧ s.clock.dayCount = 0
    ∧ s.deviceId = 0 ∧ s.assigned = false
    ∧ (∀ i, cValid (cellEntry s i) = false) ∧ (∀ r : RegionId, (regOf s r).valid = false)
    ∧ (∀ (c : CoreId) (a : Nat), mget (coreOf s c).mem a = 0 ∧ mget (coreOf s c).code a = 0)
    ∧ (∀ a, mget s.bulk a = 0) ∧ (∀ a, tget 0 s.counters a = 0) ∧ s.log.recs = []
    ∧ (∀ c : CoreId, (coreOf s c).released = false) ∧ memoryForm s ∧ Inv s

/-! ### Instruction words -/

/-- A tile instruction's command carries, beside its operands, the rows found to fail parity (R177); its word does not. -/
def plain : Instr → Instr
  | .vfromt h p d a r _ => .vfromt h p d a r []
  | .tst h p d a b _ => .tst h p d a b []
  | .mma h p acc sp tm tb ta ad _ => .mma h p acc sp tm tb ta ad []
  | i => i

/-- The thread that issues a command. -/
def hartOf (i : Instr) : Option Hart := (slot i).map fun x => x.1

/-- Decoding the word of a well-formed instruction gives the instruction back, with every operand (R96–R102, R151, R187,
R203). A word that decodes stands for a well-formed instruction, and is that instruction's word: no bit of it is ignored but
the upper half behind a compact instruction (R96, R97). -/
def Obligations.DecodingAndEncodingAgree : Prop :=
  (∀ (i : Instr) (h : Hart) (n w : Nat), i.wf = true → hartOf i = some h → encode i = some (n, w) →
    decodeWord h (BitVec.ofNat 32 w) = some (plain i))
  ∧ (∀ (h : Hart) (w : BitVec 32) (i : Instr), decodeWord h w = some i →
    i.wf = true ∧ encode i = some (if w.getLsbD 0 then (4, w.toNat) else (2, w.toNat % 2 ^ 16)))

/-! ### Every instruction -/

/-- An instruction executes only if its predicate reads 1 (R98): p0 always reads 1; where the predicate reads 0 the
instruction uses its issue slot and moves the PC past itself, and nothing else changes (a predicate register that holds a
speculative copy aside: R226, R228); and the two instructions that are not predicable, `RETT` and `HOLD`, have no word with
another PRED than 0. -/
def Obligations.FalsePredicateOnlyMovesThePc : Prop :=
  (∀ t : Thread, pReg t 0 = true)
  ∧ (∀ (i : Instr) (h : Hart) (p : Fin 8) (len : Nat) (s : State),
    slot i = some (h, p, len) → i.wf = true → CanIssue h len s → pReg (thread s h) p = false →
    tfind (thread s h).pSpec p.val = none →
      exec i s = .next (after h len id s))
  ∧ (∀ (h : Hart) (w : BitVec 32), (decodeWord h w = some (.rett h) ∨ ∃ n, decodeWord h w = some (.hold h n)) →
      (w.extractLsb' 1 3).toNat = 0)

/-- The state after an instruction has faulted with `cause` and `info`, the thread having no hold open
(R135, R138, R142): the fault records are written, `LOST` is kept or set when an E5 record is pending (R139), and the thread
enters through the cause's vector, to return to the instruction itself. -/
def faulted (h : Hart) (cause : BitVec 8) (info : Word) (s : State) : State :=
  modTh (rotate h s) h fun t =>
    { t with
      errCause := cause.setWidth 10 ||| (if bit t.errCause 8 || bit t.evPending 5 then 0x100 else 0)
      errPc := t.pc
      errInfo := info
      run := .entering (cause.setWidth 7) t.pc }

/-- A fault is taken: with no hold open the thread enters through the cause's vector; with one open it halts, the fault records
written (R142). -/
def faults (o : Host.Outcome State Fault Refusal) (h : Hart) (cause : BitVec 8) (info : Word) (s : State) : Prop :=
  ((thread s h).hold = none → o = .next (faulted h cause info s))
  ∧ ((thread s h).hold.isSome = true →
    ∃ t, o = .next t ∧ thread t h = { thread (faulted h cause info s) h with run := .halted })

/-- Fetching past the end of the code space at the thread's issue slot faults with `0x1B` (R92), `ERR_PC` the address at
which the fetch began and `ERR_INFO` 0x1_0000, whatever the instruction. A jump to a target above 0xFFFF faults with `0x1B`,
and one to an odd target that is not above it with `0x04`, the target in `ERR_INFO`; the register that `JMPL` names keeps
its value. -/
def Obligations.FetchesAndJumpsStayInTheCodeSpace : Prop :=
  (∀ (i : Instr) (h : Hart) (p : Fin 8) (len : Nat) (s : State),
    slot i = some (h, p, len) → (thread s h).run = .ready → (thread s h).debugHalt = false →
      hasSlot (coreOf s h.core) h.thread = true → 0x10000 < (thread s h).pc.toNat + len → faults (exec i s) h 0x1B 0x10000 s)
  ∧ (∀ (h : Hart) (p : Fin 8) (d a : Fin 32) (s : State), Runs h p 4 s →
    let x := gReg (thread s h) a
    (0xFFFF < x.toNat → faults (exec (.jmp h p a) s) h 0x1B x s ∧ faults (exec (.jmpl h p d a) s) h 0x1B x s)
    ∧ (x.toNat ≤ 0xFFFF → x.toNat % 2 = 1 →
        faults (exec (.jmp h p a) s) h 0x04 x s ∧ faults (exec (.jmpl h p d a) s) h 0x04 x s))


/-! ### Integer, predicate and control instructions -/

/-- Truncating signed quotient and remainder, and the values R103 gives for a divisor of 0. -/
def quotient (x y : Word) : Word := if y = 0 then BitVec.allOnes 64 else BitVec.ofInt 64 (x.toInt.tdiv y.toInt)
def remainder (x y : Word) : Word := if y = 0 then x else BitVec.ofInt 64 (x.toInt.tmod y.toInt)

/-- gD := gA op gB for every integer operation on two registers. The result wraps to 64 bits; a shift or rotation
uses the low six bits of gB; a division by 0 gives all ones and a remainder by 0 the dividend. Nothing else changes. -/
def Obligations.IntegerOperationsOnTwoRegisters : Prop :=
  ∀ (h : Hart) (p : Fin 8) (d a b : Fin 32) (s : State), Runs h p 4 s →
    let x := gReg (thread s h) a
    let y := gReg (thread s h) b
    let n := y.toNat % 64
    let put := fun v => Host.Outcome.next (after h 4 (putG d v) s)
    exec (.add h p d a b) s = put (x + y) ∧ exec (.sub h p d a b) s = put (x - y)
    ∧ exec (.and h p d a b) s = put (x &&& y) ∧ exec (.or h p d a b) s = put (x ||| y)
    ∧ exec (.xor h p d a b) s = put (x ^^^ y) ∧ exec (.andn h p d a b) s = put (x &&& ~~~y)
    ∧ exec (.shl h p d a b) s = put (x <<< n) ∧ exec (.shr h p d a b) s = put (x >>> n)
    ∧ exec (.sar h p d a b) s = put (x.sshiftRight n)
    ∧ exec (.ror h p d a b) s = put ((x >>> n) ||| (x <<< ((64 - n) % 64)))
    ∧ exec (.mul h p d a b) s = put (BitVec.ofNat 64 (x.toNat * y.toNat))
    ∧ exec (.mulh h p d a b) s = put (BitVec.ofInt 64 (x.toInt * y.toInt / 2 ^ 64))
    ∧ exec (.mulhu h p d a b) s = put (BitVec.ofNat 64 (x.toNat * y.toNat / 2 ^ 64))
    ∧ exec (.div h p d a b) s = put (quotient x y)
    ∧ exec (.divu h p d a b) s = put (if y = 0 then BitVec.allOnes 64 else BitVec.ofNat 64 (x.toNat / y.toNat))
    ∧ exec (.rem h p d a b) s = put (remainder x y)
    ∧ exec (.remu h p d a b) s = put (if y = 0 then x else BitVec.ofNat 64 (x.toNat % y.toNat))
    ∧ exec (.min h p d a b) s = put (if x.toInt < y.toInt then x else y)
    ∧ exec (.max h p d a b) s = put (if x.toInt < y.toInt then y else x)
    ∧ exec (.minu h p d a b) s = put (if x.toNat < y.toNat then x else y)
    ∧ exec (.maxu h p d a b) s = put (if x.toNat < y.toNat then y else x)

/-- Bit counts and extensions: `CLZ` gives the n for which 2^(63−n) ≤ x < 2^(64−n), `CTZ` the largest n with 2^n dividing x,
each 64 for 0; `POPC` the number of ones; the extensions keep the signed or unsigned low part. The immediate forms: a 12-bit
immediate is sign-extended, `MOVI` sign-extends 17 bits, and `MOVSH` shifts the old gD left by 16 and takes in 16 bits. -/
def Obligations.BitCountsExtensionsAndImmediates : Prop :=
  (∀ (h : Hart) (p : Fin 8) (d a : Fin 32) (s : State), Runs h p 4 s →
    let x := gReg (thread s h) a
    let put := fun v => Host.Outcome.next (after h 4 (putG d v) s)
    (∃ n : Nat, n ≤ 64 ∧ x.toNat < 2 ^ (64 - n) ∧ (n < 64 → 2 ^ (63 - n) ≤ x.toNat)
      ∧ exec (.clz h p d a) s = put (BitVec.ofNat 64 n))
    ∧ (∃ n : Nat, n ≤ 64 ∧ 2 ^ n ∣ x.toNat ∧ (n < 64 → ¬ 2 ^ (n + 1) ∣ x.toNat) ∧ (n = 64 → x = 0)
      ∧ exec (.ctz h p d a) s = put (BitVec.ofNat 64 n))
    ∧ exec (.popc h p d a) s = put (BitVec.ofNat 64 ((List.range 64).filter fun i => x.getLsbD i).length)
    ∧ exec (.sextb h p d a) s = put (BitVec.ofInt 64 (x.setWidth 8).toInt)
    ∧ exec (.sexth h p d a) s = put (BitVec.ofInt 64 (x.setWidth 16).toInt)
    ∧ exec (.sextw h p d a) s = put (BitVec.ofInt 64 (x.setWidth 32).toInt)
    ∧ exec (.zextw h p d a) s = put (BitVec.ofNat 64 (x.toNat % 2 ^ 32)))
  ∧ (∀ (h : Hart) (p : Fin 8) (d a : Fin 32) (imm : BitVec 12) (n : BitVec 6) (w17 : BitVec 17) (w16 : BitVec 16) (s : State),
    Runs h p 4 s →
    let x := gReg (thread s h) a
    let c := BitVec.ofInt 64 imm.toInt
    let put := fun v => Host.Outcome.next (after h 4 (putG d v) s)
    exec (.addi h p d a imm) s = put (x + c) ∧ exec (.andi h p d a imm) s = put (x &&& c)
    ∧ exec (.ori h p d a imm) s = put (x ||| c) ∧ exec (.xori h p d a imm) s = put (x ^^^ c)
    ∧ exec (.shli h p d a n) s = put (x <<< n.toNat) ∧ exec (.shri h p d a n) s = put (x >>> n.toNat)
    ∧ exec (.sari h p d a n) s = put (x.sshiftRight n.toNat)
    ∧ exec (.rori h p d a n) s = put ((x >>> n.toNat) ||| (x <<< ((64 - n.toNat) % 64)))
    ∧ exec (.movi h p d w17) s = put (BitVec.ofInt 64 w17.toInt)
    ∧ exec (.movsh h p d w16) s = put ((gReg (thread s h) d <<< 16) ||| w16.setWidth 64))

/-- What a comparison of R102 yields. -/
def compares (c : CmpCond) (x y : Word) : Bool :=
  match c with
  | .eq => decide (x = y) | .ne => decide (x ≠ y)
  | .lt => decide (x.toInt < y.toInt) | .ge => decide (y.toInt ≤ x.toInt)
  | .ltu => decide (x.toNat < y.toNat) | .geu => decide (y.toNat ≤ x.toNat)

/-- p0 reads 1 and a write to it is discarded (R89). Compares and predicate logic write pD and nothing else. -/
def Obligations.PredicateOperations : Prop :=
  (∀ (t : Thread) (x : Bool), pReg t 0 = true ∧ putP 0 x t = t)
  ∧ ∀ (h : Hart) (p d a b : Fin 8) (i j : Fin 32) (c : CmpCond) (imm : BitVec 12) (s : State), Runs h p 4 s →
    let t := thread s h
    let put := fun v => Host.Outcome.next (after h 4 (putP d v) s)
    exec (.cmp h p c d i j) s = put (compares c (gReg t i) (gReg t j))
    ∧ exec (.cmpi h p .eq d i imm) s = put (compares .eq (gReg t i) (BitVec.ofInt 64 imm.toInt))
    ∧ exec (.cmpi h p .ne d i imm) s = put (compares .ne (gReg t i) (BitVec.ofInt 64 imm.toInt))
    ∧ exec (.cmpi h p .lt d i imm) s = put (compares .lt (gReg t i) (BitVec.ofInt 64 imm.toInt))
    ∧ exec (.cmpi h p .ltu d i imm) s = put (compares .ltu (gReg t i) (BitVec.ofInt 64 imm.toInt))
    ∧ exec (.pand h p d a b) s = put (pReg t a && pReg t b)
    ∧ exec (.por h p d a b) s = put (pReg t a || pReg t b)
    ∧ exec (.pxor h p d a b) s = put (pReg t a != pReg t b)
    ∧ exec (.pandn h p d a b) s = put (pReg t a && !pReg t b)
    ∧ exec (.pnot h p d a) s = put (!pReg t a)
    ∧ exec (.pmov h p d a) s = put (pReg t a)

/-- The target of a branch with displacement `n`: its own address plus 2 n, modulo 2^16 (R105). -/
def branchTo (pc : BitVec 17) (n : Int) : BitVec 17 := BitVec.ofInt 17 (((pc.toNat : Int) + 2 * n) % 2 ^ 16)

/-- Branches, calls and jumps: a branch goes to its own address plus twice its displacement, modulo 2^16; `CALL` and `JMPL`
leave the address of the next instruction in g31 and gD; a compact conditional branch that is not taken goes on. -/
def Obligations.ControlTransferGoesToItsTarget : Prop :=
  ∀ (h : Hart) (p : Fin 8) (d a : Fin 32) (r : Fin 16) (n22 : BitVec 22) (n7 : BitVec 7) (n11 : BitVec 11) (s : State),
    let t := thread s h
    let go := fun len f => Host.Outcome.next (after h len f s)
    let x := gReg t (Fin.ofNat 32 r.val)
    let cond := fun b : Bool => go 2 fun u => if b then putPc (branchTo t.pc n7.toInt) u else u
    (Runs h p 4 s →
      exec (.br h p n22) s = go 4 (putPc (branchTo t.pc n22.toInt))
      ∧ exec (.call h p n22) s = go 4 (fun u => putPc (branchTo t.pc n22.toInt) (putG 31 (BitVec.ofNat 64 (t.pc.toNat + 4)) u))
      ∧ ((gReg t a).toNat ≤ 0xFFFF → (gReg t a).toNat % 2 = 0 →
          exec (.jmp h p a) s = go 4 (putPc ((gReg t a).setWidth 17))
          ∧ exec (.jmpl h p d a) s
            = go 4 (fun u => putPc ((gReg t a).setWidth 17) (putG d (BitVec.ofNat 64 (t.pc.toNat + 4)) u))))
    ∧ (Runs h 0 2 s →
      exec (.br16 h n11) s = go 2 (putPc (branchTo t.pc n11.toInt))
      ∧ exec (.bz16 h r n7) s = cond (decide (x = 0)) ∧ exec (.bnz16 h r n7) s = cond (decide (x ≠ 0))
      ∧ exec (.bltz16 h r n7) s = cond (decide (x.toInt < 0)) ∧ exec (.bgez16 h r n7) s = cond (decide (0 ≤ x.toInt))
      ∧ ((gReg t 31).toNat ≤ 0xFFFF → (gReg t 31).toNat % 2 = 0 →
          exec (.ret16 h) s = go 2 (putPc ((gReg t 31).setWidth 17))))

/-- Each compact instruction on registers g0–g15 acts as the 32-bit instruction its row names, two bytes long and
unpredicated (R101). -/
def Obligations.CompactOperations : Prop :=
  ∀ (h : Hart) (d r : Fin 16) (i7 : BitVec 7) (n : BitVec 5) (s : State), Runs h 0 2 s →
    let D : Fin 32 := Fin.ofNat 32 d.val
    let x := gReg (thread s h) D
    let y := gReg (thread s h) (Fin.ofNat 32 r.val)
    let put := fun v => Host.Outcome.next (after h 2 (putG D v) s)
    (d ≠ r → exec (.mov16 h d r) s = put y)
    ∧ exec (.add16 h d r) s = put (x + y) ∧ exec (.sub16 h d r) s = put (x - y)
    ∧ exec (.and16 h d r) s = put (x &&& y) ∧ exec (.or16 h d r) s = put (x ||| y)
    ∧ exec (.xor16 h d r) s = put (x ^^^ y)
    ∧ exec (.shl16 h d r) s = put (x <<< (y.toNat % 64)) ∧ exec (.shr16 h d r) s = put (x >>> (y.toNat % 64))
    ∧ exec (.addi16 h d i7) s = put (x + BitVec.ofInt 64 i7.toInt)
    ∧ exec (.movi16 h d i7) s = put (BitVec.ofInt 64 i7.toInt)
    ∧ exec (.shli16 h d n) s = put (x <<< n.toNat) ∧ exec (.shri16 h d n) s = put (x >>> n.toNat)
    ∧ exec (.sari16 h d n) s = put (x.sshiftRight n.toNat)
    ∧ exec (.nop16 h) s = .next (after h 2 id s)


/-! ### Local memory -/

/-- The byte that a thread's instructions see at a local address: its own buffered stores before local memory (R95). -/
def sees (s : State) (h : Hart) (a : Nat) : Byte := byteView (coreOf s h.core) (some h.thread) a

/-- The unsigned number in `n` bytes at an address, as the thread sees it. -/
def numberAt (s : State) (h : Hart) (a n : Nat) : Nat :=
  ((List.range n).map fun i => (sees s h (a + i)).toNat * 256 ^ i).sum

/-- The address gA + n × imm12 of a 32-bit load or store of `n` bytes (R93). -/
def addr32 (s : State) (h : Hart) (a : Fin 32) (n : Nat) (imm : BitVec 12) : Word :=
  BitVec.ofInt 64 (((gReg (thread s h) a).toNat : Int) + n * imm.toInt)

/-- The address gRB + n × OFF3 of a compact load or store of `n` bytes (R101). -/
def addrCompact (s : State) (h : Hart) (b : Fin 16) (n : Nat) (off : BitVec 3) : Word :=
  BitVec.ofNat 64 ((gReg (thread s h) (Fin.ofNat 32 b.val)).toNat + n * off.toNat)

/-- The access is aligned and lies in local memory. -/
def accessible (x : Word) (n : Nat) : Prop := x.toNat % n = 0 ∧ x.toNat + n ≤ 0xC0000

/-- No word the access touches is marked poisoned, as the thread sees it. -/
def unmarked (s : State) (h : Hart) (a n : Nat) : Prop :=
  ∀ w, w * 8 < a + n → a < w * 8 + 8 → poisonView (coreOf s h.core) (some h.thread) w = false

/-- Loads of unmarked words: gD takes the little-endian bytes at the effective address as the thread sees them,
sign-extended for `LDB`, `LDH`, `LDW` and `LDW16`; `VLD` takes 64 bytes and the poison mark of the words (R93, R95, R159,
R410). -/
def Obligations.LoadsReturnWhatTheThreadSees : Prop :=
  ∀ (h : Hart) (p : Fin 8) (d a : Fin 32) (e b : Fin 16) (imm : BitVec 12) (off : BitVec 3) (s : State),
    let E : Fin 32 := Fin.ofNat 32 e.val
    let ok := fun (x : Word) n => accessible x n ∧ unmarked s h x.toNat n
    let u := fun (x : Word) n => BitVec.ofNat 64 (numberAt s h x.toNat n)
    let g := fun n => (BitVec.ofNat (8 * n) (numberAt s h (addr32 s h a n imm).toNat n)).toInt
    (Runs h p 4 s →
      let put := fun v => Host.Outcome.next (after h 4 (putG d v) s)
      (ok (addr32 s h a 1 imm) 1 → exec (.ldb h p d a imm) s = put (BitVec.ofInt 64 (g 1))
        ∧ exec (.ldbu h p d a imm) s = put (u (addr32 s h a 1 imm) 1))
      ∧ (ok (addr32 s h a 2 imm) 2 → exec (.ldh h p d a imm) s = put (BitVec.ofInt 64 (g 2))
        ∧ exec (.ldhu h p d a imm) s = put (u (addr32 s h a 2 imm) 2))
      ∧ (ok (addr32 s h a 4 imm) 4 → exec (.ldw h p d a imm) s = put (BitVec.ofInt 64 (g 4))
        ∧ exec (.ldwu h p d a imm) s = put (u (addr32 s h a 4 imm) 4))
      ∧ (ok (addr32 s h a 8 imm) 8 → exec (.ldd h p d a imm) s = put (u (addr32 s h a 8 imm) 8))
      ∧ (accessible (addr32 s h a 64 imm) 64 → ∃ m : Bool,
          (m = true ↔ ¬ unmarked s h (addr32 s h a 64 imm).toNat 64)
          ∧ exec (.vld h p d a imm) s
            = .next (after h 4 (putV d ⟨BitVec.ofNat 512 (numberAt s h (addr32 s h a 64 imm).toNat 64), m⟩) s)))
    ∧ (Runs h 0 2 s →
      (ok (addrCompact s h b 8 off) 8 →
        exec (.ldd16 h e b off) s = .next (after h 2 (putG E (u (addrCompact s h b 8 off) 8)) s))
      ∧ (ok (addrCompact s h b 4 off) 4 →
        exec (.ldw16 h e b off) s = .next (after h 2
          (putG E (BitVec.ofInt 64 (BitVec.ofNat 32 (numberAt s h (addrCompact s h b 4 off).toNat 4)).toInt)) s)))

/-- Nothing outside the core of `h` differs. -/
def onlyCore (h : Hart) (s t : State) : Prop :=
  { t with cores := [] } = { s with cores := [] } ∧ ∀ c : CoreId, c ≠ h.core → coreOf t c = coreOf s c

/-- Nothing but the thread `h` differs, and its core's rotation pointer moves (R124). -/
def onlyThread (h : Hart) (s t : State) : Prop :=
  onlyCore h s t ∧ (∀ k, k ≠ h.thread → thOf (coreOf t h.core) k = thOf (coreOf s h.core) k)
  ∧ { coreOf t h.core with threads := [] } = { coreOf (rotate h s) h.core with threads := [] }

/-- The state in which the buffer of the thread's core has room: a full buffer's oldest store has left it (R147). -/
def withRoom (h : Hart) (s : State) : State :=
  if 8 ≤ (coreOf s h.core).stores.length then modCore s h.core retireOne else s

/-- What a store of the low `n` bytes of `v` at `x` does: the thread sees the new bytes at x … x + n − 1 and elsewhere what
it sees once the buffer has room; the store's bytes wait last in the buffer, so no byte of memory and no mark changes; and
registers, flags, other cores and the rest of the device are as they were. -/
def stores (h : Hart) (len n : Nat) (x : Word) (v : Nat) (poison : Bool) (s : State)
    (o : Host.Outcome State Fault Refusal) : Prop :=
  let r := withRoom h s
  ∃ t, o = .next t
    ∧ (∀ i < n, (sees t h (x.toNat + i)).toNat = v / 256 ^ i % 256)
    ∧ (∀ a, a < x.toNat ∨ x.toNat + n ≤ a → sees t h a = sees r h a)
    ∧ (∀ k : Hart, k ≠ h → ∀ a, sees t k a = sees r k a)
    ∧ (∀ a, mget (coreOf t h.core).mem a = mget (coreOf r h.core).mem a)
    ∧ (coreOf t h.core).poison = (coreOf r h.core).poison
    ∧ (coreOf t h.core).stores = (coreOf r h.core).stores ++ [⟨h.thread, x.toNat, natBytes n v, poison, false⟩]
    ∧ thread t h = advPc len (thread s h)
    ∧ (∀ k : Hart, k ≠ h → thread t k = thread s k) ∧ onlyCore h s t

/-- Stores put their bytes, and only those, into the memory that the thread sees, through the store buffer (R93, R95, R147);
`VST` carries the register's poison mark (R159). -/
def Obligations.StoresChangeOnlyTheirBytes : Prop :=
  ∀ (h : Hart) (p : Fin 8) (d a : Fin 32) (e b : Fin 16) (imm : BitVec 12) (off : BitVec 3) (s : State),
    let v := (gReg (thread s h) d).toNat
    (Runs h p 4 s →
      (accessible (addr32 s h a 1 imm) 1 → stores h 4 1 (addr32 s h a 1 imm) v false s (exec (.stb h p d a imm) s))
      ∧ (accessible (addr32 s h a 2 imm) 2 → stores h 4 2 (addr32 s h a 2 imm) v false s (exec (.sth h p d a imm) s))
      ∧ (accessible (addr32 s h a 4 imm) 4 → stores h 4 4 (addr32 s h a 4 imm) v false s (exec (.stw h p d a imm) s))
      ∧ (accessible (addr32 s h a 8 imm) 8 → stores h 4 8 (addr32 s h a 8 imm) v false s (exec (.std h p d a imm) s))
      ∧ (accessible (addr32 s h a 64 imm) 64 → stores h 4 64 (addr32 s h a 64 imm) (vReg (thread s h) d).data.toNat
          (vReg (thread s h) d).poison s (exec (.vst h p d a imm) s)))
    ∧ (Runs h 0 2 s →
      let w := (gReg (thread s h) (Fin.ofNat 32 e.val)).toNat
      (accessible (addrCompact s h b 8 off) 8 →
        stores h 2 8 (addrCompact s h b 8 off) w false s (exec (.std16 h e b off) s))
      ∧ (accessible (addrCompact s h b 4 off) 4 →
        stores h 2 4 (addrCompact s h b 4 off) w false s (exec (.stw16 h e b off) s)))

/-- An access that is not aligned to its size faults with `0x04`, and an aligned one that reaches 0xC_0000 with `0x03` and
its lowest byte past local memory, for every load and store; a load of a marked word faults with `0x39`. Nothing is loaded or
stored (R93, R137, R410). -/
def Obligations.BadAccessesFault : Prop :=
  ∀ (h : Hart) (p : Fin 8) (d a : Fin 32) (imm : BitVec 12) (n : Nat) (i j : Instr) (s : State),
    Runs h p 4 s →
    (n, i, j) ∈ [(1, .ldb h p d a imm, .stb h p d a imm), (1, .ldbu h p d a imm, .stb h p d a imm),
      (2, .ldh h p d a imm, .sth h p d a imm), (2, .ldhu h p d a imm, .sth h p d a imm),
      (4, .ldw h p d a imm, .stw h p d a imm), (4, .ldwu h p d a imm, .stw h p d a imm),
      (8, .ldd h p d a imm, .std h p d a imm), (64, .vld h p d a imm, .vst h p d a imm)] →
    let x := addr32 s h a n imm
    (x.toNat % n ≠ 0 → faults (exec i s) h 0x04 x s ∧ faults (exec j s) h 0x04 x s)
    ∧ (x.toNat % n = 0 → 0xC0000 < x.toNat + n →
        faults (exec i s) h 0x03 (BitVec.ofNat 64 (max x.toNat 0xC0000)) s
        ∧ faults (exec j s) h 0x03 (BitVec.ofNat 64 (max x.toNat 0xC0000)) s)
    ∧ (accessible x n → n < 64 → ¬ unmarked s h x.toNat n → faults (exec i s) h 0x39 x s)

/-- A thread sees its own last store at once, whatever else the buffer holds (R95): `LDD` in its next issue slot (R124)
after `STD` at the same address gives the stored register. The oldest store of the buffer reaches local memory: its bytes
are written, the marks of the words it covers whole become its own, and no thread that saw it sees another value (R147,
R410). -/
def Obligations.StoredBytesAreReadAndReachMemory : Prop :=
  (∀ (h : Hart) (p : Fin 8) (d a e : Fin 32) (imm : BitVec 12) (s t : State),
    Runs h p 4 s → accessible (addr32 s h a 8 imm) 8 → (thread s h).pc.toNat + 8 ≤ 0x10000 →
    fetchPoison (coreOf s h.core) ((thread s h).pc + 4) 4 = none →
    exec (.std h p d a imm) s = .next t → hasSlot (coreOf t h.core) h.thread = true →
      exec (.ldd h p e a imm) t = .next (after h 4 (putG e (gReg (thread s h) d)) t))
  ∧ (∀ (c : CoreId) (e : StoreEntry) (rest : List StoreEntry) (s : State), (coreOf s c).stores = e :: rest →
    (coreOf s c).mem.wf = true →
    ∃ t, exec (.storeBufferRetire c) s = .next t ∧ (coreOf t c).stores = rest
      ∧ (∀ i (hi : i < e.bytes.length), mget (coreOf t c).mem (e.addr + i) = e.bytes[i])
      ∧ (∀ a, a < e.addr ∨ e.addr + e.bytes.length ≤ a → mget (coreOf t c).mem a = mget (coreOf s c).mem a)
      ∧ (∀ w, e.addr ≤ 8 * w → 8 * w + 8 ≤ e.addr + e.bytes.length → (w ∈ (coreOf t c).poison ↔ e.poison = true))
      ∧ (∀ w, 8 * w + 8 ≤ e.addr ∨ e.addr + e.bytes.length ≤ 8 * w →
          (w ∈ (coreOf t c).poison ↔ w ∈ (coreOf s c).poison))
      ∧ (∀ a, byteView (coreOf t c) (some e.thread) a = byteView (coreOf s c) (some e.thread) a))


/-! ### Scalar floating point -/

/-- What a scalar floating-point instruction does whose result `put` writes and which raises the exceptions `fl`: with none
of them enabled in `FP_CTRL`[7:3] the result is written and the flags are set; with one enabled the instruction faults with
`0x0A`, the flags set and nothing written (R104). `note` is what completion adds. -/
def fpDoes (i : Instr) (h : Hart) (put : Thread → Thread) (fl : BitVec 5) (s : State) (note : State → State := id) : Prop :=
  let hot := fl &&& (thread s h).fpCtrl.extractLsb' 3 5
  (hot = 0 → exec i s = .next (note (after h 4 (fun u => putFlags fl (put u)) s)))
  ∧ (hot ≠ 0 → faults (exec i s) h 0x0A (hot.setWidth 64) (modTh s h (putFlags fl)))

/-- The rounding mode that `FP_CTRL`[2:0] names (R104). -/
def mode32 (t : Thread) : RM :=
  match t.fpCtrl.toNat % 8 with | 0 => .rne | 1 => .rz | 2 => .ru | 3 => .rd | _ => .rna

/-- The operand bits: a general register, or its low half for FP32 (R90). -/
def operand (f : FpFmt) (x : Word) : Nat := match f with | .d => x.toNat | .s => x.toNat % 2 ^ 32

/-- Scalar floating point writes the IEEE result of its operands in the rounding mode in force, sets the flags of the exceptions
it raises, or faults with `0x0A` (R104). The NaN and out-of-range results of `FCVTI` and `FCVTU` are free values (log 10), and
the class order of `FCLASS` is the model's (log 9). -/
def Obligations.ScalarFloatingPointResults : Prop :=
  ∀ (h : Hart) (p q : Fin 8) (f : FpFmt) (c : FcmpCond) (d a b : Fin 32) (s : State), Runs h p 4 s →
    let t := thread s h
    let F := scalarFmt f
    let rm := mode32 t
    let x := operand f (gReg t a)
    let y := operand f (gReg t b)
    let z := operand f (gReg t d)
    let g := fun (i : Instr) (r : Nat × BitVec 5) => fpDoes i h (putG d (BitVec.ofNat 64 r.1)) r.2 s
    g (.fadd h p f d a b) (fpAdd F rm x y) ∧ g (.fsub h p f d a b) (fpSub F rm x y)
    ∧ g (.fmul h p f d a b) (fpMul F rm x y) ∧ g (.fdiv h p f d a b) (fpDiv F rm x y)
    ∧ g (.fsqrt h p f d a) (fpSqrt F rm x)
    ∧ g (.fma h p f d a b) (fpFma F rm false x y z) ∧ g (.fnma h p f d a b) (fpFma F rm true x y z)
    ∧ g (.fmin h p f d a b) (fpMinMax F false x y) ∧ g (.fmax h p f d a b) (fpMinMax F true x y)
    ∧ g (.fabs h p f d a) (x % signBit F, 0)
    ∧ g (.fneg h p f d a) (x % signBit F + (1 - x / signBit F) * signBit F, 0)
    ∧ g (.fcvt h p f d a) (fpConv F (match f with | .d => fp32 | .s => fp64) rm x)
    ∧ g (.icvtf h p f d a) (fround F rm (ofInt (gReg t a).toInt))
    ∧ g (.ucvtf h p f d a) (fround F rm (ofInt (gReg t a).toNat))
    ∧ g (.fclass h p f d a) (2 ^ fpClass F x, 0)
    ∧ (∃ r fl, g (.fcvti h p f d a) (r, fl) ∧ ∀ i, (toInt rm (-(2 ^ 63)) (2 ^ 63 - 1) (fdecode F x)).1 = some i →
        r = (BitVec.ofInt 64 i).toNat)
    ∧ (∃ r fl, g (.fcvtu h p f d a) (r, fl) ∧ ∀ i, (toInt rm 0 (2 ^ 64 - 1) (fdecode F x)).1 = some i →
        r = (BitVec.ofInt 64 i).toNat)
    ∧ fpDoes (.fcmp h p c f q a b) h (putP q (fpCmp F c x y).1) (fpCmp F c x y).2 s

/-- 2^e, and the number that a sign, a magnitude and an exponent stand for. -/
def pow2 (e : Int) : Rat := if 0 ≤ e then ((2 ^ e.toNat : Nat) : Rat) else 1 / ((2 ^ (-e).toNat : Nat) : Rat)
def ratio (neg : Bool) (m : Nat) (e : Int) : Rat := (if neg then -1 else 1) * (m : Rat) * pow2 e

/-- The number a finite code stands for. -/
def numberOf (f : FFmt) (c : Nat) : Option Rat :=
  match fdecode f c with | .fin n m e => some (ratio n m e) | _ => none

def away (x y : Rat) : Rat := if x ≤ y then y - x else x - y

/-- `y`, with the code `c`, is what rounding mode `rm` of R104 makes of `v` among the finite numbers of the format. -/
def roundsTo (f : FFmt) (rm : RM) (v y : Rat) (c : Nat) : Prop :=
  match rm with
  | .rne => ∀ k z, numberOf f k = some z → away v y ≤ away v z ∧ (z ≠ y → away v y = away v z → c % 2 = 0)
  | .rna => ∀ k z, numberOf f k = some z → away v y ≤ away v z ∧ (away v y = away v z → away 0 z ≤ away 0 y)
  | .rz => away 0 y ≤ away 0 v ∧ ∀ k z, numberOf f k = some z → away 0 z ≤ away 0 v → away 0 z ≤ away 0 y
  | .ru => v ≤ y ∧ ∀ k z, numberOf f k = some z → v ≤ z → y ≤ z
  | .rd => y ≤ v ∧ ∀ k z, numberOf f k = some z → z ≤ v → z ≤ y
  | .sr _ => False

/-- As `roundsTo`, for the square root of `a`, which need not be rational. -/
def rootTo (f : FFmt) (rm : RM) (a y : Rat) : Prop :=
  match rm with
  | .rz | .rd => y * y ≤ a ∧ ∀ k z, numberOf f k = some z → z * z ≤ a → z ≤ y
  | .ru => a ≤ y * y ∧ ∀ k z, numberOf f k = some z → 0 ≤ z → a ≤ z * z → y ≤ z
  | .rne | .rna => ∀ k z, numberOf f k = some z → 0 ≤ z →
      (y < z → 4 * a ≤ (y + z) * (y + z)) ∧ (z < y → (y + z) * (y + z) ≤ 4 * a)
  | .sr _ => False

/-- A result with the exceptions it raises: unless it overflows it is a finite number that rounds `v`, and it is inexact exactly
when it is not `v`. -/
def rounded (f : FFmt) (rm : RM) (v : Rat) (r : Nat × BitVec 5) : Prop :=
  r.2 &&& fOF = 0 → ∃ y, numberOf f r.1 = some y ∧ roundsTo f rm v y r.1 ∧ (r.2 &&& fNX = 0 ↔ y = v)

/-- What scalar arithmetic gives for finite operands is the exact sum, difference, product, quotient, fused result or root,
or the exact number converted, rounded once in the mode in force, to FP32 or FP64 with subnormals, where it does not
overflow; and it raises inexact exactly when it is not that number (R104). -/
def Obligations.ResultsAreRoundedCorrectly : Prop :=
  ∀ (g : FpFmt) (rm : RM) (x y z : Nat) (a b c : Rat),
    rm ∈ [RM.rne, .rz, .ru, .rd, .rna] →
    let f := scalarFmt g
    let other := match g with | .d => fp32 | .s => fp64
    numberOf f x = some a → numberOf f y = some b → numberOf f z = some c →
      rounded f rm (a + b) (fpAdd f rm x y) ∧ rounded f rm (a - b) (fpSub f rm x y)
      ∧ rounded f rm (a * b) (fpMul f rm x y) ∧ (b ≠ 0 → rounded f rm (a / b) (fpDiv f rm x y))
      ∧ rounded f rm (a * b + c) (fpFma f rm false x y z) ∧ rounded f rm (c - a * b) (fpFma f rm true x y z)
      ∧ (0 ≤ a → ∃ q, numberOf f (fpSqrt f rm x).1 = some q ∧ 0 ≤ q ∧ rootTo f rm a q
          ∧ ((fpSqrt f rm x).2 &&& fNX = 0 ↔ q * q = a))
      ∧ rounded other rm a (fpConv f other rm x)
      ∧ ∀ i : Int, rounded f rm (i : Rat) (fround f rm (ofInt i))

/-! ### System instructions, handlers, events and waits -/

/-- `NOP` does nothing; `FENCE` completes when its scope holds and otherwise makes its thread wait (R106); `HOLD` opens a hold
of n cycles, closes an entry hold in favour of its own, and never lengthens an open one (R144); `RETT` ends the hold and
resumes at `RET_PC` in the mode it holds (R142). -/
def Obligations.SystemInstructionsComplete : Prop :=
  ∀ (h : Hart) (p scope : Fin 8) (n : BitVec 17) (s : State),
    let t := thread s h
    let put := fun len f => Host.Outcome.next (after h len f s)
    (Runs h p 4 s → exec (.nop h p) s = put 4 id)
    ∧ (Runs h p 4 s → (scope.val % 2 = 1 → ∀ e ∈ (coreOf s h.core).stores, e.thread ≠ h.thread) →
        (4 ≤ scope.val → moverBusy (coreOf s h.core) h.thread = false) → exec (.fence h p scope) s = put 4 id)
    ∧ (Runs h p 4 s →
        (scope.val % 2 = 1 ∧ ∃ e ∈ (coreOf s h.core).stores, e.thread = h.thread)
          ∨ (4 ≤ scope.val ∧ moverBusy (coreOf s h.core) h.thread = true) →
        exec (.fence h p scope) s = .next (modTh (rotate h s) h fun u => { u with run := .waiting (.fence scope) }))
    ∧ (Runs h 0 4 s → t.mode = true →
        exec (.rett h) s = .next (modTh (rotate h s) h fun u =>
          { u with hold := none, mode := t.retPc.getLsbD 16, pc := (t.retPc.setWidth 16).setWidth 17 })
        ∧ (1 ≤ n.toNat → n.toNat ≤ 512 →
          (t.hold = none ∨ (∃ x, t.hold = some x ∧ x.entry = true) →
            exec (.hold h n) s = put 4 (fun u => { u with hold := some ⟨s.clock.now + n.toNat, false, n.toNat = 1⟩ }))
          ∧ (∀ x, t.hold = some x → x.entry = false →
            exec (.hold h n) s = put 4 (fun u =>
              { u with hold := some ⟨min x.deadline (s.clock.now + n.toNat), false, n.toNat = 1 ∨ x.one = true⟩ }))))

/-- A thread that waits, is held, is halted or enters a handler issues nothing: its instruction changes nothing. Nor does a
thread issue while an urgent thread of its core is ready and has not stalled (R124, R125), or while a thread before it in
the rotation is (R124). A reserved encoding traps with `0x01`; `ERR_INFO` holds the word, or the compact halfword with bit
32 set. In task mode `RETT`, `HOLD`, `CLOAD` and `CREAD` fault with `0x02`, the instruction in `ERR_INFO`, and do nothing
else (R133). -/
def Obligations.InstructionsThatMayNotIssue : Prop :=
  (∀ (i : Instr) (h : Hart) (p : Fin 8) (len : Nat) (s : State),
    slot i = some (h, p, len) →
      ((thread s h).run ≠ .ready ∨ (thread s h).debugHalt = true → exec i s = .next s)
      ∧ (∀ u : Fin 4, u ≠ h.thread → thOf (coreOf s h.core) u = { thOf (coreOf s h.core) u with run := .ready, debugHalt := false } →
        (coreOf s h.core).passed = [] →
        urgentOf (coreOf s h.core) = some u
          ∨ (urgentOf (coreOf s h.core) = none ∧ (u - (coreOf s h.core).rot).val < (h.thread - (coreOf s h.core).rot).val) →
        exec i s = .next s))
  ∧ (∀ (h : Hart) (w : BitVec 32) (s : State), decodeWord h w = none →
    CanIssue h (if w.getLsbD 0 then 4 else 2) s →
      faults (exec (.reservedEncoding h w) s) h 0x01
        (if w.getLsbD 0 then w.setWidth 64 else BitVec.ofNat 64 (w.toNat % 2 ^ 16 + 2 ^ 32)) s)
  ∧ (∀ (i : Instr) (h : Hart) (p : Fin 8) (n : BitVec 17) (d a b : Fin 32) (w : Nat) (s : State),
    i ∈ [Instr.rett h, .hold h n, .cload h p d a b, .cread h p d a b] → i.wf = true → encode i = some (4, w) →
    Runs h p 4 s → (thread s h).mode = false →
      faults (exec i s) h 0x02 (BitVec.ofNat 64 w) s)

/-- `TRAP` faults with `0x09`, n in `ERR_INFO`, its own address in `ERR_PC` and the next instruction's as the address to
return to; so does `TRAP16` with its 7 bits (R114; that address is kept in 17 bits, and `RET_PC` keeps 16 of them, log 24).
All numbers act alike. A thread at an instruction boundary, or waiting
on a `FENCE` or an `OUT`, with no hold open and no deferred fault, takes its lowest pending event whose `TAKE` bit is set:
its pending bit is cleared, and the thread enters through entry 64 + e to return to where it stands, a `TLD` or `TST` under
way there at its row 0 (R132, R136, R140). With an
open hold, or with no such event, nothing happens. A thread enters a handler as the pseudocode of R142 states: the core's
store buffer drains; the entry is read at `TRAP_BASE` + 8 × vec; with the entry in local memory, readable, valid and even,
`RET_PC` takes the restart address and the mode, the thread is in supervisor mode at the handler, and the entry hold of 32
cycles is open; otherwise the thread halts. -/
def Obligations.TrapsEventsAndHandlerEntries : Prop :=
  (∀ (h : Hart) (p : Fin 8) (n : BitVec 8) (k : BitVec 7) (s : State),
    let traps := fun (len x : Nat) => modTh (rotate h s) h fun t =>
      { t with
        errCause := 0x009 ||| (if t.errCause.getLsbD 8 || t.evPending.getLsbD 5 then 0x100 else 0)
        errPc := t.pc
        errInfo := BitVec.ofNat 64 x
        run := .entering 9 (t.pc + BitVec.ofNat 17 len) }
    let does := fun (i : Instr) (len x : Nat) =>
      ((thread s h).hold = none → exec i s = .next (traps len x))
      ∧ ((thread s h).hold.isSome = true → ∃ t, exec i s = .next t ∧ thread t h = { thread (traps len x) h with run := .halted })
    (Runs h p 4 s → does (.trap h p n) 4 n.toNat) ∧ (Runs h 0 2 s → does (.trap16 h k) 2 k.toNat))
  ∧ (∀ (h : Hart) (e : Fin 8) (s : State),
    let t := thread s h
    let due := fun k : Nat => t.evPending.getLsbD k && t.evEnable.getLsbD (8 + k)
    (t.debugHalt = false → t.deferredFault = none → t.hold = none →
      (t.run = .ready ∨ (∃ n, t.run = .waiting (.fence n)) ∨ ∃ a v n, t.run = .waiting (.portWrite a v n)) →
      due e.val = true → (∀ k < e.val, due k = false) →
      exec (.eventTaken h) s = .next (modTh (modCore s h.core (dropRows h.thread)) h fun u =>
        { u with evPending := u.evPending &&& ~~~ (1#8 <<< e.val), run := .entering (BitVec.ofNat 7 (64 + e.val)) u.pc }))
    ∧ (t.hold.isSome = true ∨ (∀ k < 8, due k = false) → exec (.eventTaken h) s = .next s))
  ∧ (∀ (h : Hart) (vec : BitVec 7) (restart : BitVec 17) (s : State), (thread s h).run = .entering vec restart →
    let a := (coreOf s h.core).trapBase.toNat + 8 * vec.toNat
    let c := drainAll (coreOf s h.core)
    let e := fun i => (mget c.mem (a + i)).toNat
    let good := a + 7 < 0xC0000 ∧ a / 8 ∉ c.poison ∧ e 2 % 2 = 1 ∧ e 0 % 2 = 0
    (good → exec (.handlerEntry h) s = .next (modTh (modCore (newSlot h.core s) h.core drainAll) h fun t =>
      { t with
        retPc := (if t.mode then 0x10000 else 0) ||| BitVec.ofNat 17 (restart.toNat % 2 ^ 16)
        mode := true
        pc := BitVec.ofNat 17 (e 0 + 256 * e 1)
        hold := some ⟨s.clock.now + 32, true, false⟩
        run := .ready }))
    ∧ (¬ good → ∃ t, exec (.handlerEntry h) s = .next t ∧ (thread t h).run = .halted))

/-- A fence's wait ends when its scope holds, and a wait for the resolution of a group when the core has none open (R106, R226).
A hold, a timer and a breakpoint do what R144, R115 and R128 say when their moment comes: a spent hold that is no entry hold and
not of one cycle is counted; an expired timer raises E3; a match raises E6. -/
def Obligations.WaitsHoldsAndTimersEnd : Prop :=
  ∀ (h : Hart) (scope : Fin 8) (x : Hold) (n : Nat) (s : State),
    let t := thread s h
    (t.run = .waiting (.fence scope) → t.debugHalt = false → fenceHolds (coreOf s h.core) h.thread scope = true →
      exec (.waitComplete h) s = .next (modTh s h fun u => { u with pc := u.pc + 4, run := .ready }))
    ∧ (t.run = .waiting .resolution → t.debugHalt = false → (coreOf s h.core).group = none →
      exec (.waitComplete h) s = .next (modTh s h fun u => { u with run := .ready }))
    ∧ (t.hold = some x → ∃ r, exec (.holdExpiry h) s = .next r ∧ r.clock.now = max s.clock.now x.deadline
      ∧ thread r h = { t with hold := none }
      ∧ tget 0 r.counters (ctrCore h.core.val 4)
          = (if x.entry ∨ x.one then id else (satAdd · 1)) (tget 0 s.counters (ctrCore h.core.val 4)))
    ∧ (t.timer = some n → ∃ r, exec (.timerExpiry h) s = .next r ∧ r.clock.now = max s.clock.now n
      ∧ thread r h = { t with timer := none, expired := some (BitVec.ofNat 24 r.clock.cycle),
                              evPending := t.evPending ||| 0x08 })
    ∧ (t.breakpoints.contains (t.pc.setWidth 16) = true ∨ t.watchpoints ≠ [] →
      exec (.breakpointMatch h) s = .next (modTh s h fun u => { u with evPending := u.evPending ||| 0x40 }))

/-! ### Block repeat -/

/-- The ascending copy of `n` elements of `k` bytes from `a` to `d`, element by element (R108, R111). -/
def copyUp (k : Nat) : Nat → Nat → Nat → (Nat → Byte) → Nat → Byte
  | 0, _, _, v => v
  | n + 1, d, a, v => copyUp k n (d + k) (a + k) fun x => if d ≤ x ∧ x < d + k then v (a + (x - d)) else v x

/-- The thread after an issue slot of a block-repeat operation: the three registers at these values, and the PC moved past the
instruction where the operation is at its `last` slot, else as it was. -/
def blockEnds (last : Prop) [Decidable last] (h : Hart) (d a b : Fin 32) (x y z : Word) (s t : State) : Prop :=
  gReg (thread t h) d = x ∧ gReg (thread t h) a = y ∧ gReg (thread t h) b = z
  ∧ (∀ r, r ≠ d → r ≠ a → r ≠ b → gReg (thread t h) r = gReg (thread s h) r)
  ∧ { thread t h with g := [] } = { (if last then advPc 4 (thread s h) else thread s h) with g := [] }
  ∧ (∀ k : Hart, k ≠ h → thread t k = thread s k) ∧ onlyCore h s t

/-- A block-repeat operation that meets no fault and no event moves, in each of its thread's issue slots, its next 64 bytes
or what is left of them, in ascending order, and leaves gD, gA and gB past the last element moved; with the last element the
PC moves past the instruction, and until then it names it, so that other threads' stores and an event can come between
slots (that a slot moves all of min(B, 64/k) elements is the model's choice,
  log 13). A comparison or scan stops at the first mismatch or hit, its registers at that element (R108–R111). A count of 0
completes with no access. `CLOAD` writes code and `CREAD` reads it (R91, R112). With an event to be taken no element moves,
and the thread enters the event's handler, to return to the operation (R109, R136). -/
def Obligations.BlockRepeatRunsToItsEnd : Prop :=
  ∀ (h : Hart) (p : Fin 8) (z : ElemSize) (d a b : Fin 32) (s : State), distinct3 d a b = true →
    Runs h p 4 s →
    let k := elemBytes z
    let D := gReg (thread s h) d
    let A := gReg (thread s h) a
    let B := gReg (thread s h) b
    let n := min B.toNat (64 / k)
    let c := min B.toNat 64
    let fits := fun (x : Word) (len top : Nat) => B = 0 ∨ x.toNat + len ≤ top
    let past := fun (x : Word) (len : Nat) => x + BitVec.ofNat 64 len
    let elem := fun (x : Word) j => numberAt s h (x.toNat + k * j) k
    let codeSame := fun t => (coreOf t h.core).code = (coreOf s h.core).code
    (takeable (thread s h) = [] →
      (D.toNat % k = 0 → A.toNat % k = 0 → fits D (k * n) 0xC0000 → fits A (k * n) 0xC0000 →
        unmarked s h A.toNat (k * n) →
        (∃ t, exec (.smove h p z d a b) s = .next t
          ∧ blockEnds (n = B.toNat) h d a b (past D (k * n)) (past A (k * n)) (B - BitVec.ofNat 64 n) s t
          ∧ codeSame t ∧ ∀ x, sees t h x = copyUp k n D.toNat A.toNat (sees s h) x)
        ∧ (unmarked s h D.toNat (k * n) →
          ∃ t j, exec (.scmp h p z d a b) s = .next t ∧ j ≤ n ∧ (∀ i < j, elem D i = elem A i)
            ∧ (j < n → elem D j ≠ elem A j) ∧ codeSame t ∧ (∀ x, sees t h x = sees s h x)
            ∧ blockEnds (j = B.toNat ∨ j < n) h d a b (past D (k * j)) (past A (k * j)) (B - BitVec.ofNat 64 j) s t))
      ∧ (D.toNat % k = 0 → fits D (k * n) 0xC0000 →
        (∃ t, exec (.sfill h p z d a b) s = .next t ∧ codeSame t
          ∧ blockEnds (n = B.toNat) h d a b (past D (k * n)) A (B - BitVec.ofNat 64 n) s t
          ∧ (∀ j < n, numberAt t h (D.toNat + k * j) k = A.toNat % 256 ^ k)
          ∧ ∀ x, x < D.toNat ∨ D.toNat + k * n ≤ x → sees t h x = sees s h x)
        ∧ (unmarked s h D.toNat (k * n) →
          (∃ t j, exec (.sscan h p z d a b) s = .next t ∧ j ≤ n ∧ (∀ i < j, elem D i ≠ A.toNat % 256 ^ k)
            ∧ (j < n → elem D j = A.toNat % 256 ^ k) ∧ codeSame t ∧ (∀ x, sees t h x = sees s h x)
            ∧ blockEnds (j = B.toNat ∨ j < n) h d a b (past D (k * j)) A (B - BitVec.ofNat 64 j) s t)
          ∧ (∃ t j, exec (.sscann h p z d a b) s = .next t ∧ j ≤ n ∧ (∀ i < j, elem D i = A.toNat % 256 ^ k)
            ∧ (j < n → elem D j ≠ A.toNat % 256 ^ k) ∧ codeSame t ∧ (∀ x, sees t h x = sees s h x)
            ∧ blockEnds (j = B.toNat ∨ j < n) h d a b (past D (k * j)) A (B - BitVec.ofNat 64 j) s t)))
      ∧ ((thread s h).mode = true → D.toNat % 4 = 0 → A.toNat % 4 = 0 → B.toNat % 4 = 0 →
        (fits D c 0x10000 → fits A c 0xC0000 → unmarked s h A.toNat c → (coreOf s h.core).code.wf = true →
          ∃ t, exec (.cload h p d a b) s = .next t
            ∧ blockEnds (c = B.toNat) h d a b (past D c) (past A c) (B - BitVec.ofNat 64 c) s t
            ∧ (∀ i < c, mget (coreOf t h.core).code (D.toNat + i) = sees s h (A.toNat + i))
            ∧ (∀ x, x < D.toNat ∨ D.toNat + c ≤ x → mget (coreOf t h.core).code x = mget (coreOf s h.core).code x)
            ∧ ∀ x, sees t h x = sees s h x)
        ∧ (fits A c 0x10000 → fits D c 0xC0000 →
            (∀ w ∈ (coreOf s h.core).codePoison, 8 * w + 8 ≤ A.toNat ∨ A.toNat + c ≤ 8 * w) →
          ∃ t, exec (.cread h p d a b) s = .next t ∧ codeSame t
            ∧ blockEnds (c = B.toNat) h d a b (past D c) (past A c) (B - BitVec.ofNat 64 c) s t
            ∧ (∀ i < c, sees t h (D.toNat + i) = mget (coreOf s h.core).code (A.toNat + i))
            ∧ ∀ x, x < D.toNat ∨ D.toNat + c ≤ x → sees t h x = sees s h x)))
    ∧ (takeable (thread s h) ≠ [] → (thread s h).deferredFault = none → B ≠ 0 → D.toNat % k = 0 → A.toNat % k = 0 →
      ∀ i ∈ [Instr.smove h p z d a b, .scmp h p z d a b, .sfill h p z d a b, .sscan h p z d a b, .sscann h p z d a b],
        ∃ r v, exec i s = .next r ∧ (thread r h).run = .entering v (thread s h).pc ∧ (thread r h).pc = (thread s h).pc
          ∧ (thread r h).g = (thread s h).g ∧ codeSame r ∧ ∀ x, sees r h x = sees s h x)

/-! ### Vector unit -/

/-- Element `i` of `b` bits of a 64-byte value, as a number and as a signed one. -/
def piece (x : BitVec 512) (b i : Nat) : Nat := x.toNat / 2 ^ (b * i) % 2 ^ b
def signed (b x : Nat) : Int := (BitVec.ofNat b x).toInt

/-- Lane `i` of `w` bytes is active: the mask is m0, or its bit w × i is set (R149). -/
def laneOn (t : Thread) (m : Fin 8) (w i : Nat) : Prop := m = 0 ∨ (mReg t m).getLsbD (w * i) = true

/-- What an instruction puts into vD that gives the value `f` to each of the first `n` elements of `b` bits whose mask lane of
`w` bytes is active, leaves the others and the bits above them as they were, and marks vD as its sources are, or as vD was
under a mask (R149, R155, R159). -/
def lanesOf (t : Thread) (m : Fin 8) (w b n : Nat) (d : Fin 32) (srcs : List (Fin 32)) (f : Nat → Nat) (x : Marked) : Prop :=
  (∀ i < n, laneOn t m w i → piece x.data b i = f i % 2 ^ b)
  ∧ (∀ i < n, ¬ laneOn t m w i → piece x.data b i = piece (vReg t d).data b i)
  ∧ x.data.toNat / 2 ^ (b * n) = (vReg t d).data.toNat / 2 ^ (b * n)
  ∧ (x.poison = true ↔ (∃ i ∈ srcs, (vReg t i).poison = true) ∨ (m ≠ 0 ∧ (vReg t d).poison = true))

/-- An instruction whose result carries no mark logs `0x21`, with its PC, when a source is marked (R160). -/
def noted (h : Hart) (srcs : List (Fin 32)) (s t : State) : State :=
  if srcs.any (fun i => (vReg (thread s h) i).poison) then
    logCore h.core h.thread 0x21 ((thread s h).pc.setWidth 64) t else t

/-- The vector integer instructions combine the lanes of vA and vB in 8w bits, wrapping; compares write a mask whose active
lanes are all ones where the comparison holds, and zero everywhere else (R150, R152). -/
def Obligations.VectorIntegerLanes : Prop :=
  ∀ (h : Hart) (p m dm : Fin 8) (w : LaneW) (d a b : Fin 32) (s : State), Runs h p 4 s →
    let t := thread s h
    let n := 8 * laneBytes w
    let x := fun i => piece (vReg t a).data n i
    let y := fun i => piece (vReg t b).data n i
    let v := fun (i : Instr) (f : Nat → Nat → Nat) =>
      ∃ r, lanesOf t m (laneBytes w) n (64 / laneBytes w) d [a, b] (fun k => f (x k) (y k)) r
        ∧ exec i s = .next (after h 4 (putV d r) s)
    let c := fun (i : Instr) (f : Nat → Nat → Prop) =>
      ∃ r : Word, (∀ k < 64 / laneBytes w, ∀ j < laneBytes w,
          (r.getLsbD (laneBytes w * k + j) = true ↔ laneOn t m (laneBytes w) k ∧ f (x k) (y k)))
        ∧ exec i s = .next (noted h [a, b] s (after h 4 (putM dm r) s))
    v (.vadd h p w m d a b) (fun x y => x + y) ∧ v (.vsub h p w m d a b) (fun x y => x + (2 ^ n - y))
    ∧ v (.vmul h p w m d a b) (fun x y => x * y)
    ∧ v (.vmin h p w m d a b) (fun x y => if signed n x < signed n y then x else y)
    ∧ v (.vmax h p w m d a b) (fun x y => if signed n x < signed n y then y else x)
    ∧ v (.vminu h p w m d a b) (fun x y => if x < y then x else y)
    ∧ v (.vmaxu h p w m d a b) (fun x y => if x < y then y else x)
    ∧ v (.vand h p w m d a b) (fun x y => x &&& y) ∧ v (.vor h p w m d a b) (fun x y => x ||| y)
    ∧ v (.vxor h p w m d a b) (fun x y => x ^^^ y)
    ∧ v (.vshl h p w m d a b) (fun x y => x <<< (y % n)) ∧ v (.vshr h p w m d a b) (fun x y => x >>> (y % n))
    ∧ v (.vsar h p w m d a b) (fun x y => ((BitVec.ofNat n x).sshiftRight (y % n)).toNat)
    ∧ c (.vcmpeq h p w m dm a b) (fun x y => x = y)
    ∧ c (.vcmplt h p w m dm a b) (fun x y => signed n x < signed n y)
    ∧ c (.vcmpltu h p w m dm a b) (fun x y => x < y)

/-- The vector floating-point instructions give each active lane the scalar result of its elements, raise the exceptions of the
active lanes together, and trap with nothing written when one of them is enabled (R149, R150, R153). -/
def Obligations.VectorFloatingPointLanes : Prop :=
  ∀ (h : Hart) (p m dm : Fin 8) (f : FpFmt) (d a b : Fin 32) (s : State), Runs h p 4 s →
    let t := thread s h
    let w := fmtBytes f
    let F := scalarFmt f
    let rm := mode32 t
    let x := fun i => piece (vReg t a).data (8 * w) i
    let y := fun i => piece (vReg t b).data (8 * w) i
    let z := fun i => piece (vReg t d).data (8 * w) i
    let raised := fun (g : Nat → BitVec 5) (fl : BitVec 5) =>
      ∀ k, fl.getLsbD k = true ↔ ∃ i < 64 / w, laneOn t m w i ∧ (g i).getLsbD k = true
    let v := fun (i : Instr) (srcs : List (Fin 32)) (g : Nat → Nat × BitVec 5) =>
      ∃ r fl, lanesOf t m w (8 * w) (64 / w) d srcs (fun k => (g k).1) r ∧ raised (fun k => (g k).2) fl
        ∧ fpDoes i h (putV d r) fl s
    let c := fun (i : Instr) (cond : FcmpCond) =>
      ∃ (r : Word) (fl : BitVec 5),
        (∀ k < 64 / w, ∀ j < w, (r.getLsbD (w * k + j) = true ↔ laneOn t m w k ∧ (fpCmp F cond (x k) (y k)).1 = true))
        ∧ raised (fun k => (fpCmp F cond (x k) (y k)).2) fl ∧ fpDoes i h (putM dm r) fl s (noted h [a, b] s)
    v (.vfadd h p f m d a b) [a, b] (fun i => fpAdd F rm (x i) (y i))
    ∧ v (.vfsub h p f m d a b) [a, b] (fun i => fpSub F rm (x i) (y i))
    ∧ v (.vfmul h p f m d a b) [a, b] (fun i => fpMul F rm (x i) (y i))
    ∧ v (.vfdiv h p f m d a b) [a, b] (fun i => fpDiv F rm (x i) (y i))
    ∧ v (.vfsqrt h p f m d a) [a] (fun i => fpSqrt F rm (x i))
    ∧ v (.vfma h p f m d a b) [a, b, d] (fun i => fpFma F rm false (x i) (y i) (z i))
    ∧ v (.vfnma h p f m d a b) [a, b, d] (fun i => fpFma F rm true (x i) (y i) (z i))
    ∧ v (.vfmin h p f m d a b) [a, b] (fun i => fpMinMax F false (x i) (y i))
    ∧ v (.vfmax h p f m d a b) [a, b] (fun i => fpMinMax F true (x i) (y i))
    ∧ v (.vfabs h p f m d a) [a] (fun i => (x i % signBit F, 0))
    ∧ v (.vfneg h p f m d a) [a] (fun i => (x i % signBit F + (1 - x i / signBit F) * signBit F, 0))
    ∧ c (.vfcmpeq h p f m dm a b) .eq ∧ c (.vfcmplt h p f m dm a b) .lt
    ∧ c (.vfcmple h p f m dm a b) .le ∧ c (.vfcmpun h p f m dm a b) .un

/-- `n` draws of the stochastic-rounding generator. -/
def drawsOn : Nat → Word → Word
  | 0, x => x
  | n + 1, x => srNext (drawsOn n x)

/-- The conversions between element formats (R155, R156, R184–R186): elements at the bottom of vD, each governed by its mask
lane; an invalid T2 code gives 0 and the mark, or faults with `0x14` and its element under `T2_POLICY` 1; stochastic rounding
takes one draw for each active element in ascending order. -/
def Obligations.VectorConversions : Prop :=
  ∀ (h : Hart) (p m : Fin 8) (f : Fin 16) (d a : Fin 32) (s : State), Runs h p 4 s →
    let t := thread s h
    let rm := mode32 t
    let e := fun b i => piece (vReg t a).data b i
    let raised := fun w n (g : Nat → BitVec 5) (fl : BitVec 5) =>
      ∀ k, fl.getLsbD k = true ↔ ∃ i < n, laneOn t m w i ∧ (g i).getLsbD k = true
    let v := fun (i : Instr) w b n (g : Nat → Nat × BitVec 5) =>
      ∃ r fl, lanesOf t m w b n d [a] (fun k => (g k).1) r ∧ raised w n (fun k => (g k).2) fl ∧ fpDoes i h (putV d r) fl s
    let bad := fun w n i => i < n ∧ laneOn t m w i ∧ e 2 i = 2
    let t2 := fun (i : Instr) w b n (g : Int → Nat) =>
      (t.t2Policy = false ∨ (∀ k, ¬ bad w n k) → ∃ r, exec i s = .next (after h 4 (putV d r) s)
        ∧ lanesOf t m w b n d [a] (fun k => if e 2 k = 2 then g 0 else g (signed 2 (e 2 k)))
            ⟨r.data, (vReg t a).poison || (decide (m ≠ 0) && (vReg t d).poison)⟩
        ∧ (r.poison = true ↔ (vReg t a).poison = true ∨ (m ≠ 0 ∧ (vReg t d).poison = true) ∨ ∃ k, bad w n k))
      ∧ (∀ k, t.t2Policy = true → bad w n k → (∀ j < k, ¬ bad w n j) →
          faults (exec i s) h 0x14 (BitVec.ofNat 64 k) s)
    v (.vcvtis h p m d a) 4 32 16 (fun i => fpToIntSat fp32 32 rm (e 32 i))
    ∧ v (.vcvtsi h p m d a) 4 32 16 (fun i => fround fp32 rm (ofInt (signed 32 (e 32 i))))
    ∧ v (.vcvtld h p m d a) 8 64 8 (fun i => fpToIntSat fp64 64 rm (e 64 i))
    ∧ v (.vcvtdl h p m d a) 8 64 8 (fun i => fround fp64 rm (ofInt (signed 64 (e 64 i))))
    ∧ v (.vpackt2 h p m d a) 1 2 64 (fun i =>
        (if signed 8 (e 8 i) < 0 then 3 else if signed 8 (e 8 i) = 0 then 0 else 1, 0))
    ∧ t2 (.vunpkt2 h p m d a) 1 8 64 (fun i => (BitVec.ofInt 8 i).toNat)
    ∧ t2 (.vcvts h p 11 m d a) 4 32 16 (fun i => (fround fp32 .rne (ofInt i)).1)
    ∧ v (.vcvts h p 0 m d a) 4 32 16 (fun i => if i < 8 then fpConv fp64 fp32 rm (e 64 i) else (0, 0))
    ∧ (2 ≤ f.val → f.val ≤ 10 → v (.vcvts h p f m d a) 4 32 16 (fun i => widen32 f.val (e (contBits f.val) i)))
    ∧ v (.vcvtf h p 0 false m d a) 4 64 8 (fun i => narrow 0 rm false (fdecode fp32 (e 32 i)))
    ∧ (2 ≤ f.val → f.val ≤ 11 →
        v (.vcvtf h p f false m d a) 4 (contBits f.val) 16 (fun i => narrow f.val rm false (fdecode fp32 (e 32 i)))
        ∧ (∃ (c : Nat → Nat), c 0 = 0 ∧ (∀ i, laneOn t m 4 i → c (i + 1) = c i + 1) ∧ (∀ i, ¬ laneOn t m 4 i → c (i + 1) = c i)
          ∧ ∃ r fl,
            let g := fun i => narrow f.val (.sr ((drawsOn (c i + 1) t.sr).toNat >>> 48)) false (fdecode fp32 (e 32 i))
            lanesOf t m 4 (contBits f.val) 16 d [a] (fun i => (g i).1) r ∧ raised 4 16 (fun i => (g i).2) fl
            ∧ fpDoes (.vcvtf h p f true m d a) h (fun u => { putV d r u with sr := drawsOn (c 16) u.sr }) fl s))

/-- Moves, masks and inspections of vectors and tile rows (R149–R151, R157–R160, R167, R168): `VMOV`, `VBCAST` and `VROTB`
fill the active lanes; `VEXT` and `VINS` move one 64-bit element; `VSEL` chooses bytes by its mask; the mask operations act
on all 64 bits; `VTZ` and `VZBM` look for zero elements; `TINFO` gives descriptors and valid rows; `VTOT` and `VFROMT` move
one row with its mark, and a row that fails parity is poisoned and counted. -/
def Obligations.VectorMovesAndMasks : Prop :=
  ∀ (h : Hart) (p m dm am bm q td : Fin 8) (w : LaneW) (k : Fin 8) (row : Fin 16) (d a b : Fin 32) (s : State), Runs h p 4 s →
    let t := thread s h
    let A := (vReg t a).data
    let old := fun x : Fin 32 => vReg t x
    let v := fun (i : Instr) w (srcs : List (Fin 32)) (f : Nat → Nat) =>
      ∃ r, lanesOf t m w (8 * w) (64 / w) d srcs f r ∧ exec i s = .next (after h 4 (putV d r) s)
    let g := fun x f => Host.Outcome.next (f (after h 4 (putG d x) s))
    v (.vmov h p m d a) 1 [a] (fun i => piece A 8 i)
    ∧ v (.vbcast h p m w d a) (laneBytes w) [] (fun _ => (gReg t a).toNat)
    ∧ v (.vrotb h p m d a b) 1 [a] (fun i => piece A 8 ((i + (gReg t b).toNat % 64) % 64))
    ∧ exec (.vext h p d a k) s = g (BitVec.ofNat 64 (piece A 64 k.val)) (noted h [a] s)
    ∧ (∃ x : BitVec 512, exec (.vins h p d a k) s = .next (after h 4 (putV d ⟨x, (old d).poison⟩) s)
        ∧ ∀ j < 8, piece x 64 j = if j = k.val then (gReg t a).toNat else piece (old d).data 64 j)
    ∧ (∃ x : BitVec 512, exec (.vsel h p m d a b) s = .next (after h 4 (putV d ⟨x, (old a).poison || (old b).poison
          || (decide (m ≠ 0) && (old d).poison)⟩) s)
        ∧ ∀ j < 64, (laneOn t m 1 j → piece x 8 j = piece A 8 j) ∧ (¬ laneOn t m 1 j → piece x 8 j = piece (old b).data 8 j))
    ∧ exec (.mlog h p .and dm am bm) s = .next (after h 4 (putM dm (mReg t am &&& mReg t bm)) s)
    ∧ exec (.mlog h p .or dm am bm) s = .next (after h 4 (putM dm (mReg t am ||| mReg t bm)) s)
    ∧ exec (.mlog h p .xor dm am bm) s = .next (after h 4 (putM dm (mReg t am ^^^ mReg t bm)) s)
    ∧ exec (.mlog h p .andn dm am bm) s = .next (after h 4 (putM dm (mReg t am &&& ~~~ mReg t bm)) s)
    ∧ exec (.mlog h p .not dm am 0) s = .next (after h 4 (putM dm (~~~ mReg t am)) s)
    ∧ exec (.mfromg h p dm a) s = .next (after h 4 (putM dm (gReg t a)) s)
    ∧ exec (.mtog h p d am) s = g (mReg t am) id
    ∧ exec (.vtz h p m q a) s
        = .next (noted h [a] s (after h 4 (putP q ((List.range 64).all fun j =>
            !(decide (m = 0) || (mReg t m).getLsbD j) || decide (piece A 8 j = 0))) s))
    ∧ (2 ≤ k.val → k.val ≤ 6 → ∃ x : Word, exec (.vzbm h p d a k) s = g x (noted h [a] s)
        ∧ ∀ j, x.getLsbD j = true ↔ j < 64 / 2 ^ k.val ∧ piece A (8 * 2 ^ k.val) j = 0)
    ∧ (∀ n : Fin 8, exec (.tinfo h p d (Fin.ofNat 32 n.val)) s = g (descOf t n.val) id
      ∧ ∃ x : Word, exec (.tinfo h p d (Fin.ofNat 32 (16 + n.val))) s = g x id
        ∧ ∀ r, x.getLsbD r = true ↔ r < 16 ∧ (rowOf t (16 * n.val + r)).valid = true)
    ∧ (∃ x : Word, exec (.tinfo h p d 8) s = g x id
        ∧ ∀ n, x.getLsbD n = true ↔ n < 8 ∧ ∃ r < 16, (rowOf t (16 * n + r)).valid = true)
    ∧ (mmaHolds (coreOf s h.core) h.thread [td.val] = false →
        let r : TileRow := ⟨BitVec.ofNat 512 (A.toNat % 2 ^ (8 * dRb (descOf t td.val))), true, (old a).poison, false⟩
        exec (.vtot h p td a row) s = .next (after h 4 (fun u => if row.val < dRows (descOf t td.val) then
          { u with rows := tset u.rows (16 * td.val + row.val) r } else u) s))
    ∧ (let R := rowOf t (16 * td.val + row.val)
       let there := row.val < dRows (descOf t td.val) ∧ R.valid = true
       let x := if there then BitVec.ofNat 512 (R.data.toNat % 2 ^ (8 * dRb (descOf t td.val))) else 0#512
       exec (.vfromt h p d td row []) s = .next (after h 4 (putV d ⟨x, decide there && R.poison⟩) s)
       ∧ (row.val < dRows (descOf t td.val) → R.valid = true →
          ∃ r, exec (.vfromt h p d td row [16 * td.val + row.val]) s = .next r
            ∧ (vReg (thread r h) d).poison = true ∧ (rowOf (thread r h) (16 * td.val + row.val)).poison = true
            ∧ (vReg (thread r h) d).data = lowBytes (rowOf (thread r h) (16 * td.val + row.val)).data (dRb (descOf t td.val))
            ∧ (thread r h).pc = t.pc + 4
            ∧ tget 0 r.counters (ctrDie (dieOf h.core) 10)
              = satAdd (tget 0 s.counters (ctrDie (dieOf h.core) 10)) 1))


/-! ### Tiles and the matrix unit -/

/-- The unsigned number in `n` bytes of local memory. -/
def stored (c : Core) (a n : Nat) : Nat := ((List.range n).map fun i => (mget c.mem (a + i)).toNat * 256 ^ i).sum

/-- A word of the range is marked poisoned in local memory. -/
def marked (c : Core) (a n : Nat) : Prop := ∃ w ∈ c.poison, w * 8 < a + n ∧ a < w * 8 + 8

/-- The thread alone is other than in `s`, but that its core's buffered stores up to its own last one have reached memory
(R171); its PC is past the instruction, and its other state is as it was but for the fields `f` sets. -/
def tileDone (h : Hart) (f : Thread → Thread) (s t : State) : Prop :=
  onlyThread h (modCore s h.core (drainOwn h.thread)) t ∧ f (thread t h) = f (advPc 4 (thread s h))

/-- `TCFG` takes the descriptors of the tiles in its mask from the block and makes their rows invalid (R163–R165); `TREL`
and `AZERO` clear rows and accumulators (R166, R191). `TLD` and `ALD` load rows from local memory past the store buffer,
with the marks of the words read; `TST` and `AST` store them with the marks of the rows (R165, R169, R171, R191). `TLD` and
`TST` move one row in each issue slot of their thread, in order, and the PC moves past them with the last; before each row
an event to be taken goes first, no row moves, and the instruction will begin again at row 0 (R169, R170). -/
def Obligations.TilesAreConfiguredClearedAndMoved : Prop :=
  (∀ (h : Hart) (p : Fin 8) (a : Fin 32) (mask : BitVec 8) (A : Fin 4) (s : State), Runs h p 4 s →
    let t := thread s h
    let x := gReg t a
    let free := mmaHolds (coreOf s h.core) h.thread (maskTiles mask) = false
    let cleared := fun r => ∀ k, rowOf (thread r h) k = if mask.getLsbD (k / 16) then ⟨0, false, false, false⟩ else rowOf t k
    let same := fun (f : Thread → Thread) r => onlyThread h s r ∧ f (thread r h) = f (advPc 4 t)
    (mask ≠ 0 → free → accessible x 64 → unmarked s h x.toNat 64 → badDesc mask (newSet t mask (cfgBlock (coreOf s h.core) h.thread x)) = none →
      ∃ r, exec (.tcfg h p a mask) s = .next r ∧ cleared r ∧ same (fun u => { u with desc := [], rows := [] }) r
        ∧ ∀ n < 8, descOf (thread r h) n
            = if mask.getLsbD n then BitVec.ofNat 64 (numberAt s h (x.toNat + 8 * n) 8) else descOf t n)
    ∧ (free → ∃ r, exec (.trel h p mask) s = .next r ∧ cleared r ∧ same (fun u => { u with rows := [] }) r)
    ∧ (mmaWrites (coreOf s h.core) h.thread [A.val] = false →
      ∃ r, exec (.azero h p A) s = .next r ∧ same (fun u => { u with acc := [] }) r
        ∧ ∀ k, accArch (thread r h) k = if k / 16 = A.val then ⟨0, false⟩ else accArch t k))
  ∧ (∀ (h : Hart) (p d : Fin 8) (A : Fin 4) (a b : Fin 32) (s : State), Runs h p 4 s →
    let t := thread s h
    let c := drainOwn h.thread (coreOf s h.core)
    let x := gReg t a
    let at_ := fun r => (x + BitVec.ofNat 64 r * gReg t b).toNat
    let n := dRows (descOf t d.val)
    let rb := dRb (descOf t d.val)
    let fits := x.toNat % 4 = 0 ∧ (gReg t b).toNat % 4 = 0 ∧ 0 < n ∧ n ≤ 16 ∧ ∀ r < n, at_ r + rb ≤ 0xC0000
    let mem := fun r => (coreOf r h.core).mem
    let next := rowNext (coreOf s h.core) h.thread
    let stays := fun k => if k + 1 < n then t else advPc 4 t
    let goesOn := fun r i k => rowNext (coreOf r h.core) h.thread i = if k + 1 < n then k + 1 else 0
    (fits → takeable t = [] →
      (let i := Instr.tld h p d a b;
        mmaHolds (coreOf s h.core) h.thread [d.val] = false → next i < n →
        ∃ r, exec i s = .next r ∧ onlyCore h s r ∧ (∀ k, k ≠ h.thread → thOf (coreOf r h.core) k = thOf (coreOf s h.core) k)
          ∧ { thread r h with rows := [] } = { stays (next i) with rows := [] } ∧ goesOn r i (next i)
          ∧ { coreOf r h.core with threads := [], rowsAt := [] }
            = { drainOwn h.thread (coreOf (rotate h s) h.core) with threads := [], rowsAt := [] }
          ∧ (∃ m : Bool, (m = true ↔ marked c (at_ (next i)) rb)
              ∧ rowOf (thread r h) (16 * d.val + next i) = ⟨BitVec.ofNat 512 (stored c (at_ (next i)) rb), true, m, false⟩)
          ∧ ∀ k, k ≠ 16 * d.val + next i → rowOf (thread r h) k = rowOf t k)
      ∧ (let i := Instr.tst h p d a b [];
          c.mem.wf = true → next i < n →
          ∃ r, exec i s = .next r ∧ thread r h = stays (next i) ∧ onlyCore h s r ∧ goesOn r i (next i)
          ∧ (∀ j < rb, (mget (mem r) (at_ (next i) + j)).toNat = piece (rowData t d.val (next i)) 8 j)
          ∧ (∀ y, y < at_ (next i) ∨ at_ (next i) + rb ≤ y → mget (mem r) y = mget c.mem y)))
    ∧ (fits → takeable t ≠ [] → t.deferredFault = none → ∀ i ∈ [Instr.tld h p d a b, .tst h p d a b []],
        mmaHolds (coreOf s h.core) h.thread [d.val] = false →
        ∃ r v, exec i s = .next r ∧ (thread r h).run = .entering v t.pc ∧ (thread r h).pc = t.pc
          ∧ (thread r h).rows = t.rows ∧ mem r = (coreOf s h.core).mem ∧ rowNext (coreOf r h.core) h.thread i = 0)
    ∧ (x.toNat % 64 = 0 → x.toNat + 1024 ≤ 0xC0000 → mmaWrites (coreOf s h.core) h.thread [A.val] = false →
      (∃ r, exec (.ald h p A a) s = .next r ∧ tileDone h (fun u => { u with acc := [] }) s r
        ∧ ∀ k, (k < 16 → ∃ m : Bool, (m = true ↔ marked c (x.toNat + 64 * k) 64)
              ∧ accArch (thread r h) (16 * A.val + k) = ⟨BitVec.ofNat 512 (stored c (x.toNat + 64 * k) 64), m⟩)
          ∧ (k / 16 ≠ A.val → accArch (thread r h) k = accArch t k))
      ∧ (c.mem.wf = true → ∃ r, exec (.ast h p A a) s = .next r ∧ thread r h = advPc 4 t ∧ onlyCore h s r
        ∧ (∀ k < 16, ∀ i < 64,
            (mget (mem r) (x.toNat + 64 * k + i)).toNat = piece (accArch t (16 * A.val + k)).data 8 i)
        ∧ (∀ k < 16, ∀ w < 8, (x.toNat / 8 + 8 * k + w ∈ (coreOf r h.core).poison ↔ (accArch t (16 * A.val + k)).poison = true))
        ∧ (∀ y, y < x.toNat ∨ x.toNat + 1024 ≤ y → mget (mem r) y = mget c.mem y))))

/-- Element (i, j) that an `MMA` leaves, from the accumulator's code `c`: the integer, sequential or block contract of its
format (R188, R196). -/
def contract (t : Thread) (sp : Bool) (tm tb ta : Fin 8) (i j c : Nat) : Nat × BitVec 5 :=
  let a := descOf t ta.val
  if accTy (dFmt a) (dScale a) = 1 then (intElem t sp tm.val tb.val ta.val i j c, 0)
  else if dFmt a ≤ 1 then seqElem t tb.val ta.val i j c
  else blockElem t sp tm.val tb.val ta.val i j c

/-- The operands of an `MMA` are ready and the matrix unit is idle. -/
def mmaReady (h : Hart) (sp : Bool) (tm tb ta : Fin 8) (ad : Fin 4) (s : State) : Prop :=
  mmaFault (thread s h) sp tm tb ta ad = none ∧ (sp = true ∨ tm = 0)
  ∧ (coreOf s h.core).mmaRun = none ∧ (coreOf s h.core).mmaWait = none

/-- An `MMA` issues into the waiting place, starts when the unit is free, and completes: each accumulator element with i < M and
j < N takes the contract's result from its old code (`ACC` = 1) or from zero, with minus zero the zero of the floating-point
types; the others keep theirs, and the flags raised are set (R188, R193–R196, R199). A thread that may trap waits until its
`MMA` completes, and takes the trap there with no element written (R200). -/
def Obligations.MmaComputesItsContract : Prop :=
  ∀ (h : Hart) (p : Fin 8) (acc sp : Bool) (tm tb ta : Fin 8) (ad : Fin 4) (s : State),
    Runs h p 4 s → mmaReady h sp tm tb ta ad s →
    let t := thread s h
    let A := descOf t ta.val
    let ty := accTy (dFmt A) (dScale A)
    let old := fun i j => if acc then accElem (accArch t) ad.val ty i j else if ty = 2 then 2 ^ 63 else if ty = 1 then 0 else 2 ^ 31
    let res := fun i j => contract t sp tm tb ta i j (old i j)
    let N := dRows (descOf t tb.val)
    let inside := fun i j => i < dRows A ∧ j < N
    let fits := dRows A ≤ 16 ∧ N ≤ 16
    ∃ s1 s2 s3, exec (.mma h p acc sp tm tb ta ad []) s = .next s1 ∧ exec (.mmaStart h.core) s1 = .next s2
      ∧ exec (.mmaComplete h.core) s2 = .next s3
      ∧ (coreOf s1 h.core).mmaWait.isSome = true ∧ (coreOf s2 h.core).mmaRun = (coreOf s1 h.core).mmaWait
      ∧ (coreOf s2 h.core).mmaWait = none ∧ (coreOf s3 h.core).mmaRun = none
      ∧ (mmaBlocks t ta = false → thread s1 h = advPc 4 t)
      ∧ (mmaBlocks t ta = true → thread s1 h = { t with run := .waiting .mma })
      ∧ (mmaBlocks t ta = false → fits →
          (∀ i < 16, ∀ j < 16, accElem (accArch (thread s3 h)) ad.val ty i j
            = if inside i j then (res i j).1 else accElem (accArch t) ad.val ty i j)
          ∧ (∀ k, (thread s3 h).fpFlags.getLsbD k = true ↔ t.fpFlags.getLsbD k = true
            ∨ ∃ i j, inside i j ∧ (res i j).2.getLsbD k = true)
          ∧ (∀ k, k / 16 ≠ ad.val → (ty = 2 → k / 16 ≠ ad.val + 1) → accArch (thread s3 h) k = accArch t k))
      ∧ (t.t2Policy = false → fits →
          (∃ i j k, inside i j ∧ (res i j).2.getLsbD k = true ∧ t.fpCtrl.getLsbD (3 + k) = true) →
            (t.hold = none → ∃ r, (thread s3 h).run = .entering 0x0A r) ∧ (t.hold.isSome = true → (thread s3 h).run = .halted)
            ∧ ∀ k, accArch (thread s3 h) k = accArch t k)

/-- An integer `MMA` on dense operands is the matrix product modulo 2^32 (R188, R196). -/
def Obligations.DenseIntegerMmaIsTheMatrixProduct : Prop :=
  ∀ (t : Thread) (tm tb ta : Fin 8) (i j c : Nat), (dFmt (descOf t ta.val) = 9 ∨ dFmt (descOf t ta.val) = 10) →
    accTy (dFmt (descOf t ta.val)) (dScale (descOf t ta.val)) = 1 →
    let b := if dFmt (descOf t ta.val) = 9 then 8 else 4
    let e := fun (tile : Fin 8) r k => signed b (piece (rowData t tile.val r) b k)
    (contract t false tm tb ta i j c).1
      = (((c : Int) + ((List.range (dDense (descOf t ta.val))).map fun k => e ta i k * e tb j k).sum) % 2 ^ 32).toNat

/-- `ACVT` makes its thread wait and reads its operands at issue; on completion the thread goes on, with the converted rows in
tD or vD and the flags set, or takes the trap (R206–R210). -/
def Obligations.ConversionWritesItsRows : Prop :=
  ∀ (h : Hart) (p : Fin 8) (wide half dv : Bool) (row : Fin 16) (b d : Fin 32) (aa : Fin 4) (s : State),
    Instr.wf (.acvt h p wide half row b dv aa d) = true → Runs h p 4 s →
    let t := thread s h
    let x := gReg t b
    let blk := cvtBlock (readView (coreOf s h.core) (some h.thread) x.toNat 320)
    let rows := if dv then [row.val] else List.range (dRows (descOf t d.val))
    let o := acvtRows t wide half aa.val blk rows t.sr
    let hot := o.2.1 &&& t.fpCtrl.extractLsb' 3 5
    let idle := mmaWrites (coreOf s h.core) h.thread (acvtAccs wide (cvSrc blk) aa) = false ∧ (dv = false →
      mmaHolds (coreOf s h.core) h.thread
        (d.val :: (if dScale (descOf t d.val) then [dScaleTile (descOf t d.val)] else [])) = false)
    x.toNat % 64 = 0 → x.toNat + 320 ≤ 0xC0000 → acvtCheck t wide half dv aa d blk = none → idle →
    ∃ s1 s2, exec (.acvt h p wide half row b dv aa d) s = .next s1 ∧ exec (.acvtComplete h) s1 = .next s2
      ∧ (thread s1 h).run = .waiting .acvt ∧ (thread s1 h).acvt.isSome = true
      ∧ { thread s1 h with run := t.run, acvt := t.acvt } = t
      ∧ (hot = 0 → unmarked s h x.toNat 320 → blk.ctl.getLsbD 14 = false →
          (thread s2 h).pc = t.pc + 4 ∧ (thread s2 h).run = .ready ∧ (thread s2 h).fpFlags = t.fpFlags ||| o.2.1
          ∧ (thread s2 h).sr = o.2.2 ∧ (thread s2 h).acc = t.acc
          ∧ (dv = true → ∀ e ∈ o.1, (vReg (thread s2 h) d).data
              = e.2.1 ||| (if cvMx blk then BitVec.ofNat 512 (e.2.2 * 2 ^ 504) else 0))
          ∧ (dv = false → cvMx blk = false → dRows (descOf t d.val) ≤ 16 → ∀ e ∈ o.1, (rowOf (thread s2 h) (16 * d.val + e.1)).data = e.2.1
              ∧ (rowOf (thread s2 h) (16 * d.val + e.1)).valid = true))
      ∧ (hot ≠ 0 → (t.hold = none → ∃ r, (thread s2 h).run = .entering 0x0A r)
          ∧ (t.hold.isSome = true → (thread s2 h).run = .halted)
          ∧ (thread s2 h).v = t.v ∧ (thread s2 h).rows = t.rows)


/-! ### Ports -/

/-- A 4-byte read of a port gives gD the value `v`, its object changed by `f` (R94, R116). -/
def gives (i : Instr) (h : Hart) (d : Fin 32) (v : Word) (f : State → State) (s : State) : Prop :=
  exec i s = .next (modTh (f (rotate h s)) h fun t => putG d v (advPc 4 t))

/-- A 4-byte write of a port completes, its object changed by `f`. -/
def takes (i : Instr) (h : Hart) (f : State → State) (s : State) : Prop :=
  exec i s = .next (modTh (f (rotate h s)) h (advPc 4))

/-- The access waits, its object untouched (R116). -/
def waits (i : Instr) (h : Hart) (w : Wait) (s : State) : Prop :=
  exec i s = .next (modTh (rotate h s) h fun t => { t with run := .waiting w, met := none })

/-- The faults of a port access come in the order of R94: an address that is no multiple of 8 (`0x04`); no port there (`0x1C`);
a port of another mode, or of the monitor alone (`0x0B`); a flag or counter outside the cell's windows (`0x1C`). Nothing is
read, written or consumed, and `ERR_INFO` holds the address. -/
def Obligations.PortFaultsComeInOrder : Prop :=
  ∀ (h : Hart) (p : Fin 8) (d a : Fin 32) (s : State), Runs h p 4 s →
    let t := thread s h
    let x := gReg t a
    let n := x.toNat
    let sup := n = 0x88 ∨ n = 0x8000 ∨ n = 0x80A8
    let mon := 0x8008 ≤ n ∧ n ≤ 0x80A0
    let any := (n ≤ 0x90 ∧ n ≠ 0x88) ∨ (0x1000 ≤ n ∧ n ≤ 0x1030) ∨ (0x2000 ≤ n ∧ n ≤ 0x2028) ∨ (0x4000 ≤ n ∧ n < 0x7000)
    let both := fun c => faults (exec (.inr h p d a) s) h c x s ∧ faults (exec (.outr h p d a) s) h c x s
    let cell := ownCell s h.core
    (n % 8 ≠ 0 → both 0x04)
    ∧ (n % 8 = 0 → ¬ (sup ∨ mon ∨ any) → both 0x1C)
    ∧ (n % 8 = 0 → (sup ∧ t.mode = false) ∨ (mon ∧ (t.mode = false ∨ isMonitor s h = false)) → both 0x0B)
    ∧ (n % 8 = 0 → 0x4000 ≤ n → n < 0x6000 → cFlagCount cell ≤ n / 8 % 512 → both 0x1C)
    ∧ (n % 8 = 0 → 0x6000 ≤ n → n < 0x7000 → cCtrCount cell ≤ n / 8 % 256 → both 0x1C)

/-- Reading a port that never waits gives its register (R115, R123, R138): through `IN` and `INR` alike, and through `IN16`
for the thread block. Writing a port sets its register as its fields say (R94, R104, R115, R129, R140, R141): `EV_PENDING`
and `FP_FLAGS` bits written 1 are cleared, a reserved rounding mode leaves `FP_CTRL` as it was (log 140), an odd `RET_PC`
changes nothing (log 25), `TASK_TRAP` keeps 64 bits (log 18), and `TRAP_BASE` keeps bits [19:6]; the first three are the
model's choices. -/
def Obligations.PortRegistersReadAndWrite : Prop :=
  (∀ (h : Hart) (p : Fin 8) (d a : Fin 32) (e : Fin 16) (s : State),
    let t := thread s h
    let c := coreOf s h.core
    let all : List (Nat × Word) := [(0x08, t.evEnable.setWidth 64), (0x10, t.evPending.setWidth 64),
      (0x40, t.fpCtrl.setWidth 64), (0x48, t.fpFlags.setWidth 64), (0x68, t.errPc.setWidth 64), (0x70, t.errInfo),
      (0x78, t.ctrTarget), (0x90, t.taskTrap), (0x1008, s.clock.dayCount.setWidth 64),
      (0x1010, BitVec.ofNat 64 s.clock.cycle), (0x1018, BitVec.ofNat 64 (dayLen s)),
      (0x1000, BitVec.ofNat 64 (h.core.val + s.deviceId.toNat * 2 ^ 16)), (0x2010, BitVec.ofNat 64 c.outstanding.length)]
    let sup : List (Nat × Word) := [(0x88, t.retPc.setWidth 64), (0x8000, c.trapBase.setWidth 64)]
    (Runs h p 4 s → ∀ n v, (n, v) ∈ all ∨ (t.mode = true ∧ (n, v) ∈ sup) →
      gives (.portIn h p d (BitVec.ofNat 16 n)) h d v id s
      ∧ ((gReg t a).toNat = n → gives (.inr h p d a) h d v id s))
    ∧ (Runs h 0 2 s → ∀ n v, (n, v) ∈ all ∨ (t.mode = true ∧ (n, v) ∈ sup) → n ≤ 0x90 →
      exec (.in16 h e (BitVec.ofNat 7 (n / 8))) s
        = .next (modTh (rotate h s) h fun u => putG (Fin.ofNat 32 e.val) v (advPc 2 u))))
  ∧ (∀ (h : Hart) (p : Fin 8) (d a : Fin 32) (e : Fin 16) (s : State),
    let writes := fun (n : Nat) (v : Word) (f : Thread → Thread) =>
      (n, true) ∈ [(0x08, true), (0x10, true), (0x40, true), (0x48, true), (0x90, true), (0x88, (thread s h).mode)]
      ∧ ∀ t, f t = if n = 0x08 then { t with evEnable := v.setWidth 16 }
        else if n = 0x10 then { t with evPending := t.evPending &&& ~~~ v.setWidth 8 }
        else if n = 0x40 then (if 4 < v.toNat % 8 then t else { t with fpCtrl := v.setWidth 8 })
        else if n = 0x48 then { t with fpFlags := t.fpFlags &&& ~~~ v.setWidth 5 }
        else if n = 0x90 then { t with taskTrap := v }
        else if v.getLsbD 0 then t else { t with retPc := v.setWidth 17 }
    (Runs h p 4 s → ∀ n f, writes n (gReg (thread s h) d) f →
      takes (.portOut h p d (BitVec.ofNat 16 n)) h (fun s => modTh s h f) s
      ∧ takes (.registerWrite (.ioPort h p d (BitVec.ofNat 16 n))) h (fun s => modTh s h f) s
      ∧ ((gReg (thread s h) a).toNat = n → takes (.outr h p d a) h (fun s => modTh s h f) s))
    ∧ (Runs h 0 2 s → ∀ n f, writes n (gReg (thread s h) (Fin.ofNat 32 e.val)) f →
      exec (.out16 h e (BitVec.ofNat 7 (n / 8))) s = .next (modTh (rotate h s) h fun t => advPc 2 (f t)))
    ∧ (Runs h p 4 s → (thread s h).mode = true →
      takes (.portOut h p d 0x8000) h (fun s => modCore s h.core fun c =>
        { c with trapBase := BitVec.ofNat 20 ((gReg (thread s h) d).toNat / 64 % 2 ^ 14 * 64) }) s))

/-- The ports of events, faults, timers, the generator and the budget: `EV_WAIT` returns and clears the lowest pending event
whose `WAKE` bit is set, or waits (R131); `ERR_CAUSE` clears `LOST` (R138); `TIMER_SET` n arms E3 n cycles ahead, and 0
cancels it (R115); `SR_SEED` takes a nonzero state (R186); `DAY_DONE` is late from D+B on (R75). The notice ports on the
thread's own queue (R291–R293): `NOTICE_LO` gives the notice at the read pointer, an overflowed one from local memory with
`SPILLED` set, or waits; `NOTICE_HI` gives its upper bytes and moves the pointer once; mark, rewind and release move the
mark, the pointer and the release point. A thread that is no region monitor has no other queue; the region monitor reads its
second queue through the two ports of its own. -/
def Obligations.EventAndNoticePorts : Prop :=
  (∀ (h : Hart) (p : Fin 8) (d : Fin 32) (e : Fin 8) (s : State), Runs h p 4 s →
    let t := thread s h
    let x := gReg t d
    let due := fun k : Nat => t.evPending.getLsbD k && t.evEnable.getLsbD k
    (due e.val = true → (∀ k < e.val, due k = false) →
      gives (.evWait h p d) h d (BitVec.ofNat 64 e.val)
        (fun s => modTh s h fun u => { u with evPending := u.evPending &&& ~~~ (1#8 <<< e.val) }) s)
    ∧ ((∀ k < 8, due k = false) → waits (.evWait h p d) h (.portRead 0 d 4) s)
    ∧ gives (.errCauseRead h p d) h d (t.errCause.setWidth 64)
        (fun s => modTh s h fun u => { u with errCause := u.errCause &&& 0x2FF }) s
    ∧ takes (.timerSet h p d) h (fun s => modTh s h fun u =>
        { u with timer := if x = 0 then none else some (s.clock.now + x.toNat), expired := none }) s
    ∧ takes (.srSeed h p d) h (fun s => modTh s h fun u => { u with sr := if x = 0 then 0x9E3779B97F4A7C15 else x }) s
    ∧ takes (.dayDone h p d) h (fun s => modCore s h.core fun c =>
        { c with dayDone := true
                 overrun := c.overrun || (decide (c.budget ≠ 0 ∧ c.budget.toNat ≤ s.clock.cycle) && !c.dayDone) }) s)
  ∧ (∀ (h : Hart) (p : Fin 8) (d : Fin 32) (n : Notice) (s : State), Runs h p 4 s →
    let w0 := match n.place with
      | .overflow k => BitVec.ofNat 64 (stored (coreOf s h.core) (16 * k.val) 8) ||| 0x0800000000000000
      | _ => n.lo
    let w1 := match n.place with
      | .overflow k => BitVec.ofNat 64 (stored (coreOf s h.core) (16 * k.val + 8) 8)
      | _ => n.hi
    let lo := fun (i : Instr) (q : Nat) (port : BitVec 16) =>
      let Q := nqOf (coreOf s h.core) q
      (Q.items[Q.rd]? = some n →
        gives i h d w0 (fun s => modCore s h.core fun c => setNq c q { Q with hi := some (n.hi, true), hiPos := Q.rd }) s)
      ∧ (Q.items[Q.rd]? = none → waits i h (.portRead port d 4) s)
    let hi := fun (i : Instr) (q : Nat) =>
      let Q := nqOf (coreOf s h.core) q
      (∀ w, Q.hi = some (w, true) → Q.items[Q.hiPos]? = some n →
        gives i h d w1 (fun s => modCore s h.core fun c => setNq c q { Q with hi := some (n.hi, false), rd := Q.hiPos + 1 }) s)
      ∧ (∀ w, Q.hi = some (w, false) → Q.items[Q.hiPos]? = some n → gives i h d w1 id s)
      ∧ (Q.hi = none → gives i h d 0 id s)
    let own := h.thread.val
    let Q := nqOf (coreOf s h.core) own
    lo (.noticeLo h p d) own 0x18 ∧ hi (.noticeHi h p d) own
    ∧ ((thread s h).mode = true → isMonitor s h = true → lo (.monNoticeLo h p d) 4 0x8008 ∧ hi (.monNoticeHi h p d) 4)
    ∧ (isMonitor s h = false →
      takes (.noticeMark h p) h (fun s => modCore s h.core fun c => setNq c own { Q with mark := Q.rd }) s
      ∧ takes (.noticeRewind h p) h (fun s => modCore s h.core fun c => setNq c own { Q with rd := Q.mark }) s
      ∧ ∃ R, takes (.noticeRelease h p) h (fun s => modCore s h.core fun c => setNq c own R) s
        ∧ R.items = Q.items.drop Q.rd ∧ R.rd = 0 ∧ R.mark = 0))

/-- The innermost cell of a thread's core has flag `n` as flag `k` of bank `b`. -/
def flagHere (s : State) (h : Hart) (n : Nat) (b : DieId) (k : Nat) : Prop :=
  let e := ownCell s h.core
  n < cFlagCount e ∧ b.val = cDie e ∧ k = cFlagBase e + n
/-- The same for counter `n`. -/
def ctrHere (s : State) (h : Hart) (n : Nat) (b : DieId) (k : Nat) : Prop :=
  let e := ownCell s h.core
  n < cCtrCount e ∧ b.val = cDie e ∧ k = cCtrBase e + n

/-- Flags and counters are named through the windows of the innermost cell (R33, R305): a set, a clear and an add leave for the
bank; a read sees the thread's own earlier updates; `FLAG_WAIT` and `CTR_WAIT` complete when the flag is set or the counter has
reached `CTR_TARGET`, compared modulo 2^32, and otherwise wait (R117); arming a watch leaves for the bank too. The updates that
reach a bank in one cycle act together: clears before sets, adds summed; no other bank changes (R305, R306). Of one source, only
updates before which none is left can arrive. Nothing answers an isolated core: its waits wait (R417; log 131). -/
def Obligations.FlagsAndCountersAct : Prop :=
  (∀ (h : Hart) (p : Fin 8) (d : Fin 32) (n : Fin 512) (m : Fin 256) (b : DieId) (k : Nat) (s : State), Runs h p 4 s →
    let sends := fun (i : Instr) kind =>
      takes i h (fun s => { s with flight := s.flight ++ [⟨.thread h, b, kind⟩] }) s
    let settled := ∀ u ∈ s.flight, ¬ (u.src = .thread h ∧ u.die = b)
    (flagHere s h n.val b k → clearing s b k = false →
      ((coreOf s h.core).isolated = false → sends (.flagSet h p n) (.set k) ∧ sends (.flagClear h p n) (.clear k))
      ∧ ((coreOf s h.core).isolated = false → settled →
        gives (.flagCounterRead h p d .flag n) h d (if flagAt s b k then 1 else 0) id s)
      ∧ ((coreOf s h.core).isolated = false → flagAt s b k = true → gives (.flagWait h p d n) h d 1 id s)
      ∧ ((coreOf s h.core).isolated = true ∨ flagAt s b k = false →
        waits (.flagWait h p d n) h (.portRead (BitVec.ofNat 16 (0x5000 + 8 * n.val)) d 4) s))
    ∧ (ctrHere s h m.val b k →
      ((coreOf s h.core).isolated = false →
        sends (.ctrAdd h p d m) (.add k ((gReg (thread s h) d).setWidth 32)))
      ∧ ((coreOf s h.core).isolated = false → settled → gives (.flagCounterRead h p d .ctr (Fin.ofNat 512 m.val)) h d ((ctrAt s b k).setWidth 64) id s)
      ∧ (let v := ctrAt s b k
         let far := (v - (thread s h).ctrTarget.setWidth 32).msb
         ((coreOf s h.core).isolated = false → far = false → gives (.ctrWait h p d m) h d (v.setWidth 64) id s)
         ∧ ((coreOf s h.core).isolated = true ∨ far = true → waits (.ctrWait h p d m) h (.portRead (BitVec.ofNat 16 (0x6800 + 8 * m.val)) d 4) s)))
    ∧ (let v := gReg (thread s h) d
       let kept := v &&& 0x800003FFFFFFFFFF
       (v.getLsbD 63 = false → takes (.ctrTarget h p d) h (fun s => modTh s h fun t => { t with ctrTarget := kept }) s)
       ∧ (v.getLsbD 63 = true → (coreOf s h.core).isolated = false →
          (v.getLsbD 41 = true ∧ flagHere s h (v.toNat / 2 ^ 32 % 512) b k)
            ∨ (v.getLsbD 41 = false ∧ ctrHere s h (v.toNat / 2 ^ 32 % 512) b k) →
          takes (.ctrTarget h p d) h (fun s => modTh { s with flight := s.flight ++ [⟨.thread h, b, .arm h⟩] } h fun t =>
            { t with ctrTarget := kept }) s)))
  ∧ (∀ (b : DieId) (picks : List Nat) (s : State),
    let ix := (List.range s.flight.length).filter fun i => picks.contains i && firstOfSource s.flight i
      && (s.flight[i]?).any fun u => decide (u.die = b)
    let us := ix.filterMap fun i => s.flight[i]?
    ∃ t, exec (.flagBankUpdate b picks) s = .next t
      ∧ (∀ n < 512, flagAt t b n = if us.any (fun u => decide (u.kind = .set n)) then true
          else if us.any (fun u => decide (u.kind = .clear n)) then false else flagAt s b n)
      ∧ (∀ n, ctrAt t b n = ctrAt s b n
          + (us.map fun u => match u.kind with | .add m v => if m = n then v else 0 | _ => 0).foldl (· + ·) 0)
      ∧ (∀ e : DieId, e ≠ b → bankOf t e = bankOf s e)
      ∧ t.flight.length + us.length = s.flight.length)

/-! ### Messages and the core mover -/

/-- What `SEND` does with a valid header pair, the queue being empty (R69, R70, R107, R282, R283): the message is split into
flits of eight words, the first eight of them stand in the queue with the words as the thread sees them; `GEN` is filled
where `OWNGEN` asks for it and `POISON` says whether a payload word is marked; and the thread waits until the router has
taken the last flit. The `SEND` whose message has left its queue ends (R70). A header that R283 refuses faults with `0x1D`
and the bit it fails on; a misaligned or unmapped payload faults with `0x04` or `0x03`; nothing is sent. -/
def Obligations.SendsQueueEndOrFault : Prop :=
  (∀ (h : Hart) (p : Fin 8) (q : Fin 16) (a b : Fin 32) (s : State), a.val % 2 = 0 → Runs h p 4 s →
    let t := thread s h
    let hd : BitVec 128 := gReg t (a + 1) ++ gReg t a
    let x := (gReg t b).toNat
    let len := hLen hd
    let n := if len = 0 then 1 else (len + 63) / 64
    x % 8 = 0 → (len = 0 ∨ x + len ≤ 0xC0000) → headerBad hd = none → injOf (coreOf s h.core) q.val = ⟨[], []⟩ →
    ∃ r, exec (.send h p q a b) s = .next r
      ∧ thread r h = { t with run := .waiting (.send q s.nextMid) } ∧ r.nextMid = s.nextMid + 1
      ∧ (let Q := injOf (coreOf r h.core) q.val
         Q.flits.length = min 8 n ∧ Q.flits.length + Q.plans.length = n
         ∧ ∀ i (hi : i < Q.flits.length),
            let f := Q.flits[i]
            f.mid = s.nextMid ∧ f.index = i ∧ f.last = decide (i + 1 = n) ∧ f.source = sourceOf s h
            ∧ f.words.length = min 8 (len / 8 - 8 * i)
            ∧ (∀ j (hj : j < f.words.length),
                f.words[j].data = BitVec.ofNat 64 (numberAt s h (x + 64 * i + 8 * j) 8)
                ∧ f.words[j].poison = poisonView (coreOf s h.core) (some h.thread) (x / 8 + 8 * i + j))
            ∧ (hPoison f.header = true ↔ ¬ unmarked s h x len)
            ∧ hCell f.header = hCell hd ∧ hMember f.header = hMember hd ∧ hLaddr f.header = hLaddr hd ∧ hLen f.header = len
            ∧ hGen f.header = if hOwnGen hd then (match regionOf s h.core with | some g => (regOf s g).gen.toNat | none => 0)
                else hGen hd)
      ∧ (∀ a, mget (coreOf r h.core).mem a = mget (coreOf s h.core).mem a) ∧ onlyCore h { s with nextMid := s.nextMid + 1 } r)
  ∧ (∀ (h : Hart) (p : Fin 8) (q : Fin 16) (a b : Fin 32) (mid : Nat) (s : State),
    ((thread s h).run = .waiting (.send q mid) → (thread s h).debugHalt = false →
      sent (coreOf s h.core) q.val mid = true →
      exec (.waitComplete h) s = .next (modTh s h fun u => { u with pc := u.pc + 4, run := .ready }))
    ∧ (a.val % 2 = 0 → Runs h p 4 s →
      let hd : BitVec 128 := gReg (thread s h) (a + 1) ++ gReg (thread s h) a
      let x := gReg (thread s h) b
      (x.toNat % 8 ≠ 0 → faults (exec (.send h p q a b) s) h 0x04 x s)
      ∧ (x.toNat % 8 = 0 → 0 < hLen hd → 0xC0000 < x.toNat + hLen hd →
          faults (exec (.send h p q a b) s) h 0x03 (BitVec.ofNat 64 (max x.toNat 0xC0000)) s)
      ∧ (∀ n, x.toNat % 8 = 0 → (hLen hd = 0 ∨ x.toNat + hLen hd ≤ 0xC0000) → headerBad hd = some n →
          faults (exec (.send h p q a b) s) h 0x1D (BitVec.ofNat 64 n) s)))

/-- The core mover (R249, R250): up to six transfers are outstanding, from submission until their record is read; it takes the
oldest one; a list that fails its check completes with the status and sends nothing; the record becomes readable, with E4,
when the router has taken the last flit. -/
def Obligations.MoverWorksThroughItsQueue : Prop :=
  ∀ (h : Hart) (p : Fin 8) (d : Fin 32) (w rec_ : Word) (rest : List Word) (j : MoverJob) (jobs : List MoverJob)
    (q : Fin 16) (mid : Nat) (s : State),
    let c := coreOf s h.core
    let x := gReg (thread s h) d
    let raise := fun (t : Thread) => { t with evPending := t.evPending ||| 0x10 }
    (Runs h p 4 s →
      (c.isolated = false → c.outstanding.length < 6 →
        takes (.moverSubmit h p d) h (fun s => modCore s h.core fun c =>
          { c with moverQ := c.moverQ ++ [⟨h.thread, x.toNat, none⟩], outstanding := c.outstanding ++ [h.thread] }) s)
      ∧ (c.isolated = false → 6 ≤ c.outstanding.length → waits (.moverSubmit h p d) h (.portWrite 0x2000 x 4) s)
      ∧ ((thread s h).moverDone = w :: rest →
        gives (.moverDone h p d) h d w (fun s => modCore (modTh s h fun t => { t with moverDone := rest }) h.core fun c =>
          { c with outstanding := c.outstanding.erase h.thread }) s)
      ∧ ((thread s h).moverDone = [] → waits (.moverDone h p d) h (.portRead 0x2008 d 4) s))
    ∧ (c.moving = none → c.moverQ = j :: jobs → j.stream = none → listBlocked c j.list = false →
      (listStatus c (BitVec.ofNat 64 j.list) ≠ 0 →
        ∃ r, exec (.moverTransferStart h.core) s = .next r ∧ (coreOf r h.core).moverQ = jobs ∧ (coreOf r h.core).moving = none
          ∧ (coreOf r h.core).inj = c.inj
          ∧ thread r ⟨h.core, j.thread⟩ = raise { thread s ⟨h.core, j.thread⟩ with moverDone := (thread s ⟨h.core, j.thread⟩).moverDone
              ++ [BitVec.ofNat 64 (fld (localWord c (j.list + 16)) 29 16 + (listStatus c (BitVec.ofNat 64 j.list)).toNat * 2 ^ 16)] })
      ∧ (listStatus c (BitVec.ofNat 64 j.list) = 0 → (readList c j.list).dst.flatMap pairWrites ≠ [] →
        ∃ r, exec (.moverTransferStart h.core) s = .next r ∧ (coreOf r h.core).moverQ = jobs
          ∧ (coreOf r h.core).moving.isSome = true ∧ (coreOf r h.core).mem = c.mem))
    ∧ (c.moving = some (h.thread, q, mid, rec_, none) →
      (sent c q.val mid = true → exec (.moverCompletion h.core) s = .next (modTh (modCore s h.core fun c =>
          { c with moving := none }) h fun t => raise { t with moverDone := t.moverDone ++ [rec_] }))
      ∧ (sent c q.val mid = false → exec (.moverCompletion h.core) s = .next s))


/-! ### The mesh, landing and route programs -/

/-- Flit `f` has left router `c` through port `n`: it stands last where the port leads (R60–R62). -/
def leftThrough (c : CoreId) (f : Flit) (s t : State) (n : Nat) : Prop :=
  match hop c n with
  | .router d i => tget [] (routerOf t d).inputs i = tget [] (routerOf s d).inputs i ++ [f]
  | .landing => (coreOf s c).isolated = false → (coreOf t c).inbox = (coreOf s c).inbox ++ [f]
  | .shore p => tget [] t.shoreOut p.val = tget [] s.shoreOut p.val ++ [f]
  | .nothing => True

/-- Port `k` of router `c` takes a copy under entry `e`: it is named, not masked and does not lead out of the region. -/
def copiesTo (s : State) (c : CoreId) (e : BitVec 128) (k : Nat) : Prop :=
  k < 5 ∧ reOut e k = true ∧ (routerOf s c).badPorts.getLsbD k = false ∧ bordered s c k = false

/-- Copies of flit `f` from input `i` have left by the ports that take one, and by no other: the copies at the border are
dropped, counted and logged with `0x13` (R73). `u` is `s` at the cycle at which they leave. -/
def forwarded (c : CoreId) (e : BitVec 128) (f : Flit) (i : Fin 5) (s u t : State) : Prop :=
  let m := ((List.range 5).filter fun k => reOut e k && !(routerOf s c).badPorts.getLsbD k && bordered s c k).length
  (∀ k, copiesTo s c e k → leftThrough c f s t k)
  ∧ (∀ (d : CoreId) j, (d ≠ c ∨ j ≠ i.val) → (∀ k, copiesTo s c e k → hop c k ≠ .router d j) →
      tget [] (routerOf t d).inputs j = tget [] (routerOf s d).inputs j)
  ∧ (∀ p : ShoreId, (∀ k, copiesTo s c e k → hop c k ≠ .shore p) → tget [] t.shoreOut p.val = tget [] s.shoreOut p.val)
  ∧ (∀ d : CoreId, d ≠ c ∨ ¬ copiesTo s c e 0 → (coreOf t d).inbox = (coreOf s d).inbox)
  ∧ tget 0 t.counters (ctrCore c.val 1) = satAdd (tget 0 s.counters (ctrCore c.val 1)) m
  ∧ t.log = ((List.range m).foldl (fun u _ => logCore c 0 0x13 (BitVec.ofNat 64 c.val) u) u).log

/-- In Daylight the entry that runs for an input sends the oldest flit there out through every port it names: a copy for a
masked port is dropped, one that would leave the region is dropped, counted and logged, and no other router, shore port or
core gets anything; a flit at an input that no running entry names is dropped and counted (R60, R61, R73, R74). Input 0
draws on the injection queue that its entry names: that queue's oldest flit is released, and no queue releases one without
an entry (R69). In Twilight each output serves one input in a frame cycle: the oldest flit there, with the positions it has
to reach resolved, leaves by it when some of them lie that way and the next input has room, and stays only while others are
left; in Noon alone the flits of the queues enter the buffer of input 0, and go on from there alike (R57, R80, R81). -/
def Obligations.RoutersForwardFlits : Prop :=
  ∀ (c : CoreId) (i : Fin 5) (n : BitVec 24) (f : Flit) (e : BitVec 128) (s : State),
    let u := toCycle n.toNat s
    let at_ := fun (t : State) => tget [] (routerOf t c).inputs i.val
    let took := fun t => at_ t = (at_ s).drop 1
    let open_ := s.dev = .daylight ∧ 512 ≤ n.toNat ∧ ¬ (enters c i.val = true ∧ s.clock.phase = .dusk)
    let runs := entryFor s c i.val (n.toNat - 512)
    let go := exec (.flitAtRouter c i n .ok) s
    let q := reQueue e
    (i ≠ 0 → (at_ s).head? = some f → open_ →
      (runs = some e → ∃ t, go = .next t ∧ took t ∧ forwarded c e f i s u t)
      ∧ (runs = none → ∃ t, go = .next t ∧ took t
          ∧ tget 0 t.counters (ctrCore c.val 0) = satAdd (tget 0 s.counters (ctrCore c.val 0)) 1
          ∧ t.shoreOut = s.shoreOut ∧ (∀ d : CoreId, (coreOf t d).inbox = (coreOf s d).inbox)
          ∧ ∀ d, d ≠ c → routerOf t d = routerOf s d))
    ∧ (i = 0 → open_ →
      (runs = some e → (injOf (coreOf s c) q).flits.head? = some f → (injOf (coreOf s c) q).plans = [] →
          (coreOf s c).isolated = false →
        ∃ t, go = .next t ∧ (injOf (coreOf t c) q).flits = (injOf (coreOf s c) q).flits.drop 1
          ∧ (∀ k, k ≠ q → injOf (coreOf t c) k = injOf (coreOf s c) k) ∧ forwarded c e f i s u t)
      ∧ (runs = none ∨ (runs = some e ∧ (injOf (coreOf s c) q).flits = []) → go = .next u))
    ∧ (∀ o : Nat, s.dev = .twilight → asleep s c = false → o < 5 → (o + n.toNat % 4 + 1) % 5 = i.val →
      (let goes := hasRoom s c o = true ∧ (routerOf s c).badPorts.getLsbD o = false ∧ bordered s c o = false
       let left := fun t => leftThrough c { f with dest := some (destsVia s c f o) } s t o
       let stays := { f with dest := some (destsBeside s c f o) }
       (i ≠ 0 → (at_ s).head? = some f → destsVia s c f o ≠ [] → goes →
        ∃ t, go = .next t ∧ left t ∧ (destsBeside s c f o = [] → took t)
          ∧ (destsBeside s c f o ≠ [] → at_ t = stays :: (at_ s).drop 1))
       ∧ (i = 0 → at_ s = [] → (coreOf s c).isolated = false → (coreOf s c).inj = [(q, ⟨[f], []⟩)] → q < 16 →
        (s.clock.phase ≠ .noon → go = .next u)
        ∧ (s.clock.phase = .noon → ∃ t, go = .next t ∧ (injOf (coreOf t c) q).flits = []
          ∧ (destsVia s c f o = [] → at_ t = [f])
          ∧ (destsVia s c f o ≠ [] → goes → left t ∧ (destsBeside s c f o = [] → at_ t = [])
            ∧ (destsBeside s c f o ≠ [] → at_ t = [stays]))))))

/-- The words of a flit written at a local address, each with its own mark (R236, R286). -/
def landed (c t : Core) (a : Nat) (f : Flit) : Prop :=
  (∀ j (hj : j < f.words.length), stored t (a + 8 * j) 8 = f.words[j].data.toNat
    ∧ (a / 8 + j ∈ t.poison ↔ f.words[j].poison = true))
  ∧ ∀ x, x < a ∨ a + 8 * f.words.length ≤ x → mget t.mem x = mget c.mem x

/-- The landing unit takes the first flit of a message that passes the checks of R285 and writes its payload at `LADDR`; a
message that fails is dropped and counted, and nothing is written; later flits follow the first (R285–R287),
  unless the core has come to belong to another speculative group: then the rest
of the message is dropped and counted (R222). A whole message
completes (R286, R289, R297): it leaves the landing unit, a held write that is no tail adds 1 to its hold counter, a notice
is queued with its event where one is asked for and the queue has room, and a flag or counter signal leaves for its bank,
unless the core is isolated (R417). -/
def Obligations.MessagesLandAndNotify : Prop :=
  (∀ (core : CoreId) (f : Flit) (rest : List Flit) (q : Option (Fin 5)) (k n : Nat) (m : LandMsg) (s : State),
    let c := coreOf s core
    c.inbox = f :: rest → c.mem.wf = true → hLaddr f.header + 64 * f.index + 8 * f.words.length ≤ 0xC0000 →
    (f.index = 0 → verdict s core f.header = .accept q → conflicts c f = none →
        (hTail f.header && hHeld f.header) = false →
      ∃ t, exec (.messageLanding core) s = .next t ∧ (coreOf t core).inbox = rest
        ∧ landed c (coreOf t core) (hLaddr f.header) f
        ∧ ∃ x, (coreOf t core).landing = c.landing ++ [x] ∧ x.mid = f.mid ∧ x.header = f.header ∧ x.landed = 1
          ∧ x.complete = f.last ∧ x.queue = q ∧ x.held = false)
    ∧ (f.index = 0 → verdict s core f.header = .accept q → (conflicts c f).isSome = true →
      ∃ t, exec (.messageLanding core) s = .next t ∧ coreOf t core = { c with inbox := rest }
        ∧ tget 0 t.counters (ctrDie (dieOf core) 7) = satAdd (tget 0 s.counters (ctrDie (dieOf core) 7)) 1)
    ∧ (f.index = 0 → verdict s core f.header = .drop k n →
      ∃ t, exec (.messageLanding core) s = .next t ∧ coreOf t core = { c with inbox := rest }
        ∧ tget 0 t.counters (ctrDie (dieOf core) n) = satAdd (tget 0 s.counters (ctrDie (dieOf core) n)) 1)
    ∧ (f.index ≠ 0 → c.landing.find? (fun x => decide (x.mid = f.mid)) = some m → m.held = false → m.expired = false →
        m.header = f.header →
      (conflicts c f = none → ∃ t, exec (.landingFlit core) s = .next t ∧ (coreOf t core).inbox = rest
        ∧ landed c (coreOf t core) (hLaddr f.header + 64 * f.index) f)
      ∧ ((conflicts c f).isSome = true → ∃ t, exec (.landingFlit core) s = .next t
        ∧ coreOf t core = { c with inbox := rest, landing := c.landing.filter fun x => decide (x.mid ≠ m.mid) }
        ∧ tget 0 t.counters (ctrDie (dieOf core) 7) = satAdd (tget 0 s.counters (ctrDie (dieOf core) 7)) 1))
    ∧ (f.index ≠ 0 → c.landing.find? (fun x => decide (x.mid = f.mid)) = none →
      exec (.landingFlit core) s = .next (modCore s core fun c => { c with inbox := rest })))
  ∧ (∀ (core : CoreId) (m : LandMsg) (s : State), (coreOf s core).landing.find? (fun m => m.complete && !m.held) = some m →
    ∃ t, exec (.landingComplete core) s = .next t
      ∧ (coreOf t core).landing = (coreOf s core).landing.filter (fun x => decide (x.mid ≠ m.mid))
      ∧ holdOf (coreOf t core) m.header m.source = holdOf (coreOf s core) m.header m.source
          + (if hHeld m.header && !hTail m.header then 1 else 0)
      ∧ (∀ q : Fin 5, m.queue = some q → (ownPlace (coreOf s core) q.val).isSome = true →
          let e : Nat := if hHandler m.header = 0 then 7 else 0
          (∃ p, (nqOf (coreOf t core) q.val).items = (nqOf (coreOf s core) q.val).items
              ++ [⟨noticeLo m.header m.source m.poison, noticeHi m.header, p⟩])
          ∧ (thread t (queueOwner core q.val)).evPending.getLsbD e = true)
      ∧ (hSig m.header = 0 ∨ (coreOf s core).isolated = true → t.flight = s.flight)
      ∧ (∀ d k, (coreOf s core).isolated = false → hSig m.header = 1 →
        flagIn (replicaEntry s (dieOf core) (hCell m.header)) (hSigIx m.header) = some (d, k) →
          t.flight = s.flight ++ [⟨.landing core, d, .set k⟩])
      ∧ (∀ d k, (coreOf s core).isolated = false → hSig m.header = 2 →
        ctrIn (replicaEntry s (dieOf core) (hCell m.header)) (hSigIx m.header) = some (d, k) →
          t.flight = s.flight ++ [⟨.landing core, d, .add k 1⟩]))

/-- A held tail write is written when the earlier writes of its transfer have landed, and then takes their number from the hold
counter; held too long it is written poisoned, counted and logged with `0x28` (R298,
  R299). Where the core has come to belong to another speculative group than its flits,
it is dropped instead, and nothing of it is written (R222). -/
def Obligations.HeldTailWritesAreReleased : Prop :=
  ∀ (core : CoreId) (i : Fin 8) (m : LandMsg) (s : State), (heldList (coreOf s core))[i.val]? = some m →
    let c := coreOf s core
    let ours := ∀ f ∈ m.kept, conflicts c f = none
    (tailReady c m.header m.source = true →
      ∃ t, exec (.tailWriteRelease core i) s = .next t
        ∧ holdOf (coreOf t core) m.header m.source = holdOf c m.header m.source - BitVec.ofNat 12 (hTag m.header)
        ∧ (ours → (∀ x ∈ (coreOf t core).landing, x.mid = m.mid → x.held = false ∧ x.kept = [])
          ∧ (coreOf t core).mem = (m.kept.foldl (putFlit m.header false) c).mem)
        ∧ (¬ ours → (∀ x ∈ (coreOf t core).landing, x.mid ≠ m.mid) ∧ (coreOf t core).mem = c.mem))
    ∧ (tailReady c m.header m.source = false → exec (.tailWriteRelease core i) s = .next s)
    ∧ (holdTooLong s m = true →
      ∃ t, exec (.tailHoldExpiry core i) s = .next t
        ∧ (ours → (∀ x ∈ (coreOf t core).landing, x.mid = m.mid → x.held = false ∧ x.expired = true)
          ∧ (coreOf t core).poison = (m.kept.foldl (putFlit m.header true) c).poison)
        ∧ (¬ ours → (∀ x ∈ (coreOf t core).landing, x.mid ≠ m.mid) ∧ (coreOf t core).mem = c.mem)
        ∧ tget 0 t.counters (ctrDie (dieOf core) 6) = satAdd (tget 0 s.counters (ctrDie (dieOf core) 6)) 1)
    ∧ (holdTooLong s m = false → exec (.tailHoldExpiry core i) s = .next s)

/-- The operator commands the device: a connection is open, the device owned, the certificate an operator's (R405, R406). -/
def commands (s : State) : Prop := s.mgmt.connected = true ∧ s.mgmt.owned ≠ [] ∧ s.mgmt.authenticated = true

/-- The region monitor thread of region `r` may issue a 4-byte port access, and its core is not isolated: an isolation gate lets
no service request out (R417). -/
def monitors (h : Hart) (p : Fin 8) (r : RegionId) (s : State) : Prop :=
  Runs h p 4 s ∧ (thread s h).mode = true ∧ isMonitor s h = true ∧ regionOf s h.core = some r ∧ (coreOf s h.core).isolated = false

/-- The bank of a router that is not active (R64, R65). -/
def idleBank (x : Router) : Tab (BitVec 128) := if x.active then x.bank0 else x.bank1

/-- A route load starts from the monitor's port or the operator's command: the inactive banks and the pending budgets of the
region's cores are cleared, the active banks stay (R63, R65, R68); an image that does not lie in the region's windows (log
190) is rejected with `0x19` and clears nothing (R63). Once the arbiters take its read (R245, log 191) the load ends: when
all of its records pass, their entries stand in the inactive banks, those of a router that no record names stay as they are,
and the load has committed; the first record that fails ends it with its status (R66). Corrected errors in sectors of the
image change nothing of that (R241). -/
def Obligations.RouteLoadsFillTheInactiveBanks : Prop :=
  ∀ (h : Hart) (p : Fin 8) (d : Fin 32) (r : RegionId) (a : BitVec 40) (l : RouteLoad) (st : BitVec 8) (acc : LoadAcc)
    (ecc : SectorEcc) (s : State), ecc.bad = [] →
    let started := fun t : State => (regOf t r).load = some ⟨a, s.clock.dayNo, true, false⟩ ∧ (regOf t r).loadNext = none
      ∧ ∀ c ∈ regionCores s r, (coreOf t c).budgetNext = 0 ∧ idleBank (routerOf t c) = []
        ∧ activeBank (routerOf t c) = activeBank (routerOf s c)
    ((scanLoad s r a.toNat).isSome = true → s.clock.phase ≠ .dusk →
      (monitors h p r s → (gReg (thread s h) d).toNat % 2 ^ 40 = a.toNat →
        ∃ t, exec (.routeLoad (.port h p d)) s = .next t ∧ started t ∧ thread t h = advPc 4 (thread s h))
      ∧ (commands s → (regOf s r).valid = true → ∃ t, exec (.routeLoad (.operator r a)) s = .next t ∧ started t))
    ∧ (scanLoad s r a.toNat = none → commands s → (regOf s r).valid = true →
      ∃ t, exec (.routeLoad (.operator r a)) s = .next t ∧ (regOf t r).routeStatus = 0x19 ∧ t.routers = s.routers ∧ t.cores = s.cores)
    ∧ ((regOf s r).load = some l → l.running = true → scanLoad s r l.addr.toNat = some (st, acc) →
      (scanLen s r l.addr.toNat = 0 ∨
        granted s (rangeReady s (256 + loadDie s r) r (loadDie s r) l.addr.toNat (scanLen s r l.addr.toNat)) = true) →
      ∃ t, exec (.routeLoadDone ⟨r, ecc⟩) s = .next t ∧ (regOf t r).routeStatus = st
        ∧ (st ≠ 0 → (regOf t r).load = none ∧ t.routers = s.routers)
        ∧ (st = 0 → (regOf t r).load = some { l with running := false, committed := true }
          ∧ ∀ c : CoreId, activeBank (routerOf t c) = activeBank (routerOf s c)
            ∧ idleBank (routerOf t c) = (tfind acc.banks c.val).getD (idleBank (routerOf s c))
            ∧ ∀ n, tfind acc.budgets c.val = some n → (coreOf t c).budgetNext = n))

/-! ### The Day -/

/-- Region `r` is the only one, valid and awake; no change of a map, of the cell table or of the removal list, no test of a
failed core, no entry into Twilight and no bad flag word waits for the next Daybreak. -/
def loneRegion (s : State) (r : RegionId) : Prop :=
  s.regions = [(r.val, regOf s r)] ∧ (regOf s r).valid = true ∧ (regOf s r).night = none ∧ (regOf s r).failStop = none
    ∧ s.spares = [] ∧ s.removalsNext = [] ∧ s.cellChanges = [] ∧ s.badFlagWords = [] ∧ s.mgmt.testing = []
    ∧ ∀ n, s.twilightAt = some n → s.clock.dayNo + 1 < n

/-- Daybreak (R41, R45, R47, R48, R52, R75, R375, R446, R447): the next Day begins at cycle 0 of Dawn with the lengths, the
source, its port and the device ID that were accepted, and `DAY_COUNT` counts on; in Daylight it falls at D+L; Twilight or
Daylight follows as the operator and the conditions have it; cell-table changes of that Day are in force and no others; every
core's `DAY_DONE` and overrun are clear. What it changes in a region, stated for a region that is the only one: the
confirmation vector is sampled and cleared (R218, R220); the quota accepted takes effect (R463); a deletion, a context switch
and Night take effect, the latter two stopping the region with `0x3E` (R77, R387, R388, R448); a region whose route load was
late stops with `0x18` (R67, R77); and in Daylight a load committed in an earlier Day swaps the banks and budgets of the
region's routers and cores (R67). A created region becomes valid (R385). -/
def Obligations.DaybreakBeginsTheNextDay : Prop :=
  (∀ s : State, s.dev ≠ .midnight →
    let d := newDay (judgeReference (if s.dev = .daylight ∨ s.clock.src = 0 then toCycle (dayLen s) s else s))
    ∃ t, exec .daybreak s = .next t
      ∧ t.clock.dayNo = s.clock.dayNo + 1 ∧ t.clock.dayCount = s.clock.dayCount + 1
      ∧ t.clock.cycle = 0 ∧ t.clock.phase = .dawn ∧ t.pins.daybreakOut = true
      ∧ t.clock.dayDiv = s.clock.dayDivNext ∧ t.clock.duskDiv = s.clock.duskDivNext
      ∧ t.clock.src = s.clock.srcNext ∧ t.clock.port = s.clock.portNext
      ∧ t.deviceId = s.deviceIdNext ∧ t.assigned = s.assignedNext
      ∧ (s.dev = .daylight → t.clock.now = s.clock.now + (dayLen s - s.clock.cycle))
      ∧ t.dev = (if ∃ n, s.twilightAt = some n ∧ n ≤ s.clock.dayNo + 1 then .twilight
          else if daylightOk (finishTests d) = true then .daylight else s.dev)
      ∧ (∀ c : CoreId, (coreOf t c).dayDone = false ∧ (coreOf t c).overrun = false)
      ∧ t.cellChanges = s.cellChanges.filter (fun c => decide (s.clock.dayNo + 1 < c.day))
      ∧ t.cells = (s.cellChanges.filter fun c => decide (c.day ≤ s.clock.dayNo + 1)).foldl applyChange s.cells)
  ∧ (∀ (r : RegionId) (n : Nat) (image : BitVec 40) (kind : NightKind) (wake : Bool) (l : RouteLoad) (s : State),
    s.dev ≠ .midnight → loneRegion s r → n ≤ s.clock.dayNo + 1 →
    let x := regOf s r
    ∃ t, exec .daybreak s = .next t
      ∧ (x.pending = [] → (regOf t r).valid = true ∧ (regOf t r).sampledVariant = x.variantNext
        ∧ (regOf t r).sampledMask = x.confirm ∧ (regOf t r).confirm = 0)
      ∧ (∀ q, x.pending = [] → x.quotaNext = [(n, q)] → (regOf t r).quota = q ∧ (regOf t r).quotaNext = [])
      ∧ (x.pending = [(n, .delete)] → (regOf t r).valid = false)
      ∧ (x.pending = [(n, .switch image)] → (regOf t r).stopped = true ∧ (regOf t r).stopCause = 0x3E
        ∧ (regOf t r).bootImage = image ∧ (regOf t r).bootDue = true ∧ (regOf t r).gen = x.gen + 1)
      ∧ (x.pending = [(n, .night kind wake)] → (regOf t r).stopped = true ∧ (regOf t r).stopCause = 0x3E
        ∧ (regOf t r).night = some kind ∧ (regOf t r).wakeOnLaunch = wake)
      ∧ (x.pending = [] → x.late = true → (regOf t r).stopped = true ∧ (s.dev = .twilight → (regOf t r).stopCause = 0x18))
      ∧ (x.pending = [] → s.dev = .daylight → x.stopped = false → x.late = false → x.borderOk = true →
          (∀ c ∈ regionCores s r, (coreOf s c).overrun = false ∧ ((coreOf s c).budget = 0 ∨ (coreOf s c).dayDone = true)) →
          x.load = some l → l.committed = true → l.day ≤ s.clock.dayNo → x.loadNext = none → (regionCores s r).Nodup →
        (regOf t r).load = none ∧ (regOf t r).stopped = false
          ∧ ∀ c ∈ regionCores s r, activeBank (routerOf t c) = idleBank (routerOf s c)
            ∧ idleBank (routerOf t c) = activeBank (routerOf s c)
            ∧ (coreOf t c).budget = (coreOf s c).budgetNext ∧ (coreOf t c).budgetNext = (coreOf s c).budget))
  ∧ (∀ (r : RegionId) (n : Nat) (s : State), s.dev ≠ .midnight → s.regions = [(r.val, regOf s r)] → (regOf s r).valid = false →
    (regOf s r).pending = [(n, .create)] → n ≤ s.clock.dayNo + 1 → s.mgmt.testing = [] →
    s.spares = [] → s.removalsNext = [] → (regOf s r).night = none →
    ∃ t, exec .daybreak s = .next t ∧ (regOf t r).valid = true ∧ (regOf t r).bootDue = true ∧ (regOf t r).gen = (regOf s r).gen + 1)

/-- What D+128 leaves of the speculative state of a core whose group it commits (R232): copies and marked words are the
architectural ones, rows are ordinary, flags and generator state are those of the deferred record, whose fault waits to be
taken. -/
def committed (c c' : Core) : Prop :=
  c'.specMark = [] ∧ c'.mem = c.mem ∧ c'.poison = c.poison ∧ (∀ e ∈ c'.stores, e.spec = false)
  ∧ ∀ i, let t := thOf c i; let u := thOf c' i
    u.pSpec = [] ∧ u.vSpec = [] ∧ u.deferred = none
    ∧ (∀ n, tfind u.p n = ((tfind t.pSpec n).or (tfind t.p n)) ∧ tfind u.v n = ((tfind t.vSpec n).or (tfind t.v n)))
    ∧ (∀ k x, tfind t.rows k = some x → ∃ y, tfind u.rows k = some y ∧ y.spec = false ∧ y.data = x.data ∧ y.valid = x.valid
        ∧ ((deferredOf t).parity = [] → y.poison = x.poison))
    ∧ u.fpFlags = t.fpFlags ||| (deferredOf t).flags ∧ u.sr = (deferredOf t).sr.getD t.sr
    ∧ u.deferredFault = ((deferredOf t).fault).or t.deferredFault

/-- What D+128 leaves of the speculative state of a core whose group it discards (R233): registers, flags, generator state
and fault records as they were, speculative rows and stores gone, marked words 0 and unmarked. -/
def discarded (c c' : Core) : Prop :=
  c'.specMark = [] ∧ c'.stores = c.stores.filter (fun e => !e.spec)
  ∧ (∀ a, mget c'.mem a = if a / 8 ∈ c.specMark then 0 else mget c.mem a)
  ∧ (∀ w, w ∈ c'.poison ↔ w ∈ c.poison ∧ w ∉ c.specMark)
  ∧ ∀ i, let t := thOf c i; let u := thOf c' i
    u.pSpec = [] ∧ u.vSpec = [] ∧ u.deferred = none ∧ u.p = t.p ∧ u.v = t.v ∧ u.acc = t.acc ∧ u.g = t.g
    ∧ (∀ k, tfind u.rows k = (tfind t.rows k).filter fun x => !x.spec)
    ∧ u.fpFlags = t.fpFlags ∧ u.sr = t.sr ∧ u.deferredFault = t.deferredFault

/-- The steps of Dawn come at their cycles and not after (R52): at D+32 running monitors of stopped regions are told with E5
(R78), at D+128 each region's sampled variant is its variant and its groups are committed or discarded by the sampled mask
(R219, R232–R234), stated for a region that is the only one, without streams; at D+319 the flags of the windows to clear are
0 and no earlier update is still on its way to their bank (R308), and at D+448 every thread of a running region has E2
pending, but for those behind an isolation gate (R417). Noon begins at D+512 and Dusk at D+(L−K); a route load still running
at Dusk is abandoned with `0x18` and its region stops, and a link window load still running is abandoned too (R45, R56, R57,
R67, R367). A core that has not written `DAY_DONE` by D+B has overrun (R75, R76). A later cycle's slot is offered to every
thread again (R124). -/
def Obligations.DawnNoonAndDuskDoTheirWork : Prop :=
  (∀ s : State, s.dev ≠ .midnight → s.clock.phase = .dawn →
    (s.clock.cycle ≤ 32 → ∃ t, exec .dawnControlWords s = .next t ∧ t.clock.cycle = 32
      ∧ ∀ r : RegionId, (tfind s.regions r.val).isSome → (regOf t r).stopE5 = false
        ∧ ((regOf s r).stopE5 = true → running (thread s (monitorOf s r)) = true → (coreOf s (frontOf s r)).isolated = false →
          (thread t (monitorOf s r)).evPending.getLsbD 5 = true))
    ∧ (s.clock.cycle ≤ 128 → ∃ t, exec .variantLatch s = .next t ∧ t.clock.cycle = 128
      ∧ (∀ r : RegionId, (regOf s r).valid = true → (regOf t r).variant = (regOf s r).sampledVariant)
      ∧ ∀ (r : RegionId) (c : CoreId) (g : BitVec 8), s.regions = [(r.val, regOf s r)] → (regOf s r).valid = true →
          (regOf s r).night = none → s.coreNights = [] → s.engines = [] → groupsOf s r = [g] → c ∈ regionCores s r →
          (coreOf s c).group = some g → (coreOf s c).resolving = [] →
          (∀ i, tsorted (thOf (coreOf s c) i).pSpec = true ∧ tsorted (thOf (coreOf s c) i).vSpec = true
            ∧ tsorted (thOf (coreOf s c) i).rows = true) →
        let commit := (regOf s r).sampledMask.getLsbD g.toNat
        (commit = true → committed (coreOf s c) (coreOf t c)) ∧ (commit = false → discarded (coreOf s c) (coreOf t c))
          ∧ (shadowKeys (coreOf s c) = [] → (coreOf t c).group = none)
          ∧ (coreOf t c).resolving = (shadowKeys (coreOf s c)).map (fun k => (k, commit))
          ∧ tget 0 t.counters (ctrRegion r.val (if commit then 1 else 2))
            = satAdd (tget 0 s.counters (ctrRegion r.val (if commit then 1 else 2))) 1)
    ∧ (s.clock.cycle ≤ 319 → ∀ d : DieId, ∃ t, exec (.dawnFlagClear d) s = .next t ∧ t.clock.cycle = 319
      ∧ (∀ w ∈ s.dawnClear, w.1 = d →
          (∀ n, w.2.1 ≤ n → n < w.2.1 + w.2.2 → flagAt t d n = false) ∧ ∀ u ∈ t.flight, u.die ≠ d)
      ∧ (∀ e : DieId, e ≠ d → bankOf t e = bankOf s e)
      ∧ ((∀ u ∈ s.flight, u.die ≠ d) → (∀ c : CoreId, { coreOf t c with passed := [] } = { coreOf s c with passed := [] })
          ∧ ∀ n < 512, flagAt t d n = (flagAt s d n && !(s.dawnClear.any fun w =>
            decide (w.1 = d ∧ w.2.1 ≤ n ∧ n < w.2.1 + w.2.2)))))
    ∧ (s.clock.cycle ≤ 448 → ∃ t, exec .dawnEvent s = .next t ∧ t.clock.cycle = 448
      ∧ ∀ (r : RegionId) (h : Hart), (regOf s r).valid = true → (regOf s r).stopped = false → (regOf s r).night = none →
          h.core ∈ regionCores s r → (thread s h).run ≠ .unreleased → (coreOf s h.core).isolated = false → (thread t h).evPending.getLsbD 2 = true))
  ∧ (∀ (n : Nat) (i : Instr) (d : DieId) (s : State),
    (n, i) ∈ [(32, .dawnControlWords), (128, .variantLatch), (319, .dawnFlagClear d), (448, .dawnEvent), (512, .noonStart)] →
    s.clock.phase ≠ .dawn ∨ n < s.clock.cycle → exec i s = .next s)
  ∧ (∀ (core : CoreId) (r : RegionId) (s : State), s.dev ≠ .midnight →
    (s.clock.phase = .dawn → s.clock.cycle ≤ 512 →
      ∃ t, exec .noonStart s = .next t ∧ t.clock.phase = .noon ∧ t.clock.cycle = 512
        ∧ (∀ c : CoreId, { coreOf t c with passed := [] } = { coreOf s c with passed := [] })
        ∧ (s.clock.cycle < 512 → ∀ c : CoreId, (coreOf t c).passed = []))
    ∧ (s.clock.phase = .noon → s.clock.cycle ≤ dayLen s - duskLen s →
      ∃ t, exec .duskStart s = .next t ∧ t.clock.phase = .dusk ∧ t.clock.cycle = dayLen s - duskLen s
        ∧ ∀ l, (tfind s.regions r.val).isSome → (regOf s r).load = some l → l.running = true →
            (regOf t r).load = none ∧ (regOf t r).late = true ∧ (regOf t r).routeStatus = 0x18)
    ∧ (s.clock.phase = .noon → s.clock.cycle ≤ dayLen s - duskLen s →
      ∃ t, exec .duskStart s = .next t ∧ ∀ k : PortId, (portAt t k).loading = none
        ∧ (portAt t k).loaded = if (portAt s k).loading.isSome then none else (portAt s k).loaded)
    ∧ (s.clock.phase ≠ .noon → exec .duskStart s = .next s)
    ∧ (s.dev = .daylight → regionOf s core = some r → (regOf s r).stopped = false → (coreOf s core).budget ≠ 0 →
        (coreOf s core).dayDone = false →
      ∃ t, exec (.dayOverrun core) s = .next t
        ∧ { coreOf t core with passed := [] } = { coreOf s core with overrun := true, passed := [] }
        ∧ t.clock.cycle = max s.clock.cycle (coreOf s core).budget.toNat))

/-- A pending launch whose cell is valid and not busy starts at D+320 in its running region: it is marked started and its
notice waits for the region monitor, with E7 (R335, R336); no descriptor of its ring that was read before it still waits to
start (R323). It counts among the 8 notices of that Dawn, and where those have been posted it stays pending (R339). -/
def Obligations.PendingLaunchesStartAtDawn : Prop :=
  ∀ (r : RegionId) (k : Nat) (l : Launch) (s : State), s.dev ≠ .midnight → s.clock.phase = .dawn → s.clock.cycle ≤ 320 →
    s.regions = [(r.val, regOf s r)] → (regOf s r).valid = true → (regOf s r).stopped = false → (regOf s r).night = none →
    (thread s (monitorOf s r)).run ≠ .unreleased → waitingOf (regOf s r) = [.launch k l] → (regOf s r).launched = false →
    cellBusy (regOf s r) l.cell = false → cellInRegion s r l.cell.toNat = true →
    (ownPlace (coreOf s (frontOf s r)) 4).isSome = true → (coreOf s (frontOf s r)).isolated = false → l.args = [] →
    l.fence = false → (∀ d ∈ (sqOf (fnOf s l.fn) l.ring.val).queue, l.seq ≤ d.1) →
    let n := if (regOf s r).posted.1 = s.clock.dayNo then (regOf s r).posted.2 else 0
    (n < 8 → ∃ t, exec .launchStart s = .next t ∧ t.clock.cycle = 320 ∧ (regOf t r).launched = true
      ∧ tfind (regOf t r).launches k = some { l with started := true }
      ∧ (nqOf (coreOf t (frontOf s r)) 4).items.length = (nqOf (coreOf s (frontOf s r)) 4).items.length + 1
      ∧ (thread t ⟨frontOf s r, 0⟩).evPending.getLsbD 7 = true ∧ (regOf t r).posted = (s.clock.dayNo, n + 1))
    ∧ (8 ≤ n → ∃ t, exec .launchStart s = .next t ∧ t.clock.cycle = 320 ∧ (regOf t r).launches = (regOf s r).launches
      ∧ ∀ c : CoreId, { coreOf t c with passed := [] } = { coreOf s c with passed := [] })

/-- A thread of a bound core may issue a 4-byte instruction in Noon, and no shadow is still to resolve (R221, R228). -/
def specRuns (h : Hart) (p : Fin 8) (s : State) : Prop :=
  CanIssue h 4 s ∧ pReg (thread s h) p = true ∧ s.clock.phase = .noon ∧ (coreOf s h.core).resolving = []

/-- The predicate register holds a speculative copy; p0 has none (R223). -/
def copied (t : Thread) (i : Fin 8) : Prop := i ≠ 0 ∧ (tfind t.pSpec i.val).isSome = true

/-- A speculative instruction reads speculative values, and its writes go to the copies, to marked words and to speculative
rows; one that would write elsewhere does nothing and waits for the resolution (R223–R228): shown for a predicate operation,
`VFROMT` of a speculative row, `VLD` of a marked word, `STD` under a speculative predicate and `ADD`. An ordinary write of a
register drops its copy (R227). A flit of a group's stream marks the words it lands in and binds the core; an ordinary one
clears their marks (R221, R227). A shadow accumulator resolves in its eight cycles: a commit writes it over the
accumulator, a discard leaves the accumulator, and the shadow is gone (R234). A committed group's deferred fault is taken at
the next boundary, with the `DEFERRED` mark; an open hold keeps it waiting (R231). -/
def Obligations.ShadowsAndDeferredFaultsResolve : Prop :=
  (∀ (h : Hart) (p d a b : Fin 8) (v : Fin 32) (x y z : Fin 32) (imm : BitVec 12) (td : Fin 8) (row : Fin 16) (s : State),
    let t := thread s h
    let done : (Thread → Thread) → Host.Outcome State Fault Refusal := fun f => .next (after h 4 f s)
    let A := addr32 s h x 8 imm
    let L := addr32 s h x 64 imm
    (specRuns h p s → copied t p ∨ copied t a ∨ copied t b →
      exec (.pand h p d a b) s
        = done fun u => if d = 0 then u else { u with pSpec := tset u.pSpec d.val (pReg t a && pReg t b) })
    ∧ (specRuns h p s → ¬ copied t p → ¬ copied t a → ¬ copied t b → d ≠ 0 →
      exec (.pand h p d a b) s
        = done fun u => { u with p := tset u.p d.val (pReg t a && pReg t b), pSpec := tdel u.pSpec d.val })
    ∧ (specRuns h p s → row.val < dRows (descOf t td.val) → (rowOf t (16 * td.val + row.val)).spec = true →
      exec (.vfromt h p v td row []) s
        = done fun u => { u with vSpec := tset u.vSpec v.val ⟨rowData t td.val row.val, rowPoison t td.val row.val⟩ })
    ∧ (specRuns h p s → accessible L 64 → (wordsOf L.toNat 64).any (specView (coreOf s h.core) (some h.thread)) = true →
        (∀ w ∈ wordsOf L.toNat 64, w ∉ moverWants (coreOf s h.core)) →
      exec (.vld h p v x imm) s
        = done fun u => { u with vSpec := tset u.vSpec v.val ⟨bytes512 (readView (coreOf s h.core) (some h.thread) L.toNat 64),
            (wordsOf L.toNat 64).any (poisonView (coreOf s h.core) (some h.thread))⟩ })
    ∧ (specRuns h p s → copied t p → accessible A 8 →
      ((wordsOf A.toNat 8).all (specView (coreOf s h.core) (some h.thread)) = true → (coreOf s h.core).stores.length < 8 →
        ∃ u, exec (.std h p v x imm) s = .next u ∧ thread u h = advPc 4 t
          ∧ (coreOf u h.core).stores = (coreOf s h.core).stores ++ [⟨h.thread, A.toNat, natBytes 8 (gReg t v).toNat, false, true⟩]
          ∧ (coreOf u h.core).mem = (coreOf s h.core).mem ∧ (coreOf u h.core).specMark = (coreOf s h.core).specMark)
      ∧ ((wordsOf A.toNat 8).all (specView (coreOf s h.core) (some h.thread)) = false →
        exec (.std h p v x imm) s = .next (awaitGroup h s)))
    ∧ (CanIssue h 4 s → pReg t p = true → copied t p → (coreOf s h.core).resolving = [] →
      exec (.add h p v y z) s = .next (awaitGroup h s)
      ∧ (s.clock.phase ≠ .noon → exec (.pand h p d a b) s = .next (awaitGroup h s))
      ∧ thread (awaitGroup h s) h = { t with run := .waiting .resolution }))
  ∧ (∀ (core : CoreId) (f : Flit) (rest : List Flit) (q : Option (Fin 5)) (s : State),
    let c := coreOf s core
    c.inbox = f :: rest → f.index = 0 → verdict s core f.header = .accept q → conflicts c f = none →
      (hTail f.header && hHeld f.header) = false →
    ∃ t, exec (.messageLanding core) s = .next t ∧ (coreOf t core).group = (c.group.or f.group)
      ∧ (∀ w, hLaddr f.header / 8 ≤ w → w < hLaddr f.header / 8 + f.words.length →
          (w ∈ (coreOf t core).specMark ↔ f.group.isSome = true))
      ∧ ∀ w, w < hLaddr f.header / 8 ∨ hLaddr f.header / 8 + f.words.length ≤ w →
          (w ∈ (coreOf t core).specMark ↔ w ∈ c.specMark))
  ∧ (∀ (h : Hart) (a : Fin 4) (commit : Bool) (s : State), tsorted (thread s h).accSpec = true →
    (coreOf s h.core).resolving.find? (fun e => decide (e.1 = 4 * h.thread.val + a.val)) = some (4 * h.thread.val + a.val, commit) →
    ∃ t, exec (.shadowAccumulatorResolve h a) s = .next t
      ∧ t.clock.cycle = max s.clock.cycle (135 + 8 * (4 * h.thread.val + a.val))
      ∧ ∀ i < 16,
        accArch (thread t h) (16 * a.val + i) = (if commit then accRow (thread s h) (16 * a.val + i)
          else accArch (thread s h) (16 * a.val + i))
        ∧ tfind (thread t h).accSpec (16 * a.val + i) = none)
  ∧ (∀ (h : Hart) (f : DeferredFault) (r : RegionId) (s : State), (thread s h).deferredFault = some f → s.clock.phase = .noon →
    regionOf s h.core = some r → (regOf s r).stopped = false → (thread s h).run = .ready →
    ((thread s h).hold = none → (thread s h).debugHalt = false →
      exec (.deferredFaultEntry h) s = .next (modTh s h fun t =>
        { t with
          deferredFault := none
          errCause := f.cause.setWidth 10 ||| (if f.lost || t.errCause.getLsbD 8 || t.evPending.getLsbD 5 then 0x100 else 0) ||| 0x200
          errPc := f.pc
          errInfo := f.info
          run := .entering (f.cause.setWidth 7) t.pc }))
    ∧ ((thread s h).hold.isSome = true → exec (.deferredFaultEntry h) s = .next s))


/-! ### The region monitor's ports, and streams -/

/-- The word a register pair gives the monitor's create request (R115). -/
def requested (x : Region) : BitVec 128 := BitVec.ofNat 128 (x.cellReqLo.toNat + x.cellReqHi.toNat * 2 ^ 64)

/-- The region monitor's requests (R38, R39, R41, R79, R115, R337, R338): a create or delete request leaves its status and
index in `CELL_STATUS` and, accepted, its change for the Daybreak that R41 names, the operator's command likewise; a resume
asks for a stopped region only; a host notification waits for its ring, unless that is full and 64 entries are held already:
then it is lost and the monitor is told (R331); and a launch completion ends its launch. `MON_ERROR` reads the stop cause
(R78); `CELL_READ_LO` and `CELL_READ_HI` read the selected entry of the region and 0 for another; `VARIANT_NEXT` and
`CONFIRM_n` take the next Dawn's selector and 64 bits of its mask (R218, R220); and a thread's read of `VARIANT` waits until
D+128 and then gives the region's variant (R115, R219). -/
def Obligations.MonitorRequestsAct : Prop :=
  ∀ (h : Hart) (p : Fin 8) (d : Fin 32) (r : RegionId) (s : State),
    let v := gReg (thread s h) d
    let x := regOf s r
    let wanted : Option (BitVec 11) := if bit v 11 then none else some (BitVec.ofNat 11 (fld v 0 11))
    let pend := fun (i : Nat) (e : Option (BitVec 128)) (u : State) =>
      { u with cellChanges := u.cellChanges ++ [⟨effDay s, BitVec.ofNat 11 i, e⟩] }
    let status := fun (st : BitVec 8) (i : Nat) (u : State) => modReg u r fun x => { x with cellStatus := statusWord st i }
    (monitors h p r s →
      gives (.cellStatus h p d) h d x.cellStatus id s
      ∧ gives (.portIn h p d 0x8018) h d (x.monError.setWidth 64) id s
      ∧ (let i := x.cellReadSel.toNat
         let e := if i ≠ 0 ∧ cValid (cellEntry s i) ∧ cRegion (cellEntry s i) = r.val then cellEntry s i else 0
         gives (.portIn h p d 0x8050) h d (e.extractLsb' 0 64) id s ∧ gives (.portIn h p d 0x8058) h d (e.extractLsb' 64 64) id s)
      ∧ takes (.portOut h p d 0x8048) h (fun u => modReg u r fun x => { x with cellReadSel := v.setWidth 11 }) s
      ∧ takes (.portOut h p d 0x8078) h (fun u => modReg u r fun x => { x with variantNext := v.setWidth 4 }) s
      ∧ (∀ n : Fin 4, ∃ m : BitVec 256, takes (.portOut h p d (BitVec.ofNat 16 (0x8080 + 8 * n.val))) h
            (fun u => modReg u r fun x => { x with confirm := m }) s
          ∧ ∀ i < 256, m.getLsbD i = if i / 64 = n.val then v.getLsbD (i % 64) else x.confirm.getLsbD i)
      ∧ takes (.regionResume h p d) h (fun u => modReg u r fun x => { x with resumeReq := x.resumeReq || x.stopped }) s
      ∧ (∀ st i e, createCheck s (some r) (requested x) wanted = (st, i, e) →
          takes (.cellCreate (.port h p d)) h
            (fun u => if st = 0 then status 0 i (pend i (some e) u) else status st 0 u) s)
      ∧ (∀ st, st ≠ 0 → deleteCheck s (some r) (fld v 0 11) = st → takes (.cellDelete (.port h p d)) h (status st 0) s)
      ∧ (deleteCheck s (some r) (fld v 0 11) = 0 → (∀ c ∈ s.cellChanges, c.entry = none) →
          takes (.cellDelete (.port h p d)) h (fun u => status 0 (fld v 0 11)
            { pend (fld v 0 11) none u with cellReuse := tset u.cellReuse (fld v 0 11) (effDay s + 2) }) s)
      ∧ (∀ fn, bit v 0 = false → fnOfRegion s r = some fn → cqEnabled (fnOf s fn) (fld v 1 4) = true →
          ¬ (cqFull (cqOf (fnOf s fn) (fld v 1 4)) = true ∧ 64 ≤ heldBack (fnOf s fn)) →
          takes (.hostNotification h p d) h (postCqe fn (fld v 1 4)
            ⟨0, 0, 2, 0, 0, BitVec.ofNat 64 (fld v 16 48), 0, none⟩) s)
      ∧ (∀ fn, bit v 0 = false → fnOfRegion s r = some fn → cqEnabled (fnOf s fn) (fld v 1 4) = true →
          cqFull (cqOf (fnOf s fn) (fld v 1 4)) = true → 64 ≤ heldBack (fnOf s fn) →
          takes (.hostNotification h p d) h (notifyLost r) s)
      ∧ (∀ l, bit v 0 = true → fld v 16 8 < 0x40 → tfind x.launches (fld v 8 6) = some l → l.ended = false → l.orphan = false →
          l.noCqe = false →
          ∃ t, exec (.launchCompletion h p d) s = .next t ∧ thread t h = advPc 4 (thread s h)
            ∧ tfind (regOf t r).launches (fld v 8 6) = some { l with ended := true }
            ∧ ∃ e : Cqe, (fnOf t l.fn).holding = (fnOf s l.fn).holding ++ [(Fin.ofNat 16 (sqCq (fnOf s l.fn) l.ring.val), e)]
              ∧ e.cid = l.cid ∧ e.kind = 0 ∧ e.status.toNat = fld v 16 8 ∧ e.opcode = 1 ∧ e.slot = some (r, fld v 8 6)))
    ∧ (Runs h p 4 s → regionOf s h.core = some r →
      (s.clock.cycle < 128 → waits (.portIn h p d 0x1020) h (.portRead 0x1020 d 4) s)
      ∧ (128 ≤ s.clock.cycle → gives (.portIn h p d 0x1020) h d (x.variant.setWidth 64) id s))
    ∧ (commands s → ∀ e w i new, createCheck s none e w = (0, i, new) →
        exec (.cellCreate (.operator e w)) s = .next (reply 0 [BitVec.ofNat 64 i] (pend i (some new) s)))
    ∧ (commands s → ∀ i : BitVec 11, deleteCheck s none i.toNat ≠ 0 →
        exec (.cellDelete (.operator i)) s = .next (reply (deleteCheck s none i.toNat) [0] s))

/-- The completion record of a stream (R274): its transfer ID, its status and the number of poisoned flits. -/
def recordOf (x : StreamCmd) (st : BitVec 8) (poisoned : Nat) : Word :=
  BitVec.ofNat 64 (dXfer x.desc + st.toNat * 2 ^ 16 + min poisoned (2 ^ 24 - 1) * 2 ^ 32)

/-- A record has come to its thread, with E4 (R253). -/
def recorded (g : Hart) (w : Word) (s t : State) : Prop :=
  (thread t g).streamDone = (thread s g).streamDone ++ [w] ∧ (thread t g).evPending.getLsbD 4 = true

/-- A thread can take another record: it has room for one, and its core is not isolated (R253, R417). -/
def hears (g : Hart) (s : State) : Prop := (thread s g).streamDone.length < 32 ∧ (coreOf s g.core).isolated = false

/-- The stream ports (R251–R253, R273): a descriptor that opens a command stream goes to the lowest idle engine of the region,
once its staging fits; with none idle the write waits; a read of `STREAM_DONE` takes the oldest record; a cancelled stream's
engine is idle, its record carries `0x25`. -/
def Obligations.StreamPortsSubmitReadAndCancel : Prop :=
  ∀ (h : Hart) (p : Fin 8) (d : Fin 32) (r : RegionId) (e : EngineId) (w : Word) (ws : List Word) (y : StreamRun) (s : State),
    Runs h p 4 s → regionOf s h.core = some r → (coreOf s h.core).isolated = false →
    let v := gReg (thread s h) d
    let x : StreamCmd := ⟨readDesc (coreOf s h.core) h.thread v.toNat, h, r⟩
    (v.toNat % 64 = 0 → v.toNat + 64 ≤ 0xC0000 → dChain x.desc = false →
      (idleEngine s r = some e → stageFits s x = true →
        ∃ t, exec (.streamSubmit h p d) s = .next t ∧ (engineOf t e).queue = [x] ∧ (engineOf t e).run = none
          ∧ thread t h = { advPc 4 (thread s h) with lastStream := some (e, (engineOf s e).chain + 1) })
      ∧ (idleEngine s r = none → waits (.streamSubmit h p d) h (.portWrite 0x2018 v 4) s))
    ∧ ((thread s h).streamDone = w :: ws → (∀ k ∈ s.engines, k.2.undelivered = []) →
        gives (.streamDone h p d) h d w (fun u => modTh u h fun t => { t with streamDone := ws }) s)
    ∧ ((thread s h).streamDone = [] → waits (.streamDone h p d) h (.portRead 0x2020 d 4) s)
    ∧ (s.engines = [(e.val, engineOf s e)] → (engineOf s e).run = some y → (engineOf s e).ahead = [] → (engineOf s e).queue = [] →
        y.cmd.region = r → dXfer y.cmd.desc = fld v 0 16 → hears y.cmd.hart s →
        ∃ t, exec (.streamCancel h p d) s = .next t ∧ (engineOf t e).run = none
          ∧ recorded y.cmd.hart (recordOf y.cmd 0x25 y.poisoned) s t)

/-- The words of the flit at bulk address `a`. -/
def flitAt (s : State) (a : Nat) : List PWord := (List.range 8).map fun j => ⟨bytes64 (bulkRead s (a + 8 * j) 8), false⟩

/-- A descriptor starts, works and completes (R245, R256, R260, R263–R269, R271, R273–R275): the head of an idle engine's
queue runs with its windows when it passes its checks and its staging fits, a write stream with a transfer of its core's
mover, and completes with `0x23` when it fails them; a window begins today in the first slot from its start on that lies
ahead. A burst that needs one controller alone is chosen when no waiting burst of that controller goes before it (within
quota first, then the earlier deadline, then the lower engine), an unscheduled one is due 65,536 cycles after it became
ready, and one that is not chosen stays. A read's burst asks for its bytes unless a mark or eight bursts hold it, and when
it completes its flits stand in the staging queue of their shore; a write's burst writes the bytes of its flits, a fill's
its pattern, and nothing else; a fill counts for its region; a compare's burst asks for its bytes and takes them; a burst of
a cancelled stream still completes. A decryption block is released when its tag, once its read is taken, checks, and ends
the stream with `0x0E` when it does not; a finished stream and a reached marker leave their record, and an arrival signal
goes to its bank. -/
def Obligations.StreamsRunTheirDescriptors : Prop :=
  ∀ (e : EngineId) (q : StreamCmd) (rest : List StreamCmd) (y : StreamRun) (b : Burst) (wb : WriteBurst) (i : Nat) (s : State),
    let k := dKind y.cmd.desc
    let a := burstAddr y.cmd.desc b
    let u := putRun e y s
    let goes := y.overflowed = false ∧ ∀ c, engineReady u e = some c → granted u c = true
    ((engineOf s e).queue = q :: rest → (engineOf s e).run = none → (engineOf s e).ahead = [] →
      (∀ ecc, descOk s e q = true → stageFits s q = true → dKind q.desc ≠ 0 ∨ dSparse q.desc = 0 →
        ∃ t z, exec (.streamDescriptorStart ⟨e, ecc⟩) s = .next t ∧ (engineOf t e).queue = rest ∧ (engineOf t e).run = some z
          ∧ z.cmd = q ∧ z.issued = 0 ∧ z.bursts = [] ∧ z.staged = 0 ∧ z.written = 0 ∧ z.status = 0
          ∧ z.window = (windowsOf s q).getD [] ∧ t.bulk = s.bulk
          ∧ (coreOf t q.hart.core).moverQ = (coreOf s q.hart.core).moverQ
            ++ if dKind q.desc = 1 then [⟨q.hart.thread, 0, some e⟩] else [])
      ∧ (∀ ecc, descOk s e q = false → hears q.hart s →
        ∃ t, exec (.streamDescriptorStart ⟨e, ecc⟩) s = .next t ∧ (engineOf t e).queue = rest ∧ (engineOf t e).run = none
          ∧ recorded q.hart (recordOf q 0x23 0) s t))
    ∧ (∀ p dir start n w, windowFor s p dir start n = some w → w.left = n ∧ (w.day = s.clock.dayNo →
        isSlot s p dir w.offset = true ∧ start ≤ w.offset ∧ s.clock.cycle < 512 + w.offset
          ∧ ∀ off, start ≤ off → off < w.offset → isSlot s p dir off = false))
    ∧ (∀ (c : Ready) (m : Nat), c.controllers = [m] → c.segments = [] →
        (granted s c = true ↔ ∀ x ∈ waiting s, m ∈ x.controllers →
          let Q := fun z : Ready => withinQuota s m z.region = true
          ¬ ((Q x ∧ ¬ Q c) ∨ ((Q x ↔ Q c) ∧ (x.deadline < c.deadline ∨ (x.deadline = c.deadline ∧ x.rank < c.rank))))))
    ∧ (∀ z b', (dyingBursts (engineOf s e))[i]? = some (z, b') → burstFar z.cmd.desc b' = false →
        ∃ t, exec (.burstComplete e i [] []) s = .next t ∧ runOf t e = runOf s e ∧ t.bulk = s.bulk
          ∧ (dyingBursts (engineOf t e)).length + 1 = (dyingBursts (engineOf s e)).length)
    ∧ ((engineOf s e).run = some y → (engineOf s e).ahead = [] →
      (∀ c, k = 2 ∨ k = 3 → engineReady s e = some c → c.deadline = y.ready + 65536)
      ∧ (∀ c, k = 2 ∨ k = 3 → y.overflowed = false → engineReady u e = some c → granted u c = false →
        exec (.burstIssue e) s = .next u)
      ∧ (k = 2 → goes → s.bulk.wf = true → dFarA y.cmd.desc = false → nextBurst y = some b →
        ∃ t, exec (.burstIssue e) s = .next t
          ∧ runOf t e = some { y with issued := y.issued + b.len, written := y.written + b.len, ready := s.clock.now }
          ∧ servedFor t (a / 256 % 8) y.cmd.region = servedFor s (a / 256 % 8) y.cmd.region + 1
          ∧ (∀ j < b.len, mget t.bulk (a + j) = (dWord y.cmd.desc 3).extractLsb' (8 * ((b.offset + j) % 8)) 8)
          ∧ ∀ j, j < a ∨ a + b.len ≤ j → mget t.bulk j = mget s.bulk j)
      ∧ (k = 1 → goes → s.bulk.wf = true → dFarA y.cmd.desc = false → nextWrite y = some wb →
        let bs := (writePieces y.part wb.len wb.run).flatMap Prod.fst
        let A := burstAddr y.cmd.desc ⟨wb.offset, wb.len, false⟩
        ∃ t, exec (.burstIssue e) s = .next t ∧ runOf t e = some (wroteBurst s.clock.now wb y)
          ∧ mread t.bulk A bs.length = bs ∧ ∀ j, j < A ∨ A + bs.length ≤ j → mget t.bulk j = mget s.bulk j)
      ∧ (k = 0 → dSparse y.cmd.desc = 0 → nextBurst y = some b → burstFar y.cmd.desc b = false → y.overflowed = false →
        let y' := markBurst s b y
        (fetchHeld s y' = true → exec (.burstIssue e) s = .next (putRun e y' s))
        ∧ (fetchHeld s y' = false → (∀ c, engineReady (putRun e y' s) e = some c → granted (putRun e y' s) c = true) →
          ∃ t z, exec (.burstIssue e) s = .next t ∧ runOf t e = some z ∧ z.bursts = y.bursts ++ [b] ∧ z.queue = y.queue
            ∧ z.issued = y.issued + b.len ∧ z.ready = s.clock.now ∧ t.bulk = s.bulk))
      ∧ (k = 3 → goes → nextBurst y = some b → burstFar y.cmd.desc b = false → y.bursts.length < 8 →
        ∃ t, exec (.burstIssue e) s = .next t
          ∧ runOf t e = some { y with bursts := y.bursts ++ [b], issued := y.issued + b.len, ready := s.clock.now })
      ∧ ((engineOf s e).dying = [] → y.bursts[i]? = some b → burstFar y.cmd.desc b = false →
          (∀ j < b.len, bulkBad s (a + j) = false) →
        (k = 3 → ∃ t z, exec (.burstComplete e i [] []) s = .next t ∧ runOf t e = some z ∧ z.bursts = dropAt y.bursts i
          ∧ z.status = y.status ∧ t.bulk = s.bulk)
        ∧ (k = 0 → dSparse y.cmd.desc = 0 → dT2 y.cmd.desc = false → dDecrypt y.cmd.desc = false → dNmem y.cmd.desc = 1 →
            y.replaced = [] → b.second = false → b.offset % 64 = 0 → b.len % 64 = 0 → 0 < b.len →
            b.offset + b.len ≤ dLength y.cmd.desc →
            (∀ f, b.offset / 64 ≤ f → f < (b.offset + b.len) / 64 → flitData y f = none) →
          let p := (flitShore s y.bitmap y.cmd (b.offset / 64)).val
          ∃ t z, exec (.burstComplete e i [] []) s = .next t ∧ runOf t e = some z ∧ z.bursts = dropAt y.bursts i
            ∧ z.status = y.status ∧ z.staged = y.staged + b.len / 64
            ∧ queueAt z p = queueAt y p
              ++ (List.range (b.len / 64)).map fun j => ⟨b.offset / 64 + j, flitAt s (a + 64 * j)⟩))
      ∧ (k = 4 → markerReached s y.cmd.desc = true → hears y.cmd.hart s →
        ∃ t, exec (.dependenceMarkerRelease e) s = .next t ∧ (engineOf t e).run = none
          ∧ recorded y.cmd.hart (recordOf y.cmd y.status y.poisoned) s t)
      ∧ (k ≠ 3 → streamFinished y = true → hears y.cmd.hart s →
        ∃ t, exec (.streamComplete e) s = .next t ∧ (engineOf t e).run = none
          ∧ recorded y.cmd.hart (recordOf y.cmd y.status y.poisoned) s t)
      ∧ (∀ key, k = 0 → dDecrypt y.cmd.desc = true → tfind (regOf s y.cmd.region).keys (dKeySlot y.cmd.desc) = some key →
          4096 * (y.released + 1) ≤ dStored y.bitmap y.cmd.desc → (engineOf s e).queue = [] →
          hears y.cmd.hart s →
          (∀ j < 512, (tfind y.ingest (512 * y.released + j)).isSome = true) →
          let n := (dAddrA y.cmd.desc - key.imageBase.toNat) / 4096 + y.released
          granted s (tagReady s e.val y.cmd.region (engineDie e) key n) = true →
        ∃ t, exec (.decryptBlockCheck ⟨e, ⟨[], []⟩⟩) s = .next t
          ∧ match openBlock s key n
              (wordsBytes ((List.range' (512 * y.released) 512).map fun j => (tget ⟨0, false⟩ y.ingest j).data)) with
            | some _ => ∃ z, runOf t e = some z ∧ z.released = y.released + 1
            | none => (engineOf t e).run = none ∧ recorded y.cmd.hart (recordOf y.cmd 0x0E y.poisoned) s t))
    ∧ (∀ cell ix l die n, (engineOf s e).arrivals = (cell, 1, ix) :: l → flagIn (cellEntry s cell.toNat) ix.toNat = some (die, n) →
        ∃ t, exec (.streamArrivalSignal e) s = .next t ∧ (engineOf t e).arrivals = l
          ∧ t.flight = s.flight ++ [⟨.engine e, die, .set n⟩])

/-- The shore and the spill caches (R71, R260, R261, R276–R278, R376, R379, R461): an inbound slot that a stream owns
carries its next flit from staging, or where that has not come a poisoned one in its place, counted in `LATE_SLOTS`; a slot
that no stream owns carries the oldest message flit that waits, one of a TC0 message of a link before the others (the
model's choice, log 99); an outbound message for this device is dropped and counted; a line asked of host memory comes in
pieces of 64 bytes, from the one asked for first on with wrap-around, and is cached when the last has come; a way that has
failed (by its record of errors, the model's reading, log 74) is disabled and holds no line, and no other is;
`SPILL_WAYS_POWER` powers the ways it names, and no line stays in a way it gates. -/
def Obligations.ShoreAndSpillCacheMoveData : Prop :=
  ∀ (port : ShoreId) (n : BitVec 24) (f : Flit) (l : List Flit) (link : LinkId) (r : RegionId) (line : BitVec 36)
    (w : WantedLine) (data : List (BitVec 64)) (way : Fin 16) (v : BitVec 64) (s : State),
    let i := if port.val < 128 then 1 else 3
    (s.dev = .daylight → s.clock.phase = .noon → 512 ≤ n.toNat → isSlot s port .inbound (n.toNat - 512) = true → s.engines = [] →
        tget [] s.deadSlots port.val = [] → (∀ k, replayedAt s port k = false) →
      let enters := fun t => tget [] (routerOf t (shoreCore port)).inputs i = tget [] (routerOf s (shoreCore port)).inputs i ++ [f]
      (tget [] s.shoreTc0 port.val = [] → tget [] s.shoreIn port.val = f :: l →
        ∃ t, exec (.shoreSlot port .inbound n) s = .next t ∧ tget [] t.shoreIn port.val = l ∧ enters t)
      ∧ (tget [] s.shoreTc0 port.val = f :: l →
        ∃ t, exec (.shoreSlot port .inbound n) s = .next t ∧ tget [] t.shoreTc0 port.val = l ∧ t.shoreIn = s.shoreIn ∧ enters t))
    ∧ (∀ (e : EngineId) (y : StreamRun) (k : Nat), s.dev = .daylight → s.clock.phase = .noon → 512 ≤ n.toNat →
        isSlot s port .inbound (n.toNat - 512) = true → s.clock.cycle ≤ n.toNat →
        slotOwner s port .inbound (n.toNat - 512) = some (e, y) → nextFlit s y port = some k →
      let enters := fun t g => tget [] (routerOf t (shoreCore port)).inputs i = tget [] (routerOf s (shoreCore port)).inputs i ++ [g]
      let late := ctrRegion y.cmd.region.val 0
      (∀ x, stagedNext s y port = some x →
        ∃ t, exec (.shoreSlot port .inbound n) s = .next t ∧ enters t (streamFlit s y k x.words)
          ∧ tget 0 t.counters late = tget 0 s.counters late)
      ∧ (stagedNext s y port = none → dAbort y.cmd.desc = false →
        ∃ t g, exec (.shoreSlot port .inbound n) s = .next t ∧ enters t g ∧ g.mid = (streamFlit s y k []).mid
          ∧ g.index = (streamFlit s y k []).index ∧ (∀ w ∈ g.words, w = ⟨0, true⟩) ∧ tget 0 t.counters late = satAdd (tget 0 s.counters late) 1))
    ∧ (tget [] s.shoreOut port.val = f :: l → f.outbound = none → hDevice f.header = s.deviceId.toNat → f.index = 0 →
      ∃ t, exec (.shoreSlot port .outbound n) s = .next t ∧ tget [] t.shoreOut port.val = l
        ∧ tget 0 t.counters (ctrEdie (edieOf port) 12) = satAdd (tget 0 s.counters (ctrEdie (edieOf port) 12)) 1)
    ∧ ((spillOf s link).wanted.find? (isWanted r line) = some w →
      (w.pieces.length < 3 →
        ∃ t, exec (.spillCacheMissFill link r line data) s = .next t ∧ (spillOf t link).lines = (spillOf s link).lines
          ∧ (spillOf t link).wanted.find? (isWanted r line) = some { w with pieces := w.pieces ++ [data] })
      ∧ (w.pieces.length = 3 → w.void = false → lineAt (spillOf s link) r line = none → (r, line) ∉ (spillOf s link).lost →
          (∃ k, victimWay (spillOf s link) (line.toNat % 32768) = some (k, none)) →
        ∃ t x, exec (.spillCacheMissFill link r line data) s = .next t ∧ x ∈ (spillOf t link).lines ∧ x.region = r
          ∧ x.line = line ∧ x.fn = w.fn ∧ x.dirty = false
          ∧ ∀ j < 32, nth ⟨0, false⟩ x.words j
              = ⟨nth 0 (nth [] (w.pieces ++ [data]) ((j / 8 + 4 - w.first.val) % 4)) (j % 8), false⟩))
    ∧ (∀ lost, (lost ≠ [] ∨ wayFailed (spillOf s link) s.clock.now way = true →
        ∃ t, exec (.spillWayDisable link way lost) s = .next t ∧ (spillOf t link).disabled.getLsbD way.val = true
          ∧ ∀ x ∈ (spillOf t link).lines, x.way ≠ way)
      ∧ (lost = [] → wayFailed (spillOf s link) s.clock.now way = false →
        exec (.spillWayDisable link way lost) s = .next s))
    ∧ (commands s → ∃ t, exec (.spillWaysPower link v) s = .next t ∧ (spillOf t link).power = v.setWidth 16
        ∧ ∀ x ∈ (spillOf t link).lines, (spillOf s link).power.getLsbD x.way.val = true → v.getLsbD x.way.val = true)


/-! ### Faults of the hardware, regions, and the operator's commands -/

/-- One more of the count at `a` (R415). -/
def counted (a : Nat) (s t : State) : Prop := tget 0 t.counters a = satAdd (tget 0 s.counters a) 1

/-- Errors of memories, tables and queues stay where they are found (R242, R295, R410, R412, R413): a corrected word is
counted; an uncorrectable word or sector is poisoned in place, its bytes as they were, and counted; a queue's word goes on
poisoned; a bad table word makes its entry invalid, masks its ports or marks its window; a queue whose pointer copies differ
is reset to empty, but for messages of which no flit stood in it, or its streams end; a crossing is emptied, those of an
E-L's ports with the messages they hold (log 171). Failed cores are replaced (R416–R422, R425, R430, R450): a first failure
of a row plans its spare and isolates the core, a second one plans a removed position, and a failed spare is recorded; a
migration that completes plans the shift for the next Daybreak; a bad hop removes the positions at both its ends, or with
the list full the whole C-die (log 63); a woken core that passes its test is ready; a store that completes leaves the item
in the slot that the last completed one did not write, under a higher sequence number; the rollback counter is stored until
both slots agree (R443); one that fails leaves that slot invalid and the other as it was (R430; the model's choice, log
166). A declaration has no effect unless what the core has shown bears its trigger out (R416). -/
def Obligations.FailuresAreHandled : Prop :=
  (∀ (core : CoreId) (w : Nat) (link : LinkId) (way : Fin 16) (tw : TableWord) (f0 : Flit) (stack : Fin 8) (sec : BitVec 30) (entry : Fin 1024) (ports : BitVec 5) (unit : Fin 48)
    (k : Fin 2048) (die : DieId) (fw : Fin 136) (q : Fin 5) (iq : Fin 16) (port : ShoreId) (e : EngineId) (ed : EDie) (u : Fin 32)
    (y : StreamRun) (s : State),
    let a := (sec.toNat / 4 * 8 + stack.val) * 256 + sec.toNat % 4 * 64
    let frame := fun t : State => t.bulk = s.bulk ∧ t.regions = s.regions ∧ t.engines = s.engines ∧ t.banks = s.banks
    (∀ code, w < (if code then 0x2000 else 0x18000) →
      exec (.localScrub (.memory core code) w 0 .clean) s = .next s
      ∧ exec (.localScrub (.memory core code) w 0 .corrected) s = .next (count s (ctrDie (dieOf core) 8) 1)
      ∧ ∃ t, exec (.localScrub (.memory core code) w 0 .uncorrectable) s = .next t ∧ counted (ctrDie (dieOf core) 9) s t ∧ frame t
        ∧ w ∈ (if code then (coreOf t core).codePoison else (coreOf t core).poison)
        ∧ (coreOf t core).mem = (coreOf s core).mem ∧ (coreOf t core).code = (coreOf s core).code
        ∧ (historyOf t (physicalOf s core)).words = (historyOf s (physicalOf s core)).words ++ [(code, w, s.clock.now)]
        ∧ ∀ d, d ≠ core → coreOf t d = coreOf s d)
    ∧ exec (.localScrub (.table tw) 0 0 .corrected) s = .next (count s (tableCtr tw) 1)
    ∧ exec (.localScrub (.table tw) 0 0 .uncorrectable) s = exec (.tableUncorrectable tw) s
    ∧ (∃ t, exec (.localScrub (.spill link way) 0 0 .corrected) s = .next t ∧ counted (ctrEdie (ehDie link.val) 7) s t ∧ frame t)
    ∧ (∃ t, exec (.localScrub (.spill link way) 0 0 .uncorrectable) s = .next t ∧ counted (ctrEdie (ehDie link.val) 8) s t ∧ frame t
        ∧ wayFailed (spillOf t link) s.clock.now way = true)
    ∧ exec (.localScrub (.landing core) 0 0 .corrected) s = .next (count s (ctrDie (dieOf core) 11) 1)
    ∧ ((coreOf s core).inbox = [f0] → ∃ t, exec (.localScrub (.landing core) 0 0 .uncorrectable) s = .next t
        ∧ counted (ctrDie (dieOf core) 12) s t ∧ frame t
        ∧ (coreOf t core).inbox = [{ f0 with words := updAt f0.words 0 fun y => { y with poison := true } }])
    ∧ (a < 0x6000000000 →
      exec (.hbmPatrol stack sec .clean) s = .next s
      ∧ exec (.hbmPatrol stack sec .corrected) s = .next (count s (ctrEdie (emDie stack.val) 5) 1)
      ∧ ∃ t, exec (.hbmPatrol stack sec .uncorrectable) s = .next t ∧ counted (ctrEdie (emDie stack.val) 6) s t ∧ frame t
        ∧ a / 64 ∈ t.bulkPoison ∧ t.cores = s.cores)
    ∧ (∃ t, exec (.tableUncorrectable (.routeBank core (routerOf s core).active entry)) s = .next t ∧ frame t
        ∧ counted (ctrDie (dieOf core) 16) s t ∧ entry.val ∈ (routerOf t core).badEntries)
    ∧ (∃ t, exec (.tableUncorrectable (.borderMask core ports false)) s = .next t ∧ frame t
        ∧ (routerOf t core).badPorts = (routerOf s core).badPorts ||| ports
        ∧ (routerOf t core).stuckPorts = (routerOf s core).stuckPorts)
    ∧ (∃ t, exec (.tableUncorrectable (.replica unit k)) s = .next t ∧ frame t ∧ t.cells = s.cells
        ∧ replicaEntry t unit.val k.val = 0)
    ∧ (∃ t, exec (.tableUncorrectable (.flagBank die fw)) s = .next t ∧ frame t ∧ (die.val, fw.val) ∈ t.badFlagWords)
    ∧ (∃ t, exec (.queuePointerMismatch (.notice core q)) s = .next t ∧ frame t ∧ (nqOf (coreOf t core) q.val).items = []
        ∧ ((thread t (queueOwner core q.val)).evPending.getLsbD 5 = true))
    ∧ (∃ t, exec (.queuePointerMismatch (.injection core iq)) s = .next t ∧ frame t
        ∧ ((∀ x ∈ (injOf (coreOf s core) iq.val).plans, ∃ f ∈ (injOf (coreOf s core) iq.val).flits, f.mid = x.mid) →
          (injOf (coreOf t core) iq.val).flits = [] ∧ (injOf (coreOf t core) iq.val).plans = []))
    ∧ ((engineOf s e).run = some y → (engineOf s e).ahead = [] → (engineOf s e).queue = [] → port.val ∈ portsOf s y.cmd →
        hears y.cmd.hart s →
      ∃ t, exec (.queuePointerMismatch (.staging port e)) s = .next t ∧ (engineOf t e).run = none
        ∧ recorded y.cmd.hart (recordOf y.cmd 0x25 y.poisoned) s t)
    ∧ (∃ t, exec (.queuePointerMismatch (.crossing ed u)) s = .next t ∧ t.bulk = s.bulk ∧ t.regions = s.regions ∧ t.cores = s.cores
        ∧ t.routers = s.routers
        ∧ (16 ≤ u.val → frame t ∧ tget [] t.shoreOut (16 * ed.val + u.val % 16) = [])
        ∧ ∀ n < 4, ed.val = elDie n → let k : PortId := Fin.ofNat 16 (4 * n + u.val % 4)
          (u.val < 4 → (portAt t k).queue = []) ∧ (4 ≤ u.val → u.val < 8 → (portAt t k).rxOpen = [])))
  ∧ (∀ (row : Fin 640) (col : Fin 17) (trig : FailTrigger) (f g : BitVec 5) (readable : Bool) (bad : List Nat) (a b core : CoreId)
    (item : FlashItem) (s : State),
    let x := rowOf_ s row.val
    let c := BitVec.ofNat 5 col.val
    let holds := triggerHolds s row.val col.val trig
    (holds = false → exec (.coreFailureDeclaration row col trig) s = .next s)
    ∧ (holds = true → x.pending = none → x.first = 31 → x.second = 31 →
      ∃ t, exec (.coreFailureDeclaration row col trig) s = .next t ∧ (rowOf_ t row.val).pending = some (c, 31)
        ∧ t.routers = s.routers
        ∧ (col.val < 16 → (coreOf t (rowCore row.val col.val)).isolated = true))
    ∧ (holds = true → x.pending = none → x.first ≠ 31 → x.first ≠ c → x.second = 31 →
      ∃ t, exec (.coreFailureDeclaration row col trig) s = .next t ∧ (rowOf_ t row.val).pending = some (x.first, c))
    ∧ (holds = true → x.first = c ∨ x.second = c → x.pending = none →
      ∃ t, exec (.coreFailureDeclaration row col trig) s = .next t ∧ t.spares = s.spares ∧ t.cores = s.cores)
    ∧ (x.pending = some (f, g) → x.migrated = false → x.shiftDay = none → f ≠ x.first → x.stopDay ≤ s.clock.dayNo →
      ∃ t, exec (.migration row readable bad) s = .next t
        ∧ rowOf_ t row.val = { x with migrated := true, shiftDay := some (effDay s) } ∧ t.regions = s.regions)
    ∧ (a ≠ b → s.removalsNext = [] → (rowAt s a).pending = none → (rowAt s b).pending = none → s.removals.length ≤ 62 →
      BitVec.ofNat 14 a.val ∉ s.removals → BitVec.ofNat 14 b.val ∉ s.removals →
      ∃ t, exec (.hopFault a b) s = .next t
        ∧ t.removalsNext = [(effDay s, s.removals ++ [BitVec.ofNat 14 a.val, BitVec.ofNat 14 b.val], s.removedDies)])
    ∧ (s.removalsNext = [] → (rowAt s a).pending = none → s.removals.length = 64 → BitVec.ofNat 14 a.val ∉ s.removals →
        s.removedDies = [] →
      ∃ t, exec (.hopFault a a) s = .next t ∧ t.removalsNext = [(effDay s, s.removals, [Fin.ofNat 32 (dieOf a)])])
    ∧ ((coreOf s core).selfTest = some false →
      ∃ t, exec (.selfTestComplete core true) s = .next t ∧ coreOf t core = { coreOf s core with selfTest := some true })
    ∧ (item ∈ s.flash.busy →
      (∃ t, exec (.flashStore item false) s = .next t ∧ t.flash = spoilItem { s.flash with busy := s.flash.busy.erase item } item
        ∧ t.mgmt.reply.status = 0x3D
        ∧ (item = .certificates → s.flash.certs.last = false → (if s.flash.certs.a.valid then readPair t.flash.certs = some s.flash.certs.a.value
            else readPair t.flash.certs = none)))
      ∧ ∃ t, exec (.flashStore item true) s = .next t ∧ (item ≠ .rollback → t.flash.busy = s.flash.busy.erase item)
        ∧ (item = .certificates → t.flash.certs = writePair s.mgmt.owned s.flash.certs)
        ∧ (item = .rollback → t.flash.rollback = writePair s.mgmt.rollback s.flash.rollback
          ∧ (.rollback ∈ t.flash.busy ↔ .rollback ∈ s.flash.busy.erase .rollback ∨ rollbackOf t.flash.rollback ≠ s.mgmt.rollback))
        ∧ (item = .persistentLog → t.flash.plog = writePair s.log.persistent s.flash.plog)
        ∧ (item = .firmware 0 → t.flash.slotA = { s.flash.slotA with valid := true })
        ∧ (item = .spareMap → t.flash.spare = writePair ⟨mapRows s, s.removals, s.removedDies⟩ s.flash.spare)))

/-- The accepted command of an operator answers 0 and asks for a change of the region at the Daybreak of R41. -/
def asks (i : Instr) (r : RegionId) (c : RegionChange) (s : State) : Prop :=
  ∃ t, exec i s = .next t ∧ t.mgmt.reply.status = 0
    ∧ regOf t r = { regOf s r with pending := (regOf s r).pending ++ [(effDay s, c)] } ∧ t.cores = s.cores ∧ t.cells = s.cells

/-- Regions are created, changed and deleted by the operator (R384, R385, R387, R388, R393, R446–R450): an accepted command
waits for its Daybreak; a boot image whose tables fail, come poisoned (log 206), or hold a boot block that fails, be it one that
no core takes (log 65), leaves every core held, and one that passes releases the cores its map names. What `CORE_RESTART`
keeps is the model's choice (log 123). After a deletion the windows fill with zeros. -/
def Obligations.RegionsAreCreatedChangedAndDeleted : Prop :=
  ∀ (q : RegionReq) (r : RegionId) (image : BitVec 40) (base size : BitVec 11) (core : CoreId) (kind : NightKind) (wake : Bool)
    (i m : Nat) (s : State),
    let x := regOf s r
    let cell := cellEntry s x.cell.toNat
    let n := cW cell * cH cell
    let h := bootHeader s x.bootImage.toNat
    let read : BootRead := ⟨r, ⟨[], []⟩⟩
    (commands s → createStatus s q = 0 → grantIndex s none = some i →
      ∃ t y, exec (.createRegion q) s = .next t ∧ t.mgmt.reply = ⟨0, none, [BitVec.ofNat 64 i]⟩ ∧ regOf t q.region = y
        ∧ y.valid = false ∧ y.pending = [(effDay s, .create)] ∧ y.entry = q.entry ∧ y.bulk = q.bulk ∧ y.quota = q.quota
        ∧ y.engines = q.engines ∧ y.vf = q.vf ∧ y.gen = (regOf s q.region).gen)
    ∧ (commands s → createStatus s q ≠ 0 → grantIndex s none = some i →
      ∃ t, exec (.createRegion q) s = .next t ∧ t.mgmt.reply.status = createStatus s q ∧ t.regions = s.regions)
    ∧ (commands s → x.valid = true → x.pending = [] → hasNested s r = false → asks (.deleteRegion r) r .delete s)
    ∧ (commands s → x.valid = true → x.pending = [] → asks (.switchContext r image) r (.switch image) s)
    ∧ (commands s → x.valid = true → x.pending = [] → asks (.nightCommand (.region r wake) kind) r (.night kind wake) s)
    ∧ (commands s → coveredSoon s core = false →
      exec (.nightCommand (.core core) kind) s = .next (reply 0 [] { s with coreNights := s.coreNights ++ [(effDay s, core, kind)] }))
    ∧ (commands s → x.valid = true → x.night.isSome = true → x.waking = false →
      ∃ t, exec (.wakeRegion r) s = .next t ∧ (regOf t r).waking = true
        ∧ ∀ c ∈ regionCores s r, (coreOf t c).selfTest = some false)
    ∧ (commands s → exec .enterDaylight s = .next (reply 0 [] { s with daylightReq := true }))
    ∧ (commands s → s.twilightAt = none →
      exec .enterTwilight s = .next (reply 0 [] { s with daylightReq := false, twilightAt := some (effDay s) }))
    ∧ (x.valid = true → x.bootDue = true → x.night = none → x.borderOk = true →
      (tablesOk s r n = false ∨ tablesPoisoned s r n = true → ∃ t, exec (.bootImageLoad read) s = .next t ∧ t.cores = s.cores
        ∧ t.mgmt.reply.status = 0x38
        ∧ regOf t r = { x with bootDue := false, loadFailed := true })
      ∧ (tablesOk s r n = true → tablesPoisoned s r n = false → badBlock s h n (cFront cell) = some m →
        ∃ t, exec (.bootImageLoad read) s = .next t
        ∧ t.cores = s.cores ∧ t.mgmt.reply = ⟨0x1F, none, [BitVec.ofNat 64 (cMember cell m).val]⟩
        ∧ regOf t r = { x with bootDue := false, loadFailed := true })
      ∧ (tablesOk s r n = true → tablesPoisoned s r n = false → badBlock s h n (cFront cell) = none → badSpare s h = true →
        ∃ t, exec (.bootImageLoad read) s = .next t ∧ t.cores = s.cores ∧ t.mgmt.reply.status = 0x1F
          ∧ regOf t r = { x with bootDue := false, loadFailed := true })
      ∧ (tablesOk s r n = true → tablesPoisoned s r n = false → badBlock s h n (cFront cell) = none → badSpare s h = false →
          badDigest s ((List.range n).foldl (fun t m => placeMember s h cell m t) s) h cell n = none → m < n →
          bit (mapEntry s h m) 15 = false → (coreOf s (cMember cell m)).isolated = false →
        ∃ t, exec (.bootImageLoad read) s = .next t ∧ (regOf t r).loaded = true
          ∧ (regOf t r).stopped = (x.lostPosition || (regionCores s r).any (isMoving s))
          ∧ (coreOf t (cMember cell m)).released = true))
    ∧ ((base, size) ∈ s.scrubbing →
      ∃ t, exec (.bulkWindowZeroFill base size) s = .next t ∧ t.scrubbing = s.scrubbing.erase (base, size)
        ∧ ∀ a, mget t.bulk a = if base.toNat * 2 ^ 28 ≤ a ∧ a < (base.toNat + size.toNat) * 2 ^ 28 then 0 else mget s.bulk a)
    ∧ (x.zeroing = true → exec (.coreZeroingComplete r) s = .next (modReg s r fun y => { y with zeroing := false }))
    ∧ (commands s → (coreOf s core).released = true → (coreOf s core).night = none → mayRun s core = true →
        (coreOf s core).specMark = [] →
      ∃ t, exec (.coreRestart core) s = .next t ∧ (coreOf t core).mem = (coreOf s core).mem
        ∧ (coreOf t core).code = (coreOf s core).code ∧ (coreOf t core).stores = []
        ∧ ∀ k : Fin 4, (thread t ⟨core, k⟩).run = (if bootMode (coreOf s core) k then .ready else .held)
          ∧ (thread t ⟨core, k⟩).g = [] ∧ (thread t ⟨core, k⟩).acc = []
          ∧ (bootMode (coreOf s core) k = true → (thread t ⟨core, k⟩).pc = bootEntry (coreOf s core) k
            ∧ (thread t ⟨core, k⟩).mode = true))


/-! ### Management, attestation and keys -/

/-- The state with its last answer left aside, and its log. -/
def apartFromReply (s t : State) : Prop :=
  t = { s with mgmt := { s.mgmt with reply := t.mgmt.reply }, log := t.log, nextFree := t.nextFree }

/-- The management path (R402–R408, R423, R443): an owned device lets in only who presents a certificate of an owner, an
unowned one lets anyone in, each by the SGMII link of the active E-S alone (R475), but takes no command but
`TAKE_OWNERSHIP`; a command of the presence list runs only in a presence window; certificates, firmware images, the rollback
counter and the spare map are stored when they change; a reinstated core is tested, and returns with the map of the first
Daybreak after a test that passes (R423); a debug session over the management network reaches its region alone, and one over
the debug TAP any region (R405). That one connection is open at a time, that a test lasts 9.6 ms, what a rollback stores and
how long a debug session lasts are the model's choices (logs 107, 62, 118, 182). -/
def Obligations.ManagementCommandsNeedTheirRights : Prop :=
  ∀ (cert : Option (BitVec 384)) (certs : List (BitVec 384)) (img : FwImage) (slot : Fin 2) (who : FailedCore) (passed : Bool)
    (r : RegionId) (rr : Option RegionId) (h : Hart) (g : Fin 32) (v : BitVec 64) (s : State),
    let window := s.mgmt.presence ≠ []
    let hello : Reply := ⟨0, none, packed (Config.managementCert (cdi s))⟩
    let status := fun (i : Instr) (st : BitVec 8) => ∃ t, exec i s = .next t ∧ t.mgmt.reply = ⟨st, none, []⟩ ∧ apartFromReply s t
    (3 ≤ s.boot.step → s.mgmt.owned = [] →
      exec (.tlsHandshake ⟨cert, s.boot.activeEs⟩) s
        = .next { s with mgmt := { s.mgmt with connected := true, authenticated := false, reply := hello } })
    ∧ exec (.tlsHandshake ⟨cert, !s.boot.activeEs⟩) s = .next s
    ∧ (∀ c, 3 ≤ s.boot.step → s.mgmt.owned ≠ [] → exec (.tlsHandshake ⟨some c, s.boot.activeEs⟩) s
        = .next (if c ∈ s.mgmt.owned then { s with mgmt := { s.mgmt with connected := true, authenticated := true, reply := hello } } else s))
    ∧ exec .managementConnectionEnd s
        = .next { s with mgmt := { s.mgmt with connected := false, authenticated := false, debug := none } }
    ∧ (s.mgmt.connected = true → s.mgmt.owned = [] → ∀ i, i ∈ [Instr.releaseOwnership, .firmwareUpdate img, .firmwareRollback slot,
        .clearKeys rr, .clearSpareMap, .reinstate who passed, .debugOpen r, .debugClose, .enterDaylight, .enterTwilight,
        .deleteRegion r, .wakeRegion r] → status i 0x0B)
    ∧ (commands s → s.mgmt.presence = [] → ∀ i, i ∈ [Instr.takeOwnership certs, .releaseOwnership, .firmwareRollback slot, .clearKeys rr,
        .clearSpareMap, .reinstate who passed] → status i 0x34)
    ∧ (s.mgmt.connected = true → s.mgmt.owned = [] → window → certs ≠ [] → certs.length ≤ 4 →
      ∃ t, exec (.takeOwnership certs) s = .next t ∧ t.mgmt.owned = certs ∧ FlashItem.certificates ∈ t.flash.busy ∧ t.mgmt.reply.status = 0)
    ∧ (commands s → window → ((∀ x ∈ s.regions, existsOrPending x.2 = false) →
        ∃ t, exec .releaseOwnership s = .next t ∧ t.mgmt.owned = [] ∧ t.mgmt.reply.status = 0)
      ∧ (∀ x ∈ s.regions, existsOrPending x.2 = true → status .releaseOwnership 0x17))
    ∧ (commands s → ∃ t, exec (.firmwareUpdate img) s = .next t ∧ t.mgmt.reply.status = 0
        ∧ slotOf t.flash s.boot.slot = slotOf s.flash s.boot.slot ∧ (slotOf t.flash (!s.boot.slot)).valid = false
        ∧ ∃ i, (slotOf t.flash (!s.boot.slot)).image = some i ∧ i.image = img.image ∧ i.svn = img.svn
          ∧ FlashItem.firmware (if s.boot.slot then 0 else 1) ∈ t.flash.busy)
    ∧ (∀ i, commands s → window → (slotOf s.flash (decide (slot = 1))).image = some i →
      ∃ t, exec (.firmwareRollback slot) s = .next t ∧ t.mgmt.rollback = i.svn ∧ FlashItem.rollback ∈ t.flash.busy)
    ∧ (commands s → window → ∃ t, exec (.clearKeys rr) s = .next t ∧ ∀ q : RegionId, (regOf t q).keys =
        if rr = none ∨ rr = some q then [] else (regOf s q).keys)
    ∧ (commands s → window → ∃ t, exec .clearSpareMap s = .next t ∧ ∀ x ∈ s.spares, (rowOf_ t x.1).pending = some (31, 31))
    ∧ (commands s → window → s.dev = .twilight → namedFailed s who = true →
      ∃ t, exec (.reinstate who passed) s = .next t ∧ t.mgmt.reply.status = 0 ∧ t.spares = s.spares
        ∧ t.mgmt.testing = s.mgmt.testing ++ [(testedCore s who, passed, s.clock.now + 11520000)])
    ∧ (∀ n u, s.mgmt.testing = [(u, passed, n)] → n ≤ s.clock.now →
      (finishTests s).mgmt.testing = []
      ∧ (passed = true → ∀ i c, u = .spare i c → (rowOf_ (finishTests s) i.val).shiftDay = some s.clock.dayNo
          ∧ ∃ f k, (rowOf_ (finishTests s) i.val).pending = some (f, k) ∧ f.toNat ≠ c.val ∧ k.toNat ≠ c.val)
      ∧ (passed = true → s.removalsNext = [] → ∀ x, u = .removal x →
          (finishTests s).removalsNext = [(s.clock.dayNo, s.removals.erase x, s.removedDies)])
      ∧ (passed = false → (finishTests s).spares = s.spares ∧ (finishTests s).removalsNext = s.removalsNext))
    ∧ (commands s → (regOf s r).valid = true → ∃ t, exec (.debugOpen r) s = .next t ∧ t.mgmt.debug = some r
        ∧ (regOf t r).debugCount = satAdd (regOf s r).debugCount 1)
    ∧ (commands s → ∃ t, exec .debugClose s = .next t ∧ t.mgmt.debug = none)
    ∧ (commands s → s.mgmt.debug = some r →
      (regionOf s h.core ≠ some r → status (.debugCommand ⟨false, .writeG h g v⟩) 0x0B)
      ∧ (regionOf s h.core = some r →
        exec (.debugCommand ⟨false, .readG h g⟩) s = .next (reply 0 [gReg (thread s h) g] s)
        ∧ exec (.debugCommand ⟨false, .writeG h g v⟩) s = .next (reply 0 [] (modTh s h (putG g v)))
        ∧ exec (.debugCommand ⟨false, .halt h⟩) s = .next (reply 0 [] (modTh s h fun t => { t with debugHalt := true }))))
    ∧ (s.mgmt.jtagSessions = 0 → exec (.debugCommand ⟨true, .readG h g⟩) s = .next s)
    ∧ (s.mgmt.jtagSessions ≠ 0 → (regionOf s h.core).isSome = true →
        exec (.debugCommand ⟨true, .readG h g⟩) s = .next (reply 0 [gReg (thread s h) g] s)
        ∧ exec (.debugCommand ⟨true, .writeG h g v⟩) s = .next (reply 0 [] (modTh s h (putG g v))))
    ∧ (∃ t, exec .jtagDebugSession s = .next t ∧ t.mgmt.jtagSessions = satAdd s.mgmt.jtagSessions 1)
    ∧ (3 ≤ s.boot.step → ∃ t, exec .presenceNFall s = .next t ∧ t.pins.presenceN = false
        ∧ t.mgmt.presence = s.mgmt.presence ++ [s.clock.now])
    ∧ exec .presenceWindowClose s = .next { s with mgmt := { s.mgmt with presence := s.mgmt.presence.drop 1 } }

/-- An SPDM request over a transport that carries it is answered with `data`, and nothing else changes but what `f` says. -/
def responds (i : Instr) (data : List Word) (f : Mgmt → Mgmt) (s : State) : Prop :=
  exec i s = .next { s with mgmt := { f s.mgmt with reply := ⟨0, none, data⟩ } }

/-- Attestation (R392, R395, R401): the negotiation comes in its order, and a request that comes too early gets an `ERROR`;
only a finished session binds a region or takes a key, and a key is installed only under the region's own measurement and
generation. The codes of the `ERROR` responses and the capability bits are the model's (DSP0274,
  not the manual); that `GET_VERSION` ends the transport's sessions and a failed `FINISH` drops its own (log 111), and
what an installed key is held to (logs 112, 113), are the model's choices too. -/
def Obligations.AttestationFollowsItsOrder : Prop :=
  ∀ (tr : SpdmTransport) (algs : SpdmAlgs) (slot : Fin 8) (nonce : BitVec 256) (share : BitVec 768) (i : Fin 16) (x : Session)
    (r : RegionId) (k : KeyReq) (s : State),
    let m := s.mgmt
    let refuses := fun (c : Instr) => ∃ code, exec c s = .next { s with mgmt := { m with reply := ⟨0, some code, []⟩ } }
    let anew := fun m : Mgmt =>
      { m with
        spdmVersion := true
        spdmCaps := false
        spdmAlgs := false
        sessions := m.sessions.filter fun e => decide (e.2.transport ≠ tr) }
    let key : KeySlot := ⟨k.key, k.imageId, k.imageBase, k.imageLen, k.tagBase, k.ivSalt⟩
    let early := [Instr.getDigests tr, .getCertificate tr slot, .challenge tr nonce, .keyExchange tr share]
    (carries s tr = true →
      (∃ v, responds (.getVersion tr) v anew s)
      ∧ (m.spdmVersion = false → refuses (.getCapabilities tr))
      ∧ (m.spdmVersion = true → ∃ v, responds (.getCapabilities tr) v (fun m => { m with spdmCaps := true, spdmAlgs := false }) s)
      ∧ (m.spdmCaps = false → refuses (.negotiateAlgorithms tr algs))
      ∧ (m.spdmCaps = true → algs = ⟨true, true, true, true, true⟩ →
          responds (.negotiateAlgorithms tr algs) [] (fun m => { m with spdmAlgs := true }) s)
      ∧ (m.spdmAlgs = false → ∀ c ∈ early, refuses c)
      ∧ (m.spdmAlgs = true →
        (∃ v, responds (.getDigests tr) v id s) ∧ (∃ v, responds (.getCertificate tr 0) v id s)
        ∧ (slot ≠ 0 → refuses (.getCertificate tr slot))
        ∧ responds (.challenge tr nonce) (signature s (natBytes 32 nonce.toNat ++ sha384 (Config.certChain (cdi s)))) id s
        ∧ (i.val = m.sessions.length → m.sessions.map Prod.fst = List.range i.val →
          ∃ t, exec (.keyExchange tr share) s = .next t ∧ tfind t.mgmt.sessions i.val = some ⟨tr, false, none⟩)))
    ∧ (3 ≤ s.boot.step → m.spdmAlgs = true → ∀ n : BitVec 8, 1 ≤ n.toNat → n.toNat ≤ 6 →
        ∃ v, responds (.getMeasurements none n nonce) v id s)
    ∧ (3 ≤ s.boot.step → ∀ n : BitVec 8, 0x80 ≤ n.toNat → n.toNat ≤ 0x83 → tfind m.sessions i.val = some x → x.finished = true →
        (x.region = none → refuses (.getMeasurements (some i) n nonce))
        ∧ (x.region = some r → ∃ v, responds (.getMeasurements (some i) n nonce) v id s))
    ∧ (tfind m.sessions i.val = some x → carries s x.transport = true →
      (x.finished = false → responds (.finish i true) [] (fun m => { m with sessions := tset m.sessions i.val { x with finished := true } }) s
        ∧ ∀ c ∈ [Instr.heartbeat i, .bindRegion i r, .installKey i k], (3 ≤ s.boot.step → refuses c))
      ∧ (x.finished = false → ∃ t, exec (.finish i false) s = .next t ∧ t.mgmt.sessions = tdel m.sessions i.val)
      ∧ (x.finished = true →
        responds (.heartbeat i) [] id s
        ∧ (x.region = none → (regOf s r).valid = true →
          responds (.bindRegion i r) [] (fun m => { m with sessions := tset m.sessions i.val { x with region := some r } }) s)
        ∧ (x.region.isSome = true → refuses (.bindRegion i r))
        ∧ (x.region = some r → (regOf s r).valid = true → k.measurement = (regOf s r).measurement → k.gen = (regOf s r).gen →
            k.imageBase.toNat % 4096 = 0 → k.imageLen ≠ 0 → k.imageLen.toNat % 64 = 0 → k.tagBase.toNat % 16 = 0 →
          exec (.installKey i k) s = .next (reply 0 [] (modReg s r fun g => { g with keys := tset g.keys k.slot.val key })))
        ∧ (x.region = some r → k.measurement ≠ (regOf s r).measurement ∨ k.gen ≠ (regOf s r).gen ∨ keyOk k = false →
          ∃ t, exec (.installKey i k) s = .next t ∧ t.mgmt.reply.status = 0x37 ∧ t.regions = s.regions)))
    ∧ exec (.endSession i) s = .next { s with mgmt := { m with sessions := tdel m.sessions i.val } }

/-- The management registers (R457–R459, R463, R464, R468, R469): a requester that may read gets the registers of its range,
one that may not gets `0x0B` (the host's management controller reads `DEVICE_STATE` of an owned device,
  log 101); a `SET` in its Twilight-only registers is refused in Daylight with `0x3F`; accepted lengths
wait for the Daybreak; a sample replaces the telemetry. -/
def Obligations.ManagementRegistersReadAndWrite : Prop :=
  ∀ (a : BitVec 32) (len : Nat) (v : BitVec 64) (tm : Telemetry) (r : RegionId) (s : State), 3 ≤ s.boot.step →
    let read := fun a => mgmtReg s a
    let answered := fun (i : Instr) (st : BitVec 8) => ∃ t, exec i s = .next t ∧ t.mgmt.reply.status = st
    (commands s → len = 8 → a.toNat % 8 = 0 → ∀ w, read a.toNat = some w →
      ∃ t, exec (.managementQuery .operator a len) s = .next t ∧ t.mgmt.reply = ⟨0, none, [w]⟩ ∧ t.cores = s.cores ∧ t.clock = s.clock)
    ∧ (commands s → len < 8 ∨ 64 < len ∨ len % 8 ≠ 0 ∨ read a.toNat = none → answered (.managementQuery .operator a len) 0x0B)
    ∧ (len = 8 → a.toNat % 8 = 0 → a ≠ 0 → a.toNat < 0x60000 → answered (.managementQuery .bmc a len) 0x0B)
    ∧ (s.mgmt.owned ≠ [] → answered (.managementQuery .bmc 0 8) 0)
    ∧ (commands s → s.dev = .daylight → ∀ n, n ∈ [0x08, 0x10, 0x18, 0x20] → answered (.mgmtSet .operator (BitVec.ofNat 32 n) v) 0x3F)
    ∧ (commands s → s.dev ≠ .daylight → dayOk (v.toNat % 2 ^ 17) s.clock.duskDivNext.toNat = true →
      exec (.mgmtSet .operator 0x10 v) s = .next (reply 0 [] { s with clock := { s.clock with dayDivNext := v.setWidth 17 } }))
    ∧ (commands s → s.dev ≠ .daylight →
      exec (.mgmtSet .operator 0x08 v) s
        = .next (reply 0 [] { s with deviceIdNext := v.setWidth 14, assignedNext := v.getLsbD 14 }))
    ∧ (commands s → (regOf s r).valid = true → otherQuotas s r + v.toNat % 2 ^ 11 ≤ 1024 →
      exec (.mgmtSet .operator (BitVec.ofNat 32 (0x10008 + 128 * r.val)) v) s
        = .next (reply 0 [] (modReg s r fun x => { x with quotaNext := putNext (effDay s) (v.setWidth 11) x.quotaNext })))
    ∧ (commands s → (regOf s r).valid = true → 1024 < otherQuotas s r + v.toNat % 2 ^ 11 →
      answered (.mgmtSet .operator (BitVec.ofNat 32 (0x10008 + 128 * r.val)) v) 0x12)
    ∧ (s.mgmt.owned ≠ [] → exec (.mgmtSet .bmc 0x70048 v) s
        = .next (reply 0 [] { s with log := { s.log with selBmc := v.setWidth 32 } }))
    ∧ ((∀ x ∈ tm.temps.zipIdx, x.1.toInt < tripTemp x.2) →
      ∃ t, exec (.telemetrySample tm) s = .next t ∧ t.telemetry = tm ∧ t.cores = s.cores ∧ t.mgmt = s.mgmt)


/-! ### The host -/

/-- A function as a reset leaves it (R317): its registers, rings, ports and waiting entries are gone. -/
def fnCleared (f : HostFn) : Prop :=
  f.regs = [] ∧ f.lock = false ∧ f.sq = [] ∧ f.cq = [] ∧ f.holding = [] ∧ f.ports = [] ∧ f.drop = 0

/-- Host registers and resets (R10, R13, R312–R314, R317, R321, R432, R437, R452–R455): the lock is set and stays set;
behind it a ring is not enabled; enabling a ring starts it at index 0; a write to `NOTIFY` resumes polling and writes `IDLE`
0; a Function Level Reset clears its function, orphans its started launches and drops its pending ones, that of the physical
function those of its link, and so does `PERST_N`; a function whose link is down hears nothing. A BAR0 write of the lock's
register is the lock's write. In the configuration space, whose fields stand where the base specification of PCI Express has
them (PRESUMED, log 169), `Initiate FLR` of Device Control resets the function, the power state D3hot withholds its messages
until D0 returns, and BAR0 of the physical function is one of 64 KiB that is not prefetchable. -/
def Obligations.HostRegistersAndResets : Prop :=
  ∀ (fn : FnId) (v : BitVec 32) (k : Fin 16) (ring : RingName) (link : LinkId) (en : BitVec 4) (w : BitVec 64) (s : State),
    let f := fnOf s fn
    let up := hostUp s fn.link = true
    (hostUp s fn.link = false → ∀ i, i ∈ [Instr.setupLock fn v, .notifyWrite fn v, .ringEnable fn ring v, .functionLevelReset fn] →
      exec i s = .next s)
    ∧ (up → exec (.setupLock fn v) s = .next (modFn s fn fun f => { f with lock := f.lock || v.getLsbD 0 }))
    ∧ (up → f.lock = true → exec (.ringEnable fn ring v) s = .next s)
    ∧ (up → f.lock = false → sqEnabled f k.val = false → v.getLsbD 0 = true →
      ∃ t, exec (.ringEnable fn (.sq k) v) s = .next t ∧ sqEnabled (fnOf t fn) k.val = true
        ∧ sqCq (fnOf t fn) k.val = v.toNat / 16 % 16 ∧ (sqOf (fnOf t fn) k.val).head = 0 ∧ (sqOf (fnOf t fn) k.val).tail = 0)
    ∧ (up → f.lock = false → cqEnabled f k.val = false → v.getLsbD 8 = true → 6 ≤ v.toNat % 32 → v.toNat % 32 ≤ 16 →
      ∃ t, exec (.ringEnable fn (.cq k) v) s = .next t ∧ cqEnabled (fnOf t fn) k.val = true
        ∧ cqSize (fnOf t fn) k.val = 2 ^ (v.toNat % 32)
        ∧ cqOf (fnOf t fn) k.val = { CqRing.reset with due := (cqOf f k.val).due })
    ∧ (up → doorbell f ≠ 0 →
      ∃ t, exec (.notifyWrite fn v) s = .next t ∧ (fnOf t fn).quiet = false ∧ (fnOf t fn).idle = false ∧ (fnOf t fn).polls = 0
        ∧ t.hostOut = s.hostOut ++ [.write fn (.untranslated (BitVec.ofNat 64 (doorbell f + 0x180))) (List.replicate 8 0)])
    ∧ (up → ∃ t, exec (.functionLevelReset fn) s = .next t ∧ fnCleared (fnOf t fn)
        ∧ (fn.vf = none → ∀ g : FnId, g.link = fn.link → fnCleared (fnOf t g))
        ∧ (∀ (r : RegionId) j l, tfind (regOf t r).launches j = some l → l.fn = fn → l.started = true ∧ l.orphan = true)
        ∧ t.cores = s.cores)
    ∧ (∃ t, exec (.perst link) s = .next t ∧ perstN t link = false ∧ t.cores = s.cores
        ∧ ∀ g : FnId, g.link = link → fnCleared (fnOf t g))
    ∧ (∃ t, exec (.perstNDeassert link) s = .next t ∧ perstN t link = true ∧ t.fns = s.fns)
    ∧ (up → exec (.registerWrite (.bar0 fn 0x08 false 0x0F w)) s = exec (.setupLock fn (w.setWidth 32)) s)
    ∧ (up → en.getLsbD 1 = true → v.getLsbD 15 = true →
        exec (.registerWrite (.config fn 0x78 en v)) s = exec (.functionLevelReset fn) s)
    ∧ (up → en.getLsbD 0 = true → v.toNat % 4 = 3 →
      ∃ t, exec (.registerWrite (.config fn 0x44 en v)) s = .next t ∧ inD3 (fnOf t fn) = true ∧ t.hostOut = s.hostOut)
    ∧ (up → en.getLsbD 0 = true → v.toNat % 4 = 0 →
      ∃ t, exec (.registerWrite (.config fn 0x44 en v)) s = .next t ∧ inD3 (fnOf t fn) = false ∧ (fnOf t fn).withheld = [])
    ∧ (up → fn.vf = none →
      ∃ t, exec (.registerWrite (.config fn 0x10 15 0xFFFFFFFF)) s = .next t ∧ configRead (fnOf t fn) true 0x10 = 0xFFFF0004)

/-- The entry of a descriptor's completion waits for its ring's completion ring (R330). -/
def completed (fn : FnId) (ring : Fin 16) (d : HostDesc) (st : BitVec 8) (info : Word) (s t : State) : Prop :=
  (fnOf t fn).holding = (fnOf s fn).holding
    ++ [(Fin.ofNat 16 (sqCq (fnOf s fn) ring.val), ⟨hCid d, ring, 0, st, BitVec.ofNat 8 (hOp d), 0, info, none⟩)]

/-- Rings and descriptors (R312, R316, R318–R321, R323, R325, R328–R332, R335, R339, R455): the tail records and completion
heads are read from the doorbell page; a tail record that lies in its ring is taken, another one puts the ring in error;
descriptors are read at the ring's base, and a fetched one stands in the queue or fails with `0x2A` and its bad word; a
descriptor that may start leaves its queue, and its entry or its notice is the next in line; a launch takes its slot as it
is read, or fails with `0x2B` where no region is bound; an entry is written at its ring's tail, and under an enabled
`CQ_IRQ` its message is due with the n-th entry; the oldest message due leaves, or with none that of a timer that has run
out; masked it sets its pending bit, and in D3hot it is withheld. Data ports and translations (R241, R245, R314, R341–R343,
R345, R347–R352): a port opens with its whole count left; a `PORT_CLOSE` first moves the bytes pushed so far, and closes it
with the bytes it has not moved once what it sent to local memory has landed; push bytes fill its burst, and bytes for a
port that is not open are counted; an inbound burst waits until its controllers and ring segments take it, its sectors marked
where they hold a byte that came with EP, and an outbound burst that is next is read from bulk memory, under Relaxed Ordering
where Device Control enables it; a finished port posts its entry, one whose host access fails posts `0x2C` with that access's
address; a line read that serves nobody is lost; a translation is kept, under its address space, until it is invalidated, and an
invalidation completes when no access under way uses it. The model's choices: when polling stops and goes on (log 78), the words
that failures name (79, 85), the record of host reads (86), the addresses of ports without a PASID (184), when the entry of a
`PORT_CLOSE` is posted (185) and what becomes of a part block (207). -/
def Obligations.RingsAndDataPorts : Prop :=
  (∀ (fn : FnId) (ring : Fin 16) (v : BitVec 17) (d : HostDesc) (r : RegionId) (c : Fin 16) (k n : Nat) (vec : BitVec 6)
    (s : State),
    let f := fnOf s fn
    let x := sqOf f ring.val
    let reads := fun (t : State) (a len : Nat) (before : List HostOut) =>
      ∃ out, t.hostOut = s.hostOut ++ before ++ (.read fn (.untranslated (BitVec.ofNat 64 a)) len) :: out
    let sends := fun (t : State) =>
      (vectorMasked f vec.toNat = false ∧ msixOn f = true →
        (inD3 f = false → t.hostOut = s.hostOut ++ [.msix fn vec])
        ∧ (inD3 f = true → t.hostOut = s.hostOut ∧ (fnOf t fn).withheld = f.withheld ++ [vec]))
      ∧ (vectorMasked f vec.toNat = true ∨ msixOn f = false → t.hostOut = s.hostOut ∧ (fnOf t fn).pba.getLsbD vec.toNat = true)
    let started := fun (n : Nat) (t : State) => (sqOf (fnOf t fn) ring.val).queue = x.queue.filter fun y => decide (y.1 ≠ n)
    (hostUp s fn.link = true →
      (f.quiet = false → doorbell f ≠ 0 → sqEnabled f 0 = true → (sqOf f 0).error = false →
        let i := v.toNat % 2 ^ 16
        let good := i < sqSize f 0
          ∧ ringCount (sqSize f 0) (sqOf f 0).head (sqOf f 0).headWrap (v.setWidth 16) (v.getLsbD 16) ≤ sqSize f 0
        ∃ t, exec (.tailPoll fn [v] []) s = .next t
          ∧ reads t (doorbell f) 128 [] ∧ reads t (doorbell f + 0x80) 128 [.read fn (.untranslated (BitVec.ofNat 64 (doorbell f))) 128]
          ∧ (good → (sqOf (fnOf t fn) 0).tail.toNat = i ∧ (sqOf (fnOf t fn) 0).tailWrap = v.getLsbD 16)
          ∧ (¬ good → (sqOf (fnOf t fn) 0).error = true ∧ (sqOf (fnOf t fn) 0).tail = (sqOf f 0).tail))
      ∧ (mayFetch f ring.val = true → x.head.toNat < sqSize f ring.val → 1 ≤ ringCount (sqSize f ring.val) x.head x.headWrap x.tail x.tailWrap →
          regionOfFn s fn = some r →
        ∃ t, exec (.descriptorFetch fn ring [d]) s = .next t
          ∧ reads t (addr64 f (sqBase ring.val) (sqBase ring.val + 8) + 64 * x.head.toNat) 64 []
          ∧ ((sqOf (fnOf t fn) ring.val).head, (sqOf (fnOf t fn) ring.val).headWrap) = bump (sqSize f ring.val) x.head x.headWrap
          ∧ (descBad (some (regOf s r)) d = none → (sqOf (fnOf t fn) ring.val).queue = x.queue ++ [(f.nextSeq, d)])
          ∧ (∀ j, descBad (some (regOf s r)) d = some j → completed fn ring d 0x2A (BitVec.ofNat 64 j) s t)))
    ∧ (startable s fn ring 0 = some (n, d) → hNoCqe d = false →
      ∃ t, exec (.nopDescriptor fn ring) s = .next t ∧ started n t ∧ completed fn ring d 0 0 s t)
    ∧ (startable s fn ring 5 = some (n, d) → hNoCqe d = false →
      ∃ t, exec (.query fn ring) s = .next t ∧ started n t ∧ completed fn ring d 0 0 s t
        ∧ t.hostOut = s.hostOut ++ [.write fn (.untranslated (hWord d 1)) (queryBlock s fn)])
    ∧ (firstLaunch f ring = some (n, d) →
      (regionOfFn s fn = some r → freeLaunch (regOf s r) = some k →
        ∃ t l, exec (.launch fn ring) s = .next t ∧ started n t ∧ tfind (regOf t r).launches k = some l ∧ l.started = false
          ∧ l.cid = hCid d ∧ l.cell.toNat = (hWord d 1).toNat % 2 ^ 11 ∧ l.args = hArgs d ∧ l.seq = n ∧ l.fence = hFence d)
      ∧ (regionOfFn s fn = some r → freeLaunch (regOf s r) = none → exec (.launch fn ring) s = .next s)
      ∧ (regionOfFn s fn = none → ∃ t, exec (.launch fn ring) s = .next t ∧ started n t ∧ completed fn ring d 0x2B 0 s t))
    ∧ (startable s fn ring 2 = some (n, d) → regionOfFn s fn = some r →
      ∃ t m, exec (.notify fn ring) s = .next t ∧ started n t ∧ (regOf t r).notifies = (regOf s r).notifies ++ [m]
        ∧ m.cid = hCid d ∧ m.args = hArgs d ∧ m.ring = ring ∧ m.seq = n)
    ∧ (∀ e : Cqe, cqTakes f c.val = true → f.holding.find? (fun e => decide (e.1.val = c.val)) = some (c, e) → e.slot = none →
      ∃ t, exec (.completionEntryWrite fn c) s = .next t
        ∧ t.hostOut = s.hostOut ++
            [.write fn (.untranslated (BitVec.ofNat 64 (addr64 f (cqBase c.val) (cqBase c.val + 8) + 32 * (cqOf f c.val).tail.toNat)))
              (wordsBytes (cqeWords s f c.val e))]
        ∧ (let irq := (fnReg f (cqBase c.val + 0x18)).toNat
          let counts := irq / 64 % 2 = 1
          let nth := irq / 2 ^ 8 % 2 ^ 8 ≤ (cqOf f c.val).unsignalled + 1
          (counts → nth → (cqOf (fnOf t fn) c.val).due = (cqOf f c.val).due ++ [BitVec.ofNat 6 irq]
            ∧ (cqOf (fnOf t fn) c.val).unsignalled = 0)
          ∧ (counts → ¬ nth → (cqOf (fnOf t fn) c.val).due = (cqOf f c.val).due
            ∧ (cqOf (fnOf t fn) c.val).unsignalled = (cqOf f c.val).unsignalled + 1)
          ∧ (¬ counts → (cqOf (fnOf t fn) c.val).due = (cqOf f c.val).due))
        ∧ ((cqOf (fnOf t fn) c.val).tail, (cqOf (fnOf t fn) c.val).tailWrap)
            = bump (cqSize f c.val) (cqOf f c.val).tail (cqOf f c.val).tailWrap)
    ∧ (∀ rest, (cqOf f c.val).due = vec :: rest →
      ∃ t, exec (.interruptMessage fn c) s = .next t ∧ (cqOf (fnOf t fn) c.val).due = rest ∧ sends t)
    ∧ (∀ end_, (cqOf f c.val).due = [] → (cqOf f c.val).timer = some (end_, vec) →
      (s.clock.now < end_ → exec (.interruptMessage fn c) s = .next s)
      ∧ (end_ ≤ s.clock.now →
        ∃ t, exec (.interruptMessage fn c) s = .next t ∧ (cqOf (fnOf t fn) c.val).timer = none
          ∧ (cqOf (fnOf t fn) c.val).unsignalled = 0 ∧ sends t)))
  ∧ (∀ (fn : FnId) (ring : Fin 16) (d : HostDesc) (r : RegionId) (k : Fin 64) (i : Fin 8) (b : PortBurst) (p : DataPort)
    (data : List (BitVec 8)) (page : BitVec 52) (ans : AtsAnswer) (n j : Nat) (line : BitVec 36) (link : LinkId)
    (off : BitVec 22) (push : PushRead) (read : BurstRead) (w : WantedLine) (s : State),
    let f := fnOf s fn
    let up := hostUp s fn.link = true
    let here := off.toNat / 0x10000 = k.val
    let closed := fun (moved : Nat) (st : BitVec 8) (info : Word) (t : State) => portOf t fn k.val = none
      ∧ (Fin.ofNat 16 (sqCq f p.ring.val), (⟨p.cid, p.ring, 1, st, 3, BitVec.ofNat 64 moved, info, none⟩ : Cqe)) ∈ (fnOf t fn).holding
    let cut := fun (moved : Nat) => closed moved 0x2D (BitVec.ofNat 64 (pCount p.words - moved))
    let atc := fun t : State => (spillOf t fn.link).atc
    let stored := fun (a : Nat) (l : List (BitVec 8 × Bool)) (t : State) => ∀ x (h : x < l.length), mget t.bulk (a + x) = l[x].1
    let part := p.buffer.length
    let free := s.engines = [] ∧ waiting s = []
    (startable s fn ring 3 = some (n, d) → regionOfFn s fn = some r → portOf s fn ((hWord d 1).toNat % 64) = none → portDestOk s r d = true →
        pPull d = false → hNoCqe d = false →
      ∃ t q, exec (.portOpen fn ring) s = .next t ∧ portOf t fn ((hWord d 1).toNat % 64) = some q ∧ q.left = pCount d ∧ q.moved = 0
        ∧ q.words = d ∧ q.cid = hCid d ∧ q.seq = n ∧ completed fn ring d 0 0 s t)
    ∧ (startable s fn ring 4 = some (n, d) → regionOfFn s fn = some r → (hWord d 1).toNat % 64 = k.val → portOf s fn k.val = some p →
        p.closing = none →
      (p.buffer = [] ∨ pDecrypt p.words = true → p.toBulk = [] → pLocal p.words = false ∨ p.writes ≤ p.arrived →
          pDecrypt p.words = false ∨ blockParts p = none →
        ∃ t, exec (.portClose fn ring) s = .next t ∧ cut p.moved t ∧ t.bulk = s.bulk)
      ∧ (pLocal p.words = false → pDecrypt p.words = false → p.buffer ≠ [] → free → p.toBulk = [] →
        ∃ t, exec (.portClose fn ring) s = .next t ∧ cut (p.moved + part) t ∧ stored p.cursor p.buffer t)
      ∧ (pLocal p.words = true → p.buffer = [] → p.arrived < p.writes →
        ∃ t q, exec (.portClose fn ring) s = .next t ∧ portOf t fn k.val = some q ∧ q.closing.isSome = true
          ∧ (fnOf t fn).holding = f.holding)
      ∧ (pLocal p.words = true → pDecrypt p.words = false → p.buffer ≠ [] → p.arrived ≤ p.writes →
        ∃ t q, exec (.portClose fn ring) s = .next t ∧ portOf t fn k.val = some q ∧ q.closing.isSome = true
          ∧ q.buffer = [] ∧ q.moved = p.moved + part ∧ p.writes < q.writes ∧ (fnOf t fn).holding = f.holding))
    ∧ (portOf s fn k.val = some p → p.closing.isSome = true → p.toBulk = [] →
      (portSettled p = false → exec (.portClosed fn k) s = .next s)
      ∧ (portSettled p = true → ∃ t, exec (.portClosed fn k) s = .next t ∧ cut p.moved t))
    ∧ (fn.vf = none → exec (.pushWrite fn off data true push) s = .next s)
    ∧ (up → fn.vf.isSome = true → here → portOf s fn k.val = none →
      ∃ t, exec (.pushWrite fn off data true push) s = .next t ∧ (fnOf t fn).drop = satAdd f.drop data.length ∧ t.bulk = s.bulk)
    ∧ (up → fn.vf.isSome = true → here → portOf s fn k.val = some p → pPull p.words = false → p.closing = none →
        data.length < p.left → part + data.length < pBurst p.words → p.toBulk = [] → p.held = [] →
      ∃ t, exec (.pushWrite fn off data true push) s = .next t ∧ portOf t fn k.val = some { p with
          left := p.left - data.length, buffer := p.buffer ++ data.map fun x => (x, push.ep) } ∧ t.bulk = s.bulk)
    ∧ (portOf s fn k.val = some p → p.bursts[i.val]? = some b → pOut p.words = false → pLocal p.words = false →
        pDecrypt p.words = false → data.length = b.len → p.left = 0 → p.toBulk = [] → b.dev % 64 = 0 → b.len % 64 = 0 →
        regionOfFn s fn = some r → free →
      ∃ t, exec (.portBurstDone fn k i data read) s = .next t ∧ stored b.dev (data.map fun x => (x, false)) t
        ∧ (∀ x < b.len, bulkBad t (b.dev + x) = true ↔ ∃ y < 64, cameBad read (x / 64 * 64 + y) = true))
    ∧ (∀ l, portOf s fn k.val = some p → p.bursts[i.val]? = none → p.left = 0 → p.held = [] → p.toBulk = [(b, l)] →
        regionOfFn s fn = some r →
      (granted s (portReady r fn.link b true) = false → exec (.portBurstDone fn k i data read) s = .next s)
      ∧ (granted s (portReady r fn.link b true) = true → ∃ t q, exec (.portBurstDone fn k i data read) s = .next t
        ∧ portOf t fn k.val = some q ∧ q.toBulk = [] ∧ q.moved = p.moved + b.len ∧ stored b.dev l t))
    ∧ (portOf s fn k.val = some p → p.bursts[i.val]? = some b → pOut p.words = true → regionOfFn s fn = some r →
        granted s (portReady r fn.link b false) = false → exec (.portBurstDone fn k i data read) s = .next s)
    ∧ (portOf s fn k.val = some p → p.bursts[i.val]? = some b → pOut p.words = true → regionOfFn s fn = some r →
        granted s (portReady r fn.link b false) = true → read.ecc.bad = [] → p.left = 0 →
        (∀ j < b.len, bulkBad s (b.dev + j) = false) →
      ∃ t, exec (.portBurstDone fn k i data read) s = .next t
        ∧ portOf t fn k.val = some { p with bursts := dropAt p.bursts i.val, moved := p.moved + b.len }
        ∧ t.hostOut = s.hostOut ++ [dataWrite s fn (.untranslated (BitVec.ofNat 64 b.host))
            ((List.range b.len).map fun j => mget s.bulk (b.dev + j))])
    ∧ (portOf s fn k.val = some p → portDone p = true → p.closing = none →
      ∃ t, exec (.portClosed fn k) s = .next t
        ∧ (p.poisonAt = none → closed p.moved 0 0 t) ∧ (∀ o, p.poisonAt = some o → closed p.moved 0x24 (BitVec.ofNat 64 o) t))
    ∧ (portOf s fn k.val = some p → p.bursts = b :: p.bursts.tail → pOut p.words = false → b.offset = j * pBurst p.words →
      ∃ t, exec (.completionTimeout (.port fn k j)) s = .next t ∧ closed p.moved 0x2C (BitVec.ofNat 64 b.host) t)
    ∧ (portOf s fn k.val = some p → pOut p.words = true → p.bursts = [] →
      (j * pBurst p.words < pCount p.words - p.left → ∃ t, exec (.completionTimeout (.port fn k j)) s = .next t
        ∧ closed p.moved 0x2C (hWord p.words 6 + BitVec.ofNat 64 (j * pHostStep p.words)) t)
      ∧ (pCount p.words - p.left ≤ j * pBurst p.words → exec (.completionTimeout (.port fn k j)) s = .next s))
    ∧ ((spillOf s link).wanted.find? (isWanted r line) = some w →
      (lineServes s w = true → exec (.completionTimeout (.line link r line)) s = .next s)
      ∧ (lineServes s w = false → ∃ t, exec (.completionTimeout (.line link r line)) s = .next t
        ∧ (spillOf t link).wanted = (spillOf s link).wanted.erase w))
    ∧ (relaxedOn f = true → ∀ a l, dataWrite s fn a l = .relaxedWrite fn a l)
    ∧ (∃ t, exec (.completionTimeout (.writeBack link r line)) s = .next t ∧ (r, line) ∈ (spillOf t link).lost
        ∧ lineAt (spillOf t link) r line = none)
    ∧ (page ∈ f.atsReqs → s.engines = [] → ans.read = true →
      ∃ t, exec (.translationCompletion fn page ans) s = .next t
        ∧ (⟨fn, f.farPasid, page, ans.hostPage, ans.read, ans.write⟩ : Translation) ∈ atc t
        ∧ (fnOf t fn).atsReqs = f.atsReqs.erase page)
    ∧ (page ∈ f.pageReqs → s.engines = [] →
      (∃ t, exec (.pageRequestResponse fn page .responseFailure) s = .next t ∧ (fnOf t fn).priFailed = true
          ∧ (fnOf t fn).pageWait = [])
      ∧ (f.pageWait = [] → ∃ t, exec (.pageRequestResponse fn page .invalidRequest) s = .next t
          ∧ (fnOf t fn).pageReqs = f.pageReqs.erase page)
      ∧ (tsorted s.fns = true → f.pageWait = [] → linkFree s fn.link = true → page ∉ f.atsReqs → page ∉ f.pageReqs.erase page →
        ∃ t, exec (.pageRequestResponse fn page .success) s = .next t ∧ page ∈ (fnOf t fn).retried
          ∧ t.hostOut = s.hostOut ++ [.translationRequest fn f.farPasid page]))
    ∧ (up →
      let gone := fun t : State => ∀ x ∈ atc t, x ∈ atc s ∧ (x.fn = fn → x.page.toNat < page.toNat ∨ page.toNat + n ≤ x.page.toNat)
      (lineInFlight s fn page.toNat n = false →
        ∃ t out, exec (.atsInvalidation fn page n) s = .next t ∧ t.hostOut = s.hostOut ++ out ++ [.invalidationDone fn page] ∧ gone t)
      ∧ (lineInFlight s fn page.toNat n = true → f.invalidations.length < 32 →
        ∃ t, exec (.atsInvalidation fn page n) s = .next t ∧ (fnOf t fn).invalidations = f.invalidations ++ [(page, n,
          s.clock.now + 120000)] ∧ gone t)))


/-! ### Device links -/

/-- Port states (R2, R354–R357, R365, R367): a port without light or FEC lock is down; light and FEC lock bring it to
Training; the third handshake of one peer, once the delay is known, brings it up with whole credits; an Up port that goes
down keeps its replay queue for its peer, and loses it after the time-out; a window load takes its entries piece by piece,
is rejected with `0x19`, or stands in the inactive bank and swaps at the Daybreak of R41, one that ends in Dusk leaving the
program of the coming Daybreak in force; a window opens with its flits. Flits on a link (R49, R51, R360, R361, R363, R364,
R371, R373): a due control flit leaves; the next flit of a TC0 message is sent under the port's sequence number for one
credit and kept for replay; a good flit in order enters the ingress buffer, a bad one of any kind opens a gap and asks for
`NAK`; a control flit returns credits; a Daybreak of the reference is measured, and of several in a Day the nearest counts
(R477). That a flit with a bad CRC comes as a `LINK_FLIT_RECEIVED` whatever its kind, when windows run, and the load in pieces
are the model's choices (logs 87, 93, 175). -/
def Obligations.LinkPortsTrainSendAndReceive : Prop :=
  (∀ (k : PortId) (body : List (BitVec 64)) (arrival : Nat) (n : Fin 256) (entries : List (BitVec 128)) (o : BitVec 9) (a b w : Nat)
    (s : State),
    let p := portAt s k
    let becomes := fun (i : Instr) (q : LinkPort → Prop) => ∃ t, exec i s = .next t ∧ q (portAt t k) ∧ ∀ j, j ≠ k → portAt t j = portAt s j
    becomes (.laserInputLoss k) (fun q => q.state = .down ∧ q.laserOk = false ∧ q.replay = p.replay)
    ∧ (3 ≤ s.boot.step → becomes (.laserInputRestored k) (fun q => q.laserOk = true
        ∧ q.state = if p.state = .down ∧ p.fecLock = true then .training else p.state))
    ∧ (5 ≤ s.boot.step → s.pins.linkClk = true → becomes (.fecLockGained k) (fun q => q.fecLock = true
        ∧ q.state = if p.state = .down ∧ p.laserOk = true then .training else p.state))
    ∧ (p.state = .training → (nth 0 body 0).toNat / 2 ^ 18 % 4 = 1 →
        let same := p.peerDevice.toNat = (nth 0 body 4).toNat % 2 ^ 14 ∧ p.peerPort.toNat = (nth 0 body 4).toNat / 2 ^ 14 % 16
        (same → 2 ≤ p.handshakes → p.delays ≠ [] → p.retraining = none →
          becomes (.handshake k body arrival) fun q => q.state = .up
            ∧ ∀ c < 4, tget 0 q.credits c = if c < 2 then 16384 else 12288)
        ∧ (¬ same → becomes (.handshake k body arrival) fun q => q.state = .training ∧ q.handshakes = 1))
    ∧ (p.state = .up → ∀ why, (why = .nakEight → 8 ≤ p.naks) →
        becomes (.linkDown k why) fun q => q.state = .down ∧ q.replay = p.replay ∧ q.retraining = some (p.peerDevice, p.peerPort))
    ∧ becomes (.linkDown k .fecLost) (fun q => q.state = .down ∧ q.fecLock = false)
    ∧ becomes (.linkDown k .laser) (fun q => q.state = .down ∧ q.laserOk = false)
    ∧ (∀ i ∈ [Instr.linkDown k .laser, .laserInputLoss k], ∃ t, exec i s = .next t ∧ t.pins.lasers.getLsbD k.val = false)
    ∧ (p.state ≠ .up → p.retraining.isSome = true → becomes (.retrainTimeout k) fun q => q.replay = [] ∧ q.retraining = none)
    ∧ (commands s →
      let good := entries.length ≤ 256 ∧ entries.all (windowOk s (effDay s)) = true ∧ windowsClear entries = true
      let dusk := s.clock.phase = .dusk ∧ s.dev ≠ .midnight
      becomes (.linkWindowLoad k ⟨entries, true⟩) (fun q => q.loading = some (p.loading.getD [] ++ entries)
        ∧ q.bank0 = p.bank0 ∧ q.bank1 = p.bank1)
      ∧ (p.loading = none → good → ¬ dusk →
        becomes (.linkWindowLoad k ⟨entries, false⟩) fun q => q.loaded = some (effDay s) ∧ windowBank q = windowBank p
          ∧ (if q.active then q.bank0 else q.bank1) = entries)
      ∧ (p.loading = none → good → dusk →
        becomes (.linkWindowLoad k ⟨entries, false⟩) fun q => q.loadNext = some (effDay s, entries) ∧ q.loaded = p.loaded
          ∧ q.bank0 = p.bank0 ∧ q.bank1 = p.bank1)
      ∧ (p.loading = none → ¬ good →
        ∃ t, exec (.linkWindowLoad k ⟨entries, false⟩) s = .next t ∧ t.mgmt.reply.status = 0x19
          ∧ (portAt t k).bank0 = p.bank0 ∧ (portAt t k).bank1 = p.bank1))
    ∧ (s.dev = .daylight → nextWindow (nth 0 (windowBank p) n.val) (s.clock.cycle - 512) = some a → p.window = none →
        windowAt s p a = some (o, b, w) → becomes (.linkWindowOpen k n) fun q => q.window = some (o, b, w * 125 / 54)))
  ∧ (∀ (k : PortId) (n : BitVec 24) (m : LinkMsg) (f : LinkFlit) (l : List LinkFlit) (ctrl : BitVec 64) (body : List (BitVec 64))
    (arrival : Nat) (day : BitVec 48) (ofs : BitVec 24) (s : State),
    let p := portAt s k
    let x : LinkFlit := ⟨ctrl, body⟩
    (p.state = .training → p.ctrlDue = true →
      ∃ t y, exec (.linkFlitSend k n) s = .next t ∧ t.linkOut = s.linkOut ++ [(k, y)] ∧ lKind y = 3 ∧ (portAt t k).ctrlDue = false)
    ∧ (p.state = .up → s.assigned = true → s.dev = .twilight → p.resend = [] → p.ctrlDue = false → p.nakDue = false → p.markerDue = false →
        p.replay.length < 58254 → p.queue = [m] → m.tc = 0 → m.flits = f :: l → 0 < tget 0 p.credits 0 →
      ∃ t, exec (.linkFlitSend k n) s = .next t ∧ t.linkOut = s.linkOut ++ [(k, sealFlit p.txSeq f)]
        ∧ (portAt t k).txSeq = p.txSeq + 1 ∧ (portAt t k).replay = p.replay ++ [sealFlit p.txSeq f]
        ∧ tget 0 (portAt t k).credits 0 = tget 0 p.credits 0 - 1)
    ∧ (p.state = .up → s.assigned = true →
      let sound := body.length = 8 ∧ ctrl.toNat / 2 ^ 32 = (flitCrc ctrl body).toNat
      (sound → lSeq x = p.rxSeq → lKind x = 1 → lLast x = false →
        ∃ t, exec (.linkFlitReceived k ctrl body) s = .next t ∧ (portAt t k).rxSeq = p.rxSeq + 1 ∧ (portAt t k).gap = false
          ∧ tget [] (portAt t k).rxOpen (lTc x) = [x])
      ∧ (¬ sound ∨ ((lKind x = 1 ∨ lKind x = 2) ∧ lSeq x ≠ p.rxSeq) →
        ∃ t, exec (.linkFlitReceived k ctrl body) s = .next t ∧ portAt t k
          = { p with gap := true, nakDue := p.nakDue || !p.gap } ∧ t.routers = s.routers ∧ t.shoreIn = s.shoreIn))
    ∧ (p.state = .up → (nth 0 body 0).toNat / 2 ^ 16 % 16 = 0 → p.naks < 8 →
      ∃ t, exec (.controlFlit k body arrival) s = .next t ∧ (portAt t k).state = .up
        ∧ ∀ c < 4, tget 0 (portAt t k).credits c
            = min (if c < 2 then 16384 else 12288) (tget 0 p.credits c + (nth 0 body 1).toNat / 2 ^ (16 * c) % 2 ^ 16))
    ∧ (p.state ≠ .down → ∃ t, exec (.controlFlitDue k) s = .next t ∧ portAt t k = { p with ctrlDue := true })
    ∧ (p.state = .up → p.gap = true →
      ∃ t, exec (.nakResend k) s = .next t ∧ portAt t k = { p with nakDue := true, ctrlDue := true })
    ∧ (s.dev ≠ .midnight → s.clock.src = 2 → s.clock.port.toNat = k.val → p.state = .up →
      ∃ t, exec (.daybreakMarker k day ofs arrival) s = .next t ∧ t.clock.refSeen = true
        ∧ (s.clock.refSeen = false → t.clock.offset = BitVec.ofInt 24 (refOffset s ((arrival : Int) - ofs.toNat - p.oneWay.toNat)))
        ∧ (s.dev = .twilight → 16 ≤ s.clock.aligned → s.clock.dayTaken = false → t.clock.dayCount = day))
    ∧ (s.dev ≠ .midnight → s.clock.src = 1 →
      let off := refOffset s ((arrival : Int) - 30)
      let takes := exec (.daybreakInEdge arrival) s
        = .next { s with clock := { s.clock with offset := BitVec.ofInt 24 off, measured := off, refSeen := true } }
      (s.clock.refSeen = false → takes)
      ∧ (s.clock.refSeen = true → off.natAbs < s.clock.measured.natAbs → takes)
      ∧ (s.clock.refSeen = true → s.clock.measured.natAbs ≤ off.natAbs → exec (.daybreakInEdge arrival) s = .next s)))

/-! ### Boot, resets and clocks -/

/-- The device stands in Midnight with every register at its reset value; its flashes have what completed stores left, the
target slots of interrupted ones invalid, and the commands that wait still wait (R432, R433, R429). -/
def inMidnight (s t : State) : Prop :=
  t.dev = .midnight ∧ t.cores = [] ∧ t.regions = [] ∧ t.cells = [] ∧ t.counters = [] ∧ t.fns = [] ∧ t.pending = s.pending
    ∧ t.flash = interruptStores s.flash ∧ t.clock.dayDiv = 512 ∧ t.clock.duskDiv = 4

/-- Resets, clocks and boot (R429–R439, R441–R444, R478): the reset causes bring Midnight; boot takes the first slot that
passes its checks, or waits for a recovery image; bulk and local memory are zero when their tests end; the first Daybreak
enters Twilight with `DAY_COUNT` 0; a link or PCIe clock that stops stops its links alone; a failed controller hands over to
its standby. A sensor at its trip temperature trips the device, and `THERMALERT_N` is low from the first reading above a maximum
until every sensor is 2 °C below (R478, R486). That steps 1 to 3 run in one command, that a failover begins the SPDM
negotiation anew, and how the two ROMs mark a slot are the model's choices (logs 115, 125, 181). -/
def Obligations.ResetsBringMidnightAndBootLeavesIt : Prop :=
  ∀ (roms : RomReport) (img : FwImage) (bad : List (Fin 640 × Fin 17)) (h : LinkId) (b : Bool) (temps : List (BitVec 16))
    (l : List (Bool × Nat)) (s : State),
    let down := fun (i : Instr) (q : State → Prop) => ∃ t, exec i s = .next t ∧ inMidnight s t ∧ t.boot.step = 0 ∧ q t
    let es := { s with pins := { s.pins with presenceN := !roms.presenceLow }, boot := { s.boot with activeEs := !roms.es0Ok } }
    let boots := fun i : Instr =>
      (selectSlot es (slotOrder s.flash) = (some b, l) → ∃ t, exec i s = .next t ∧ t.boot.step = 3 ∧ t.boot.slot = b
        ∧ t.mgmt.owned = (readPair s.flash.certs).getD [] ∧ t.mgmt.rollback = rollbackOf s.flash.rollback
        ∧ marked t.boot b = true ∧ t.boot.udsLocked = true)
      ∧ (selectSlot es (slotOrder s.flash) = (none, l) → ∃ t, exec i s = .next t ∧ t.boot.recovery = true ∧ t.boot.step = 1)
    down .powerOn (fun t => t.pins.railsOk = true ∧ t.pins.resetN = false)
    ∧ down .powerLoss (fun t => t.pins.railsOk = false)
    ∧ down .resetNAssert (fun t => t.pins.resetN = false ∧ t.boot.tripped = false)
    ∧ down .thermalTrip (fun t => t.pins.thermtripN = false ∧ t.boot.tripped = true)
    ∧ down (.clockLoss .svc) (fun t => t.pins.svcClk = false)
    ∧ down (.clockLoss .core) (fun t => t.pins.coreClk = false)
    ∧ (commands s → ∃ t, exec (.deviceReset roms) s = .next t ∧ inMidnight s t ∧ t.boot.step ≤ 3)
    ∧ (s.dev = .midnight → s.boot.step = 0 → s.pins.railsOk = true → s.boot.tripped = false →
      (s.pins.resetN = true → s.pins.coreClk = true → boots (.referenceClockReturn .svc roms))
      ∧ (s.pins.resetN = true → s.pins.svcClk = true → boots (.referenceClockReturn .core roms))
      ∧ (s.pins.svcClk = true → s.pins.coreClk = true → boots (.resetNDeassert roms)))
    ∧ (s.pins.resetN = false ∨ s.pins.coreClk = false →
      exec (.referenceClockReturn .svc roms) s = .next { s with pins := { s.pins with svcClk := true } })
    ∧ (s.pins.railsOk = false ∨ s.pins.svcClk = false ∨ s.pins.coreClk = false ∨ s.boot.tripped = true →
      exec (.resetNDeassert roms) s = .next { s with pins := { s.pins with resetN := true } })
    ∧ (s.boot.step = 3 → ∃ t, exec .hbmTrainingDone s = .next t ∧ t.boot.step = 5 ∧ t.bulk = [] ∧ t.bulkPoison = [])
    ∧ (s.boot.step = 5 → ∃ t, exec (.bistDone bad) s = .next t ∧ t.boot.step = 6
        ∧ ∀ c : CoreId, (coreOf t c).mem = [] ∧ (coreOf t c).code = [] ∧ (coreOf t c).poison = [])
    ∧ (s.dev = .midnight → s.boot.step = 6 → FlashItem.spareMap ∉ s.flash.busy → s.cellChanges = [] → s.regions = [] →
      ∃ t, exec .firstDaybreak s = .next t ∧ t.dev = .twilight ∧ t.boot.step = 8 ∧ t.clock.dayCount = 0 ∧ t.clock.cycle = 0
        ∧ t.clock.phase = .dawn ∧ cValid (cellEntry t 0) = true ∧ t.boot.marks0 = (false, false) ∧ t.boot.marks1 = (false, false))
    ∧ (s.boot.recovery = true → s.mgmt.presence ≠ [] →
      (slotCheck (rollbackOf s.flash.rollback) ⟨some img, true⟩ = none → ∃ t, exec (.recoveryImage img) s = .next t ∧ t.boot.step = 3
        ∧ t.boot.recovery = false ∧ t.flash.slotA = ⟨some img, true⟩)
      ∧ (slotCheck (rollbackOf s.flash.rollback) ⟨some img, true⟩ ≠ none → ∃ t, exec (.recoveryImage img) s = .next t ∧ t.boot.step = s.boot.step
        ∧ t.boot.recovery = true))
    ∧ (∃ t, exec (.clockLoss .link) s = .next t ∧ t.pins.linkClk = false ∧ t.cores = s.cores
        ∧ ∀ k : PortId, (portAt t k).state = .down ∧ (portAt t k).replay = (portAt s k).replay)
    ∧ (∃ t, exec (.clockLoss (.pcie h)) s = .next t ∧ pcieClk t h = false ∧ t.fns = s.fns ∧ t.cores = s.cores)
    ∧ (∃ t, exec (.referenceClockReturn (.pcie h) roms) s = .next t ∧ pcieClk t h = true ∧ t.fns = s.fns)
    ∧ (let pin := fun v : Bool => exec (.thermalAlert temps) s = .next { s with pins := { s.pins with thermalertN := v } }
      let read := fun q : Int → Nat → Prop => ∃ n x, temps[n]? = some x ∧ q x.toInt n
      (read (fun x n => tripTemp n ≤ x) → exec (.thermalAlert temps) s = exec .thermalTrip s)
      ∧ (¬ read (fun x n => tripTemp n ≤ x) →
        (read (fun x n => maxTemp n < x) → pin false)
        ∧ (¬ read (fun x n => maxTemp n - 20 < x) → pin true)
        ∧ (¬ read (fun x n => maxTemp n < x) → read (fun x n => maxTemp n - 20 < x) → pin s.pins.thermalertN)))
    ∧ (s.boot.step ≠ 0 → ∃ t, exec (.armaikWatchdog true roms) s = .next t ∧ t.boot.activeEs = !s.boot.activeEs
        ∧ t.mgmt.connected = false ∧ t.mgmt.sessions = [] ∧ t.cores = s.cores ∧ t.dev = s.dev)
    ∧ (s.boot.step ≠ 0 → ∃ t, exec (.armaikWatchdog false roms) s = .next t ∧ inMidnight s t)
    ∧ (s.dev = .midnight → 3 ≤ s.boot.step → ∃ t, exec (.bootWatchdog roms) s = .next t ∧ inMidnight s t)


/-! ### Completion with no trap enabled -/

/-- With no trap enabled in `FP_CTRL`[7:3] every scalar and vector floating-point instruction and every conversion
completes, whatever its operands: its destination is written, the flags it raises are set, its thread's PC moves past it,
and nothing else changes (R104, R153, R155, R156; of a `VCVT` with stochastic rounding the generator advances, R186). A
conversion from T2 needs `T2_POLICY` 0 for it (R184). A waiting `MMA` starts when the unit is free, a running one completes,
and an `ACVT` whose job met no fault ends its thread's wait with the PC past it (R193, R210). -/
def Obligations.FloatingPointAndMatrixFormsComplete : Prop :=
  (∀ (h : Hart) (p q m dm : Fin 8) (f : FpFmt) (c : FcmpCond) (d a b : Fin 32) (s : State),
    Runs h p 4 s → (thread s h).fpCtrl.toNat / 8 = 0 →
    let wrote := fun (i : Instr) (put : Thread → Thread) (note : State → State) =>
      ∃ fl, exec i s = .next (note (after h 4 (fun u => putFlags fl (put u)) s))
    let g := fun (i : Instr) => ∃ x, wrote i (putG d x) id
    let v := fun (i : Instr) => ∃ x, wrote i (putV d x) id
    let k := fun (i : Instr) => ∃ x, wrote i (putM dm x) (noted h [a, b] s)
    (∀ i ∈ [Instr.fadd h p f d a b, .fsub h p f d a b, .fmul h p f d a b, .fdiv h p f d a b, .fsqrt h p f d a, .fma h p f d a b,
        .fnma h p f d a b, .fmin h p f d a b, .fmax h p f d a b, .fabs h p f d a, .fneg h p f d a, .fcvt h p f d a,
        .fcvti h p f d a, .fcvtu h p f d a, .icvtf h p f d a, .ucvtf h p f d a, .fclass h p f d a], g i)
    ∧ (∃ x, wrote (.fcmp h p c f q a b) (putP q x) id)
    ∧ (∀ i ∈ [Instr.vfadd h p f m d a b, .vfsub h p f m d a b, .vfmul h p f m d a b, .vfdiv h p f m d a b, .vfsqrt h p f m d a,
        .vfma h p f m d a b, .vfnma h p f m d a b, .vfmin h p f m d a b, .vfmax h p f m d a b, .vfabs h p f m d a,
        .vfneg h p f m d a], v i)
    ∧ (∀ i ∈ [Instr.vfcmpeq h p f m dm a b, .vfcmplt h p f m dm a b, .vfcmple h p f m dm a b, .vfcmpun h p f m dm a b], k i)
    ∧ (∀ i ∈ [Instr.vcvtis h p m d a, .vcvtsi h p m d a, .vcvtld h p m d a, .vcvtdl h p m d a, .vpackt2 h p m d a], v i)
    ∧ ((thread s h).t2Policy = false → v (.vunpkt2 h p m d a) ∧ v (.vcvts h p 11 m d a))
    ∧ (∀ e : Fin 16, e = 0 ∨ (2 ≤ e.val ∧ e.val ≤ 11) → (e ≠ 11 → v (.vcvts h p e m d a)) ∧ v (.vcvtf h p e false m d a)
        ∧ (e ≠ 0 → ∃ x y, wrote (.vcvtf h p e true m d a) (fun u => { putV d x u with sr := y }) id)))
  ∧ (∀ (core : CoreId) (h : Hart) (w : MmaJob) (j : AcvtJob) (s : State),
    ((coreOf s core).mmaRun = none → (coreOf s core).mmaWait = some w →
      ∃ t, exec (.mmaStart core) s = .next t ∧ coreOf t core = { coreOf s core with mmaRun := some w, mmaWait := none, passed := [] })
    ∧ ((coreOf s core).mmaRun = some w →
      ∃ t, exec (.mmaComplete core) s = .next t ∧ (coreOf t core).mmaRun = none ∧ (coreOf t core).mmaWait = (coreOf s core).mmaWait)
    ∧ ((thread s h).run = .waiting .acvt → (thread s h).acvt = some j → j.fault = none → j.spec = false →
      ∃ t, exec (.acvtComplete h) s = .next t ∧ (thread t h).run = .ready ∧ (thread t h).acvt = none
        ∧ (thread t h).pc = (thread s h).pc + 4))
end

