-- ==== Sys2Proof/Laws/Tab.lean ====
section
/-!
SUPPORT. Laws of sparse tables, of canonical byte memories, and of sets held as rising lists.
-/
namespace Sys2Proof.Machine
open Sys2Proof

/-! ### Tables -/

@[simp] theorem tfind_tset_same {α : Type} (t : Tab α) (i : Nat) (v : α) : tfind (tset t i v) i = some v := by
  induction t with
  | nil => simp [tset, tfind]
  | cons e t ih =>
    obtain ⟨k, w⟩ := e
    simp only [tset]
    split
    · simp [tfind]
    · split
      · simp [tfind]
      · rename_i h1 h2
        simp [tfind, Ne.symm h2, ih]

theorem tfind_tset_other {α : Type} (t : Tab α) (i j : Nat) (v : α) (h : i ≠ j) :
    tfind (tset t i v) j = tfind t j := by
  induction t with
  | nil => simp [tset, tfind, h]
  | cons e t ih =>
    obtain ⟨k, w⟩ := e
    simp only [tset]
    split
    · simp [tfind, h]
    · split
      · rename_i h1 h2
        subst h2
        simp [tfind, h]
      · simp [tfind, ih]

@[simp] theorem tget_tset_same {α : Type} (d : α) (t : Tab α) (i : Nat) (v : α) : tget d (tset t i v) i = v := by
  simp [tget]

theorem tget_tset_other {α : Type} (d : α) (t : Tab α) (i j : Nat) (v : α) (h : i ≠ j) :
    tget d (tset t i v) j = tget d t j := by
  simp [tget, tfind_tset_other t i j v h]

@[simp] theorem tset_tset {α : Type} (t : Tab α) (i : Nat) (v w : α) : tset (tset t i v) i w = tset t i w := by
  induction t with
  | nil => simp [tset]
  | cons e t ih =>
    obtain ⟨k, x⟩ := e
    simp only [tset]
    split
    · simp [tset]
    · split
      · simp [tset]
      · rename_i h1 h2
        simp [tset, h1, h2, ih]

@[simp] theorem tfind_tdel_same {α : Type} (t : Tab α) (i : Nat) : tfind (tdel t i) i = none := by
  induction t with
  | nil => rfl
  | cons e t ih =>
    obtain ⟨k, w⟩ := e
    simp only [tdel]
    split
    · exact ih
    · rename_i h
      simp [tfind, Ne.symm h, ih]

@[simp] theorem tdel_nil {α : Type} (i : Nat) : tdel ([] : Tab α) i = [] := rfl

/-! ### Byte memories -/

/-- Every key of a canonical memory's tail is above its head's. -/
theorem tsorted_low {α : Type} (k : Nat) (w : α) (t : Tab α) (hs : tsorted ((k, w) :: t) = true) :
    ∀ c ∈ t, k < c.1 := by
  induction t generalizing k w with
  | nil => simp
  | cons f t ih =>
    obtain ⟨l, x⟩ := f
    simp only [tsorted, Bool.and_eq_true, decide_eq_true_eq] at hs
    intro c hc
    rcases List.mem_cons.mp hc with rfl | hc
    · exact hs.1
    · have := ih l x hs.2 c hc
      omega

theorem tsorted_tail {α : Type} (e : Nat × α) (t : Tab α) (hs : tsorted (e :: t) = true) : tsorted t = true := by
  cases t with
  | nil => rfl
  | cons f t => simp only [tsorted, Bool.and_eq_true] at hs; exact hs.2

theorem tsorted_cons {α : Type} (k : Nat) (w : α) (t : Tab α) (hl : ∀ c ∈ t, k < c.1) (ht : tsorted t = true) :
    tsorted ((k, w) :: t) = true := by
  cases t with
  | nil => rfl
  | cons f t => simp only [tsorted, Bool.and_eq_true, decide_eq_true_eq]; exact ⟨hl f (by simp), ht⟩

theorem tfind_below {α : Type} (t : Tab α) (a : Nat) (h : ∀ c ∈ t, a < c.1) : tfind t a = none := by
  induction t with
  | nil => rfl
  | cons e t ih =>
    obtain ⟨k, w⟩ := e
    have hk : a < k := h (k, w) (by simp)
    simp only [tfind, if_neg (show ¬k = a by omega)]
    exact ih fun c hc => h c (by simp [hc])

theorem mget_mset_same (m : Mem) (a : Nat) (b : Byte) (hm : tsorted m = true) : mget (mset m a b) a = b := by
  unfold mget
  induction m with
  | nil => by_cases h : b = 0#8 <;> simp [mset, tget, tfind, h]
  | cons e t ih =>
    obtain ⟨k, w⟩ := e
    have hlow := tsorted_low k w t hm
    simp only [mset]
    split
    · rename_i h1
      split
      · rename_i hb
        rw [tget, tfind_below _ a (fun c hc => by
          rcases List.mem_cons.mp hc with rfl | hc
          · exact h1
          · have := hlow c hc; omega)]
        simp [hb]
      · simp [tget, tfind]
    · split
      · rename_i h1 h2
        subst h2
        split
        · rename_i hb
          rw [tget, tfind_below t a hlow]
          simp [hb]
        · simp [tget, tfind]
      · rename_i h1 h2
        have := ih (tsorted_tail _ _ hm)
        simpa only [tget, tfind, if_neg (Ne.symm h2)] using this

theorem mget_mset_other (m : Mem) (a c : Nat) (b : Byte) (h : a ≠ c) : mget (mset m a b) c = mget m c := by
  unfold mget
  induction m with
  | nil => by_cases hb : b = 0#8 <;> simp [mset, tget, tfind, hb, h]
  | cons e t ih =>
    obtain ⟨k, w⟩ := e
    simp only [mset]
    split
    · split
      · rfl
      · simp [tget, tfind, h]
    · split
      · rename_i h1 h2
        subst h2
        split <;> simp [tget, tfind, h]
      · simp only [tget, tfind] at ih ⊢
        split
        · rfl
        · exact ih

theorem mset_low (m : Mem) (a l : Nat) (b : Byte) (hl : l < a) (h : ∀ c ∈ m, l < c.1) : ∀ c ∈ mset m a b, l < c.1 := by
  induction m with
  | nil => by_cases hb : b = 0#8 <;> simp [mset, hb, hl]
  | cons e t ih =>
    obtain ⟨k, w⟩ := e
    have hk : l < k := h (k, w) (by simp)
    have ht : ∀ c ∈ t, l < c.1 := fun c hc => h c (by simp [hc])
    simp only [mset]
    split
    · split
      · exact h
      · intro c hc
        rcases List.mem_cons.mp hc with rfl | hc
        · exact hl
        · exact h c hc
    · split
      · split
        · exact ht
        · intro c hc
          rcases List.mem_cons.mp hc with rfl | hc
          · exact hl
          · exact ht c hc
      · intro c hc
        rcases List.mem_cons.mp hc with rfl | hc
        · exact hk
        · exact ih ht c hc

theorem Mem.wf_iff (m : Mem) : Mem.wf m = true ↔ tsorted m = true ∧ ∀ c ∈ m, c.2 ≠ 0#8 := by
  simp [Mem.wf]

/-- A write keeps the canonical form. -/
theorem mset_wf (m : Mem) (a : Nat) (b : Byte) (h : Mem.wf m = true) : Mem.wf (mset m a b) = true := by
  rw [Mem.wf_iff] at h ⊢
  induction m with
  | nil => by_cases hb : b = 0#8 <;> simp [mset, tsorted, hb]
  | cons e t ih =>
    obtain ⟨k, w⟩ := e
    obtain ⟨hs, hz⟩ := h
    have hst := tsorted_tail _ _ hs
    have hlow := tsorted_low k w t hs
    have hzt : ∀ c ∈ t, c.2 ≠ 0#8 := fun c hc => hz c (by simp [hc])
    simp only [mset]
    split
    · rename_i hlt
      split
      · exact ⟨hs, hz⟩
      · rename_i hb
        refine ⟨tsorted_cons a b _ (fun c hc => ?_) hs, fun c hc => ?_⟩
        · rcases List.mem_cons.mp hc with rfl | hc
          · exact hlt
          · have := hlow c hc; omega
        · rcases List.mem_cons.mp hc with rfl | hc
          · exact hb
          · exact hz c hc
    · split
      · rename_i h1 h2
        split
        · exact ⟨hst, hzt⟩
        · rename_i hb
          refine ⟨tsorted_cons a b t (h2 ▸ hlow) hst, fun c hc => ?_⟩
          rcases List.mem_cons.mp hc with rfl | hc
          · exact hb
          · exact hzt c hc
      · rename_i h1 h2
        have hr := ih ⟨hst, hzt⟩
        refine ⟨tsorted_cons k w _ (mset_low t a k b (by omega) hlow) hr.1, fun c hc => ?_⟩
        rcases List.mem_cons.mp hc with rfl | hc
        · exact hz (k, w) (by simp)
        · exact hr.2 c hc

theorem mwrite_wf (bs : List Byte) (m : Mem) (a : Nat) (h : Mem.wf m = true) : Mem.wf (mwrite m a bs) = true := by
  induction bs generalizing m a with
  | nil => exact h
  | cons b bs ih => exact ih _ _ (mset_wf m a b h)

theorem tsorted_filter {α : Type} (f : Nat × α → Bool) (t : Tab α) (h : tsorted t = true) :
    tsorted (t.filter f) = true := by
  induction t with
  | nil => rfl
  | cons e t ih =>
    obtain ⟨k, w⟩ := e
    have hr := ih (tsorted_tail _ _ h)
    simp only [List.filter_cons]
    split
    · exact tsorted_cons k w _ (fun c hc => tsorted_low k w t h c (List.mem_of_mem_filter hc)) hr
    · exact hr

/-- Clearing a range keeps the canonical form. -/
theorem mzero_wf (m : Mem) (lo hi : Nat) (h : Mem.wf m = true) : Mem.wf (mzero m lo hi) = true := by
  simp only [Mem.wf, Bool.and_eq_true, List.all_eq_true] at h ⊢
  exact ⟨tsorted_filter _ m h.1, fun c hc => h.2 c (List.mem_of_mem_filter hc)⟩

theorem mget_mwrite_outside (bs : List Byte) (m : Mem) (a c : Nat) (h : c < a ∨ a + bs.length ≤ c) :
    mget (mwrite m a bs) c = mget m c := by
  induction bs generalizing m a with
  | nil => rfl
  | cons b bs ih =>
    simp only [mwrite, List.length_cons] at h ⊢
    rw [ih _ _ (by omega), mget_mset_other _ _ _ _ (by omega)]

/-- What was written is read back. -/
theorem mget_mwrite_inside (bs : List Byte) (m : Mem) (a i : Nat) (hm : Mem.wf m = true) (hi : i < bs.length) :
    mget (mwrite m a bs) (a + i) = bs[i] := by
  induction bs generalizing m a i with
  | nil => simp at hi
  | cons b bs ih =>
    simp only [mwrite]
    cases i with
    | zero =>
      rw [mget_mwrite_outside _ _ _ _ (by omega), Nat.add_zero]
      simp only [Mem.wf, Bool.and_eq_true] at hm
      simpa using mget_mset_same m a b hm.1
    | succ i =>
      have := ih (mset m a b) (a + 1) i (mset_wf _ _ _ hm) (by simpa using hi)
      simp only [Nat.add_assoc, Nat.add_comm 1 i] at this
      simpa using this

/-! ### Sets held as rising lists -/

theorem mem_sins (l : List Nat) (x y : Nat) : y ∈ sins l x ↔ y = x ∨ y ∈ l := by
  induction l with
  | nil => simp [sins]
  | cons z t ih =>
    simp only [sins]
    split
    · simp
    · split
      · rename_i h; subst h; simp
      · simp only [List.mem_cons, ih]; tauto

theorem mem_sdel (l : List Nat) (x y : Nat) : y ∈ sdel l x ↔ y ∈ l ∧ y ≠ x := by simp [sdel]

end Sys2Proof.Machine
end

