-- ==== Sys2Proof/Laws/State.lean ====
section
/-!
SUPPORT. What the updates of the state leave alone: one lemma for each field and each update.
-/
namespace Sys2Proof.Machine
open Sys2Proof

/-! ### Cores, threads and regions -/

@[simp] theorem coreOf_setCore_same (s : State) (c : CoreId) (x : Core) : coreOf (setCore s c x) c = x := by
  simp [coreOf, setCore]

theorem coreOf_setCore_other (s : State) (c e : CoreId) (x : Core) (h : c ≠ e) :
    coreOf (setCore s c x) e = coreOf s e := by
  simp [coreOf, setCore, tget_tset_other _ _ _ _ _ (fun k => h (Fin.ext k))]

@[simp] theorem setCore_setCore (s : State) (c : CoreId) (x y : Core) : setCore (setCore s c x) c y = setCore s c y := by
  simp [setCore]

@[simp] theorem thOf_setTh_same (c : Core) (i : Fin 4) (t : Thread) : thOf (setTh c i t) i = t := by
  simp [thOf, setTh]

theorem thOf_setTh_other (c : Core) (i j : Fin 4) (t : Thread) (h : i ≠ j) : thOf (setTh c i t) j = thOf c j := by
  simp [thOf, setTh, tget_tset_other _ _ _ _ _ (fun k => h (Fin.ext k))]

@[simp] theorem setTh_setTh (c : Core) (i : Fin 4) (t u : Thread) : setTh (setTh c i t) i u = setTh c i u := by
  simp [setTh]

@[simp] theorem coreOf_modCore_same (s : State) (c : CoreId) (f : Core → Core) : coreOf (modCore s c f) c = f (coreOf s c) := by
  simp [modCore]

theorem coreOf_modCore_other (s : State) (c e : CoreId) (f : Core → Core) (h : c ≠ e) :
    coreOf (modCore s c f) e = coreOf s e := coreOf_setCore_other s c e _ h

@[simp] theorem modCore_modCore (s : State) (c : CoreId) (f g : Core → Core) :
    modCore (modCore s c f) c g = modCore s c (fun x => g (f x)) := by
  simp [modCore]

@[simp] theorem thread_modTh_same (s : State) (h : Hart) (f : Thread → Thread) : thread (modTh s h f) h = f (thread s h) := by
  simp [thread, modTh]

theorem thread_modTh_other (s : State) (h k : Hart) (f : Thread → Thread) (hk : h ≠ k) :
    thread (modTh s h f) k = thread s k := by
  unfold thread modTh
  by_cases hc : h.core = k.core
  · have ht : h.thread ≠ k.thread := fun e => hk (by cases h; cases k; simp_all)
    rw [hc, coreOf_modCore_same, thOf_setTh_other _ _ _ _ ht]
  · rw [coreOf_modCore_other _ _ _ _ hc]

@[simp] theorem modTh_modTh (s : State) (h : Hart) (f g : Thread → Thread) :
    modTh (modTh s h f) h g = modTh s h (fun t => g (f t)) := by
  simp [modTh]

@[simp] theorem regOf_setReg_same (s : State) (r : RegionId) (x : Region) : regOf (setReg s r x) r = x := by
  simp [regOf, setReg]

theorem regOf_setReg_other (s : State) (r q : RegionId) (x : Region) (h : r ≠ q) : regOf (setReg s r x) q = regOf s q := by
  simp [regOf, setReg, tget_tset_other _ _ _ _ _ (fun k => h (Fin.ext k))]

@[simp] theorem regOf_modReg_same (s : State) (r : RegionId) (f : Region → Region) :
    regOf (modReg s r f) r = f (regOf s r) := by
  simp [modReg]

theorem regOf_modReg_other (s : State) (r q : RegionId) (f : Region → Region) (h : r ≠ q) :
    regOf (modReg s r f) q = regOf s q := regOf_setReg_other s r q _ h

/-! ### Fields of the state that an update leaves alone -/

@[simp] theorem setCore_pending (s : State) (c : CoreId) (x : Core) : (setCore s c x).pending = s.pending := rfl
@[simp] theorem setCore_dev (s : State) (c : CoreId) (x : Core) : (setCore s c x).dev = s.dev := rfl
@[simp] theorem setCore_daylightReq (s : State) (c : CoreId) (x : Core) : (setCore s c x).daylightReq = s.daylightReq := rfl
@[simp] theorem setCore_twilightAt (s : State) (c : CoreId) (x : Core) : (setCore s c x).twilightAt = s.twilightAt := rfl
@[simp] theorem setCore_clock (s : State) (c : CoreId) (x : Core) : (setCore s c x).clock = s.clock := rfl
@[simp] theorem setCore_boot (s : State) (c : CoreId) (x : Core) : (setCore s c x).boot = s.boot := rfl
@[simp] theorem setCore_pins (s : State) (c : CoreId) (x : Core) : (setCore s c x).pins = s.pins := rfl
@[simp] theorem setCore_deviceId (s : State) (c : CoreId) (x : Core) : (setCore s c x).deviceId = s.deviceId := rfl
@[simp] theorem setCore_assigned (s : State) (c : CoreId) (x : Core) : (setCore s c x).assigned = s.assigned := rfl
@[simp] theorem setCore_deviceIdNext (s : State) (c : CoreId) (x : Core) : (setCore s c x).deviceIdNext = s.deviceIdNext := rfl
@[simp] theorem setCore_assignedNext (s : State) (c : CoreId) (x : Core) : (setCore s c x).assignedNext = s.assignedNext := rfl
@[simp] theorem setCore_routers (s : State) (c : CoreId) (x : Core) : (setCore s c x).routers = s.routers := rfl
@[simp] theorem setCore_regions (s : State) (c : CoreId) (x : Core) : (setCore s c x).regions = s.regions := rfl
@[simp] theorem setCore_cells (s : State) (c : CoreId) (x : Core) : (setCore s c x).cells = s.cells := rfl
@[simp] theorem setCore_cellChanges (s : State) (c : CoreId) (x : Core) : (setCore s c x).cellChanges = s.cellChanges := rfl
@[simp] theorem setCore_cellReuse (s : State) (c : CoreId) (x : Core) : (setCore s c x).cellReuse = s.cellReuse := rfl
@[simp] theorem setCore_badReplicas (s : State) (c : CoreId) (x : Core) : (setCore s c x).badReplicas = s.badReplicas := rfl
@[simp] theorem setCore_banks (s : State) (c : CoreId) (x : Core) : (setCore s c x).banks = s.banks := rfl
@[simp] theorem setCore_flight (s : State) (c : CoreId) (x : Core) : (setCore s c x).flight = s.flight := rfl
@[simp] theorem setCore_dawnClear (s : State) (c : CoreId) (x : Core) : (setCore s c x).dawnClear = s.dawnClear := rfl
@[simp] theorem setCore_badFlagWords (s : State) (c : CoreId) (x : Core) : (setCore s c x).badFlagWords = s.badFlagWords := rfl
@[simp] theorem setCore_engines (s : State) (c : CoreId) (x : Core) : (setCore s c x).engines = s.engines := rfl
@[simp] theorem setCore_bulk (s : State) (c : CoreId) (x : Core) : (setCore s c x).bulk = s.bulk := rfl
@[simp] theorem setCore_bulkPoison (s : State) (c : CoreId) (x : Core) : (setCore s c x).bulkPoison = s.bulkPoison := rfl
@[simp] theorem setCore_scrubbing (s : State) (c : CoreId) (x : Core) : (setCore s c x).scrubbing = s.scrubbing := rfl
@[simp] theorem setCore_spill0 (s : State) (c : CoreId) (x : Core) : (setCore s c x).spill0 = s.spill0 := rfl
@[simp] theorem setCore_spill1 (s : State) (c : CoreId) (x : Core) : (setCore s c x).spill1 = s.spill1 := rfl
@[simp] theorem setCore_serviceWindow (s : State) (c : CoreId) (x : Core) : (setCore s c x).serviceWindow = s.serviceWindow := rfl
@[simp] theorem setCore_served (s : State) (c : CoreId) (x : Core) : (setCore s c x).served = s.served := rfl
@[simp] theorem setCore_fns (s : State) (c : CoreId) (x : Core) : (setCore s c x).fns = s.fns := rfl
@[simp] theorem setCore_hostOut (s : State) (c : CoreId) (x : Core) : (setCore s c x).hostOut = s.hostOut := rfl
@[simp] theorem setCore_ports (s : State) (c : CoreId) (x : Core) : (setCore s c x).ports = s.ports := rfl
@[simp] theorem setCore_linkOut (s : State) (c : CoreId) (x : Core) : (setCore s c x).linkOut = s.linkOut := rfl
@[simp] theorem setCore_routes (s : State) (c : CoreId) (x : Core) : (setCore s c x).routes = s.routes := rfl
@[simp] theorem setCore_routesNext (s : State) (c : CoreId) (x : Core) : (setCore s c x).routesNext = s.routesNext := rfl
@[simp] theorem setCore_shoreIn (s : State) (c : CoreId) (x : Core) : (setCore s c x).shoreIn = s.shoreIn := rfl
@[simp] theorem setCore_shoreTc0 (s : State) (c : CoreId) (x : Core) : (setCore s c x).shoreTc0 = s.shoreTc0 := rfl
@[simp] theorem setCore_shoreOut (s : State) (c : CoreId) (x : Core) : (setCore s c x).shoreOut = s.shoreOut := rfl
@[simp] theorem setCore_deadSlots (s : State) (c : CoreId) (x : Core) : (setCore s c x).deadSlots = s.deadSlots := rfl
@[simp] theorem setCore_counters (s : State) (c : CoreId) (x : Core) : (setCore s c x).counters = s.counters := rfl
@[simp] theorem setCore_log (s : State) (c : CoreId) (x : Core) : (setCore s c x).log = s.log := rfl
@[simp] theorem setCore_spares (s : State) (c : CoreId) (x : Core) : (setCore s c x).spares = s.spares := rfl
@[simp] theorem setCore_removals (s : State) (c : CoreId) (x : Core) : (setCore s c x).removals = s.removals := rfl
@[simp] theorem setCore_removalsNext (s : State) (c : CoreId) (x : Core) : (setCore s c x).removalsNext = s.removalsNext := rfl
@[simp] theorem setCore_removedDies (s : State) (c : CoreId) (x : Core) : (setCore s c x).removedDies = s.removedDies := rfl
@[simp] theorem setCore_history (s : State) (c : CoreId) (x : Core) : (setCore s c x).history = s.history := rfl
@[simp] theorem setCore_coreNights (s : State) (c : CoreId) (x : Core) : (setCore s c x).coreNights = s.coreNights := rfl
@[simp] theorem setCore_flash (s : State) (c : CoreId) (x : Core) : (setCore s c x).flash = s.flash := rfl
@[simp] theorem setCore_mgmt (s : State) (c : CoreId) (x : Core) : (setCore s c x).mgmt = s.mgmt := rfl
@[simp] theorem setCore_telemetry (s : State) (c : CoreId) (x : Core) : (setCore s c x).telemetry = s.telemetry := rfl
@[simp] theorem setCore_busySample (s : State) (c : CoreId) (x : Core) : (setCore s c x).busySample = s.busySample := rfl
@[simp] theorem setCore_poolSample (s : State) (c : CoreId) (x : Core) : (setCore s c x).poolSample = s.poolSample := rfl
@[simp] theorem setCore_nextMid (s : State) (c : CoreId) (x : Core) : (setCore s c x).nextMid = s.nextMid := rfl
@[simp] theorem setCore_nextEpoch (s : State) (c : CoreId) (x : Core) : (setCore s c x).nextEpoch = s.nextEpoch := rfl
@[simp] theorem setCore_nextFree (s : State) (c : CoreId) (x : Core) : (setCore s c x).nextFree = s.nextFree := rfl

@[simp] theorem modCore_pending (s : State) (c : CoreId) (f : Core → Core) : (modCore s c f).pending = s.pending := rfl
@[simp] theorem modCore_dev (s : State) (c : CoreId) (f : Core → Core) : (modCore s c f).dev = s.dev := rfl
@[simp] theorem modCore_daylightReq (s : State) (c : CoreId) (f : Core → Core) : (modCore s c f).daylightReq = s.daylightReq := rfl
@[simp] theorem modCore_twilightAt (s : State) (c : CoreId) (f : Core → Core) : (modCore s c f).twilightAt = s.twilightAt := rfl
@[simp] theorem modCore_clock (s : State) (c : CoreId) (f : Core → Core) : (modCore s c f).clock = s.clock := rfl
@[simp] theorem modCore_boot (s : State) (c : CoreId) (f : Core → Core) : (modCore s c f).boot = s.boot := rfl
@[simp] theorem modCore_pins (s : State) (c : CoreId) (f : Core → Core) : (modCore s c f).pins = s.pins := rfl
@[simp] theorem modCore_deviceId (s : State) (c : CoreId) (f : Core → Core) : (modCore s c f).deviceId = s.deviceId := rfl
@[simp] theorem modCore_assigned (s : State) (c : CoreId) (f : Core → Core) : (modCore s c f).assigned = s.assigned := rfl
@[simp] theorem modCore_deviceIdNext (s : State) (c : CoreId) (f : Core → Core) : (modCore s c f).deviceIdNext = s.deviceIdNext := rfl
@[simp] theorem modCore_assignedNext (s : State) (c : CoreId) (f : Core → Core) : (modCore s c f).assignedNext = s.assignedNext := rfl
@[simp] theorem modCore_routers (s : State) (c : CoreId) (f : Core → Core) : (modCore s c f).routers = s.routers := rfl
@[simp] theorem modCore_regions (s : State) (c : CoreId) (f : Core → Core) : (modCore s c f).regions = s.regions := rfl
@[simp] theorem modCore_cells (s : State) (c : CoreId) (f : Core → Core) : (modCore s c f).cells = s.cells := rfl
@[simp] theorem modCore_cellChanges (s : State) (c : CoreId) (f : Core → Core) : (modCore s c f).cellChanges = s.cellChanges := rfl
@[simp] theorem modCore_cellReuse (s : State) (c : CoreId) (f : Core → Core) : (modCore s c f).cellReuse = s.cellReuse := rfl
@[simp] theorem modCore_badReplicas (s : State) (c : CoreId) (f : Core → Core) : (modCore s c f).badReplicas = s.badReplicas := rfl
@[simp] theorem modCore_banks (s : State) (c : CoreId) (f : Core → Core) : (modCore s c f).banks = s.banks := rfl
@[simp] theorem modCore_flight (s : State) (c : CoreId) (f : Core → Core) : (modCore s c f).flight = s.flight := rfl
@[simp] theorem modCore_dawnClear (s : State) (c : CoreId) (f : Core → Core) : (modCore s c f).dawnClear = s.dawnClear := rfl
@[simp] theorem modCore_badFlagWords (s : State) (c : CoreId) (f : Core → Core) : (modCore s c f).badFlagWords = s.badFlagWords := rfl
@[simp] theorem modCore_engines (s : State) (c : CoreId) (f : Core → Core) : (modCore s c f).engines = s.engines := rfl
@[simp] theorem modCore_bulk (s : State) (c : CoreId) (f : Core → Core) : (modCore s c f).bulk = s.bulk := rfl
@[simp] theorem modCore_bulkPoison (s : State) (c : CoreId) (f : Core → Core) : (modCore s c f).bulkPoison = s.bulkPoison := rfl
@[simp] theorem modCore_scrubbing (s : State) (c : CoreId) (f : Core → Core) : (modCore s c f).scrubbing = s.scrubbing := rfl
@[simp] theorem modCore_spill0 (s : State) (c : CoreId) (f : Core → Core) : (modCore s c f).spill0 = s.spill0 := rfl
@[simp] theorem modCore_spill1 (s : State) (c : CoreId) (f : Core → Core) : (modCore s c f).spill1 = s.spill1 := rfl
@[simp] theorem modCore_serviceWindow (s : State) (c : CoreId) (f : Core → Core) : (modCore s c f).serviceWindow = s.serviceWindow := rfl
@[simp] theorem modCore_served (s : State) (c : CoreId) (f : Core → Core) : (modCore s c f).served = s.served := rfl
@[simp] theorem modCore_fns (s : State) (c : CoreId) (f : Core → Core) : (modCore s c f).fns = s.fns := rfl
@[simp] theorem modCore_hostOut (s : State) (c : CoreId) (f : Core → Core) : (modCore s c f).hostOut = s.hostOut := rfl
@[simp] theorem modCore_ports (s : State) (c : CoreId) (f : Core → Core) : (modCore s c f).ports = s.ports := rfl
@[simp] theorem modCore_linkOut (s : State) (c : CoreId) (f : Core → Core) : (modCore s c f).linkOut = s.linkOut := rfl
@[simp] theorem modCore_routes (s : State) (c : CoreId) (f : Core → Core) : (modCore s c f).routes = s.routes := rfl
@[simp] theorem modCore_routesNext (s : State) (c : CoreId) (f : Core → Core) : (modCore s c f).routesNext = s.routesNext := rfl
@[simp] theorem modCore_shoreIn (s : State) (c : CoreId) (f : Core → Core) : (modCore s c f).shoreIn = s.shoreIn := rfl
@[simp] theorem modCore_shoreTc0 (s : State) (c : CoreId) (f : Core → Core) : (modCore s c f).shoreTc0 = s.shoreTc0 := rfl
@[simp] theorem modCore_shoreOut (s : State) (c : CoreId) (f : Core → Core) : (modCore s c f).shoreOut = s.shoreOut := rfl
@[simp] theorem modCore_deadSlots (s : State) (c : CoreId) (f : Core → Core) : (modCore s c f).deadSlots = s.deadSlots := rfl
@[simp] theorem modCore_counters (s : State) (c : CoreId) (f : Core → Core) : (modCore s c f).counters = s.counters := rfl
@[simp] theorem modCore_log (s : State) (c : CoreId) (f : Core → Core) : (modCore s c f).log = s.log := rfl
@[simp] theorem modCore_spares (s : State) (c : CoreId) (f : Core → Core) : (modCore s c f).spares = s.spares := rfl
@[simp] theorem modCore_removals (s : State) (c : CoreId) (f : Core → Core) : (modCore s c f).removals = s.removals := rfl
@[simp] theorem modCore_removalsNext (s : State) (c : CoreId) (f : Core → Core) : (modCore s c f).removalsNext = s.removalsNext := rfl
@[simp] theorem modCore_removedDies (s : State) (c : CoreId) (f : Core → Core) : (modCore s c f).removedDies = s.removedDies := rfl
@[simp] theorem modCore_history (s : State) (c : CoreId) (f : Core → Core) : (modCore s c f).history = s.history := rfl
@[simp] theorem modCore_coreNights (s : State) (c : CoreId) (f : Core → Core) : (modCore s c f).coreNights = s.coreNights := rfl
@[simp] theorem modCore_flash (s : State) (c : CoreId) (f : Core → Core) : (modCore s c f).flash = s.flash := rfl
@[simp] theorem modCore_mgmt (s : State) (c : CoreId) (f : Core → Core) : (modCore s c f).mgmt = s.mgmt := rfl
@[simp] theorem modCore_telemetry (s : State) (c : CoreId) (f : Core → Core) : (modCore s c f).telemetry = s.telemetry := rfl
@[simp] theorem modCore_busySample (s : State) (c : CoreId) (f : Core → Core) : (modCore s c f).busySample = s.busySample := rfl
@[simp] theorem modCore_poolSample (s : State) (c : CoreId) (f : Core → Core) : (modCore s c f).poolSample = s.poolSample := rfl
@[simp] theorem modCore_nextMid (s : State) (c : CoreId) (f : Core → Core) : (modCore s c f).nextMid = s.nextMid := rfl
@[simp] theorem modCore_nextEpoch (s : State) (c : CoreId) (f : Core → Core) : (modCore s c f).nextEpoch = s.nextEpoch := rfl
@[simp] theorem modCore_nextFree (s : State) (c : CoreId) (f : Core → Core) : (modCore s c f).nextFree = s.nextFree := rfl

@[simp] theorem modTh_pending (s : State) (h : Hart) (f : Thread → Thread) : (modTh s h f).pending = s.pending := rfl
@[simp] theorem modTh_dev (s : State) (h : Hart) (f : Thread → Thread) : (modTh s h f).dev = s.dev := rfl
@[simp] theorem modTh_daylightReq (s : State) (h : Hart) (f : Thread → Thread) : (modTh s h f).daylightReq = s.daylightReq := rfl
@[simp] theorem modTh_twilightAt (s : State) (h : Hart) (f : Thread → Thread) : (modTh s h f).twilightAt = s.twilightAt := rfl
@[simp] theorem modTh_clock (s : State) (h : Hart) (f : Thread → Thread) : (modTh s h f).clock = s.clock := rfl
@[simp] theorem modTh_boot (s : State) (h : Hart) (f : Thread → Thread) : (modTh s h f).boot = s.boot := rfl
@[simp] theorem modTh_pins (s : State) (h : Hart) (f : Thread → Thread) : (modTh s h f).pins = s.pins := rfl
@[simp] theorem modTh_deviceId (s : State) (h : Hart) (f : Thread → Thread) : (modTh s h f).deviceId = s.deviceId := rfl
@[simp] theorem modTh_assigned (s : State) (h : Hart) (f : Thread → Thread) : (modTh s h f).assigned = s.assigned := rfl
@[simp] theorem modTh_deviceIdNext (s : State) (h : Hart) (f : Thread → Thread) : (modTh s h f).deviceIdNext = s.deviceIdNext := rfl
@[simp] theorem modTh_assignedNext (s : State) (h : Hart) (f : Thread → Thread) : (modTh s h f).assignedNext = s.assignedNext := rfl
@[simp] theorem modTh_routers (s : State) (h : Hart) (f : Thread → Thread) : (modTh s h f).routers = s.routers := rfl
@[simp] theorem modTh_regions (s : State) (h : Hart) (f : Thread → Thread) : (modTh s h f).regions = s.regions := rfl
@[simp] theorem modTh_cells (s : State) (h : Hart) (f : Thread → Thread) : (modTh s h f).cells = s.cells := rfl
@[simp] theorem modTh_cellChanges (s : State) (h : Hart) (f : Thread → Thread) : (modTh s h f).cellChanges = s.cellChanges := rfl
@[simp] theorem modTh_cellReuse (s : State) (h : Hart) (f : Thread → Thread) : (modTh s h f).cellReuse = s.cellReuse := rfl
@[simp] theorem modTh_badReplicas (s : State) (h : Hart) (f : Thread → Thread) : (modTh s h f).badReplicas = s.badReplicas := rfl
@[simp] theorem modTh_banks (s : State) (h : Hart) (f : Thread → Thread) : (modTh s h f).banks = s.banks := rfl
@[simp] theorem modTh_flight (s : State) (h : Hart) (f : Thread → Thread) : (modTh s h f).flight = s.flight := rfl
@[simp] theorem modTh_dawnClear (s : State) (h : Hart) (f : Thread → Thread) : (modTh s h f).dawnClear = s.dawnClear := rfl
@[simp] theorem modTh_badFlagWords (s : State) (h : Hart) (f : Thread → Thread) : (modTh s h f).badFlagWords = s.badFlagWords := rfl
@[simp] theorem modTh_engines (s : State) (h : Hart) (f : Thread → Thread) : (modTh s h f).engines = s.engines := rfl
@[simp] theorem modTh_bulk (s : State) (h : Hart) (f : Thread → Thread) : (modTh s h f).bulk = s.bulk := rfl
@[simp] theorem modTh_bulkPoison (s : State) (h : Hart) (f : Thread → Thread) : (modTh s h f).bulkPoison = s.bulkPoison := rfl
@[simp] theorem modTh_scrubbing (s : State) (h : Hart) (f : Thread → Thread) : (modTh s h f).scrubbing = s.scrubbing := rfl
@[simp] theorem modTh_spill0 (s : State) (h : Hart) (f : Thread → Thread) : (modTh s h f).spill0 = s.spill0 := rfl
@[simp] theorem modTh_spill1 (s : State) (h : Hart) (f : Thread → Thread) : (modTh s h f).spill1 = s.spill1 := rfl
@[simp] theorem modTh_serviceWindow (s : State) (h : Hart) (f : Thread → Thread) : (modTh s h f).serviceWindow = s.serviceWindow := rfl
@[simp] theorem modTh_served (s : State) (h : Hart) (f : Thread → Thread) : (modTh s h f).served = s.served := rfl
@[simp] theorem modTh_fns (s : State) (h : Hart) (f : Thread → Thread) : (modTh s h f).fns = s.fns := rfl
@[simp] theorem modTh_hostOut (s : State) (h : Hart) (f : Thread → Thread) : (modTh s h f).hostOut = s.hostOut := rfl
@[simp] theorem modTh_ports (s : State) (h : Hart) (f : Thread → Thread) : (modTh s h f).ports = s.ports := rfl
@[simp] theorem modTh_linkOut (s : State) (h : Hart) (f : Thread → Thread) : (modTh s h f).linkOut = s.linkOut := rfl
@[simp] theorem modTh_routes (s : State) (h : Hart) (f : Thread → Thread) : (modTh s h f).routes = s.routes := rfl
@[simp] theorem modTh_routesNext (s : State) (h : Hart) (f : Thread → Thread) : (modTh s h f).routesNext = s.routesNext := rfl
@[simp] theorem modTh_shoreIn (s : State) (h : Hart) (f : Thread → Thread) : (modTh s h f).shoreIn = s.shoreIn := rfl
@[simp] theorem modTh_shoreTc0 (s : State) (h : Hart) (f : Thread → Thread) : (modTh s h f).shoreTc0 = s.shoreTc0 := rfl
@[simp] theorem modTh_shoreOut (s : State) (h : Hart) (f : Thread → Thread) : (modTh s h f).shoreOut = s.shoreOut := rfl
@[simp] theorem modTh_deadSlots (s : State) (h : Hart) (f : Thread → Thread) : (modTh s h f).deadSlots = s.deadSlots := rfl
@[simp] theorem modTh_counters (s : State) (h : Hart) (f : Thread → Thread) : (modTh s h f).counters = s.counters := rfl
@[simp] theorem modTh_log (s : State) (h : Hart) (f : Thread → Thread) : (modTh s h f).log = s.log := rfl
@[simp] theorem modTh_spares (s : State) (h : Hart) (f : Thread → Thread) : (modTh s h f).spares = s.spares := rfl
@[simp] theorem modTh_removals (s : State) (h : Hart) (f : Thread → Thread) : (modTh s h f).removals = s.removals := rfl
@[simp] theorem modTh_removalsNext (s : State) (h : Hart) (f : Thread → Thread) : (modTh s h f).removalsNext = s.removalsNext := rfl
@[simp] theorem modTh_removedDies (s : State) (h : Hart) (f : Thread → Thread) : (modTh s h f).removedDies = s.removedDies := rfl
@[simp] theorem modTh_history (s : State) (h : Hart) (f : Thread → Thread) : (modTh s h f).history = s.history := rfl
@[simp] theorem modTh_coreNights (s : State) (h : Hart) (f : Thread → Thread) : (modTh s h f).coreNights = s.coreNights := rfl
@[simp] theorem modTh_flash (s : State) (h : Hart) (f : Thread → Thread) : (modTh s h f).flash = s.flash := rfl
@[simp] theorem modTh_mgmt (s : State) (h : Hart) (f : Thread → Thread) : (modTh s h f).mgmt = s.mgmt := rfl
@[simp] theorem modTh_telemetry (s : State) (h : Hart) (f : Thread → Thread) : (modTh s h f).telemetry = s.telemetry := rfl
@[simp] theorem modTh_busySample (s : State) (h : Hart) (f : Thread → Thread) : (modTh s h f).busySample = s.busySample := rfl
@[simp] theorem modTh_poolSample (s : State) (h : Hart) (f : Thread → Thread) : (modTh s h f).poolSample = s.poolSample := rfl
@[simp] theorem modTh_nextMid (s : State) (h : Hart) (f : Thread → Thread) : (modTh s h f).nextMid = s.nextMid := rfl
@[simp] theorem modTh_nextEpoch (s : State) (h : Hart) (f : Thread → Thread) : (modTh s h f).nextEpoch = s.nextEpoch := rfl
@[simp] theorem modTh_nextFree (s : State) (h : Hart) (f : Thread → Thread) : (modTh s h f).nextFree = s.nextFree := rfl

@[simp] theorem setReg_pending (s : State) (r : RegionId) (x : Region) : (setReg s r x).pending = s.pending := rfl
@[simp] theorem setReg_dev (s : State) (r : RegionId) (x : Region) : (setReg s r x).dev = s.dev := rfl
@[simp] theorem setReg_daylightReq (s : State) (r : RegionId) (x : Region) : (setReg s r x).daylightReq = s.daylightReq := rfl
@[simp] theorem setReg_twilightAt (s : State) (r : RegionId) (x : Region) : (setReg s r x).twilightAt = s.twilightAt := rfl
@[simp] theorem setReg_clock (s : State) (r : RegionId) (x : Region) : (setReg s r x).clock = s.clock := rfl
@[simp] theorem setReg_boot (s : State) (r : RegionId) (x : Region) : (setReg s r x).boot = s.boot := rfl
@[simp] theorem setReg_pins (s : State) (r : RegionId) (x : Region) : (setReg s r x).pins = s.pins := rfl
@[simp] theorem setReg_deviceId (s : State) (r : RegionId) (x : Region) : (setReg s r x).deviceId = s.deviceId := rfl
@[simp] theorem setReg_assigned (s : State) (r : RegionId) (x : Region) : (setReg s r x).assigned = s.assigned := rfl
@[simp] theorem setReg_deviceIdNext (s : State) (r : RegionId) (x : Region) : (setReg s r x).deviceIdNext = s.deviceIdNext := rfl
@[simp] theorem setReg_assignedNext (s : State) (r : RegionId) (x : Region) : (setReg s r x).assignedNext = s.assignedNext := rfl
@[simp] theorem setReg_cores (s : State) (r : RegionId) (x : Region) : (setReg s r x).cores = s.cores := rfl
@[simp] theorem setReg_routers (s : State) (r : RegionId) (x : Region) : (setReg s r x).routers = s.routers := rfl
@[simp] theorem setReg_cells (s : State) (r : RegionId) (x : Region) : (setReg s r x).cells = s.cells := rfl
@[simp] theorem setReg_cellChanges (s : State) (r : RegionId) (x : Region) : (setReg s r x).cellChanges = s.cellChanges := rfl
@[simp] theorem setReg_cellReuse (s : State) (r : RegionId) (x : Region) : (setReg s r x).cellReuse = s.cellReuse := rfl
@[simp] theorem setReg_badReplicas (s : State) (r : RegionId) (x : Region) : (setReg s r x).badReplicas = s.badReplicas := rfl
@[simp] theorem setReg_banks (s : State) (r : RegionId) (x : Region) : (setReg s r x).banks = s.banks := rfl
@[simp] theorem setReg_flight (s : State) (r : RegionId) (x : Region) : (setReg s r x).flight = s.flight := rfl
@[simp] theorem setReg_dawnClear (s : State) (r : RegionId) (x : Region) : (setReg s r x).dawnClear = s.dawnClear := rfl
@[simp] theorem setReg_badFlagWords (s : State) (r : RegionId) (x : Region) : (setReg s r x).badFlagWords = s.badFlagWords := rfl
@[simp] theorem setReg_engines (s : State) (r : RegionId) (x : Region) : (setReg s r x).engines = s.engines := rfl
@[simp] theorem setReg_bulk (s : State) (r : RegionId) (x : Region) : (setReg s r x).bulk = s.bulk := rfl
@[simp] theorem setReg_bulkPoison (s : State) (r : RegionId) (x : Region) : (setReg s r x).bulkPoison = s.bulkPoison := rfl
@[simp] theorem setReg_scrubbing (s : State) (r : RegionId) (x : Region) : (setReg s r x).scrubbing = s.scrubbing := rfl
@[simp] theorem setReg_spill0 (s : State) (r : RegionId) (x : Region) : (setReg s r x).spill0 = s.spill0 := rfl
@[simp] theorem setReg_spill1 (s : State) (r : RegionId) (x : Region) : (setReg s r x).spill1 = s.spill1 := rfl
@[simp] theorem setReg_serviceWindow (s : State) (r : RegionId) (x : Region) : (setReg s r x).serviceWindow = s.serviceWindow := rfl
@[simp] theorem setReg_served (s : State) (r : RegionId) (x : Region) : (setReg s r x).served = s.served := rfl
@[simp] theorem setReg_fns (s : State) (r : RegionId) (x : Region) : (setReg s r x).fns = s.fns := rfl
@[simp] theorem setReg_hostOut (s : State) (r : RegionId) (x : Region) : (setReg s r x).hostOut = s.hostOut := rfl
@[simp] theorem setReg_ports (s : State) (r : RegionId) (x : Region) : (setReg s r x).ports = s.ports := rfl
@[simp] theorem setReg_linkOut (s : State) (r : RegionId) (x : Region) : (setReg s r x).linkOut = s.linkOut := rfl
@[simp] theorem setReg_routes (s : State) (r : RegionId) (x : Region) : (setReg s r x).routes = s.routes := rfl
@[simp] theorem setReg_routesNext (s : State) (r : RegionId) (x : Region) : (setReg s r x).routesNext = s.routesNext := rfl
@[simp] theorem setReg_shoreIn (s : State) (r : RegionId) (x : Region) : (setReg s r x).shoreIn = s.shoreIn := rfl
@[simp] theorem setReg_shoreTc0 (s : State) (r : RegionId) (x : Region) : (setReg s r x).shoreTc0 = s.shoreTc0 := rfl
@[simp] theorem setReg_shoreOut (s : State) (r : RegionId) (x : Region) : (setReg s r x).shoreOut = s.shoreOut := rfl
@[simp] theorem setReg_deadSlots (s : State) (r : RegionId) (x : Region) : (setReg s r x).deadSlots = s.deadSlots := rfl
@[simp] theorem setReg_counters (s : State) (r : RegionId) (x : Region) : (setReg s r x).counters = s.counters := rfl
@[simp] theorem setReg_log (s : State) (r : RegionId) (x : Region) : (setReg s r x).log = s.log := rfl
@[simp] theorem setReg_spares (s : State) (r : RegionId) (x : Region) : (setReg s r x).spares = s.spares := rfl
@[simp] theorem setReg_removals (s : State) (r : RegionId) (x : Region) : (setReg s r x).removals = s.removals := rfl
@[simp] theorem setReg_removalsNext (s : State) (r : RegionId) (x : Region) : (setReg s r x).removalsNext = s.removalsNext := rfl
@[simp] theorem setReg_removedDies (s : State) (r : RegionId) (x : Region) : (setReg s r x).removedDies = s.removedDies := rfl
@[simp] theorem setReg_history (s : State) (r : RegionId) (x : Region) : (setReg s r x).history = s.history := rfl
@[simp] theorem setReg_coreNights (s : State) (r : RegionId) (x : Region) : (setReg s r x).coreNights = s.coreNights := rfl
@[simp] theorem setReg_flash (s : State) (r : RegionId) (x : Region) : (setReg s r x).flash = s.flash := rfl
@[simp] theorem setReg_mgmt (s : State) (r : RegionId) (x : Region) : (setReg s r x).mgmt = s.mgmt := rfl
@[simp] theorem setReg_telemetry (s : State) (r : RegionId) (x : Region) : (setReg s r x).telemetry = s.telemetry := rfl
@[simp] theorem setReg_busySample (s : State) (r : RegionId) (x : Region) : (setReg s r x).busySample = s.busySample := rfl
@[simp] theorem setReg_poolSample (s : State) (r : RegionId) (x : Region) : (setReg s r x).poolSample = s.poolSample := rfl
@[simp] theorem setReg_nextMid (s : State) (r : RegionId) (x : Region) : (setReg s r x).nextMid = s.nextMid := rfl
@[simp] theorem setReg_nextEpoch (s : State) (r : RegionId) (x : Region) : (setReg s r x).nextEpoch = s.nextEpoch := rfl
@[simp] theorem setReg_nextFree (s : State) (r : RegionId) (x : Region) : (setReg s r x).nextFree = s.nextFree := rfl

@[simp] theorem modReg_pending (s : State) (r : RegionId) (f : Region → Region) : (modReg s r f).pending = s.pending := rfl
@[simp] theorem modReg_dev (s : State) (r : RegionId) (f : Region → Region) : (modReg s r f).dev = s.dev := rfl
@[simp] theorem modReg_daylightReq (s : State) (r : RegionId) (f : Region → Region) : (modReg s r f).daylightReq = s.daylightReq := rfl
@[simp] theorem modReg_twilightAt (s : State) (r : RegionId) (f : Region → Region) : (modReg s r f).twilightAt = s.twilightAt := rfl
@[simp] theorem modReg_clock (s : State) (r : RegionId) (f : Region → Region) : (modReg s r f).clock = s.clock := rfl
@[simp] theorem modReg_boot (s : State) (r : RegionId) (f : Region → Region) : (modReg s r f).boot = s.boot := rfl
@[simp] theorem modReg_pins (s : State) (r : RegionId) (f : Region → Region) : (modReg s r f).pins = s.pins := rfl
@[simp] theorem modReg_deviceId (s : State) (r : RegionId) (f : Region → Region) : (modReg s r f).deviceId = s.deviceId := rfl
@[simp] theorem modReg_assigned (s : State) (r : RegionId) (f : Region → Region) : (modReg s r f).assigned = s.assigned := rfl
@[simp] theorem modReg_deviceIdNext (s : State) (r : RegionId) (f : Region → Region) : (modReg s r f).deviceIdNext = s.deviceIdNext := rfl
@[simp] theorem modReg_assignedNext (s : State) (r : RegionId) (f : Region → Region) : (modReg s r f).assignedNext = s.assignedNext := rfl
@[simp] theorem modReg_cores (s : State) (r : RegionId) (f : Region → Region) : (modReg s r f).cores = s.cores := rfl
@[simp] theorem modReg_routers (s : State) (r : RegionId) (f : Region → Region) : (modReg s r f).routers = s.routers := rfl
@[simp] theorem modReg_cells (s : State) (r : RegionId) (f : Region → Region) : (modReg s r f).cells = s.cells := rfl
@[simp] theorem modReg_cellChanges (s : State) (r : RegionId) (f : Region → Region) : (modReg s r f).cellChanges = s.cellChanges := rfl
@[simp] theorem modReg_cellReuse (s : State) (r : RegionId) (f : Region → Region) : (modReg s r f).cellReuse = s.cellReuse := rfl
@[simp] theorem modReg_badReplicas (s : State) (r : RegionId) (f : Region → Region) : (modReg s r f).badReplicas = s.badReplicas := rfl
@[simp] theorem modReg_banks (s : State) (r : RegionId) (f : Region → Region) : (modReg s r f).banks = s.banks := rfl
@[simp] theorem modReg_flight (s : State) (r : RegionId) (f : Region → Region) : (modReg s r f).flight = s.flight := rfl
@[simp] theorem modReg_dawnClear (s : State) (r : RegionId) (f : Region → Region) : (modReg s r f).dawnClear = s.dawnClear := rfl
@[simp] theorem modReg_badFlagWords (s : State) (r : RegionId) (f : Region → Region) : (modReg s r f).badFlagWords = s.badFlagWords := rfl
@[simp] theorem modReg_engines (s : State) (r : RegionId) (f : Region → Region) : (modReg s r f).engines = s.engines := rfl
@[simp] theorem modReg_bulk (s : State) (r : RegionId) (f : Region → Region) : (modReg s r f).bulk = s.bulk := rfl
@[simp] theorem modReg_bulkPoison (s : State) (r : RegionId) (f : Region → Region) : (modReg s r f).bulkPoison = s.bulkPoison := rfl
@[simp] theorem modReg_scrubbing (s : State) (r : RegionId) (f : Region → Region) : (modReg s r f).scrubbing = s.scrubbing := rfl
@[simp] theorem modReg_spill0 (s : State) (r : RegionId) (f : Region → Region) : (modReg s r f).spill0 = s.spill0 := rfl
@[simp] theorem modReg_spill1 (s : State) (r : RegionId) (f : Region → Region) : (modReg s r f).spill1 = s.spill1 := rfl
@[simp] theorem modReg_serviceWindow (s : State) (r : RegionId) (f : Region → Region) : (modReg s r f).serviceWindow = s.serviceWindow := rfl
@[simp] theorem modReg_served (s : State) (r : RegionId) (f : Region → Region) : (modReg s r f).served = s.served := rfl
@[simp] theorem modReg_fns (s : State) (r : RegionId) (f : Region → Region) : (modReg s r f).fns = s.fns := rfl
@[simp] theorem modReg_hostOut (s : State) (r : RegionId) (f : Region → Region) : (modReg s r f).hostOut = s.hostOut := rfl
@[simp] theorem modReg_ports (s : State) (r : RegionId) (f : Region → Region) : (modReg s r f).ports = s.ports := rfl
@[simp] theorem modReg_linkOut (s : State) (r : RegionId) (f : Region → Region) : (modReg s r f).linkOut = s.linkOut := rfl
@[simp] theorem modReg_routes (s : State) (r : RegionId) (f : Region → Region) : (modReg s r f).routes = s.routes := rfl
@[simp] theorem modReg_routesNext (s : State) (r : RegionId) (f : Region → Region) : (modReg s r f).routesNext = s.routesNext := rfl
@[simp] theorem modReg_shoreIn (s : State) (r : RegionId) (f : Region → Region) : (modReg s r f).shoreIn = s.shoreIn := rfl
@[simp] theorem modReg_shoreTc0 (s : State) (r : RegionId) (f : Region → Region) : (modReg s r f).shoreTc0 = s.shoreTc0 := rfl
@[simp] theorem modReg_shoreOut (s : State) (r : RegionId) (f : Region → Region) : (modReg s r f).shoreOut = s.shoreOut := rfl
@[simp] theorem modReg_deadSlots (s : State) (r : RegionId) (f : Region → Region) : (modReg s r f).deadSlots = s.deadSlots := rfl
@[simp] theorem modReg_counters (s : State) (r : RegionId) (f : Region → Region) : (modReg s r f).counters = s.counters := rfl
@[simp] theorem modReg_log (s : State) (r : RegionId) (f : Region → Region) : (modReg s r f).log = s.log := rfl
@[simp] theorem modReg_spares (s : State) (r : RegionId) (f : Region → Region) : (modReg s r f).spares = s.spares := rfl
@[simp] theorem modReg_removals (s : State) (r : RegionId) (f : Region → Region) : (modReg s r f).removals = s.removals := rfl
@[simp] theorem modReg_removalsNext (s : State) (r : RegionId) (f : Region → Region) : (modReg s r f).removalsNext = s.removalsNext := rfl
@[simp] theorem modReg_removedDies (s : State) (r : RegionId) (f : Region → Region) : (modReg s r f).removedDies = s.removedDies := rfl
@[simp] theorem modReg_history (s : State) (r : RegionId) (f : Region → Region) : (modReg s r f).history = s.history := rfl
@[simp] theorem modReg_coreNights (s : State) (r : RegionId) (f : Region → Region) : (modReg s r f).coreNights = s.coreNights := rfl
@[simp] theorem modReg_flash (s : State) (r : RegionId) (f : Region → Region) : (modReg s r f).flash = s.flash := rfl
@[simp] theorem modReg_mgmt (s : State) (r : RegionId) (f : Region → Region) : (modReg s r f).mgmt = s.mgmt := rfl
@[simp] theorem modReg_telemetry (s : State) (r : RegionId) (f : Region → Region) : (modReg s r f).telemetry = s.telemetry := rfl
@[simp] theorem modReg_busySample (s : State) (r : RegionId) (f : Region → Region) : (modReg s r f).busySample = s.busySample := rfl
@[simp] theorem modReg_poolSample (s : State) (r : RegionId) (f : Region → Region) : (modReg s r f).poolSample = s.poolSample := rfl
@[simp] theorem modReg_nextMid (s : State) (r : RegionId) (f : Region → Region) : (modReg s r f).nextMid = s.nextMid := rfl
@[simp] theorem modReg_nextEpoch (s : State) (r : RegionId) (f : Region → Region) : (modReg s r f).nextEpoch = s.nextEpoch := rfl
@[simp] theorem modReg_nextFree (s : State) (r : RegionId) (f : Region → Region) : (modReg s r f).nextFree = s.nextFree := rfl

@[simp] theorem count_pending (s : State) (a n : Nat) : (count s a n).pending = s.pending := rfl
@[simp] theorem count_dev (s : State) (a n : Nat) : (count s a n).dev = s.dev := rfl
@[simp] theorem count_daylightReq (s : State) (a n : Nat) : (count s a n).daylightReq = s.daylightReq := rfl
@[simp] theorem count_twilightAt (s : State) (a n : Nat) : (count s a n).twilightAt = s.twilightAt := rfl
@[simp] theorem count_clock (s : State) (a n : Nat) : (count s a n).clock = s.clock := rfl
@[simp] theorem count_boot (s : State) (a n : Nat) : (count s a n).boot = s.boot := rfl
@[simp] theorem count_pins (s : State) (a n : Nat) : (count s a n).pins = s.pins := rfl
@[simp] theorem count_deviceId (s : State) (a n : Nat) : (count s a n).deviceId = s.deviceId := rfl
@[simp] theorem count_assigned (s : State) (a n : Nat) : (count s a n).assigned = s.assigned := rfl
@[simp] theorem count_deviceIdNext (s : State) (a n : Nat) : (count s a n).deviceIdNext = s.deviceIdNext := rfl
@[simp] theorem count_assignedNext (s : State) (a n : Nat) : (count s a n).assignedNext = s.assignedNext := rfl
@[simp] theorem count_cores (s : State) (a n : Nat) : (count s a n).cores = s.cores := rfl
@[simp] theorem count_routers (s : State) (a n : Nat) : (count s a n).routers = s.routers := rfl
@[simp] theorem count_regions (s : State) (a n : Nat) : (count s a n).regions = s.regions := rfl
@[simp] theorem count_cells (s : State) (a n : Nat) : (count s a n).cells = s.cells := rfl
@[simp] theorem count_cellChanges (s : State) (a n : Nat) : (count s a n).cellChanges = s.cellChanges := rfl
@[simp] theorem count_cellReuse (s : State) (a n : Nat) : (count s a n).cellReuse = s.cellReuse := rfl
@[simp] theorem count_badReplicas (s : State) (a n : Nat) : (count s a n).badReplicas = s.badReplicas := rfl
@[simp] theorem count_banks (s : State) (a n : Nat) : (count s a n).banks = s.banks := rfl
@[simp] theorem count_flight (s : State) (a n : Nat) : (count s a n).flight = s.flight := rfl
@[simp] theorem count_dawnClear (s : State) (a n : Nat) : (count s a n).dawnClear = s.dawnClear := rfl
@[simp] theorem count_badFlagWords (s : State) (a n : Nat) : (count s a n).badFlagWords = s.badFlagWords := rfl
@[simp] theorem count_engines (s : State) (a n : Nat) : (count s a n).engines = s.engines := rfl
@[simp] theorem count_bulk (s : State) (a n : Nat) : (count s a n).bulk = s.bulk := rfl
@[simp] theorem count_bulkPoison (s : State) (a n : Nat) : (count s a n).bulkPoison = s.bulkPoison := rfl
@[simp] theorem count_scrubbing (s : State) (a n : Nat) : (count s a n).scrubbing = s.scrubbing := rfl
@[simp] theorem count_spill0 (s : State) (a n : Nat) : (count s a n).spill0 = s.spill0 := rfl
@[simp] theorem count_spill1 (s : State) (a n : Nat) : (count s a n).spill1 = s.spill1 := rfl
@[simp] theorem count_serviceWindow (s : State) (a n : Nat) : (count s a n).serviceWindow = s.serviceWindow := rfl
@[simp] theorem count_served (s : State) (a n : Nat) : (count s a n).served = s.served := rfl
@[simp] theorem count_fns (s : State) (a n : Nat) : (count s a n).fns = s.fns := rfl
@[simp] theorem count_hostOut (s : State) (a n : Nat) : (count s a n).hostOut = s.hostOut := rfl
@[simp] theorem count_ports (s : State) (a n : Nat) : (count s a n).ports = s.ports := rfl
@[simp] theorem count_linkOut (s : State) (a n : Nat) : (count s a n).linkOut = s.linkOut := rfl
@[simp] theorem count_routes (s : State) (a n : Nat) : (count s a n).routes = s.routes := rfl
@[simp] theorem count_routesNext (s : State) (a n : Nat) : (count s a n).routesNext = s.routesNext := rfl
@[simp] theorem count_shoreIn (s : State) (a n : Nat) : (count s a n).shoreIn = s.shoreIn := rfl
@[simp] theorem count_shoreTc0 (s : State) (a n : Nat) : (count s a n).shoreTc0 = s.shoreTc0 := rfl
@[simp] theorem count_shoreOut (s : State) (a n : Nat) : (count s a n).shoreOut = s.shoreOut := rfl
@[simp] theorem count_deadSlots (s : State) (a n : Nat) : (count s a n).deadSlots = s.deadSlots := rfl
@[simp] theorem count_log (s : State) (a n : Nat) : (count s a n).log = s.log := rfl
@[simp] theorem count_spares (s : State) (a n : Nat) : (count s a n).spares = s.spares := rfl
@[simp] theorem count_removals (s : State) (a n : Nat) : (count s a n).removals = s.removals := rfl
@[simp] theorem count_removalsNext (s : State) (a n : Nat) : (count s a n).removalsNext = s.removalsNext := rfl
@[simp] theorem count_removedDies (s : State) (a n : Nat) : (count s a n).removedDies = s.removedDies := rfl
@[simp] theorem count_history (s : State) (a n : Nat) : (count s a n).history = s.history := rfl
@[simp] theorem count_coreNights (s : State) (a n : Nat) : (count s a n).coreNights = s.coreNights := rfl
@[simp] theorem count_flash (s : State) (a n : Nat) : (count s a n).flash = s.flash := rfl
@[simp] theorem count_mgmt (s : State) (a n : Nat) : (count s a n).mgmt = s.mgmt := rfl
@[simp] theorem count_telemetry (s : State) (a n : Nat) : (count s a n).telemetry = s.telemetry := rfl
@[simp] theorem count_busySample (s : State) (a n : Nat) : (count s a n).busySample = s.busySample := rfl
@[simp] theorem count_poolSample (s : State) (a n : Nat) : (count s a n).poolSample = s.poolSample := rfl
@[simp] theorem count_nextMid (s : State) (a n : Nat) : (count s a n).nextMid = s.nextMid := rfl
@[simp] theorem count_nextEpoch (s : State) (a n : Nat) : (count s a n).nextEpoch = s.nextEpoch := rfl
@[simp] theorem count_nextFree (s : State) (a n : Nat) : (count s a n).nextFree = s.nextFree := rfl

/-- A store that begins changes the flash's state alone. -/
theorem storeLog_eq (s : State) : ∃ f, storeLog s = { s with flash := f } := by
  unfold storeLog wantStore
  split
  · split
    · exact ⟨_, rfl⟩
    · exact ⟨_, rfl⟩
  · exact ⟨_, rfl⟩

/-- Only the log changes when a record is made, and the stores under way where the log is to be stored (R430). -/
theorem logItem_eq (i : LogItem) (s : State) : ∃ l f, logItem i s = { s with log := l, flash := f } := by
  unfold logItem
  dsimp only
  split
  · exact ⟨_, _, rfl⟩
  · by_cases hk : decide (0x39 ≤ i.cause.toNat ∧ i.cause.toNat ≤ 0x3B) = true
    · rw [if_pos hk]
      obtain ⟨f, h⟩ := storeLog_eq _
      exact ⟨_, f, h⟩
    · rw [if_neg hk]
      exact ⟨_, _, rfl⟩

/-- A record that the persistent log does not keep begins no store. -/
theorem logItem_flash (i : LogItem) (s : State) (h : ¬(0x39 ≤ i.cause.toNat ∧ i.cause.toNat ≤ 0x3B)) :
    (logItem i s).flash = s.flash := by
  unfold logItem
  dsimp only
  split
  · rfl
  · simp [h]

@[simp] theorem logItem_pending (i : LogItem) (s : State) : (logItem i s).pending = s.pending := by
  obtain ⟨l, g, h⟩ := logItem_eq i s
  rw [h]
@[simp] theorem logItem_dev (i : LogItem) (s : State) : (logItem i s).dev = s.dev := by
  obtain ⟨l, g, h⟩ := logItem_eq i s
  rw [h]
@[simp] theorem logItem_daylightReq (i : LogItem) (s : State) : (logItem i s).daylightReq = s.daylightReq := by
  obtain ⟨l, g, h⟩ := logItem_eq i s
  rw [h]
@[simp] theorem logItem_twilightAt (i : LogItem) (s : State) : (logItem i s).twilightAt = s.twilightAt := by
  obtain ⟨l, g, h⟩ := logItem_eq i s
  rw [h]
@[simp] theorem logItem_clock (i : LogItem) (s : State) : (logItem i s).clock = s.clock := by
  obtain ⟨l, g, h⟩ := logItem_eq i s
  rw [h]
@[simp] theorem logItem_boot (i : LogItem) (s : State) : (logItem i s).boot = s.boot := by
  obtain ⟨l, g, h⟩ := logItem_eq i s
  rw [h]
@[simp] theorem logItem_pins (i : LogItem) (s : State) : (logItem i s).pins = s.pins := by
  obtain ⟨l, g, h⟩ := logItem_eq i s
  rw [h]
@[simp] theorem logItem_deviceId (i : LogItem) (s : State) : (logItem i s).deviceId = s.deviceId := by
  obtain ⟨l, g, h⟩ := logItem_eq i s
  rw [h]
@[simp] theorem logItem_assigned (i : LogItem) (s : State) : (logItem i s).assigned = s.assigned := by
  obtain ⟨l, g, h⟩ := logItem_eq i s
  rw [h]
@[simp] theorem logItem_deviceIdNext (i : LogItem) (s : State) : (logItem i s).deviceIdNext = s.deviceIdNext := by
  obtain ⟨l, g, h⟩ := logItem_eq i s
  rw [h]
@[simp] theorem logItem_assignedNext (i : LogItem) (s : State) : (logItem i s).assignedNext = s.assignedNext := by
  obtain ⟨l, g, h⟩ := logItem_eq i s
  rw [h]
@[simp] theorem logItem_cores (i : LogItem) (s : State) : (logItem i s).cores = s.cores := by
  obtain ⟨l, g, h⟩ := logItem_eq i s
  rw [h]
@[simp] theorem logItem_routers (i : LogItem) (s : State) : (logItem i s).routers = s.routers := by
  obtain ⟨l, g, h⟩ := logItem_eq i s
  rw [h]
@[simp] theorem logItem_regions (i : LogItem) (s : State) : (logItem i s).regions = s.regions := by
  obtain ⟨l, g, h⟩ := logItem_eq i s
  rw [h]
@[simp] theorem logItem_cells (i : LogItem) (s : State) : (logItem i s).cells = s.cells := by
  obtain ⟨l, g, h⟩ := logItem_eq i s
  rw [h]
@[simp] theorem logItem_cellChanges (i : LogItem) (s : State) : (logItem i s).cellChanges = s.cellChanges := by
  obtain ⟨l, g, h⟩ := logItem_eq i s
  rw [h]
@[simp] theorem logItem_cellReuse (i : LogItem) (s : State) : (logItem i s).cellReuse = s.cellReuse := by
  obtain ⟨l, g, h⟩ := logItem_eq i s
  rw [h]
@[simp] theorem logItem_badReplicas (i : LogItem) (s : State) : (logItem i s).badReplicas = s.badReplicas := by
  obtain ⟨l, g, h⟩ := logItem_eq i s
  rw [h]
@[simp] theorem logItem_banks (i : LogItem) (s : State) : (logItem i s).banks = s.banks := by
  obtain ⟨l, g, h⟩ := logItem_eq i s
  rw [h]
@[simp] theorem logItem_flight (i : LogItem) (s : State) : (logItem i s).flight = s.flight := by
  obtain ⟨l, g, h⟩ := logItem_eq i s
  rw [h]
@[simp] theorem logItem_dawnClear (i : LogItem) (s : State) : (logItem i s).dawnClear = s.dawnClear := by
  obtain ⟨l, g, h⟩ := logItem_eq i s
  rw [h]
@[simp] theorem logItem_badFlagWords (i : LogItem) (s : State) : (logItem i s).badFlagWords = s.badFlagWords := by
  obtain ⟨l, g, h⟩ := logItem_eq i s
  rw [h]
@[simp] theorem logItem_engines (i : LogItem) (s : State) : (logItem i s).engines = s.engines := by
  obtain ⟨l, g, h⟩ := logItem_eq i s
  rw [h]
@[simp] theorem logItem_bulk (i : LogItem) (s : State) : (logItem i s).bulk = s.bulk := by
  obtain ⟨l, g, h⟩ := logItem_eq i s
  rw [h]
@[simp] theorem logItem_bulkPoison (i : LogItem) (s : State) : (logItem i s).bulkPoison = s.bulkPoison := by
  obtain ⟨l, g, h⟩ := logItem_eq i s
  rw [h]
@[simp] theorem logItem_scrubbing (i : LogItem) (s : State) : (logItem i s).scrubbing = s.scrubbing := by
  obtain ⟨l, g, h⟩ := logItem_eq i s
  rw [h]
@[simp] theorem logItem_spill0 (i : LogItem) (s : State) : (logItem i s).spill0 = s.spill0 := by
  obtain ⟨l, g, h⟩ := logItem_eq i s
  rw [h]
@[simp] theorem logItem_spill1 (i : LogItem) (s : State) : (logItem i s).spill1 = s.spill1 := by
  obtain ⟨l, g, h⟩ := logItem_eq i s
  rw [h]
@[simp] theorem logItem_serviceWindow (i : LogItem) (s : State) : (logItem i s).serviceWindow = s.serviceWindow := by
  obtain ⟨l, g, h⟩ := logItem_eq i s
  rw [h]
@[simp] theorem logItem_served (i : LogItem) (s : State) : (logItem i s).served = s.served := by
  obtain ⟨l, g, h⟩ := logItem_eq i s
  rw [h]
@[simp] theorem logItem_fns (i : LogItem) (s : State) : (logItem i s).fns = s.fns := by
  obtain ⟨l, g, h⟩ := logItem_eq i s
  rw [h]
@[simp] theorem logItem_hostOut (i : LogItem) (s : State) : (logItem i s).hostOut = s.hostOut := by
  obtain ⟨l, g, h⟩ := logItem_eq i s
  rw [h]
@[simp] theorem logItem_ports (i : LogItem) (s : State) : (logItem i s).ports = s.ports := by
  obtain ⟨l, g, h⟩ := logItem_eq i s
  rw [h]
@[simp] theorem logItem_linkOut (i : LogItem) (s : State) : (logItem i s).linkOut = s.linkOut := by
  obtain ⟨l, g, h⟩ := logItem_eq i s
  rw [h]
@[simp] theorem logItem_routes (i : LogItem) (s : State) : (logItem i s).routes = s.routes := by
  obtain ⟨l, g, h⟩ := logItem_eq i s
  rw [h]
@[simp] theorem logItem_routesNext (i : LogItem) (s : State) : (logItem i s).routesNext = s.routesNext := by
  obtain ⟨l, g, h⟩ := logItem_eq i s
  rw [h]
@[simp] theorem logItem_shoreIn (i : LogItem) (s : State) : (logItem i s).shoreIn = s.shoreIn := by
  obtain ⟨l, g, h⟩ := logItem_eq i s
  rw [h]
@[simp] theorem logItem_shoreTc0 (i : LogItem) (s : State) : (logItem i s).shoreTc0 = s.shoreTc0 := by
  obtain ⟨l, g, h⟩ := logItem_eq i s
  rw [h]
@[simp] theorem logItem_shoreOut (i : LogItem) (s : State) : (logItem i s).shoreOut = s.shoreOut := by
  obtain ⟨l, g, h⟩ := logItem_eq i s
  rw [h]
@[simp] theorem logItem_deadSlots (i : LogItem) (s : State) : (logItem i s).deadSlots = s.deadSlots := by
  obtain ⟨l, g, h⟩ := logItem_eq i s
  rw [h]
@[simp] theorem logItem_counters (i : LogItem) (s : State) : (logItem i s).counters = s.counters := by
  obtain ⟨l, g, h⟩ := logItem_eq i s
  rw [h]
@[simp] theorem logItem_spares (i : LogItem) (s : State) : (logItem i s).spares = s.spares := by
  obtain ⟨l, g, h⟩ := logItem_eq i s
  rw [h]
@[simp] theorem logItem_removals (i : LogItem) (s : State) : (logItem i s).removals = s.removals := by
  obtain ⟨l, g, h⟩ := logItem_eq i s
  rw [h]
@[simp] theorem logItem_removalsNext (i : LogItem) (s : State) : (logItem i s).removalsNext = s.removalsNext := by
  obtain ⟨l, g, h⟩ := logItem_eq i s
  rw [h]
@[simp] theorem logItem_removedDies (i : LogItem) (s : State) : (logItem i s).removedDies = s.removedDies := by
  obtain ⟨l, g, h⟩ := logItem_eq i s
  rw [h]
@[simp] theorem logItem_history (i : LogItem) (s : State) : (logItem i s).history = s.history := by
  obtain ⟨l, g, h⟩ := logItem_eq i s
  rw [h]
@[simp] theorem logItem_coreNights (i : LogItem) (s : State) : (logItem i s).coreNights = s.coreNights := by
  obtain ⟨l, g, h⟩ := logItem_eq i s
  rw [h]
@[simp] theorem logItem_mgmt (i : LogItem) (s : State) : (logItem i s).mgmt = s.mgmt := by
  obtain ⟨l, g, h⟩ := logItem_eq i s
  rw [h]
@[simp] theorem logItem_telemetry (i : LogItem) (s : State) : (logItem i s).telemetry = s.telemetry := by
  obtain ⟨l, g, h⟩ := logItem_eq i s
  rw [h]
@[simp] theorem logItem_busySample (i : LogItem) (s : State) : (logItem i s).busySample = s.busySample := by
  obtain ⟨l, g, h⟩ := logItem_eq i s
  rw [h]
@[simp] theorem logItem_poolSample (i : LogItem) (s : State) : (logItem i s).poolSample = s.poolSample := by
  obtain ⟨l, g, h⟩ := logItem_eq i s
  rw [h]
@[simp] theorem logItem_nextMid (i : LogItem) (s : State) : (logItem i s).nextMid = s.nextMid := by
  obtain ⟨l, g, h⟩ := logItem_eq i s
  rw [h]
@[simp] theorem logItem_nextEpoch (i : LogItem) (s : State) : (logItem i s).nextEpoch = s.nextEpoch := by
  obtain ⟨l, g, h⟩ := logItem_eq i s
  rw [h]
@[simp] theorem logItem_nextFree (i : LogItem) (s : State) : (logItem i s).nextFree = s.nextFree := by
  obtain ⟨l, g, h⟩ := logItem_eq i s
  rw [h]

/-! ### Fields of a core that a thread's update leaves alone -/

@[simp] theorem setTh_boot (c : Core) (i : Fin 4) (t : Thread) : (setTh c i t).boot = c.boot := rfl
@[simp] theorem setTh_released (c : Core) (i : Fin 4) (t : Thread) : (setTh c i t).released = c.released := rfl
@[simp] theorem setTh_night (c : Core) (i : Fin 4) (t : Thread) : (setTh c i t).night = c.night := rfl
@[simp] theorem setTh_rot (c : Core) (i : Fin 4) (t : Thread) : (setTh c i t).rot = c.rot := rfl
@[simp] theorem setTh_passed (c : Core) (i : Fin 4) (t : Thread) : (setTh c i t).passed = c.passed := rfl
@[simp] theorem setTh_rowsAt (c : Core) (i : Fin 4) (t : Thread) : (setTh c i t).rowsAt = c.rowsAt := rfl
@[simp] theorem setTh_mem (c : Core) (i : Fin 4) (t : Thread) : (setTh c i t).mem = c.mem := rfl
@[simp] theorem setTh_poison (c : Core) (i : Fin 4) (t : Thread) : (setTh c i t).poison = c.poison := rfl
@[simp] theorem setTh_specMark (c : Core) (i : Fin 4) (t : Thread) : (setTh c i t).specMark = c.specMark := rfl
@[simp] theorem setTh_code (c : Core) (i : Fin 4) (t : Thread) : (setTh c i t).code = c.code := rfl
@[simp] theorem setTh_codePoison (c : Core) (i : Fin 4) (t : Thread) : (setTh c i t).codePoison = c.codePoison := rfl
@[simp] theorem setTh_stores (c : Core) (i : Fin 4) (t : Thread) : (setTh c i t).stores = c.stores := rfl
@[simp] theorem setTh_trapBase (c : Core) (i : Fin 4) (t : Thread) : (setTh c i t).trapBase = c.trapBase := rfl
@[simp] theorem setTh_notices (c : Core) (i : Fin 4) (t : Thread) : (setTh c i t).notices = c.notices := rfl
@[simp] theorem setTh_inj (c : Core) (i : Fin 4) (t : Thread) : (setTh c i t).inj = c.inj := rfl
@[simp] theorem setTh_moverQ (c : Core) (i : Fin 4) (t : Thread) : (setTh c i t).moverQ = c.moverQ := rfl
@[simp] theorem setTh_outstanding (c : Core) (i : Fin 4) (t : Thread) : (setTh c i t).outstanding = c.outstanding := rfl
@[simp] theorem setTh_moving (c : Core) (i : Fin 4) (t : Thread) : (setTh c i t).moving = c.moving := rfl
@[simp] theorem setTh_inbox (c : Core) (i : Fin 4) (t : Thread) : (setTh c i t).inbox = c.inbox := rfl
@[simp] theorem setTh_landing (c : Core) (i : Fin 4) (t : Thread) : (setTh c i t).landing = c.landing := rfl
@[simp] theorem setTh_holdCtr (c : Core) (i : Fin 4) (t : Thread) : (setTh c i t).holdCtr = c.holdCtr := rfl
@[simp] theorem setTh_portHold (c : Core) (i : Fin 4) (t : Thread) : (setTh c i t).portHold = c.portHold := rfl
@[simp] theorem setTh_group (c : Core) (i : Fin 4) (t : Thread) : (setTh c i t).group = c.group := rfl
@[simp] theorem setTh_resolving (c : Core) (i : Fin 4) (t : Thread) : (setTh c i t).resolving = c.resolving := rfl
@[simp] theorem setTh_dayDone (c : Core) (i : Fin 4) (t : Thread) : (setTh c i t).dayDone = c.dayDone := rfl
@[simp] theorem setTh_overrun (c : Core) (i : Fin 4) (t : Thread) : (setTh c i t).overrun = c.overrun := rfl
@[simp] theorem setTh_budget (c : Core) (i : Fin 4) (t : Thread) : (setTh c i t).budget = c.budget := rfl
@[simp] theorem setTh_budgetNext (c : Core) (i : Fin 4) (t : Thread) : (setTh c i t).budgetNext = c.budgetNext := rfl
@[simp] theorem setTh_mmaRun (c : Core) (i : Fin 4) (t : Thread) : (setTh c i t).mmaRun = c.mmaRun := rfl
@[simp] theorem setTh_mmaWait (c : Core) (i : Fin 4) (t : Thread) : (setTh c i t).mmaWait = c.mmaWait := rfl
@[simp] theorem setTh_selfTest (c : Core) (i : Fin 4) (t : Thread) : (setTh c i t).selfTest = c.selfTest := rfl
@[simp] theorem setTh_isolated (c : Core) (i : Fin 4) (t : Thread) : (setTh c i t).isolated = c.isolated := rfl
@[simp] theorem setTh_strayLogged (c : Core) (i : Fin 4) (t : Thread) : (setTh c i t).strayLogged = c.strayLogged := rfl

end Sys2Proof.Machine
end

