-- ==== Sys2Proof/Laws/Issue.lean ====
section
/-!
SUPPORT. What the issue of an instruction can do (R98, R124, R135, R225): one lemma for each way it ends, and the
completion of an instruction that runs unspeculatively.
-/
namespace Sys2Proof.Machine
open Sys2Proof Sys2Proof.Safety

theorem rotate_thread (h k : Hart) (s : State) : thread (rotate h s) k = thread s k := by
  unfold rotate thread
  by_cases hc : h.core = k.core
  · rw [hc, coreOf_modCore_same]
    rfl
  · rw [coreOf_modCore_other _ _ _ _ hc]

theorem rotate_core (h : Hart) (s : State) :
    coreOf (rotate h s) h.core = { dropRows h.thread (coreOf s h.core) with
      rot := (coreOf (rotate h s) h.core).rot, passed := [] } := by
  unfold rotate
  rw [coreOf_modCore_same]

/-- A core that holds no speculative word and is to hold none: no mark, and no store that leaves one. -/
def CoreQuiet (c : Core) : Prop := c.specMark = [] ∧ ∀ e ∈ c.stores, e.spec = false

theorem specView_quiet (c : Core) (own : Option (Fin 4)) (w : Nat) (hq : CoreQuiet c) : specView c own w = false := by
  have key : ∀ (l : List StoreEntry) (b : Bool), b = false → (∀ e ∈ l, e.spec = false) → l.foldl (fun b e =>
      if own = some e.thread ∧ e.addr < 8 * w + 8 ∧ 8 * w < e.addr + e.bytes.length then e.spec else b) b = false := by
    intro l
    induction l with
    | nil => intro b hb _; exact hb
    | cons e l ih =>
      intro b hb hl
      exact ih _ (by dsimp only; split <;> simp_all) fun x hx => hl x (List.mem_cons_of_mem _ hx)
  exact key c.stores _ (by simp [hq.1]) hq.2

/-- An ordinary write leaves a quiet core quiet. -/
theorem memPut_quiet (c : Core) (a : Nat) (bs : List Byte) (bad : Bool) (hq : CoreQuiet c) :
    CoreQuiet (memPut c a bs bad false) := by
  have key : ∀ (l : List Nat) (c : Core), CoreQuiet c → CoreQuiet (l.foldl (markWord a bs.length bad false) c) := by
    intro l
    induction l with
    | nil => intro c h; exact h
    | cons w l ih => intro c h; exact ih _ ⟨by simp [markWord, h.1, sdel], h.2⟩
  exact key _ _ hq

theorem retireOne_quiet (c : Core) (hq : CoreQuiet c) : CoreQuiet (retireOne c) := by
  unfold retireOne
  split
  · exact hq
  · rename_i e t he
    have hs := hq.2
    rw [he] at hs
    rw [hs e (List.mem_cons_self ..)]
    exact memPut_quiet _ _ _ _ ⟨hq.1, fun x hx => hs x (List.mem_cons_of_mem _ hx)⟩

theorem retireN_quiet (n : Nat) : ∀ (c : Core), CoreQuiet c → CoreQuiet (retireN n c) := by
  induction n with
  | zero => intro c h; exact h
  | succ n ih => intro c h; exact ih _ (retireOne_quiet c h)

/-- Nothing speculative is read on a quiet core. -/
theorem isSpec_quiet (h : Hart) (s : State) (p : Fin 8) (r : Reads) (hq : Quiet h s) (hr : r.spec = false) :
    isSpec (coreOf s h.core) h.thread (thread s h) p r = false := by
  obtain ⟨hp, hv, ha, hrow, hw, -, hst⟩ := hq
  have hc : CoreQuiet (coreOf s h.core) := ⟨hw, hst⟩
  have hsv : ∀ w, specView (coreOf s h.core) (some h.thread) w = false := fun w => specView_quiet _ _ w hc
  have hdv : ∀ w, specView (drainOwn h.thread (coreOf s h.core)) none w = false := fun w =>
    specView_quiet _ _ w (retireN_quiet _ _ hc)
  cases hd : r.drained <;> simp [isSpec, hr, hp, hv, ha, hrow, hsv, hdv, hd, tfind]

/-- No accumulator is held back on a quiet core. -/
theorem resolvingHit_quiet (h : Hart) (s : State) (a : Act) (hq : Quiet h s) :
    resolvingHit (coreOf s h.core) h.thread a = false := by
  obtain ⟨-, -, -, -, -, hr, -⟩ := hq
  rw [resolvingHit, List.any_eq_false]
  intro i _
  simp [hr]

/-- An instruction that runs and meets no fault has its ordinary effect. -/
theorem issueWith_runs (h : Hart) (p : Fin 8) (len : Nat) (act : Core → Thread → Act) (eff effSpec : Act → State → State)
    (s : State) (hr : Runs h p len s) (hf : (act (coreOf s h.core) (thread s h)).fault = none)
    (hs : (act (coreOf s h.core) (thread s h)).stall = false)
    (hsp : (act (coreOf s h.core) (thread s h)).reads.spec = false) :
    issueWith h p len act eff effSpec s = .next (eff (act (coreOf s h.core) (thread s h)) (rotate h s)) := by
  obtain ⟨⟨hrun, hd, hslot, hpc, hfp⟩, hp, hq⟩ := hr
  have hspec := isSpec_quiet h s p _ hq hsp
  have hres := resolvingHit_quiet h s (act (coreOf s h.core) (thread s h)) hq
  simp only [thread] at *
  simp [issueWith, hrun, hd, hslot, show ¬ 0x10000 < (thOf (coreOf s h.core) h.thread).pc.toNat + len by omega, hfp, hp, hf, hs,
    hspec, hres]

theorem issue_runs (h : Hart) (p : Fin 8) (len : Nat) (act : Core → Thread → Act) (s : State) (hr : Runs h p len s)
    (hf : (act (coreOf s h.core) (thread s h)).fault = none)
    (hs : (act (coreOf s h.core) (thread s h)).stall = false)
    (hsp : (act (coreOf s h.core) (thread s h)).reads.spec = false) :
    issue h p len act s = .next (finish h len (act (coreOf s h.core) (thread s h)) (rotate h s)) :=
  issueWith_runs h p len act _ _ s hr hf hs hsp

/-- An instruction that runs and faults takes its fault (R135). -/
theorem issueWith_faults (h : Hart) (p : Fin 8) (len : Nat) (act : Core → Thread → Act) (eff effSpec : Act → State → State)
    (s : State) (f : Flt) (hr : Runs h p len s) (hf : (act (coreOf s h.core) (thread s h)).fault = some f)
    (hsp : (act (coreOf s h.core) (thread s h)).reads.spec = false) :
    issueWith h p len act eff effSpec s = .next (takeFault h len f (modTh (rotate h s) h
      fun t => { t with fpFlags := t.fpFlags ||| (act (coreOf s h.core) (thread s h)).flags })) := by
  obtain ⟨⟨hrun, hd, hslot, hpc, hfp⟩, hp, hq⟩ := hr
  have hspec := isSpec_quiet h s p _ hq hsp
  have hres := resolvingHit_quiet h s (act (coreOf s h.core) (thread s h)) hq
  simp only [thread] at *
  simp [issueWith, hrun, hd, hslot, show ¬ 0x10000 < (thOf (coreOf s h.core) h.thread).pc.toNat + len by omega, hfp, hp, hf,
    hspec, hres]

/-- An instruction whose predicate reads 0, and is no speculative copy, only uses its slot and moves the PC (R98). -/
theorem issueWith_skipped (h : Hart) (p : Fin 8) (len : Nat) (act : Core → Thread → Act) (eff effSpec : Act → State → State)
    (s : State) (hr : CanIssue h len s) (hp : pReg (thread s h) p = false)
    (hc : tfind (thread s h).pSpec p.val = none) :
    issueWith h p len act eff effSpec s = .next (after h len id s) := by
  obtain ⟨hrun, hd, hslot, hpc, hfp⟩ := hr
  simp only [thread] at *
  simp [issueWith, hrun, hd, hslot, show ¬ 0x10000 < (thOf (coreOf s h.core) h.thread).pc.toNat + len by omega, hfp, hp, hc, after]

/-- Issuing always answers a next state. -/
theorem issueWith_next (h : Hart) (p : Fin 8) (len : Nat) (act : Core → Thread → Act) (eff effSpec : Act → State → State)
    (s : State) : ∃ t, issueWith h p len act eff effSpec s = .next t := by
  unfold issueWith
  dsimp only
  repeat' split
  all_goals exact ⟨_, rfl⟩

/-! ### The completion of an instruction that writes one register -/

theorem finish_g (h : Hart) (len : Nat) (d : Fin 32) (x : Word) (s : State) :
    finish h len { writes := [.g d x] } (rotate h s) = after h len (putG d x) s := by
  simp [finish, after, modTh, applyWr, advPc, putG]

theorem finish_gfl (h : Hart) (len : Nat) (d : Fin 32) (x : Word) (r : Reads) (f : Option Flt) (fl : BitVec 5) (s : State) :
    finish h len { reads := r, fault := f, writes := [.g d x], flags := fl } (rotate h s)
      = after h len (fun t => putFlags fl (putG d x t)) s := by
  simp [finish, after, modTh, applyWr, advPc, putG, putFlags]

end Sys2Proof.Machine
end

