-- ==== Sys2Proof/Tests/Slice0.lean ====
section
/-!
SUPPORT. The model's own tests: ill-formed terms, words from the manual's encodings, single steps with results worked out
from the manual, and for every statement with hypotheses a state and operands that meet them.
-/
namespace Sys2Proof.Tests
open Sys2Proof Sys2Proof.Machine Sys2Proof.Safety
set_option Elab.async false

/-! ### Small states -/

/-- Thread 0 of core 0. -/
def hart : Hart := ⟨0, 0⟩

/-- A thread that is ready, in supervisor mode, at address 0. -/
def thr : Thread := { Thread.reset with run := .ready, mode := true }

/-- A state in which core 0 is `c` with thread 0 `t`. -/
def st (t : Thread) (c : Core := Core.reset) : State :=
  { State.reset with cores := [(0, { c with threads := [(0, t)] })] }

/-- The thread `thr` with values in its general registers. -/
def regs (l : Tab Word) : Thread := { thr with g := l }

theorem rows_unspec (l : Tab TileRow) (h : l.all (fun e => !e.2.spec) = true) (k : Nat) :
    (tget ⟨0, false, false, false⟩ l k : TileRow).spec = false := by
  induction l with
  | nil => rfl
  | cons e l ih =>
    obtain ⟨i, r⟩ := e
    simp only [List.all_cons, Bool.and_eq_true, Bool.not_eq_true'] at h
    by_cases hi : i = k
    · simp [tget, tfind, hi, h.1]
    · simpa [tget, tfind, hi] using ih h.2

/-- What `Runs` asks, as one test. -/
def runsTest (h : Hart) (p : Fin 8) (len : Nat) (s : State) : Bool :=
  let t := thread s h
  decide (t.run = .ready) && !t.debugHalt && hasSlot (coreOf s h.core) h.thread && decide (t.pc.toNat + len ≤ 0x10000)
  && (fetchPoison (coreOf s h.core) t.pc len).isNone && pReg t p
  && t.pSpec.isEmpty && t.vSpec.isEmpty && t.accSpec.isEmpty && t.rows.all (fun e => !e.2.spec)
  && (coreOf s h.core).specMark.isEmpty && (coreOf s h.core).resolving.isEmpty && (coreOf s h.core).stores.all (fun e => !e.spec)

theorem runs_of (h : Hart) (p : Fin 8) (len : Nat) (s : State) (ht : runsTest h p len s = true) : Runs h p len s := by
  simp only [runsTest, Bool.and_eq_true, decide_eq_true_eq, Bool.not_eq_true', List.isEmpty_iff, Option.isNone_iff_eq_none] at ht
  obtain ⟨⟨⟨⟨⟨⟨⟨⟨⟨⟨⟨⟨h1, h2⟩, h0⟩, h3⟩, h4⟩, h5⟩, h6⟩, h7⟩, h8⟩, h9⟩, h10⟩, h11⟩, h12⟩ := ht
  exact ⟨⟨h1, h2, h0, h3, h4⟩, h5, h6, h7, h8, rows_unspec _ h9, h10, h11, by simpa using h12⟩

theorem runs_thr : Runs hart 0 4 (st thr) := runs_of _ _ _ _ (by decide)
theorem runs16_thr : Runs hart 0 2 (st thr) := runs_of _ _ _ _ (by decide)

theorem hasSlot_first (c : Core) (h0 : c.rot = 0) (hu : urgentOf c = none) : hasSlot c 0 = true := by
  simp [hasSlot, turn, h0, hu]

theorem runs_regs (l : Tab Word) (c : Core) (n : Nat) (hn : n ≤ 4) (hc : c.codePoison = []) (hs : c.specMark = []) (hr : c.resolving = [])
    (hb : c.stores = []) (h0 : c.rot = 0) (hu : urgentOf c = none) :
    Runs hart 0 n (st (regs l) c) := by
  refine ⟨⟨rfl, rfl, hasSlot_first _ h0 hu, Nat.le_trans (Nat.add_le_add_left hn _) (by decide : (0#17).toNat + 4 ≤ 0x10000), ?_⟩, rfl, rfl, rfl, rfl, fun _ => rfl, hs, hr, by
    intro e he; rw [show (coreOf (st (regs l) c) hart.core).stores = c.stores from rfl, hb] at he; cases he⟩
  have : (coreOf (st (regs l) c) hart.core).codePoison = [] := hc
  simp [fetchPoison, this]

/-! ### Witnesses: the machine and its words -/

theorem witness_idle : State.reset.pending = [] := rfl

theorem witness_legal : Inv { State.reset with dev := .daylight, assigned := true, assignedNext := true, boot := { State.reset.boot with step := 8 } } :=
  ⟨⟨by decide, by decide⟩, ⟨by decide, by decide, by decide⟩, fun _ => ⟨rfl, rfl⟩⟩

theorem witness_canonical : memoryForm (st thr { Core.reset with mem := [(0, 1), (0xBFFFF, 2)] }) := by
  refine ⟨by decide, fun c => ?_⟩
  by_cases h : c = 0
  · subst h; decide
  · have : ¬ 0 = c.val := fun e => h (Fin.ext e.symm)
    simp [coreOf, st, tget, tfind, this]; decide

theorem witness_encoded : (Instr.add hart 7 1 2 31).wf = true ∧ hartOf (.add hart 7 1 2 31) = some hart
    ∧ (encode (.add hart 7 1 2 31)).isSome = true := by decide

theorem witness_decoded : decodeWord hart 0x06629381#32 = some (.smove hart 0 .d 4 5 6) := by decide

theorem witness_falsePredicate : slot (.add hart 1 1 2 3) = some (hart, 1, 4) ∧ (Instr.add hart 1 1 2 3).wf = true
    ∧ CanIssue hart 4 (st thr) ∧ pReg (thread (st thr) hart) 1 = false ∧ tfind (thread (st thr) hart).pSpec 1 = none :=
  ⟨by decide, by decide, runs_thr.1, by decide⟩

theorem witness_unpredicable : decodeWord hart 0x00300301#32 = some (.rett hart)
    ∧ decodeWord hart 0x00008311#32 = some (.hold hart 1) := by decide

/-- A thread at the last halfword of the code space, and threads that jump past it and to an odd address. -/
theorem witness_codeSpace :
    let s := st { thr with pc := 0xFFFE }
    let j := fun x => st (regs [(1, x)])
    slot (.nop hart 0) = some (hart, 0, 4) ∧ (thread s hart).run = .ready ∧ (thread s hart).debugHalt = false
    ∧ (thread s hart).hold = none ∧ hasSlot (coreOf s hart.core) hart.thread = true ∧ 0x10000 < (thread s hart).pc.toNat + 4
    ∧ (Runs hart 0 4 (j 0x10000) ∧ 0xFFFF < (gReg (thread (j 0x10000) hart) 1).toNat)
    ∧ (Runs hart 0 4 (j 0xFFFF) ∧ (gReg (thread (j 0xFFFF) hart) 1).toNat % 2 = 1) := by
  refine ⟨by decide, by decide, by decide, by decide, by decide, by decide, ⟨runs_of _ _ _ _ (by decide), by decide⟩,
    runs_of _ _ _ _ (by decide), by decide⟩

theorem witness_mayNotIssue :
    let t := { thr with mode := false }
    let two := fun (r : Fin 4) (b : Word) =>
      { State.reset with cores := [(0, { Core.reset with threads := [(0, thr), (1, thr)], rot := r, boot := { Core.reset.boot with core := b } })] }
    ((thread (st { thr with run := .halted }) hart).run ≠ .ready)
    ∧ (∀ s ∈ [two 0 5, two 1 0], thOf (coreOf s 0) 1 = { thOf (coreOf s 0) 1 with run := .ready, debugHalt := false } ∧ (coreOf s 0).passed = [])
    ∧ (urgentOf (coreOf (two 0 5) 0) = some 1 ∧ urgentOf (coreOf (two 1 0) 0) = none
      ∧ ((1 : Fin 4) - (coreOf (two 1 0) 0).rot).val < (hart.thread - (coreOf (two 1 0) 0).rot).val)
    ∧ (decodeWord hart 0xFFFFFFFF#32 = none ∧ decodeWord hart 0#32 = none ∧ CanIssue hart 4 (st thr) ∧ CanIssue hart 2 (st thr))
    ∧ (Runs hart 0 4 (st t) ∧ (thread (st t) hart).mode = false ∧ (thread (st t) hart).hold = none
      ∧ ((encode (.rett hart)).map Prod.fst = some 4 ∧ (encode (.hold hart 512)).map Prod.fst = some 4
      ∧ (Instr.hold hart 512).wf = true ∧ (Instr.cload hart 0 1 2 3).wf = true
      ∧ (encode (.cload hart 0 1 2 3)).map Prod.fst = some 4 ∧ (encode (.cread hart 0 1 2 3)).map Prod.fst = some 4)) := by
  refine ⟨by decide, by decide, by decide, ⟨by decide, by decide, runs_thr.1, runs16_thr.1⟩,
    runs_of _ _ _ _ (by decide), by decide, by decide, by decide⟩

/-! ### Witnesses: integer instructions, loads and stores -/

theorem witness_integer : Runs hart 0 4 (st thr) ∧ Runs hart 0 2 (st thr) := ⟨runs_thr, runs16_thr⟩

/-- The highest jump target. -/
theorem witness_jump : let s := st (regs [(1, 0xFFFE), (31, 0xFFFE)])
    Runs hart 0 4 s ∧ Runs hart 0 2 s ∧ (gReg (thread s hart) 1).toNat ≤ 0xFFFF ∧ (gReg (thread s hart) 31).toNat % 2 = 0 :=
  ⟨runs_of _ _ _ _ (by decide), runs_of _ _ _ _ (by decide), by decide, by decide⟩

theorem unmarked_clean (s : State) (h : Hart) (a n : Nat) (hp : (coreOf s h.core).poison = []) (hs : (coreOf s h.core).stores = []) :
    unmarked s h a n := by
  intro w _ _
  simp [poisonView, hp, hs]

/-- The last bytes of local memory, for each size of access. -/
theorem witness_access :
    let s := fun x => st (regs [(1, x)])
    (∀ n ∈ [1, 2, 4, 8, 64], accessible (addr32 (s (BitVec.ofNat 64 (0xC0000 - n))) hart 1 n 0) n)
    ∧ accessible (addrCompact (s 0xBFFC0) hart 1 8 7) 8 ∧ accessible (addrCompact (s 0xBFFE0) hart 1 4 7) 4
    ∧ (∀ x, Runs hart 0 4 (s x) ∧ Runs hart 0 2 (s x) ∧ ∀ a n, unmarked (s x) hart a n) := by
  refine ⟨by intro n hn; revert hn; revert n; simp only [List.forall_mem_cons]; unfold accessible; decide,
    by unfold accessible; decide, by unfold accessible; decide,
    fun x => ⟨runs_regs _ _ _ (by decide) rfl rfl rfl rfl rfl rfl, runs_regs _ _ _ (by decide) rfl rfl rfl rfl rfl rfl, fun a n => unmarked_clean _ _ _ _ rfl rfl⟩⟩

/-- A misaligned address, an aligned one past local memory, and a marked word. -/
theorem witness_badAccess :
    let s := fun x => st (regs [(1, x)]) { Core.reset with poison := [1] }
    (addr32 (s 1) hart 1 2 0).toNat % 2 ≠ 0
    ∧ ((addr32 (s 0xC0000) hart 1 1 0).toNat % 1 = 0 ∧ 0xC0000 < (addr32 (s 0xC0000) hart 1 1 0).toNat + 1)
    ∧ (accessible (addr32 (s 8) hart 1 8 0) 8 ∧ ¬ unmarked (s 8) hart (addr32 (s 8) hart 1 8 0).toNat 8)
    ∧ ∀ x, Runs hart 0 4 (s x) ∧ (thread (s x) hart).hold = none := by
  refine ⟨by decide, by decide, ⟨by unfold accessible; decide, fun h => absurd (h 1 (by decide) (by decide)) (by decide)⟩,
    fun x => ⟨runs_regs _ _ _ (by decide) rfl rfl rfl rfl rfl rfl, rfl⟩⟩

theorem witness_storeThenLoad : let s := st (regs [(1, 0xBFFF8), (2, 7)])
    Runs hart 0 4 s ∧ accessible (addr32 s hart 1 8 0) 8 ∧ (thread s hart).pc.toNat + 8 ≤ 0x10000
    ∧ fetchPoison (coreOf s hart.core) ((thread s hart).pc + 4) 4 = none ∧ ∃ t, exec (.std hart 0 2 1 0) s = .next t ∧ hasSlot (coreOf t hart.core) hart.thread = true :=
  ⟨runs_of _ _ _ _ (by decide), by unfold accessible; decide, by decide, by decide, _, rfl, by decide +kernel⟩

theorem witness_retire : let s := st thr { Core.reset with stores := [⟨0, 0xBFFF8, [1, 2, 3, 4, 5, 6, 7, 8], true, false⟩] }
    (coreOf s 0).stores ≠ [] ∧ (coreOf s 0).mem.wf = true := by decide

/-! ### Witnesses: floating point, system instructions, handlers -/

/-- A division of 1 by 0 with its exception enabled, and with none enabled. -/
theorem witness_fp : let s := fun e => st { regs [(1, 0x3FF0000000000000)] with fpCtrl := e }
    (Runs hart 0 4 (s 0xF8) ∧ (thread (s 0xF8) hart).hold = none
      ∧ (fpDiv fp64 .rne (operand .d (gReg (thread (s 0xF8) hart) 1)) 0).2 &&& (thread (s 0xF8) hart).fpCtrl.extractLsb' 3 5 ≠ 0)
    ∧ (Runs hart 0 4 (s 0) ∧ (fpDiv fp64 .rne (operand .d (gReg (thread (s 0) hart) 1)) 0).2 &&& (thread (s 0) hart).fpCtrl.extractLsb' 3 5 = 0) :=
  ⟨⟨runs_of _ _ _ _ (by decide +kernel), by decide +kernel, by decide +kernel⟩, runs_of _ _ _ _ (by decide +kernel), by decide +kernel⟩

/-- Finite operands: 1 in either format, the least FP32 number below 0 and the largest FP64 one, whose sum with 1 does not overflow. -/
theorem witness_rounding : numberOf fp64 0x3FF0000000000000 = some 1 ∧ numberOf fp32 0x3F800000 = some 1
    ∧ (numberOf fp32 0x80000001).isSome = true ∧ (numberOf fp64 0x7FEFFFFFFFFFFFFF).isSome = true
    ∧ (1 : Rat) ≠ 0 ∧ (0 : Rat) ≤ 1 ∧ (∀ rm ∈ [RM.rne, .rz, .ru, .rd, .rna], (fpAdd fp64 rm 0x7FEFFFFFFFFFFFFF 0).2 &&& fOF = 0)
    ∧ (fpConv fp64 fp32 .ru 0x3FF0000000000000).2 &&& fOF = 0 := by
  decide +kernel

/-- Fences that hold and that wait, in every scope that asks for something. -/
theorem witness_fence :
    let own : StoreEntry := ⟨0, 0, [1], false, false⟩
    let s := fun l q => st thr { Core.reset with stores := l, moverQ := q }
    ((∀ e ∈ (coreOf (s [{ own with thread := 3 }] []) 0).stores, e.thread ≠ hart.thread)
      ∧ moverBusy (coreOf (s [{ own with thread := 3 }] []) 0) hart.thread = false ∧ Runs hart 0 4 (s [{ own with thread := 3 }] []))
    ∧ ((∃ e ∈ (coreOf (s [own] []) 0).stores, e.thread = hart.thread) ∧ Runs hart 0 4 (s [own] []))
    ∧ (moverBusy (coreOf (s [] [⟨0, 0, none⟩]) 0) hart.thread = true ∧ Runs hart 0 4 (s [] [⟨0, 0, none⟩])) := by
  exact ⟨⟨by decide +kernel, by decide +kernel, runs_of _ _ _ _ (by decide +kernel)⟩, ⟨by decide +kernel, runs_of _ _ _ _ (by decide +kernel)⟩, by decide +kernel,
    runs_of _ _ _ _ (by decide +kernel)⟩

/-- A return in supervisor mode, and holds of 1 and 512 cycles over none, an entry hold and an open one. -/
theorem witness_hold : let s := fun x => st { thr with hold := x }
    (1 ≤ (1#17).toNat ∧ (512#17).toNat ≤ 512)
    ∧ (Runs hart 0 4 (s none) ∧ (thread (s none) hart).mode = true ∧ (thread (s none) hart).hold = none)
    ∧ (Runs hart 0 4 (s (some ⟨32, true, false⟩)) ∧ ∃ x, (thread (s (some ⟨32, true, false⟩)) hart).hold = some x ∧ x.entry = true)
    ∧ (Runs hart 0 4 (s (some ⟨5, false, true⟩)) ∧ ∃ x, (thread (s (some ⟨5, false, true⟩)) hart).hold = some x ∧ x.entry = false) := by
  exact ⟨by decide +kernel, ⟨runs_of _ _ _ _ (by decide +kernel), by decide +kernel, by decide +kernel⟩, ⟨runs_of _ _ _ _ (by decide +kernel), ⟨32, true, false⟩, by decide +kernel⟩,
    runs_of _ _ _ _ (by decide +kernel), ⟨5, false, true⟩, by decide +kernel⟩

/-- Traps, the last event alone and pending beside a disabled one, waiting threads, and good and bad vector entries. -/
theorem witness_entries :
    let e := fun r => st { thr with run := r, evPending := 0x81, evEnable := 0x8000 }
    let v := fun b => st { thr with run := .entering 127 0x10 } { Core.reset with mem := [(0xC03B8 - 0x800, 4), (0xC03BA - 0x800, b)], trapBase := 0xBF7C0 }
    let due := fun s k => (thread s hart).evPending.getLsbD k && (thread s hart).evEnable.getLsbD (8 + k)
    let held := st { thr with hold := some ⟨1, false, false⟩ }
    (Runs hart 0 4 (st thr) ∧ Runs hart 0 2 (st thr) ∧ (thread (st thr) hart).hold = none)
    ∧ (Runs hart 0 4 held ∧ Runs hart 0 2 held ∧ (thread held hart).hold.isSome = true)
    ∧ (∀ r ∈ [Run.ready, .waiting (.fence 7), .waiting (.portWrite 0x2000 0 4)],
        (thread (e r) hart).run = r ∧ (thread (e r) hart).debugHalt = false ∧ (thread (e r) hart).deferredFault = none
        ∧ (thread (e r) hart).hold = none ∧ due (e r) 7 = true ∧ ∀ k < 7, due (e r) k = false)
    ∧ (∀ k < 8, due (st thr) k = false)
    ∧ (thread (v 1) hart).run = .entering 127 0x10 ∧ (coreOf (v 1) 0).trapBase.toNat + 8 * 127 + 7 < 0xC0000
    ∧ (mget (coreOf (v 1) 0).mem ((coreOf (v 1) 0).trapBase.toNat + 8 * 127 + 2)).toNat % 2 = 1
    ∧ (mget (coreOf (v 2) 0).mem ((coreOf (v 2) 0).trapBase.toNat + 8 * 127 + 2)).toNat % 2 = 0 := by
  exact ⟨⟨runs_thr, runs16_thr, rfl⟩, ⟨runs_of _ _ _ _ (by decide), runs_of _ _ _ _ (by decide), rfl⟩, by decide +kernel⟩

theorem witness_waits :
    (let s := st { thr with run := .waiting (.fence 7) }
     (thread s hart).run = .waiting (.fence 7) ∧ (thread s hart).debugHalt = false ∧ fenceHolds (coreOf s 0) hart.thread 7 = true)
    ∧ (let s := st { thr with run := .waiting .resolution }
       (thread s hart).run = .waiting .resolution ∧ (thread s hart).debugHalt = false ∧ (coreOf s 0).group = none)
    ∧ (thread (st { thr with hold := some ⟨9, false, false⟩ }) hart).hold = some ⟨9, false, false⟩
    ∧ (thread (st { thr with timer := some 9 }) hart).timer = some 9
    ∧ (thread (st { thr with breakpoints := [0] }) hart).breakpoints.contains ((thread (st thr) hart).pc.setWidth 16) = true := by
  decide

/-- A block of two doublewords that ends with local memory, one with an event to be taken, one of several slots, an empty block, code words at the end of the code space, and registers
that are not distinct only where the statement does not ask. -/
theorem witness_blockRepeat :
    let s := st (regs [(1, 0xBFFF0), (2, 0xBFFE0), (3, 2)])
    let c := st (regs [(1, 0xFFFC), (2, 0xBFFFC), (3, 4)])
    let r := st (regs [(1, 0xBFFFC), (2, 0xFFFC), (3, 4)])
    let z := st (regs [(1, 0xC0000), (2, 0xC0000), (3, 0)])
    let l := st (regs [(1, 0xBFF00), (2, 0xBFF00), (3, 32)])
    let e := st { regs [(1, 0xBFFF0), (2, 0xBFFE0), (3, 2)] with evPending := 1, evEnable := 0x100 }
    (distinct3 1 2 3 = true ∧ ∀ u ∈ [s, c, r, z, l], takeable (thread u hart) = [])
    ∧ (Runs hart 0 4 e ∧ takeable (thread e hart) ≠ [] ∧ (thread e hart).deferredFault = none ∧ gReg (thread e hart) 3 ≠ 0 ∧ (gReg (thread e hart) 1).toNat % 8 = 0
      ∧ (gReg (thread e hart) 2).toNat % 8 = 0)
    ∧ (∀ u ∈ [s, c, r, z, l], Runs hart 0 4 u ∧ ∀ a n, unmarked u hart a n)
    ∧ (gReg (thread l hart) 1).toNat + 64 ≤ 0xC0000 ∧ (gReg (thread l hart) 3).toNat > 8
    ∧ (gReg (thread s hart) 1).toNat % 8 = 0 ∧ (gReg (thread s hart) 1).toNat + 8 * (gReg (thread s hart) 3).toNat ≤ 0xC0000
    ∧ (gReg (thread s hart) 2).toNat % 8 = 0 ∧ (gReg (thread z hart) 3).toNat = 0
    ∧ (gReg (thread c hart) 1).toNat + (gReg (thread c hart) 3).toNat ≤ 0x10000
    ∧ (gReg (thread c hart) 2).toNat + (gReg (thread c hart) 3).toNat ≤ 0xC0000 ∧ (thread c hart).mode = true
    ∧ (coreOf c 0).code.wf = true ∧ (coreOf r 0).codePoison = []
    ∧ (gReg (thread r hart) 2).toNat + (gReg (thread r hart) 3).toNat ≤ 0x10000 := by
  refine ⟨by decide +kernel, ⟨runs_of _ _ _ _ (by decide +kernel), by decide +kernel⟩, ?_, by decide +kernel⟩
  simp only [List.forall_mem_cons]
  exact ⟨⟨runs_regs _ _ _ (by decide +kernel) rfl rfl rfl rfl rfl rfl, fun a n => unmarked_clean _ _ _ _ rfl rfl⟩,
    ⟨runs_regs _ _ _ (by decide +kernel) rfl rfl rfl rfl rfl rfl, fun a n => unmarked_clean _ _ _ _ rfl rfl⟩,
    ⟨runs_regs _ _ _ (by decide +kernel) rfl rfl rfl rfl rfl rfl, fun a n => unmarked_clean _ _ _ _ rfl rfl⟩,
    ⟨runs_regs _ _ _ (by decide +kernel) rfl rfl rfl rfl rfl rfl, fun a n => unmarked_clean _ _ _ _ rfl rfl⟩,
    ⟨runs_regs _ _ _ (by decide +kernel) rfl rfl rfl rfl rfl rfl, fun a n => unmarked_clean _ _ _ _ rfl rfl⟩, by simp⟩

/-! ### Witnesses: vectors and tiles -/

/-- An invalid T2 code in element 0 of v1 with `T2_POLICY` 1, and the same with `T2_POLICY` 0. -/
theorem witness_t2 : let s := fun b => st { thr with v := [(1, ⟨2, false⟩)], t2Policy := b }
    (∀ b, Runs hart 0 4 (s b)) ∧ (thread (s true) hart).t2Policy = true ∧ (thread (s true) hart).hold = none
    ∧ laneOn (thread (s true) hart) 0 1 0 ∧ piece (vReg (thread (s true) hart) 1).data 2 0 = 2
    ∧ (thread (s false) hart).t2Policy = false := by
  exact ⟨fun b => runs_of _ _ _ _ (by cases b <;> decide), rfl, rfl, Or.inl rfl, by decide +kernel, rfl⟩

/-- An integer tile of 16 rows of 64 bytes: 16 rows, format 9. -/
def tileDesc : Word := 0x9F10

/-- A thread whose tiles 0 to 7 are integer tiles with row 15 valid, and v1 marked. -/
def tiler (l : Tab Word) : Thread :=
  { regs l with
    desc := (List.range 8).map fun i => (i, tileDesc)
    rows := (List.range 8).map fun i => (16 * i + 15, ⟨1, true, false, false⟩)
    v := [(1, ⟨1, true⟩)] }

theorem witness_vectorTiles : let s := st (tiler [])
    Runs hart 0 4 s ∧ mmaHolds (coreOf s 0) hart.thread [7] = false ∧ (15 : Nat) < dRows (descOf (thread s hart) 7)
    ∧ (rowOf (thread s hart) (16 * 7 + 15)).valid = true :=
  ⟨runs_of _ _ _ _ (by decide +kernel), by decide +kernel, by decide +kernel, by decide +kernel⟩

/-- `TCFG` of tile 7 from the last 64 bytes of local memory; transfers of a tile and of an accumulator that end with it. -/
theorem witness_tiles :
    let s := st (tiler [(1, 0xBFFC0), (2, 0xBFC00), (3, 64)]) { Core.reset with mem := [(0xBFFF8, 0x10), (0xBFFF9, 0x9F)] }
    let t := thread s hart
    (Runs hart 0 4 s ∧ takeable t = [] ∧ (0x80 : BitVec 8) ≠ 0 ∧ mmaHolds (coreOf s 0) hart.thread (maskTiles 0x80) = false
      ∧ accessible (gReg t 1) 64 ∧ unmarked s hart (gReg t 1).toNat 64
      ∧ badDesc 0x80 (newSet t 0x80 (cfgBlock (coreOf s 0) hart.thread (gReg t 1))) = none)
    ∧ mmaWrites (coreOf s 0) hart.thread [3] = false ∧ mmaHolds (coreOf s 0) hart.thread [7] = false
    ∧ ((gReg t 2).toNat % 4 = 0 ∧ (gReg t 3).toNat % 4 = 0 ∧ 0 < dRows (descOf t 7) ∧ dRows (descOf t 7) ≤ 16
      ∧ ∀ r < dRows (descOf t 7), (gReg t 2 + BitVec.ofNat 64 r * gReg t 3).toNat + dRb (descOf t 7) ≤ 0xC0000)
    ∧ (rowNext (coreOf s 0) 0 (.tld hart 0 7 2 3) = 0 ∧ rowNext (coreOf s 0) 0 (.tst hart 0 7 2 3 []) = 0)
    ∧ (let e := st { thread s hart with evPending := 1, evEnable := 0x100 }
      Runs hart 0 4 e ∧ takeable (thread e hart) ≠ [] ∧ (thread e hart).deferredFault = none ∧ mmaHolds (coreOf e 0) hart.thread [7] = false)
    ∧ (drainOwn hart.thread (coreOf s 0)).mem.wf = true
    ∧ ((gReg t 2).toNat % 64 = 0 ∧ (gReg t 2).toNat + 1024 ≤ 0xC0000) := by
  refine ⟨⟨runs_of _ _ _ _ (by decide +kernel), by decide +kernel, by decide +kernel, by decide +kernel, by unfold accessible; decide,
    unmarked_clean _ _ _ _ rfl rfl, by decide +kernel⟩, by decide +kernel, by decide +kernel, by decide +kernel, by decide +kernel,
    ⟨runs_of _ _ _ _ (by decide +kernel), by decide +kernel⟩, by decide +kernel⟩

/-- An `MMA` on integer tiles; one on FP32 tiles whose result is inexact with the exception enabled. -/
theorem witness_mma : let s := st (tiler [])
    Runs hart 0 4 s ∧ mmaReady hart false 0 1 0 3 s ∧ mmaBlocks (thread s hart) 0 = false
    ∧ dRows (descOf (thread s hart) 0) ≤ 16 ∧ (thread s hart).t2Policy = false ∧ (thread s hart).hold = none
    ∧ dFmt (descOf (thread s hart) 0) = 9 ∧ accTy (dFmt (descOf (thread s hart) 0)) (dScale (descOf (thread s hart) 0)) = 1 :=
  ⟨runs_of _ _ _ _ (by decide +kernel), ⟨by decide +kernel, by decide +kernel, by decide +kernel, by decide +kernel⟩, by decide +kernel⟩

/-- FP32 tiles whose product overflows with every exception enabled. -/
theorem witness_mmaTrap :
    let t : Thread := { tiler [] with
      desc := [(0, 0x1F10), (1, 0x1F10)]
      rows := [(0, ⟨0x7F7FFFFF, true, false, false⟩), (16, ⟨0x7F7FFFFF, true, false, false⟩)]
      fpCtrl := 0xF8 }
    Runs hart 0 4 (st t) ∧ mmaReady hart false 0 1 0 3 (st t) ∧ dRows (descOf t 0) ≤ 16
    ∧ (contract t false 0 1 0 0 0 0).2.getLsbD 0 = true ∧ t.fpCtrl.getLsbD 3 = true ∧ t.t2Policy = false ∧ t.hold = none := by
  exact ⟨runs_of _ _ _ _ (by decide +kernel), ⟨by decide +kernel, by decide +kernel, by decide +kernel, by decide +kernel⟩,
    by decide +kernel⟩

/-- `ACVT` of row 15 to a vector register and of a tile, its block of zeros ending with local memory; and one that traps. -/
theorem witness_acvt :
    let t : Thread := { tiler [(1, 0xBFEC0)] with desc := [(7, 0x0F10)], acc := [(63, ⟨0x7F800001, false⟩)], fpCtrl := 0xF8 }
    let s := st t
    let blk := cvtBlock (readView (coreOf s 0) (some hart.thread) 0xBFEC0 320)
    Instr.wf (.acvt hart 0 false false 15 1 true 3 31) = true ∧ Instr.wf (.acvt hart 0 false false 0 1 false 2 7) = true
    ∧ Runs hart 0 4 s ∧ (gReg t 1).toNat % 64 = 0 ∧ (gReg t 1).toNat + 320 ≤ 0xC0000
    ∧ acvtCheck t false false true 3 31 blk = none ∧ acvtCheck t false false false 2 7 blk = none
    ∧ mmaWrites (coreOf s 0) hart.thread (acvtAccs false (cvSrc blk) 3) = false ∧ unmarked s hart 0xBFEC0 320
    ∧ mmaHolds (coreOf s 0) hart.thread [7] = false ∧ blk.ctl.getLsbD 14 = false ∧ cvMx blk = false
    ∧ (acvtRows t false false 3 blk [15] t.sr).2.1 &&& t.fpCtrl.extractLsb' 3 5 ≠ 0 ∧ t.hold = none
    ∧ (acvtRows t false false 2 blk (List.range 16) t.sr).2.1 &&& t.fpCtrl.extractLsb' 3 5 = 0 :=
  ⟨by decide +kernel, by decide +kernel, runs_of _ _ _ _ (by decide +kernel), by decide +kernel, by decide +kernel, by decide +kernel,
    by decide +kernel, by decide +kernel, unmarked_clean _ _ _ _ rfl rfl, by decide +kernel⟩

/-! ### Witnesses: ports and messages -/

/-- Cell 1: region 1, of core 0 alone, with all flags and counters of bank 0. -/
def region1 : BitVec 128 := BitVec.ofNat 128 (7 + 512 * 2 ^ 98 + 256 * 2 ^ 116)

/-- A region with cell 1, in a Daylight Noon. -/
def reg (r : Region := Region.reset) (s : State := st thr) : State :=
  { s with dev := .daylight, clock := { s.clock with phase := .noon, cycle := 1000 }, cells := [(1, region1)]
           regions := [(1, { r with valid := true, cell := 1 })] }

theorem witness_portFaults :
    let s := fun n => st (regs [(1, n)])
    let u := st { regs [(1, 0x80A8)] with mode := false }
    (∀ n, Runs hart 0 4 (s n) ∧ (thread (s n) hart).hold = none)
    ∧ (Runs hart 0 4 u ∧ (thread u hart).mode = false ∧ (gReg (thread u hart) 1).toNat = 0x80A8)
    ∧ (gReg (thread (s 1) hart) 1).toNat % 8 ≠ 0 ∧ (gReg (thread (s 0x98) hart) 1).toNat % 8 = 0
    ∧ isMonitor (s 0x8008) hart = false ∧ cFlagCount (ownCell (s 0x5FF8) 0) ≤ 0x5FF8 / 8 % 512
    ∧ cCtrCount (ownCell (s 0x6FF8) 0) ≤ 0x6FF8 / 8 % 256 := by
  exact ⟨fun n => ⟨runs_regs _ _ _ (by decide) rfl rfl rfl rfl rfl rfl, rfl⟩, ⟨runs_of _ _ _ _ (by decide +kernel), by decide +kernel, by decide +kernel⟩,
    by decide +kernel, by decide +kernel, by decide +kernel, by decide +kernel, by decide +kernel⟩

theorem witness_portRegisters : Runs hart 0 4 (st thr) ∧ Runs hart 0 2 (st thr) ∧ (thread (st thr) hart).mode = true
    ∧ (gReg (thread (st (regs [(1, 0x2010)])) hart) 1).toNat = 0x2010
    ∧ (0x88, true) ∈ [(0x08, true), (0x10, true), (0x40, true), (0x48, true), (0x90, true), (0x88, (thread (st thr) hart).mode)] :=
  ⟨runs_thr, runs16_thr, rfl, rfl, by decide⟩

/-- The last event pending alone; no event; notices in a bank and in the last overflow slot, a value of `NOTICE_HI` kept and used. -/
theorem witness_events :
    let s := st { thr with evPending := 0x80, evEnable := 0xFF }
    let q := fun (p : NoticePlace) (x : Option (Word × Bool)) => st thr { Core.reset with
      notices := [(0, { NoticeQ.reset with items := [⟨1, 2, p⟩], hi := x }), (4, { NoticeQ.reset with items := [⟨3, 4, .bank false⟩] })] }
    (Runs hart 0 4 s ∧ ((thread s hart).evPending.getLsbD 7 && (thread s hart).evEnable.getLsbD 7) = true
      ∧ ∀ k < 7, ((thread s hart).evPending.getLsbD k && (thread s hart).evEnable.getLsbD k) = false)
    ∧ (∀ k < 8, ((thread (st thr) hart).evPending.getLsbD k && (thread (st thr) hart).evEnable.getLsbD k) = false)
    ∧ (let s := q (.overflow 1023) (some (5, true))
       Runs hart 0 4 s ∧ (nqOf (coreOf s 0) 0).items[(nqOf (coreOf s 0) 0).rd]? = some ⟨1, 2, .overflow 1023⟩
       ∧ (nqOf (coreOf s 0) 0).hi = some (5, true) ∧ (nqOf (coreOf s 0) 0).items[(nqOf (coreOf s 0) 0).hiPos]? = some ⟨1, 2, .overflow 1023⟩
       ∧ isMonitor s hart = false)
    ∧ ((nqOf (coreOf (q (.bank true) (some (5, false))) 0) 0).hi = some (5, false)
       ∧ (nqOf (coreOf (st thr) 0) 0).items[0]? = none ∧ (nqOf (coreOf (st thr) 0) 0).hi = none)
    ∧ (let s := reg Region.reset (q (.bank true) none)
       Runs hart 0 4 s ∧ (thread s hart).mode = true ∧ isMonitor s hart = true
       ∧ (nqOf (coreOf s 0) 4).items[(nqOf (coreOf s 0) 4).rd]? = some ⟨3, 4, .bank false⟩) := by
  exact ⟨⟨runs_of _ _ _ _ (by decide +kernel), by decide +kernel, by decide +kernel⟩, by decide +kernel,
    ⟨runs_of _ _ _ _ (by decide +kernel), by decide +kernel, by decide +kernel, by decide +kernel, by decide +kernel⟩, by decide +kernel,
    runs_of _ _ _ _ (by decide +kernel), by decide +kernel, by decide +kernel, by decide +kernel⟩

/-- The last flag and the last counter of the cell; a flag set and clear; a counter that has reached its target and one that has not;
targets that arm the watch of each and that do not; updates on their way to the bank. -/
theorem witness_flags :
    let s := fun b t => { reg Region.reset (st { regs [(1, 0x800003FF00000000), (2, 0x800000FF00000000)] with ctrTarget := t }) with
      banks := [(0, { FlagBank.reset with flags := if b then 1 <<< 511 else 0 })] }
    (Runs hart 0 4 (s true 0) ∧ flagHere (s true 0) hart 511 0 511 ∧ ctrHere (s true 0) hart 255 0 255
      ∧ clearing (s true 0) 0 511 = false ∧ (coreOf (s true 0) 0).isolated = false ∧ (s true 0).flight = []
      ∧ flagAt (s true 0) 0 511 = true ∧ flagAt (s false 0) 0 511 = false)
    ∧ (ctrAt (s true 0) 0 255 - (thread (s true 0) hart).ctrTarget.setWidth 32).msb = false
    ∧ (ctrAt (s true 1) 0 255 - (thread (s true 1) hart).ctrTarget.setWidth 32).msb = true
    ∧ (let v := gReg (thread (s true 0) hart) 1
       v.getLsbD 63 = true ∧ v.getLsbD 41 = true ∧ flagHere (s true 0) hart (v.toNat / 2 ^ 32 % 512) 0 511)
    ∧ (let v := gReg (thread (s true 0) hart) 2
       v.getLsbD 63 = true ∧ v.getLsbD 41 = false ∧ ctrHere (s true 0) hart (v.toNat / 2 ^ 32 % 512) 0 255)
    ∧ (gReg (thread (s true 0) hart) 3).getLsbD 63 = false
    ∧ (let z := reg Region.reset (st thr { Core.reset with isolated := true })
       Runs hart 0 4 z ∧ flagHere z hart 511 0 511 ∧ ctrHere z hart 255 0 255 ∧ clearing z 0 511 = false ∧ (coreOf z 0).isolated = true) := by
  unfold flagHere ctrHere
  exact ⟨⟨runs_of _ _ _ _ (by decide +kernel), by decide +kernel, by decide +kernel, by decide +kernel, by decide +kernel, by decide +kernel,
    by decide +kernel, by decide +kernel⟩, by decide +kernel, by decide +kernel, by decide +kernel, by decide +kernel, by decide +kernel,
    runs_of _ _ _ _ (by decide +kernel), by decide +kernel⟩

/-- The longest message, whose payload ends with local memory, and one without payload; a message that has left; and sends that
fault on their address, on its range, and on the last bit of the header. -/
theorem witness_send :
    let s := fun hi x => st (regs [(2, 0), (3, hi), (4, x)])
    let long : Word := 128 <<< 39
    let hd : Word → BitVec 128 := fun hi => hi ++ 0#64
    (Runs hart 0 4 (s long 0xBFC00) ∧ (gReg (thread (s long 0xBFC00) hart) 3 ++ gReg (thread (s long 0xBFC00) hart) 2) = hd long
      ∧ hLen (hd long) = 1024 ∧ 0xBFC00 + hLen (hd long) ≤ 0xC0000 ∧ headerBad (hd long) = none
      ∧ injOf (coreOf (s long 0xBFC00) 0) 15 = ⟨[], []⟩)
    ∧ (hLen (hd 0) = 0 ∧ headerBad (hd 0) = none)
    ∧ (let u := st { thr with run := .waiting (.send 15 9) }
       (thread u hart).run = .waiting (.send 15 9) ∧ (thread u hart).debugHalt = false ∧ sent (coreOf u 0) 15 9 = true)
    ∧ (Runs hart 0 4 (s 0 4) ∧ (thread (s 0 4) hart).hold = none ∧ (4 : Nat) % 8 ≠ 0)
    ∧ (Runs hart 0 4 (s long 0xBFC08) ∧ 0xC0000 < 0xBFC08 + hLen (hd long))
    ∧ (Runs hart 0 4 (s (1 <<< 63) 0) ∧ headerBad (hd (1 <<< 63)) = some 127) := by
  exact ⟨⟨runs_of _ _ _ _ (by decide +kernel), by decide +kernel, by decide +kernel, by decide +kernel, by decide +kernel, by decide +kernel⟩,
    by decide +kernel, by decide +kernel, ⟨runs_of _ _ _ _ (by decide +kernel), by decide +kernel, by decide +kernel⟩,
    ⟨runs_of _ _ _ _ (by decide +kernel), by decide +kernel⟩, runs_of _ _ _ _ (by decide +kernel), by decide +kernel⟩

/-- Five and six transfers outstanding; a record to read; a list that is misaligned, one that is good; a transfer whose message has
left and one whose message stands in its queue. -/
theorem witness_mover :
    let c : Core := { Core.reset with mem := [(0x106, 0), (0x11A, 0x80), (0x122, 0x80)] }
    let s := fun n (j : List MoverJob) m i => st { thr with moverDone := [7] } { c with
      mem := c.mem.filter (fun e => decide (e.2 ≠ 0)), outstanding := List.replicate n 0, moverQ := j, moving := m, inj := i }
    (Runs hart 0 4 (s 5 [] none []) ∧ (coreOf (s 5 [] none []) 0).isolated = false ∧ (coreOf (s 5 [] none []) 0).outstanding.length < 6
      ∧ (thread (s 5 [] none []) hart).moverDone = [7] ∧ (thread (st thr) hart).moverDone = [])
    ∧ (Runs hart 0 4 (s 6 [] none []) ∧ 6 ≤ (coreOf (s 6 [] none []) 0).outstanding.length)
    ∧ (let c := coreOf (s 1 [⟨0, 4, none⟩] none []) 0
       c.moving = none ∧ c.moverQ = [⟨0, 4, none⟩] ∧ listBlocked c 4 = false ∧ listStatus c (BitVec.ofNat 64 4) ≠ 0)
    ∧ (let c := coreOf (s 1 [⟨0, 0x100, none⟩] none []) 0
       listBlocked c 0x100 = false ∧ listStatus c (BitVec.ofNat 64 0x100) = 0 ∧ (readList c 0x100).dst.flatMap pairWrites ≠ [])
    ∧ (let c := coreOf (s 1 [] (some (0, 15, 9, 7, none)) []) 0
       c.moving = some (hart.thread, 15, 9, 7, none) ∧ sent c 15 9 = true)
    ∧ sent (coreOf (s 1 [] (some (0, 15, 9, 7, none)) [(15, ⟨[⟨9, 0, 0, 0, true, [], none, none, none, none⟩], []⟩)]) 0) 15 9 = false := by
  exact ⟨⟨runs_of _ _ _ _ (by decide +kernel), by decide +kernel, by decide +kernel, by decide +kernel, by decide +kernel⟩,
    ⟨runs_of _ _ _ _ (by decide +kernel), by decide +kernel⟩, by decide +kernel, by decide +kernel, by decide +kernel, by decide +kernel⟩

/-! ### Witnesses: the mesh, landing, route loads and the Day -/

/-- A flit of message 9 for member 0 of cell 1. -/
def flit : Flit := ⟨9, BitVec.ofNat 128 (2 ^ 14), 0, 0, true, [⟨5, true⟩], none, some 1, none, none⟩

/-- A flit at the north input of router 0, a running entry that names it or none, in Daylight at the first cycle of Noon; and in
Twilight, for position 0 alone and for positions 0 and 1. -/
theorem witness_router :
    let e : BitVec 128 := BitVec.ofNat 128 (1 + 2 + 16 + 2 ^ 96)
    let s := fun b => { reg with routers := [(0, { Router.reset with bank0 := b, inputs := [(1, [flit])] })] }
    let u := { s [] with dev := .twilight }
    ((tget [] (routerOf (s [(0, e)]) 0).inputs 1).head? = some flit ∧ ¬ (enters 0 1 = true ∧ (s [(0, e)]).clock.phase = .dusk)
      ∧ entryFor (s [(0, e)]) 0 1 ((512#24).toNat - 512) = some e ∧ reOut e 0 = true ∧ bordered (s [(0, e)]) 0 0 = false)
    ∧ entryFor (s []) 0 1 0 = none
    ∧ (asleep u 0 = false ∧ (0 + (0#24).toNat % 4 + 1) % 5 = 1 ∧ hasRoom u 0 0 = true ∧ bordered u 0 0 = false
      ∧ (routerOf u 0).badPorts.getLsbD 0 = false
      ∧ destsVia u 0 flit 0 = [0] ∧ destsBeside u 0 flit 0 = []
      ∧ destsVia u 0 { flit with dest := some [0, 1] } 0 = [0] ∧ destsBeside u 0 { flit with dest := some [0, 1] } 0 = [1]) := by
  decide +kernel

/-- A region of two cores side by side, and a flit of message 9 for the eastern one. -/
def twoCores : BitVec 128 := region1 + 2 ^ 24
def flitE : Flit := { flit with header := BitVec.ofNat 128 (2 ^ 14 + 2 ^ 25) }

/-- The flit waits in injection queue 1 of the western core, in a phase of the Day, with or without an entry that takes it. -/
def injecting (p : Phase) (b : Tab (BitVec 128)) : State :=
  let s := { reg Region.reset (st thr { Core.reset with inj := [(1, ⟨[flitE], []⟩)] }) with cells := [(1, twoCores)] }
  { s with routers := [(0, { Router.reset with bank0 := b })], clock := { s.clock with phase := p } }

theorem witness_injection :
    let e : BitVec 128 := BitVec.ofNat 128 (1 + 2 ^ 6 + 2 ^ 9 + 2 ^ 96)
    let s := injecting .noon [(0, e)]
    let u := fun p => { injecting p [] with dev := .twilight }
    (s.dev = .daylight ∧ ¬ (enters 0 0 = true ∧ s.clock.phase = .dusk) ∧ entryFor s 0 0 0 = some e ∧ reQueue e = 1 ∧ (injOf (coreOf s 0) 1).flits.head? = some flitE
      ∧ (injOf (coreOf s 0) 1).plans = [] ∧ (coreOf s 0).isolated = false ∧ reOut e 2 = true)
    ∧ (entryFor (injecting .noon []) 0 0 0 = none ∧ entryFor s 0 0 0 = some e
      ∧ (injOf (coreOf { s with cores := [] } 0) (reQueue e)).flits = [])
    ∧ (∀ p ∈ [Phase.dawn, .noon, .dusk], (u p).dev = .twilight ∧ asleep (u p) 0 = false ∧ (2 + (2#24).toNat % 4 + 1) % 5 = (0 : Fin 5).val
      ∧ tget [] (routerOf (u p) 0).inputs 0 = [] ∧ (coreOf (u p) 0).isolated = false ∧ (coreOf (u p) 0).inj = [(1, ⟨[flitE], []⟩)]
      ∧ ((u p).clock.phase = .noon ↔ p = .noon))
    ∧ (destsVia (u .noon) 0 flitE 2 = [1] ∧ destsBeside (u .noon) 0 flitE 2 = [] ∧ hasRoom (u .noon) 0 2 = true
      ∧ (routerOf (u .noon) 0).badPorts.getLsbD 2 = false ∧ bordered (u .noon) 0 2 = false ∧ destsVia (u .noon) 0 flitE 3 = []) := by
  decide +kernel

/-- First flits that land and that name no cell, a later flit with its message and one without. -/
theorem witness_landing :
    let m : LandMsg := ⟨9, flit.header, 0, 1, false, none, false, false, false, [], 0⟩
    let s := fun f l => reg Region.reset (st thr { Core.reset with inbox := [f], landing := l })
    let c := fun f l => coreOf (s f l) 0
    ((c flit []).inbox = [flit] ∧ (c flit []).mem.wf = true ∧ hLaddr flit.header + 64 * 0 + 8 * flit.words.length ≤ 0xC0000
      ∧ verdict (s flit []) 0 flit.header = .accept none ∧ conflicts (c flit []) flit = none
      ∧ (hTail flit.header && hHeld flit.header) = false)
    ∧ verdict (s { flit with header := 0 } []) 0 0 = .drop 1 0
    ∧ ((c { flit with index := 1 } [m]).landing.find? (fun x => decide (x.mid = 9)) = some m ∧ m.held = false ∧ m.expired = false
      ∧ m.header = flit.header)
    ∧ (c { flit with index := 1 } []).landing.find? (fun x => decide (x.mid = 9)) = none
    ∧ (let f := fun n => { flit with index := n, group := some 1 }
       let s := fun n l => reg Region.reset (st thr { Core.reset with group := some 2, inbox := [f n], landing := l })
       verdict (s 0 []) 0 (f 0).header = .accept none ∧ (conflicts (coreOf (s 0 []) 0) (f 0)).isSome = true
       ∧ (conflicts (coreOf (s 1 [m]) 0) (f 1)).isSome = true ∧ conflicts Core.reset (f 0) = none) := by
  decide +kernel

/-- Whole messages: held, with a notice, with no signal, a flag and a counter signal. -/
theorem witness_complete :
    let m := fun x : Nat => (⟨9, BitVec.ofNat 128 (2 ^ 14 + x), 0, 1, true, some 4, false, false, false, [], 0⟩ : LandMsg)
    let s := fun x => reg Region.reset (st thr { Core.reset with landing := [m x] })
    (∀ x ∈ [0, 2 ^ 60, 2 ^ 61 + 511 * 2 ^ 76, 2 ^ 62 + 255 * 2 ^ 76],
      (coreOf (s x) 0).landing.find? (fun m => m.complete && !m.held) = some (m x) ∧ (ownPlace (coreOf (s x) 0) 4).isSome = true)
    ∧ (hSig (m 0).header = 0 ∧ (coreOf (s 0) 0).isolated = false
      ∧ (coreOf { s 0 with cores := [(0, { Core.reset with landing := [m 0], isolated := true })] } 0).isolated = true)
    ∧ (hSig (m (2 ^ 61 + 511 * 2 ^ 76)).header = 1
      ∧ flagIn (replicaEntry (s 0) 0 1) (hSigIx (m (2 ^ 61 + 511 * 2 ^ 76)).header) = some (0, 511))
    ∧ (hSig (m (2 ^ 62 + 255 * 2 ^ 76)).header = 2
      ∧ ctrIn (replicaEntry (s 0) 0 1) (hSigIx (m (2 ^ 62 + 255 * 2 ^ 76)).header) = some (0, 255)) := by
  decide +kernel

/-- The eighth held tail write, ready and not; held too long and not. -/
theorem witness_tail :
    let m := fun k tag days : Nat => (⟨k, BitVec.ofNat 128 (2 ^ 55 + 2 ^ 60 + tag * 2 ^ 64), 0, 1, true, none, false, false, true, [flit], days⟩ : LandMsg)
    let s := fun tag days => reg Region.reset (st thr { Core.reset with landing := (List.range 8).map fun k => m k tag days })
    ((heldList (coreOf (s 0 1) 0))[7]? = some (m 7 0 1) ∧ tailReady (coreOf (s 0 1) 0) (m 7 0 1).header 0 = true
      ∧ holdTooLong (s 0 1) (m 7 0 1) = true)
    ∧ (tailReady (coreOf (s 1 0) 0) (m 7 1 0).header 0 = false ∧ holdTooLong (s 1 0) (m 7 1 0) = false)
    ∧ ((∀ f ∈ (m 7 0 1).kept, conflicts (coreOf (s 0 1) 0) f = none)
      ∧ ¬ ∀ f ∈ { m 7 0 1 with kept := [{ flit with group := some 1 }] }.kept, conflicts { coreOf (s 0 1) 0 with group := some 2 } f = none) := by
  decide +kernel

/-- The operator's connection to an owned device. -/
def operated (s : State) : State := { s with mgmt := { s.mgmt with owned := [1], connected := true, authenticated := true } }

theorem operated_commands (s : State) : commands (operated s) := ⟨rfl, by simp [operated], rfl⟩

/-- A region whose first bulk window holds an image with one end record, or one bad record. -/
theorem witness_routeLoad :
    let s := fun b => operated { reg { Region.reset with bulk := [(0, 1)], load := some ⟨0, 0, true, false⟩ } with bulk := [(19, b)] }
    (monitors hart 0 1 (s 2) ∧ (gReg (thread (s 2) hart) 1).toNat % 2 ^ 40 = (0#40).toNat ∧ commands (s 2))
    ∧ (scanLoad (s 2) 1 0).isSome = true ∧ (s 2).clock.phase ≠ .dusk ∧ (regOf (s 2) 1).valid = true
    ∧ (regOf (s 2) 1).load = some ⟨0, 0, true, false⟩ ∧ (scanLoad (s 2) 1 0).map Prod.fst = some 0
    ∧ (scanLoad (s 3) 1 0).map Prod.fst = some 0x19 ∧ scanLoad (s 2) 1 (2 ^ 28) = none ∧ (⟨[0], []⟩ : SectorEcc).bad = []
    ∧ granted (s 2) (rangeReady (s 2) (256 + loadDie (s 2) 1) 1 (loadDie (s 2) 1) 0 (scanLen (s 2) 1 0)) = true := by
  exact ⟨⟨⟨runs_of _ _ _ _ (by decide +kernel), by decide +kernel, by decide +kernel, by decide +kernel⟩, by decide +kernel,
    operated_commands _⟩, by decide +kernel, by decide +kernel, by decide +kernel, by decide +kernel, by decide +kernel, by decide +kernel, by decide +kernel⟩

/-- The only region at a Daybreak: with nothing that waits for it, with a change of either kind, with a new quota, a load that came
late and one that is committed; and a region to be created. -/
theorem witness_daybreak :
    let s := fun x => reg x (st thr { Core.reset with budgetNext := 7 })
    let of_ := fun l : RouteLoad => { Region.reset with load := some l }
    (∀ x ∈ [Region.reset, { Region.reset with pending := [(1, .delete)] }, { Region.reset with pending := [(1, .switch 64)] },
        { Region.reset with pending := [(1, .night .retention true)] }, { Region.reset with quotaNext := [(1, 512)] },
        { Region.reset with late := true }, of_ ⟨0, 0, false, true⟩],
      (s x).regions = [((1 : RegionId).val, regOf (s x) 1)] ∧ (regOf (s x) 1).valid = true ∧ (regOf (s x) 1).night = none
      ∧ (regOf (s x) 1).failStop = none ∧ (s x).spares = [] ∧ (s x).removalsNext = [] ∧ (s x).cellChanges = [] ∧ (s x).badFlagWords = []
      ∧ (s x).mgmt.testing = [] ∧ (s x).twilightAt = none ∧ (s x).dev = .daylight ∧ 1 ≤ (s x).clock.dayNo + 1)
    ∧ (let x := of_ ⟨0, 0, false, true⟩
       (regOf (s x) 1).stopped = false ∧ (regOf (s x) 1).late = false ∧ (regOf (s x) 1).borderOk = true
       ∧ (regionCores (s x) 1).all (fun c => !(coreOf (s x) c).overrun && decide ((coreOf (s x) c).budget = 0)) = true
       ∧ (regOf (s x) 1).load = some ⟨0, 0, false, true⟩ ∧ (regOf (s x) 1).loadNext = none ∧ (regionCores (s x) 1).Nodup)
    ∧ (let u := { s Region.reset with regions := [(1, { Region.reset with pending := [(1, .create)] })] }
       u.regions = [((1 : RegionId).val, regOf u 1)] ∧ (regOf u 1).valid = false ∧ (regOf u 1).pending = [(1, .create)] ∧ u.mgmt.testing = []
       ∧ u.spares = [] ∧ u.removalsNext = [] ∧ (regOf u 1).night = none ∧ u.dev ≠ .midnight) := by
  decide +kernel

/-- A bound core at D+128, with copies, marks and rows, whose group the mask commits or discards; a region to be told of its stop; and
an earlier cycle of the step of Noon. -/
theorem witness_groups :
    let t := { tiler [] with pSpec := [(1, true)], vSpec := [(2, ⟨1, false⟩)] }
    let s := fun b => { reg { Region.reset with sampledMask := if b then 32 else 0, stopE5 := true } (st t { Core.reset with group := some 5, specMark := [3] }) with
      clock := { Clock.reset with phase := .dawn, cycle := 32 } }
    (∀ b, (s b).regions = [((1 : RegionId).val, regOf (s b) 1)] ∧ (regOf (s b) 1).valid = true
      ∧ (regOf (s b) 1).night = none ∧ (s b).coreNights = [] ∧ (s b).engines = [] ∧ groupsOf (s b) 1 = [5] ∧ (0 : CoreId) ∈ regionCores (s b) 1
      ∧ (coreOf (s b) 0).group = some 5 ∧ (coreOf (s b) 0).resolving = []
      ∧ (∀ i, tsorted (thOf (coreOf (s b) 0) i).pSpec = true ∧ tsorted (thOf (coreOf (s b) 0) i).vSpec = true
        ∧ tsorted (thOf (coreOf (s b) 0) i).rows = true)
      ∧ ((regOf (s b) 1).sampledMask.getLsbD (5 : BitVec 8).toNat = true ↔ b = true) ∧ shadowKeys (coreOf (s b) 0) = []
      ∧ (s b).clock.phase = .dawn ∧ (s b).clock.cycle ≤ 32 ∧ (s b).dev ≠ .midnight ∧ (s b).clock.cycle < 512)
    ∧ ((tfind (s false).regions (1 : RegionId).val).isSome = true ∧ (regOf (s false) 1).stopE5 = true
      ∧ running (thread (s false) (monitorOf (s false) 1)) = true ∧ (coreOf (s false) (frontOf (s false) 1)).isolated = false)
    ∧ ((s false).clock.phase ≠ .noon ∧ reg.clock.phase ≠ .dawn) := by
  decide +kernel

/-- The last cycles at which the steps of a Day can come, an overrun, and a load that Dusk finds running. -/
theorem witness_day :
    let s := fun p n => { reg { Region.reset with load := some ⟨0, 0, true, false⟩ } (st thr { Core.reset with budget := 1 }) with
      clock := { Clock.reset with phase := p, cycle := n } }
    (∀ n ∈ [32, 128, 319, 320, 448, 512], (s .dawn n).dev ≠ .midnight ∧ (s .dawn n).clock.phase = .dawn ∧ (s .dawn n).clock.cycle ≤ n)
    ∧ (let u := { s .dawn 319 with dawnClear := [(255, 511, 1)], flight := [⟨.engine 0, 255, .set 511⟩] }
      (∃ w ∈ u.dawnClear, w.1 = 255) ∧ (∀ k ∈ u.flight, k.die ≠ 0) ∧ u.clock.cycle ≤ 319)
    ∧ (coreOf (s .dawn 448) 0).isolated = false ∧ (portAt { s .noon 0 with ports := [(0, { LinkPort.reset with loading := some [] })] } 0).loading.isSome = true
    ∧ ((s .noon 130816).clock.cycle ≤ dayLen (s .noon 130816) - duskLen (s .noon 130816)
      ∧ (tfind (s .noon 130816).regions (1 : RegionId).val).isSome = true
      ∧ (regOf (s .noon 130816) 1).load = some ⟨0, 0, true, false⟩ ∧ (s .noon 130816).dev = .daylight
      ∧ regionOf (s .noon 130816) 0 = some 1 ∧ (regOf (s .noon 130816) 1).stopped = false ∧ (regOf (s .noon 130816) 1).night = none
      ∧ (coreOf (s .noon 130816) 0).budget ≠ 0 ∧ (coreOf (s .noon 130816) 0).dayDone = false
      ∧ hart.core ∈ regionCores (s .noon 130816) 1 ∧ (thread (s .noon 130816) hart).run ≠ .unreleased) := by
  decide +kernel

/-- A pending launch of cell 1 alone, with 7 notices of this Dawn posted before it and with 8. -/
theorem witness_launch :
    let l : Launch := ⟨⟨0, none⟩, 0, 5, 1, 0, [], false, false, false, false, 0, false⟩
    let s := { reg { Region.reset with launches := [(63, l)], posted := (0, 7) } with clock := { Clock.reset with cycle := 320 } }
    let u := { reg { Region.reset with launches := [(63, l)], posted := (0, 8) } with clock := { Clock.reset with cycle := 320 } }
    (u.regions = [((1 : RegionId).val, regOf u 1)] ∧ (regOf u 1).posted = (u.clock.dayNo, 8) ∧ waitingOf (regOf u 1) = [.launch 63 l])
    ∧ (regOf s 1).posted = (s.clock.dayNo, 7) ∧ (coreOf s (frontOf s 1)).isolated = false ∧ l.fence = false
    ∧ (sqOf (fnOf s l.fn) l.ring.val).queue = [] ∧
    s.dev ≠ .midnight ∧ s.clock.phase = .dawn ∧ s.clock.cycle ≤ 320 ∧ s.regions = [((1 : RegionId).val, regOf s 1)]
    ∧ (regOf s 1).valid = true ∧ (regOf s 1).stopped = false ∧ (regOf s 1).night = none
    ∧ (thread s (monitorOf s 1)).run ≠ .unreleased ∧ waitingOf (regOf s 1) = [.launch 63 l] ∧ (regOf s 1).launched = false
    ∧ cellBusy (regOf s 1) l.cell = false ∧ cellInRegion s 1 l.cell.toNat = true
    ∧ (ownPlace (coreOf s (frontOf s 1)) 4).isSome = true ∧ l.args = [] := by
  decide +kernel

/-- A bound core in Noon: a predicate with a copy and one without, a speculative row, a marked vector and a word beside it. -/
theorem witness_speculative :
    let t := { tiler [(1, 0), (2, 64)] with pSpec := [(1, true)], rows := [(127, ⟨1, true, false, true⟩)] }
    let s := reg Region.reset (st t { Core.reset with group := some 5, specMark := List.range 8 })
    (CanIssue hart 4 s ∧ pReg (thread s hart) 1 = true ∧ pReg (thread s hart) 0 = true ∧ s.clock.phase = .noon ∧ (coreOf s 0).resolving = [])
    ∧ ((1 : Fin 8) ≠ 0 ∧ (tfind (thread s hart).pSpec (1 : Fin 8).val).isSome = true ∧ (tfind (thread s hart).pSpec (2 : Fin 8).val).isSome = false)
    ∧ ((15 : Fin 16).val < dRows (descOf (thread s hart) 7) ∧ (rowOf (thread s hart) (16 * 7 + 15)).spec = true)
    ∧ (accessible (addr32 s hart 1 64 0) 64 ∧ (wordsOf (addr32 s hart 1 64 0).toNat 64).any (specView (coreOf s 0) (some 0)) = true
      ∧ ∀ w ∈ wordsOf (addr32 s hart 1 64 0).toNat 64, w ∉ moverWants (coreOf s 0))
    ∧ (accessible (addr32 s hart 1 8 7) 8 ∧ (wordsOf (addr32 s hart 1 8 7).toNat 8).all (specView (coreOf s 0) (some 0)) = true
      ∧ (coreOf s 0).stores.length < 8)
    ∧ (accessible (addr32 s hart 2 8 0) 8 ∧ (wordsOf (addr32 s hart 2 8 0).toNat 8).all (specView (coreOf s 0) (some 0)) = false)
    ∧ (Phase.dawn ≠ Phase.noon)
    ∧ (let f := { flit with group := some 5 }
       let u := fun g => reg Region.reset (st thr { Core.reset with inbox := [f], group := g })
       (coreOf (u none) 0).inbox = [f] ∧ verdict (u none) 0 f.header = .accept none ∧ conflicts (coreOf (u none) 0) f = none
       ∧ conflicts (coreOf (u (some 5)) 0) f = none ∧ conflicts (coreOf (u (some 5)) 0) flit = none) := by
  unfold CanIssue accessible
  decide +kernel

/-- The last shadow accumulator, committed and discarded; a deferred fault free to be taken and one behind a hold. -/
theorem witness_resolve :
    let h : Hart := ⟨0, 3⟩
    let s := fun b => reg Region.reset { State.reset with cores := [(0, { Core.reset with resolving := [(15, b)], threads := [(3, { thr with accSpec := [(63, ⟨1, false⟩)] })] })] }
    let d := fun x => reg Region.reset (st { thr with deferredFault := some ⟨0x0A, 4, 1, false⟩, hold := x })
    (∀ b, tsorted (thread (s b) h).accSpec = true
      ∧ (coreOf (s b) 0).resolving.find? (fun e => decide (e.1 = 4 * h.thread.val + (3 : Fin 4).val)) = some (15, b))
    ∧ (let s := d none
       (thread s hart).deferredFault = some ⟨0x0A, 4, 1, false⟩ ∧ s.clock.phase = .noon ∧ regionOf s 0 = some 1
       ∧ (regOf s 1).stopped = false ∧ (thread s hart).run = .ready ∧ (thread s hart).hold = none ∧ (thread s hart).debugHalt = false)
    ∧ (thread (d (some ⟨9, false, false⟩)) hart).hold.isSome = true := by
  decide +kernel

/-! ### Witnesses: the monitor's ports, streams, the shore and the spill caches -/

/-- Cell 2, nested in region 1. -/
def nested : BitVec 128 := BitVec.ofNat 128 (1 + 4 + 2 ^ 38)

/-- Function VF 0 of link 0, its rings 0 enabled with 64 entries, its doorbell page at 4096. -/
def fn0 : FnId := ⟨0, some 0⟩
def host0 : HostFn := { HostFn.reset with regs := [(0x10, 4096), (0x1018, 1), (0x1410, 0x106)] }

/-- The region with VF 0, and 63 entries waiting. -/
def bound (l : Tab Launch) (v : Word) : State :=
  { reg { Region.reset with vf := 0, cellQuota := 1, launches := l } (st (regs [(1, v)])) with
    fns := [(0, { host0 with holding := List.replicate 63 (0, ⟨0, 0, 0, 0, 0, 0, 0, none⟩) })], cells := [(1, region1), (2, nested)] }

theorem witness_monitor :
    let l : Launch := ⟨fn0, 0, 5, 1, 0, [], true, false, false, false, 0, false⟩
    (∀ v ∈ [0, 2, 0x3F3F01], monitors hart 0 1 (bound [(63, l)] v))
    ∧ (deleteCheck (bound [] 0) (some 1) (fld (0 : Word) 0 11) ≠ 0 ∧ deleteCheck (bound [] 2) (some 1) (fld (2 : Word) 0 11) = 0
      ∧ (bound [] 2).cellChanges = [])
    ∧ (bit (0 : Word) 0 = false ∧ fnOfRegion (bound [] 0) 1 = some fn0 ∧ cqEnabled (fnOf (bound [] 0) fn0) (fld (0 : Word) 1 4) = true
      ∧ (fnOf (bound [] 0) fn0).holding.length < 64)
    ∧ (let v : Word := 0x3F3F01
       bit v 0 = true ∧ fld v 16 8 < 0x40 ∧ tfind (regOf (bound [(63, l)] v) 1).launches (fld v 8 6) = some l
       ∧ l.ended = false ∧ l.orphan = false ∧ l.noCqe = false ∧ monitors hart 0 1 (bound [(63, l)] v))
    ∧ (let s := operated { bound [] 0 with cells := [(1, region1)] }
       commands s ∧ (createCheck s none nested none).1 = 0 ∧ deleteCheck s none (0#11).toNat ≠ 0) := by
  refine ⟨?_, by decide +kernel, by decide +kernel, ⟨by decide +kernel, by decide +kernel, by decide +kernel, by decide +kernel,
    by decide +kernel, by decide +kernel, ⟨runs_of _ _ _ _ (by decide +kernel), by decide +kernel, by decide +kernel, by decide +kernel⟩⟩,
    operated_commands _, by decide +kernel, by decide +kernel⟩
  simp only [List.forall_mem_cons]
  refine ⟨⟨runs_of _ _ _ _ (by decide +kernel), by decide +kernel, by decide +kernel, by decide +kernel⟩,
    ⟨runs_of _ _ _ _ (by decide +kernel), by decide +kernel, by decide +kernel, by decide +kernel⟩,
    ⟨runs_of _ _ _ _ (by decide +kernel), by decide +kernel, by decide +kernel, by decide +kernel⟩, by simp⟩

/-- The same monitor with a full completion ring and 64 entries that wait for it, with a removal of another cell already pending, and
the cycles about D+128. -/
theorem witness_monitorPorts :
    (let f := { host0 with cq := [(0, { CqRing.reset with tailWrap := true })] }
     let s := fun n => { bound [] 0 with fns := [(0, { f with holding := List.replicate n (0, ⟨0, 0, 0, 0, 0, 0, 0, none⟩) })] }
     (∀ n ∈ [63, 64], fnOfRegion (s n) 1 = some fn0 ∧ cqEnabled (fnOf (s n) fn0) (fld (0 : Word) 1 4) = true
       ∧ cqFull (cqOf (fnOf (s n) fn0) (fld (0 : Word) 1 4)) = true)
     ∧ heldBack (fnOf (s 63) fn0) = 63 ∧ heldBack (fnOf (s 64) fn0) = 64)
    ∧ (let s := { bound [] 2 with cellChanges := [⟨5, 3, none⟩] }
       deleteCheck s (some 1) (fld (2 : Word) 0 11) = 0 ∧ ∀ c ∈ s.cellChanges, c.entry = none)
    ∧ (let s := fun n => { bound [] 0 with clock := { (bound [] 0).clock with cycle := n } }
       (Runs hart 0 4 (s 127) ∧ regionOf (s 127) 0 = some 1 ∧ (s 127).clock.cycle < 128)
       ∧ Runs hart 0 4 (s 128) ∧ regionOf (s 128) 0 = some 1 ∧ 128 ≤ (s 128).clock.cycle) := by
  exact ⟨by decide +kernel, by decide +kernel, ⟨runs_of _ _ _ _ (by decide +kernel), by decide +kernel, by decide +kernel⟩,
    runs_of _ _ _ _ (by decide +kernel), by decide +kernel, by decide +kernel⟩

/-- A fill of `n` bytes at 0, a compare with a constant, a marker on counter 255 of cell 1, and a decrypting read of one block. -/
def fillOf (n : Nat) : StreamCmd := ⟨[2, 0, BitVec.ofNat 64 n, 7, 0, 0, 0, 0], hart, 1⟩
def compareOf : StreamCmd := ⟨[3 + 2 ^ 52, 0, 256, 7, 0, 0, 0, 0], hart, 1⟩
def markerOf : StreamCmd := ⟨[4, 1 + 255 * 2 ^ 11, 0, 0, 0, 0, 0, 0], hart, 1⟩
def decryptOf : StreamCmd := ⟨[2 ^ 9, 0, 4096, 0, 0, 1, 0, 0], hart, 1⟩

/-- A write and a read of one burst, unscheduled; their runs, the write's flits taken by the E-die. -/
def writeOf0 : StreamCmd := ⟨[1, 0, 256, 0, 0, 0, 0, 0xFFFFFF], hart, 1⟩
def readOf (slot : Word) : StreamCmd := ⟨[0, 0, 256, 0, 0, 1, 0, slot + 64 * 2 ^ 40], hart, 1⟩

def runOf0 (c : StreamCmd) : StreamRun :=
  ⟨c, 0, [], 0, [], [], 0, 0, [], 0, [], [], [], [], 0, 0, 0, [], 0, 0, false, false⟩

def writing : StreamRun := { runOf0 writeOf0 with outq := (List.range 4).map fun i => ⟨i, List.replicate 8 ⟨BitVec.ofNat 64 i, false⟩⟩ }
def reading (slot : Word) : StreamRun := runOf0 (readOf slot)

/-- Region 1 with bulk window 0, all engines, one key, and engine 255 as given. -/
def streams (q : List StreamCmd) (r : Option StreamRun) (t : Thread := regs [(1, 0xBFFC0)]) : State :=
  { reg { Region.reset with bulk := [(0, 1)], engines := BitVec.allOnes 256, keys := [(0, ⟨1, 0, 0, 4096, 0, 0⟩)], staging := List.replicate 16 1 } (st t) with
    engines := [((255 : EngineId).val, { Engine.reset with queue := q, run := r })] }

/-- Noon offset 0 is an inbound slot of shore port 0 and belongs to a read with its first flit in staging. -/
def owned : State :=
  let e : BitVec 128 := BitVec.ofNat 128 (1 + 2 + 16 + 2 ^ 96)
  { streams [] (some { reading 0 with window := [(0, ⟨0, 0, 4⟩)], queue := [(0, [⟨0, List.replicate 8 ⟨9, false⟩⟩])] }) with
    routers := [(0, { Router.reset with bank0 := [(0, e)] })] }

theorem witness_streamPorts :
    let s := streams [] none
    let x : StreamCmd := ⟨readDesc (coreOf s 0) 0 (gReg (thread s hart) 1).toNat, hart, 1⟩
    (Runs hart 0 4 s ∧ regionOf s 0 = some 1 ∧ (coreOf s 0).isolated = false)
    ∧ (gReg (thread s hart) 1).toNat % 64 = 0 ∧ (gReg (thread s hart) 1).toNat + 64 ≤ 0xC0000 ∧ dChain x.desc = false
    ∧ idleEngine s 1 = some 0 ∧ stageFits s x = true
    ∧ idleEngine { s with regions := [(1, { regOf s 1 with engines := 0 })] } 1 = none
    ∧ (let s := streams [] none { thr with streamDone := [7] }
       Runs hart 0 4 s ∧ (thread s hart).streamDone = [7] ∧ ∀ k ∈ s.engines, k.2.undelivered = [])
    ∧ (thread s hart).streamDone = []
    ∧ (let s := streams [] (some (runOf0 (fillOf 256)))
       Runs hart 0 4 s ∧ s.engines = [((255 : EngineId).val, engineOf s 255)] ∧ (engineOf s 255).run = some (runOf0 (fillOf 256))
       ∧ (engineOf s 255).ahead = [] ∧ (engineOf s 255).queue = [] ∧ dXfer (fillOf 256).desc = fld (gReg (thread s hart) 1) 20 16 ∧ hears hart s) := by
  unfold hears
  refine ⟨⟨runs_of _ _ _ _ (by decide +kernel), by decide +kernel, by decide +kernel⟩, by decide +kernel, by decide +kernel,
    by decide +kernel, by decide +kernel, by decide +kernel, by decide +kernel,
    ⟨runs_of _ _ _ _ (by decide +kernel), by decide +kernel⟩, by decide +kernel, runs_of _ _ _ _ (by decide +kernel), by decide +kernel⟩

theorem witness_streams :
    (let s := streams [fillOf 256] none
     (engineOf s 255).queue = [fillOf 256] ∧ (engineOf s 255).run = none ∧ (engineOf s 255).ahead = [] ∧ descOk s 255 (fillOf 256) = true
     ∧ stageFits s (fillOf 256) = true ∧ (dKind (fillOf 256).desc ≠ 0 ∨ dSparse (fillOf 256).desc = 0))
    ∧ (descOk (streams [fillOf 4] none) 255 (fillOf 4) = false ∧ hears hart (streams [fillOf 4] none))
    ∧ (let s := streams [] (some (runOf0 (fillOf 256)))
       dKind (fillOf 256).desc = 2 ∧ s.bulk.wf = true ∧ dFarA (fillOf 256).desc = false
       ∧ nextBurst (runOf0 (fillOf 256)) = some ⟨0, 256, false⟩ ∧ burstFar (fillOf 256).desc ⟨0, 256, false⟩ = false)
    ∧ (dKind compareOf.desc = 3 ∧ nextBurst (runOf0 compareOf) = some ⟨0, 256, false⟩ ∧ burstFar compareOf.desc ⟨0, 256, false⟩ = false)
    ∧ (let y := { runOf0 compareOf with bursts := List.replicate 8 ⟨0, 256, false⟩, issued := 256 }
       y.bursts[7]? = some ⟨0, 256, false⟩ ∧ (engineOf (streams [] (some y)) 255).dying = []
       ∧ ∀ j < 256, bulkBad (streams [] (some y)) (burstAddr compareOf.desc ⟨0, 256, false⟩ + j) = false)
    ∧ (∀ c ∈ [fillOf 256, compareOf], let u := putRun 255 (runOf0 c) (streams [] (some (runOf0 c)))
       (engineReady u 255).any (granted u) = true ∧ (runOf0 c).overflowed = false ∧ (runOf0 c).bursts.length < 8
       ∧ (let v := putRun 255 (runOf0 c) { u with engines := (254, { Engine.reset with run := some (runOf0 (fillOf 256)) }) :: u.engines }
          (engineReady v 255).any (fun x => !granted v x) = true))
    ∧ (let z := { runOf0 compareOf with bursts := [⟨0, 256, false⟩], issued := 256 }
       let s := { streams [] none with engines := [((255 : EngineId).val, { Engine.reset with dying := [z] })] }
       (dyingBursts (engineOf s 255))[0]? = some (z, ⟨0, 256, false⟩) ∧ burstFar z.cmd.desc ⟨0, 256, false⟩ = false)
    ∧ (dKind markerOf.desc = 4 ∧ markerReached (streams [] (some (runOf0 markerOf))) markerOf.desc = true)
    ∧ (dKind (fillOf 256).desc ≠ 3 ∧ streamFinished { runOf0 (fillOf 256) with issued := 256, written := 256 } = true)
    ∧ (let y := { runOf0 decryptOf with ingest := (List.range 512).map fun i => (i, ⟨0, false⟩) }
       dKind decryptOf.desc = 0 ∧ dDecrypt decryptOf.desc = true
       ∧ tfind (regOf (streams [] (some y)) 1).keys (dKeySlot decryptOf.desc) = some ⟨1, 0, 0, 4096, 0, 0⟩
       ∧ 4096 * (y.released + 1) ≤ dStored y.bitmap decryptOf.desc ∧ ∀ j < 512, (tfind y.ingest (512 * y.released + j)).isSome = true)
    ∧ (let s := { streams [] none with engines := [((255 : EngineId).val, { Engine.reset with arrivals := [(1, 1, 511)] })] }
       (engineOf s 255).arrivals = [(1, 1, 511)] ∧ flagIn (cellEntry s (1#11).toNat) (511#10).toNat = some (0, 511)) := by
  unfold hears
  decide +kernel

/-- A slot that a read owns, its flit in staging and not. -/
theorem witness_ownedSlot :
    ∀ b : Bool, let y := { reading 0 with window := [(0, ⟨0, 0, 4⟩)], queue := if b then [(0, [⟨0, List.replicate 8 ⟨9, false⟩⟩])] else [] }
      let s := { owned with
        clock := { owned.clock with cycle := 512 }
        engines := [((255 : EngineId).val, { Engine.reset with run := some y })] }
      s.dev = .daylight ∧ s.clock.phase = .noon ∧ isSlot s 0 .inbound ((512#24).toNat - 512) = true ∧ s.clock.cycle ≤ (512#24).toNat
      ∧ slotOwner s 0 .inbound ((512#24).toNat - 512) = some (255, y) ∧ nextFlit s y 0 = some 0
      ∧ ((stagedNext s y 0).isSome = true ↔ b = true) ∧ dAbort y.cmd.desc = false := by
  decide +kernel

/-- A read and a write: the start of each, the burst of the write, those of the read held and not held, and its completion; a tag read
that is chosen; a window that begins today and later ones. -/
theorem witness_readWrite :
    (∀ x ∈ [readOf 0xFFFFFF, writeOf0], let s := streams [x] none
     (engineOf s 255).queue = [x] ∧ (engineOf s 255).run = none ∧ (engineOf s 255).ahead = [] ∧ descOk s 255 x = true
     ∧ stageFits s x = true ∧ dSparse x.desc = 0)
    ∧ (let s := streams [] (some writing)
       let u := putRun 255 writing s
       (engineOf s 255).run = some writing ∧ (engineOf s 255).ahead = [] ∧ dKind writing.cmd.desc = 1 ∧ writing.overflowed = false
       ∧ (engineReady u 255).all (granted u) = true ∧ s.bulk.wf = true ∧ dFarA writing.cmd.desc = false
       ∧ (nextWrite writing).isSome = true)
    ∧ (∀ n ∈ [0, 7, 8], let y := { reading 0xFFFFFF with bursts := List.replicate n ⟨0, 256, false⟩ }
       let s := streams [] (some y)
       let u := putRun 255 (markBurst s ⟨0, 256, false⟩ y) s
       dKind y.cmd.desc = 0 ∧ dSparse y.cmd.desc = 0 ∧ nextBurst y = some ⟨0, 256, false⟩ ∧ burstFar y.cmd.desc ⟨0, 256, false⟩ = false
       ∧ y.overflowed = false ∧ (fetchHeld s (markBurst s ⟨0, 256, false⟩ y) = true ↔ n = 8)
       ∧ (engineReady u 255).all (granted u) = true)
    ∧ (let b : Burst := ⟨0, 256, false⟩
       let y := { reading 0xFFFFFF with bursts := [b], issued := 256 }
       let s := streams [] (some y)
       (engineOf s 255).dying = [] ∧ y.bursts[0]? = some b ∧ burstFar y.cmd.desc b = false ∧ (∀ j < 256, bulkBad s (burstAddr y.cmd.desc b + j) = false)
       ∧ dT2 y.cmd.desc = false ∧ dDecrypt y.cmd.desc = false ∧ dNmem y.cmd.desc = 1 ∧ y.replaced = [] ∧ dLength y.cmd.desc = 256
       ∧ ∀ f < 4, flitData y f = none)
    ∧ (let y := { runOf0 decryptOf with ingest := (List.range 512).map fun i => (i, ⟨0, false⟩) }
       let s := streams [] (some y)
       (engineOf s 255).run = some y ∧ (engineOf s 255).ahead = [] ∧ (engineOf s 255).queue = []
       ∧ granted s (tagReady s 255 1 (engineDie 255) ⟨1, 0, 0, 4096, 0, 0⟩ 0) = true)
    ∧ (let s := fun n => { owned with clock := { owned.clock with cycle := n } }
       windowFor (s 511) 0 .inbound 0 4 = some ⟨(s 511).clock.dayNo, 0, 4⟩ ∧ windowFor (s 512) 0 .inbound 0 4 = some ⟨1, 0, 4⟩) := by
  decide +kernel

theorem witness_shore :
    let e : BitVec 128 := BitVec.ofNat 128 (1 + 2 + 16 + 2 ^ 96)
    let s := { reg { Region.reset with vf := 0 } with
      routers := [(0, { Router.reset with bank0 := [(0, e)] })], shoreIn := [(0, [flit])], shoreOut := [(0, [flit])] }
    (s.dev = .daylight ∧ s.clock.phase = .noon ∧ 512 ≤ (512#24).toNat ∧ isSlot s 0 .inbound ((512#24).toNat - 512) = true ∧ s.engines = []
      ∧ tget [] s.deadSlots 0 = [] ∧ (∀ k, replayedAt s 0 k = false) ∧ tget [] s.shoreTc0 0 = [] ∧ tget [] s.shoreIn 0 = [flit]
      ∧ tget [] { s with shoreTc0 := [(0, [flit, flit])] }.shoreTc0 0 = [flit, flit])
    ∧ (tget [] s.shoreOut 0 = [flit] ∧ flit.outbound = none ∧ hDevice flit.header = s.deviceId.toNat ∧ flit.index = 0)
    ∧ (∀ n ∈ [2, 3], let w : WantedLine := ⟨1, BitVec.allOnes 36, fn0, 3, List.replicate n [], false⟩
       let u := { s with spill0 := { Spill.reset with wanted := [w] } }
       (spillOf u 0).wanted.find? (isWanted 1 (BitVec.allOnes 36)) = some w ∧ w.pieces.length = n ∧ w.void = false
       ∧ lineAt (spillOf u 0) 1 (BitVec.allOnes 36) = none ∧ (1, BitVec.allOnes 36) ∉ (spillOf u 0).lost
       ∧ victimWay (spillOf u 0) ((BitVec.allOnes 36).toNat % 32768) = some (0, none))
    ∧ (wayFailed { Spill.reset with faults := [(15, none)] } 0 15 = true ∧ wayFailed { Spill.reset with faults := List.replicate 16 (15, some 0) } 0 15 = true
      ∧ wayFailed { Spill.reset with faults := List.replicate 15 (15, some 0) } 0 15 = false)
    ∧ commands (operated s) := by
  exact ⟨by decide +kernel, by decide +kernel, by decide +kernel, by decide +kernel, operated_commands _⟩

/-! ### Witnesses: failures, regions, management -/

/-- The last words of local, code and bulk memory; a write stream at its port; and the spare rows and stores the statement names. -/
theorem witness_failures :
    let y := runOf0 ⟨[1, 0, 64, 0, 0, 0, 0, 0], hart, 1⟩
    let s := streams [] (some y)
    let row := fun x : SpareRow => { State.reset with spares := [((639 : Fin 640).val, x)] }
    ((0x17FFF#17).toNat < 0x18000 ∧ (0x1FFF#17).toNat < 0x2000)
    ∧ ((0x2FFFFFFF#30).toNat / 4 * 8 + (7 : Fin 8).val) * 256 + (0x2FFFFFFF#30).toNat % 4 * 64 < 0x6000000000
    ∧ ((engineOf s 255).run = some y ∧ (engineOf s 255).ahead = [] ∧ (engineOf s 255).queue = [] ∧ (0 : ShoreId).val ∈ portsOf s y.cmd ∧ hears hart s)
    ∧ ((rowOf_ State.reset 639).pending = none ∧ (rowOf_ State.reset 639).first = 31 ∧ (rowOf_ State.reset 639).second = 31)
    ∧ (let x := rowOf_ (row { SpareRow.reset with first := 16 }) 639
       x.pending = none ∧ x.first ≠ 31 ∧ x.first ≠ BitVec.ofNat 5 (0 : Fin 17).val ∧ x.second = 31)
    ∧ (let x := rowOf_ (row { SpareRow.reset with pending := some (16, 31) }) 639
       x.pending = some (16, 31) ∧ x.migrated = false ∧ x.shiftDay = none ∧ (16 : BitVec 5) ≠ x.first ∧ x.stopDay ≤ 0)
    ∧ (State.reset.removalsNext = [] ∧ (List.range 62).length ≤ 62 ∧ (rowAt State.reset 10239).pending = none)
    ∧ (let u := { State.reset with removals := List.replicate 64 1 }
       u.removals.length = 64 ∧ BitVec.ofNat 14 (10239 : CoreId).val ∉ u.removals ∧ (rowAt u 10239).pending = none ∧ u.removedDies = [])
    ∧ (triggerHolds State.reset 639 0 .eightWords = false
      ∧ triggerHolds { State.reset with history := [(17 * 639, ⟨(List.range 8).map fun k => (false, k, 0), []⟩)] } 639 0 .eightWords = true)
    ∧ (coreOf (st thr { Core.reset with inbox := [flit] }) 0).inbox = [flit]
    ∧ (let c : FlashPair (List (BitVec 384)) := State.reset.flash.certs
       c.last = false ∧ { c with a := { c.a with valid := true } }.a.valid = true)
    ∧ (coreOf (st thr { Core.reset with selfTest := some false }) 0).selfTest = some false
    ∧ FlashItem.spareMap ∈ { State.reset.flash with busy := [.spareMap] }.busy := by
  unfold hears
  decide +kernel

/-- A request for region 1 on core 0, and one whose rectangle leaves the mesh. -/
def request (e : BitVec 128) : RegionReq := ⟨1, e, 0, 0, 0, List.replicate 16 0, [], 0, 0x0FF, 0⟩

/-- A region whose boot image stands at bulk address 0 with its tables at 128; byte 130 holds the `MODE` of the boot block. -/
def booting (w : List (BitVec 11 × BitVec 11)) (mode : Byte) : State :=
  { reg { Region.reset with bulk := w, bootDue := true } with
    bulk := [(0, 1), (2, 1), (8, 128), (16, 128), (24, 128)] ++ (if mode = 0 then [] else [(130, mode)]) }

theorem witness_regions :
    let s := operated State.reset
    let u := operated (reg)
    let n := reg { Region.reset with night := some .full }
    (commands s ∧ createStatus s (request 0) = 0 ∧ grantIndex s none = some 1)
    ∧ createStatus s (request (BitVec.ofNat 128 (127 * 2 ^ 10 + 2 ^ 24))) = 0x15
    ∧ (commands u ∧ (regOf u 1).valid = true ∧ (regOf u 1).pending = [] ∧ hasNested u 1 = false)
    ∧ (coveredSoon s 10239 = false
    ∧ ((regOf n 1).valid = true ∧ (regOf n 1).night.isSome = true ∧ (regOf n 1).waking = false)
    ∧ s.twilightAt = none
    ∧ (let b := booting [] 0
       (regOf b 1).valid = true ∧ (regOf b 1).bootDue = true ∧ (regOf b 1).night = none ∧ (regOf b 1).borderOk = true ∧ tablesOk b 1 1 = false)
    ∧ (let b := booting [(0, 1)] 0
       tablesOk b 1 1 = true ∧ tablesPoisoned b 1 1 = false ∧ badBlock b (bootHeader b 0) 1 (cFront region1) = some 0)
    ∧ (let b := booting [(0, 1)] 1
       tablesOk b 1 1 = true ∧ tablesPoisoned b 1 1 = false ∧ badBlock b (bootHeader b 0) 1 (cFront region1) = none ∧ badSpare b (bootHeader b 0) = false
       ∧ badDigest b ((List.range 1).foldl (fun t m => placeMember b (bootHeader b 0) region1 m t) b) (bootHeader b 0) region1 1 = none
       ∧ bit (mapEntry b (bootHeader b 0) 0) 15 = false ∧ (coreOf b (cMember region1 0)).isolated = false)
    ∧ (0x5FF, 1) ∈ ({ State.reset with scrubbing := [((0x5FF : BitVec 11), (1 : BitVec 11))] } : State).scrubbing
    ∧ (regOf (reg { Region.reset with zeroing := true }) 1).zeroing = true)
    ∧ (let c := operated (reg Region.reset (st thr { Core.reset with released := true }))
       commands c ∧ (coreOf c 0).released = true ∧ (coreOf c 0).night = none ∧ mayRun c 0 = true ∧ (coreOf c 0).specMark = []) := by
  exact ⟨⟨operated_commands _, by decide +kernel, by decide +kernel⟩, by decide +kernel,
    ⟨operated_commands _, by decide +kernel⟩, by decide +kernel, operated_commands _, by decide +kernel⟩

/-- A boot image of two boot blocks of which the second, which no core takes, is bad; and one whose header is poisoned. -/
theorem witness_bootBlocks :
    let b := { booting [(0, 1)] 1 with bulk := [(0, 1), (2, 2), (8, 128), (16, 128), (24, 128), (130, 1), (192, 1)] }
    let c := { booting [(0, 1)] 1 with bulkPoison := [0] }
    ((regOf b 1).valid = true ∧ (regOf b 1).bootDue = true ∧ (regOf b 1).night = none ∧ (regOf b 1).borderOk = true)
    ∧ (tablesOk b 1 1 = true ∧ tablesPoisoned b 1 1 = false ∧ badBlock b (bootHeader b 0) 1 (cFront region1) = none
      ∧ badSpare b (bootHeader b 0) = true)
    ∧ tablesPoisoned c 1 1 = true := by
  decide +kernel

def image0 : FwImage := { seq := 1, svn := 2, len := 0, digest := 0, sig := 0, crc := 0, image := [] }

theorem witness_management :
    let b := { State.reset with boot := { State.reset.boot with step := 3 } }
    let o := operated { reg with boot := { State.reset.boot with step := 3 }, flash := { State.reset.flash with slotB := ⟨some image0, true⟩ } }
    let w := { o with mgmt := { o.mgmt with presence := [0], debug := some 1 } }
    let u := { b with mgmt := { b.mgmt with connected := true, presence := [0] } }
    let e := operated { State.reset with mgmt := { State.reset.mgmt with presence := [0] } }
    (3 ≤ b.boot.step ∧ b.mgmt.owned = []) ∧ (3 ≤ o.boot.step ∧ o.mgmt.owned ≠ [])
    ∧ (u.mgmt.connected = true ∧ u.mgmt.owned = [] ∧ u.mgmt.presence ≠ [] ∧ ([1, 2, 3, 4] : List (BitVec 384)).length ≤ 4)
    ∧ (commands o ∧ o.mgmt.presence = [])
    ∧ (commands w ∧ w.mgmt.presence ≠ [] ∧ w.mgmt.debug = some 1 ∧ regionOf w 0 = some 1 ∧ regionOf w 10239 ≠ some 1
      ∧ (slotOf w.flash (decide ((1 : Fin 2) = 1))).image = some image0 ∧ ∃ x ∈ w.regions, existsOrPending x.2 = true)
    ∧ (commands e ∧ e.mgmt.presence ≠ [] ∧ ∀ x ∈ e.regions, existsOrPending x.2 = false)
    ∧ (let t := { w with dev := .twilight, removals := [1], spares := [(0, { SpareRow.reset with first := 16 })] }
       t.dev = .twilight ∧ namedFailed t (.removal 0) = true ∧ namedFailed t (.spare 0 16) = true ∧ t.removalsNext = [])
    ∧ (∀ b, ({ w with mgmt := { w.mgmt with testing := [(.spare 0 16, b, 0)] } } : State).mgmt.testing = [(.spare 0 16, b, 0)] ∧ 0 ≤ w.clock.now)
    ∧ (let t := { w with mgmt := { w.mgmt with testing := [(.removal 1, true, 0)] } }
       t.mgmt.testing = [(.removal 1, true, 0)] ∧ 0 ≤ t.clock.now ∧ t.removalsNext = [])
    ∧ (w.mgmt.jtagSessions = 0 ∧ { w.mgmt with jtagSessions := 1 }.jtagSessions ≠ 0) := by
  exact ⟨by decide +kernel, by decide +kernel, by decide +kernel, ⟨operated_commands _, by decide +kernel⟩,
    ⟨⟨by decide +kernel, by decide +kernel, by decide +kernel⟩, by decide +kernel⟩,
    ⟨operated_commands _, by decide +kernel, by decide +kernel⟩, by decide +kernel⟩

theorem witness_attestation :
    let s := fun m => { reg with boot := { State.reset.boot with step := 3 }, mgmt := m }
    let m0 := State.reset.mgmt
    let m := { m0 with spdmVersion := true, spdmCaps := true, spdmAlgs := true }
    let open_ := { m with sessions := [(15, ⟨.smbus, false, none⟩)] }
    let done := fun r => { m with sessions := [(15, ⟨.smbus, true, r⟩)] }
    let k : KeyReq := { slot := 15, key := 0, imageId := 0, imageBase := 4096, imageLen := 64, tagBase := 16, ivSalt := 0, gen := 0, measurement := 0 }
    (carries (s m0) .smbus = true ∧ m0.spdmVersion = false ∧ m0.spdmCaps = false ∧ m0.spdmAlgs = false ∧ 3 ≤ (s m0).boot.step)
    ∧ (carries (s m) .smbus = true ∧ m.spdmVersion = true ∧ m.spdmCaps = true ∧ m.spdmAlgs = true ∧ (7 : Fin 8) ≠ 0
      ∧ (let full := { m with sessions := (List.range 15).map fun i => (i, ⟨.vdm, true, none⟩) }
         (15 : Fin 16).val = full.sessions.length ∧ full.sessions.map Prod.fst = List.range (15 : Fin 16).val))
    ∧ (tfind open_.sessions (15 : Fin 16).val = some ⟨.smbus, false, none⟩ ∧ carries (s open_) .smbus = true)
    ∧ (tfind (done none).sessions (15 : Fin 16).val = some ⟨.smbus, true, none⟩ ∧ (regOf (s (done none)) 1).valid = true)
    ∧ tfind (done (some 1)).sessions (15 : Fin 16).val = some ⟨.smbus, true, some 1⟩
    ∧ (k.measurement = (regOf (s m) 1).measurement ∧ k.gen = (regOf (s m) 1).gen ∧ k.imageBase.toNat % 4096 = 0 ∧ k.imageLen ≠ 0
      ∧ k.imageLen.toNat % 64 = 0 ∧ k.tagBase.toNat % 16 = 0)
    ∧ ((1 : BitVec 8) ≠ (regOf (s m) 1).gen ∧ keyOk { k with imageLen := 63 } = false) := by
  decide +kernel

theorem witness_mgmtRegisters :
    let s := operated { reg with boot := { State.reset.boot with step := 3 } }
    (3 ≤ s.boot.step ∧ commands s ∧ s.dev = .daylight ∧ (∃ w, mgmtReg s (0x70048#32).toNat = some w)
      ∧ (0x70048#32).toNat % 8 = 0 ∧ mgmtReg s (0x5FFF8#32).toNat = none ∧ (0x5FFF8#32).toNat < 0x60000
      ∧ (regOf s 1).valid = true ∧ otherQuotas s 1 + (1024#64).toNat % 2 ^ 11 ≤ 1024 ∧ 1024 < otherQuotas s 1 + (1025#64).toNat % 2 ^ 11
      ∧ (0x8#32) ≠ 0 ∧ (0x8#32).toNat % 8 = 0 ∧ (0x8#32).toNat < 0x60000 ∧ s.mgmt.owned ≠ []
      ∧ ∀ x ∈ (List.replicate 64 (899 : BitVec 16)).zipIdx, x.1.toInt < tripTemp x.2)
    ∧ (let t := { s with dev := .twilight }
       commands t ∧ t.dev ≠ .daylight ∧ dayOk ((32#64).toNat % 2 ^ 17) t.clock.duskDivNext.toNat = true) := by
  refine ⟨⟨by decide +kernel, operated_commands _, by decide +kernel, ?_, by decide +kernel⟩, ⟨by decide +kernel, by decide +kernel, by decide +kernel⟩,
    by decide +kernel, by decide +kernel⟩
  exact Option.isSome_iff_exists.mp (by decide +kernel)

/-! ### Witnesses: the host, links, resets -/

/-- Region 1 bound to VF 0 of link 0, whose function is `f`, the endpoint up. -/
def hosted (f : HostFn) (l : Tab Launch := []) : State :=
  { reg { Region.reset with vf := 0, bulk := [(0, 1)], launches := l } with
    boot := { State.reset.boot with step := 3 }, pins := { State.reset.pins with perstN0 := true }, fns := [(0, f)] }

/-- Ring 0 with one descriptor. -/
def queued (d : List Word) : HostFn := { host0 with sq := [(0, { SqRing.reset with queue := [(0, d)] })] }

/-- An invalidation whose last cycle the next one is, with no command waiting. -/
theorem witness_invalidationDue :
    let s := hosted { host0 with invalidations := [(8, 1, 1)] }
    s.pending = [] ∧ ((8, 1, 1) : BitVec 52 × Nat × Nat) ∈ (fnOf s fn0).invalidations ∧ 1 ≤ s.clock.now + 1 := by
  decide +kernel

theorem witness_hostRegisters :
    let s := hosted host0
    hostUp State.reset 0 = false
    ∧ (hostUp s fn0.link = true ∧ (fnOf (hosted { host0 with lock := true }) fn0).lock = true ∧ (fnOf s fn0).lock = false
      ∧ sqEnabled (fnOf s fn0) 15 = false ∧ (0xF1#32).getLsbD 0 = true ∧ cqEnabled (fnOf s fn0) 15 = false
      ∧ (0x110#32).getLsbD 8 = true ∧ 6 ≤ (0x110#32).toNat % 32 ∧ (0x110#32).toNat % 32 ≤ 16 ∧ (0x106#32).toNat % 32 = 6
      ∧ doorbell (fnOf s fn0) ≠ 0 ∧ (1#4).getLsbD 0 = true ∧ (3#32).toNat % 4 = 3 ∧ (2#4).getLsbD 1 = true ∧ (0x8000#32).getLsbD 15 = true)
    ∧ (let l : Launch := ⟨fn0, 0, 5, 1, 0, [], true, true, false, false, 0, false⟩
       tfind (regOf (hosted host0 [(63, l)]) 1).launches 63 = some l ∧ l.fn = fn0) := by
  decide +kernel

theorem witness_rings :
    let f := { host0 with sq := [(0, { SqRing.reset with tail := 1 })] }
    let s := hosted f
    let d := fun n : Word => [n, 0, 0, 0, 0, 0, 0, 0]
    let full : Tab Launch := (List.range 64).map fun k => (k, ⟨⟨1, none⟩, 0, 0, 1, 0, [], true, false, false, false, 0, false⟩)
    let e : Cqe := ⟨1, 0, 0, 0, 0, 0, 0, none⟩
    ((hostUp s fn0.link = true ∧ f.quiet = false ∧ doorbell f ≠ 0 ∧ sqEnabled f 0 = true ∧ (sqOf f 0).error = false
      ∧ (0x3F#17).toNat % 2 ^ 16 < sqSize f 0 ∧ ringCount (sqSize f 0) (sqOf f 0).head (sqOf f 0).headWrap 0x3F false ≤ sqSize f 0
      ∧ ¬ (0x40#17).toNat % 2 ^ 16 < sqSize f 0)
    ∧ (mayFetch f 0 = true ∧ (sqOf f 0).head.toNat < sqSize f 0 ∧ 1 ≤ ringCount (sqSize f 0) (sqOf f 0).head (sqOf f 0).headWrap (sqOf f 0).tail (sqOf f 0).tailWrap
      ∧ regionOfFn s fn0 = some 1 ∧ descBad (some (regOf s 1)) (d 0) = none ∧ descBad (some (regOf s 1)) (d 6) = some 0)
    ∧ (startable (hosted (queued (d 0))) fn0 0 0 = some (0, d 0) ∧ hNoCqe (d 0) = false)
    ∧ (startable (hosted (queued (d 5))) fn0 0 5 = some (0, d 5) ∧ hNoCqe (d 5) = false)
    ∧ (firstLaunch (queued (d 1)) 0 = some (0, d 1) ∧ regionOfFn (hosted (queued (d 1))) ⟨1, none⟩ = none
      ∧ freeLaunch (regOf (hosted (queued (d 1))) 1) = some 0)
    ∧ (freeLaunch (regOf (hosted (queued (d 1)) full) 1) = none
      ∧ regionOfFn (hosted (queued (d 1)) full) fn0 = some 1)
    ∧ startable (hosted (queued (d 2))) fn0 0 2 = some (0, d 2)
    ∧ (let g := { host0 with holding := [(0, e)] }
       cqTakes g 0 = true ∧ g.holding.find? (fun e => decide (e.1.val = 0)) = some (0, e) ∧ e.slot = none))
    ∧ (∀ irq ∈ [0x17F, 0x27F, 0x13F], let g := { host0 with regs := [(0x1418, BitVec.ofNat 32 irq)] }
       (fnReg g (cqBase 0 + 0x18)).toNat = irq ∧ (irq / 2 ^ 8 % 2 ^ 8 ≤ (cqOf g 0).unsignalled + 1 ↔ irq ≠ 0x27F) ∧ (irq / 64 % 2 = 1 ↔ irq ≠ 0x13F))
    ∧ (∀ pm : BitVec 32, pm = 0 ∨ pm = 3 →
       let g := { host0 with msix := [(255, 0)], config := [(0x44, pm), (0x50, 0x80000000)], cq := [(0, { CqRing.reset with due := [63], timer := some (9, 63) })] }
       (cqOf g 0).due = [63] ∧ (cqOf g 0).timer = some (9, 63) ∧ vectorMasked g 63 = false ∧ vectorMasked host0 63 = true ∧ msixOn g = true
       ∧ (inD3 g = true ↔ pm = 3)) := by
  refine ⟨by decide +kernel, by decide +kernel, fun pm h => ?_⟩
  rcases h with rfl | rfl <;>
  decide +kernel

theorem witness_dataPorts :
    let open_ : List Word := [3, 63, 0, 0, 0, 128, 0, 0]
    let out : List Word := [3, 63 + 64 + 128, 0, 0, 0, 128, 0, 0]
    let p : DataPort := ⟨5, 0, 0, open_, 0, 0, 128, [], [], [], [], 0, 0, false, 0, none, none, 0⟩
    let b : PortBurst := ⟨0, 0, 4096, 256, 0⟩
    let l : DataPort := { p with words := [3, 63 + 2 ^ 8, 0, 0, 0, 128, 0, 0], writes := 2, arrived := 1 }
    let q : DataPort := { p with words := out, left := 0, bursts := List.replicate 8 b }
    let s := fun x => hosted { host0 with ports := x }
    (startable (hosted (queued open_)) fn0 0 3 = some (0, open_) ∧ regionOfFn (hosted (queued open_)) fn0 = some 1
      ∧ portOf (hosted (queued open_)) fn0 ((hWord open_ 1).toNat % 64) = none ∧ portDestOk (hosted (queued open_)) 1 open_ = true
      ∧ pPull open_ = false ∧ hNoCqe open_ = false)
    ∧ (let c : List Word := [4, 63, 0, 0, 0, 0, 0, 0]
       let u := hosted { queued c with ports := [(63, p)] }
       startable u fn0 0 4 = some (0, c) ∧ regionOfFn u fn0 = some 1 ∧ (hWord c 1).toNat % 64 = (63 : Fin 64).val ∧ portOf u fn0 63 = some p
       ∧ p.closing = none ∧ pLocal p.words = false ∧ p.buffer = [] ∧ p.toBulk = [] ∧ pDecrypt p.words = false ∧ pLocal l.words = true ∧ l.buffer = [] ∧ l.arrived < l.writes
       ∧ l.closing = none ∧ { l with closing := some (0, 1, 6, false) }.closing.isSome = true)
    ∧ (hostUp (s []) fn0.link = true ∧ fn0.vf.isSome = true ∧ (0x3FFFC0#22).toNat / 0x10000 = (63 : Fin 64).val ∧ portOf (s []) fn0 63 = none)
    ∧ (portOf (s [(63, p)]) fn0 63 = some p ∧ pPull p.words = false ∧ (List.replicate 127 (0 : Byte)).length < p.left
      ∧ p.buffer.length + (List.replicate 127 (0 : Byte)).length < pBurst p.words ∧ p.closing = none ∧ p.toBulk = [] ∧ p.held = [])
    ∧ (let late : PortBurst := { b with ready := 5 }
       let u := s [(62, q), (63, { q with bursts := [late] })]
       portOf u fn0 63 = some { q with bursts := [late] } ∧ regionOfFn u fn0 = some 1 ∧ granted u (portReady 1 0 late false) = false)
    ∧ (regionOfFn (s [(63, q)]) fn0 = some 1 ∧ granted (s [(63, q)]) (portReady 1 fn0.link b false) = true)
    ∧ (portOf (s [(63, q)]) fn0 63 = some q ∧ q.bursts[7]? = some b ∧ pOut q.words = true ∧ q.left = 0
      ∧ (∀ j < b.len, bulkBad (s [(63, q)]) (b.dev + j) = false) ∧ q.bursts = b :: q.bursts.tail)
    ∧ (portDone { p with left := 0 } = true ∧ portDone { p with left := 0, poisonAt := some 64 } = true
      ∧ portOf (s [(63, { p with left := 0 })]) fn0 63 = some { p with left := 0 } ∧ p.closing = none) := by
  decide +kernel

/-- The closes of a port with bytes in its burst, its last burst come and landing or not, its bursts late, and lines that serve
nobody and a stream. -/
theorem witness_portBursts :
    let w : List Word := [3, 63 + 2 ^ 7, 0, 0, 0, 256, 0, 0]
    let out : List Word := [3, 63 + 64 + 128, 0, 0, 0, 256, 0, 0]
    let p : DataPort := ⟨5, 0, 0, w, 0, 0, 0, [], [], [], [], 0, 0, false, 0, none, none, 0⟩
    let b : PortBurst := ⟨0, 0, 4096, 256, 0⟩
    let s := fun x => hosted { host0 with ports := [(63, x)] }
    let bytes := List.replicate 256 ((7 : Byte), false)
    (let c : List Word := [4, 63, 0, 0, 0, 0, 0, 0]
     let u := fun x => hosted { queued c with ports := [(63, x)] }
     ∀ e : Bool, let q := { p with words := [3, 63 + (if e then 2 ^ 8 else 0), 0, 0, 0, 256, 0, 0], left := 192, buffer := List.replicate 64 (1, true), writes := 1 }
       startable (u q) fn0 0 4 = some (0, c) ∧ portOf (u q) fn0 63 = some q ∧ q.closing = none ∧ (pLocal q.words = true ↔ e = true)
       ∧ pDecrypt q.words = false ∧ q.buffer ≠ [] ∧ (u q).engines = [] ∧ waiting (u q) = [] ∧ q.toBulk = [] ∧ q.arrived ≤ q.writes)
    ∧ (let q := fun n => { p with words := [3, 63 + 2 ^ 8, 0, 0, 0, 128, 0, 0], writes := 1, arrived := n, closing := some (0, 1, 6, false) }
       portOf (s (q 0)) fn0 63 = some (q 0) ∧ (q 0).closing.isSome = true ∧ (q 0).toBulk = [] ∧ portSettled (q 0) = false ∧ portSettled (q 1) = true)
    ∧ (let q := { p with bursts := List.replicate 8 b }
       portOf (s q) fn0 63 = some q ∧ q.bursts[7]? = some b ∧ pOut q.words = false ∧ pLocal q.words = false ∧ pDecrypt q.words = false
       ∧ q.left = 0 ∧ q.toBulk = [] ∧ b.dev % 64 = 0 ∧ b.len % 64 = 0 ∧ regionOfFn (s q) fn0 = some 1 ∧ (s q).engines = [] ∧ waiting (s q) = []
       ∧ q.bursts = b :: q.bursts.tail ∧ b.offset = 0 * pBurst q.words)
    ∧ (let q := { p with toBulk := [(b, bytes)] }
       q.bursts[7]? = none ∧ q.left = 0 ∧ q.held = [] ∧ regionOfFn (s q) fn0 = some 1 ∧ granted (s q) (portReady 1 fn0.link b true) = true
       ∧ (let late : PortBurst := { b with ready := 5 }
          let u := hosted { host0 with ports := [(62, q), (63, { p with toBulk := [(late, bytes)] })] }
          portOf u fn0 63 = some { p with toBulk := [(late, bytes)] } ∧ granted u (portReady 1 fn0.link late true) = false))
    ∧ ((⟨[], ⟨[], []⟩⟩ : BurstRead).ecc.bad = [] ∧ relaxedOn { host0 with config := [(0x78, 0x10)] } = true)
    ∧ (let q := { p with words := out, left := 0 }
       portOf (s q) fn0 63 = some q ∧ pOut q.words = true ∧ q.bursts = [] ∧ 0 * pBurst q.words < pCount q.words - q.left
       ∧ pCount q.words - q.left ≤ 1 * pBurst q.words)
    ∧ (let l : WantedLine := ⟨1, 0, fn0, 0, [], false⟩
       let r : StreamRun := { runOf0 ⟨[16, 0, 256, 0, 0, 1, 0, 64 * 2 ^ 40], hart, 1⟩ with bursts := [⟨0, 256, false⟩], issued := 256 }
       let u := fun e => { s p with spill0 := { Spill.reset with wanted := [l] }, engines := e }
       (spillOf (u []) 0).wanted.find? (isWanted 1 0) = some l ∧ lineServes (u []) l = false
       ∧ lineServes (u [(0, { Engine.reset with run := some r })]) l = true) := by
  decide +kernel

/-- Translation and page requests that wait, and a page whose line is on its way. -/
theorem witness_translations :
    (let f := { host0 with atsReqs := [7], pageReqs := [8] };
       7 ∈ (fnOf (hosted f) fn0).atsReqs ∧ (hosted f).engines = [] ∧ 8 ∈ (fnOf (hosted f) fn0).pageReqs
       ∧ 8 ∉ (fnOf (hosted f) fn0).atsReqs ∧ 8 ∉ (fnOf (hosted f) fn0).pageReqs.erase 8
       ∧ tsorted (hosted f).fns = true ∧ (fnOf (hosted f) fn0).pageWait = [] ∧ linkFree (hosted f) fn0.link = true)
    ∧ lineInFlight (hosted host0) fn0 (BitVec.allOnes 52).toNat 1 = false
    ∧ (let u := { hosted host0 with spill0 := { Spill.reset with wanted := [⟨1, 16, fn0, 0, [], false⟩] } }
       lineInFlight u fn0 1 1 = true ∧ (fnOf u fn0).invalidations.length < 32) := by
  decide +kernel

/-- A port in each of its states; an entry whose last window begins at the last cycle it may, and a load of it. -/
theorem witness_links :
    let body := fun x : Word => [x, 0, 0, 0, 5, 0, 0, 0]
    let s := fun p => operated { reg with boot := { State.reset.boot with step := 5 }, assigned := true, ports := [((15 : PortId).val, p)] }
    let tr := { LinkPort.reset with state := .training, peerDevice := 5, handshakes := 2, delays := [7], ctrlDue := true }
    let e : BitVec 128 := BitVec.ofNat 128 (1 + 256 * 2 ^ 1)
    let f := mkFlit 1 0 false 0 (body 0)
    let x := sealFlit 0 f
    let upd : LinkPort := { LinkPort.reset with state := .up, bank0 := [e], gap := true, queue := [⟨9, 0, none, [f], false, true⟩], credits := [(0, 1)] }
    (3 ≤ (s tr).boot.step ∧ 5 ≤ (s tr).boot.step ∧ (s tr).pins.linkClk = true)
    ∧ (tr.state = .training ∧ (nth 0 (body (2 ^ 18)) 0).toNat / 2 ^ 18 % 4 = 1 ∧ tr.peerDevice.toNat = (nth 0 (body 0) 4).toNat % 2 ^ 14
      ∧ tr.peerPort.toNat = (nth 0 (body 0) 4).toNat / 2 ^ 14 % 16 ∧ 2 ≤ tr.handshakes ∧ tr.delays ≠ [] ∧ tr.retraining = none
      ∧ LinkPort.reset.peerDevice.toNat ≠ (nth 0 (body 0) 4).toNat % 2 ^ 14 ∧ tr.ctrlDue = true)
    ∧ (upd.state = .up ∧ ({ LinkPort.reset with retraining := some (5, 0) } : LinkPort).retraining.isSome = true)
    ∧ (let d := { s upd with clock := { Clock.reset with phase := .dusk } }
       d.clock.phase = .dusk ∧ d.dev ≠ .midnight ∧ upd.loading = none ∧ (s upd).clock.phase ≠ .dusk ∧ windowsClear [e, e] = false
       ∧ (List.replicate 257 e).length > 256)
    ∧ (commands (s upd) ∧ [e].length ≤ 256 ∧ [e].all (windowOk (s upd) (effDay (s upd))) = true ∧ windowsClear [e] = true)
    ∧ ((s upd).dev = .daylight ∧ nextWindow (nth 0 (windowBank upd) 0) 0 = some 0 ∧ upd.window = none
      ∧ windowAt (s upd) upd 0 = some (256, 0, 1))
    ∧ ((s upd).assigned = true ∧ upd.resend = [] ∧ upd.ctrlDue = false ∧ upd.nakDue = false ∧ upd.markerDue = false ∧ upd.replay.length < 58254
      ∧ upd.queue = [⟨9, 0, none, [f], false, true⟩] ∧ 0 < tget 0 upd.credits 0)
    ∧ (lKind x = 1 ∧ lLast x = false ∧ x.body.length = 8 ∧ x.ctrl.toNat / 2 ^ 32 = (flitCrc x.ctrl x.body).toNat ∧ lSeq x = upd.rxSeq
      ∧ ¬ f.ctrl.toNat / 2 ^ 32 = (flitCrc f.ctrl f.body).toNat ∧ (nth 0 (body 7) 0).toNat / 2 ^ 16 % 16 = 0 ∧ upd.naks < 8 ∧ upd.gap = true)
    ∧ (let c := { Clock.reset with src := 2, port := 15, aligned := 16 }
       let t := { s upd with dev := .twilight, clock := c }
       t.dev ≠ .midnight ∧ t.clock.src = 2 ∧ t.clock.port.toNat = (15 : PortId).val ∧ t.clock.refSeen = false ∧ 16 ≤ t.clock.aligned
       ∧ t.clock.dayTaken = false)
    ∧ (let t := { s upd with clock := { Clock.reset with src := 1, refSeen := true, measured := -5 } }
       t.dev ≠ .midnight ∧ t.clock.src = 1 ∧ (refOffset t ((34 : Nat) - 30)).natAbs < t.clock.measured.natAbs
       ∧ t.clock.measured.natAbs ≤ (refOffset t ((35 : Nat) - 30)).natAbs) := by
  refine ⟨by decide +kernel, by decide +kernel, by decide +kernel, by decide +kernel, ⟨operated_commands _, by decide +kernel⟩, by decide +kernel⟩

/-- Slots of which one boots, which depends on the signature that the configuration leaves open, and none; the boot steps. -/
theorem witness_boot :
    let b := fun n => { State.reset with boot := { State.reset.boot with step := n } }
    (State.reset.dev = .midnight ∧ State.reset.boot.step = 0 ∧ State.reset.pins.railsOk = true ∧ State.reset.pins.svcClk = true
      ∧ State.reset.pins.coreClk = true ∧ State.reset.boot.tripped = false)
    ∧ (selectSlot State.reset (slotOrder State.reset.flash)).1 = none
    ∧ ((b 3).boot.step = 3 ∧ (b 3).boot.step ≠ 0 ∧ (b 5).boot.step = 5 ∧ (b 6).dev = .midnight ∧ FlashItem.spareMap ∉ (b 6).flash.busy
      ∧ (b 6).cellChanges = [] ∧ (b 6).regions = [])
    ∧ slotCheck 0 ⟨some image0, true⟩ ≠ none
    ∧ (let r := { State.reset with boot := { State.reset.boot with step := 1, recovery := true }, mgmt := { State.reset.mgmt with presence := [0] } }
       r.boot.recovery = true ∧ r.mgmt.presence ≠ []) := by
  decide +kernel

/-- Midnight as each of the three last conditions finds it; sensors that trip, that drive the alert, release it and leave it as it is. -/
theorem witness_lastCondition :
    let s := fun (r v c : Bool) => { State.reset with pins := { State.reset.pins with resetN := r, svcClk := v, coreClk := c } }
    (∀ x ∈ [(true, false, true), (true, true, false), (false, true, true)], let u := s x.1 x.2.1 x.2.2
      u.dev = .midnight ∧ u.boot.step = 0 ∧ u.pins.railsOk = true ∧ u.boot.tripped = false
      ∧ (selectSlot u (slotOrder u.flash)).1 = none)
    ∧ ((s false true true).pins.resetN = false ∧ (s true false true).pins.svcClk = false)
    ∧ (let read := fun (l : List Int) (q : Int → Nat → Bool) => l.zipIdx.any fun x => q x.1 x.2
       read [950, 1100] (fun x n => decide (tripTemp n ≤ x)) = true
       ∧ (read [950, 951] (fun x n => decide (tripTemp n ≤ x)) = false ∧ read [950, 951] (fun x n => decide (maxTemp n < x)) = true)
       ∧ (read [950, 930] (fun x n => decide (maxTemp n < x)) = false ∧ read [950, 930] (fun x n => decide (maxTemp n - 20 < x)) = true)
       ∧ read [930, 930] (fun x n => decide (maxTemp n - 20 < x)) = false) := by
  decide +kernel

/-- An image whose header and digest check. -/
def image1 : FwImage :=
  let i := { image0 with digest := digestOf [] }
  { i with crc := crc32c (headerBytes i) }

/-- Where its signature checks too, which the configuration decides, it boots. -/
theorem witness_bootSlot (h : Config.firmwareSigOk (signedBytes image1) image1.sig = true) :
    slotCheck 0 ⟨some image1, true⟩ = none
    ∧ selectSlot { State.reset with flash := { State.reset.flash with slotB := ⟨some image1, true⟩ } } [true, false] = (some true, []) := by
  have h1 : (image1.crc = crc32c (headerBytes image1)) = True := eq_true (by decide +kernel)
  have h2 : (digestOf (image1.image.take image1.len.toNat) = image1.digest) = True := eq_true (by decide +kernel)
  have h3 : (image1.svn < 0#32) = False := eq_false (by decide +kernel)
  have hc : slotCheck 0 ⟨some image1, true⟩ = none := by
    simp [slotCheck, h1, h2, h3, h]
  refine ⟨hc, ?_⟩
  have hs : slotCheck (rollbackOf ({ State.reset with flash := { State.reset.flash with slotB := ⟨some image1, true⟩ } } : State).flash.rollback)
      (slotOf ({ State.reset with flash := { State.reset.flash with slotB := ⟨some image1, true⟩ } } : State).flash true) = none := hc
  simp only [selectSlot, hs]
  rfl

/-- A thread with no trap enabled and `T2_POLICY` 0; a matrix operation that waits, one that runs, and a conversion that has met no fault. -/
theorem witness_completions :
    let j : AcvtJob := ⟨none, 0, 0, false, [(7, 15, 1, false)], none⟩
    let w : MmaJob := ⟨0, [1], [0], 1, false, none, 0, false, [], false, 16⟩
    let a := st { thr with run := .waiting .acvt, acvt := some j }
    let m := st thr { Core.reset with mmaWait := some w }
    let r := st thr { Core.reset with mmaRun := some w }
    (Runs hart 0 4 (st thr) ∧ (thread (st thr) hart).fpCtrl.toNat / 8 = 0 ∧ (thread (st thr) hart).t2Policy = false)
    ∧ ((coreOf m 0).mmaRun = none ∧ (coreOf m 0).mmaWait = some w) ∧ (coreOf r 0).mmaRun = some w
    ∧ (thread a hart).run = .waiting .acvt ∧ (thread a hart).acvt = some j ∧ j.fault = none ∧ j.spec = false :=
  ⟨⟨runs_thr, by decide, rfl⟩, by decide +kernel⟩


/-! ### Ill-formed terms -/

/-- One term for each condition of `Instr.wf`, each refused, beside the nearest one that is accepted. -/
theorem test_ill_formed :
    [Instr.smove hart 0 .d 4 4 6, .sfill hart 0 .b 4 5 5, .scmp hart 0 .h 4 5 4, .sscan hart 0 .w 1 1 1, .sscann hart 0 .w 1 1 2,
      .cload hart 0 1 1 2, .cread hart 0 1 2 2, .send hart 0 0 3 4, .hold hart 0, .hold hart 513, .mov16 hart 7 7, .mlog hart 0 .not 1 2 3,
      .tinfo hart 0 1 9, .tinfo hart 0 1 24, .vzbm hart 0 1 2 1, .vzbm hart 0 1 2 7, .vcvts hart 0 1 0 1 2, .vcvts hart 0 12 0 1 2,
      .vcvtf hart 0 1 false 0 1 2, .vcvtf hart 0 0 true 0 1 2, .tcfg hart 0 1 0, .mma hart 0 true false 1 2 3 0 [],
      .acvt hart 0 true false 0 1 true 1 2, .acvt hart 0 true true 0 1 true 2 2, .acvt hart 0 false false 1 1 false 2 2,
      .acvt hart 0 false false 0 1 false 2 8].all (fun i => !i.wf) = true
    ∧ [Instr.smove hart 0 .d 4 5 6, .send hart 0 0 2 4, .hold hart 512, .mov16 hart 7 6, .mlog hart 0 .not 1 2 0, .tinfo hart 0 1 8,
      .tinfo hart 0 1 23, .vzbm hart 0 1 2 6, .vcvts hart 0 11 0 1 2, .vcvtf hart 0 2 true 0 1 2, .tcfg hart 0 1 1,
      .mma hart 0 true false 0 2 3 0 [], .acvt hart 0 true false 0 1 true 2 2].all Instr.wf = true := by
  decide +kernel

/-! ### Words from the encoding tables (R96–R102, R151, R161, R187, R203) -/

/-- The words that the manual spells in its examples: `VFMA`, `MMA` and `ACVT`. -/
theorem test_words_of_examples :
    decodeWord hart 0x54208E61#32 = some (.vfma hart 0 .s 2 3 1 2)
    ∧ decodeWord hart 0x00D90321#32 = some (.mma hart 0 true true 3 1 0 0 [])
    ∧ decodeWord hart 0x10311731#32 = some (.acvt hart 0 true false 0 12 false 2 5) := by
  decide +kernel

/-- Words put together by hand from the tables, one of a kind; words of no instruction. -/
theorem test_words_of_tables :
    decodeWord hart 0x06629381#32 = some (.smove hart 0 .d 4 5 6)
    ∧ decodeWord hart 0x01100301#32 = some (.fence hart 0 1)
    ∧ decodeWord hart 0x00300301#32 = some (.rett hart)
    ∧ decodeWord hart 0x00008311#32 = some (.hold hart 1)
    ∧ decodeWord hart 0x00009C71#32 = some (.movi hart 0 7 1)
    ∧ decodeWord hart 0x40181E91#32 = some (.portOut hart 0 7 0x4018)
    ∧ decodeWord hart 0x0FF482C1#32 = some (.tcfg hart 0 9 0xFF)
    ∧ decodeWord hart 0xFFFFFFFF#32 = none ∧ decodeWord hart 0x00000000#32 = none := by
  decide +kernel

/-! ### The manual's worked examples -/

/-- The core at x = 27, y = 22: its ID, its C-die, and cell 37 of region 5 as the manual writes it. -/
theorem test_example_cell :
    coreAt 27 22 = 2843 ∧ dieOf 2843 = 9
    ∧ (let e : BitVec 128 := 0x00820040809BFE000000018187286015
       cX e = 24 ∧ cY e = 20 ∧ cW e = 8 ∧ cH e = 4 ∧ cParent e = 6 ∧ cHandler e = 0xBFE00 ∧ cDie e = 9 ∧ cFlagBase e = 64
       ∧ cFlagCount e = 16 ∧ cCtrBase e = 32 ∧ cCtrCount e = 8 ∧ cIndexOf e 2843 = 19 ∧ cMember e 19 = 2843
       ∧ landsAt e 0x3FFF = coreAt 24 20 ∧ cellNamed e 31 = true ∧ cellNamed e 32 = false) := by
  decide +kernel

/-- The route entry of the manual: from West at Noon offset 104 to South, four cycles, in every variant. -/
theorem test_example_route :
    let e : BitVec 128 := 0x0000FFFF000000000000030000680089
    reValid e = true ∧ reIn e = 4 ∧ (List.range 5).filter (reOut e) = [3] ∧ reRuns e 15 103 = false ∧ reRuns e 0 104 = true
    ∧ reRuns e 15 107 = true ∧ reRuns e 0 108 = false := by
  decide +kernel

/-- The MX E2M1 block of the manual: scales 0x7E and 0x81, accumulator 0.1, result 0x42C4_3333, inexact alone. -/
theorem test_example_mx :
    let mx := fun scale : Word => 0x8301 + 2 ^ 22 + scale * 2 ^ 23
    let row := fun w => BitVec.ofNat 512 ((List.range 4).map fun i => w * 2 ^ (32 * i)).sum
    let t : Thread := { thr with
      desc := [(0, mx 2), (1, mx 3), (2, 0x20001), (3, 0x20001)]
      rows := [(0, ⟨row 0x63C70592, true, false, false⟩), (16, ⟨row 0x2902A124, true, false, false⟩),
        (32, ⟨0x7E, true, false, false⟩), (48, ⟨0x81, true, false, false⟩)] }
    contract t false 0 1 0 0 0 0x3DCCCCCD = (0x42C43333, fNX) := by
  decide +kernel

/-- The T2 block of the manual, unpacked: elements 0 to 3 of its first byte are +1, 0, −1, +1. -/
theorem test_example_t2 :
    let s := st { thr with v := [(1, ⟨0x71, false⟩)] }
    (match exec (.vunpkt2 hart 0 0 2 1) s with | .next t => (vReg (thread t hart) 2).data.toNat % 2 ^ 32 | _ => 0) = 0x01FF0001 := by
  decide +kernel

/-- The manual's fault with a timer event pending: `STD` at 0x2_0004 faults with `0x04` and E3 stays pending. -/
theorem test_example_fault :
    let s := st { thr with mode := false, pc := 0x340, evPending := 8, evEnable := 0x800, g := [(3, 5), (8, 0x20004)] }
    (match exec (.std hart 0 3 8 0) s with
      | .next t => decide ((thread t hart).run = .entering 4 0x340 ∧ (thread t hart).errCause = 4 ∧ (thread t hart).errInfo = 0x20004
          ∧ (thread t hart).evPending = 8)
      | _ => false) = true := by
  decide +kernel

/-! ### Single steps, their results worked out from the instruction tables -/

/-- The value that one instruction leaves in general register `d`. -/
def gAfter (i : Instr) (l : Tab Word) (d : Fin 32) : Word :=
  match exec i (st (regs l)) with | .next t => gReg (thread t hart) d | _ => 0

theorem test_add_wraps : gAfter (.add hart 0 1 1 2) [(1, 0xFFFFFFFFFFFFFFFF), (2, 2)] 1 = 1 := by decide +kernel
theorem test_sub_borrows : gAfter (.sub hart 0 3 1 2) [(1, 0), (2, 1)] 3 = 0xFFFFFFFFFFFFFFFF := by decide +kernel
theorem test_sar_keeps_sign : gAfter (.sar hart 0 3 1 2) [(1, 0x8000000000000000), (2, 127)] 3 = 0xFFFFFFFFFFFFFFFF := by decide +kernel
theorem test_ror_by_zero : gAfter (.ror hart 0 3 1 2) [(1, 5), (2, 64)] 3 = 5 := by decide +kernel
theorem test_mulh_signs : gAfter (.mulh hart 0 3 1 2) [(1, 0xFFFFFFFFFFFFFFFF), (2, 1)] 3 = 0xFFFFFFFFFFFFFFFF := by decide +kernel
theorem test_mulhu : gAfter (.mulhu hart 0 3 1 2) [(1, 0xFFFFFFFFFFFFFFFF), (2, 2)] 3 = 1 := by decide +kernel
theorem test_div_by_zero : gAfter (.div hart 0 3 1 2) [(1, 7)] 3 = 0xFFFFFFFFFFFFFFFF := by decide +kernel
theorem test_rem_by_zero : gAfter (.rem hart 0 3 1 2) [(1, 7)] 3 = 7 := by decide +kernel
theorem test_div_truncates : gAfter (.div hart 0 3 1 2) [(1, 0xFFFFFFFFFFFFFFF9), (2, 2)] 3 = 0xFFFFFFFFFFFFFFFD := by decide +kernel
theorem test_clz_of_zero : gAfter (.clz hart 0 3 1) [] 3 = 64 := by decide +kernel
theorem test_movsh : gAfter (.movsh hart 0 3 0xBEEF) [(3, 0xDEAD)] 3 = 0xDEADBEEF := by decide +kernel
theorem test_movi_sign : gAfter (.movi hart 0 3 0x10000) [] 3 = 0xFFFFFFFFFFFF0000 := by decide +kernel
theorem test_addi16 : gAfter (.addi16 hart 3 0x7F) [(3, 0)] 3 = 0xFFFFFFFFFFFFFFFF := by decide +kernel
theorem test_call_links : gAfter (.call hart 0 0x3FFFFF) [] 31 = 4 := by decide +kernel

/-- A backward branch from address 0 wraps modulo 2^16. -/
theorem test_branch_wraps :
    (match exec (.br hart 0 0x3FFFFF) (st thr) with | .next t => (thread t hart).pc | _ => 0) = 0xFFFE := by decide +kernel

/-- 1 + 2^−53 rounds to 1 to nearest even and to 1 + 2^−52 upward, both inexact. -/
theorem test_fadd_rounds :
    fpAdd fp64 .rne 0x3FF0000000000000 0x3CA0000000000000 = (0x3FF0000000000000, fNX)
    ∧ fpAdd fp64 .ru 0x3FF0000000000000 0x3CA0000000000000 = (0x3FF0000000000001, fNX) := by decide +kernel

/-- A fused product keeps the bits that a rounded product loses: (1 + 2^−23)² − (1 + 2^−22) = 2^−46. -/
theorem test_fma_fused : fpFma fp32 .rne false 0x3F800001 0x3F800001 0xBF800002 = (0x28800000, 0) := by decide +kernel

/-- A store is seen by its thread at once and by memory when the buffer drains. -/
theorem test_store_buffer :
    (match exec (.stw hart 0 2 1 1) (st (regs [(1, 0x100), (2, 0x1122334455667788)])) with
      | .next t => decide (sees t hart 0x104 = 0x88 ∧ sees t hart 0x107 = 0x55 ∧ sees t hart 0x108 = 0
          ∧ mget (coreOf t 0).mem 0x104 = 0 ∧ mget (drainAll (coreOf t 0)).mem 0x104 = 0x88)
      | _ => false) = true := by decide +kernel

/-- A Daybreak in Daylight falls at D+L and begins the next Day. -/
theorem test_daybreak :
    (match exec .daybreak reg with
      | .next t => decide (t.clock.now = 130072 ∧ t.clock.dayNo = 1 ∧ t.clock.cycle = 0 ∧ t.clock.phase = .dawn ∧ t.dev = .daylight)
      | _ => false) = true := by decide +kernel

/-- The digest of no bytes, as FIPS 180-4 gives it. -/
theorem test_sha384 : (sha384 []).take 6 = [0x38, 0xB0, 0x60, 0xA7, 0x51, 0xAC] := by decide +kernel

/-- The check value of CRC32C. -/
theorem test_crc32c : crc32c [0x31, 0x32, 0x33, 0x34, 0x35, 0x36, 0x37, 0x38, 0x39] = 0xE3069283 := by decide +kernel

/-- The step takes the command in front, and idles without one. -/
theorem test_step :
    (match step { st (regs [(1, 2)]) with pending := [.add hart 0 3 1 1, .nop hart 0] } with
      | .next t => decide (gReg (thread t hart) 3 = 4 ∧ t.pending = [.nop hart 0])
      | _ => false) = true := by decide +kernel
end Sys2Proof.Tests
end

/-!
SUPPORT. Every instruction goes through the one issue path (R92, R98), and what follows for a fetch past the code space and
for a predicate that reads 0.
-/
namespace Sys2Proof.Machine
open Sys2Proof Sys2Proof.Safety

/-- The outcome is that of issuing an instruction of `len` bytes under predicate `p`. -/
def Issues (h : Hart) (p : Fin 8) (len : Nat) (s : State) (o : Host.Outcome State Fault Refusal) : Prop :=
  ∃ act eff effSpec, o = issueWith h p len act eff effSpec s

section
variable (h : Hart) (p : Fin 8) (len : Nat) (d a b : Fin 32) (m : Fin 8) (s : State)

theorem issueWith_issues (act eff effSpec) : Issues h p len s (issueWith h p len act eff effSpec s) := ⟨_, _, _, rfl⟩

theorem issue_issues (act) : Issues h p len s (issue h p len act s) := issueWith_issues ..

theorem issueOwn_issues (act eff) : Issues h p len s (issueOwn h p len act eff s) := issueWith_issues ..

theorem dropsPoison_issues (srcs act) : Issues h p 4 s (dropsPoison h p srcs act s) := issueWith_issues ..

theorem aluG_issues (f) : Issues h p len s (aluG h p len d f s) := issue_issues ..

theorem alu1_issues (f) : Issues h p len s (alu1 h p len d a f s) := aluG_issues ..

theorem alu2_issues (f) : Issues h p len s (alu2 h p len d a b f s) := aluG_issues ..

theorem alu16_issues (c r : Fin 16) (f) : Issues h 0 2 s (alu16 h c r f s) := alu2_issues ..

theorem aluP_issues (c : Fin 8) (ps f) : Issues h p 4 s (aluP h p c ps f s) := issue_issues ..

theorem brz16_issues (r : Fin 16) (disp f) : Issues h 0 2 s (brz16 h r disp f s) := issue_issues ..

theorem fpG_issues (f) : Issues h p 4 s (fpG h p d f s) := issue_issues ..

theorem loadG_issues (imm n ext) : Issues h p 4 s (loadG h p d a imm n ext s) := issue_issues ..

theorem storeG_issues (imm n) : Issues h p 4 s (storeG h p d a imm n s) := issue_issues ..

theorem inInstr_issues (port) : Issues h p len s (inInstr h p len d port s) := issueOwn_issues ..

theorem outInstr_issues (port v) : Issues h p len s (outInstr h p len port v s) := issueOwn_issues ..

theorem blk_issues (n tests step priv) : Issues h p 4 s (blk h p d a b n tests step priv s) := issueOwn_issues ..

theorem vLanes_issues (w srcs f) : Issues h p 4 s (vLanes h p w m d srcs f s) := issue_issues ..

theorem vInt_issues (w f) : Issues h p 4 s (vInt h p w m d a b f s) := vLanes_issues ..

theorem vIntCmp_issues (w) (c : Fin 8) (f) : Issues h p 4 s (vIntCmp h p w m c a b f s) := dropsPoison_issues ..

theorem vFp_issues (f srcs g) : Issues h p 4 s (vFp h p f m d srcs g s) := issue_issues ..

theorem vFpCmp_issues (f) (c : Fin 8) (g) : Issues h p 4 s (vFpCmp h p f m c a b g s) := dropsPoison_issues ..

theorem vConv_issues (w bits n g) : Issues h p 4 s (vConv h p m w bits n d a g s) := issue_issues ..

theorem fromT2_issues (w bits n val) : Issues h p 4 s (fromT2 h p m w bits n d a val s) := issue_issues ..

theorem execVfromt_issues (c : Fin 8) (r : Fin 16) (bad) : Issues h p 4 s (execVfromt h p d c r bad s) := by
  unfold execVfromt
  exact issueWith_issues ..

theorem execTld_issues (c : Fin 8) : Issues h p 4 s (execTld h p c a b s) := by
  unfold execTld
  exact issueWith_issues ..

theorem execTst_issues (c : Fin 8) (bad) : Issues h p 4 s (execTst h p c a b bad s) := by
  unfold execTst
  exact issueWith_issues ..

end

/-- The outcome is that of issuing an instruction, or of a reserved combination of its operands (R97). -/
def IssuesIfWf (i : Instr) (h : Hart) (p : Fin 8) (len : Nat) (s : State)
    (o : Host.Outcome State Fault Refusal) : Prop :=
  Issues h p len s o ∨ (i.wf = false ∧ ∃ info, o = issueReserved h len info s)

theorem guardWf_issuesIfWf {i : Instr} {h : Hart} {p : Fin 8} {len : Nat}
    {k : State → Host.Outcome State Fault Refusal} {s : State} (hk : Issues h p len s (k s)) :
    IssuesIfWf i h p len s (guardWf i h len k s) := by
  unfold guardWf
  cases hw : i.wf with
  | true => exact .inl hk
  | false => exact .inr ⟨hw, _, rfl⟩

theorem execVcvts_issuesIfWf (h : Hart) (p : Fin 8) (f : Fin 16) (m : Fin 8) (d a : Fin 32) (s : State) :
    IssuesIfWf (.vcvts h p f m d a) h p 4 s (execVcvts h p f m d a s) := by
  refine guardWf_issuesIfWf ?_
  split_ifs
  · exact fromT2_issues ..
  · exact vConv_issues ..
  · exact vConv_issues ..

theorem execVcvtf_issuesIfWf (h : Hart) (p : Fin 8) (f : Fin 16) (sr : Bool) (m : Fin 8) (d a : Fin 32) (s : State) :
    IssuesIfWf (.vcvtf h p f sr m d a) h p 4 s (execVcvtf h p f sr m d a s) := by
  refine guardWf_issuesIfWf ?_
  split_ifs
  · exact vConv_issues ..
  · exact vConv_issues ..
  · exact issue_issues ..

/-- Every instruction goes through the one issue path, each by the shared operation it is an example of. -/
theorem exec_issuesIfWf (i : Instr) (h : Hart) (p : Fin 8) (len : Nat) (s : State)
    (hs : slot i = some (h, p, len)) : IssuesIfWf i h p len s (exec i s) := by
  cases i <;> cases hs
  all_goals dsimp only [exec]
  case vcvts => exact execVcvts_issuesIfWf ..
  case vcvtf => exact execVcvtf_issuesIfWf ..
  case smove | sfill | scmp | sscan | sscann | cload | cread => exact guardWf_issuesIfWf (blk_issues ..)
  case send | hold | tcfg => exact guardWf_issuesIfWf (issueOwn_issues ..)
  case mov16 => exact guardWf_issuesIfWf (alu16_issues ..)
  case mlog | tinfo => exact guardWf_issuesIfWf (issue_issues ..)
  case vzbm => exact guardWf_issuesIfWf (dropsPoison_issues ..)
  case mma | acvt => exact guardWf_issuesIfWf (issueWith_issues ..)
  all_goals left
  case add | sub | and | or | xor | andn | shl | shr | sar | ror | mul | mulh | mulhu | div | divu | rem | remu | min | max
      | minu | maxu =>
    exact alu2_issues ..
  case clz | ctz | popc | sextb | sexth | sextw | zextw | addi | andi | ori | xori | shli | shri | sari | rori | addi16
      | shli16 | shri16 | sari16 =>
    exact alu1_issues ..
  case movi | movsh | movi16 => exact aluG_issues ..
  case cmp | cmpi | pand | por | pxor | pandn | pnot | pmov => exact aluP_issues ..
  case fadd | fsub | fmul | fdiv | fmin | fmax | fsqrt | fabs | fneg | fcvt | fcvti | fcvtu | icvtf | ucvtf | fclass | fma
      | fnma =>
    exact fpG_issues ..
  case ldb | ldbu | ldh | ldhu | ldw | ldwu | ldd => exact loadG_issues ..
  case stb | sth | stw | std => exact storeG_issues ..
  case add16 | sub16 | and16 | or16 | xor16 | shl16 | shr16 => exact alu16_issues ..
  case bz16 | bnz16 | bltz16 | bgez16 => exact brz16_issues ..
  case portIn | inr | in16 | evWait | noticeLo | noticeHi | monNoticeLo | monNoticeHi | errCauseRead | moverDone | streamDone
      | flagCounterRead | flagWait | ctrWait | cellStatus =>
    exact inInstr_issues ..
  case portOut | outr | out16 | noticeMark | noticeRewind | noticeRelease | timerSet | srSeed | ctrTarget | dayDone
      | moverSubmit | streamSubmit | streamCancel | flagSet | flagClear | ctrAdd | regionResume | hostNotification
      | launchCompletion =>
    exact outInstr_issues ..
  case vmov | vrotb => exact vLanes_issues ..
  case vext | vtz => exact dropsPoison_issues ..
  case vadd | vsub | vmul | vmin | vmax | vminu | vmaxu | vand | vor | vxor | vshl | vshr | vsar => exact vInt_issues ..
  case vcmpeq | vcmplt | vcmpltu => exact vIntCmp_issues ..
  case vfadd | vfsub | vfmul | vfdiv | vfsqrt | vfma | vfnma | vfmin | vfmax | vfabs | vfneg => exact vFp_issues ..
  case vfcmpeq | vfcmplt | vfcmple | vfcmpun => exact vFpCmp_issues ..
  case vcvtis | vcvtsi | vcvtld | vcvtdl | vpackt2 => exact vConv_issues ..
  case vunpkt2 => exact fromT2_issues ..
  case rett | trel => exact issueOwn_issues ..
  case vfromt => exact execVfromt_issues ..
  case tld => exact execTld_issues ..
  case tst => exact execTst_issues ..
  case fence | ald | ast => exact issueWith_issues ..
  case fcmp | br | call | jmp | jmpl | vld | vst | nop | trap | ldd16 | std16 | ldw16 | stw16 | br16 | nop16 | ret16 | trap16
      | vbcast | vins | vsel | vtot | mfromg | mtog | azero =>
    exact issue_issues ..

/-! ### Past the end of the code space -/

/-- A thread whose next `len` bytes reach past the code space, and to which the slot falls (R92). -/
def FetchesPastEnd (h : Hart) (len : Nat) (s : State) : Prop :=
  (thread s h).run = .ready ∧ (thread s h).debugHalt = false ∧ hasSlot (coreOf s h.core) h.thread = true
    ∧ 0x10000 < (thread s h).pc.toNat + len

theorem issueWith_pastEnd (h : Hart) (p : Fin 8) (len : Nat) (act : Core → Thread → Act) (eff effSpec : Act → State → State)
    (s : State) (he : FetchesPastEnd h len s) :
    issueWith h p len act eff effSpec s = .next (takeFault h len ⟨0x1B, 0x10000, false⟩ (rotate h s)) := by
  obtain ⟨hrun, hd, hslot, hpc⟩ := he
  simp only [thread] at hrun hd hpc
  simp [issueWith, hrun, hd, hslot, hpc]

theorem issueReserved_pastEnd (h : Hart) (len : Nat) (info : Word) (s : State) (he : FetchesPastEnd h len s) :
    issueReserved h len info s = .next (takeFault h len ⟨0x1B, 0x10000, false⟩ (rotate h s)) := by
  obtain ⟨hrun, hd, hslot, hpc⟩ := he
  simp only [thread] at hrun hd hpc
  simp [issueReserved, hrun, hd, hslot, hpc]

/-- Whatever the instruction, its fetch past the end of the code space faults (R92). -/
theorem exec_pastEnd (i : Instr) (h : Hart) (p : Fin 8) (len : Nat) (s : State) (hs : slot i = some (h, p, len))
    (he : FetchesPastEnd h len s) :
    exec i s = .next (takeFault h len ⟨0x1B, 0x10000, false⟩ (rotate h s)) := by
  rcases exec_issuesIfWf i h p len s hs with ⟨act, eff, effSpec, hi⟩ | ⟨-, info, hi⟩
  · rw [hi, issueWith_pastEnd h p len act eff effSpec s he]
  · rw [hi, issueReserved_pastEnd h len info s he]

/-! ### An instruction whose predicate reads 0 (R98) -/

/-- Whatever the instruction, under a predicate that reads 0 it only uses its slot and moves the PC. -/
theorem exec_skipped (i : Instr) (h : Hart) (p : Fin 8) (len : Nat) (s : State) (hs : slot i = some (h, p, len))
    (hw : i.wf = true) (hc : CanIssue h len s) (hp : pReg (thread s h) p = false)
    (hsp : tfind (thread s h).pSpec p.val = none) : exec i s = .next (after h len id s) := by
  rcases exec_issuesIfWf i h p len s hs with ⟨act, eff, effSpec, hi⟩ | ⟨hn, -⟩
  · rw [hi, issueWith_skipped h p len act eff effSpec s hc hp hsp]
  · simp [hw] at hn

end Sys2Proof.Machine

/-!
SUPPORT. What a fault leaves behind (R135, R138, R142, R146), and the target check of the jumps (R92).
-/
namespace Sys2Proof.Machine
open Sys2Proof Sys2Proof.Safety

/-! ### What a fault leaves -/

@[simp] theorem tdel_tdel {α : Type} (t : Tab α) (i : Nat) : tdel (tdel t i) i = tdel t i := by
  induction t with
  | nil => rfl
  | cons e t ih =>
    obtain ⟨k, w⟩ := e
    by_cases hk : i = k <;> simp [tdel, hk, ih]
    simpa [hk] using ih

/-- The thread that issues is in the middle of no rows (R170). -/
theorem dropRows_rotate (h : Hart) (s : State) :
    dropRows h.thread (coreOf (rotate h s) h.core) = coreOf (rotate h s) h.core := by
  rw [rotate_core]
  simp [dropRows]

/-- Only what an update makes of the core itself counts. -/
theorem modCore_congr (s : State) (c : CoreId) (f g : Core → Core) (hfg : f (coreOf s c) = g (coreOf s c)) :
    modCore s c f = modCore s c g := by
  rw [modCore, modCore, hfg]

/-- Only what an update makes of the thread itself counts. -/
theorem modTh_congr (h : Hart) (f g : Thread → Thread) (s : State) (hfg : f (thread s h) = g (thread s h)) :
    modTh s h f = modTh s h g :=
  modCore_congr _ _ _ _ (congrArg (setTh (coreOf s h.core) h.thread) hfg)

theorem modTh_modCore_of_fixed (h : Hart) (f : Core → Core) (g : Thread → Thread) (s : State)
    (hf : f (coreOf s h.core) = coreOf s h.core) : modTh (modCore s h.core f) h g = modTh s h g := by
  simp [modTh, modCore, hf]

/-! What drains the stores, logs, or tells others of a halt leaves the thread's registers as they are. -/

theorem memPut_threads (c : Core) (a : Nat) (bs : List Byte) (bad keep : Bool) : (memPut c a bs bad keep).threads = c.threads := by
  unfold memPut
  exact List.foldlRecOn (motive := fun x : Core => x.threads = c.threads) _ _ rfl fun _ hx _ _ => hx

@[simp] theorem retireOne_threads (c : Core) : (retireOne c).threads = c.threads := by
  unfold retireOne
  split
  · rfl
  · exact memPut_threads ..

@[simp] theorem retireN_threads (n : Nat) (c : Core) : (retireN n c).threads = c.threads := by
  induction n generalizing c with
  | zero => rfl
  | succ n ih => rw [retireN, ih, retireOne_threads]

theorem thOf_drainOwn (i j : Fin 4) (c : Core) : thOf (drainOwn i c) j = thOf c j := by
  rw [thOf, drainOwn, retireN_threads, thOf]

theorem logCore_thread (c : CoreId) (th : Fin 4) (cause : BitVec 8) (info : Word) (s : State) (h : Hart) :
    thread (logCore c th cause info s) h = thread s h := by
  simp [thread, coreOf, logCore]

theorem modReg_thread (s : State) (r : RegionId) (f : Region → Region) (h : Hart) : thread (modReg s r f) h = thread s h := rfl

theorem noteE5_thread_other (k h : Hart) (cause : BitVec 8) (pc : BitVec 17) (info : Word) (s : State) (hk : k ≠ h) :
    thread (noteE5 k cause pc info s) h = thread s h := by
  unfold noteE5 raiseEvent
  split <;> simp [thread_modTh_other _ _ _ _ hk]

theorem deliver_thread (c : CoreId) (f : State → State) (s : State) (h : Hart) (hf : thread (f s) h = thread s h) :
    thread (deliver c f s) h = thread s h := by
  unfold deliver
  split
  · rfl
  · exact hf

/-- A thread that halts keeps its registers: its stores drain, and others are told (R146). -/
theorem haltThread_thread (h : Hart) (vec : BitVec 7) (s : State) :
    thread (haltThread h vec s) h = { thread s h with run := .halted } := by
  unfold haltThread
  extract_lets halted logged
  have hl : thread logged h = { thread s h with run := .halted } := by
    rw [logCore_thread, thread, coreOf_modCore_same]
    simp only [thOf_setTh_same, thOf_drainOwn]
    rfl
  rw [← hl]
  split
  · rfl
  · extract_lets stopped
    have hs : thread stopped h = thread logged h := by
      unfold stopped
      split
      · rfl
      · exact modReg_thread ..
    split
    · exact hs
    · rename_i hm
      rw [deliver_thread _ _ _ _ (noteE5_thread_other _ _ _ _ _ _ hm), hs]

/-- With no hold open a thread in the middle of no rows enters through the vector (R142). -/
theorem decideEntry_enters (h : Hart) (vec : BitVec 7) (restart : BitVec 17) (s : State) (hh : (thread s h).hold = none)
    (hr : dropRows h.thread (coreOf s h.core) = coreOf s h.core) :
    decideEntry h vec restart s = modTh s h fun t => { t with run := .entering vec restart } := by
  rw [decideEntry, if_neg (by simp [hh])]
  exact modTh_modCore_of_fixed h (dropRows h.thread) _ s hr

/-- With a hold open a thread halts, its registers kept (R142). -/
theorem decideEntry_halts (h : Hart) (vec : BitVec 7) (restart : BitVec 17) (s : State)
    (hh : (thread s h).hold.isSome = true) :
    thread (decideEntry h vec restart s) h = { thread s h with run := .halted } := by
  rw [decideEntry, if_pos hh, haltThread_thread]

/-- An update that changes nothing of the thread makes no difference to a fault taken after it. -/
theorem takeFault_modTh_id (h : Hart) (len : Nat) (f : Flt) (s : State) :
    takeFault h len f (modTh s h fun t => t) = takeFault h len f s := by
  simp [takeFault]

/-- An instruction that issues and faults takes the fault to its own address. -/
theorem faults_takeFault (h : Hart) (len : Nat) (cause : BitVec 8) (info : Word) (s : State) :
    faults (.next (takeFault h len ⟨cause, info, false⟩ (rotate h s))) h cause info s := by
  constructor
  · intro hh
    rw [takeFault, decideEntry_enters]
    · rw [modTh_modTh]
      exact congrArg _ (modTh_congr _ _ _ _ (by simp [recordFault, rotate_thread]))
    · simp [recordFault, rotate_thread, hh]
    · rw [modTh, coreOf_modCore_same]
      exact congrArg (setTh · h.thread _) (dropRows_rotate h s)
  · intro hh
    refine ⟨_, rfl, ?_⟩
    rw [takeFault, decideEntry_halts]
    · simp [recordFault, faulted, rotate_thread]
    · simpa [recordFault, rotate_thread] using hh

/-! ### Jumps out of the code space and to odd addresses (R92) -/

theorem jmpFault_above (x : Word) (hx : 0xFFFF < x.toNat) : jmpFault x = some ⟨0x1B, x, false⟩ := by
  rw [jmpFault, if_pos hx]

theorem bit_zero_eq (x : Word) : bit x 0 = decide (x.toNat % 2 = 1) := by
  simp [bit, BitVec.getLsbD, Nat.testBit_zero]

theorem jmpFault_odd (x : Word) (hx : x.toNat ≤ 0xFFFF) (ho : x.toNat % 2 = 1) : jmpFault x = some ⟨0x04, x, false⟩ := by
  simp [jmpFault, bit_zero_eq, ho, Nat.not_lt.mpr hx]

theorem jmpFault_legal (x : Word) (hx : x.toNat ≤ 0xFFFF) (he : x.toNat % 2 = 0) : jmpFault x = none := by
  simp [jmpFault, bit_zero_eq, he, Nat.not_lt.mpr hx]

/-- An instruction that runs, raises no IEEE flag and faults at its own address takes that fault. -/
theorem issue_faults (h : Hart) (p : Fin 8) (len : Nat) (act : Core → Thread → Act) (s : State) (cause : BitVec 8) (info : Word)
    (hr : Runs h p len s) (hf : (act (coreOf s h.core) (thread s h)).fault = some ⟨cause, info, false⟩)
    (hsp : (act (coreOf s h.core) (thread s h)).reads.spec = false) (hfl : (act (coreOf s h.core) (thread s h)).flags = 0) :
    faults (issue h p len act s) h cause info s := by
  rw [issue, issueWith_faults h p len act _ _ s _ hr hf hsp, hfl]
  simp only [BitVec.ofNat_eq_ofNat, BitVec.or_zero, takeFault_modTh_id]
  exact faults_takeFault ..

/-- Both jumps take the fault of the one target check. -/
theorem jumps_fault (h : Hart) (p : Fin 8) (d a : Fin 32) (s : State) (cause : BitVec 8) (info : Word) (hr : Runs h p 4 s)
    (hf : jmpFault (gReg (thread s h) a) = some ⟨cause, info, false⟩) :
    faults (exec (.jmp h p a) s) h cause info s ∧ faults (exec (.jmpl h p d a) s) h cause info s := by
  dsimp only [exec, execJmp, execJmpl]
  exact ⟨issue_faults h p 4 _ s cause info hr hf rfl rfl, issue_faults h p 4 _ s cause info hr hf rfl rfl⟩

end Sys2Proof.Machine

/-!
SUPPORT. The predicate and the length that an instruction word decodes to (R98–R101).
-/
namespace Sys2Proof.Machine
open Sys2Proof Sys2Proof.Safety

/-- Whatever instruction a decoder answers is issued by thread `h` under predicate `p`, and is `len` bytes long. -/
def DecodesTo (h : Hart) (p : Fin 8) (len : Nat) (x : Option Instr) : Prop := ∀ i, x = some i → slot i = some (h, p, len)

theorem decodesTo_if {h : Hart} {p : Fin 8} {len : Nat} {c : Prop} [Decidable c] {i : Instr} {x : Option Instr}
    (hi : c → slot i = some (h, p, len)) (hx : DecodesTo h p len x) : DecodesTo h p len (if c then some i else x) := by
  split
  · rename_i hc
    rintro _ ⟨⟩
    exact hi hc
  · exact hx

theorem decodesTo_none {h : Hart} {p : Fin 8} {len : Nat} : DecodesTo h p len none := by
  intro i hi
  cases hi

/-- `RETT` decodes under predicate 0 alone (R98). -/
theorem decOp30_decodesTo (h : Hart) (p : Fin 8) (w : BitVec 32) : DecodesTo h p 4 (decOp30 h p w) := by
  refine decodesTo_if (fun _ => rfl) (decodesTo_if (fun _ => rfl) (decodesTo_if (fun _ => rfl) (decodesTo_if ?_ decodesTo_none)))
  rintro ⟨-, -, -, -, rfl⟩
  rfl

/-- `HOLD` decodes under predicate 0 alone (R98). -/
theorem decOp31_decodesTo (h : Hart) (p : Fin 8) (w : BitVec 32) : DecodesTo h p 4 (decOp31 h p w) := by
  refine decodesTo_if ?_ decodesTo_none
  rintro ⟨-, rfl, -, -⟩
  rfl

/-- Every decoder but those of `RETT` and `HOLD` is a chain of tests whose instructions carry the predicate field. -/
theorem decode32_decodesTo (h : Hart) (w : BitVec 32) : DecodesTo h (Fin.ofNat 8 (fld w 1 3)) 4 (decode32 h w) := by
  unfold decode32
  split
  case h_40 => exact decOp30_decodesTo h _ w
  case h_41 => exact decOp31_decodesTo h _ w
  all_goals
    repeat refine decodesTo_if (fun _ => rfl) ?_
    rintro i ⟨⟩ <;> rfl

theorem decode16_decodesTo (h : Hart) (w : BitVec 32) : DecodesTo h 0 2 (decode16 h w) := by
  unfold decode16
  split
  all_goals
    repeat refine decodesTo_if (fun _ => rfl) ?_
    rintro i ⟨⟩ <;> rfl

/-- A word that decodes to an instruction under predicate 0, four bytes long, has PRED 0 (R99). -/
theorem pred_zero_of_slot (h : Hart) (w : BitVec 32) (i : Instr) (hd : decodeWord h w = some i)
    (hs : slot i = some (h, 0, 4)) : (w.extractLsb' 1 3).toNat = 0 := by
  unfold decodeWord at hd
  split at hd
  · have hp := (decode32_decodesTo h w i hd).symm.trans hs
    have hz : Fin.ofNat 8 (fld w 1 3) = 0 := by simpa using hp
    simpa [fld, Fin.ext_iff, Nat.shiftRight_eq_div_pow] using hz
  · have hl := (decode16_decodesTo h w i hd).symm.trans hs
    simp at hl

end Sys2Proof.Machine

/-!
SUPPORT. Instructions that write a predicate or the PC (R89, R102, R105).
-/
namespace Sys2Proof.Machine
open Sys2Proof Sys2Proof.Safety

/-! ### Predicates (R89) -/

@[simp] theorem pReg_zero (t : Thread) : pReg t 0 = true := rfl

@[simp] theorem putP_zero (x : Bool) (t : Thread) : putP 0 x t = t := rfl

/-- A comparison of the model is the order it names on the signed or unsigned readings. -/
theorem cmpVal_eq_compares (c : CmpCond) (x y : Word) : cmpVal c x y = compares c x y := by
  cases c
  case eq => rfl
  case ne => exact (decide_not ..).symm
  case lt => rfl
  case ge => simp [cmpVal, compares, BitVec.slt, ← decide_not]
  case ltu => rfl
  case geu => simp [cmpVal, compares, BitVec.lt_def, ← decide_not]

/-- With no speculative copy to drop, a write of pD is all that such an instruction does. -/
theorem finish_p (h : Hart) (len : Nat) (d : Fin 8) (x : Bool) (r : Reads) (s : State) (hs : (thread s h).pSpec = []) :
    finish h len { reads := r, writes := [.p d x] } (rotate h s) = after h len (putP d x) s := by
  have ht : (thOf (coreOf (rotate h s) h.core) h.thread).pSpec = [] := by
    rw [← hs, ← rotate_thread h h s, thread]
  unfold finish after modTh
  refine modCore_congr _ _ _ _ ?_
  by_cases hd : d = 0
  · simp [applyWr, advPc, putP, hd]
  · simp [applyWr, advPc, putP, hd, ht]

theorem aluP_runs (h : Hart) (p d : Fin 8) (ps : List (Fin 8)) (f : Thread → Bool) (s : State) (hr : Runs h p 4 s) :
    aluP h p d ps f s = .next (after h 4 (putP d (f (thread s h))) s) := by
  obtain ⟨-, -, hps, -⟩ := id hr
  rw [aluP, issue_runs h p 4 _ s hr rfl rfl rfl, finish_p h 4 d _ _ s hps]

/-! ### Control transfer (R105) -/

/-- The model's 16-bit target is the branch's own address plus twice its displacement, modulo 2^16. -/
theorem brTarget_eq {w : Nat} (t : Thread) (disp : BitVec w) : brTarget t disp = branchTo t.pc disp.toInt := by
  have hpc : t.pc.setWidth 16 = BitVec.ofInt 16 t.pc.toNat := by
    apply BitVec.eq_of_toNat_eq
    simp
  have hx : t.pc.setWidth 16 + 2 * disp.signExtend 16 = BitVec.ofInt 16 (t.pc.toNat + 2 * disp.toInt) := by
    rw [BitVec.ofInt_add, BitVec.ofInt_mul, hpc]
    rfl
  rw [brTarget, branchTo, hx]
  apply BitVec.eq_of_toNat_eq
  simp only [BitVec.toNat_setWidth, BitVec.toNat_ofInt]
  omega

theorem nextPc_eq (t : Thread) (len : Nat) (h : t.pc.toNat + len ≤ 0x10000) :
    nextPc t len = BitVec.ofNat 64 (t.pc.toNat + len) := by
  apply BitVec.eq_of_toNat_eq
  simp [nextPc]
  omega

theorem finish_pc (h : Hart) (len : Nat) (x : BitVec 17) (f : Option Flt) (s : State) :
    finish h len { fault := f, writes := [.pc x] } (rotate h s) = after h len (putPc x) s := by
  simp [finish, after, modTh, applyWr, advPc, putPc]

theorem finish_gpc (h : Hart) (len : Nat) (d : Fin 32) (v : Word) (x : BitVec 17) (f : Option Flt) (s : State) :
    finish h len { fault := f, writes := [.g d v, .pc x] } (rotate h s) = after h len (fun t => putPc x (putG d v t)) s := by
  simp [finish, after, modTh, applyWr, advPc, putPc, putG]

theorem finish_nil (h : Hart) (len : Nat) (s : State) : finish h len {} (rotate h s) = after h len (fun t => t) s := by
  simp [finish, after, modTh, advPc]

/-- A compact conditional branch writes the PC or nothing (R101). -/
theorem brz16_runs (h : Hart) (r : Fin 16) (disp : BitVec 7) (f : Word → Bool) (b : Bool) (s : State) (hr : Runs h 0 2 s)
    (hb : f (gReg (thread s h) (cg r)) = b) :
    brz16 h r disp f s
      = .next (after h 2 (fun u => if b then putPc (branchTo (thread s h).pc disp.toInt) u else u) s) := by
  rw [brz16, issue_runs h 0 2 _ s hr rfl rfl rfl, hb, ← brTarget_eq]
  cases b with
  | true => exact congrArg _ (finish_pc h 2 _ none s)
  | false => exact congrArg _ (finish_nil h 2 s)

theorem issue_jumps (h : Hart) (p : Fin 8) (len : Nat) (x : Thread → BitVec 17) (f : Thread → Option Flt) (s : State)
    (hr : Runs h p len s) (hf : f (thread s h) = none) :
    issue h p len (fun _ t => { fault := f t, writes := [.pc (x t)] }) s = .next (after h len (putPc (x (thread s h))) s) := by
  rw [issue_runs h p len _ s hr hf rfl rfl, finish_pc]

theorem issue_links (h : Hart) (p : Fin 8) (len : Nat) (d : Fin 32) (x : Thread → BitVec 17) (f : Thread → Option Flt)
    (s : State) (hr : Runs h p len s) (hf : f (thread s h) = none) :
    issue h p len (fun _ t => { fault := f t, writes := [.g d (nextPc t len), .pc (x t)] }) s
      = .next (after h len (fun u => putPc (x (thread s h)) (putG d (BitVec.ofNat 64 ((thread s h).pc.toNat + len)) u)) s) := by
  obtain ⟨⟨-, -, -, hpc, -⟩, -⟩ := id hr
  rw [issue_runs h p len _ s hr hf rfl rfl, finish_gpc, nextPc_eq _ _ hpc]

end Sys2Proof.Machine

/-!
CERTIFICATES. The core instruction set: O7, O8, O11 and O12.
-/
namespace Sys2Proof.Machine
open Sys2Proof Sys2Proof.Safety

/-- Settles O11: each operation is the shared predicate operation with its own value. -/
theorem predicateOperations : Obligations.PredicateOperations := by
  refine ⟨fun t x => ⟨pReg_zero t, putP_zero x t⟩, fun h p d a b i j c imm s hr => ?_⟩
  dsimp only [exec, execCmp, execCmpi, execPand, execPor, execPxor, execPandn, execPnot, execPmov]
  simp only [← cmpVal_eq_compares]
  refine ⟨?_, ?_, ?_, ?_, ?_, ?_, ?_, ?_, ?_, ?_, ?_⟩ <;> exact aluP_runs h p d _ _ s hr

/-- Settles O12: a transfer writes the PC, a call also the link, and a compact branch that is not taken nothing. -/
theorem controlTransferGoesToItsTarget : Obligations.ControlTransferGoesToItsTarget := by
  intro h p d a r n22 n7 n11 s
  dsimp only [exec, execBr, execCall, execJmp, execJmpl, execBr16, execBz16, execBnz16, execBltz16, execBgez16, execRet16]
  refine ⟨fun hr => ⟨?_, ?_, fun hx he => ⟨?_, ?_⟩⟩, fun hr => ⟨?_, ?_, ?_, ?_, ?_, fun hx he => ?_⟩⟩
  · rw [← brTarget_eq]
    exact issue_jumps h p 4 _ (fun _ => none) s hr rfl
  · rw [← brTarget_eq]
    exact issue_links h p 4 31 _ (fun _ => none) s hr rfl
  · exact issue_jumps h p 4 _ _ s hr (jmpFault_legal _ hx he)
  · exact issue_links h p 4 d _ _ s hr (jmpFault_legal _ hx he)
  · rw [← brTarget_eq]
    exact issue_jumps h 0 2 _ (fun _ => none) s hr rfl
  · exact brz16_runs h r n7 _ _ s hr rfl
  · exact brz16_runs h r n7 _ _ s hr (decide_not ..).symm
  · exact brz16_runs h r n7 _ _ s hr rfl
  · exact brz16_runs h r n7 _ _ s hr (cmpVal_eq_compares .ge _ 0)
  · exact issue_jumps h 0 2 _ _ s hr (jmpFault_legal _ hx he)

/-- Settles O7: every instruction goes through the one issue path, which skips it, and no word of `RETT` or `HOLD` decodes
with another PRED than 0. -/
theorem falsePredicateOnlyMovesThePc : Obligations.FalsePredicateOnlyMovesThePc := by
  refine ⟨pReg_zero, fun i h p len s hs hw hc hp hsp => exec_skipped i h p len s hs hw hc hp hsp, fun h w hd => ?_⟩
  rcases hd with hd | ⟨n, hd⟩
  · exact pred_zero_of_slot h w _ hd rfl
  · exact pred_zero_of_slot h w _ hd rfl

/-- Settles O8: every instruction's fetch goes through the one issue path, and both jumps through the one target check. -/
theorem fetchesAndJumpsStayInTheCodeSpace : Obligations.FetchesAndJumpsStayInTheCodeSpace := by
  refine ⟨fun i h p len s hs hrun hd hslot hpc => ?_, fun h p d a s hr => ⟨fun hx => ?_, fun hx ho => ?_⟩⟩
  · rw [exec_pastEnd i h p len s hs ⟨hrun, hd, hslot, hpc⟩]
    exact faults_takeFault ..
  · exact jumps_fault h p d a s _ _ hr (jmpFault_above _ hx)
  · exact jumps_fault h p d a s _ _ hr (jmpFault_odd _ hx ho)

end Sys2Proof.Machine

/-!
SUPPORT. What every command keeps: the form of the byte memories (log 4), and what legality speaks of.
-/
namespace Sys2Proof.Machine
open Sys2Proof Sys2Proof.Safety

/-! ### The memories of one core -/

/-- Both byte memories of a core are in canonical form. -/
def CoreOk (c : Core) : Prop := c.mem.wf = true ∧ c.code.wf = true

theorem CoreOk.congr {c d : Core} (h : CoreOk c) (hm : d.mem = c.mem) (hk : d.code = c.code) : CoreOk d := by
  rwa [CoreOk, hm, hk]

theorem foldl_ok {α β : Type} {P : β → Prop} {f : β → α → β} (hf : ∀ b a, P b → P (f b a)) (l : List α) :
    ∀ b, P b → P (l.foldl f b) := by
  induction l with
  | nil => exact fun _ h => h
  | cons a l ih => exact fun b h => ih _ (hf b a h)

/-- A property that both outcomes of a decision have. -/
theorem ite_ok {α : Type} {P : α → Prop} {p : Prop} [Decidable p] {a b : α} (ha : P a) (hb : P b) : P (if p then a else b) := by
  split <;> assumption

theorem nil_wf : Mem.wf [] = true := rfl

theorem reset_coreOk : CoreOk Core.reset := ⟨rfl, rfl⟩

theorem setTh_coreOk {c : Core} (i : Fin 4) (t : Thread) (h : CoreOk c) : CoreOk (setTh c i t) := h

theorem dropRows_coreOk {c : Core} (i : Fin 4) (h : CoreOk c) : CoreOk (dropRows i c) := h

theorem markWord_coreOk {c : Core} (a n : Nat) (b k : Bool) (w : Nat) (h : CoreOk c) : CoreOk (markWord a n b k c w) := h

theorem memPut_coreOk {c : Core} (a : Nat) (bs : List Byte) (b k : Bool) (h : CoreOk c) : CoreOk (memPut c a bs b k) :=
  foldl_ok (fun _ w h => markWord_coreOk _ _ _ _ w h) _ _ ⟨mwrite_wf bs _ a h.1, h.2⟩

theorem retireOne_coreOk {c : Core} (h : CoreOk c) : CoreOk (retireOne c) := by
  unfold retireOne
  split
  · exact h
  · exact memPut_coreOk _ _ _ _ h

theorem retireN_coreOk (n : Nat) : ∀ {c : Core}, CoreOk c → CoreOk (retireN n c) := by
  induction n with
  | zero => exact fun h => h
  | succ n ih => exact fun h => ih (retireOne_coreOk h)

theorem drainAll_coreOk {c : Core} (h : CoreOk c) : CoreOk (drainAll c) := retireN_coreOk _ h

theorem drainOwn_coreOk {c : Core} (i : Fin 4) (h : CoreOk c) : CoreOk (drainOwn i c) := retireN_coreOk _ h

theorem pushStore_coreOk {c : Core} (e : StoreEntry) (h : CoreOk c) : CoreOk (pushStore e c) := by
  unfold pushStore
  split
  · exact retireOne_coreOk h
  · exact h

theorem applyWr_coreOk {c : Core} (h : Hart) (w : Wr) (hc : CoreOk c) : CoreOk (applyWr h c w) := by
  cases w
  case p i x => by_cases hi : i = 0 <;> simp only [applyWr, hi] <;> exact hc
  case store => exact pushStore_coreOk _ hc
  case direct => exact memPut_coreOk _ _ _ _ hc
  all_goals exact hc

theorem applySpecWr_coreOk {c : Core} (h : Hart) (w : Wr) (hc : CoreOk c) : CoreOk (applySpecWr h c w) := by
  cases w
  case p i x => by_cases hi : i = 0 <;> simp only [applySpecWr, hi] <;> exact hc
  case store => exact pushStore_coreOk _ hc
  case direct => exact memPut_coreOk _ _ _ _ hc
  all_goals exact hc

/-! ### Notice queues, injection queues and landings -/

theorem setNq_coreOk {c : Core} (q : Nat) (x : NoticeQ) (h : CoreOk c) : CoreOk (setNq c q x) := h

theorem enqueue_coreOk {c d : Core} {q : Nat} {lo hi : Word} (h : CoreOk c) (he : enqueue c q lo hi = some d) : CoreOk d := by
  unfold enqueue at he
  split at he
  · cases he
    exact h
  · split at he
    · cases he
    · cases he
      exact setNq_coreOk _ _ (memPut_coreOk _ _ _ _ h)

theorem readLo_coreOk {c d : Core} {q : Nat} {x : Word} (h : CoreOk c) (he : readLo c q = some (x, d)) : CoreOk d := by
  unfold readLo at he
  dsimp only at he
  split at he
  · cases he
  · cases he
    exact h

theorem readHi_coreOk {c : Core} (q : Nat) (h : CoreOk c) : CoreOk (readHi c q).2 := by
  unfold readHi
  dsimp only
  repeat' split
  all_goals exact h

theorem setInj_coreOk {c : Core} (q : Nat) (x : InjQ) (h : CoreOk c) : CoreOk (setInj c q x) := h

theorem enterOne_coreOk {c : Core} (s : State) (i : CoreId) (q : Nat) (h : CoreOk c) : CoreOk (enterOne s i c q) := by
  unfold enterOne
  dsimp only
  repeat' split
  all_goals exact h

theorem enterN_coreOk (s : State) (i : CoreId) (q n : Nat) : ∀ {c : Core}, CoreOk c → CoreOk (enterN s i q n c) := by
  induction n with
  | zero => exact fun h => h
  | succ n ih => exact fun h => ih (enterOne_coreOk s i q h)

theorem setHold_coreOk {c : Core} (hd : Header) (src : SourceWord) (v : BitVec 12) (h : CoreOk c) : CoreOk (setHold c hd src v) := by
  unfold setHold
  split <;> exact h

theorem tailTake_coreOk {c : Core} (hd : Header) (src : SourceWord) (h : CoreOk c) : CoreOk (tailTake c hd src) :=
  setHold_coreOk _ _ _ h

theorem unreadNotices_coreOk {c : Core} (i : Fin 4) (h : CoreOk c) : CoreOk (unreadNotices i c) := h

theorem bindGroup_coreOk {c : Core} (f : Flit) (h : CoreOk c) : CoreOk (bindGroup f c) := h

theorem putWord_coreOk {c : Core} (a : Nat) (w : PWord) (b k : Bool) (h : CoreOk c) : CoreOk (putWord c a w b k) := by
  unfold putWord
  split
  · exact memPut_coreOk _ _ _ _ h
  · exact memPut_coreOk _ _ _ _ h

theorem putWords_coreOk (spec poison : Bool) (ws : List PWord) :
    ∀ (a : Nat) {c : Core}, CoreOk c → CoreOk (putWords spec poison a ws c) := by
  induction ws with
  | nil => exact fun _ _ h => h
  | cons w ws ih => exact fun a _ h => ih _ (putWord_coreOk a w poison spec h)

theorem putFlit_coreOk {c : Core} (hd : Header) (b : Bool) (f : Flit) (h : CoreOk c) : CoreOk (putFlit hd b c f) :=
  putWords_coreOk _ _ _ _ h

theorem landFlit_coreOk {c : Core} (f : Flit) (m : LandMsg) (h : CoreOk c) : CoreOk (landFlit f m c) := by
  unfold landFlit
  dsimp only
  split
  · exact h
  · exact (putFlit_coreOk _ _ _ (c := bindGroup f c) h).congr rfl rfl

theorem releaseTail_coreOk {c : Core} (m : LandMsg) (e : Bool) (h : CoreOk c) : CoreOk (releaseTail m e c) :=
  (foldl_ok (P := CoreOk) (fun b f hb => putFlit_coreOk _ _ f (c := bindGroup f b) hb) m.kept c h).congr rfl rfl

/-! ### Resolution, clearing and spoiling -/

theorem endBinding_coreOk {c : Core} (h : CoreOk c) : CoreOk (endBinding c) := by
  unfold endBinding
  split <;> exact h

theorem commitCore_coreOk {c : Core} (h : CoreOk c) : CoreOk (commitCore c) := endBinding_coreOk h

theorem dropMma_coreOk {c : Core} (j : Option MmaJob) (h : CoreOk c) : CoreOk (dropMma j c) := by
  unfold dropMma
  split
  · split <;> exact h
  · exact h

theorem discardWords_coreOk {c : Core} (h : CoreOk c) : CoreOk (discardWords c) :=
  ⟨foldl_ok (P := fun m : Mem => m.wf = true) (fun m _ hm => mzero_wf m _ _ hm) _ _ h.1, h.2⟩

theorem discardCore_coreOk {c : Core} (h : CoreOk c) : CoreOk (discardCore c) :=
  endBinding_coreOk ((discardWords_coreOk (dropMma_coreOk _ (dropMma_coreOk _ h))).congr rfl rfl)

theorem resolveShadow_coreOk {c : Core} (i : Fin 4) (a : Nat) (b : Bool) (h : CoreOk c) : CoreOk (resolveShadow i a b c) :=
  endBinding_coreOk h

theorem dropSpec_coreOk {c : Core} (h : CoreOk c) : CoreOk (dropSpec c) := (discardCore_coreOk h).congr rfl rfl

theorem clearedCore_coreOk {c : Core} (h : CoreOk c) : CoreOk (clearedCore c) := (dropSpec_coreOk h).congr rfl rfl

theorem migrateCore_coreOk {c : Core} (h : CoreOk c) : CoreOk (migrateCore c) := (clearedCore_coreOk h).congr rfl rfl

theorem restartedCore_coreOk {c : Core} (h : CoreOk c) : CoreOk (restartedCore c) := (dropSpec_coreOk h).congr rfl rfl

theorem emptyQueues_coreOk {c : Core} (h : CoreOk c) : CoreOk (emptyQueues c) := h

theorem emptied_coreOk (c : Core) (p q : List Nat) :
    CoreOk { c with mem := [], poison := p, code := [], codePoison := q } := ⟨nil_wf, nil_wf⟩

theorem zeroedCore_coreOk (c : Core) : CoreOk (zeroedCore c) := emptied_coreOk ..

theorem placeBoot_coreOk {c : Core} (b : BootBlock) (i : BootImage) (bytes : List Byte) (bad : List Nat) (h : CoreOk c) :
    CoreOk (placeBoot b i bytes bad c) := ⟨h.1, mwrite_wf _ _ _ h.2⟩

theorem putCode_coreOk {c : Core} (a : Nat) (bs : List Byte) (h : CoreOk c) : CoreOk (putCode a bs c) :=
  ⟨h.1, mwrite_wf _ _ _ h.2⟩

theorem spoilWord_coreOk {c : Core} (w : Nat) (h : CoreOk c) : CoreOk (spoilWord c w) :=
  ite_ok ⟨mzero_wf _ _ _ h.1, h.2⟩ (ite_ok ⟨h.1, mzero_wf _ _ _ h.2⟩ ⟨h.1, h.2⟩)

theorem migrateFailed_coreOk {c : Core} (r : Bool) (ws : List Nat) (h : CoreOk c) : CoreOk (migrateFailed r ws c) := by
  unfold migrateFailed
  split
  · exact foldl_ok (P := CoreOk) (fun _ w h => spoilWord_coreOk w h) _ _ h
  · exact emptied_coreOk ..

/-! ### What a command keeps -/

/-- Every core's memories are in canonical form. -/
def CoresOk (l : Tab Core) : Prop := ∀ c : CoreId, CoreOk (tget Core.reset l c.val)

theorem memoryForm_iff (s : State) : memoryForm s ↔ s.bulk.wf = true ∧ CoresOk s.cores := Iff.rfl

/-- From `s` to `t` the queue of commands and all that legality speaks of stay as they are, and bulk memory in canonical
form stays in it. -/
def Still (s t : State) : Prop :=
  t.pending = s.pending ∧ t.dev = s.dev ∧ t.assigned = s.assigned ∧ t.assignedNext = s.assignedNext
    ∧ t.clock.dayDiv = s.clock.dayDiv ∧ t.clock.duskDiv = s.clock.duskDiv
    ∧ t.clock.dayDivNext = s.clock.dayDivNext ∧ t.clock.duskDivNext = s.clock.duskDivNext
    ∧ t.boot.step = s.boot.step ∧ t.boot.recovery = s.boot.recovery
    ∧ (s.bulk.wf = true → t.bulk.wf = true)

/-- So do the memories of the cores. -/
def Keeps (s t : State) : Prop := Still s t ∧ (CoresOk s.cores → CoresOk t.cores)

theorem Keeps.refl (s : State) : Keeps s s := by simp [Keeps, Still]

theorem Keeps.trans {s t u : State} (a : Keeps s t) (b : Keeps t u) : Keeps s u := by
  grind [Keeps, Still]

theorem coresOk_coreOf {s : State} (c : CoreId) (h : CoresOk s.cores) : CoreOk (coreOf s c) := h c

theorem coresOk_tset {l : Tab Core} (c : CoreId) {x : Core} (h : CoresOk l) (hx : CoreOk x) : CoresOk (tset l c.val x) := by
  intro d
  by_cases hd : c = d
  · rw [hd, tget_tset_same]
    exact hx
  · rw [tget_tset_other _ _ _ _ _ (fun e => hd (Fin.ext e))]
    exact h d

theorem tfind_tmap {α : Type} (f : Nat → α → α) (l : Tab α) (i : Nat) : tfind (tmap f l) i = (tfind l i).map (f i) := by
  induction l with
  | nil => rfl
  | cons e l ih =>
    obtain ⟨k, v⟩ := e
    by_cases hk : k = i
    · simp [tmap, tfind, hk]
    · simp [tmap, tfind, hk, ih]

theorem coresOk_tmap {l : Tab Core} {f : Nat → Core → Core} (hf : ∀ k c, CoreOk c → CoreOk (f k c)) (h : CoresOk l) :
    CoresOk (tmap f l) := by
  intro d
  have hd := h d
  rw [tget, tfind_tmap]
  rw [tget] at hd
  cases ht : tfind l d.val with
  | none => exact reset_coreOk
  | some c =>
    rw [ht] at hd
    exact hf _ _ hd

theorem setCore_coresOk (s : State) (c : CoreId) (x : Core) (h : CoresOk s.cores) (hx : CoreOk x) :
    CoresOk (setCore s c x).cores := coresOk_tset c h hx

theorem modCore_coresOk (s : State) (c : CoreId) (f : Core → Core) (h : CoresOk s.cores) (hf : CoreOk (f (coreOf s c))) :
    CoresOk (modCore s c f).cores := coresOk_tset c h hf

theorem setCore_still (s : State) (c : CoreId) (x : Core) : Still s (setCore s c x) :=
  ⟨rfl, rfl, rfl, rfl, rfl, rfl, rfl, rfl, rfl, rfl, id⟩

theorem modCore_still (s : State) (c : CoreId) (f : Core → Core) : Still s (modCore s c f) := setCore_still ..

/-- An update of one core keeps all that an update of its memories keeps. -/
theorem setCore_keeps {s : State} {c : CoreId} {x : Core} (hx : CoresOk s.cores → CoreOk x) : Keeps s (setCore s c x) :=
  ⟨setCore_still .., fun h => setCore_coresOk s c x h (hx h)⟩

theorem modCore_keeps {s : State} {c : CoreId} {f : Core → Core} (hf : CoreOk (coreOf s c) → CoreOk (f (coreOf s c))) :
    Keeps s (modCore s c f) := setCore_keeps fun h => hf (h c)

theorem setCore_same {s : State} {c : CoreId} {x : Core} (hm : x.mem = (coreOf s c).mem) (hk : x.code = (coreOf s c).code) :
    Keeps s (setCore s c x) := setCore_keeps fun h => (h c).congr hm hk

theorem modTh_keeps (h : Hart) (f : Thread → Thread) (s : State) : Keeps s (modTh s h f) :=
  modCore_keeps fun hc => setTh_coreOk _ _ hc

theorem setReg_keeps (r : RegionId) (x : Region) (s : State) : Keeps s (setReg s r x) :=
  ⟨⟨rfl, rfl, rfl, rfl, rfl, rfl, rfl, rfl, rfl, rfl, id⟩, id⟩

theorem modReg_keeps (r : RegionId) (f : Region → Region) (s : State) : Keeps s (modReg s r f) := setReg_keeps ..

theorem foldl_keeps {α : Type} {f : State → α → State} (hf : ∀ s x, Keeps s (f s x)) (l : List α) (s : State) :
    Keeps s (l.foldl f s) :=
  foldl_ok (P := Keeps s) (fun _ x h => h.trans (hf _ x)) l s (Keeps.refl s)

theorem Keeps.after {s t u : State} (b : Keeps t u) (a : Keeps s t) : Keeps s u := a.trans b

theorem Keeps.hostOut {s t : State} (h : Keeps s t) (l : List HostOut) : Keeps s { t with hostOut := l } := h

theorem Keeps.nextMid {s t : State} (h : Keeps s t) (n : Nat) : Keeps s { t with nextMid := n } := h

/-- What is done to a state where something is there, and left undone where nothing is. -/
theorem option_keeps {α : Type} {f : α → State} {s t : State} (o : Option α) (h : Keeps s t) (hf : ∀ a, Keeps t (f a)) :
    Keeps s (match o with | some a => f a | none => t) := by
  cases o with
  | some a => exact h.trans (hf a)
  | none => exact h

/-- The outcome is a next state that keeps what `Keeps` says. -/
def Answers (s : State) (o : Host.Outcome State Fault Refusal) : Prop := ∃ t, o = .next t ∧ Keeps s t

theorem answers_next {s t : State} (h : Keeps s t) : Answers s (.next t) := ⟨t, rfl, h⟩

/-! ### Operations on threads and cores -/

theorem count_keeps (s : State) (addr n : Nat) : Keeps s (count s addr n) :=
  Keeps.refl s

theorem wantStore_keeps (i : FlashItem) (s : State) : Keeps s (wantStore i s) := by
  grind [wantStore, Keeps, Still]

theorem storeLog_keeps (s : State) : Keeps s (storeLog s) := ite_ok (P := Keeps s) (wantStore_keeps ..) (Keeps.refl s)

theorem logItem_keeps (i : LogItem) (s : State) : Keeps s (logItem i s) := by
  grind [logItem, Keeps, Still, storeLog_keeps]

theorem logCore_keeps (c : CoreId) (th : Fin 4) (cause : BitVec 8) (info : Word) (s : State) :
    Keeps s (logCore c th cause info s) :=
  logItem_keeps ..

theorem noteCore_keeps (c : CoreId) (th : Fin 4) (cause : BitVec 8) (held : List Nat) (s : State) :
    Keeps s (noteCore c th cause held s) :=
  logItem_keeps ..

theorem logEdie_keeps (e loc : Nat) (r : Option RegionId) (cause : BitVec 8) (info : Word) (s : State) :
    Keeps s (logEdie e loc r cause info s) :=
  logItem_keeps ..

theorem logArmaik_keeps (r : Option RegionId) (cause : BitVec 8) (info : Word) (s : State) :
    Keeps s (logArmaik r cause info s) :=
  logItem_keeps ..

theorem noteArmaik_keeps (r : Option RegionId) (cause : BitVec 8) (held : List Nat) (s : State) :
    Keeps s (noteArmaik r cause held s) :=
  logItem_keeps ..

theorem logParity_keeps (h : Hart) (k : Nat) (s : State) : Keeps s (logParity h k s) := logCore_keeps ..

theorem drawFree_keeps (s : State) : Keeps s (drawFree s).2 := Keeps.refl s

theorem raiseEvent_keeps (h : Hart) (e : Nat) (s : State) : Keeps s (raiseEvent h e s) := modTh_keeps ..

theorem deliver_keeps (c : CoreId) {f : State → State} {s : State} (hf : Keeps s (f s)) : Keeps s (deliver c f s) :=
  ite_ok (P := Keeps s) (Keeps.refl s) hf

theorem noteE5_keeps (h : Hart) (cause : BitVec 8) (pc : BitVec 17) (info : Word) (s : State) :
    Keeps s (noteE5 h cause pc info s) := by
  grind [noteE5, Keeps, Still, modTh_keeps, raiseEvent_keeps]

theorem raiseE5_keeps (h : Hart) (cause : BitVec 8) (pc : BitVec 17) (info : Word) (s : State) :
    Keeps s (raiseE5 h cause pc info s) := by
  grind [raiseE5, Keeps, Still, noteE5_keeps, logCore_keeps]

theorem haltThread_keeps (h : Hart) (vec : BitVec 7) (s : State) : Keeps s (haltThread h vec s) := by
  have hdrain : Keeps s (modCore s h.core fun c =>
      setTh (drainOwn h.thread c) h.thread { thOf (drainOwn h.thread c) h.thread with run := .halted }) :=
    modCore_keeps fun hc => setTh_coreOk _ _ (drainOwn_coreOk _ hc)
  unfold haltThread
  dsimp only
  split
  · exact hdrain.trans (logCore_keeps ..)
  · grind [Keeps.trans, Keeps.refl, logCore_keeps, modReg_keeps, deliver_keeps, noteE5_keeps]

theorem decideEntry_keeps (h : Hart) (vec : BitVec 7) (restart : BitVec 17) (s : State) :
    Keeps s (decideEntry h vec restart s) := by
  grind [decideEntry, Keeps, Still, haltThread_keeps, modTh_keeps, modCore_still, modCore_coresOk, coresOk_coreOf,
    CoreOk]

theorem takeFault_keeps (h : Hart) (len : Nat) (f : Flt) (s : State) : Keeps s (takeFault h len f s) :=
  Keeps.after (decideEntry_keeps ..) (modTh_keeps ..)

theorem takeEvent_keeps (h : Hart) (restart : BitVec 17) (s : State) : Keeps s (takeEvent h restart s) := by
  grind [takeEvent, Keeps, Still, decideEntry_keeps, modTh_keeps]

theorem rotate_keeps (h : Hart) (s : State) : Keeps s (rotate h s) := by
  grind [rotate, Keeps, Still, modCore_still, modCore_coresOk, coresOk_coreOf, dropRows_coreOk, CoreOk]

theorem newSlot_keeps (core : CoreId) (s : State) : Keeps s (newSlot core s) := by
  grind [newSlot, Keeps, Still, modCore_still, modCore_coresOk, coresOk_coreOf, CoreOk]

theorem letPass_keeps (h : Hart) (s : State) : Keeps s (letPass h s) := by
  grind [letPass, Keeps, Still, modCore_still, modCore_coresOk, coresOk_coreOf, CoreOk]

theorem setRun_keeps (h : Hart) (r : Run) (s : State) : Keeps s (setRun h r s) := modTh_keeps ..

theorem awaitGroup_keeps (h : Hart) (s : State) : Keeps s (awaitGroup h s) := by
  grind [awaitGroup, Keeps, Still, setRun_keeps, modCore_still, modCore_coresOk, coresOk_coreOf, dropRows_coreOk,
    CoreOk]

theorem finish_keeps (h : Hart) (len : Nat) (a : Act) (s : State) : Keeps s (finish h len a s) :=
  modCore_keeps fun hc => setTh_coreOk _ _
    (foldl_ok (P := CoreOk) (fun _ w hb => applyWr_coreOk h w hb) a.writes _ (setTh_coreOk _ _ hc))

theorem finishSpec_keeps (h : Hart) (len : Nat) (a : Act) (s : State) : Keeps s (finishSpec h len a s) :=
  modCore_keeps fun hc => setTh_coreOk _ _
    (foldl_ok (P := CoreOk) (fun _ w hb => applySpecWr_coreOk h w hb) a.writes _ (setTh_coreOk _ _ hc))

/-- An instruction that is issued keeps what its completion keeps. -/
theorem issueWith_answers (h : Hart) (p : Fin 8) (len : Nat) (act : Core → Thread → Act) {eff effSpec :
    Act → State → State}
    (s : State) (he : ∀ a s, Keeps s (eff a s)) (hs : ∀ a s, Keeps s (effSpec a s)) :
    Answers s (issueWith h p len act eff effSpec s) := by
  have hrot : Keeps s (rotate h s) := rotate_keeps h s
  have hmod : ∀ g, Answers s (.next (modTh (rotate h s) h g)) := fun g => answers_next (hrot.trans (modTh_keeps ..))
  have hpass : Answers s (.next (letPass h s)) := answers_next (letPass_keeps ..)
  refine ite_ok (P := Answers s) (answers_next (Keeps.refl s))
    (ite_ok (P := Answers s) (answers_next (hrot.trans (takeFault_keeps ..))) ?_)
  split
  · exact answers_next (hrot.trans (takeFault_keeps ..))
  · refine ite_ok (P := Answers s) (hmod _) (ite_ok (P := Answers s) hpass
      (ite_ok (P := Answers s) (answers_next (awaitGroup_keeps ..)) (ite_ok (P := Answers s) (hmod _)
        (ite_ok (P := Answers s) hpass (ite_ok (P := Answers s) ?_ ?_)))))
    · split
      · exact hmod _
      · exact answers_next (hrot.trans (hs ..))
    · split
      · exact answers_next ((hrot.trans (modTh_keeps ..)).trans (takeFault_keeps ..))
      · exact answers_next (hrot.trans (he ..))

theorem issue_answers (h : Hart) (p : Fin 8) (len : Nat) (act : Core → Thread → Act) (s : State) :
    Answers s (issue h p len act s) := by
  grind [issue, answers_next, issueWith_answers, finish_keeps, finishSpec_keeps]

theorem issueOwn_answers (h : Hart) (p : Fin 8) (len : Nat) (act : Core → Thread → Act) {eff : State → State} (s :
    State)
    (he : ∀ s, Keeps s (eff s)) : Answers s (issueOwn h p len act eff s) :=
  issueWith_answers _ _ _ _ _ (fun _ => he) fun _ => Keeps.refl

theorem issueReserved_answers (h : Hart) (len : Nat) (info : Word) (s : State) :
    Answers s (issueReserved h len info s) := by
  grind [issueReserved, Keeps, Still, answers_next, takeFault_keeps, rotate_keeps]

/-! ### Operands -/

theorem guardWf_answers (i : Instr) (h : Hart) (len : Nat) {k : State → Host.Outcome State Fault Refusal} {s : State}
    (hk : Answers s (k s)) : Answers s (guardWf i h len k s) :=
  ite_ok (P := Answers s) hk (issueReserved_answers ..)

/-! ### Block-repeat operations -/

theorem stepBy_c (x : Blk) (n : Nat) (m : Bool) (k : Nat) : (stepBy x n m k).c = x.c := rfl

theorem putElem_coreOk {x : Blk} (th : Fin 4) (a : Word) (bs : List Byte) (h : CoreOk x.c) :
    CoreOk (putElem x th a bs).c :=
  pushStore_coreOk _ h

/-- A step of a block-repeat operation leaves the memories of its core in canonical form. -/
def StepOk (step : Blk → Blk) : Prop := ∀ x, CoreOk x.c → CoreOk (step x).c

theorem smoveStep_ok (th : Fin 4) (n : Nat) : StepOk (smoveStep th n) := by
  intro x hx
  grind [smoveStep, stopAt, sawWord, stepBy_c, putElem_coreOk]

theorem sfillStep_ok (th : Fin 4) (n : Nat) : StepOk (sfillStep th n) := by
  intro x hx
  grind [sfillStep, stopAt, stepBy_c, putElem_coreOk]

theorem scmpStep_ok (th : Fin 4) (n : Nat) : StepOk (scmpStep th n) := by
  intro x hx
  grind [scmpStep, stopAt, sawWord, stepBy_c]

theorem sscanStep_ok (th : Fin 4) (n : Nat) (neg : Bool) : StepOk (sscanStep th n neg) := by
  intro x hx
  grind [sscanStep, stopAt, sawWord, stepBy_c]

theorem cloadStep_ok (th : Fin 4) : StepOk (cloadStep th) := by
  intro x hx
  grind [cloadStep, stopAt, sawWord, stepBy_c, CoreOk, mwrite_wf]

theorem creadStep_ok (th : Fin 4) : StepOk (creadStep th) := by
  intro x hx
  grind [creadStep, stopAt, stepBy_c, putElem_coreOk]

theorem runBlk_ok {step : Blk → Blk} (hs : StepOk step) (n : Nat) : StepOk (runBlk n step) := by
  have hloop : ∀ k, StepOk (blkLoop step k) := by
    intro k
    induction k with
    | zero => exact fun _ hx => hx
    | succ k ih => exact fun x hx => ite_ok (P := fun y : Blk => CoreOk y.c) hx (ih _ (hs x hx))
  exact hloop _

theorem blkEff_keeps (h : Hart) (d a b : Fin 32) (n : Nat) {step : Blk → Blk} (hs : StepOk step) (s : State) :
    Keeps s (blkEff h d a b n step s) := by
  have hrun : ∀ c : Core, CoreOk c → CoreOk (runBlk n step (blkStart c (thOf c h.thread) d a b)).c :=
    fun c hc => runBlk_ok hs n _ hc
  have hset : Keeps s (setCore s h.core
      (putRegs h d a b (runBlk n step (blkStart (coreOf s h.core) (thOf (coreOf s h.core) h.thread) d a b)))) :=
    setCore_keeps fun hc => setTh_coreOk _ _ (hrun _ (hc h.core))
  unfold blkEff
  grind [Keeps.trans, modTh_keeps, takeEvent_keeps, takeFault_keeps]

theorem blk_answers (h : Hart) (p : Fin 8) (d a b : Fin 32) (n : Nat) (tests : List (Fin 32)) {step : Blk → Blk}
    (hs : StepOk step) (priv : Thread → Option Flt) (s : State) : Answers s (blk h p d a b n tests step priv s) :=
  issueOwn_answers _ _ _ _ _ (blkEff_keeps h d a b n hs)

theorem execSmove_answers (h : Hart) (p : Fin 8) (sz : ElemSize) (d a b : Fin 32) (s : State) :
    Answers s (execSmove h p sz d a b s) := guardWf_answers _ _ _ (blk_answers _ _ _ _ _ _ _ (smoveStep_ok _ _) _ _)

theorem execSfill_answers (h : Hart) (p : Fin 8) (sz : ElemSize) (d a b : Fin 32) (s : State) :
    Answers s (execSfill h p sz d a b s) := guardWf_answers _ _ _ (blk_answers _ _ _ _ _ _ _ (sfillStep_ok _ _) _ _)

theorem execScmp_answers (h : Hart) (p : Fin 8) (sz : ElemSize) (d a b : Fin 32) (s : State) :
    Answers s (execScmp h p sz d a b s) := guardWf_answers _ _ _ (blk_answers _ _ _ _ _ _ _ (scmpStep_ok _ _) _ _)

theorem execSscan_answers (h : Hart) (p : Fin 8) (sz : ElemSize) (d a b : Fin 32) (s : State) :
    Answers s (execSscan h p sz d a b s) := guardWf_answers _ _ _ (blk_answers _ _ _ _ _ _ _ (sscanStep_ok _ _ _) _ _)

theorem execSscann_answers (h : Hart) (p : Fin 8) (sz : ElemSize) (d a b : Fin 32) (s : State) :
    Answers s (execSscann h p sz d a b s) := guardWf_answers _ _ _ (blk_answers _ _ _ _ _ _ _ (sscanStep_ok _ _ _) _ _)

theorem execCload_answers (h : Hart) (p : Fin 8) (d a b : Fin 32) (s : State) :
    Answers s (execCload h p d a b s) := guardWf_answers _ _ _ (blk_answers _ _ _ _ _ _ _ (cloadStep_ok _) _ _)

theorem execCread_answers (h : Hart) (p : Fin 8) (d a b : Fin 32) (s : State) :
    Answers s (execCread h p d a b s) := guardWf_answers _ _ _ (blk_answers _ _ _ _ _ _ _ (creadStep_ok _) _ _)

/-! ### Integer instructions -/

theorem aluG_answers (h : Hart) (p : Fin 8) (len : Nat) (d : Fin 32) (f : Thread → Word) (s : State) :
    Answers s (aluG h p len d f s) :=
  issue_answers ..

theorem alu2_answers (h : Hart) (p : Fin 8) (len : Nat) (d a b : Fin 32) (f : Word → Word → Word) (s : State) :
    Answers s (alu2 h p len d a b f s) :=
  aluG_answers ..

theorem alu1_answers (h : Hart) (p : Fin 8) (len : Nat) (d a : Fin 32) (f : Word → Word) (s : State) :
    Answers s (alu1 h p len d a f s) :=
  aluG_answers ..

theorem aluP_answers (h : Hart) (p d : Fin 8) (ps : List (Fin 8)) (f : Thread → Bool) (s : State) :
    Answers s (aluP h p d ps f s) :=
  issue_answers ..

theorem execAdd_answers (h : Hart) (p : Fin 8) (d : Fin 32) (a : Fin 32) (b : Fin 32) (s : State) :
    Answers s (execAdd h p d a b s) :=
  alu2_answers ..

theorem execSub_answers (h : Hart) (p : Fin 8) (d : Fin 32) (a : Fin 32) (b : Fin 32) (s : State) :
    Answers s (execSub h p d a b s) :=
  alu2_answers ..

theorem execAnd_answers (h : Hart) (p : Fin 8) (d : Fin 32) (a : Fin 32) (b : Fin 32) (s : State) :
    Answers s (execAnd h p d a b s) :=
  alu2_answers ..

theorem execOr_answers (h : Hart) (p : Fin 8) (d : Fin 32) (a : Fin 32) (b : Fin 32) (s : State) :
    Answers s (execOr h p d a b s) :=
  alu2_answers ..

theorem execXor_answers (h : Hart) (p : Fin 8) (d : Fin 32) (a : Fin 32) (b : Fin 32) (s : State) :
    Answers s (execXor h p d a b s) :=
  alu2_answers ..

theorem execAndn_answers (h : Hart) (p : Fin 8) (d : Fin 32) (a : Fin 32) (b : Fin 32) (s : State) :
    Answers s (execAndn h p d a b s) :=
  alu2_answers ..

theorem execShl_answers (h : Hart) (p : Fin 8) (d : Fin 32) (a : Fin 32) (b : Fin 32) (s : State) :
    Answers s (execShl h p d a b s) :=
  alu2_answers ..

theorem execShr_answers (h : Hart) (p : Fin 8) (d : Fin 32) (a : Fin 32) (b : Fin 32) (s : State) :
    Answers s (execShr h p d a b s) :=
  alu2_answers ..

theorem execSar_answers (h : Hart) (p : Fin 8) (d : Fin 32) (a : Fin 32) (b : Fin 32) (s : State) :
    Answers s (execSar h p d a b s) :=
  alu2_answers ..

theorem execRor_answers (h : Hart) (p : Fin 8) (d : Fin 32) (a : Fin 32) (b : Fin 32) (s : State) :
    Answers s (execRor h p d a b s) :=
  alu2_answers ..

theorem execMul_answers (h : Hart) (p : Fin 8) (d : Fin 32) (a : Fin 32) (b : Fin 32) (s : State) :
    Answers s (execMul h p d a b s) :=
  alu2_answers ..

theorem execMulh_answers (h : Hart) (p : Fin 8) (d : Fin 32) (a : Fin 32) (b : Fin 32) (s : State) :
    Answers s (execMulh h p d a b s) :=
  alu2_answers ..

theorem execMulhu_answers (h : Hart) (p : Fin 8) (d : Fin 32) (a : Fin 32) (b : Fin 32) (s : State) :
    Answers s (execMulhu h p d a b s) :=
  alu2_answers ..

theorem execDiv_answers (h : Hart) (p : Fin 8) (d : Fin 32) (a : Fin 32) (b : Fin 32) (s : State) :
    Answers s (execDiv h p d a b s) :=
  alu2_answers ..

theorem execDivu_answers (h : Hart) (p : Fin 8) (d : Fin 32) (a : Fin 32) (b : Fin 32) (s : State) :
    Answers s (execDivu h p d a b s) :=
  alu2_answers ..

theorem execRem_answers (h : Hart) (p : Fin 8) (d : Fin 32) (a : Fin 32) (b : Fin 32) (s : State) :
    Answers s (execRem h p d a b s) :=
  alu2_answers ..

theorem execRemu_answers (h : Hart) (p : Fin 8) (d : Fin 32) (a : Fin 32) (b : Fin 32) (s : State) :
    Answers s (execRemu h p d a b s) :=
  alu2_answers ..

theorem execMin_answers (h : Hart) (p : Fin 8) (d : Fin 32) (a : Fin 32) (b : Fin 32) (s : State) :
    Answers s (execMin h p d a b s) :=
  alu2_answers ..

theorem execMax_answers (h : Hart) (p : Fin 8) (d : Fin 32) (a : Fin 32) (b : Fin 32) (s : State) :
    Answers s (execMax h p d a b s) :=
  alu2_answers ..

theorem execMinu_answers (h : Hart) (p : Fin 8) (d : Fin 32) (a : Fin 32) (b : Fin 32) (s : State) :
    Answers s (execMinu h p d a b s) :=
  alu2_answers ..

theorem execMaxu_answers (h : Hart) (p : Fin 8) (d : Fin 32) (a : Fin 32) (b : Fin 32) (s : State) :
    Answers s (execMaxu h p d a b s) :=
  alu2_answers ..

theorem execClz_answers (h : Hart) (p : Fin 8) (d : Fin 32) (a : Fin 32) (s : State) : Answers s (execClz h p d a s) :=
  alu1_answers ..

theorem execCtz_answers (h : Hart) (p : Fin 8) (d : Fin 32) (a : Fin 32) (s : State) : Answers s (execCtz h p d a s) :=
  alu1_answers ..

theorem execPopc_answers (h : Hart) (p : Fin 8) (d : Fin 32) (a : Fin 32) (s : State) :
    Answers s (execPopc h p d a s) :=
  alu1_answers ..

theorem execSextb_answers (h : Hart) (p : Fin 8) (d : Fin 32) (a : Fin 32) (s : State) :
    Answers s (execSextb h p d a s) :=
  alu1_answers ..

theorem execSexth_answers (h : Hart) (p : Fin 8) (d : Fin 32) (a : Fin 32) (s : State) :
    Answers s (execSexth h p d a s) :=
  alu1_answers ..

theorem execSextw_answers (h : Hart) (p : Fin 8) (d : Fin 32) (a : Fin 32) (s : State) :
    Answers s (execSextw h p d a s) :=
  alu1_answers ..

theorem execZextw_answers (h : Hart) (p : Fin 8) (d : Fin 32) (a : Fin 32) (s : State) :
    Answers s (execZextw h p d a s) :=
  alu1_answers ..

theorem execAddi_answers (h : Hart) (p : Fin 8) (d : Fin 32) (a : Fin 32) (imm : BitVec 12) (s : State) :
    Answers s (execAddi h p d a imm s) :=
  alu1_answers ..

theorem execAndi_answers (h : Hart) (p : Fin 8) (d : Fin 32) (a : Fin 32) (imm : BitVec 12) (s : State) :
    Answers s (execAndi h p d a imm s) :=
  alu1_answers ..

theorem execOri_answers (h : Hart) (p : Fin 8) (d : Fin 32) (a : Fin 32) (imm : BitVec 12) (s : State) :
    Answers s (execOri h p d a imm s) :=
  alu1_answers ..

theorem execXori_answers (h : Hart) (p : Fin 8) (d : Fin 32) (a : Fin 32) (imm : BitVec 12) (s : State) :
    Answers s (execXori h p d a imm s) :=
  alu1_answers ..

theorem execShli_answers (h : Hart) (p : Fin 8) (d : Fin 32) (a : Fin 32) (n : BitVec 6) (s : State) :
    Answers s (execShli h p d a n s) :=
  alu1_answers ..

theorem execShri_answers (h : Hart) (p : Fin 8) (d : Fin 32) (a : Fin 32) (n : BitVec 6) (s : State) :
    Answers s (execShri h p d a n s) :=
  alu1_answers ..

theorem execSari_answers (h : Hart) (p : Fin 8) (d : Fin 32) (a : Fin 32) (n : BitVec 6) (s : State) :
    Answers s (execSari h p d a n s) :=
  alu1_answers ..

theorem execRori_answers (h : Hart) (p : Fin 8) (d : Fin 32) (a : Fin 32) (n : BitVec 6) (s : State) :
    Answers s (execRori h p d a n s) :=
  alu1_answers ..

theorem execMovi_answers (h : Hart) (p : Fin 8) (d : Fin 32) (imm : BitVec 17) (s : State) :
    Answers s (execMovi h p d imm s) :=
  aluG_answers ..

theorem execMovsh_answers (h : Hart) (p : Fin 8) (d : Fin 32) (imm : BitVec 16) (s : State) :
    Answers s (execMovsh h p d imm s) :=
  aluG_answers ..

theorem execCmp_answers (h : Hart) (p : Fin 8) (c : CmpCond) (d : Fin 8) (a : Fin 32) (b : Fin 32) (s : State) :
    Answers s (execCmp h p c d a b s) :=
  aluP_answers ..

theorem execCmpi_answers (h : Hart) (p : Fin 8) (c : CmpiCond) (d : Fin 8) (a : Fin 32) (imm : BitVec 12) (s :
    State) : Answers s (execCmpi h p c d a imm s) :=
  aluP_answers ..

theorem execPand_answers (h : Hart) (p : Fin 8) (d : Fin 8) (a : Fin 8) (b : Fin 8) (s : State) :
    Answers s (execPand h p d a b s) :=
  aluP_answers ..

theorem execPor_answers (h : Hart) (p : Fin 8) (d : Fin 8) (a : Fin 8) (b : Fin 8) (s : State) :
    Answers s (execPor h p d a b s) :=
  aluP_answers ..

theorem execPxor_answers (h : Hart) (p : Fin 8) (d : Fin 8) (a : Fin 8) (b : Fin 8) (s : State) :
    Answers s (execPxor h p d a b s) :=
  aluP_answers ..

theorem execPandn_answers (h : Hart) (p : Fin 8) (d : Fin 8) (a : Fin 8) (b : Fin 8) (s : State) :
    Answers s (execPandn h p d a b s) :=
  aluP_answers ..

theorem execPnot_answers (h : Hart) (p : Fin 8) (d : Fin 8) (a : Fin 8) (s : State) : Answers s (execPnot h p d a s) :=
  aluP_answers ..

theorem execPmov_answers (h : Hart) (p : Fin 8) (d : Fin 8) (a : Fin 8) (s : State) : Answers s (execPmov h p d a s) :=
  aluP_answers ..

/-! ### Loads and stores -/

theorem loadG_answers (h : Hart) (p : Fin 8) (d a : Fin 32) (imm : BitVec 12) (n : Nat) (ext : Word → Word) (s :
    State) : Answers s (loadG h p d a imm n ext s) :=
  issue_answers ..

theorem storeG_answers (h : Hart) (p : Fin 8) (d a : Fin 32) (imm : BitVec 12) (n : Nat) (s : State) :
    Answers s (storeG h p d a imm n s) :=
  issue_answers ..

theorem execBr_answers (h : Hart) (p : Fin 8) (disp : BitVec 22) (s : State) : Answers s (execBr h p disp s) :=
  issue_answers ..

theorem execCall_answers (h : Hart) (p : Fin 8) (disp : BitVec 22) (s : State) : Answers s (execCall h p disp s) :=
  issue_answers ..

theorem execJmp_answers (h : Hart) (p : Fin 8) (a : Fin 32) (s : State) :
    Answers s (execJmp h p a s) := issue_answers ..

theorem execJmpl_answers (h : Hart) (p : Fin 8) (d : Fin 32) (a : Fin 32) (s : State) :
    Answers s (execJmpl h p d a s) :=
  issue_answers ..

theorem execLdb_answers (h : Hart) (p : Fin 8) (d : Fin 32) (a : Fin 32) (imm : BitVec 12) (s : State) :
    Answers s (execLdb h p d a imm s) :=
  loadG_answers ..

theorem execLdbu_answers (h : Hart) (p : Fin 8) (d : Fin 32) (a : Fin 32) (imm : BitVec 12) (s : State) :
    Answers s (execLdbu h p d a imm s) :=
  loadG_answers ..

theorem execLdh_answers (h : Hart) (p : Fin 8) (d : Fin 32) (a : Fin 32) (imm : BitVec 12) (s : State) :
    Answers s (execLdh h p d a imm s) :=
  loadG_answers ..

theorem execLdhu_answers (h : Hart) (p : Fin 8) (d : Fin 32) (a : Fin 32) (imm : BitVec 12) (s : State) :
    Answers s (execLdhu h p d a imm s) :=
  loadG_answers ..

theorem execLdw_answers (h : Hart) (p : Fin 8) (d : Fin 32) (a : Fin 32) (imm : BitVec 12) (s : State) :
    Answers s (execLdw h p d a imm s) :=
  loadG_answers ..

theorem execLdwu_answers (h : Hart) (p : Fin 8) (d : Fin 32) (a : Fin 32) (imm : BitVec 12) (s : State) :
    Answers s (execLdwu h p d a imm s) :=
  loadG_answers ..

theorem execLdd_answers (h : Hart) (p : Fin 8) (d : Fin 32) (a : Fin 32) (imm : BitVec 12) (s : State) :
    Answers s (execLdd h p d a imm s) :=
  loadG_answers ..

theorem execStb_answers (h : Hart) (p : Fin 8) (d : Fin 32) (a : Fin 32) (imm : BitVec 12) (s : State) :
    Answers s (execStb h p d a imm s) :=
  storeG_answers ..

theorem execSth_answers (h : Hart) (p : Fin 8) (d : Fin 32) (a : Fin 32) (imm : BitVec 12) (s : State) :
    Answers s (execSth h p d a imm s) :=
  storeG_answers ..

theorem execStw_answers (h : Hart) (p : Fin 8) (d : Fin 32) (a : Fin 32) (imm : BitVec 12) (s : State) :
    Answers s (execStw h p d a imm s) :=
  storeG_answers ..

theorem execStd_answers (h : Hart) (p : Fin 8) (d : Fin 32) (a : Fin 32) (imm : BitVec 12) (s : State) :
    Answers s (execStd h p d a imm s) :=
  storeG_answers ..

theorem execVld_answers (h : Hart) (p : Fin 8) (d : Fin 32) (a : Fin 32) (imm : BitVec 12) (s : State) :
    Answers s (execVld h p d a imm s) :=
  issue_answers ..

theorem execVst_answers (h : Hart) (p : Fin 8) (d : Fin 32) (a : Fin 32) (imm : BitVec 12) (s : State) :
    Answers s (execVst h p d a imm s) :=
  issue_answers ..

/-! ### Compact instructions -/

theorem alu16_answers (h : Hart) (d r : Fin 16) (f : Word → Word → Word) (s : State) : Answers s (alu16 h d r f s) :=
  alu2_answers ..

theorem brz16_answers (h : Hart) (r : Fin 16) (disp : BitVec 7) (f : Word → Bool) (s : State) :
    Answers s (brz16 h r disp f s) :=
  issue_answers ..

theorem execMov16_answers (h : Hart) (d r : Fin 16) (s : State) : Answers s (execMov16 h d r s) :=
  guardWf_answers _ _ _ (alu16_answers ..)

theorem execAdd16_answers (h : Hart) (d : Fin 16) (r : Fin 16) (s : State) :
    Answers s (execAdd16 h d r s) := alu16_answers ..

theorem execSub16_answers (h : Hart) (d : Fin 16) (r : Fin 16) (s : State) :
    Answers s (execSub16 h d r s) := alu16_answers ..

theorem execAnd16_answers (h : Hart) (d : Fin 16) (r : Fin 16) (s : State) :
    Answers s (execAnd16 h d r s) := alu16_answers ..

theorem execOr16_answers (h : Hart) (d : Fin 16) (r : Fin 16) (s : State) :
    Answers s (execOr16 h d r s) := alu16_answers ..

theorem execXor16_answers (h : Hart) (d : Fin 16) (r : Fin 16) (s : State) :
    Answers s (execXor16 h d r s) := alu16_answers ..

theorem execShl16_answers (h : Hart) (d : Fin 16) (r : Fin 16) (s : State) :
    Answers s (execShl16 h d r s) := alu16_answers ..

theorem execShr16_answers (h : Hart) (d : Fin 16) (r : Fin 16) (s : State) :
    Answers s (execShr16 h d r s) := alu16_answers ..

theorem execAddi16_answers (h : Hart) (d : Fin 16) (imm : BitVec 7) (s : State) : Answers s (execAddi16 h d imm s) :=
  alu1_answers ..

theorem execMovi16_answers (h : Hart) (d : Fin 16) (imm : BitVec 7) (s : State) : Answers s (execMovi16 h d imm s) :=
  aluG_answers ..

theorem execShli16_answers (h : Hart) (d : Fin 16) (n : BitVec 5) (s : State) :
    Answers s (execShli16 h d n s) := alu1_answers ..

theorem execShri16_answers (h : Hart) (d : Fin 16) (n : BitVec 5) (s : State) :
    Answers s (execShri16 h d n s) := alu1_answers ..

theorem execSari16_answers (h : Hart) (d : Fin 16) (n : BitVec 5) (s : State) :
    Answers s (execSari16 h d n s) := alu1_answers ..

theorem execLdd16_answers (h : Hart) (d : Fin 16) (b : Fin 16) (off : BitVec 3) (s : State) :
    Answers s (execLdd16 h d b off s) :=
  issue_answers ..

theorem execStd16_answers (h : Hart) (d : Fin 16) (b : Fin 16) (off : BitVec 3) (s : State) :
    Answers s (execStd16 h d b off s) :=
  issue_answers ..

theorem execLdw16_answers (h : Hart) (d : Fin 16) (b : Fin 16) (off : BitVec 3) (s : State) :
    Answers s (execLdw16 h d b off s) :=
  issue_answers ..

theorem execStw16_answers (h : Hart) (d : Fin 16) (b : Fin 16) (off : BitVec 3) (s : State) :
    Answers s (execStw16 h d b off s) :=
  issue_answers ..

theorem execBz16_answers (h : Hart) (r : Fin 16) (disp : BitVec 7) (s : State) : Answers s (execBz16 h r disp s) :=
  brz16_answers ..

theorem execBnz16_answers (h : Hart) (r : Fin 16) (disp : BitVec 7) (s : State) : Answers s (execBnz16 h r disp s) :=
  brz16_answers ..

theorem execBltz16_answers (h : Hart) (r : Fin 16) (disp : BitVec 7) (s : State) : Answers s (execBltz16 h r disp s) :=
  brz16_answers ..

theorem execBgez16_answers (h : Hart) (r : Fin 16) (disp : BitVec 7) (s : State) : Answers s (execBgez16 h r disp s) :=
  brz16_answers ..

theorem execBr16_answers (h : Hart) (disp : BitVec 11) (s : State) : Answers s (execBr16 h disp s) := issue_answers ..

theorem execNop16_answers (h : Hart) (s : State) : Answers s (execNop16 h s) := issue_answers ..

theorem execRet16_answers (h : Hart) (s : State) : Answers s (execRet16 h s) := issue_answers ..

/-! ### Flags, counters and watches -/

theorem dueInvalidations_keeps (s : State) : Keeps s (dueInvalidations s) := by
  grind [dueInvalidations, Keeps, Still]

theorem pass_keeps (n : Nat) (s : State) : Keeps s (pass n s) := by
  have hc : CoresOk s.cores → CoresOk (if n = 0 then s.cores else tmap (fun _ c => { c with passed := [] }) s.cores) :=
    fun h => ite_ok (P := CoresOk) h (coresOk_tmap (fun _ _ h => h) h)
  refine Keeps.trans ?_ (dueInvalidations_keeps _)
  exact ⟨⟨rfl, rfl, rfl, rfl, rfl, rfl, rfl, rfl, rfl, rfl, id⟩, hc⟩

theorem toCycle_keeps (n : Nat) (s : State) : Keeps s (toCycle n s) := pass_keeps ..

theorem toNow_keeps (n : Nat) (s : State) : Keeps s (toNow n s) := pass_keeps ..

theorem setBank_keeps (s : State) (d : DieId) (b : FlagBank) : Keeps s (setBank s d b) :=
  Keeps.refl s

theorem testWatch_keeps (d : DieId) (us : List FlagUpd) (s : State) (h : Hart) : Keeps s (testWatch d us s h) := by
  unfold testWatch
  dsimp only
  split
  · exact ite_ok (P := Keeps s) (deliver_keeps _ ((modTh_keeps ..).trans (raiseEvent_keeps ..))) (Keeps.refl s)
  · exact Keeps.refl s

theorem latchWait_keeps (d : DieId) (s : State) (h : Hart) : Keeps s (latchWait d s h) := by
  refine ite_ok (P := Keeps s) (Keeps.refl s) ?_
  split
  · split
    · split
      · exact ite_ok (P := Keeps s) (modTh_keeps ..) (Keeps.refl s)
      · exact Keeps.refl s
    · exact Keeps.refl s
  · exact Keeps.refl s

theorem bankCycle_keeps (d : DieId) (us : List FlagUpd) (s : State) : Keeps s (bankCycle d us s) :=
  ((setBank_keeps ..).trans (foldl_keeps (latchWait_keeps d) _ _)).trans (foldl_keeps (testWatch_keeps d us) _ _)

theorem sendUpd_keeps (u : FlagUpd) (s : State) : Keeps s (sendUpd u s) :=
  Keeps.refl s

theorem deliverOwn_keeps (h : Hart) (d : DieId) (s : State) : Keeps s (deliverOwn h d s) :=
  foldl_keeps (f := fun s u => bankCycle d [u] s) (fun s u => bankCycle_keeps d [u] s) _ _

theorem postNotice_keeps (c : CoreId) (q e : Nat) (lo hi : Word) (s : State) : Keeps s (postNotice c q e lo hi s) := by
  unfold postNotice
  split
  next x hx => exact (setCore_keeps fun h => enqueue_coreOk (h c) hx).trans (raiseEvent_keeps ..)
  · exact ((count_keeps ..).trans (logCore_keeps ..)).trans (noteE5_keeps ..)

theorem noticeCtrl_keeps (h : Hart) (v : Nat) (s : State) : Keeps s (noticeCtrl h v s) := by
  grind [noticeCtrl, Keeps, Still, modCore_still, modCore_coresOk, coresOk_coreOf, setNq_coreOk, CoreOk]

/-! ### Cells -/

theorem cellCreate_keeps (who : Option RegionId) (e : BitVec 128) (wanted : Option (BitVec 11)) (s : State) :
    Keeps s (cellCreate who e wanted s).2.2 := by
  unfold cellCreate
  dsimp only
  split_ifs <;> exact Keeps.refl s

theorem cellDelete_keeps (who : Option RegionId) (i : Nat) (s : State) : Keeps s (cellDelete who i s).2.2 := by
  unfold cellDelete
  dsimp only
  split_ifs <;> exact Keeps.refl s

/-! ### Injection -/

theorem refill_keeps (core : CoreId) (q : Nat) (s : State) : Keeps s (refill core q s) :=
  setCore_keeps fun h => enterN_coreOk _ _ _ _ (h core)

theorem sendEff_keeps (h : Hart) (q : Fin 16) (hd : Header) (b : Word) (s : State) : Keeps s (sendEff h q hd b s) := by
  grind [sendEff, Keeps, Still, setRun_keeps, refill_keeps, modCore_still, modCore_coresOk, coresOk_coreOf,
    setInj_coreOk, CoreOk]

theorem execSend_answers (h : Hart) (p : Fin 8) (q : Fin 16) (a b : Fin 32) (s : State) :
    Answers s (execSend h p q a b s) :=
  guardWf_answers _ _ _ (issueOwn_answers _ _ _ _ _ fun _ => sendEff_keeps ..)

theorem moverRecord_keeps (h : Hart) (rec_ : Word) (s : State) : Keeps s (moverRecord h rec_ s) :=
  Keeps.after (raiseEvent_keeps ..) (modTh_keeps ..)

theorem startList_keeps (core : CoreId) (j : MoverJob) (s : State) : Keeps s (startList core j s) := by
  grind [startList, Keeps, Still, refill_keeps, modCore_still, modCore_coresOk, coresOk_coreOf, setInj_coreOk, CoreOk]

theorem startStreamOut_keeps (core : CoreId) (j : MoverJob) (e : EngineId) (laddr len q xfer : Nat) (s : State) :
    Keeps s (startStreamOut core j e laddr len q xfer s) := by
  grind [startStreamOut, Keeps, Still, refill_keeps, modCore_still, modCore_coresOk, coresOk_coreOf, setInj_coreOk,
    CoreOk]

theorem moverStart_keeps (core : CoreId) (s : State) : Keeps s (moverStart core s) := by
  have hset : ∀ q, Keeps s (setCore s core { coreOf s core with moverQ := q }) := fun q => setCore_keeps fun h => h core
  unfold moverStart
  dsimp only
  repeat' split
  all_goals grind [Keeps.refl, Keeps.trans, startStreamOut_keeps, moverRecord_keeps, startList_keeps]

theorem moverFinish_keeps (core : CoreId) (s : State) : Keeps s (moverFinish core s) := by
  unfold moverFinish
  grind [Keeps, Still, moverRecord_keeps, setCore_still, setCore_coresOk, coresOk_coreOf, CoreOk]

theorem execMoverTransferStart_answers (core : CoreId) (s : State) : Answers s (execMoverTransferStart core s) :=
  answers_next (moverStart_keeps ..)

theorem execMoverCompletion_answers (core : CoreId) (s : State) : Answers s (execMoverCompletion core s) :=
  answers_next (moverFinish_keeps ..)

/-! ### Bandwidth -/

theorem charge_keeps (r : RegionId) (res : List Nat) (s : State) : Keeps s (charge r res s) :=
  Keeps.refl s

theorem chargeRange_keeps (r : RegionId) (e a n : Nat) (toMemory : Bool) (s : State) :
    Keeps s (chargeRange r e a n toMemory s) := foldl_keeps (fun _ _ => charge_keeps ..) _ _

/-! ### Route programs -/

theorem bulkWrite_keeps (a : Nat) (bs : List Byte) (poison : Bool) (s : State) : Keeps s (bulkWrite a bs poison s) :=
  ⟨⟨rfl, rfl, rfl, rfl, rfl, rfl, rfl, rfl, rfl, rfl, mwrite_wf bs s.bulk a⟩, id⟩

theorem eccSector_keeps (w : Nat) (ecc : EccOutcome) (s : State) : Keeps s (eccSector w ecc s) := by
  unfold eccSector
  grind [Keeps, Still, count_keeps]

theorem eccRead_keeps (a n : Nat) (x : SectorEcc) (s : State) : Keeps s (eccRead a n x s) :=
  ite_ok (P := Keeps s) (Keeps.refl s) (foldl_keeps (fun s _ =>
    ite_ok (P := Keeps s) (eccSector_keeps ..) (ite_ok (P := Keeps s) (eccSector_keeps ..) (Keeps.refl s))) _ _)

theorem noteLink_keeps (c : CoreId) (s : State) : Keeps s (noteLink c s) :=
  Keeps.refl s

theorem setRouter_keeps (s : State) (c : CoreId) (x : Router) : Keeps s (setRouter s c x) :=
  Keeps.refl s

theorem takeFlit_keeps (c : CoreId) (inPort : Nat) (q : Option Nat) (s : State) : Keeps s (takeFlit c inPort q s) := by
  unfold takeFlit
  repeat' split
  · exact (modCore_keeps fun h => h).trans (refill_keeps ..)
  · exact Keeps.refl s
  · exact setRouter_keeps ..

theorem sendCopy_keeps (c : CoreId) (f : Flit) (s : State) (port : Nat) : Keeps s (sendCopy c f s port) := by
  grind [sendCopy, Keeps, Still, logCore_keeps, count_keeps, setRouter_keeps, modCore_still, modCore_coresOk,
    coresOk_coreOf, CoreOk]

theorem checkFlit_keeps (c : CoreId) (ecc : FlitEcc) (f : Flit) (s : State) : Keeps s (checkFlit c ecc f s).2 := by
  have hlog : Keeps s (logCore c 0 0x39 0 (noteLink c (count s (ctrDie (dieOf c) 14) 1))) :=
    (Keeps.refl s).trans (logCore_keeps ..)
  cases ecc
  case payload | header => exact hlog
  case ok | corrected => exact Keeps.refl s

theorem stray_keeps (c : CoreId) (s : State) : Keeps s (stray c s) := by
  grind [stray, Keeps, Still, count_keeps, logCore_keeps, modCore_still, modCore_coresOk, coresOk_coreOf, CoreOk]

theorem passFlit_keeps (c : CoreId) (inPort : Nat) (q : Option Nat) (f : Flit) (ecc : FlitEcc) (outs : List Nat) (s :
    State) :
    Keeps s (passFlit c inPort q f ecc outs s) := by
  have htake := takeFlit_keeps c inPort q s
  have hcheck := htake.trans (checkFlit_keeps c ecc f (takeFlit c inPort q s))
  unfold passFlit
  dsimp only
  split
  · exact htake.trans (stray_keeps ..)
  · split
    next g t hg =>
      rw [hg] at hcheck
      exact hcheck.trans (foldl_keeps (sendCopy_keeps c g) _ _)
    next t hg =>
      rw [hg] at hcheck
      exact hcheck

theorem dropFlit_keeps (c : CoreId) (inPort : Nat) (s : State) : Keeps s (dropFlit c inPort s) := takeFlit_keeps ..

theorem scheduledFlit_keeps (c : CoreId) (inPort cycle : Nat) (ecc : FlitEcc) (s : State) :
    Keeps s (scheduledFlit c inPort cycle ecc s) := by
  unfold scheduledFlit
  grind [Keeps, Still, passFlit_keeps, dropFlit_keeps]

theorem enterBuffer_keeps (c : CoreId) (s : State) : Keeps s (enterBuffer c s) := by
  unfold enterBuffer
  grind [Keeps.trans, Keeps.refl, takeFlit_keeps, stray_keeps, setRouter_keeps]

theorem fillBuffer_keeps (c : CoreId) (n : Nat) : ∀ s, Keeps s (fillBuffer c n s) := by
  induction n with
  | zero => exact Keeps.refl
  | succ n ih => exact fun s => ite_ok (P := Keeps s) (Keeps.refl s) ((enterBuffer_keeps c s).trans (ih _))

theorem setOldest_keeps (c : CoreId) (inPort : Nat) (f : Option Flit) (s : State) : Keeps s (setOldest c inPort f s) :=
  Keeps.refl s

theorem twilightCopy_keeps (c : CoreId) (inPort o : Nat) (ecc : FlitEcc) (f : Flit) (s : State) :
    Keeps s (twilightCopy c inPort o ecc f s) := by
  grind [twilightCopy, Keeps, Still, checkFlit_keeps, setOldest_keeps, sendCopy_keeps]

theorem twilightFlit_keeps (c : CoreId) (inPort cycle : Nat) (ecc : FlitEcc) (s : State) :
    Keeps s (twilightFlit c inPort cycle ecc s) := by
  unfold twilightFlit
  grind [Keeps.trans, Keeps.refl, dropFlit_keeps, fillBuffer_keeps, twilightCopy_keeps]

theorem execFlitAtRouter_answers (core : CoreId) (inPort : Fin 5) (cycle : BitVec 24) (ecc : FlitEcc) (s : State) :
    Answers s (execFlitAtRouter core inPort cycle ecc s) := by
  grind [execFlitAtRouter, Keeps, Still, answers_next, toCycle_keeps, scheduledFlit_keeps, twilightFlit_keeps]

theorem clearInactive_keeps (r : RegionId) (s : State) : Keeps s (clearInactive r s) :=
  foldl_keeps (fun s c => by
    have hbudget : ∀ s, Keeps s (modCore s c fun x => { x with budgetNext := 0 }) := fun s => modCore_keeps id
    grind [Keeps.trans, Keeps.refl, setRouter_keeps]) _ _

theorem startLoad_keeps (r : RegionId) (addr : BitVec 40) (s : State) : Keeps s (startLoad r addr s) := by
  unfold startLoad
  dsimp only
  split
  · exact setReg_keeps ..
  · exact ite_ok (P := Keeps s) (setReg_keeps ..) ((setReg_keeps ..).trans (clearInactive_keeps ..))

theorem storeLoad_keeps (acc : LoadAcc) (s : State) : Keeps s (storeLoad acc s) :=
  (foldl_keeps (fun _ _ => setRouter_keeps ..) _ _).trans (foldl_keeps (fun _ _ => modCore_keeps id) _ _)

theorem finishLoad_keeps (r : RegionId) (s : State) : Keeps s (finishLoad r s) := by
  unfold finishLoad
  repeat' split
  all_goals grind [Keeps.trans, Keeps.refl, modReg_keeps, storeLoad_keeps]

theorem readImage_keeps (r : RegionId) (a : Nat) (ecc : SectorEcc) (s : State) : Keeps s (readImage r a ecc s) :=
  eccRead_keeps ..

/-! ### Host rings -/

theorem setFn_keeps (s : State) (f : FnId) (x : HostFn) : Keeps s (setFn s f x) :=
  Keeps.refl s

theorem modFn_keeps (s : State) (f : FnId) (g : HostFn → HostFn) : Keeps s (modFn s f g) :=
  Keeps.refl s

theorem postCqe_keeps (fn : FnId) (c : Nat) (e : Cqe) (s : State) : Keeps s (postCqe fn c e s) :=
  Keeps.refl s

theorem hostLog_keeps (fn : FnId) (r : Option RegionId) (st : BitVec 8) (info : Word) (s : State) :
    Keeps s (hostLog fn r st info s) :=
  ite_ok (P := Keeps s) (logEdie_keeps ..) (Keeps.refl s)

theorem completeDesc_keeps (fn : FnId) (r : Nat) (cid : BitVec 16) (op : BitVec 8) (st : BitVec 8) (info :
    Word) (noCqe : Bool) (s : State) : Keeps s (completeDesc fn r cid op st info noCqe s) :=
  ite_ok (P := Keeps s) (hostLog_keeps ..) (hostLog_keeps ..)

theorem fnEvent_keeps (fn : FnId) (n : Nat) (st : BitVec 8) (info : Word) (s : State) :
    Keeps s (fnEvent fn n st info s) :=
  ite_ok (P := Keeps s) (hostLog_keeps ..) (hostLog_keeps ..)

theorem freeSlot_keeps (slot : Option (RegionId × Nat)) (s : State) : Keeps s (freeSlot slot s) := by
  unfold freeSlot
  grind [Keeps, Still, modReg_keeps]

theorem writeCqe_keeps (fn : FnId) (c : Nat) (s : State) : Keeps s (writeCqe fn c s) := by
  grind [writeCqe, Keeps, Still, freeSlot_keeps, setFn_keeps]

theorem execCompletionEntryWrite_answers (fn : FnId) (cq : Fin 16) (s : State) :
    Answers s (execCompletionEntryWrite fn cq s) :=
  answers_next (writeCqe_keeps ..)

theorem sendMsix_keeps (fn : FnId) (v : Nat) (s : State) : Keeps s (sendMsix fn v s) := by
  grind [sendMsix, Keeps, Still, setFn_keeps]

theorem signalCq_keeps (fn : FnId) (c : Nat) (s : State) : Keeps s (signalCq fn c s) := by
  unfold signalCq
  grind [Keeps.trans, Keeps.refl, modFn_keeps, sendMsix_keeps]

theorem execInterruptMessage_answers (fn : FnId) (cq : Fin 16) (s : State) : Answers s (execInterruptMessage fn cq s) :=
  answers_next (signalCq_keeps ..)

theorem setSpill_keeps (s : State) (l : LinkId) (x : Spill) : Keeps s (setSpill s l x) := by
  grind [setSpill, Keeps, Still]

theorem markLost_keeps (link : LinkId) (r : RegionId) (line : BitVec 36) (s : State) :
    Keeps s (markLost link r line s) :=
  setSpill_keeps ..

theorem lineOut_keeps (l : SpillLine) (s : State) : Keeps s (lineOut l s) := by
  grind [lineOut, Keeps, Still, markLost_keeps]

theorem cleanLines_keeps (link : LinkId) (f : SpillLine → Bool) (s : State) : Keeps s (cleanLines link f s) :=
  (setSpill_keeps ..).trans (foldl_keeps (f := fun s l => lineOut l s) (fun _ _ => lineOut_keeps ..) _ _)

theorem writeBack_keeps (r : RegionId) (s : State) : Keeps s (writeBack r s) :=
  Keeps.after (cleanLines_keeps ..) (cleanLines_keeps ..)

theorem dropClean_keeps (r : RegionId) (s : State) : Keeps s (dropClean r s) :=
  Keeps.refl s

theorem notifyLost_keeps (r : RegionId) (s : State) : Keeps s (notifyLost r s) :=
  (logArmaik_keeps ..).trans (deliver_keeps _ (noteE5_keeps ..))

theorem notLive_keeps (fn : FnId) (ring : Fin 16) (seq : Nat) (s : State) : Keeps s (notLive fn ring seq s) :=
  Keeps.refl s

theorem setPort_keeps (fn : FnId) (k : Nat) (p : DataPort) (s : State) : Keeps s (setPort fn k p s) :=
  Keeps.refl s

theorem closePort_keeps (fn : FnId) (k : Nat) (st : BitVec 8) (info : Word) (s : State) :
    Keeps s (closePort fn k st info s) := by
  unfold closePort
  grind [Keeps, Still, hostLog_keeps, setFn_keeps, postCqe_keeps, completeDesc_keeps, notLive_keeps]

theorem closePorts_keeps (fn : FnId) (st : BitVec 8) (s : State) : Keeps s (closePorts fn st s) :=
  foldl_keeps (fun _ _ => closePort_keeps ..) _ _

theorem endLaunch_keeps (r : RegionId) (k : Nat) (st : BitVec 8) (info : Word) (s : State) :
    Keeps s (endLaunch r k st info s) := by
  unfold endLaunch
  grind [Keeps, Still, hostLog_keeps, modReg_keeps, writeBack_keeps, notLive_keeps, freeSlot_keeps, postCqe_keeps]

theorem launchDone_keeps (r : RegionId) (k : Nat) (st : BitVec 8) (s : State) : Keeps s (launchDone r k st s) := by
  grind [launchDone, logArmaik_keeps, endLaunch_keeps]

theorem notification_keeps (r : RegionId) (cq : Nat) (v : Word) (s : State) : Keeps s (notification r cq v s) := by
  grind [notification, notifyLost_keeps, postCqe_keeps]

theorem hostNotify_keeps (r : RegionId) (v : Word) (s : State) : Keeps s (hostNotify r v s) := by
  grind [hostNotify, Keeps, Still, launchDone_keeps, notification_keeps]

/-! ### Streams -/

theorem setEngine_keeps (s : State) (e : EngineId) (x : Engine) : Keeps s (setEngine s e x) :=
  Keeps.refl s

theorem deliverRecord_keeps (e : EngineId) (h : Hart) (w : Word) (s : State) : Keeps s (deliverRecord e h w s) := by
  grind [deliverRecord, Keeps, Still, raiseEvent_keeps, modTh_keeps, setEngine_keeps]

theorem moveRecord_keeps (h : Hart) (s : State) : Keeps s (moveRecord h s) := by
  grind [moveRecord, Keeps, Still, setEngine_keeps, raiseEvent_keeps, modTh_keeps]

theorem dropJob_keeps (e : EngineId) (h : Hart) (s : State) : Keeps s (dropJob e h s) := by
  grind [dropJob, Keeps, Still, modCore_still, modCore_coresOk, coresOk_coreOf, CoreOk]

theorem cancelEngine_keeps (e : EngineId) (st : BitVec 8) (s : State) : Keeps s (cancelEngine e st s) := by
  unfold cancelEngine
  dsimp only
  split
  · exact Keeps.refl s
  · exact ((((setEngine_keeps ..).trans (dropJob_keeps ..)).trans (deliverRecord_keeps ..)).trans
      (foldl_keeps (fun _ _ => deliverRecord_keeps ..) _ _)).trans (foldl_keeps (fun _ _ => deliverRecord_keeps ..) _ _)

theorem focused_keeps (e : EngineId) (i : Nat) {f : State → State} (hf : ∀ s, Keeps s (f s)) (s : State) :
    Keeps s (focused e i f s) :=
  ite_ok (P := Keeps s) (hf s) (((setEngine_keeps ..).trans (hf _)).trans (setEngine_keeps ..))

theorem cancelQueued_keeps (e : EngineId) (f : StreamCmd → Bool) (s : State) : Keeps s (cancelQueued e f s) :=
  (setEngine_keeps ..).trans (foldl_keeps (fun _ _ => deliverRecord_keeps ..) _ _)

theorem streamE5_keeps (h : Hart) (cause : BitVec 8) (info : Nat) (s : State) : Keeps s (streamE5 h cause info s) :=
  deliver_keeps _ (raiseE5_keeps ..)

theorem cancelRuns_keeps (g : StreamRun → Bool) (f : StreamCmd → Bool) (s : State) : Keeps s (cancelRuns g f s) := by
  refine foldl_keeps (fun s e => ?_) _ _
  split
  · exact focused_keeps _ _ (fun s => cancelEngine_keeps e 0x25 s) _
  · exact cancelQueued_keeps ..

theorem cancelWhere_keeps (f : StreamCmd → Bool) (s : State) : Keeps s (cancelWhere f s) := cancelRuns_keeps ..

theorem cancelXfer_keeps (r : RegionId) (xfer : Nat) (s : State) : Keeps s (cancelXfer r xfer s) := cancelWhere_keeps ..

theorem cancelRegion_keeps (r : RegionId) (s : State) : Keeps s (cancelRegion r s) := cancelWhere_keeps ..

theorem startDesc_keeps (e : EngineId) (ecc : SectorEcc) (s : State) : Keeps s (startDesc e ecc s) := by
  unfold startDesc
  dsimp only
  split
  · exact Keeps.refl s
  next q rest hq =>
    have hread : Keeps s (if dKind q.desc = 0 ∧ dSparse q.desc ≠ 0 then eccRead (dAddrB q.desc)
      (dBitmapLen q.desc) ecc s else s) :=
      ite_ok (P := Keeps s) (eccRead_keeps ..) (Keeps.refl s)
    have hrun : ∀ n x, Keeps s (setEngine { (if dKind q.desc = 0 ∧ dSparse q.desc ≠ 0 then
        eccRead (dAddrB q.desc) (dBitmapLen q.desc) ecc s else s) with nextMid := n } e x) := fun _ _ => hread
    exact ite_ok (P := Keeps s) (Keeps.refl s) (ite_ok (P := Keeps s) ((setEngine_keeps ..).trans
      (deliverRecord_keeps ..))
      (ite_ok (P := Keeps s) (Keeps.refl s) (ite_ok (P := Keeps s) ((hrun _ _).trans (modCore_keeps id))
        (ite_ok (P := Keeps s) (((hrun _ _).trans (focused_keeps e _ (fun s => cancelEngine_keeps e 0x24 s) _)).trans
          (streamE5_keeps ..)) (hrun _ _)))))

theorem execStreamDescriptorStart_answers (q : EngineRead) (s : State) : Answers s (execStreamDescriptorStart q s) := by
  grind [execStreamDescriptorStart, Keeps, Still, answers_next, startDesc_keeps]

/-- A port access that completes keeps what `Keeps` says. -/
def PortKeeps (s : State) (r : PortRes) : Prop := ∀ v t, r = .done v t → Keeps s t

theorem portKeeps_done {s t : State} (v : Word) (h : Keeps s t) : PortKeeps s (.done v t) := by
  rintro _ _ ⟨⟩
  exact h

theorem portKeeps_same (s : State) (v : Word) : PortKeeps s (.done v s) := portKeeps_done v (Keeps.refl s)

theorem portKeeps_wait (s : State) : PortKeeps s .wait := by rintro _ _ ⟨⟩

theorem portKeeps_stall (s : State) : PortKeeps s .stall := by rintro _ _ ⟨⟩

theorem portKeeps_fault (s : State) (f : Flt) : PortKeeps s (.fault f) := by rintro _ _ ⟨⟩

theorem streamSubmit_ok (h : Hart) (v : Word) (s : State) : PortKeeps s (streamSubmit h v s) := by
  unfold streamSubmit
  dsimp only
  repeat' split
  all_goals grind [portKeeps_done, portKeeps_wait, portKeeps_fault, Keeps.trans, modTh_keeps, raiseEvent_keeps,
    setEngine_keeps]

theorem streamDoneRead_ok (h : Hart) (s : State) : PortKeeps s (streamDoneRead h s) := by
  unfold streamDoneRead
  split
  · exact portKeeps_wait s
  · exact portKeeps_done _ ((modTh_keeps ..).trans (moveRecord_keeps ..))

/-! ### The spill cache -/

theorem askTranslation_keeps (fn : FnId) (page : BitVec 52) (s : State) : Keeps s (askTranslation fn page s) := by
  grind [askTranslation, Keeps, Still, setFn_keeps]

theorem dropTranslations_keeps (link : LinkId) (f : Translation → Bool) (s : State) :
    Keeps s (dropTranslations link f s) :=
  ite_ok (P := Keeps s) (cleanLines_keeps ..) (cleanLines_keeps ..)

theorem keepTranslation_keeps (t : Translation) (s : State) : Keeps s (keepTranslation t s) := by
  unfold keepTranslation
  grind [Keeps, Still, dropTranslations_keeps, setSpill_keeps]

theorem wantLine_keeps (fn : FnId) (r : RegionId) (a : Nat) (s : State) : Keeps s (wantLine fn r a s) := by
  grind [wantLine, Keeps, Still, setSpill_keeps]

theorem writeLine_keeps (fn : FnId) (r : RegionId) (a : Nat) (bs : List Byte) (s : State) :
    Keeps s (writeLine fn r a bs s) :=
  setSpill_keeps ..

theorem evict_keeps (link : LinkId) (l : SpillLine) (s : State) : Keeps s (evict link l s) := by
  grind [evict, Keeps, Still, setSpill_keeps, lineOut_keeps]

theorem gotLine_keeps (link : LinkId) (w : WantedLine) (s : State) : Keeps s (gotLine link w s) := setSpill_keeps ..

theorem placeLine_keeps (link : LinkId) (w : WantedLine) (ws : List PWord) (s : State) :
    Keeps s (placeLine link w ws s) := by
  unfold placeLine
  grind [Keeps, Still, evict_keeps, setSpill_keeps]

/-! ### Arbiters -/

theorem putRun_keeps (e : EngineId) (r : StreamRun) (s : State) : Keeps s (putRun e r s) :=
  Keeps.refl s

theorem serve_keeps (c : Ready) (s : State) : Keeps s (serve c s) :=
  Keeps.refl s

theorem execRouteLoadDone_answers (q : RouteRead) (s : State) : Answers s (execRouteLoadDone q s) := by
  grind [execRouteLoadDone, Keeps, Still, answers_next, readImage_keeps, finishLoad_keeps, chargeRange_keeps]

/-! ### Stream data -/

theorem refuseFar_keeps (e : EngineId) (s : State) : Keeps s (refuseFar e s) := cancelEngine_keeps ..

theorem askFar_keeps (e : EngineId) (r : RegionId) (a : Nat) (write : Bool) (s : State) :
    Keeps s (askFar e r a write s) := by
  grind [askFar, refuseFar_keeps, askTranslation_keeps, wantLine_keeps]

theorem handFetch_keeps (e : EngineId) (r : StreamRun) (s : State) : Keeps s (handFetch e r s) := by
  unfold handFetch
  dsimp only
  repeat' split
  all_goals grind [Keeps.trans, Keeps.refl, putRun_keeps, wantLine_keeps]

theorem writeFar_keeps (r : RegionId) (a : Nat) (bs : List Byte) (s : State) : Keeps s (writeFar r a bs s) := by
  unfold writeFar
  grind [Keeps, Still, writeLine_keeps]

theorem writePiecesBulk_keeps (l : List (List Byte × Bool)) : ∀ a s, Keeps s (writePiecesBulk a l s) := by
  induction l with
  | nil => exact fun _ => Keeps.refl
  | cons x l ih => exact fun a s => (bulkWrite_keeps ..).trans (ih _ _)

theorem handFill_keeps (e : EngineId) (r : StreamRun) (s : State) : Keeps s (handFill e r s) := by
  unfold handFill
  grind [Keeps, Still, writeFar_keeps, bulkWrite_keeps, putRun_keeps]

theorem logFarPoison_keeps (r : StreamRun) (s : State) : Keeps s (logFarPoison r s) := by
  grind [logFarPoison, Keeps, Still, logEdie_keeps]

theorem logFarPoisons_keeps (r : StreamRun) (n : Nat) : ∀ s, Keeps s (logFarPoisons r n s) := by
  induction n with
  | zero => exact Keeps.refl
  | succ n ih => exact fun s => (logFarPoison_keeps ..).trans (ih _)

theorem handWrite_keeps (e : EngineId) (r : StreamRun) (s : State) : Keeps s (handWrite e r s) := by
  unfold handWrite
  dsimp only
  split
  · exact Keeps.refl s
  · exact Keeps.trans (ite_ok (P := Keeps s) ((writeFar_keeps ..).trans (logFarPoisons_keeps ..))
    (writePiecesBulk_keeps ..))
      (putRun_keeps ..)

theorem askNext_keeps (e : EngineId) (r : StreamRun) (s : State) : Keeps s (askNext e r s) := by
  unfold askNext
  dsimp only
  split
  · split
    · exact ite_ok (P := Keeps s) (askFar_keeps ..) (Keeps.refl s)
    · exact Keeps.refl s
  · exact Keeps.refl s
  · split
    · exact ite_ok (P := Keeps s) (askFar_keeps ..) (Keeps.refl s)
    · exact Keeps.refl s

theorem handOver_keeps (e : EngineId) (r : StreamRun) (s : State) : Keeps s (handOver e r s) := by
  grind [handOver, Keeps, Still, handFetch_keeps, handWrite_keeps, handFill_keeps]

theorem onRun_keeps (e : EngineId) {f : StreamRun → State → State} (hf : ∀ r s, Keeps s (f r s)) (s : State) :
    Keeps s (onRun e f s) := by
  unfold onRun
  split
  · exact hf _ s
  · exact Keeps.refl s

theorem onRuns_keeps (e : EngineId) {f : StreamRun → State → State} (hf : ∀ r s, Keeps s (f r s)) (s : State) :
    Keeps s (onRuns e f s) :=
  foldl_keeps (fun s i => focused_keeps e i (onRun_keeps e hf) s) _ _

theorem execBurstIssue_answers (e : EngineId) (s : State) : Answers s (execBurstIssue e s) := by
  have hput : Keeps s (onRuns e (fun r s => putRun e (dropOverflow (prepare s r)) s) s) :=
    onRuns_keeps e (fun r s => putRun_keeps e _ s) s
  refine answers_next ?_
  split
  · exact ite_ok (P := Keeps s)
      ((hput.trans (focused_keeps e _ (onRun_keeps e (handOver_keeps e)) _)).trans (serve_keeps ..)) hput
  · exact hput.trans (onRuns_keeps e (askNext_keeps e) _)

theorem burstData_keeps (e : EngineId) (r : StreamRun) (i : Nat) (b : Burst) (x : BurstData) (s : State) :
    Keeps s (burstData e r i b x s) := by
  grind [burstData, Keeps, Still, streamE5_keeps, cancelEngine_keeps, putRun_keeps]

theorem farData_keeps (e : EngineId) (r : StreamRun) (i : Nat) (b : Burst) (s : State) :
    Keeps s (farData e r i b s) := by
  unfold farData
  dsimp only
  repeat' split
  all_goals grind [Keeps.trans, Keeps.refl, setSpill_keeps, refuseFar_keeps, burstData_keeps, askFar_keeps]

theorem onBurst_keeps (e : EngineId) (i : Nat) {f : StreamRun → Nat → Burst → State → State} (hf : ∀ r k b s,
    Keeps s (f r k b s))
    (s : State) : Keeps s (onBurst e i f s) := by
  unfold onBurst
  split
  · exact Keeps.refl s
  · refine focused_keeps _ _ (onRun_keeps _ fun r s => ?_) _
    split
    · exact hf ..
    · exact Keeps.refl s

theorem execBurstComplete_answers (e : EngineId) (i : Nat) (corrected bad : List Nat) (s : State) :
    Answers s (execBurstComplete e i corrected bad s) := by
  refine answers_next ?_
  split
  · exact ite_ok (P := Keeps s) (Keeps.refl s)
      (ite_ok (P := Keeps s) (setEngine_keeps ..) ((setEngine_keeps ..).trans (eccRead_keeps ..)))
  · exact onBurst_keeps _ _ (fun r k b s =>
      ite_ok (P := Keeps s) (farData_keeps ..) ((eccRead_keeps ..).trans (burstData_keeps ..))) s

theorem readTag_keeps (c : Ready) (k : KeySlot) (b : Nat) (ecc : SectorEcc) (s : State) :
    Keeps s (readTag c k b ecc s) :=
  eccRead_keeps ..

theorem checkBlock_keeps (e : EngineId) (r : StreamRun) (s : State) : Keeps s (checkBlock e r s) := by
  unfold checkBlock
  dsimp only
  split
  · exact (cancelEngine_keeps ..).trans (streamE5_keeps ..)
  · exact putRun_keeps ..

theorem tagThenCheck_keeps (e : EngineId) (ecc : SectorEcc) (r : StreamRun) (s : State) :
    Keeps s (tagThenCheck e ecc r s) := by
  unfold tagThenCheck
  grind [Keeps, Still, checkBlock_keeps, readTag_keeps]

theorem execDecryptBlockCheck_answers (q : EngineRead) (s : State) : Answers s (execDecryptBlockCheck q s) := by
  refine answers_next ?_
  split
  · exact focused_keeps _ _ (onRun_keeps _ (tagThenCheck_keeps _ _)) s
  · exact Keeps.refl s

theorem compareResult_keeps (r : StreamRun) (s : State) : Keeps s (compareResult r s) :=
  deliver_keeps _ (modCore_keeps fun h => memPut_coreOk _ _ _ _ h)

theorem finishRun_keeps (e : EngineId) (r : StreamRun) (s : State) : Keeps s (finishRun e r s) := by
  grind [finishRun, Keeps, Still, compareResult_keeps, setEngine_keeps, deliverRecord_keeps]

theorem execStreamComplete_answers (e : EngineId) (s : State) : Answers s (execStreamComplete e s) := by
  grind [execStreamComplete, Keeps, Still, answers_next, finishRun_keeps]

theorem execDependenceMarkerRelease_answers (e : EngineId) (s : State) :
    Answers s (execDependenceMarkerRelease e s) := by
  grind [execDependenceMarkerRelease, Keeps, Still, answers_next, finishRun_keeps]

theorem execStreamArrivalSignal_answers (e : EngineId) (s : State) : Answers s (execStreamArrivalSignal e s) := by
  grind [execStreamArrivalSignal, Keeps, Still, answers_next, setEngine_keeps, sendUpd_keeps]

theorem servePiece_keeps (link : LinkId) (w : WantedLine) (k : Nat) (data : List (BitVec 64)) (s : State) (x :
    EngineId × Nat) :
    Keeps s (servePiece link w k data s x) :=
  onBurst_keeps _ _ (fun _ _ _ s => ite_ok (P := Keeps s) (Keeps.refl s) (putRun_keeps ..)) s

theorem takePiece_keeps (link : LinkId) (w : WantedLine) (data : List (BitVec 64)) (s : State) :
    Keeps s (takePiece link w data s) :=
  (setSpill_keeps ..).trans (foldl_keeps (fun s x => servePiece_keeps link w _ data s x) _ _)

theorem passUncached_keeps (w : WantedLine) (ws : List PWord) (s : State) : Keeps s (passUncached w ws s) := by
  unfold passUncached
  split
  · exact Keeps.refl s
  · exact onBurst_keeps _ _ (fun _ _ _ _ => burstData_keeps ..) s

theorem endInvalidations_keeps (fn : FnId) (s : State) : Keeps s (endInvalidations fn s) := by
  grind [endInvalidations, Keeps, Still, setFn_keeps]

theorem wholeLine_keeps (link : LinkId) (w : WantedLine) (data : List (BitVec 64)) (s : State) :
    Keeps s (wholeLine link w data s) := by
  grind [wholeLine, Keeps, Still, gotLine_keeps, endInvalidations_keeps, passUncached_keeps, placeLine_keeps]

theorem execSpillCacheMissFill_answers (link : LinkId) (region : RegionId) (line : BitVec 36) (data :
    List (BitVec 64)) (s : State) : Answers s (execSpillCacheMissFill link region line data s) := by
  grind [execSpillCacheMissFill, Keeps, Still, answers_next, takePiece_keeps, wholeLine_keeps]

theorem loseLine_keeps (link : LinkId) (l : SpillLine) (s : State) : Keeps s (loseLine link l s) := by
  grind [loseLine, Keeps, Still, logEdie_keeps, markLost_keeps, setSpill_keeps]

theorem cleanWay_keeps (link : LinkId) (way : Nat) (unreadable : List (BitVec 36)) (s : State) :
    Keeps s (cleanWay link way unreadable s) :=
  foldl_keeps (fun _ _ => ite_ok (loseLine_keeps ..) (evict_keeps ..)) _ _

theorem execSpillWayDisable_answers (link : LinkId) (way : Fin 16) (unreadable : List (BitVec 36)) (s : State) :
    Answers s (execSpillWayDisable link way unreadable s) := by
  grind [execSpillWayDisable, Keeps, Still, answers_next, cleanWay_keeps, count_keeps, setSpill_keeps]

/-! ### System instructions -/

theorem fenceStep_keeps (h : Hart) (scope : Fin 8) (s : State) : Keeps s (fenceStep h scope s) :=
  ite_ok (P := Keeps s) (modTh_keeps ..) (modTh_keeps ..)

theorem execNop_answers (h : Hart) (p : Fin 8) (s : State) : Answers s (execNop h p s) := issue_answers ..

theorem execFence_answers (h : Hart) (p scope : Fin 8) (s : State) : Answers s (execFence h p scope s) :=
  issueWith_answers _ _ _ _ _ (fun _ => fenceStep_keeps h scope) fun _ => fenceStep_keeps h scope

theorem execTrap_answers (h : Hart) (p : Fin 8) (n : BitVec 8) (s : State) :
    Answers s (execTrap h p n s) := issue_answers ..

theorem execTrap16_answers (h : Hart) (n : BitVec 7) (s : State) : Answers s (execTrap16 h n s) := issue_answers ..

theorem execRett_answers (h : Hart) (s : State) : Answers s (execRett h s) :=
  issueOwn_answers _ _ _ _ _ (modTh_keeps h _)

theorem execHold_answers (h : Hart) (n : BitVec 17) (s : State) : Answers s (execHold h n s) :=
  guardWf_answers _ _ _ (issueOwn_answers _ _ _ _ _ fun _ => modTh_keeps ..)

theorem execReservedEncoding_answers (h : Hart) (w : BitVec 32) (s : State) :
    Answers s (execReservedEncoding h w s) := by
  grind [execReservedEncoding, Keeps, Still, answers_next, issueReserved_answers]

/-! ### Ports -/

theorem readEvWait_ok (h : Hart) (s : State) : PortKeeps s (readEvWait h s) := by
  unfold readEvWait
  split
  · exact portKeeps_done _ (modTh_keeps ..)
  · exact portKeeps_wait s

theorem readNoticeLo_ok (h : Hart) (q : Nat) (s : State) : PortKeeps s (readNoticeLo h q s) := by
  unfold readNoticeLo
  split
  next hc => exact portKeeps_done _ (setCore_keeps fun h => readLo_coreOk (h _) hc)
  · exact portKeeps_wait s

theorem readNoticeHi_ok (h : Hart) (q : Nat) (s : State) : PortKeeps s (readNoticeHi h q s) :=
  portKeeps_done _ (setCore_keeps fun h => readHi_coreOk q (h _))

theorem writeTimer_keeps (h : Hart) (n : Word) (s : State) : Keeps s (writeTimer h n s) := modTh_keeps ..

theorem readErrCause_ok (h : Hart) (s : State) : PortKeeps s (readErrCause h s) := portKeeps_done _ (modTh_keeps ..)

theorem writeCtrTarget_ok (h : Hart) (v : Word) (s : State) : PortKeeps s (writeCtrTarget h v s) := by
  unfold writeCtrTarget
  dsimp only
  split
  · split
    · exact portKeeps_fault s _
    · exact portKeeps_done _ (ite_ok (P := Keeps s) (modTh_keeps ..) ((modTh_keeps ..).trans (sendUpd_keeps ..)))
  · exact portKeeps_done _ (modTh_keeps ..)

theorem writeDayDone_keeps (core : CoreId) (s : State) : Keeps s (writeDayDone core s) := by
  grind [writeDayDone, Keeps, Still, modCore_still, modCore_coresOk, coresOk_coreOf, CoreOk]

theorem moverSubmit_ok (h : Hart) (v : Word) (s : State) : PortKeeps s (moverSubmit h v s) :=
  ite_ok (P := PortKeeps s) (portKeeps_wait s) (portKeeps_done _ (setCore_keeps fun hc => hc h.core))

theorem moverDone_ok (h : Hart) (s : State) : PortKeeps s (moverDone h s) := by
  unfold moverDone
  split
  · exact portKeeps_wait s
  · exact portKeeps_done _ ((modTh_keeps ..).trans (modCore_keeps id))

theorem readName_ok (h : Hart) (p : Nat) (s : State) : PortKeeps s (readName h p s) := by
  unfold readName
  repeat' split
  all_goals grind [portKeeps_done, portKeeps_stall, portKeeps_fault, deliverOwn_keeps]

theorem waitName_ok (h : Hart) (p : Nat) (s : State) : PortKeeps s (waitName h p s) := by
  unfold waitName
  repeat' split
  all_goals grind [portKeeps_same, portKeeps_stall, portKeeps_wait, portKeeps_fault]

theorem writeName_ok (h : Hart) (p : Nat) (v : Word) (s : State) : PortKeeps s (writeName h p v s) := by
  unfold writeName
  split
  · exact portKeeps_fault s _
  · exact ite_ok (P := PortKeeps s) (portKeeps_stall s)
      (ite_ok (P := PortKeeps s) (portKeeps_same s _) (portKeeps_done _ (sendUpd_keeps ..)))

theorem monCreate_keeps (r : RegionId) (v : Word) (s : State) : Keeps s (monCreate r v s) := cellCreate_keeps ..

theorem monDelete_keeps (r : RegionId) (v : Word) (s : State) : Keeps s (monDelete r v s) := cellDelete_keeps ..

theorem resumeRegion_keeps (r : RegionId) (s : State) : Keeps s (resumeRegion r s) :=
  Keeps.refl s

theorem writeConfirm_keeps (r : RegionId) (n : Nat) (v : Word) (s : State) : Keeps s (writeConfirm r n v s) :=
  Keeps.refl s

theorem monRead_ok (r : RegionId) (h : Hart) (p : Nat) (s : State) : PortKeeps s (monRead r h p s) := by
  unfold monRead
  dsimp only
  repeat' split
  all_goals grind [portKeeps_same, portKeeps_wait, readNoticeLo_ok, readNoticeHi_ok]

theorem monWrite_ok (r : RegionId) (p : Nat) (v : Word) (s : State) : PortKeeps s (monWrite r p v s) := by
  unfold monWrite
  refine ite_ok (P := PortKeeps s) (portKeeps_same s _) ?_
  split <;> apply portKeeps_done
  all_goals grind [Keeps.refl, modReg_keeps, monCreate_keeps, monDelete_keeps, startLoad_keeps, resumeRegion_keeps,
    writeConfirm_keeps, hostNotify_keeps]

theorem readThreadBlock_ok (h : Hart) (p : Nat) (s : State) : PortKeeps s (readThreadBlock h p s) := by
  unfold readThreadBlock
  dsimp only
  repeat' split
  all_goals grind [portKeeps_same, portKeeps_wait, readEvWait_ok, readNoticeLo_ok, readNoticeHi_ok, readErrCause_ok]

theorem readCoreBlock_ok (h : Hart) (p : Nat) (s : State) : PortKeeps s (readCoreBlock h p s) := by
  unfold readCoreBlock
  dsimp only
  repeat' split
  all_goals grind [portKeeps_same, portKeeps_wait, moverDone_ok, streamDoneRead_ok]

theorem portRead_ok (h : Hart) (p : Word) (s : State) : PortKeeps s (portRead h p s) := by
  unfold portRead
  dsimp only
  repeat' split
  all_goals grind [portKeeps_same, portKeeps_fault, readThreadBlock_ok, readCoreBlock_ok, readName_ok, waitName_ok,
    monRead_ok]

theorem writeThreadBlock_ok (h : Hart) (p : Nat) (v : Word) (s : State) : PortKeeps s (writeThreadBlock h p v s) := by
  unfold writeThreadBlock
  dsimp only
  repeat' split
  all_goals grind [portKeeps_same, portKeeps_done, modTh_keeps, noticeCtrl_keeps, writeTimer_keeps, writeCtrTarget_ok]

theorem writeCoreBlock_ok (h : Hart) (p : Nat) (v : Word) (s : State) : PortKeeps s (writeCoreBlock h p v s) := by
  have hbase : ∀ x, Keeps s (modCore s h.core fun c => { c with trapBase := x }) := fun _ => modCore_keeps id
  unfold writeCoreBlock
  dsimp only
  split
  case h_5 => exact portKeeps_done _ (hbase _)
  all_goals grind [portKeeps_same, portKeeps_done, Keeps.refl, writeDayDone_keeps, moverSubmit_ok, streamSubmit_ok,
    cancelXfer_keeps]

theorem portWrite_ok (h : Hart) (p v : Word) (s : State) : PortKeeps s (portWrite h p v s) := by
  unfold portWrite
  dsimp only
  repeat' split
  all_goals grind [portKeeps_same, portKeeps_fault, writeThreadBlock_ok, writeCoreBlock_ok, writeName_ok, monWrite_ok]

theorem readDone_keeps (h : Hart) (d : Fin 32) (len : Nat) (v : Word) (s : State) : Keeps s (readDone h d len v s) :=
  modTh_keeps ..

theorem waitOn_keeps (h : Hart) (w : Wait) (s : State) : Keeps s (waitOn h w s) :=
  Keeps.after (setRun_keeps ..) (modTh_keeps ..)

theorem inInstr_answers (h : Hart) (p : Fin 8) (len : Nat) (d : Fin 32) (port : Word) (s : State) :
    Answers s (inInstr h p len d port s) := by
  refine issueOwn_answers _ _ _ _ _ fun s => ?_
  split
  next hd => exact (portRead_ok h port s _ _ hd).trans (readDone_keeps ..)
  · exact waitOn_keeps ..
  · exact Keeps.refl s

theorem outInstr_answers (h : Hart) (p : Fin 8) (len : Nat) (port v : Word) (s : State) :
    Answers s (outInstr h p len port v s) := by
  refine issueOwn_answers _ _ _ _ _ fun s => ?_
  split
  next hd => exact (portWrite_ok h port v s _ _ hd).trans (modTh_keeps ..)
  · exact waitOn_keeps ..
  · exact Keeps.refl s

theorem execPortIn_answers (h : Hart) (p : Fin 8) (d : Fin 32) (port : BitVec 16) (s : State) :
    Answers s (execPortIn h p d port s) :=
  inInstr_answers ..

theorem execPortOut_answers (h : Hart) (p : Fin 8) (d : Fin 32) (port : BitVec 16) (s : State) :
    Answers s (execPortOut h p d port s) :=
  outInstr_answers ..

theorem execInr_answers (h : Hart) (p : Fin 8) (d : Fin 32) (a : Fin 32) (s : State) : Answers s (execInr h p d a s) :=
  inInstr_answers ..

theorem execOutr_answers (h : Hart) (p : Fin 8) (d : Fin 32) (a : Fin 32) (s : State) :
    Answers s (execOutr h p d a s) :=
  outInstr_answers ..

theorem execIn16_answers (h : Hart) (d : Fin 16) (port : BitVec 7) (s : State) : Answers s (execIn16 h d port s) :=
  inInstr_answers ..

theorem execOut16_answers (h : Hart) (d : Fin 16) (port : BitVec 7) (s : State) : Answers s (execOut16 h d port s) :=
  outInstr_answers ..

theorem execEvWait_answers (h : Hart) (p : Fin 8) (d : Fin 32) (s : State) :
    Answers s (execEvWait h p d s) := inInstr_answers ..

theorem execNoticeLo_answers (h : Hart) (p : Fin 8) (d : Fin 32) (s : State) : Answers s (execNoticeLo h p d s) :=
  inInstr_answers ..

theorem execNoticeHi_answers (h : Hart) (p : Fin 8) (d : Fin 32) (s : State) : Answers s (execNoticeHi h p d s) :=
  inInstr_answers ..

theorem execMonNoticeLo_answers (h : Hart) (p : Fin 8) (d : Fin 32) (s : State) : Answers s (execMonNoticeLo h p d s) :=
  inInstr_answers ..

theorem execMonNoticeHi_answers (h : Hart) (p : Fin 8) (d : Fin 32) (s : State) : Answers s (execMonNoticeHi h p d s) :=
  inInstr_answers ..

theorem execNoticeMark_answers (h : Hart) (p : Fin 8) (s : State) :
    Answers s (execNoticeMark h p s) := outInstr_answers ..

theorem execNoticeRewind_answers (h : Hart) (p : Fin 8) (s : State) :
    Answers s (execNoticeRewind h p s) := outInstr_answers ..

theorem execNoticeRelease_answers (h : Hart) (p : Fin 8) (s : State) :
    Answers s (execNoticeRelease h p s) := outInstr_answers ..

theorem execTimerSet_answers (h : Hart) (p : Fin 8) (d : Fin 32) (s : State) : Answers s (execTimerSet h p d s) :=
  outInstr_answers ..

theorem execSrSeed_answers (h : Hart) (p : Fin 8) (d : Fin 32) (s : State) :
    Answers s (execSrSeed h p d s) := outInstr_answers ..

theorem execErrCauseRead_answers (h : Hart) (p : Fin 8) (d : Fin 32) (s : State) :
    Answers s (execErrCauseRead h p d s) :=
  inInstr_answers ..

theorem execCtrTarget_answers (h : Hart) (p : Fin 8) (d : Fin 32) (s : State) : Answers s (execCtrTarget h p d s) :=
  outInstr_answers ..

theorem execDayDone_answers (h : Hart) (p : Fin 8) (d : Fin 32) (s : State) : Answers s (execDayDone h p d s) :=
  outInstr_answers ..

theorem execMoverSubmit_answers (h : Hart) (p : Fin 8) (d : Fin 32) (s : State) : Answers s (execMoverSubmit h p d s) :=
  outInstr_answers ..

theorem execMoverDone_answers (h : Hart) (p : Fin 8) (d : Fin 32) (s : State) : Answers s (execMoverDone h p d s) :=
  inInstr_answers ..

theorem execStreamSubmit_answers (h : Hart) (p : Fin 8) (d : Fin 32) (s : State) :
    Answers s (execStreamSubmit h p d s) :=
  outInstr_answers ..

theorem execStreamDone_answers (h : Hart) (p : Fin 8) (d : Fin 32) (s : State) : Answers s (execStreamDone h p d s) :=
  inInstr_answers ..

theorem execStreamCancel_answers (h : Hart) (p : Fin 8) (d : Fin 32) (s : State) :
    Answers s (execStreamCancel h p d s) :=
  outInstr_answers ..

theorem execFlagSet_answers (h : Hart) (p : Fin 8) (n : Fin 512) (s : State) : Answers s (execFlagSet h p n s) :=
  outInstr_answers ..

theorem execFlagClear_answers (h : Hart) (p : Fin 8) (n : Fin 512) (s : State) : Answers s (execFlagClear h p n s) :=
  outInstr_answers ..

theorem execCtrAdd_answers (h : Hart) (p : Fin 8) (d : Fin 32) (n : Fin 256) (s : State) :
    Answers s (execCtrAdd h p d n s) :=
  outInstr_answers ..

theorem execFlagCounterRead_answers (h : Hart) (p : Fin 8) (d : Fin 32) (which : FlagOrCtr) (n : Fin 512) (s :
    State) : Answers s (execFlagCounterRead h p d which n s) := by
  unfold execFlagCounterRead
  grind [Keeps, Still, answers_next, inInstr_answers]

theorem execFlagWait_answers (h : Hart) (p : Fin 8) (d : Fin 32) (n : Fin 512) (s : State) :
    Answers s (execFlagWait h p d n s) :=
  inInstr_answers ..

theorem execCtrWait_answers (h : Hart) (p : Fin 8) (d : Fin 32) (n : Fin 256) (s : State) :
    Answers s (execCtrWait h p d n s) :=
  inInstr_answers ..

theorem execCellStatus_answers (h : Hart) (p : Fin 8) (d : Fin 32) (s : State) : Answers s (execCellStatus h p d s) :=
  inInstr_answers ..

theorem execRegionResume_answers (h : Hart) (p : Fin 8) (d : Fin 32) (s : State) :
    Answers s (execRegionResume h p d s) :=
  outInstr_answers ..

theorem execHostNotification_answers (h : Hart) (p : Fin 8) (d : Fin 32) (s : State) :
    Answers s (execHostNotification h p d s) :=
  outInstr_answers ..

theorem execLaunchCompletion_answers (h : Hart) (p : Fin 8) (d : Fin 32) (s : State) :
    Answers s (execLaunchCompletion h p d s) :=
  outInstr_answers ..

/-! ### Threads and their events -/

theorem startThread_keeps (core : CoreId) (i : Fin 4) (s : State) : Keeps s (startThread core i s) := by
  grind [startThread, Keeps, Still, modCore_still, modCore_coresOk, coresOk_coreOf, setTh_coreOk, dropRows_coreOk,
    unreadNotices_coreOk, CoreOk]

theorem firstStatus_keeps (core : CoreId) (s : State) : Keeps s (firstStatus core s) := by
  unfold firstStatus
  grind [Keeps, Still, modReg_keeps]

theorem releaseCore_keeps (core : CoreId) (s : State) : Keeps s (releaseCore core s) := by
  have hhold : ∀ (s : State) (i : Fin 4), Keeps s (modCore s core fun c => setTh c i { thOf c i with run := .held }) :=
    fun _ _ => modCore_keeps fun h => h
  exact ((modCore_keeps id).trans (firstStatus_keeps ..)).trans
    (foldl_keeps (fun s i => ite_ok (P := Keeps s) (startThread_keeps ..) (hhold s i)) _ _)

theorem startTasks_keeps (core : CoreId) (s : State) : Keeps s (startTasks core s) :=
  foldl_keeps (fun s _ => ite_ok (P := Keeps s) (startThread_keeps ..) (Keeps.refl s)) _ _

theorem execStoreBufferRetire_answers (core : CoreId) (s : State) : Answers s (execStoreBufferRetire core s) := by
  grind [execStoreBufferRetire, Keeps, Still, answers_next, modCore_still, modCore_coresOk, coresOk_coreOf,
    retireOne_coreOk, CoreOk]

theorem enterHandler_keeps (h : Hart) (vec : BitVec 7) (restart : BitVec 17) (s : State) :
    Keeps s (enterHandler h vec restart s) := by
  grind [enterHandler, Keeps, Still, haltThread_keeps, modTh_keeps, modCore_still, modCore_coresOk, coresOk_coreOf,
    drainAll_coreOk, CoreOk]

theorem execHandlerEntry_answers (h : Hart) (s : State) : Answers s (execHandlerEntry h s) := by
  grind [execHandlerEntry, Keeps, Still, answers_next, enterHandler_keeps, newSlot_keeps]

theorem withdrawSend_keeps (h : Hart) (s : State) : Keeps s (withdrawSend h s) := by
  grind [withdrawSend, Keeps, Still, modCore_still, modCore_coresOk, coresOk_coreOf, setInj_coreOk, CoreOk]

theorem execEventTaken_answers (h : Hart) (s : State) : Answers s (execEventTaken h s) := by
  grind [execEventTaken, Keeps, Still, answers_next, takeEvent_keeps, withdrawSend_keeps]

theorem expireHold_keeps (h : Hart) (x : Hold) (s : State) : Keeps s (expireHold h x s) := by
  grind [expireHold, Keeps, Still, toNow_keeps, modTh_keeps, logCore_keeps, count_keeps]

theorem execHoldExpiry_answers (h : Hart) (s : State) : Answers s (execHoldExpiry h s) := by
  grind [execHoldExpiry, Keeps, Still, answers_next, expireHold_keeps]

theorem execTimerExpiry_answers (h : Hart) (s : State) : Answers s (execTimerExpiry h s) := by
  grind [execTimerExpiry, Keeps, Still, answers_next, toNow_keeps, raiseEvent_keeps, modTh_keeps]

theorem execBreakpointMatch_answers (h : Hart) (s : State) : Answers s (execBreakpointMatch h s) :=
  answers_next (ite_ok (P := Keeps s) (raiseEvent_keeps ..) (Keeps.refl s))

theorem wake_keeps (h : Hart) (s : State) : Keeps s (wake h s) := setRun_keeps ..

theorem completeWait_keeps (h : Hart) (w : Wait) (s : State) : Keeps s (completeWait h w s) := by
  have hpc : ∀ n, Keeps s (wake h (modTh s h (advPc n))) := fun n => (modTh_keeps ..).trans (wake_keeps ..)
  have hflt : ∀ len f, Keeps s (takeFault h len f (wake h s)) := fun _ _ => (wake_keeps ..).trans (takeFault_keeps ..)
  cases w with
  | portRead port d len =>
    simp only [completeWait]
    split
    · exact ((modTh_keeps ..).trans (readDone_keeps ..)).trans (wake_keeps ..)
    · split
      next hd => exact ((portRead_ok h _ s _ _ hd).trans (readDone_keeps ..)).trans (wake_keeps ..)
      · exact hflt _ _
      · exact Keeps.refl s
  | portWrite port v len =>
    simp only [completeWait]
    split
    next hd => exact ((portWrite_ok h _ v s _ _ hd).trans (modTh_keeps ..)).trans (wake_keeps ..)
    · exact hflt _ _
    · exact Keeps.refl s
  | fence scope => exact ite_ok (P := Keeps s) (hpc 4) (Keeps.refl s)
  | send q mid => exact ite_ok (P := Keeps s) (hpc 4) (Keeps.refl s)
  | resolution => exact ite_ok (P := Keeps s) (wake_keeps ..) (Keeps.refl s)
  | mma => exact Keeps.refl s
  | acvt => exact Keeps.refl s

theorem execWaitComplete_answers (h : Hart) (s : State) : Answers s (execWaitComplete h s) := by
  grind [execWaitComplete, Keeps, Still, answers_next, completeWait_keeps]

theorem execFlagBankUpdate_answers (die : DieId) (picks : List Nat) (s : State) :
    Answers s (execFlagBankUpdate die picks s) :=
  answers_next (ite_ok (P := Keeps s) (Keeps.refl s) (bankCycle_keeps ..))

theorem resetNotice_keeps (core : CoreId) (q : Fin 5) (s : State) : Keeps s (resetNotice core q s) := by
  grind [resetNotice, Keeps, Still, logCore_keeps, noteE5_keeps, modCore_still, modCore_coresOk, coresOk_coreOf,
    setNq_coreOk, CoreOk]

theorem resetInj_keeps (core : CoreId) (q : Fin 16) (s : State) : Keeps s (resetInj core q s) := by
  have hwake : ∀ (mids : List Nat) (s : State) (i : Fin 4), Keeps s (match (thread s ⟨core, i⟩).run with
      | .waiting (.send k mid) => if k = q ∧ mids.contains mid then wake ⟨core, i⟩ (modTh s ⟨core, i⟩ (advPc 4)) else s
      | _ => s) := by
    intro mids s i
    split
    · exact ite_ok (P := Keeps s) ((modTh_keeps ..).trans (wake_keeps ..)) (Keeps.refl s)
    · exact Keeps.refl s
  exact ((modCore_keeps fun h => h).trans (foldl_keeps (hwake _) _ _)).trans (refill_keeps ..)

theorem resetStaging_keeps (port : ShoreId) (e : EngineId) (s : State) : Keeps s (resetStaging port e s) := by
  unfold resetStaging
  dsimp only
  split
  · exact (setEngine_keeps ..).trans (focused_keeps _ _ (fun s => cancelEngine_keeps _ _ s) _)
  · exact setEngine_keeps ..

/-! ### Landing -/

theorem dropLanding_keeps (core : CoreId) (src : SourceWord) (check counter : Nat) (s : State) :
    Keeps s (dropLanding core src check counter s) :=
  ite_ok (P := Keeps s) (logCore_keeps ..) (Keeps.refl s)

theorem streamConflict_keeps (r : Option RegionId) (xfer : Nat) (s : State) : Keeps s (streamConflict r xfer s) :=
  Keeps.refl s

theorem refuseGroup_keeps (core : CoreId) (f : Flit) (s : State) : Keeps s (refuseGroup core f s) := noteCore_keeps ..

theorem beginLand_keeps (core : CoreId) (f : Flit) (queue : Option (Fin 5)) (s : State) :
    Keeps s (beginLand core f queue s) := by
  grind [beginLand, Keeps, Still, count_keeps, logCore_keeps, setCore_still, setCore_coresOk, coresOk_coreOf,
    tailTake_coreOk, putFlit_coreOk, bindGroup_coreOk, CoreOk]

theorem execMessageLanding_answers (core : CoreId) (s : State) : Answers s (execMessageLanding core s) := by
  refine answers_next ?_
  dsimp only
  split
  · refine ite_ok (P := Keeps s) (Keeps.refl s) ?_
    split
    · exact Keeps.after (dropLanding_keeps ..) (setCore_same rfl rfl)
    · split
      · exact Keeps.after (refuseGroup_keeps ..) (setCore_same rfl rfl)
      · exact Keeps.after (beginLand_keeps ..) (setCore_same rfl rfl)
  · exact Keeps.refl s

theorem refuseRest_keeps (core : CoreId) (mid : Nat) (f : Flit) (s : State) : Keeps s (refuseRest core mid f s) := by
  grind [refuseRest, Keeps, Still, refuseGroup_keeps, modCore_still, modCore_coresOk, coresOk_coreOf, CoreOk]

theorem execLandingFlit_answers (core : CoreId) (s : State) : Answers s (execLandingFlit core s) := by
  refine answers_next ?_
  dsimp only
  split
  · refine ite_ok (P := Keeps s) (Keeps.refl s) ?_
    split
    · refine ite_ok (P := Keeps s) (Keeps.after (refuseRest_keeps ..) (setCore_same rfl rfl)) ?_
      exact setCore_keeps fun h => landFlit_coreOk _ _ (CoreOk.congr (h core) rfl rfl)
    · exact setCore_same rfl rfl
  · exact Keeps.refl s

theorem sendSig_keeps (core : CoreId) (hd : Header) (s : State) : Keeps s (sendSig core hd s) := by
  have hsend : ∀ d k, Keeps s (if (coreOf s core).isolated then s else sendUpd ⟨.landing core, d, k⟩ s) :=
    fun _ _ => ite_ok (P := Keeps s) (Keeps.refl s) (sendUpd_keeps ..)
  unfold sendSig
  dsimp only
  split
  · exact Keeps.refl s
  · split
    · exact hsend ..
    · exact Keeps.refl s
  · split
    · exact hsend ..
    · exact Keeps.refl s

theorem portLanded_keeps (core : CoreId) (m : LandMsg) (s : State) : Keeps s (portLanded core m s) := by
  grind [portLanded, Keeps, Still, modFn_keeps]

theorem completeLand_keeps (core : CoreId) (m : LandMsg) (s : State) : Keeps s (completeLand core m s) := by
  have hend : ∀ t, Keeps s t → Keeps s (portLanded core m (sendSig core m.header t)) :=
    fun t h => (h.trans (sendSig_keeps ..)).trans (portLanded_keeps ..)
  unfold completeLand
  dsimp only
  apply hend
  split
  · refine Keeps.trans ?_ (postNotice_keeps ..)
    exact ite_ok (P := Keeps s) ((modCore_keeps id).trans (modCore_keeps (setHold_coreOk _ _ _))) (modCore_keeps id)
  · exact ite_ok (P := Keeps s) ((modCore_keeps id).trans (modCore_keeps (setHold_coreOk _ _ _))) (modCore_keeps id)

theorem execLandingComplete_answers (core : CoreId) (s : State) : Answers s (execLandingComplete core s) := by
  grind [execLandingComplete, Keeps, Still, answers_next, completeLand_keeps]

theorem releaseHeld_keeps (core : CoreId) (m : LandMsg) (expired : Bool) (s : State) :
    Keeps s (releaseHeld core m expired s) := by
  grind [releaseHeld, Keeps, Still, refuseRest_keeps, modCore_still, modCore_coresOk, coresOk_coreOf,
    releaseTail_coreOk, CoreOk]

theorem execTailWriteRelease_answers (core : CoreId) (i : Fin 8) (s : State) :
    Answers s (execTailWriteRelease core i s) := by
  grind [execTailWriteRelease, Keeps, Still, answers_next, releaseHeld_keeps, setCore_still, setCore_coresOk,
    coresOk_coreOf, tailTake_coreOk, CoreOk]

theorem execTailHoldExpiry_answers (core : CoreId) (i : Fin 8) (s : State) :
    Answers s (execTailHoldExpiry core i s) := by
  grind [execTailHoldExpiry, Keeps, Still, answers_next, releaseHeld_keeps, count_keeps, logCore_keeps]

/-! ### Regions -/

theorem commitStreams_keeps (r : RegionId) (g : BitVec 8) (s : State) : Keeps s (commitStreams r g s) :=
  ⟨⟨rfl, rfl, rfl, rfl, rfl, rfl, rfl, rfl, rfl, rfl, id⟩, coresOk_tmap fun _ _ h => h⟩

theorem discardStreams_keeps (r : RegionId) (g : BitVec 8) (s : State) :
    Keeps s (discardStreams r g s) := cancelRuns_keeps ..

theorem coresIn_keeps {f : CoreId → State → State} (hf : ∀ c s, Keeps s (f c s)) (s : State) (r : RegionId) :
    Keeps s (coresIn s r f) := foldl_keeps (fun s c => hf c s) _ _

theorem logFailedRows_keeps (core : CoreId) (s : State) : Keeps s (logFailedRows core s) :=
  foldl_keeps (fun _ _ => (foldl_keeps (fun _ _ => logParity_keeps ..) _ _).trans
    (foldl_keeps (fun _ _ => logCore_keeps ..) _ _)) _ _

theorem resolveGroup_keeps (r : RegionId) (s : State) (g : BitVec 8) : Keeps s (resolveGroup r s g) := by
  refine ite_ok (P := Keeps s) (Keeps.trans ?_ (commitStreams_keeps ..)) (Keeps.trans ?_ (discardStreams_keeps ..))
  all_goals
    refine (coresIn_keeps (fun c s => ?_) s r).trans (count_keeps ..)
    exact ite_ok (P := Keeps s) (ite_ok (P := Keeps s) ((logFailedRows_keeps ..).trans
      (modCore_keeps commitCore_coreOk))
      (modCore_keeps discardCore_coreOk)) (Keeps.refl s)

theorem eachThread_keeps (core : CoreId) {f : Hart → State → State} (hf : ∀ h s, Keeps s (f h s)) (s : State) :
    Keeps s (eachThread core f s) := foldl_keeps (fun s _ => hf _ s) _ _

theorem resetZero_keeps (core : CoreId) (s : State) : Keeps s (resetZero core s) := by
  grind [resetZero, Keeps, Still, modCore_still, modCore_coresOk, coresOk_coreOf, emptyQueues_coreOk,
    zeroedCore_coreOk, clearedCore_coreOk, CoreOk]

theorem placeMember_keeps (s : State) (h : BootHeader) (cell : BitVec 128) (m : Nat) (t : State) :
    Keeps t (placeMember s h cell m t) := modCore_keeps (placeBoot_coreOk _ _ _ _)

theorem reloadCore_keeps (r : RegionId) (core : CoreId) (s : State) : Keeps s (reloadCore r core s).2 := by
  unfold reloadCore
  dsimp only
  split
  · exact placeMember_keeps ..
  · exact Keeps.refl s

theorem clearBanks_keeps (core : CoreId) (s : State) : Keeps s (clearBanks core s) := by
  grind [clearBanks, Keeps, Still, setRouter_keeps, modCore_still, modCore_coresOk, coresOk_coreOf, CoreOk]

theorem clearActive_keeps (core : CoreId) (s : State) : Keeps s (clearActive core s) := by
  grind [clearActive, Keeps, Still, setRouter_keeps, modCore_still, modCore_coresOk, coresOk_coreOf, CoreOk]

theorem gateCore_keeps (kind : NightKind) (core : CoreId) (s : State) : Keeps s (gateCore kind core s) := by
  grind [gateCore, Keeps, Still, clearBanks_keeps, modCore_still, modCore_coresOk, coresOk_coreOf,
    emptyQueues_coreOk, clearedCore_coreOk, drainAll_coreOk, dropSpec_coreOk, zeroedCore_coreOk, CoreOk]

theorem gateDie_keeps (d : Nat) (s : State) : Keeps s (gateDie d s) := by
  grind [gateDie, Keeps, Still]

theorem quietThread_keeps (core : CoreId) (s : State) (i : Fin 4) : Keeps s (quietThread core s i) := by
  grind [quietThread, Keeps, Still, modCore_still, modCore_coresOk, coresOk_coreOf, setTh_coreOk, CoreOk]

theorem noInj_coreOk {c : Core} (h : CoreOk c) : CoreOk { c with inj := [] } := h

theorem quiesce_keeps (r : RegionId) (s : State) : Keeps s (quiesce r s) := by
  refine Keeps.after (cancelRegion_keeps ..)
    (Keeps.after (coresIn_keeps (fun c s => ?_) _ _) (foldl_keeps (fun _ _ => count_keeps ..) _ _))
  exact Keeps.after (modCore_keeps fun h => noInj_coreOk (dropSpec_coreOk h)) (foldl_keeps (quietThread_keeps c) _ _)

theorem endStarted_keeps (r : RegionId) (cause : BitVec 8) (s : State) : Keeps s (endStarted r cause s) :=
  foldl_keeps (fun _ _ => endLaunch_keeps ..) _ _

theorem stopRegion_keeps (r : RegionId) (cause : BitVec 8) (tell : Bool) (s : State) :
    Keeps s (stopRegion r cause tell s) := by
  grind [stopRegion, Keeps, Still, fnEvent_keeps, endStarted_keeps, writeBack_keeps, logArmaik_keeps, modReg_keeps,
    quiesce_keeps]

theorem countersZero_keeps (r : RegionId) (s : State) : Keeps s (countersZero r s) := by
  grind [countersZero, Keeps, Still, modFn_keeps]

theorem bornRegion_keeps (r : RegionId) (s : State) : Keeps s (bornRegion r s) := by
  grind [bornRegion, Keeps, Still, countersZero_keeps, modReg_keeps, fnEvent_keeps]

theorem dropLines_keeps (r : RegionId) (s : State) : Keeps s (dropLines r s) :=
  Keeps.refl s

theorem endNotify_keeps (n : PendNotify) (st : BitVec 8) (info : Word) (s : State) : Keeps s (endNotify n st info s) :=
  Keeps.after (completeDesc_keeps ..) (notLive_keeps ..)

theorem deadRegion_keeps (r : RegionId) (s : State) : Keeps s (deadRegion r s) := by
  have hend : ∀ l k, Keeps s (List.foldl (fun s (n : PendNotify) => endNotify n 0x2B 0 s) (List.foldl (fun s
      (e : Nat × Launch) => endLaunch r e.1 0x2E (BitVec.ofNat 64 r.val) s) (quiesce r
        (writeBack r s)) l) k) := fun l k =>
    Keeps.after (foldl_keeps (fun _ _ => endNotify_keeps ..) _ _) (Keeps.after (foldl_keeps
      (fun _ _ => endLaunch_keeps ..) _ _)
      (Keeps.after (quiesce_keeps ..) (writeBack_keeps ..)))
  have hlines : ∀ t, Keeps s t → Keeps s (dropLines r (coresIn t r resetZero)) := fun t ht =>
    Keeps.after (dropLines_keeps ..) (Keeps.after (coresIn_keeps resetZero_keeps _ _) ht)
  have hfreed : ∀ t l x, Keeps s t → Keeps s (setReg { t with scrubbing := l } r x) := fun t l x ht =>
    Keeps.after (setReg_keeps ..) (Keeps.trans ht (Keeps.refl t))
  unfold deadRegion
  dsimp only
  split
  · exact hfreed _ _ _ (hlines _ (Keeps.after (fnEvent_keeps ..) (Keeps.after (closePorts_keeps ..) (hend _ _))))
  · exact hfreed _ _ _ (hlines _ (hend _ _))

theorem reboot_keeps (r : RegionId) (image : BitVec 40) (s : State) : Keeps s (reboot r image s) :=
  (coresIn_keeps resetZero_keeps _ _).trans (modReg_keeps ..)

theorem genUp_keeps (r : RegionId) (s : State) : Keeps s (genUp r s) :=
  Keeps.refl s

theorem switchRegion_keeps (r : RegionId) (image : BitVec 40) (s : State) : Keeps s (switchRegion r image s) := by
  grind [switchRegion, Keeps, Still, genUp_keeps, reboot_keeps]

theorem rejoinCore_keeps (core : CoreId) (s : State) : Keeps s (rejoinCore core s) := by
  grind [rejoinCore, Keeps, Still, clearBanks_keeps, releaseCore_keeps, modCore_still, modCore_coresOk,
    coresOk_coreOf, emptyQueues_coreOk, CoreOk]

theorem rejoinRegion_keeps (r : RegionId) (s : State) : Keeps s (rejoinRegion r s) := by
  have hjoin : Keeps s (genUp r (coresIn s r rejoinCore)) := Keeps.after (genUp_keeps ..)
    (coresIn_keeps rejoinCore_keeps _ _)
  have hboot := hjoin.trans (reboot_keeps r (regOf (genUp r (coresIn s r rejoinCore)) r).bootImage _)
  exact ite_ok (P := Keeps s) hboot (Keeps.after (modReg_keeps ..) hjoin)

theorem startWake_keeps (r : RegionId) (s : State) : Keeps s (startWake r s) :=
  (coresIn_keeps (fun _ _ => modCore_keeps id) _ _).trans (modReg_keeps ..)

/-! ### Spare cores -/

theorem setRow_keeps (i : Nat) (x : SpareRow) (s : State) : Keeps s (setRow i x s) :=
  Keeps.refl s

theorem holdCore_keeps (c : CoreId) (s : State) : Keeps s (holdCore c s) := modCore_keeps fun h => h

theorem holdMoved_keeps (s : State) : Keeps s (holdMoved s) :=
  foldl_keeps (fun s _ => ite_ok (P := Keeps s) (foldl_keeps (fun s _ =>
    ite_ok (P := Keeps s) (Keeps.refl s) (holdCore_keeps ..)) _ _) (Keeps.refl s)) _ _

theorem openGate_keeps (c : CoreId) (s : State) : Keeps s (openGate c s) := by
  grind [openGate, Keeps, Still, modCore_still, modCore_coresOk, coresOk_coreOf, CoreOk]

theorem restoreCore_keeps (fresh : Bool) (s : State) (c : CoreId) : Keeps s (restoreCore fresh s c) := by
  have hopen := openGate_keeps c s
  unfold restoreCore
  dsimp only
  split
  next r _ =>
    have hload : Keeps s (modCore (reloadCore r c (modCore (openGate c s) c fun y => zeroedCore (clearedCore y))).2 c
        fun y => { y with released := (reloadCore r c (modCore (openGate c s) c fun y => zeroedCore
          (clearedCore y))).1 }) :=
      Keeps.after (modCore_keeps id) (Keeps.after (reloadCore_keeps ..)
        (Keeps.after (modCore_keeps fun _ => zeroedCore_coreOk _) hopen))
    exact ite_ok (P := Keeps s) (ite_ok (P := Keeps s) hload (Keeps.after (rejoinCore_keeps ..) hload))
      (ite_ok (P := Keeps s) hopen (Keeps.after (rejoinCore_keeps ..) hopen))
  · exact ite_ok (P := Keeps s) (Keeps.after (modCore_keeps fun _ => zeroedCore_coreOk _) hopen) hopen

theorem newBanks_keeps (c : CoreId) (s : State) : Keeps s (newBanks c s) :=
  ite_ok (P := Keeps s) (clearActive_keeps ..) (clearBanks_keeps ..)

theorem moveAsleep_keeps (c : CoreId) (s : State) : Keeps s (moveAsleep c s) := by
  grind [moveAsleep, Keeps, Still, modReg_keeps, modCore_still, modCore_coresOk, coresOk_coreOf, zeroedCore_coreOk,
    CoreOk]

theorem moveCore_keeps (migrated : Bool) (s : State) (c : CoreId) : Keeps s (moveCore migrated s c) := by
  grind [moveCore, Keeps, Still, newBanks_keeps, openGate_keeps, moveAsleep_keeps, releaseCore_keeps, modCore_still,
    modCore_coresOk, coresOk_coreOf, migrateCore_coreOk, CoreOk]

theorem delayResume_keeps (s : State) (r : RegionId) : Keeps s (delayResume s r) :=
  Keeps.refl s

theorem shiftRow_keeps (s : State) (i : Nat) : Keeps s (shiftRow s i) := by
  have hmoved : ∀ x m l, Keeps s (List.foldl (moveCore m) (wantStore .spareMap (setRow i x s)) l) := fun x m l =>
    Keeps.after (foldl_keeps (moveCore_keeps m) _ _) (Keeps.after (wantStore_keeps ..) (setRow_keeps ..))
  unfold shiftRow
  dsimp only
  split
  · exact Keeps.refl s
  · refine ite_ok (P := Keeps s) (Keeps.refl s) ?_
    split
    · refine Keeps.after (modCore_keeps fun h => CoreOk.congr (ite_ok (P := CoreOk) (zeroedCore_coreOk _) h) rfl rfl) ?_
      refine Keeps.after (foldl_keeps (fun s _ => ?_) _ _) (Keeps.after (foldl_keeps delayResume_keeps _ _)
        (hmoved _ _ _))
      exact ite_ok (P := Keeps s) (Keeps.refl s) (restoreCore_keeps ..)
    · refine Keeps.after (foldl_keeps (fun s _ => ?_) _ _) (Keeps.after (foldl_keeps delayResume_keeps _ _)
      (hmoved _ _ _))
      exact ite_ok (P := Keeps s) (Keeps.refl s) (restoreCore_keeps ..)

theorem shiftSpares_keeps (s : State) : Keeps s (shiftSpares s) := foldl_keeps shiftRow_keeps _ _

theorem changeRemovals_keeps (n : Nat) (f : List (BitVec 14) × List (Fin 32) → List (BitVec 14) × List (Fin 32)) (s :
    State) : Keeps s (changeRemovals n f s) :=
  Keeps.refl s

theorem shiftRemovals_keeps (s : State) : Keeps s (shiftRemovals s) :=
  ite_ok (P := Keeps s) (Keeps.refl s) (Keeps.after (foldl_keeps (restoreCore_keeps true) _ _)
    (Keeps.after (wantStore_keeps ..) (Keeps.refl s)))

theorem shiftMap_keeps (s : State) : Keeps s (shiftMap s) :=
  ((shiftSpares_keeps s).trans (shiftRemovals_keeps _)).trans (foldl_keeps (fun _ _ => genUp_keeps ..) _ _)

theorem planRow_keeps (n i : Nat) (f g : BitVec 5) (s : State) : Keeps s (planRow n i f g s) :=
  Keeps.refl s

theorem clearFailed_keeps (n : Nat) (who : UnderTest) (s : State) : Keeps s (clearFailed n who s) := by
  unfold clearFailed
  grind [Keeps, Still, planRow_keeps, changeRemovals_keeps]

theorem finishTests_keeps (s : State) : Keeps s (finishTests s) := by
  refine Keeps.after (foldl_keeps (fun s t => ?_) _ _) (Keeps.refl s)
  exact ite_ok (P := Keeps s) (clearFailed_keeps ..) (Keeps.after (logArmaik_keeps ..) (drawFree_keeps s))

theorem borderStep_keeps (s : State) (r : RegionId) : Keeps s (borderStep s r) :=
  ite_ok (P := Keeps s) (Keeps.refl s) (((foldl_keeps (fun _ _ => logCore_keeps ..) _ _).trans (modReg_keeps ..)).trans
    (coresIn_keeps (fun _ s => ite_ok (P := Keeps s) (holdCore_keeps ..) (Keeps.refl s)) _ _))

/-! ### The Day -/

theorem eachRegion_keeps {f : RegionId → State → State} (hf : ∀ r s, Keeps s (f r s)) (s : State) :
    Keeps s (eachRegion f s) :=
  foldl_keeps (fun s r => hf r s) _ _

theorem judgeReference_keeps (s : State) : Keeps s (judgeReference s) := by
  grind [judgeReference, Keeps, Still]

theorem stopStep_keeps (wasDay twi : Bool) (r : RegionId) (s : State) : Keeps s (stopStep wasDay twi r s) := by
  grind [stopStep, Keeps, Still, deadRegion_keeps, stopRegion_keeps]

theorem swapCells_keeps (s : State) : Keeps s (swapCells s) :=
  Keeps.refl s

theorem applyRegionChange_keeps (r : RegionId) (s : State) (c : RegionChange) : Keeps s (applyRegionChange r s c) := by
  unfold applyRegionChange
  grind [Keeps, Still, bornRegion_keeps, switchRegion_keeps, wake_keeps, modReg_keeps]

theorem changeStep_keeps (r : RegionId) (s : State) : Keeps s (changeStep r s) :=
  ite_ok (P := Keeps s) (Keeps.refl s) ((modReg_keeps ..).trans (foldl_keeps (applyRegionChange_keeps r) _ _))

theorem bindVf_keeps (r : RegionId) (vf : BitVec 9) (s : State) : Keeps s (bindVf r vf s) := by
  have hbound : ∀ t l k f, Keeps s t → Keeps s (modReg (List.foldl (fun s (n : PendNotify) => endNotify n 0x2B 0 s)
      (List.foldl (fun s (e : Nat × Launch) => endLaunch r e.1 0x2B 0 s) t l) k) r f) := fun t l k f ht =>
    Keeps.after (modReg_keeps ..) (Keeps.after (foldl_keeps (fun _ _ => endNotify_keeps ..) _ _)
      (Keeps.after (foldl_keeps (fun _ _ => endLaunch_keeps ..) _ _) ht))
  have hold : Keeps s (match fnOfRegion s r with
      | some fn => fnEvent fn 2 0 (BitVec.ofNat 64 r.val) (closePorts fn 0x2B s)
      | none => s) := by
    split
    · exact Keeps.after (fnEvent_keeps ..) (closePorts_keeps ..)
    · exact Keeps.refl s
  unfold bindVf
  dsimp only
  split
  · exact Keeps.after (fnEvent_keeps ..) (hbound _ _ _ _ hold)
  · exact hbound _ _ _ _ hold

theorem bindStep_keeps (r : RegionId) (s : State) : Keeps s (bindStep r s) := by
  grind [bindStep, Keeps, Still, modReg_keeps, bindVf_keeps]

theorem swapBanks_keeps (r : RegionId) (s : State) : Keeps s (swapBanks r s) := by
  refine Keeps.after (modReg_keeps ..) (coresIn_keeps (fun c s => ?_) _ _)
  have hrouter : Keeps s (if (tfind s.routers c.val).isSome then
      setRouter s c { routerOf s c with active := !(routerOf s c).active } else s) :=
    ite_ok (P := Keeps s) (setRouter_keeps ..) (Keeps.refl s)
  exact ite_ok (P := Keeps s) hrouter (Keeps.after (setCore_same rfl rfl) hrouter)

theorem startHeld_keeps (core : CoreId) (s : State) : Keeps s (startHeld core s) :=
  foldl_keeps (fun s _ => ite_ok (P := Keeps s) (startThread_keeps ..) (Keeps.refl s)) _ _

theorem swapStep_keeps (r : RegionId) (s : State) : Keeps s (swapStep r s) := by
  have hswap := swapBanks_keeps r s
  refine ite_ok (P := Keeps s) (Keeps.refl s) (ite_ok (P := Keeps s) (Keeps.after
    (coresIn_keeps startHeld_keeps _ _) hswap)
    (ite_ok (P := Keeps s) (Keeps.after (coresIn_keeps startTasks_keeps _ _) ?_) (Keeps.refl s)))
  split
  · exact Keeps.after (fnEvent_keeps ..) (Keeps.after (modReg_keeps ..) hswap)
  · exact Keeps.after (modReg_keeps ..) hswap

theorem wakeStep_keeps (r : RegionId) (s : State) : Keeps s (wakeStep r s) := by
  unfold wakeStep
  grind [Keeps, Still, rejoinRegion_keeps, startWake_keeps]

theorem joinStop_keeps (r : RegionId) (s : State) : Keeps s (joinStop r s) :=
  ite_ok (P := Keeps s) (stopRegion_keeps ..) (Keeps.refl s)

theorem sampleStep_keeps (r : RegionId) (s : State) : Keeps s (sampleStep r s) :=
  ite_ok (P := Keeps s) (modReg_keeps ..) (Keeps.refl s)

theorem loadStep_keeps (r : RegionId) (s : State) : Keeps s (loadStep r s) := by
  grind [loadStep, Keeps, Still, clearInactive_keeps, modReg_keeps]

theorem farStep_keeps (r : RegionId) (s : State) : Keeps s (farStep r s) :=
  ite_ok (P := Keeps s) (Keeps.refl s) (writeBack_keeps ..)

theorem farFlush_keeps (s : State) : Keeps s (farFlush s) := foldl_keeps (fun _ _ => cleanLines_keeps ..) _ _

theorem routeDay_keeps (s : State) : Keeps s (routeDay s) :=
  Keeps.refl s

theorem dawnAt_keeps (n : Nat) {f : State → State} (hf : ∀ s, Keeps s (f s)) (s : State) : Keeps s (dawnAt n f s) :=
  ite_ok (P := Keeps s) ((toCycle_keeps ..).trans (hf _)) (Keeps.refl s)

theorem tellStop_keeps (r : RegionId) (s : State) : Keeps s (tellStop r s) :=
  ite_ok (P := Keeps s) (Keeps.refl s) (ite_ok (P := Keeps s)
    ((modReg_keeps ..).trans (deliver_keeps _ (raiseE5_keeps ..))) (modReg_keeps ..))

theorem drainNight_keeps (r : RegionId) (s : State) : Keeps s (drainNight r s) :=
  ite_ok (P := Keeps s) (coresIn_keeps (fun _ s => ite_ok (P := Keeps s) (Keeps.refl s)
    (modCore_keeps (f := fun x => drainAll (dropSpec x)) fun h => drainAll_coreOk (dropSpec_coreOk h))) _ _)
      (Keeps.refl s)

theorem execDawnControlWords_answers (s : State) : Answers s (execDawnControlWords s) :=
  answers_next (dawnAt_keeps _ (fun s => ((eachRegion_keeps tellStop_keeps s).trans (holdMoved_keeps _)).trans
    (eachRegion_keeps drainNight_keeps _)) s)

theorem latchRegion_keeps (r : RegionId) (s : State) : Keeps s (latchRegion r s) := by
  have hlatch : Keeps s ((groupsOf (modReg s r fun x => { x with variant := x.sampledVariant }) r).foldl
    (resolveGroup r)
      (modReg s r fun x => { x with variant := x.sampledVariant })) :=
    (modReg_keeps ..).trans (foldl_keeps (resolveGroup_keeps r) _ _)
  refine ite_ok (P := Keeps s) (Keeps.refl s) ?_
  dsimp only
  split
  · exact hlatch
  · exact Keeps.trans (ite_ok (P := Keeps s) (hlatch.trans (modReg_keeps ..)) hlatch)
      (coresIn_keeps (fun _ s => ite_ok (P := Keeps s) (Keeps.refl s) ((gateCore_keeps ..).trans
        (gateDie_keeps ..))) _ _)

theorem latchCores_keeps (s : State) : Keeps s (latchCores s) :=
  foldl_keeps (fun _ _ => (gateCore_keeps ..).trans (gateDie_keeps ..)) _ _

theorem execVariantLatch_answers (s : State) : Answers s (execVariantLatch s) :=
  answers_next (dawnAt_keeps _ (fun s => (eachRegion_keeps latchRegion_keeps s).trans (latchCores_keeps _)) s)

theorem execShadowAccumulatorResolve_answers (h : Hart) (i : Fin 4) (s : State) :
    Answers s (execShadowAccumulatorResolve h i s) := by
  grind [execShadowAccumulatorResolve, Keeps, Still, answers_next, toCycle_keeps, modCore_still, modCore_coresOk,
    coresOk_coreOf, resolveShadow_coreOk, CoreOk]

theorem takeDeferred_keeps (h : Hart) (f : DeferredFault) (s : State) : Keeps s (takeDeferred h f s) :=
  Keeps.after (decideEntry_keeps ..) (modTh_keeps ..)

theorem logDeferred_keeps (h : Hart) (f : DeferredFault) (s : State) : Keeps s (logDeferred h f s) :=
  Keeps.after (logItem_keeps ..) (modTh_keeps ..)

theorem execDeferredFaultEntry_answers (h : Hart) (s : State) : Answers s (execDeferredFaultEntry h s) := by
  grind [execDeferredFaultEntry, Keeps, Still, answers_next, toCycle_keeps, logDeferred_keeps, takeDeferred_keeps,
    withdrawSend_keeps]

theorem deliverAll_keeps (d : DieId) (s : State) : Keeps s (deliverAll d s) :=
  foldl_keeps (f := fun s u => bankCycle d [u] s) (fun _ _ => bankCycle_keeps ..) _ _

theorem execDawnFlagClear_answers (die : DieId) (s : State) : Answers s (execDawnFlagClear die s) :=
  answers_next (dawnAt_keeps _ (fun s => ite_ok (P := Keeps s) (Keeps.refl s)
    ((deliverAll_keeps ..).trans (setBank_keeps ..))) s)

theorem postLaunch_keeps (r : RegionId) (kind tag cell : Nat) (laddr : BitVec 20) (args : List Word) (cid : BitVec 16)
    (s : State) : Keeps s (postLaunch r kind tag cell laddr args cid s) :=
  deliver_keeps _ (Keeps.trans (ite_ok (P := Keeps s) (Keeps.refl s) (modCore_keeps fun h => memPut_coreOk _ _ _ _ h))
    (postNotice_keeps ..))

theorem startWaiting_keeps (r : RegionId) (a : Starts) (w : Waiting) : Keeps a.st (startWaiting r a w).st := by
  have hrefl := Keeps.refl a.st
  refine ite_ok (P := fun x : Starts => Keeps a.st x.st) hrefl ?_
  split
  · exact ite_ok (P := fun x : Starts => Keeps a.st x.st) hrefl (ite_ok (P := fun x : Starts => Keeps a.st x.st)
      (endLaunch_keeps ..) ((((writeBack_keeps ..).trans (dropClean_keeps ..)).trans (modReg_keeps ..)).trans
        (postLaunch_keeps ..)))
  · exact ite_ok (P := fun x : Starts => Keeps a.st x.st) hrefl
      (((modReg_keeps ..).trans (postLaunch_keeps ..)).trans (endNotify_keeps ..))

theorem launchRegion_keeps (r : RegionId) (s : State) : Keeps s (launchRegion r s) := by
  have hfold : ∀ (l : List Waiting) (a : Starts), Keeps s a.st → Keeps s (l.foldl (startWaiting r) a).st :=
    fun l a h => foldl_ok (P := fun x :
      Starts => Keeps s x.st) (fun x w hx => hx.trans (startWaiting_keeps r x w)) l a h
  exact ite_ok (P := Keeps s) (Keeps.refl s) ((hfold _ _ (Keeps.refl s)).trans (modReg_keeps ..))

theorem execLaunchStart_answers (s : State) : Answers s (execLaunchStart s) :=
  answers_next (dawnAt_keeps _ (eachRegion_keeps launchRegion_keeps) s)

theorem dawnRegion_keeps (r : RegionId) (s : State) : Keeps s (dawnRegion r s) :=
  ite_ok (P := Keeps s) (Keeps.refl s) (coresIn_keeps (fun c s => eachThread_keeps c (fun _ s =>
    ite_ok (P := Keeps s) (Keeps.refl s) (deliver_keeps _ (raiseEvent_keeps ..))) s) _ _)

theorem execDawnEvent_answers (s : State) : Answers s (execDawnEvent s) :=
  answers_next (dawnAt_keeps _ (eachRegion_keeps dawnRegion_keeps) s)

theorem execNoonStart_answers (s : State) : Answers s (execNoonStart s) :=
  answers_next (dawnAt_keeps 512 (f := fun s => { s with clock := { s.clock with phase := .noon } }) Keeps.refl s)

theorem lateLoad_keeps (r : RegionId) (s : State) : Keeps s (lateLoad r s) := by
  unfold lateLoad
  grind [Keeps, Still, logArmaik_keeps, modReg_keeps]

theorem latePort_keeps (k : Nat) (s : State) : Keeps s (latePort k s) :=
  ite_ok (P := Keeps s) (Keeps.refl s) (logEdie_keeps ..)

theorem execDuskStart_answers (s : State) : Answers s (execDuskStart s) := by
  have hdusk : ∀ t, Keeps t (eachRegion lateLoad { t with clock := { t.clock with phase := .dusk } }) :=
    fun t => eachRegion_keeps lateLoad_keeps _
  exact answers_next (ite_ok (P := Keeps s) (Keeps.refl s) (((toCycle_keeps ..).trans (hdusk _)).trans
    (foldl_keeps (f := fun s k => latePort k s) (fun _ _ => latePort_keeps ..) _ _)))

theorem execDayOverrun_answers (core : CoreId) (s : State) : Answers s (execDayOverrun core s) := by
  grind [execDayOverrun, Keeps, Still, answers_next, toCycle_keeps, modCore_still, modCore_coresOk, coresOk_coreOf,
    CoreOk]

/-! ### Management replies -/

theorem reply_keeps (st : BitVec 8) (data : List Word) (s : State) : Keeps s (reply st data s) :=
  Keeps.refl s

theorem answer_keeps (r : Option RegionId) (st : BitVec 8) (s : State) : Keeps s (answer r st s) :=
  ite_ok (P := Keeps s) (logArmaik_keeps ..) (Keeps.refl s)

theorem operatorCmd_keeps {f : State → State} (hf : ∀ s, Keeps s (f s)) (s : State) : Keeps s (operatorCmd f s) :=
  ite_ok (P := Keeps s) (Keeps.refl s) (ite_ok (P := Keeps s) (reply_keeps ..) (hf s))

theorem logPresence_keeps (cmd : Nat) (s : State) : Keeps s (logPresence cmd s) := noteArmaik_keeps ..

theorem withPresence_keeps {f : State → State} (hf : ∀ s, Keeps s (f s)) (s : State) : Keeps s (withPresence f s) :=
  ite_ok (P := Keeps s) (hf s) (reply_keeps ..)

theorem presenceCmd_keeps (cmd : Nat) {f : State → State} (hf : ∀ s, Keeps s (f s)) (s : State) :
    Keeps s (presenceCmd cmd f s) :=
  ite_ok (P := Keeps s) (Keeps.refl s) ((logPresence_keeps ..).trans (operatorCmd_keeps (withPresence_keeps hf) _))

/-! ### Host registers -/

theorem fromHost_keeps (fn : FnId) {f : State → State} (hf : ∀ s, Keeps s (f s)) (s : State) :
    Keeps s (fromHost fn f s) :=
  ite_ok (P := Keeps s) (hf s) (Keeps.refl s)

theorem writeRecord_keeps (fn : FnId) (off v : Nat) (s : State) : Keeps s (writeRecord fn off v s) :=
  ite_ok (P := Keeps s) (Keeps.refl s) (Keeps.refl s)

theorem storeReg_keeps (fn : FnId) (off mask : Nat) (v : BitVec 32) (s : State) : Keeps s (storeReg fn off mask v s) :=
  Keeps.refl s

theorem startSq_keeps (fn : FnId) (r : Nat) (s : State) : Keeps s (startSq fn r s) :=
  Keeps.after (writeRecord_keeps ..) (modFn_keeps ..)

theorem startCq_keeps (fn : FnId) (c : Nat) (s : State) : Keeps s (startCq fn c s) :=
  Keeps.refl s

theorem writeRingCtrl_keeps (fn : FnId) (r : Nat) (v : BitVec 32) (s : State) : Keeps s (writeRingCtrl fn r v s) := by
  grind [writeRingCtrl, Keeps, Still, modFn_keeps, storeReg_keeps, startSq_keeps]

theorem writeCqSize_keeps (fn : FnId) (c : Nat) (v : BitVec 32) (s : State) : Keeps s (writeCqSize fn c v s) := by
  grind [writeCqSize, Keeps, Still, modFn_keeps, storeReg_keeps, startCq_keeps]

theorem writeSqReg_keeps (fn : FnId) (r sub : Nat) (v : BitVec 32) (s : State) : Keeps s (writeSqReg fn r sub v s) := by
  unfold writeSqReg
  grind [Keeps, Still, writeRingCtrl_keeps, storeReg_keeps]

theorem writeCqReg_keeps (fn : FnId) (c sub : Nat) (v : BitVec 32) (s : State) : Keeps s (writeCqReg fn c sub v s) := by
  unfold writeCqReg
  grind [Keeps, Still, writeCqSize_keeps, storeReg_keeps]

theorem notifyPoll_keeps (fn : FnId) (s : State) : Keeps s (notifyPoll fn s) :=
  Keeps.after (writeRecord_keeps ..) (modFn_keeps ..)

theorem writeLock_keeps (fn : FnId) (v : BitVec 32) (s : State) : Keeps s (writeLock fn v s) :=
  Keeps.refl s

theorem writeReg_keeps (fn : FnId) (off : Nat) (v : BitVec 32) (s : State) : Keeps s (writeReg fn off v s) := by
  grind [writeReg, Keeps, Still, writeLock_keeps, notifyPoll_keeps, storeReg_keeps, writeSqReg_keeps, writeCqReg_keeps]

theorem sendPending_keeps (fn : FnId) (s : State) (k : Nat) : Keeps s (sendPending fn s k) := by
  grind [sendPending, Keeps, Still, sendMsix_keeps, setFn_keeps]

theorem writeMsix_keeps (fn : FnId) (word : Nat) (v : BitVec 32) (s : State) : Keeps s (writeMsix fn word v s) :=
  Keeps.after (sendPending_keeps ..) (modFn_keeps ..)

theorem writeDword_keeps (fn : FnId) (off : Nat) (v : BitVec 32) (s : State) : Keeps s (writeDword fn off v s) := by
  grind [writeDword, Keeps, Still, writeMsix_keeps, writeReg_keeps]

theorem bar0Write_keeps (fn : FnId) (off : Nat) (eight : Bool) (en : BitVec 8) (v : BitVec 64) (s : State) :
    Keeps s (bar0Write fn off eight en v s) := by
  grind [bar0Write, Keeps, Still, writeDword_keeps]

theorem resetFn_keeps (fn : FnId) (s : State) : Keeps s (resetFn fn s) := by
  grind [resetFn, Keeps, Still, dropTranslations_keeps, modFn_keeps]

theorem flr_keeps (fn : FnId) (s : State) : Keeps s (flr fn s) := by
  unfold flr
  split
  · exact resetFn_keeps ..
  · exact foldl_keeps (fun _ _ => resetFn_keeps ..) _ _

theorem writePower_keeps (fn : FnId) (v : BitVec 32) (s : State) : Keeps s (writePower fn v s) :=
  ite_ok (P := Keeps s) (Keeps.refl s) (ite_ok (P := Keeps s) (setFn_keeps ..)
    (Keeps.after (foldl_keeps (fun _ _ => sendMsix_keeps ..) _ _) (setFn_keeps ..)))

theorem stopAts_keeps (fn : FnId) (s : State) : Keeps s (stopAts fn s) := dropTranslations_keeps ..

theorem putConfig_keeps (fn : FnId) (off : Nat) (v : BitVec 32) (s : State) : Keeps s (putConfig fn off v s) := by
  unfold putConfig
  dsimp only
  split
  · exact writePower_keeps ..
  · exact Keeps.after (foldl_keeps (sendPending_keeps fn) _ _) (setFn_keeps ..)
  · exact ite_ok (P := Keeps s) (setFn_keeps ..) (Keeps.after (stopAts_keeps ..) (setFn_keeps ..))
  · exact setFn_keeps ..
  · exact ite_ok (P := Keeps s) (setFn_keeps ..)
      (Keeps.after (foldl_keeps (fun _ _ => stopAts_keeps ..) _ _) (setFn_keeps ..))
  · exact setFn_keeps ..

theorem writeConfig_keeps (fn : FnId) (off : Nat) (en : BitVec 4) (v : BitVec 32) (s : State) :
    Keeps s (writeConfig fn off en v s) := by
  grind [writeConfig, Keeps, Still, setFn_keeps, flr_keeps, modFn_keeps, putConfig_keeps]

theorem logHeader_keeps (fn : FnId) (k : Nat) (s : State) : Keeps s (logHeader fn k s) :=
  Keeps.after (foldl_keeps (fun s _ => Keeps.after (modFn_keeps ..) (drawFree_keeps s)) _ _) (modFn_keeps ..)

theorem noteAer_keeps (fn : FnId) (k : Nat) (s : State) : Keeps s (noteAer fn k s) := by
  grind [noteAer, Keeps, Still, setFn_keeps, logHeader_keeps]

theorem noteTimeout_keeps (fn : FnId) (s : State) : Keeps s (noteTimeout fn s) :=
  ite_ok (P := Keeps s) (noteAer_keeps ..) (Keeps.refl s)

theorem execRegisterWrite_answers (target : RegTarget) (s : State) : Answers s (execRegisterWrite target s) := by
  cases target with
  | ioPort h p d port => exact outInstr_answers ..
  | bar0 fn off eight en v => exact answers_next (fromHost_keeps fn (fun _ => bar0Write_keeps ..) s)
  | config fn off en v => exact answers_next (fromHost_keeps fn (fun _ => writeConfig_keeps ..) s)

theorem execSetupLock_answers (fn : FnId) (v : BitVec 32) (s : State) : Answers s (execSetupLock fn v s) :=
  answers_next (fromHost_keeps fn (fun _ => writeReg_keeps ..) s)

theorem execNotifyWrite_answers (fn : FnId) (v : BitVec 32) (s : State) : Answers s (execNotifyWrite fn v s) :=
  answers_next (fromHost_keeps fn (fun _ => writeReg_keeps ..) s)

theorem execRingEnable_answers (fn : FnId) (ring : RingName) (v : BitVec 32) (s : State) :
    Answers s (execRingEnable fn ring v s) := by
  cases ring with
  | sq r => exact answers_next (fromHost_keeps fn (fun _ => writeReg_keeps ..) s)
  | cq c => exact answers_next (fromHost_keeps fn (fun _ => writeReg_keeps ..) s)

theorem execFunctionLevelReset_answers (fn : FnId) (s : State) : Answers s (execFunctionLevelReset fn s) :=
  answers_next (fromHost_keeps fn (flr_keeps fn) s)

theorem execPerst_answers (link : LinkId) (s : State) : Answers s (execPerst link s) := answers_next (flr_keeps ..)

theorem takeTail_keeps (fn : FnId) (tails : List (BitVec 17)) (s : State) (r : Nat) :
    Keeps s (takeTail fn tails s r) := by
  unfold takeTail
  grind [Keeps, Still, fnEvent_keeps, setFn_keeps]

theorem takeHead_keeps (fn : FnId) (heads : List (BitVec 17)) (s : State) (c : Nat) :
    Keeps s (takeHead fn heads s c) := by
  unfold takeHead
  grind [Keeps, Still, setFn_keeps]

theorem idleStep_keeps (fn : FnId) (s : State) : Keeps s (idleStep fn s) := by
  grind [idleStep, Keeps, Still, setFn_keeps, writeRecord_keeps]

theorem readRecords_keeps (fn : FnId) (off len : Nat) (s : State) : Keeps s (readRecords fn off len s) :=
  Keeps.refl s

theorem execTailPoll_answers (fn : FnId) (tails : List (BitVec 17)) (heads : List (BitVec 17)) (s : State) :
    Answers s (execTailPoll fn tails heads s) :=
  answers_next (fromHost_keeps fn (fun s => ite_ok (P := Keeps s) (Keeps.refl s) (ite_ok (P := Keeps s)
    (foldl_keeps (fun _ _ => Keeps.after (takeHead_keeps ..) (readRecords_keeps ..)) _ _)
    (Keeps.after (idleStep_keeps ..) (Keeps.after (foldl_keeps (fun _ _ => takeHead_keeps ..) _ _)
      (Keeps.after (foldl_keeps (fun _ _ => takeTail_keeps ..) _ _)
        (Keeps.after (readRecords_keeps ..) (readRecords_keeps ..))))))) s)

theorem refuseAll_keeps (l : List PageWaiter) (s : State) : Keeps s (refuseAll l s) :=
  foldl_keeps (fun s _ => focused_keeps _ _ (refuseFar_keeps _) s) _ _

theorem askPage_keeps (fn : FnId) (page : BitVec 52) (s : State) : Keeps s (askPage fn page s) :=
  ite_ok (P := Keeps s) (setFn_keeps ..) (Keeps.refl s)

theorem endPageReq_keeps (fn : FnId) (page : BitVec 52) (s : State) : Keeps s (endPageReq fn page s) := by
  grind [endPageReq, Keeps, Still, setFn_keeps, askPage_keeps]

theorem translated_keeps (t : Translation) (s : State) : Keeps s (translated t s) := by
  grind [translated, Keeps, Still, setFn_keeps, keepTranslation_keeps, dropTranslations_keeps, refuseAll_keeps,
    askPage_keeps]

theorem execTranslationCompletion_answers (fn : FnId) (page : BitVec 52) (ans : AtsAnswer) (s : State) :
    Answers s (execTranslationCompletion fn page ans s) :=
  answers_next (ite_ok (P := Keeps s) (translated_keeps ..) (Keeps.refl s))

theorem refuseWaiting_keeps (fn : FnId) (s : State) : Keeps s (refuseWaiting fn s) :=
  Keeps.after (foldl_keeps (fun _ _ => refuseAll_keeps ..) _ _) (modFn_keeps ..)

theorem execPageRequestResponse_answers (fn : FnId) (page : BitVec 52) (ans : PriAnswer) (s : State) :
    Answers s (execPageRequestResponse fn page ans s) := by
  unfold execPageRequestResponse
  grind [Keeps, Still, answers_next, askTranslation_keeps, modFn_keeps, endPageReq_keeps, refuseAll_keeps,
    refuseWaiting_keeps]

theorem execAtsInvalidation_answers (fn : FnId) (page : BitVec 52) (count : Nat) (s : State) :
    Answers s (execAtsInvalidation fn page count s) := by
  refine answers_next (fromHost_keeps fn (fun s => ?_) s)
  have hdrop := dropTranslations_keeps fn.link
    (fun t => decide (t.fn = fn ∧ page.toNat ≤ t.page.toNat ∧ t.page.toNat < page.toNat + count)) s
  exact ite_ok (P := Keeps s) (ite_ok (P := Keeps s) (hdrop.trans (setFn_keeps ..)) hdrop) (hdrop.trans (Keeps.refl _))

/-! ### Host descriptors and data ports -/

theorem endDesc_keeps (fn : FnId) (r : Nat) (d : HostDesc) (st : BitVec 8) (info : Nat) (s : State) :
    Keeps s (endDesc fn r d st info s) :=
  completeDesc_keeps ..

theorem takeDesc_keeps (fn : FnId) (r : Nat) (s : State) (d : HostDesc) : Keeps s (takeDesc fn r s d) := by
  grind [takeDesc, Keeps, Still, modFn_keeps, endDesc_keeps]

theorem execDescriptorFetch_answers (fn : FnId) (ring : Fin 16) (descs : List (List (BitVec 64))) (s : State) :
    Answers s (execDescriptorFetch fn ring descs s) := by
  refine answers_next (fromHost_keeps fn (fun s => ite_ok (P := Keeps s) (Keeps.refl s) ?_) s)
  refine Keeps.after (foldl_keeps (fun _ _ => takeDesc_keeps ..) _ _) (Keeps.after (writeRecord_keeps ..) ?_)
  exact Keeps.after (setFn_keeps ..) (Keeps.refl s)

theorem popDesc_keeps (fn : FnId) (ring : Fin 16) (n : Nat) (s : State) : Keeps s (popDesc fn ring n s) :=
  Keeps.refl s

theorem goLive_keeps (fn : FnId) (ring : Fin 16) (n : Nat) (s : State) : Keeps s (goLive fn ring n s) :=
  Keeps.refl s

theorem withDesc_keeps (fn : FnId) (ring : Fin 16) (op : Nat) {f : Nat → HostDesc → State → State}
    (hf : ∀ n d s, Keeps s (f n d s)) (s : State) : Keeps s (withDesc fn ring op f s) := by
  unfold withDesc
  split
  · exact Keeps.refl s
  · exact (popDesc_keeps ..).trans (hf _ _ _)

theorem withRegion_keeps (fn : FnId) (ring : Fin 16) (op : Nat) {f : RegionId → Nat → HostDesc → State → State}
    (hf : ∀ r n d s, Keeps s (f r n d s)) (s : State) : Keeps s (withRegion fn ring op f s) :=
  withDesc_keeps fn ring op (fun n d s => by
    split
    · exact endDesc_keeps ..
    · exact hf ..) s

theorem execNopDescriptor_answers (fn : FnId) (ring : Fin 16) (s : State) : Answers s (execNopDescriptor fn ring s) :=
  answers_next (withDesc_keeps fn ring 0 (fun _ _ _ => endDesc_keeps ..) s)

theorem execLaunch_answers (fn : FnId) (ring : Fin 16) (s : State) : Answers s (execLaunch fn ring s) := by
  refine answers_next ?_
  split
  · exact Keeps.refl s
  split
  · exact Keeps.after (endDesc_keeps ..) (popDesc_keeps ..)
  split
  · exact Keeps.refl s
  · exact Keeps.after (modReg_keeps ..) (Keeps.after (goLive_keeps ..) (popDesc_keeps ..))

theorem execNotify_answers (fn : FnId) (ring : Fin 16) (s : State) : Answers s (execNotify fn ring s) :=
  answers_next (withRegion_keeps fn ring 2 (fun _ _ _ _ => Keeps.after (modReg_keeps ..) (goLive_keeps ..)) s)

theorem execQuery_answers (fn : FnId) (ring : Fin 16) (s : State) : Answers s (execQuery fn ring s) := by
  refine answers_next (withDesc_keeps fn ring 5 (fun _ d s => ?_) s)
  exact Keeps.after (endDesc_keeps ..) (Keeps.refl s)

theorem askBursts_keeps (fn : FnId) (k n : Nat) : ∀ s, Keeps s (askBursts fn k n s) := by
  induction n with
  | zero => exact Keeps.refl
  | succ n ih =>
    intro s
    unfold askBursts
    split
    · exact Keeps.refl s
    · refine ite_ok (P := Keeps s) (Keeps.refl s) (Keeps.after (ih _) ?_)
      exact ite_ok (P := Keeps s) (setPort_keeps ..) (Keeps.hostOut (setPort_keeps ..) _)

theorem putSectors_keeps (n : Nat) : ∀ a l s, Keeps s (putSectors n a l s) := by
  induction n with
  | zero => exact fun _ _ => Keeps.refl
  | succ n ih => exact fun _ _ _ => Keeps.after (ih ..) (bulkWrite_keeps ..)

theorem sendLocal_keeps (fn : FnId) (r : RegionId) (k : Nat) (last : Bool) (n : Nat) :
    ∀ a ws p s, Keeps s (sendLocal fn r k last n a ws p s).2 := by
  induction n with
  | zero => exact fun _ _ _ => Keeps.refl
  | succ n ih =>
    intro a ws p s
    refine ite_ok (P := fun x : DataPort × State => Keeps s x.2) (Keeps.refl s) ?_
    exact Keeps.after (ih ..) (Keeps.refl s)

theorem writeBurst_keeps (fn : FnId) (k i : Nat) (r : RegionId) (p : DataPort) (s : State) :
    Keeps s (writeBurst fn k i r p s) := by
  unfold writeBurst
  split
  · exact Keeps.refl s
  · exact Keeps.after (putSectors_keeps ..) (Keeps.after (serve_keeps ..) (setPort_keeps ..))

theorem serveBulk_keeps (fn : FnId) (k n : Nat) : ∀ s, Keeps s (serveBulk fn k n s) := by
  induction n with
  | zero => exact Keeps.refl
  | succ n ih =>
    intro s
    unfold serveBulk
    split
    · split
      · exact Keeps.after (ih _) (writeBurst_keeps ..)
      · exact Keeps.refl s
    · exact Keeps.refl s

theorem landBurst_keeps (fn : FnId) (k : Nat) (b : PortBurst) (l : List (Byte × Bool)) (s : State) :
    Keeps s (landBurst fn k b l s) := by
  unfold landBurst
  dsimp only
  split
  · exact Keeps.refl s
  refine ite_ok (P := Keeps s) ?_ (Keeps.after (serveBulk_keeps ..) (setPort_keeps ..))
  split
  · exact setPort_keeps ..
  · exact Keeps.after (setPort_keeps ..) (sendLocal_keeps ..)

theorem landParts_keeps (fn : FnId) (k : Nat) (l : List (PortBurst × List (Byte × Bool))) :
    ∀ pt s, Keeps s (landParts fn k l pt s) := by
  induction l with
  | nil => exact fun _ => Keeps.refl
  | cons x l ih => exact fun _ _ => Keeps.after (ih ..) (landBurst_keeps ..)

theorem checkParts_keeps (fn : FnId) (k b : Nat) (p : DataPort) (parts : List (PortBurst × List (Byte × Bool)))
    (key : Option KeySlot) (s : State) : Keeps s (checkParts fn k b p parts key s) := by
  unfold checkParts
  split
  · exact closePort_keeps ..
  · exact Keeps.after (landParts_keeps ..) (setPort_keeps ..)

theorem openBlocks_keeps (fn : FnId) (k : Nat) (ecc : SectorEcc) (n : Nat) : ∀ s,
    Keeps s (openBlocks fn k ecc n s) := by
  induction n with
  | zero => exact Keeps.refl
  | succ n ih =>
    intro s
    unfold openBlocks
    split
    · split
      · exact Keeps.refl s
      · refine ite_ok (P := Keeps s) (Keeps.refl s) ?_
        split
        · exact checkParts_keeps ..
        · exact ite_ok (P := Keeps s) (Keeps.refl s)
            (Keeps.after (ih _) (Keeps.after (checkParts_keeps ..) (readTag_keeps ..)))
    · exact Keeps.refl s

theorem advancePort_keeps (fn : FnId) (k : Nat) (ecc : SectorEcc) (s : State) : Keeps s (advancePort fn k ecc s) := by
  unfold advancePort
  split
  · exact Keeps.refl s
  · exact Keeps.after (openBlocks_keeps ..) (serveBulk_keeps ..)

theorem burstIn_keeps (fn : FnId) (k : Nat) (b : PortBurst) (l : List (Byte × Bool)) (ecc : SectorEcc) (s : State) :
    Keeps s (burstIn fn k b l ecc s) := by
  unfold burstIn
  grind [Keeps, Still, advancePort_keeps, setPort_keeps, landBurst_keeps]

theorem dropPush_keeps (fn : FnId) (n : Nat) (s : State) : Keeps s (dropPush fn n s) :=
  Keeps.refl s

theorem forwardBursts_keeps (fn : FnId) (k : Nat) (ecc : SectorEcc) (n : Nat) :
    ∀ s, Keeps s (forwardBursts fn k ecc n s) := by
  induction n with
  | zero => exact Keeps.refl
  | succ n ih =>
    intro s
    unfold forwardBursts
    split
    · exact Keeps.refl s
    · exact ite_ok (P := Keeps s) (Keeps.refl s) (Keeps.after (ih _) (Keeps.after (burstIn_keeps ..)
      (setPort_keeps ..)))

theorem flushBuffer_keeps (fn : FnId) (k : Nat) (s : State) : Keeps s (flushBuffer fn k s) := by
  unfold flushBuffer
  grind [Keeps, Still, setPort_keeps, landBurst_keeps]

theorem execPushWrite_answers (fn : FnId) (offset : BitVec 22) (data : List (BitVec 8)) (allEnabled : Bool)
    (read : PushRead) (s : State) : Answers s (execPushWrite fn offset data allEnabled read s) := by
  refine answers_next (ite_ok (P := Keeps s) (Keeps.refl s) (fromHost_keeps fn (fun s => ?_) s))
  generalize hs : (if read.ep then noteAer fn aerPoisoned s else s) = t
  have ht : Keeps s t := hs ▸ ite_ok (P := Keeps s) (noteAer_keeps ..) (Keeps.refl s)
  refine ht.trans ?_
  dsimp only
  split
  · exact dropPush_keeps ..
  · refine ite_ok (P := Keeps t) (dropPush_keeps ..) (Keeps.after (advancePort_keeps ..) ?_)
    exact Keeps.after (forwardBursts_keeps ..) (Keeps.after (setPort_keeps ..) (dropPush_keeps ..))

theorem sendOut_keeps (fn : FnId) (k : Nat) (b : PortBurst) (s : State) : Keeps s (sendOut fn k b s) := by
  unfold sendOut
  dsimp only
  split
  · exact Keeps.refl s
  · exact Keeps.trans (ite_ok (P := Keeps s) (Keeps.after (logEdie_keeps ..)
      (Keeps.after (drawFree_keeps _) (setPort_keeps ..))) (setPort_keeps ..)) (Keeps.refl _)

theorem serveOut_keeps (fn : FnId) (k i : Nat) (p : DataPort) (b : PortBurst) (ecc : SectorEcc) (s : State) :
    Keeps s (serveOut fn k i p b ecc s) := by
  unfold serveOut
  split
  · exact Keeps.refl s
  · exact ite_ok (P := Keeps s) (Keeps.refl s) (Keeps.after (askBursts_keeps ..) (Keeps.after (sendOut_keeps ..)
      (Keeps.after (eccRead_keeps ..) (Keeps.after (setPort_keeps ..) (serve_keeps ..)))))

theorem execPortBurstDone_answers (fn : FnId) (port : Fin 64) (i : Fin 8) (data : List (BitVec 8)) (read : BurstRead)
    (s : State) : Answers s (execPortBurstDone fn port i data read s) := by
  refine answers_next ?_
  dsimp only
  split
  · exact Keeps.refl s
  split
  · exact Keeps.after (askBursts_keeps ..) (advancePort_keeps ..)
  · exact ite_ok (P := Keeps s) (serveOut_keeps ..) (ite_ok (P := Keeps s) (Keeps.refl s)
      (Keeps.after (askBursts_keeps ..) (Keeps.after (burstIn_keeps ..) (Keeps.after (setPort_keeps ..)
        (ite_ok (P := Keeps s) (Keeps.refl s) (noteAer_keeps ..))))))

theorem execPortOpen_answers (fn : FnId) (ring : Fin 16) (s : State) : Answers s (execPortOpen fn ring s) :=
  answers_next (withRegion_keeps fn ring 3 (fun _ _ _ s => ite_ok (P := Keeps s) (endDesc_keeps ..)
    (ite_ok (P := Keeps s) (endDesc_keeps ..)
      (Keeps.after (askBursts_keeps ..) (Keeps.after (endDesc_keeps ..) (setPort_keeps ..))))) s)

theorem tryClose_keeps (fn : FnId) (k : Nat) (s : State) : Keeps s (tryClose fn k s) := by
  unfold tryClose
  grind [Keeps, Still, closePort_keeps]

theorem execPortClose_answers (fn : FnId) (ring : Fin 16) (s : State) : Answers s (execPortClose fn ring s) := by
  refine answers_next (withRegion_keeps fn ring 4 (fun _ n d s => ?_) s)
  dsimp only
  split
  · exact endDesc_keeps ..
  · exact ite_ok (P := Keeps s) (endDesc_keeps ..) (Keeps.after (tryClose_keeps ..) (Keeps.after (flushBuffer_keeps ..)
      (Keeps.after (setPort_keeps ..) (goLive_keeps ..))))

theorem execPortClosed_answers (fn : FnId) (port : Fin 64) (s : State) : Answers s (execPortClosed fn port s) := by
  have hserved : Keeps s (match portOf s fn port.val with
      | some p => serveBulk fn port.val p.toBulk.length s
      | none => s) := by
    split
    · exact serveBulk_keeps ..
    · exact Keeps.refl s
  have hclose : ∀ t, Keeps t (match portOf t fn port.val with
      | none => t
      | some p =>
        if p.closing.isSome then tryClose fn port.val t
        else if !portDone p then t
        else match p.poisonAt with
          | some o => closePort fn port.val 0x24 (BitVec.ofNat 64 o) t
          | none => closePort fn port.val 0 0 t) := by
    intro t
    split
    · exact Keeps.refl t
    refine ite_ok (P := Keeps t) (tryClose_keeps ..) (ite_ok (P := Keeps t) (Keeps.refl t) ?_)
    split
    · exact closePort_keeps ..
    · exact closePort_keeps ..
  exact answers_next (hserved.trans (hclose _))

theorem loseRead_keeps (link : LinkId) (w : WantedLine) (s : State) : Keeps s (loseRead link w s) := by
  grind [loseRead, Keeps, Still, setSpill_keeps, endInvalidations_keeps, hostLog_keeps, noteTimeout_keeps]

theorem loseStream_keeps (e : EngineId) (r : StreamRun) (a : Nat) (s : State) : Keeps s (loseStream e r a s) := by
  grind [loseStream, Keeps, Still, loseRead_keeps, putRun_keeps, streamE5_keeps, cancelEngine_keeps]

theorem loseBurst_keeps (e : EngineId) (i : Nat) (s : State) : Keeps s (loseBurst e i s) := by
  have hwait : ∀ r : StreamRun, ∀ s, Keeps s (match awaitedFar r with | some a => loseStream e r a s | none => s) := by
    intro r s
    split
    · exact loseStream_keeps ..
    · exact Keeps.refl s
  unfold loseBurst
  dsimp only
  split
  · refine ite_ok (P := Keeps s) (Keeps.refl s) ?_
    split
    · exact Keeps.refl s
    · exact Keeps.after (loseRead_keeps ..) (setEngine_keeps ..)
  · refine ite_ok (P := Keeps s) (onBurst_keeps e _ (fun _ _ _ s => ite_ok (P := Keeps s) (loseStream_keeps ..)
      (Keeps.refl s)) s) ?_
    split
    · exact focused_keeps e _ (onRun_keeps e hwait) s
    · exact Keeps.refl s

theorem loseLineRead_keeps (link : LinkId) (r : RegionId) (line : BitVec 36) (s : State) :
    Keeps s (loseLineRead link r line s) := by
  unfold loseLineRead
  grind [Keeps, Still, loseRead_keeps]

theorem loseWriteBack_keeps (link : LinkId) (r : RegionId) (line : BitVec 36) (s : State) :
    Keeps s (loseWriteBack link r line s) := by
  grind [loseWriteBack, Keeps, Still, markLost_keeps, setSpill_keeps, hostLog_keeps]

theorem execCompletionTimeout_answers (t : HostAccess) (s : State) : Answers s (execCompletionTimeout t s) := by
  refine answers_next ?_
  cases t with
  | farBurst e i => exact loseBurst_keeps ..
  | line link r line => exact loseLineRead_keeps ..
  | query fn ring => exact withDesc_keeps fn ring 5 (fun _ _ _ => endDesc_keeps ..) s
  | writeBack link r line => exact loseWriteBack_keeps ..
  | port fn port j =>
    dsimp only
    split
    · exact Keeps.refl s
    · exact Keeps.after (closePort_keeps ..) (ite_ok (P := Keeps s) (Keeps.refl s) (noteTimeout_keeps ..))

/-! ### Device links -/

theorem setPortL_keeps (s : State) (k : PortId) (p : LinkPort) : Keeps s (setPortL s k p) :=
  Keeps.refl s

theorem modPortL_keeps (s : State) (k : PortId) (f : LinkPort → LinkPort) : Keeps s (modPortL s k f) :=
  Keeps.refl s

theorem logPort_keeps (k : PortId) (r : Option RegionId) (cause : BitVec 8) (info : Word) (s : State) :
    Keeps s (logPort k r cause info s) :=
  logEdie_keeps ..

theorem discardPort_keeps (k : PortId) (s : State) : Keeps s (discardPort k s) := logPort_keeps ..

theorem enterUp_keeps (k : PortId) (s : State) : Keeps s (enterUp k s) := by
  unfold enterUp
  grind [Keeps, Still, discardPort_keeps, modPortL_keeps]

theorem setLaser_keeps (k : PortId) (ok : Bool) (s : State) : Keeps s (setLaser k ok s) :=
  Keeps.refl s

theorem execLaserInputLoss_answers (port : PortId) (s : State) :
    Answers s (execLaserInputLoss port s) := answers_next (modPortL_keeps ..)

theorem execLaserInputRestored_answers (port : PortId) (s : State) : Answers s (execLaserInputRestored port s) :=
  answers_next (ite_ok (P := Keeps s) (Keeps.refl s) (setLaser_keeps ..))

theorem execFecLockGained_answers (port : PortId) (s : State) : Answers s (execFecLockGained port s) :=
  answers_next (ite_ok (P := Keeps s) (modPortL_keeps ..) (Keeps.refl s))

theorem execLinkDown_answers (port : PortId) (why : DownCause) (s : State) : Answers s (execLinkDown port why s) := by
  unfold execLinkDown
  grind [Keeps, Still, answers_next, setPortL_keeps, setLaser_keeps]

theorem execRetrainTimeout_answers (port : PortId) (s : State) : Answers s (execRetrainTimeout port s) :=
  answers_next (ite_ok (P := Keeps s) (discardPort_keeps ..) (Keeps.refl s))

theorem execHandshake_answers (port : PortId) (body : List (BitVec 64)) (arrival : Nat) (s : State) :
    Answers s (execHandshake port body arrival s) := by
  grind [execHandshake, Keeps, Still, answers_next, modPortL_keeps, enterUp_keeps]

theorem takeReference_keeps (ref : Int) (s : State) : Keeps s (takeReference ref s) := by
  grind [takeReference, Keeps, Still]

theorem execDaybreakInEdge_answers (arrival : Nat) (s : State) : Answers s (execDaybreakInEdge arrival s) :=
  answers_next (ite_ok (P := Keeps s) (takeReference_keeps ..) (Keeps.refl s))

theorem takeMarker_keeps (k : PortId) (day : BitVec 48) (ofs : BitVec 24) (arrival : Nat) (s : State) :
    Keeps s (takeMarker k day ofs arrival s) := by
  grind [takeMarker, Keeps, Still, takeReference_keeps]

theorem execDaybreakMarker_answers (port : PortId) (day : BitVec 48) (ofs : BitVec 24) (arrival : Nat) (s : State) :
    Answers s (execDaybreakMarker port day ofs arrival s) :=
  answers_next (takeMarker_keeps ..)

theorem execControlFlit_answers (port : PortId) (body : List (BitVec 64)) (arrival : Nat) (s : State) :
    Answers s (execControlFlit port body arrival s) := by
  grind [execControlFlit, Keeps, Still, answers_next, modPortL_keeps, takeMarker_keeps]

theorem execControlFlitDue_answers (port : PortId) (s : State) : Answers s (execControlFlitDue port s) :=
  answers_next (ite_ok (P := Keeps s) (Keeps.refl s) (modPortL_keeps ..))

theorem execNakResend_answers (port : PortId) (s : State) : Answers s (execNakResend port s) :=
  answers_next (ite_ok (P := Keeps s) (modPortL_keeps ..) (Keeps.refl s))

theorem emitFlit_keeps (k : PortId) (x : LinkFlit) (s : State) : Keeps s (emitFlit k x s) :=
  Keeps.refl s

theorem sendControl_keeps (k : PortId) (s : State) : Keeps s (sendControl k s) :=
  Keeps.refl s

theorem execLinkWindowOpen_answers (port : PortId) (i : Fin 256) (s : State) :
    Answers s (execLinkWindowOpen port i s) := by
  grind [execLinkWindowOpen, Keeps, Still, answers_next, modPortL_keeps, toCycle_keeps]

theorem endWindowLoad_keeps (port : PortId) (l : List (BitVec 128)) (s : State) : Keeps s (endWindowLoad port l s) := by
  grind [endWindowLoad, Keeps, Still, modPortL_keeps, answer_keeps]

theorem execLinkWindowLoad_answers (port : PortId) (piece : WindowPiece) (s : State) :
    Answers s (execLinkWindowLoad port piece s) := by
  refine answers_next (operatorCmd_keeps (fun s => ?_) s)
  have hset : ∀ p, Keeps s (if s.clock.phase = .dusk ∧ s.dev ≠ .midnight then s else setPortL s port p) :=
    fun p => ite_ok (P := Keeps s) (Keeps.refl s) (setPortL_keeps ..)
  exact ite_ok (P := Keeps s) (Keeps.after (answer_keeps ..) (Keeps.after (modPortL_keeps ..) (hset _)))
    (Keeps.after (endWindowLoad_keeps ..) (hset _))

theorem sendNew_keeps (k : PortId) (m : LinkMsg) (s : State) : Keeps s (sendNew k m s) := by
  grind [sendNew, Keeps, Still, emitFlit_keeps, setPortL_keeps]

theorem sendAgain_keeps (k : PortId) (s : State) : Keeps s (sendAgain k s) := by
  unfold sendAgain
  grind [Keeps, Still, emitFlit_keeps, setPortL_keeps, count_keeps]

theorem startFlit_keeps (k : PortId) (s : State) : Keeps s (startFlit k s) := by
  refine ite_ok (P := Keeps s) (Keeps.after (modPortL_keeps ..) (sendAgain_keeps ..)) (ite_ok (P := Keeps s)
    (ite_ok (P := Keeps s) (Keeps.refl s) (sendControl_keeps ..)) (ite_ok (P := Keeps s) (Keeps.refl s) ?_))
  split
  · split
    · exact ite_ok (P := Keeps s) (Keeps.after (modPortL_keeps ..) (sendNew_keeps ..)) (Keeps.refl s)
    · exact Keeps.refl s
  · split
    · split
      · exact Keeps.after (sendNew_keeps ..) (setPortL_keeps ..)
      · exact Keeps.refl s
    · exact Keeps.refl s

theorem execLinkFlitSend_answers (port : PortId) (cycle : BitVec 24) (s : State) :
    Answers s (execLinkFlitSend port cycle s) :=
  answers_next (Keeps.after (startFlit_keeps ..) (toCycle_keeps ..))

theorem noRoute_keeps (die dev : Nat) (r : Option RegionId) (s : State) :
    Keeps s (noRoute die dev r s) := logEdie_keeps ..

theorem queueMsg_keeps (k : PortId) (m : LinkMsg) (s : State) : Keeps s (queueMsg k m s) :=
  Keeps.refl s

theorem linkOutFirst_keeps (die : Nat) (f : Flit) (s : State) : Keeps s (linkOutFirst die f s) := by
  grind [linkOutFirst, noRoute_keeps, count_keeps, queueMsg_keeps]

theorem linkOutMore_keeps (f : Flit) (s : State) : Keeps s (linkOutMore f s) :=
  Keeps.refl s

theorem linkOutFlit_keeps (die : Nat) (f : Flit) (s : State) : Keeps s (linkOutFlit die f s) :=
  ite_ok (P := Keeps s) (linkOutFirst_keeps ..) (Keeps.refl s)

theorem transit_keeps (k : PortId) (l : List LinkFlit) (s : State) : Keeps s (transit k l s) := by
  unfold transit
  split
  · exact Keeps.refl s
  refine ite_ok (P := Keeps s) (Keeps.after (logPort_keeps ..) (Keeps.after (drawFree_keeps _) (count_keeps ..))) ?_
  split
  · exact noRoute_keeps ..
  · exact Keeps.after (queueMsg_keeps ..) (Keeps.refl s)

theorem arriveHere_keeps (k : PortId) (missed : Option (Nat × Nat)) (l : List LinkFlit) (s : State) :
    Keeps s (arriveHere k missed l s) := by
  unfold arriveHere
  split
  · exact Keeps.refl s
  · exact ite_ok (P := Keeps s) (count_keeps ..) (ite_ok (P := Keeps s) (Keeps.after (logPort_keeps ..)
    (count_keeps ..))
      (ite_ok (P := Keeps s) (Keeps.refl s) (Keeps.refl s)))

theorem forward_keeps (k : PortId) (t : Nat) (l : List LinkFlit) (s : State) : Keeps s (forward k t l s) := by
  unfold forward
  dsimp only
  split
  · exact modPortL_keeps ..
  · exact ite_ok (P := Keeps s) (Keeps.after (arriveHere_keeps ..) (modPortL_keeps ..))
      (Keeps.after (transit_keeps ..) (modPortL_keeps ..))

theorem ingressFlit_keeps (k : PortId) (x : LinkFlit) (s : State) : Keeps s (ingressFlit k x s) := by
  grind [ingressFlit, Keeps, Still, setPortL_keeps, forward_keeps]

theorem execLinkFlitReceived_answers (port : PortId) (ctrl : BitVec 64) (body : List (BitVec 64)) (s : State) :
    Answers s (execLinkFlitReceived port ctrl body s) := by
  grind [execLinkFlitReceived, Keeps, Still, answers_next, setPortL_keeps, ingressFlit_keeps]

/-! ### Vector moves -/

theorem vLanes_answers (h : Hart) (p : Fin 8) (w : Nat) (m : Fin 8) (d : Fin 32) (srcs : List (Fin 32)) (f :
    Thread → Nat → Nat) (s : State) : Answers s (vLanes h p w m d srcs f s) :=
  issue_answers ..

theorem dropsPoison_answers (h : Hart) (p : Fin 8) (srcs : List (Fin 32)) (act : Core → Thread → Act) (s : State) :
    Answers s (dropsPoison h p srcs act s) := by
  refine issueWith_answers _ _ _ _ _ (fun a s => ?_) fun a s => ?_
  · grind [Keeps.trans, finish_keeps, logCore_keeps]
  · grind [Keeps.trans, finishSpec_keeps, modTh_keeps]

theorem parityFail_keeps (h : Hart) (rows bad : List Nat) (s : State) : Keeps s (parityFail h rows bad s) := by
  refine foldl_keeps (fun s k => Keeps.after (logParity_keeps ..) ?_) _ _
  exact modCore_keeps fun hc => setTh_coreOk _ _ hc

theorem parityDefer_keeps (h : Hart) (rows bad : List Nat) {k : State → State} (hk : ∀ s, Keeps s (k s)) (s : State) :
    Keeps s (parityDefer h rows bad k s) :=
  ite_ok (P := Keeps s) (hk s)
    (Keeps.after (modTh_keeps ..) (Keeps.after (hk _) (Keeps.after (modTh_keeps ..) (Keeps.refl s))))

theorem execVmov_answers (h : Hart) (p : Fin 8) (m : Fin 8) (d : Fin 32) (a : Fin 32) (s : State) :
    Answers s (execVmov h p m d a s) :=
  vLanes_answers ..

theorem execVbcast_answers (h : Hart) (p : Fin 8) (m : Fin 8) (w : LaneW) (d : Fin 32) (a : Fin 32) (s : State) :
    Answers s (execVbcast h p m w d a s) :=
  issue_answers ..

theorem execVext_answers (h : Hart) (p : Fin 8) (d : Fin 32) (a : Fin 32) (i : Fin 8) (s : State) :
    Answers s (execVext h p d a i s) :=
  dropsPoison_answers ..

theorem execVins_answers (h : Hart) (p : Fin 8) (d : Fin 32) (a : Fin 32) (i : Fin 8) (s : State) :
    Answers s (execVins h p d a i s) :=
  issue_answers ..

theorem execVrotb_answers (h : Hart) (p : Fin 8) (m : Fin 8) (d : Fin 32) (a : Fin 32) (b : Fin 32) (s : State) :
    Answers s (execVrotb h p m d a b s) :=
  vLanes_answers ..

theorem execVsel_answers (h : Hart) (p : Fin 8) (m : Fin 8) (d : Fin 32) (a : Fin 32) (b : Fin 32) (s : State) :
    Answers s (execVsel h p m d a b s) :=
  issue_answers ..

theorem execVtot_answers (h : Hart) (p : Fin 8) (d : Fin 8) (a : Fin 32) (r : Fin 16) (s : State) :
    Answers s (execVtot h p d a r s) :=
  issue_answers ..

theorem execVfromt_answers (h : Hart) (p : Fin 8) (d : Fin 32) (a : Fin 8) (r : Fin 16) (bad : List Nat) (s : State) :
    Answers s (execVfromt h p d a r bad s) := by
  unfold execVfromt
  refine issueWith_answers _ _ _ _ _ (fun x s => ?_) fun x s => ?_
  · exact Keeps.after (finish_keeps ..) (parityFail_keeps ..)
  · exact parityDefer_keeps _ _ _ (fun _ => finishSpec_keeps ..) s

theorem execMlog_answers (h : Hart) (p : Fin 8) (op : MaskOp) (d : Fin 8) (a : Fin 8) (b : Fin 8) (s : State) :
    Answers s (execMlog h p op d a b s) := guardWf_answers _ _ _ (issue_answers ..)

theorem execMfromg_answers (h : Hart) (p : Fin 8) (d : Fin 8) (a : Fin 32) (s : State) :
    Answers s (execMfromg h p d a s) :=
  issue_answers ..

theorem execMtog_answers (h : Hart) (p : Fin 8) (d : Fin 32) (a : Fin 8) (s : State) : Answers s (execMtog h p d a s) :=
  issue_answers ..

theorem execTinfo_answers (h : Hart) (p : Fin 8) (d : Fin 32) (sel : Fin 32) (s : State) :
    Answers s (execTinfo h p d sel s) := guardWf_answers _ _ _ (issue_answers ..)

theorem execVtz_answers (h : Hart) (p : Fin 8) (m : Fin 8) (d : Fin 8) (a : Fin 32) (s : State) :
    Answers s (execVtz h p m d a s) :=
  dropsPoison_answers ..

theorem execVzbm_answers (h : Hart) (p : Fin 8) (d : Fin 32) (a : Fin 32) (k : Fin 8) (s : State) :
    Answers s (execVzbm h p d a k s) := guardWf_answers _ _ _ (dropsPoison_answers ..)

/-! ### Tiles -/

theorem tcfgEff_keeps (h : Hart) (a : Fin 32) (mask : BitVec 8) (s : State) : Keeps s (tcfgEff h a mask s) :=
  modCore_keeps id

theorem afterStores_keeps (h : Hart) {k : State → State} (hk : ∀ s, Keeps s (k s)) (s : State) :
    Keeps s (afterStores h k s) := (modCore_keeps fun hc => drainOwn_coreOk _ hc).trans (hk _)

theorem rowSlot_keeps (h : Hart) (i : Instr) (r rows : Nat) {put : Act → State → State} (hp : ∀ a s, Keeps s (put a s))
    (a : Act) (s : State) : Keeps s (rowSlot h i r rows put a s) := by
  have hrow := afterStores_keeps h (hp (oneRow r a)) s
  exact ite_ok (P := Keeps s) (takeEvent_keeps ..) (ite_ok (P := Keeps s)
    (Keeps.after (modCore_keeps id) (Keeps.after (modTh_keeps ..) hrow)) hrow)

theorem execTcfg_answers (h : Hart) (p : Fin 8) (a : Fin 32) (mask : BitVec 8) (s : State) :
    Answers s (execTcfg h p a mask s) := guardWf_answers _ _ _ (issueOwn_answers _ _ _ _ _ (tcfgEff_keeps h a mask))

theorem execTld_answers (h : Hart) (p : Fin 8) (d : Fin 8) (a : Fin 32) (b : Fin 32) (s : State) :
    Answers s (execTld h p d a b s) := by
  unfold execTld
  refine issueWith_answers _ _ _ _ _ (fun x s => ?_) fun x s => ?_
  · exact rowSlot_keeps _ _ _ _ (finish_keeps h 4) x s
  · exact rowSlot_keeps _ _ _ _ (finishSpec_keeps h 4) x s

theorem execTst_answers (h : Hart) (p : Fin 8) (d : Fin 8) (a : Fin 32) (b : Fin 32) (bad : List Nat) (s : State) :
    Answers s (execTst h p d a b bad s) := by
  unfold execTst
  refine issueWith_answers _ _ _ _ _ (fun x s => ?_) fun x s => ?_
  · refine rowSlot_keeps _ _ _ _ (fun _ s => ?_) x s
    exact Keeps.after (finish_keeps ..) (parityFail_keeps ..)
  · refine rowSlot_keeps _ _ _ _ (fun _ s => ?_) x s
    exact parityDefer_keeps _ _ _ (fun _ => finishSpec_keeps ..) s

theorem execTrel_answers (h : Hart) (p : Fin 8) (mask : BitVec 8) (s : State) : Answers s (execTrel h p mask s) :=
  issueOwn_answers _ _ _ _ _ fun _ => modTh_keeps ..

theorem execAzero_answers (h : Hart) (p : Fin 8) (d : Fin 4) (s : State) :
    Answers s (execAzero h p d s) := issue_answers ..

theorem execAld_answers (h : Hart) (p : Fin 8) (d : Fin 4) (a : Fin 32) (s : State) : Answers s (execAld h p d a s) :=
  issueWith_answers _ _ _ _ _ (fun _ => afterStores_keeps h fun _ => finish_keeps ..)
    fun _ => afterStores_keeps h fun _ => finishSpec_keeps ..

theorem execAst_answers (h : Hart) (p : Fin 8) (d : Fin 4) (a : Fin 32) (s : State) : Answers s (execAst h p d a s) :=
  issueWith_answers _ _ _ _ _ (fun _ => afterStores_keeps h fun _ => finish_keeps ..)
    fun _ => afterStores_keeps h fun _ => finishSpec_keeps ..

/-! ### Vector integer instructions -/

theorem vInt_answers (h : Hart) (p : Fin 8) (w : LaneW) (m : Fin 8) (d a b : Fin 32) (f : Nat → Nat → Nat → Nat) (s :
    State) : Answers s (vInt h p w m d a b f s) :=
  vLanes_answers ..

theorem vIntCmp_answers (h : Hart) (p : Fin 8) (w : LaneW) (m d : Fin 8) (a b : Fin 32) (f :
    Nat → Nat → Nat → Bool) (s : State) : Answers s (vIntCmp h p w m d a b f s) :=
  dropsPoison_answers ..

theorem execVadd_answers (h : Hart) (p : Fin 8) (w : LaneW) (m : Fin 8) (d : Fin 32) (a : Fin 32) (b : Fin 32) (s :
    State) : Answers s (execVadd h p w m d a b s) :=
  vInt_answers ..

theorem execVsub_answers (h : Hart) (p : Fin 8) (w : LaneW) (m : Fin 8) (d : Fin 32) (a : Fin 32) (b : Fin 32) (s :
    State) : Answers s (execVsub h p w m d a b s) :=
  vInt_answers ..

theorem execVmul_answers (h : Hart) (p : Fin 8) (w : LaneW) (m : Fin 8) (d : Fin 32) (a : Fin 32) (b : Fin 32) (s :
    State) : Answers s (execVmul h p w m d a b s) :=
  vInt_answers ..

theorem execVmin_answers (h : Hart) (p : Fin 8) (w : LaneW) (m : Fin 8) (d : Fin 32) (a : Fin 32) (b : Fin 32) (s :
    State) : Answers s (execVmin h p w m d a b s) :=
  vInt_answers ..

theorem execVmax_answers (h : Hart) (p : Fin 8) (w : LaneW) (m : Fin 8) (d : Fin 32) (a : Fin 32) (b : Fin 32) (s :
    State) : Answers s (execVmax h p w m d a b s) :=
  vInt_answers ..

theorem execVminu_answers (h : Hart) (p : Fin 8) (w : LaneW) (m : Fin 8) (d : Fin 32) (a : Fin 32) (b : Fin 32) (s :
    State) : Answers s (execVminu h p w m d a b s) :=
  vInt_answers ..

theorem execVmaxu_answers (h : Hart) (p : Fin 8) (w : LaneW) (m : Fin 8) (d : Fin 32) (a : Fin 32) (b : Fin 32) (s :
    State) : Answers s (execVmaxu h p w m d a b s) :=
  vInt_answers ..

theorem execVand_answers (h : Hart) (p : Fin 8) (w : LaneW) (m : Fin 8) (d : Fin 32) (a : Fin 32) (b : Fin 32) (s :
    State) : Answers s (execVand h p w m d a b s) :=
  vInt_answers ..

theorem execVor_answers (h : Hart) (p : Fin 8) (w : LaneW) (m : Fin 8) (d : Fin 32) (a : Fin 32) (b : Fin 32) (s :
    State) : Answers s (execVor h p w m d a b s) :=
  vInt_answers ..

theorem execVxor_answers (h : Hart) (p : Fin 8) (w : LaneW) (m : Fin 8) (d : Fin 32) (a : Fin 32) (b : Fin 32) (s :
    State) : Answers s (execVxor h p w m d a b s) :=
  vInt_answers ..

theorem execVshl_answers (h : Hart) (p : Fin 8) (w : LaneW) (m : Fin 8) (d : Fin 32) (a : Fin 32) (b : Fin 32) (s :
    State) : Answers s (execVshl h p w m d a b s) :=
  vInt_answers ..

theorem execVshr_answers (h : Hart) (p : Fin 8) (w : LaneW) (m : Fin 8) (d : Fin 32) (a : Fin 32) (b : Fin 32) (s :
    State) : Answers s (execVshr h p w m d a b s) :=
  vInt_answers ..

theorem execVsar_answers (h : Hart) (p : Fin 8) (w : LaneW) (m : Fin 8) (d : Fin 32) (a : Fin 32) (b : Fin 32) (s :
    State) : Answers s (execVsar h p w m d a b s) :=
  vInt_answers ..

theorem execVcmpeq_answers (h : Hart) (p : Fin 8) (w : LaneW) (m : Fin 8) (d : Fin 8) (a : Fin 32) (b : Fin 32) (s :
    State) : Answers s (execVcmpeq h p w m d a b s) :=
  vIntCmp_answers ..

theorem execVcmplt_answers (h : Hart) (p : Fin 8) (w : LaneW) (m : Fin 8) (d : Fin 8) (a : Fin 32) (b : Fin 32) (s :
    State) : Answers s (execVcmplt h p w m d a b s) :=
  vIntCmp_answers ..

theorem execVcmpltu_answers (h : Hart) (p : Fin 8) (w : LaneW) (m : Fin 8) (d : Fin 8) (a : Fin 32) (b : Fin 32) (s :
    State) : Answers s (execVcmpltu h p w m d a b s) :=
  vIntCmp_answers ..

/-! ### Vector floating point -/

theorem vFp_answers (h : Hart) (p : Fin 8) (f : FpFmt) (m : Fin 8) (d : Fin 32) (srcs : List (Fin 32)) (g :
    Thread → Nat → Nat × BitVec 5) (s : State) : Answers s (vFp h p f m d srcs g s) :=
  issue_answers ..

theorem vFpCmp_answers (h : Hart) (p : Fin 8) (f : FpFmt) (m d : Fin 8) (a b : Fin 32) (c : FcmpCond) (s : State) :
    Answers s (vFpCmp h p f m d a b c s) :=
  dropsPoison_answers ..

theorem vConv_answers (h : Hart) (p : Fin 8) (m : Fin 8) (w bits n : Nat) (d a : Fin 32) (g :
    Thread → Nat → Nat × BitVec 5) (s : State) : Answers s (vConv h p m w bits n d a g s) :=
  issue_answers ..

theorem fromT2_answers (h : Hart) (p : Fin 8) (m : Fin 8) (w bits n : Nat) (d a : Fin 32) (val : Int → Nat) (s :
    State) : Answers s (fromT2 h p m w bits n d a val s) :=
  issue_answers ..

theorem execVfadd_answers (h : Hart) (p : Fin 8) (f : FpFmt) (m : Fin 8) (d : Fin 32) (a : Fin 32) (b : Fin 32) (s :
    State) : Answers s (execVfadd h p f m d a b s) :=
  vFp_answers ..

theorem execVfsub_answers (h : Hart) (p : Fin 8) (f : FpFmt) (m : Fin 8) (d : Fin 32) (a : Fin 32) (b : Fin 32) (s :
    State) : Answers s (execVfsub h p f m d a b s) :=
  vFp_answers ..

theorem execVfmul_answers (h : Hart) (p : Fin 8) (f : FpFmt) (m : Fin 8) (d : Fin 32) (a : Fin 32) (b : Fin 32) (s :
    State) : Answers s (execVfmul h p f m d a b s) :=
  vFp_answers ..

theorem execVfdiv_answers (h : Hart) (p : Fin 8) (f : FpFmt) (m : Fin 8) (d : Fin 32) (a : Fin 32) (b : Fin 32) (s :
    State) : Answers s (execVfdiv h p f m d a b s) :=
  vFp_answers ..

theorem execVfsqrt_answers (h : Hart) (p : Fin 8) (f : FpFmt) (m : Fin 8) (d : Fin 32) (a : Fin 32) (s : State) :
    Answers s (execVfsqrt h p f m d a s) :=
  vFp_answers ..

theorem execVfma_answers (h : Hart) (p : Fin 8) (f : FpFmt) (m : Fin 8) (d : Fin 32) (a : Fin 32) (b : Fin 32) (s :
    State) : Answers s (execVfma h p f m d a b s) :=
  vFp_answers ..

theorem execVfnma_answers (h : Hart) (p : Fin 8) (f : FpFmt) (m : Fin 8) (d : Fin 32) (a : Fin 32) (b : Fin 32) (s :
    State) : Answers s (execVfnma h p f m d a b s) :=
  vFp_answers ..

theorem execVfmin_answers (h : Hart) (p : Fin 8) (f : FpFmt) (m : Fin 8) (d : Fin 32) (a : Fin 32) (b : Fin 32) (s :
    State) : Answers s (execVfmin h p f m d a b s) :=
  vFp_answers ..

theorem execVfmax_answers (h : Hart) (p : Fin 8) (f : FpFmt) (m : Fin 8) (d : Fin 32) (a : Fin 32) (b : Fin 32) (s :
    State) : Answers s (execVfmax h p f m d a b s) :=
  vFp_answers ..

theorem execVfabs_answers (h : Hart) (p : Fin 8) (f : FpFmt) (m : Fin 8) (d : Fin 32) (a : Fin 32) (s : State) :
    Answers s (execVfabs h p f m d a s) :=
  vFp_answers ..

theorem execVfneg_answers (h : Hart) (p : Fin 8) (f : FpFmt) (m : Fin 8) (d : Fin 32) (a : Fin 32) (s : State) :
    Answers s (execVfneg h p f m d a s) :=
  vFp_answers ..

theorem execVfcmpeq_answers (h : Hart) (p : Fin 8) (f : FpFmt) (m : Fin 8) (d : Fin 8) (a : Fin 32) (b : Fin 32) (s :
    State) : Answers s (execVfcmpeq h p f m d a b s) :=
  vFpCmp_answers ..

theorem execVfcmplt_answers (h : Hart) (p : Fin 8) (f : FpFmt) (m : Fin 8) (d : Fin 8) (a : Fin 32) (b : Fin 32) (s :
    State) : Answers s (execVfcmplt h p f m d a b s) :=
  vFpCmp_answers ..

theorem execVfcmple_answers (h : Hart) (p : Fin 8) (f : FpFmt) (m : Fin 8) (d : Fin 8) (a : Fin 32) (b : Fin 32) (s :
    State) : Answers s (execVfcmple h p f m d a b s) :=
  vFpCmp_answers ..

theorem execVfcmpun_answers (h : Hart) (p : Fin 8) (f : FpFmt) (m : Fin 8) (d : Fin 8) (a : Fin 32) (b : Fin 32) (s :
    State) : Answers s (execVfcmpun h p f m d a b s) :=
  vFpCmp_answers ..

theorem execVcvts_answers (h : Hart) (p : Fin 8) (f : Fin 16) (m : Fin 8) (d : Fin 32) (a : Fin 32) (s : State) :
    Answers s (execVcvts h p f m d a s) :=
  guardWf_answers _ _ _ (by
    split
    · exact fromT2_answers ..
    split
    · exact vConv_answers ..
    · exact vConv_answers ..)

theorem execVcvtf_answers (h : Hart) (p : Fin 8) (f : Fin 16) (sr : Bool) (m : Fin 8) (d : Fin 32) (a : Fin 32)
    (s : State) : Answers s (execVcvtf h p f sr m d a s) :=
  guardWf_answers _ _ _ (by
    split
    · exact vConv_answers ..
    split
    · exact vConv_answers ..
    · exact issue_answers ..)

theorem execVcvtis_answers (h : Hart) (p : Fin 8) (m : Fin 8) (d : Fin 32) (a : Fin 32) (s : State) :
    Answers s (execVcvtis h p m d a s) :=
  vConv_answers ..

theorem execVcvtsi_answers (h : Hart) (p : Fin 8) (m : Fin 8) (d : Fin 32) (a : Fin 32) (s : State) :
    Answers s (execVcvtsi h p m d a s) :=
  vConv_answers ..

theorem execVcvtld_answers (h : Hart) (p : Fin 8) (m : Fin 8) (d : Fin 32) (a : Fin 32) (s : State) :
    Answers s (execVcvtld h p m d a s) :=
  vConv_answers ..

theorem execVcvtdl_answers (h : Hart) (p : Fin 8) (m : Fin 8) (d : Fin 32) (a : Fin 32) (s : State) :
    Answers s (execVcvtdl h p m d a s) :=
  vConv_answers ..

theorem execVunpkt2_answers (h : Hart) (p : Fin 8) (m : Fin 8) (d : Fin 32) (a : Fin 32) (s : State) :
    Answers s (execVunpkt2 h p m d a s) :=
  fromT2_answers ..

theorem execVpackt2_answers (h : Hart) (p : Fin 8) (m : Fin 8) (d : Fin 32) (a : Fin 32) (s : State) :
    Answers s (execVpackt2 h p m d a s) :=
  vConv_answers ..

/-! ### The matrix unit -/

theorem mmaIssue_keeps (h : Hart) (spec acc sp : Bool) (tm tb ta : Fin 8) (ad : Fin 4) (bad : List Nat) (s : State) :
    Keeps s (mmaIssue h spec acc sp tm tb ta ad bad s) := by
  have hread : ∀ f rows, (∀ t, Keeps t (modCore t h.core f)) →
      Keeps s (if spec then parityDefer h rows bad (fun t => modCore t h.core f) s
        else modCore (parityFail h rows bad s) h.core f) := fun f rows hf =>
    ite_ok (P := Keeps s) (parityDefer_keeps _ _ _ hf s) ((parityFail_keeps ..).trans (hf _))
  have hstart := hread (fun c => { c with mmaWait := some (mmaJob c h.thread
    (thOf c h.thread) spec acc sp tm tb ta ad) })
    (mmaRowsRead (thread s h) sp tm tb ta) fun _ => modCore_keeps id
  exact ite_ok (P := Keeps s) (Keeps.after (setRun_keeps ..) hstart) (Keeps.after (modTh_keeps ..) hstart)

theorem mmaWrite_keeps (h : Hart) (j : MmaJob) (s : State) : Keeps s (mmaWrite h j s) := by
  refine modCore_keeps fun hc => setTh_coreOk _ _ ?_
  refine foldl_ok (P := CoreOk) ?_ _ _ hc
  split
  · exact fun _ w => applySpecWr_coreOk h w
  · exact fun _ w => applyWr_coreOk h w

theorem mmaDone_keeps (core : CoreId) (j : MmaJob) (s : State) : Keeps s (mmaDone core j s) := by
  unfold mmaDone
  grind [Keeps, Still, mmaWrite_keeps, modTh_keeps, takeFault_keeps]

theorem acvtIssue_keeps (h : Hart) (spec wide half : Bool) (row : Fin 16) (b : Fin 32) (dv : Bool) (aa : Fin 4) (d :
    Fin 32) (s : State) : Keeps s (acvtIssue h spec wide half row b dv aa d s) := by
  grind [acvtIssue, Keeps, Still, modCore_still, modCore_coresOk, coresOk_coreOf, setTh_coreOk, CoreOk]

theorem acvtDone_keeps (h : Hart) (j : AcvtJob) (s : State) : Keeps s (acvtDone h j s) := by
  unfold acvtDone
  grind [Keeps, Still, modTh_keeps, finishSpec_keeps, finish_keeps, takeFault_keeps]

theorem execMma_answers (h : Hart) (p : Fin 8) (acc sp : Bool) (tm tb ta : Fin 8) (ad : Fin 4) (bad : List Nat) (s :
    State) :
    Answers s (execMma h p acc sp tm tb ta ad bad s) :=
  guardWf_answers _ _ _ (issueWith_answers _ _ _ _ _ (fun _ _ => mmaIssue_keeps ..) fun _ _ => mmaIssue_keeps ..)

theorem execMmaStart_answers (core : CoreId) (s : State) : Answers s (execMmaStart core s) := by
  grind [execMmaStart, Keeps, Still, answers_next, modCore_still, modCore_coresOk, coresOk_coreOf, CoreOk]

theorem execMmaComplete_answers (core : CoreId) (s : State) : Answers s (execMmaComplete core s) := by
  grind [execMmaComplete, Keeps, Still, answers_next, mmaDone_keeps, modCore_still, modCore_coresOk, coresOk_coreOf,
    CoreOk]

theorem execAcvt_answers (h : Hart) (p : Fin 8) (wide half : Bool) (row : Fin 16) (b : Fin 32) (dv : Bool) (aa : Fin 4)
    (d : Fin 32) (s : State) : Answers s (execAcvt h p wide half row b dv aa d s) :=
  guardWf_answers _ _ _ (issueWith_answers _ _ _ _ _ (fun _ _ => acvtIssue_keeps ..) fun _ _ => acvtIssue_keeps ..)

theorem execAcvtComplete_answers (h : Hart) (s : State) : Answers s (execAcvtComplete h s) := by
  grind [execAcvtComplete, Keeps, Still, answers_next, acvtDone_keeps, newSlot_keeps]

/-! ### Failures -/

theorem noteWord_keeps (core : CoreId) (code : Bool) (w : Nat) (s : State) : Keeps s (noteWord core code w s) :=
  Keeps.refl s

theorem poisonWord_keeps (core : CoreId) (code : Bool) (w : Nat) (s : State) : Keeps s (poisonWord core code w s) := by
  grind [poisonWord, Keeps, Still, noteWord_keeps, count_keeps, logCore_keeps, modCore_still, modCore_coresOk,
    coresOk_coreOf, CoreOk]

theorem execHbmPatrol_answers (stack : Fin 8) (sector : BitVec 30) (ecc : EccOutcome) (s : State) :
    Answers s (execHbmPatrol stack sector ecc s) := by
  unfold execHbmPatrol
  grind [Keeps, Still, answers_next, count_keeps, logEdie_keeps]

theorem resetCrossing_keeps (die : EDie) (unit : Fin 32) (s : State) : Keeps s (resetCrossing die unit s) := by
  unfold resetCrossing
  grind [Keeps, Still, modPortL_keeps]

theorem execQueuePointerMismatch_answers (q : HwQueue) (s : State) : Answers s (execQueuePointerMismatch q s) := by
  unfold execQueuePointerMismatch
  grind [Keeps, Still, answers_next, resetNotice_keeps, logCore_keeps, resetInj_keeps, logEdie_keeps,
    resetStaging_keeps, resetCrossing_keeps]

theorem logTable_keeps (core : CoreId) (word : List Nat) (s : State) :
    Keeps s (logTable core word s) := noteCore_keeps ..

theorem logDie_keeps (d : Nat) (word : List Nat) (s : State) : Keeps s (logDie d word s) := logItem_keeps ..

theorem tableWrong_keeps (t : TableWord) (s : State) : Keeps s (tableWrong t s) := by
  refine Keeps.after (t := count s (tableCtr t + 8) 1) ?_ (count_keeps ..)
  cases t with
  | routeBank core bank entry =>
    exact Keeps.after (logTable_keeps ..) (Keeps.after (noteLink_keeps ..)
      (ite_ok (P := Keeps _) (setRouter_keeps ..) (Keeps.refl _)))
  | borderMask core ports stuck =>
    exact Keeps.after (logTable_keeps ..) (Keeps.after (noteLink_keeps ..) (setRouter_keeps ..))
  | replica unit entry => exact Keeps.after (logDie_keeps ..) (Keeps.refl _)
  | flagBank die word => exact Keeps.after (logDie_keeps ..) (Keeps.refl _)
  | deviceRoute die entry => exact Keeps.after (logDie_keeps ..) (Keeps.trans (drawFree_keeps _) (Keeps.refl _))

theorem execTableUncorrectable_answers (t : TableWord) (s : State) : Answers s (execTableUncorrectable t s) :=
  answers_next (tableWrong_keeps ..)

theorem queueWrong_keeps (q : WordStore) (i : Nat) (w : Fin 8) (s : State) : Keeps s (queueWrong q i w s) := by
  cases q with
  | notice core n => exact Keeps.after (modCore_keeps fun h => setNq_coreOk _ _ h) (drawFree_keeps s)
  | injection core n => exact modCore_keeps fun h => setInj_coreOk _ _ h
  | landing core => exact modCore_keeps id
  | staging e port => exact setEngine_keeps ..
  | _ => exact Keeps.refl s

theorem noteWay_keeps (link : LinkId) (way : Fin 16) (at_ : Option Nat) (s : State) :
    Keeps s (noteWay link way at_ s) :=
  setSpill_keeps ..

theorem checkWord_keeps (q : WordStore) (i : Nat) (w : Fin 8) (ecc : EccOutcome) (s : State) :
    Keeps s (checkWord q i w ecc s) := by
  unfold checkWord
  grind [Keeps, Still, count_keeps, poisonWord_keeps, tableWrong_keeps, noteWay_keeps, queueWrong_keeps]

theorem execLocalScrub_answers (q : WordStore) (i : Nat) (w : Fin 8) (ecc : EccOutcome) (s : State) :
    Answers s (execLocalScrub q i w ecc s) :=
  answers_next (ite_ok (P := Keeps s) (checkWord_keeps ..) (Keeps.refl s))

theorem failRegion_keeps (n : Nat) (lost : Bool) (s : State) (r : RegionId) : Keeps s (failRegion n lost s r) :=
  ite_ok (P := Keeps s) (Keeps.refl s) (modReg_keeps ..)

theorem isolate_keeps (c : CoreId) (s : State) : Keeps s (isolate c s) := by
  grind [isolate, Keeps, Still, modCore_still, modCore_coresOk, coresOk_coreOf, CoreOk]

theorem removePositions_keeps (l : List CoreId) (s : State) : Keeps s (removePositions l s) :=
  Keeps.after (foldl_keeps (failRegion_keeps _ true) _ _) (changeRemovals_keeps ..)

theorem firstFailure_keeps (i c : Nat) (x : SpareRow) (s : State) : Keeps s (firstFailure i c x s) :=
  Keeps.after (isolate_keeps ..) (setRow_keeps ..)

theorem secondFailure_keeps (i c : Nat) (x : SpareRow) (s : State) : Keeps s (secondFailure i c x s) := by
  unfold secondFailure
  grind [Keeps, Still, isolate_keeps, setRow_keeps, failRegion_keeps]

theorem declareFailed_keeps (i c : Nat) (s : State) : Keeps s (declareFailed i c s) := by
  grind [declareFailed, Keeps, Still, setRow_keeps, firstFailure_keeps, secondFailure_keeps, removePositions_keeps,
    isolate_keeps]

theorem logFailed_keeps (i c : Nat) (t : FailTrigger) (s : State) : Keeps s (logFailed i c t s) := noteCore_keeps ..

theorem execCoreFailureDeclaration_answers (row : Fin 640) (col : Fin 17) (trigger : FailTrigger) (s : State) :
    Answers s (execCoreFailureDeclaration row col trigger s) := by
  grind [execCoreFailureDeclaration, Keeps, Still, answers_next, declareFailed_keeps, logFailed_keeps]

theorem migrateRow_keeps (i : Nat) (readable : Bool) (badWords : List Nat) (s : State) :
    Keeps s (migrateRow i readable badWords s) := by
  unfold migrateRow
  dsimp only
  split
  · exact Keeps.refl s
  refine ite_ok (P := Keeps s) (Keeps.refl s) (Keeps.after (setRow_keeps ..) ?_)
  have hmoved : ∀ l, Keeps s (List.foldl (fun s c => modCore s c migrateCore) s l) :=
    fun l => foldl_keeps (fun _ _ => modCore_keeps migrateCore_coreOk) l s
  exact ite_ok (P := Keeps s) ((hmoved _).trans (modCore_keeps fun h => migrateFailed_coreOk _ _ h)) (hmoved _)

theorem execMigration_answers (row : Fin 640) (readable : Bool) (badWords : List Nat) (s : State) :
    Answers s (execMigration row readable badWords s) :=
  answers_next (migrateRow_keeps ..)

theorem execHopFault_answers (a b : CoreId) (s : State) :
    Answers s (execHopFault a b s) := answers_next (removePositions_keeps ..)

theorem testFailed_keeps (core : CoreId) (s : State) : Keeps s (testFailed core s) :=
  Keeps.after (foldl_keeps (fun s _ => ite_ok (P := Keeps s) (modCore_keeps id) (Keeps.refl s)) _ _)
    (Keeps.after (declareFailed_keeps ..) (Keeps.after (logFailed_keeps ..) (logCore_keeps ..)))

theorem execSelfTestComplete_answers (core : CoreId) (passed : Bool) (s : State) :
    Answers s (execSelfTestComplete core passed s) := by
  grind [execSelfTestComplete, Keeps, Still, answers_next, modReg_keeps, testFailed_keeps, modCore_still,
    modCore_coresOk, coresOk_coreOf, CoreOk]

theorem reinstate_keeps (who : FailedCore) (passed : Bool) (s : State) : Keeps s (reinstate who passed s) :=
  ite_ok (P := Keeps s) (answer_keeps ..) (Keeps.refl s)

theorem execReinstate_answers (who : FailedCore) (passed : Bool) (s : State) : Answers s (execReinstate who passed s) :=
  answers_next (presenceCmd_keeps 5 (reinstate_keeps who passed) s)

theorem clearMap_keeps (s : State) : Keeps s (clearMap s) := foldl_keeps (fun _ _ => planRow_keeps ..) _ _

theorem execClearSpareMap_answers (s : State) : Answers s (execClearSpareMap s) :=
  answers_next (presenceCmd_keeps 4 (fun _ => Keeps.after (reply_keeps ..) (clearMap_keeps _)) s)

theorem stored_keeps (i : FlashItem) (s : State) : Keeps s (stored i s) := by
  unfold stored
  grind [Keeps, Still, wantStore_keeps]

theorem execFlashStore_answers (item : FlashItem) (ok : Bool) (s : State) : Answers s (execFlashStore item ok s) := by
  grind [execFlashStore, Keeps, Still, answers_next, stored_keeps, drawFree_keeps, reply_keeps, logArmaik_keeps]

/-! ### Regions and their owners -/

theorem acceptRegion_keeps (q : RegionReq) (i : Nat) (s : State) : Keeps s (acceptRegion q i s) :=
  Keeps.refl s

theorem createRegion_keeps (q : RegionReq) (s : State) : Keeps s (createRegion q s) := by
  unfold createRegion
  grind [Keeps, Still, reply_keeps, acceptRegion_keeps, answer_keeps]

theorem execCreateRegion_answers (req : RegionReq) (s : State) : Answers s (execCreateRegion req s) :=
  answers_next (operatorCmd_keeps (createRegion_keeps req) s)

theorem deleteRegion_keeps (r : RegionId) (s : State) : Keeps s (deleteRegion r s) := by
  grind [deleteRegion, Keeps, Still, reply_keeps, modReg_keeps]

theorem execDeleteRegion_answers (r : RegionId) (s : State) : Answers s (execDeleteRegion r s) :=
  answers_next (operatorCmd_keeps (deleteRegion_keeps r) s)

theorem switchContext_keeps (r : RegionId) (image : BitVec 40) (s : State) : Keeps s (switchContext r image s) :=
  ite_ok (P := Keeps s) (reply_keeps ..) (Keeps.refl s)

theorem execSwitchContext_answers (r : RegionId) (image : BitVec 40) (s : State) :
    Answers s (execSwitchContext r image s) :=
  answers_next (operatorCmd_keeps (switchContext_keeps r image) s)

theorem failBoot_keeps (r : RegionId) (st : BitVec 8) (info : Word) (s : State) : Keeps s (failBoot r st info s) :=
  ite_ok (P := Keeps s) (logArmaik_keeps ..) (Keeps.refl s)

theorem releaseLater_keeps (c : CoreId) (s : State) : Keeps s (releaseLater c s) := by
  grind [releaseLater, Keeps, Still, holdCore_keeps, modCore_still, modCore_coresOk, coresOk_coreOf, CoreOk]

theorem releaseMembers_keeps (s0 : State) (h : BootHeader) (cell : BitVec 128) (members : Nat) (s : State) :
    Keeps s (releaseMembers s0 h cell members s) :=
  foldl_keeps (fun s _ => ite_ok (P := Keeps s) (Keeps.refl s)
    (ite_ok (P := Keeps s) (releaseLater_keeps ..) (releaseCore_keeps ..))) _ _

theorem readBoot_keeps (r : RegionId) (members : Nat) (ecc : SectorEcc) (s : State) :
    Keeps s (readBoot r members ecc s) := by
  have hhead : Keeps s (if inWindows (regOf s r) (regOf s r).bootImage.toNat 64 then
      eccRead (regOf s r).bootImage.toNat 64 ecc s else s) := ite_ok (P := Keeps s) (eccRead_keeps ..) (Keeps.refl s)
  exact ite_ok (P := Keeps s) hhead (hhead.trans (foldl_keeps (fun _ _ => eccRead_keeps ..) _ _))

theorem bootLoad_keeps (r : RegionId) (s : State) : Keeps s (bootLoad r s) := by
  have hplaced : ∀ h cell l, Keeps s (List.foldl (fun t m => placeMember s h cell m t) s l) :=
    fun h cell l => foldl_keeps (fun _ _ => placeMember_keeps ..) l s
  unfold bootLoad
  dsimp only
  refine ite_ok (P := Keeps s) (failBoot_keeps ..) ?_
  split
  · exact failBoot_keeps ..
  refine ite_ok (P := Keeps s) (Keeps.after (failBoot_keeps ..) (drawFree_keeps s)) ?_
  split
  · exact Keeps.after (failBoot_keeps ..) (hplaced _ _ _)
  · exact Keeps.after (releaseMembers_keeps ..) (Keeps.after (modReg_keeps ..) (hplaced _ _ _))

theorem execBootImageLoad_answers (q : BootRead) (s : State) : Answers s (execBootImageLoad q s) := by
  grind [execBootImageLoad, Keeps, Still, answers_next, bootLoad_keeps, readBoot_keeps]

theorem execBulkWindowZeroFill_answers (base size : BitVec 11) (s : State) :
    Answers s (execBulkWindowZeroFill base size s) := by
  refine answers_next (ite_ok (P := Keeps s) ?_ (Keeps.refl s))
  exact ⟨⟨rfl, rfl, rfl, rfl, rfl, rfl, rfl, rfl, rfl, rfl, fun h => mzero_wf _ _ _ h⟩, id⟩

theorem execCoreZeroingComplete_answers (r : RegionId) (s : State) : Answers s (execCoreZeroingComplete r s) :=
  answers_next (ite_ok (P := Keeps s) (modReg_keeps ..) (Keeps.refl s))

theorem operatorCell_keeps (a : BitVec 8 × Nat × State) : Keeps a.2.2 (operatorCell a) := reply_keeps ..

theorem execCellCreate_answers (req : CreateReq) (s : State) : Answers s (execCellCreate req s) := by
  cases req with
  | port h p d => exact outInstr_answers ..
  | operator entry wanted =>
    exact answers_next (operatorCmd_keeps (fun _ => Keeps.after (operatorCell_keeps _) (cellCreate_keeps ..)) s)

theorem execCellDelete_answers (req : DeleteReq) (s : State) : Answers s (execCellDelete req s) := by
  cases req with
  | port h p d => exact outInstr_answers ..
  | operator i => exact answers_next (operatorCmd_keeps (fun _ => Keeps.after (operatorCell_keeps _)
    (cellDelete_keeps ..)) s)

theorem startedLoad_keeps (r : RegionId) (s : State) : Keeps s (startedLoad r s) :=
  Keeps.refl s

theorem execRouteLoad_answers (req : LoadReq) (s : State) : Answers s (execRouteLoad req s) := by
  cases req with
  | port h p d => exact outInstr_answers ..
  | operator r addr =>
    exact answers_next (operatorCmd_keeps (fun s => ite_ok (P := Keeps s)
      (Keeps.after (startedLoad_keeps ..) (startLoad_keeps ..)) (reply_keeps ..)) s)

/-! ### Security -/

theorem modMgmt_keeps (f : Mgmt → Mgmt) (s : State) : Keeps s (modMgmt f s) :=
  Keeps.refl s

theorem openConnection_keeps (operator : Bool) (s : State) : Keeps s (openConnection operator s) :=
  Keeps.refl s

theorem execTlsHandshake_answers (peer : TlsPeer) (s : State) : Answers s (execTlsHandshake peer s) := by
  grind [execTlsHandshake, Keeps, Still, answers_next, openConnection_keeps]

theorem execManagementConnectionEnd_answers (s : State) :
    Answers s (execManagementConnectionEnd s) := answers_next (modMgmt_keeps ..)

theorem setOwners_keeps (certs : List (BitVec 384)) (s : State) : Keeps s (setOwners certs s) := wantStore_keeps ..

theorem takeOwnership_keeps (certs : List (BitVec 384)) (s : State) : Keeps s (takeOwnership certs s) :=
  ite_ok (P := Keeps s) (reply_keeps ..) (setOwners_keeps ..)

theorem execTakeOwnership_answers (certs : List (BitVec 384)) (s : State) : Answers s (execTakeOwnership certs s) := by
  have hlog : Keeps s (if s.mgmt.connected then logPresence 0 s else s) :=
    ite_ok (P := Keeps s) (logPresence_keeps ..) (Keeps.refl s)
  exact answers_next (ite_ok (P := Keeps s) hlog (ite_ok (P := Keeps s) (hlog.trans (reply_keeps ..))
    (hlog.trans (withPresence_keeps (takeOwnership_keeps certs) _))))

theorem execReleaseOwnership_answers (s : State) : Answers s (execReleaseOwnership s) :=
  answers_next (presenceCmd_keeps 1 (fun s => ite_ok (P := Keeps s) (reply_keeps ..) (setOwners_keeps ..)) s)

theorem openPresence_keeps (s : State) : Keeps s (openPresence s) :=
  Keeps.refl s

theorem execPresenceNFall_answers (s : State) : Answers s (execPresenceNFall s) :=
  answers_next (ite_ok (P := Keeps s) (openPresence_keeps ..) (Keeps.refl s))

theorem execPresenceWindowClose_answers (s : State) :
    Answers s (execPresenceWindowClose s) := answers_next (modMgmt_keeps ..)

theorem dropKeys_keeps (r : RegionId) (s : State) : Keeps s (dropKeys r s) :=
  Keeps.refl s

theorem execClearKeys_answers (r : Option RegionId) (s : State) : Answers s (execClearKeys r s) := by
  refine answers_next (presenceCmd_keeps 3 (fun s => Keeps.after (reply_keeps ..) ?_) s)
  cases r with
  | some r => exact ite_ok (P := Keeps s) (dropKeys_keeps ..) (Keeps.refl s)
  | none => exact eachRegion_keeps dropKeys_keeps s

theorem countDebug_keeps (r : RegionId) (s : State) : Keeps s (countDebug r s) :=
  ite_ok (P := Keeps s) (modReg_keeps ..) (Keeps.refl s)

theorem execDebugOpen_answers (r : RegionId) (s : State) : Answers s (execDebugOpen r s) :=
  answers_next (operatorCmd_keeps (fun s => ite_ok (P := Keeps s) (reply_keeps ..)
    (Keeps.after (reply_keeps ..) (Keeps.after (modMgmt_keeps ..) (countDebug_keeps ..)))) s)

theorem execDebugClose_answers (s : State) : Answers s (execDebugClose s) :=
  answers_next (operatorCmd_keeps (fun _ => Keeps.after (reply_keeps ..) (modMgmt_keeps ..)) s)

theorem execJtagDebugSession_answers (s : State) : Answers s (execJtagDebugSession s) :=
  answers_next (Keeps.after (modMgmt_keeps ..) (eachRegion_keeps countDebug_keeps s))

theorem debugWrite_keeps (op : DebugOp) (s : State) : Keeps s (debugWrite op s) := by
  have hput : ∀ (h : Hart) (w : Wr), Keeps s (modCore s h.core fun c => applyWr h c w) :=
    fun h w => modCore_keeps fun hc => applyWr_coreOk h w hc
  have hthread : ∀ (h : Hart) (f : Thread → Thread), Keeps s (modTh s h f) := fun _ _ => modTh_keeps ..
  cases op with
  | writeG h r v => exact hput h _
  | writeP h r v => exact hput h _
  | writeV h r v => exact hput h _
  | writeM h r v => exact hput h _
  | writePc h v => exact hput h _
  | writeTileRow h t r v => exact hput h _
  | writeAccRow h a r v => exact hput h _
  | writeLocal c a d => exact modCore_keeps fun hc => memPut_coreOk _ _ _ _ hc
  | writeCode c a d => exact modCore_keeps fun hc => putCode_coreOk _ _ hc
  | halt h => exact hthread h _
  | resume h => exact hthread h _
  | writeDesc h t v => exact hthread h _
  | setBreakpoint h pc => exact hthread h _
  | setWatchpoint h a => exact hthread h _
  | clearPoints h => exact hthread h _
  | _ => exact Keeps.refl s

theorem debugRun_keeps (r : Option RegionId) (op : DebugOp) (s : State) : Keeps s (debugRun r op s) :=
  ite_ok (P := Keeps s) (debugWrite_keeps ..) (Keeps.refl s)

theorem execDebugCommand_answers (q : DebugRequest) (s : State) : Answers s (execDebugCommand q s) := by
  refine answers_next (ite_ok (P := Keeps s) (ite_ok (P := Keeps s) (Keeps.refl s) (debugRun_keeps ..))
    (operatorCmd_keeps (fun s => ?_) s))
  split
  · exact debugRun_keeps ..
  · exact reply_keeps ..

theorem spdmReply_keeps (data : List Word) (s : State) : Keeps s (spdmReply data s) :=
  Keeps.refl s

theorem spdmError_keeps (code : BitVec 8) (s : State) : Keeps s (spdmError code s) :=
  Keeps.refl s

theorem spdmAfter_keeps (tr : SpdmTransport) (ready : State → Bool) {f : State → State} (hf : ∀ s, Keeps s (f s))
    (s : State) : Keeps s (spdmAfter tr ready f s) :=
  ite_ok (P := Keeps s) (Keeps.refl s) (ite_ok (P := Keeps s) (hf s) (spdmError_keeps ..))

theorem execGetVersion_answers (tr : SpdmTransport) (s : State) : Answers s (execGetVersion tr s) :=
  answers_next (spdmAfter_keeps tr _ (fun _ => Keeps.after (spdmReply_keeps ..) (modMgmt_keeps ..)) s)

theorem execGetCapabilities_answers (tr : SpdmTransport) (s : State) : Answers s (execGetCapabilities tr s) :=
  answers_next (spdmAfter_keeps tr _ (fun _ => Keeps.after (spdmReply_keeps ..) (modMgmt_keeps ..)) s)

theorem execNegotiateAlgorithms_answers (tr : SpdmTransport) (algs : SpdmAlgs) (s : State) :
    Answers s (execNegotiateAlgorithms tr algs s) :=
  answers_next (spdmAfter_keeps tr _ (fun s => ite_ok (P := Keeps s)
    (Keeps.after (spdmReply_keeps ..) (modMgmt_keeps ..)) (spdmError_keeps ..)) s)

theorem execGetDigests_answers (tr : SpdmTransport) (s : State) : Answers s (execGetDigests tr s) :=
  answers_next (spdmAfter_keeps tr _ (fun _ => spdmReply_keeps ..) s)

theorem execGetCertificate_answers (tr : SpdmTransport) (slot : Fin 8) (s : State) :
    Answers s (execGetCertificate tr slot s) :=
  answers_next (spdmAfter_keeps tr _ (fun s => ite_ok (P := Keeps s) (spdmReply_keeps ..) (spdmError_keeps ..)) s)

theorem execChallenge_answers (tr : SpdmTransport) (nonce : BitVec 256) (s : State) :
    Answers s (execChallenge tr nonce s) :=
  answers_next (spdmAfter_keeps tr _ (fun _ => spdmReply_keeps ..) s)

theorem setSession_keeps (i : Fin 16) (x : Session) (s : State) : Keeps s (setSession i x s) :=
  Keeps.refl s

theorem answerMeasurements_keeps (r : Option RegionId) (index : BitVec 8) (nonce : BitVec 256) (s : State) :
    Keeps s (answerMeasurements r index nonce s) := by
  grind [answerMeasurements, spdmReply_keeps, spdmError_keeps]

theorem execGetMeasurements_answers (sess : Option (Fin 16)) (index : BitVec 8) (nonce : BitVec 256) (s : State) :
    Answers s (execGetMeasurements sess index nonce s) := by
  unfold execGetMeasurements
  grind [Keeps, Still, answers_next, answerMeasurements_keeps, spdmError_keeps]

theorem execKeyExchange_answers (tr : SpdmTransport) (share : BitVec 768) (s : State) :
    Answers s (execKeyExchange tr share s) := by
  refine answers_next (spdmAfter_keeps tr _ (fun s => ?_) s)
  split
  · exact spdmError_keeps ..
  · exact Keeps.after (spdmReply_keeps ..) (Keeps.after (setSession_keeps ..) (Keeps.refl s))

theorem inSession_keeps (sess : Fin 16) (get : State → Fin 16 → Option Session) {f : Session → State → State}
    (hf : ∀ x s, Keeps s (f x s)) (s : State) : Keeps s (inSession sess get f s) := by
  unfold inSession
  split
  · exact ite_ok (P := Keeps s) (hf _ s) (Keeps.refl s)
  · exact ite_ok (P := Keeps s) (Keeps.refl s) (spdmError_keeps ..)

theorem dropSession_keeps (sess : Fin 16) (s : State) : Keeps s (dropSession sess s) :=
  Keeps.refl s

theorem execFinish_answers (sess : Fin 16) (macOk : Bool) (s : State) : Answers s (execFinish sess macOk s) :=
  answers_next (inSession_keeps sess sessionOf (fun _ s => ite_ok (P := Keeps s) (spdmError_keeps ..)
    (ite_ok (P := Keeps s) (Keeps.after (spdmReply_keeps ..) (setSession_keeps ..))
      (Keeps.after (spdmError_keeps ..) (dropSession_keeps ..)))) s)

theorem execHeartbeat_answers (sess : Fin 16) (s : State) : Answers s (execHeartbeat sess s) :=
  answers_next (inSession_keeps sess secured (fun _ _ => spdmReply_keeps ..) s)

theorem execBindRegion_answers (sess : Fin 16) (r : RegionId) (s : State) : Answers s (execBindRegion sess r s) :=
  answers_next (inSession_keeps sess secured (fun _ s => ite_ok (P := Keeps s) (spdmError_keeps ..)
    (Keeps.after (spdmReply_keeps ..) (setSession_keeps ..))) s)

theorem execInstallKey_answers (sess : Fin 16) (req : KeyReq) (s : State) : Answers s (execInstallKey sess req s) := by
  refine answers_next (inSession_keeps sess secured (fun x s => ?_) s)
  split
  · exact answer_keeps ..
  · exact ite_ok (P := Keeps s) (answer_keeps ..) (Keeps.after (reply_keeps ..) (modReg_keeps ..))

theorem execEndSession_answers (sess : Fin 16) (s : State) :
    Answers s (execEndSession sess s) := answers_next (dropSession_keeps ..)

/-! ### Reset, boot and power -/

theorem loadMap_keeps (s : State) : Keeps s (loadMap s) := by
  unfold loadMap
  split
  · exact Keeps.refl s
  · exact logArmaik_keeps ..

theorem logRefused_keeps (s : State) : Keeps s (logRefused s) := by
  have hnoted : Keeps s (s.boot.refused.foldl (fun s e => noteArmaik none 0x3F [b2n e.1, e.2] s) s) :=
    foldl_keeps (fun _ _ => noteArmaik_keeps ..) _ _
  exact hnoted

theorem mergeBist_keeps (s : State) (f : Fin 640 × Fin 17) : Keeps s (mergeBist s f) := by
  unfold mergeBist
  grind [Keeps, Still, logFailed_keeps, setRow_keeps, isolate_keeps]

theorem closeGates_keeps (s : State) : Keeps s (closeGates s) := by
  refine foldl_keeps (fun s e => ?_) _ _
  split
  · exact isolate_keeps ..
  · exact Keeps.refl s

theorem raiseRollback_keeps (s : State) :
    Keeps s (raiseRollback s) := ite_ok (P := Keeps s) (wantStore_keeps ..) (Keeps.refl s)

theorem failover_keeps (s : State) : Keeps s (failover s) :=
  Keeps.refl s

theorem downAll_keeps (s : State) : Keeps s (downAll s) :=
  Keeps.refl s

theorem execPerstNDeassert_answers (link : LinkId) (s : State) : Answers s (execPerstNDeassert link s) := by
  grind [execPerstNDeassert, Keeps, Still, answers_next]

theorem setSlot_keeps (b : Bool) (x : FwSlot) (s : State) : Keeps s (setSlot b x s) :=
  Keeps.refl s

theorem writeSlot_keeps (b : Bool) (seq : Nat) (i : FwImage) (s : State) :
    Keeps s (writeSlot b seq i s) := wantStore_keeps ..

theorem execFirmwareUpdate_answers (img : FwImage) (s : State) : Answers s (execFirmwareUpdate img s) :=
  answers_next (operatorCmd_keeps (fun _ => Keeps.after (reply_keeps ..) (writeSlot_keeps ..)) s)

theorem rollBack_keeps (b : Bool) (s : State) : Keeps s (rollBack b s) := by
  grind [rollBack, Keeps, Still, answer_keeps, wantStore_keeps, modMgmt_keeps, reply_keeps, writeSlot_keeps]

theorem execFirmwareRollback_answers (slot : Fin 2) (s : State) : Answers s (execFirmwareRollback slot s) :=
  answers_next (presenceCmd_keeps 2 (rollBack_keeps _) s)

theorem execEnterDaylight_answers (s : State) : Answers s (execEnterDaylight s) := by
  refine answers_next (operatorCmd_keeps (fun s => ?_) s)
  exact Keeps.after (reply_keeps ..) (Keeps.refl s)

theorem execEnterTwilight_answers (s : State) : Answers s (execEnterTwilight s) := by
  refine answers_next (operatorCmd_keeps (fun s => ?_) s)
  exact Keeps.after (reply_keeps ..) (Keeps.refl s)

theorem nightRegion_keeps (r : RegionId) (wake : Bool) (kind : NightKind) (s : State) :
    Keeps s (nightRegion r wake kind s) := by
  grind [nightRegion, Keeps, Still, answer_keeps, reply_keeps, modReg_keeps, wake_keeps]

theorem execNightCommand_answers (t : NightTarget) (kind : NightKind) (s : State) :
    Answers s (execNightCommand t kind s) := by
  refine answers_next (operatorCmd_keeps (fun s => ?_) s)
  cases t with
  | region r wake => exact nightRegion_keeps ..
  | core c => exact ite_ok (P := Keeps s) (answer_keeps ..) (Keeps.after (reply_keeps ..) (Keeps.refl s))

theorem execWakeRegion_answers (r : RegionId) (s : State) : Answers s (execWakeRegion r s) :=
  answers_next (operatorCmd_keeps (fun s => ite_ok (P := Keeps s) (reply_keeps ..) (ite_ok (P := Keeps s)
    (reply_keeps ..)
    (Keeps.after (reply_keeps ..) (startWake_keeps ..)))) s)

theorem restartThreads_keeps (core : CoreId) (s : State) : Keeps s (restartThreads core s) :=
  foldl_keeps (fun s _ => ite_ok (P := Keeps s) (startThread_keeps ..)
    (Keeps.after (modCore_keeps id) (startThread_keeps ..))) _ _

theorem execCoreRestart_answers (core : CoreId) (s : State) : Answers s (execCoreRestart core s) :=
  answers_next (operatorCmd_keeps (fun s => ite_ok (P := Keeps s) (answer_keeps ..) (Keeps.after (reply_keeps ..)
    (Keeps.after (restartThreads_keeps ..) (Keeps.after (firstStatus_keeps ..)
      (modCore_keeps restartedCore_coreOk))))) s)

/-! ### Management registers -/

theorem setCounter_keeps (a : Nat) (v : BitVec 32) (s : State) : Keeps s (setCounter a v s) := by
  unfold setCounter
  split
  · split
    · exact modFn_keeps ..
    · exact Keeps.refl s
  · exact ite_ok (P := Keeps s) (Keeps.refl s) (Keeps.refl s)

theorem readWindow_keeps (who : Requester) (a len : Nat) (s : State) : Keeps s (readWindow who a len s) :=
  Keeps.refl s

theorem mgmtQuery_keeps (who : Requester) (a len : Nat) (s : State) : Keeps s (mgmtQuery who a len s) := by
  grind [mgmtQuery, Keeps, Still, readWindow_keeps, reply_keeps]

theorem execManagementQuery_answers (who : Requester) (addr : BitVec 32) (len : Nat) (s : State) :
    Answers s (execManagementQuery who addr len s) :=
  answers_next (mgmtQuery_keeps ..)

theorem gateWays_keeps (link : LinkId) (mask : BitVec 16) (s : State) : Keeps s (gateWays link mask s) :=
  Keeps.after (setSpill_keeps ..) (Keeps.after (foldl_keeps (fun s _ => ite_ok (P := Keeps s) (cleanWay_keeps ..)
    (Keeps.refl s)) _ _) (setSpill_keeps ..))

theorem powerWays_keeps (link : LinkId) (mask : BitVec 16) (s : State) :
    Keeps s (powerWays link mask s) := setSpill_keeps ..

theorem setWays_keeps (link : LinkId) (v : BitVec 16) (s : State) : Keeps s (setWays link v s) :=
  Keeps.after (powerWays_keeps ..) (gateWays_keeps ..)

theorem execSpillWaysPower_answers (link : LinkId) (v : BitVec 64) (s : State) :
    Answers s (execSpillWaysPower link v s) :=
  answers_next (operatorCmd_keeps (fun _ => Keeps.after (reply_keeps ..) (setWays_keeps ..)) s)

theorem setQuota_keeps (r : RegionId) (q : BitVec 11) (s : State) : Keeps s (setQuota r q s) :=
  ite_ok (P := Keeps s) (reply_keeps ..) (Keeps.refl s)

theorem setBind_keeps (r : RegionId) (v : BitVec 9) (s : State) : Keeps s (setBind r v s) := by
  grind [setBind, Keeps, Still, answer_keeps, reply_keeps, modReg_keeps]

theorem setRegion_keeps (r : RegionId) (o : Nat) (v : Word) (s : State) : Keeps s (setRegion r o v s) := by
  grind [setRegion, reply_keeps, setQuota_keeps, setBind_keeps]

theorem setRoutes_keeps (q : Nat) (v : Word) (s : State) : Keeps s (setRoutes q v s) :=
  Keeps.refl s

theorem setLog_keeps (o : Nat) (v : Word) (s : State) : Keeps s (setLog o v s) := by
  unfold setLog
  split
  all_goals exact Keeps.refl s

/-! ### Scalar floating point -/

theorem fpG_answers (h : Hart) (p : Fin 8) (d : Fin 32) (f : Thread → Nat × BitVec 5) (s : State) :
    Answers s (fpG h p d f s) :=
  issue_answers ..

theorem execFadd_answers (h : Hart) (p : Fin 8) (f : FpFmt) (d : Fin 32) (a : Fin 32) (b : Fin 32) (s : State) :
    Answers s (execFadd h p f d a b s) :=
  fpG_answers ..

theorem execFsub_answers (h : Hart) (p : Fin 8) (f : FpFmt) (d : Fin 32) (a : Fin 32) (b : Fin 32) (s : State) :
    Answers s (execFsub h p f d a b s) :=
  fpG_answers ..

theorem execFmul_answers (h : Hart) (p : Fin 8) (f : FpFmt) (d : Fin 32) (a : Fin 32) (b : Fin 32) (s : State) :
    Answers s (execFmul h p f d a b s) :=
  fpG_answers ..

theorem execFdiv_answers (h : Hart) (p : Fin 8) (f : FpFmt) (d : Fin 32) (a : Fin 32) (b : Fin 32) (s : State) :
    Answers s (execFdiv h p f d a b s) :=
  fpG_answers ..

theorem execFmin_answers (h : Hart) (p : Fin 8) (f : FpFmt) (d : Fin 32) (a : Fin 32) (b : Fin 32) (s : State) :
    Answers s (execFmin h p f d a b s) :=
  fpG_answers ..

theorem execFmax_answers (h : Hart) (p : Fin 8) (f : FpFmt) (d : Fin 32) (a : Fin 32) (b : Fin 32) (s : State) :
    Answers s (execFmax h p f d a b s) :=
  fpG_answers ..

theorem execFsqrt_answers (h : Hart) (p : Fin 8) (f : FpFmt) (d : Fin 32) (a : Fin 32) (s : State) :
    Answers s (execFsqrt h p f d a s) :=
  fpG_answers ..

theorem execFabs_answers (h : Hart) (p : Fin 8) (f : FpFmt) (d : Fin 32) (a : Fin 32) (s : State) :
    Answers s (execFabs h p f d a s) :=
  fpG_answers ..

theorem execFneg_answers (h : Hart) (p : Fin 8) (f : FpFmt) (d : Fin 32) (a : Fin 32) (s : State) :
    Answers s (execFneg h p f d a s) :=
  fpG_answers ..

theorem execFcvt_answers (h : Hart) (p : Fin 8) (f : FpFmt) (d a : Fin 32) (s : State) :
    Answers s (execFcvt h p f d a s) :=
  fpG_answers ..

theorem execFcvti_answers (h : Hart) (p : Fin 8) (f : FpFmt) (d : Fin 32) (a : Fin 32) (s : State) :
    Answers s (execFcvti h p f d a s) :=
  fpG_answers ..

theorem execFcvtu_answers (h : Hart) (p : Fin 8) (f : FpFmt) (d : Fin 32) (a : Fin 32) (s : State) :
    Answers s (execFcvtu h p f d a s) :=
  fpG_answers ..

theorem execIcvtf_answers (h : Hart) (p : Fin 8) (f : FpFmt) (d : Fin 32) (a : Fin 32) (s : State) :
    Answers s (execIcvtf h p f d a s) :=
  fpG_answers ..

theorem execUcvtf_answers (h : Hart) (p : Fin 8) (f : FpFmt) (d : Fin 32) (a : Fin 32) (s : State) :
    Answers s (execUcvtf h p f d a s) :=
  fpG_answers ..

theorem execFclass_answers (h : Hart) (p : Fin 8) (f : FpFmt) (d : Fin 32) (a : Fin 32) (s : State) :
    Answers s (execFclass h p f d a s) :=
  fpG_answers ..

theorem execFma_answers (h : Hart) (p : Fin 8) (f : FpFmt) (d : Fin 32) (a : Fin 32) (b : Fin 32) (s : State) :
    Answers s (execFma h p f d a b s) :=
  fpG_answers ..

theorem execFnma_answers (h : Hart) (p : Fin 8) (f : FpFmt) (d : Fin 32) (a : Fin 32) (b : Fin 32) (s : State) :
    Answers s (execFnma h p f d a b s) :=
  fpG_answers ..

theorem execFcmp_answers (h : Hart) (p : Fin 8) (c : FcmpCond) (f : FpFmt) (d : Fin 8) (a : Fin 32) (b : Fin 32) (s :
    State) : Answers s (execFcmp h p c f d a b s) :=
  issue_answers ..

/-! ### The shore -/

theorem modRun_keeps (e : EngineId) (base : Nat) (f : StreamRun → StreamRun) (s : State) :
    Keeps s (modRun e base f s) :=
  Keeps.refl s

theorem enterMesh_keeps (p : ShoreId) (f : Flit) (s : State) : Keeps s (enterMesh p f s) :=
  Keeps.refl s

theorem sendStaged_keeps (p : ShoreId) (e : EngineId) (r : StreamRun) (f : StagedFlit) (s : State) :
    Keeps s (sendStaged p e r f s) :=
  Keeps.refl s

theorem cancelRun_keeps (e : EngineId) (base : Nat) (st : BitVec 8) (s : State) : Keeps s (cancelRun e base st s) := by
  unfold cancelRun
  split
  · exact focused_keeps e _ (cancelEngine_keeps e st) s
  · exact Keeps.refl s

theorem lateSlot_keeps (p : ShoreId) (e : EngineId) (r : StreamRun) (s : State) : Keeps s (lateSlot p e r s) := by
  have hcount : Keeps s (count s (ctrRegion r.cmd.region.val 0) 1) := count_keeps ..
  unfold lateSlot
  dsimp only
  refine ite_ok (P := Keeps s) (Keeps.after (streamE5_keeps ..) (Keeps.after (cancelRun_keeps ..) hcount)) ?_
  split
  · exact hcount.trans (modRun_keeps ..)
  · exact Keeps.after (enterMesh_keeps ..) (hcount.trans (modRun_keeps ..))

theorem spendDead_keeps (s : State) (p : ShoreId) (off : Nat) : Keeps s (spendDead s p off) := by
  grind [spendDead, Keeps, Still]

theorem sendOffer_keeps (p : ShoreId) (s : State) : Keeps s (sendOffer p s) := by
  grind [sendOffer, Keeps, Still, enterMesh_keeps, sendStaged_keeps]

theorem lateMessage_keeps (p : ShoreId) (k : PortId) (s : State) : Keeps s (lateMessage p k s) := by
  unfold lateMessage
  dsimp only
  split
  · exact Keeps.refl s
  refine Keeps.after (enterMesh_keeps ..) (Keeps.after (setPortL_keeps ..) ?_)
  split
  · exact (count_keeps ..).nextMid _
  · exact Keeps.refl s

theorem inboundSlot_keeps (p : ShoreId) (off : Nat) (s : State) : Keeps s (inboundSlot p off s) := by
  grind [inboundSlot, Keeps, Still, sendStaged_keeps, lateSlot_keeps, spendDead_keeps, lateMessage_keeps,
    sendOffer_keeps]

theorem inboundTwilight_keeps (p : ShoreId) (s : State) : Keeps s (inboundTwilight p s) :=
  ite_ok (P := Keeps s) (sendOffer_keeps ..) (Keeps.refl s)

theorem outboundFlit_keeps (p : ShoreId) (e : EngineId) (f : Flit) (s : State) : Keeps s (outboundFlit p e f s) := by
  unfold outboundFlit
  split
  · exact Keeps.refl s
  · exact ite_ok (P := Keeps s) (Keeps.refl s) (ite_ok (P := Keeps s) (modRun_keeps ..) (ite_ok (P := Keeps s)
      (Keeps.after (modRun_keeps ..) (modRun_keeps ..)) (Keeps.after (logEdie_keeps ..)
        (Keeps.after (modRun_keeps ..) (Keeps.after (count_keeps ..) (modRun_keeps ..))))))

theorem outboundSlot_keeps (p : ShoreId) (s : State) : Keeps s (outboundSlot p s) := by
  unfold outboundSlot
  split
  · exact Keeps.refl s
  next f rest _ =>
    refine Keeps.trans (t := { s with shoreOut := tset s.shoreOut p.val rest }) (Keeps.refl s) ?_
    split
    · exact outboundFlit_keeps ..
    · exact ite_ok (P := Keeps _) (linkOutFlit_keeps ..) (ite_ok (P := Keeps _) (count_keeps ..) (Keeps.refl _))

theorem execShoreSlot_answers (port : ShoreId) (dir : SlotDir) (cycle : BitVec 24) (s : State) :
    Answers s (execShoreSlot port dir cycle s) := by
  refine answers_next ((toCycle_keeps cycle.toNat s).trans ?_)
  cases dir with
  | outbound => exact outboundSlot_keeps ..
  | inbound =>
    refine ite_ok (P := Keeps _) (Keeps.refl _) ?_
    split
    · exact ite_ok (P := Keeps _) (inboundSlot_keeps ..) (Keeps.refl _)
    · exact inboundTwilight_keeps ..
    · exact Keeps.refl _

/-! ### Commands that change what legality speaks of -/

/-- From `s` to `t` the queue of commands stays, a legal state leads to a legal state, and memories in canonical form to
memories in it. -/
def Goes (s t : State) : Prop := t.pending = s.pending ∧ (Inv s → Inv t) ∧ (memoryForm s → memoryForm t)

theorem Goes.trans {s t u : State} (a : Goes s t) (b : Goes t u) : Goes s u :=
  ⟨b.1.trans a.1, b.2.1 ∘ a.2.1, b.2.2 ∘ a.2.2⟩

theorem Keeps.inv {s t : State} (h : Keeps s t) (hs : Inv s) : Inv t := by
  grind [Keeps, Still, Safety.Inv, dayLegal, bootLegal, idLegal]

theorem Keeps.memoryForm {s t : State} (h : Keeps s t) (hs : memoryForm s) : memoryForm t := by
  rw [memoryForm_iff] at hs ⊢
  obtain ⟨⟨_, _, _, _, _, _, _, _, _, _, hbulk⟩, hcores⟩ := h
  exact ⟨hbulk hs.1, hcores hs.2⟩

theorem Keeps.goes {s t : State} (h : Keeps s t) : Goes s t := ⟨h.1.1, h.inv, h.memoryForm⟩

theorem Goes.keeps {s t u : State} (a : Goes s t) (b : Keeps t u) : Goes s u := a.trans b.goes

/-- The memories do not change while the rest of the state does. -/
theorem goes_of_inv {s t : State} (hp : t.pending = s.pending) (hb : t.bulk = s.bulk) (hc : t.cores = s.cores)
    (hi : Inv s → Inv t) : Goes s t := ⟨hp, hi, fun hm => by rwa [memoryForm_iff, hb, hc]⟩

/-! Reset and boot. -/

/-- Midnight is legal whatever the pins are, as long as boot has not begun. -/
theorem inv_of_reset {t : State} (hc : t.clock = State.reset.clock) (hd : t.dev = .midnight) (hs : t.boot.step = 0)
    (hr : t.boot.recovery = false) : Inv t := by
  refine ⟨?_, ?_, ?_⟩
  · rw [dayLegal, hc]
    decide
  · simp [bootLegal, hd, hs, hr]
  · simp [idLegal, hd]

theorem midnight_goes (keep : Bool) (s : State) : Goes s (midnight keep s) :=
  ⟨rfl, fun _ => inv_of_reset rfl rfl rfl rfl, fun _ => ⟨nil_wf, fun _ => reset_coreOk⟩⟩

/-- Boot comes to the end of a step before the last. -/
theorem bootTo_goes {s : State} (b : Boot) (hd : Inv s → s.dev = .midnight) (hb : b.step ∈ [0, 1, 3, 5, 6])
    (hr : Inv s → b.recovery = true → b.step = 1) : Goes s { s with boot := b } :=
  goes_of_inv rfl rfl rfl fun h => by
    have hne : b.step ≠ 8 := fun he => absurd (he ▸ hb) (by decide)
    refine ⟨h.1, ⟨?_, ?_, hr h⟩, h.2.2⟩
    · simp only [List.mem_cons, List.not_mem_nil, or_false] at hb ⊢
      omega
    · exact iff_of_true (hd h) hne

theorem firmwareStart_goes {s : State} (hd : Inv s → s.dev = .midnight) : Goes s (firmwareStart s) := by
  have hstep : Goes s { s with boot := { s.boot with step := 3, recovery := false } } :=
    bootTo_goes _ hd (by simp) (by simp)
  refine (hstep.keeps (Keeps.refl _)).keeps (ite_ok (P := Keeps _) ?_ (Keeps.after (openPresence_keeps _) ?_))
  all_goals exact Keeps.after (logRefused_keeps _) (loadMap_keeps _)

theorem measureSlot_step (b : Bool) (f : Flash) (x : Boot) :
    (measureSlot b f x).step = x.step ∧ (measureSlot b f x).recovery = x.recovery := by
  constructor <;> rfl

theorem setMark_step (b : Bool) (x : Boot) : (setMark b x).step = x.step ∧ (setMark b x).recovery = x.recovery := by
  unfold setMark
  constructor <;> split <;> rfl

theorem runRom_goes {roms : RomReport} {s : State} (hd : s.dev = .midnight) : Goes s (runRom roms s) := by
  unfold runRom
  dsimp only
  split
  next b l _ =>
    refine Goes.trans (Keeps.goes ?_) (firmwareStart_goes fun _ => hd)
    simp [Keeps, Still, measureSlot_step, setMark_step]
  · exact (bootTo_goes _ (fun _ => hd) (by simp) (by simp)).keeps (Keeps.refl _)

theorem bootStart_goes (roms : RomReport) (s : State) : Goes s (bootStart roms s) := by
  unfold bootStart
  dsimp only
  split
  next h => exact runRom_goes h.1
  · exact (Keeps.refl s).goes

/-! What the commands of reset and boot lead to. -/

theorem execResetNAssert_goes (s : State) : ∃ t, execResetNAssert s = .next t ∧ Goes s t :=
  ⟨_, rfl, (midnight_goes false s).keeps (Keeps.refl (midnight false s))⟩

theorem execResetNDeassert_goes (roms : RomReport) (s : State) : ∃ t, execResetNDeassert roms s = .next t ∧ Goes s t :=
  ⟨_, rfl, (Keeps.refl s).goes.trans (bootStart_goes ..)⟩

theorem execPowerOn_goes (s : State) : ∃ t, execPowerOn s = .next t ∧ Goes s t :=
  ⟨_, rfl, (midnight_goes false s).keeps (Keeps.refl (midnight false s))⟩

theorem execPowerLoss_goes (s : State) : ∃ t, execPowerLoss s = .next t ∧ Goes s t :=
  ⟨_, rfl, (midnight_goes false s).keeps (Keeps.refl (midnight false s))⟩

theorem execDeviceReset_goes (roms : RomReport) (s : State) : ∃ t, execDeviceReset roms s = .next t ∧ Goes s t :=
  ⟨_, rfl, ite_ok (P := Goes s) (Keeps.refl s).goes (ite_ok (P := Goes s) (reply_keeps ..).goes
    ((midnight_goes false s).trans (bootStart_goes ..)))⟩

theorem execBootWatchdog_goes (roms : RomReport) (s : State) : ∃ t, execBootWatchdog roms s = .next t ∧ Goes s t :=
  ⟨_, rfl, ite_ok (P := Goes s) ((midnight_goes true s).trans (bootStart_goes ..)) (Keeps.refl s).goes⟩

theorem execArmaikWatchdog_goes (healthy : Bool) (roms : RomReport) (s : State) :
    ∃ t, execArmaikWatchdog healthy roms s = .next t ∧ Goes s t :=
  ⟨_, rfl, ite_ok (P := Goes s) (Keeps.refl s).goes (ite_ok (P := Goes s) (failover_keeps s).goes
    ((midnight_goes true s).trans (bootStart_goes ..)))⟩

theorem execClockLoss_goes (clk : RefClock) (s : State) : ∃ t, execClockLoss clk s = .next t ∧ Goes s t := by
  refine ⟨_, rfl, ?_⟩
  cases clk with
  | svc => exact (midnight_goes false s).keeps (Keeps.refl (midnight false s))
  | core => exact (midnight_goes false s).keeps (Keeps.refl (midnight false s))
  | link => exact (Keeps.after (downAll_keeps _) (Keeps.refl s)).goes
  | pcie h => exact (Keeps.refl s).goes

theorem execReferenceClockReturn_goes (clk : RefClock) (roms : RomReport) (s : State) :
    ∃ t, execReferenceClockReturn clk roms s = .next t ∧ Goes s t := by
  refine ⟨_, rfl, ?_⟩
  cases clk with
  | svc => exact (Keeps.refl s).goes.trans (bootStart_goes ..)
  | core => exact (Keeps.refl s).goes.trans (bootStart_goes ..)
  | link => exact (Keeps.refl s).goes
  | pcie h => exact (Keeps.refl s).goes

theorem thermalTrip_goes (s : State) : Goes s (thermalTrip s) :=
  (midnight_goes false s).keeps (Keeps.refl (midnight false s))

theorem execThermalTrip_goes (s : State) : ∃ t, execThermalTrip s = .next t ∧ Goes s t := ⟨_, rfl, thermalTrip_goes s⟩

theorem senseTemps_goes (temps : List (BitVec 16)) (s : State) : Goes s (senseTemps temps s) :=
  ite_ok (P := Goes s) (thermalTrip_goes s) (Keeps.refl s).goes

theorem execThermalAlert_goes (temps : List (BitVec 16)) (s : State) : ∃ t, execThermalAlert temps s = .next t ∧ Goes s t :=
  ⟨_, rfl, senseTemps_goes ..⟩

theorem execTelemetrySample_goes (m : Telemetry) (s : State) : ∃ t, execTelemetrySample m s = .next t ∧ Goes s t :=
  ⟨_, rfl, ite_ok (P := Goes s) (Keeps.refl s).goes ((Keeps.refl s).goes.trans (senseTemps_goes ..))⟩

theorem execHbmTrainingDone_goes (s : State) : ∃ t, execHbmTrainingDone s = .next t ∧ Goes s t := by
  refine ⟨_, rfl, ?_⟩
  split
  next h =>
    have hzero : Keeps s { s with bulk := [], bulkPoison := [] } :=
      ⟨⟨rfl, rfl, rfl, rfl, rfl, rfl, rfl, rfl, rfl, rfl, fun _ => nil_wf⟩, id⟩
    refine hzero.goes.trans (bootTo_goes { s.boot with step := 5, hbmDone := true } ?_ (by simp) ?_)
    all_goals rintro ⟨-, ⟨-, hmid, hrec⟩, -⟩
    · exact hmid.2 (by dsimp only; omega)
    · intro hr
      have := hrec hr
      dsimp only at this
      omega
  · exact (Keeps.refl s).goes

theorem execBistDone_goes (failed : List (Fin 640 × Fin 17)) (s : State) : ∃ t, execBistDone failed s = .next t ∧ Goes s t := by
  refine ⟨_, rfl, ?_⟩
  split
  · exact (Keeps.refl s).goes
  next h =>
    have hzero : Keeps s { s with cores := tmap (fun _ c => zeroedCore c) s.cores } :=
      ⟨⟨rfl, rfl, rfl, rfl, rfl, rfl, rfl, rfl, rfl, rfl, id⟩, coresOk_tmap fun _ _ _ => zeroedCore_coreOk _⟩
    have hmerged := hzero.trans (foldl_keeps mergeBist_keeps failed _)
    generalize List.foldl mergeBist _ failed = u at hmerged
    have hstep : Goes s { u with boot := { u.boot with step := 6, bistDone := true } } := by
      have hu : u.boot.step = 5 := by
        obtain ⟨⟨_, _, _, _, _, _, _, _, hst, _⟩, _⟩ := hmerged
        omega
      refine hmerged.goes.trans (bootTo_goes { u.boot with step := 6, bistDone := true } ?_ (by simp) ?_)
      all_goals rintro ⟨-, ⟨-, hmid, hrec⟩, -⟩
      · exact hmid.2 (by omega)
      · intro hr
        have := hrec hr
        omega
    exact ite_ok (P := Goes s) (hstep.keeps (closeGates_keeps _))
      (hstep.keeps (Keeps.after (wantStore_keeps ..) (closeGates_keeps _)))

theorem execRecoveryImage_goes (img : FwImage) (s : State) : ∃ t, execRecoveryImage img s = .next t ∧ Goes s t := by
  refine ⟨_, rfl, ?_⟩
  split
  · exact (Keeps.refl s).goes
  next h =>
    dsimp only
    split
    · exact (Keeps.refl s).goes
    · have hmark : Keeps s { s with
          flash := { s.flash with slotA := ⟨some img, true⟩ }
          boot := measureSlot false { s.flash with slotA := ⟨some img, true⟩ } (setMark false s.boot) } := by
        simp [Keeps, Still, measureSlot_step, setMark_step]
      refine hmark.goes.trans (firmwareStart_goes ?_)
      rintro ⟨-, ⟨-, hmid, hrec⟩, -⟩
      have hwaits := hrec (by simp_all [measureSlot_step, setMark_step])
      exact hmid.2 (by omega)

/-! Daybreak. -/

theorem Keeps.withDev {s t : State} (h : Keeps s t) (d : DevState) : Keeps { s with dev := d } { t with dev := d } := by
  grind [Keeps, Still]

theorem storeLog_daylightReq (s : State) : (storeLog s).daylightReq = s.daylightReq := by
  unfold storeLog wantStore
  split_ifs <;> rfl

theorem logArmaik_daylightReq (r : Option RegionId) (cause : BitVec 8) (info : Word) (s : State) :
    (logArmaik r cause info s).daylightReq = s.daylightReq := by
  refine ite_ok (P := fun t : State => t.daylightReq = s.daylightReq) rfl ?_
  dsimp only
  split
  · exact storeLog_daylightReq _
  · rfl

theorem clearFailed_daylightReq (n : Nat) (who : UnderTest) (s : State) :
    (clearFailed n who s).daylightReq = s.daylightReq := by
  cases who <;> rfl

theorem finishTests_daylightReq (s : State) : (finishTests s).daylightReq = s.daylightReq := by
  refine foldl_ok (P := fun t : State => t.daylightReq = s.daylightReq) (fun t x ht => ?_) _ _ rfl
  split
  · exact (clearFailed_daylightReq ..).trans ht
  · exact (logArmaik_daylightReq ..).trans ht

theorem newDay_goes (s : State) : Goes s (newDay s) :=
  goes_of_inv rfl rfl rfl fun h => by
    obtain ⟨⟨-, hnext⟩, hboot, hid⟩ := h
    exact ⟨⟨hnext, hnext⟩, hboot, fun hd => ⟨(hid hd).2, (hid hd).2⟩⟩

theorem dayTables_keeps (s : State) (r : Tab Router) (f : Tab HostFn) (p : Tab LinkPort) :
    Keeps s { s with cores := tmap coreDay s.cores, routers := r, fns := f, ports := p } :=
  ⟨⟨rfl, rfl, rfl, rfl, rfl, rfl, rfl, rfl, rfl, rfl, id⟩, coresOk_tmap fun _ _ h => h⟩

/-- Daybreak keeps the device in its state, brings it to Twilight, or to Daylight where that was asked for and the device
ID is in use. -/
theorem daybreakBody_keeps (wasDay : Bool) (s : State) :
    ∃ d, (d = s.dev ∨ d = .twilight ∨ d = .daylight ∧ s.assigned = true ∧ s.daylightReq = true)
      ∧ Keeps { s with dev := d } (daybreakBody wasDay s) := by
  have htest := finishTests_keeps s
  have hstate : ∃ d, (d = s.dev ∨ d = .twilight ∨ d = .daylight ∧ s.assigned = true ∧ s.daylightReq = true)
      ∧ Keeps { s with dev := d } (if twilightDue (finishTests s) then
          { finishTests s with dev := .twilight, twilightAt := none }
        else if daylightOk (finishTests s) then { finishTests s with dev := .daylight, daylightReq := false }
        else finishTests s) := by
    split
    · exact ⟨.twilight, .inr (.inl rfl), htest.withDev _⟩
    split
    next hok =>
      simp only [daylightOk, Bool.and_eq_true] at hok
      obtain ⟨⟨_, _, hassigned, _⟩, _⟩ := htest
      refine ⟨.daylight, .inr (.inr ⟨rfl, ?_, ?_⟩), (finishTests_keeps s).withDev _⟩
      · exact hassigned ▸ hok.1.1.1.1.2
      · exact finishTests_daylightReq s ▸ hok.1.1.1.1.1
    · exact ⟨s.dev, .inl rfl, htest⟩
  obtain ⟨d, hd, hto⟩ := hstate
  refine ⟨d, hd, ?_⟩
  unfold daybreakBody
  dsimp only
  generalize (if twilightDue (finishTests s) then { finishTests s with dev := .twilight, twilightAt := none }
    else if daylightOk (finishTests s) then { finishTests s with dev := .daylight, daylightReq := false }
    else finishTests s) = t at hto ⊢
  generalize twilightDue (finishTests s) = twi
  have hshift : Keeps { s with dev := d }
      (shiftMap (swapCells { eachRegion (stopStep wasDay twi) t with badFlagWords := [] })) :=
    Keeps.after (shiftMap_keeps _) (Keeps.after (swapCells_keeps _)
      (hto.trans (eachRegion_keeps (stopStep_keeps wasDay twi) t)))
  generalize shiftMap (swapCells { eachRegion (stopStep wasDay twi) t with badFlagWords := [] }) = u at hshift ⊢
  generalize checkedRegions (swapCells { eachRegion (stopStep wasDay twi) t with badFlagWords := [] }) = checked
  have hborder := hshift.trans ((eachRegion_keeps changeStep_keeps u).trans ((eachRegion_keeps bindStep_keeps _).trans
    ((eachRegion_keeps farStep_keeps _).trans (foldl_keeps borderStep_keeps checked _))))
  generalize List.foldl borderStep _ checked = v at hborder ⊢
  have hload := (ite_ok (P := Keeps { s with dev := d }) (p := v.dev = .daylight)
    (hborder.trans (eachRegion_keeps swapStep_keeps v)) hborder).trans ((eachRegion_keeps wakeStep_keeps _).trans
      ((eachRegion_keeps joinStop_keeps _).trans ((eachRegion_keeps sampleStep_keeps _).trans (eachRegion_keeps loadStep_keeps _))))
  generalize eachRegion loadStep _ = w at hload ⊢
  refine Keeps.after (routeDay_keeps _) (Keeps.after (dayTables_keeps ..) (Keeps.after (farFlush_keeps _) ?_))
  exact ite_ok (P := Keeps { s with dev := d }) hload (hload.trans (wantStore_keeps ..))

/-- Out of Midnight the device may go to Twilight, and with the device ID in use to Daylight. -/
theorem withDev_inv {s : State} {d : DevState} (h : Inv s) (hm : s.dev ≠ .midnight) (he : s.assigned = s.assignedNext)
    (hd : d = s.dev ∨ d = .twilight ∨ d = .daylight ∧ s.assigned = true ∧ s.daylightReq = true) :
    Inv { s with dev := d } := by
  obtain ⟨hday, ⟨hstep, hmid, hrec⟩, hid⟩ := h
  have hlast : s.boot.step = 8 := by_contra fun hne => hm (hmid.2 hne)
  obtain rfl | rfl | ⟨rfl, hassigned, -⟩ := hd
  · exact ⟨hday, ⟨hstep, hmid, hrec⟩, hid⟩
  · exact ⟨hday, ⟨hstep, by simp [hlast], hrec⟩, by simp [idLegal]⟩
  · exact ⟨hday, ⟨hstep, by simp [hlast], hrec⟩, fun _ => ⟨hassigned, he ▸ hassigned⟩⟩

theorem execDaybreak_goes (s : State) : ∃ t, execDaybreak s = .next t ∧ Goes s t := by
  refine ⟨_, rfl, ?_⟩
  split
  · exact (Keeps.refl s).goes
  next hmid =>
    have hold : Keeps s (if s.dev = .daylight ∨ s.clock.src = 0 then toCycle (dayLen s) s else s) :=
      ite_ok (P := Keeps s) (toCycle_keeps ..) (Keeps.refl s)
    dsimp only
    generalize (if s.dev = .daylight ∨ s.clock.src = 0 then toCycle (dayLen s) s else s) = u at hold ⊢
    have hjudged := hold.trans (judgeReference_keeps u)
    have hnew : Keeps (newDay (judgeReference u)) (if missedReference u then logArmaik none 0x1A (u.clock.offset.setWidth 64)
        (newDay (judgeReference u)) else newDay (judgeReference u)) :=
      ite_ok (P := Keeps _) (logArmaik_keeps ..) (Keeps.refl _)
    generalize (if missedReference u then logArmaik none 0x1A (u.clock.offset.setWidth 64) (newDay (judgeReference u))
      else newDay (judgeReference u)) = p at hnew ⊢
    have hday : Goes s p := (hjudged.goes.trans (newDay_goes _)).keeps hnew
    obtain ⟨⟨-, hdev, hassigned, hassignedNext, -⟩, -⟩ := hnew
    obtain ⟨⟨-, hdevOld, -⟩, -⟩ := hjudged
    obtain ⟨d, hd, hbody⟩ := daybreakBody_keeps (decide (u.dev = .daylight)) p
    have hmidp : p.dev ≠ .midnight := hdev.trans hdevOld ▸ hmid
    have hto : Goes p { p with dev := d } :=
      goes_of_inv rfl rfl rfl fun h => withDev_inv h hmidp (hassigned.trans hassignedNext.symm) hd
    exact (hday.trans hto).keeps hbody

theorem execFirstDaybreak_goes (s : State) : ∃ t, execFirstDaybreak s = .next t ∧ Goes s t := by
  refine ⟨_, rfl, ?_⟩
  split
  · exact (Keeps.refl s).goes
  next hnot =>
    dsimp only
    have hnew : Goes s (newDay { s with cells := tset s.cells 0 deviceCell, daylightReq := false }) :=
      (Keeps.refl s).goes.trans (newDay_goes _)
    have hreq : (newDay { s with cells := tset s.cells 0 deviceCell, daylightReq := false }).daylightReq = false := rfl
    have hstep : (newDay { s with cells := tset s.cells 0 deviceCell, daylightReq := false }).boot.step = 6 := by
      simp only [not_or, not_not] at hnot
      exact hnot.2.1
    generalize newDay { s with cells := tset s.cells 0 deviceCell, daylightReq := false } = n at hnew hreq hstep ⊢
    obtain ⟨d, hd, hbody⟩ := daybreakBody_keeps false { n with dev := .twilight, clock := { n.clock with dayCount := 0 } }
    have htwilight : d = .twilight := by simpa [hreq] using hd
    subst htwilight
    generalize daybreakBody false { n with dev := .twilight, clock := { n.clock with dayCount := 0 } } = b at hbody ⊢
    refine Goes.keeps ?_ (raiseRollback_keeps _)
    refine hnew.trans ⟨hbody.1.1, fun ⟨hday, ⟨_, _, hrec⟩, _⟩ => ?_, hbody.memoryForm⟩
    obtain ⟨⟨-, hdev, -, -, hl, hk, hln, hkn, -, hrecb, -⟩, -⟩ := hbody
    refine ⟨?_, ⟨by simp, by simp [hdev], fun hr => ?_⟩, by simp [idLegal, hdev]⟩
    · simpa [dayLegal, hl, hk, hln, hkn] using hday
    · have := hrec (hrecb ▸ hr)
      omega

/-! Management writes. -/

theorem setDevice_goes {a : Nat} (v : Word) {s : State} (hd : isTwilightReg a = true → s.dev ≠ .daylight) :
    Goes s (setDevice a v s) := by
  unfold setDevice
  dsimp only
  split
  · exact goes_of_inv rfl rfl rfl fun ⟨hday, hboot, _⟩ => ⟨hday, hboot, fun h => absurd h (hd (by decide))⟩
  · split
    next hok =>
      refine goes_of_inv rfl rfl rfl fun ⟨hday, hboot, hid⟩ => ⟨⟨hday.1, ?_⟩, hboot, hid⟩
      simpa [fld, BitVec.toNat_setWidth] using hok
    · exact (Keeps.refl s).goes
  · split
    next hok =>
      refine goes_of_inv rfl rfl rfl fun ⟨hday, hboot, hid⟩ => ⟨⟨hday.1, ?_⟩, hboot, hid⟩
      simpa [fld, BitVec.toNat_setWidth] using hok
    · exact (Keeps.refl s).goes
  · exact ite_ok (P := Goes s) (Keeps.refl s).goes (Keeps.refl s).goes
  · exact (setWays_keeps ..).goes
  · exact (setWays_keeps ..).goes
  · exact (Keeps.refl s).goes

theorem mgmtWrite_goes (a : Nat) (v : Word) (s : State) : Goes s (mgmtWrite a v s) := by
  refine ite_ok (P := Goes s) ?_ (ite_ok (P := Goes s) (setRegion_keeps ..).goes (ite_ok (P := Goes s)
    (Keeps.after (reply_keeps ..) (setRoutes_keeps ..)).goes (ite_ok (P := Goes s)
      (Keeps.after (reply_keeps ..) (setLog_keeps ..)).goes (ite_ok (P := Goes s)
        (Keeps.after (reply_keeps ..) (setCounter_keeps ..)).goes (reply_keeps ..).goes))))
  split
  · exact (answer_keeps ..).goes
  next h => exact (setDevice_goes v (by simpa using h)).keeps (reply_keeps ..)

theorem execMgmtSet_goes (who : Requester) (addr : BitVec 32) (v : BitVec 64) (s : State) :
    ∃ t, execMgmtSet who addr v s = .next t ∧ Goes s t :=
  ⟨_, rfl, ite_ok (P := Goes s) (Keeps.refl s).goes (ite_ok (P := Goes s) (reply_keeps ..).goes (mgmtWrite_goes ..))⟩

/-! ### Every command and every step -/

theorem Answers.goes {s : State} {o : Host.Outcome State Fault Refusal} (h : Answers s o) : ∃ t, o = .next t ∧ Goes s t := by
  obtain ⟨t, ho, ht⟩ := h
  exact ⟨t, ho, ht.goes⟩

/-- Every command answers a next state, keeps the queue, and leads from a legal state to a legal one and from memories in
canonical form to memories in it. -/
theorem exec_goes (i : Instr) (s : State) : ∃ t, exec i s = .next t ∧ Goes s t := by
  cases i with
  | add => exact (execAdd_answers ..).goes
  | sub => exact (execSub_answers ..).goes
  | and => exact (execAnd_answers ..).goes
  | or => exact (execOr_answers ..).goes
  | xor => exact (execXor_answers ..).goes
  | andn => exact (execAndn_answers ..).goes
  | shl => exact (execShl_answers ..).goes
  | shr => exact (execShr_answers ..).goes
  | sar => exact (execSar_answers ..).goes
  | ror => exact (execRor_answers ..).goes
  | mul => exact (execMul_answers ..).goes
  | mulh => exact (execMulh_answers ..).goes
  | mulhu => exact (execMulhu_answers ..).goes
  | div => exact (execDiv_answers ..).goes
  | divu => exact (execDivu_answers ..).goes
  | rem => exact (execRem_answers ..).goes
  | remu => exact (execRemu_answers ..).goes
  | min => exact (execMin_answers ..).goes
  | max => exact (execMax_answers ..).goes
  | minu => exact (execMinu_answers ..).goes
  | maxu => exact (execMaxu_answers ..).goes
  | clz => exact (execClz_answers ..).goes
  | ctz => exact (execCtz_answers ..).goes
  | popc => exact (execPopc_answers ..).goes
  | sextb => exact (execSextb_answers ..).goes
  | sexth => exact (execSexth_answers ..).goes
  | sextw => exact (execSextw_answers ..).goes
  | zextw => exact (execZextw_answers ..).goes
  | addi => exact (execAddi_answers ..).goes
  | andi => exact (execAndi_answers ..).goes
  | ori => exact (execOri_answers ..).goes
  | xori => exact (execXori_answers ..).goes
  | shli => exact (execShli_answers ..).goes
  | shri => exact (execShri_answers ..).goes
  | sari => exact (execSari_answers ..).goes
  | rori => exact (execRori_answers ..).goes
  | movi => exact (execMovi_answers ..).goes
  | movsh => exact (execMovsh_answers ..).goes
  | cmp => exact (execCmp_answers ..).goes
  | cmpi => exact (execCmpi_answers ..).goes
  | pand => exact (execPand_answers ..).goes
  | por => exact (execPor_answers ..).goes
  | pxor => exact (execPxor_answers ..).goes
  | pandn => exact (execPandn_answers ..).goes
  | pnot => exact (execPnot_answers ..).goes
  | pmov => exact (execPmov_answers ..).goes
  | fadd => exact (execFadd_answers ..).goes
  | fsub => exact (execFsub_answers ..).goes
  | fmul => exact (execFmul_answers ..).goes
  | fdiv => exact (execFdiv_answers ..).goes
  | fmin => exact (execFmin_answers ..).goes
  | fmax => exact (execFmax_answers ..).goes
  | fsqrt => exact (execFsqrt_answers ..).goes
  | fabs => exact (execFabs_answers ..).goes
  | fneg => exact (execFneg_answers ..).goes
  | fcvt => exact (execFcvt_answers ..).goes
  | fcvti => exact (execFcvti_answers ..).goes
  | fcvtu => exact (execFcvtu_answers ..).goes
  | icvtf => exact (execIcvtf_answers ..).goes
  | ucvtf => exact (execUcvtf_answers ..).goes
  | fclass => exact (execFclass_answers ..).goes
  | fma => exact (execFma_answers ..).goes
  | fnma => exact (execFnma_answers ..).goes
  | fcmp => exact (execFcmp_answers ..).goes
  | br => exact (execBr_answers ..).goes
  | call => exact (execCall_answers ..).goes
  | jmp => exact (execJmp_answers ..).goes
  | jmpl => exact (execJmpl_answers ..).goes
  | ldb => exact (execLdb_answers ..).goes
  | ldbu => exact (execLdbu_answers ..).goes
  | ldh => exact (execLdh_answers ..).goes
  | ldhu => exact (execLdhu_answers ..).goes
  | ldw => exact (execLdw_answers ..).goes
  | ldwu => exact (execLdwu_answers ..).goes
  | ldd => exact (execLdd_answers ..).goes
  | stb => exact (execStb_answers ..).goes
  | sth => exact (execSth_answers ..).goes
  | stw => exact (execStw_answers ..).goes
  | std => exact (execStd_answers ..).goes
  | vld => exact (execVld_answers ..).goes
  | vst => exact (execVst_answers ..).goes
  | portIn => exact (execPortIn_answers ..).goes
  | portOut => exact (execPortOut_answers ..).goes
  | inr => exact (execInr_answers ..).goes
  | outr => exact (execOutr_answers ..).goes
  | smove => exact (execSmove_answers ..).goes
  | sfill => exact (execSfill_answers ..).goes
  | scmp => exact (execScmp_answers ..).goes
  | sscan => exact (execSscan_answers ..).goes
  | sscann => exact (execSscann_answers ..).goes
  | cload => exact (execCload_answers ..).goes
  | cread => exact (execCread_answers ..).goes
  | send => exact (execSend_answers ..).goes
  | nop => exact (execNop_answers ..).goes
  | fence => exact (execFence_answers ..).goes
  | trap => exact (execTrap_answers ..).goes
  | rett => exact (execRett_answers ..).goes
  | hold => exact (execHold_answers ..).goes
  | reservedEncoding => exact (execReservedEncoding_answers ..).goes
  | mov16 => exact (execMov16_answers ..).goes
  | add16 => exact (execAdd16_answers ..).goes
  | sub16 => exact (execSub16_answers ..).goes
  | and16 => exact (execAnd16_answers ..).goes
  | or16 => exact (execOr16_answers ..).goes
  | xor16 => exact (execXor16_answers ..).goes
  | shl16 => exact (execShl16_answers ..).goes
  | shr16 => exact (execShr16_answers ..).goes
  | addi16 => exact (execAddi16_answers ..).goes
  | movi16 => exact (execMovi16_answers ..).goes
  | shli16 => exact (execShli16_answers ..).goes
  | shri16 => exact (execShri16_answers ..).goes
  | sari16 => exact (execSari16_answers ..).goes
  | ldd16 => exact (execLdd16_answers ..).goes
  | std16 => exact (execStd16_answers ..).goes
  | ldw16 => exact (execLdw16_answers ..).goes
  | stw16 => exact (execStw16_answers ..).goes
  | bz16 => exact (execBz16_answers ..).goes
  | bnz16 => exact (execBnz16_answers ..).goes
  | bltz16 => exact (execBltz16_answers ..).goes
  | bgez16 => exact (execBgez16_answers ..).goes
  | br16 => exact (execBr16_answers ..).goes
  | in16 => exact (execIn16_answers ..).goes
  | out16 => exact (execOut16_answers ..).goes
  | nop16 => exact (execNop16_answers ..).goes
  | ret16 => exact (execRet16_answers ..).goes
  | trap16 => exact (execTrap16_answers ..).goes
  | vmov => exact (execVmov_answers ..).goes
  | vbcast => exact (execVbcast_answers ..).goes
  | vext => exact (execVext_answers ..).goes
  | vins => exact (execVins_answers ..).goes
  | vrotb => exact (execVrotb_answers ..).goes
  | vsel => exact (execVsel_answers ..).goes
  | vtot => exact (execVtot_answers ..).goes
  | vfromt => exact (execVfromt_answers ..).goes
  | mlog => exact (execMlog_answers ..).goes
  | mfromg => exact (execMfromg_answers ..).goes
  | mtog => exact (execMtog_answers ..).goes
  | tinfo => exact (execTinfo_answers ..).goes
  | vtz => exact (execVtz_answers ..).goes
  | vzbm => exact (execVzbm_answers ..).goes
  | vadd => exact (execVadd_answers ..).goes
  | vsub => exact (execVsub_answers ..).goes
  | vmul => exact (execVmul_answers ..).goes
  | vmin => exact (execVmin_answers ..).goes
  | vmax => exact (execVmax_answers ..).goes
  | vminu => exact (execVminu_answers ..).goes
  | vmaxu => exact (execVmaxu_answers ..).goes
  | vand => exact (execVand_answers ..).goes
  | vor => exact (execVor_answers ..).goes
  | vxor => exact (execVxor_answers ..).goes
  | vshl => exact (execVshl_answers ..).goes
  | vshr => exact (execVshr_answers ..).goes
  | vsar => exact (execVsar_answers ..).goes
  | vcmpeq => exact (execVcmpeq_answers ..).goes
  | vcmplt => exact (execVcmplt_answers ..).goes
  | vcmpltu => exact (execVcmpltu_answers ..).goes
  | vfadd => exact (execVfadd_answers ..).goes
  | vfsub => exact (execVfsub_answers ..).goes
  | vfmul => exact (execVfmul_answers ..).goes
  | vfdiv => exact (execVfdiv_answers ..).goes
  | vfsqrt => exact (execVfsqrt_answers ..).goes
  | vfma => exact (execVfma_answers ..).goes
  | vfnma => exact (execVfnma_answers ..).goes
  | vfmin => exact (execVfmin_answers ..).goes
  | vfmax => exact (execVfmax_answers ..).goes
  | vfabs => exact (execVfabs_answers ..).goes
  | vfneg => exact (execVfneg_answers ..).goes
  | vfcmpeq => exact (execVfcmpeq_answers ..).goes
  | vfcmplt => exact (execVfcmplt_answers ..).goes
  | vfcmple => exact (execVfcmple_answers ..).goes
  | vfcmpun => exact (execVfcmpun_answers ..).goes
  | vcvts => exact (execVcvts_answers ..).goes
  | vcvtf => exact (execVcvtf_answers ..).goes
  | vcvtis => exact (execVcvtis_answers ..).goes
  | vcvtsi => exact (execVcvtsi_answers ..).goes
  | vcvtld => exact (execVcvtld_answers ..).goes
  | vcvtdl => exact (execVcvtdl_answers ..).goes
  | vunpkt2 => exact (execVunpkt2_answers ..).goes
  | vpackt2 => exact (execVpackt2_answers ..).goes
  | tcfg => exact (execTcfg_answers ..).goes
  | tld => exact (execTld_answers ..).goes
  | tst => exact (execTst_answers ..).goes
  | trel => exact (execTrel_answers ..).goes
  | mma => exact (execMma_answers ..).goes
  | mmaStart => exact (execMmaStart_answers ..).goes
  | mmaComplete => exact (execMmaComplete_answers ..).goes
  | acvt => exact (execAcvt_answers ..).goes
  | acvtComplete => exact (execAcvtComplete_answers ..).goes
  | azero => exact (execAzero_answers ..).goes
  | ald => exact (execAld_answers ..).goes
  | ast => exact (execAst_answers ..).goes
  | storeBufferRetire => exact (execStoreBufferRetire_answers ..).goes
  | handlerEntry => exact (execHandlerEntry_answers ..).goes
  | eventTaken => exact (execEventTaken_answers ..).goes
  | holdExpiry => exact (execHoldExpiry_answers ..).goes
  | timerExpiry => exact (execTimerExpiry_answers ..).goes
  | waitComplete => exact (execWaitComplete_answers ..).goes
  | evWait => exact (execEvWait_answers ..).goes
  | noticeLo => exact (execNoticeLo_answers ..).goes
  | noticeHi => exact (execNoticeHi_answers ..).goes
  | monNoticeLo => exact (execMonNoticeLo_answers ..).goes
  | monNoticeHi => exact (execMonNoticeHi_answers ..).goes
  | noticeMark => exact (execNoticeMark_answers ..).goes
  | noticeRewind => exact (execNoticeRewind_answers ..).goes
  | noticeRelease => exact (execNoticeRelease_answers ..).goes
  | timerSet => exact (execTimerSet_answers ..).goes
  | srSeed => exact (execSrSeed_answers ..).goes
  | errCauseRead => exact (execErrCauseRead_answers ..).goes
  | ctrTarget => exact (execCtrTarget_answers ..).goes
  | dayDone => exact (execDayDone_answers ..).goes
  | moverSubmit => exact (execMoverSubmit_answers ..).goes
  | moverDone => exact (execMoverDone_answers ..).goes
  | streamSubmit => exact (execStreamSubmit_answers ..).goes
  | streamDone => exact (execStreamDone_answers ..).goes
  | streamCancel => exact (execStreamCancel_answers ..).goes
  | flagSet => exact (execFlagSet_answers ..).goes
  | flagClear => exact (execFlagClear_answers ..).goes
  | ctrAdd => exact (execCtrAdd_answers ..).goes
  | flagCounterRead => exact (execFlagCounterRead_answers ..).goes
  | flagWait => exact (execFlagWait_answers ..).goes
  | ctrWait => exact (execCtrWait_answers ..).goes
  | cellCreate => exact (execCellCreate_answers ..).goes
  | cellDelete => exact (execCellDelete_answers ..).goes
  | cellStatus => exact (execCellStatus_answers ..).goes
  | routeLoad => exact (execRouteLoad_answers ..).goes
  | routeLoadDone => exact (execRouteLoadDone_answers ..).goes
  | regionResume => exact (execRegionResume_answers ..).goes
  | hostNotification => exact (execHostNotification_answers ..).goes
  | launchCompletion => exact (execLaunchCompletion_answers ..).goes
  | registerWrite => exact (execRegisterWrite_answers ..).goes
  | daybreak => exact execDaybreak_goes ..
  | dawnControlWords => exact (execDawnControlWords_answers ..).goes
  | variantLatch => exact (execVariantLatch_answers ..).goes
  | shadowAccumulatorResolve => exact (execShadowAccumulatorResolve_answers ..).goes
  | deferredFaultEntry => exact (execDeferredFaultEntry_answers ..).goes
  | dawnFlagClear => exact (execDawnFlagClear_answers ..).goes
  | launchStart => exact (execLaunchStart_answers ..).goes
  | dawnEvent => exact (execDawnEvent_answers ..).goes
  | noonStart => exact (execNoonStart_answers ..).goes
  | duskStart => exact (execDuskStart_answers ..).goes
  | dayOverrun => exact (execDayOverrun_answers ..).goes
  | flitAtRouter => exact (execFlitAtRouter_answers ..).goes
  | messageLanding => exact (execMessageLanding_answers ..).goes
  | landingFlit => exact (execLandingFlit_answers ..).goes
  | landingComplete => exact (execLandingComplete_answers ..).goes
  | tailWriteRelease => exact (execTailWriteRelease_answers ..).goes
  | tailHoldExpiry => exact (execTailHoldExpiry_answers ..).goes
  | flagBankUpdate => exact (execFlagBankUpdate_answers ..).goes
  | queuePointerMismatch => exact (execQueuePointerMismatch_answers ..).goes
  | moverTransferStart => exact (execMoverTransferStart_answers ..).goes
  | moverCompletion => exact (execMoverCompletion_answers ..).goes
  | streamDescriptorStart => exact (execStreamDescriptorStart_answers ..).goes
  | dependenceMarkerRelease => exact (execDependenceMarkerRelease_answers ..).goes
  | burstIssue => exact (execBurstIssue_answers ..).goes
  | burstComplete => exact (execBurstComplete_answers ..).goes
  | decryptBlockCheck => exact (execDecryptBlockCheck_answers ..).goes
  | shoreSlot => exact (execShoreSlot_answers ..).goes
  | streamComplete => exact (execStreamComplete_answers ..).goes
  | streamArrivalSignal => exact (execStreamArrivalSignal_answers ..).goes
  | hbmPatrol => exact (execHbmPatrol_answers ..).goes
  | localScrub => exact (execLocalScrub_answers ..).goes
  | tableUncorrectable => exact (execTableUncorrectable_answers ..).goes
  | spillCacheMissFill => exact (execSpillCacheMissFill_answers ..).goes
  | spillWayDisable => exact (execSpillWayDisable_answers ..).goes
  | tailPoll => exact (execTailPoll_answers ..).goes
  | descriptorFetch => exact (execDescriptorFetch_answers ..).goes
  | nopDescriptor => exact (execNopDescriptor_answers ..).goes
  | launch => exact (execLaunch_answers ..).goes
  | notify => exact (execNotify_answers ..).goes
  | portOpen => exact (execPortOpen_answers ..).goes
  | portClose => exact (execPortClose_answers ..).goes
  | query => exact (execQuery_answers ..).goes
  | completionEntryWrite => exact (execCompletionEntryWrite_answers ..).goes
  | interruptMessage => exact (execInterruptMessage_answers ..).goes
  | pushWrite => exact (execPushWrite_answers ..).goes
  | portBurstDone => exact (execPortBurstDone_answers ..).goes
  | portClosed => exact (execPortClosed_answers ..).goes
  | notifyWrite => exact (execNotifyWrite_answers ..).goes
  | setupLock => exact (execSetupLock_answers ..).goes
  | ringEnable => exact (execRingEnable_answers ..).goes
  | functionLevelReset => exact (execFunctionLevelReset_answers ..).goes
  | perst => exact (execPerst_answers ..).goes
  | translationCompletion => exact (execTranslationCompletion_answers ..).goes
  | pageRequestResponse => exact (execPageRequestResponse_answers ..).goes
  | atsInvalidation => exact (execAtsInvalidation_answers ..).goes
  | completionTimeout => exact (execCompletionTimeout_answers ..).goes
  | laserInputLoss => exact (execLaserInputLoss_answers ..).goes
  | handshake => exact (execHandshake_answers ..).goes
  | linkDown => exact (execLinkDown_answers ..).goes
  | retrainTimeout => exact (execRetrainTimeout_answers ..).goes
  | linkFlitSend => exact (execLinkFlitSend_answers ..).goes
  | linkFlitReceived => exact (execLinkFlitReceived_answers ..).goes
  | controlFlit => exact (execControlFlit_answers ..).goes
  | controlFlitDue => exact (execControlFlitDue_answers ..).goes
  | nakResend => exact (execNakResend_answers ..).goes
  | daybreakMarker => exact (execDaybreakMarker_answers ..).goes
  | daybreakInEdge => exact (execDaybreakInEdge_answers ..).goes
  | linkWindowOpen => exact (execLinkWindowOpen_answers ..).goes
  | linkWindowLoad => exact (execLinkWindowLoad_answers ..).goes
  | createRegion => exact (execCreateRegion_answers ..).goes
  | deleteRegion => exact (execDeleteRegion_answers ..).goes
  | switchContext => exact (execSwitchContext_answers ..).goes
  | bootImageLoad => exact (execBootImageLoad_answers ..).goes
  | bulkWindowZeroFill => exact (execBulkWindowZeroFill_answers ..).goes
  | coreZeroingComplete => exact (execCoreZeroingComplete_answers ..).goes
  | takeOwnership => exact (execTakeOwnership_answers ..).goes
  | releaseOwnership => exact (execReleaseOwnership_answers ..).goes
  | firmwareUpdate => exact (execFirmwareUpdate_answers ..).goes
  | firmwareRollback => exact (execFirmwareRollback_answers ..).goes
  | clearKeys => exact (execClearKeys_answers ..).goes
  | clearSpareMap => exact (execClearSpareMap_answers ..).goes
  | reinstate => exact (execReinstate_answers ..).goes
  | debugOpen => exact (execDebugOpen_answers ..).goes
  | debugClose => exact (execDebugClose_answers ..).goes
  | debugCommand => exact (execDebugCommand_answers ..).goes
  | breakpointMatch => exact (execBreakpointMatch_answers ..).goes
  | jtagDebugSession => exact (execJtagDebugSession_answers ..).goes
  | enterDaylight => exact (execEnterDaylight_answers ..).goes
  | enterTwilight => exact (execEnterTwilight_answers ..).goes
  | nightCommand => exact (execNightCommand_answers ..).goes
  | wakeRegion => exact (execWakeRegion_answers ..).goes
  | selfTestComplete => exact (execSelfTestComplete_answers ..).goes
  | deviceReset => exact execDeviceReset_goes ..
  | coreRestart => exact (execCoreRestart_answers ..).goes
  | managementQuery => exact (execManagementQuery_answers ..).goes
  | mgmtSet => exact execMgmtSet_goes ..
  | spillWaysPower => exact (execSpillWaysPower_answers ..).goes
  | tlsHandshake => exact (execTlsHandshake_answers ..).goes
  | getVersion => exact (execGetVersion_answers ..).goes
  | getCapabilities => exact (execGetCapabilities_answers ..).goes
  | negotiateAlgorithms => exact (execNegotiateAlgorithms_answers ..).goes
  | getDigests => exact (execGetDigests_answers ..).goes
  | getCertificate => exact (execGetCertificate_answers ..).goes
  | challenge => exact (execChallenge_answers ..).goes
  | getMeasurements => exact (execGetMeasurements_answers ..).goes
  | keyExchange tr share => exact (execKeyExchange_answers tr share s).goes
  | finish => exact (execFinish_answers ..).goes
  | heartbeat => exact (execHeartbeat_answers ..).goes
  | bindRegion => exact (execBindRegion_answers ..).goes
  | installKey => exact (execInstallKey_answers ..).goes
  | presenceNFall => exact (execPresenceNFall_answers ..).goes
  | presenceWindowClose => exact (execPresenceWindowClose_answers ..).goes
  | coreFailureDeclaration => exact (execCoreFailureDeclaration_answers ..).goes
  | migration => exact (execMigration_answers ..).goes
  | hopFault => exact (execHopFault_answers ..).goes
  | flashStore => exact (execFlashStore_answers ..).goes
  | powerOn => exact execPowerOn_goes ..
  | powerLoss => exact execPowerLoss_goes ..
  | resetNAssert => exact execResetNAssert_goes ..
  | resetNDeassert => exact execResetNDeassert_goes ..
  | hbmTrainingDone => exact execHbmTrainingDone_goes ..
  | bistDone => exact execBistDone_goes ..
  | firstDaybreak => exact execFirstDaybreak_goes ..
  | recoveryImage => exact execRecoveryImage_goes ..
  | clockLoss => exact execClockLoss_goes ..
  | thermalTrip => exact execThermalTrip_goes ..
  | thermalAlert => exact execThermalAlert_goes ..
  | armaikWatchdog => exact execArmaikWatchdog_goes ..
  | bootWatchdog => exact execBootWatchdog_goes ..
  | telemetrySample => exact execTelemetrySample_goes ..
  | laserInputRestored => exact (execLaserInputRestored_answers ..).goes
  | fecLockGained => exact (execFecLockGained_answers ..).goes
  | referenceClockReturn => exact execReferenceClockReturn_goes ..
  | perstNDeassert => exact (execPerstNDeassert_answers ..).goes
  | endSession => exact (execEndSession_answers ..).goes
  | managementConnectionEnd => exact (execManagementConnectionEnd_answers ..).goes

theorem goes_of_exec {i : Instr} {s t : State} (h : exec i s = .next t) : Goes s t := by
  obtain ⟨u, hu, hg⟩ := exec_goes i s
  rw [hu] at h
  cases h
  exact hg

theorem step_nil {s : State} (h : s.pending = []) : step s = .next (pass 1 s) := by
  unfold step
  rw [h]

theorem step_cons {s : State} {i : Instr} {rest : List Instr} (h : s.pending = i :: rest) :
    step s = exec i { s with pending := rest } := by
  unfold step
  rw [h]

/-- A step leads from a legal state to a legal one and from memories in canonical form to memories in it. -/
theorem step_keeps {s t : State} (h : step s = .next t) : (Inv s → Inv t) ∧ (memoryForm s → memoryForm t) := by
  cases hq : s.pending with
  | nil =>
    rw [step_nil hq] at h
    cases h
    exact (pass_keeps 1 s).goes.2
  | cons i rest =>
    rw [step_cons hq] at h
    exact (goes_of_exec h).2

/-- Settles O2: each command's arm answers a next state with the same queue. -/
theorem everyCommandAnswersAndKeepsTheQueue : Obligations.EveryCommandAnswersAndKeepsTheQueue := by
  refine ⟨fun i s t h => (goes_of_exec h).1, fun i s => ?_⟩
  obtain ⟨t, ht, -⟩ := exec_goes i s
  exact ⟨t, ht⟩

/-- Settles O3, through what each command keeps of the fields that legality speaks of. -/
theorem stepKeepsTheStateLegal : Obligations.StepKeepsTheStateLegal := fun _ _ hs h => (step_keeps h).1 hs

/-- Settles O4: every write goes through the canonical operations of the byte memories. -/
theorem stepKeepsMemoriesCanonical : Obligations.StepKeepsMemoriesCanonical := fun _ _ hs h => (step_keeps h).2 hs

end Sys2Proof.Machine

/-!
SUPPORT. The integer operations: what each computes, and what an instruction that writes one register leaves.
-/
namespace Sys2Proof.Machine
open Sys2Proof Sys2Proof.Safety

/-! ### Instructions that write one register -/

theorem aluG_runs {h : Hart} {p : Fin 8} {len : Nat} {s : State} (hr : Runs h p len s) (d : Fin 32) (f : Thread → Word)
    {v : Word} (hv : f (thread s h) = v) : aluG h p len d f s = .next (after h len (putG d v) s) := by
  rw [aluG, issue_runs h p len _ s hr rfl rfl rfl, finish_g, hv]

theorem alu1_runs {h : Hart} {p : Fin 8} {len : Nat} {s : State} (hr : Runs h p len s) (d a : Fin 32) (f : Word → Word)
    {v : Word} (hv : f (gReg (thread s h) a) = v) : alu1 h p len d a f s = .next (after h len (putG d v) s) :=
  aluG_runs hr d _ hv

theorem alu2_runs {h : Hart} {p : Fin 8} {len : Nat} {s : State} (hr : Runs h p len s) (d a b : Fin 32)
    (f : Word → Word → Word) {v : Word} (hv : f (gReg (thread s h) a) (gReg (thread s h) b) = v) :
    alu2 h p len d a b f s = .next (after h len (putG d v) s) := aluG_runs hr d _ hv

/-! ### The operations -/

theorem rotateRight_eq (x : Word) (n : Nat) (hn : n < 64) : x.rotateRight n = (x >>> n) ||| (x <<< ((64 - n) % 64)) := by
  rw [BitVec.rotateRight_def, Nat.mod_eq_of_lt hn]
  rcases Nat.eq_zero_or_pos n with rfl | hpos
  · simp
  · rw [Nat.mod_eq_of_lt (show 64 - n < 64 by omega)]

theorem ror64_eq (x y : Word) : ror64 x y = (x >>> (y.toNat % 64)) ||| (x <<< ((64 - y.toNat % 64) % 64)) :=
  rotateRight_eq x _ (Nat.mod_lt _ (by decide))

theorem mulh_eq (x y : Word) : mulh x y = BitVec.ofInt 64 (x.toInt * y.toInt / 2 ^ 64) := by
  have hprod : x.signExtend 128 * y.signExtend 128 = BitVec.ofInt 128 (x.toInt * y.toInt) := by
    rw [BitVec.ofInt_mul]
    rfl
  apply BitVec.eq_of_toNat_eq
  simp only [mulh, hprod, BitVec.toNat_setWidth, BitVec.toNat_ushiftRight, BitVec.toNat_ofInt, Nat.shiftRight_eq_div_pow]
  omega

theorem mulhu_eq (x y : Word) : mulhu x y = BitVec.ofNat 64 (x.toNat * y.toNat / 2 ^ 64) := by
  have hx := x.isLt
  have hy := y.isLt
  have hxy : x.toNat * y.toNat < 2 ^ 128 := by
    calc x.toNat * y.toNat < 2 ^ 64 * 2 ^ 64 := Nat.mul_lt_mul'' hx hy
      _ = 2 ^ 128 := by norm_num
  apply BitVec.eq_of_toNat_eq
  simp only [mulhu, BitVec.toNat_setWidth, BitVec.toNat_ushiftRight, BitVec.toNat_mul, BitVec.toNat_ofNat,
    Nat.shiftRight_eq_div_pow]
  rw [Nat.mod_eq_of_lt (show x.toNat < 2 ^ 128 by omega), Nat.mod_eq_of_lt (show y.toNat < 2 ^ 128 by omega),
    Nat.mod_eq_of_lt hxy]

theorem divS_eq (x y : Word) : divS x y = quotient x y := by
  unfold divS quotient
  split
  · rfl
  · apply BitVec.eq_of_toInt_eq
    rw [BitVec.toInt_sdiv, BitVec.toInt_ofInt]

theorem remS_eq (x y : Word) : remS x y = remainder x y := by
  unfold remS remainder
  split
  · rfl
  · rw [← BitVec.toInt_srem, BitVec.ofInt_toInt]

theorem divU_eq (x y : Word) : divU x y = if y = 0 then BitVec.allOnes 64 else BitVec.ofNat 64 (x.toNat / y.toNat) := by
  unfold divU
  split
  · rfl
  · rw [← BitVec.toNat_udiv, BitVec.ofNat_toNat, BitVec.setWidth_eq]

theorem remU_eq (x y : Word) : remU x y = if y = 0 then x else BitVec.ofNat 64 (x.toNat % y.toNat) := by
  unfold remU
  split
  · rfl
  · rw [← BitVec.toNat_umod, BitVec.ofNat_toNat, BitVec.setWidth_eq]

theorem minS_eq (x y : Word) : minS x y = if x.toInt < y.toInt then x else y := by
  simp [minS, BitVec.slt_iff_toInt_lt]

theorem maxS_eq (x y : Word) : maxS x y = if x.toInt < y.toInt then y else x := by
  simp [maxS, BitVec.slt_iff_toInt_lt]

theorem mul_eq_ofNat (x y : Word) : x * y = BitVec.ofNat 64 (x.toNat * y.toNat) := by
  apply BitVec.eq_of_toNat_eq
  rw [BitVec.toNat_mul, BitVec.toNat_ofNat]

/-- Settles O9: each operation, through the path of the instructions that write one register. -/
theorem integerOperationsOnTwoRegisters : Obligations.IntegerOperationsOnTwoRegisters := by
  intro h p d a b s hr
  dsimp only
  refine ⟨?_, ?_, ?_, ?_, ?_, ?_, ?_, ?_, ?_, ?_, ?_, ?_, ?_, ?_, ?_, ?_, ?_, ?_, ?_, ?_, ?_⟩
  case refine_6 => exact alu2_runs hr d a b (fun x y => x &&& ~~~y) rfl
  case refine_10 => exact alu2_runs hr _ _ _ _ (ror64_eq ..)
  case refine_11 => exact alu2_runs hr _ _ _ _ (mul_eq_ofNat ..)
  case refine_12 => exact alu2_runs hr _ _ _ _ (mulh_eq ..)
  case refine_13 => exact alu2_runs hr _ _ _ _ (mulhu_eq ..)
  case refine_14 => exact alu2_runs hr _ _ _ _ (divS_eq ..)
  case refine_15 => exact alu2_runs hr _ _ _ _ (divU_eq ..)
  case refine_16 => exact alu2_runs hr _ _ _ _ (remS_eq ..)
  case refine_17 => exact alu2_runs hr _ _ _ _ (remU_eq ..)
  case refine_18 => exact alu2_runs hr _ _ _ _ (minS_eq ..)
  case refine_19 => exact alu2_runs hr _ _ _ _ (maxS_eq ..)
  all_goals exact alu2_runs hr _ _ _ _ rfl

/-! ### Bit counts, extensions and immediates -/

theorem clz_spec (x : Word) : ∃ n : Nat, n ≤ 64 ∧ x.toNat < 2 ^ (64 - n) ∧ (n < 64 → 2 ^ (63 - n) ≤ x.toNat)
    ∧ clz x = BitVec.ofNat 64 n := by
  by_cases hx : x = 0
  · exact ⟨64, by simp [hx, clz]⟩
  · have hne : x.toNat ≠ 0 := fun h => hx (BitVec.eq_of_toNat_eq h)
    have hlog : Nat.log2 x.toNat < 64 := (Nat.log2_lt hne).2 x.isLt
    refine ⟨63 - Nat.log2 x.toNat, by omega, ?_, fun _ => ?_, if_neg hx⟩
    · rw [show 64 - (63 - Nat.log2 x.toNat) = Nat.log2 x.toNat + 1 by omega]
      exact Nat.lt_log2_self
    · rw [show 63 - (63 - Nat.log2 x.toNat) = Nat.log2 x.toNat by omega]
      exact Nat.log2_self_le hne

/-- The search from bit `i` on ends at the lowest set bit that it finds, or after `n` bits. -/
theorem ctzN_spec (x : Word) (n : Nat) : ∀ i, i ≤ ctzN x n i ∧ ctzN x n i ≤ i + n
    ∧ (∀ j, i ≤ j → j < ctzN x n i → x.getLsbD j = false) ∧ (ctzN x n i < i + n → x.getLsbD (ctzN x n i) = true) := by
  induction n with
  | zero => exact fun i => ⟨le_refl i, le_refl i, fun j h h' => absurd h' (by simpa [ctzN] using h), fun h => absurd h (by simp [ctzN])⟩
  | succ n ih =>
    intro i
    by_cases hb : x.getLsbD i = true
    · have hi : ctzN x (n + 1) i = i := by simp [ctzN, bit, hb]
      rw [hi]
      exact ⟨le_refl i, by omega, fun j _ _ => by omega, fun _ => hb⟩
    · have hi : ctzN x (n + 1) i = ctzN x n (i + 1) := by simp [ctzN, bit, hb]
      rw [hi]
      obtain ⟨hlo, hhi, hzero, hone⟩ := ih (i + 1)
      refine ⟨by omega, by omega, fun j hj hj' => ?_, fun h => hone (by omega)⟩
      rcases Nat.eq_or_lt_of_le hj with rfl | hlt
      · simpa using hb
      · exact hzero j hlt hj'

theorem two_pow_dvd_iff (x : Word) (n : Nat) : 2 ^ n ∣ x.toNat ↔ ∀ j < n, x.getLsbD j = false := by
  rw [Nat.dvd_iff_mod_eq_zero]
  constructor
  · intro h j hj
    have := congrArg (Nat.testBit · j) h
    simpa [Nat.testBit_mod_two_pow, hj, BitVec.getLsbD] using this
  · intro h
    refine Nat.eq_of_testBit_eq fun j => ?_
    rw [Nat.testBit_mod_two_pow, Nat.zero_testBit]
    by_cases hj : j < n
    · simpa [hj, BitVec.getLsbD] using h j hj
    · simp [hj]

theorem ctz_spec (x : Word) : ∃ n : Nat, n ≤ 64 ∧ 2 ^ n ∣ x.toNat ∧ (n < 64 → ¬ 2 ^ (n + 1) ∣ x.toNat)
    ∧ (n = 64 → x = 0) ∧ ctz x = BitVec.ofNat 64 n := by
  obtain ⟨-, hle, hzero, hone⟩ := ctzN_spec x 64 0
  refine ⟨ctzN x 64 0, by omega, (two_pow_dvd_iff ..).2 fun j hj => hzero j (Nat.zero_le j) hj, fun h hd => ?_, fun h => ?_, rfl⟩
  · have := (two_pow_dvd_iff ..).1 hd _ (Nat.lt_succ_self _)
    rw [hone (by omega)] at this
    exact absurd this (by decide)
  · exact BitVec.eq_of_getLsbD_eq fun i hi => by simpa using hzero i (Nat.zero_le i) (by omega)

theorem foldl_b2n (f : Nat → Bool) (l : List Nat) : ∀ n, l.foldl (fun n i => n + b2n (f i)) n = n + (l.filter f).length := by
  induction l with
  | nil => exact fun n => rfl
  | cons a l ih =>
    intro n
    rw [List.foldl_cons, ih]
    cases h : f a <;> simp [b2n, h, Nat.add_comm, Nat.add_left_comm]

theorem popc_eq (x : Word) : popc x = BitVec.ofNat 64 ((List.range 64).filter fun i => x.getLsbD i).length := by
  rw [popc]
  exact congrArg _ ((foldl_b2n (bit x) _ 0).trans (Nat.zero_add _))

theorem signExtend_eq_ofInt {v : Nat} (x : BitVec v) (w : Nat) : x.signExtend w = BitVec.ofInt w x.toInt := rfl

theorem zextw_eq (x : Word) : (x.setWidth 32).setWidth 64 = BitVec.ofNat 64 (x.toNat % 2 ^ 32) := by
  apply BitVec.eq_of_toNat_eq
  simp only [BitVec.toNat_setWidth, BitVec.toNat_ofNat]

theorem setWidth_amount {w : Nat} (n : BitVec w) (hw : w ≤ 6) : (n.setWidth 64).toNat % 64 = n.toNat := by
  have hn : n.toNat < 64 := lt_of_lt_of_le n.isLt (Nat.pow_le_pow_right (by decide) hw : 2 ^ w ≤ 2 ^ 6)
  rw [BitVec.toNat_setWidth]
  omega

theorem shl64_imm {w : Nat} (x : Word) (n : BitVec w) (hw : w ≤ 6) : shl64 x (n.setWidth 64) = x <<< n.toNat := by
  rw [shl64, setWidth_amount n hw]

theorem shr64_imm {w : Nat} (x : Word) (n : BitVec w) (hw : w ≤ 6) : shr64 x (n.setWidth 64) = x >>> n.toNat := by
  rw [shr64, setWidth_amount n hw]

theorem sar64_imm {w : Nat} (x : Word) (n : BitVec w) (hw : w ≤ 6) : sar64 x (n.setWidth 64) = x.sshiftRight n.toNat := by
  rw [sar64, setWidth_amount n hw]

theorem ror64_imm (x : Word) (n : BitVec 6) :
    ror64 x (n.setWidth 64) = (x >>> n.toNat) ||| (x <<< ((64 - n.toNat) % 64)) := by
  rw [ror64_eq, setWidth_amount n (le_refl 6)]

/-- Settles O10: each count and extension by its own arithmetic. -/
theorem bitCountsExtensionsAndImmediates : Obligations.BitCountsExtensionsAndImmediates := by
  refine ⟨fun h p d a s hr => ?_, fun h p d a imm n w17 w16 s hr => ?_⟩
  · obtain ⟨n, hn, hlt, hle, hclz⟩ := clz_spec (gReg (thread s h) a)
    obtain ⟨m, hm, hdvd, hnot, hzero, hctz⟩ := ctz_spec (gReg (thread s h) a)
    dsimp only
    refine ⟨⟨n, hn, hlt, hle, alu1_runs hr d a clz hclz⟩, ⟨m, hm, hdvd, hnot, hzero, alu1_runs hr d a ctz hctz⟩,
      alu1_runs hr d a popc (popc_eq _), alu1_runs hr d a (fun x => (x.setWidth 8).signExtend 64) (signExtend_eq_ofInt ..),
      alu1_runs hr d a (fun x => (x.setWidth 16).signExtend 64) (signExtend_eq_ofInt ..),
      alu1_runs hr d a (fun x => (x.setWidth 32).signExtend 64) (signExtend_eq_ofInt ..),
      alu1_runs hr d a (fun x => (x.setWidth 32).setWidth 64) (zextw_eq _)⟩
  · dsimp only
    refine ⟨?_, ?_, ?_, ?_, ?_, ?_, ?_, ?_, ?_, ?_⟩
    case refine_5 => exact alu1_runs hr d a (fun x => shl64 x (n.setWidth 64)) (shl64_imm _ n (le_refl 6))
    case refine_6 => exact alu1_runs hr d a (fun x => shr64 x (n.setWidth 64)) (shr64_imm _ n (le_refl 6))
    case refine_7 => exact alu1_runs hr d a (fun x => sar64 x (n.setWidth 64)) (sar64_imm _ n (le_refl 6))
    case refine_8 => exact alu1_runs hr d a (fun x => ror64 x (n.setWidth 64)) (ror64_imm _ n)
    case refine_9 => exact aluG_runs hr d (fun _ => w17.signExtend 64) (signExtend_eq_ofInt ..)
    case refine_1 => exact alu1_runs hr d a (fun x => x + sext12 imm) rfl
    case refine_2 => exact alu1_runs hr d a (fun x => x &&& sext12 imm) rfl
    case refine_3 => exact alu1_runs hr d a (fun x => x ||| sext12 imm) rfl
    case refine_4 => exact alu1_runs hr d a (fun x => x ^^^ sext12 imm) rfl
    case refine_10 => exact aluG_runs hr d (fun t => (gReg t d <<< 16) ||| w16.setWidth 64) rfl

/-! ### The compact operations -/

theorem alu16_runs {h : Hart} {s : State} (hr : Runs h 0 2 s) (d r : Fin 16) (f : Word → Word → Word) {v : Word}
    (hv : f (gReg (thread s h) (cg d)) (gReg (thread s h) (cg r)) = v) :
    alu16 h d r f s = .next (after h 2 (putG (cg d) v) s) := alu2_runs hr _ _ _ f hv

theorem guardWf_wf {i : Instr} (hi : i.wf = true) (h : Hart) (len : Nat) (k : State → Host.Outcome State Fault Refusal)
    (s : State) : guardWf i h len k s = k s := if_pos hi

/-- Settles O13: the compact forms go through the same path as the 32-bit ones. -/
theorem compactOperations : Obligations.CompactOperations := by
  intro h d r i7 n s hr
  dsimp only
  refine ⟨fun hne => ?_, ?_, ?_, ?_, ?_, ?_, ?_, ?_, ?_, ?_, ?_, ?_, ?_, ?_⟩
  case refine_1 =>
    refine (guardWf_wf ?_ _ _ _ _).trans (alu16_runs hr d r (fun _ y => y) rfl)
    simpa [Instr.wf] using hne
  case refine_9 => exact alu1_runs hr _ _ (fun x => x + sext7 i7) rfl
  case refine_10 => exact aluG_runs hr _ (fun _ => sext7 i7) (signExtend_eq_ofInt ..)
  case refine_11 => exact alu1_runs hr _ _ (fun x => shl64 x (n.setWidth 64)) (shl64_imm _ n (by decide))
  case refine_12 => exact alu1_runs hr _ _ (fun x => shr64 x (n.setWidth 64)) (shr64_imm _ n (by decide))
  case refine_13 => exact alu1_runs hr _ _ (fun x => sar64 x (n.setWidth 64)) (sar64_imm _ n (by decide))
  case refine_14 => exact (issue_runs h 0 2 (fun _ _ => {}) s hr rfl rfl rfl).trans (congrArg _ (finish_nil ..))
  all_goals exact alu16_runs hr _ _ _ rfl

/-! ### An empty queue: one cycle passes -/

theorem fnAt_fnKey (f : FnId) : fnAt (fnKey f) = f := by
  obtain ⟨l, vf⟩ := f
  cases vf with
  | none =>
    have hdiv : (l.val * 129 + 128) / 129 = l.val := by omega
    have hmod : (l.val * 129 + 128) % 129 = 128 := by omega
    simp [fnAt, fnKey, hdiv, hmod]
  | some v =>
    have hdiv : (l.val * 129 + v.val) / 129 = l.val := by omega
    have hmod : (l.val * 129 + v.val) % 129 = v.val := by omega
    simp [fnAt, fnKey, hdiv, hmod, show v.val ≠ 128 by omega]

theorem tget_tmap {α : Type} (f : Nat → α → α) (z : α) (l : Tab α) (i : Nat) (hz : f i z = z) :
    tget z (tmap f l) i = f i (tget z l i) := by
  rw [tget, tfind_tmap, tget]
  cases tfind l i with
  | none => exact hz.symm
  | some x => rfl

theorem mem_of_tfind {α : Type} {l : Tab α} {i : Nat} {x : α} (h : tfind l i = some x) : (i, x) ∈ l := by
  induction l with
  | nil => cases h
  | cons e l ih =>
    obtain ⟨k, v⟩ := e
    by_cases hk : k = i
    · simp [tfind, hk] at h
      simp [hk, h]
    · simp [tfind, hk] at h
      exact List.mem_cons_of_mem _ (ih h)

/-- An entry that a function waits for stands in the table under the function's key. -/
theorem mem_fns_of_mem {s : State} {f : FnId} {x : BitVec 52 × Nat × Nat} (hx : x ∈ (fnOf s f).invalidations) :
    (fnKey f, fnOf s f) ∈ s.fns := by
  unfold fnOf tget at hx ⊢
  cases h : tfind s.fns (fnKey f) with
  | none => simp [h, HostFn.reset] at hx
  | some y => exact mem_of_tfind h

theorem pass_one_cores (s : State) (c : CoreId) : coreOf (pass 1 s) c = { coreOf s c with passed := [] } := by
  have hcores : (pass 1 s).cores = tmap (fun _ c => { c with passed := [] }) s.cores := by
    unfold pass dueInvalidations
    dsimp only
    split <;> rfl
  unfold coreOf
  rw [hcores]
  exact tget_tmap (fun _ c => { c with passed := [] }) Core.reset s.cores c.val rfl

/-- What is answered when a cycle passes. -/
theorem dueInvalidations_cases (s : State) :
    ((∀ f ∈ s.fns, ∀ x ∈ f.2.invalidations, s.clock.now < x.2.2) ∧ dueInvalidations s = s)
    ∨ dueInvalidations s = { s with
        fns := tmap (fun _ f => { f with invalidations := f.invalidations.filter fun x => !decide (x.2.2 ≤ s.clock.now) }) s.fns
        hostOut := s.hostOut ++ s.fns.flatMap fun f =>
          (f.2.invalidations.filter fun x => decide (x.2.2 ≤ s.clock.now)).map fun x => .invalidationDone (fnAt f.1) x.1 } := by
  unfold dueInvalidations
  dsimp only
  split
  next h =>
    refine .inl ⟨fun f hf x hx => ?_, rfl⟩
    have := List.all_eq_true.1 h f hf
    simp only [Bool.not_eq_true', List.any_eq_false, decide_eq_true_eq] at this
    exact Nat.lt_of_not_le (this x hx)
  · exact .inr rfl

/-- The state of a passing cycle before the invalidations that are due are answered. -/
def tick (s : State) : State :=
  { s with
    cores := tmap (fun _ c => { c with passed := [] }) s.cores
    clock := { s.clock with now := s.clock.now + 1, cycle := s.clock.cycle + 1 }
    pins := { s.pins with daybreakOut := s.pins.daybreakOut && decide (s.clock.cycle + 1 < 16) } }

theorem pass_one (s : State) : pass 1 s = dueInvalidations (tick s) := rfl

theorem fnOf_tmap {s t : State} (g : HostFn → HostFn) (ht : t.fns = tmap (fun _ f => g f) s.fns)
    (hz : g HostFn.reset = HostFn.reset) (f : FnId) : fnOf t f = g (fnOf s f) := by
  rw [fnOf, ht]
  exact tget_tmap (fun _ f => g f) _ _ _ hz

/-- An answered invalidation leaves its function's list; the others stay. -/
theorem pass_one_fns (s : State) (f : FnId) :
    { fnOf (pass 1 s) f with invalidations := [] } = { fnOf s f with invalidations := [] }
    ∧ ∀ x, x ∈ (fnOf (pass 1 s) f).invalidations ↔ x ∈ (fnOf s f).invalidations ∧ s.clock.now + 1 < x.2.2 := by
  rw [pass_one]
  rcases dueInvalidations_cases (tick s) with ⟨hlate, heq⟩ | heq
  · rw [heq]
    exact ⟨rfl, fun x => ⟨fun hx => ⟨hx, hlate _ (mem_fns_of_mem hx) x hx⟩, fun hx => hx.1⟩⟩
  · have hfn := fnOf_tmap (s := s) (t := dueInvalidations (tick s)) (fun f =>
      { f with invalidations := f.invalidations.filter fun x => !decide (x.2.2 ≤ s.clock.now + 1) })
      (by rw [heq]; rfl) rfl f
    rw [hfn]
    exact ⟨rfl, fun x => by simp⟩

/-- An invalidation that has waited 100 µs is answered. -/
theorem pass_one_answers (s : State) {f : FnId} {x : BitVec 52 × Nat × Nat} (hx : x ∈ (fnOf s f).invalidations)
    (hdue : x.2.2 ≤ s.clock.now + 1) : HostOut.invalidationDone f x.1 ∈ (pass 1 s).hostOut := by
  rw [pass_one]
  have hmem := mem_fns_of_mem hx
  rcases dueInvalidations_cases (tick s) with ⟨hlate, -⟩ | heq
  · exact absurd (hlate _ hmem x hx) (Nat.not_lt_of_le hdue)
  · rw [heq]
    refine List.mem_append_right _ (List.mem_flatMap.2 ⟨_, hmem, List.mem_map.2 ⟨x, ?_, ?_⟩⟩)
    · exact List.mem_filter.2 ⟨hx, decide_eq_true hdue⟩
    · rw [fnAt_fnKey]

theorem pass_one_frame (s : State) :
    { pass 1 s with clock := s.clock, pins := s.pins, cores := [], fns := [], hostOut := [] }
      = { s with cores := [], fns := [], hostOut := [] }
    ∧ (pass 1 s).clock = { s.clock with now := s.clock.now + 1, cycle := s.clock.cycle + 1 }
    ∧ (pass 1 s).pins = { s.pins with daybreakOut := s.pins.daybreakOut && decide (s.clock.cycle + 1 < 16) } := by
  rw [pass_one]
  rcases dueInvalidations_cases (tick s) with ⟨-, heq⟩ | heq
  · rw [heq]
    exact ⟨rfl, rfl, rfl⟩
  · rw [heq]
    exact ⟨rfl, rfl, rfl⟩

/-- With no invalidation due, a cycle answers none. -/
theorem pass_one_idle (s : State) (hlate : ∀ f ∈ s.fns, ∀ x ∈ f.2.invalidations, s.clock.now + 1 < x.2.2) :
    (pass 1 s).hostOut = s.hostOut ∧ (pass 1 s).fns = s.fns := by
  have hall : dueInvalidations (tick s) = tick s := by
    refine if_pos (List.all_eq_true.2 fun f hf => ?_)
    rw [Bool.not_eq_true', List.any_eq_false]
    exact fun x hx => decide_eq_true_iff.not.2 (Nat.not_le_of_lt (hlate f hf x hx))
  rw [pass_one, hall]
  exact ⟨rfl, rfl⟩

/-- Settles O1: a command is carried out by its arm; an empty queue lets a cycle pass. -/
theorem stepCarriesOutTheFrontCommand : Obligations.StepCarriesOutTheFrontCommand := by
  refine ⟨fun c rest s => rfl, fun s hq => ?_⟩
  obtain ⟨hframe, hclock, hpins⟩ := pass_one_frame s
  exact ⟨pass 1 s, step_nil hq, hframe, hclock, hpins, pass_one_cores s, pass_one_fns s,
    fun f x hx hdue => pass_one_answers s hx hdue, pass_one_idle s⟩

/-! ### The state after reset -/

theorem mget_nil (a : Nat) : mget [] a = 0 := rfl

/-- Settles O5: the values of `State.reset`. -/
theorem resetHoldsTheStatedValues : Obligations.ResetHoldsTheStatedValues := by
  refine ⟨rfl, rfl, rfl, rfl, rfl, rfl, rfl, fun _ => (by decide : cValid 0 = false), fun _ => rfl, fun _ _ => ⟨rfl, rfl⟩, fun _ => rfl, fun _ => rfl, rfl,
    fun _ => rfl, ⟨nil_wf, fun _ => reset_coreOk⟩, inv_of_reset rfl rfl rfl rfl⟩

end Sys2Proof.Machine

/-!
SUPPORT. Local memory: what a thread sees, what loads give, and what stores leave.
-/
namespace Sys2Proof.Machine
open Sys2Proof Sys2Proof.Safety

/-! ### Addresses, words and bytes -/

theorem addr32_eq (s : State) (h : Hart) (a : Fin 32) (n : Nat) (imm : BitVec 12) :
    effAddr (thread s h) a n imm = addr32 s h a n imm := by
  rw [addr32, BitVec.ofInt_add, BitVec.ofInt_mul]
  simp [effAddr, sext12, signExtend_eq_ofInt]

theorem addrCompact_eq (s : State) (h : Hart) (b : Fin 16) (n : Nat) (off : BitVec 3) :
    addr16 (thread s h) b n off = addrCompact s h b n off := by
  rw [addrCompact, BitVec.ofNat_add]
  simp [addr16, cg]

theorem mem_wordsOf {a n w : Nat} (hn : 0 < n) : w ∈ wordsOf a n ↔ w * 8 < a + n ∧ a < w * 8 + 8 := by
  rw [wordsOf, List.mem_range'_1]
  omega

theorem addrFault_none {x : Word} {n : Nat} (h : accessible x n) : addrFault x n = none := by
  obtain ⟨hmod, htop⟩ := h
  simp [addrFault, hmod, localTop, Nat.not_lt.2 htop]

theorem addrFault_misaligned {x : Word} {n : Nat} (h : x.toNat % n ≠ 0) : addrFault x n = some ⟨0x04, x, false⟩ := if_pos h

theorem addrFault_unmapped {x : Word} {n : Nat} (h : x.toNat % n = 0) (ht : 0xC0000 < x.toNat + n) :
    addrFault x n = some ⟨0x03, BitVec.ofNat 64 (max x.toNat 0xC0000), false⟩ := by
  simp [addrFault, h, localTop, ht]

theorem firstPoison_none {s : State} {h : Hart} {a n : Nat} (hn : 0 < n) (hu : unmarked s h a n) :
    firstPoison (coreOf s h.core) (some h.thread) a n = none := by
  rw [firstPoison, List.find?_eq_none]
  intro w hw
  obtain ⟨hlo, hhi⟩ := (mem_wordsOf hn).1 hw
  simp [hu w hlo hhi]

theorem firstPoison_some {s : State} {h : Hart} {a n : Nat} (hn : 0 < n) (hu : ¬ unmarked s h a n) :
    ∃ w, firstPoison (coreOf s h.core) (some h.thread) a n = some w := by
  rw [← Option.isSome_iff_exists, firstPoison, List.find?_isSome]
  simp only [unmarked, not_forall, Bool.not_eq_false] at hu
  obtain ⟨w, hlo, hhi, hw⟩ := hu
  exact ⟨w, (mem_wordsOf hn).2 ⟨hlo, hhi⟩, hw⟩

theorem anyPoison_iff {s : State} {h : Hart} {a n : Nat} (hn : 0 < n) :
    (wordsOf a n).any (poisonView (coreOf s h.core) (some h.thread)) = true ↔ ¬ unmarked s h a n := by
  simp only [List.any_eq_true, unmarked, not_forall, Bool.not_eq_false]
  constructor
  · rintro ⟨w, hw, hp⟩
    obtain ⟨hlo, hhi⟩ := (mem_wordsOf hn).1 hw
    exact ⟨w, hlo, hhi, hp⟩
  · rintro ⟨w, hlo, hhi, hp⟩
    exact ⟨w, (mem_wordsOf hn).2 ⟨hlo, hhi⟩, hp⟩

/-- The number in a list of bytes, as a sum over the positions. -/
theorem bytesNat_map_range' (f : Nat → Byte) (n : Nat) :
    ∀ a, bytesNat ((List.range' a n).map f) = ((List.range n).map fun i => (f (a + i)).toNat * 256 ^ i).sum := by
  induction n with
  | zero => exact fun a => rfl
  | succ n ih =>
    intro a
    rw [List.range'_succ, List.map_cons, bytesNat, ih, List.range_succ_eq_map, List.map_cons, List.sum_cons, List.map_map,
      ← List.sum_map_mul_left]
    simp only [Nat.add_zero, Nat.pow_zero, Nat.mul_one]
    congr 2
    refine List.map_congr_left fun i _ => ?_
    simp only [Function.comp_apply, Nat.succ_eq_add_one, Nat.pow_succ, Nat.add_assoc, Nat.add_comm 1 i]
    ring

theorem bytesNat_readView (s : State) (h : Hart) (a n : Nat) :
    bytesNat (readView (coreOf s h.core) (some h.thread) a n) = numberAt s h a n := bytesNat_map_range' _ n a

/-! ### Loads -/

theorem loadAct_clear {s : State} {h : Hart} {x : Word} {n : Nat} (hn : 0 < n) (ha : accessible x n)
    (hu : unmarked s h x.toNat n) (d : Fin 32) (ext : Word → Word) :
    loadAct (coreOf s h.core) h.thread x n d ext = { reads := { words := wordsOf x.toNat n }, writes :=
      [.g d (ext (BitVec.ofNat 64 (numberAt s h x.toNat n)))] } := by
  simp [loadAct, addrFault_none ha, firstPoison_none hn hu, bytes64, bytesNat_readView]

/-- An instruction whose action is a load from an accessible address of unmarked words. -/
theorem load_runs {h : Hart} {p : Fin 8} {len : Nat} {s : State} (hr : Runs h p len s) {addr : Thread → Word} {x : Word}
    {n : Nat} (hx : addr (thread s h) = x) (hn : 0 < n) (ha : accessible x n) (hu : unmarked s h x.toNat n) (d : Fin 32)
    {ext : Word → Word} {v : Word} (hv : ext (BitVec.ofNat 64 (numberAt s h x.toNat n)) = v) :
    issue h p len (fun c t => loadAct c h.thread (addr t) n d ext) s = .next (after h len (putG d v) s) := by
  have hact := loadAct_clear hn ha hu d ext
  rw [issue_runs h p len _ s hr]
  · rw [hx, hact, ← hv]
    exact congrArg _ (finish_g ..)
  all_goals rw [hx, hact]

theorem sextN_ofNat {n : Nat} (hn : n ≤ 8) (x : Nat) :
    sextN n (BitVec.ofNat 64 x) = BitVec.ofInt 64 (BitVec.ofNat (8 * n) x).toInt := by
  have h : (BitVec.ofNat 64 x).setWidth (8 * n) = BitVec.ofNat (8 * n) x := by
    apply BitVec.eq_of_toNat_eq
    rw [BitVec.toNat_setWidth, BitVec.toNat_ofNat, BitVec.toNat_ofNat]
    exact Nat.mod_mod_of_dvd x (Nat.pow_dvd_pow 2 (by omega))
  rw [sextN, h]
  rfl

theorem loadG_runs {h : Hart} {p : Fin 8} {s : State} (hr : Runs h p 4 s) (d a : Fin 32) (imm : BitVec 12) {n : Nat}
    (hn : 0 < n) (ha : accessible (addr32 s h a n imm) n) (hu : unmarked s h (addr32 s h a n imm).toNat n)
    {ext : Word → Word} {v : Word} (hv : ext (BitVec.ofNat 64 (numberAt s h (addr32 s h a n imm).toNat n)) = v) :
    loadG h p d a imm n ext s = .next (after h 4 (putG d v) s) :=
  load_runs hr (addr32_eq ..) hn ha hu d hv

/-- Loading a vector clears the register's copy, of which a quiet thread has none. -/
theorem finish_v {h : Hart} {len : Nat} {s : State} (hq : (thread s h).vSpec = []) (d : Fin 32) (x : Marked) (b : Bool) :
    finish h len { writes := [.v d x b] } (rotate h s) = after h len (putV d x) s := by
  have hq' : (thread (rotate h s) h).vSpec = [] := by rw [rotate_thread, hq]
  have hfin : finish h len { writes := [.v d x b] } (rotate h s)
      = modTh (rotate h s) h fun t => { advPc len t with v := tset t.v d.val x, vSpec := tdel t.vSpec d.val } := by
    simp [finish, modTh, applyWr, advPc]
  rw [hfin]
  exact modTh_congr _ _ _ _ (by simp [putV, advPc, hq'])

theorem vldAct_ok {s : State} {h : Hart} {x : Word} (ha : accessible x 64) (d : Fin 32) :
    vldAct (coreOf s h.core) h.thread x d = { reads := { words := wordsOf x.toNat 64 }, writes :=
      [.v d ⟨BitVec.ofNat 512 (numberAt s h x.toNat 64),
        (wordsOf x.toNat 64).any (poisonView (coreOf s h.core) (some h.thread))⟩ true] } := by
  simp [vldAct, addrFault_none ha, bytes512, bytesNat_readView]

theorem vld_runs {h : Hart} {p : Fin 8} {s : State} (hr : Runs h p 4 s) (d a : Fin 32) (imm : BitVec 12)
    (ha : accessible (addr32 s h a 64 imm) 64) :
    execVld h p d a imm s = .next (after h 4 (putV d ⟨BitVec.ofNat 512 (numberAt s h (addr32 s h a 64 imm).toNat 64),
      (wordsOf (addr32 s h a 64 imm).toNat 64).any (poisonView (coreOf s h.core) (some h.thread))⟩) s) := by
  have hact := vldAct_ok (s := s) (h := h) ha d
  obtain ⟨-, hv, -⟩ := hr.2.2
  rw [execVld, issue_runs h p 4 _ s hr]
  · rw [addr32_eq, hact]
    exact congrArg _ (finish_v hv ..)
  all_goals rw [addr32_eq, hact]

/-- Settles O14: the bytes of `readView` are those the thread sees. -/
theorem loadsReturnWhatTheThreadSees : Obligations.LoadsReturnWhatTheThreadSees := by
  intro h p d a e b imm off s
  dsimp only
  refine ⟨fun hr => ⟨fun ⟨ha, hu⟩ => ⟨?_, ?_⟩, fun ⟨ha, hu⟩ => ⟨?_, ?_⟩, fun ⟨ha, hu⟩ => ⟨?_, ?_⟩, fun ⟨ha, hu⟩ => ?_,
    fun ha => ?_⟩, fun hr => ⟨fun ⟨ha, hu⟩ => ?_, fun ⟨ha, hu⟩ => ?_⟩⟩
  · exact loadG_runs hr d a imm (by decide) ha hu (sextN_ofNat (by decide) _)
  · exact loadG_runs hr d a imm (ext := id) (by decide) ha hu rfl
  · exact loadG_runs hr d a imm (by decide) ha hu (sextN_ofNat (by decide) _)
  · exact loadG_runs hr d a imm (ext := id) (by decide) ha hu rfl
  · exact loadG_runs hr d a imm (by decide) ha hu (sextN_ofNat (by decide) _)
  · exact loadG_runs hr d a imm (ext := id) (by decide) ha hu rfl
  · exact loadG_runs hr d a imm (ext := id) (by decide) ha hu rfl
  · exact ⟨_, anyPoison_iff (by decide), vld_runs hr d a imm ha⟩
  · exact load_runs hr (addr := fun t => addr16 t b 8 off) (addrCompact_eq ..) (by decide) ha hu _ (ext := id) rfl
  · exact load_runs hr (addr := fun t => addr16 t b 4 off) (addrCompact_eq ..) (by decide) ha hu _ (sextN_ofNat (by decide) _)

/-! ### Stores -/

/-- The core once its store buffer has room for another store (R147). -/
def room (c : Core) : Core := if 8 ≤ c.stores.length then retireOne c else c

theorem pushStore_eq (e : StoreEntry) (c : Core) : pushStore e c = { room c with stores := (room c).stores ++ [e] } := rfl

/-- What retiring a store leaves in memory and in the buffer depends on these alone. -/
theorem memPut_congr {c d : Core} (hm : c.mem = d.mem) (hp : c.poison = d.poison) (a : Nat) (bs : List Byte) (b k : Bool) :
    (memPut c a bs b k).mem = (memPut d a bs b k).mem ∧ (memPut c a bs b k).poison = (memPut d a bs b k).poison
    ∧ (memPut c a bs b k).stores = c.stores := by
  have key : ∀ (l : List Nat) (x y : Core), x.mem = y.mem → x.poison = y.poison →
      (l.foldl (markWord a bs.length b k) x).mem = (l.foldl (markWord a bs.length b k) y).mem
      ∧ (l.foldl (markWord a bs.length b k) x).poison = (l.foldl (markWord a bs.length b k) y).poison
      ∧ (l.foldl (markWord a bs.length b k) x).stores = x.stores := by
    intro l
    induction l with
    | nil => exact fun x y hm hp => ⟨hm, hp, rfl⟩
    | cons w l ih => exact fun x y hm hp => ih _ _ hm (by simp only [markWord, hp])
  exact key _ _ _ (by simp only [hm]) hp

theorem room_congr {c d : Core} (hm : c.mem = d.mem) (hp : c.poison = d.poison) (hs : c.stores = d.stores) :
    (room c).mem = (room d).mem ∧ (room c).poison = (room d).poison ∧ (room c).stores = (room d).stores := by
  have hretire : (retireOne c).mem = (retireOne d).mem ∧ (retireOne c).poison = (retireOne d).poison
      ∧ (retireOne c).stores = (retireOne d).stores := by
    unfold retireOne
    rw [← hs]
    split
    · exact ⟨hm, hp, hs⟩
    next e l _ =>
      obtain ⟨h1, h2, h3⟩ := memPut_congr (c := { c with stores := l }) (d := { d with stores := l }) hm hp e.addr e.bytes
        e.poison e.spec
      exact ⟨h1, h2, h3.trans (memPut_congr (c := { d with stores := l }) rfl rfl e.addr e.bytes e.poison e.spec).2.2.symm⟩
  unfold room
  rw [← hs]
  split
  · exact hretire
  · exact ⟨hm, hp, hs⟩

theorem room_threads (c : Core) : (room c).threads = c.threads :=
  ite_ok (P := fun x : Core => x.threads = c.threads) (retireOne_threads c) rfl

theorem coreOf_withRoom (h : Hart) (s : State) : coreOf (withRoom h s) h.core = room (coreOf s h.core) := by
  unfold withRoom room
  split
  · rw [coreOf_modCore_same]
  · rfl

theorem coreOf_withRoom_other (h : Hart) (s : State) {c : CoreId} (hc : h.core ≠ c) :
    coreOf (withRoom h s) c = coreOf s c := by
  unfold withRoom
  split
  · exact coreOf_modCore_other _ _ _ _ hc
  · rfl

/-- The view of a byte depends on the memory and the buffered stores alone. -/
theorem byteView_congr {c d : Core} (hm : c.mem = d.mem) (hs : c.stores = d.stores) (own : Option (Fin 4)) (a : Nat) :
    byteView c own a = byteView d own a := by
  rw [byteView, byteView, hm, hs]

/-- The last store of the buffer is seen by its own thread, at its own bytes. -/
theorem byteView_append (c d : Core) (e : StoreEntry) (hm : c.mem = d.mem) (hs : c.stores = d.stores ++ [e])
    (own : Option (Fin 4)) (a : Nat) :
    byteView c own a = if own = some e.thread ∧ e.addr ≤ a ∧ a < e.addr + e.bytes.length
      then nth (byteView d own a) e.bytes (a - e.addr) else byteView d own a := by
  rw [byteView, hs, List.foldl_append, hm]
  rfl

theorem natBytes_length (n : Nat) : ∀ x, (natBytes n x).length = n := by
  induction n with
  | zero => exact fun _ => rfl
  | succ n ih => exact fun x => congrArg (· + 1) (ih _)

theorem nth_natBytes (z : Byte) (n : Nat) : ∀ x i, i < n → nth z (natBytes n x) i = BitVec.ofNat 8 (x / 256 ^ i) := by
  induction n with
  | zero => exact fun x i hi => absurd hi (Nat.not_lt_zero i)
  | succ n ih =>
    intro x i hi
    cases i with
    | zero => simp [natBytes, nth]
    | succ i =>
      rw [Nat.pow_succ', ← Nat.div_div_eq_div_mul]
      exact ih (x / 256) i (by omega)

/-- What the store that completes leaves of its core. -/
theorem finish_store_core (h : Hart) (len : Nat) (r : Reads) (a : Nat) (bs : List Byte) (b : Bool) (s : State) :
    coreOf (finish h len { reads := r, writes := [.store a bs b] } s) h.core
      = setTh (pushStore ⟨h.thread, a, bs, b, false⟩ (setTh (coreOf s h.core) h.thread (advPc len (thread s h)))) h.thread
          (advPc len (thread s h)) := by
  have hth : thOf (pushStore ⟨h.thread, a, bs, b, false⟩ (setTh (coreOf s h.core) h.thread (advPc len (thread s h)))) h.thread
      = advPc len (thread s h) := by
    rw [thOf, pushStore_eq]
    simp [room_threads, setTh]
  rw [finish, coreOf_modCore_same]
  simp only [List.foldl_cons, List.foldl_nil, applyWr, thread] at hth ⊢
  rw [hth]
  simp

theorem hart_ext {h k : Hart} (hc : h.core = k.core) (ht : h.thread = k.thread) : k = h := by
  obtain ⟨c, i⟩ := h
  obtain ⟨d, j⟩ := k
  exact Hart.mk.injEq .. ▸ ⟨hc.symm, ht.symm⟩

theorem finish_other (h : Hart) (len : Nat) (a : Act) (s : State) {c : CoreId} (hc : h.core ≠ c) :
    coreOf (finish h len a s) c = coreOf s c := coreOf_modCore_other _ _ _ _ hc

theorem modCore_frame (s : State) (c : CoreId) (f : Core → Core) :
    { modCore s c f with cores := [] } = { s with cores := [] } := rfl

/-- The completion of a store of `n` bytes at `x` (R147). -/
theorem finish_store (h : Hart) (len n : Nat) (r : Reads) (x : Word) (v : Nat) (b : Bool) (s : State) :
    stores h len n x v b s
      (.next (finish h len { reads := r, writes := [.store x.toNat (natBytes n v) b] } (rotate h s))) := by
  have hrot := rotate_core h s
  have hcore := finish_store_core h len r x.toNat (natBytes n v) b (rotate h s)
  obtain ⟨hrm, hrp, hrs⟩ := room_congr (c := setTh (coreOf (rotate h s) h.core) h.thread (advPc len (thread (rotate h s) h)))
    (d := coreOf s h.core) (by rw [hrot]; rfl) (by rw [hrot]; rfl) (by rw [hrot]; rfl)
  set t := finish h len { reads := r, writes := [.store x.toNat (natBytes n v) b] } (rotate h s) with ht
  have hm : (coreOf t h.core).mem = (coreOf (withRoom h s) h.core).mem := by
    rw [hcore, coreOf_withRoom, ← hrm]
    rfl
  have hp : (coreOf t h.core).poison = (coreOf (withRoom h s) h.core).poison := by
    rw [hcore, coreOf_withRoom, ← hrp]
    rfl
  have hs : (coreOf t h.core).stores
      = (coreOf (withRoom h s) h.core).stores ++ [⟨h.thread, x.toNat, natBytes n v, b, false⟩] := by
    rw [hcore, coreOf_withRoom, ← hrs]
    rfl
  have hview := byteView_append _ _ _ hm hs
  have hother : ∀ c, h.core ≠ c → coreOf t c = coreOf s c := fun c hc => by
    rw [ht, finish_other _ _ _ _ hc, rotate, coreOf_modCore_other _ _ _ _ hc]
  refine ⟨t, rfl, fun i hi => ?_, fun a ha => ?_, fun k hk a => ?_, fun a => by rw [hm], hp, hs, ?_, fun k hk => ?_,
    rfl, fun c hc => hother c (Ne.symm hc)⟩
  · rw [sees, hview, if_pos ⟨rfl, Nat.le_add_right .., by rw [natBytes_length]; exact Nat.add_lt_add_left hi _⟩,
      Nat.add_sub_cancel_left, nth_natBytes _ _ _ _ hi]
    rfl
  · refine (hview _ a).trans (if_neg ?_)
    rintro ⟨-, hlo, hhi⟩
    rw [natBytes_length] at hhi
    dsimp only at hlo hhi
    omega
  · by_cases hc : h.core = k.core
    · rw [sees, sees, ← hc]
      refine (hview _ a).trans (if_neg ?_)
      rintro ⟨hth, -⟩
      exact hk (hart_ext hc (Option.some.inj hth).symm)
    · rw [sees, sees, hother _ hc, coreOf_withRoom_other _ _ hc]
  · rw [thread, hcore, thOf_setTh_same, rotate_thread]
  · by_cases hc : h.core = k.core
    · have hne : h.thread ≠ k.thread := fun e => hk (hart_ext hc e)
      rw [thread, thread, ← hc, hcore, thOf_setTh_other _ _ _ _ hne, pushStore_eq]
      have hthreads : thOf (room (setTh (coreOf (rotate h s) h.core) h.thread (advPc len (thread (rotate h s) h)))) k.thread
          = thOf (coreOf s h.core) k.thread := by
        rw [thOf, room_threads, ← thOf, thOf_setTh_other _ _ _ _ hne, hrot]
        rfl
      exact hthreads
    · rw [thread, thread, hother _ hc]

theorem storeAct_ok {x : Word} {n : Nat} (ha : accessible x n) (v : Word) :
    storeAct x n v = { writes := [.store x.toNat (natBytes n v.toNat) false] } := by
  rw [storeAct, addrFault_none ha]

theorem vstAct_ok {x : Word} (ha : accessible x 64) (t : Thread) (d : Fin 32) :
    vstAct t x d = { reads := { v := [d] }, writes := [.store x.toNat (natBytes 64 (vReg t d).data.toNat) (vReg t d).poison] } := by
  simp [vstAct, addrFault_none ha]

/-- An instruction whose action is a store of `n` bytes to an accessible address. -/
theorem store_runs {h : Hart} {p : Fin 8} {len : Nat} {s : State} (hr : Runs h p len s) {addr : Thread → Word} {x : Word}
    {n : Nat} (hx : addr (thread s h) = x) (ha : accessible x n) (v : Thread → Word) :
    stores h len n x (v (thread s h)).toNat false s (issue h p len (fun _ t => storeAct (addr t) n (v t)) s) := by
  rw [issue_runs h p len _ s hr]
  · rw [hx, storeAct_ok ha]
    exact finish_store ..
  all_goals rw [hx, storeAct_ok ha]

theorem storeG_runs {h : Hart} {p : Fin 8} {s : State} (hr : Runs h p 4 s) (d a : Fin 32) (imm : BitVec 12) {n : Nat}
    (ha : accessible (addr32 s h a n imm) n) :
    stores h 4 n (addr32 s h a n imm) (gReg (thread s h) d).toNat false s (storeG h p d a imm n s) :=
  store_runs hr (addr := fun t => effAddr t a n imm) (addr32_eq ..) ha fun t => gReg t d

theorem vst_runs {h : Hart} {p : Fin 8} {s : State} (hr : Runs h p 4 s) (d a : Fin 32) (imm : BitVec 12)
    (ha : accessible (addr32 s h a 64 imm) 64) :
    stores h 4 64 (addr32 s h a 64 imm) (vReg (thread s h) d).data.toNat (vReg (thread s h) d).poison s
      (execVst h p d a imm s) := by
  rw [execVst, issue_runs h p 4 _ s hr]
  · rw [addr32_eq, vstAct_ok ha]
    exact finish_store ..
  all_goals rw [addr32_eq, vstAct_ok ha]

/-- Settles O15: a store that completes is pushed into its core's buffer. -/
theorem storesChangeOnlyTheirBytes : Obligations.StoresChangeOnlyTheirBytes := by
  intro h p d a e b imm off s
  dsimp only
  refine ⟨fun hr => ⟨storeG_runs hr d a imm, storeG_runs hr d a imm, storeG_runs hr d a imm, storeG_runs hr d a imm,
    vst_runs hr d a imm⟩, fun hr => ⟨fun ha => ?_, fun ha => ?_⟩⟩
  · exact store_runs hr (addr := fun t => addr16 t b 8 off) (addrCompact_eq ..) ha fun t => gReg t (cg e)
  · exact store_runs hr (addr := fun t => addr16 t b 4 off) (addrCompact_eq ..) ha fun t => gReg t (cg e)

/-! ### Accesses that fault -/

theorem loadG_faults {h : Hart} {p : Fin 8} {s : State} (hr : Runs h p 4 s) (d a : Fin 32) (imm : BitVec 12) {n : Nat}
    {cause : BitVec 8} {info : Word} (hf : addrFault (addr32 s h a n imm) n = some ⟨cause, info, false⟩) (ext : Word → Word) :
    faults (loadG h p d a imm n ext s) h cause info s := by
  have hact : loadAct (coreOf s h.core) h.thread (effAddr (thread s h) a n imm) n d ext
      = { fault := some ⟨cause, info, false⟩, writes := [.g d 0] } := by
    simp only [loadAct, addr32_eq, hf]
  exact issue_faults h p 4 _ s cause info hr (by rw [hact]) (by rw [hact]) (by rw [hact])

theorem loadG_poisoned {h : Hart} {p : Fin 8} {s : State} (hr : Runs h p 4 s) (d a : Fin 32) (imm : BitVec 12) {n : Nat}
    (hn : 0 < n) (ha : accessible (addr32 s h a n imm) n) (hu : ¬ unmarked s h (addr32 s h a n imm).toNat n)
    (ext : Word → Word) : faults (loadG h p d a imm n ext s) h 0x39 (addr32 s h a n imm) s := by
  obtain ⟨w, hw⟩ := firstPoison_some hn hu
  have hact : (loadAct (coreOf s h.core) h.thread (effAddr (thread s h) a n imm) n d ext)
      = { reads := { words := wordsOf (addr32 s h a n imm).toNat n }, fault := some ⟨0x39, addr32 s h a n imm, false⟩
          writes := [.g d (ext (bytes64 (readView (coreOf s h.core) (some h.thread) (addr32 s h a n imm).toNat n)))] } := by
    simp only [loadAct, addr32_eq, addrFault_none ha, hw, Option.map_some]
  exact issue_faults h p 4 _ s _ _ hr (by rw [hact]) (by rw [hact]) (by rw [hact])

theorem storeG_faults {h : Hart} {p : Fin 8} {s : State} (hr : Runs h p 4 s) (d a : Fin 32) (imm : BitVec 12) {n : Nat}
    {cause : BitVec 8} {info : Word} (hf : addrFault (addr32 s h a n imm) n = some ⟨cause, info, false⟩) :
    faults (storeG h p d a imm n s) h cause info s :=
  issue_faults h p 4 _ s cause info hr (by rw [addr32_eq]; exact hf) rfl rfl

theorem vld_faults {h : Hart} {p : Fin 8} {s : State} (hr : Runs h p 4 s) (d a : Fin 32) (imm : BitVec 12)
    {cause : BitVec 8} {info : Word} (hf : addrFault (addr32 s h a 64 imm) 64 = some ⟨cause, info, false⟩) :
    faults (execVld h p d a imm s) h cause info s := by
  have hact : vldAct (coreOf s h.core) h.thread (effAddr (thread s h) a 64 imm) d
      = { fault := some ⟨cause, info, false⟩, writes := [.v d ⟨0, false⟩ true] } := by
    simp only [vldAct, addr32_eq, hf]
  exact issue_faults h p 4 _ s cause info hr (by rw [hact]) (by rw [hact]) (by rw [hact])

theorem vst_faults {h : Hart} {p : Fin 8} {s : State} (hr : Runs h p 4 s) (d a : Fin 32) (imm : BitVec 12)
    {cause : BitVec 8} {info : Word} (hf : addrFault (addr32 s h a 64 imm) 64 = some ⟨cause, info, false⟩) :
    faults (execVst h p d a imm s) h cause info s :=
  issue_faults h p 4 _ s cause info hr (by rw [addr32_eq]; exact hf) rfl rfl

/-- The faults of a load and of a store of `n` bytes at `x`, where a marked word counts for the load of a register only. -/
def faultsAt (h : Hart) (s : State) (n : Nat) (x : Word) (i j : Host.Outcome State Fault Refusal) : Prop :=
  (∀ cause info, addrFault x n = some ⟨cause, info, false⟩ → faults i h cause info s ∧ faults j h cause info s)
  ∧ (accessible x n → n < 64 → ¬ unmarked s h x.toNat n → faults i h 0x39 x s)

theorem faultsAt_spec {h : Hart} {s : State} {n : Nat} {x : Word} {i j : Host.Outcome State Fault Refusal}
    (hf : faultsAt h s n x i j) :
    (x.toNat % n ≠ 0 → faults i h 0x04 x s ∧ faults j h 0x04 x s)
    ∧ (x.toNat % n = 0 → 0xC0000 < x.toNat + n → faults i h 0x03 (BitVec.ofNat 64 (max x.toNat 0xC0000)) s
        ∧ faults j h 0x03 (BitVec.ofNat 64 (max x.toNat 0xC0000)) s)
    ∧ (accessible x n → n < 64 → ¬ unmarked s h x.toNat n → faults i h 0x39 x s) :=
  ⟨fun h1 => hf.1 _ _ (addrFault_misaligned h1), fun h1 h2 => hf.1 _ _ (addrFault_unmapped h1 h2), hf.2⟩

theorem loadStore_faultsAt {h : Hart} {p : Fin 8} {s : State} (hr : Runs h p 4 s) (d a : Fin 32) (imm : BitVec 12) {n : Nat}
    (hn : 0 < n) (ext : Word → Word) :
    faultsAt h s n (addr32 s h a n imm) (loadG h p d a imm n ext s) (storeG h p d a imm n s) :=
  ⟨fun _ _ hf => ⟨loadG_faults hr d a imm hf ext, storeG_faults hr d a imm hf⟩,
    fun ha _ hu => loadG_poisoned hr d a imm hn ha hu ext⟩

theorem vector_faultsAt {h : Hart} {p : Fin 8} {s : State} (hr : Runs h p 4 s) (d a : Fin 32) (imm : BitVec 12) :
    faultsAt h s 64 (addr32 s h a 64 imm) (execVld h p d a imm s) (execVst h p d a imm s) :=
  ⟨fun _ _ hf => ⟨vld_faults hr d a imm hf, vst_faults hr d a imm hf⟩, fun _ hlt => absurd hlt (Nat.lt_irrefl 64)⟩

/-- Settles O16: the faults come from the one check of an address. -/
theorem badAccessesFault : Obligations.BadAccessesFault := by
  intro h p d a imm n i j s hr hmem
  simp only [List.mem_cons, Prod.mk.injEq, List.not_mem_nil, or_false] at hmem
  obtain ⟨rfl, rfl, rfl⟩ | ⟨rfl, rfl, rfl⟩ | ⟨rfl, rfl, rfl⟩ | ⟨rfl, rfl, rfl⟩ | ⟨rfl, rfl, rfl⟩ | ⟨rfl, rfl, rfl⟩
    | ⟨rfl, rfl, rfl⟩ | ⟨rfl, rfl, rfl⟩ := hmem
  case inr.inr.inr.inr.inr.inr.inr => exact faultsAt_spec (vector_faultsAt hr d a imm)
  all_goals exact faultsAt_spec (loadStore_faultsAt hr d a imm (by decide) _)

end Sys2Proof.Machine

/-!
SUPPORT. A buffered store of no bytes at address 0 marks word 0 as it retires.
-/
namespace Sys2Proof.Machine
open Sys2Proof Sys2Proof.Safety

/-- A buffered store of no bytes, poisoned, at address 0. -/
def emptyStore : StoreEntry := ⟨0, 0, [], true, false⟩

/-- The reset state with that store in the buffer of core 0. -/
def emptyStoreState : State := { State.reset with cores := [(0, { Core.reset with stores := [emptyStore] })] }

theorem emptyStore_retires :
    exec (.storeBufferRetire 0) emptyStoreState = .next (modCore emptyStoreState 0 retireOne) := rfl

theorem emptyStore_marks : 0 ∈ (coreOf (modCore emptyStoreState 0 retireOne) 0).poison := by
  rw [coreOf_modCore_same]
  decide

/-- Refutes O17: a store of no bytes at address 0 touches no byte, and yet its retirement marks word 0 with its poison
(`wordsOf 0 0` is `[0]`). -/
theorem not_storedBytesAreReadAndReachMemory : ¬ Obligations.StoredBytesAreReadAndReachMemory := by
  rintro ⟨-, hretire⟩
  obtain ⟨t, ht, -, -, -, -, hmarks, -⟩ := hretire 0 emptyStore [] emptyStoreState rfl rfl
  rw [emptyStore_retires] at ht
  cases ht
  exact absurd ((hmarks 0 (.inr (by decide))).1 emptyStore_marks) (by decide)

end Sys2Proof.Machine

/-!
SUPPORT. System instructions, the threads that may not issue, handler entries, and the ends of waits and holds.
-/
namespace Sys2Proof.Machine
open Sys2Proof Sys2Proof.Safety

/-! ### NOP, FENCE, HOLD and RETT -/

theorem any_own_iff (c : Core) (th : Fin 4) :
    c.stores.any (fun e => decide (e.thread = th)) = true ↔ ∃ e ∈ c.stores, e.thread = th := by
  simp

theorem fenceHolds_true {c : Core} {th : Fin 4} {scope : Fin 8} (hd : scope.val % 2 = 1 → ∀ e ∈ c.stores, e.thread ≠ th)
    (hm : 4 ≤ scope.val → moverBusy c th = false) : fenceHolds c th scope = true := by
  rw [fenceHolds, Bool.and_eq_true, Bool.or_eq_true, Bool.or_eq_true, Bool.not_eq_true', Bool.not_eq_true', Bool.not_eq_true',
    decide_eq_false_iff_not, decide_eq_true_iff, ← Bool.not_eq_true, any_own_iff]
  constructor
  · by_cases hs : scope.val % 2 = 1
    · exact .inr fun ⟨e, he, ht⟩ => hd hs e he ht
    · exact .inl hs
  · by_cases hs : scope.val < 4
    · exact .inl hs
    · exact .inr (hm (by omega))

theorem fenceHolds_false {c : Core} {th : Fin 4} {scope : Fin 8}
    (hw : (scope.val % 2 = 1 ∧ ∃ e ∈ c.stores, e.thread = th) ∨ (4 ≤ scope.val ∧ moverBusy c th = true)) :
    fenceHolds c th scope = false := by
  rcases hw with ⟨hs, he⟩ | ⟨hs, hm⟩
  · simp [fenceHolds, hs, (any_own_iff c th).2 he]
  · simp [fenceHolds, hm, hs]

/-- Issuing moves no thread's stores and no mover. -/
theorem fenceHolds_rotate (h : Hart) (s : State) (scope : Fin 8) :
    fenceHolds (coreOf (rotate h s) h.core) h.thread scope = fenceHolds (coreOf s h.core) h.thread scope := by
  rw [rotate_core]
  rfl

theorem fence_runs {h : Hart} {p : Fin 8} {s : State} (hr : Runs h p 4 s) (scope : Fin 8) :
    execFence h p scope s = .next (fenceStep h scope (rotate h s)) := issueWith_runs h p 4 _ _ _ s hr rfl rfl rfl

theorem fenceStep_done {h : Hart} {s : State} {scope : Fin 8} (hf : fenceHolds (coreOf s h.core) h.thread scope = true) :
    fenceStep h scope (rotate h s) = after h 4 id s := by
  rw [fenceStep, fenceHolds_rotate, if_pos hf]
  rfl

theorem fenceStep_waits {h : Hart} {s : State} {scope : Fin 8} (hf : fenceHolds (coreOf s h.core) h.thread scope = false) :
    fenceStep h scope (rotate h s) = modTh (rotate h s) h fun u => { u with run := .waiting (.fence scope) } := by
  rw [fenceStep, fenceHolds_rotate, hf]
  rfl

/-- In supervisor mode there is no privilege fault. -/
theorem privFault_supervisor {t : Thread} (hm : t.mode = true) (w : Word) : privFault t w = none := by simp [privFault, hm]

theorem privFault_task {t : Thread} (hm : t.mode = false) (w : Word) : privFault t w = some ⟨0x02, w, false⟩ := by
  simp [privFault, hm]

/-- An instruction with an effect of its own, that runs and meets no fault, has that effect. -/
theorem issueOwn_runs {h : Hart} {p : Fin 8} {len : Nat} {act : Core → Thread → Act} {s : State} (hr : Runs h p len s)
    (hf : (act (coreOf s h.core) (thread s h)).fault = none) (hs : (act (coreOf s h.core) (thread s h)).stall = false)
    (hsp : (act (coreOf s h.core) (thread s h)).reads.spec = false) (eff : State → State) :
    issueOwn h p len act eff s = .next (eff (rotate h s)) :=
  issueWith_runs h p len (fun c t => { act c t with writes := .other :: (act c t).writes }) _ _ s hr hf hs hsp

theorem rett_runs {h : Hart} {s : State} (hr : Runs h 0 4 s) (hm : (thread s h).mode = true) :
    execRett h s = .next (modTh (rotate h s) h rett) := by
  rw [execRett]
  exact issueOwn_runs hr (privFault_supervisor hm _) rfl rfl _

theorem hold_runs {h : Hart} {n : BitVec 17} {s : State} (hr : Runs h 0 4 s) (hm : (thread s h).mode = true)
    (hn : 1 ≤ n.toNat) (hn' : n.toNat ≤ 512) :
    execHold h n s = .next (modTh (rotate h s) h fun t => advPc 4 (holdInstr s.clock.now n.toNat t)) := by
  have hw : (Instr.hold h n).wf = true := by simp [Instr.wf, hn, hn']
  rw [execHold, guardWf_wf hw]
  exact issueOwn_runs hr (privFault_supervisor hm _) rfl rfl _

/-- A `HOLD` opens its hold in place of none and of an entry hold. -/
theorem holdInstr_opens {t : Thread} (ht : t.hold = none ∨ ∃ x, t.hold = some x ∧ x.entry = true) (now n : Nat) :
    holdInstr now n t = openHold now n false t := by
  rcases ht with ht | ⟨x, ht, he⟩
  · simp [holdInstr, ht]
  · simp [holdInstr, ht, he]

/-- A `HOLD` under another one never lengthens it. -/
theorem holdInstr_shortens {t : Thread} {x : Hold} (ht : t.hold = some x) (he : x.entry = false) (now n : Nat) :
    holdInstr now n t = { t with hold := some ⟨min x.deadline (now + n), false, n = 1 ∨ x.one = true⟩ } := by
  simp [holdInstr, ht, he]

/-- Settles O20: each form goes through the one issue path, and a fence asks whether its scope holds. -/
theorem systemInstructionsComplete : Obligations.SystemInstructionsComplete := by
  intro h p scope n s
  dsimp only
  refine ⟨fun hr => ?_, fun hr hd hm => ?_, fun hr hw => ?_, fun hr hm => ⟨?_, fun hn hn' => ⟨fun hx => ?_, fun x hx he => ?_⟩⟩⟩
  · exact (issue_runs h p 4 (fun _ _ => {}) s hr rfl rfl rfl).trans (congrArg _ (finish_nil h 4 s))
  · exact (fence_runs hr scope).trans (congrArg _ (fenceStep_done (fenceHolds_true hd hm)))
  · exact (fence_runs hr scope).trans (congrArg _ (fenceStep_waits (fenceHolds_false hw)))
  · refine (rett_runs hr hm).trans (congrArg _ (modTh_congr _ _ _ _ ?_))
    rw [rotate_thread]
    rfl
  · refine (hold_runs hr hm hn hn').trans (congrArg _ (modTh_congr _ _ _ _ ?_))
    rw [rotate_thread, holdInstr_opens hx]
    rfl
  · refine (hold_runs hr hm hn hn').trans (congrArg _ (modTh_congr _ _ _ _ ?_))
    rw [rotate_thread, holdInstr_shortens hx he]
    rfl

end Sys2Proof.Machine

/-!
SUPPORT. Threads to which no slot falls, reserved encodings, and supervisor instructions in task mode.
-/
namespace Sys2Proof.Machine
open Sys2Proof Sys2Proof.Safety

/-! ### Threads to which no slot falls (R124) -/

/-- A thread that is not ready, or to which no slot falls. -/
def Idle (h : Hart) (s : State) : Prop :=
  (thread s h).run ≠ .ready ∨ (thread s h).debugHalt = true ∨ hasSlot (coreOf s h.core) h.thread = false

theorem idle_iff (h : Hart) (s : State) :
    (thOf (coreOf s h.core) h.thread).run ≠ .ready ∨ (thOf (coreOf s h.core) h.thread).debugHalt = true
      ∨ (!hasSlot (coreOf s h.core) h.thread) = true ↔ Idle h s := by
  rw [Bool.not_eq_true']
  rfl

theorem issueWith_idle (h : Hart) (p : Fin 8) (len : Nat) (act : Core → Thread → Act) (eff effSpec : Act → State → State)
    (s : State) (hi : Idle h s) : issueWith h p len act eff effSpec s = .next s := if_pos ((idle_iff h s).2 hi)

theorem issueReserved_idle (h : Hart) (len : Nat) (info : Word) (s : State) (hi : Idle h s) :
    issueReserved h len info s = .next s := if_pos ((idle_iff h s).2 hi)

/-- Whatever its instruction, such a thread changes nothing. -/
theorem exec_idle {i : Instr} {h : Hart} {p : Fin 8} {len : Nat} {s : State} (hs : slot i = some (h, p, len)) (hi : Idle h s) :
    exec i s = .next s := by
  rcases exec_issuesIfWf i h p len s hs with ⟨act, eff, effSpec, he⟩ | ⟨-, info, he⟩
  · rw [he, issueWith_idle h p len act eff effSpec s hi]
  · rw [he, issueReserved_idle h len info s hi]

/-- A thread that wants the slot and is offered it before thread `i` keeps it from `i`. -/
theorem hasSlot_false {c : Core} {i u : Fin 4} (hm : u ∈ (turn c).takeWhile fun j => decide (j ≠ i)) (hw : wantsSlot c u = true) :
    hasSlot c i = false := by
  rw [hasSlot, List.all_eq_false]
  exact ⟨u, hm, by simp [hw]⟩

/-- The urgent thread is offered the slot first. -/
theorem urgent_before {c : Core} {i u : Fin 4} (hu : u ≠ i) (h : urgentOf c = some u) :
    u ∈ (turn c).takeWhile fun j => decide (j ≠ i) := by
  simp [turn, h, hu]

/-- Without an urgent thread the rotation decides. -/
theorem rotation_before : ∀ r i u : Fin 4, (u - r).val < (i - r).val →
    u ∈ (([0, 1, 2, 3] : List (Fin 4)).map fun j => r + j).takeWhile fun j => decide (j ≠ i) := by decide

theorem turn_rotation {c : Core} (h : urgentOf c = none) : turn c = ([0, 1, 2, 3] : List (Fin 4)).map fun i => c.rot + i := by
  simp [turn, h]

theorem before_of_order {c : Core} {i u : Fin 4} (hu : u ≠ i)
    (ho : urgentOf c = some u ∨ (urgentOf c = none ∧ (u - c.rot).val < (i - c.rot).val)) :
    u ∈ (turn c).takeWhile fun j => decide (j ≠ i) := by
  rcases ho with ho | ⟨ho, hlt⟩
  · exact urgent_before hu ho
  · rw [turn_rotation ho]
    exact rotation_before _ _ _ hlt

/-- A ready thread that has let no slot pass wants this one. -/
theorem wantsSlot_ready {c : Core} {u : Fin 4} (hu : thOf c u = { thOf c u with run := .ready, debugHalt := false })
    (hp : c.passed = []) : wantsSlot c u = true := by
  rw [wantsSlot, hu]
  simp [hp]

/-! ### Reserved encodings (R97, R113) -/

theorem issueReserved_faults {h : Hart} {len : Nat} {s : State} (hc : CanIssue h len s) (info : Word) :
    faults (issueReserved h len info s) h 0x01 info s := by
  obtain ⟨hrun, hd, hslot, hpc, hfp⟩ := hc
  have he : issueReserved h len info s = .next (takeFault h len ⟨0x01, info, false⟩ (rotate h s)) := by
    simp only [thread] at *
    simp [issueReserved, hrun, hd, hslot, show ¬ 0x10000 < (thOf (coreOf s h.core) h.thread).pc.toNat + len by omega, hfp]
  rw [he]
  exact faults_takeFault ..

theorem reservedEncoding_faults {h : Hart} {w : BitVec 32} {s : State} (hd : decodeWord h w = none)
    (hc : CanIssue h (if w.getLsbD 0 then 4 else 2) s) :
    faults (execReservedEncoding h w s) h 0x01
      (if w.getLsbD 0 then w.setWidth 64 else BitVec.ofNat 64 (w.toNat % 2 ^ 16 + 2 ^ 32)) s := by
  have he : execReservedEncoding h w s = if bit w 0 then issueReserved h 4 (w.setWidth 64) s
      else issueReserved h 2 (BitVec.ofNat 64 (w.toNat % 2 ^ 16 + 2 ^ 32)) s := by simp [execReservedEncoding, hd, fld]
  rw [he, bit]
  cases hb : w.getLsbD 0 with
  | true =>
    rw [hb] at hc
    exact issueReserved_faults hc _
  | false =>
    rw [hb] at hc
    exact issueReserved_faults hc _

/-! ### Supervisor instructions in task mode (R133) -/

/-- The word in `ERR_INFO` is the instruction's. -/
theorem encodeInfo_eq {i : Instr} {w : Nat} (he : encode i = some (4, w)) : encodeInfo i = BitVec.ofNat 64 w := by
  simp [encodeInfo, he]

theorem issueOwn_faults {h : Hart} {p : Fin 8} {len : Nat} {act : Core → Thread → Act} {s : State} {cause : BitVec 8} {info : Word}
    (hr : Runs h p len s) (ha : act (coreOf s h.core) (thread s h) = { fault := some ⟨cause, info, false⟩ })
    (eff : State → State) : faults (issueOwn h p len act eff s) h cause info s := by
  have hi := issueWith_faults h p len (fun c t => { act c t with writes := .other :: (act c t).writes }) (fun _ => eff)
    (fun _ s => s) s ⟨cause, info, false⟩ hr (by simp [ha]) (by simp [ha])
  rw [issueOwn, hi, ha]
  simp only [BitVec.ofNat_eq_ofNat, BitVec.or_zero, takeFault_modTh_id]
  exact faults_takeFault ..

/-- A block-repeat instruction asks for its privilege first. -/
theorem blk_faults {h : Hart} {p : Fin 8} {s : State} {f : BitVec 8 × Word} (hr : Runs h p 4 s) (d a b : Fin 32) (n : Nat)
    (tests : List (Fin 32)) (step : Blk → Blk) {priv : Thread → Option Flt}
    (hp : priv (thread s h) = some ⟨f.1, f.2, false⟩) : faults (blk h p d a b n tests step priv s) h f.1 f.2 s :=
  issueOwn_faults hr (by simp [hp]) _

/-- With predicate 0 nothing is speculative or skipped. -/
theorem runs_zero {h : Hart} {p : Fin 8} {len : Nat} {s : State} (hr : Runs h p len s) : Runs h 0 len s := ⟨hr.1, rfl, hr.2.2⟩

/-- Settles O21: a slot falls to the first thread of the rotation that wants it, and privilege is asked for first. -/
theorem instructionsThatMayNotIssue : Obligations.InstructionsThatMayNotIssue := by
  refine ⟨fun i h p len s hs => ⟨fun hr => ?_, fun u hu hready hpass ho => ?_⟩, fun h w s hd hc => ?_,
    fun i h p n d a b w s hi hw he hr hm => ?_⟩
  · exact exec_idle hs (hr.imp_right .inl)
  · exact exec_idle hs (.inr (.inr (hasSlot_false (before_of_order hu ho) (wantsSlot_ready hready hpass))))
  · exact reservedEncoding_faults hd hc
  · have hp := privFault_task hm (BitVec.ofNat 64 w)
    rw [← encodeInfo_eq he] at hp ⊢
    simp only [List.mem_cons, List.not_mem_nil, or_false] at hi
    rcases hi with rfl | rfl | rfl | rfl
    · show faults (execRett h s) h _ _ s
      exact issueOwn_faults (runs_zero hr) (by rw [hp]) _
    · show faults (execHold h n s) h _ _ s
      rw [execHold, guardWf_wf hw]
      exact issueOwn_faults (runs_zero hr) (by rw [hp]) _
    · show faults (execCload h p d a b s) h _ _ s
      rw [execCload, guardWf_wf hw]
      exact blk_faults (f := (_, _)) hr d a b 4 _ _ hp
    · show faults (execCread h p d a b s) h _ _ s
      rw [execCread, guardWf_wf hw]
      exact blk_faults (f := (_, _)) hr d a b 4 _ _ hp

end Sys2Proof.Machine

/-!
SUPPORT. Traps, events, handler entries, and the ends of waits, holds and timers.
-/
namespace Sys2Proof.Machine
open Sys2Proof Sys2Proof.Safety

/-! ### TRAP (R114) -/

/-- What `TRAP` with number x leaves of a thread, before it enters or halts. -/
def trapOf (len : Nat) (x : Word) (t : Thread) : Thread :=
  { t with
    errCause := 0x009 ||| (if t.errCause.getLsbD 8 || t.evPending.getLsbD 5 then 0x100 else 0)
    errPc := t.pc
    errInfo := x
    run := .entering 9 (t.pc + BitVec.ofNat 17 len) }

theorem issue_traps {h : Hart} {p : Fin 8} {len : Nat} {s : State} (hr : Runs h p len s) (x : Word) :
    issue h p len (fun _ _ => { fault := some ⟨0x09, x, true⟩, writes := [.other] }) s
      = .next (takeFault h len ⟨0x09, x, true⟩ (rotate h s)) := by
  rw [issue, issueWith_faults h p len _ _ _ s _ hr rfl rfl]
  simp only [BitVec.ofNat_eq_ofNat, BitVec.or_zero, takeFault_modTh_id]

theorem takeFault_enters {h : Hart} {s : State} (hh : (thread s h).hold = none) (len : Nat) (x : Word) :
    takeFault h len ⟨0x09, x, true⟩ (rotate h s) = modTh (rotate h s) h (trapOf len x) := by
  rw [takeFault, decideEntry_enters]
  · rw [modTh_modTh]
    exact modTh_congr _ _ _ _ (by simp [recordFault, trapOf, rotate_thread, bit])
  · simp [recordFault, rotate_thread, hh]
  · rw [modTh, coreOf_modCore_same]
    exact congrArg (setTh · h.thread _) (dropRows_rotate h s)

theorem takeFault_halts {h : Hart} {s : State} (hh : (thread s h).hold.isSome = true) (len : Nat) (x : Word) :
    thread (takeFault h len ⟨0x09, x, true⟩ (rotate h s)) h
      = { thread (modTh (rotate h s) h (trapOf len x)) h with run := .halted } := by
  rw [takeFault, decideEntry_halts]
  · simp [recordFault, trapOf, rotate_thread, bit]
  · simpa [recordFault, rotate_thread] using hh

/-- With no hold open it enters, with one it halts. -/
theorem traps {h : Hart} {p : Fin 8} {len : Nat} {s : State} (hr : Runs h p len s) (x : Word) :
    ((thread s h).hold = none → issue h p len (fun _ _ => { fault := some ⟨0x09, x, true⟩, writes := [.other] }) s
        = .next (modTh (rotate h s) h (trapOf len x)))
    ∧ ((thread s h).hold.isSome = true →
      ∃ t, issue h p len (fun _ _ => { fault := some ⟨0x09, x, true⟩, writes := [.other] }) s = .next t
        ∧ thread t h = { thread (modTh (rotate h s) h (trapOf len x)) h with run := .halted }) := by
  rw [issue_traps hr]
  exact ⟨fun hh => congrArg _ (takeFault_enters hh len x), fun hh => ⟨_, rfl, takeFault_halts hh len x⟩⟩

theorem setWidth_eq_ofNat {w : Nat} (x : BitVec w) : x.setWidth 64 = BitVec.ofNat 64 x.toNat := by
  apply BitVec.eq_of_toNat_eq
  simp

/-! ### Events (R132) -/

/-- Event `k` of a thread is pending and may be taken. -/
def eventDue (t : Thread) (k : Nat) : Bool := t.evPending.getLsbD k && t.evEnable.getLsbD (8 + k)

theorem takeable_open {t : Thread} (hh : t.hold = none) : takeable t = (List.range 8).filter (eventDue t) := by
  simp [takeable, hh]
  rfl

theorem takeable_none {t : Thread} (hn : t.hold.isSome = true ∨ ∀ k < 8, eventDue t k = false) : takeable t = [] := by
  rcases hn with hh | hn
  · simp [takeable, hh]
  · rw [takeable]
    split
    · rfl
    · exact List.filter_eq_nil_iff.2 fun k hk => by
        have := hn k (List.mem_range.1 hk)
        simpa [eventDue, bit] using this

/-- The lowest element of a range that passes a test comes first. -/
theorem filter_range_head {p : Nat → Bool} {e n : Nat} (he : e < n) (hp : p e = true) (hl : ∀ k < e, p k = false) :
    ∃ l, (List.range n).filter p = e :: l := by
  obtain ⟨m, rfl⟩ := Nat.exists_eq_add_of_lt he
  rw [show e + m + 1 = e + (m + 1) by omega, List.range_add, List.filter_append,
    List.filter_eq_nil_iff.2 (fun k hk => by simp [hl k (List.mem_range.1 hk)]), List.nil_append, List.range_succ_eq_map,
    List.map_cons, Nat.add_zero, List.filter_cons_of_pos hp]
  exact ⟨_, rfl⟩

theorem interruptible_of {s : State} {h : Hart} (hr : (thread s h).run = .ready
    ∨ (∃ n, (thread s h).run = .waiting (.fence n)) ∨ ∃ a v n, (thread s h).run = .waiting (.portWrite a v n)) :
    interruptible s h = true ∧ withdrawSend h s = s := by
  rcases hr with hr | ⟨n, hr⟩ | ⟨a, v, n, hr⟩ <;> simp [interruptible, withdrawSend, hr]

theorem takeEvent_enters {h : Hart} {s : State} {e : Nat} {l : List Nat} (ht : takeable (thread s h) = e :: l)
    (hh : (thread s h).hold = none) :
    takeEvent h (thread s h).pc s = modTh (modCore s h.core (dropRows h.thread)) h fun u =>
      { u with evPending := u.evPending &&& ~~~ BitVec.ofNat 8 (2 ^ e), run := .entering (BitVec.ofNat 7 (64 + e)) u.pc } := by
  rw [takeEvent, ht]
  dsimp only
  rw [decideEntry, if_neg (by simp [hh])]
  simp only [modTh, modCore_modCore]
  exact modCore_congr _ _ _ _ (by simp [dropRows, thOf, setTh, thread])

theorem shiftLeft_one_eq (e : Fin 8) : 1#8 <<< e.val = BitVec.ofNat 8 (2 ^ e.val) := by
  revert e
  decide

/-! ### Handler entry (R142) -/

/-- The three low bytes of the table entry decide. -/
theorem entry_bits (m : Mem) (a : Nat) :
    (bit (bytes64 (mread m a 8)) 16 = true ↔ (mget m (a + 2)).toNat % 2 = 1)
    ∧ (bit (bytes64 (mread m a 8)) 0 = true ↔ (mget m (a + 0)).toNat % 2 = 1)
    ∧ ((bytes64 (mread m a 8)).setWidth 16).setWidth 17 = BitVec.ofNat 17 ((mget m (a + 0)).toNat + 256 * (mget m (a + 1)).toNat) := by
  simp only [Nat.add_zero]
  have h0 := (mget m a).isLt
  have h1 := (mget m (a + 1)).isLt
  have h2 := (mget m (a + 2)).isLt
  obtain ⟨r, hr⟩ : ∃ r, bytesNat (mread m a 8)
      = (mget m a).toNat + 256 * ((mget m (a + 1)).toNat + 256 * ((mget m (a + 2)).toNat + 256 * r)) := ⟨_, rfl⟩
  rw [bytes64, hr]
  refine ⟨?_, ?_, ?_⟩
  · rw [bit, BitVec.getLsbD_ofNat, Nat.testBit_eq_decide_div_mod_eq]
    simp
    omega
  · rw [bit, BitVec.getLsbD_ofNat, Nat.testBit_eq_decide_div_mod_eq]
    simp
    omega
  · apply BitVec.eq_of_toNat_eq
    simp
    omega

/-! Draining does not look at whose slot it is. -/

/-- A core whose slot is offered to every thread again. -/
def freshSlot (c : Core) : Core := { c with passed := [] }

theorem memPut_newSlot (c : Core) (a : Nat) (bs : List Byte) (bad keep : Bool) :
    memPut (freshSlot c) a bs bad keep = freshSlot (memPut c a bs bad keep) :=
  List.foldl_hom freshSlot (g₁ := markWord a bs.length bad keep) (g₂ := markWord a bs.length bad keep)
    (init := { c with mem := mwrite c.mem a bs }) fun _ _ => rfl

theorem retireOne_newSlot (c : Core) : retireOne (freshSlot c) = freshSlot (retireOne c) := by
  unfold retireOne
  rw [show (freshSlot c).stores = c.stores from rfl]
  split
  · rfl
  · rename_i e t _
    exact memPut_newSlot { c with stores := t } e.addr e.bytes e.poison e.spec

theorem retireN_newSlot (n : Nat) (c : Core) : retireN n (freshSlot c) = freshSlot (retireN n c) := by
  induction n generalizing c with
  | zero => rfl
  | succ n ih => rw [retireN, retireOne_newSlot, ih, retireN]

theorem drainAll_newSlot (h : Hart) (s : State) :
    drainAll (coreOf (newSlot h.core s) h.core) = freshSlot (drainAll (coreOf s h.core)) := by
  rw [newSlot, coreOf_modCore_same]
  exact retireN_newSlot _ _

theorem retireOne_trapBase (c : Core) : (retireOne c).trapBase = c.trapBase := by
  unfold retireOne
  split
  · rfl
  · exact List.foldlRecOn (motive := fun x : Core => x.trapBase = c.trapBase) _ _ rfl fun _ hx _ _ => hx

theorem retireN_trapBase (n : Nat) (c : Core) : (retireN n c).trapBase = c.trapBase := by
  induction n generalizing c with
  | zero => rfl
  | succ n ih => rw [retireN, ih, retireOne_trapBase]

/-- The table entry of a vector lies in local memory and is readable, valid and even. -/
def entryGood (c : Core) (vec : BitVec 7) : Prop :=
  let a := c.trapBase.toNat + 8 * vec.toNat
  a + 7 < 0xC0000 ∧ a / 8 ∉ c.poison ∧ (mget c.mem (a + 2)).toNat % 2 = 1 ∧ (mget c.mem (a + 0)).toNat % 2 = 0

/-- What a good entry makes of the thread. -/
def enterThrough (c : Core) (vec : BitVec 7) (restart : BitVec 17) (now : Nat) (t : Thread) : Thread :=
  let e := fun i => (mget c.mem (c.trapBase.toNat + 8 * vec.toNat + i)).toNat
  { t with
    retPc := (if t.mode then 0x10000 else 0) ||| BitVec.ofNat 17 (restart.toNat % 2 ^ 16)
    mode := true
    pc := BitVec.ofNat 17 (e 0 + 256 * e 1)
    hold := some ⟨now + 32, true, false⟩
    run := .ready }

theorem retPc_eq (m : Bool) (n : Nat) :
    BitVec.ofNat 17 (n % 2 ^ 16 + at_ (b2n m) 16) = (if m then 0x10000 else 0) ||| BitVec.ofNat 17 (n % 2 ^ 16) := by
  have hlt := Nat.mod_lt n (show 0 < 2 ^ 16 by decide)
  cases m with
  | false => simp [at_, b2n]
  | true =>
    have h := Nat.two_pow_add_eq_or_of_lt hlt 1
    rw [Nat.mul_one] at h
    apply BitVec.eq_of_toNat_eq
    rw [at_, b2n, if_pos rfl, if_pos rfl, Nat.add_comm, Nat.one_mul, h, BitVec.toNat_ofNat, BitVec.toNat_or, BitVec.toNat_ofNat,
      Nat.or_mod_two_pow]
    rfl

/-- A good entry is entered through on the drained core. -/
theorem enterHandler_good {h : Hart} {vec : BitVec 7} {s : State} (hg : entryGood (drainAll (coreOf s h.core)) vec)
    (restart : BitVec 17) : enterHandler h vec restart s = modTh (modCore s h.core drainAll) h
      (enterThrough (drainAll (coreOf s h.core)) vec restart s.clock.now) := by
  obtain ⟨hin, hp, hv, he⟩ := hg
  obtain ⟨h16, h0, hpc⟩ := entry_bits (drainAll (coreOf s h.core)).mem ((drainAll (coreOf s h.core)).trapBase.toNat + 8 * vec.toNat)
  unfold enterHandler
  simp only [coreOf_modCore_same, hpc, localTop]
  rw [if_neg (Nat.not_le.2 hin), if_neg]
  · refine modTh_congr _ _ _ _ ?_
    rw [enterThrough, ← retPc_eq]
    rfl
  · rw [Bool.not_eq_true', ← Bool.not_eq_true, h16, h0, List.contains_iff_mem]
    rintro (hp' | hv' | he')
    · exact hp hp'
    · exact hv' hv
    · exact absurd (he'.symm.trans he) (by decide)

/-- With a bad one the thread halts on the drained core. -/
theorem enterHandler_bad {h : Hart} {vec : BitVec 7} {s : State} (hg : ¬ entryGood (drainAll (coreOf s h.core)) vec)
    (restart : BitVec 17) : enterHandler h vec restart s = haltThread h vec (modCore s h.core drainAll) := by
  obtain ⟨h16, h0, -⟩ := entry_bits (drainAll (coreOf s h.core)).mem ((drainAll (coreOf s h.core)).trapBase.toNat + 8 * vec.toNat)
  unfold enterHandler
  simp only [coreOf_modCore_same, localTop]
  split
  · rfl
  · rename_i hin
    rw [if_pos]
    rw [Bool.not_eq_true', ← Bool.not_eq_true, h16, h0, List.contains_iff_mem]
    by_contra hn
    obtain ⟨hp, hv, he⟩ := and_congr_right (fun _ => not_or) |>.1 (not_or.1 hn)
    exact hg ⟨Nat.not_le.1 hin, hp, not_not.1 hv, Nat.mod_two_ne_one.1 he⟩

/-- Settles O22: the lowest event that is due heads the list of those a thread may take, and draining looks at no slot. -/
theorem trapsEventsAndHandlerEntries : Obligations.TrapsEventsAndHandlerEntries := by
  refine ⟨fun h p n k s => ?_, fun h e s => ?_, fun h vec restart s hr => ?_⟩
  · dsimp only
    rw [← setWidth_eq_ofNat, ← setWidth_eq_ofNat]
    exact ⟨fun hr => traps hr _, fun hr => traps hr _⟩
  · dsimp only
    refine ⟨fun hdb hdf hh hr he hl => ?_, fun hn => ?_⟩
    · obtain ⟨hi, hw⟩ := interruptible_of hr
      obtain ⟨l, ht⟩ := filter_range_head e.isLt he hl
      replace ht := (takeable_open hh).trans ht
      have he' : execEventTaken h s = .next (takeEvent h (thread s h).pc s) := by simp [execEventTaken, hdb, hdf, hi, ht, hw]
      rw [takeEvent_enters ht hh, ← shiftLeft_one_eq] at he'
      exact he'
    · show execEventTaken h s = _
      simp [execEventTaken, takeable_none hn]
  · dsimp only
    have he : exec (.handlerEntry h) s = .next (enterHandler h vec restart (newSlot h.core s)) := by
      show execHandlerEntry h s = _
      rw [execHandlerEntry, hr]
    rw [he]
    have hd := drainAll_newSlot h s
    rw [← show (drainAll (coreOf s h.core)).trapBase = (coreOf s h.core).trapBase from retireN_trapBase _ _]
    have hg : entryGood (drainAll (coreOf (newSlot h.core s) h.core)) vec ↔ entryGood (drainAll (coreOf s h.core)) vec := by
      rw [hd]
      rfl
    refine ⟨fun hgood => ?_, fun hbad => ⟨_, rfl, ?_⟩⟩
    · rw [enterHandler_good (hg.2 hgood), hd]
      rfl
    · rw [enterHandler_bad fun hgood => hbad (hg.1 hgood), haltThread_thread]

end Sys2Proof.Machine

/-!
SUPPORT. The ends of waits, holds and timers.
-/
namespace Sys2Proof.Machine
open Sys2Proof Sys2Proof.Safety

/-! ### The passage of time -/

/-- Time answers invalidations and moves the clock; registers, memories and counters stay. -/
theorem dueInvalidations_fields (s : State) :
    (dueInvalidations s).cores = s.cores ∧ (dueInvalidations s).clock = s.clock ∧ (dueInvalidations s).counters = s.counters := by
  rcases dueInvalidations_cases s with ⟨-, heq⟩ | heq <;> rw [heq] <;> exact ⟨rfl, rfl, rfl⟩

theorem toNow_now (n : Nat) (s : State) : (toNow n s).clock.now = max s.clock.now n := by
  rw [toNow, pass, (dueInvalidations_fields _).2.1]
  dsimp only
  omega

theorem toNow_counters (n : Nat) (s : State) : (toNow n s).counters = s.counters := (dueInvalidations_fields _).2.2

theorem toNow_thread (n : Nat) (s : State) (h : Hart) : thread (toNow n s) h = thread s h := by
  have hcores := (dueInvalidations_fields { s with
    cores := if n - s.clock.now = 0 then s.cores else tmap (fun _ c => { c with passed := [] }) s.cores
    clock := { s.clock with now := s.clock.now + (n - s.clock.now), cycle := s.clock.cycle + (n - s.clock.now) }
    pins := { s.pins with daybreakOut := s.pins.daybreakOut && decide (s.clock.cycle + (n - s.clock.now) < 16) } }).1
  unfold thread coreOf toNow pass
  rw [hcores]
  dsimp only
  split
  · rfl
  · rw [tget_tmap (fun _ c => { c with passed := [] }) Core.reset s.cores h.core.val rfl]
    rfl

/-! ### Waits (R106, R226) -/

theorem waitComplete_eq {h : Hart} {w : Wait} {s : State} (hr : (thread s h).run = .waiting w)
    (hd : (thread s h).debugHalt = false) : execWaitComplete h s = .next (completeWait h w s) := by
  simp [execWaitComplete, hr, hd]

theorem completeWait_fence {h : Hart} {scope : Fin 8} {s : State} (hf : fenceHolds (coreOf s h.core) h.thread scope = true) :
    completeWait h (.fence scope) s = modTh s h fun u => { u with pc := u.pc + 4, run := .ready } := by
  simp [completeWait, hf, wake, setRun, advPc]

theorem completeWait_resolution {h : Hart} {s : State} (hg : (coreOf s h.core).group = none) :
    completeWait h .resolution s = modTh s h fun u => { u with run := .ready } := by
  simp [completeWait, groupResolved, hg, wake, setRun]

/-! ### Holds and timers (R115, R144) -/

theorem logCore_clock (c : CoreId) (th : Fin 4) (cause : BitVec 8) (info : Word) (s : State) :
    (logCore c th cause info s).clock = s.clock := logItem_clock _ _

theorem logCore_counters (c : CoreId) (th : Fin 4) (cause : BitVec 8) (info : Word) (s : State) :
    (logCore c th cause info s).counters = s.counters := logItem_counters _ _

/-- A spent hold is gone; it counts unless it is an entry hold or one of one cycle. -/
theorem expireHold_eq (h : Hart) (x : Hold) (s : State) :
    (expireHold h x s).clock.now = max s.clock.now x.deadline
    ∧ thread (expireHold h x s) h = { thread s h with hold := none }
    ∧ tget 0 (expireHold h x s).counters (ctrCore h.core.val 4)
        = (if x.entry ∨ x.one then id else (satAdd · 1)) (tget 0 s.counters (ctrCore h.core.val 4)) := by
  unfold expireHold
  extract_lets s₁ pc s₂
  have hnow : s₂.clock.now = max s.clock.now x.deadline := toNow_now _ _
  have hth : thread s₂ h = { thread s h with hold := none } := by
    unfold s₂ s₁
    rw [thread_modTh_same, toNow_thread]
  have hctr : s₂.counters = s.counters := toNow_counters _ _
  cases hc : x.entry || x.one with
  | true =>
    rw [Bool.or_eq_true] at hc
    rw [if_pos rfl, if_pos hc, hctr]
    exact ⟨hnow, hth, rfl⟩
  | false =>
    have hc' : ¬(x.entry = true ∨ x.one = true) := by rw [← Bool.or_eq_true, hc]; decide
    rw [if_neg (by decide), if_neg hc', logCore_clock, logCore_thread, logCore_counters]
    refine ⟨hnow, hth, ?_⟩
    rw [count, hctr, tget_tset_same]

/-- Settles O23: each moment has its own lemma on what it leaves. -/
theorem waitsHoldsAndTimersEnd : Obligations.WaitsHoldsAndTimersEnd := by
  intro h scope x n s
  dsimp only
  refine ⟨fun hr hd hf => ?_, fun hr hd hg => ?_, fun hx => ⟨expireHold h x s, ?_, expireHold_eq h x s⟩, fun hn => ?_, fun hb => ?_⟩
  · exact (waitComplete_eq hr hd).trans (congrArg _ (completeWait_fence hf))
  · exact (waitComplete_eq hr hd).trans (congrArg _ (completeWait_resolution hg))
  · show execHoldExpiry h s = _
    rw [execHoldExpiry, hx]
  · refine ⟨raiseEvent h 3 (modTh (toNow n s) h fun t =>
      { t with timer := none, expired := some (BitVec.ofNat 24 (toNow n s).clock.cycle) }), ?_, toNow_now n s, ?_⟩
    · show execTimerExpiry h s = _
      rw [execTimerExpiry, hn]
    · simp [raiseEvent, toNow_thread]
  · show execBreakpointMatch h s = _
    have hm : ((thread s h).breakpoints.contains ((thread s h).pc.setWidth 16) || !(thread s h).watchpoints.isEmpty) = true := by
      simpa using hb
    rw [execBreakpointMatch]
    rw [hm]
    rfl

end Sys2Proof.Machine

/-!
SUPPORT. Elements of vector registers: putting them together, the lanes of a result, and the mask of a compare.
-/
namespace Sys2Proof.Machine
open Sys2Proof Sys2Proof.Safety

/-! ### Elements -/

theorem piece_eq (x : BitVec 512) (b i : Nat) : piece x b i = elemAt x.toNat b i := rfl

theorem elemAt_lt (x b i : Nat) : elemAt x b i < 2 ^ b := Nat.mod_lt _ (Nat.two_pow_pos b)

theorem elemAt_mod (x b i : Nat) : elemAt x b i % 2 ^ b = elemAt x b i := Nat.mod_mod _ _

theorem assemble_lt (b : Nat) (l : List Nat) : assemble b l < 2 ^ (b * l.length) := by
  induction l with
  | nil => simp [assemble]
  | cons e l ih =>
    rw [assemble, List.length_cons, Nat.mul_succ, Nat.add_comm (b * _), Nat.pow_add]
    have he := Nat.mod_lt e (Nat.two_pow_pos b)
    calc e % 2 ^ b + 2 ^ b * assemble b l < 2 ^ b + 2 ^ b * assemble b l := Nat.add_lt_add_right he _
      _ = 2 ^ b * (assemble b l + 1) := by ring
      _ ≤ 2 ^ b * 2 ^ (b * l.length) := Nat.mul_le_mul_left _ ih

/-- Element `i` of what is put together is the `i`-th of the list. -/
theorem elemAt_assemble (b : Nat) (l : List Nat) {i : Nat} (hi : i < l.length) : elemAt (assemble b l) b i = l[i] % 2 ^ b := by
  induction l generalizing i with
  | nil => cases hi
  | cons e l ih =>
    have he := Nat.mod_lt e (Nat.two_pow_pos b)
    cases i with
    | zero => simp [elemAt, assemble]
    | succ i =>
      have hstep : elemAt (assemble b (e :: l)) b (i + 1) = elemAt (assemble b l) b i := by
        rw [elemAt, assemble, Nat.mul_succ, Nat.add_comm (b * i), Nat.pow_add, ← Nat.div_div_eq_div_mul,
          Nat.add_mul_div_left _ _ (Nat.two_pow_pos b), Nat.div_eq_of_lt he, Nat.zero_add, elemAt]
      rw [hstep, ih (by simpa using hi), List.getElem_cons_succ]

/-- What stands above the elements does not reach into them. -/
theorem elemAt_add_mul (x q b : Nat) {i n : Nat} (hi : i < n) : elemAt (x + q * 2 ^ (b * n)) b i = elemAt x b i := by
  obtain ⟨m, rfl⟩ := Nat.exists_eq_add_of_lt hi
  have hp : q * 2 ^ (b * (i + m + 1)) = 2 ^ (b * i) * (2 ^ b * (q * 2 ^ (b * m))) := by
    rw [show b * (i + m + 1) = b * i + (b + b * m) by ring, Nat.pow_add, Nat.pow_add]
    ring
  rw [elemAt, hp, Nat.add_mul_div_left _ _ (Nat.two_pow_pos _), Nat.add_mul_mod_self_left, elemAt]

theorem add_mul_div_self {x q b : Nat} (hx : x < 2 ^ b) : (x + q * 2 ^ b) / 2 ^ b = q := by
  rw [Nat.add_mul_div_right _ _ (Nat.two_pow_pos b), Nat.div_eq_of_lt hx, Nat.zero_add]

theorem add_mul_lt {x old b w : Nat} (hx : x < 2 ^ b) (ho : old < 2 ^ w) (hb : b ≤ w) : x + old / 2 ^ b * 2 ^ b < 2 ^ w := by
  have hq : old / 2 ^ b < 2 ^ (w - b) := (Nat.div_lt_iff_lt_mul (Nat.two_pow_pos b)).2 (by rwa [← Nat.pow_add, Nat.sub_add_cancel hb])
  calc x + old / 2 ^ b * 2 ^ b < 2 ^ b + old / 2 ^ b * 2 ^ b := Nat.add_lt_add_right hx _
    _ = (old / 2 ^ b + 1) * 2 ^ b := by ring
    _ ≤ 2 ^ (w - b) * 2 ^ b := Nat.mul_le_mul_right _ hq
    _ = 2 ^ w := by rw [← Nat.pow_add, Nat.sub_add_cancel hb]

/-! ### Lanes -/

theorem active_iff (t : Thread) (m : Fin 8) (w i : Nat) : active t m w i = true ↔ laneOn t m w i := by
  simp [active, laneOn, bit]

theorem vMark_iff (t : Thread) (m : Fin 8) (d : Fin 32) (srcs : List (Fin 32)) :
    vMark t m d srcs = true ↔ (∃ i ∈ srcs, (vReg t i).poison = true) ∨ (m ≠ 0 ∧ (vReg t d).poison = true) := by
  simp [vMark]

/-- The elements that a conversion or lane operation puts together, before the bits above them. -/
def elems (t : Thread) (m : Fin 8) (w bits n : Nat) (d : Fin 32) (f : Nat → Nat) : List Nat :=
  (List.range n).map fun i => if active t m w i then f i else elemAt (vNat t d) bits i

theorem elems_lt (t : Thread) (m : Fin 8) (w bits n : Nat) (d : Fin 32) (f : Nat → Nat) :
    assemble bits (elems t m w bits n d f) < 2 ^ (bits * n) := by
  simpa [elems] using assemble_lt bits (elems t m w bits n d f)

theorem elemAt_elems (t : Thread) (m : Fin 8) (w bits n : Nat) (d : Fin 32) (f : Nat → Nat) {i : Nat} (hi : i < n) :
    elemAt (assemble bits (elems t m w bits n d f)) bits i
      = if active t m w i then f i % 2 ^ bits else elemAt (vNat t d) bits i := by
  rw [elemAt_assemble _ _ (by simpa [elems] using hi)]
  simp only [elems, List.getElem_map, List.getElem_range]
  split
  · rfl
  · exact elemAt_mod ..

theorem convElems_toNat (t : Thread) (m : Fin 8) {w bits n : Nat} (hb : bits * n ≤ 512) (d : Fin 32) (f : Nat → Nat) :
    (convElems t m w bits n d f).toNat
      = assemble bits (elems t m w bits n d f) + vNat t d / 2 ^ (bits * n) * 2 ^ (bits * n) := by
  rw [convElems, BitVec.toNat_ofNat]
  exact Nat.mod_eq_of_lt (add_mul_lt (elems_lt t m w bits n d f) (vReg t d).data.isLt hb)

/-- The lanes of a conversion's result. -/
theorem lanesOf_convElems (t : Thread) (m : Fin 8) {w bits n : Nat} (hb : bits * n ≤ 512) (d : Fin 32) (srcs : List (Fin 32))
    (f : Nat → Nat) : lanesOf t m w bits n d srcs f ⟨convElems t m w bits n d f, vMark t m d srcs⟩ := by
  have hpiece : ∀ i < n, piece (convElems t m w bits n d f) bits i
      = if active t m w i then f i % 2 ^ bits else piece (vReg t d).data bits i := fun i hi => by
    rw [piece_eq, convElems_toNat t m hb, elemAt_add_mul _ _ _ hi, elemAt_elems _ _ _ _ _ _ _ hi]
    rfl
  refine ⟨fun i hi hon => ?_, fun i hi hoff => ?_, ?_, vMark_iff ..⟩
  · rw [hpiece i hi, if_pos ((active_iff ..).2 hon)]
  · rw [hpiece i hi, if_neg fun hon => hoff ((active_iff ..).1 hon)]
  · rw [convElems_toNat t m hb, add_mul_div_self (elems_lt t m w bits n d f)]
    rfl

/-- Lanes of the whole register are a conversion that keeps no bits above. -/
theorem laneMap_eq (t : Thread) (m : Fin 8) {w : Nat} (hw : 8 * w * (64 / w) = 512) (d : Fin 32) (f : Nat → Nat) :
    laneMap t m w (vReg t d).data f = convElems t m w (8 * w) (64 / w) d f := by
  have hz : vNat t d / 2 ^ (8 * w * (64 / w)) = 0 := by
    rw [hw]
    exact Nat.div_eq_of_lt (vReg t d).data.isLt
  rw [convElems, hz, Nat.zero_mul, Nat.add_zero]
  rfl

theorem lanesOf_laneMap (t : Thread) (m : Fin 8) {w : Nat} (hw : 8 * w * (64 / w) = 512) (d : Fin 32) (srcs : List (Fin 32))
    (f : Nat → Nat) : lanesOf t m w (8 * w) (64 / w) d srcs f ⟨laneMap t m w (vReg t d).data f, vMark t m d srcs⟩ := by
  rw [laneMap_eq t m hw]
  exact lanesOf_convElems t m hw.le d srcs f

theorem laneBytes_fill (w : LaneW) : 8 * laneBytes w * (64 / laneBytes w) = 512 := by cases w <;> rfl

theorem laneBytes_fillMask (w : LaneW) : laneBytes w * (64 / laneBytes w) = 64 := by cases w <;> rfl

end Sys2Proof.Machine

/-!
SUPPORT. What instructions that write a vector register or a mask leave, with their IEEE flags and traps.
-/
namespace Sys2Proof.Machine
open Sys2Proof Sys2Proof.Safety

/-! ### Completion -/

/-- A vector register written by a quiet thread, with flags and the generator's state. -/
theorem finish_vfl {h : Hart} {s : State} (hq : (thread s h).vSpec = []) (len : Nat) (d : Fin 32) (x : Marked) (b : Bool)
    (r : Reads) (f : Option Flt) (fl : BitVec 5) (sr : Option Word) :
    finish h len { reads := r, fault := f, writes := [.v d x b], flags := fl, sr := sr } (rotate h s)
      = after h len (fun t => putFlags fl { putV d x t with sr := sr.getD t.sr }) s := by
  have hq' : (thread (rotate h s) h).vSpec = [] := by rw [rotate_thread, hq]
  have hfin : finish h len { reads := r, fault := f, writes := [.v d x b], flags := fl, sr := sr } (rotate h s)
      = modTh (rotate h s) h fun t => { advPc len t with
        v := tset t.v d.val x, vSpec := tdel t.vSpec d.val, fpFlags := t.fpFlags ||| fl, sr := sr.getD t.sr } := by
    simp [finish, modTh, applyWr, advPc]
  rw [hfin]
  exact modTh_congr _ _ _ _ (by simp [putV, putFlags, advPc, hq'])

theorem finish_mfl (h : Hart) (s : State) (len : Nat) (d : Fin 8) (x : Word) (r : Reads) (f : Option Flt) (fl : BitVec 5) :
    finish h len { reads := r, fault := f, writes := [.m d x], flags := fl } (rotate h s)
      = after h len (fun t => putFlags fl (putM d x t)) s := by
  simp [finish, after, modTh, applyWr, advPc, putM, putFlags]

theorem putFlags_zero (t : Thread) : putFlags 0 t = t := by simp [putFlags]

theorem after_congr {h : Hart} {len : Nat} {f g : Thread → Thread} {s : State} (hfg : ∀ t, f t = g t) :
    after h len f s = after h len g s := by
  rw [show f = g from funext hfg]

/-- Where a source is marked, the dropped mark is noted behind the completion (R160). -/
theorem note_rotate (h : Hart) (srcs : List (Fin 32)) (s t : State) :
    (if srcs.any (fun i => (vReg (thread (rotate h s) h) i).poison) then
      logCore h.core h.thread 0x21 ((thread (rotate h s) h).pc.setWidth 64) t else t) = noted h srcs s t := by
  rw [rotate_thread]
  rfl

theorem dropsPoison_runs {h : Hart} {p : Fin 8} {s : State} {act : Core → Thread → Act} {a : Act} (hr : Runs h p 4 s)
    (ha : act (coreOf s h.core) (thread s h) = a) (hf : a.fault = none) (hst : a.stall = false) (hsp : a.reads.spec = false)
    (srcs : List (Fin 32)) :
    dropsPoison h p srcs act s = .next (noted h srcs s (finish h 4 a (rotate h s))) := by
  subst ha
  rw [dropsPoison, issueWith_runs h p 4 act _ _ s hr hf hst hsp]
  exact congrArg _ (note_rotate h srcs s _)

/-! ### IEEE traps -/

/-- A change of the thread and the issue of its instruction commute. -/
theorem rotate_modTh (h : Hart) (f : Thread → Thread) (s : State) : rotate h (modTh s h f) = modTh (rotate h s) h f := by
  simp only [rotate, modTh, modCore_modCore]
  exact modCore_congr _ _ _ _ rfl

theorem trapped_eq (t : Thread) (fl : BitVec 5) : trapped t fl = fl &&& t.fpCtrl.extractLsb' 3 5 := by
  have hx : BitVec.ofNat 5 (fld t.fpCtrl 3 5) = t.fpCtrl.extractLsb' 3 5 := by
    apply BitVec.eq_of_toNat_eq
    simp [fld, Nat.shiftRight_eq_div_pow]
  rw [trapped, hx]

theorem fpAct_fault_none {t : Thread} {fl : BitVec 5} (hz : trapped t fl = 0) (r : Reads) (ws : List Wr) :
    (fpAct t r fl ws).fault = none := if_pos hz

theorem fpAct_fault_some {t : Thread} {fl : BitVec 5} (hn : trapped t fl ≠ 0) (r : Reads) (ws : List Wr) :
    (fpAct t r fl ws).fault = some ⟨0x0A, (trapped t fl).setWidth 64, false⟩ := if_neg hn

/-- A floating-point action completes, or takes the trap of the exceptions that are enabled (R104). -/
theorem fpDoes_of {i : Instr} {h : Hart} {p : Fin 8} {s : State} {act : Core → Thread → Act} {eff effSpec : Act → State → State}
    {a : Act} {fl : BitVec 5} {put : Thread → Thread} {note : State → State} (hr : Runs h p 4 s)
    (hi : exec i s = issueWith h p 4 act eff effSpec s) (ha : act (coreOf s h.core) (thread s h) = a)
    (hf : a.fault = (fpAct (thread s h) {} fl []).fault) (hst : a.stall = false) (hsp : a.reads.spec = false)
    (hfl : a.flags = fl) (he : eff a (rotate h s) = note (after h 4 (fun u => putFlags fl (put u)) s)) :
    fpDoes i h put fl s note := by
  subst ha
  rw [fpDoes, ← trapped_eq]
  refine ⟨fun hz => ?_, fun hn => ?_⟩
  · rw [hi, issueWith_runs h p 4 act eff effSpec s hr (hf.trans (fpAct_fault_none hz ..)) hst hsp, he]
  · rw [hi, issueWith_faults h p 4 act eff effSpec s _ hr (hf.trans (fpAct_fault_some hn ..)) hsp, hfl, ← rotate_modTh]
    exact faults_takeFault h 4 0x0A _ (modTh s h (putFlags fl))

/-- The flags of the active lanes together. -/
theorem laneFlags_iff (t : Thread) (m : Fin 8) (w n : Nat) (g : Nat → BitVec 5) (k : Nat) :
    (laneFlags t m w n g).getLsbD k = true ↔ ∃ i < n, laneOn t m w i ∧ (g i).getLsbD k = true := by
  induction n with
  | zero => simp [laneFlags]
  | succ n ih =>
    have hstep : laneFlags t m w (n + 1) g
        = if active t m w n then laneFlags t m w n g ||| g n else laneFlags t m w n g := by
      rw [laneFlags, List.range_succ, List.foldl_append]
      rfl
    simp only [← active_iff] at ih ⊢
    rw [hstep]
    cases hn : active t m w n with
    | true =>
      rw [if_pos rfl, BitVec.getLsbD_or, Bool.or_eq_true, ih]
      constructor
      · rintro (⟨i, hi, hg⟩ | hg)
        · exact ⟨i, by omega, hg⟩
        · exact ⟨n, by omega, hn, hg⟩
      · rintro ⟨i, hi, hg⟩
        by_cases he : i = n
        · exact .inr (he ▸ hg.2)
        · exact .inl ⟨i, by omega, hg⟩
    | false =>
      rw [if_neg (by decide), ih]
      constructor
      · rintro ⟨i, hi, hg⟩
        exact ⟨i, by omega, hg⟩
      · rintro ⟨i, hi, hg⟩
        have hne : i ≠ n := fun he => by simp [he, hn] at hg
        exact ⟨i, by omega, hg⟩

/-! ### Masks -/

/-- The mask of a compare: all ones in the active lanes that compare, zero elsewhere. -/
theorem cmpMask_iff (t : Thread) (m : Fin 8) {w : Nat} (hw : w * (64 / w) = 64) (f : Nat → Bool) {k j : Nat} (hk : k < 64 / w)
    (hj : j < w) : (cmpMask t m w f).getLsbD (w * k + j) = true ↔ laneOn t m w k ∧ f k = true := by
  have hlt : w * k + j < 64 := by
    calc w * k + j < w * (k + 1) := by rw [Nat.mul_succ]; omega
      _ ≤ w * (64 / w) := Nat.mul_le_mul_left _ hk
      _ = 64 := hw
  have hbit : ∀ x : Nat, x.testBit (w * k + j) = (elemAt x w k).testBit j := fun x => by
    rw [elemAt, Nat.testBit_mod_two_pow, Nat.testBit_div_two_pow, Nat.add_comm]
    simp [hj]
  rw [cmpMask, BitVec.getLsbD_ofNat, hbit, elemAt_assemble _ _ (by simpa using hk)]
  simp only [List.getElem_map, List.getElem_range, hlt, decide_true, Bool.true_and, ← active_iff, ← Bool.and_eq_true]
  cases active t m w k && f k with
  | true => simp [hj]
  | false => simp

end Sys2Proof.Machine

/-!
SUPPORT. The vector integer and floating-point groups, lane by lane.
-/
namespace Sys2Proof.Machine
open Sys2Proof Sys2Proof.Safety

/-! ### Signed elements -/

theorem signed_eq {n : Nat} (hn : 0 < n) (x : Nat) : signed n x = sgn n x := by
  obtain ⟨m, rfl⟩ : ∃ m, n = m + 1 := ⟨n - 1, by omega⟩
  rw [signed, BitVec.toInt_eq_toNat_cond, BitVec.toNat_ofNat, sgn, Nat.add_sub_cancel]
  refine if_congr ?_ rfl rfl
  rw [Nat.pow_succ]
  omega

theorem intCode_eq (n : Nat) (i : Int) : intCode n i = (BitVec.ofInt n i).toNat := (BitVec.toNat_ofInt ..).symm

/-- An arithmetic shift of an element divides it and rounds down. -/
theorem sarLane_eq {n : Nat} (hn : 0 < n) (x k : Nat) : sarLane n x k = ((BitVec.ofNat n x).sshiftRight k).toNat := by
  rw [sarLane, intCode_eq, ← signed_eq hn, signed, ← BitVec.ofInt_toInt (x := (BitVec.ofNat n x).sshiftRight k),
    BitVec.toInt_sshiftRight, Int.shiftRight_eq_div_pow]

/-! ### Integer lanes (R152) -/

theorem lanesOf_congr {t : Thread} {m : Fin 8} {w b n : Nat} {d : Fin 32} {srcs : List (Fin 32)} {f g : Nat → Nat} {x : Marked}
    (hfg : ∀ i, f i % 2 ^ b = g i % 2 ^ b) (hf : lanesOf t m w b n d srcs f x) : lanesOf t m w b n d srcs g x := by
  obtain ⟨hon, hoff, hup, hmark⟩ := hf
  exact ⟨fun i hi ha => (hon i hi ha).trans (hfg i), hoff, hup, hmark⟩

theorem finish_vr {h : Hart} {s : State} (hq : (thread s h).vSpec = []) (len : Nat) (d : Fin 32) (x : Marked) (b : Bool) (r : Reads) :
    finish h len { reads := r, writes := [.v d x b] } (rotate h s) = after h len (putV d x) s :=
  (finish_vfl hq len d x b r none 0 none).trans (after_congr fun t => putFlags_zero (putV d x t))

theorem vLanes_runs {h : Hart} {p : Fin 8} {s : State} (hr : Runs h p 4 s) (w : Nat) (m : Fin 8) (d : Fin 32) (srcs : List (Fin 32))
    (f : Thread → Nat → Nat) : vLanes h p w m d srcs f s = .next (after h 4 (putV d
      ⟨laneMap (thread s h) m w (vReg (thread s h) d).data (f (thread s h)), vMark (thread s h) m d srcs⟩) s) := by
  obtain ⟨-, hv, -⟩ := hr.2.2
  rw [vLanes, issue_runs h p 4 _ s hr rfl rfl rfl]
  exact congrArg _ (finish_vr hv 4 d _ _ _)

/-- A lane operation of the model gives what a statement names when the two agree modulo the lane. -/
theorem vInt_does {h : Hart} {p : Fin 8} {s : State} (hr : Runs h p 4 s) (w : LaneW) (m : Fin 8) (d a b : Fin 32)
    (F : Nat → Nat → Nat → Nat) (f : Nat → Nat → Nat) (hF : ∀ x y, x < 2 ^ (8 * laneBytes w) → y < 2 ^ (8 * laneBytes w) →
      F (8 * laneBytes w) x y % 2 ^ (8 * laneBytes w) = f x y % 2 ^ (8 * laneBytes w)) :
    ∃ r, lanesOf (thread s h) m (laneBytes w) (8 * laneBytes w) (64 / laneBytes w) d [a, b]
        (fun k => f (piece (vReg (thread s h) a).data (8 * laneBytes w) k) (piece (vReg (thread s h) b).data (8 * laneBytes w) k)) r
      ∧ vInt h p w m d a b F s = .next (after h 4 (putV d r) s) :=
  ⟨_, lanesOf_congr (fun _ => hF _ _ (elemAt_lt ..) (elemAt_lt ..)) (lanesOf_laneMap _ m (laneBytes_fill w) d [a, b] _),
    vLanes_runs hr ..⟩

theorem vIntCmp_does {h : Hart} {p : Fin 8} {s : State} (hr : Runs h p 4 s) (w : LaneW) (m d : Fin 8) (a b : Fin 32)
    (F : Nat → Nat → Nat → Bool) (f : Nat → Nat → Prop) (hF : ∀ x y, F (8 * laneBytes w) x y = true ↔ f x y) :
    ∃ r : Word, (∀ k < 64 / laneBytes w, ∀ j < laneBytes w, (r.getLsbD (laneBytes w * k + j) = true
        ↔ laneOn (thread s h) m (laneBytes w) k ∧ f (piece (vReg (thread s h) a).data (8 * laneBytes w) k)
          (piece (vReg (thread s h) b).data (8 * laneBytes w) k)))
      ∧ vIntCmp h p w m d a b F s = .next (noted h [a, b] s (after h 4 (putM d r) s)) := by
  refine ⟨_, fun k hk j hj => (cmpMask_iff _ m (laneBytes_fillMask w) _ hk hj).trans (and_congr_right fun _ => hF _ _), ?_⟩
  rw [vIntCmp, dropsPoison_runs hr rfl rfl rfl rfl]
  exact congrArg (fun t => Host.Outcome.next (noted h [a, b] s t))
    ((finish_mfl h s 4 d _ _ none 0).trans (after_congr fun t => putFlags_zero (putM d _ t)))

theorem min_eq_ite_lt (x y : Nat) : min x y = if x < y then x else y := by
  split <;> omega

theorem max_eq_ite_lt (x y : Nat) : max x y = if x < y then y else x := by
  split <;> omega

theorem lane_pos (w : LaneW) : 0 < 8 * laneBytes w := by cases w <;> decide

/-- Settles O25: each operation is the shared lane operation, whose function agrees with the one named modulo the lane. -/
theorem vectorIntegerLanes : Obligations.VectorIntegerLanes := by
  intro h p m dm w d a b s hr
  dsimp only
  have hp := lane_pos w
  simp only [signed_eq hp]
  refine ⟨?_, ?_, ?_, ?_, ?_, ?_, ?_, ?_, ?_, ?_, ?_, ?_, ?_, ?_, ?_, ?_⟩
  · exact vInt_does hr w m d a b (fun n x y => x + y) (fun x y => x + y) fun x y hx hy => rfl
  · exact vInt_does hr w m d a b (fun n x y => x + 2 ^ n - y) (fun x y => x + (2 ^ (8 * laneBytes w) - y)) fun x y hx hy => congrArg (· % _) (Nat.add_sub_assoc hy.le x)
  · exact vInt_does hr w m d a b (fun n x y => x * y) (fun x y => x * y) fun x y hx hy => rfl
  · exact vInt_does hr w m d a b (fun n x y => if sgn n x < sgn n y then x else y) (fun x y => if sgn (8 * laneBytes w) x < sgn (8 * laneBytes w) y then x else y) fun x y hx hy => rfl
  · exact vInt_does hr w m d a b (fun n x y => if sgn n x < sgn n y then y else x) (fun x y => if sgn (8 * laneBytes w) x < sgn (8 * laneBytes w) y then y else x) fun x y hx hy => rfl
  · exact vInt_does hr w m d a b (fun n x y => min x y) (fun x y => if x < y then x else y) fun x y hx hy => congrArg (· % _) (min_eq_ite_lt x y)
  · exact vInt_does hr w m d a b (fun n x y => max x y) (fun x y => if x < y then y else x) fun x y hx hy => congrArg (· % _) (max_eq_ite_lt x y)
  · exact vInt_does hr w m d a b (fun n x y => x &&& y) (fun x y => x &&& y) fun x y hx hy => rfl
  · exact vInt_does hr w m d a b (fun n x y => x ||| y) (fun x y => x ||| y) fun x y hx hy => rfl
  · exact vInt_does hr w m d a b (fun n x y => x ^^^ y) (fun x y => x ^^^ y) fun x y hx hy => rfl
  · exact vInt_does hr w m d a b (fun n x y => x * 2 ^ (y % n)) (fun x y => x <<< (y % (8 * laneBytes w))) fun x y hx hy => congrArg (· % _) (Nat.shiftLeft_eq ..).symm
  · exact vInt_does hr w m d a b (fun n x y => x / 2 ^ (y % n)) (fun x y => x >>> (y % (8 * laneBytes w))) fun x y hx hy => congrArg (· % _) (Nat.shiftRight_eq_div_pow ..).symm
  · exact vInt_does hr w m d a b (fun n x y => sarLane n x (y % n)) (fun x y => ((BitVec.ofNat (8 * laneBytes w) x).sshiftRight (y % (8 * laneBytes w))).toNat) fun x y hx hy => congrArg (· % _) (sarLane_eq hp ..)
  · exact vIntCmp_does hr w m dm a b (fun n x y => decide (x = y)) (fun x y => x = y) fun x y => decide_eq_true_iff
  · exact vIntCmp_does hr w m dm a b (fun n x y => decide (sgn n x < sgn n y)) (fun x y => sgn (8 * laneBytes w) x < sgn (8 * laneBytes w) y) fun x y => decide_eq_true_iff
  · exact vIntCmp_does hr w m dm a b (fun n x y => decide (x < y)) (fun x y => x < y) fun x y => decide_eq_true_iff

end Sys2Proof.Machine

/-!
SUPPORT. The vector floating-point groups, lane by lane.
-/
namespace Sys2Proof.Machine
open Sys2Proof Sys2Proof.Safety

theorem fmtBytes_fill (f : FpFmt) : 8 * fmtBytes f * (64 / fmtBytes f) = 512 := by cases f <;> rfl

theorem fmtBytes_fillMask (f : FpFmt) : fmtBytes f * (64 / fmtBytes f) = 64 := by cases f <;> rfl

theorem mode32_eq (t : Thread) : mode32 t = rmOf t := by
  have hf : fld t.fpCtrl 0 3 = t.fpCtrl.toNat % 8 := by simp [fld]
  rw [mode32, rmOf, hf]
  rfl

/-- The sign bit is the top bit of an element. -/
theorem elem_lt_signBit (f : FpFmt) (x i : Nat) : elemAt x (8 * fmtBytes f) i < 2 * signBit (scalarFmt f) := by
  cases f <;> exact elemAt_lt ..

theorem fpNeg_eq (f : FFmt) {x : Nat} (hx : x < 2 * signBit f) :
    fpNeg f x = x % signBit f + (1 - x / signBit f) * signBit f := by
  rw [fpNeg]
  split
  · rename_i hlt
    rw [Nat.mod_eq_of_lt hlt, Nat.div_eq_of_lt hlt, Nat.sub_zero, Nat.one_mul]
  · rename_i hge
    have hd : x / signBit f = 1 := Nat.div_eq_of_lt_le (by omega) (by omega)
    rw [hd, Nat.sub_self, Nat.zero_mul, Nat.add_zero, Nat.mod_eq_sub_mod (by omega), Nat.mod_eq_of_lt (by omega)]

/-- The lanes, the flags and the trap of a vector floating-point instruction. -/
theorem vFp_does {i : Instr} {h : Hart} {p : Fin 8} {s : State} (hr : Runs h p 4 s) (f : FpFmt) (m : Fin 8) (d : Fin 32)
    (srcs : List (Fin 32)) (G : Thread → Nat → Nat × BitVec 5) (g : Nat → Nat × BitVec 5) (hg : ∀ k, G (thread s h) k = g k)
    (hi : exec i s = vFp h p f m d srcs G s) :
    ∃ r fl, lanesOf (thread s h) m (fmtBytes f) (8 * fmtBytes f) (64 / fmtBytes f) d srcs (fun k => (g k).1) r
      ∧ (∀ k, fl.getLsbD k = true ↔ ∃ j < 64 / fmtBytes f, laneOn (thread s h) m (fmtBytes f) j ∧ (g j).2.getLsbD k = true)
      ∧ fpDoes i h (putV d r) fl s := by
  obtain rfl : G (thread s h) = g := funext hg
  obtain ⟨-, hv, -⟩ := hr.2.2
  rw [vFp, issue] at hi
  exact ⟨_, laneFlags (thread s h) m (fmtBytes f) (64 / fmtBytes f) fun j => (G (thread s h) j).2,
    lanesOf_laneMap _ m (fmtBytes_fill f) d srcs _, fun k => laneFlags_iff _ m _ _ _ k,
    fpDoes_of (note := id) hr hi rfl rfl rfl rfl rfl (finish_vfl hv 4 d _ false _ _ _ none)⟩

theorem vFpCmp_does {i : Instr} {h : Hart} {p : Fin 8} {s : State} (hr : Runs h p 4 s) (f : FpFmt) (m d : Fin 8) (a b : Fin 32)
    (cond : FcmpCond) (hi : exec i s = vFpCmp h p f m d a b cond s) :
    let g := fun k => fpCmp (scalarFmt f) cond (fpLane (thread s h) f a k) (fpLane (thread s h) f b k)
    ∃ (r : Word) (fl : BitVec 5),
      (∀ k < 64 / fmtBytes f, ∀ j < fmtBytes f,
        (r.getLsbD (fmtBytes f * k + j) = true ↔ laneOn (thread s h) m (fmtBytes f) k ∧ (g k).1 = true))
      ∧ (∀ k, fl.getLsbD k = true ↔ ∃ j < 64 / fmtBytes f, laneOn (thread s h) m (fmtBytes f) j ∧ (g j).2.getLsbD k = true)
      ∧ fpDoes i h (putM d r) fl s (noted h [a, b] s) := by
  intro g
  rw [vFpCmp, dropsPoison] at hi
  refine ⟨_, laneFlags (thread s h) m (fmtBytes f) (64 / fmtBytes f) fun j => (g j).2,
    fun k hk j hj => cmpMask_iff _ m (fmtBytes_fillMask f) (fun k => (g k).1) hk hj, fun k => laneFlags_iff _ m _ _ _ k, ?_⟩
  refine fpDoes_of hr hi rfl rfl rfl rfl rfl ((note_rotate h [a, b] s _).trans (congrArg (noted h [a, b] s) ?_))
  exact finish_mfl h s 4 d _ _ _ _

/-- Settles O26: each instruction is the shared lane operation with its scalar function. -/
theorem vectorFloatingPointLanes : Obligations.VectorFloatingPointLanes := by
  intro h p m dm f d a b s hr
  dsimp only
  rw [mode32_eq]
  refine ⟨?_, ?_, ?_, ?_, ?_, ?_, ?_, ?_, ?_, ?_, ?_, ?_, ?_, ?_, ?_⟩
  · exact vFp_does hr f m d [a, b] (fun t i => fpAdd (scalarFmt f) (rmOf t) (fpLane t f a i) (fpLane t f b i)) _ (fun k => rfl) rfl
  · exact vFp_does hr f m d [a, b] (fun t i => fpSub (scalarFmt f) (rmOf t) (fpLane t f a i) (fpLane t f b i)) _ (fun k => rfl) rfl
  · exact vFp_does hr f m d [a, b] (fun t i => fpMul (scalarFmt f) (rmOf t) (fpLane t f a i) (fpLane t f b i)) _ (fun k => rfl) rfl
  · exact vFp_does hr f m d [a, b] (fun t i => fpDiv (scalarFmt f) (rmOf t) (fpLane t f a i) (fpLane t f b i)) _ (fun k => rfl) rfl
  · exact vFp_does hr f m d [a] (fun t i => fpSqrt (scalarFmt f) (rmOf t) (fpLane t f a i)) _ (fun k => rfl) rfl
  · exact vFp_does hr f m d [a, b, d] (fun t i => fpFma (scalarFmt f) (rmOf t) false (fpLane t f a i) (fpLane t f b i) (fpLane t f d i)) _ (fun k => rfl) rfl
  · exact vFp_does hr f m d [a, b, d] (fun t i => fpFma (scalarFmt f) (rmOf t) true (fpLane t f a i) (fpLane t f b i) (fpLane t f d i)) _ (fun k => rfl) rfl
  · exact vFp_does hr f m d [a, b] (fun t i => fpMinMax (scalarFmt f) false (fpLane t f a i) (fpLane t f b i)) _ (fun k => rfl) rfl
  · exact vFp_does hr f m d [a, b] (fun t i => fpMinMax (scalarFmt f) true (fpLane t f a i) (fpLane t f b i)) _ (fun k => rfl) rfl
  · exact vFp_does hr f m d [a] (fun t i => (fpAbs (scalarFmt f) (fpLane t f a i), 0)) _ (fun k => rfl) rfl
  · exact vFp_does hr f m d [a] (fun t i => (fpNeg (scalarFmt f) (fpLane t f a i), 0)) _ 
      (fun k => congrArg (·, 0) (fpNeg_eq _ (elem_lt_signBit f _ k))) rfl
  · exact vFpCmp_does hr f m dm a b .eq rfl
  · exact vFpCmp_does hr f m dm a b .lt rfl
  · exact vFpCmp_does hr f m dm a b .le rfl
  · exact vFpCmp_does hr f m dm a b .un rfl

end Sys2Proof.Machine

/-!
SUPPORT. Vector moves, mask operations, zero tests, and the rows of tiles.
-/
namespace Sys2Proof.Machine
open Sys2Proof Sys2Proof.Safety

/-! ### Moves -/

theorem laneMap_does {h : Hart} {p : Fin 8} {s : State} (hr : Runs h p 4 s) {w : Nat} (hw : 8 * w * (64 / w) = 512) (m : Fin 8)
    (d : Fin 32) (srcs : List (Fin 32)) (f : Thread → Nat → Nat) :
    ∃ r, lanesOf (thread s h) m w (8 * w) (64 / w) d srcs (f (thread s h)) r
      ∧ vLanes h p w m d srcs f s = .next (after h 4 (putV d r) s) :=
  ⟨_, lanesOf_laneMap _ m hw d srcs _, vLanes_runs hr ..⟩

/-- An instruction whose action is one vector register's write. -/
theorem issue_v {h : Hart} {p : Fin 8} {s : State} (hr : Runs h p 4 s) {act : Core → Thread → Act} {r : Reads} {d : Fin 32}
    {x : Marked} {b : Bool} (ha : act (coreOf s h.core) (thread s h) = { reads := r, writes := [.v d x b] })
    (hsp : r.spec = false) : issue h p 4 act s = .next (after h 4 (putV d x) s) := by
  obtain ⟨-, hv, -⟩ := hr.2.2
  rw [issue_runs h p 4 _ s hr (by rw [ha]) (by rw [ha]) (by rw [ha]; exact hsp), ha]
  exact congrArg _ (finish_vr hv 4 d _ _ _)

theorem issue_m {h : Hart} {p : Fin 8} {s : State} (hr : Runs h p 4 s) {act : Core → Thread → Act} {d : Fin 8} {x : Word}
    (ha : act (coreOf s h.core) (thread s h) = { writes := [.m d x] }) : issue h p 4 act s = .next (after h 4 (putM d x) s) := by
  rw [issue_runs h p 4 _ s hr (by rw [ha]) (by rw [ha]) (by rw [ha]), ha]
  exact congrArg _ ((finish_mfl h s 4 d x {} none 0).trans (after_congr fun t => putFlags_zero (putM d x t)))

theorem finish_gr (h : Hart) (d : Fin 32) (x : Word) (r : Reads) (s : State) :
    finish h 4 { reads := r, writes := [.g d x] } (rotate h s) = after h 4 (putG d x) s :=
  (finish_gfl h 4 d x r none 0 s).trans (after_congr fun t => putFlags_zero (putG d x t))

theorem issue_g {h : Hart} {p : Fin 8} {s : State} (hr : Runs h p 4 s) {act : Core → Thread → Act} {r : Reads} {d : Fin 32}
    {x : Word} (ha : act (coreOf s h.core) (thread s h) = { reads := r, writes := [.g d x] }) (hsp : r.spec = false) :
    issue h p 4 act s = .next (after h 4 (putG d x) s) := by
  rw [issue_runs h p 4 _ s hr (by rw [ha]) (by rw [ha]) (by rw [ha]; exact hsp), ha]
  exact congrArg _ (finish_gr ..)

/-- An instruction that drops a source's mark and writes gD. -/
theorem dropsPoison_g {h : Hart} {p : Fin 8} {s : State} (hr : Runs h p 4 s) {act : Core → Thread → Act} {r : Reads} {d : Fin 32}
    {x : Word} (ha : act (coreOf s h.core) (thread s h) = { reads := r, writes := [.g d x] }) (hsp : r.spec = false)
    (srcs : List (Fin 32)) : dropsPoison h p srcs act s = .next (noted h srcs s (after h 4 (putG d x) s)) := by
  rw [dropsPoison_runs hr ha rfl rfl hsp, finish_gr]

/-- Elements put together whole: the register's own number. -/
theorem toNat_assemble {b : Nat} {l : List Nat} (hb : b * l.length = 512) :
    (BitVec.ofNat 512 (assemble b l)).toNat = assemble b l := by
  rw [BitVec.toNat_ofNat]
  exact Nat.mod_eq_of_lt (hb ▸ assemble_lt b l)

theorem piece_assemble {b n : Nat} (hb : b * n = 512) (f : Nat → Nat) {i : Nat} (hi : i < n) :
    piece (BitVec.ofNat 512 (assemble b ((List.range n).map f))) b i = f i % 2 ^ b := by
  rw [piece_eq, toNat_assemble (by simpa using hb), elemAt_assemble _ _ (by simpa using hi)]
  simp

/-! ### Bits put together -/

/-- The bits of single-bit elements. -/
theorem testBit_assemble_one (f : Nat → Bool) (n j : Nat) :
    (assemble 1 ((List.range n).map fun i => b2n (f i))).testBit j = (decide (j < n) && f j) := by
  by_cases hj : j < n
  · have he := elemAt_assemble 1 ((List.range n).map fun i => b2n (f i)) (i := j) (by simpa using hj)
    rw [elemAt, Nat.one_mul] at he
    rw [Nat.testBit_eq_decide_div_mod_eq, ← Nat.pow_one 2, he]
    cases hf : f j <;> simp [hj, hf, b2n]
  · have hlt : assemble 1 ((List.range n).map fun i => b2n (f i)) < 2 ^ j :=
      (assemble_lt ..).trans_le (Nat.pow_le_pow_right (by decide) (by simp; omega))
    rw [Nat.testBit_lt_two_pow hlt]
    simp [hj]

/-- A sum of bits at their own places. -/
theorem foldl_bits (f : Nat → Bool) (n : Nat) :
    (List.range n).foldl (fun x i => x + at_ (b2n (f i)) i) 0 < 2 ^ n
    ∧ ∀ j, ((List.range n).foldl (fun x i => x + at_ (b2n (f i)) i) 0).testBit j = (decide (j < n) && f j) := by
  induction n with
  | zero => simp
  | succ n ih =>
    obtain ⟨hlt, hbit⟩ := ih
    rw [List.range_succ, List.foldl_append, List.foldl_cons, List.foldl_nil]
    generalize (List.range n).foldl (fun x i => x + at_ (b2n (f i)) i) 0 = x at hlt hbit ⊢
    refine ⟨?_, fun j => ?_⟩
    · rw [Nat.pow_succ]
      cases f n <;> simp [at_, b2n] <;> omega
    · rw [at_, Nat.add_comm, Nat.mul_comm, Nat.testBit_two_pow_mul_add _ hlt]
      by_cases hj : j < n
      · simp [hj, hbit, Nat.lt_succ_of_lt hj]
      · rw [if_neg hj]
        by_cases he : j = n
        · subst he
          cases f j <;> simp [b2n]
        · have hz : (b2n (f n)).testBit (j - n) = false := by
            obtain ⟨i, hi⟩ : ∃ i, j - n = i + 1 := ⟨j - n - 1, by omega⟩
            rw [hi, Nat.testBit_succ]
            cases f n <;> simp [b2n]
          rw [hz]
          simp
          omega

theorem validBits_spec (t : Thread) (tile : Nat) : validBits t tile < 2 ^ 16
    ∧ ∀ r, (validBits t tile).testBit r = (decide (r < 16) && (rowOf t (16 * tile + r)).valid) := foldl_bits _ 16

/-- A tile has a valid bit exactly when one of its rows is valid. -/
theorem validBits_ne_zero (t : Thread) (tile : Nat) :
    validBits t tile ≠ 0 ↔ ∃ r < 16, (rowOf t (16 * tile + r)).valid = true := by
  obtain ⟨-, hb⟩ := validBits_spec t tile
  constructor
  · intro hn
    obtain ⟨r, hr⟩ := Nat.exists_testBit_of_ne_zero hn
    rw [hb, Bool.and_eq_true, decide_eq_true_iff] at hr
    exact ⟨r, hr⟩
  · rintro ⟨r, hr, hv⟩ hz
    have := hb r
    simp [hz, hr, hv] at this

/-! ### Tile rows -/

/-- A valid row inside the tile's shape comes with its data and its mark; another one reads as zero. -/
theorem vfromtAct_eq (t : Thread) (d : Fin 32) (a : Fin 8) (r : Fin 16) :
    let there := r.val < dRows (descOf t a.val) ∧ (rowOf t (16 * a.val + r.val)).valid = true
    ∃ rd : Reads, rd.spec = false ∧ vfromtAct t d a r = { reads := rd, writes := [.v d
      ⟨if there then lowBytes (rowOf t (16 * a.val + r.val)).data (dRb (descOf t a.val)) else 0#512,
        decide there && (rowOf t (16 * a.val + r.val)).poison⟩ true] } := by
  intro there
  by_cases hr : r.val < dRows (descOf t a.val)
  · by_cases hv : (rowOf t (16 * a.val + r.val)).valid = true
    · exact ⟨{ rows := [16 * a.val + r.val] }, rfl, by simp [vfromtAct, rowData, rowPoison, there, hr, hv]⟩
    · exact ⟨{ rows := [16 * a.val + r.val] }, rfl, by simp [vfromtAct, rowData, rowPoison, there, hr, hv]⟩
  · exact ⟨{}, rfl, by simp [vfromtAct, there, hr]⟩

theorem parityFail_nil (h : Hart) (rows : List Nat) (s : State) : parityFail h rows [] s = s := by
  simp [parityFail, failedRows]

theorem vfromt_runs {h : Hart} {p : Fin 8} {s : State} (hr : Runs h p 4 s) (d : Fin 32) (a : Fin 8) (r : Fin 16) (bad : List Nat) :
    execVfromt h p d a r bad s = .next (finish h 4
      (vfromtAct (thread (parityFail h (vfromtAct (thread s h) d a r).reads.rows bad (rotate h s)) h) d a r)
      (parityFail h (vfromtAct (thread s h) d a r).reads.rows bad (rotate h s))) := by
  obtain ⟨rd, hsp, ha⟩ := vfromtAct_eq (thread s h) d a r
  unfold execVfromt
  dsimp only
  rw [issueWith_runs h p 4 _ _ _ s hr (by rw [ha]) (by rw [ha]) (by rw [ha]; exact hsp)]

/-- A row whose parity fails is poisoned and counted (R177). -/
theorem parityFail_one {h : Hart} {k : Nat} {s : State} (hv : (rowOf (thread s h) k).valid = true) :
    thread (parityFail h [k] [k] s) h
      = { thread s h with rows := tset (thread s h).rows k (spoiledRow s.nextFree (rowOf (thread s h) k)) }
    ∧ tget 0 (parityFail h [k] [k] s).counters (ctrDie (dieOf h.core) 10)
      = satAdd (tget 0 s.counters (ctrDie (dieOf h.core) 10)) 1 := by
  have hf : parityFail h [k] [k] s = logParity h k (modTh { s with nextFree := s.nextFree + 1 } h fun t =>
      { t with rows := tset t.rows k (spoiledRow s.nextFree (rowOf t k)) }) := by simp [parityFail, failedRows, hv]
  rw [hf, logParity]
  constructor
  · show thread (logCore ..) h = _
    rw [logCore_thread, thread_modTh_same]
    rfl
  · rw [count, tget_tset_same, logCore_counters]
    rfl

/-- What the write of a vector register leaves of the thread. -/
theorem finish_v_thread (h : Hart) (s : State) (d : Fin 32) (x : Marked) (b : Bool) (r : Reads) :
    thread (finish h 4 { reads := r, writes := [.v d x b] } s) h
      = { thread s h with
          pc := (thread s h).pc + 4, v := tset (thread s h).v d.val x, vSpec := tdel (thread s h).vSpec d.val } := by
  simp [finish, applyWr, advPc, thread]

theorem vReg_written {t : Thread} {v : Tab Marked} {vs : Tab Marked} {d : Fin 32} {x : Marked} (hv : t.v = tset v d.val x)
    (hs : t.vSpec = tdel vs d.val) : vReg t d = x := by simp [vReg, vArch, hv, hs]

/-- `VFROMT` of a row that fails parity. -/
theorem vfromt_spoiled {h : Hart} {p : Fin 8} {s : State} (hr : Runs h p 4 s) (d : Fin 32) (a : Fin 8) (r : Fin 16)
    (hrow : r.val < dRows (descOf (thread s h) a.val)) (hv : (rowOf (thread s h) (16 * a.val + r.val)).valid = true) :
    let k := 16 * a.val + r.val
    ∃ u, execVfromt h p d a r [k] s = .next u
      ∧ (vReg (thread u h) d).poison = true ∧ (rowOf (thread u h) k).poison = true
      ∧ (vReg (thread u h) d).data = lowBytes (rowOf (thread u h) k).data (dRb (descOf (thread s h) a.val))
      ∧ (thread u h).pc = (thread s h).pc + 4
      ∧ tget 0 u.counters (ctrDie (dieOf h.core) 10) = satAdd (tget 0 s.counters (ctrDie (dieOf h.core) 10)) 1 := by
  intro k
  refine ⟨_, vfromt_runs hr d a r [k], ?_⟩
  have hrd : (vfromtAct (thread s h) d a r).reads.rows = [k] := by rw [vfromtAct, if_pos hrow]
  rw [hrd]
  obtain ⟨hth, hctr⟩ := parityFail_one (h := h) (k := k) (s := rotate h s) (by rw [rotate_thread]; exact hv)
  rw [rotate_thread] at hth
  have hrows : rowOf (thread (parityFail h [k] [k] (rotate h s)) h) k
      = spoiledRow (rotate h s).nextFree (rowOf (thread s h) k) := by
    rw [hth]
    exact tget_tset_same ..
  have hact : vfromtAct (thread (parityFail h [k] [k] (rotate h s)) h) d a r = { reads := { rows := [k] }, writes := [.v d
      ⟨lowBytes (Config.freeRow (rotate h s).nextFree) (dRb (descOf (thread s h) a.val)), true⟩ true] } := by
    have hdesc : descOf (thread (parityFail h [k] [k] (rotate h s)) h) a.val = descOf (thread s h) a.val := by rw [hth]; rfl
    rw [vfromtAct, hdesc, if_pos hrow, rowData, rowPoison, hrows, hdesc]
    simp [spoiledRow, hv, k]
  have hu := finish_v_thread h (parityFail h [k] [k] (rotate h s)) d
    ⟨lowBytes (Config.freeRow (rotate h s).nextFree) (dRb (descOf (thread s h) a.val)), true⟩ true { rows := [k] }
  rw [← hact] at hu
  have hvr := vReg_written (congrArg Thread.v hu) (congrArg Thread.vSpec hu)
  have hrow' : rowOf (thread (finish h 4 (vfromtAct (thread (parityFail h [k] [k] (rotate h s)) h) d a r)
      (parityFail h [k] [k] (rotate h s))) h) k = spoiledRow (rotate h s).nextFree (rowOf (thread s h) k) := by
    rw [← hrows, hu]
    rfl
  rw [hvr, hrow']
  refine ⟨rfl, rfl, rfl, ?_, hctr⟩
  rw [hu, hth]

end Sys2Proof.Machine

/-!
SUPPORT. Vector moves and masks, tile rows and zero tests: each instruction's completion.
-/
namespace Sys2Proof.Machine
open Sys2Proof Sys2Proof.Safety

/-- A tile row is written where the tile has it (R168). -/
theorem vtot_runs {h : Hart} {p td : Fin 8} {s : State} (hr : Runs h p 4 s) (a : Fin 32) (row : Fin 16)
    (hm : mmaHolds (coreOf s h.core) h.thread [td.val] = false) :
    let r : TileRow := ⟨BitVec.ofNat 512 ((vReg (thread s h) a).data.toNat % 2 ^ (8 * dRb (descOf (thread s h) td.val))), true,
      (vReg (thread s h) a).poison, false⟩
    execVtot h p td a row s = .next (after h 4 (fun u => if row.val < dRows (descOf (thread s h) td.val) then
      { u with rows := tset u.rows (16 * td.val + row.val) r } else u) s) := by
  intro r
  rw [execVtot, issue_runs h p 4 _ s hr rfl hm rfl]
  by_cases hd : row.val < dRows (descOf (thread s h) td.val)
  · simp [hd, finish, after, modTh, applyWr, advPc, lowBytes, r]
  · simp [hd, finish, after, modTh, advPc]

theorem vtz_runs {h : Hart} {p : Fin 8} {s : State} (hr : Runs h p 4 s) (m q : Fin 8) (a : Fin 32) :
    execVtz h p m q a s = .next (noted h [a] s (after h 4 (putP q ((List.range 64).all fun j =>
      !(decide (m = 0) || (mReg (thread s h) m).getLsbD j) || decide (piece (vReg (thread s h) a).data 8 j = 0))) s)) := by
  obtain ⟨hp, -⟩ := hr.2.2
  have hall : ((List.range 64).all fun j => !active (thread s h) m 1 j || decide (elemAt (vNat (thread s h) a) 8 j = 0))
      = (List.range 64).all fun j =>
        !(decide (m = 0) || (mReg (thread s h) m).getLsbD j) || decide (piece (vReg (thread s h) a).data 8 j = 0) := by
    simp only [active, bit, Nat.one_mul]
    rfl
  rw [execVtz, dropsPoison_runs hr rfl rfl rfl rfl, finish_p h 4 q _ _ s hp, hall]

/-- One bit for each zero element. -/
theorem vzbm_runs {h : Hart} {p k : Fin 8} {s : State} (hr : Runs h p 4 s) (d a : Fin 32) (hk : 2 ≤ k.val) (hk' : k.val ≤ 6) :
    ∃ x : Word, execVzbm h p d a k s = .next (noted h [a] s (after h 4 (putG d x) s))
      ∧ ∀ j, x.getLsbD j = true ↔ j < 64 / 2 ^ k.val ∧ piece (vReg (thread s h) a).data (8 * 2 ^ k.val) j = 0 := by
  have hw : (Instr.vzbm h p d a k).wf = true := by simp [Instr.wf, hk, hk']
  refine ⟨BitVec.ofNat 64 (assemble 1 ((List.range (64 / 2 ^ k.val)).map fun i =>
    b2n (decide (elemAt (vNat (thread s h) a) (8 * 2 ^ k.val) i = 0)))), ?_, fun j => ?_⟩
  · rw [execVzbm, guardWf_wf hw]
    exact dropsPoison_g (r := { v := [a] }) hr rfl rfl [a]
  · rw [BitVec.getLsbD_ofNat, testBit_assemble_one]
    have hle : 64 / 2 ^ k.val ≤ 64 := Nat.div_le_self _ _
    rw [Bool.and_eq_true, Bool.and_eq_true, decide_eq_true_iff, decide_eq_true_iff, decide_eq_true_iff]
    constructor
    · exact fun h => h.2
    · exact fun h => ⟨by omega, h⟩

theorem tinfo_runs {h : Hart} {p : Fin 8} {s : State} (hr : Runs h p 4 s) (d sel : Fin 32) (hw : (Instr.tinfo h p d sel).wf = true) :
    execTinfo h p d sel s = .next (after h 4 (putG d (tinfo (thread s h) sel.val)) s) := by
  rw [execTinfo, guardWf_wf hw]
  exact issue_g hr rfl rfl

/-- The valid bits of one tile. -/
theorem tinfo_rows (t : Thread) (n : Fin 8) (r : Nat) :
    (tinfo t (16 + n.val)).getLsbD r = true ↔ r < 16 ∧ (rowOf t (16 * n.val + r)).valid = true := by
  obtain ⟨-, hb⟩ := validBits_spec t n.val
  rw [tinfo, if_neg (by omega), if_neg (by omega), Nat.add_sub_cancel_left, BitVec.getLsbD_ofNat, hb]
  simp only [Bool.and_eq_true, decide_eq_true_iff]
  constructor
  · exact fun h => h.2
  · exact fun h => ⟨by omega, h⟩

/-- The tiles that have a valid row. -/
theorem tinfo_tiles (t : Thread) (n : Nat) :
    (tinfo t 8).getLsbD n = true ↔ n < 8 ∧ ∃ r < 16, (rowOf t (16 * n + r)).valid = true := by
  have hb := (foldl_bits (fun i => decide (validBits t i ≠ 0)) 8).2 n
  rw [tinfo, if_neg (by decide), if_pos rfl, BitVec.getLsbD_ofNat, hb]
  simp only [Bool.and_eq_true, decide_eq_true_iff, validBits_ne_zero]
  constructor
  · exact fun h => h.2
  · exact fun h => ⟨by omega, h⟩

/-- The selectors of one tile: its descriptor below 8, its rows from 16 on. -/
theorem tinfo_desc {h : Hart} {p : Fin 8} {s : State} (hr : Runs h p 4 s) (d : Fin 32) (n : Fin 8) :
    execTinfo h p d (Fin.ofNat 32 n.val) s = .next (after h 4 (putG d (descOf (thread s h) n.val)) s) := by
  have hv : (Fin.ofNat 32 n.val).val = n.val := Nat.mod_eq_of_lt (by omega)
  have hw : (Instr.tinfo h p d (Fin.ofNat 32 n.val)).wf = true := by
    simp only [Instr.wf, hv]
    simp
  rw [tinfo_runs hr d _ hw, hv, tinfo, if_pos n.isLt]

theorem tinfo_at {h : Hart} {p : Fin 8} {s : State} (hr : Runs h p 4 s) (d : Fin 32) (n : Fin 8) :
    execTinfo h p d (Fin.ofNat 32 (16 + n.val)) s = .next (after h 4 (putG d (tinfo (thread s h) (16 + n.val))) s) := by
  have hv : (Fin.ofNat 32 (16 + n.val)).val = 16 + n.val := Nat.mod_eq_of_lt (by omega)
  have hw : (Instr.tinfo h p d (Fin.ofNat 32 (16 + n.val))).wf = true := by
    simp only [Instr.wf, hv]
    simp
    omega
  rw [tinfo_runs hr d _ hw, hv]

theorem vbcast_runs {h : Hart} {p : Fin 8} {s : State} (hr : Runs h p 4 s) (m : Fin 8) (w : LaneW) (d a : Fin 32) :
    execVbcast h p m w d a s = .next (after h 4 (putV d ⟨laneMap (thread s h) m (laneBytes w) (vReg (thread s h) d).data
      fun _ => (gReg (thread s h) a).toNat, vMark (thread s h) m d []⟩) s) := by
  rw [execVbcast]
  exact issue_v (r := vReads m d []) hr rfl rfl

theorem vext_runs {h : Hart} {p : Fin 8} {s : State} (hr : Runs h p 4 s) (d a : Fin 32) (k : Fin 8) :
    execVext h p d a k s = .next (noted h [a] s (after h 4
      (putG d (BitVec.ofNat 64 (piece (vReg (thread s h) a).data 64 k.val))) s)) := by
  rw [execVext]
  exact dropsPoison_g (r := { v := [a] }) hr rfl rfl [a]

/-- One 64-bit element of vD is replaced (R151). -/
theorem vins_does {h : Hart} {p : Fin 8} {s : State} (hr : Runs h p 4 s) (d a : Fin 32) (k : Fin 8) :
    ∃ x : BitVec 512, execVins h p d a k s = .next (after h 4 (putV d ⟨x, (vReg (thread s h) d).poison⟩) s)
      ∧ ∀ j < 8, piece x 64 j = if j = k.val then (gReg (thread s h) a).toNat else piece (vReg (thread s h) d).data 64 j := by
  refine ⟨BitVec.ofNat 512 (assemble 64 ((List.range 8).map fun j =>
    if j = k.val then (gReg (thread s h) a).toNat else elemAt (vNat (thread s h) d) 64 j)), ?_, fun j hj => ?_⟩
  · rw [execVins]
    exact issue_v (r := { v := [d] }) hr rfl rfl
  · rw [piece_assemble (by decide) _ hj]
    split
    · exact Nat.mod_eq_of_lt (gReg (thread s h) a).isLt
    · exact elemAt_mod ..

/-- Bytes chosen by the mask (R151). -/
theorem vsel_does {h : Hart} {p : Fin 8} {s : State} (hr : Runs h p 4 s) (m : Fin 8) (d a b : Fin 32) :
    ∃ x : BitVec 512, execVsel h p m d a b s = .next (after h 4 (putV d ⟨x, (vReg (thread s h) a).poison
        || (vReg (thread s h) b).poison || (decide (m ≠ 0) && (vReg (thread s h) d).poison)⟩) s)
      ∧ ∀ j < 64, (laneOn (thread s h) m 1 j → piece x 8 j = piece (vReg (thread s h) a).data 8 j)
        ∧ (¬ laneOn (thread s h) m 1 j → piece x 8 j = piece (vReg (thread s h) b).data 8 j) := by
  have hp : ∀ j < 64, piece (BitVec.ofNat 512 (assemble 8 ((List.range 64).map fun j =>
      if active (thread s h) m 1 j then elemAt (vNat (thread s h) a) 8 j else elemAt (vNat (thread s h) b) 8 j))) 8 j
      = if active (thread s h) m 1 j then elemAt (vNat (thread s h) a) 8 j else elemAt (vNat (thread s h) b) 8 j := by
    intro j hj
    rw [piece_assemble (by decide) _ hj]
    split <;> exact elemAt_mod ..
  refine ⟨_, ?_, fun j hj => ⟨fun hon => (hp j hj).trans (if_pos ((active_iff ..).2 hon)),
    fun hoff => (hp j hj).trans (if_neg fun hon => hoff ((active_iff ..).1 hon))⟩⟩
  rw [execVsel]
  refine issue_v (r := vReads m d [a, b]) (b := false) hr ?_ rfl
  simp [vMark]

theorem mlog_runs {h : Hart} {p : Fin 8} {s : State} (hr : Runs h p 4 s) (op : MaskOp) (d a b : Fin 8)
    (hw : (Instr.mlog h p op d a b).wf = true) : execMlog h p op d a b s = .next (after h 4 (putM d (match op with
      | .and => mReg (thread s h) a &&& mReg (thread s h) b | .or => mReg (thread s h) a ||| mReg (thread s h) b
      | .xor => mReg (thread s h) a ^^^ mReg (thread s h) b | .andn => mReg (thread s h) a &&& ~~~mReg (thread s h) b
      | .not => ~~~mReg (thread s h) a)) s) := by
  rw [execMlog, guardWf_wf hw]
  cases op <;> exact issue_m hr rfl

/-- A row without parity failure goes to vD with its mark (R168). -/
theorem vfromt_clear {h : Hart} {p : Fin 8} {s : State} (hr : Runs h p 4 s) (d : Fin 32) (a : Fin 8) (r : Fin 16) :
    let there := r.val < dRows (descOf (thread s h) a.val) ∧ (rowOf (thread s h) (16 * a.val + r.val)).valid = true
    execVfromt h p d a r [] s = .next (after h 4 (putV d
      ⟨if there then lowBytes (rowOf (thread s h) (16 * a.val + r.val)).data (dRb (descOf (thread s h) a.val)) else 0#512,
        decide there && (rowOf (thread s h) (16 * a.val + r.val)).poison⟩) s) := by
  intro there
  obtain ⟨rd, -, ha⟩ := vfromtAct_eq (thread s h) d a r
  obtain ⟨-, hv, -⟩ := hr.2.2
  rw [vfromt_runs hr, parityFail_nil, rotate_thread, ha]
  exact congrArg _ (finish_vr hv 4 d _ _ _)

/-- Settles O28: each instruction is one write of the shared issue path. -/
theorem vectorMovesAndMasks : Obligations.VectorMovesAndMasks := by
  intro h p m dm am bm q td w k row d a b s hr
  dsimp only
  refine ⟨?_, ?_, ?_, ?_, ?_, ?_, ?_, ?_, ?_, ?_, ?_, ?_, ?_, ?_, ?_, fun n => ⟨?_, ?_⟩, ?_, ?_, ?_, fun hrow hv => ?_⟩
  · exact laneMap_does hr rfl m d [a] fun t i => elemAt (vNat t a) 8 i
  · exact ⟨_, lanesOf_laneMap _ m (laneBytes_fill w) d [] _, vbcast_runs hr m w d a⟩
  · have hf : fld (gReg (thread s h) b) 0 6 = (gReg (thread s h) b).toNat % 64 := by simp [fld]
    rw [← hf]
    exact laneMap_does hr rfl m d [a] fun t j => elemAt (vNat t a) 8 ((j + fld (gReg t b) 0 6) % 64)
  · exact vext_runs hr d a k
  · exact vins_does hr d a k
  · exact vsel_does hr m d a b
  · exact mlog_runs hr .and dm am bm rfl
  · exact mlog_runs hr .or dm am bm rfl
  · exact mlog_runs hr .xor dm am bm rfl
  · exact mlog_runs hr .andn dm am bm rfl
  · exact mlog_runs hr .not dm am 0 rfl
  · exact issue_m (act := fun _ t => { writes := [.m dm (gReg t a)] }) hr rfl
  · exact issue_g (act := fun _ t => { writes := [.g d (mReg t am)] }) (r := {}) hr rfl rfl
  · exact vtz_runs hr m q a
  · exact fun hk hk' => vzbm_runs hr d a hk hk'
  · exact tinfo_desc hr d n
  · exact ⟨_, tinfo_at hr d n, tinfo_rows _ n⟩
  · exact ⟨_, tinfo_runs hr d 8 rfl, tinfo_tiles _⟩
  · exact fun hm => vtot_runs hr a row hm
  · exact vfromt_clear hr d td row
  · exact vfromt_spoiled hr d td row hrow hv

end Sys2Proof.Machine

/-!
SUPPORT. The vector conversions: lanes at the bottom of vD, the marks of T2 codes, and the draws of stochastic rounding.
-/
namespace Sys2Proof.Machine
open Sys2Proof Sys2Proof.Safety

/-! ### Conversions with flags (R155) -/

theorem vConv_does {i : Instr} {h : Hart} {p : Fin 8} {s : State} (hr : Runs h p 4 s) (m : Fin 8) {w bits n : Nat}
    (hb : bits * n ≤ 512) (d a : Fin 32) (G : Thread → Nat → Nat × BitVec 5) (g : Nat → Nat × BitVec 5)
    (hg : ∀ k, G (thread s h) k = g k) (hi : exec i s = vConv h p m w bits n d a G s) :
    ∃ r fl, lanesOf (thread s h) m w bits n d [a] (fun k => (g k).1) r
      ∧ (∀ k, fl.getLsbD k = true ↔ ∃ j < n, laneOn (thread s h) m w j ∧ (g j).2.getLsbD k = true)
      ∧ fpDoes i h (putV d r) fl s := by
  obtain rfl : G (thread s h) = g := funext hg
  obtain ⟨-, hv, -⟩ := hr.2.2
  rw [vConv, issue] at hi
  exact ⟨_, laneFlags (thread s h) m w n fun j => (G (thread s h) j).2, lanesOf_convElems _ m hb d [a] _,
    fun k => laneFlags_iff _ m _ _ _ k,
    fpDoes_of (note := id) hr hi rfl rfl rfl rfl rfl (finish_vfl hv 4 d _ false _ _ _ none)⟩

/-! ### T2 codes (R156) -/

/-- An active element with the invalid code. -/
def BadT2 (t : Thread) (m : Fin 8) (w n : Nat) (a : Fin 32) (i : Nat) : Prop :=
  i < n ∧ laneOn t m w i ∧ piece (vReg t a).data 2 i = 2

theorem mem_badT2 (t : Thread) (m : Fin 8) (w n : Nat) (a : Fin 32) (i : Nat) : i ∈ badT2 t m w n a ↔ BadT2 t m w n a i := by
  rw [badT2, List.mem_filter, List.mem_range, Bool.and_eq_true, active_iff, decide_eq_true_iff]
  rfl

/-- The lowest such element heads the list. -/
theorem badT2_lowest {t : Thread} {m : Fin 8} {w n : Nat} {a : Fin 32} {k : Nat} (hk : BadT2 t m w n a k)
    (hl : ∀ j < k, ¬ BadT2 t m w n a j) : ∃ l, badT2 t m w n a = k :: l := by
  obtain ⟨hkn, hon, hc⟩ := hk
  refine filter_range_head hkn ?_ fun j hj => ?_
  · rw [Bool.and_eq_true, active_iff, decide_eq_true_iff]
    exact ⟨hon, hc⟩
  · rw [← Bool.not_eq_true, Bool.and_eq_true, active_iff, decide_eq_true_iff]
    exact fun h => hl j hj ⟨by omega, h⟩

/-- What a conversion from T2 writes. -/
def t2Result (t : Thread) (m : Fin 8) (w bits n : Nat) (d a : Fin 32) (val : Int → Nat) : Marked :=
  ⟨convElems t m w bits n d fun i => val (if elemAt (vNat t a) 2 i = 2 then 0 else sgn 2 (elemAt (vNat t a) 2 i)),
    vMark t m d [a] || decide (badT2 t m w n a ≠ [])⟩

theorem fromT2_runs {h : Hart} {p : Fin 8} {s : State} (hr : Runs h p 4 s) (m : Fin 8) (w bits n : Nat) (d a : Fin 32)
    (val : Int → Nat) (hok : (thread s h).t2Policy = false ∨ badT2 (thread s h) m w n a = []) :
    fromT2 h p m w bits n d a val s = .next (after h 4 (putV d (t2Result (thread s h) m w bits n d a val)) s) := by
  rw [fromT2]
  refine issue_v (r := convReads m bits n d a) (b := false) hr ?_ rfl
  dsimp only
  rw [t2Result]
  rcases hok with hp | hl
  · rw [hp]
  · rw [hl]
    cases (thread s h).t2Policy <;> rfl

theorem fromT2_faults {h : Hart} {p : Fin 8} {s : State} (hr : Runs h p 4 s) (m : Fin 8) (w bits n : Nat) (d a : Fin 32)
    (val : Int → Nat) (hp : (thread s h).t2Policy = true) {k : Nat} {l : List Nat} (hl : badT2 (thread s h) m w n a = k :: l) :
    faults (fromT2 h p m w bits n d a val s) h 0x14 (BitVec.ofNat 64 k) s := by
  rw [fromT2]
  refine issue_faults h p 4 _ s _ _ hr ?_ rfl rfl
  dsimp only
  rw [hp, hl]

/-- The mark of the result: its sources', or an invalid code's. -/
theorem t2Result_poison (t : Thread) (m : Fin 8) (w bits n : Nat) (d a : Fin 32) (val : Int → Nat) :
    (t2Result t m w bits n d a val).poison = true
      ↔ (vReg t a).poison = true ∨ (m ≠ 0 ∧ (vReg t d).poison = true) ∨ ∃ k, BadT2 t m w n a k := by
  have hbad : badT2 t m w n a ≠ [] ↔ ∃ k, BadT2 t m w n a k := by
    simp only [← mem_badT2]
    exact ⟨List.exists_mem_of_ne_nil _, fun ⟨_, hk⟩ => List.ne_nil_of_mem hk⟩
  rw [t2Result, Bool.or_eq_true, vMark_iff, decide_eq_true_iff, hbad, or_assoc]
  simp

theorem t2Result_lanes (t : Thread) (m : Fin 8) {w bits n : Nat} (hb : bits * n ≤ 512) (d a : Fin 32) (val : Int → Nat) :
    lanesOf t m w bits n d [a] (fun k => if piece (vReg t a).data 2 k = 2 then val 0 else val (signed 2 (piece (vReg t a).data 2 k)))
      ⟨(t2Result t m w bits n d a val).data, (vReg t a).poison || (decide (m ≠ 0) && (vReg t d).poison)⟩ := by
  have hmark : vMark t m d [a] = ((vReg t a).poison || (decide (m ≠ 0) && (vReg t d).poison)) := by simp [vMark]
  rw [← hmark, t2Result]
  refine lanesOf_congr (fun i => congrArg (· % _) ?_) (lanesOf_convElems t m hb d [a] _)
  rw [signed_eq (by decide), apply_ite val]
  rfl

/-- A conversion from T2 as a statement has it: the result with its mark, or the fault. -/
theorem fromT2_does {i : Instr} {h : Hart} {p : Fin 8} {s : State} (hr : Runs h p 4 s) (m : Fin 8) {w bits n : Nat}
    (hb : bits * n ≤ 512) (d a : Fin 32) (val : Int → Nat) (hi : exec i s = fromT2 h p m w bits n d a val s) :
    let t := thread s h
    (t.t2Policy = false ∨ (∀ k, ¬ BadT2 t m w n a k) → ∃ r, exec i s = .next (after h 4 (putV d r) s)
      ∧ lanesOf t m w bits n d [a] (fun k => if piece (vReg t a).data 2 k = 2 then val 0 else val (signed 2 (piece (vReg t a).data 2 k)))
          ⟨r.data, (vReg t a).poison || (decide (m ≠ 0) && (vReg t d).poison)⟩
      ∧ (r.poison = true ↔ (vReg t a).poison = true ∨ (m ≠ 0 ∧ (vReg t d).poison = true) ∨ ∃ k, BadT2 t m w n a k))
    ∧ (∀ k, t.t2Policy = true → BadT2 t m w n a k → (∀ j < k, ¬ BadT2 t m w n a j) →
        faults (exec i s) h 0x14 (BitVec.ofNat 64 k) s) := by
  intro t
  refine ⟨fun hok => ⟨t2Result t m w bits n d a val, ?_, t2Result_lanes t m hb d a val, t2Result_poison ..⟩,
    fun k hp hk hl => ?_⟩
  · rw [hi]
    refine fromT2_runs hr m w bits n d a val (hok.imp_right fun hn => ?_)
    exact List.eq_nil_iff_forall_not_mem.2 fun k hk => hn k ((mem_badT2 ..).1 hk)
  · obtain ⟨l, hbad⟩ := badT2_lowest hk hl
    rw [hi]
    exact fromT2_faults hr m w bits n d a val hp hbad

/-! ### Draws (R186) -/

/-- Active lanes below `i`. -/
def activeBelow (t : Thread) (m : Fin 8) (w i : Nat) : Nat := (List.range i).countP (active t m w)

theorem activeBelow_succ (t : Thread) (m : Fin 8) (w i : Nat) :
    activeBelow t m w (i + 1) = if active t m w i then activeBelow t m w i + 1 else activeBelow t m w i := by
  rw [activeBelow, List.range_succ, List.countP_append, List.countP_singleton]
  split <;> rfl

theorem drawsOn_srNext (n : Nat) (x : Word) : drawsOn n (srNext x) = srNext (drawsOn n x) := by
  induction n with
  | zero => rfl
  | succ n ih => rw [drawsOn, ih, drawsOn]

theorem draws_append (t : Thread) (m : Fin 8) (w : Nat) (l k : List Nat) (x : Word) :
    draws t m w (l ++ k) x = draws t m w l x ++ draws t m w k (drawsOn (l.countP (active t m w)) x) := by
  induction l generalizing x with
  | nil => rfl
  | cons i l ih =>
    cases hi : active t m w i with
    | true => simp [draws, hi, ih, drawsOn, drawsOn_srNext]
    | false => simp [draws, hi, ih]

/-- Each active element takes the next draw, in ascending order. -/
theorem draws_range (t : Thread) (m : Fin 8) (w n : Nat) (x : Word) :
    draws t m w (List.range n) x
      = ((List.range n).filter (active t m w)).map fun i => (i, drawsOn (activeBelow t m w i + 1) x) := by
  induction n with
  | zero => rfl
  | succ n ih =>
    rw [List.range_succ, draws_append, ih, List.filter_append, List.map_append]
    congr 1
    cases hn : active t m w n with
    | true => simp [draws, hn, activeBelow, drawsOn]
    | false => simp [draws, hn]

theorem find_graph {α : Type} (f : Nat → α) {l : List Nat} {i : Nat} (hi : i ∈ l) :
    (l.map fun j => (j, f j)).find? (fun e => decide (e.1 = i)) = some (i, f i) := by
  induction l with
  | nil => cases hi
  | cons j l ih =>
    by_cases hj : j = i
    · simp [hj]
    · have := ih ((List.mem_cons.1 hi).resolve_left (Ne.symm hj))
      simpa [hj] using this

theorem drawMode_active {t : Thread} {m : Fin 8} {w n i : Nat} (x : Word) (hi : i < n) (ha : active t m w i = true) :
    drawMode (draws t m w (List.range n) x) i = .sr ((drawsOn (activeBelow t m w i + 1) x).toNat >>> 48) := by
  have hd : srDraw (drawsOn (activeBelow t m w i + 1) x) = (drawsOn (activeBelow t m w i + 1) x).toNat >>> 48 := by
    have := (drawsOn (activeBelow t m w i + 1) x).isLt
    rw [srDraw, fld, Nat.shiftRight_eq_div_pow]
    omega
  rw [drawMode, draws_range, find_graph _ (List.mem_filter.2 ⟨List.mem_range.2 hi, ha⟩), ← hd]

/-- The generator stands behind the last draw. -/
theorem lastDraw_range (t : Thread) (m : Fin 8) (w n : Nat) (x : Word) :
    (lastDraw (draws t m w (List.range n) x)).getD x = drawsOn (activeBelow t m w n) x := by
  induction n with
  | zero => rfl
  | succ n ih =>
    rw [List.range_succ, draws_append, activeBelow_succ]
    cases hn : active t m w n with
    | true => simp [lastDraw, draws, hn, activeBelow, drawsOn]
    | false =>
      rw [show draws t m w [n] _ = [] by simp [draws, hn], List.append_nil, ih]
      rfl

/-! ### Stochastic rounding (R184–R186) -/

theorem srState_quiet {h : Hart} {p : Fin 8} {s : State} (hq : Quiet h s) (m : Fin 8) (bits n : Nat) (d a : Fin 32) :
    srState (specNow (coreOf s h.core) h (thread s h) p (convReads m bits n d a)) (thread s h) = (thread s h).sr := by
  rw [specNow, isSpec_quiet h s p _ hq rfl]
  rfl

/-- The result of element `i` of a stochastic conversion. -/
def srElem (t : Thread) (m : Fin 8) (code : Nat) (a : Fin 32) (i : Nat) : Nat × BitVec 5 :=
  narrow code (.sr ((drawsOn (activeBelow t m 4 i + 1) t.sr).toNat >>> 48)) false (fdecode fp32 (elemAt (vNat t a) 32 i))

theorem lanesOf_congrOn {t : Thread} {m : Fin 8} {w b n : Nat} {d : Fin 32} {srcs : List (Fin 32)} {f g : Nat → Nat} {x : Marked}
    (hfg : ∀ i < n, active t m w i = true → f i = g i) (hf : lanesOf t m w b n d srcs f x) : lanesOf t m w b n d srcs g x := by
  obtain ⟨hon, hoff, hup, hmark⟩ := hf
  exact ⟨fun i hi ha => (hon i hi ha).trans (by rw [hfg i hi ((active_iff ..).2 ha)]), hoff, hup, hmark⟩

theorem contBits_narrow {f : Nat} (hf : 2 ≤ f) : contBits f * 16 ≤ 512 := by
  unfold contBits
  split <;> omega

theorem after_congr_at {h : Hart} {len : Nat} {f g : Thread → Thread} {s : State}
    (hfg : f (advPc len (thread s h)) = g (advPc len (thread s h))) : after h len f s = after h len g s :=
  modTh_congr _ _ _ _ (by rw [rotate_thread]; exact hfg)

/-- The result of element `i` as the model computes it, from the list of draws. -/
def srElemDrawn (t : Thread) (m : Fin 8) (code : Nat) (a : Fin 32) (i : Nat) : Nat × BitVec 5 :=
  narrow code (drawMode (draws t m 4 (List.range 16) t.sr) i) false (fdecode fp32 (elemAt (vNat t a) 32 i))

theorem srElemDrawn_active {t : Thread} {m : Fin 8} {i : Nat} (hi : i < 16) (ha : active t m 4 i = true) (code : Nat) (a : Fin 32) :
    srElemDrawn t m code a i = srElem t m code a i := by
  rw [srElemDrawn, drawMode_active t.sr hi ha, srElem]

/-- The action of a stochastic conversion. -/
def srAct (h : Hart) (p : Fin 8) (f : Fin 16) (m : Fin 8) (d a : Fin 32) (c : Core) (t : Thread) : Act :=
  let reads := convReads m (contBits f.val) 16 d a
  let ds := draws t m 4 (List.range 16) (srState (specNow c h t p reads) t)
  let g := fun i => narrow f.val (drawMode ds i) false (fdecode fp32 (elemAt (vNat t a) 32 i))
  { fpAct t reads (laneFlags t m 4 16 fun i => (g i).2)
      [.v d ⟨convElems t m 4 (contBits f.val) 16 d (fun i => (g i).1), vMark t m d [a]⟩ false] with sr := lastDraw ds }

theorem vcvtfSr_eq (h : Hart) (p : Fin 8) (f : Fin 16) (m : Fin 8) (d a : Fin 32) (s : State) (hf : 2 ≤ f.val)
    (hf' : f.val ≤ 11) : execVcvtf h p f true m d a s = issueWith h p 4 (srAct h p f m d a) (finish h 4) (finishSpec h 4) s := by
  have hw : (Instr.vcvtf h p f true m d a).wf = true := by
    simp [Instr.wf]
    omega
  have hz : f ≠ 0 := fun he => by simp [he] at hf
  rw [execVcvtf, guardWf_wf hw, if_neg hz, if_neg (by decide)]
  rfl

theorem srAct_quiet {h : Hart} {s : State} (hq : Quiet h s) (p : Fin 8) (f : Fin 16) (m : Fin 8) (d a : Fin 32) :
    srAct h p f m d a (coreOf s h.core) (thread s h)
      = { fpAct (thread s h) (convReads m (contBits f.val) 16 d a)
            (laneFlags (thread s h) m 4 16 fun i => (srElemDrawn (thread s h) m f.val a i).2)
            [.v d ⟨convElems (thread s h) m 4 (contBits f.val) 16 d fun i => (srElemDrawn (thread s h) m f.val a i).1,
              vMark (thread s h) m d [a]⟩ false] with
          sr := lastDraw (draws (thread s h) m 4 (List.range 16) (thread s h).sr) } := by
  rw [srAct, srState_quiet hq]
  rfl

theorem vcvtfSr_does {h : Hart} {p : Fin 8} {s : State} (hr : Runs h p 4 s) (f : Fin 16) (m : Fin 8) (d a : Fin 32)
    (hf : 2 ≤ f.val) (hf' : f.val ≤ 11) :
    let t := thread s h
    ∃ r fl, lanesOf t m 4 (contBits f.val) 16 d [a] (fun i => (srElem t m f.val a i).1) r
      ∧ (∀ k, fl.getLsbD k = true ↔ ∃ i < 16, laneOn t m 4 i ∧ (srElem t m f.val a i).2.getLsbD k = true)
      ∧ fpDoes (.vcvtf h p f true m d a) h (fun u => { putV d r u with sr := drawsOn (activeBelow t m 4 16) u.sr }) fl s := by
  intro t
  obtain ⟨-, hv, -⟩ := hr.2.2
  refine ⟨⟨convElems t m 4 (contBits f.val) 16 d fun i => (srElemDrawn t m f.val a i).1, vMark t m d [a]⟩,
    laneFlags t m 4 16 fun i => (srElemDrawn t m f.val a i).2,
    lanesOf_congrOn (fun i hi ha => by rw [srElemDrawn_active hi ha]) (lanesOf_convElems t m (contBits_narrow hf) d [a] _),
    fun k => (laneFlags_iff t m 4 16 _ k).trans ⟨?_, ?_⟩, ?_⟩
  · rintro ⟨i, hi, ha, hb⟩
    exact ⟨i, hi, ha, by rwa [← srElemDrawn_active hi ((active_iff ..).2 ha)]⟩
  · rintro ⟨i, hi, ha, hb⟩
    exact ⟨i, hi, ha, by rwa [srElemDrawn_active hi ((active_iff ..).2 ha)]⟩
  · refine fpDoes_of (note := id) hr (vcvtfSr_eq h p f m d a s hf hf') (srAct_quiet hr.2.2 p f m d a) rfl rfl rfl rfl ?_
    refine (finish_vfl hv 4 d _ false _ _ _ _).trans (after_congr_at ?_)
    simp only [putV, putFlags, advPc]
    rw [lastDraw_range]
    rfl

/-! ### All conversions -/

/-- Three values pack as their codes (R155). -/
theorem packT2_eq (x : Int) : intCode 2 (max (-1) (min 1 x)) = if x < 0 then 3 else if x = 0 then 0 else 1 := by
  have hc : max (-1) (min 1 x) = if x < 0 then -1 else if x = 0 then 0 else 1 := by
    split_ifs <;> omega
  rw [hc]
  split_ifs <;> rfl

theorem vcvts_eq (h : Hart) (p : Fin 8) (f : Fin 16) (m : Fin 8) (d a : Fin 32) (s : State) (hf : 2 ≤ f.val) (hf' : f.val ≤ 10) :
    execVcvts h p f m d a s
      = vConv h p m 4 32 16 d a (fun t i => widen32 f.val (elemAt (vNat t a) (contBits f.val) i)) s := by
  have hw : (Instr.vcvts h p f m d a).wf = true := by
    simp [Instr.wf]
    omega
  have h11 : f ≠ 11 := fun he => by simp [he] at hf'
  have hz : f ≠ 0 := fun he => by simp [he] at hf
  rw [execVcvts, guardWf_wf hw, if_neg h11, if_neg hz]

theorem vcvtf_eq (h : Hart) (p : Fin 8) (f : Fin 16) (m : Fin 8) (d a : Fin 32) (s : State) (hf : 2 ≤ f.val) (hf' : f.val ≤ 11) :
    execVcvtf h p f false m d a s = vConv h p m 4 (contBits f.val) 16 d a (fun t i =>
      narrow f.val (rmOf t) false (fdecode fp32 (elemAt (vNat t a) 32 i))) s := by
  have hw : (Instr.vcvtf h p f false m d a).wf = true := by
    simp [Instr.wf]
    omega
  have hz : f ≠ 0 := fun he => by simp [he] at hf
  rw [execVcvtf, guardWf_wf hw, if_neg hz, if_pos (by decide)]

/-- Settles O27: each form is a conversion with flags, one from T2 codes, or the stochastic one. -/
theorem vectorConversions : Obligations.VectorConversions := by
  intro h p m f d a s hr
  dsimp only
  rw [mode32_eq]
  refine ⟨?_, ?_, ?_, ?_, ?_, ?_, ?_, ?_, fun hf hf' => ?_, ?_, fun hf hf' => ⟨?_, activeBelow (thread s h) m 4, rfl, ?_, ?_, ?_⟩⟩
  · exact vConv_does (w := 4) (bits := 32) (n := 16) hr m (by decide) d a
      (fun t i => fpToIntSat fp32 32 (rmOf t) (elemAt (vNat t a) 32 i)) _ (fun k => rfl) rfl
  · exact vConv_does (w := 4) (bits := 32) (n := 16) hr m (by decide) d a
      (fun t i => fround fp32 (rmOf t) (ofInt (sgn 32 (elemAt (vNat t a) 32 i)))) _
      (fun k => by rw [signed_eq (by decide)]; rfl) rfl
  · exact vConv_does (w := 8) (bits := 64) (n := 8) hr m (by decide) d a
      (fun t i => fpToIntSat fp64 64 (rmOf t) (elemAt (vNat t a) 64 i)) _ (fun k => rfl) rfl
  · exact vConv_does (w := 8) (bits := 64) (n := 8) hr m (by decide) d a
      (fun t i => fround fp64 (rmOf t) (ofInt (sgn 64 (elemAt (vNat t a) 64 i)))) _
      (fun k => by rw [signed_eq (by decide)]; rfl) rfl
  · exact vConv_does (i := .vpackt2 h p m d a) (w := 1) (bits := 2) (n := 64) hr m (by decide) d a
      (fun t i => (intCode 2 (max (-1) (min 1 (sgn 8 (elemAt (vNat t a) 8 i)))), 0)) _
      (fun k => by rw [packT2_eq, ← signed_eq (by decide)]) rfl
  · refine fromT2_does hr m (by decide) d a (fun i => (BitVec.ofInt 8 i).toNat) ?_
    show execVunpkt2 h p m d a s = _
    rw [execVunpkt2, show intCode 8 = fun i => (BitVec.ofInt 8 i).toNat from funext (intCode_eq 8)]
  · exact fromT2_does hr m (by decide) d a (fun i => (fround fp32 .rne (ofInt i)).1) rfl
  · exact vConv_does (w := 4) (bits := 32) (n := 16) hr m (by decide) d a
      (fun t i => if i < 8 then fpConv32 (rmOf t) (elemAt (vNat t a) 64 i) else (0, 0)) _
      (fun k => rfl) rfl
  · exact vConv_does (w := 4) (bits := 32) (n := 16) hr m (by decide) d a
      (fun t i => widen32 f.val (elemAt (vNat t a) (contBits f.val) i)) _ (fun k => rfl)
      (vcvts_eq h p f m d a s hf hf')
  · exact vConv_does (w := 4) (bits := 64) (n := 8) hr m (by decide) d a
      (fun t i => narrow 0 (rmOf t) false (fdecode fp32 (elemAt (vNat t a) 32 i))) _
      (fun k => rfl) rfl
  · exact vConv_does hr m (contBits_narrow hf) d a
      (fun t i => narrow f.val (rmOf t) false (fdecode fp32 (elemAt (vNat t a) 32 i))) _ (fun k => rfl)
      (vcvtf_eq h p f m d a s hf hf')
  · intro i ha
    rw [activeBelow_succ, if_pos ((active_iff ..).2 ha)]
  · intro i ha
    rw [activeBelow_succ, if_neg fun hon => ha ((active_iff ..).1 hon)]
  · exact vcvtfSr_does hr f m d a hf hf'

end Sys2Proof.Machine

/-!
SUPPORT. The integer contract of the matrix unit as a matrix product.
-/
namespace Sys2Proof.Machine
open Sys2Proof Sys2Proof.Safety

theorem foldl_add_eq_sum (f : Nat → Int) (l : List Nat) (c : Int) : l.foldl (fun x k => x + f k) c = c + (l.map f).sum := by
  induction l generalizing c with
  | nil => simp
  | cons k l ih => rw [List.foldl_cons, ih, List.map_cons, List.sum_cons, Int.add_assoc]

/-- On dense operands every element of tB is there. -/
theorem intElem_dense (t : Thread) (tm tb ta i j c : Nat) : intElem t false tm tb ta i j c
    = intCode 32 ((c : Int) + ((List.range (dDense (descOf t ta))).map fun k =>
        sgn (contBits (dFmt (descOf t ta))) (rowElem t ta (dFmt (descOf t ta)) i k)
          * sgn (contBits (dFmt (descOf t ta))) (rowElem t tb (dFmt (descOf t ta)) j k)).sum) := by
  rw [intElem, ← foldl_add_eq_sum]
  rfl

/-- Settles O31: the contract's sum over the dense positions, reduced to 32 bits. -/
theorem denseIntegerMmaIsTheMatrixProduct : Obligations.DenseIntegerMmaIsTheMatrixProduct := by
  intro t tm tb ta i j c hf ht
  dsimp only
  have hb : contBits (dFmt (descOf t ta.val)) = if dFmt (descOf t ta.val) = 9 then 8 else 4 := by
    rcases hf with hf | hf <;> rw [hf] <;> rfl
  have hpos : 0 < contBits (dFmt (descOf t ta.val)) := by
    rcases hf with hf | hf <;> rw [hf] <;> decide
  simp only [contract, ht, if_true, intElem_dense, ← hb, signed_eq hpos]
  rfl

end Sys2Proof.Machine

/-!
SUPPORT. Floating-point and matrix forms complete when no trap is enabled.
-/
namespace Sys2Proof.Machine
open Sys2Proof Sys2Proof.Safety

/-! ### No trap enabled (R104) -/

theorem noTrap {t : Thread} (hc : t.fpCtrl.toNat / 8 = 0) (fl : BitVec 5) : trapped t fl = 0 := by
  have hf : fld t.fpCtrl 3 5 = 0 := by rw [fld, show 2 ^ 3 = 8 from rfl, hc, Nat.zero_mod]
  rw [trapped, hf]
  exact BitVec.and_zero

/-- With no trap enabled what an instruction does is to complete. -/
theorem fpDoes_completes {i : Instr} {h : Hart} {put : Thread → Thread} {fl : BitVec 5} {s : State} {note : State → State}
    (hc : (thread s h).fpCtrl.toNat / 8 = 0) (hd : fpDoes i h put fl s note) :
    exec i s = .next (note (after h 4 (fun u => putFlags fl (put u)) s)) :=
  hd.1 ((trapped_eq _ fl).symm.trans (noTrap hc fl))

theorem fpG_completes {h : Hart} {p : Fin 8} {s : State} (hr : Runs h p 4 s) (hc : (thread s h).fpCtrl.toNat / 8 = 0) (d : Fin 32)
    (f : Thread → Nat × BitVec 5) :
    ∃ x fl, fpG h p d f s = .next (after h 4 (fun u => putFlags fl (putG d x u)) s) := by
  refine ⟨BitVec.ofNat 64 (f (thread s h)).1, (f (thread s h)).2, ?_⟩
  rw [fpG, issue_runs h p 4 _ s hr (fpAct_fault_none (noTrap hc _) _ _) rfl rfl]
  exact congrArg _ (finish_gfl h 4 d _ {} _ _ s)

theorem finish_pfl {h : Hart} {s : State} (hs : (thread s h).pSpec = []) (d : Fin 8) (x : Bool) (f : Option Flt) (fl : BitVec 5) :
    finish h 4 { fault := f, writes := [.p d x], flags := fl } (rotate h s)
      = after h 4 (fun u => putFlags fl (putP d x u)) s := by
  have ht : (thOf (coreOf (rotate h s) h.core) h.thread).pSpec = [] := by rw [← hs, ← rotate_thread h h s, thread]
  unfold finish after modTh
  refine modCore_congr _ _ _ _ ?_
  by_cases hd : d = 0
  · simp [applyWr, advPc, putP, putFlags, hd]
  · simp [applyWr, advPc, putP, putFlags, hd, ht]

theorem fcmp_completes {h : Hart} {p : Fin 8} {s : State} (hr : Runs h p 4 s) (hc : (thread s h).fpCtrl.toNat / 8 = 0) (q : Fin 8)
    (c : FcmpCond) (f : FpFmt) (a b : Fin 32) :
    ∃ x fl, execFcmp h p c f q a b s = .next (after h 4 (fun u => putFlags fl (putP q x u)) s) := by
  obtain ⟨r, hrr⟩ : ∃ r, r = fpCmp (scalarFmt f) c (fpBits f (gReg (thread s h) a)) (fpBits f (gReg (thread s h) b)) := ⟨_, rfl⟩
  obtain ⟨hp, -⟩ := hr.2.2
  refine ⟨r.1, r.2, ?_⟩
  rw [execFcmp, issue_runs h p 4 _ s hr (fpAct_fault_none (noTrap hc _) _ _) rfl rfl, hrr]
  exact congrArg _ (finish_pfl hp q _ _ _)

theorem exec_fcvt (h : Hart) (p : Fin 8) (f : FpFmt) (d a : Fin 32) : ∃ g, ∀ s, exec (.fcvt h p f d a) s = fpG h p d g s := by
  refine ⟨?_, fun s => ?_⟩
  rotate_left
  · dsimp only [exec, execFcvt]
    rfl

/-- Each scalar form is the shared operation with a function of its own. -/
theorem exec_fpG (h : Hart) (p : Fin 8) (f : FpFmt) (d a b : Fin 32) : ∀ i ∈ [Instr.fadd h p f d a b, .fsub h p f d a b,
    .fmul h p f d a b, .fdiv h p f d a b, .fsqrt h p f d a, .fma h p f d a b, .fnma h p f d a b, .fmin h p f d a b,
    .fmax h p f d a b, .fabs h p f d a, .fneg h p f d a, .fcvt h p f d a, .fcvti h p f d a, .fcvtu h p f d a,
    .icvtf h p f d a, .ucvtf h p f d a, .fclass h p f d a], ∃ g, ∀ s, exec i s = fpG h p d g s := by
  simp only [List.forall_mem_cons, List.not_mem_nil, IsEmpty.forall_iff, implies_true, and_true]
  exact ⟨⟨_, fun _ => execFadd.eq_1 ..⟩,
    ⟨_, fun _ => execFsub.eq_1 ..⟩,
    ⟨_, fun _ => execFmul.eq_1 ..⟩,
    ⟨_, fun _ => execFdiv.eq_1 ..⟩,
    ⟨_, fun _ => execFsqrt.eq_1 ..⟩,
    ⟨_, fun _ => execFma.eq_1 ..⟩,
    ⟨_, fun _ => execFnma.eq_1 ..⟩,
    ⟨_, fun _ => execFmin.eq_1 ..⟩,
    ⟨_, fun _ => execFmax.eq_1 ..⟩,
    ⟨_, fun _ => execFabs.eq_1 ..⟩,
    ⟨_, fun _ => execFneg.eq_1 ..⟩,
    exec_fcvt h p f d a,
    ⟨_, fun _ => execFcvti.eq_1 ..⟩,
    ⟨_, fun _ => execFcvtu.eq_1 ..⟩,
    ⟨_, fun _ => execIcvtf.eq_1 ..⟩,
    ⟨_, fun _ => execUcvtf.eq_1 ..⟩,
    ⟨_, fun _ => execFclass.eq_1 ..⟩⟩

/-! ### Vector forms -/

section
variable {i : Instr} {h : Hart} {s : State} {Q : BitVec 5 → Prop}

/-- What completes writes vD and sets flags. -/
theorem vector_completes {P : Marked → Prop} {d : Fin 32} (hc : (thread s h).fpCtrl.toNat / 8 = 0)
    (hd : ∃ r fl, P r ∧ Q fl ∧ fpDoes i h (putV d r) fl s) :
    ∃ x fl, exec i s = .next (after h 4 (fun u => putFlags fl (putV d x u)) s) := by
  obtain ⟨r, fl, -, -, hd⟩ := hd
  exact ⟨r, fl, fpDoes_completes hc hd⟩

theorem mask_completes {P : Word → Prop} {d : Fin 8} {note : State → State} (hc : (thread s h).fpCtrl.toNat / 8 = 0)
    (hd : ∃ r fl, P r ∧ Q fl ∧ fpDoes i h (putM d r) fl s note) :
    ∃ x fl, exec i s = .next (note (after h 4 (fun u => putFlags fl (putM d x u)) s)) := by
  obtain ⟨r, fl, -, -, hd⟩ := hd
  exact ⟨r, fl, fpDoes_completes hc hd⟩

/-- A conversion from T2 sets no flag. -/
theorem t2_completes {P : Marked → Prop} {d : Fin 32}
    (hd : ∃ r, exec i s = .next (after h 4 (putV d r) s) ∧ P r) :
    ∃ x fl, exec i s = .next (after h 4 (fun u => putFlags fl (putV d x u)) s) := by
  obtain ⟨r, hd, -⟩ := hd
  exact ⟨r, 0, hd.trans (congrArg _ (after_congr fun t => (putFlags_zero (putV d r t)).symm))⟩

/-- A stochastic conversion leaves the generator at one state. -/
theorem draws_complete {P : Marked → Prop} {d : Fin 32} {n : Nat} (hc : (thread s h).fpCtrl.toNat / 8 = 0)
    (hd : ∃ r fl, P r ∧ Q fl ∧ fpDoes i h (fun u => { putV d r u with sr := drawsOn n u.sr }) fl s) :
    ∃ x y fl, exec i s = .next (after h 4 (fun u => putFlags fl { putV d x u with sr := y }) s) := by
  obtain ⟨r, fl, -, -, hd⟩ := hd
  exact ⟨r, drawsOn n (thread s h).sr, fl, (fpDoes_completes hc hd).trans (congrArg _ (after_congr_at rfl))⟩

end

/-- Every element format converts both ways. -/
theorem conversions_complete {h : Hart} {p : Fin 8} {s : State} (hr : Runs h p 4 s) (hc : (thread s h).fpCtrl.toNat / 8 = 0)
    (m : Fin 8) (d a : Fin 32) {e : Fin 16} (he : e = 0 ∨ (2 ≤ e.val ∧ e.val ≤ 11)) :
    (e ≠ 11 → ∃ x fl, exec (.vcvts h p e m d a) s = .next (after h 4 (fun u => putFlags fl (putV d x u)) s))
    ∧ (∃ x fl, exec (.vcvtf h p e false m d a) s = .next (after h 4 (fun u => putFlags fl (putV d x u)) s))
    ∧ (e ≠ 0 → ∃ x y fl, exec (.vcvtf h p e true m d a) s
        = .next (after h 4 (fun u => putFlags fl { putV d x u with sr := y }) s)) := by
  obtain ⟨-, -, -, -, -, -, -, hs0, hs, hf0, hf⟩ := vectorConversions h p m e d a s hr
  rcases he with rfl | ⟨hlo, hhi⟩
  · exact ⟨fun _ => vector_completes hc hs0, vector_completes hc hf0, fun hn => absurd rfl hn⟩
  · obtain ⟨hfl, n, -, -, -, hsr⟩ := hf hlo hhi
    refine ⟨fun hn => vector_completes hc (hs hlo ?_), vector_completes hc hfl, fun _ => draws_complete hc hsr⟩
    have hne : e.val ≠ 11 := fun hv => hn (Fin.ext hv)
    omega

/-! ### Matrix jobs (R193, R210) -/

/-- The running and the waiting `MMA` of a core. -/
def mmaOf (c : Core) : Option MmaJob × Option MmaJob := (c.mmaRun, c.mmaWait)

theorem memPut_mma (c : Core) (a : Nat) (bs : List Byte) (bad keep : Bool) : mmaOf (memPut c a bs bad keep) = mmaOf c := by
  unfold memPut
  exact List.foldlRecOn (motive := fun x : Core => mmaOf x = mmaOf c) _ _ rfl fun _ hx _ _ => hx

theorem retireOne_mma (c : Core) : mmaOf (retireOne c) = mmaOf c := by
  unfold retireOne
  split
  · rfl
  · exact memPut_mma ..

theorem retireN_mma (n : Nat) (c : Core) : mmaOf (retireN n c) = mmaOf c := by
  induction n generalizing c with
  | zero => rfl
  | succ n ih => rw [retireN, ih, retireOne_mma]

theorem pushStore_mma (e : StoreEntry) (c : Core) : mmaOf (pushStore e c) = mmaOf c := by
  unfold pushStore
  dsimp only
  split
  · exact retireOne_mma c
  · rfl

/-- No write of an instruction starts or ends an `MMA`. -/
theorem applyWr_mma (h : Hart) (c : Core) (w : Wr) : mmaOf (applyWr h c w) = mmaOf c := by
  cases w with
  | p i x => by_cases hi : i = 0 <;> simp [applyWr, hi, mmaOf]
  | store a bs bad => exact pushStore_mma ..
  | direct a bs bad => exact memPut_mma ..
  | _ => rfl

theorem applySpecWr_mma (h : Hart) (c : Core) (w : Wr) : mmaOf (applySpecWr h c w) = mmaOf c := by
  cases w with
  | p i x => by_cases hi : i = 0 <;> simp [applySpecWr, hi, mmaOf]
  | store a bs bad => exact pushStore_mma ..
  | direct a bs bad => exact memPut_mma ..
  | _ => rfl

theorem foldl_mma {α : Type} {f : Core → α → Core} (hf : ∀ c x, mmaOf (f c x) = mmaOf c) (l : List α) (c : Core) :
    mmaOf (l.foldl f c) = mmaOf c :=
  List.foldlRecOn (motive := fun x : Core => mmaOf x = mmaOf c) _ _ rfl fun x hx w _ => (hf x w).trans hx

theorem modCore_mma {f : Core → Core} (s : State) (k c : CoreId) (hf : mmaOf (f (coreOf s k)) = mmaOf (coreOf s k)) :
    mmaOf (coreOf (modCore s k f) c) = mmaOf (coreOf s c) := by
  by_cases hk : k = c
  · rw [← hk, coreOf_modCore_same, hf]
  · rw [coreOf_modCore_other _ _ _ _ hk]

theorem modTh_mma (s : State) (h : Hart) (f : Thread → Thread) (c : CoreId) :
    mmaOf (coreOf (modTh s h f) c) = mmaOf (coreOf s c) := modCore_mma s h.core c rfl

theorem logCore_core (k : CoreId) (th : Fin 4) (cause : BitVec 8) (info : Word) (s : State) (c : CoreId) :
    coreOf (logCore k th cause info s) c = coreOf s c := by simp [coreOf, logCore]

theorem noteE5_mma (k : Hart) (cause : BitVec 8) (pc : BitVec 17) (info : Word) (s : State) (c : CoreId) :
    mmaOf (coreOf (noteE5 k cause pc info s) c) = mmaOf (coreOf s c) := by
  unfold noteE5 raiseEvent
  split
  · rw [modTh_mma]
  · rw [modTh_mma, modTh_mma]

theorem haltThread_mma (h : Hart) (vec : BitVec 7) (s : State) (c : CoreId) :
    mmaOf (coreOf (haltThread h vec s) c) = mmaOf (coreOf s c) := by
  unfold haltThread
  extract_lets halted logged
  have hl : mmaOf (coreOf logged c) = mmaOf (coreOf s c) := by
    rw [logCore_core]
    exact modCore_mma s h.core c (retireN_mma ..)
  rw [← hl]
  split
  · rfl
  · extract_lets stopped
    have hs : mmaOf (coreOf stopped c) = mmaOf (coreOf logged c) := by
      unfold stopped
      split <;> rfl
    split
    · exact hs
    · rw [deliver]
      split
      · exact hs
      · rw [noteE5_mma, hs]

theorem takeFault_mma (h : Hart) (len : Nat) (f : Flt) (s : State) (c : CoreId) :
    mmaOf (coreOf (takeFault h len f s) c) = mmaOf (coreOf s c) := by
  rw [takeFault, decideEntry]
  split
  · rw [haltThread_mma, modTh_mma]
  · rw [modTh_mma, modCore_mma, modTh_mma]
    rfl

theorem mmaWrite_mma (h : Hart) (j : MmaJob) (s : State) (c : CoreId) :
    mmaOf (coreOf (mmaWrite h j s) c) = mmaOf (coreOf s c) := by
  refine modCore_mma s h.core c ?_
  cases j.spec with
  | true => exact foldl_mma (applySpecWr_mma h) _ _
  | false => exact foldl_mma (applyWr_mma h) _ _

/-- The end of an `MMA` starts none. -/
theorem mmaDone_mma (core : CoreId) (j : MmaJob) (s : State) (c : CoreId) :
    mmaOf (coreOf (mmaDone core j s) c) = mmaOf (coreOf s c) := by
  unfold mmaDone
  extract_lets h waits s1
  split
  · split
    · rw [modTh_mma, mmaWrite_mma]
    · exact mmaWrite_mma ..
  · split
    · rfl
    · split
      · exact modTh_mma ..
      · rw [takeFault_mma, modTh_mma]

theorem mmaComplete_ends {core : CoreId} {w : MmaJob} {s : State} (hw : (coreOf s core).mmaRun = some w) :
    ∃ t, execMmaComplete core s = .next t ∧ (coreOf t core).mmaRun = none ∧ (coreOf t core).mmaWait = (coreOf s core).mmaWait := by
  refine ⟨mmaDone core w (modCore s core fun c => { c with mmaRun := none, passed := [] }), ?_, ?_⟩
  · rw [execMmaComplete, hw]
  · have hm := mmaDone_mma core w (modCore s core fun c => { c with mmaRun := none, passed := [] }) core
    rw [coreOf_modCore_same] at hm
    exact ⟨congrArg Prod.fst hm, congrArg Prod.snd hm⟩

theorem mmaStart_starts {core : CoreId} {w : MmaJob} {s : State} (hr : (coreOf s core).mmaRun = none)
    (hw : (coreOf s core).mmaWait = some w) : ∃ t, execMmaStart core s = .next t
      ∧ coreOf t core = { coreOf s core with mmaRun := some w, mmaWait := none, passed := [] } := by
  refine ⟨_, rfl, ?_⟩
  rw [coreOf_modCore_same, hr, hw]

/-- Writes of rows and vector registers leave how a thread runs, its flags and its accumulators. -/
def SameRun (t u : Thread) : Prop :=
  u.run = t.run ∧ u.acvt = t.acvt ∧ u.pc = t.pc ∧ u.fpFlags = t.fpFlags ∧ u.acc = t.acc

theorem acvtWrites_sameRun (h : Hart) (j : AcvtJob) (c : Core) :
    SameRun (thOf c h.thread) (thOf ((acvtWrites j).foldl (applyWr h) c) h.thread) := by
  refine List.foldlRecOn (motive := fun x : Core => SameRun (thOf c h.thread) (thOf x h.thread)) _ _ ⟨rfl, rfl, rfl, rfl, rfl⟩
    fun x hx w hw => ?_
  obtain ⟨k, y, z, rfl⟩ | ⟨i, y, b, rfl⟩ : (∃ k y z, w = .row k y z) ∨ ∃ i y b, w = .v i y b := by
    rw [acvtWrites, List.mem_append] at hw
    rcases hw with hw | hw
    · obtain ⟨e, -, rfl⟩ := List.mem_map.1 hw
      exact .inl ⟨_, _, _, rfl⟩
    · split at hw
      · exact .inr ⟨_, _, _, List.mem_singleton.1 hw⟩
      · cases hw
  · rw [applyWr, thOf_setTh_same]
    exact hx
  · rw [applyWr, thOf_setTh_same]
    exact hx

theorem thread_finish (h : Hart) (len : Nat) (a : Act) (s : State) : thread (finish h len a s) h
    = let u := thOf (a.writes.foldl (applyWr h) (setTh (coreOf s h.core) h.thread (advPc len (thread s h)))) h.thread
      { u with fpFlags := u.fpFlags ||| a.flags, sr := a.sr.getD u.sr } := by
  simp [finish, thread]

/-- What an unspeculative `ACVT` without fault ends as. -/
theorem acvtDone_eq {h : Hart} {j : AcvtJob} (hf : j.fault = none) (hs : j.spec = false) (s : State) :
    acvtDone h j s = finish h 4 { writes := acvtWrites j, flags := j.flags, sr := some j.sr }
      (modTh s h fun t => { t with run := .ready, acvt := none }) := by
  rw [acvtDone]
  dsimp only
  rw [hf, hs]
  rfl

theorem newSlot_thread (core : CoreId) (s : State) (h : Hart) : thread (newSlot core s) h = thread s h := by
  unfold newSlot thread
  by_cases hc : core = h.core
  · rw [hc, coreOf_modCore_same]
    rfl
  · rw [coreOf_modCore_other _ _ _ _ hc]

theorem acvtComplete_ends {h : Hart} {j : AcvtJob} {s : State} (hr : (thread s h).run = .waiting .acvt)
    (hj : (thread s h).acvt = some j) (hf : j.fault = none) (hs : j.spec = false) :
    ∃ t, execAcvtComplete h s = .next t ∧ (thread t h).run = .ready ∧ (thread t h).acvt = none
      ∧ (thread t h).pc = (thread s h).pc + 4 := by
  refine ⟨acvtDone h j (newSlot h.core s), by rw [execAcvtComplete, hr, hj], ?_⟩
  rw [acvtDone_eq hf hs, thread_finish, thread_modTh_same, newSlot_thread]
  obtain ⟨hrun, hacvt, hpc, -⟩ := acvtWrites_sameRun h j (setTh (coreOf (modTh (newSlot h.core s) h fun t =>
    { t with run := .ready, acvt := none }) h.core) h.thread (advPc 4 { thread s h with run := .ready, acvt := none }))
  rw [thOf_setTh_same] at hrun hacvt hpc
  exact ⟨hrun, hacvt, hpc⟩

/-- Settles O60: the results of O26 and O27 with the trap left out, and the ends of matrix jobs. -/
theorem floatingPointAndMatrixFormsComplete : Obligations.FloatingPointAndMatrixFormsComplete := by
  refine ⟨fun h p q m dm f c d a b s hr hc => ?_, fun core h w j s => ?_⟩
  · obtain ⟨l1, l2, l3, l4, l5, l6, l7, l8, l9, l10, l11, c1, c2, c3, c4⟩ := vectorFloatingPointLanes h p m dm f d a b s hr
    obtain ⟨v1, v2, v3, v4, v5, ⟨t1, -⟩, ⟨t2, -⟩, -⟩ := vectorConversions h p m 0 d a s hr
    dsimp only
    refine ⟨fun i hi => ?_, fcmp_completes hr hc q c f a b, ?_, ?_, ?_, fun ht => ⟨?_, ?_⟩, fun e he => ?_⟩
    · obtain ⟨g, hg⟩ := exec_fpG h p f d a b i hi
      rw [hg]
      exact fpG_completes hr hc d g
    · simp only [List.forall_mem_cons, List.not_mem_nil, IsEmpty.forall_iff, implies_true, and_true]
      exact ⟨vector_completes hc l1, vector_completes hc l2, vector_completes hc l3, vector_completes hc l4, vector_completes hc l5,
        vector_completes hc l6, vector_completes hc l7, vector_completes hc l8, vector_completes hc l9, vector_completes hc l10,
        vector_completes hc l11⟩
    · simp only [List.forall_mem_cons, List.not_mem_nil, IsEmpty.forall_iff, implies_true, and_true]
      exact ⟨mask_completes hc c1, mask_completes hc c2, mask_completes hc c3, mask_completes hc c4⟩
    · simp only [List.forall_mem_cons, List.not_mem_nil, IsEmpty.forall_iff, implies_true, and_true]
      exact ⟨vector_completes hc v1, vector_completes hc v2, vector_completes hc v3, vector_completes hc v4, vector_completes hc v5⟩
    · exact t2_completes (t1 (.inl ht))
    · exact t2_completes (t2 (.inl ht))
    · exact conversions_complete hr hc m d a he
  · exact ⟨mmaStart_starts, mmaComplete_ends, acvtComplete_ends⟩

end Sys2Proof.Machine

/-!
SUPPORT. `ACVT`: its job, its rows, and its completion.
-/
namespace Sys2Proof.Machine
open Sys2Proof Sys2Proof.Safety

/-! ### What a fault leaves of its thread -/

theorem takeFault_thread_enters {h : Hart} {s : State} (hh : (thread s h).hold = none) (len : Nat) (f : Flt) :
    ∃ r, thread (takeFault h len f s) h
      = { recordFault f.cause f.info false false (thread s h).pc (thread s h) with run := .entering (f.cause.setWidth 7) r } := by
  refine ⟨if f.next then (thread s h).pc + BitVec.ofNat 17 len else (thread s h).pc, ?_⟩
  rw [takeFault, decideEntry, if_neg (by simp [recordFault, hh]), thread_modTh_same]
  unfold thread
  rw [coreOf_modCore_same, modTh, coreOf_modCore_same]
  simp [thOf, setTh]

theorem takeFault_thread_halts {h : Hart} {s : State} (hh : (thread s h).hold.isSome = true) (len : Nat) (f : Flt) :
    thread (takeFault h len f s) h
      = { recordFault f.cause f.info false false (thread s h).pc (thread s h) with run := .halted } := by
  rw [takeFault, decideEntry_halts _ _ _ _ (by simpa [recordFault] using hh), thread_modTh_same]

/-! ### The rows of a conversion -/

theorem acvtRows_keys (t : Thread) (wide half : Bool) (aa : Nat) (b : CvtBlock) (l : List Nat) (x : Word) :
    (acvtRows t wide half aa b l x).1.map (fun e => e.1) = l := by
  induction l generalizing x with
  | nil => rfl
  | cons r l ih => rw [acvtRows, List.map_cons, ih]

theorem vReg_applyWr (h : Hart) (c : Core) (d : Fin 32) (x : Marked) (b : Bool) :
    vReg (thOf (applyWr h c (.v d x b)) h.thread) d = x := by
  rw [applyWr, thOf_setTh_same]
  exact vReg_written rfl rfl

/-- The rows of a tile are converted under different keys. -/
theorem acvtRows_nodup (t : Thread) (wide half : Bool) (aa : Nat) (b : CvtBlock) (n k : Nat) {x : Word} (hn : n ≤ 16) :
    ((acvtRows t wide half aa b (List.range n) x).1.map fun e => 16 * k + e.1 % 16).Nodup := by
  have hm : ((acvtRows t wide half aa b (List.range n) x).1.map fun e => 16 * k + e.1 % 16)
      = (List.range n).map fun r => 16 * k + r % 16 := by
    rw [← acvtRows_keys t wide half aa b (List.range n) x, List.map_map]
    rw [acvtRows_keys]
    rfl
  rw [hm]
  refine List.Nodup.map_on (fun i hi j hj hij => ?_) List.nodup_range
  rw [List.mem_range] at hi hj
  omega

theorem acvtRow_lt {t : Thread} {wide half : Bool} {aa : Nat} {b : CvtBlock} {n : Nat} {x : Word} {e : Nat × BitVec 512 × Nat}
    (he : e ∈ (acvtRows t wide half aa b (List.range n) x).1) : e.1 < n := by
  have := List.mem_map_of_mem (f := fun e : Nat × BitVec 512 × Nat => e.1) he
  rw [acvtRows_keys] at this
  exact List.mem_range.1 this

/-- Rows written one after the other under different keys: each key holds its own. -/
theorem rows_written (h : Hart) {α : Type} (key : α → Nat) (data : α → BitVec 512) (bad : α → Bool) (l : List α) (c : Core)
    (hn : (l.map key).Nodup) {e : α} (he : e ∈ l) :
    rowOf (thOf ((l.map fun e => Wr.row (key e) (data e) (bad e)).foldl (applyWr h) c) h.thread) (key e)
      = ⟨data e, true, bad e, false⟩ := by
  have hlast : ∀ (l : List α) (c : Core) (k : Nat), k ∉ l.map key →
      rowOf (thOf ((l.map fun e => Wr.row (key e) (data e) (bad e)).foldl (applyWr h) c) h.thread) k
        = rowOf (thOf c h.thread) k := by
    intro l
    induction l with
    | nil => exact fun c k _ => rfl
    | cons e l ih =>
      intro c k hk
      rw [List.map_cons, List.foldl_cons, ih _ _ fun hm => hk (by rw [List.map_cons]; exact List.mem_cons_of_mem _ hm), applyWr,
        thOf_setTh_same]
      exact tget_tset_other _ _ _ _ _ fun he => hk (by simp [he])
  induction l generalizing c with
  | nil => cases he
  | cons d l ih =>
    rw [List.map_cons, List.nodup_cons] at hn
    rw [List.map_cons, List.foldl_cons]
    rcases List.mem_cons.1 he with rfl | he
    · rw [hlast _ _ _ hn.1, applyWr, thOf_setTh_same]
      exact tget_tset_same ..
    · exact ih _ hn.2 he

/-! ### Issue (R205, R210) -/

theorem acvtJob_rotate (h : Hart) (s : State) (wide half : Bool) (row : Fin 16) (a : Word) (dv : Bool) (aa : Fin 4) (d : Fin 32) :
    acvtJob (coreOf (rotate h s) h.core) h.thread (thread s h) false wide half row a dv aa d
      = acvtJob (coreOf s h.core) h.thread (thread s h) false wide half row a dv aa d := by
  rw [rotate_core]
  rfl

/-- The state in which an `ACVT` has been issued. -/
def acvtIssued (h : Hart) (wide half : Bool) (row : Fin 16) (b : Fin 32) (dv : Bool) (aa : Fin 4) (d : Fin 32) (s : State) : State :=
  acvtIssue h false wide half row b dv aa d (rotate h s)

theorem acvtIssued_thread (h : Hart) (wide half : Bool) (row : Fin 16) (b : Fin 32) (dv : Bool) (aa : Fin 4) (d : Fin 32)
    (s : State) : thread (acvtIssued h wide half row b dv aa d s) h = { thread s h with
      acvt := some (acvtJob (coreOf s h.core) h.thread (thread s h) false wide half row (gReg (thread s h) b) dv aa d)
      run := .waiting .acvt } := by
  rw [← acvtJob_rotate, ← rotate_thread h h s]
  unfold acvtIssued acvtIssue thread
  rw [coreOf_modCore_same, thOf_setTh_same]

theorem acvt_issues {h : Hart} {p : Fin 8} {s : State} {wide half dv : Bool} {row : Fin 16} {b d : Fin 32} {aa : Fin 4}
    (hw : Instr.wf (.acvt h p wide half row b dv aa d) = true) (hr : Runs h p 4 s) (hal : (gReg (thread s h) b).toNat % 64 = 0)
    (htop : (gReg (thread s h) b).toNat + 320 ≤ 0xC0000)
    (hck : acvtCheck (thread s h) wide half dv aa d
      (cvtBlock (readView (coreOf s h.core) (some h.thread) (gReg (thread s h) b).toNat 320)) = none)
    (hidle : mmaWrites (coreOf s h.core) h.thread (acvtAccs wide
        (cvSrc (cvtBlock (readView (coreOf s h.core) (some h.thread) (gReg (thread s h) b).toNat 320))) aa) = false
      ∧ (dv = false → mmaHolds (coreOf s h.core) h.thread
        (d.val :: (if dScale (descOf (thread s h) d.val) then [dScaleTile (descOf (thread s h) d.val)] else [])) = false)) :
    execAcvt h p wide half row b dv aa d s = .next (acvtIssued h wide half row b dv aa d s) := by
  obtain ⟨hacc, htile⟩ := hidle
  rw [execAcvt, guardWf_wf hw]
  have hearly : (if (gReg (thread s h) b).toNat % 64 ≠ 0 then some (⟨0x04, gReg (thread s h) b, false⟩ : Flt)
      else if localTop < (gReg (thread s h) b).toNat + 320 then
        some ⟨0x03, BitVec.ofNat 64 (max (gReg (thread s h) b).toNat localTop), false⟩ else none) = none := by
    rw [if_neg (by simpa using hal), if_neg (by simpa [localTop] using htop)]
  have hstall : (mmaWrites (coreOf s h.core) h.thread (acvtAccs wide
        (cvSrc (cvtBlock (readView (coreOf s h.core) (some h.thread) (gReg (thread s h) b).toNat 320))) aa)
      || (!dv && mmaHolds (coreOf s h.core) h.thread
        (d.val :: (if dScale (descOf (thread s h) d.val) then [dScaleTile (descOf (thread s h) d.val)] else [])))) = false := by
    cases dv with
    | true => simp [hacc]
    | false => simp [hacc, htile rfl]
  refine issueWith_runs h p 4 _ _ _ s hr ?_ ?_ ?_
  · rw [acvtAct, hearly]
    exact hck
  · rw [acvtAct, hearly]
    exact hstall
  · rw [acvtAct, hearly]

/-! ### Completion (R206–R210) -/

/-- The job of an `ACVT` at issue. -/
def jobOf (h : Hart) (s : State) (wide half : Bool) (row : Fin 16) (b : Fin 32) (dv : Bool) (aa : Fin 4) (d : Fin 32) : AcvtJob :=
  acvtJob (coreOf s h.core) h.thread (thread s h) false wide half row (gReg (thread s h) b) dv aa d

theorem acvtComplete_done {h : Hart} {s : State} {j : AcvtJob} (hr : (thread s h).run = .waiting .acvt)
    (hj : (thread s h).acvt = some j) : execAcvtComplete h s = .next (acvtDone h j (newSlot h.core s)) := by
  rw [execAcvtComplete, hr, hj]

/-- The thread as a conversion's end finds it: ready, with no job. -/
def resumed (t : Thread) : Thread := { t with run := .ready, acvt := none }

theorem acvtDone_faults {h : Hart} {j : AcvtJob} {w : Word} (hf : j.fault = some (0x0A, w)) (hs : j.spec = false) (s : State) :
    acvtDone h j (newSlot h.core s) = takeFault h 4 ⟨0x0A, w, false⟩
      (modTh (modTh (newSlot h.core s) h resumed) h fun t => { t with fpFlags := t.fpFlags ||| j.flags }) := by
  rw [acvtDone]
  dsimp only
  rw [hf, hs]
  rfl

/-- The trap of a conversion leaves the rows and vector registers (R210). -/
theorem acvtDone_traps {h : Hart} {j : AcvtJob} {w : Word} (hf : j.fault = some (0x0A, w)) (hs : j.spec = false) (s : State) :
    let u := thread (acvtDone h j (newSlot h.core s)) h
    ((thread s h).hold = none → ∃ r, u.run = .entering 0x0A r) ∧ ((thread s h).hold.isSome = true → u.run = .halted)
      ∧ u.v = (thread s h).v ∧ u.rows = (thread s h).rows := by
  intro u
  have ht : ∀ f : Thread → Thread, thread (modTh (modTh (newSlot h.core s) h resumed) h f) h = f (resumed (thread s h)) := fun f => by
    rw [thread_modTh_same, thread_modTh_same, newSlot_thread]
  unfold u
  rw [acvtDone_faults hf hs]
  rcases Option.eq_none_or_eq_some (thread s h).hold with hh | ⟨x, hh⟩
  · obtain ⟨r, hr⟩ := takeFault_thread_enters (h := h) (s := modTh (modTh (newSlot h.core s) h resumed) h fun t =>
      { t with fpFlags := t.fpFlags ||| j.flags }) (by rw [ht]; exact hh) 4 ⟨0x0A, w, false⟩
    rw [hr, ht]
    exact ⟨fun _ => ⟨r, rfl⟩, fun h => by simp [hh] at h, rfl, rfl⟩
  · rw [takeFault_thread_halts (by rw [ht]; simp [resumed, hh]), ht]
    exact ⟨fun h => by simp [hh] at h, fun _ => rfl, rfl, rfl⟩

/-- The end of a conversion without fault. -/
theorem acvtDone_thread {h : Hart} {j : AcvtJob} (hf : j.fault = none) (hs : j.spec = false) (s : State) :
    ∃ c, thOf c h.thread = advPc 4 (resumed (thread s h)) ∧ thread (acvtDone h j (newSlot h.core s)) h
      = { thOf ((acvtWrites j).foldl (applyWr h) c) h.thread with
          fpFlags := (thread s h).fpFlags ||| j.flags, sr := j.sr } := by
  refine ⟨setTh (coreOf (modTh (newSlot h.core s) h resumed) h.core) h.thread (advPc 4 (resumed (thread s h))), thOf_setTh_same .., ?_⟩
  obtain ⟨-, -, -, hfl, -⟩ := acvtWrites_sameRun h j (setTh (coreOf (modTh (newSlot h.core s) h resumed) h.core) h.thread
    (advPc 4 (resumed (thread s h))))
  rw [thOf_setTh_same] at hfl
  have he : acvtDone h j (newSlot h.core s) = finish h 4 { writes := acvtWrites j, flags := j.flags, sr := some j.sr }
      (modTh (newSlot h.core s) h resumed) := acvtDone_eq hf hs _
  rw [he, thread_finish, thread_modTh_same, newSlot_thread]
  dsimp only
  rw [hfl]
  rfl

/-- A job that may trap carries the trap. -/
theorem jobOf_traps {h : Hart} {s : State} {wide half dv : Bool} {row : Fin 16} {b d : Fin 32} {aa : Fin 4} {fl : BitVec 5}
    (hfl : (jobOf h s wide half row b dv aa d).flags = fl) (hn : trapped (thread s h) fl ≠ 0) :
    (jobOf h s wide half row b dv aa d).fault = some (0x0A, (trapped (thread s h) fl).setWidth 64) := by
  subst hfl
  exact if_pos hn

/-- With no trap, no marked block and no report of marked rows asked for there is no fault. -/
theorem jobOf_clear {h : Hart} {s : State} {wide half dv : Bool} {row : Fin 16} {b d : Fin 32} {aa : Fin 4}
    (hz : trapped (thread s h) (jobOf h s wide half row b dv aa d).flags = 0)
    (hu : unmarked s h (gReg (thread s h) b).toNat 320)
    (hb : (cvtBlock (readView (coreOf s h.core) (some h.thread) (gReg (thread s h) b).toNat 320)).ctl.getLsbD 14 = false) :
    (jobOf h s wide half row b dv aa d).fault = none := by
  have hbad : (wordsOf (gReg (thread s h) b).toNat 320).any (poisonView (coreOf s h.core) (some h.thread)) = false := by
    rw [← Bool.not_eq_true, anyPoison_iff (by decide)]
    exact not_not.2 hu
  refine (if_neg (not_not.2 hz)).trans (if_neg ?_)
  rw [hbad, bit, hb]
  simp

/-- The one converted row goes to vD (R207). -/
theorem jobOf_vector {h : Hart} {s : State} {wide half : Bool} {row : Fin 16} {b d : Fin 32} {aa : Fin 4}
    {e : Nat × BitVec 512 × Nat} {blk : CvtBlock} (hblk : cvtBlock (readView (coreOf s h.core) (some h.thread) (gReg (thread s h) b).toNat 320) = blk)
    (he : e ∈ (acvtRows (thread s h) wide half aa.val blk [row.val] (thread s h).sr).1) :
    ∃ m, acvtWrites (jobOf h s wide half row b true aa d)
      = [.v d ⟨e.2.1 ||| (if cvMx blk then BitVec.ofNat 512 (e.2.2 * 2 ^ 504) else 0), m⟩ false] := by
  subst hblk
  simp only [acvtRows, List.mem_singleton] at he
  subst he
  exact ⟨_, rfl⟩

/-- The converted rows go to tD (R207). -/
theorem jobOf_tile {h : Hart} {s : State} {wide half : Bool} {row : Fin 16} {b d : Fin 32} {aa : Fin 4} {blk : CvtBlock}
    (hblk : cvtBlock (readView (coreOf s h.core) (some h.thread) (gReg (thread s h) b).toNat 320) = blk) (hmx : cvMx blk = false) :
    ∃ m : Nat → Bool, acvtWrites (jobOf h s wide half row b false aa d)
      = ((acvtRows (thread s h) wide half aa.val blk (List.range (dRows (descOf (thread s h) d.val))) (thread s h).sr).1).map
          fun e => .row (16 * (d.val % 8) + e.1 % 16) e.2.1 (m e.1) := by
  refine ⟨acvtMark (thread s h) wide (cvSrc blk) aa.val, ?_⟩
  subst hblk
  simp [acvtWrites, jobOf, acvtJob, hmx, srState, ← List.map_eq_flatMap, Function.comp_def]

/-- Settles O32: the job holds what was read at issue, and its end writes the job. -/
theorem conversionWritesItsRows : Obligations.ConversionWritesItsRows := by
  intro h p wide half dv row b d aa s hw hr
  dsimp only
  intro hal htop hck hidle
  obtain ⟨blk, hblk⟩ : ∃ blk, cvtBlock (readView (coreOf s h.core) (some h.thread) (gReg (thread s h) b).toNat 320) = blk := ⟨_, rfl⟩
  have hth := acvtIssued_thread h wide half row b dv aa d s
  have hrun : (thread (acvtIssued h wide half row b dv aa d s) h).run = .waiting .acvt := by rw [hth]
  have hjob : (thread (acvtIssued h wide half row b dv aa d s) h).acvt = some (jobOf h s wide half row b dv aa d) := by
    rw [hth]
    rfl
  refine ⟨acvtIssued h wide half row b dv aa d s, _, acvt_issues hw hr hal htop hck hidle, acvtComplete_done hrun hjob, hrun,
    by rw [hjob]; rfl, by rw [hth], fun hz hu hb => ?_, fun hn => ?_⟩
  · have hclear := jobOf_clear (row := row) (dv := dv) (aa := aa) (d := d) (wide := wide) (half := half)
      ((trapped_eq ..).trans hz) hu hb
    obtain ⟨c, hc, hend⟩ := acvtDone_thread hclear rfl (acvtIssued h wide half row b dv aa d s)
    obtain ⟨hr', ha', hpc', -, hacc'⟩ := acvtWrites_sameRun h (jobOf h s wide half row b dv aa d) c
    rw [hc, hth] at hr' ha' hpc' hacc'
    rw [hend, hth]
    refine ⟨hpc', hr', rfl, rfl, hacc', fun hdv e he => ?_, fun hdv hmx hrows e he => ?_⟩
    · subst hdv
      obtain ⟨m, hws⟩ := jobOf_vector rfl he
      rw [hws]
      exact congrArg Marked.data (vReg_applyWr h c d _ false)
    · subst hdv
      obtain ⟨m, hws⟩ := jobOf_tile (row := row) rfl hmx
      have hd : d.val < 8 := by
        simp only [Instr.wf, Bool.false_or, Bool.and_eq_true, decide_eq_true_iff] at hw
        exact hw.2.2
      have hkey : 16 * d.val + e.1 = 16 * (d.val % 8) + e.1 % 16 := by
        have := acvtRow_lt he
        omega
      have hwr := rows_written h (fun e => 16 * (d.val % 8) + e.1 % 16) (fun e => e.2.1) (fun e => m e.1) _ c
        (acvtRows_nodup _ wide half aa.val _ _ _ hrows) he
      rw [hws, hkey]
      exact ⟨congrArg TileRow.data hwr, congrArg TileRow.valid hwr⟩
  · have ht := jobOf_traps (h := h) (s := s) (wide := wide) (half := half) (row := row) (b := b) (dv := dv) (aa := aa) (d := d) rfl
      (by rw [trapped_eq]; exact hn)
    obtain ⟨h1, h2, h3, h4⟩ := acvtDone_traps ht rfl (acvtIssued h wide half row b dv aa d s)
    rw [hth] at h1 h2 h3 h4
    exact ⟨h1, h2, h3, h4⟩

end Sys2Proof.Machine

/-!
SUPPORT. The codes that rounding into the IEEE formats gives.
-/
namespace Sys2Proof.Machine
open Sys2Proof Sys2Proof.Safety

/-! ### Rounding at a given unit -/

/-- Rounding `m·2^e` to units of `2^q` that leave at most `man + 1` bits gives at most `2^(man+1)`. -/
theorem roundAt_le (rm : RM) (neg : Bool) {m man : Nat} {e q : Int} (hq : (Nat.log2 m : Int) + e - man ≤ q) :
    (roundAt rm neg m e q).1 ≤ 2 ^ (man + 1) := by
  have hlt : m < 2 ^ (Nat.log2 m + 1) := Nat.lt_log2_self
  have hup : ∀ (b : Bool) (x : Nat), x < 2 ^ (man + 1) → (if b then x + 1 else x) ≤ 2 ^ (man + 1) := fun b x hx => by
    cases b <;> simp <;> omega
  unfold roundAt
  split
  · next he =>
    have hd : Nat.log2 m + 1 + (e - q).toNat ≤ man + 1 := by omega
    calc m * 2 ^ (e - q).toNat ≤ 2 ^ (Nat.log2 m + 1) * 2 ^ (e - q).toNat := Nat.mul_le_mul_right _ hlt.le
      _ = 2 ^ (Nat.log2 m + 1 + (e - q).toNat) := (Nat.pow_add ..).symm
      _ ≤ 2 ^ (man + 1) := Nat.pow_le_pow_right (by decide) hd
  · next he =>
    refine hup _ _ (Nat.div_lt_of_lt_mul ?_)
    calc m < 2 ^ (Nat.log2 m + 1) := hlt
      _ ≤ 2 ^ ((q - e).toNat + (man + 1)) := Nat.pow_le_pow_right (by decide) (by omega)
      _ = 2 ^ (q - e).toNat * 2 ^ (man + 1) := Nat.pow_add ..

/-! ### Codes of a format -/

theorem signBit_add_lt {a b x : Nat} {neg : Bool} (hx : x < 2 ^ (a + b)) :
    x + (if neg then 2 ^ (a + b) else 0) < 2 ^ (a + b + 1) := by
  rw [Nat.pow_succ]
  cases neg <;> simp <;> omega

/-- An exponent field and a significand below the sign. -/
theorem fields_lt {a b x y : Nat} (hx : x < 2 ^ a) (hy : y < 2 ^ b) : x * 2 ^ b + y < 2 ^ (a + b) := by
  calc x * 2 ^ b + y < (x + 1) * 2 ^ b := by rw [Nat.succ_mul]; omega
    _ ≤ 2 ^ a * 2 ^ b := Nat.mul_le_mul_right _ hx
    _ = 2 ^ (a + b) := (Nat.pow_add ..).symm

section
variable {f : FFmt} (hk : f.kind = .ieee)
include hk

/-- A magnitude that is at most the largest finite one: its exponent field stays below the reserved one. -/
theorem magLe_exp {n : Nat} {q : Int} (h : magLe n q (maxFin f).1 (maxFin f).2 = true) (hn : 2 ^ f.man ≤ n) :
    (if 2 ^ (f.man + 1) ≤ n then q + 1 else q) + f.man + f.bias ≤ (2 ^ f.ex - 2 : Nat) := by
  rw [maxFin, hk, magLe] at h
  have hpow : 2 ^ (f.man + 1) = 2 * 2 ^ f.man := by rw [Nat.pow_succ, Nat.mul_comm]
  dsimp only at h
  split at h
  · next hq =>
    have hle := of_decide_eq_true h
    have hone : n ≤ n * 2 ^ (q - (((2 ^ f.ex - 2 : Nat) : Int) - f.bias - f.man)).toNat :=
      Nat.le_mul_of_pos_right _ (Nat.two_pow_pos _)
    have hmax := hone.trans hle
    have hpos := Nat.two_pow_pos f.man
    have hsmall : ¬ 2 ^ (f.man + 1) ≤ n := by omega
    rw [if_neg hsmall]
    by_contra hc
    have htwo : n * 2 ≤ n * 2 ^ (q - (((2 ^ f.ex - 2 : Nat) : Int) - f.bias - f.man)).toNat :=
      Nat.mul_le_mul_left _ (Nat.le_self_pow (by omega) 2)
    have hdbl := htwo.trans hle
    omega
  · next hq => split <;> omega

theorem encodeFin_lt (hex : 2 ≤ f.ex) {neg : Bool} {n : Nat} {q : Int} (hn : n ≤ 2 ^ (f.man + 1))
    (h : magLe n q (maxFin f).1 (maxFin f).2 = true) : encodeFin f neg n q < 2 ^ (f.ex + f.man + 1) := by
  have hpow : 2 ^ (f.man + 1) = 2 * 2 ^ f.man := by rw [Nat.pow_succ, Nat.mul_comm]
  have hfour : 4 ≤ 2 ^ f.ex := Nat.pow_le_pow_right (n := 2) (by decide) hex
  have hexp := magLe_exp hk h
  have hpos := Nat.two_pow_pos f.man
  unfold encodeFin
  extract_lets n' q'
  have hn' : n' < 2 * 2 ^ f.man := by
    unfold n'
    split <;> omega
  refine signBit_add_lt ?_
  split
  · next hlt => exact lt_of_lt_of_le hlt (Nat.pow_le_pow_right (by decide) (by omega))
  · next hge =>
    refine fields_lt ?_ (by omega)
    have hle : 2 ^ f.man ≤ n := by
      unfold n' at hge
      split at hge <;> omega
    have hq := hexp hle
    change q' + f.man + f.bias ≤ _ at hq
    omega

omit hk in
theorem infCode_lt (neg : Bool) : infCode f neg < 2 ^ (f.ex + f.man + 1) := by
  have hpos := Nat.two_pow_pos f.ex
  refine signBit_add_lt ?_
  have := fields_lt (a := f.ex) (b := f.man) (x := 2 ^ f.ex - 1) (y := 0) (by omega) (Nat.two_pow_pos _)
  omega

theorem roundFin_lt (hex : 2 ≤ f.ex) (rm : RM) (sat neg : Bool) (m : Nat) (e : Int) :
    (roundFin f rm sat neg m e).1 < 2 ^ (f.ex + f.man + 1) := by
  have hpow : 2 ^ (f.man + 1) = 2 * 2 ^ f.man := by rw [Nat.pow_succ, Nat.mul_comm]
  have hpos := Nat.two_pow_pos f.man
  unfold roundFin
  split
  · refine encodeFin_lt hk hex (Nat.zero_le _) ?_
    unfold magLe
    split <;> simp
  · extract_lets q1 qmin n1 tiny q r
    split
    · simp only [hk]
      split
      · refine encodeFin_lt hk hex ?_ ?_
        · rw [maxFin, hk]
          exact Nat.sub_le _ _
        · simp [magLe]
      · exact infCode_lt neg
    · next hle =>
      refine encodeFin_lt hk hex (roundAt_le rm neg ?_) (by simpa using hle)
      unfold q q1
      split
      · next hc => exact hc.le
      · exact le_refl _

/-- Every result of a rounding is a code of its format. -/
theorem fround_lt (hex : 2 ≤ f.ex) (hman : 3 ≤ f.man) (rm : RM) (x : FV) : (fround f rm x).1 < 2 ^ (f.ex + f.man + 1) := by
  have hpos := Nat.two_pow_pos f.ex
  cases x with
  | nan s =>
    rw [fround, defaultNaN, if_pos ⟨hk, by omega⟩]
    have := fields_lt (a := f.ex) (b := f.man) (x := 2 ^ f.ex - 1) (y := 2 ^ (f.man - 1)) (by omega)
      (Nat.pow_lt_pow_right (by decide) (by omega))
    exact this.trans (Nat.pow_lt_pow_right (by decide) (by omega))
  | inf neg => exact infCode_lt neg
  | fin neg m e => exact roundFin_lt hk hex rm false neg m e

end

end Sys2Proof.Machine

/-!
SUPPORT. The matrix unit: the rows and flags of a job, and its completion.
-/
namespace Sys2Proof.Machine
open Sys2Proof Sys2Proof.Safety

/-! ### Contracts give codes of the accumulator's type (R188, R196, R197) -/

/-- Bits of an accumulator element of type `ty` (R189). -/
def accBits (ty : Nat) : Nat := if ty = 2 then 64 else 32

theorem foldl_code_lt {α β : Type} {B c : Nat} (g : Nat × β → α → Nat × β) (l : List α) (b : β) (hc : c < B)
    (hg : ∀ x a, (g x a).1 < B) : (l.foldl g (c, b)).1 < B :=
  List.foldlRecOn (motive := fun x : Nat × β => x.1 < B) l g hc fun x _ a _ => hg x a

theorem blockElem_lt (t : Thread) (sp : Bool) (tm tb ta i j : Nat) {c : Nat} (hc : c < 2 ^ 32) :
    (blockElem t sp tm tb ta i j c).1 < 2 ^ 32 :=
  foldl_code_lt _ _ _ hc fun _ _ => fround_lt (f := fp32) rfl (by decide) (by decide) _ _

theorem seqElem_lt (t : Thread) (tb ta i j : Nat) {c : Nat} (hf : dFmt (descOf t ta) ≤ 1)
    (hc : c < 2 ^ accBits (accTy (dFmt (descOf t ta)) (dScale (descOf t ta)))) :
    (seqElem t tb ta i j c).1 < 2 ^ accBits (accTy (dFmt (descOf t ta)) (dScale (descOf t ta))) := by
  rw [seqElem]
  interval_cases hd : dFmt (descOf t ta)
  · exact foldl_code_lt _ _ _ hc fun _ _ => fround_lt (f := fp64) rfl (by decide) (by decide) _ _
  · exact foldl_code_lt _ _ _ hc fun _ _ => fround_lt (f := fp32) rfl (by decide) (by decide) _ _

theorem intCode_lt (b : Nat) (x : Int) : intCode b x < 2 ^ b := by
  have hp := Nat.two_pow_pos b
  have h1 := Int.emod_nonneg x (b := ((2 ^ b : Nat) : Int)) (by omega)
  have h2 := Int.emod_lt_of_pos x (b := ((2 ^ b : Nat) : Int)) (by omega)
  rw [intCode]
  omega

theorem accTy_two {fmt : Nat} {scaled : Bool} : accTy fmt scaled = 2 ↔ fmt = 0 := by
  unfold accTy
  split_ifs <;> simp [*]

theorem contract_lt (t : Thread) (sp : Bool) (tm tb ta : Fin 8) (i j : Nat) {c : Nat}
    (hc : c < 2 ^ accBits (accTy (dFmt (descOf t ta.val)) (dScale (descOf t ta.val)))) :
    (contract t sp tm tb ta i j c).1 < 2 ^ accBits (accTy (dFmt (descOf t ta.val)) (dScale (descOf t ta.val))) := by
  unfold contract
  extract_lets a
  split
  · next hty =>
    rw [hty]
    exact intCode_lt ..
  · split
    · next hf => exact seqElem_lt _ _ _ _ _ hf hc
    · next hf =>
      have hf : ¬ dFmt (descOf t ta.val) ≤ 1 := hf
      have hb : accBits (accTy (dFmt (descOf t ta.val)) (dScale (descOf t ta.val))) = 32 := by
        rw [accBits, if_neg fun h => hf (by rw [accTy_two.1 h]; decide)]
      rw [hb] at hc ⊢
      exact blockElem_lt _ _ _ _ _ _ _ hc

/-! ### One accumulator row (R189) -/

/-- The codes of `l` written over the low bytes of a row. -/
theorem elemAt_merged {b n : Nat} (l : List Nat) (old : BitVec 512) (hn : 8 * n = b * l.length) (hlen : b * l.length ≤ 512)
    (hl : ∀ x ∈ l, x < 2 ^ b) (j : Nat) :
    elemAt (BitVec.ofNat 512 ((BitVec.ofNat 512 (assemble b l)).toNat % 2 ^ (8 * n)
        + old.toNat / 2 ^ (8 * n) * 2 ^ (8 * n))).toNat b j
      = if hj : j < l.length then l[j] else elemAt old.toNat b j := by
  have hlow := assemble_lt b l
  have hquot : old.toNat / 2 ^ (b * l.length) < 2 ^ (512 - b * l.length) :=
    Nat.div_lt_of_lt_mul (by rw [← Nat.pow_add, Nat.add_sub_cancel' hlen]; exact old.isLt)
  have hsum := fields_lt hquot hlow
  rw [Nat.sub_add_cancel hlen, Nat.add_comm] at hsum
  rw [hn, BitVec.toNat_ofNat, BitVec.toNat_ofNat,
    Nat.mod_eq_of_lt (hlow.trans_le (Nat.pow_le_pow_right (by decide) hlen)), Nat.mod_eq_of_lt hlow, Nat.mod_eq_of_lt hsum]
  split
  · next hj =>
    rw [elemAt_add_mul _ _ _ hj, elemAt_assemble _ _ hj]
    exact Nat.mod_eq_of_lt (hl _ (List.getElem_mem hj))
  · next hj =>
    have hbj : b * j = b * l.length + b * (j - l.length) := by
      rw [← Nat.mul_add]
      congr 1
      omega
    rw [elemAt, elemAt, hbj, Nat.pow_add, ← Nat.div_div_eq_div_mul, ← Nat.div_div_eq_div_mul,
      Nat.add_mul_div_right _ _ (Nat.two_pow_pos _), Nat.div_eq_of_lt hlow, Nat.zero_add]

/-! ### The rows of a job (R190, R191) -/

/-- A row of a job: its key, low bytes, their number and mark. -/
abbrev JobRow := Nat × BitVec 512 × Nat × Bool

/-- The key of half `q` of accumulator row `i`. -/
def rowKey (ty ad i q : Nat) : Nat := if ty = 2 then 16 * (ad + i / 8) + 2 * (i % 8) + q else 16 * ad + i

/-- The half of a row that holds column `j`, and its place there. -/
def halfIdx (ty j : Nat) : Nat := if ty = 2 then j / 8 else 0
def colIdx (ty j : Nat) : Nat := if ty = 2 then j % 8 else j

/-- The codes of half `q` of a row. -/
def halfOf (ty : Nat) (es : List Nat) (q : Nat) : List Nat := if ty = 2 then (if q = 0 then es.take 8 else es.drop 8) else es

/-- Half `q` of row `i` of results `E` of `n` columns. -/
def rowPart (ty ad n : Nat) (E : Nat → Nat → Nat) (mark : Nat → Bool) (i q : Nat) : JobRow :=
  (rowKey ty ad i q, BitVec.ofNat 512 (assemble (accBits ty) (halfOf ty ((List.range n).map (E i)) q)),
    accBits ty / 8 * (halfOf ty ((List.range n).map (E i)) q).length, mark i)

/-- Row `i` of results: an FP64 row stands in two halves. -/
def rowsOf (ty ad n : Nat) (E : Nat → Nat → Nat) (mark : Nat → Bool) (i : Nat) : List JobRow :=
  if ty = 2 then [rowPart ty ad n E mark i 0, rowPart ty ad n E mark i 1] else [rowPart ty ad n E mark i 0]

theorem rowsOf_eq (ty ad n : Nat) (E : Nat → Nat → Nat) (mark : Nat → Bool) (i : Nat) : rowsOf ty ad n E mark i
    = if ty = 2 then
        [(16 * (ad + i / 8) + 2 * (i % 8), BitVec.ofNat 512 (assemble 64 (((List.range n).map (E i)).take 8)), 8 * min n 8, mark i),
         (16 * (ad + i / 8) + 2 * (i % 8) + 1, BitVec.ofNat 512 (assemble 64 (((List.range n).map (E i)).drop 8)), 8 * (n - 8), mark i)]
      else [(16 * ad + i, BitVec.ofNat 512 (assemble 32 ((List.range n).map (E i))), 4 * n, mark i)] := by
  unfold rowsOf rowPart rowKey halfOf accBits
  by_cases hty : ty = 2
  · simp [hty, Nat.min_comm]
  · simp [hty]

/-- The halves of a row of type `ty`. -/
def isHalf (ty q : Nat) : Prop := q < if ty = 2 then 2 else 1

theorem mem_rowsOf {ty ad n : Nat} {E : Nat → Nat → Nat} {mark : Nat → Bool} {i : Nat} {e : JobRow} :
    e ∈ rowsOf ty ad n E mark i ↔ ∃ q, isHalf ty q ∧ e = rowPart ty ad n E mark i q := by
  unfold rowsOf isHalf
  split
  · simp [Nat.le_one_iff_eq_zero_or_eq_one, or_and_right, exists_or]
  · simp

theorem rowKey_inj {ty ad i i' q q' : Nat} (hq : isHalf ty q) (hq' : isHalf ty q')
    (h : rowKey ty ad i q = rowKey ty ad i' q') : i = i' ∧ q = q' := by
  unfold isHalf at hq hq'
  unfold rowKey at h
  split_ifs at * <;> omega

theorem find?_unique {α : Type} {p : α → Bool} {l : List α} {e : α} (he : e ∈ l) (hp : p e = true)
    (hu : ∀ x ∈ l, p x = true → x = e) : l.find? p = some e := by
  obtain ⟨x, hx⟩ := Option.isSome_iff_exists.1 (List.find?_isSome.2 ⟨e, he, hp⟩)
  rw [hx, hu x (List.mem_of_find?_eq_some hx) (List.find?_some hx)]

/-- Where element (i, j) of an accumulator stands. -/
theorem accElem_eq (rows : Nat → Marked) (ad ty i j : Nat) : accElem rows ad ty i j
    = elemAt (rows (rowKey ty ad i (halfIdx ty j))).data.toNat (accBits ty) (colIdx ty j) := by
  unfold accElem rowKey accBits halfIdx colIdx
  split <;> rfl

theorem halfOf_length {ty n q : Nat} (hn : n ≤ 16) (f : Nat → Nat) :
    8 * (accBits ty / 8 * (halfOf ty ((List.range n).map f) q).length) = accBits ty * (halfOf ty ((List.range n).map f) q).length
    ∧ accBits ty * (halfOf ty ((List.range n).map f) q).length ≤ 512 := by
  unfold accBits halfOf
  split_ifs <;> simp <;> omega

/-- Code (i, j) stands in its half at its place. -/
theorem halfOf_get {ty n j : Nat} (f : Nat → Nat) (hj : j < 16) :
    (halfOf ty ((List.range n).map f) (halfIdx ty j))[colIdx ty j]?
      = if j < n then some (f j) else none := by
  unfold halfOf halfIdx colIdx
  split
  · by_cases h8 : j / 8 = 0
    · rw [if_pos h8, List.getElem?_take, if_pos (by omega), show j % 8 = j by omega]
      split <;> simp [*]
    · rw [if_neg h8, List.getElem?_drop, show 8 + j % 8 = j by omega]
      split <;> simp [*]
  · split <;> simp [*]

section
variable {j : MmaJob} {ty ad m n : Nat} {E : Nat → Nat → Nat} {mark : Nat → Bool}
  (hrows : j.rows = ((List.range m).map (rowsOf ty ad n E mark)).flatten)
include hrows

theorem mem_jobRows {e : JobRow} : e ∈ j.rows ↔ ∃ i < m, ∃ q, isHalf ty q ∧ e = rowPart ty ad n E mark i q := by
  simp only [hrows, List.mem_flatten, List.mem_map, List.mem_range, exists_exists_and_eq_and, mem_rowsOf]

theorem jobRow_other (rows : Nat → Marked) {k : Nat} (hk : ∀ i < m, ∀ q, isHalf ty q → rowKey ty ad i q ≠ k) :
    jobRow j rows k = rows k := by
  have hnone : j.rows.find? (fun e => decide (e.1 = k)) = none := by
    rw [List.find?_eq_none]
    intro e he hek
    obtain ⟨i, hi, q, hq, rfl⟩ := (mem_jobRows hrows).1 he
    exact hk i hi q hq (of_decide_eq_true hek)
  rw [jobRow, hnone]

/-- Rows have keys in the accumulators that the job writes. -/
theorem jobRow_frame (hm : m ≤ 16) (rows : Nat → Marked) {k : Nat} (hk : k / 16 ≠ ad) (hk2 : ty = 2 → k / 16 ≠ ad + 1) :
    jobRow j rows k = rows k := by
  refine jobRow_other hrows rows fun i hi q hq => ?_
  unfold isHalf at hq
  unfold rowKey
  split_ifs at * with hty
  · have := hk2 hty
    omega
  · omega

/-- The row that a job leaves at a key of its own. -/
theorem jobRow_data (rows : Nat → Marked) {i q : Nat} (hi : i < m) (hq : isHalf ty q) :
    let e := rowPart ty ad n E mark i q
    (jobRow j rows (rowKey ty ad i q)).data = BitVec.ofNat 512 (e.2.1.toNat % 2 ^ (8 * e.2.2.1)
      + (rows (rowKey ty ad i q)).data.toNat / 2 ^ (8 * e.2.2.1) * 2 ^ (8 * e.2.2.1)) := by
  have hfind : j.rows.find? (fun x => decide (x.1 = rowKey ty ad i q)) = some (rowPart ty ad n E mark i q) := by
    refine find?_unique ((mem_jobRows hrows).2 ⟨i, hi, q, hq, rfl⟩) (decide_eq_true rfl) fun x hx hxe => ?_
    obtain ⟨i', hi', q', hq', rfl⟩ := (mem_jobRows hrows).1 hx
    obtain ⟨rfl, rfl⟩ := rowKey_inj hq' hq (of_decide_eq_true hxe)
    rfl
  intro e
  rw [jobRow, hfind]

/-- Element (a, b) is the job's inside its rows and columns, and the old one elsewhere (R188). -/
theorem accElem_jobRow (hn : n ≤ 16) (hE : ∀ i j, E i j < 2 ^ accBits ty) (rows : Nat → Marked) {a b : Nat} (ha : a < 16)
    (hb : b < 16) : accElem (jobRow j rows) ad ty a b = if a < m ∧ b < n then E a b else accElem rows ad ty a b := by
  have hhalf : isHalf ty (halfIdx ty b) := by
    unfold isHalf halfIdx
    split <;> omega
  rw [accElem_eq, accElem_eq]
  by_cases ham : a < m
  · obtain ⟨hbytes, hlen⟩ := halfOf_length (ty := ty) (q := halfIdx ty b) hn (E a)
    have hcodes : ∀ x ∈ halfOf ty ((List.range n).map (E a)) (halfIdx ty b), x < 2 ^ accBits ty := by
      intro x hx
      have hmem : x ∈ (List.range n).map (E a) := by
        unfold halfOf at hx
        split_ifs at hx
        exacts [List.mem_of_mem_take hx, List.mem_of_mem_drop hx, hx]
      obtain ⟨c, -, rfl⟩ := List.mem_map.1 hmem
      exact hE a c
    have hget := halfOf_get (ty := ty) (n := n) (E a) hb
    rw [jobRow_data hrows rows ham hhalf]
    refine (elemAt_merged _ _ hbytes hlen hcodes _).trans ?_
    by_cases hbn : b < n
    · rw [if_pos hbn, List.getElem?_eq_some_iff] at hget
      obtain ⟨hlt, hval⟩ := hget
      rw [dif_pos hlt, hval, if_pos ⟨ham, hbn⟩]
    · rw [if_neg hbn, List.getElem?_eq_none_iff] at hget
      rw [dif_neg (by omega), if_neg fun h => hbn h.2]
  · rw [if_neg fun h => ham h.1, jobRow_other hrows rows fun i hi q hq he => by
      obtain ⟨rfl, -⟩ := rowKey_inj hq hhalf he
      exact ham hi]

end

/-! ### Flags of a job (R199) -/

theorem foldl_or_iff {α : Type} (g : α → BitVec 5) (l : List α) (x : BitVec 5) (k : Nat) :
    (l.foldl (fun y e => y ||| g e) x).getLsbD k = true ↔ x.getLsbD k = true ∨ ∃ e ∈ l, (g e).getLsbD k = true := by
  induction l generalizing x with
  | nil => simp
  | cons e l ih => simp [ih, or_assoc]

theorem foldl_or_start {α : Type} (g : α → BitVec 5) (l : List α) (x : BitVec 5) :
    l.foldl (fun y e => y ||| g e) x = x ||| l.foldl (fun y e => y ||| g e) 0 := by
  apply BitVec.eq_of_getLsbD_eq
  intro k _
  rw [Bool.eq_iff_iff, BitVec.getLsbD_or, Bool.or_eq_true, foldl_or_iff, foldl_or_iff]
  simp

/-- The flags of all elements (i, j) together. -/
theorem gridFlags_iff (m n : Nat) (F : Nat → Nat → Nat × BitVec 5) (k : Nat) :
    (((List.range m).map fun i => (List.range n).map (F i)).foldl (fun x r => r.foldl (fun y e => y ||| e.2) x) (0 : BitVec 5)).getLsbD k
      = true ↔ ∃ i j, (i < m ∧ j < n) ∧ (F i j).2.getLsbD k = true := by
  have hrow : (fun (x : BitVec 5) (r : List (Nat × BitVec 5)) => r.foldl (fun y e => y ||| e.2) x)
      = fun x r => x ||| r.foldl (fun y e => y ||| e.2) 0 := funext fun x => funext fun r => foldl_or_start _ r x
  rw [hrow, foldl_or_iff]
  simp only [foldl_or_iff, List.mem_map, List.mem_range, exists_exists_and_eq_and, show (0 : BitVec 5).getLsbD k = false by simp,
    Bool.false_eq_true, false_or, and_assoc, exists_and_left]

/-! ### The job of an `MMA` (R195) -/

/-- The code that element (i, j) starts from. -/
def startCode (t : Thread) (acc : Bool) (ad ty i j : Nat) : Nat :=
  if acc then accElem (accArch t) ad ty i j else if ty = 2 then 2 ^ 63 else if ty = 1 then 0 else 2 ^ 31

theorem startCode_lt (t : Thread) (acc : Bool) (ad ty i j : Nat) : startCode t acc ad ty i j < 2 ^ accBits ty := by
  unfold startCode
  split
  · rw [accElem_eq]
    exact elemAt_lt ..
  · unfold accBits
    split_ifs <;> decide

section
variable {c : Core} {th : Fin 4} {t : Thread} {acc sp : Bool} {tm tb ta : Fin 8} {ad : Fin 4}

theorem accForward_idle (hrun : c.mmaRun = none) (hwait : c.mmaWait = none) (hs : t.accSpec = []) : accForward c th t = accArch t := by
  funext k
  rw [accForward, hrun, hwait]
  simp [forwardJob, accRow, hs, tfind]

/-- The element results of a job on an idle unit. -/
def jobElem (t : Thread) (acc sp : Bool) (tm tb ta : Fin 8) (ad : Fin 4) (i j : Nat) : Nat × BitVec 5 :=
  contract t sp tm tb ta i j (startCode t acc ad.val (accTy (dFmt (descOf t ta.val)) (dScale (descOf t ta.val))) i j)

/-- The flags of all elements of a job. -/
def jobFlags (t : Thread) (acc sp : Bool) (tm tb ta : Fin 8) (ad : Fin 4) : BitVec 5 :=
  ((List.range (dRows (descOf t ta.val))).map fun i => (List.range (dRows (descOf t tb.val))).map (jobElem t acc sp tm tb ta ad i)).foldl
    (fun x r => r.foldl (fun y e => y ||| e.2) x) 0

section
variable (hrun : c.mmaRun = none) (hwait : c.mmaWait = none) (hs : t.accSpec = [])
include hrun hwait hs

theorem mmaJob_rows : (mmaJob c th t false acc sp tm tb ta ad).rows
    = ((List.range (dRows (descOf t ta.val))).map (rowsOf (accTy (dFmt (descOf t ta.val)) (dScale (descOf t ta.val))) ad.val
        (dRows (descOf t tb.val)) (fun i j => (jobElem t acc sp tm tb ta ad i j).1) (mmaMark t sp tm tb ta))).flatten := by
  unfold mmaJob
  extract_lets a b fmt ty m n row start elem grid flags mark rows badT fault
  have helem : elem = jobElem t acc sp tm tb ta ad := by
    funext i j
    unfold elem start row
    simp only [accForward_idle hrun hwait hs, jobElem, contract, startCode, Nat.le_one_iff_eq_zero_or_eq_one]
    rfl
  have hgrid : ∀ i < m, (nth [] grid i).map (fun e => e.1) = (List.range n).map fun j => (jobElem t acc sp tm tb ta ad i j).1 := by
    intro i hi
    unfold grid
    rw [helem]
    simp [nth, hi]
  change rows = _
  unfold rows
  refine congrArg _ (List.map_congr_left fun i hi => ?_)
  rw [hgrid i (List.mem_range.1 hi)]
  exact (rowsOf_eq ty ad.val n (fun i j => (jobElem t acc sp tm tb ta ad i j).1) mark i).symm

/-- The fault and the flags of a job with no report of invalid T2 elements (R200, R201). -/
theorem mmaJob_fault (ht : t.t2Policy = false ∨ (dFmt (descOf t ta.val) ≠ 11 ∧ dFmt (descOf t tb.val) ≠ 11)) :
    (mmaJob c th t false acc sp tm tb ta ad).fault
      = (if accTy (dFmt (descOf t ta.val)) (dScale (descOf t ta.val)) ≠ 1 ∧ trapped t (jobFlags t acc sp tm tb ta ad) ≠ 0
          then some (0x0A, (trapped t (jobFlags t acc sp tm tb ta ad)).setWidth 64) else none)
    ∧ (mmaJob c th t false acc sp tm tb ta ad).flags = jobFlags t acc sp tm tb ta ad := by
  unfold mmaJob
  extract_lets a b fmt ty m n row start elem grid flags mark rows badT fault
  have helem : elem = jobElem t acc sp tm tb ta ad := by
    funext i j
    unfold elem start row
    simp only [accForward_idle hrun hwait hs, jobElem, contract, startCode, Nat.le_one_iff_eq_zero_or_eq_one]
    rfl
  have hflags : flags = jobFlags t acc sp tm tb ta ad := by
    unfold flags grid
    rw [helem]
    rfl
  have hfault : fault = if ty ≠ 1 ∧ trapped t (jobFlags t acc sp tm tb ta ad) ≠ 0
      then some (0x0A, (trapped t (jobFlags t acc sp tm tb ta ad)).setWidth 64) else none := by
    rw [← hflags]
    unfold fault
    rcases ht with ht | ⟨ha, hb⟩
    · rw [ht]
    · have hbad : badT = [] := by
        unfold badT badT2s
        simp [ha, hb]
      rw [hbad]
      cases t.t2Policy <;> rfl
  refine ⟨hfault, ?_⟩
  rw [hfault, ← hflags]
  split_ifs <;> rfl

end
end

/-! ### Completion (R199, R200) -/

theorem dropAcc_run (h : Hart) (c : Core) (k : Nat) (x : Marked) :
    thOf (applyWr h c (.acc k x)) h.thread
      = { thOf c h.thread with acc := tset (thOf c h.thread).acc k x, accSpec := dropAcc (thOf c h.thread).accSpec (k / 16) } := by
  rw [applyWr, thOf_setTh_same]

theorem accArch_written (t : Thread) (k : Nat) (x : Marked) (sp : Tab Marked) (k' : Nat) :
    accArch { t with acc := tset t.acc k x, accSpec := sp } k' = if k = k' then x else accArch t k' := by
  unfold accArch
  dsimp only
  by_cases hk : k = k'
  · rw [hk, tfind_tset_same, if_pos rfl]
  · rw [tfind_tset_other _ _ _ _ hk, if_neg hk]

/-- Writing rows of accumulators changes those rows and no flag. -/
theorem accWrites (h : Hart) (g : Nat → Marked) (l : List JobRow) (c : Core) :
    let u := thOf ((l.map fun e => Wr.acc e.1 (g e.1)).foldl (applyWr h) c) h.thread
    u.fpFlags = (thOf c h.thread).fpFlags
      ∧ ∀ k, accArch u k = if ∃ e ∈ l, e.1 = k then g k else accArch (thOf c h.thread) k := by
  induction l generalizing c with
  | nil => exact ⟨rfl, fun k => by simp⟩
  | cons e l ih =>
    obtain ⟨hfl, hacc⟩ := ih (applyWr h c (.acc e.1 (g e.1)))
    rw [List.map_cons, List.foldl_cons]
    refine ⟨hfl.trans (by rw [dropAcc_run]), fun k => (hacc k).trans ?_⟩
    rw [dropAcc_run, accArch_written]
    by_cases hl : ∃ e ∈ l, e.1 = k
    · rw [if_pos hl, if_pos (by obtain ⟨x, hx, hk⟩ := hl; exact ⟨x, List.mem_cons_of_mem _ hx, hk⟩)]
    · rw [if_neg hl]
      by_cases he : e.1 = k
      · rw [if_pos he, if_pos ⟨e, List.mem_cons_self, he⟩, he]
      · rw [if_neg he, if_neg]
        rintro ⟨x, hx, hk⟩
        rcases List.mem_cons.1 hx with rfl | hx
        · exact he hk
        · exact hl ⟨x, hx, hk⟩

/-- What an ordinary job writes (R199). -/
theorem mmaWrite_thread {h : Hart} {j : MmaJob} (hs : j.spec = false) (s : State) :
    (thread (mmaWrite h j s) h).fpFlags = (thread s h).fpFlags ||| j.flags
      ∧ accArch (thread (mmaWrite h j s) h) = jobRow j (accArch (thread s h)) := by
  obtain ⟨hfl, hacc⟩ := accWrites h (jobRow j (accArch (thread s h))) j.rows (coreOf s h.core)
  unfold mmaWrite
  rw [hs]
  dsimp only
  rw [thread, coreOf_modCore_same]
  simp only [thOf_setTh_same, Bool.false_eq_true, if_false]
  refine ⟨congrArg (· ||| j.flags) hfl, funext fun k => ?_⟩
  refine (hacc k).trans ?_
  split_ifs with hk
  · rfl
  · have hnone : j.rows.find? (fun e => decide (e.1 = k)) = none :=
      List.find?_eq_none.2 fun e he hek => hk ⟨e, he, of_decide_eq_true hek⟩
    rw [jobRow, hnone]
    rfl

section
variable {h : Hart} {acc sp : Bool} {tm tb ta : Fin 8} {ad : Fin 4} {s : State}

/-- The job that an `MMA` leaves in the waiting place. -/
def issuedJob (h : Hart) (acc sp : Bool) (tm tb ta : Fin 8) (ad : Fin 4) (s : State) : MmaJob :=
  mmaJob (coreOf (rotate h s) h.core) h.thread (thread s h) false acc sp tm tb ta ad

/-- The state in which an `MMA` has been issued. -/
def mmaIssued (h : Hart) (acc sp : Bool) (tm tb ta : Fin 8) (ad : Fin 4) (s : State) : State :=
  mmaIssue h false acc sp tm tb ta ad [] (rotate h s)

theorem rotate_mma (h : Hart) (s : State) : mmaOf (coreOf (rotate h s) h.core) = mmaOf (coreOf s h.core) := by
  rw [rotate_core]
  rfl

/-- The job enters the waiting place (R193). -/
def placed (h : Hart) (j : MmaJob) (s : State) : State := modCore (rotate h s) h.core fun c => { c with mmaWait := some j }

theorem placed_thread (h : Hart) (j : MmaJob) (s : State) : thread (placed h j s) h = thread s h := by
  rw [← rotate_thread h h s, placed, thread, coreOf_modCore_same]
  rfl

theorem placed_mma (h : Hart) (j : MmaJob) (s : State) :
    mmaOf (coreOf (placed h j s) h.core) = ((coreOf s h.core).mmaRun, some j) := by
  have hr : (coreOf (rotate h s) h.core).mmaRun = (coreOf s h.core).mmaRun := congrArg Prod.fst (rotate_mma h s)
  rw [← hr, placed, coreOf_modCore_same]
  rfl

theorem mmaIssued_eq : mmaIssued h acc sp tm tb ta ad s
    = if mmaBlocks (thread s h) ta then setRun h (.waiting .mma) (placed h (issuedJob h acc sp tm tb ta ad s) s)
      else modTh (placed h (issuedJob h acc sp tm tb ta ad s) s) h (advPc 4) := by
  have hjob : modCore (rotate h s) h.core (fun c => { c with mmaWait := some (mmaJob c h.thread (thOf c h.thread) false acc sp tm tb ta ad) })
      = placed h (issuedJob h acc sp tm tb ta ad s) s := by
    refine modCore_congr _ _ _ _ ?_
    rw [issuedJob, ← rotate_thread h h s]
    rfl
  rw [mmaIssued, mmaIssue, parityFail_nil]
  dsimp only
  rw [if_neg Bool.false_ne_true, hjob, placed_thread]

theorem mmaIssued_core : mmaOf (coreOf (mmaIssued h acc sp tm tb ta ad s) h.core)
      = ((coreOf s h.core).mmaRun, some (issuedJob h acc sp tm tb ta ad s))
    ∧ thread (mmaIssued h acc sp tm tb ta ad s) h
      = if mmaBlocks (thread s h) ta then { thread s h with run := .waiting .mma } else advPc 4 (thread s h) := by
  rw [mmaIssued_eq, setRun]
  split_ifs
  · rw [modTh_mma, thread_modTh_same, placed_thread]
    exact ⟨placed_mma .., rfl⟩
  · rw [modTh_mma, thread_modTh_same, placed_thread]
    exact ⟨placed_mma .., rfl⟩

theorem mma_issues {p : Fin 8} (hr : Runs h p 4 s) (hm : mmaReady h sp tm tb ta ad s) :
    execMma h p acc sp tm tb ta ad [] s = .next (mmaIssued h acc sp tm tb ta ad s) := by
  obtain ⟨hfault, hsp, hrun, hwait⟩ := hm
  have hw : Instr.wf (.mma h p acc sp tm tb ta ad []) = true := by
    rcases hsp with rfl | rfl <;> simp [Instr.wf]
  rw [execMma, guardWf_wf hw]
  refine issueWith_runs h p 4 _ _ _ s hr hfault ?_ ?_
  · simp [mmaAct, mmaStall, hrun, hwait]
  · simp [mmaAct, pendingSpec, lastWriter, hrun, hwait]

/-- The end of a job that met no fault and for which no thread waits (R199). -/
theorem mmaDone_writes {core : CoreId} {j : MmaJob} (hb : j.blocks = false) (hf : j.fault = none) (s : State) :
    mmaDone core j s = mmaWrite ⟨core, j.thread⟩ j s := by
  rw [mmaDone]
  simp only [hb, hf]
  rfl

/-- The trap of a job for which its thread waits leaves the accumulators (R200). -/
theorem mmaDone_traps {j : MmaJob} {w : Word} (hh : h = ⟨h.core, j.thread⟩) (hb : j.blocks = true) (hs : j.spec = false)
    (hf : j.fault = some (0x0A, w)) {s : State} (hrun : (thread s h).run = .waiting .mma) :
    let u := thread (mmaDone h.core j s) h
    ((thread s h).hold = none → ∃ r, u.run = .entering 0x0A r) ∧ ((thread s h).hold.isSome = true → u.run = .halted)
      ∧ ∀ k, accArch u k = accArch (thread s h) k := by
  intro u
  have hdone : mmaDone h.core j s = takeFault h 4 ⟨0x0A, w, false⟩
      (modTh s h fun t => { t with run := .ready, fpFlags := t.fpFlags ||| j.flags }) := by
    rw [mmaDone, ← hh]
    simp only [hb, hf, hs, hrun]
    rfl
  unfold u
  rw [hdone]
  rcases Option.eq_none_or_eq_some (thread s h).hold with hn | ⟨x, hx⟩
  · obtain ⟨r, hr⟩ := takeFault_thread_enters (h := h) (s := modTh s h fun t => { t with run := .ready, fpFlags := t.fpFlags ||| j.flags })
      (by rw [thread_modTh_same]; exact hn) 4 ⟨0x0A, w, false⟩
    rw [hr, thread_modTh_same]
    exact ⟨fun _ => ⟨r, rfl⟩, fun h => by simp [hn] at h, fun _ => rfl⟩
  · rw [takeFault_thread_halts (by rw [thread_modTh_same]; simp [hx]), thread_modTh_same]
    exact ⟨fun h => by simp [hx] at h, fun _ => rfl, fun _ => rfl⟩

end

/-! ### Which jobs trap (R200) -/

section
variable {t : Thread} {acc sp : Bool} {tm tb ta : Fin 8} {ad : Fin 4}

/-- A thread that goes on before its `MMA` ends has no trap to take there. -/
theorem notBlocked_untrapped (hb : mmaBlocks t ta = false) (fl : BitVec 5) :
    ¬ (accTy (dFmt (descOf t ta.val)) (dScale (descOf t ta.val)) ≠ 1 ∧ trapped t fl ≠ 0) := by
  rintro ⟨hty, htr⟩
  refine htr ?_
  simp only [mmaBlocks, Bool.or_eq_false_iff, Bool.and_eq_false_iff, decide_eq_false_iff_not, not_not, hty, or_false] at hb
  rw [trapped, hb.1]
  exact BitVec.and_zero

theorem notBlocked_t2 (hb : mmaBlocks t ta = false) (hf : mmaFault t sp tm tb ta ad = none) :
    t.t2Policy = false ∨ (dFmt (descOf t ta.val) ≠ 11 ∧ dFmt (descOf t tb.val) ≠ 11) := by
  have heq : dFmt (descOf t ta.val) = dFmt (descOf t tb.val) := by
    unfold mmaFault at hf
    dsimp only at hf
    by_contra hne
    split_ifs at hf with h1 h2 h3
    exact h3 (.inl hne)
  simp only [mmaBlocks, Bool.or_eq_false_iff, Bool.and_eq_false_iff, decide_eq_false_iff_not] at hb
  obtain ⟨-, hb | hb⟩ := hb
  · exact .inl hb
  · exact .inr ⟨hb, heq ▸ hb⟩

/-- A flag whose trap is enabled makes the thread wait and the job carry the trap. -/
theorem flag_traps {fl : BitVec 5} {k : Nat} (hfl : fl.getLsbD k = true) (hen : t.fpCtrl.getLsbD (3 + k) = true) :
    trapped t fl ≠ 0 := by
  intro hz
  have hk : k < 5 := by
    by_contra hk
    rw [BitVec.getLsbD_of_ge _ _ (by omega)] at hfl
    cases hfl
  have hbit : (trapped t fl).getLsbD k = true := by
    rw [trapped_eq, BitVec.getLsbD_and, hfl, BitVec.getLsbD_extractLsb', hen]
    simp [hk]
  rw [hz] at hbit
  simp at hbit

theorem trap_blocks {fl : BitVec 5} (htr : trapped t fl ≠ 0) (hty : accTy (dFmt (descOf t ta.val)) (dScale (descOf t ta.val)) ≠ 1) :
    mmaBlocks t ta = true := by
  by_contra hb
  exact notBlocked_untrapped (by simpa using hb) fl ⟨hty, htr⟩

end

section
variable {h : Hart} {p : Fin 8} {acc sp : Bool} {tm tb ta : Fin 8} {ad : Fin 4} {s : State}

/-- An issued `MMA` starts and ends on the idle unit (R193). -/
theorem mmaIssued_ends (hrun : (coreOf s h.core).mmaRun = none) :
    ∃ s2 u s3, execMmaStart h.core (mmaIssued h acc sp tm tb ta ad s) = .next s2 ∧ execMmaComplete h.core s2 = .next s3
      ∧ mmaOf (coreOf s2 h.core) = (some (issuedJob h acc sp tm tb ta ad s), none) ∧ (coreOf s3 h.core).mmaRun = none
      ∧ s3 = mmaDone h.core (issuedJob h acc sp tm tb ta ad s) u ∧ thread u h = thread (mmaIssued h acc sp tm tb ta ad s) h := by
  obtain ⟨hcore, -⟩ := mmaIssued_core (h := h) (acc := acc) (sp := sp) (tm := tm) (tb := tb) (ta := ta) (ad := ad) (s := s)
  obtain ⟨s2, hs2, hc2⟩ := mmaStart_starts ((congrArg Prod.fst hcore).trans hrun) (congrArg Prod.snd hcore)
  have hr2 : (coreOf s2 h.core).mmaRun = some (issuedJob h acc sp tm tb ta ad s) := by rw [hc2]
  obtain ⟨s3, hs3, hr3, -⟩ := mmaComplete_ends hr2
  refine ⟨s2, modCore s2 h.core fun c => { c with mmaRun := none, passed := [] }, s3, hs2, hs3, by rw [hc2]; rfl, hr3, ?_, ?_⟩
  · rw [execMmaComplete, hr2] at hs3
    exact (Host.Outcome.next.inj hs3).symm
  · unfold thread
    rw [coreOf_modCore_same, hc2]
    rfl

/-- The rows, the flags and the fault of the issued job (R195). -/
theorem issuedJob_rows (hrun : (coreOf s h.core).mmaRun = none) (hwait : (coreOf s h.core).mmaWait = none)
    (hq : (thread s h).accSpec = []) :
    (issuedJob h acc sp tm tb ta ad s).rows = ((List.range (dRows (descOf (thread s h) ta.val))).map
      (rowsOf (accTy (dFmt (descOf (thread s h) ta.val)) (dScale (descOf (thread s h) ta.val))) ad.val (dRows (descOf (thread s h) tb.val))
        (fun i j => (jobElem (thread s h) acc sp tm tb ta ad i j).1) (mmaMark (thread s h) sp tm tb ta))).flatten := by
  have hrot := rotate_mma h s
  rw [mmaOf, mmaOf, hrun, hwait] at hrot
  exact mmaJob_rows (congrArg Prod.fst hrot) (congrArg Prod.snd hrot) hq

theorem issuedJob_fault (hrun : (coreOf s h.core).mmaRun = none) (hwait : (coreOf s h.core).mmaWait = none)
    (hq : (thread s h).accSpec = [])
    (ht : (thread s h).t2Policy = false ∨ (dFmt (descOf (thread s h) ta.val) ≠ 11 ∧ dFmt (descOf (thread s h) tb.val) ≠ 11)) :
    (issuedJob h acc sp tm tb ta ad s).fault
      = (if accTy (dFmt (descOf (thread s h) ta.val)) (dScale (descOf (thread s h) ta.val)) ≠ 1
            ∧ trapped (thread s h) (jobFlags (thread s h) acc sp tm tb ta ad) ≠ 0
          then some (0x0A, (trapped (thread s h) (jobFlags (thread s h) acc sp tm tb ta ad)).setWidth 64) else none)
    ∧ (issuedJob h acc sp tm tb ta ad s).flags = jobFlags (thread s h) acc sp tm tb ta ad := by
  have hrot := rotate_mma h s
  rw [mmaOf, mmaOf, hrun, hwait] at hrot
  exact mmaJob_fault (congrArg Prod.fst hrot) (congrArg Prod.snd hrot) hq ht

end

/-- An integer contract raises nothing. -/
theorem jobElem_int {t : Thread} {ta : Fin 8} (hty : accTy (dFmt (descOf t ta.val)) (dScale (descOf t ta.val)) = 1)
    (acc sp : Bool) (tm tb : Fin 8) (ad : Fin 4) (i j : Nat) : (jobElem t acc sp tm tb ta ad i j).2 = 0 := by
  rw [jobElem, contract]
  simp only [hty, if_true]

/-- Settles O30: the job holds the results of its operands at issue, and its end writes them or takes the trap. -/
theorem mmaComputesItsContract : Obligations.MmaComputesItsContract := by
  intro h p acc sp tm tb ta ad s hr hm
  have hq : (thread s h).accSpec = [] := hr.2.2.2.2.1
  obtain ⟨hcore, hth⟩ := mmaIssued_core (h := h) (acc := acc) (sp := sp) (tm := tm) (tb := tb) (ta := ta) (ad := ad) (s := s)
  have hissue := mma_issues (acc := acc) hr hm
  obtain ⟨hfault, -, hrun, hwait⟩ := hm
  obtain ⟨s2, u, s3, hs2, hs3, hc2, hr3, hdone, hu⟩ :=
    mmaIssued_ends (acc := acc) (sp := sp) (tm := tm) (tb := tb) (ta := ta) (ad := ad) hrun
  dsimp only
  refine ⟨mmaIssued h acc sp tm tb ta ad s, s2, s3, hissue, hs2, hs3, ?_, ?_, congrArg Prod.snd hc2, hr3, fun hb => ?_, fun hb => ?_,
    fun hb hfit => ?_, fun ht hfit hex => ?_⟩
  · exact congrArg Option.isSome (congrArg Prod.snd hcore)
  · exact (congrArg Prod.fst hc2).trans (congrArg Prod.snd hcore).symm
  · rw [hth, hb]
    rfl
  · rw [hth, hb]
    rfl
  · obtain ⟨hm16, hn16⟩ := hfit
    obtain ⟨hjf, hjfl⟩ := issuedJob_fault (acc := acc) (sp := sp) (tm := tm) (ad := ad) hrun hwait hq (notBlocked_t2 hb hfault)
    rw [if_neg (notBlocked_untrapped hb _)] at hjf
    have hrows := issuedJob_rows (acc := acc) (sp := sp) (tm := tm) (tb := tb) (ta := ta) (ad := ad) hrun hwait hq
    obtain ⟨hfl, hacc⟩ := mmaWrite_thread (h := h) (j := issuedJob h acc sp tm tb ta ad s) rfl u
    rw [hb, if_neg Bool.false_ne_true] at hth
    rw [hu, hth] at hfl hacc
    rw [hdone, mmaDone_writes hb hjf]
    refine ⟨fun i hi j hj => ?_, fun k => ?_, fun k hk hk2 => ?_⟩
    · exact (congrArg (fun r => accElem r ad.val _ i j) hacc).trans
        (accElem_jobRow hrows hn16 (fun i j => contract_lt _ _ _ _ _ _ _ (startCode_lt ..)) _ hi hj)
    · refine (Eq.to_iff (congrArg (fun x : BitVec 5 => x.getLsbD k = true) hfl)).trans ?_
      rw [hjfl, BitVec.getLsbD_or, Bool.or_eq_true]
      exact or_congr Iff.rfl (gridFlags_iff _ _ _ k)
    · exact (congrFun hacc k).trans (jobRow_frame hrows hm16 _ hk hk2)
  · obtain ⟨i, j, k, hij, hfl, hen⟩ := hex
    obtain ⟨hjf, -⟩ := issuedJob_fault (acc := acc) (sp := sp) (tm := tm) (tb := tb) (ta := ta) (ad := ad) hrun hwait hq (.inl ht)
    have hjfl : (jobFlags (thread s h) acc sp tm tb ta ad).getLsbD k = true := (gridFlags_iff _ _ _ k).2 ⟨i, j, hij, hfl⟩
    have htr := flag_traps hjfl hen
    have hty : accTy (dFmt (descOf (thread s h) ta.val)) (dScale (descOf (thread s h) ta.val)) ≠ 1 := fun hty => by
      have hz : (jobElem (thread s h) acc sp tm tb ta ad i j).2.getLsbD k = true := hfl
      rw [jobElem_int hty] at hz
      simp at hz
    have hb := trap_blocks htr hty
    rw [if_pos ⟨hty, htr⟩] at hjf
    rw [if_pos hb] at hth
    obtain ⟨h1, h2, h3⟩ := mmaDone_traps (h := h) (s := u) rfl hb rfl hjf (by rw [hu, hth])
    rw [hu, hth] at h1 h2 h3
    rw [hdone]
    exact ⟨h1, h2, h3⟩

end Sys2Proof.Machine

/-!
SUPPORT. Accesses of ports: how they fault, complete and wait.
-/
namespace Sys2Proof.Machine
open Sys2Proof Sys2Proof.Safety

/-! ### Port accesses as instructions (R94, R116) -/

/-- The issue slot changes nothing that a port's faults depend on. -/
theorem portFault_rotate (h : Hart) (p : Word) (s : State) : portFault (rotate h s) h p = portFault s h p := by
  have hmon : isMonitor (rotate h s) h = isMonitor s h := rfl
  have hname : nameAt (rotate h s) h p.toNat = nameAt s h p.toNat := rfl
  unfold portFault
  rw [rotate_thread, hmon, hname]

theorem waitOn_eq (h : Hart) (w : Wait) (s : State) :
    waitOn h w s = modTh s h fun t => { t with run := .waiting w, met := none } := by
  rw [waitOn, setRun, modTh_modTh]

section
variable {h : Hart} {p : Fin 8} {len : Nat} {s : State}

theorem inInstr_faults (hr : Runs h p len s) {port : Word} {c : BitVec 8} {w : Word} (hf : portFault s h port = some ⟨c, w, false⟩)
    (d : Fin 32) : faults (inInstr h p len d port s) h c w s := by
  refine issueOwn_faults hr ?_ _
  rw [portRead, hf]
  rfl

theorem outInstr_faults (hr : Runs h p len s) {port : Word} {c : BitVec 8} {w : Word} (hf : portFault s h port = some ⟨c, w, false⟩)
    (v : Word) : faults (outInstr h p len port v s) h c w s := by
  refine issueOwn_faults hr ?_ _
  rw [portWrite, portWords, hf]
  simp [portAct]

theorem inInstr_done (hr : Runs h p len s) {port v v' : Word} {u u' : State} (hs : portRead h port s = .done v' u')
    (hd : portRead h port (rotate h s) = .done v u) (d : Fin 32) :
    inInstr h p len d port s = .next (modTh u h fun t => putG d v (advPc len t)) := by
  rw [inInstr, issueOwn_runs hr (by rw [hs]; rfl) (by rw [hs]; rfl) (by rw [hs]; rfl), hd]
  rfl

theorem inInstr_waits (hr : Runs h p len s) {port : Word} (hs : portRead h port s = .wait)
    (hd : portRead h port (rotate h s) = .wait) (d : Fin 32) :
    inInstr h p len d port s
      = .next (modTh (rotate h s) h fun t => { t with run := .waiting (.portRead (port.setWidth 16) d len), met := none }) := by
  rw [inInstr, issueOwn_runs hr (by rw [hs]; rfl) (by rw [hs]; rfl) (by rw [hs]; rfl), hd]
  exact congrArg _ (waitOn_eq ..)

theorem outInstr_done (hr : Runs h p len s) {port v w w' : Word} {u u' : State} (hs : portWrite h port v s = .done w' u')
    (hd : portWrite h port v (rotate h s) = .done w u) :
    outInstr h p len port v s = .next (modTh u h (advPc len)) := by
  rw [outInstr, issueOwn_runs hr (by rw [hs]; rfl) (by rw [hs]; rfl) rfl, hd]

theorem outInstr_waits (hr : Runs h p len s) {port v : Word} (hs : portWrite h port v s = .wait)
    (hd : portWrite h port v (rotate h s) = .wait) :
    outInstr h p len port v s
      = .next (modTh (rotate h s) h fun t => { t with run := .waiting (.portWrite (port.setWidth 16) v len), met := none }) := by
  rw [outInstr, issueOwn_runs hr (by rw [hs]; rfl) (by rw [hs]; rfl) rfl, hd]
  exact congrArg _ (waitOn_eq ..)

end

/-! ### The faults (R94, R115) -/

section
variable {h : Hart} {p : Fin 8} {s : State}

theorem portAccess_faults (hr : Runs h p 4 s) (d : Fin 32) {a : Fin 32} {c : BitVec 8}
    (hf : portFault s h (gReg (thread s h) a) = some ⟨c, gReg (thread s h) a, false⟩) :
    faults (exec (.inr h p d a) s) h c (gReg (thread s h) a) s ∧ faults (exec (.outr h p d a) s) h c (gReg (thread s h) a) s :=
  ⟨inInstr_faults hr hf d, outInstr_faults hr hf (gReg (thread s h) d)⟩

theorem portMode_none {n : Nat} (hn : ¬ ((n = 0x88 ∨ n = 0x8000 ∨ n = 0x80A8) ∨ (0x8008 ≤ n ∧ n ≤ 0x80A0)
    ∨ ((n ≤ 0x90 ∧ n ≠ 0x88) ∨ (0x1000 ≤ n ∧ n ≤ 0x1030) ∨ (0x2000 ≤ n ∧ n ≤ 0x2028) ∨ (0x4000 ≤ n ∧ n < 0x7000)))) :
    portMode n = none := by
  rw [portMode, if_neg (by omega), if_neg (by omega), if_neg (by omega), if_neg (by omega), if_neg (by omega), if_neg (by omega),
    if_neg (by omega)]

theorem portMode_supervisor {n : Nat} (hn : n = 0x88 ∨ n = 0x8000 ∨ n = 0x80A8) : portMode n = some .supervisor := by
  rcases hn with rfl | rfl | rfl <;> rfl

theorem portMode_monitor {n : Nat} (hn : 0x8008 ≤ n ∧ n ≤ 0x80A0) : portMode n = some .monitor := by
  rw [portMode, if_neg (by omega), if_neg (by omega), if_neg (by omega), if_neg (by omega), if_neg (by omega), if_neg (by omega),
    if_pos hn]

theorem portMode_any {n : Nat} (hn : (n ≤ 0x90 ∧ n ≠ 0x88) ∨ (0x1000 ≤ n ∧ n ≤ 0x1030) ∨ (0x2000 ≤ n ∧ n ≤ 0x2028)
    ∨ (0x4000 ≤ n ∧ n < 0x7000)) : portMode n = some .any := by
  rw [portMode, if_neg (by omega)]
  split_ifs
  · rfl
  · rfl
  · rfl
  · rfl
  all_goals omega

theorem portFault_misaligned {x : Word} (hx : x.toNat % 8 ≠ 0) : portFault s h x = some ⟨0x04, x, false⟩ := if_pos hx

theorem portFault_absent {x : Word} (hx : x.toNat % 8 = 0) (hm : portMode x.toNat = none) :
    portFault s h x = some ⟨0x1C, x, false⟩ := by
  rw [portFault, if_neg (by simpa using hx), hm]

theorem portFault_of {x : Word} {m : PortMode} (hx : x.toNat % 8 = 0) (hm : portMode x.toNat = some m) :
    portFault s h x =
      if (m = .supervisor ∧ !(thread s h).mode) ∨ (m = .monitor ∧ !((thread s h).mode && isMonitor s h)) then some ⟨0x0B, x, false⟩
      else if portName x.toNat ≠ .none ∧ (nameAt s h x.toNat).isNone then some ⟨0x1C, x, false⟩
      else none := by
  rw [portFault, if_neg (by simpa using hx), hm]

/-- A flag or counter port whose name is outside the cell's windows. -/
theorem portFault_name {x : Word} (hx : x.toNat % 8 = 0) (hlo : 0x4000 ≤ x.toNat) (hhi : x.toNat < 0x7000)
    (hn : (nameAt s h x.toNat).isNone = true) : portFault s h x = some ⟨0x1C, x, false⟩ := by
  have hp : portName x.toNat ≠ .none := by
    unfold portName
    split_ifs
    · exact fun h => by cases h
    · exact fun h => by cases h
    · omega
  rw [portFault_of hx (portMode_any (by omega))]
  simp [hp, hn]

end

/-- Settles O33: the rows of R94 one after the other. -/
theorem portFaultsComeInOrder : Obligations.PortFaultsComeInOrder := by
  intro h p d a s hr
  dsimp only
  refine ⟨fun hx => ?_, fun hx hn => ?_, fun hx hn => ?_, fun hx hlo hhi hc => ?_, fun hx hlo hhi hc => ?_⟩
  · exact portAccess_faults hr d (portFault_misaligned hx)
  · exact portAccess_faults hr d (portFault_absent hx (portMode_none hn))
  · refine portAccess_faults hr d ?_
    rcases hn with ⟨hn, hm⟩ | ⟨hn, hm⟩
    · rw [portFault_of hx (portMode_supervisor hn)]
      simp [hm]
    · rw [portFault_of hx (portMode_monitor hn)]
      rcases hm with hm | hm <;> simp [hm]
  · refine portAccess_faults hr d (portFault_name hx hlo (by omega) ?_)
    rw [nameAt, portName, if_pos ⟨hlo, hhi⟩]
    simp [flagIn, hc]
  · refine portAccess_faults hr d (portFault_name hx (by omega) hhi ?_)
    rw [nameAt, portName, if_neg (by omega), if_pos ⟨hlo, hhi⟩]
    simp [ctrIn, hc]

end Sys2Proof.Machine

/-!
SUPPORT. The registers behind the ports.
-/
namespace Sys2Proof.Machine
open Sys2Proof Sys2Proof.Safety

/-! ### Reads of registers (R115) -/

/-- The ports of every mode whose reads give a register, with the registers. -/
def readable (s : State) (h : Hart) : List (Nat × Word) :=
  let t := thread s h
  [(0x08, t.evEnable.setWidth 64), (0x10, t.evPending.setWidth 64),
    (0x40, t.fpCtrl.setWidth 64), (0x48, t.fpFlags.setWidth 64), (0x68, t.errPc.setWidth 64), (0x70, t.errInfo),
    (0x78, t.ctrTarget), (0x90, t.taskTrap), (0x1008, s.clock.dayCount.setWidth 64),
    (0x1010, BitVec.ofNat 64 s.clock.cycle), (0x1018, BitVec.ofNat 64 (dayLen s)),
    (0x1000, BitVec.ofNat 64 (h.core.val + s.deviceId.toNat * 2 ^ 16)), (0x2010, BitVec.ofNat 64 (coreOf s h.core).outstanding.length)]

/-- Those of supervisor mode. -/
def readableSup (s : State) (h : Hart) : List (Nat × Word) :=
  [(0x88, (thread s h).retPc.setWidth 64), (0x8000, (coreOf s h.core).trapBase.setWidth 64)]

/-- Port `n` gives `v`. -/
def Readable (s : State) (h : Hart) (n : Nat) (v : Word) : Prop :=
  (n, v) ∈ readable s h ∨ ((thread s h).mode = true ∧ (n, v) ∈ readableSup s h)

theorem readable_rotate (h : Hart) (s : State) (n : Nat) (v : Word) : Readable (rotate h s) h n v ↔ Readable s h n v := by
  have hout : (coreOf (rotate h s) h.core).outstanding = (coreOf s h.core).outstanding := by rw [rotate_core]; rfl
  have htrap : (coreOf (rotate h s) h.core).trapBase = (coreOf s h.core).trapBase := by rw [rotate_core]; rfl
  unfold Readable readable readableSup
  rw [rotate_thread, hout, htrap]
  rfl

theorem fault_supervisor {s : State} {h : Hart} (hm : (thread s h).mode = true) {x : Word} (hx : x = 0x88#64 ∨ x = 0x8000#64) :
    portFault s h x = none := by
  rcases hx with rfl | rfl
  · rw [portFault_of (by decide) (portMode_supervisor (by decide))]
    simp [hm, portName]
  · rw [portFault_of (by decide) (portMode_supervisor (by decide))]
    simp [hm, portName]

theorem portRead_register {s : State} {h : Hart} {n : Nat} {v : Word} (hn : Readable s h n v) :
    portRead h (BitVec.ofNat 64 n) s = .done v s := by
  rcases hn with hn | ⟨hm, hn⟩
  · simp only [readable, List.mem_cons, List.not_mem_nil, or_false, Prod.mk.injEq] at hn
    rcases hn with ⟨rfl, rfl⟩ | ⟨rfl, rfl⟩ | ⟨rfl, rfl⟩ | ⟨rfl, rfl⟩ | ⟨rfl, rfl⟩ | ⟨rfl, rfl⟩ | ⟨rfl, rfl⟩ | ⟨rfl, rfl⟩ | ⟨rfl, rfl⟩
      | ⟨rfl, rfl⟩ | ⟨rfl, rfl⟩ | ⟨rfl, rfl⟩ | ⟨rfl, rfl⟩ <;> rfl
  · simp only [readableSup, List.mem_cons, List.not_mem_nil, or_false, Prod.mk.injEq] at hn
    rcases hn with ⟨rfl, rfl⟩ | ⟨rfl, rfl⟩
    · rw [portRead, fault_supervisor hm (.inl rfl)]
      rfl
    · rw [portRead, fault_supervisor hm (.inr rfl)]
      rfl

/-- A readable port's address: a multiple of 8 in 16 bits. -/
theorem readable_addr {s : State} {h : Hart} {n : Nat} {v : Word} (hn : Readable s h n v) : n < 2 ^ 16 ∧ n % 8 = 0 := by
  have hmem : n ∈ [0x08, 0x10, 0x40, 0x48, 0x68, 0x70, 0x78, 0x90, 0x1008, 0x1010, 0x1018, 0x1000, 0x2010, 0x88, 0x8000] := by
    rcases hn with hn | ⟨-, hn⟩
    · have := List.mem_map_of_mem (f := Prod.fst) hn
      exact List.mem_append_left [0x88, 0x8000] this
    · have := List.mem_map_of_mem (f := Prod.fst) hn
      exact List.mem_append_right [0x08, 0x10, 0x40, 0x48, 0x68, 0x70, 0x78, 0x90, 0x1008, 0x1010, 0x1018, 0x1000, 0x2010] this
  revert hmem
  clear hn
  revert n
  decide

theorem port16 {n : Nat} (hn : n < 2 ^ 16) : (BitVec.ofNat 16 n).setWidth 64 = BitVec.ofNat 64 n := by
  apply BitVec.eq_of_toNat_eq
  simp only [BitVec.toNat_setWidth, BitVec.toNat_ofNat]
  omega

/-- The address of a port of the thread block in a compact instruction (R101). -/
theorem port7 {n : Nat} (hn : n ≤ 0x90) (h8 : n % 8 = 0) : BitVec.ofNat 64 (8 * (BitVec.ofNat 7 (n / 8)).toNat) = BitVec.ofNat 64 n := by
  rw [BitVec.toNat_ofNat]
  congr 1
  omega

theorem portReg {x : Word} {n : Nat} (hx : x.toNat = n) : x = BitVec.ofNat 64 n := by
  rw [← hx, BitVec.ofNat_toNat, BitVec.setWidth_eq]

/-- A read of a register completes with its value. -/
theorem inInstr_register {h : Hart} {p : Fin 8} {len n : Nat} {s : State} {v : Word} (hr : Runs h p len s) (hn : Readable s h n v)
    (d : Fin 32) : inInstr h p len d (BitVec.ofNat 64 n) s = .next (modTh (rotate h s) h fun t => putG d v (advPc len t)) :=
  inInstr_done hr (portRead_register hn) (portRead_register ((readable_rotate h s n v).2 hn)) d

/-! ### Writes of registers (R115) -/

/-- What a write of `v` to port `n` makes of the thread. -/
def written (n : Nat) (v : Word) (t : Thread) : Thread :=
  if n = 0x08 then { t with evEnable := v.setWidth 16 }
  else if n = 0x10 then { t with evPending := t.evPending &&& ~~~ v.setWidth 8 }
  else if n = 0x40 then (if 4 < v.toNat % 8 then t else { t with fpCtrl := v.setWidth 8 })
  else if n = 0x48 then { t with fpFlags := t.fpFlags &&& ~~~ v.setWidth 5 }
  else if n = 0x90 then { t with taskTrap := v }
  else if v.getLsbD 0 then t else { t with retPc := v.setWidth 17 }

/-- The ports of the thread block that take a write into a register. -/
def Writable (s : State) (h : Hart) (n : Nat) : Prop :=
  (n, true) ∈ [(0x08, true), (0x10, true), (0x40, true), (0x48, true), (0x90, true), (0x88, (thread s h).mode)]

theorem writable_addr {s : State} {h : Hart} {n : Nat} (hn : Writable s h n) : n ≤ 0x90 ∧ n % 8 = 0 := by
  simp only [Writable, List.mem_cons, List.not_mem_nil, or_false, Prod.mk.injEq] at hn
  omega

/-- A write to a register of the thread changes the register, or nothing. -/
theorem portWrite_register {s : State} {h : Hart} {n : Nat} (hn : Writable s h n) (v : Word) :
    ∃ u, portWrite h (BitVec.ofNat 64 n) v s = .done 0 u
      ∧ ∀ g : Thread → Thread, modTh u h g = modTh (modTh s h (written n v)) h g := by
  have hlow : fld v 0 3 = v.toNat % 8 := by simp [fld]
  simp only [Writable, List.mem_cons, List.not_mem_nil, or_false, Prod.mk.injEq, and_true] at hn
  rcases hn with rfl | rfl | rfl | rfl | rfl | ⟨rfl, hm⟩
  · exact ⟨_, rfl, fun g => rfl⟩
  · exact ⟨_, rfl, fun g => rfl⟩
  · by_cases hc : 4 < v.toNat % 8
    · refine ⟨s, if_pos (by rw [hlow]; exact hc), fun g => ?_⟩
      rw [modTh_modTh]
      exact modTh_congr _ _ _ _ (by simp [written, hc])
    · refine ⟨_, if_neg (by rw [hlow]; exact hc), fun g => ?_⟩
      rw [modTh_modTh, modTh_modTh]
      exact modTh_congr _ _ _ _ (by simp [written, hc])
  · exact ⟨_, rfl, fun g => rfl⟩
  · exact ⟨_, rfl, fun g => rfl⟩
  · have hd : portWrite h (BitVec.ofNat 64 0x88) v s
        = if bit v 0 then .done 0 s else .done 0 (modTh s h fun t => { t with retPc := v.setWidth 17 }) := by
      rw [portWrite, fault_supervisor hm.symm (.inl rfl)]
      rfl
    rw [hd]
    by_cases hb : v.getLsbD 0 = true
    · refine ⟨s, if_pos hb, fun g => ?_⟩
      rw [modTh_modTh]
      exact modTh_congr _ _ _ _ (congrArg g (if_pos hb).symm)
    · refine ⟨_, if_neg hb, fun g => ?_⟩
      rw [modTh_modTh, modTh_modTh]
      exact modTh_congr _ _ _ _ (congrArg g (if_neg hb).symm)

/-- A write to a register completes. -/
theorem outInstr_register {h : Hart} {p : Fin 8} {len n : Nat} {s : State} (hr : Runs h p len s) (hn : Writable s h n) (v : Word)
    {f : Thread → Thread} (hf : ∀ t, f t = written n v t) :
    outInstr h p len (BitVec.ofNat 64 n) v s = .next (modTh (modTh (rotate h s) h f) h (advPc len)) := by
  obtain ⟨u', hs, -⟩ := portWrite_register hn v
  have hrot : Writable (rotate h s) h n := by
    rw [Writable, rotate_thread]
    exact hn
  obtain ⟨u, hd, hu⟩ := portWrite_register hrot v
  rw [outInstr_done hr hs hd, hu, show f = written n v from funext hf]

/-- Settles O34: reads leave the state, writes change their register. -/
theorem portRegistersReadAndWrite : Obligations.PortRegistersReadAndWrite := by
  refine ⟨fun h p d a e s => ?_, fun h p d a e s => ?_⟩
  · dsimp only
    refine ⟨fun hr n v hn => ?_, fun hr n v hn h90 => ?_⟩
    · obtain ⟨hlt, -⟩ := readable_addr hn
      refine ⟨?_, fun ha => ?_⟩
      · refine Eq.trans ?_ (inInstr_register hr hn d)
        exact congrArg (fun x => inInstr h p 4 d x s) (port16 hlt)
      · refine Eq.trans ?_ (inInstr_register hr hn d)
        exact congrArg (fun x => inInstr h p 4 d x s) (portReg ha)
    · obtain ⟨-, h8⟩ := readable_addr hn
      refine Eq.trans ?_ (inInstr_register hr hn _)
      exact congrArg (fun x => inInstr h 0 2 _ x s) (port7 h90 h8)
  · dsimp only
    refine ⟨fun hr n f ⟨hn, hf⟩ => ?_, fun hr n f ⟨hn, hf⟩ => ?_, fun hr hm => ?_⟩
    · obtain ⟨hle, -⟩ := writable_addr hn
      have hp : (BitVec.ofNat 16 n).setWidth 64 = BitVec.ofNat 64 n := port16 (by omega)
      refine ⟨?_, ?_, fun ha => ?_⟩
      · refine Eq.trans ?_ (outInstr_register hr hn _ hf)
        exact congrArg (fun x => outInstr h p 4 x (gReg (thread s h) d) s) hp
      · refine Eq.trans ?_ (outInstr_register hr hn _ hf)
        exact congrArg (fun x => outInstr h p 4 x (gReg (thread s h) d) s) hp
      · refine Eq.trans ?_ (outInstr_register hr hn _ hf)
        exact congrArg (fun x => outInstr h p 4 x (gReg (thread s h) d) s) (portReg ha)
    · obtain ⟨hle, h8⟩ := writable_addr hn
      refine Eq.trans ?_ ((outInstr_register hr hn _ hf).trans (congrArg _ (modTh_modTh ..)))
      exact congrArg (fun x => outInstr h 0 2 x _ s) (port7 hle h8)
    · have hw : ∀ u : State, (thread u h).mode = true → portWrite h 0x8000#64 (gReg (thread s h) d) u = .done 0 (modCore u h.core fun c =>
          { c with trapBase := BitVec.ofNat 20 ((gReg (thread s h) d).toNat / 64 % 2 ^ 14 * 64) }) := fun u hu => by
        rw [portWrite, fault_supervisor hu (.inr rfl)]
        rfl
      unfold takes
      dsimp only
      rw [rotate_thread]
      exact outInstr_done hr (hw s hm) (hw (rotate h s) (by rw [rotate_thread]; exact hm))

end Sys2Proof.Machine

/-!
SUPPORT. The ports of events, timers, the budget and notices.
-/
namespace Sys2Proof.Machine
open Sys2Proof Sys2Proof.Safety

/-! ### Bytes of local memory -/

theorem mread_eq (m : Mem) (n a : Nat) : mread m a n = (List.range' a n).map (mget m) := by
  induction n generalizing a with
  | zero => rfl
  | succ n ih => rw [mread, ih, List.range'_succ, List.map_cons]

end Sys2Proof.Machine

/-! The number in local memory is written in the obligations' own name, which the model's namespace hides. -/
section
open Sys2Proof Sys2Proof.Machine

theorem bytes64_mread (c : Core) (a n : Nat) :
    bytes64 (mread c.mem a n) = BitVec.ofNat 64 (stored c a n) := by
  rw [mread_eq, bytes64, bytesNat_map_range']
  rfl

end

namespace Sys2Proof.Machine
open Sys2Proof Sys2Proof.Safety

/-! ### Events, timers and the budget (R75, R115, R131) -/

theorem wakeEvent_some {t : Thread} {e : Nat} (he : e < 8) (hd : (t.evPending.getLsbD e && t.evEnable.getLsbD e) = true)
    (hlo : ∀ k < e, (t.evPending.getLsbD k && t.evEnable.getLsbD k) = false) : wakeEvent t = some e := by
  exact List.find?_range_eq_some.2 ⟨hd, List.mem_range.2 he, fun j hj => congrArg not (hlo j hj)⟩

theorem wakeEvent_none {t : Thread} (hlo : ∀ k < 8, (t.evPending.getLsbD k && t.evEnable.getLsbD k) = false) : wakeEvent t = none := by
  exact List.find?_eq_none.2 fun e he => Bool.eq_false_iff.1 (hlo e (List.mem_range.1 he))

theorem eventBit {e : Nat} (he : e < 8) : BitVec.ofNat 8 (2 ^ e) = 1#8 <<< e := by
  interval_cases e <;> rfl

section
variable {h : Hart} {p : Fin 8} {s : State}

theorem evWait_event (hr : Runs h p 4 s) (d : Fin 32) {e : Nat} (he : wakeEvent (thread s h) = some e) (he8 : e < 8) :
    gives (.evWait h p d) h d (BitVec.ofNat 64 e) (fun s => modTh s h fun u => { u with evPending := u.evPending &&& ~~~ (1#8 <<< e) }) s := by
  have hread : ∀ u, wakeEvent (thread u h) = some e → portRead h 0x0000 u
      = .done (BitVec.ofNat 64 e) (modTh u h fun t => { t with evPending := t.evPending &&& ~~~ (1#8 <<< e) }) := fun u hu => by
    have hd : portRead h 0x0000 u = readEvWait h u := rfl
    rw [hd, readEvWait, hu, ← eventBit he8]
    rfl
  exact inInstr_done hr (hread s he) (hread (rotate h s) (by rw [rotate_thread]; exact he)) d

theorem evWait_waits (hr : Runs h p 4 s) (d : Fin 32) (he : wakeEvent (thread s h) = none) :
    waits (.evWait h p d) h (.portRead 0 d 4) s := by
  have hread : ∀ u, wakeEvent (thread u h) = none → portRead h 0x0000 u = .wait := fun u hu => by
    have hd : portRead h 0x0000 u = readEvWait h u := rfl
    rw [hd, readEvWait, hu]
  exact inInstr_waits hr (hread s he) (hread (rotate h s) (by rw [rotate_thread]; exact he)) d

theorem errCause_clears (hr : Runs h p 4 s) (d : Fin 32) : gives (.errCauseRead h p d) h d ((thread s h).errCause.setWidth 64)
    (fun s => modTh s h fun u => { u with errCause := u.errCause &&& 0x2FF }) s := by
  have hread : ∀ u, portRead h 0x0060 u = readErrCause h u := fun u => rfl
  have hd := inInstr_done hr (hread s) (hread (rotate h s)) d
  rw [rotate_thread] at hd
  exact hd

theorem timer_arms (hr : Runs h p 4 s) (d : Fin 32) : takes (.timerSet h p d) h (fun z => modTh z h fun u =>
    { u with timer := if gReg (thread s h) d = 0 then none else some (z.clock.now + (gReg (thread s h) d).toNat), expired := none }) s :=
  outInstr_done hr rfl rfl

theorem seed_set (hr : Runs h p 4 s) (d : Fin 32) : takes (.srSeed h p d) h (fun z => modTh z h fun u =>
    { u with sr := if gReg (thread s h) d = 0 then 0x9E3779B97F4A7C15 else gReg (thread s h) d }) s :=
  outInstr_done hr rfl rfl

theorem dayDone_noted (hr : Runs h p 4 s) (d : Fin 32) : takes (.dayDone h p d) h (fun s => modCore s h.core fun c =>
    { c with dayDone := true
             overrun := c.overrun || (decide (c.budget ≠ 0 ∧ c.budget.toNat ≤ s.clock.cycle) && !c.dayDone) }) s := by
  have hwrite : ∀ u v, portWrite h 0x1028 v u = .done 0 (modCore u h.core fun c =>
      { c with dayDone := true
               overrun := c.overrun || (decide (c.budget ≠ 0 ∧ c.budget.toNat ≤ u.clock.cycle) && !c.dayDone) }) := fun u v => by
    have hd : portWrite h 0x1028 v u = .done 0 (writeDayDone h.core u) := rfl
    rw [hd, writeDayDone]
    simp only [lateDay, Bool.decide_and]
  exact outInstr_done hr (hwrite s _) (hwrite (rotate h s) _)

end

/-! ### Notices (R291–R293) -/

section
variable {s : State} {h : Hart} {q : Nat} {n : Notice}

theorem readNoticeLo_some (hn : (nqOf (coreOf s h.core) q).items[(nqOf (coreOf s h.core) q).rd]? = some n) :
    readNoticeLo h q s = .done (noticeWord (coreOf s h.core) n false) (modCore s h.core fun c =>
      setNq c q { nqOf (coreOf s h.core) q with hi := some (n.hi, true), hiPos := (nqOf (coreOf s h.core) q).rd }) := by
  rw [readNoticeLo, readLo]
  dsimp only
  rw [hn]
  rfl

theorem readNoticeLo_none (hn : (nqOf (coreOf s h.core) q).items[(nqOf (coreOf s h.core) q).rd]? = none) :
    readNoticeLo h q s = .wait := by
  rw [readNoticeLo, readLo]
  rw [hn]

theorem readNoticeHi_moves {w : Word} (hh : (nqOf (coreOf s h.core) q).hi = some (w, true))
    (hn : (nqOf (coreOf s h.core) q).items[(nqOf (coreOf s h.core) q).hiPos]? = some n) :
    readNoticeHi h q s = .done (noticeWord (coreOf s h.core) n true) (modCore s h.core fun c =>
      setNq c q { nqOf (coreOf s h.core) q with hi := some (n.hi, false), rd := (nqOf (coreOf s h.core) q).hiPos + 1 }) := by
  rw [readNoticeHi, readHi]
  dsimp only
  rw [hh, hn]
  rfl

theorem readNoticeHi_again {w : Word} (hh : (nqOf (coreOf s h.core) q).hi = some (w, false))
    (hn : (nqOf (coreOf s h.core) q).items[(nqOf (coreOf s h.core) q).hiPos]? = some n) :
    readNoticeHi h q s = .done (noticeWord (coreOf s h.core) n true) (setCore s h.core (coreOf s h.core)) := by
  rw [readNoticeHi, readHi]
  rw [hh, hn]
  rfl

theorem readNoticeHi_none (hh : (nqOf (coreOf s h.core) q).hi = none) :
    readNoticeHi h q s = .done 0 (setCore s h.core (coreOf s h.core)) := by
  rw [readNoticeHi, readHi]
  rw [hh]

end

theorem rotate_notices (h : Hart) (s : State) (q : Nat) : nqOf (coreOf (rotate h s) h.core) q = nqOf (coreOf s h.core) q := by
  rw [rotate_core]
  rfl

theorem rotate_words (h : Hart) (s : State) (n : Notice) (high : Bool) :
    noticeWord (coreOf (rotate h s) h.core) n high = noticeWord (coreOf s h.core) n high := by
  rw [rotate_core]
  rfl

/-- Writing back what a core holds, below a change of a thread, changes nothing more. -/
theorem modTh_setCore_self (s : State) (h : Hart) (f : Thread → Thread) :
    modTh (setCore s h.core (coreOf s h.core)) h f = modTh s h f := by
  simp [modTh, modCore]

section
variable {h : Hart} {p : Fin 8} {s : State} {port : Word} {q : Nat}

/-- Reads of a `NOTICE_LO` port on queue `q`. -/
theorem noticeLo_reads (hr : Runs h p 4 s) (d : Fin 32)
    (hport : ∀ u, portFault u h port = portFault s h port → regionOf u h.core = regionOf s h.core → portRead h port u = readNoticeLo h q u)
    (n : Notice) :
    let Q := nqOf (coreOf s h.core) q
    (Q.items[Q.rd]? = some n → inInstr h p 4 d port s = .next (modTh (modCore (rotate h s) h.core fun c =>
        setNq c q { Q with hi := some (n.hi, true), hiPos := Q.rd }) h fun t => putG d (noticeWord (coreOf s h.core) n false) (advPc 4 t)))
    ∧ (Q.items[Q.rd]? = none → inInstr h p 4 d port s
        = .next (modTh (rotate h s) h fun t => { t with run := .waiting (.portRead (port.setWidth 16) d 4), met := none })) := by
  have hs := hport s rfl rfl
  have hd := hport (rotate h s) (portFault_rotate ..) rfl
  refine ⟨fun hn => ?_, fun hn => ?_⟩
  · have hn' := hn
    rw [← rotate_notices h s q] at hn'
    have hread := hd.trans (readNoticeLo_some hn')
    rw [rotate_notices, rotate_words] at hread
    exact inInstr_done hr (hs.trans (readNoticeLo_some hn)) hread d
  · have hn' := hn
    rw [← rotate_notices h s q] at hn'
    exact inInstr_waits hr (hs.trans (readNoticeLo_none hn)) (hd.trans (readNoticeLo_none hn')) d

/-- Reads of a `NOTICE_HI` port on queue `q`. -/
theorem noticeHi_reads (hr : Runs h p 4 s) (d : Fin 32)
    (hport : ∀ u, portFault u h port = portFault s h port → regionOf u h.core = regionOf s h.core → portRead h port u = readNoticeHi h q u)
    (n : Notice) :
    let Q := nqOf (coreOf s h.core) q
    (∀ w, Q.hi = some (w, true) → Q.items[Q.hiPos]? = some n → inInstr h p 4 d port s
      = .next (modTh (modCore (rotate h s) h.core fun c => setNq c q { Q with hi := some (n.hi, false), rd := Q.hiPos + 1 }) h
          fun t => putG d (noticeWord (coreOf s h.core) n true) (advPc 4 t)))
    ∧ (∀ w, Q.hi = some (w, false) → Q.items[Q.hiPos]? = some n → inInstr h p 4 d port s
        = .next (modTh (rotate h s) h fun t => putG d (noticeWord (coreOf s h.core) n true) (advPc 4 t)))
    ∧ (Q.hi = none → inInstr h p 4 d port s = .next (modTh (rotate h s) h fun t => putG d 0 (advPc 4 t))) := by
  have hs := hport s rfl rfl
  have hd := hport (rotate h s) (portFault_rotate ..) rfl
  refine ⟨fun w hh hn => ?_, fun w hh hn => ?_, fun hh => ?_⟩
  · have hh' := hh
    have hn' := hn
    rw [← rotate_notices h s q] at hh' hn'
    have hread := hd.trans (readNoticeHi_moves hh' hn')
    rw [rotate_notices, rotate_words] at hread
    exact inInstr_done hr (hs.trans (readNoticeHi_moves hh hn)) hread d
  · have hh' := hh
    have hn' := hn
    rw [← rotate_notices h s q] at hh' hn'
    have hread := hd.trans (readNoticeHi_again hh' hn')
    rw [rotate_words] at hread
    rw [inInstr_done hr (hs.trans (readNoticeHi_again hh hn)) hread d, modTh_setCore_self]
  · have hh' := hh
    rw [← rotate_notices h s q] at hh'
    rw [inInstr_done hr (hs.trans (readNoticeHi_none hh)) (hd.trans (readNoticeHi_none hh')) d, modTh_setCore_self]

end

/-! ### Marks and releases (R291) -/

/-- A write of a control value to the notices of a thread that is no region monitor. -/
theorem noticeCtrl_writes {h : Hart} {p : Fin 8} {s : State} (hr : Runs h p 4 s) (hm : isMonitor s h = false) {v : Word} {n : Nat}
    (hv : fld v 0 8 = n) : outInstr h p 4 0x0028 v s = .next (modTh (modCore (rotate h s) h.core fun c =>
      setNq c h.thread.val (ctrlQ n (nqOf (coreOf s h.core) h.thread.val))) h (advPc 4)) := by
  have hwrite : ∀ u, isMonitor u h = false → portWrite h 0x0028 v u = .done 0 (modCore u h.core fun c =>
      setNq c h.thread.val (ctrlQ n (nqOf (coreOf u h.core) h.thread.val))) := fun u hu => by
    have hd : portWrite h 0x0028 v u = .done 0 (noticeCtrl h (fld v 0 8) u) := rfl
    rw [hd, noticeCtrl, hu, hv]
    rfl
  have hd := hwrite (rotate h s) hm
  rw [rotate_notices] at hd
  exact outInstr_done hr (hwrite s hm) hd

/-- Settles O35: each port reads or writes its one object. -/
theorem eventAndNoticePorts : Obligations.EventAndNoticePorts := by
  refine ⟨fun h p d e s hr => ?_, fun h p d n s hr => ?_⟩
  · dsimp only
    exact ⟨fun he hlo => evWait_event hr d (wakeEvent_some e.isLt he hlo) e.isLt, fun hlo => evWait_waits hr d (wakeEvent_none hlo),
      errCause_clears hr d, timer_arms hr d, seed_set hr d, dayDone_noted hr d⟩
  · intro w0 w1
    have hlo : noticeWord (coreOf s h.core) n false = w0 := by
      unfold noticeWord w0
      cases n.place with
      | overflow k =>
        dsimp only
        rw [bytes64_mread]
        rfl
      | _ => rfl
    have hhi : noticeWord (coreOf s h.core) n true = w1 := by
      unfold noticeWord w1
      cases n.place with
      | overflow k =>
        dsimp only
        rw [bytes64_mread]
        rfl
      | _ => rfl
    clear_value w0 w1
    subst hlo hhi
    dsimp only
    have hmon : (thread s h).mode = true → isMonitor s h = true → ∀ x : Word, x = 0x8008 ∨ x = 0x8010 → portFault s h x = none := by
      intro hm hmon x hx
      rcases hx with rfl | rfl
      · rw [portFault_of (by decide) (portMode_monitor (by decide))]
        simp [hm, hmon, portName]
      · rw [portFault_of (by decide) (portMode_monitor (by decide))]
        simp [hm, hmon, portName]
    have hreg : isMonitor s h = true → ∃ r, regionOf s h.core = some r := fun hmon => by
      unfold isMonitor at hmon
      split at hmon
      · next r hr => exact ⟨r, hr⟩
      · cases hmon
    refine ⟨noticeLo_reads hr d (fun _ _ _ => rfl) n, noticeHi_reads hr d (fun _ _ _ => rfl) n, fun hm hi => ?_, fun hm => ?_⟩
    · obtain ⟨r, hreg⟩ := hreg hi
      refine ⟨noticeLo_reads hr d (fun u hf hu => ?_) n, noticeHi_reads hr d (fun u hf hu => ?_) n⟩
      · rw [portRead, hf, hmon hm hi _ (.inl rfl)]
        exact congrArg (fun x => match x with | some r => monRead r h 0x8008 u | none => .done 0 u) (hu.trans hreg)
      · rw [portRead, hf, hmon hm hi _ (.inr rfl)]
        exact congrArg (fun x => match x with | some r => monRead r h 0x8010 u | none => .done 0 u) (hu.trans hreg)
    · exact ⟨noticeCtrl_writes hr hm (v := 1) (n := 1) (by decide), noticeCtrl_writes hr hm (v := 2) (n := 2) (by decide),
        releaseQ (nqOf (coreOf s h.core) h.thread.val), noticeCtrl_writes hr hm (v := 3) (n := 3) (by decide), rfl, rfl, rfl⟩

end Sys2Proof.Machine

/-!
SUPPORT. Flags, counters and their banks.
-/
namespace Sys2Proof.Machine
open Sys2Proof Sys2Proof.Safety

/-! ### Names (R33) -/

theorem cHome_eq {e : BitVec 128} {b : DieId} (hb : b.val = cDie e) : cHome e = b :=
  Fin.ext ((Nat.mod_eq_of_lt (hb ▸ b.isLt)).trans hb.symm)

theorem flagIn_here {s : State} {h : Hart} {n : Nat} {b : DieId} {k : Nat} (hn : flagHere s h n b k) :
    flagIn (ownCell s h.core) n = some (b, k) := by
  obtain ⟨hlt, hb, hk⟩ := hn
  rw [flagIn, if_pos hlt, cHome_eq hb, hk]

theorem ctrIn_here {s : State} {h : Hart} {n : Nat} {b : DieId} {k : Nat} (hn : ctrHere s h n b k) :
    ctrIn (ownCell s h.core) n = some (b, k) := by
  obtain ⟨hlt, hb, hk⟩ := hn
  rw [ctrIn, if_pos hlt, cHome_eq hb, hk]

theorem portName_flag {n : Nat} (hlo : 0x4000 ≤ n) (hhi : n < 0x6000) : portName n = .flag (n / 8 % 512) := if_pos ⟨hlo, hhi⟩

theorem portName_ctr {n : Nat} (hlo : 0x6000 ≤ n) (hhi : n < 0x7000) : portName n = .ctr (n / 8 % 256) := by
  rw [portName, if_neg (by omega), if_pos ⟨hlo, hhi⟩]

section
variable {s : State} {h : Hart} {x : Word} {n : Nat}

/-- A port that names an object of the cell does not fault. -/
theorem portFault_named (hx : x.toNat = n) (h8 : n % 8 = 0) (hlo : 0x4000 ≤ n) (hhi : n < 0x7000) (hn : (nameAt s h n).isSome = true) :
    portFault s h x = none := by
  subst hx
  rw [portFault_of h8 (portMode_any (by omega)), if_neg (by simp), if_neg]
  rintro ⟨-, hnone⟩
  rw [Option.isNone_iff_eq_none.1 hnone] at hn
  cases hn

theorem portRead_name (hx : x.toNat = n) (h8 : n % 8 = 0) (hn : (nameAt s h n).isSome = true)
    (hr : (0x4000 ≤ n ∧ n < 0x5000) ∨ (0x6000 ≤ n ∧ n < 0x6800)) : portRead h x s = readName h n s := by
  rw [portRead, portFault_named hx h8 (by omega) (by omega) hn]
  dsimp only
  rw [hx, if_neg (by omega), if_neg (by omega), if_pos (by omega)]

theorem portRead_wait (hx : x.toNat = n) (h8 : n % 8 = 0) (hn : (nameAt s h n).isSome = true)
    (hr : (0x5000 ≤ n ∧ n < 0x6000) ∨ (0x6800 ≤ n ∧ n < 0x7000)) : portRead h x s = waitName h n s := by
  rw [portRead, portFault_named hx h8 (by omega) (by omega) hn]
  dsimp only
  rw [hx, if_neg (by omega), if_neg (by omega), if_neg (by omega), if_pos (by omega)]

theorem portWrite_name (hx : x.toNat = n) (h8 : n % 8 = 0) (hn : (nameAt s h n).isSome = true)
    (hr : (0x4000 ≤ n ∧ n < 0x5000) ∨ (0x6000 ≤ n ∧ n < 0x6800)) (v : Word) : portWrite h x v s = writeName h n v s := by
  rw [portWrite, portFault_named hx h8 (by omega) (by omega) hn]
  dsimp only
  rw [hx, if_neg (by omega), if_neg (by omega), if_pos (by omega)]

end

/-! ### Accesses of names (R116, R117, R305) -/

/-- A thread with no update on its way to a bank reads the bank as it stands. -/
theorem deliverOwn_settled {s : State} {h : Hart} {b : DieId} (hs : ∀ u ∈ s.flight, ¬ (u.src = .thread h ∧ u.die = b)) :
    deliverOwn h b s = s := by
  have hnone : s.flight.filter (fun u : FlagUpd => decide (u.src = .thread h ∧ u.die = b)) = [] :=
    List.filter_eq_nil_iff.2 fun u hu hd => hs u hu (of_decide_eq_true hd)
  have hall : s.flight.filter (fun u : FlagUpd => !decide (u.src = .thread h ∧ u.die = b)) = s.flight :=
    List.filter_eq_self.2 fun u hu => congrArg not (decide_eq_false (hs u hu))
  rw [deliverOwn]
  dsimp only
  rw [hnone, hall]
  rfl

/-- Ports by which a flag (`true`) or counter (`false`) is reached, and the name they give it. -/
structure Named (s : State) (h : Hart) (flag : Bool) (n : Nat) (b : DieId) (k : Nat) : Prop where
  name : ∃ i, portName n = if flag then .flag i else .ctr i
  at_ : nameAt s h n = some (b, k)

theorem Named.rotate {s : State} {h : Hart} {flag : Bool} {n : Nat} {b : DieId} {k : Nat} (hn : Named s h flag n b k) :
    Named (rotate h s) h flag n b k := ⟨hn.name, hn.at_⟩

theorem named_flag {s : State} {h : Hart} {m n : Nat} {b : DieId} {k : Nat} (hn : flagHere s h m b k) (hlo : 0x4000 ≤ n)
    (hhi : n < 0x6000) (hm : n / 8 % 512 = m) : Named s h true n b k := by
  have hp := portName_flag hlo hhi
  refine ⟨⟨_, hp⟩, ?_⟩
  rw [nameAt, hp, hm]
  exact flagIn_here hn

theorem named_ctr {s : State} {h : Hart} {m n : Nat} {b : DieId} {k : Nat} (hn : ctrHere s h m b k) (hlo : 0x6000 ≤ n)
    (hhi : n < 0x7000) (hm : n / 8 % 256 = m) : Named s h false n b k := by
  have hp := portName_ctr hlo hhi
  refine ⟨⟨_, hp⟩, ?_⟩
  rw [nameAt, hp, hm]
  exact ctrIn_here hn

section
variable {s : State} {h : Hart} {n : Nat} {b : DieId} {k : Nat}

theorem writeName_flag (hn : Named s h true n b k) (hc : clearing s b k = false) (hi : (coreOf s h.core).isolated = false) (v : Word) :
    writeName h n v s = .done 0 (sendUpd ⟨.thread h, b, if bit v 0 then .set k else .clear k⟩ s) := by
  obtain ⟨⟨i, hp⟩, ha⟩ := hn
  rw [writeName, ha]
  simp [hp, hc, hi]

theorem writeName_ctr (hn : Named s h false n b k) (hi : (coreOf s h.core).isolated = false) (v : Word) :
    writeName h n v s = .done 0 (sendUpd ⟨.thread h, b, .add k (v.setWidth 32)⟩ s) := by
  obtain ⟨⟨i, hp⟩, ha⟩ := hn
  rw [writeName, ha]
  simp [hp, hi]

theorem readName_flag (hn : Named s h true n b k) (hc : clearing s b k = false) (hi : (coreOf s h.core).isolated = false)
    (hs : ∀ u ∈ s.flight, ¬ (u.src = .thread h ∧ u.die = b)) : readName h n s = .done (if flagAt s b k then 1 else 0) s := by
  obtain ⟨⟨i, hp⟩, ha⟩ := hn
  rw [readName, ha]
  simp only [hp, hc, hi, deliverOwn_settled hs, if_true, Bool.false_eq_true, if_false]
  cases flagAt s b k <;> rfl

theorem readName_ctr (hn : Named s h false n b k) (hi : (coreOf s h.core).isolated = false)
    (hs : ∀ u ∈ s.flight, ¬ (u.src = .thread h ∧ u.die = b)) : readName h n s = .done ((ctrAt s b k).setWidth 64) s := by
  obtain ⟨⟨i, hp⟩, ha⟩ := hn
  rw [readName, ha]
  simp only [hp, hi, deliverOwn_settled hs, Bool.false_eq_true, if_false]

theorem waitName_isolated (flag : Bool) (hn : Named s h flag n b k) (hi : (coreOf s h.core).isolated = true) :
    waitName h n s = .wait := by
  rw [waitName, hn.at_]
  exact if_pos hi

theorem waitName_flag (hn : Named s h true n b k) (hc : clearing s b k = false) (hi : (coreOf s h.core).isolated = false) :
    waitName h n s = if flagAt s b k then .done 1 s else .wait := by
  obtain ⟨⟨i, hp⟩, ha⟩ := hn
  rw [waitName, ha]
  simp only [hp, hc, hi, waitValue, if_true, Bool.false_eq_true, if_false, Bool.not_false, Bool.true_and]
  cases flagAt s b k <;> rfl

theorem waitName_ctr (hn : Named s h false n b k) (hi : (coreOf s h.core).isolated = false) :
    waitName h n s = if (ctrAt s b k - (thread s h).ctrTarget.setWidth 32).msb then .wait
      else .done ((ctrAt s b k).setWidth 64) s := by
  obtain ⟨⟨i, hp⟩, ha⟩ := hn
  have hb : reached (ctrAt s b k) (ctrCmp (thread s h)) = !(ctrAt s b k - (thread s h).ctrTarget.setWidth 32).msb := by
    rw [reached, bit, BitVec.msb_eq_getLsbD_last]
    rfl
  rw [waitName, ha]
  simp only [hp, hi, waitValue, Bool.false_eq_true, if_false, hb]
  cases (ctrAt s b k - (thread s h).ctrTarget.setWidth 32).msb <;> rfl

theorem waitName_flag_unmet (hn : Named s h true n b k) (hc : clearing s b k = false)
    (hw : (coreOf s h.core).isolated = true ∨ flagAt s b k = false) : waitName h n s = .wait := by
  cases hi : (coreOf s h.core).isolated with
  | true => exact waitName_isolated true hn hi
  | false =>
    have hf : flagAt s b k = false := hw.resolve_left (by rw [hi]; decide)
    rw [waitName_flag hn hc hi, hf]
    rfl

theorem waitName_ctr_unmet (hn : Named s h false n b k)
    (hw : (coreOf s h.core).isolated = true ∨ (ctrAt s b k - (thread s h).ctrTarget.setWidth 32).msb = true) :
    waitName h n s = .wait := by
  cases hi : (coreOf s h.core).isolated with
  | true => exact waitName_isolated false hn hi
  | false => exact (waitName_ctr hn hi).trans (if_pos (hw.resolve_left (by rw [hi]; decide)))

end

/-! ### Accesses as instructions -/

theorem named_some {s : State} {h : Hart} {flag : Bool} {n : Nat} {b : DieId} {k : Nat} (hn : Named s h flag n b k) :
    (nameAt s h n).isSome = true := by rw [hn.at_]; rfl

theorem rotate_isolated (h : Hart) (s : State) : (coreOf (rotate h s) h.core).isolated = (coreOf s h.core).isolated := by
  rw [rotate_core]
  rfl

theorem port64 {n : Nat} (hn : n < 0x7000) : (BitVec.ofNat 64 n).toNat = n := by
  rw [BitVec.toNat_ofNat, Nat.mod_eq_of_lt (by omega)]

section
variable {s : State} {h : Hart} {p : Fin 8} {n : Nat} {b : DieId} {k : Nat} (hr : Runs h p 4 s)
include hr

theorem out_flag (hn : Named s h true n b k) (h8 : n % 8 = 0) (hlo : 0x4000 ≤ n) (hhi : n < 0x5000) (hc : clearing s b k = false)
    (hi : (coreOf s h.core).isolated = false) (v : Word) : outInstr h p 4 (BitVec.ofNat 64 n) v s
      = .next (modTh { rotate h s with flight := (rotate h s).flight ++ [⟨.thread h, b, if bit v 0 then .set k else .clear k⟩] } h (advPc 4)) := by
  have hx := port64 (n := n) (by omega)
  have hs := (portWrite_name hx h8 (named_some hn) (.inl ⟨hlo, hhi⟩) v).trans (writeName_flag hn hc hi v)
  have hd := (portWrite_name hx h8 (named_some hn.rotate) (.inl ⟨hlo, hhi⟩) v).trans
    (writeName_flag hn.rotate hc ((rotate_isolated h s).trans hi) v)
  exact outInstr_done hr hs hd

theorem out_ctr (hn : Named s h false n b k) (h8 : n % 8 = 0) (hlo : 0x6000 ≤ n) (hhi : n < 0x6800)
    (hi : (coreOf s h.core).isolated = false) (v : Word) : outInstr h p 4 (BitVec.ofNat 64 n) v s
      = .next (modTh { rotate h s with flight := (rotate h s).flight ++ [⟨.thread h, b, .add k (v.setWidth 32)⟩] } h (advPc 4)) := by
  have hx := port64 (n := n) (by omega)
  have hs := (portWrite_name hx h8 (named_some hn) (.inr ⟨hlo, hhi⟩) v).trans (writeName_ctr hn hi v)
  have hd := (portWrite_name hx h8 (named_some hn.rotate) (.inr ⟨hlo, hhi⟩) v).trans
    (writeName_ctr hn.rotate ((rotate_isolated h s).trans hi) v)
  exact outInstr_done hr hs hd

theorem in_flag (hn : Named s h true n b k) (h8 : n % 8 = 0) (hlo : 0x4000 ≤ n) (hhi : n < 0x5000) (hc : clearing s b k = false)
    (hi : (coreOf s h.core).isolated = false) (hs : ∀ u ∈ s.flight, ¬ (u.src = .thread h ∧ u.die = b)) (d : Fin 32) :
    inInstr h p 4 d (BitVec.ofNat 64 n) s
      = .next (modTh (rotate h s) h fun t => putG d (if flagAt s b k then 1 else 0) (advPc 4 t)) := by
  have hx := port64 (n := n) (by omega)
  have hread := (portRead_name hx h8 (named_some hn) (.inl ⟨hlo, hhi⟩)).trans (readName_flag hn hc hi hs)
  have hd := (portRead_name hx h8 (named_some hn.rotate) (.inl ⟨hlo, hhi⟩)).trans
    (readName_flag hn.rotate hc ((rotate_isolated h s).trans hi) hs)
  exact inInstr_done hr hread hd d

theorem in_ctr (hn : Named s h false n b k) (h8 : n % 8 = 0) (hlo : 0x6000 ≤ n) (hhi : n < 0x6800)
    (hi : (coreOf s h.core).isolated = false) (hs : ∀ u ∈ s.flight, ¬ (u.src = .thread h ∧ u.die = b)) (d : Fin 32) :
    inInstr h p 4 d (BitVec.ofNat 64 n) s
      = .next (modTh (rotate h s) h fun t => putG d ((ctrAt s b k).setWidth 64) (advPc 4 t)) := by
  have hx := port64 (n := n) (by omega)
  have hread := (portRead_name hx h8 (named_some hn) (.inr ⟨hlo, hhi⟩)).trans (readName_ctr hn hi hs)
  have hd := (portRead_name hx h8 (named_some hn.rotate) (.inr ⟨hlo, hhi⟩)).trans
    (readName_ctr hn.rotate ((rotate_isolated h s).trans hi) hs)
  exact inInstr_done hr hread hd d

/-- A wait port whose condition holds, and one whose condition does not. -/
theorem in_met {flag : Bool} (hn : Named s h flag n b k) (h8 : n % 8 = 0) (hp : (0x5000 ≤ n ∧ n < 0x6000) ∨ (0x6800 ≤ n ∧ n < 0x7000))
    {v : Word} (hs : waitName h n s = .done v s) (hd : waitName h n (rotate h s) = .done v (rotate h s)) (d : Fin 32) :
    inInstr h p 4 d (BitVec.ofNat 64 n) s = .next (modTh (rotate h s) h fun t => putG d v (advPc 4 t)) := by
  have hx := port64 (n := n) (by omega)
  exact inInstr_done hr ((portRead_wait hx h8 (named_some hn) hp).trans hs) ((portRead_wait hx h8 (named_some hn.rotate) hp).trans hd) d

theorem in_unmet {flag : Bool} (hn : Named s h flag n b k) (h8 : n % 8 = 0) (hp : (0x5000 ≤ n ∧ n < 0x6000) ∨ (0x6800 ≤ n ∧ n < 0x7000))
    (hs : waitName h n s = .wait) (hd : waitName h n (rotate h s) = .wait) (d : Fin 32) :
    inInstr h p 4 d (BitVec.ofNat 64 n) s
      = .next (modTh (rotate h s) h fun t => { t with run := .waiting (.portRead (BitVec.ofNat 16 n) d 4), met := none }) := by
  have hx := port64 (n := n) (by omega)
  rw [inInstr_waits hr ((portRead_wait hx h8 (named_some hn) hp).trans hs) ((portRead_wait hx h8 (named_some hn.rotate) hp).trans hd) d]
  have h16 : (BitVec.ofNat 64 n).setWidth 16 = BitVec.ofNat 16 n := by
    apply BitVec.eq_of_toNat_eq
    simp only [BitVec.toNat_setWidth, BitVec.toNat_ofNat]
    omega
  rw [h16]

/-! ### `CTR_TARGET` (R115, R130) -/

omit hr in
theorem targetKept (v : Word) : BitVec.ofNat 64 (fld v 0 42 + at_ (fld v 63 1) 63) = v &&& 0x800003FFFFFFFFFF := by
  have hv := v.isLt
  apply BitVec.eq_of_toNat_eq
  have hsum : v.toNat % 2 ^ 42 + v.toNat / 2 ^ 63 % 2 * 2 ^ 63 < 2 ^ 64 := by omega
  have hmask : v &&& 0x800003FFFFFFFFFF = (v.extractLsb' 63 1 ++ (0#21 ++ v.extractLsb' 0 42) : BitVec 64) := by
    apply BitVec.eq_of_getLsbD_eq
    intro i hi
    simp only [BitVec.getLsbD_and, BitVec.getLsbD_append, BitVec.getLsbD_extractLsb', BitVec.getLsbD_zero]
    interval_cases i <;> simp
  have hlow : (0#21 ++ v.extractLsb' 0 42).toNat = v.toNat % 2 ^ 42 := by
    rw [BitVec.toNat_append]
    simp [BitVec.extractLsb'_toNat]
  have hlt : v.toNat % 2 ^ 42 < 2 ^ 63 := by omega
  rw [hmask, BitVec.toNat_append, hlow, BitVec.extractLsb'_toNat, ← Nat.shiftLeft_add_eq_or_of_lt hlt, Nat.shiftLeft_eq,
    Nat.shiftRight_eq_div_pow, BitVec.toNat_ofNat, fld, fld, at_, pow_one, Nat.pow_zero, Nat.div_one, Nat.mod_eq_of_lt hsum,
    Nat.add_comm]

theorem target_keeps (d : Fin 32) (hb : (gReg (thread s h) d).getLsbD 63 = false) :
    outInstr h p 4 0x0078 (gReg (thread s h) d) s = .next (modTh (modTh (rotate h s) h fun t =>
      { t with ctrTarget := gReg (thread s h) d &&& 0x800003FFFFFFFFFF }) h (advPc 4)) := by
  have hwrite : ∀ u : State, portWrite h 0x0078 (gReg (thread s h) d) u = .done 0 (modTh u h fun t =>
      { t with ctrTarget := gReg (thread s h) d &&& 0x800003FFFFFFFFFF }) := fun u => by
    have hd : portWrite h 0x0078 (gReg (thread s h) d) u = writeCtrTarget h (gReg (thread s h) d) u := rfl
    rw [hd, writeCtrTarget, targetKept]
    exact if_neg (by rw [bit, hb]; decide)
  exact outInstr_done hr (hwrite s) (hwrite (rotate h s))

/-- An arming write leaves for the bank of its name (R130). -/
theorem target_arms (d : Fin 32) (hb : (gReg (thread s h) d).getLsbD 63 = true) (hi : (coreOf s h.core).isolated = false)
    (hn : (if bit (gReg (thread s h) d) 41 then flagIn (ownCell s h.core) (fld (gReg (thread s h) d) 32 9)
      else ctrIn (ownCell s h.core) (fld (gReg (thread s h) d) 32 9)) = some (b, k)) :
    outInstr h p 4 0x0078 (gReg (thread s h) d) s = .next (modTh (modTh { rotate h s with
      flight := (rotate h s).flight ++ [⟨.thread h, b, .arm h⟩] } h fun t =>
      { t with ctrTarget := gReg (thread s h) d &&& 0x800003FFFFFFFFFF }) h (advPc 4)) := by
  have hwrite : ∀ u : State, (coreOf u h.core).isolated = false → ownCell u h.core = ownCell s h.core →
      portWrite h 0x0078 (gReg (thread s h) d) u = .done 0 (modTh { u with flight := u.flight ++ [⟨.thread h, b, .arm h⟩] } h fun t =>
        { t with ctrTarget := gReg (thread s h) d &&& 0x800003FFFFFFFFFF }) := fun u hu hc => by
    have hd : portWrite h 0x0078 (gReg (thread s h) d) u = writeCtrTarget h (gReg (thread s h) d) u := rfl
    rw [hd, writeCtrTarget, targetKept, if_pos (show bit (gReg (thread s h) d) 63 = true from hb), hc, hn]
    dsimp only
    rw [hu]
    rfl
  exact outInstr_done hr (hwrite s hi rfl) (hwrite (rotate h s) ((rotate_isolated h s).trans hi) rfl)

end

/-! ### The updates of one cycle (R305, R306) -/

/-- What update `u` adds to counter `n`. -/
def addOf (n : Nat) (u : FlagUpd) : BitVec 32 :=
  match u.kind with
  | .add m v => if m = n then v else 0
  | _ => 0

theorem flagMask {m n : Nat} (hn : n < 512) : (BitVec.ofNat 512 (2 ^ m)).getLsbD n = decide (m = n) := by
  rw [BitVec.getLsbD_ofNat, Nat.testBit_two_pow]
  simp [hn]

theorem putFlag_flags (b : FlagBank) (m : Nat) (v : Bool) {n : Nat} (hn : n < 512) :
    (putFlag b m v).flags.getLsbD n = if m = n then v else b.flags.getLsbD n := by
  unfold putFlag
  cases v
  · simp only [Bool.false_eq_true, if_false, BitVec.getLsbD_and, BitVec.getLsbD_not, flagMask hn, hn]
    by_cases hm : m = n <;> simp [hm]
  · simp only [if_true, BitVec.getLsbD_or, flagMask hn]
    by_cases hm : m = n <;> simp [hm]

theorem bankClear_flags (us : List FlagUpd) (b : FlagBank) {n : Nat} (hn : n < 512) :
    (us.foldl bankClear b).flags.getLsbD n = if us.any (fun u => decide (u.kind = .clear n)) then false else b.flags.getLsbD n := by
  induction us generalizing b with
  | nil => rfl
  | cons u us ih =>
    rw [List.foldl_cons, ih, List.any_cons]
    have hu : (bankClear b u).flags.getLsbD n = if u.kind = .clear n then false else b.flags.getLsbD n := by
      unfold bankClear
      split
      · next m hk => simp [hk, putFlag_flags b m false hn]
      · next hk => rw [if_neg (hk n)]
    rw [hu]
    by_cases hk : u.kind = .clear n <;> simp [hk]

theorem bankSet_flags (us : List FlagUpd) (b : FlagBank) {n : Nat} (hn : n < 512) :
    (us.foldl bankSet b).flags.getLsbD n = if us.any (fun u => decide (u.kind = .set n)) then true else b.flags.getLsbD n := by
  induction us generalizing b with
  | nil => rfl
  | cons u us ih =>
    rw [List.foldl_cons, ih, List.any_cons]
    have hu : (bankSet b u).flags.getLsbD n = if u.kind = .set n then true else b.flags.getLsbD n := by
      unfold bankSet
      split
      · next m hk => simp [hk, putFlag_flags b m true hn]
      · next m v hk => simp [hk, addCtr]
      · next hk _ => rw [if_neg (hk n)]
    rw [hu]
    by_cases hk : u.kind = .set n <;> simp [hk]

theorem bankClear_ctrs (us : List FlagUpd) (b : FlagBank) : (us.foldl bankClear b).ctrs = b.ctrs :=
  List.foldlRecOn (motive := fun x : FlagBank => x.ctrs = b.ctrs) us bankClear rfl fun x hx u _ => by
    rw [← hx, bankClear]
    split <;> rfl

theorem bankSet_ctrs (us : List FlagUpd) (b : FlagBank) (n : Nat) :
    tget 0 (us.foldl bankSet b).ctrs n = tget 0 b.ctrs n + (us.map (addOf n)).foldl (· + ·) 0 := by
  have hstart : ∀ (l : List (BitVec 32)) (x : BitVec 32), l.foldl (· + ·) x = x + l.foldl (· + ·) 0 := fun l => by
    induction l with
    | nil => simp
    | cons a l ih =>
      intro x
      rw [List.foldl_cons, List.foldl_cons, ih, ih (0 + a)]
      simp [BitVec.add_assoc]
  induction us generalizing b with
  | nil => simp
  | cons u us ih =>
    rw [List.foldl_cons, ih, List.map_cons, List.foldl_cons, hstart _ (0 + _), ← BitVec.add_assoc]
    congr 1
    unfold bankSet addOf
    split
    · next m hk => simp [hk, putFlag]
    · next m v hk =>
      by_cases hm : m = n
      · simp [hk, addCtr, hm]
      · simp [hk, addCtr, hm, tget_tset_other]
    · next hs ha =>
      split
      · next m v hk => exact absurd hk (ha m v)
      · simp

/-! The rest of a bank's cycle tests waits and watches, and leaves the banks and the updates. -/

def bankSide (s : State) : Tab FlagBank × List FlagUpd := (s.banks, s.flight)

theorem latchWait_side (d : DieId) (s : State) (h : Hart) : bankSide (latchWait d s h) = bankSide s := by
  unfold latchWait
  split
  · rfl
  · split
    · split
      · split
        · split <;> rfl
        · rfl
      · rfl
    · rfl

theorem ite_side {c : Prop} [Decidable c] {a b s : State} (ha : bankSide a = bankSide s) (hb : bankSide b = bankSide s) :
    bankSide (if c then a else b) = bankSide s := by
  split
  · exact ha
  · exact hb

theorem testWatch_side (d : DieId) (us : List FlagUpd) (s : State) (h : Hart) : bankSide (testWatch d us s h) = bankSide s := by
  unfold testWatch
  dsimp only
  cases watchAt s h with
  | none => rfl
  | some e => exact ite_side (ite_side rfl rfl) rfl

theorem bankCycle_side (d : DieId) (us : List FlagUpd) (s : State) :
    bankSide (bankCycle d us s) = bankSide (setBank s d (bankApply (bankOf s d) us)) := by
  unfold bankCycle
  refine List.foldlRecOn (motive := fun x : State => bankSide x = _) _ _ ?_ fun x hx h _ => (testWatch_side d us x h).trans hx
  exact List.foldlRecOn (motive := fun x : State => bankSide x = _) _ _ rfl fun x hx h _ => (latchWait_side d x h).trans hx

theorem bankCycle_bank (d : DieId) (us : List FlagUpd) (s : State) :
    bankOf (bankCycle d us s) d = bankApply (bankOf s d) us ∧ (∀ e : DieId, e ≠ d → bankOf (bankCycle d us s) e = bankOf s e)
      ∧ (bankCycle d us s).flight = s.flight := by
  have hb : (bankCycle d us s).banks = _ := congrArg Prod.fst (bankCycle_side d us s)
  refine ⟨?_, fun e he => ?_, congrArg Prod.snd (bankCycle_side d us s)⟩
  · rw [bankOf, hb]
    exact tget_tset_same ..
  · rw [bankOf, hb]
    exact tget_tset_other _ _ _ _ _ fun hv => he (Fin.ext hv.symm)

/-! ### The updates that arrive -/

/-- What the bank of a die finds in one cycle. -/
def arrived (s : State) (b : DieId) (picks : List Nat) : List FlagUpd := (arriving s.flight b picks).filterMap fun i => s.flight[i]?

theorem filter_notMem (l : List Nat) (p : Nat → Bool) :
    l.filter (fun i => !(l.filter p).contains i) = l.filter fun i => !p i :=
  List.filter_congr fun i hi => by simp [hi]

/-- Each update either arrives or stays on its way. -/
theorem arrived_length (s : State) (b : DieId) (picks : List Nat) :
    (((List.range s.flight.length).filter fun i => !(arriving s.flight b picks).contains i).filterMap fun i => s.flight[i]?).length
      + (arrived s b picks).length = s.flight.length := by
  have hall : ∀ p : Nat → Bool, (((List.range s.flight.length).filter p).filterMap fun i => s.flight[i]?).length
      = ((List.range s.flight.length).filter p).length := fun p => by
    rw [List.filterMap_length_eq_length]
    intro i hi
    have hlt := List.mem_range.1 (List.mem_of_mem_filter hi)
    simp [hlt]
  rw [arrived, arriving, hall, hall, filter_notMem, Nat.add_comm, ← List.length_eq_length_filter_add, List.length_range]

/-- The state in which one cycle's updates have reached their bank. -/
theorem flagBankUpdate_bank (b : DieId) (picks : List Nat) (s : State) : ∃ t, exec (.flagBankUpdate b picks) s = .next t
    ∧ bankOf t b = bankApply (bankOf s b) (arrived s b picks) ∧ (∀ e : DieId, e ≠ b → bankOf t e = bankOf s e)
    ∧ t.flight.length + (arrived s b picks).length = s.flight.length := by
  refine ⟨_, rfl, ?_⟩
  by_cases hu : arrived s b picks = []
  · have hs : (if arrived s b picks = [] then s else bankCycle b (arrived s b picks) { s with
        flight := ((List.range s.flight.length).filter fun i => !(arriving s.flight b picks).contains i).filterMap fun i => s.flight[i]? })
        = s := if_pos hu
    refine ⟨?_, fun e _ => ?_, ?_⟩
    · rw [hu]
      exact congrArg (bankOf · b) hs
    · exact congrArg (bankOf · e) hs
    · rw [hu]
      exact congrArg (fun t : State => t.flight.length) hs
  · obtain ⟨h1, h2, h3⟩ := bankCycle_bank b (arrived s b picks) { s with
        flight := ((List.range s.flight.length).filter fun i => !(arriving s.flight b picks).contains i).filterMap fun i => s.flight[i]? }
    have hs : (if arrived s b picks = [] then s else bankCycle b (arrived s b picks) { s with
        flight := ((List.range s.flight.length).filter fun i => !(arriving s.flight b picks).contains i).filterMap fun i => s.flight[i]? })
        = _ := if_neg hu
    refine ⟨(congrArg (bankOf · b) hs).trans h1, fun e he => (congrArg (bankOf · e) hs).trans (h2 e he), ?_⟩
    have hlen := congrArg (fun t : State => t.flight.length) hs
    rw [h3] at hlen
    exact (congrArg (· + (arrived s b picks).length) hlen).trans (arrived_length s b picks)

/-- Settles O36: names are looked up in the cell's windows; the bank folds the updates that arrive. -/
theorem flagsAndCountersAct : Obligations.FlagsAndCountersAct := by
  refine ⟨fun h p d n m b k s hr => ?_, fun b picks s => ?_⟩
  · dsimp only
    refine ⟨fun hn hc => ⟨fun hi => ⟨?_, ?_⟩, fun hi hs => ?_, fun hi hf => ?_, fun hw => ?_⟩,
      fun hn => ⟨fun hi => ?_, fun hi hs => ?_, fun hi hf => ?_, fun hw => ?_⟩, fun hb => ?_, fun hb hi hn => ?_⟩
    · exact out_flag hr (named_flag hn (by omega) (by omega) (by omega)) (by omega) (by omega) (by omega) hc hi 1
    · exact out_flag hr (named_flag hn (by omega) (by omega) (by omega)) (by omega) (by omega) (by omega) hc hi 0
    · have hm := named_flag (n := 0x4000 + 8 * n.val) hn (by omega) (by omega) (by omega)
      exact in_flag hr hm (by omega) (by omega) (by omega) hc hi hs d
    · have hm := named_flag (n := 0x5000 + 8 * n.val) hn (by omega) (by omega) (by omega)
      exact in_met hr hm (by omega) (by omega) ((waitName_flag hm hc hi).trans (if_pos hf))
        ((waitName_flag hm.rotate hc ((rotate_isolated h s).trans hi)).trans (if_pos hf)) d
    · have hm := named_flag (n := 0x5000 + 8 * n.val) hn (by omega) (by omega) (by omega)
      exact in_unmet hr hm (by omega) (by omega) (waitName_flag_unmet hm hc hw)
        (waitName_flag_unmet hm.rotate hc (by rw [rotate_isolated]; exact hw)) d
    · exact out_ctr hr (named_ctr hn (by omega) (by omega) (by omega)) (by omega) (by omega) (by omega) hi _
    · have hm512 : (Fin.ofNat 512 m.val).val = m.val := Nat.mod_eq_of_lt (by omega)
      have hm := named_ctr (n := 0x6000 + 8 * m.val) hn (by omega) (by omega) (by omega)
      rw [← hm512] at hm
      exact in_ctr hr hm (by omega) (by omega) (by omega) hi hs d
    · have hm := named_ctr (n := 0x6800 + 8 * m.val) hn (by omega) (by omega) (by omega)
      have hd := (waitName_ctr hm.rotate ((rotate_isolated h s).trans hi))
      rw [rotate_thread] at hd
      exact in_met hr hm (by omega) (by omega) ((waitName_ctr hm hi).trans (if_neg (by rw [hf]; decide)))
        (hd.trans (if_neg (by rw [show ctrAt (rotate h s) b k = ctrAt s b k from rfl, hf]; decide))) d
    · have hm := named_ctr (n := 0x6800 + 8 * m.val) hn (by omega) (by omega) (by omega)
      exact in_unmet hr hm (by omega) (by omega) (waitName_ctr_unmet hm hw)
        (waitName_ctr_unmet hm.rotate (by rw [rotate_isolated, rotate_thread]; exact hw)) d
    · exact target_keeps hr d hb
    · refine target_arms hr (k := k) d hb hi ?_
      rcases hn with ⟨h41, hn⟩ | ⟨h41, hn⟩
      · rw [bit, h41]
        exact flagIn_here hn
      · rw [bit, h41]
        exact ctrIn_here hn
  · obtain ⟨t, ht, hbank, hother, hlen⟩ := flagBankUpdate_bank b picks s
    have harr : (((List.range s.flight.length).filter fun i => picks.contains i && firstOfSource s.flight i
        && (s.flight[i]?).any fun u => decide (u.die = b)).filterMap fun i => s.flight[i]?) = arrived s b picks := by
      unfold arrived arriving
      congr 1
      refine List.filter_congr fun i _ => ?_
      cases s.flight[i]? <;> rfl
    dsimp only
    rw [harr]
    refine ⟨t, ht, fun n hn => ?_, fun n => ?_, hother, hlen⟩
    · rw [flagAt, hbank]
      exact (bankSet_flags _ _ hn).trans (by rw [bankClear_flags _ _ hn]; rfl)
    · rw [ctrAt, hbank, bankApply, bankSet_ctrs, bankClear_ctrs]
      rfl

end Sys2Proof.Machine

/-!
SUPPORT. The fields of the instruction formats.
-/
namespace Sys2Proof.Machine
open Sys2Proof Sys2Proof.Safety

/-! ### Words from fields (R99, R101) -/

theorem bit_zero_iff {w : BitVec 32} : bit w 0 = true ↔ w.toNat % 2 = 1 := by
  rw [bit, ← BitVec.testBit_toNat, Nat.testBit_zero, decide_eq_true_iff]

theorem bit_iff {w : BitVec 32} (i : Nat) : bit w i = true ↔ w.toNat / 2 ^ i % 2 = 1 := by
  rw [bit, ← BitVec.testBit_toNat, Nat.testBit_eq_decide_div_mod_eq, decide_eq_true_iff]

theorem bit_false_iff {w : BitVec 32} (i : Nat) : bit w i = false ↔ w.toNat / 2 ^ i % 2 = 0 := by
  rw [← Bool.not_eq_true, bit_iff]
  omega

/-- What every 32-bit word begins with: a 1, its predicate and its opcode (R96, R98). -/
structure Head (w : BitVec 32) (op : Nat) (p : Fin 8) : Prop where
  one : bit w 0 = true
  op : fld w 4 6 = op
  p : Fin.ofNat 8 (fld w 1 3) = p

theorem head_iff {w : BitVec 32} {op : Nat} {p : Fin 8} (hop : op < 64) :
    Head w op p ↔ w.toNat % 2 ^ 10 = 1 + 2 * p.val + 16 * op := by
  constructor
  · rintro ⟨h0, rfl, rfl⟩
    rw [bit_zero_iff] at h0
    simp only [fld, Fin.ofNat]
    omega
  · intro h
    refine ⟨bit_zero_iff.2 (by omega), by rw [fld]; omega, Fin.ext ?_⟩
    simp only [fld, Fin.ofNat]
    omega

/-- The R format. -/
theorem fR_iff {w : BitVec 32} {op fn b a d : Nat} {p : Fin 8} (hop : op < 64) :
    w.toNat = fR op fn b a d p ∧ fn < 128 ∧ b < 32 ∧ a < 32 ∧ d < 32
      ↔ Head w op p ∧ fld w 25 7 = fn ∧ fld w 20 5 = b ∧ fld w 15 5 = a ∧ fld w 10 5 = d := by
  have hw := w.isLt
  rw [head_iff hop]
  unfold fld fR
  omega

theorem fI_iff {w : BitVec 32} {op imm a d : Nat} {p : Fin 8} (hop : op < 64) :
    w.toNat = fI op imm a d p ∧ imm < 4096 ∧ a < 32 ∧ d < 32
      ↔ Head w op p ∧ fld w 20 12 = imm ∧ fld w 15 5 = a ∧ fld w 10 5 = d := by
  have hw := w.isLt
  rw [head_iff hop]
  unfold fld fI
  omega

theorem fU_iff {w : BitVec 32} {op imm d : Nat} {p : Fin 8} (hop : op < 64) :
    w.toNat = fU op imm d p ∧ imm < 2 ^ 17 ∧ d < 32 ↔ Head w op p ∧ fld w 15 17 = imm ∧ fld w 10 5 = d := by
  have hw := w.isLt
  rw [head_iff hop]
  unfold fld fU
  omega

theorem fB_iff {w : BitVec 32} {op disp : Nat} {p : Fin 8} (hop : op < 64) :
    w.toNat = fB op disp p ∧ disp < 2 ^ 22 ↔ Head w op p ∧ fld w 10 22 = disp := by
  have hw := w.isLt
  rw [head_iff hop]
  unfold fld fB
  omega

theorem fP_iff {w : BitVec 32} {op port d : Nat} {p : Fin 8} (hop : op < 64) :
    w.toNat = fP op port d p ∧ port < 2 ^ 16 ∧ d < 32 ↔ Head w op p ∧ fld w 16 16 = port ∧ fld w 10 5 = d ∧ bit w 15 = false := by
  have hw := w.isLt
  rw [head_iff hop, bit_false_iff]
  unfold fld fP
  omega

theorem fS_iff {w : BitVec 32} {sub imm8 : Nat} {p : Fin 8} :
    w.toNat = fS sub imm8 p ∧ sub < 16 ∧ imm8 < 256
      ↔ Head w 0x30 p ∧ fld w 20 4 = sub ∧ fld w 24 8 = imm8 ∧ fld w 15 5 = 0 ∧ fld w 10 5 = 0 := by
  have hw := w.isLt
  rw [head_iff (by decide)]
  unfold fld fS
  omega

theorem fV_iff {w : BitVec 32} {op fn m b a d : Nat} {p : Fin 8} (hop : op < 64) :
    w.toNat = fV op fn m b a d p ∧ fn < 16 ∧ m < 8 ∧ b < 32 ∧ a < 32 ∧ d < 32
      ↔ Head w op p ∧ fld w 28 4 = fn ∧ fld w 25 3 = m ∧ fld w 20 5 = b ∧ fld w 15 5 = a ∧ fld w 10 5 = d := by
  have hw := w.isLt
  rw [head_iff hop]
  unfold fld fV
  omega

theorem b2n_bit {w : BitVec 32} {i : Nat} : b2n (bit w i) = w.toNat / 2 ^ i % 2 := by
  rw [b2n]
  cases hb : bit w i with
  | true => exact ((bit_iff i).1 hb).symm
  | false => exact ((bit_false_iff i).1 hb).symm

theorem b2n_inj {x y : Bool} : b2n x = b2n y ↔ x = y := by
  cases x <;> cases y <;> decide

theorem fT_iff {w : BitVec 32} {acc sp : Bool} {tm tb ta ad : Nat} {p : Fin 8} :
    w.toNat = fT (b2n acc) (b2n sp) tm tb ta ad p ∧ tm < 8 ∧ tb < 8 ∧ ta < 8 ∧ ad < 4
      ↔ Head w 0x32 p ∧ fld w 24 8 = 0 ∧ bit w 12 = false ∧ bit w 23 = acc ∧ bit w 22 = sp ∧ fld w 19 3 = tm ∧ fld w 16 3 = tb
        ∧ fld w 13 3 = ta ∧ fld w 10 2 = ad := by
  have hw := w.isLt
  have hacc : b2n acc < 2 := by cases acc <;> decide
  have hsp : b2n sp < 2 := by cases sp <;> decide
  rw [head_iff (by decide), bit_false_iff, ← b2n_inj, b2n_bit, ← b2n_inj, b2n_bit]
  unfold fld fT
  omega

theorem fAC_iff {w : BitVec 32} {wide half dv : Bool} {row b aa d : Nat} {p : Fin 8} :
    w.toNat = fAC (b2n wide) (b2n half) row b (b2n dv) aa d p ∧ row < 16 ∧ b < 32 ∧ aa < 4 ∧ d < 32
      ↔ Head w 0x33 p ∧ fld w 29 3 = 0 ∧ bit w 28 = wide ∧ bit w 27 = half ∧ fld w 23 4 = row ∧ fld w 18 5 = b ∧ bit w 17 = dv
        ∧ fld w 15 2 = aa ∧ fld w 10 5 = d := by
  have hw := w.isLt
  have hwide : b2n wide < 2 := by cases wide <;> decide
  have hhalf : b2n half < 2 := by cases half <;> decide
  have hdv : b2n dv < 2 := by cases dv <;> decide
  rw [head_iff (by decide), ← b2n_inj (x := bit w 28), b2n_bit, ← b2n_inj (x := bit w 27), b2n_bit, ← b2n_inj (x := bit w 17), b2n_bit]
  unfold fld fAC
  omega

/-- The compact format, in the low half of a word. -/
theorem fC_iff {w : BitVec 32} {cop hi d : Nat} :
    w.toNat % 2 ^ 16 = fC cop hi d ∧ cop < 16 ∧ hi < 128 ∧ d < 16
      ↔ bit w 0 = false ∧ fld w 1 4 = cop ∧ fld w 9 7 = hi ∧ fld w 5 4 = d := by
  have hw := w.isLt
  rw [bit_false_iff]
  unfold fld fC
  omega

end Sys2Proof.Machine

/-!
SUPPORT. A word that decodes is its instruction's word.
-/
namespace Sys2Proof.Machine
open Sys2Proof Sys2Proof.Safety

/-- `x` is the length and the word of the well-formed instruction `i`. -/
def WordOf (x : Nat × Nat) (i : Instr) : Prop := i.wf = true ∧ encode i = some x

theorem finVal_lt {n x : Nat} [NeZero n] (hx : x < n) : (Fin.ofNat n x).val = x := Nat.mod_eq_of_lt hx

theorem fld_lt {x : BitVec 32} (lo k : Nat) : fld x lo k < 2 ^ k := Nat.mod_lt _ (Nat.two_pow_pos k)

theorem val_fin32 {x : BitVec 32} (lo : Nat) : (Fin.ofNat 32 (fld x lo 5)).val = fld x lo 5 := finVal_lt (fld_lt lo 5)
theorem val_fin16 {x : BitVec 32} (lo : Nat) : (Fin.ofNat 16 (fld x lo 4)).val = fld x lo 4 := finVal_lt (fld_lt lo 4)
theorem val_fin8 {x : BitVec 32} (lo : Nat) : (Fin.ofNat 8 (fld x lo 3)).val = fld x lo 3 := finVal_lt (fld_lt lo 3)
theorem val_fin4 {x : BitVec 32} (lo : Nat) : (Fin.ofNat 4 (fld x lo 2)).val = fld x lo 2 := finVal_lt (fld_lt lo 2)

theorem val_imm {x : BitVec 32} (lo k : Nat) : (BitVec.ofNat k (fld x lo k)).toNat = fld x lo k := by
  rw [BitVec.toNat_ofNat, Nat.mod_eq_of_lt (fld_lt lo k)]

theorem val_bits {k x : Nat} (hx : x < 2 ^ k) : (BitVec.ofNat k x).toNat = x := by
  rw [BitVec.toNat_ofNat, Nat.mod_eq_of_lt hx]

/-! ### Codes of conditions, formats and sizes -/

theorem cmpCode_of {n : Nat} (hn : n < 6) : cmpCode (cmpOf n) = n := by interval_cases n <;> rfl
theorem cmpiCode_of {n : Nat} (hn : n < 4) : cmpiCode (cmpiOf n) = n := by interval_cases n <;> rfl
theorem fcmpCode_of {n : Nat} (hn : n < 4) : fcmpCode (fcmpOf n) = n := by interval_cases n <;> rfl
theorem fmtCode_of {n : Nat} (hn : n < 2) : fmtCode (fmtOf n) = n := by interval_cases n <;> rfl
theorem sizeCode_of {n : Nat} (hn : n < 4) : sizeCode (sizeOf n) = n := by interval_cases n <;> rfl
theorem laneCode_of {n : Nat} (hn : n < 4) : laneCode (laneOf n) = n := by interval_cases n <;> rfl
theorem mopCode_of {n : Nat} (hn : n < 5) : mopCode (mopOf n) = n := by interval_cases n <;> rfl

/-! ### The branches of a decoder -/

theorem of_branch {P : Instr → Prop} {c : Prop} [Decidable c] {x i : Instr} {r : Option Instr} (hx : c → P x)
    (hr : r = some i → P i) (hd : (if c then some x else r) = some i) : P i := by
  split at hd
  · next hc => exact Option.some.inj hd ▸ hx hc
  · exact hr hd

theorem of_none {P : Instr → Prop} {i : Instr} (hd : none = some i) : P i := by cases hd

theorem of_some {P : Instr → Prop} {x i : Instr} (hx : P x) (hd : some x = some i) : P i := Option.some.inj hd ▸ hx

section
variable {h : Hart} {p : Fin 8} {w : BitVec 32} {i : Instr}

theorem op01_words (hh : Head w 0x01 p) (hd : decOp01 h p w = some i) : WordOf (4, w.toNat) i := by
  rw [((fR_iff (by decide)).2 ⟨hh, rfl, rfl, rfl, rfl⟩).1]
  revert hd
  unfold decOp01
  dsimp only
  iterate 28
    refine of_branch ?_ ?_
    · intro hc
      refine ⟨rfl, ?_⟩
      dsimp only [encode]
      simp only [val_fin32, hc]
  exact of_none

theorem op06_words (hh : Head w 0x06 p) (hd : decOp06 h p w = some i) : WordOf (4, w.toNat) i := by
  rw [((fI_iff (by decide)).2 ⟨hh, rfl, rfl, rfl⟩).1]
  revert hd
  unfold decOp06
  dsimp only
  iterate 4
    refine of_branch ?_ ?_
    · intro hc
      refine ⟨rfl, congrArg (fun x => some (4, x)) ?_⟩
      simp only [val_fin32, fI, BitVec.toNat_ofNat]
      omega
  exact of_none

theorem op08_words (hh : Head w 0x08 p) (hd : decOp08 h p w = some i) : WordOf (4, w.toNat) i := by
  have hw := ((fU_iff (by decide)).2 ⟨hh, rfl, rfl⟩).1
  revert hd
  unfold decOp08
  dsimp only
  refine of_branch ?_ of_none
  intro hc
  refine ⟨rfl, congrArg (fun x => some (4, x)) ?_⟩
  rw [bit_false_iff] at hc
  have hlt : fld w 15 17 < 2 ^ 16 := by
    unfold fld
    omega
  rw [hw, val_fin32, val_bits hlt]

theorem op09_words (hh : Head w 0x09 p) (hd : decOp09 h p w = some i) : WordOf (4, w.toNat) i := by
  rw [((fR_iff (by decide)).2 ⟨hh, rfl, rfl, rfl, rfl⟩).1]
  refine of_branch (fun hc => ⟨rfl, ?_⟩) of_none hd
  obtain ⟨hd, hfn⟩ := hc
  dsimp only [encode]
  rw [val_fin32, val_fin32, finVal_lt hd, cmpCode_of hfn]

theorem op0A_words (hh : Head w 0x0A p) (hd : decOp0A h p w = some i) : WordOf (4, w.toNat) i := by
  rw [((fI_iff (by decide)).2 ⟨hh, rfl, rfl, rfl⟩).1]
  refine of_some ?_ hd
  refine ⟨rfl, congrArg (fun x => some (4, x)) ?_⟩
  have hlt : fld w 10 5 / 8 < 4 := Nat.div_lt_of_lt_mul (fld_lt 10 5)
  rw [val_fin32, val_imm, cmpiCode_of hlt]
  congr 1
  exact Nat.div_add_mod ..

theorem op0B_words (hh : Head w 0x0B p) (hd : decOp0B h p w = some i) : WordOf (4, w.toNat) i := by
  rw [((fR_iff (by decide)).2 ⟨hh, rfl, rfl, rfl, rfl⟩).1]
  revert hd
  unfold decOp0B
  dsimp only
  iterate 6
    refine of_branch ?_ ?_
    · intro hc
      refine ⟨rfl, ?_⟩
      dsimp only [encode]
      simp only [finVal_lt, hc]
  exact of_none

theorem op0C_words (hh : Head w 0x0C p) (hd : decOp0C h p w = some i) : WordOf (4, w.toNat) i := by
  have hfmt : fmtCode (fmtOf (fld w 25 7 / 64)) = fld w 25 7 / 64 := fmtCode_of (Nat.div_lt_of_lt_mul (fld_lt 25 7))
  rw [((fR_iff (by decide)).2 ⟨hh, rfl, rfl, rfl, rfl⟩).1]
  revert hd
  unfold decOp0C
  dsimp only
  iterate 15
    refine of_branch ?_ ?_
    · intro hc
      refine ⟨rfl, congrArg (fun x => some (4, x)) ?_⟩
      simp only [val_fin32, hfmt, fR]
      omega
  exact of_none

theorem op0D_words (hh : Head w 0x0D p) (hd : decOp0D h p w = some i) : WordOf (4, w.toNat) i := by
  rw [((fR_iff (by decide)).2 ⟨hh, rfl, rfl, rfl, rfl⟩).1]
  revert hd
  unfold decOp0D
  dsimp only
  refine of_branch (fun hc => ⟨rfl, ?_⟩) (of_branch (fun hc => ⟨rfl, congrArg (fun x => some (4, x)) ?_⟩) of_none)
  · dsimp only [encode]
    simp only [val_fin32, fmtCode_of hc]
  · simp only [val_fin32, fmtCode_of (Nat.mod_lt (fld w 25 7) (by decide : 0 < 2)), fR]
    omega

theorem op0E_words (hh : Head w 0x0E p) (hd : decOp0E h p w = some i) : WordOf (4, w.toNat) i := by
  have hfmt : fmtCode (fmtOf (fld w 25 7 / 64)) = fld w 25 7 / 64 := fmtCode_of (Nat.div_lt_of_lt_mul (fld_lt 25 7))
  rw [((fR_iff (by decide)).2 ⟨hh, rfl, rfl, rfl, rfl⟩).1]
  refine of_branch (fun hc => ?_) of_none hd
  refine ⟨rfl, congrArg (fun x => some (4, x)) ?_⟩
  obtain ⟨hd, hfn⟩ := hc
  simp only [val_fin32, finVal_lt hd, fcmpCode_of hfn, hfmt, fR]
  omega

theorem op12_words (hh : Head w 0x12 p) (hd : decOp12 h p w = some i) : WordOf (4, w.toNat) i := by
  rw [((fR_iff (by decide)).2 ⟨hh, rfl, rfl, rfl, rfl⟩).1]
  revert hd
  unfold decOp12
  dsimp only
  iterate 2
    refine of_branch ?_ ?_
    · intro hc
      refine ⟨rfl, ?_⟩
      dsimp only [encode]
      simp only [val_fin32, hc]
  exact of_none

theorem op21_words (hh : Head w 0x21 p) (hd : decOp21 h p w = some i) : WordOf (4, w.toNat) i := by
  rw [((fV_iff (by decide)).2 ⟨hh, rfl, rfl, rfl, rfl, rfl⟩).1]
  revert hd
  unfold decOp21
  dsimp only
  refine of_branch (fun hc => ?_) (of_branch (fun hc => ?_) (of_branch (fun hc => ?_) (of_branch (fun hc => ?_)
    (of_branch (fun hc => ?_) (of_branch (fun hc => ?_) (of_branch (fun hc => ?_) (of_branch (fun hc => ?_)
    (of_branch (fun hc => ?_) (of_branch (fun hc => ?_) (of_branch (fun hc => ?_) (of_branch (fun hc => ?_)
    (of_branch (fun hc => ?_) (of_branch (fun hc => ?_) of_none)))))))))))))
  case refine_9 =>
    obtain ⟨hfn, hm, hd, ha, hb, hnot⟩ := hc
    refine ⟨decide_eq_true fun hop => Fin.ext ?_, ?_⟩
    · have h4 : fld w 25 3 = 4 := by rw [← mopCode_of hm, hop]; rfl
      rw [finVal_lt hb, hnot h4]
      rfl
    · dsimp only [encode]
      rw [mopCode_of hm, finVal_lt hb, finVal_lt ha, finVal_lt hd, hfn]
  case refine_12 =>
    obtain ⟨hfn, hm, ha, hb⟩ := hc
    refine ⟨?_, ?_⟩
    · simp only [Instr.wf, val_fin32]
      rcases hb with hb | hb <;> simp [hb]
    · dsimp only [encode]
      rw [val_fin32, val_fin32, hfn, hm, ha]
  case refine_14 =>
    obtain ⟨hfn, hm, hlo, hhi⟩ := hc
    have hb : fld w 20 5 < 8 := by omega
    refine ⟨?_, ?_⟩
    · simp only [Instr.wf, finVal_lt hb]
      simp [hlo, hhi]
    · dsimp only [encode]
      rw [val_fin32, val_fin32, finVal_lt hb, hfn, hm]
  case refine_2 =>
    refine ⟨rfl, ?_⟩
    dsimp only [encode]
    rw [val_fin32, val_fin32, val_fin8, laneCode_of hc.2, hc.1]
  all_goals
    refine ⟨rfl, ?_⟩
    dsimp only [encode]
    simp only [val_fin32, val_fin8, finVal_lt, hc]

theorem op28_words (hh : Head w 0x28 p) (hd : decOp28 h p w = some i) : WordOf (4, w.toNat) i := by
  refine of_branch (fun hc => ?_) of_none hd
  refine ⟨rfl, congrArg (fun x => some (4, x)) ?_⟩
  rw [((fP_iff (by decide)).2 ⟨hh, rfl, rfl, hc⟩).1, val_fin32, val_imm]

theorem op29_words (hh : Head w 0x29 p) (hd : decOp29 h p w = some i) : WordOf (4, w.toNat) i := by
  refine of_branch (fun hc => ?_) of_none hd
  refine ⟨rfl, congrArg (fun x => some (4, x)) ?_⟩
  rw [((fP_iff (by decide)).2 ⟨hh, rfl, rfl, hc⟩).1, val_fin32, val_imm]

theorem op2A_words (hh : Head w 0x2A p) (hd : decOp2A h p w = some i) : WordOf (4, w.toNat) i := by
  rw [((fR_iff (by decide)).2 ⟨hh, rfl, rfl, rfl, rfl⟩).1]
  revert hd
  unfold decOp2A
  dsimp only
  refine of_branch ?_ ?_
  · intro hc
    refine ⟨rfl, ?_⟩
    dsimp only [encode]
    simp only [val_fin32, hc]
  exact of_none

theorem op2B_words (hh : Head w 0x2B p) (hd : decOp2B h p w = some i) : WordOf (4, w.toNat) i := by
  rw [((fR_iff (by decide)).2 ⟨hh, rfl, rfl, rfl, rfl⟩).1]
  revert hd
  unfold decOp2B
  dsimp only
  refine of_branch ?_ ?_
  · intro hc
    refine ⟨rfl, ?_⟩
    dsimp only [encode]
    simp only [val_fin32, hc]
  exact of_none

theorem op2C_words (hh : Head w 0x2C p) (hd : decOp2C h p w = some i) : WordOf (4, w.toNat) i := by
  rw [((fI_iff (by decide)).2 ⟨hh, rfl, rfl, rfl⟩).1]
  refine of_branch (fun hc => ?_) of_none hd
  obtain ⟨hlt, hne, hd⟩ := hc
  refine ⟨decide_eq_true fun hz => hne ?_, ?_⟩
  · have hz := congrArg BitVec.toNat hz
    rwa [val_bits (k := 8) hlt] at hz
  · dsimp only [encode]
    rw [val_fin32, val_bits (k := 8) hlt, hd]

theorem op2D_words (hh : Head w 0x2D p) (hd : decOp2D h p w = some i) : WordOf (4, w.toNat) i := by
  rw [((fR_iff (by decide)).2 ⟨hh, rfl, rfl, rfl, rfl⟩).1]
  refine of_branch (fun hc => ⟨rfl, ?_⟩) of_none hd
  dsimp only [encode]
  simp only [val_fin32, finVal_lt, hc]

theorem op2E_words (hh : Head w 0x2E p) (hd : decOp2E h p w = some i) : WordOf (4, w.toNat) i := by
  rw [((fR_iff (by decide)).2 ⟨hh, rfl, rfl, rfl, rfl⟩).1]
  refine of_branch (fun hc => ⟨rfl, ?_⟩) of_none hd
  dsimp only [encode]
  simp only [val_fin32, finVal_lt, hc]

theorem op2F_words (hh : Head w 0x2F p) (hd : decOp2F h p w = some i) : WordOf (4, w.toNat) i := by
  rw [((fI_iff (by decide)).2 ⟨hh, rfl, rfl, rfl⟩).1]
  refine of_branch (fun hc => ⟨rfl, ?_⟩) of_none hd
  obtain ⟨hlt, ha, hd⟩ := hc
  dsimp only [encode]
  rw [val_bits (k := 8) hlt, ha, hd]

theorem op30_words (hh : Head w 0x30 p) (hd : decOp30 h p w = some i) : WordOf (4, w.toNat) i := by
  have hw : fld w 15 5 = 0 → fld w 10 5 = 0 → w.toNat = fS (fld w 20 4) (fld w 24 8) p := fun ha hd =>
    (fS_iff.2 ⟨hh, rfl, rfl, ha, hd⟩).1
  revert hd
  refine of_branch (fun hc => ⟨rfl, ?_⟩) (of_branch (fun hc => ⟨rfl, ?_⟩) (of_branch (fun hc => ⟨rfl, ?_⟩)
    (of_branch (fun hc => ⟨rfl, ?_⟩) of_none)))
  · obtain ⟨hs, hi, ha, hd⟩ := hc
    rw [hw ha hd, hs, hi]
    rfl
  · obtain ⟨hs, hi, ha, hd⟩ := hc
    dsimp only [encode]
    rw [hw ha hd, hs, finVal_lt hi]
  · obtain ⟨hs, ha, hd⟩ := hc
    dsimp only [encode]
    rw [hw ha hd, hs, val_imm]
  · obtain ⟨hs, hi, ha, hd, rfl⟩ := hc
    rw [hw ha hd, hs, hi]
    rfl

theorem op31_words (hh : Head w 0x31 p) (hd : decOp31 h p w = some i) : WordOf (4, w.toNat) i := by
  rw [((fU_iff (by decide)).2 ⟨hh, rfl, rfl⟩).1]
  refine of_branch (fun hc => ?_) of_none hd
  obtain ⟨hd0, rfl, hlo, hhi⟩ := hc
  refine ⟨?_, ?_⟩
  · simp only [Instr.wf, val_imm]
    simp [hlo, hhi]
  · dsimp only [encode]
    rw [val_imm, hd0]

theorem op32_words (hh : Head w 0x32 p) (hd : decOp32 h p w = some i) : WordOf (4, w.toNat) i := by
  refine of_branch (fun hc => ?_) of_none hd
  obtain ⟨htop, h12, htm⟩ := hc
  rw [(fT_iff.2 ⟨hh, htop, h12, rfl, rfl, rfl, rfl, rfl, rfl⟩).1]
  refine ⟨?_, ?_⟩
  · simp only [Instr.wf]
    cases hsp : bit w 22 with
    | true => rfl
    | false => simp [htm hsp]
  · dsimp only [encode]
    rw [val_fin8, val_fin8, val_fin8, val_fin4]

theorem op33_words (hh : Head w 0x33 p) (hd : decOp33 h p w = some i) : WordOf (4, w.toNat) i := by
  refine of_branch (fun hc => ?_) of_none hd
  obtain ⟨htop, hwide, hdv⟩ := hc
  rw [(fAC_iff.2 ⟨hh, htop, rfl, rfl, rfl, rfl, rfl, rfl, rfl⟩).1]
  refine ⟨?_, ?_⟩
  · have haa : bit w 28 = true → fld w 15 2 % 2 = 0 := fun hb => by
      have h15 := (bit_false_iff 15).1 (hwide hb).1
      unfold fld
      omega
    simp only [Instr.wf, val_fin4, val_fin32, Bool.and_eq_true, Bool.or_eq_true, Bool.not_eq_true', decide_eq_true_iff]
    refine ⟨?_, ?_⟩
    · cases hb : bit w 28 with
      | true => exact .inr ⟨haa hb, (hwide hb).2⟩
      | false => exact .inl rfl
    · cases hb : bit w 17 with
      | true => exact .inl rfl
      | false => exact .inr ⟨by rw [(hdv hb).1]; rfl, (hdv hb).2⟩
  · dsimp only [encode]
    rw [val_fin16, val_fin32, val_fin4, val_fin32]

theorem op34_words (hh : Head w 0x34 p) (hd : decOp34 h p w = some i) : WordOf (4, w.toNat) i := by
  rw [((fR_iff (by decide)).2 ⟨hh, rfl, rfl, rfl, rfl⟩).1]
  revert hd
  unfold decOp34
  dsimp only
  iterate 3
    refine of_branch ?_ ?_
    · intro hc
      refine ⟨rfl, ?_⟩
      dsimp only [encode]
      simp only [val_fin32, finVal_lt, hc]
  exact of_none

theorem op35_words (hh : Head w 0x35 p) (hd : decOp35 h p w = some i) : WordOf (4, w.toNat) i := by
  rw [((fV_iff (by decide)).2 ⟨hh, rfl, rfl, rfl, rfl, rfl⟩).1]
  revert hd
  unfold decOp35
  dsimp only
  refine of_branch (fun hc => ?_) (of_branch (fun hc => ?_) ?_)
  · obtain ⟨hfn, hb, hne⟩ := hc
    have hlt : fld w 20 5 < 16 := by omega
    refine ⟨?_, ?_⟩
    · simp only [Instr.wf, finVal_lt hlt]
      simp [hb, hne]
    · dsimp only [encode]
      rw [val_fin32, val_fin32, val_fin8, finVal_lt hlt, hfn]
  · obtain ⟨hfn, hb, hne, hsr⟩ := hc
    have hval : (Fin.ofNat 16 (fld w 20 5)).val = fld w 20 5 % 16 := rfl
    have hlt := fld_lt (x := w) 20 5
    refine ⟨?_, ?_⟩
    · simp only [Instr.wf, hval]
      by_cases h16 : 16 ≤ fld w 20 5
      · simp [hb, hne, hsr h16]
      · simp [hb, hne, h16]
    · have hf : fld w 20 5 % 16 + 16 * b2n (decide (16 ≤ fld w 20 5)) = fld w 20 5 := by
        by_cases h16 : 16 ≤ fld w 20 5 <;> simp [b2n, h16] <;> omega
      dsimp only [encode]
      rw [val_fin32, val_fin32, val_fin8, hval, hf, hfn]
  iterate 6
    refine of_branch ?_ ?_
    · intro hc
      refine ⟨rfl, ?_⟩
      dsimp only [encode]
      simp only [val_fin32, val_fin8, hc]
  exact of_none

theorem op36_words (hh : Head w 0x36 p) (hd : decOp36 h p w = some i) : WordOf (4, w.toNat) i := by
  rw [((fR_iff (by decide)).2 ⟨hh, rfl, rfl, rfl, rfl⟩).1]
  refine of_branch (fun hc => ?_) of_none hd
  obtain ⟨hfn, hd, ha⟩ := hc
  refine ⟨?_, ?_⟩
  · simp only [Instr.wf, val_fin32]
    exact decide_eq_true ha
  · dsimp only [encode]
    rw [val_fin32, val_fin32, finVal_lt hd, hfn]

/-- Three different registers (R108). -/
theorem distinct3_fld (h : fld w 10 5 ≠ fld w 15 5 ∧ fld w 10 5 ≠ fld w 20 5 ∧ fld w 15 5 ≠ fld w 20 5) :
    distinct3 (Fin.ofNat 32 (fld w 10 5)) (Fin.ofNat 32 (fld w 15 5)) (Fin.ofNat 32 (fld w 20 5)) = true := by
  obtain ⟨hda, hdb, hab⟩ := h
  simp only [distinct3, Bool.and_eq_true, decide_eq_true_iff, ne_eq, Fin.ext_iff, val_fin32]
  exact ⟨⟨hda, hdb⟩, hab⟩

/-- The size code of a block-repeat instruction, with its function above. -/
theorem sizeCode_fld {n : Nat} (hn : fld w 25 7 / 4 = n) : sizeCode (sizeOf (fld w 25 7 % 4)) = fld w 25 7 - 4 * n := by
  rw [sizeCode_of (Nat.mod_lt _ (by decide))]
  omega

theorem op38_words (hh : Head w 0x38 p) (hd : decOp38 h p w = some i) : WordOf (4, w.toNat) i := by
  rw [((fR_iff (by decide)).2 ⟨hh, rfl, rfl, rfl, rfl⟩).1]
  refine of_branch (fun hc => ?_) of_none hd
  obtain ⟨hfn, hne⟩ := hc
  refine ⟨distinct3_fld hne, ?_⟩
  dsimp only [encode]
  rw [val_fin32, val_fin32, val_fin32, sizeCode_fld hfn, Nat.mul_zero, Nat.sub_zero]

theorem op39_words (hh : Head w 0x39 p) (hd : decOp39 h p w = some i) : WordOf (4, w.toNat) i := by
  rw [((fR_iff (by decide)).2 ⟨hh, rfl, rfl, rfl, rfl⟩).1]
  refine of_branch (fun hc => ?_) of_none hd
  obtain ⟨hfn, hne⟩ := hc
  refine ⟨distinct3_fld hne, ?_⟩
  dsimp only [encode]
  rw [val_fin32, val_fin32, val_fin32, sizeCode_fld hfn, Nat.mul_zero, Nat.sub_zero]

theorem op3A_words (hh : Head w 0x3A p) (hd : decOp3A h p w = some i) : WordOf (4, w.toNat) i := by
  rw [((fR_iff (by decide)).2 ⟨hh, rfl, rfl, rfl, rfl⟩).1]
  refine of_branch (fun hc => ?_) of_none hd
  obtain ⟨hfn, hne⟩ := hc
  refine ⟨distinct3_fld hne, ?_⟩
  dsimp only [encode]
  rw [val_fin32, val_fin32, val_fin32, sizeCode_fld hfn, Nat.mul_zero, Nat.sub_zero]

theorem op3B_words (hh : Head w 0x3B p) (hd : decOp3B h p w = some i) : WordOf (4, w.toNat) i := by
  rw [((fR_iff (by decide)).2 ⟨hh, rfl, rfl, rfl, rfl⟩).1]
  revert hd
  refine of_branch (fun hc => ?_) (of_branch (fun hc => ?_) of_none)
  · obtain ⟨hfn, hne⟩ := hc
    refine ⟨distinct3_fld hne, ?_⟩
    dsimp only [encode]
    rw [val_fin32, val_fin32, val_fin32, sizeCode_fld hfn, Nat.mul_zero, Nat.sub_zero]
  · obtain ⟨hfn, hne⟩ := hc
    refine ⟨distinct3_fld hne, ?_⟩
    dsimp only [encode]
    rw [val_fin32, val_fin32, val_fin32, sizeCode_fld hfn, Nat.sub_add_cancel (by omega)]

theorem op3C_words (hh : Head w 0x3C p) (hd : decOp3C h p w = some i) : WordOf (4, w.toNat) i := by
  rw [((fR_iff (by decide)).2 ⟨hh, rfl, rfl, rfl, rfl⟩).1]
  refine of_branch (fun hc => ?_) of_none hd
  obtain ⟨hfn, hne⟩ := hc
  refine ⟨distinct3_fld hne, ?_⟩
  dsimp only [encode]
  rw [val_fin32, val_fin32, val_fin32, hfn]

theorem op3D_words (hh : Head w 0x3D p) (hd : decOp3D h p w = some i) : WordOf (4, w.toNat) i := by
  rw [((fR_iff (by decide)).2 ⟨hh, rfl, rfl, rfl, rfl⟩).1]
  refine of_branch (fun hc => ?_) of_none hd
  obtain ⟨hfn, hne⟩ := hc
  refine ⟨distinct3_fld hne, ?_⟩
  dsimp only [encode]
  rw [val_fin32, val_fin32, val_fin32, hfn]

theorem vecInt_words {lane : LaneW} (hh : Head w (0x22 + laneCode lane) p) (hd : decVecInt h p lane w = some i) :
    WordOf (4, w.toNat) i := by
  have hop : 0x22 + laneCode lane < 64 := by cases lane <;> decide
  rw [((fV_iff hop).2 ⟨hh, rfl, rfl, rfl, rfl, rfl⟩).1]
  revert hd
  unfold decVecInt
  dsimp only
  iterate 16
    refine of_branch ?_ ?_
    · intro hc
      refine ⟨rfl, ?_⟩
      dsimp only [encode]
      simp only [val_fin32, val_fin8, finVal_lt, hc]
  exact of_none

theorem vecFp_words {f : FpFmt} (hh : Head w (0x27 - fmtCode f) p) (hd : decVecFp h p f w = some i) : WordOf (4, w.toNat) i := by
  have hop : 0x27 - fmtCode f < 64 := by omega
  rw [((fV_iff hop).2 ⟨hh, rfl, rfl, rfl, rfl, rfl⟩).1]
  revert hd
  unfold decVecFp
  dsimp only
  iterate 15
    refine of_branch ?_ ?_
    · intro hc
      refine ⟨rfl, ?_⟩
      dsimp only [encode]
      simp only [val_fin32, val_fin8, finVal_lt, hc]
  exact of_none

/-- An instruction on two registers and a 12-bit immediate. -/
theorem imm_words {op : Nat} {f : Fin 32 → Fin 32 → BitVec 12 → Instr} (hop : op < 64)
    (hf : ∀ d a imm, WordOf (4, fI op imm.toNat a.val d.val p) (f d a imm)) (hh : Head w op p)
    (hd : some (f (Fin.ofNat 32 (fld w 10 5)) (Fin.ofNat 32 (fld w 15 5)) (BitVec.ofNat 12 (fld w 20 12))) = some i) :
    WordOf (4, w.toNat) i := by
  rw [((fI_iff hop).2 ⟨hh, rfl, rfl, rfl⟩).1]
  have hw := hf (Fin.ofNat 32 (fld w 10 5)) (Fin.ofNat 32 (fld w 15 5)) (BitVec.ofNat 12 (fld w 20 12))
  rw [val_fin32, val_fin32, val_imm] at hw
  exact of_some hw hd

/-- A displacement. -/
theorem disp_words {op : Nat} {f : BitVec 22 → Instr} (hop : op < 64) (hf : ∀ x, WordOf (4, fB op x.toNat p) (f x)) (hh : Head w op p)
    (hd : some (f (BitVec.ofNat 22 (fld w 10 22))) = some i) : WordOf (4, w.toNat) i := by
  rw [((fB_iff hop).2 ⟨hh, rfl⟩).1]
  have hw := hf (BitVec.ofNat 22 (fld w 10 22))
  rw [val_imm] at hw
  exact of_some hw hd

theorem op07_words (hh : Head w 0x07 p) (hd : decOp07 h p w = some i) : WordOf (4, w.toNat) i := by
  rw [((fU_iff (by decide)).2 ⟨hh, rfl, rfl⟩).1]
  refine of_some ⟨rfl, ?_⟩ hd
  dsimp only [encode]
  rw [val_fin32, val_imm]

/-- A 32-bit word that decodes is its instruction's word. -/
theorem decode32_words (h0 : bit w 0 = true) (hd : decode32 h w = some i) : WordOf (4, w.toNat) i := by
  revert hd
  unfold decode32
  split
  · next ho => exact op01_words ⟨h0, ho, rfl⟩
  · next ho => exact imm_words (f := .addi h _) (by decide) (fun _ _ _ => ⟨rfl, rfl⟩) ⟨h0, ho, rfl⟩
  · next ho => exact imm_words (f := .andi h _) (by decide) (fun _ _ _ => ⟨rfl, rfl⟩) ⟨h0, ho, rfl⟩
  · next ho => exact imm_words (f := .ori h _) (by decide) (fun _ _ _ => ⟨rfl, rfl⟩) ⟨h0, ho, rfl⟩
  · next ho => exact imm_words (f := .xori h _) (by decide) (fun _ _ _ => ⟨rfl, rfl⟩) ⟨h0, ho, rfl⟩
  · next ho => exact op06_words ⟨h0, ho, rfl⟩
  · next ho => exact op07_words ⟨h0, ho, rfl⟩
  · next ho => exact op08_words ⟨h0, ho, rfl⟩
  · next ho => exact op09_words ⟨h0, ho, rfl⟩
  · next ho => exact op0A_words ⟨h0, ho, rfl⟩
  · next ho => exact op0B_words ⟨h0, ho, rfl⟩
  · next ho => exact op0C_words ⟨h0, ho, rfl⟩
  · next ho => exact op0D_words ⟨h0, ho, rfl⟩
  · next ho => exact op0E_words ⟨h0, ho, rfl⟩
  · next ho => exact disp_words (f := .br h _) (by decide) (fun _ => ⟨rfl, rfl⟩) ⟨h0, ho, rfl⟩
  · next ho => exact disp_words (f := .call h _) (by decide) (fun _ => ⟨rfl, rfl⟩) ⟨h0, ho, rfl⟩
  · next ho => exact op12_words ⟨h0, ho, rfl⟩
  · next ho => exact imm_words (f := .ldb h _) (by decide) (fun _ _ _ => ⟨rfl, rfl⟩) ⟨h0, ho, rfl⟩
  · next ho => exact imm_words (f := .ldbu h _) (by decide) (fun _ _ _ => ⟨rfl, rfl⟩) ⟨h0, ho, rfl⟩
  · next ho => exact imm_words (f := .ldh h _) (by decide) (fun _ _ _ => ⟨rfl, rfl⟩) ⟨h0, ho, rfl⟩
  · next ho => exact imm_words (f := .ldhu h _) (by decide) (fun _ _ _ => ⟨rfl, rfl⟩) ⟨h0, ho, rfl⟩
  · next ho => exact imm_words (f := .ldw h _) (by decide) (fun _ _ _ => ⟨rfl, rfl⟩) ⟨h0, ho, rfl⟩
  · next ho => exact imm_words (f := .ldwu h _) (by decide) (fun _ _ _ => ⟨rfl, rfl⟩) ⟨h0, ho, rfl⟩
  · next ho => exact imm_words (f := .ldd h _) (by decide) (fun _ _ _ => ⟨rfl, rfl⟩) ⟨h0, ho, rfl⟩
  · next ho => exact imm_words (f := .stb h _) (by decide) (fun _ _ _ => ⟨rfl, rfl⟩) ⟨h0, ho, rfl⟩
  · next ho => exact imm_words (f := .sth h _) (by decide) (fun _ _ _ => ⟨rfl, rfl⟩) ⟨h0, ho, rfl⟩
  · next ho => exact imm_words (f := .stw h _) (by decide) (fun _ _ _ => ⟨rfl, rfl⟩) ⟨h0, ho, rfl⟩
  · next ho => exact imm_words (f := .std h _) (by decide) (fun _ _ _ => ⟨rfl, rfl⟩) ⟨h0, ho, rfl⟩
  · next ho => exact imm_words (f := .vld h _) (by decide) (fun _ _ _ => ⟨rfl, rfl⟩) ⟨h0, ho, rfl⟩
  · next ho => exact imm_words (f := .vst h _) (by decide) (fun _ _ _ => ⟨rfl, rfl⟩) ⟨h0, ho, rfl⟩
  · next ho => exact op21_words ⟨h0, ho, rfl⟩
  · next ho => exact op28_words ⟨h0, ho, rfl⟩
  · next ho => exact op29_words ⟨h0, ho, rfl⟩
  · next ho => exact op2A_words ⟨h0, ho, rfl⟩
  · next ho => exact op2B_words ⟨h0, ho, rfl⟩
  · next ho => exact op2C_words ⟨h0, ho, rfl⟩
  · next ho => exact op2D_words ⟨h0, ho, rfl⟩
  · next ho => exact op2E_words ⟨h0, ho, rfl⟩
  · next ho => exact op2F_words ⟨h0, ho, rfl⟩
  · next ho => exact op30_words ⟨h0, ho, rfl⟩
  · next ho => exact op31_words ⟨h0, ho, rfl⟩
  · next ho => exact op32_words ⟨h0, ho, rfl⟩
  · next ho => exact op33_words ⟨h0, ho, rfl⟩
  · next ho => exact op34_words ⟨h0, ho, rfl⟩
  · next ho => exact op35_words ⟨h0, ho, rfl⟩
  · next ho => exact op36_words ⟨h0, ho, rfl⟩
  · next ho => exact op38_words ⟨h0, ho, rfl⟩
  · next ho => exact op39_words ⟨h0, ho, rfl⟩
  · next ho => exact op3A_words ⟨h0, ho, rfl⟩
  · next ho => exact op3B_words ⟨h0, ho, rfl⟩
  · next ho => exact op3C_words ⟨h0, ho, rfl⟩
  · next ho => exact op3D_words ⟨h0, ho, rfl⟩
  · next ho => exact vecInt_words (lane := .w1) ⟨h0, ho, rfl⟩
  · next ho => exact vecInt_words (lane := .w2) ⟨h0, ho, rfl⟩
  · next ho => exact vecInt_words (lane := .w4) ⟨h0, ho, rfl⟩
  · next ho => exact vecInt_words (lane := .w8) ⟨h0, ho, rfl⟩
  · next ho => exact vecFp_words (f := .s) ⟨h0, ho, rfl⟩
  · next ho => exact vecFp_words (f := .d) ⟨h0, ho, rfl⟩
  · exact of_none

/-! ### Compact instructions (R101) -/

/-- The head of a compact word. -/
structure Compact (w : BitVec 32) (cop : Nat) : Prop where
  zero : bit w 0 = false
  cop : fld w 1 4 = cop

theorem compact_word {cop : Nat} (hh : Compact w cop) : w.toNat % 2 ^ 16 = fC cop (fld w 9 7) (fld w 5 4) :=
  (fC_iff.2 ⟨hh.zero, hh.cop, rfl, rfl⟩).1

/-- Bits [15:9] as a function of 3 bits and a register. -/
theorem hi_split : fld w 9 7 = 16 * fld w 13 3 + fld w 9 4 := by
  unfold fld
  omega

theorem cop0_words (hh : Compact w 0) (hd : decCop0 h w = some i) : WordOf (2, w.toNat % 2 ^ 16) i := by
  rw [compact_word hh, hi_split]
  revert hd
  unfold decCop0
  dsimp only
  refine of_branch (fun hc => ?_) ?_
  · obtain ⟨hf, hne⟩ := hc
    refine ⟨decide_eq_true fun he => hne ?_, ?_⟩
    · have hv := congrArg Fin.val he
      rw [val_fin16, val_fin16] at hv
      exact hv.symm
    · dsimp only [encode]
      rw [val_fin16, val_fin16, hf, Nat.mul_zero, Nat.zero_add]
  iterate 7
    refine of_branch ?_ ?_
    · intro hc
      refine ⟨rfl, ?_⟩
      dsimp only [encode]
      simp only [val_fin16, hc]
  exact of_none

theorem cop3_words (hh : Compact w 3) (hd : decCop3 h w = some i) : WordOf (2, w.toNat % 2 ^ 16) i := by
  rw [compact_word hh]
  revert hd
  unfold decCop3
  dsimp only
  iterate 3
    refine of_branch ?_ ?_
    · intro hc
      refine ⟨rfl, congrArg (fun x => some (2, x)) ?_⟩
      simp only [val_fin16, fC, BitVec.toNat_ofNat]
      omega
  exact of_none

theorem cop12_words (hh : Compact w 12) (hd : decCop12 h w = some i) : WordOf (2, w.toNat % 2 ^ 16) i := by
  refine of_some ?_ hd
  refine ⟨rfl, congrArg (fun x => some (2, x)) ?_⟩
  have h0 := (bit_false_iff 0).1 hh.zero
  have hc := hh.cop
  rw [val_imm]
  unfold fld at hc ⊢
  omega

theorem cop15_words (hh : Compact w 15) (hd : decCop15 h w = some i) : WordOf (2, w.toNat % 2 ^ 16) i := by
  rw [compact_word hh]
  revert hd
  refine of_branch (fun hc => ⟨rfl, ?_⟩) (of_branch (fun hc => ⟨rfl, ?_⟩) (of_branch (fun hc => ⟨rfl, ?_⟩) of_none))
  · rw [hc.1, hc.2]
    rfl
  · rw [hc.1, hc.2]
    rfl
  · dsimp only [encode]
    rw [val_imm, hc]

/-- A compact instruction on a register and a 7-bit immediate. -/
theorem imm7_words {cop : Nat} {f : Fin 16 → BitVec 7 → Instr} (hf : ∀ d x, WordOf (2, fC cop x.toNat d.val) (f d x))
    (hh : Compact w cop) (hd : some (f (Fin.ofNat 16 (fld w 5 4)) (BitVec.ofNat 7 (fld w 9 7))) = some i) :
    WordOf (2, w.toNat % 2 ^ 16) i := by
  rw [compact_word hh]
  have hw := hf (Fin.ofNat 16 (fld w 5 4)) (BitVec.ofNat 7 (fld w 9 7))
  rw [val_fin16, val_imm] at hw
  exact of_some hw hd

/-- A compact load or store. -/
theorem off3_words {cop : Nat} {f : Fin 16 → Fin 16 → BitVec 3 → Instr}
    (hf : ∀ d b x, WordOf (2, fC cop (16 * x.toNat + b.val) d.val) (f d b x)) (hh : Compact w cop)
    (hd : some (f (Fin.ofNat 16 (fld w 5 4)) (Fin.ofNat 16 (fld w 9 4)) (BitVec.ofNat 3 (fld w 13 3))) = some i) :
    WordOf (2, w.toNat % 2 ^ 16) i := by
  rw [compact_word hh, hi_split]
  have hw := hf (Fin.ofNat 16 (fld w 5 4)) (Fin.ofNat 16 (fld w 9 4)) (BitVec.ofNat 3 (fld w 13 3))
  rw [val_fin16, val_fin16, val_imm] at hw
  exact of_some hw hd

/-- A compact word that decodes is its instruction's halfword. -/
theorem decode16_words (h0 : bit w 0 = false) (hd : decode16 h w = some i) : WordOf (2, w.toNat % 2 ^ 16) i := by
  revert hd
  unfold decode16
  split
  · next ho => exact cop0_words ⟨h0, ho⟩
  · next ho => exact imm7_words (f := .addi16 h) (fun _ _ => ⟨rfl, rfl⟩) ⟨h0, ho⟩
  · next ho => exact imm7_words (f := .movi16 h) (fun _ _ => ⟨rfl, rfl⟩) ⟨h0, ho⟩
  · next ho => exact cop3_words ⟨h0, ho⟩
  · next ho => exact off3_words (f := .ldd16 h) (fun _ _ _ => ⟨rfl, rfl⟩) ⟨h0, ho⟩
  · next ho => exact off3_words (f := .std16 h) (fun _ _ _ => ⟨rfl, rfl⟩) ⟨h0, ho⟩
  · next ho => exact off3_words (f := .ldw16 h) (fun _ _ _ => ⟨rfl, rfl⟩) ⟨h0, ho⟩
  · next ho => exact off3_words (f := .stw16 h) (fun _ _ _ => ⟨rfl, rfl⟩) ⟨h0, ho⟩
  · next ho => exact imm7_words (f := .bz16 h) (fun _ _ => ⟨rfl, rfl⟩) ⟨h0, ho⟩
  · next ho => exact imm7_words (f := .bnz16 h) (fun _ _ => ⟨rfl, rfl⟩) ⟨h0, ho⟩
  · next ho => exact imm7_words (f := .bltz16 h) (fun _ _ => ⟨rfl, rfl⟩) ⟨h0, ho⟩
  · next ho => exact imm7_words (f := .bgez16 h) (fun _ _ => ⟨rfl, rfl⟩) ⟨h0, ho⟩
  · next ho => exact cop12_words ⟨h0, ho⟩
  · next ho => exact imm7_words (f := .in16 h) (fun _ _ => ⟨rfl, rfl⟩) ⟨h0, ho⟩
  · next ho => exact imm7_words (f := .out16 h) (fun _ _ => ⟨rfl, rfl⟩) ⟨h0, ho⟩
  · next ho => exact cop15_words ⟨h0, ho⟩
  · exact of_none

end
end Sys2Proof.Machine

/-!
SUPPORT. Decoding the word of an instruction gives the instruction back.
-/
namespace Sys2Proof.Machine
open Sys2Proof Sys2Proof.Safety

/-- The word of `i` decodes to `i`. -/
def Decodes (h : Hart) (i : Instr) : Prop := ∀ n w, encode i = some (n, w) → decodeWord h (BitVec.ofNat 32 w) = some (plain i)

theorem decodes_of {h : Hart} {i : Instr} {x : Nat} (he : encode i = some (4, x)) (hx : x < 2 ^ 32) (h1 : x % 2 = 1)
    (hd : ∀ w : BitVec 32, w.toNat = x → decode32 h w = some (plain i)) : Decodes h i := by
  intro n w hi
  rw [he] at hi
  obtain ⟨rfl, rfl⟩ := Prod.mk.inj (Option.some.inj hi)
  have hw : (BitVec.ofNat 32 x).toNat = x := val_bits hx
  rw [decodeWord, if_pos (bit_zero_iff.2 (hw.symm ▸ h1))]
  exact hd _ hw

theorem decodes16_of {h : Hart} {i : Instr} {x : Nat} (he : encode i = some (2, x)) (hx : x < 2 ^ 16) (h1 : x % 2 = 0)
    (hd : ∀ w : BitVec 32, w.toNat = x → decode16 h w = some (plain i)) : Decodes h i := by
  intro n w hi
  rw [he] at hi
  obtain ⟨rfl, rfl⟩ := Prod.mk.inj (Option.some.inj hi)
  have hw : (BitVec.ofNat 32 x).toNat = x := val_bits (by omega)
  rw [decodeWord, if_neg (by rw [bit_zero_iff, hw]; omega)]
  exact hd _ hw

section
variable {h : Hart} {i : Instr} {p : Fin 8} {op : Nat}

theorem decodes_R {fn b a d : Nat} (he : encode i = some (4, fR op fn b a d p)) (hop : op < 64) (hfn : fn < 128) (hb : b < 32)
    (ha : a < 32) (hd : d < 32) (hw : ∀ w, Head w op p → fld w 25 7 = fn → fld w 20 5 = b → fld w 15 5 = a → fld w 10 5 = d →
      decode32 h w = some (plain i)) : Decodes h i :=
  decodes_of he (by unfold fR; omega) (by unfold fR; omega) fun w hx => by
    obtain ⟨hh, h1, h2, h3, h4⟩ := (fR_iff hop).1 ⟨hx, hfn, hb, ha, hd⟩
    exact hw w hh h1 h2 h3 h4

theorem decodes_I {imm a d : Nat} (he : encode i = some (4, fI op imm a d p)) (hop : op < 64) (hi : imm < 4096) (ha : a < 32)
    (hd : d < 32) (hw : ∀ w, Head w op p → fld w 20 12 = imm → fld w 15 5 = a → fld w 10 5 = d → decode32 h w = some (plain i)) :
    Decodes h i :=
  decodes_of he (by unfold fI; omega) (by unfold fI; omega) fun w hx => by
    obtain ⟨hh, h1, h2, h3⟩ := (fI_iff hop).1 ⟨hx, hi, ha, hd⟩
    exact hw w hh h1 h2 h3

theorem decodes_U {imm d : Nat} (he : encode i = some (4, fU op imm d p)) (hop : op < 64) (hi : imm < 2 ^ 17) (hd : d < 32)
    (hw : ∀ w, Head w op p → fld w 15 17 = imm → fld w 10 5 = d → decode32 h w = some (plain i)) : Decodes h i :=
  decodes_of he (by unfold fU; omega) (by unfold fU; omega) fun w hx => by
    obtain ⟨hh, h1, h2⟩ := (fU_iff hop).1 ⟨hx, hi, hd⟩
    exact hw w hh h1 h2

theorem decodes_B {x : Nat} (he : encode i = some (4, fB op x p)) (hop : op < 64) (hx : x < 2 ^ 22)
    (hw : ∀ w, Head w op p → fld w 10 22 = x → decode32 h w = some (plain i)) : Decodes h i :=
  decodes_of he (by unfold fB; omega) (by unfold fB; omega) fun w hn => by
    obtain ⟨hh, h1⟩ := (fB_iff hop).1 ⟨hn, hx⟩
    exact hw w hh h1

theorem decodes_P {port d : Nat} (he : encode i = some (4, fP op port d p)) (hop : op < 64) (hp : port < 2 ^ 16) (hd : d < 32)
    (hw : ∀ w, Head w op p → fld w 16 16 = port → fld w 10 5 = d → bit w 15 = false → decode32 h w = some (plain i)) : Decodes h i :=
  decodes_of he (by unfold fP; omega) (by unfold fP; omega) fun w hx => by
    obtain ⟨hh, h1, h2, h3⟩ := (fP_iff hop).1 ⟨hx, hp, hd⟩
    exact hw w hh h1 h2 h3

theorem decodes_S {sub imm8 : Nat} (he : encode i = some (4, fS sub imm8 p)) (hs : sub < 16) (hi : imm8 < 256)
    (hw : ∀ w, Head w 0x30 p → fld w 20 4 = sub → fld w 24 8 = imm8 → fld w 15 5 = 0 → fld w 10 5 = 0 →
      decode32 h w = some (plain i)) : Decodes h i :=
  decodes_of he (by unfold fS; omega) (by unfold fS; omega) fun w hx => by
    obtain ⟨hh, h1, h2, h3, h4⟩ := fS_iff.1 ⟨hx, hs, hi⟩
    exact hw w hh h1 h2 h3 h4

theorem decodes_V {fn m b a d : Nat} (he : encode i = some (4, fV op fn m b a d p)) (hop : op < 64) (hfn : fn < 16) (hm : m < 8)
    (hb : b < 32) (ha : a < 32) (hd : d < 32) (hw : ∀ w, Head w op p → fld w 28 4 = fn → fld w 25 3 = m → fld w 20 5 = b →
      fld w 15 5 = a → fld w 10 5 = d → decode32 h w = some (plain i)) : Decodes h i :=
  decodes_of he (by unfold fV; omega) (by unfold fV; omega) fun w hx => by
    obtain ⟨hh, h1, h2, h3, h4, h5⟩ := (fV_iff hop).1 ⟨hx, hfn, hm, hb, ha, hd⟩
    exact hw w hh h1 h2 h3 h4 h5

theorem decodes_C {cop hi d : Nat} (he : encode i = some (2, fC cop hi d)) (hc : cop < 16) (hh : hi < 128) (hd : d < 16)
    (hw : ∀ w, fld w 1 4 = cop → fld w 9 7 = hi → fld w 5 4 = d → decode16 h w = some (plain i)) : Decodes h i :=
  decodes16_of he (by unfold fC; omega) (by unfold fC; omega) fun w hx => by
    have hlt : fC cop hi d < 2 ^ 16 := by unfold fC; omega
    obtain ⟨-, h1, h2, h3⟩ := fC_iff.1 ⟨(congrArg (· % 2 ^ 16) hx).trans (Nat.mod_eq_of_lt hlt), hc, hh, hd⟩
    exact hw w h1 h2 h3

end

theorem ofNat_toNat_eq {k : Nat} (x : BitVec k) : BitVec.ofNat k x.toNat = x := by rw [BitVec.ofNat_toNat, BitVec.setWidth_eq]

section
variable (h : Hart) (p : Fin 8)

theorem alu_decodes (d a b : Fin 32) :
    Decodes h (.add h p d a b) ∧ Decodes h (.sub h p d a b) ∧ Decodes h (.and h p d a b) ∧ Decodes h (.or h p d a b)
    ∧ Decodes h (.xor h p d a b) ∧ Decodes h (.andn h p d a b) ∧ Decodes h (.shl h p d a b) ∧ Decodes h (.shr h p d a b)
    ∧ Decodes h (.sar h p d a b) ∧ Decodes h (.ror h p d a b) ∧ Decodes h (.mul h p d a b) ∧ Decodes h (.mulh h p d a b)
    ∧ Decodes h (.mulhu h p d a b) ∧ Decodes h (.div h p d a b) ∧ Decodes h (.divu h p d a b) ∧ Decodes h (.rem h p d a b)
    ∧ Decodes h (.remu h p d a b) ∧ Decodes h (.min h p d a b) ∧ Decodes h (.max h p d a b) ∧ Decodes h (.minu h p d a b)
    ∧ Decodes h (.maxu h p d a b) := by
  and_intros
  all_goals
    refine decodes_R rfl (by decide) (by decide) b.isLt a.isLt d.isLt fun w hh h1 h2 h3 h4 => ?_
    rw [decode32, hh.op, hh.p]
    simp only [decOp01, h1, h2, h3, h4, Fin.ofNat_val_eq_self]
    rfl

theorem unary_decodes (d a : Fin 32) :
    Decodes h (.clz h p d a) ∧ Decodes h (.ctz h p d a) ∧ Decodes h (.popc h p d a) ∧ Decodes h (.sextb h p d a)
    ∧ Decodes h (.sexth h p d a) ∧ Decodes h (.sextw h p d a) ∧ Decodes h (.zextw h p d a) := by
  and_intros
  all_goals
    refine decodes_R rfl (by decide) (by decide) (by decide) a.isLt d.isLt fun w hh h1 h2 h3 h4 => ?_
    rw [decode32, hh.op, hh.p]
    simp only [decOp01, h1, h2, h3, h4, Fin.ofNat_val_eq_self]
    rfl

theorem imm_decodes (d a : Fin 32) (imm : BitVec 12) :
    Decodes h (.addi h p d a imm) ∧ Decodes h (.andi h p d a imm) ∧ Decodes h (.ori h p d a imm) ∧ Decodes h (.xori h p d a imm)
    ∧ Decodes h (.ldb h p d a imm) ∧ Decodes h (.ldbu h p d a imm) ∧ Decodes h (.ldh h p d a imm) ∧ Decodes h (.ldhu h p d a imm)
    ∧ Decodes h (.ldw h p d a imm) ∧ Decodes h (.ldwu h p d a imm) ∧ Decodes h (.ldd h p d a imm) ∧ Decodes h (.stb h p d a imm)
    ∧ Decodes h (.sth h p d a imm) ∧ Decodes h (.stw h p d a imm) ∧ Decodes h (.std h p d a imm) ∧ Decodes h (.vld h p d a imm)
    ∧ Decodes h (.vst h p d a imm) := by
  and_intros
  all_goals
    refine decodes_I rfl (by decide) imm.isLt a.isLt d.isLt fun w hh h1 h2 h3 => ?_
    rw [decode32, hh.op, hh.p]
    simp only [decOp02, decOp03, decOp04, decOp05, decOp14, decOp15, decOp16, decOp17, decOp18, decOp19, decOp1A, decOp1B, decOp1C, decOp1D, decOp1E, decOp1F, decOp20, h1, h2, h3,
      Fin.ofNat_val_eq_self, ofNat_toNat_eq]
    rfl

/-- A field whose low bits hold `x`. -/
theorem low_val {k y : Nat} (x : BitVec k) (hy : y % 2 ^ k = x.toNat) : BitVec.ofNat k y = x :=
  BitVec.eq_of_toNat_eq ((BitVec.toNat_ofNat y k).trans hy)

theorem shli_decodes (d a : Fin 32) (n : BitVec 6) : Decodes h (.shli h p d a n) := by
  have hv : BitVec.ofNat 6 (0 + n.toNat) = n := low_val n (by omega)
  have hk : (0 + n.toNat) / 64 = 0 := by omega
  refine decodes_I (imm := 0 + n.toNat) rfl (by decide) (by omega) a.isLt d.isLt fun w hh h1 h2 h3 => ?_
  rw [decode32, hh.op, hh.p]
  simp only [decOp06, h1, h2, h3, hk, hv, Fin.ofNat_val_eq_self]
  rfl

theorem shri_decodes (d a : Fin 32) (n : BitVec 6) : Decodes h (.shri h p d a n) := by
  have hv : BitVec.ofNat 6 (1024 + n.toNat) = n := low_val n (by omega)
  have hk : (1024 + n.toNat) / 64 = 16 := by omega
  refine decodes_I (imm := 1024 + n.toNat) rfl (by decide) (by omega) a.isLt d.isLt fun w hh h1 h2 h3 => ?_
  rw [decode32, hh.op, hh.p]
  simp only [decOp06, h1, h2, h3, hk, hv, Fin.ofNat_val_eq_self]
  rfl

theorem sari_decodes (d a : Fin 32) (n : BitVec 6) : Decodes h (.sari h p d a n) := by
  have hv : BitVec.ofNat 6 (2048 + n.toNat) = n := low_val n (by omega)
  have hk : (2048 + n.toNat) / 64 = 32 := by omega
  refine decodes_I (imm := 2048 + n.toNat) rfl (by decide) (by omega) a.isLt d.isLt fun w hh h1 h2 h3 => ?_
  rw [decode32, hh.op, hh.p]
  simp only [decOp06, h1, h2, h3, hk, hv, Fin.ofNat_val_eq_self]
  rfl

theorem rori_decodes (d a : Fin 32) (n : BitVec 6) : Decodes h (.rori h p d a n) := by
  have hv : BitVec.ofNat 6 (3072 + n.toNat) = n := low_val n (by omega)
  have hk : (3072 + n.toNat) / 64 = 48 := by omega
  refine decodes_I (imm := 3072 + n.toNat) rfl (by decide) (by omega) a.isLt d.isLt fun w hh h1 h2 h3 => ?_
  rw [decode32, hh.op, hh.p]
  simp only [decOp06, h1, h2, h3, hk, hv, Fin.ofNat_val_eq_self]
  rfl

theorem movi_decodes (d : Fin 32) (x : BitVec 17) : Decodes h (.movi h p d x) := by
  refine decodes_U rfl (by decide) x.isLt d.isLt fun w hh h1 h2 => ?_
  rw [decode32, hh.op, hh.p]
  simp only [decOp07, h1, h2, Fin.ofNat_val_eq_self, ofNat_toNat_eq]
  rfl

theorem movsh_decodes (d : Fin 32) (x : BitVec 16) : Decodes h (.movsh h p d x) := by
  refine decodes_U rfl (by decide) (by omega) d.isLt fun w hh h1 h2 => ?_
  have hb : bit w 31 = false := by
    rw [bit_false_iff]
    unfold fld at h1
    omega
  rw [decode32, hh.op, hh.p]
  simp only [decOp08, h1, h2, hb, Fin.ofNat_val_eq_self, ofNat_toNat_eq]
  rfl

theorem cmp_decodes (c : CmpCond) (d : Fin 8) (a b : Fin 32) : Decodes h (.cmp h p c d a b) := by
  have hc : cmpCode c < 6 := by cases c <;> decide
  have hv : cmpOf (cmpCode c) = c := by cases c <;> rfl
  refine decodes_R rfl (by decide) (by omega) b.isLt a.isLt (by omega) fun w hh h1 h2 h3 h4 => ?_
  rw [decode32, hh.op, hh.p]
  simp only [decOp09, h1, h2, h3, h4, Fin.ofNat_val_eq_self, hv]
  exact if_pos ⟨d.isLt, hc⟩

theorem cmpi_decodes (c : CmpiCond) (d : Fin 8) (a : Fin 32) (x : BitVec 12) : Decodes h (.cmpi h p c d a x) := by
  have hc : cmpiCode c < 4 := by cases c <;> decide
  have hv : cmpiOf (cmpiCode c) = c := by cases c <;> rfl
  refine decodes_I rfl (by decide) x.isLt a.isLt (by omega) fun w hh h1 h2 h3 => ?_
  have hd : Fin.ofNat 8 (8 * cmpiCode c + d.val) = d := Fin.ext (by simp only [Fin.ofNat]; omega)
  have hq : (8 * cmpiCode c + d.val) / 8 = cmpiCode c := by omega
  rw [decode32, hh.op, hh.p]
  simp only [decOp0A, h1, h2, h3, hd, hq, hv, Fin.ofNat_val_eq_self, ofNat_toNat_eq]
  rfl

theorem plogic_decodes (d a b : Fin 8) :
    Decodes h (.pand h p d a b) ∧ Decodes h (.por h p d a b) ∧ Decodes h (.pxor h p d a b) ∧ Decodes h (.pandn h p d a b) := by
  and_intros
  all_goals
    refine decodes_R rfl (by decide) (by decide) (by omega) (by omega) (by omega) fun w hh h1 h2 h3 h4 => ?_
    rw [decode32, hh.op, hh.p]
    simp [decOp0B, h1, h2, h3, h4, plain]

theorem pmove_decodes (d a : Fin 8) :
    Decodes h (.pnot h p d a) ∧ Decodes h (.pmov h p d a) := by
  and_intros
  all_goals
    refine decodes_R rfl (by decide) (by decide) (by decide) (by omega) (by omega) fun w hh h1 h2 h3 h4 => ?_
    rw [decode32, hh.op, hh.p]
    simp [decOp0B, h1, h2, h3, h4, plain]

theorem fp_decodes (f : FpFmt) (d a b : Fin 32) :
    Decodes h (.fadd h p f d a b) ∧ Decodes h (.fsub h p f d a b) ∧ Decodes h (.fmul h p f d a b) ∧ Decodes h (.fdiv h p f d a b)
    ∧ Decodes h (.fmin h p f d a b) ∧ Decodes h (.fmax h p f d a b) := by
  and_intros
  all_goals
    cases f
    all_goals
      refine decodes_R rfl (by decide) (by decide) b.isLt a.isLt d.isLt fun w hh h1 h2 h3 h4 => ?_
      rw [decode32, hh.op, hh.p]
      simp only [decOp0C, h1, h2, h3, h4, Fin.ofNat_val_eq_self]
      rfl

theorem fpUnary_decodes (f : FpFmt) (d a : Fin 32) :
    Decodes h (.fsqrt h p f d a) ∧ Decodes h (.fabs h p f d a) ∧ Decodes h (.fneg h p f d a) ∧ Decodes h (.fcvt h p f d a)
    ∧ Decodes h (.fcvti h p f d a) ∧ Decodes h (.fcvtu h p f d a) ∧ Decodes h (.icvtf h p f d a) ∧ Decodes h (.ucvtf h p f d a)
    ∧ Decodes h (.fclass h p f d a) := by
  and_intros
  all_goals
    cases f
    all_goals
      refine decodes_R rfl (by decide) (by decide) (by decide) a.isLt d.isLt fun w hh h1 h2 h3 h4 => ?_
      rw [decode32, hh.op, hh.p]
      simp only [decOp0C, h1, h2, h3, h4, Fin.ofNat_val_eq_self]
      rfl

theorem fma_decodes (f : FpFmt) (d a b : Fin 32) :
    Decodes h (.fma h p f d a b) ∧ Decodes h (.fnma h p f d a b) := by
  and_intros
  all_goals
    cases f
    all_goals
      refine decodes_R rfl (by decide) (by decide) b.isLt a.isLt d.isLt fun w hh h1 h2 h3 h4 => ?_
      rw [decode32, hh.op, hh.p]
      simp only [decOp0D, h1, h2, h3, h4, Fin.ofNat_val_eq_self]
      rfl

theorem fcmp_decodes (c : FcmpCond) (f : FpFmt) (d : Fin 8) (a b : Fin 32) : Decodes h (.fcmp h p c f d a b) := by
  have hc : fcmpCode c < 4 := by cases c <;> decide
  have hv : fcmpOf (fcmpCode c) = c := by cases c <;> rfl
  have hf : fmtCode f < 2 := by cases f <;> decide
  have hfv : fmtOf (fmtCode f) = f := by cases f <;> rfl
  refine decodes_R rfl (by decide) (by omega) b.isLt a.isLt (by omega) fun w hh h1 h2 h3 h4 => ?_
  have hq : (fcmpCode c + 64 * fmtCode f) / 64 = fmtCode f := by omega
  have hr : (fcmpCode c + 64 * fmtCode f) % 64 = fcmpCode c := by omega
  rw [decode32, hh.op, hh.p]
  simp only [decOp0E, h1, h2, h3, h4, hq, hr, hv, hfv, Fin.ofNat_val_eq_self]
  exact if_pos ⟨d.isLt, hc⟩

theorem branch_decodes (x : BitVec 22) : Decodes h (.br h p x) ∧ Decodes h (.call h p x) := by
  and_intros
  all_goals
    refine decodes_B rfl (by decide) x.isLt fun w hh h1 => ?_
    rw [decode32, hh.op, hh.p]
    simp only [decOp10, decOp11, h1, ofNat_toNat_eq]
    rfl

theorem jmp_decodes (a : Fin 32) : Decodes h (.jmp h p a) := by
  refine decodes_R rfl (by decide) (by decide) (by decide) a.isLt (by decide) fun w hh h1 h2 h3 h4 => ?_
  rw [decode32, hh.op, hh.p]
  simp only [decOp12, h1, h2, h3, h4, Fin.ofNat_val_eq_self]
  rfl

theorem regs_decodes (d a : Fin 32) :
    Decodes h (.jmpl h p d a) ∧ Decodes h (.inr h p d a) ∧ Decodes h (.outr h p d a) := by
  and_intros
  all_goals
    refine decodes_R rfl (by decide) (by decide) (by decide) a.isLt d.isLt fun w hh h1 h2 h3 h4 => ?_
    rw [decode32, hh.op, hh.p]
    simp only [decOp12, decOp2A, decOp2B, h1, h2, h3, h4, Fin.ofNat_val_eq_self]
    rfl

theorem port_decodes (d : Fin 32) (x : BitVec 16) :
    Decodes h (.portIn h p d x) ∧ Decodes h (.portOut h p d x) := by
  and_intros
  all_goals
    refine decodes_P rfl (by decide) x.isLt d.isLt fun w hh h1 h2 h3 => ?_
    rw [decode32, hh.op, hh.p]
    simp only [decOp28, decOp29, h1, h2, h3, Fin.ofNat_val_eq_self, ofNat_toNat_eq]
    rfl

end
end Sys2Proof.Machine

/-!
SUPPORT. Decoding the words of the block, system, vector, tile and compact instructions.
-/
namespace Sys2Proof.Machine
open Sys2Proof Sys2Proof.Safety

section
variable (h : Hart) (p : Fin 8)

/-- Three distinct registers have distinct numbers. -/
theorem distinct3_vals {d a b : Fin 32} (hw : distinct3 d a b = true) : d.val ≠ a.val ∧ d.val ≠ b.val ∧ a.val ≠ b.val := by
  simp only [distinct3, Bool.and_eq_true, decide_eq_true_iff] at hw
  obtain ⟨⟨h1, h2⟩, h3⟩ := hw
  exact ⟨fun e => h1 (Fin.ext e), fun e => h2 (Fin.ext e), fun e => h3 (Fin.ext e)⟩

theorem block_decodes (sz : ElemSize) {d a b : Fin 32} (hw : distinct3 d a b = true) :
    Decodes h (.smove h p sz d a b) ∧ Decodes h (.sfill h p sz d a b) ∧ Decodes h (.scmp h p sz d a b)
    ∧ Decodes h (.sscan h p sz d a b) := by
  obtain ⟨n1, n2, n3⟩ := distinct3_vals hw
  have hq : sizeCode sz < 4 := by cases sz <;> decide
  have hv : sizeOf (sizeCode sz % 4) = sz := by cases sz <;> rfl
  have hz : sizeCode sz / 4 = 0 := by omega
  and_intros
  all_goals
    refine decodes_R rfl (by decide) (by omega) b.isLt a.isLt d.isLt fun w hh h1 h2 h3 h4 => ?_
    rw [decode32, hh.op, hh.p]
    simp [decOp38, decOp39, decOp3A, decOp3B, h1, h2, h3, h4, hv, hz, n1, n2, n3, plain]

theorem sscann_decodes (sz : ElemSize) {d a b : Fin 32} (hw : distinct3 d a b = true) : Decodes h (.sscann h p sz d a b) := by
  obtain ⟨n1, n2, n3⟩ := distinct3_vals hw
  have hq : sizeCode sz < 4 := by cases sz <;> decide
  have hv : sizeOf (sizeCode sz % 4) = sz := by cases sz <;> rfl
  have hz : (sizeCode sz + 4) / 4 = 1 := by omega
  refine decodes_R rfl (by decide) (by omega) b.isLt a.isLt d.isLt fun w hh h1 h2 h3 h4 => ?_
  rw [decode32, hh.op, hh.p]
  simp [decOp3B, h1, h2, h3, h4, hv, hz, n1, n2, n3, plain]

theorem codeSpace_decodes {d a b : Fin 32} (hw : distinct3 d a b = true) :
    Decodes h (.cload h p d a b) ∧ Decodes h (.cread h p d a b) := by
  obtain ⟨n1, n2, n3⟩ := distinct3_vals hw
  and_intros
  all_goals
    refine decodes_R rfl (by decide) (by decide) b.isLt a.isLt d.isLt fun w hh h1 h2 h3 h4 => ?_
    rw [decode32, hh.op, hh.p]
    simp [decOp3C, decOp3D, h1, h2, h3, h4, n1, n2, n3, plain]

theorem send_decodes (q : Fin 16) {a : Fin 32} (b : Fin 32) (ha : a.val % 2 = 0) : Decodes h (.send h p q a b) := by
  refine decodes_R rfl (by decide) (by decide) b.isLt a.isLt (by omega) fun w hh h1 h2 h3 h4 => ?_
  rw [decode32, hh.op, hh.p]
  simp [decOp36, h1, h2, h3, h4, ha, plain]

theorem system_decodes (n : BitVec 8) (k : Fin 8) : Decodes h (.nop h p) ∧ Decodes h (.fence h p k) ∧ Decodes h (.trap h p n) := by
  and_intros
  all_goals
    refine decodes_S rfl (by decide) (by omega) fun w hh h1 h2 h3 h4 => ?_
    rw [decode32, hh.op, hh.p]
    simp [decOp30, h1, h2, h3, h4, plain]

theorem rett_decodes : Decodes h (.rett h) := by
  refine decodes_S (p := 0) rfl (by decide) (by decide) fun w hh h1 h2 h3 h4 => ?_
  rw [decode32, hh.op, hh.p]
  simp only [decOp30, h1, h2, h3, h4]
  rfl

theorem hold_decodes {n : BitVec 17} (h1 : 1 ≤ n.toNat) (h2 : n.toNat ≤ 512) : Decodes h (.hold h n) := by
  refine decodes_U (p := 0) rfl (by decide) n.isLt (by decide) fun w hh h3 h4 => ?_
  rw [decode32, hh.op, hh.p]
  simp [decOp31, h3, h4, h1, h2, plain]

theorem moves3_decodes (m : Fin 8) (d a b : Fin 32) :
    Decodes h (.vrotb h p m d a b) ∧ Decodes h (.vsel h p m d a b) := by
  and_intros
  all_goals
    refine decodes_V rfl (by decide) (by decide) m.isLt b.isLt a.isLt d.isLt fun w hh h1 h2 h3 h4 h5 => ?_
    rw [decode32, hh.op, hh.p]
    simp only [decOp21, h1, h2, h3, h4, h5, Fin.ofNat_val_eq_self]
    rfl

theorem vmov_decodes (m : Fin 8) (d a : Fin 32) :
    Decodes h (.vmov h p m d a) := by
  refine decodes_V rfl (by decide) (by decide) m.isLt (by decide) a.isLt d.isLt fun w hh h1 h2 h3 h4 h5 => ?_
  rw [decode32, hh.op, hh.p]
  simp only [decOp21, h1, h2, h3, h4, h5, Fin.ofNat_val_eq_self]
  rfl

theorem vbcast_decodes (m : Fin 8) (l : LaneW) (d a : Fin 32) : Decodes h (.vbcast h p m l d a) := by
  have hl : laneCode l < 4 := by cases l <;> decide
  have hv : laneOf (laneCode l) = l := by cases l <;> rfl
  refine decodes_V rfl (by decide) (by decide) m.isLt (by omega) a.isLt d.isLt fun w hh h1 h2 h3 h4 h5 => ?_
  rw [decode32, hh.op, hh.p]
  simp [decOp21, h1, h2, h3, h4, h5, hv, hl, plain]

theorem elements_decodes (d a : Fin 32) (i : Fin 8) :
    Decodes h (.vext h p d a i) ∧ Decodes h (.vins h p d a i) := by
  and_intros
  all_goals
    refine decodes_V rfl (by decide) (by decide) (by decide) (by omega) a.isLt d.isLt fun w hh h1 h2 h3 h4 h5 => ?_
    rw [decode32, hh.op, hh.p]
    simp [decOp21, h1, h2, h3, h4, h5, plain]

theorem vtot_decodes (d : Fin 8) (a : Fin 32) (r : Fin 16) :
    Decodes h (.vtot h p d a r) := by
  refine decodes_V rfl (by decide) (by decide) (by decide) (by omega) a.isLt (by omega) fun w hh h1 h2 h3 h4 h5 => ?_
  rw [decode32, hh.op, hh.p]
  simp [decOp21, h1, h2, h3, h4, h5, plain]

theorem vfromt_decodes (d : Fin 32) (a : Fin 8) (r : Fin 16) (x : List Nat) :
    Decodes h (.vfromt h p d a r x) := by
  refine decodes_V rfl (by decide) (by decide) (by decide) (by omega) (by omega) d.isLt fun w hh h1 h2 h3 h4 h5 => ?_
  rw [decode32, hh.op, hh.p]
  simp [decOp21, h1, h2, h3, h4, h5, plain]

theorem mfromg_decodes (d : Fin 8) (a : Fin 32) :
    Decodes h (.mfromg h p d a) := by
  refine decodes_V rfl (by decide) (by decide) (by decide) (by decide) a.isLt (by omega) fun w hh h1 h2 h3 h4 h5 => ?_
  rw [decode32, hh.op, hh.p]
  simp [decOp21, h1, h2, h3, h4, h5, plain]

theorem mtog_decodes (d : Fin 32) (a : Fin 8) :
    Decodes h (.mtog h p d a) := by
  refine decodes_V rfl (by decide) (by decide) (by decide) (by decide) (by omega) d.isLt fun w hh h1 h2 h3 h4 h5 => ?_
  rw [decode32, hh.op, hh.p]
  simp [decOp21, h1, h2, h3, h4, h5, plain]

theorem vtz_decodes (m d : Fin 8) (a : Fin 32) :
    Decodes h (.vtz h p m d a) := by
  refine decodes_V rfl (by decide) (by decide) m.isLt (by decide) a.isLt (by omega) fun w hh h1 h2 h3 h4 h5 => ?_
  rw [decode32, hh.op, hh.p]
  simp [decOp21, h1, h2, h3, h4, h5, plain]

theorem mlog_decodes {op : MaskOp} (d a : Fin 8) {b : Fin 8} (hb : op = .not → b = 0) : Decodes h (.mlog h p op d a b) := by
  have hm : mopCode op < 5 := by cases op <;> decide
  have hv : mopOf (mopCode op) = op := by cases op <;> rfl
  have hz : mopCode op = 4 → b = 0 := fun e => hb (by rw [← hv, e]; rfl)
  refine decodes_V rfl (by decide) (by decide) (by omega) (by omega) (by omega) (by omega) fun w hh h1 h2 h3 h4 h5 => ?_
  rw [decode32, hh.op, hh.p]
  simp [decOp21, h1, h2, h3, h4, h5, hv, hm, plain]
  exact hz

theorem tinfo_decodes (d : Fin 32) {k : Fin 32} (hk : k.val ≤ 8 ∨ 16 ≤ k.val ∧ k.val ≤ 23) : Decodes h (.tinfo h p d k) := by
  refine decodes_V rfl (by decide) (by decide) (by decide) k.isLt (by decide) d.isLt fun w hh h1 h2 h3 h4 h5 => ?_
  rw [decode32, hh.op, hh.p]
  simp [decOp21, h1, h2, h3, h4, h5, hk, plain]

theorem vzbm_decodes (d a : Fin 32) {k : Fin 8} (h6 : 2 ≤ k.val) (h7 : k.val ≤ 6) : Decodes h (.vzbm h p d a k) := by
  refine decodes_V rfl (by decide) (by decide) (by decide) (by omega) a.isLt d.isLt fun w hh h1 h2 h3 h4 h5 => ?_
  rw [decode32, hh.op, hh.p]
  simp [decOp21, h1, h2, h3, h4, h5, h6, h7, plain]

theorem decode32_vecInt {h : Hart} {p : Fin 8} {l : LaneW} {w : BitVec 32} (hh : Head w (0x22 + laneCode l) p) :
    decode32 h w = decVecInt h p l w := by
  rw [decode32, hh.op, hh.p]
  cases l <;> rfl

theorem decode32_vecFp {h : Hart} {p : Fin 8} {f : FpFmt} {w : BitVec 32} (hh : Head w (0x27 - fmtCode f) p) :
    decode32 h w = decVecFp h p f w := by
  rw [decode32, hh.op, hh.p]
  cases f <;> rfl

theorem vecInt_op (l : LaneW) : 0x22 + laneCode l < 64 := by cases l <;> decide

theorem vecFp_op (f : FpFmt) : 0x27 - fmtCode f < 64 := by cases f <;> decide

theorem vecInt_decodes (l : LaneW) (m : Fin 8) (d a b : Fin 32) :
    Decodes h (.vadd h p l m d a b) ∧ Decodes h (.vsub h p l m d a b) ∧ Decodes h (.vmul h p l m d a b)
    ∧ Decodes h (.vmin h p l m d a b) ∧ Decodes h (.vmax h p l m d a b) ∧ Decodes h (.vminu h p l m d a b)
    ∧ Decodes h (.vmaxu h p l m d a b) ∧ Decodes h (.vand h p l m d a b) ∧ Decodes h (.vor h p l m d a b)
    ∧ Decodes h (.vxor h p l m d a b) ∧ Decodes h (.vshl h p l m d a b) ∧ Decodes h (.vshr h p l m d a b)
    ∧ Decodes h (.vsar h p l m d a b) := by
  and_intros
  all_goals
    refine decodes_V rfl (vecInt_op l) (by decide) m.isLt b.isLt a.isLt d.isLt fun w hh h1 h2 h3 h4 h5 => ?_
    rw [decode32_vecInt hh]
    simp only [decVecInt, h1, h2, h3, h4, h5, Fin.ofNat_val_eq_self]
    rfl

theorem vecCmp_decodes (l : LaneW) (m d : Fin 8) (a b : Fin 32) :
    Decodes h (.vcmpeq h p l m d a b) ∧ Decodes h (.vcmplt h p l m d a b) ∧ Decodes h (.vcmpltu h p l m d a b) := by
  and_intros
  all_goals
    refine decodes_V rfl (vecInt_op l) (by decide) m.isLt b.isLt a.isLt (by omega) fun w hh h1 h2 h3 h4 h5 => ?_
    rw [decode32_vecInt hh]
    simp [decVecInt, h1, h2, h3, h4, h5, plain]

theorem vecFp_decodes (f : FpFmt) (m : Fin 8) (d a b : Fin 32) :
    Decodes h (.vfadd h p f m d a b) ∧ Decodes h (.vfsub h p f m d a b) ∧ Decodes h (.vfmul h p f m d a b)
    ∧ Decodes h (.vfdiv h p f m d a b) ∧ Decodes h (.vfma h p f m d a b) ∧ Decodes h (.vfnma h p f m d a b)
    ∧ Decodes h (.vfmin h p f m d a b) ∧ Decodes h (.vfmax h p f m d a b) := by
  and_intros
  all_goals
    refine decodes_V rfl (vecFp_op f) (by decide) m.isLt b.isLt a.isLt d.isLt fun w hh h1 h2 h3 h4 h5 => ?_
    rw [decode32_vecFp hh]
    simp only [decVecFp, h1, h2, h3, h4, h5, Fin.ofNat_val_eq_self]
    rfl

theorem vecFpUnary_decodes (f : FpFmt) (m : Fin 8) (d a : Fin 32) :
    Decodes h (.vfsqrt h p f m d a) ∧ Decodes h (.vfabs h p f m d a) ∧ Decodes h (.vfneg h p f m d a) := by
  and_intros
  all_goals
    refine decodes_V rfl (vecFp_op f) (by decide) m.isLt (by decide) a.isLt d.isLt fun w hh h1 h2 h3 h4 h5 => ?_
    rw [decode32_vecFp hh]
    simp only [decVecFp, h1, h2, h3, h4, h5, Fin.ofNat_val_eq_self]
    rfl

theorem vecFpCmp_decodes (f : FpFmt) (m d : Fin 8) (a b : Fin 32) :
    Decodes h (.vfcmpeq h p f m d a b) ∧ Decodes h (.vfcmplt h p f m d a b) ∧ Decodes h (.vfcmple h p f m d a b)
    ∧ Decodes h (.vfcmpun h p f m d a b) := by
  and_intros
  all_goals
    refine decodes_V rfl (vecFp_op f) (by decide) m.isLt b.isLt a.isLt (by omega) fun w hh h1 h2 h3 h4 h5 => ?_
    rw [decode32_vecFp hh]
    simp [decVecFp, h1, h2, h3, h4, h5, plain]

theorem conversions_decodes (m : Fin 8) (d a : Fin 32) :
    Decodes h (.vcvtis h p m d a) ∧ Decodes h (.vcvtsi h p m d a) ∧ Decodes h (.vcvtld h p m d a) ∧ Decodes h (.vcvtdl h p m d a)
    ∧ Decodes h (.vunpkt2 h p m d a) ∧ Decodes h (.vpackt2 h p m d a) := by
  and_intros
  all_goals
    refine decodes_V rfl (by decide) (by decide) m.isLt (by decide) a.isLt d.isLt fun w hh h1 h2 h3 h4 h5 => ?_
    rw [decode32, hh.op, hh.p]
    simp only [decOp35, h1, h2, h3, h4, h5, Fin.ofNat_val_eq_self]
    rfl

theorem vcvts_decodes {f : Fin 16} (m : Fin 8) (d a : Fin 32) (hf : f.val < 12) (hn : f.val ≠ 1) : Decodes h (.vcvts h p f m d a) := by
  refine decodes_V rfl (by decide) (by decide) m.isLt (by omega) a.isLt d.isLt fun w hh h1 h2 h3 h4 h5 => ?_
  rw [decode32, hh.op, hh.p]
  simp [decOp35, h1, h2, h3, h4, h5, hf, hn, plain]

theorem vcvtf_decodes {f : Fin 16} {sr : Bool} (m : Fin 8) (d a : Fin 32) (hf : f.val < 12) (hn : f.val ≠ 1)
    (hs : sr = true → 2 ≤ f.val) : Decodes h (.vcvtf h p f sr m d a) := by
  have hq : (f.val + 16 * b2n sr) % 16 = f.val := by omega
  have hv : Fin.ofNat 16 (f.val + 16 * b2n sr) = f := Fin.ext hq
  have hb : b2n sr < 2 := by cases sr <;> decide
  have hs' : 16 ≤ f.val + 16 * b2n sr → 2 ≤ f.val := fun e => hs (by
    cases sr with
    | true => rfl
    | false => exact absurd e (Nat.not_le.2 f.isLt))
  have hd : decide (16 ≤ f.val + 16 * b2n sr) = sr := by
    cases sr with
    | true => exact decide_eq_true (Nat.le_add_left ..)
    | false => exact decide_eq_false (Nat.not_le.2 f.isLt)
  refine decodes_V rfl (by decide) (by decide) m.isLt (by omega) a.isLt d.isLt fun w hh h1 h2 h3 h4 h5 => ?_
  rw [decode32, hh.op, hh.p]
  simp only [decOp35, h1, h2, h3, h4, h5, hq, hv, hd, Fin.ofNat_val_eq_self]
  exact (if_neg fun c => absurd c.1 (by decide)).trans (if_pos ⟨trivial, hf, hn, hs'⟩)

theorem tcfg_decodes (a : Fin 32) {x : BitVec 8} (hx : x ≠ 0) : Decodes h (.tcfg h p a x) := by
  have hx' : x.toNat ≠ 0 := fun e => hx (BitVec.eq_of_toNat_eq e)
  refine decodes_I rfl (by decide) (by omega) a.isLt (by decide) fun w hh h1 h2 h3 => ?_
  rw [decode32, hh.op, hh.p]
  simp [decOp2C, h1, h2, h3, x.isLt, hx', plain]

theorem trel_decodes (x : BitVec 8) : Decodes h (.trel h p x) := by
  refine decodes_I rfl (by decide) (by omega) (by decide) (by decide) fun w hh h1 h2 h3 => ?_
  rw [decode32, hh.op, hh.p]
  simp [decOp2F, h1, h2, h3, x.isLt, plain]

theorem tile_decodes (d : Fin 8) (a b : Fin 32) (x : List Nat) : Decodes h (.tld h p d a b) ∧ Decodes h (.tst h p d a b x) := by
  and_intros
  all_goals
    refine decodes_R rfl (by decide) (by decide) b.isLt a.isLt (by omega) fun w hh h1 h2 h3 h4 => ?_
    rw [decode32, hh.op, hh.p]
    simp [decOp2D, decOp2E, h1, h2, h3, h4, plain]

theorem azero_decodes (d : Fin 4) : Decodes h (.azero h p d) := by
  refine decodes_R rfl (by decide) (by decide) (by decide) (by decide) (by omega) fun w hh h1 h2 h3 h4 => ?_
  rw [decode32, hh.op, hh.p]
  simp [decOp34, h1, h2, h3, h4, plain]

theorem accumulator_decodes (d : Fin 4) (a : Fin 32) : Decodes h (.ald h p d a) ∧ Decodes h (.ast h p d a) := by
  and_intros
  all_goals
    refine decodes_R rfl (by decide) (by decide) (by decide) a.isLt (by omega) fun w hh h1 h2 h3 h4 => ?_
    rw [decode32, hh.op, hh.p]
    simp [decOp34, h1, h2, h3, h4, plain]

theorem mma_decodes {acc sp : Bool} {tm tb ta : Fin 8} (ad : Fin 4) (x : List Nat) (hs : sp = false → tm = 0) :
    Decodes h (.mma h p acc sp tm tb ta ad x) := by
  have ha : b2n acc < 2 := by cases acc <;> decide
  have hp : b2n sp < 2 := by cases sp <;> decide
  refine decodes_of rfl (by unfold fT; omega) (by unfold fT; omega) fun w hx => ?_
  obtain ⟨hh, h1, h2, h3, h4, h5, h6, h7, h8⟩ := fT_iff.1 ⟨hx, tm.isLt, tb.isLt, ta.isLt, ad.isLt⟩
  rw [decode32, hh.op, hh.p]
  simp [decOp32, h1, h2, h3, h4, h5, h6, h7, h8, plain]
  exact hs

theorem acvt_decodes {wide half dv : Bool} {row : Fin 16} (b : Fin 32) {aa : Fin 4} {d : Fin 32}
    (hw : wide = true → aa.val % 2 = 0 ∧ half = false) (hv : dv = false → row = 0 ∧ d.val < 8) :
    Decodes h (.acvt h p wide half row b dv aa d) := by
  have h1 : b2n wide < 2 := by cases wide <;> decide
  have h2 : b2n half < 2 := by cases half <;> decide
  have h3 : b2n dv < 2 := by cases dv <;> decide
  refine decodes_of rfl (by unfold fAC; omega) (by unfold fAC; omega) fun w hx => ?_
  obtain ⟨hh, g1, g2, g3, g4, g5, g6, g7, g8⟩ := fAC_iff.1 ⟨hx, row.isLt, b.isLt, aa.isLt, d.isLt⟩
  have hb : bit w 15 = false ↔ aa.val % 2 = 0 := by
    rw [bit_false_iff]
    unfold fld at g7
    omega
  rw [decode32, hh.op, hh.p]
  simp [decOp33, hb, g1, g2, g3, g4, g5, g6, g7, g8, plain]
  exact ⟨hw, hv⟩

end

section
variable (h : Hart)

/-- The two parts of bits [15:9]. -/
theorem hi_parts {w : BitVec 32} {f : Nat} {r : Fin 16} (hw : fld w 9 7 = 16 * f + r.val) :
    fld w 13 3 = f ∧ fld w 9 4 = r.val := by
  have h1 := hi_split (w := w)
  have h2 : fld w 9 4 < 16 := fld_lt 9 4
  omega

theorem mov16_decodes {d r : Fin 16} (hn : d ≠ r) : Decodes h (.mov16 h d r) := by
  have hn' : r.val ≠ d.val := fun e => hn (Fin.ext e.symm)
  refine decodes_C rfl (by decide) (by omega) d.isLt fun w h1 h2 h3 => ?_
  obtain ⟨h4, h5⟩ := hi_parts (f := 0) ((Nat.zero_add r.val).symm ▸ h2)
  rw [decode16, h1]
  simp [decCop0, h3, h4, h5, hn', plain]

theorem alu16_decodes (d r : Fin 16) :
    Decodes h (.add16 h d r) ∧ Decodes h (.sub16 h d r) ∧ Decodes h (.and16 h d r) ∧ Decodes h (.or16 h d r)
    ∧ Decodes h (.xor16 h d r) ∧ Decodes h (.shl16 h d r) ∧ Decodes h (.shr16 h d r) := by
  and_intros
  all_goals
    refine decodes_C rfl (by decide) (by omega) d.isLt fun w h1 h2 h3 => ?_
    obtain ⟨h4, h5⟩ := hi_parts h2
    rw [decode16, h1]
    simp only [decCop0, h3, h4, h5, Fin.ofNat_val_eq_self]
    rfl

theorem imm16_decodes (d : Fin 16) (x : BitVec 7) :
    Decodes h (.addi16 h d x) ∧ Decodes h (.movi16 h d x) ∧ Decodes h (.bz16 h d x) ∧ Decodes h (.bnz16 h d x)
    ∧ Decodes h (.bltz16 h d x) ∧ Decodes h (.bgez16 h d x) ∧ Decodes h (.in16 h d x) ∧ Decodes h (.out16 h d x) := by
  and_intros
  all_goals
    refine decodes_C rfl (by decide) x.isLt d.isLt fun w h1 h2 h3 => ?_
    rw [decode16, h1]
    simp only [decCop1, decCop2, decCop8, decCop9, decCop10, decCop11, decCop13, decCop14, h2, h3, Fin.ofNat_val_eq_self,
      ofNat_toNat_eq]
    rfl

theorem memory16_decodes (d b : Fin 16) (x : BitVec 3) :
    Decodes h (.ldd16 h d b x) ∧ Decodes h (.std16 h d b x) ∧ Decodes h (.ldw16 h d b x) ∧ Decodes h (.stw16 h d b x) := by
  and_intros
  all_goals
    refine decodes_C rfl (by decide) (by omega) d.isLt fun w h1 h2 h3 => ?_
    obtain ⟨h4, h5⟩ := hi_parts h2
    rw [decode16, h1]
    simp only [decCop4, decCop5, decCop6, decCop7, h3, h4, h5, Fin.ofNat_val_eq_self, ofNat_toNat_eq]
    rfl

theorem shli16_decodes (d : Fin 16) (n : BitVec 5) : Decodes h (.shli16 h d n) := by
  have hv : BitVec.ofNat 5 (0 + n.toNat) = n := low_val n (by omega)
  have hk : (0 + n.toNat) / 32 = 0 := by omega
  refine decodes_C (hi := 0 + n.toNat) rfl (by decide) (by omega) d.isLt fun w h1 h2 h3 => ?_
  rw [decode16, h1]
  simp only [decCop3, h2, h3, hk, hv, Fin.ofNat_val_eq_self]
  rfl

theorem shri16_decodes (d : Fin 16) (n : BitVec 5) : Decodes h (.shri16 h d n) := by
  have hv : BitVec.ofNat 5 (32 + n.toNat) = n := low_val n (by omega)
  have hk : (32 + n.toNat) / 32 = 1 := by omega
  refine decodes_C (hi := 32 + n.toNat) rfl (by decide) (by omega) d.isLt fun w h1 h2 h3 => ?_
  rw [decode16, h1]
  simp only [decCop3, h2, h3, hk, hv, Fin.ofNat_val_eq_self]
  rfl

theorem sari16_decodes (d : Fin 16) (n : BitVec 5) : Decodes h (.sari16 h d n) := by
  have hv : BitVec.ofNat 5 (64 + n.toNat) = n := low_val n (by omega)
  have hk : (64 + n.toNat) / 32 = 2 := by omega
  refine decodes_C (hi := 64 + n.toNat) rfl (by decide) (by omega) d.isLt fun w h1 h2 h3 => ?_
  rw [decode16, h1]
  simp only [decCop3, h2, h3, hk, hv, Fin.ofNat_val_eq_self]
  rfl

theorem br16_decodes (x : BitVec 11) : Decodes h (.br16 h x) := by
  refine decodes16_of rfl (by omega) (by omega) fun w hx => ?_
  have h1 : fld w 1 4 = 12 := by
    unfold fld
    omega
  have h2 : fld w 5 11 = x.toNat := by
    unfold fld
    omega
  rw [decode16, h1]
  simp only [decCop12, h2, ofNat_toNat_eq]
  rfl

theorem system16_decodes (x : BitVec 7) : Decodes h (.nop16 h) ∧ Decodes h (.ret16 h) ∧ Decodes h (.trap16 h x) := by
  and_intros
  all_goals
    refine decodes_C rfl (by decide) (by omega) (by decide) fun w h1 h2 h3 => ?_
    rw [decode16, h1]
    simp only [decCop15, h2, h3, ofNat_toNat_eq]
    rfl

end
end Sys2Proof.Machine

/-!
SUPPORT. Every well-formed instruction decodes from its word.
-/
namespace Sys2Proof.Machine
open Sys2Proof Sys2Proof.Safety

theorem wf_decodes {h : Hart} {i : Instr} (hw : i.wf = true) (hh : hartOf i = some h) : Decodes h i := by
  cases i with
  | add | sub | and | or | xor | andn | shl | shr | sar | ror | mul | mulh | mulhu | div | divu | rem | remu | min
  | max | minu | maxu =>
    exact Option.some.inj hh ▸ by simp only [alu_decodes]
  | clz | ctz | popc | sextb | sexth | sextw | zextw =>
    exact Option.some.inj hh ▸ by simp only [unary_decodes]
  | addi | andi | ori | xori | ldb | ldbu | ldh | ldhu | ldw | ldwu | ldd | stb | sth | stw | std | vld | vst =>
    exact Option.some.inj hh ▸ by simp only [imm_decodes]
  | shli =>
    exact Option.some.inj hh ▸ by simp only [shli_decodes]
  | shri =>
    exact Option.some.inj hh ▸ by simp only [shri_decodes]
  | sari =>
    exact Option.some.inj hh ▸ by simp only [sari_decodes]
  | rori =>
    exact Option.some.inj hh ▸ by simp only [rori_decodes]
  | movi =>
    exact Option.some.inj hh ▸ by simp only [movi_decodes]
  | movsh =>
    exact Option.some.inj hh ▸ by simp only [movsh_decodes]
  | cmp =>
    exact Option.some.inj hh ▸ by simp only [cmp_decodes]
  | cmpi =>
    exact Option.some.inj hh ▸ by simp only [cmpi_decodes]
  | pand | por | pxor | pandn =>
    exact Option.some.inj hh ▸ by simp only [plogic_decodes]
  | pnot | pmov =>
    exact Option.some.inj hh ▸ by simp only [pmove_decodes]
  | fadd | fsub | fmul | fdiv | fmin | fmax =>
    exact Option.some.inj hh ▸ by simp only [fp_decodes]
  | fsqrt | fabs | fneg | fcvt | fcvti | fcvtu | icvtf | ucvtf | fclass =>
    exact Option.some.inj hh ▸ by simp only [fpUnary_decodes]
  | fma | fnma =>
    exact Option.some.inj hh ▸ by simp only [fma_decodes]
  | fcmp =>
    exact Option.some.inj hh ▸ by simp only [fcmp_decodes]
  | br | call =>
    exact Option.some.inj hh ▸ by simp only [branch_decodes]
  | jmp =>
    exact Option.some.inj hh ▸ by simp only [jmp_decodes]
  | jmpl | inr | outr =>
    exact Option.some.inj hh ▸ by simp only [regs_decodes]
  | portIn | portOut =>
    exact Option.some.inj hh ▸ by simp only [port_decodes]
  | smove => exact Option.some.inj hh ▸ (block_decodes _ _ _ hw).1
  | sfill => exact Option.some.inj hh ▸ (block_decodes _ _ _ hw).2.1
  | scmp => exact Option.some.inj hh ▸ (block_decodes _ _ _ hw).2.2.1
  | sscan => exact Option.some.inj hh ▸ (block_decodes _ _ _ hw).2.2.2
  | sscann => exact Option.some.inj hh ▸ sscann_decodes _ _ _ hw
  | cload => exact Option.some.inj hh ▸ (codeSpace_decodes _ _ hw).1
  | cread => exact Option.some.inj hh ▸ (codeSpace_decodes _ _ hw).2
  | send => exact Option.some.inj hh ▸ send_decodes _ _ _ _ (of_decide_eq_true hw)
  | nop => exact Option.some.inj hh ▸ (system_decodes _ _ 0 0).1
  | fence => exact Option.some.inj hh ▸ (system_decodes _ _ 0 _).2.1
  | trap => exact Option.some.inj hh ▸ (system_decodes _ _ _ 0).2.2
  | rett => exact Option.some.inj hh ▸ rett_decodes _
  | hold => exact Option.some.inj hh ▸ hold_decodes _ (of_decide_eq_true (Bool.and_eq_true_iff.1 hw).1) (of_decide_eq_true (Bool.and_eq_true_iff.1 hw).2)
  | vrotb | vsel =>
    exact Option.some.inj hh ▸ by simp only [moves3_decodes]
  | vmov =>
    exact Option.some.inj hh ▸ by simp only [vmov_decodes]
  | vbcast =>
    exact Option.some.inj hh ▸ by simp only [vbcast_decodes]
  | vext | vins =>
    exact Option.some.inj hh ▸ by simp only [elements_decodes]
  | vtot =>
    exact Option.some.inj hh ▸ by simp only [vtot_decodes]
  | vfromt =>
    exact Option.some.inj hh ▸ by simp only [vfromt_decodes]
  | mfromg =>
    exact Option.some.inj hh ▸ by simp only [mfromg_decodes]
  | mtog =>
    exact Option.some.inj hh ▸ by simp only [mtog_decodes]
  | vtz =>
    exact Option.some.inj hh ▸ by simp only [vtz_decodes]
  | mlog => exact Option.some.inj hh ▸ mlog_decodes _ _ _ _ (of_decide_eq_true hw)
  | tinfo => exact Option.some.inj hh ▸ tinfo_decodes _ _ _ (by simpa [Instr.wf] using hw)
  | vzbm => exact Option.some.inj hh ▸ vzbm_decodes _ _ _ _ (of_decide_eq_true (Bool.and_eq_true_iff.1 hw).1) (of_decide_eq_true (Bool.and_eq_true_iff.1 hw).2)
  | vadd | vsub | vmul | vmin | vmax | vminu | vmaxu | vand | vor | vxor | vshl | vshr | vsar =>
    exact Option.some.inj hh ▸ by simp only [vecInt_decodes]
  | vcmpeq | vcmplt | vcmpltu =>
    exact Option.some.inj hh ▸ by simp only [vecCmp_decodes]
  | vfadd | vfsub | vfmul | vfdiv | vfma | vfnma | vfmin | vfmax =>
    exact Option.some.inj hh ▸ by simp only [vecFp_decodes]
  | vfsqrt | vfabs | vfneg =>
    exact Option.some.inj hh ▸ by simp only [vecFpUnary_decodes]
  | vfcmpeq | vfcmplt | vfcmple | vfcmpun =>
    exact Option.some.inj hh ▸ by simp only [vecFpCmp_decodes]
  | vcvtis | vcvtsi | vcvtld | vcvtdl | vunpkt2 | vpackt2 =>
    exact Option.some.inj hh ▸ by simp only [conversions_decodes]
  | vcvts => exact Option.some.inj hh ▸ vcvts_decodes _ _ _ _ _ (of_decide_eq_true (Bool.and_eq_true_iff.1 hw).1) (of_decide_eq_true (Bool.and_eq_true_iff.1 hw).2)
  | vcvtf =>
    simp only [Instr.wf, Bool.and_eq_true, Bool.or_eq_true, Bool.not_eq_true', decide_eq_true_iff] at hw
    obtain ⟨⟨hf, hn⟩, hs⟩ := hw
    exact Option.some.inj hh ▸ vcvtf_decodes _ _ _ _ _ hf hn fun e => hs.resolve_left (by rw [e]; decide)
  | tcfg => exact Option.some.inj hh ▸ tcfg_decodes _ _ _ (of_decide_eq_true hw)
  | trel =>
    exact Option.some.inj hh ▸ by simp only [trel_decodes]
  | tld => exact Option.some.inj hh ▸ (tile_decodes _ _ _ _ _ []).1
  | tst => exact Option.some.inj hh ▸ (tile_decodes _ _ _ _ _ _).2
  | azero =>
    exact Option.some.inj hh ▸ by simp only [azero_decodes]
  | ald | ast =>
    exact Option.some.inj hh ▸ by simp only [accumulator_decodes]
  | mma =>
    simp only [Instr.wf, Bool.or_eq_true, decide_eq_true_iff] at hw
    exact Option.some.inj hh ▸ mma_decodes _ _ _ _ fun e => hw.resolve_left (by rw [e]; decide)
  | acvt =>
    simp only [Instr.wf, Bool.and_eq_true, Bool.or_eq_true, Bool.not_eq_true', decide_eq_true_iff] at hw
    obtain ⟨hwide, hrow⟩ := hw
    exact Option.some.inj hh ▸ acvt_decodes _ _ _ (fun e => hwide.resolve_left (by rw [e]; decide))
      fun e => hrow.resolve_left (by rw [e]; decide)
  | mov16 => exact Option.some.inj hh ▸ mov16_decodes _ (of_decide_eq_true hw)
  | add16 | sub16 | and16 | or16 | xor16 | shl16 | shr16 =>
    exact Option.some.inj hh ▸ by simp only [alu16_decodes]
  | addi16 | movi16 | bz16 | bnz16 | bltz16 | bgez16 | in16 | out16 =>
    exact Option.some.inj hh ▸ by simp only [imm16_decodes]
  | ldd16 | std16 | ldw16 | stw16 =>
    exact Option.some.inj hh ▸ by simp only [memory16_decodes]
  | shli16 =>
    exact Option.some.inj hh ▸ by simp only [shli16_decodes]
  | shri16 =>
    exact Option.some.inj hh ▸ by simp only [shri16_decodes]
  | sari16 =>
    exact Option.some.inj hh ▸ by simp only [sari16_decodes]
  | br16 =>
    exact Option.some.inj hh ▸ by simp only [br16_decodes]
  | nop16 => exact Option.some.inj hh ▸ (system16_decodes _ 0).1
  | ret16 => exact Option.some.inj hh ▸ (system16_decodes _ 0).2.1
  | trap16 => exact Option.some.inj hh ▸ (system16_decodes _ _).2.2
  | _ => exact fun _ _ he => nomatch he

/-- Settles O6: each instruction's word decodes to it (`wf_decodes`), and a word that decodes is its instruction's word
(`decode32_words`, `decode16_words`). -/
theorem decodingAndEncodingAgree : Obligations.DecodingAndEncodingAgree := by
  unfold Obligations.DecodingAndEncodingAgree
  refine ⟨fun i h n w hw hh => wf_decodes hw hh n w, fun h w i hd => ?_⟩
  rw [decodeWord] at hd
  split at hd
  · next hb => exact (if_pos hb).symm ▸ decode32_words hb hd
  · next hb => exact (if_neg hb).symm ▸ decode16_words (Bool.eq_false_iff.2 hb) hd

end Sys2Proof.Machine

/-!
SUPPORT. Rounding to a unit, and the numbers of a format: what a finite result is among them. Magnitudes are measured in
real numbers, since a root need not be rational.
-/
namespace Sys2Proof.Machine
open Sys2Proof Sys2Proof.Safety

/-! ### The numbers that codes stand for -/

theorem pow2_eq (e : Int) : pow2 e = (2 : ℚ) ^ e := by
  unfold pow2
  split
  · next h => rw [Nat.cast_pow, Nat.cast_ofNat, ← zpow_natCast, Int.toNat_of_nonneg h]
  · next h =>
    rw [Nat.cast_pow, Nat.cast_ofNat, ← zpow_natCast, Int.toNat_of_nonneg (by omega), one_div, ← zpow_neg, neg_neg]

/-- A sign as a factor. -/
def signOf (neg : Bool) : ℝ := if neg then -1 else 1

theorem ratio_cast (neg : Bool) (m : Nat) (e : Int) : ((ratio neg m e : ℚ) : ℝ) = signOf neg * (m * (2 : ℝ) ^ e) := by
  rw [ratio, pow2_eq, signOf]
  cases neg <;> simp

theorem ratio_zero (neg : Bool) (e : Int) : ratio neg 0 e = 0 := by simp [ratio]

theorem ratio_double (neg : Bool) (m : Nat) (e : Int) : ratio neg m (e + 1) = ratio neg (2 * m) e := by
  rw [ratio, ratio, pow2_eq, pow2_eq, zpow_add_one₀ (by norm_num)]
  push_cast
  ring

theorem numberOf_some {f : FFmt} {x : Nat} {a : ℚ} (h : numberOf f x = some a) :
    ∃ neg m e, fdecode f x = .fin neg m e ∧ ratio neg m e = a := by
  unfold numberOf at h
  cases hd : fdecode f x with
  | nan s => simp [hd] at h
  | inf n => simp [hd] at h
  | fin neg m e => exact ⟨neg, m, e, rfl, by simpa [hd] using h⟩

theorem numberOf_fin {f : FFmt} {x : Nat} {neg : Bool} {m : Nat} {e : Int} (h : fdecode f x = .fin neg m e) :
    numberOf f x = some (ratio neg m e) := by rw [numberOf, h]

/-- A finite value that a code decodes to: its significand fits, and its unit is no smaller than the format's. -/
theorem fdecode_fin {f : FFmt} {x : Nat} {neg : Bool} {m : Nat} {e : Int} (h : fdecode f x = .fin neg m e) :
    m < 2 ^ (f.man + 1) ∧ 1 - f.bias - f.man ≤ e := by
  have hfr : x % 2 ^ f.man < 2 ^ f.man := Nat.mod_lt _ (Nat.two_pow_pos _)
  have hpow : 2 ^ (f.man + 1) = 2 * 2 ^ f.man := by rw [Nat.pow_succ, Nat.mul_comm]
  unfold fdecode at h
  extract_lets fr ex s at h
  have hfr' : fr < 2 ^ f.man := hfr
  split at h
  · split at h <;> cases h
  · split at h
    · cases h
    · split at h
      · injection h with h1 h2 h3
        omega
      · injection h with h1 h2 h3
        omega

/-- Measured in units of `2^q`, the magnitude of a number of the format is a whole number or lies below `2^man`. -/
theorem number_grid {f : FFmt} {k : Nat} {z : ℚ} {q : Int} (h : numberOf f k = some z) (hq : 1 - f.bias - f.man ≤ q) :
    ∃ Z : ℝ, |(z : ℝ)| = Z * 2 ^ q ∧ ((∃ i : ℕ, Z = i) ∨ (Z < 2 ^ f.man ∧ 1 - f.bias - f.man < q)) := by
  obtain ⟨neg, m, e, hd, rfl⟩ := numberOf_some h
  obtain ⟨hm, he⟩ := fdecode_fin hd
  have h2 : (2 : ℝ) ≠ 0 := by norm_num
  refine ⟨m * 2 ^ (e - q), ?_, ?_⟩
  · have hs : |signOf neg| = 1 := by cases neg <;> simp [signOf]
    rw [ratio_cast, abs_mul, hs, one_mul, abs_of_nonneg (by positivity), mul_assoc, ← zpow_add₀ h2, sub_add_cancel]
  · rcases le_or_gt q e with hc | hc
    · left
      refine ⟨m * 2 ^ (e - q).toNat, ?_⟩
      rw [Nat.cast_mul, Nat.cast_pow, Nat.cast_ofNat, ← zpow_natCast, Int.toNat_of_nonneg (by omega)]
    · right
      refine ⟨?_, by omega⟩
      have hle : (2 : ℝ) ^ (e - q) ≤ 2 ^ (-1 : ℤ) := zpow_le_zpow_right₀ (by norm_num) (by omega)
      have hmr : (m : ℝ) < 2 * 2 ^ f.man := by
        rw [Nat.pow_succ, Nat.mul_comm] at hm
        exact_mod_cast hm
      calc (m : ℝ) * 2 ^ (e - q) ≤ m * 2 ^ (-1 : ℤ) := by gcongr
        _ < 2 ^ f.man := by
          rw [zpow_neg_one]
          linarith

/-! ### The code of a rounded magnitude -/

section
variable {f : FFmt} (hk : f.kind = .ieee)
include hk

theorem fdecode_fields {fr ex : Nat} {neg : Bool} (hfr : fr < 2 ^ f.man) (hex : ex < 2 ^ f.ex - 1) :
    fdecode f (ex * 2 ^ f.man + fr + (if neg then 2 ^ (f.ex + f.man) else 0))
      = if ex = 0 then .fin neg fr (1 - f.bias - f.man) else .fin neg (2 ^ f.man + fr) (ex - f.bias - f.man) := by
  have hM := Nat.two_pow_pos f.man
  have hE := Nat.two_pow_pos f.ex
  have hx : ex * 2 ^ f.man + fr + (if neg then 2 ^ (f.ex + f.man) else 0)
      = 2 ^ f.man * (ex + 2 ^ f.ex * (if neg then 1 else 0)) + fr := by
    rw [Nat.pow_add]
    cases neg <;> simp <;> ring
  have h1 : (2 ^ f.man * (ex + 2 ^ f.ex * (if neg then 1 else 0)) + fr) % 2 ^ f.man = fr := by
    rw [Nat.mul_add_mod, Nat.mod_eq_of_lt hfr]
  have h2 : (2 ^ f.man * (ex + 2 ^ f.ex * (if neg then 1 else 0)) + fr) / 2 ^ f.man
      = ex + 2 ^ f.ex * (if neg then 1 else 0) := by
    rw [Nat.mul_add_div hM, Nat.div_eq_of_lt hfr, Nat.add_zero]
  have h3 : (ex + 2 ^ f.ex * (if neg then 1 else 0)) % 2 ^ f.ex = ex := by
    rw [Nat.add_mul_mod_self_left, Nat.mod_eq_of_lt (by omega)]
  have h4 : (ex + 2 ^ f.ex * (if neg then 1 else 0)) / 2 ^ f.ex = if neg then 1 else 0 := by
    rw [Nat.add_mul_div_left _ _ hE, Nat.div_eq_of_lt (by omega), Nat.zero_add]
  have hneg : decide ((if neg then 1 else 0) % 2 = 1) = neg := by cases neg <;> rfl
  rw [hx]
  unfold fdecode
  simp only [Nat.pow_add, ← Nat.div_div_eq_div_mul, h1, h2, h3, h4, hneg, hk]
  rw [if_neg (by omega), if_neg (by simp)]

theorem encodeFin_number {neg : Bool} {n : Nat} {q : Int} (hn : n ≤ 2 ^ (f.man + 1)) (hq : 1 - f.bias - f.man ≤ q)
    (hs : n < 2 ^ f.man → q = 1 - f.bias - f.man) (hex : 2 ≤ f.ex)
    (hm : magLe n q (maxFin f).1 (maxFin f).2 = true) : numberOf f (encodeFin f neg n q) = some (ratio neg n q) := by
  have hpow : 2 ^ (f.man + 1) = 2 * 2 ^ f.man := by rw [Nat.pow_succ, Nat.mul_comm]
  have hfour : 4 ≤ 2 ^ f.ex := Nat.pow_le_pow_right (n := 2) (by decide) hex
  rcases Nat.lt_or_ge n (2 ^ f.man) with hlt | hge
  · have hno : ¬ 2 ^ (f.man + 1) ≤ n := by omega
    have hd := fdecode_fields hk (neg := neg) (ex := 0) hlt (by omega)
    rw [Nat.zero_mul, Nat.zero_add, if_pos rfl] at hd
    simp only [encodeFin, if_neg hno, if_pos hlt]
    rw [numberOf_fin hd, hs hlt]
  · have hexp := magLe_exp hk hm hge
    have key : ∀ (n' : Nat) (q' : Int), 2 ^ f.man ≤ n' → n' < 2 * 2 ^ f.man → 1 - f.bias - f.man ≤ q' →
        q' + f.man + f.bias ≤ (2 ^ f.ex - 2 : Nat) →
        numberOf f ((q' + f.man + f.bias).toNat * 2 ^ f.man + (n' - 2 ^ f.man) + (if neg then 2 ^ (f.ex + f.man) else 0))
          = some (ratio neg n' q') := by
      intro n' q' h1 h2 h3 h4
      have hd := fdecode_fields hk (neg := neg) (fr := n' - 2 ^ f.man) (ex := (q' + f.man + f.bias).toNat) (by omega) (by omega)
      have hfield : (q' + f.man + f.bias).toNat ≠ 0 := by omega
      rw [if_neg hfield] at hd
      rw [numberOf_fin hd, Nat.add_sub_cancel' h1, Int.toNat_of_nonneg (by omega)]
      congr 2
      ring
    by_cases htop : 2 ^ (f.man + 1) ≤ n
    · have hM := Nat.two_pow_pos f.man
      have hn' : n = 2 * 2 ^ f.man := by omega
      have hhalf : n / 2 = 2 ^ f.man := by omega
      rw [if_pos htop] at hexp
      simp only [encodeFin, if_pos htop, hhalf, if_neg (lt_irrefl (2 ^ f.man))]
      rw [key (2 ^ f.man) (q + 1) le_rfl (by omega) (by omega) (by omega), ratio_double, ← hn']
    · rw [if_neg htop] at hexp
      simp only [encodeFin, if_neg htop, if_neg (Nat.not_lt.2 hge)]
      exact key n q hge (by omega) hq hexp

omit hk in
/-- An even significand gives an even code. -/
theorem encodeFin_even {neg : Bool} {n : Nat} {q : Int} (hm : 1 ≤ f.man) (hn : n ≤ 2 ^ (f.man + 1)) (he : n % 2 = 0) :
    encodeFin f neg n q % 2 = 0 := by
  obtain ⟨k, hk⟩ : ∃ k, 2 ^ f.man = 2 * k := ⟨2 ^ (f.man - 1), by rw [← Nat.pow_succ', Nat.succ_eq_add_one, Nat.sub_add_cancel hm]⟩
  have hpow : 2 ^ (f.man + 1) = 2 * 2 ^ f.man := by rw [Nat.pow_succ, Nat.mul_comm]
  have hsign : ((if neg then 2 ^ (f.ex + f.man) else 0) : Nat) % 2 = 0 := by
    cases neg with
    | false => rfl
    | true =>
      rw [if_pos rfl, Nat.pow_add, hk, Nat.mul_left_comm]
      exact Nat.mul_mod_right ..
  have hfield : ∀ x : Nat, x * 2 ^ f.man % 2 = 0 := fun x => by
    rw [hk, Nat.mul_left_comm]
    exact Nat.mul_mod_right ..
  unfold encodeFin
  extract_lets n' q'
  have hf := hfield (q' + f.man + f.bias).toNat
  have hn' : n' % 2 = 0 := by
    unfold n'
    split <;> omega
  split <;> omega

end
end Sys2Proof.Machine

/-!
SUPPORT. Rounding to a unit, stated by the nearest whole numbers.
-/
namespace Sys2Proof.Machine
open Sys2Proof Sys2Proof.Safety

/-- `N` is what a mode makes of the magnitude `X` among the whole numbers. -/
def Rounds (rm : RM) (neg : Bool) (X : ℝ) (N : ℕ) : Prop :=
  match rm with
  | .rne => |X - N| ≤ 1 / 2 ∧ (|X - N| = 1 / 2 → N % 2 = 0)
  | .rna => |X - N| ≤ 1 / 2 ∧ (|X - N| = 1 / 2 → X < N)
  | .rz => N ≤ X ∧ X < N + 1
  | .ru => if neg then N ≤ X ∧ X < N + 1 else N - 1 < X ∧ X ≤ N
  | .rd => if neg then N - 1 < X ∧ X ≤ N else N ≤ X ∧ X < N + 1
  | .sr _ => False

/-- `m` stands for `W`: it is `W`, or its last bit only says that `W` lies strictly between the even numbers beside it. -/
def Near (W : ℝ) (m : ℕ) : Prop := W = m ∨ (m % 2 = 1 ∧ (m : ℝ) - 1 < W ∧ W < m + 1)

/-- An even number compares with `W` as with what stands for it. -/
theorem near_cmp {W : ℝ} {m c : ℕ} (h : Near W m) (hc : W = m ∨ c % 2 = 0) : (c < m ↔ (c : ℝ) < W) ∧ (m < c ↔ W < c) := by
  rcases h with rfl | ⟨hodd, hlo, hhi⟩
  · exact ⟨Nat.cast_lt.symm, Nat.cast_lt.symm⟩
  · rcases hc with rfl | hc
    · exact ⟨Nat.cast_lt.symm, Nat.cast_lt.symm⟩
    · rcases Nat.lt_or_ge c m with hlt | hge
      · have hr : (c : ℝ) + 1 ≤ m := by exact_mod_cast hlt
        exact ⟨⟨fun _ => by linarith, fun _ => hlt⟩, ⟨fun h' => by omega, fun h' => by linarith⟩⟩
      · have hlt : m < c := by omega
        have hr : (m : ℝ) + 1 ≤ c := by exact_mod_cast hlt
        exact ⟨⟨fun h' => by omega, fun h' => by linarith⟩, ⟨fun _ => by linarith, fun _ => hlt⟩⟩

theorem rounds_self {rm : RM} (neg : Bool) (N : ℕ) (hrm : rm ∈ [RM.rne, .rz, .ru, .rd, .rna]) : Rounds rm neg N N := by
  simp only [List.mem_cons, List.not_mem_nil, or_false] at hrm
  rcases hrm with rfl | rfl | rfl | rfl | rfl <;> cases neg <;> norm_num [Rounds]

/-- Whether a mode takes the next whole number above `n`, with `r` of `D` parts left. -/
def roundsUp (rm : RM) (neg : Bool) (n r D : ℕ) : Bool :=
  match rm with
  | .rne => decide (D < 2 * r) || (decide (2 * r = D) && decide (n % 2 = 1))
  | .rz => false
  | .ru => !neg && decide (r ≠ 0)
  | .rd => neg && decide (r ≠ 0)
  | .rna => decide (D ≤ 2 * r)
  | .sr x => decide (2 ^ 16 ≤ r * 2 ^ 16 / D + x)

theorem roundAt_of_lt (rm : RM) (neg : Bool) (m : ℕ) {e q : Int} (h : ¬ q ≤ e) :
    roundAt rm neg m e q = (if roundsUp rm neg (m / 2 ^ (q - e).toNat) (m % 2 ^ (q - e).toNat) (2 ^ (q - e).toNat) then
      m / 2 ^ (q - e).toNat + 1 else m / 2 ^ (q - e).toNat, decide (m % 2 ^ (q - e).toNat ≠ 0)) := by
  rw [roundAt, if_neg h]
  cases rm <;> rfl

section
variable {X : ℝ} {n : ℕ}

theorem abs_sub_lo (h : (n : ℝ) ≤ X) : |X - n| = X - n := abs_of_nonneg (by linarith)
theorem abs_sub_hi (h : X ≤ n + 1) : |X - (n + 1 : ℕ)| = n + 1 - X := by
  rw [abs_of_nonpos (by push_cast; linarith)]
  push_cast
  ring

/-- The choice of a mode between the two whole numbers around `X`, by where `X` lies between them: `r` of `2·H` parts. -/
theorem rounds_of_parts {rm : RM} {neg : Bool} {r H : ℕ} (hrm : rm ∈ [RM.rne, .rz, .ru, .rd, .rna]) (hH : 0 < H)
    (hlo : (n : ℝ) ≤ X) (hhi : X < n + 1) (h0 : r = 0 ↔ X = n) (hlt : r < H ↔ X < n + 1 / 2) (hgt : H < r ↔ n + 1 / 2 < X)
    {up : Bool} (hup : up = roundsUp rm neg n r (2 * H)) :
    Rounds rm neg X (if up then n + 1 else n) ∧ (r = 0 ↔ X = (if up then n + 1 else n : ℕ)) := by
  have hdown : Rounds .rz neg X n := ⟨hlo, hhi⟩
  have hpos : r ≠ 0 → (n : ℝ) < X := fun h => lt_of_le_of_ne hlo fun e => h (h0.2 e.symm)
  have hexact : (up = true → r ≠ 0) → (r = 0 ↔ X = (if up then n + 1 else n : ℕ)) := fun hu => by
    cases up with
    | false => exact h0
    | true =>
      have := hu rfl
      simp only [this, if_pos, false_iff]
      push_cast
      linarith
  have hup1 : up = true → (if up then n + 1 else n) = n + 1 := fun h => if_pos h
  have hup0 : up = false → (if up then n + 1 else n) = n := fun h => by rw [h]; rfl
  unfold roundsUp at hup
  simp only [List.mem_cons, List.not_mem_nil, or_false] at hrm
  rcases hrm with rfl | rfl | rfl | rfl | rfl
  · refine ⟨?_, hexact fun h => by
      rw [h] at hup
      simp at hup
      omega⟩
    rcases lt_trichotomy r H with h | h | h
    · rw [hup0 (by rw [hup]; simp; omega), Rounds, abs_sub_lo hlo]
      have := hlt.1 h
      exact ⟨by linarith, fun e => by linarith⟩
    · have hX : X = n + 1 / 2 := le_antisymm (not_lt.1 fun c => by have := hgt.2 c; omega) (not_lt.1 fun c => by have := hlt.2 c; omega)
      rcases Nat.mod_two_eq_zero_or_one n with hn | hn
      · rw [hup0 (by rw [hup]; simp; omega), Rounds, abs_sub_lo hlo]
        exact ⟨by linarith, fun _ => hn⟩
      · rw [hup1 (by rw [hup]; simp; omega), Rounds, abs_sub_hi hhi.le]
        exact ⟨by linarith, fun _ => by omega⟩
    · rw [hup1 (by rw [hup]; simp; omega), Rounds, abs_sub_hi hhi.le]
      have := hgt.1 h
      exact ⟨by linarith, fun e => by linarith⟩
  · rw [hup0 hup] at *
    exact ⟨hdown, h0⟩
  · refine ⟨?_, hexact fun h => by
      rw [h] at hup
      simp at hup
      exact hup.2⟩
    cases neg with
    | true =>
      rw [hup0 hup]
      exact hdown
    | false =>
      by_cases h : r = 0
      · rw [hup0 (by rw [hup]; simpa using h), h0.1 h]
        exact rounds_self false n (by simp)
      · rw [hup1 (by rw [hup]; simpa using h), Rounds, if_neg (by decide)]
        push_cast
        exact ⟨by linarith [hpos h], hhi.le⟩
  · refine ⟨?_, hexact fun h => by
      rw [h] at hup
      simp at hup
      exact hup.2⟩
    cases neg with
    | false =>
      rw [hup0 hup]
      exact hdown
    | true =>
      by_cases h : r = 0
      · rw [hup0 (by rw [hup]; simpa using h), h0.1 h]
        exact rounds_self true n (by simp)
      · rw [hup1 (by rw [hup]; simpa using h), Rounds, if_pos rfl]
        push_cast
        exact ⟨by linarith [hpos h], hhi.le⟩
  · refine ⟨?_, hexact fun h => by
      rw [h] at hup
      simp at hup
      omega⟩
    rcases Nat.lt_or_ge r H with h | h
    · rw [hup0 (by rw [hup]; simp; omega), Rounds, abs_sub_lo hlo]
      have := hlt.1 h
      exact ⟨by linarith, fun e => by linarith⟩
    · have hX : (n : ℝ) + 1 / 2 ≤ X := not_lt.1 fun c => by have := hlt.2 c; omega
      rw [hup1 (by rw [hup]; simp; omega), Rounds, abs_sub_hi hhi.le]
      push_cast
      exact ⟨by linarith, fun e => by linarith⟩

end

/-- Rounding to units of `2^q` what `m·2^e` stands for. -/
theorem roundAt_rounds {W : ℝ} {rm : RM} (neg : Bool) {m : ℕ} {e q : Int} (hrm : rm ∈ [RM.rne, .rz, .ru, .rd, .rna])
    (hn : Near W m) (hs : W = m ∨ e + 2 ≤ q) :
    Rounds rm neg (W * 2 ^ (e - q)) (roundAt rm neg m e q).1
      ∧ ((roundAt rm neg m e q).2 = false ↔ W * 2 ^ (e - q) = (roundAt rm neg m e q).1) := by
  rcases le_or_gt q e with hq | hq
  · rw [roundAt, if_pos hq]
    have hW : W = m := hs.resolve_right (by omega)
    have hX : W * 2 ^ (e - q) = (m * 2 ^ (e - q).toNat : ℕ) := by
      rw [hW, Nat.cast_mul, Nat.cast_pow, Nat.cast_ofNat, ← zpow_natCast, Int.toNat_of_nonneg (by omega)]
    rw [hX]
    exact ⟨rounds_self neg _ hrm, by simp⟩
  · rw [roundAt_of_lt rm neg m (not_le.2 hq)]
    obtain ⟨H, hD⟩ : ∃ H, 2 ^ (q - e).toNat = 2 * H := ⟨2 ^ ((q - e).toNat - 1), by rw [← Nat.pow_succ']; congr 1; omega⟩
    have hH : 0 < H := by
      have := Nat.two_pow_pos (q - e).toNat
      omega
    have hpar : W = m ∨ H % 2 = 0 := hs.imp_right fun h => by
      have h4 : 2 ^ (q - e).toNat = 4 * 2 ^ ((q - e).toNat - 2) := by
        rw [show (4 : ℕ) = 2 ^ 2 from rfl, ← Nat.pow_add]
        congr 1
        omega
      omega
    have hHr : (0 : ℝ) < 2 * H := by exact_mod_cast Nat.mul_pos (by decide) hH
    have hWX : W = W * 2 ^ (e - q) * (2 * H) := by
      have : (2 : ℝ) * H = 2 ^ (q - e) := by
        rw [← Int.toNat_of_nonneg (by omega : 0 ≤ q - e), zpow_natCast]
        exact_mod_cast hD.symm
      rw [this, mul_assoc, ← zpow_add₀ (by norm_num)]
      simp
    have hsplit : 2 * H * (m / (2 * H)) + m % (2 * H) = m := Nat.div_add_mod m (2 * H)
    have hr : m % (2 * H) < 2 * H := Nat.mod_lt _ (by omega)
    simp only [hD]
    generalize W * 2 ^ (e - q) = X at hWX ⊢
    generalize m / (2 * H) = n at hsplit ⊢
    generalize m % (2 * H) = r at hsplit hr ⊢
    have hcmp : ∀ j, W = m ∨ j % 2 = 0 → (j < r ↔ (n : ℝ) + j / (2 * H) < X) ∧ (r < j ↔ X < n + j / (2 * H)) := by
      intro j hj
      have hc := near_cmp (c := 2 * H * n + j) hn (hj.imp_right fun h => by rw [Nat.mul_assoc]; omega)
      have hcr : ((2 * H * n + j : ℕ) : ℝ) = (n + j / (2 * H)) * (2 * H) := by
        push_cast
        field_simp
      rw [hcr, hWX, mul_lt_mul_iff_left₀ hHr, mul_lt_mul_iff_left₀ hHr] at hc
      rw [← hc.1, ← hc.2]
      omega
    have hz := hcmp 0 (.inr rfl)
    have hh := hcmp H hpar
    have ht := hcmp (2 * H) (.inr (by omega))
    have e1 : (H : ℝ) / (2 * H) = 1 / 2 := by field_simp
    have e2 : ((2 * H : ℕ) : ℝ) / (2 * H) = 1 := by
      push_cast
      exact div_self hHr.ne'
    rw [Nat.cast_zero, zero_div, add_zero] at hz
    rw [e1] at hh
    rw [e2] at ht
    have hlo : (n : ℝ) ≤ X := not_lt.1 fun c => absurd (hz.2.2 c) (Nat.not_lt_zero _)
    have h0 : r = 0 ↔ X = n := ⟨fun h => le_antisymm (not_lt.1 fun c => absurd (hz.1.2 c) (by omega)) hlo, fun h => by
      by_contra hc
      have := hz.1.1 (by omega)
      linarith⟩
    obtain ⟨g1, g2⟩ := rounds_of_parts (neg := neg) hrm hH hlo (ht.2.1 hr) h0 hh.2 hh.1 rfl
    exact ⟨g1, by rw [← g2]; simp⟩

end Sys2Proof.Machine

/-!
SUPPORT. A rounded result among the numbers of its format.
-/
namespace Sys2Proof.Machine
open Sys2Proof Sys2Proof.Safety

theorem rounds_bounds {rm : RM} {neg : Bool} {X : ℝ} {N : ℕ} (h : Rounds rm neg X N) : (N : ℝ) - 1 < X ∧ X < N + 1 := by
  cases rm with
  | rne =>
    have := abs_le.1 h.1
    exact ⟨by linarith, by linarith⟩
  | rna =>
    have := abs_le.1 h.1
    exact ⟨by linarith, by linarith⟩
  | rz => exact ⟨by linarith [h.1], h.2⟩
  | ru =>
    cases neg with
    | true => exact ⟨by linarith [h.1], h.2⟩
    | false => exact ⟨h.1, by linarith [h.2]⟩
  | rd =>
    cases neg with
    | true => exact ⟨h.1, by linarith [h.2]⟩
    | false => exact ⟨by linarith [h.1], h.2⟩
  | sr x => exact h.elim

theorem rounds_ge {rm : RM} {neg : Bool} {X : ℝ} {N c : ℕ} (h : Rounds rm neg X N) (hc : (c : ℝ) ≤ X) : c ≤ N := by
  have h1 : (c : ℝ) < (N + 1 : ℕ) := by
    push_cast
    linarith [(rounds_bounds h).2]
  exact Nat.le_of_lt_succ (Nat.cast_lt.1 h1)

/-! ### Points beside a rounded magnitude -/

/-- A point that is whole, or lies below a whole number that is at most `X`. -/
def OnGrid (X ζ : ℝ) : Prop := (∃ i : ℤ, ζ = i) ∨ ∃ c : ℤ, ζ < c ∧ (c : ℝ) ≤ X

section
variable {X ζ : ℝ} {N : ℕ}

theorem floor_grid (h : X < N + 1) (hg : OnGrid X ζ) (hζ : ζ ≤ X) : ζ ≤ N := by
  have key : ∀ i : ℤ, (i : ℝ) ≤ X → (i : ℝ) ≤ N := fun i hi => by
    have h1 : (i : ℝ) < (N + 1 : ℤ) := by
      push_cast
      linarith
    have h2 : i ≤ (N : ℤ) := Int.lt_add_one_iff.1 (Int.cast_lt.1 h1)
    exact_mod_cast h2
  rcases hg with ⟨i, rfl⟩ | ⟨c, h1, h2⟩
  · exact key i hζ
  · exact h1.le.trans (key c h2)

theorem ceil_grid (h : (N : ℝ) - 1 < X) (hg : OnGrid X ζ) (hζ : X ≤ ζ) : (N : ℝ) ≤ ζ := by
  rcases hg with ⟨i, rfl⟩ | ⟨c, h1, h2⟩
  · have h1 : ((N - 1 : ℤ) : ℝ) < i := by
      push_cast
      linarith
    have h2 : (N : ℤ) ≤ i := Int.sub_one_lt_iff.1 (Int.cast_lt.1 h1)
    exact_mod_cast h2
  · linarith

/-- No point of the grid is nearer than a whole number at most 1/2 away, and another one as near is 1/2 away too. -/
theorem dist_grid (h : |X - N| ≤ 1 / 2) (hg : OnGrid X ζ) :
    ζ = N ∨ |X - N| < |X - ζ| ∨ (|X - N| = 1 / 2 ∧ |X - ζ| = 1 / 2) := by
  have key : ∀ i : ℤ, (i : ℝ) ≠ N → 1 / 2 ≤ |X - i| := fun i hi => by
    have hne : i ≠ (N : ℤ) := fun e => hi (by rw [e]; rfl)
    have h1 : (1 : ℝ) ≤ |((i - N : ℤ) : ℝ)| := by exact_mod_cast Int.one_le_abs (sub_ne_zero.2 hne)
    have h2 : |((i - N : ℤ) : ℝ)| ≤ |X - i| + |X - N| := by
      have := abs_sub_le (i : ℝ) X N
      rw [abs_sub_comm (i : ℝ) X] at this
      push_cast
      exact this
    linarith
  rcases hg with ⟨i, rfl⟩ | ⟨c, h1, h2⟩
  · by_cases hi : (i : ℝ) = N
    · exact .inl hi
    · rcases (key i hi).lt_or_eq with h1 | h1
      · exact .inr (.inl (by linarith))
      · rcases h.lt_or_eq with h2 | h2
        · exact .inr (.inl (by linarith))
        · exact .inr (.inr ⟨h2, h1.symm⟩)
  · refine .inr (.inl ?_)
    have hlt : |X - c| < |X - ζ| := by
      rw [abs_of_nonneg (by linarith), abs_of_nonneg (by linarith)]
      linarith
    by_cases hc : (c : ℝ) = N
    · rw [← hc]
      exact hlt
    · linarith [key c hc]

end

/-! ### The signed numbers -/

theorem away_cast (x y : ℚ) : ((away x y : ℚ) : ℝ) = |(x : ℝ) - y| := by
  unfold away
  split
  · next h =>
    have hr : (x : ℝ) ≤ y := by exact_mod_cast h
    rw [abs_of_nonpos (by linarith)]
    push_cast
    ring
  · next h =>
    have hr : (y : ℝ) ≤ x := by exact_mod_cast (not_le.1 h).le
    rw [abs_of_nonneg (by linarith)]
    push_cast
    ring

theorem away_le {x y x' y' : ℚ} : away x y ≤ away x' y' ↔ |(x : ℝ) - y| ≤ |(x' : ℝ) - y'| := by
  rw [← away_cast, ← away_cast, Rat.cast_le]

theorem away_eq {x y x' y' : ℚ} : away x y = away x' y' ↔ |(x : ℝ) - y| = |(x' : ℝ) - y'| := by
  rw [← away_cast, ← away_cast, Rat.cast_inj]

theorem signOf_mul_self (neg : Bool) : signOf neg * signOf neg = 1 := by cases neg <;> norm_num [signOf]

theorem abs_signOf (neg : Bool) : |signOf neg| = 1 := by cases neg <;> simp [signOf]

/-- The distance of two numbers of one sign, measured in a unit. -/
theorem abs_scaled (neg : Bool) (x y : ℝ) {u : ℝ} (hu : 0 < u) : |signOf neg * (x * u) - signOf neg * (y * u)| = |x - y| * u := by
  rw [← mul_sub, ← sub_mul, abs_mul, abs_signOf, one_mul, abs_mul, abs_of_pos hu]

/-- Where a number of the format lies, measured in a unit with the sign of the result. -/
theorem number_onGrid {f : FFmt} {k : Nat} {z : ℚ} {q : Int} {X : ℝ} (neg : Bool) (h : numberOf f k = some z)
    (hq : 1 - f.bias - f.man ≤ q) (hX : 1 - f.bias - f.man < q → 2 ^ f.man ≤ X) :
    ∃ ζ : ℝ, (z : ℝ) = signOf neg * (ζ * 2 ^ q) ∧ OnGrid X ζ ∧ OnGrid X |ζ| := by
  obtain ⟨Z, hz, hg⟩ := number_grid h hq
  have hu : (0 : ℝ) < 2 ^ q := by positivity
  have hζ : (z : ℝ) = signOf neg * (signOf neg * z / 2 ^ q * 2 ^ q) := by
    rw [div_mul_cancel₀ _ hu.ne', ← mul_assoc, signOf_mul_self, one_mul]
  have ha : |signOf neg * z / 2 ^ q| = Z := by
    rw [abs_div, abs_mul, abs_signOf, one_mul, hz, abs_of_pos hu, mul_div_assoc, div_self hu.ne', mul_one]
  refine ⟨signOf neg * z / 2 ^ q, hζ, ?_, ?_⟩
  · rcases hg with ⟨i, rfl⟩ | ⟨hlt, hb⟩
    · rcases eq_or_eq_neg_of_abs_eq ha with e | e
      · exact .inl ⟨i, by rw [e]; rfl⟩
      · exact .inl ⟨-i, by rw [e]; push_cast; rfl⟩
    · exact .inr ⟨2 ^ f.man, by push_cast; exact (le_abs_self _).trans_lt (ha ▸ hlt), by push_cast; exact hX hb⟩
  · rw [ha]
    rcases hg with ⟨i, rfl⟩ | ⟨hlt, hb⟩
    · exact .inl ⟨i, rfl⟩
    · exact .inr ⟨2 ^ f.man, by push_cast; exact hlt, by push_cast; exact hX hb⟩

section
variable {f : FFmt} {rm : RM} {neg : Bool} {N c : ℕ} {q : Int} {X : ℝ} (hX : 0 ≤ X) (hR : Rounds rm neg X N)
  (hq : 1 - f.bias - f.man ≤ q) (hbig : 1 - f.bias - f.man < q → 2 ^ f.man ≤ X)
include hX hR hq hbig

theorem roundsTo_of_rounds {v : ℚ} (hv : (v : ℝ) = signOf neg * (X * 2 ^ q)) (hc : N % 2 = 0 → c % 2 = 0) :
    roundsTo f rm v (ratio neg N q) c := by
  have hu : (0 : ℝ) < 2 ^ q := by positivity
  have hy := ratio_cast neg N q
  have hgrid := fun k z (h : numberOf f k = some z) => number_onGrid neg h hq hbig
  have hN : (0 : ℝ) ≤ N := Nat.cast_nonneg N
  have hzero : ∀ x : ℝ, |(0 : ℝ) - signOf neg * (x * 2 ^ q)| = |x| * 2 ^ q := fun x => by
    rw [zero_sub, abs_neg, abs_mul, abs_signOf, one_mul, abs_mul, abs_of_pos hu]
  have hsame : ∀ (ζ : ℝ) (z : ℚ), (z : ℝ) = signOf neg * (ζ * 2 ^ q) → ζ = N → z = ratio neg N q := fun ζ z hz e =>
    Rat.cast_injective (α := ℝ) (by rw [hz, hy, e])
  -- the order of the signed numbers is that of the magnitudes, or its opposite
  have hle : ∀ x y : ℝ, signOf neg * (x * 2 ^ q) ≤ signOf neg * (y * 2 ^ q) ↔ if neg then y ≤ x else x ≤ y := fun x y => by
    cases neg with
    | false => simp only [signOf, Bool.false_eq_true, if_false, one_mul, mul_le_mul_iff_left₀ hu]
    | true => simp only [signOf, if_true, neg_one_mul, neg_le_neg_iff, mul_le_mul_iff_left₀ hu]
  cases rm with
  | rne =>
    obtain ⟨h1, h2⟩ := hR
    intro k z hz
    obtain ⟨ζ, hζ, hg, -⟩ := hgrid k z hz
    rw [away_le, away_eq, hv, hζ, hy, abs_scaled neg _ _ hu, abs_scaled neg _ _ hu, mul_le_mul_iff_left₀ hu, mul_left_inj' hu.ne']
    rcases dist_grid h1 hg with e | h | ⟨g1, g2⟩
    · exact ⟨by rw [e], fun hne => absurd (hsame ζ z hζ e) hne⟩
    · exact ⟨h.le, fun _ e => absurd e h.ne⟩
    · exact ⟨by rw [g1, g2], fun _ _ => hc (h2 g1)⟩
  | rna =>
    obtain ⟨h1, h2⟩ := hR
    intro k z hz
    obtain ⟨ζ, hζ, hg, -⟩ := hgrid k z hz
    rw [away_le, away_le, away_eq, hv, hζ, hy, abs_scaled neg _ _ hu, abs_scaled neg _ _ hu, mul_le_mul_iff_left₀ hu,
      mul_left_inj' hu.ne', Rat.cast_zero, hzero, hzero, mul_le_mul_iff_left₀ hu, abs_of_nonneg hN]
    rcases dist_grid h1 hg with e | h | ⟨g1, g2⟩
    · exact ⟨by rw [e], fun _ => by rw [e, abs_of_nonneg hN]⟩
    · exact ⟨h.le, fun e => absurd e h.ne⟩
    · refine ⟨by rw [g1, g2], fun _ => ?_⟩
      have hlt := h2 g1
      rw [abs_of_neg (by linarith)] at g1
      rw [abs_eq (by norm_num)] at g2
      rw [abs_le]
      rcases g2 with g | g
      · exact ⟨by linarith, by linarith⟩
      · exact ⟨by linarith, by linarith⟩
  | rz =>
    obtain ⟨h1, h2⟩ := hR
    refine ⟨?_, fun k z hz => ?_⟩
    · rw [away_le, Rat.cast_zero, hv, hy, hzero, hzero, mul_le_mul_iff_left₀ hu, abs_of_nonneg hN, abs_of_nonneg hX]
      exact h1
    · obtain ⟨ζ, hζ, -, hg⟩ := hgrid k z hz
      rw [away_le, away_le, Rat.cast_zero, hv, hζ, hy, hzero, hzero, hzero, mul_le_mul_iff_left₀ hu, mul_le_mul_iff_left₀ hu,
        abs_of_nonneg hN, abs_of_nonneg hX]
      exact floor_grid h2 hg
  | ru =>
    refine ⟨?_, fun k z hz => ?_⟩
    · rw [← Rat.cast_le (K := ℝ), hv, hy, hle]
      cases neg with
      | true => exact hR.1
      | false => exact hR.2
    · obtain ⟨ζ, hζ, hg, -⟩ := hgrid k z hz
      rw [← Rat.cast_le (K := ℝ), ← Rat.cast_le (K := ℝ), hv, hζ, hy, hle, hle]
      cases neg with
      | true => exact floor_grid hR.2 hg
      | false => exact ceil_grid hR.1 hg
  | rd =>
    refine ⟨?_, fun k z hz => ?_⟩
    · rw [← Rat.cast_le (K := ℝ), hv, hy, hle]
      cases neg with
      | true => exact hR.2
      | false => exact hR.1
    · obtain ⟨ζ, hζ, hg, -⟩ := hgrid k z hz
      rw [← Rat.cast_le (K := ℝ), ← Rat.cast_le (K := ℝ), hv, hζ, hy, hle, hle]
      cases neg with
      | true => exact ceil_grid hR.1 hg
      | false => exact floor_grid hR.2 hg
  | sr x => exact hR.elim

/-- A root that is not negative, rounded. -/
theorem rootTo_of_rounds {a : ℚ} (hneg : neg = false) (ha : (X * 2 ^ q) * (X * 2 ^ q) = (a : ℝ)) :
    rootTo f rm a (ratio neg N q) := by
  subst hneg
  have hu : (0 : ℝ) < 2 ^ q := by positivity
  have hone : signOf false = 1 := rfl
  have hy := ratio_cast false N q
  rw [hone, one_mul] at hy
  have hN : (0 : ℝ) ≤ N := Nat.cast_nonneg N
  have hgrid : ∀ k z, numberOf f k = some z → ∃ ζ : ℝ, (z : ℝ) = ζ * 2 ^ q ∧ OnGrid X ζ := fun k z h => by
    obtain ⟨ζ, hζ, hg, -⟩ := number_onGrid (X := X) false h hq hbig
    exact ⟨ζ, by rw [hζ, hone, one_mul], hg⟩
  have hsq : ∀ x y : ℝ, 0 ≤ y → (x * 2 ^ q) * (x * 2 ^ q) ≤ (y * 2 ^ q) * (y * 2 ^ q) → x ≤ y := fun x y hy h =>
    le_of_mul_le_mul_right (abs_le_of_sq_le_sq' (by nlinarith) (by positivity)).2 hu
  have hsq' : ∀ x y : ℝ, 0 ≤ x → x ≤ y → (x * 2 ^ q) * (x * 2 ^ q) ≤ (y * 2 ^ q) * (y * 2 ^ q) := fun x y hx h =>
    mul_self_le_mul_self (by positivity) (mul_le_mul_of_nonneg_right h hu.le)
  have hdown : (N : ℝ) ≤ X → X < N + 1 →
      ratio false N q * ratio false N q ≤ a ∧ ∀ k z, numberOf f k = some z → z * z ≤ a → z ≤ ratio false N q := fun h1 h2 => by
    refine ⟨?_, fun k z hz => ?_⟩
    · rw [← Rat.cast_le (K := ℝ), Rat.cast_mul, hy, ← ha]
      exact hsq' _ _ hN h1
    · obtain ⟨ζ, hζ, hg⟩ := hgrid k z hz
      rw [← Rat.cast_le (K := ℝ), ← Rat.cast_le (K := ℝ), Rat.cast_mul, hζ, hy, ← ha, mul_le_mul_iff_left₀ hu]
      exact fun h => floor_grid h2 hg (hsq _ _ hX h)
  have hnear : |X - N| ≤ 1 / 2 → ∀ k z, numberOf f k = some z → 0 ≤ z →
      (ratio false N q < z → 4 * a ≤ (ratio false N q + z) * (ratio false N q + z))
      ∧ (z < ratio false N q → (ratio false N q + z) * (ratio false N q + z) ≤ 4 * a) := fun h1 k z hz h0 => by
    obtain ⟨ζ, hζ, hg⟩ := hgrid k z hz
    have hζ0 : 0 ≤ ζ := by
      have : (0 : ℝ) ≤ ζ * 2 ^ q := hζ ▸ (by exact_mod_cast h0)
      exact nonneg_of_mul_nonneg_left this hu
    have hd : |X - N| ≤ |X - ζ| := by
      rcases dist_grid h1 hg with e | h | ⟨g1, g2⟩
      · rw [e]
      · exact h.le
      · rw [g1, g2]
    have h4 : ((4 * a : ℚ) : ℝ) = (2 * X * 2 ^ q) * (2 * X * 2 ^ q) := by
      push_cast
      rw [← ha]
      ring
    have hs : (((ratio false N q + z) * (ratio false N q + z) : ℚ) : ℝ) = ((N + ζ) * 2 ^ q) * ((N + ζ) * 2 ^ q) := by
      push_cast
      rw [hy, hζ]
      ring
    rw [← Rat.cast_le (K := ℝ), ← Rat.cast_le (K := ℝ), ← Rat.cast_lt (K := ℝ), ← Rat.cast_lt (K := ℝ), h4, hs, hζ, hy,
      mul_lt_mul_iff_left₀ hu, mul_lt_mul_iff_left₀ hu]
    have hsqd := sq_le_sq.2 hd
    refine ⟨fun hlt => hsq' _ _ (by linarith) ?_, fun hlt => hsq' _ _ (by linarith) ?_⟩
    · by_contra hc
      nlinarith [mul_pos (sub_pos.2 hlt) (sub_pos.2 (not_le.1 hc))]
    · by_contra hc
      nlinarith [mul_pos (sub_pos.2 hlt) (sub_pos.2 (not_le.1 hc))]
  cases rm with
  | rne => exact hnear hR.1
  | rna => exact hnear hR.1
  | rz => exact hdown hR.1 hR.2
  | ru =>
    refine ⟨?_, fun k z hz h0 => ?_⟩
    · rw [← Rat.cast_le (K := ℝ), Rat.cast_mul, hy, ← ha]
      exact hsq' _ _ hX hR.2
    · obtain ⟨ζ, hζ, hg⟩ := hgrid k z hz
      have hζ0 : 0 ≤ ζ := by
        have : (0 : ℝ) ≤ ζ * 2 ^ q := hζ ▸ (by exact_mod_cast h0)
        exact nonneg_of_mul_nonneg_left this hu
      rw [← Rat.cast_le (K := ℝ), ← Rat.cast_le (K := ℝ), Rat.cast_mul, hζ, hy, ← ha, mul_le_mul_iff_left₀ hu]
      exact fun h => ceil_grid hR.1 hg (hsq _ _ hζ0 h)
  | rd => exact hdown hR.1 hR.2
  | sr x => exact hR.elim

end

end Sys2Proof.Machine

/-!
SUPPORT. The rounding of a value that a sign, a magnitude and an exponent stand for (R104).
-/
namespace Sys2Proof.Machine
open Sys2Proof Sys2Proof.Safety

/-- What stands for `W` starts with the same power of two. -/
theorem near_log2 {W : ℝ} {m : ℕ} {man : ℕ} (hn : Near W m) (hb : W = m ∨ 2 ^ (man + 2) ≤ m) (hm : m ≠ 0) :
    (2 : ℝ) ^ Nat.log2 m ≤ W := by
  have hc : W = m ∨ 2 ^ Nat.log2 m % 2 = 0 := hb.imp_right fun h => by
    have hl : man + 2 ≤ Nat.log2 m := (Nat.le_log2 hm).2 h
    rw [show Nat.log2 m = (Nat.log2 m - 1) + 1 by omega, Nat.pow_succ]
    exact Nat.mul_mod_left ..
  have h := (near_cmp hn hc).2.not.1 (not_lt.2 ((Nat.le_log2 hm).1 le_rfl))
  push_cast at h
  exact not_lt.1 h

theorem near_zero {W : ℝ} (hn : Near W 0) : W = 0 := by
  rcases hn with h | ⟨h, -⟩
  · simpa using h
  · cases h

theorem inexact_flag (b t : Bool) : ((if b then fNX else 0) ||| (if b && t then fUF else 0)) &&& fNX = 0 ↔ b = false := by
  cases b <;> cases t <;> decide

section
variable {f : FFmt} (hk : f.kind = .ieee) (hex : 2 ≤ f.ex) (hman : 1 ≤ f.man)

theorem magLe_zero (q : Int) : magLe 0 q (maxFin f).1 (maxFin f).2 = true := by
  unfold magLe
  split <;> simp

include hk hex hman

/-- A value rounded into a format, where it does not overflow: a number that rounds the magnitude in a unit of the format. -/
theorem roundFin_rounds {rm : RM} (hrm : rm ∈ [RM.rne, .rz, .ru, .rd, .rna]) {neg : Bool} {W : ℝ} {m : ℕ} {e : Int}
    (hn : Near W m) (hb : W = m ∨ 2 ^ (f.man + 2) ≤ m) (hof : (roundFin f rm false neg m e).2 &&& fOF = 0) :
    ∃ N q, numberOf f (roundFin f rm false neg m e).1 = some (ratio neg N q) ∧ Rounds rm neg (W * 2 ^ (e - q)) N
      ∧ ((roundFin f rm false neg m e).2 &&& fNX = 0 ↔ W * 2 ^ (e - q) = N)
      ∧ (N % 2 = 0 → (roundFin f rm false neg m e).1 % 2 = 0)
      ∧ 1 - f.bias - f.man ≤ q ∧ (1 - f.bias - f.man < q → 2 ^ f.man ≤ W * 2 ^ (e - q)) := by
  by_cases hm : m = 0
  · subst hm
    have hW := near_zero hn
    have hcode : encodeFin f neg 0 0 = encodeFin f neg 0 (1 - f.bias - f.man) := by
      have hno : ¬ 2 ^ (f.man + 1) ≤ 0 := Nat.not_le.2 (Nat.two_pow_pos _)
      simp only [encodeFin, if_neg hno, if_pos (Nat.two_pow_pos f.man)]
    refine ⟨0, 1 - f.bias - f.man, ?_, ?_, ?_, ?_, le_rfl, fun h => absurd h (lt_irrefl _)⟩
    · rw [roundFin, if_pos rfl, hcode]
      exact encodeFin_number hk (Nat.zero_le _) le_rfl (fun _ => rfl) hex (magLe_zero _)
    · rw [hW, zero_mul]
      exact_mod_cast rounds_self neg 0 hrm
    · rw [roundFin, if_pos rfl, hW, zero_mul]
      simp
    · rw [roundFin, if_pos rfl]
      exact fun _ => encodeFin_even hman (Nat.zero_le _) rfl
  · rw [roundFin, if_neg hm] at hof ⊢
    extract_lets q1 qmin n1 tiny q r at hof ⊢
    have hq1 : q1 ≤ q := by
      unfold q
      split <;> omega
    have hqmin : qmin ≤ q := by
      unfold q
      split <;> omega
    have hlog := near_log2 hn hb hm
    have hbig : qmin < q → (2 : ℝ) ^ f.man ≤ W * 2 ^ (e - q) := fun h => by
      have hq : q = q1 := by
        unfold q at h ⊢
        split at h <;> simp_all
      have hexp : (2 : ℝ) ^ f.man = 2 ^ Nat.log2 m * 2 ^ (e - q) := by
        rw [hq, ← zpow_natCast, ← zpow_natCast, ← zpow_add₀ (by norm_num)]
        congr 1
        unfold q1
        omega
      rw [hexp]
      gcongr
    have hs : W = m ∨ e + 2 ≤ q := hb.imp_right fun h => by
      have hl : f.man + 2 ≤ Nat.log2 m := (Nat.le_log2 hm).2 h
      unfold q1 at hq1
      omega
    obtain ⟨hR, hx⟩ := roundAt_rounds neg hrm hn hs (q := q)
    have hN : r.1 ≤ 2 ^ (f.man + 1) := roundAt_le rm neg hq1
    by_cases hle : magLe r.1 q (maxFin f).1 (maxFin f).2 = true
    · rw [hle, Bool.not_true, if_neg (by decide)]
      refine ⟨r.1, q, ?_, hR, ?_, ?_, hqmin, hbig⟩
      · refine encodeFin_number hk hN hqmin (fun hlt => ?_) hex hle
        by_contra hc
        have hge := rounds_ge hR (c := 2 ^ f.man) (by
          push_cast
          exact hbig (lt_of_le_of_ne hqmin (Ne.symm hc)))
        exact absurd hlt (Nat.not_lt.2 hge)
      · rw [← hx]
        exact inexact_flag r.2 tiny
      · exact encodeFin_even hman hN
    · rw [Bool.not_eq_true] at hle
      rw [hle, hk, Bool.not_false, if_pos rfl] at hof
      exact absurd hof (show ¬ (fOF ||| fNX) &&& fOF = 0 by decide)

/-- A value rounded once: what `v` becomes, and when it is inexact. -/
theorem rounded_fin {rm : RM} (hrm : rm ∈ [RM.rne, .rz, .ru, .rd, .rna]) {neg : Bool} {W : ℝ} {m : ℕ} {e : Int} {v : ℚ}
    (hn : Near W m) (hb : W = m ∨ 2 ^ (f.man + 2) ≤ m) (hW : 0 ≤ W) (hv : (v : ℝ) = signOf neg * (W * 2 ^ e)) :
    rounded f rm v (roundFin f rm false neg m e) := by
  intro hof
  obtain ⟨N, q, hnum, hR, hx, hev, hq, hbig⟩ := roundFin_rounds hk hex hman hrm hn hb hof
  have hu : (0 : ℝ) < 2 ^ q := by positivity
  have hv' : (v : ℝ) = signOf neg * (W * 2 ^ (e - q) * 2 ^ q) := by
    rw [hv, mul_assoc W, ← zpow_add₀ (by norm_num), sub_add_cancel]
  refine ⟨ratio neg N q, hnum, roundsTo_of_rounds (by positivity) hR hq hbig hv' hev, ?_⟩
  rw [hx, ← Rat.cast_inj (α := ℝ), ratio_cast, hv']
  have hs : signOf neg ≠ 0 := fun h => by simpa [h] using signOf_mul_self neg
  rw [mul_right_inj' hs, mul_left_inj' hu.ne', eq_comm]

theorem rounded_exact {rm : RM} (hrm : rm ∈ [RM.rne, .rz, .ru, .rd, .rna]) {neg : Bool} {m : ℕ} {e : Int} {v : ℚ}
    (hv : v = ratio neg m e) : rounded f rm v (roundFin f rm false neg m e) :=
  rounded_fin hk hex hman hrm (.inl rfl) (.inl rfl) (Nat.cast_nonneg m) (by rw [hv, ratio_cast])

end

/-! ### Exact sums and products -/

theorem sint_ratio (neg : Bool) (m : Nat) {e q : Int} (h : q ≤ e) :
    ((sint neg m * (2 ^ (e - q).toNat : Nat) : ℤ) : ℚ) * 2 ^ q = ratio neg m e := by
  have hp : ((2 : ℚ) ^ e) = 2 ^ (e - q).toNat * 2 ^ q := by
    rw [← zpow_natCast, Int.toNat_of_nonneg (by omega), ← zpow_add₀ (by norm_num), sub_add_cancel]
  rw [ratio, pow2_eq, hp, sint]
  cases neg <;> push_cast <;> simp <;> ring

theorem natAbs_ratio (i : ℤ) (q : Int) : ratio (decide (i < 0)) i.natAbs q = (i : ℚ) * 2 ^ q := by
  rw [ratio, pow2_eq]
  rcases lt_or_ge i 0 with h | h
  · have hn : ((i.natAbs : ℕ) : ℚ) = -(i : ℚ) := by
      rw [Nat.cast_natAbs, abs_of_neg h]
      push_cast
      rfl
    rw [decide_eq_true h, if_pos rfl, hn]
    ring
  · have hn : ((i.natAbs : ℕ) : ℚ) = (i : ℚ) := by
      rw [Nat.cast_natAbs, abs_of_nonneg h]
    rw [decide_eq_false (not_lt.2 h), if_neg (by decide), hn, one_mul]

theorem addV_fin (rm : RM) (x y : Bool) (m n : Nat) (e g : Int) :
    ∃ s k q, addV rm (.fin x m e) (.fin y n g) = (.fin s k q, 0) ∧ ratio s k q = ratio x m e + ratio y n g := by
  have h1 := sint_ratio x m (min_le_left e g)
  have h2 := sint_ratio y n (min_le_right e g)
  rw [addV]
  generalize min e g = q at *
  have hi := congrArg₂ (· + ·) h1 h2
  rw [← add_mul, ← Int.cast_add] at hi
  generalize sint x m * (2 ^ (e - q).toNat : Nat) + sint y n * (2 ^ (g - q).toNat : Nat) = i at hi ⊢
  by_cases h0 : i = 0
  · rw [if_pos h0]
    exact ⟨_, 0, q, rfl, by rw [ratio_zero, ← hi, h0, Int.cast_zero, zero_mul]⟩
  · rw [if_neg h0]
    exact ⟨_, _, q, rfl, by rw [natAbs_ratio, hi]⟩

theorem ratio_mul (x y : Bool) (m n : Nat) (e g : Int) : ratio (x != y) (m * n) (e + g) = ratio x m e * ratio y n g := by
  rw [ratio, ratio, ratio, pow2_eq, pow2_eq, pow2_eq, zpow_add₀ (by norm_num)]
  cases x <;> cases y <;> push_cast <;> simp <;> ring

theorem ratio_neg (x : Bool) (m : Nat) (e : Int) : ratio (!x) m e = -ratio x m e := by
  rw [ratio, ratio]
  cases x <;> simp

theorem withRound_fin (f : FFmt) (rm : RM) (s : Bool) (k : Nat) (q : Int) :
    withRound f rm (.fin s k q, 0) = roundFin f rm false s k q := Prod.ext rfl (BitVec.or_zero ..)

section
variable {f : FFmt} (hk : f.kind = .ieee) (hex : 2 ≤ f.ex) (hman : 1 ≤ f.man) {rm : RM}
  (hrm : rm ∈ [RM.rne, .rz, .ru, .rd, .rna]) (x y : Bool) (m n : Nat) (e g : Int)
include hk hex hman hrm

theorem rounded_addV : rounded f rm (ratio x m e + ratio y n g) (withRound f rm (addV rm (.fin x m e) (.fin y n g))) := by
  obtain ⟨s, k, q, h, hv⟩ := addV_fin rm x y m n e g
  rw [h, withRound_fin]
  exact rounded_exact hk hex hman hrm hv.symm

theorem rounded_mulV : rounded f rm (ratio x m e * ratio y n g) (withRound f rm (mulV (.fin x m e) (.fin y n g))) := by
  rw [mulV, withRound_fin]
  exact rounded_exact hk hex hman hrm (ratio_mul x y m n e g).symm

theorem rounded_fmaV (z : Bool) (l : Nat) (d : Int) : rounded f rm (ratio x m e * ratio y n g + ratio z l d)
    (withRound f rm (fmaV rm (.fin x m e) (.fin y n g) (.fin z l d))) := by
  have h := rounded_addV hk hex hman hrm (x != y) z (m * n) l (e + g) d
  rw [ratio_mul] at h
  have hf : fmaV rm (.fin x m e) (.fin y n g) (.fin z l d) = addV rm (.fin (x != y) (m * n) (e + g)) (.fin z l d) := by
    obtain ⟨s, k, q, ha, -⟩ := addV_fin rm (x != y) z (m * n) l (e + g) d
    rw [fmaV, mulV]
    dsimp only
    rw [ha]
    simp [isSig]
  rw [hf]
  exact h

end

end Sys2Proof.Machine

/-!
SUPPORT. Quotients and roots are rounded from a significand whose last bit says whether something is left.
-/
namespace Sys2Proof.Machine
open Sys2Proof Sys2Proof.Safety

/-! ### Quotients -/

/-- The quotient of two whole numbers with a last bit for the remainder. -/
theorem near_div (t n : ℕ) (hn : n ≠ 0) : Near (2 * ((t : ℝ) / n)) (2 * (t / n) + (if t % n = 0 then 0 else 1)) := by
  have hpos : (0 : ℝ) < n := by exact_mod_cast Nat.pos_of_ne_zero hn
  have ht : (t : ℝ) = n * (t / n : ℕ) + (t % n : ℕ) := by exact_mod_cast (Nat.div_add_mod t n).symm
  have hq : (t : ℝ) / n = (t / n : ℕ) + ((t % n : ℕ) : ℝ) / n := by
    rw [ht]
    field_simp
  split
  · next h =>
    left
    rw [hq, h]
    push_cast
    ring
  · next h =>
    right
    have h0 : (0 : ℝ) < (t % n : ℕ) := by exact_mod_cast Nat.pos_of_ne_zero h
    have h1 : ((t % n : ℕ) : ℝ) < n := by exact_mod_cast Nat.mod_lt t (Nat.pos_of_ne_zero hn)
    have h2 : 0 < ((t % n : ℕ) : ℝ) / n := div_pos h0 hpos
    have h3 : ((t % n : ℕ) : ℝ) / n < 1 := (div_lt_one hpos).2 h1
    refine ⟨by omega, ?_, ?_⟩
    · rw [hq]
      push_cast
      linarith
    · rw [hq]
      push_cast
      linarith

theorem div_big {m n bits : ℕ} (hm : m ≠ 0) (hn : n ≠ 0) : 2 ^ bits ≤ m * 2 ^ (bits + Nat.log2 n + 1) / n := by
  rw [Nat.le_div_iff_mul_le (Nat.pos_of_ne_zero hn)]
  calc 2 ^ bits * n ≤ 2 ^ bits * 2 ^ (Nat.log2 n + 1) := Nat.mul_le_mul_left _ Nat.lt_log2_self.le
    _ = 2 ^ (bits + Nat.log2 n + 1) := (Nat.pow_add ..).symm
    _ ≤ m * 2 ^ (bits + Nat.log2 n + 1) := Nat.le_mul_of_pos_left _ (Nat.pos_of_ne_zero hm)

theorem ratio_ne_zero {y : Bool} {n : ℕ} {g : Int} (h : ratio y n g ≠ 0) : n ≠ 0 := fun hn => h (hn ▸ ratio_zero y g)

section
variable {f : FFmt} (hk : f.kind = .ieee) (hex : 2 ≤ f.ex) (hman : 1 ≤ f.man) {rm : RM}
  (hrm : rm ∈ [RM.rne, .rz, .ru, .rd, .rna])
include hk hex hman hrm

theorem rounded_divV (x y : Bool) (m n : Nat) (e g : Int) (hn : n ≠ 0) :
    rounded f rm (ratio x m e / ratio y n g) (withRound f rm (divV (f.man + 3) (.fin x m e) (.fin y n g))) := by
  rw [divV, if_neg hn]
  generalize hK : f.man + 3 + Nat.log2 n + 1 = k
  rw [withRound_fin]
  have hpos : (n : ℝ) ≠ 0 := by exact_mod_cast hn
  refine rounded_fin hk hex hman hrm (near_div (m * 2 ^ k) n hn) ?_ (by positivity) ?_
  · by_cases hm : m = 0
    · left
      simp [hm]
    · right
      have h := div_big (bits := f.man + 3) hm hn
      rw [hK, Nat.pow_succ] at h
      omega
  · have hs : signOf (x != y) = signOf x * signOf y := by cases x <;> cases y <;> norm_num [signOf]
    have hy : signOf y ≠ 0 := fun h => by simpa [h] using signOf_mul_self y
    have hyy : signOf y = 1 / signOf y := by
      rw [eq_div_iff hy]
      exact signOf_mul_self y
    have hp : (2 : ℝ) ^ (e - g - k - 1) = 2 ^ e / 2 ^ g / 2 ^ k / 2 := by
      rw [zpow_sub₀ (by norm_num), zpow_sub₀ (by norm_num), zpow_sub₀ (by norm_num), zpow_natCast, zpow_one]
    rw [Rat.cast_div, ratio_cast, ratio_cast, hs, hp, hyy]
    push_cast
    field_simp
    rw [sq, signOf_mul_self, mul_one]

end

/-! ### Roots -/

/-- The bits of a root from bit `n` down: the largest whole number whose square is at most `x`. -/
theorem isqrt_floor {x : ℕ} (n : ℕ) : ∀ r : ℕ, r * r ≤ x → x < (r + 2 ^ (n + 1)) * (r + 2 ^ (n + 1)) →
    isqrt x n r * isqrt x n r ≤ x ∧ x < (isqrt x n r + 1) * (isqrt x n r + 1) := by
  induction n with
  | zero =>
    intro r hlo hhi
    rw [isqrt]
    split
    · next h => exact ⟨h, hhi⟩
    · next h => exact ⟨hlo, not_le.1 h⟩
  | succ n ih =>
    intro r hlo hhi
    rw [isqrt]
    have hp : 2 ^ (n + 1 + 1) = 2 ^ (n + 1) + 2 ^ (n + 1) := by rw [Nat.pow_succ, Nat.mul_two]
    split
    · next h => exact ih _ h (by rwa [Nat.add_assoc, ← hp])
    · next h => exact ih _ hlo (not_le.1 h)

theorem isqrt_log2 (t : ℕ) : let r := isqrt t (Nat.log2 t / 2 + 1) 0
    r * r ≤ t ∧ t < (r + 1) * (r + 1) := by
  refine isqrt_floor _ 0 (Nat.zero_le _) ?_
  rw [Nat.zero_add, ← Nat.pow_add]
  exact Nat.lt_log2_self.trans_le (Nat.pow_le_pow_right (by decide) (by omega))

/-- A root with a last bit for what is left. -/
theorem near_sqrt {t r : ℕ} (hlo : r * r ≤ t) (hhi : t < (r + 1) * (r + 1)) :
    Near (2 * √(t : ℝ)) (2 * r + (if r * r = t then 0 else 1)) := by
  split
  · next h =>
    left
    rw [← h, Nat.cast_mul, Real.sqrt_mul_self (Nat.cast_nonneg r)]
    push_cast
    ring
  · next h =>
    right
    have h1 : ((r * r : ℕ) : ℝ) < t := Nat.cast_lt.2 (lt_of_le_of_ne hlo h)
    have h2 : (t : ℝ) < ((r + 1) * (r + 1) : ℕ) := Nat.cast_lt.2 hhi
    push_cast at h1 h2
    have g1 : (r : ℝ) < √t := Real.lt_sqrt_of_sq_lt (by nlinarith)
    have g2 : √(t : ℝ) < r + 1 := (Real.sqrt_lt' (by positivity)).2 (by nlinarith)
    refine ⟨by omega, ?_, ?_⟩
    · push_cast
      linarith
    · push_cast
      linarith

theorem overflow_flag (b t : Bool) : ((if b then fNX else 0) ||| (if b && t then fUF else 0)) &&& fOF = 0 := by
  cases b <;> cases t <;> decide

section
variable {f : FFmt} (hk : f.kind = .ieee) (hex : 2 ≤ f.ex)
include hk

/-- The unit of a number of the format is at most that of its largest numbers. -/
theorem fdecode_fin_le {x : Nat} {neg : Bool} {m : Nat} {e : Int} (h : fdecode f x = .fin neg m e) (hex : 2 ≤ f.ex) :
    e ≤ (2 ^ f.ex - 2 : Nat) - f.bias - f.man := by
  have hfour : 4 ≤ 2 ^ f.ex := Nat.pow_le_pow_right (n := 2) (by decide) hex
  have hlt : x / 2 ^ f.man % 2 ^ f.ex < 2 ^ f.ex := Nat.mod_lt _ (by omega)
  unfold fdecode at h
  extract_lets fr ex s at h
  have hlt' : ex < 2 ^ f.ex := hlt
  split at h
  · split at h <;> cases h
  · next hc =>
    have hne : ex ≠ 2 ^ f.ex - 1 := fun e => hc ⟨hk, e⟩
    split at h
    · cases h
    · split at h
      · injection h with h1 h2 h3
        omega
      · injection h with h1 h2 h3
        omega

include hex

theorem roundFin_no_overflow {rm : RM} {neg : Bool} {m : ℕ} {e : Int}
    (h : (Nat.log2 m : Int) + e < (2 ^ f.ex - 2 : Nat) - f.bias) : (roundFin f rm false neg m e).2 &&& fOF = 0 := by
  have hfour : 4 ≤ 2 ^ f.ex := Nat.pow_le_pow_right (n := 2) (by decide) hex
  have hpow : 2 ^ (f.man + 1) = 2 * 2 ^ f.man := by rw [Nat.pow_succ, Nat.mul_comm]
  have hM := Nat.two_pow_pos f.man
  rw [roundFin]
  split
  · exact BitVec.zero_and
  · extract_lets q1 qmin n1 tiny q r
    have hq1 : q1 ≤ q := by
      unfold q
      split <;> omega
    have hqmax : q < (2 ^ f.ex - 2 : Nat) - f.bias - f.man := by
      unfold q
      split
      · omega
      · omega
    have hN : r.1 ≤ 2 ^ (f.man + 1) := roundAt_le rm neg hq1
    have hle : magLe r.1 q (maxFin f).1 (maxFin f).2 = true := by
      rw [maxFin, hk, magLe, if_neg (not_le.2 hqmax)]
      refine decide_eq_true ?_
      calc r.1 ≤ (2 ^ (f.man + 1) - 1) * 2 := by omega
        _ ≤ (2 ^ (f.man + 1) - 1) * 2 ^ ((2 ^ f.ex - 2 : Nat) - f.bias - f.man - q).toNat :=
          Nat.mul_le_mul_left _ (Nat.le_self_pow (by omega) 2)
    rw [hle, Bool.not_true, if_neg (by decide)]
    exact overflow_flag r.2 tiny

omit hk hex in
theorem ratio_pos_sign {x : Bool} {m : ℕ} {e : Int} (hm : m ≠ 0) (h0 : 0 ≤ ratio x m e) : x = false := by
  have h1 : (0 : ℝ) ≤ signOf x * (m * 2 ^ e) := by
    rw [← ratio_cast]
    exact_mod_cast h0
  have h2 : (0 : ℝ) < m * 2 ^ e := by
    have : (0 : ℝ) < m := by exact_mod_cast Nat.pos_of_ne_zero hm
    positivity
  cases x with
  | false => rfl
  | true =>
    rw [signOf, if_pos rfl] at h1
    linarith

omit hk hex in
/-- The root of nothing is nothing. -/
theorem rootTo_zero {rm : RM} (hrm : rm ∈ [RM.rne, .rz, .ru, .rd, .rna]) : rootTo f rm 0 0 := by
  have h := rootTo_of_rounds (f := f) (rm := rm) (neg := false) (N := 0) (q := 1 - f.bias - f.man) (X := 0) (a := 0) le_rfl
    (by exact_mod_cast rounds_self false 0 hrm) le_rfl (fun h => absurd h (lt_irrefl _)) rfl (by simp)
  rwa [ratio_zero] at h

/-- The root of a number stays far below the largest ones. -/
theorem log2_sqrt_lt (hbias : f.bias ≤ (2 ^ f.ex - 3 : Nat)) {c : Nat} {x : Bool} {m M : Nat} {e E : Int} {W : ℝ}
    (hd : fdecode f c = .fin x m e) (hW : (2 : ℝ) ^ Nat.log2 M ≤ W) (ha : (W * 2 ^ E) * (W * 2 ^ E) = m * 2 ^ e) :
    (Nat.log2 M : Int) + E < (2 ^ f.ex - 2 : Nat) - f.bias := by
  have hfour : 4 ≤ 2 ^ f.ex := Nat.pow_le_pow_right (n := 2) (by decide) hex
  have hm : (m : ℝ) < 2 ^ (f.man + 1) := by exact_mod_cast (fdecode_fin hd).1
  have he := fdecode_fin_le hk hd hex
  have h1 : (2 : ℝ) ^ ((Nat.log2 M : Int) + E) ≤ W * 2 ^ E := by
    rw [zpow_add₀ (by norm_num), zpow_natCast]
    gcongr
  have h2 : (2 : ℝ) ^ (((Nat.log2 M : Int) + E) + ((Nat.log2 M : Int) + E)) < 2 ^ (((f.man + 1 : Nat) : Int) + e) := by
    calc (2 : ℝ) ^ (((Nat.log2 M : Int) + E) + ((Nat.log2 M : Int) + E))
        = 2 ^ ((Nat.log2 M : Int) + E) * 2 ^ ((Nat.log2 M : Int) + E) := zpow_add₀ (by norm_num) ..
      _ ≤ (W * 2 ^ E) * (W * 2 ^ E) := mul_self_le_mul_self (by positivity) h1
      _ = m * 2 ^ e := ha
      _ < 2 ^ (f.man + 1) * 2 ^ e := mul_lt_mul_of_pos_right hm (by positivity)
      _ = 2 ^ (((f.man + 1 : Nat) : Int) + e) := by rw [zpow_add₀ (by norm_num), zpow_natCast]
  have h3 := (zpow_lt_zpow_iff_right₀ (by norm_num : (1 : ℝ) < 2)).1 h2
  omega

omit hk hex in
/-- The value that stands for a root: its square is the number. -/
theorem sqrt_scaled (m : ℕ) (e : Int) (k : ℕ) (hk : (e - k) % 2 = 0) :
    (2 * √((m * 2 ^ k : ℕ) : ℝ) * 2 ^ ((e - k) / 2 - 1)) * (2 * √((m * 2 ^ k : ℕ) : ℝ) * 2 ^ ((e - k) / 2 - 1)) = (m : ℝ) * 2 ^ e := by
  have hs : √((m * 2 ^ k : ℕ) : ℝ) * √((m * 2 ^ k : ℕ) : ℝ) = (m * 2 ^ k : ℕ) := Real.mul_self_sqrt (Nat.cast_nonneg _)
  have hp : (2 : ℝ) ^ e = 2 ^ k * (2 * 2 ^ ((e - k) / 2 - 1)) * (2 * 2 ^ ((e - k) / 2 - 1)) := by
    have h1 : (2 : ℝ) * 2 ^ ((e - k) / 2 - 1) = 2 ^ ((e - k) / 2) := by
      rw [zpow_sub_one₀ (by norm_num)]
      ring
    rw [h1, ← zpow_natCast, ← zpow_add₀ (by norm_num), ← zpow_add₀ (by norm_num)]
    congr 1
    omega
  rw [hp]
  push_cast at hs ⊢
  linear_combination 4 * (2 : ℝ) ^ ((e - k) / 2 - 1) * 2 ^ ((e - k) / 2 - 1) * hs

theorem rootTo_sqrtV (hman : 1 ≤ f.man) (hbias : f.bias ≤ (2 ^ f.ex - 3 : Nat)) {rm : RM}
    (hrm : rm ∈ [RM.rne, .rz, .ru, .rd, .rna]) {c : Nat} {x : Bool} {m : Nat} {e : Int} (hd : fdecode f c = .fin x m e)
    (h0 : 0 ≤ ratio x m e) :
    ∃ q, numberOf f (withRound f rm (sqrtV (f.man + 3) (.fin x m e))).1 = some q ∧ 0 ≤ q ∧ rootTo f rm (ratio x m e) q
      ∧ ((withRound f rm (sqrtV (f.man + 3) (.fin x m e))).2 &&& fNX = 0 ↔ q * q = ratio x m e) := by
  by_cases hm : m = 0
  · subst hm
    obtain ⟨N, q, hnum, -, hx, -⟩ := roundFin_rounds hk hex hman hrm (neg := x) (W := 0) (m := 0) (e := 0) (.inl (by simp)) (.inl (by simp))
      (by
        rw [roundFin, if_pos rfl]
        exact BitVec.zero_and)
    have hflag : (roundFin f rm false x 0 0).2 &&& fNX = 0 := by
      rw [roundFin, if_pos rfl]
      exact BitVec.zero_and
    have hN : N = 0 := by
      have := hx.1 hflag
      rw [zero_mul] at this
      exact_mod_cast this.symm
    rw [hN, ratio_zero] at hnum
    rw [sqrtV, if_pos rfl, withRound_fin, ratio_zero]
    exact ⟨0, hnum, le_rfl, rootTo_zero hrm, by simp [hflag]⟩
  · have hx := ratio_pos_sign hm h0
    subst hx
    rw [sqrtV, if_neg hm, if_neg (by decide)]
    generalize hK : (2 * (f.man + 3) + if e % 2 = 0 then 0 else 1) = k
    have hkb : 2 * (f.man + 3) ≤ k := by omega
    have heven : (e - k) % 2 = 0 := by
      rw [← hK]
      split <;> omega
    obtain ⟨hlo, hhi⟩ := isqrt_log2 (m * 2 ^ k)
    dsimp only
    generalize isqrt (m * 2 ^ k) (Nat.log2 (m * 2 ^ k) / 2 + 1) 0 = r at hlo hhi ⊢
    have hnear := near_sqrt hlo hhi
    have hbig : 2 ^ (f.man + 2) ≤ 2 * r + (if r * r = m * 2 ^ k then 0 else 1) := by
      have h1 : 2 ^ (f.man + 3) * 2 ^ (f.man + 3) ≤ m * 2 ^ k := by
        rw [← Nat.pow_add]
        exact (Nat.pow_le_pow_right (by decide) (by omega)).trans (Nat.le_mul_of_pos_left _ (Nat.pos_of_ne_zero hm))
      have h2 : 2 ^ (f.man + 3) ≤ r := Nat.lt_succ_iff.1 (Nat.mul_self_lt_mul_self_iff.1 (h1.trans_lt hhi))
      rw [Nat.pow_succ] at h2
      omega
    generalize 2 * r + (if r * r = m * 2 ^ k then 0 else 1) = M at hnear hbig ⊢
    have hsq := sqrt_scaled m e k heven
    have hpos : (0 : ℝ) ≤ 2 * √((m * 2 ^ k : ℕ) : ℝ) := by positivity
    generalize 2 * √((m * 2 ^ k : ℕ) : ℝ) = W at hnear hsq hpos
    have hM : M ≠ 0 := by
      have := Nat.two_pow_pos (f.man + 2)
      omega
    have hof := roundFin_no_overflow hk hex (rm := rm) (neg := false)
      (log2_sqrt_lt hk hex hbias hd (near_log2 hnear (.inr hbig) hM) hsq)
    rw [withRound_fin]
    obtain ⟨N, q, hnum, hR, hx, -, hq, hb⟩ := roundFin_rounds hk hex hman hrm hnear (.inr hbig) hof
    have hcast : ((ratio false m e : ℚ) : ℝ) = m * 2 ^ e := by rw [ratio_cast, signOf, if_neg (by decide), one_mul]
    have hu : (0 : ℝ) < 2 ^ q := by positivity
    have hE : W * 2 ^ ((e - k) / 2 - 1) = W * 2 ^ ((e - k) / 2 - 1 - q) * 2 ^ q := by
      rw [mul_assoc, ← zpow_add₀ (by norm_num), sub_add_cancel]
    rw [hE] at hsq
    have hX : 0 ≤ W * 2 ^ ((e - k) / 2 - 1 - q) := by positivity
    generalize W * 2 ^ ((e - k) / 2 - 1 - q) = X at *
    have hy : ((ratio false N q : ℚ) : ℝ) = N * 2 ^ q := by rw [ratio_cast, signOf, if_neg (by decide), one_mul]
    refine ⟨ratio false N q, hnum, ?_, rootTo_of_rounds hX hR hq hb rfl (hsq.trans hcast.symm), ?_⟩
    · rw [← Rat.cast_le (K := ℝ), hy, Rat.cast_zero]
      positivity
    · rw [hx, ← Rat.cast_inj (α := ℝ), Rat.cast_mul, hy, hcast, ← hsq]
      refine ⟨fun h => by rw [h], fun h => ?_⟩
      have h1 := mul_self_inj (by positivity : (0 : ℝ) ≤ N * 2 ^ q) (by positivity : (0 : ℝ) ≤ X * 2 ^ q)
      exact ((mul_left_inj' hu.ne').1 (h1.1 h)).symm

end
end Sys2Proof.Machine

/-!
SUPPORT. Scalar results are rounded once (O19).
-/
namespace Sys2Proof.Machine
open Sys2Proof Sys2Proof.Safety

theorem scalarFmt_bounds (g : FpFmt) : (scalarFmt g).kind = .ieee ∧ 2 ≤ (scalarFmt g).ex ∧ 1 ≤ (scalarFmt g).man
    ∧ (scalarFmt g).bias ≤ (2 ^ (scalarFmt g).ex - 3 : Nat) := by cases g <;> decide

theorem ofInt_ratio (i : Int) : (i : ℚ) = ratio (decide (i < 0)) i.natAbs 0 := by
  rw [natAbs_ratio, zpow_zero, mul_one]

/-- Settles O19: each exact result is what a sign, a magnitude and an exponent stand for, its quotients and roots with a
last bit for what is left, and `roundFin` rounds that to a number of the format. -/
theorem resultsAreRoundedCorrectly : Obligations.ResultsAreRoundedCorrectly := by
  unfold Obligations.ResultsAreRoundedCorrectly
  intro g rm x y z a b c hrm f other hx hy hz
  obtain ⟨hk, hex, hman, hbias⟩ := scalarFmt_bounds g
  obtain ⟨ok, oex, oman⟩ : other.kind = .ieee ∧ 2 ≤ other.ex ∧ 1 ≤ other.man := by
    unfold other
    cases g <;> decide
  obtain ⟨sx, m, e, dx, rfl⟩ := numberOf_some hx
  obtain ⟨sy, n, d, dy, rfl⟩ := numberOf_some hy
  obtain ⟨sz, l, k, dz, rfl⟩ := numberOf_some hz
  refine ⟨?_, ?_, ?_, fun hb => ?_, ?_, ?_, fun h0 => ?_, ?_, fun i => ?_⟩
  · rw [fpAdd, dx, dy]
    exact rounded_addV hk hex hman hrm sx sy m n e d
  · rw [fpSub, dx, dy, sub_eq_add_neg, ← ratio_neg]
    exact rounded_addV hk hex hman hrm sx (!sy) m n e d
  · rw [fpMul, dx, dy]
    exact rounded_mulV hk hex hman hrm sx sy m n e d
  · rw [fpDiv, dx, dy]
    exact rounded_divV hk hex hman hrm sx sy m n e d (ratio_ne_zero hb)
  · rw [fpFma, dx, dy, dz]
    exact rounded_fmaV hk hex hman hrm sx sy m n e d sz l k
  · rw [fpFma, dx, dy, dz, sub_eq_neg_add, ← neg_mul, ← ratio_neg]
    exact rounded_fmaV hk hex hman hrm (!sx) sy m n e d sz l k
  · rw [fpSqrt, dx]
    exact rootTo_sqrtV hk hex hman hbias hrm dx h0
  · rw [fpConv, dx]
    exact (withRound_fin other rm sx m e) ▸ rounded_exact ok oex oman hrm rfl
  · exact rounded_exact hk hex hman hrm (ofInt_ratio i)

end Sys2Proof.Machine

/-!
SUPPORT. The core mover (R249, R250).
-/
namespace Sys2Proof.Machine
open Sys2Proof Sys2Proof.Safety

/-! ### Its ports -/

theorem rotate_outstanding (h : Hart) (s : State) : (coreOf (rotate h s) h.core).outstanding = (coreOf s h.core).outstanding := by
  rw [rotate_core]
  rfl

section
variable {s : State} {h : Hart}

theorem submitPort (hi : (coreOf s h.core).isolated = false) (v : Word) : portWrite h 0x2000 v s = moverSubmit h v s := by
  rw [show portWrite h 0x2000 v s = if (coreOf s h.core).isolated then .done 0 s else moverSubmit h v s from rfl, hi]
  rfl

theorem moverSubmit_full (hn : 6 ≤ (coreOf s h.core).outstanding.length) (v : Word) : moverSubmit h v s = .wait := if_pos hn

theorem moverSubmit_room (hn : (coreOf s h.core).outstanding.length < 6) (v : Word) :
    moverSubmit h v s = .done 0 (modCore s h.core fun c =>
      { c with moverQ := c.moverQ ++ [⟨h.thread, v.toNat, none⟩], outstanding := c.outstanding ++ [h.thread] }) :=
  if_neg (not_le.2 hn)

theorem moverDone_some {w : Word} {rest : List Word} (hd : (thread s h).moverDone = w :: rest) :
    portRead h 0x2008 s = .done w (modCore (modTh s h fun t => { t with moverDone := rest }) h.core fun c =>
      { c with outstanding := c.outstanding.erase h.thread }) := by
  rw [show portRead h 0x2008 s = moverDone h s from rfl, moverDone, hd]

theorem moverDone_none (hd : (thread s h).moverDone = []) : portRead h 0x2008 s = .wait := by
  rw [show portRead h 0x2008 s = moverDone h s from rfl, moverDone, hd]

variable {p : Fin 8} (hr : Runs h p 4 s)
include hr

theorem submit_takes (d : Fin 32) (hi : (coreOf s h.core).isolated = false) (hn : (coreOf s h.core).outstanding.length < 6) :
    takes (.moverSubmit h p d) h (fun u => modCore u h.core fun c =>
      { c with moverQ := c.moverQ ++ [⟨h.thread, (gReg (thread s h) d).toNat, none⟩], outstanding := c.outstanding ++ [h.thread] }) s :=
  outInstr_done hr ((submitPort hi _).trans (moverSubmit_room hn _))
    ((submitPort ((rotate_isolated h s).trans hi) _).trans (moverSubmit_room (by rw [rotate_outstanding]; exact hn) _))

theorem submit_waits (d : Fin 32) (hi : (coreOf s h.core).isolated = false) (hn : 6 ≤ (coreOf s h.core).outstanding.length) :
    waits (.moverSubmit h p d) h (.portWrite 0x2000 (gReg (thread s h) d) 4) s :=
  outInstr_waits hr ((submitPort hi _).trans (moverSubmit_full hn _))
    ((submitPort ((rotate_isolated h s).trans hi) _).trans (moverSubmit_full (by rw [rotate_outstanding]; exact hn) _))

theorem done_gives (d : Fin 32) {w : Word} {rest : List Word} (hd : (thread s h).moverDone = w :: rest) :
    gives (.moverDone h p d) h d w (fun u => modCore (modTh u h fun t => { t with moverDone := rest }) h.core fun c =>
      { c with outstanding := c.outstanding.erase h.thread }) s :=
  inInstr_done hr (moverDone_some hd) (moverDone_some (by rw [rotate_thread]; exact hd)) d

theorem done_waits (d : Fin 32) (hd : (thread s h).moverDone = []) : waits (.moverDone h p d) h (.portRead 0x2008 d 4) s :=
  inInstr_waits hr (moverDone_none hd) (moverDone_none (by rw [rotate_thread]; exact hd)) d

end

/-! ### Its transfers -/

/-- Flits that enter a queue change the queues of the core alone. -/
theorem enterOne_inj (s : State) (core : CoreId) (c : Core) (q : Nat) : ∃ x, enterOne s core c q = { c with inj := x } := by
  unfold enterOne
  dsimp only
  split
  · exact ⟨c.inj, rfl⟩
  · split
    · exact ⟨c.inj, rfl⟩
    · exact ⟨_, rfl⟩

theorem enterN_inj (s : State) (core : CoreId) (q n : Nat) : ∀ c : Core, ∃ x, enterN s core q n c = { c with inj := x } := by
  induction n with
  | zero => exact fun c => ⟨c.inj, rfl⟩
  | succ n ih =>
    intro c
    obtain ⟨x, hx⟩ := enterOne_inj s core c q
    obtain ⟨y, hy⟩ := ih (enterOne s core c q)
    exact ⟨y, hy.trans (by rw [hx])⟩

section
variable {s : State} {core : CoreId} {j : MoverJob} {jobs : List MoverJob}

/-- The mover takes its oldest transfer when it has none in progress. -/
theorem moverStart_takes (hm : (coreOf s core).moving = none) (hq : (coreOf s core).moverQ = j :: jobs) (hj : j.stream = none)
    (hb : listBlocked (coreOf s core) j.list = false) : moverStart core s =
      (let u := setCore s core { coreOf s core with moverQ := jobs }
       let rec_ := fun st => moverRecord ⟨core, j.thread⟩ (moverRec (fld (localWord (coreOf s core) (j.list + 16)) 29 16) st) u
       if listStatus (coreOf s core) (BitVec.ofNat 64 j.list) ≠ 0 then rec_ (listStatus (coreOf s core) (BitVec.ofNat 64 j.list))
       else if (readList (coreOf s core) j.list).dst.flatMap pairWrites = [] then rec_ 0
       else startList core j u) := by
  rw [moverStart]
  dsimp only
  rw [hm, hq]
  dsimp only
  rw [hj, hb]
  rfl

theorem moverRecord_thread (h : Hart) (w : Word) (s : State) : thread (moverRecord h w s) h =
    { thread s h with moverDone := (thread s h).moverDone ++ [w], evPending := (thread s h).evPending ||| 0x10 } := by
  rw [moverRecord, raiseEvent, modTh_modTh, thread_modTh_same]
  rfl

theorem moverRecord_core (h : Hart) (w : Word) (s : State) :
    coreOf (moverRecord h w s) h.core = { coreOf s h.core with threads := (coreOf (moverRecord h w s) h.core).threads } := by
  rw [moverRecord, raiseEvent, modTh_modTh, modTh, coreOf_modCore_same]
  rfl

/-- A good list's transfer is in progress, and local memory stands. -/
theorem startList_core (core : CoreId) (j : MoverJob) (s : State) :
    (coreOf (startList core j s) core).moverQ = (coreOf s core).moverQ
      ∧ (coreOf (startList core j s) core).moving.isSome = true ∧ (coreOf (startList core j s) core).mem = (coreOf s core).mem := by
  unfold startList
  extract_lets c l writes n hds pieces q mid plans rec_ s'
  obtain ⟨x, hx⟩ := enterN_inj s' core q 8 (coreOf s' core)
  rw [refill, coreOf_setCore_same, hx]
  unfold s'
  rw [coreOf_modCore_same]
  exact ⟨rfl, rfl, rfl⟩

theorem transfer_fails (hm : (coreOf s core).moving = none) (hq : (coreOf s core).moverQ = j :: jobs) (hj : j.stream = none)
    (hb : listBlocked (coreOf s core) j.list = false) (hf : listStatus (coreOf s core) (BitVec.ofNat 64 j.list) ≠ 0) :
    ∃ r, exec (.moverTransferStart core) s = .next r ∧ (coreOf r core).moverQ = jobs ∧ (coreOf r core).moving = none
      ∧ (coreOf r core).inj = (coreOf s core).inj
      ∧ thread r ⟨core, j.thread⟩ = { thread s ⟨core, j.thread⟩ with
          moverDone := (thread s ⟨core, j.thread⟩).moverDone ++ [BitVec.ofNat 64 (fld (localWord (coreOf s core) (j.list + 16)) 29 16
            + (listStatus (coreOf s core) (BitVec.ofNat 64 j.list)).toNat * 2 ^ 16)]
          evPending := (thread s ⟨core, j.thread⟩).evPending ||| 0x10 } := by
  refine ⟨_, congrArg Host.Outcome.next ((moverStart_takes hm hq hj hb).trans (if_pos hf)), ?_⟩
  have hc := moverRecord_core ⟨core, j.thread⟩ (moverRec (fld (localWord (coreOf s core) (j.list + 16)) 29 16)
    (listStatus (coreOf s core) (BitVec.ofNat 64 j.list))) (setCore s core { coreOf s core with moverQ := jobs })
  dsimp only at hc
  rw [coreOf_setCore_same] at hc
  refine ⟨by rw [hc], by rw [hc]; exact hm, by rw [hc], ?_⟩
  have hth : thread (setCore s core { coreOf s core with moverQ := jobs }) ⟨core, j.thread⟩ = thread s ⟨core, j.thread⟩ := by
    rw [thread, coreOf_setCore_same]
    rfl
  rw [moverRecord_thread, hth]
  rfl

theorem transfer_starts (hm : (coreOf s core).moving = none) (hq : (coreOf s core).moverQ = j :: jobs) (hj : j.stream = none)
    (hb : listBlocked (coreOf s core) j.list = false) (hf : listStatus (coreOf s core) (BitVec.ofNat 64 j.list) = 0)
    (hw : (readList (coreOf s core) j.list).dst.flatMap pairWrites ≠ []) :
    ∃ r, exec (.moverTransferStart core) s = .next r ∧ (coreOf r core).moverQ = jobs ∧ (coreOf r core).moving.isSome = true
      ∧ (coreOf r core).mem = (coreOf s core).mem := by
  refine ⟨_, congrArg Host.Outcome.next ((moverStart_takes hm hq hj hb).trans ((if_neg (not_not.2 hf)).trans (if_neg hw))), ?_⟩
  have h := startList_core core j (setCore s core { coreOf s core with moverQ := jobs })
  rw [coreOf_setCore_same] at h
  exact h

theorem moverFinish_eq {th : Fin 4} {q : Fin 16} {mid : Nat} {rec_ : Word}
    (hm : (coreOf s core).moving = some (th, q, mid, rec_, none)) : moverFinish core s =
      if sent (coreOf s core) q.val mid then moverRecord ⟨core, th⟩ rec_ (modCore s core fun c => { c with moving := none }) else s := by
  rw [moverFinish]
  dsimp only
  rw [hm]
  rfl

end

/-- Settles O38: the ports by `moverSubmit` and `moverDone`, the transfers by `moverStart` and `moverFinish`. -/
theorem moverWorksThroughItsQueue : Obligations.MoverWorksThroughItsQueue := by
  intro h p d w rec_ rest j jobs q mid s
  refine ⟨fun hr => ⟨submit_takes hr d, submit_waits hr d, done_gives hr d, done_waits hr d⟩,
    fun hm hq hj hb => ⟨transfer_fails hm hq hj hb, transfer_starts hm hq hj hb⟩, fun hm => ⟨fun hs => ?_, fun hs => ?_⟩⟩
  · refine congrArg Host.Outcome.next ((moverFinish_eq hm).trans ((if_pos hs).trans ?_))
    rw [moverRecord, raiseEvent, modTh_modTh]
    rfl
  · exact congrArg Host.Outcome.next ((moverFinish_eq hm).trans (if_neg (by rw [hs]; decide)))

end Sys2Proof.Machine

/-!
SUPPORT. `SEND`: the flits of a message and their queue (R69, R70, R107, R282, R283).
-/
namespace Sys2Proof.Machine
open Sys2Proof Sys2Proof.Safety

/-! ### Header fields (R281) -/

/-- A header, split at a field. -/
theorem header_split (x : Header) (lo n : Nat) :
    x.toNat = 2 ^ lo * (2 ^ n * (x.toNat / 2 ^ lo / 2 ^ n) + fld x lo n) + x.toNat % 2 ^ lo := by
  rw [fld, Nat.div_add_mod, Nat.div_add_mod]

theorem setF_toNat {x : Header} {lo n : Nat} (v : Nat) (hlo : lo + n ≤ 128) :
    (setF x lo n v).toNat = 2 ^ lo * (2 ^ n * (x.toNat / 2 ^ lo / 2 ^ n) + v % 2 ^ n) + x.toNat % 2 ^ lo := by
  have hdiv : x.toNat / 2 ^ lo / 2 ^ n < 2 ^ (128 - (lo + n)) := by
    rw [Nat.div_div_eq_div_mul, ← Nat.pow_add]
    refine Nat.div_lt_of_lt_mul ?_
    rw [← Nat.pow_add, Nat.add_sub_cancel' hlo]
    exact x.isLt
  have hsub : x.toNat - fld x lo n * 2 ^ lo = 2 ^ lo * (2 ^ n * (x.toNat / 2 ^ lo / 2 ^ n)) + x.toNat % 2 ^ lo := by
    refine Nat.sub_eq_of_eq_add ?_
    conv_lhs => rw [header_split x lo n]
    ring
  have h5 := fields_lt (a := 128 - (lo + n)) (b := n) hdiv (Nat.mod_lt v (Nat.two_pow_pos n))
  have h6 := fields_lt (a := 128 - (lo + n) + n) (b := lo) h5 (Nat.mod_lt x.toNat (Nat.two_pow_pos lo))
  rw [Nat.add_assoc (128 - (lo + n)) n lo, Nat.add_comm n lo, Nat.sub_add_cancel hlo] at h6
  rw [setF, hsub, BitVec.toNat_ofNat, Nat.mod_eq_of_lt]
  · ring
  · refine lt_of_eq_of_lt ?_ h6
    ring

/-- A field reads what is put there. -/
theorem fld_setF_same {x : Header} {lo n : Nat} (v : Nat) (hlo : lo + n ≤ 128) : fld (setF x lo n v) lo n = v % 2 ^ n := by
  rw [fld, setF_toNat v hlo, Nat.mul_add_div (Nat.two_pow_pos lo), Nat.div_eq_of_lt (Nat.mod_lt _ (Nat.two_pow_pos lo)),
    Nat.add_zero, Nat.mul_add_mod, Nat.mod_mod]

theorem setF_testBit {x : Header} {lo n i : Nat} (v : Nat) (hlo : lo + n ≤ 128) (hi : i < lo ∨ lo + n ≤ i) :
    (setF x lo n v).toNat.testBit i = x.toNat.testBit i := by
  rcases hi with hi | hi
  · have h : (setF x lo n v).toNat % 2 ^ lo = x.toNat % 2 ^ lo := by rw [setF_toNat v hlo, Nat.mul_add_mod, Nat.mod_mod]
    have hb := congrArg (Nat.testBit · i) h
    simpa [Nat.testBit_mod_two_pow, hi] using hb
  · have h : (setF x lo n v).toNat / 2 ^ (lo + n) = x.toNat / 2 ^ (lo + n) := by
      rw [setF_toNat v hlo, Nat.pow_add, ← Nat.div_div_eq_div_mul, ← Nat.div_div_eq_div_mul, Nat.mul_add_div (Nat.two_pow_pos lo),
        Nat.div_eq_of_lt (Nat.mod_lt x.toNat (Nat.two_pow_pos lo)), Nat.add_zero, Nat.mul_add_div (Nat.two_pow_pos n),
        Nat.div_eq_of_lt (Nat.mod_lt v (Nat.two_pow_pos n)), Nat.add_zero]
    have hb := congrArg (Nat.testBit · (i - (lo + n))) h
    simpa [Nat.testBit_div_two_pow, Nat.sub_add_cancel hi] using hb

/-- A field beside the one that is put. -/
theorem fld_setF_other {x : Header} {lo n a b : Nat} (v : Nat) (hlo : lo + n ≤ 128) (ha : a + b ≤ lo ∨ lo + n ≤ a) :
    fld (setF x lo n v) a b = fld x a b := by
  refine Nat.eq_of_testBit_eq fun i => ?_
  simp only [fld, Nat.testBit_mod_two_pow, Nat.testBit_div_two_pow]
  by_cases hi : i < b
  · rw [setF_testBit v hlo (by omega)]
  · simp [hi]

theorem bit_fld (x : Header) (i : Nat) : bit x i = decide (fld x i 1 = 1) := by
  rw [bit, ← BitVec.testBit_toNat, Nat.testBit_eq_decide_div_mod_eq]
  rfl

/-- What a header takes as it leaves: `GEN` where it asks for it, and the mark. -/
theorem leaveHeader_fields (s : State) (r : Option RegionId) (marked : Bool) (x : Header) :
    hPoison (leaveHeader s r marked x) = marked ∧ hCell (leaveHeader s r marked x) = hCell x
      ∧ hMember (leaveHeader s r marked x) = hMember x ∧ hLaddr (leaveHeader s r marked x) = hLaddr x
      ∧ hLen (leaveHeader s r marked x) = hLen x
      ∧ hGen (leaveHeader s r marked x) = if hOwnGen x then (match r with | some g => (regOf s g).gen.toNat | none => 0) else hGen x := by
  have hmark : ∀ y : Header, hPoison (setF y 57 1 (b2n marked)) = marked := fun y => by
    rw [hPoison, bit_fld, fld_setF_same _ (by decide)]
    cases marked <;> rfl
  have h57 : ∀ (y : Header) (a b : Nat), a + b ≤ 57 ∨ 58 ≤ a → fld (setF y 57 1 (b2n marked)) a b = fld y a b :=
    fun y a b h => fld_setF_other _ (by decide) h
  have h39 : ∀ v a b : Nat, a + b ≤ 39 ∨ 47 ≤ a → fld (setF x 39 8 v) a b = fld x a b := fun v a b h => fld_setF_other _ (by decide) h
  unfold leaveHeader hCell hMember hLaddr hLen hLen8 hGen
  cases hOwnGen x with
  | false =>
    simp only [Bool.false_eq_true, if_false]
    rw [h57 x 14 11 (by decide), h57 x 25 14 (by decide), h57 x 86 17 (by decide), h57 x 103 8 (by decide), h57 x 39 8 (by decide)]
    exact ⟨hmark x, rfl, rfl, rfl, rfl, rfl⟩
  | true =>
    have hfill : ∀ v < 2 ^ 8, fld (setF x 39 8 v) 39 8 = v := fun v hv => by rw [fld_setF_same v (by decide), Nat.mod_eq_of_lt hv]
    simp only [if_true]
    rw [h57 _ 14 11 (by decide), h57 _ 25 14 (by decide), h57 _ 86 17 (by decide), h57 _ 103 8 (by decide), h57 _ 39 8 (by decide),
      h39 _ 14 11 (by decide), h39 _ 25 14 (by decide), h39 _ 86 17 (by decide), h39 _ 103 8 (by decide)]
    refine ⟨hmark _, rfl, rfl, rfl, rfl, ?_⟩
    cases r with
    | none => exact hfill 0 (by decide)
    | some g => exact hfill _ (regOf s g).gen.isLt

/-! ### A message enters an empty queue (R69, R282) -/

/-- A message that a thread sends: its first flit's plan and what the plans share. -/
structure Sending where
  mid : Nat
  header : Header
  src : SourceWord
  addr : Nat
  len : Nat
  thread : Fin 4
  region : Option RegionId

namespace Sending

/-- The plan of flit `i` under header `hd`. -/
def plan (m : Sending) (hd : Header) (i : Nat) : FlitPlan :=
  ⟨m.mid, hd, m.src, i, decide (i + 1 = flitCount m.len), flitAddrs m.addr m.len i, some m.thread, m.region, none⟩

/-- Flit `i` under header `hd`, with the words as the thread sees them. -/
def flit (m : Sending) (c : Core) (hd : Header) (i : Nat) : Flit :=
  ⟨m.mid, hd, m.src, i, decide (i + 1 = flitCount m.len), (flitAddrs m.addr m.len i).map (wordView c (some m.thread)), none,
    m.region, none, none⟩

/-- A payload word is marked. -/
def marked (m : Sending) (c : Core) : Bool :=
  (List.range (flitCount m.len)).any fun i => (flitAddrs m.addr m.len i).any fun a => (wordView c (some m.thread) a).poison

/-- The queue when `k` flits have entered it; `hd` is the header as it leaves. -/
def queue (m : Sending) (c : Core) (hd : Header) (k : Nat) : InjQ :=
  ⟨(List.range k).map (m.flit c hd), (List.range' k (flitCount m.len - k)).map (m.plan (if k = 0 then m.header else hd))⟩

end Sending

theorem injOf_setInj (c : Core) (q : Nat) (x : InjQ) : injOf (setInj c q x) q = x := tget_tset_same ..

theorem setInj_setInj (c : Core) (q : Nat) (x y : InjQ) : setInj (setInj c q x) q y = setInj c q y := by
  simp [setInj]

theorem enterOne_cons {s : State} {core : CoreId} {c : Core} {q : Nat} {p : FlitPlan} {rest : List FlitPlan} {hd : Header}
    (hp : (injOf c q).plans = p :: rest) (hl : (injOf c q).flits.length < 8) (hb : planBlocked c (injOf c q) p = false)
    (hhd : (if p.index = 0 then leaveHeader s (regionOf s core) (((injOf c q).plans.filter fun y => decide (y.mid = p.mid)).any
      fun y => y.addrs.any fun a => (wordView c y.thread a).poison) p.header else p.header) = hd) :
    enterOne s core c q = setInj c q
      { flits := (injOf c q).flits
          ++ [⟨p.mid, hd, p.source, p.index, p.last, p.addrs.map (wordView c p.thread), none, p.region, p.outbound, none⟩]
        plans := rest.map fun y => if y.mid = p.mid then { y with header := hd } else y } := by
  rw [enterOne]
  dsimp only
  split
  · next h => rw [h] at hp; cases hp
  · next p' rest' h =>
    obtain ⟨rfl, rfl⟩ := List.cons.inj (h.symm.trans hp)
    rw [if_neg (by rw [hb]; simp; omega), hhd]

section
variable {m : Sending} {s : State} {core : CoreId} {c : Core} {q : Nat} {hd : Header}
  (hhd : hd = leaveHeader s (regionOf s core) (m.marked c) m.header)
include hhd

theorem enterOne_sending {k : Nat} (hk : k < flitCount m.len) (h8 : k < 8) :
    enterOne s core (setInj c q (m.queue c hd k)) q = setInj c q (m.queue c hd (k + 1)) := by
  have hrange : List.range' k (flitCount m.len - k) = k :: List.range' (k + 1) (flitCount m.len - (k + 1)) := by
    rw [← List.range'_succ]
    congr 1
    omega
  have hplans : (injOf (setInj c q (m.queue c hd k)) q).plans = m.plan (if k = 0 then m.header else hd) k
      :: (List.range' (k + 1) (flitCount m.len - (k + 1))).map (m.plan (if k = 0 then m.header else hd)) := by
    rw [injOf_setInj, Sending.queue, hrange, List.map_cons]
  have hlen : (injOf (setInj c q (m.queue c hd k)) q).flits.length = k := by
    rw [injOf_setInj, Sending.queue, List.length_map, List.length_range]
  have hhead : (if k = 0 then leaveHeader s (regionOf s core) (((injOf (setInj c q (m.queue c hd k)) q).plans.filter
      fun y => decide (y.mid = m.mid)).any fun y => y.addrs.any fun a => (wordView (setInj c q (m.queue c hd k)) y.thread a).poison)
        (if k = 0 then m.header else hd) else if k = 0 then m.header else hd) = hd := by
    by_cases h0 : k = 0
    · subst h0
      have hall : (m.queue c hd 0).plans.filter (fun y => decide (y.mid = m.mid)) = (m.queue c hd 0).plans :=
        List.filter_eq_self.2 fun y hy => by
          rw [Sending.queue] at hy
          obtain ⟨i, -, rfl⟩ := List.mem_map.1 hy
          exact decide_eq_true rfl
      rw [if_pos rfl, if_pos rfl, injOf_setInj, hall, hhd, Sending.marked, Sending.queue, List.any_map, Nat.sub_zero,
        List.range_eq_range']
      rfl
    · rw [if_neg h0, if_neg h0]
  rw [enterOne_cons hplans (by omega) rfl hhead, injOf_setInj, setInj_setInj]
  congr 1
  rw [Sending.queue, Sending.queue, List.range_succ, List.map_append, if_neg (Nat.succ_ne_zero k), List.map_map]
  congr 1
  exact List.map_congr_left fun i _ => if_pos rfl

omit hhd in
theorem enterOne_sent (c' : Core) {k : Nat} (hk : flitCount m.len ≤ k ∨ 8 ≤ k) :
    enterOne s core (setInj c' q (m.queue c hd k)) q = setInj c' q (m.queue c hd k) := by
  rw [enterOne]
  dsimp only
  split
  · rfl
  · next p rest h =>
    rw [injOf_setInj] at h ⊢
    have h8 : 8 ≤ k := hk.resolve_left fun hle => by
      rw [Sending.queue, Nat.sub_eq_zero_of_le hle] at h
      cases h
    refine if_pos (.inl ?_)
    rw [Sending.queue, List.length_map, List.length_range]
    exact h8

/-- As many flits enter as the message has and the queue holds. -/
theorem enterN_sending (n : Nat) : ∀ k ≤ min 8 (flitCount m.len), enterN s core q n (setInj c q (m.queue c hd k))
    = setInj c q (m.queue c hd (min (k + n) (min 8 (flitCount m.len)))) := by
  induction n with
  | zero =>
    intro k hk
    rw [enterN, Nat.add_zero, Nat.min_eq_left hk]
  | succ n ih =>
    intro k hk
    rw [enterN]
    by_cases hlt : k < min 8 (flitCount m.len)
    · rw [enterOne_sending hhd (by omega) (by omega), ih (k + 1) hlt, Nat.add_right_comm, Nat.add_assoc]
    · have hend : min (k + n) (min 8 (flitCount m.len)) = min (k + (n + 1)) (min 8 (flitCount m.len)) := by omega
      rw [enterOne_sent c (by omega), ih k hk, hend]

end

/-! ### The payload as the thread sees it -/

theorem flitAddrs_mem {a len i x : Nat} : x ∈ flitAddrs a len i ↔ ∃ j < min 8 (len / 8 - 8 * i), x = a + 64 * i + 8 * j := by
  simp only [flitAddrs, List.mem_map, List.mem_range, eq_comm]

/-- The words of a message's flits are those of its payload. -/
theorem payload_words {a len x : Nat} (h8 : len % 8 = 0) :
    (∃ i < flitCount len, x ∈ flitAddrs a len i) ↔ ∃ w < len / 8, x = a + 8 * w := by
  constructor
  · rintro ⟨i, hi, hx⟩
    obtain ⟨j, hj, rfl⟩ := flitAddrs_mem.1 hx
    exact ⟨8 * i + j, by omega, by ring⟩
  · rintro ⟨w, hw, rfl⟩
    refine ⟨w / 8, ?_, flitAddrs_mem.2 ⟨w % 8, ?_, ?_⟩⟩
    · rw [flitCount]
      omega
    · omega
    · omega

theorem marked_iff {m : Sending} {s : State} {h : Hart} (ha : m.addr % 8 = 0) (hl : m.len % 8 = 0) (ht : m.thread = h.thread) :
    m.marked (coreOf s h.core) = true ↔ ¬ unmarked s h m.addr m.len := by
  have hwords : m.marked (coreOf s h.core) = true ↔ ∃ w < m.len / 8, poisonView (coreOf s h.core) (some h.thread) (m.addr / 8 + w) = true := by
    rw [Sending.marked, List.any_eq_true]
    simp only [List.mem_range, List.any_eq_true, wordView, ht]
    constructor
    · rintro ⟨i, hi, x, hx, hp⟩
      obtain ⟨w, hw, rfl⟩ := (payload_words hl).1 ⟨i, hi, hx⟩
      exact ⟨w, hw, by rwa [show (m.addr + 8 * w) / 8 = m.addr / 8 + w by omega] at hp⟩
    · rintro ⟨w, hw, hp⟩
      obtain ⟨i, hi, hx⟩ := (payload_words (a := m.addr) hl).2 ⟨w, hw, rfl⟩
      exact ⟨i, hi, _, hx, by rwa [show (m.addr + 8 * w) / 8 = m.addr / 8 + w by omega]⟩
  rw [hwords, unmarked]
  simp only [not_forall, Bool.not_eq_false]
  constructor
  · rintro ⟨w, hw, hp⟩
    exact ⟨m.addr / 8 + w, by omega, by omega, hp⟩
  · rintro ⟨w, h1, h2, hp⟩
    exact ⟨w - m.addr / 8, by omega, by rwa [Nat.add_sub_cancel' (by omega)]⟩

/-! ### The instruction -/

theorem sendHeader_eq (t : Thread) (a : Fin 32) : sendHeader t a = gReg t (a + 1) ++ gReg t a := by
  refine BitVec.eq_of_toNat_eq ?_
  have h1 := (gReg t a).isLt
  have h2 := (gReg t (a + 1)).isLt
  rw [sendHeader, BitVec.toNat_append, ← Nat.shiftLeft_add_eq_or_of_lt h1, Nat.shiftLeft_eq, BitVec.toNat_ofNat,
    Nat.mod_eq_of_lt (by omega), Nat.add_comm]

section
variable {h : Hart} {p : Fin 8} {q : Fin 16} {a b : Fin 32} {s : State} (ha : a.val % 2 = 0) (hr : Runs h p 4 s)
include ha hr

theorem send_faults {c : BitVec 8} {w : Word} (hf : sendFault (sendHeader (thread s h) a) (gReg (thread s h) b) = some ⟨c, w, false⟩) :
    faults (execSend h p q a b s) h c w s := by
  have hw : (Instr.send h p q a b).wf = true := decide_eq_true ha
  rw [execSend, guardWf_wf hw]
  refine issueOwn_faults hr ?_ _
  rw [hf]

theorem send_runs (hf : sendFault (sendHeader (thread s h) a) (gReg (thread s h) b) = none) :
    execSend h p q a b s = .next (sendEff h q (sendHeader (thread s h) a) (gReg (thread s h) b) (rotate h s)) := by
  have hw : (Instr.send h p q a b).wf = true := decide_eq_true ha
  rw [execSend, guardWf_wf hw]
  exact issueOwn_runs hr (by rw [hf]) (by rw [hf]) (by rw [hf]) _

end

/-- The message of a `SEND`. -/
def sending (h : Hart) (hd : Header) (x : Word) (s : State) : Sending :=
  ⟨s.nextMid, hd, sourceOf s h, x.toNat, hLen hd, h.thread, regionOf s h.core⟩

/-- Its header as it leaves. -/
def leaving (h : Hart) (hd : Header) (x : Word) (s : State) : Header :=
  leaveHeader s (regionOf s h.core) ((sending h hd x s).marked (coreOf s h.core)) hd

/-- What `SEND` does with an empty queue. -/
theorem sendEff_eq {h : Hart} {q : Fin 16} {hd : Header} {x : Word} {s : State} (hq : injOf (coreOf s h.core) q.val = ⟨[], []⟩) :
    sendEff h q hd x s = setRun h (.waiting (.send q s.nextMid)) (setCore { s with nextMid := s.nextMid + 1 } h.core
      (setInj (coreOf s h.core) q.val
        ((sending h hd x s).queue (coreOf s h.core) (leaving h hd x s) (min 8 (flitCount (hLen hd)))))) := by
  have hplans : (⟨[], [] ++ messagePlans s.nextMid hd (sourceOf s h) x.toNat (hLen hd) (some h.thread) (regionOf s h.core)⟩ : InjQ)
      = (sending h hd x s).queue (coreOf s h.core) (leaving h hd x s) 0 := by
    rw [Sending.queue, if_pos rfl, Nat.sub_zero, ← List.range_eq_range']
    rfl
  rw [sendEff]
  dsimp only
  rw [modCore, show coreOf { s with nextMid := s.nextMid + 1 } h.core = coreOf s h.core from rfl, hq, refill, coreOf_setCore_same,
    setCore_setCore, hplans]
  have hn := enterN_sending (s := setCore { s with nextMid := s.nextMid + 1 } h.core (setInj (coreOf s h.core) q.val
    ((sending h hd x s).queue (coreOf s h.core) (leaving h hd x s) 0))) (core := h.core) (c := coreOf s h.core) (q := q.val)
    (m := sending h hd x s) (hd := leaving h hd x s) rfl 8 0 (Nat.zero_le _)
  rw [hn, Nat.zero_add, Nat.min_eq_right (Nat.min_le_left ..)]
  rfl

theorem queue_lengths (m : Sending) (c : Core) (hd : Header) {k : Nat} (hk : k ≤ flitCount m.len) :
    (m.queue c hd k).flits.length = k ∧ (m.queue c hd k).flits.length + (m.queue c hd k).plans.length = flitCount m.len := by
  simp only [Sending.queue, List.length_map, List.length_range, List.length_range', true_and]
  omega

theorem flit_words (m : Sending) (c : Core) (hd : Header) (i : Nat) : (m.flit c hd i).words.length = min 8 (m.len / 8 - 8 * i)
    ∧ ∀ j (hj : j < (m.flit c hd i).words.length), (m.flit c hd i).words[j] = wordView c (some m.thread) (m.addr + 64 * i + 8 * j) := by
  have hl : (m.flit c hd i).words = ((List.range (min 8 (m.len / 8 - 8 * i))).map fun j => m.addr + 64 * i + 8 * j).map
      (wordView c (some m.thread)) := rfl
  refine ⟨by rw [hl, List.length_map, List.length_map, List.length_range], fun j hj => ?_⟩
  simp only [hl, List.getElem_map, List.getElem_range]

/-! ### The statement -/

theorem rotate_wordView (h : Hart) (s : State) (t : Option (Fin 4)) (a : Nat) :
    wordView (coreOf (rotate h s) h.core) t a = wordView (coreOf s h.core) t a := by
  rw [rotate_core]
  rfl

/-- What a `SEND` that runs makes of the state. -/
theorem send_effect {h : Hart} {q : Fin 16} {hd : Header} {x : Word} {s : State}
    (hq : injOf (coreOf s h.core) q.val = ⟨[], []⟩) : let r := sendEff h q hd x (rotate h s)
    thread r h = { thread s h with run := .waiting (.send q s.nextMid) } ∧ r.nextMid = s.nextMid + 1
      ∧ (∀ a, mget (coreOf r h.core).mem a = mget (coreOf s h.core).mem a) ∧ { r with cores := [] } = { s with nextMid := s.nextMid + 1, cores := [] }
      ∧ (∀ c : CoreId, c ≠ h.core → coreOf r c = coreOf s c)
      ∧ injOf (coreOf r h.core) q.val = (sending h hd x s).queue (coreOf s h.core) (leaving h hd x s) (min 8 (flitCount (hLen hd))) := by
  have hq' : injOf (coreOf (rotate h s) h.core) q.val = ⟨[], []⟩ := by
    rw [rotate_core]
    exact hq
  have hqueue : (sending h hd x (rotate h s)).queue (coreOf (rotate h s) h.core) (leaving h hd x (rotate h s)) (min 8 (flitCount (hLen hd)))
      = (sending h hd x s).queue (coreOf s h.core) (leaving h hd x s) (min 8 (flitCount (hLen hd))) := by
    have hview : wordView (coreOf (rotate h s) h.core) = wordView (coreOf s h.core) := funext fun t => funext fun a => rotate_wordView h s t a
    unfold leaving Sending.queue Sending.flit Sending.marked
    rw [hview]
    rfl
  dsimp only
  rw [sendEff_eq hq', hqueue]
  generalize (sending h hd x s).queue (coreOf s h.core) (leaving h hd x s) (min 8 (flitCount (hLen hd))) = Q
  refine ⟨?_, rfl, fun a => ?_, rfl, fun c hc => ?_, ?_⟩
  · rw [setRun, thread_modTh_same]
    have hth : thread (setCore { rotate h s with nextMid := (rotate h s).nextMid + 1 } h.core
        (setInj (coreOf (rotate h s) h.core) q.val Q)) h = thread s h := by
      rw [← rotate_thread h h s, thread, coreOf_setCore_same]
      rfl
    rw [hth]
    rfl
  · rw [setRun, modTh, coreOf_modCore_same, coreOf_setCore_same, rotate_core]
    rfl
  · rw [setRun, modTh, coreOf_modCore_other _ _ _ _ (Ne.symm hc), coreOf_setCore_other _ _ _ _ (Ne.symm hc)]
    change coreOf (rotate h s) c = coreOf s c
    exact coreOf_modCore_other s h.core c _ (Ne.symm hc)
  · rw [setRun, modTh, coreOf_modCore_same, coreOf_setCore_same]
    exact injOf_setInj ..

theorem sendFault_none {hd : Header} {x : Word} (h8 : x.toNat % 8 = 0) (hin : hLen hd = 0 ∨ x.toNat + hLen hd ≤ 0xC0000)
    (hb : headerBad hd = none) : sendFault hd x = none := by
  have hn : ¬ (0 < hLen hd ∧ localTop < x.toNat + hLen hd) := by
    unfold localTop
    omega
  rw [sendFault, if_neg (not_not.2 h8), if_neg hn, hb]
  rfl

theorem flitCount_eq (n : Nat) : flitCount n = if n = 0 then 1 else (n + 63) / 64 := by
  rw [flitCount]
  split <;> omega

/-- Settles O37: `sendEff_eq` gives the queue, `leaveHeader_fields` the headers, `flit_words` the payload. -/
theorem sendsQueueEndOrFault : Obligations.SendsQueueEndOrFault := by
  refine ⟨fun h p q a b s ha hr => ?_, fun h p q a b mid s => ⟨fun hw hd hs => ?_, fun ha hr => ⟨fun h8 => ?_, fun h8 hl hx => ?_, fun n h8 hin hb => ?_⟩⟩⟩
  · intro t hd x len n h8 hin hb hq
    have hrun := send_runs (q := q) ha hr (by rw [sendHeader_eq]; exact sendFault_none h8 hin hb)
    rw [sendHeader_eq] at hrun
    obtain ⟨k1, k2, k3, k4, k5, k6⟩ := send_effect (q := q) (hd := hd) (x := gReg t b) hq
    have hn : flitCount len = n := flitCount_eq len
    refine ⟨_, hrun, k1, k2, ?_, k3, k4, k5⟩
    rw [k6, ← hn]
    obtain ⟨hl, hp⟩ := queue_lengths (sending h hd (gReg t b) s) (coreOf s h.core) (leaving h hd (gReg t b) s) (Nat.min_le_right 8 _)
    refine ⟨hl, hp, fun i hi => ?_⟩
    have hget : ((sending h hd (gReg t b) s).queue (coreOf s h.core) (leaving h hd (gReg t b) s) (min 8 (flitCount len))).flits[i]
        = (sending h hd (gReg t b) s).flit (coreOf s h.core) (leaving h hd (gReg t b) s) i := by
      simp [Sending.queue]
    obtain ⟨g1, g2, g3, g4, g5, g6⟩ := leaveHeader_fields s (regionOf s h.core) ((sending h hd (gReg t b) s).marked (coreOf s h.core)) hd
    obtain ⟨w1, w2⟩ := flit_words (sending h hd (gReg t b) s) (coreOf s h.core) (leaving h hd (gReg t b) s) i
    dsimp only
    generalize ((sending h hd (gReg t b) s).queue (coreOf s h.core) (leaving h hd (gReg t b) s) (min 8 (flitCount len))).flits[i] = f at hget ⊢
    subst hget
    refine ⟨rfl, rfl, rfl, rfl, w1, fun j hj => ?_, ?_, g2, g3, g4, g5, g6⟩
    · rw [w2 j hj]
      refine ⟨congrArg (BitVec.ofNat 64) (bytesNat_readView ..), congrArg (poisonView _ _) ?_⟩
      change (x + 64 * i + 8 * j) / 8 = x / 8 + 8 * i + j
      omega
    · exact (iff_of_eq (congrArg (· = true) g1)).trans (marked_iff h8 (Nat.mul_mod_right 8 _) rfl)
  · exact (waitComplete_eq hw hd).trans (congrArg _ (by rw [completeWait, hs, if_pos rfl, wake, setRun, modTh_modTh]; rfl))
  · exact send_faults ha hr (by rw [sendHeader_eq, sendFault, if_pos h8])
  · refine send_faults ha hr ?_
    rw [sendHeader_eq, sendFault, if_neg (not_not.2 h8), if_pos ⟨hl, hx⟩]
    rfl
  · refine send_faults ha hr ?_
    have hn : ¬ (0 < hLen (gReg (thread s h) (a + 1) ++ gReg (thread s h) a)
        ∧ localTop < (gReg (thread s h) b).toNat + hLen (gReg (thread s h) (a + 1) ++ gReg (thread s h) a)) := by
      unfold localTop
      omega
    rw [sendHeader_eq, sendFault, if_neg (not_not.2 h8), if_neg hn, hb]
    rfl

end Sys2Proof.Machine

/-!
SUPPORT. Cycles pass: what that leaves alone (R48, R124, R350).
-/
namespace Sys2Proof.Machine
open Sys2Proof Sys2Proof.Safety

/-- The state before the invalidations that are due are answered. -/
def ticked (n : Nat) (s : State) : State := { s with
  cores := if n = 0 then s.cores else tmap (fun _ c => { c with passed := [] }) s.cores
  clock := { s.clock with now := s.clock.now + n, cycle := s.clock.cycle + n }
  pins := { s.pins with daybreakOut := s.pins.daybreakOut && decide (s.clock.cycle + n < 16) } }

theorem pass_ticked (n : Nat) (s : State) : pass n s = dueInvalidations (ticked n s) := rfl

/-- Passing time changes the clock, a pin, the offers of issue slots and what is answered to the host. -/
theorem pass_rest (n : Nat) (s : State) :
    { pass n s with clock := s.clock, pins := s.pins, cores := [], fns := [], hostOut := [] }
      = { s with cores := [], fns := [], hostOut := [] } := by
  rw [pass_ticked]
  rcases dueInvalidations_cases (ticked n s) with ⟨-, heq⟩ | heq <;> rw [heq] <;> rfl

theorem pass_clock (n : Nat) (s : State) : (pass n s).clock = { s.clock with now := s.clock.now + n, cycle := s.clock.cycle + n } :=
  (dueInvalidations_fields (ticked n s)).2.1

theorem pass_core (n : Nat) (s : State) (c : CoreId) :
    coreOf (pass n s) c = { coreOf s c with passed := (coreOf (pass n s) c).passed } := by
  have hcores : (pass n s).cores = (ticked n s).cores := (dueInvalidations_fields (ticked n s)).1
  have hcore : coreOf (pass n s) c = coreOf (ticked n s) c := congrArg (tget Core.reset · c.val) hcores
  rw [hcore]
  by_cases hn : n = 0
  · have hk : coreOf (ticked n s) c = coreOf s c := congrArg (tget Core.reset · c.val) (if_pos hn)
    rw [hk]
  · have hk : coreOf (ticked n s) c = { coreOf s c with passed := [] } :=
      (congrArg (tget Core.reset · c.val) (if_neg hn)).trans (tget_tmap (fun _ c => { c with passed := [] }) Core.reset s.cores c.val rfl)
    rw [hk]

theorem pass_fn (n : Nat) (s : State) (f : FnId) :
    fnOf (pass n s) f = { fnOf s f with invalidations := (fnOf (pass n s) f).invalidations } := by
  rw [pass_ticked]
  rcases dueInvalidations_cases (ticked n s) with ⟨-, heq⟩ | heq
  · rw [heq]
    rfl
  · have hfn := fnOf_tmap (s := s) (t := dueInvalidations (ticked n s)) (fun f =>
      { f with invalidations := f.invalidations.filter fun x => !decide (x.2.2 ≤ (ticked n s).clock.now) })
      (by rw [heq]; rfl) rfl f
    rw [hfn]

section
variable (n : Nat) (s : State)

theorem pass_regions : (pass n s).regions = s.regions := (congrArg State.regions (pass_rest n s) :)
theorem pass_cells : (pass n s).cells = s.cells := (congrArg State.cells (pass_rest n s) :)
theorem pass_dev : (pass n s).dev = s.dev := (congrArg State.dev (pass_rest n s) :)

theorem toCycle_rest : { toCycle n s with clock := s.clock, pins := s.pins, cores := [], fns := [], hostOut := [] }
      = { s with cores := [], fns := [], hostOut := [] } := pass_rest ..

theorem toCycle_regions : (toCycle n s).regions = s.regions := pass_regions ..
theorem toCycle_cells : (toCycle n s).cells = s.cells := pass_cells ..
theorem toCycle_regOf (r : RegionId) : regOf (toCycle n s) r = regOf s r := congrArg (tget Region.reset · r.val) (toCycle_regions n s)

theorem toCycle_clock : (toCycle n s).clock = { s.clock with now := s.clock.now + (n - s.clock.cycle), cycle := max s.clock.cycle n } := by
  have h : s.clock.cycle + (n - s.clock.cycle) = max s.clock.cycle n := by omega
  rw [toCycle, pass_clock, h]

theorem toCycle_core (c : CoreId) : coreOf (toCycle n s) c = { coreOf s c with passed := (coreOf (toCycle n s) c).passed } := pass_core ..

theorem toCycle_thread (h : Hart) : thread (toCycle n s) h = thread s h := by
  rw [thread, toCycle_core]
  rfl

theorem toCycle_fn (f : FnId) : fnOf (toCycle n s) f = { fnOf s f with invalidations := (fnOf (toCycle n s) f).invalidations } := pass_fn ..

end

/-! ### Steps of Dawn (R52) -/

theorem dawnAt_due {n : Nat} {f : State → State} {s : State} (hd : s.dev ≠ .midnight) (hp : s.clock.phase = .dawn)
    (hc : s.clock.cycle ≤ n) : dawnAt n f s = f (toCycle n s) := if_pos ⟨hd, hp, hc⟩

theorem eachRegion_one {f : RegionId → State → State} {s : State} {r : RegionId} {x : Region} (h : s.regions = [(r.val, x)]) :
    eachRegion f s = f r s := by
  have hr : Fin.ofNat 256 r.val = r := Fin.ext (Nat.mod_eq_of_lt r.isLt)
  rw [eachRegion, regionIds, h, List.map_cons, List.map_nil, List.foldl_cons, List.foldl_nil, hr]

end Sys2Proof.Machine

/-!
SUPPORT. A pending launch starts in Dawn (R335, R336, R339).
-/
namespace Sys2Proof.Machine
open Sys2Proof Sys2Proof.Safety

/-! ### The far memory caches are written back (R280) -/

/-- `t` is `s` but for the spill caches and what has left for the hosts. -/
def OnlySpills (s t : State) : Prop := ∃ a b o, t = { s with spill0 := a, spill1 := b, hostOut := o }

theorem OnlySpills.trans {s t u : State} (h : OnlySpills s t) (k : OnlySpills t u) : OnlySpills s u := by
  obtain ⟨a, b, o, rfl⟩ := h
  obtain ⟨a', b', o', rfl⟩ := k
  exact ⟨a', b', o', rfl⟩

theorem OnlySpills.refl (s : State) : OnlySpills s s := ⟨_, _, _, rfl⟩

theorem setSpill_onlySpills (s : State) (l : LinkId) (x : Spill) : OnlySpills s (setSpill s l x) := by
  unfold setSpill
  split
  · exact ⟨_, _, _, rfl⟩
  · exact ⟨_, _, _, rfl⟩

theorem lineOut_onlySpills (l : SpillLine) (s : State) : OnlySpills s (lineOut l s) := by
  unfold lineOut
  split
  · exact ⟨_, _, _, rfl⟩
  · exact setSpill_onlySpills ..

theorem foldl_onlySpills (ls : List SpillLine) (s : State) : OnlySpills s (ls.foldl (fun s l => lineOut l s) s) := by
  induction ls generalizing s with
  | nil => exact .refl s
  | cons l ls ih => exact (lineOut_onlySpills l s).trans (ih _)

theorem cleanLines_onlySpills (link : LinkId) (f : SpillLine → Bool) (s : State) : OnlySpills s (cleanLines link f s) :=
  (setSpill_onlySpills ..).trans (foldl_onlySpills ..)

theorem dropClean_onlySpills (r : RegionId) (s : State) : OnlySpills s (dropClean r (writeBack r s)) :=
  ((cleanLines_onlySpills ..).trans (cleanLines_onlySpills ..)).trans ⟨_, _, _, rfl⟩

/-! ### A notice with room in its own place (R289, R291) -/

theorem postNotice_room {c : CoreId} {q e : Nat} {lo hi : Word} {s : State} (h : (ownPlace (coreOf s c) q).isSome = true) :
    ∃ p x, ownPlace (coreOf s c) q = some (p, x) ∧ postNotice c q e lo hi s
      = raiseEvent (queueOwner c q) e (setCore s c (setNq (coreOf s c) q { x with items := x.items ++ [⟨lo, hi, p⟩] })) := by
  obtain ⟨⟨p, x⟩, hp⟩ := Option.isSome_iff_exists.1 h
  refine ⟨p, x, hp, ?_⟩
  rw [postNotice, enqueue, hp]

/-- The own place of a notice is one at the end of its queue. -/
theorem ownPlace_items {c : Core} {q : Nat} {p : NoticePlace} {x : NoticeQ} (h : ownPlace c q = some (p, x)) :
    x.items = (nqOf c q).items := by
  rw [ownPlace] at h
  split_ifs at h
  · cases h; rfl
  · cases h; rfl
  · cases h; rfl
  · obtain ⟨i, -, hi⟩ := Option.map_eq_some_iff.1 h
    cases hi
    rfl

/-- A launch without arguments is announced to a monitor whose queue has room. -/
theorem postLaunch_room {r : RegionId} {kind tag cell : Nat} {laddr : BitVec 20} {cid : BitVec 16} {s : State}
    (hi : (coreOf s (frontOf s r)).isolated = false) (h : (ownPlace (coreOf s (frontOf s r)) 4).isSome = true) :
    let t := postLaunch r kind tag cell laddr [] cid s
    t.regions = s.regions ∧ t.clock = s.clock
      ∧ (nqOf (coreOf t (frontOf s r)) 4).items.length = (nqOf (coreOf s (frontOf s r)) 4).items.length + 1
      ∧ (thread t ⟨frontOf s r, 0⟩).evPending.getLsbD 7 = true := by
  have heq : ∃ lo hi', postLaunch r kind tag cell laddr [] cid s = postNotice (frontOf s r) 4 7 lo hi' s :=
    ⟨_, _, if_neg (by rw [hi]; decide)⟩
  obtain ⟨lo, hi', heq⟩ := heq
  obtain ⟨p, x, hp, hpost⟩ := postNotice_room (e := 7) (lo := lo) (hi := hi') h
  dsimp only
  rw [heq, hpost]
  refine ⟨rfl, rfl, ?_, ?_⟩
  · have hnq : nqOf (coreOf (raiseEvent (queueOwner (frontOf s r) 4) 7 (setCore s (frontOf s r) (setNq (coreOf s (frontOf s r)) 4
        { x with items := x.items ++ [⟨lo, hi', p⟩] }))) (frontOf s r)) 4 = { x with items := x.items ++ [⟨lo, hi', p⟩] } := by
      rw [raiseEvent, modTh]
      change nqOf (coreOf (modCore _ (frontOf s r) _) (frontOf s r)) 4 = _
      rw [coreOf_modCore_same, coreOf_setCore_same]
      exact tget_tset_same ..
    rw [hnq, ← ownPlace_items hp, List.length_append, List.length_singleton]
  · change (thread (raiseEvent ⟨frontOf s r, 0⟩ 7 _) ⟨frontOf s r, 0⟩).evPending.getLsbD 7 = true
    rw [raiseEvent, thread_modTh_same, BitVec.getLsbD_or]
    simp

/-! ### The start -/

/-- The launch is marked started in its region. -/
def markStarted (r : RegionId) (k : Nat) (l : Launch) (s : State) : State :=
  modReg s r fun x => { x with launched := true, launches := tset x.launches k { l with started := true } }

section
variable {r : RegionId} {k : Nat} {l : Launch} {s : State} (hbusy : cellBusy (regOf s r) l.cell = false)
  (hfence : l.fence = false) (hq : ∀ d ∈ (sqOf (fnOf s l.fn) l.ring.val).queue, l.seq ≤ d.1)
include hbusy hfence hq

omit hbusy in
theorem behind_none : behind (fnOf s l.fn) l = false := by
  rw [behind, hfence, Bool.false_and, Bool.or_false, List.any_eq_false]
  exact fun d hd => by simpa using hq d hd

theorem startWaiting_launch {n : Nat} (hn : n < 8) (hl : (regOf s r).launched = false) (hc : cellInRegion s r l.cell.toNat = true) :
    startWaiting r ⟨s, n, []⟩ (.launch k l) = ⟨postLaunch r 1 k l.cell.toNat l.laddr l.args l.cid
      (markStarted r k l (dropClean r (writeBack r s))), n + 1, []⟩ := by
  have hb := behind_none hfence hq
  rw [startWaiting]
  dsimp only
  rw [if_neg (show ¬ (List.contains [] _ = true) from Bool.false_ne_true), if_neg (by rw [hb, hbusy, hl]; simp; omega), hc]
  rfl

omit hbusy hfence hq in
theorem startWaiting_full {n : Nat} (hn : 8 ≤ n) :
    startWaiting r ⟨s, n, []⟩ (.launch k l) = ⟨s, n, [(l.fn, l.ring)]⟩ := by
  rw [startWaiting]
  dsimp only
  rw [if_neg (show ¬ (List.contains [] _ = true) from Bool.false_ne_true), if_pos (.inr (.inr (.inl hn)))]
  rfl

end

theorem launchRegion_open {r : RegionId} {w : Waiting} {s : State} (hv : (regOf s r).valid = true) (hs : (regOf s r).stopped = false)
    (hn : (regOf s r).night = none) (hm : (thread s (monitorOf s r)).run ≠ .unreleased) (hw : waitingOf (regOf s r) = [w]) :
    launchRegion r s = (let a := startWaiting r ⟨s, if (regOf s r).posted.1 = s.clock.dayNo then (regOf s r).posted.2 else 0, []⟩ w
      modReg a.st r fun x => { x with posted := (s.clock.dayNo, a.posted) }) := by
  rw [launchRegion]
  dsimp only
  rw [if_neg (by rw [hv, hs, hn]; simpa using hm), hw]
  rfl

/-- Settles O45: `launchRegion` takes the one launch that waits, or finds eight notices posted. -/
theorem pendingLaunchesStartAtDawn : Obligations.PendingLaunchesStartAtDawn := by
  intro r k l s hdev hphase hcycle hreg hv hstop hnight hmon hw hlaunched hbusy hcell hplace hiso hargs hfence hq n
  have hexec : exec .launchStart s = .next (launchRegion r (toCycle 320 s)) := by
    refine congrArg Host.Outcome.next ((dawnAt_due hdev hphase hcycle).trans (eachRegion_one (x := regOf s r) ?_))
    rw [toCycle_regions]
    exact hreg
  have hclock : (toCycle 320 s).clock.cycle = 320 := by
    rw [toCycle_clock]
    exact Nat.max_eq_right hcycle
  have hday : (toCycle 320 s).clock.dayNo = s.clock.dayNo := by rw [toCycle_clock]
  have hR := toCycle_regOf 320 s r
  have hcells := toCycle_cells 320 s
  have hfront : frontOf (toCycle 320 s) r = frontOf s r := by
    unfold frontOf cellEntry
    rw [hR, hcells]
  have hcore := toCycle_core 320 s
  have hth := toCycle_thread 320 s
  have hfn := toCycle_fn 320 s
  generalize toCycle 320 s = u at *
  have hopen := launchRegion_open (s := u) (r := r) (w := .launch k l) (by rw [hR]; exact hv) (by rw [hR]; exact hstop)
    (by rw [hR]; exact hnight) (by rw [monitorOf, hfront, hth]; exact hmon) (by rw [hR]; exact hw)
  rw [hR, hday] at hopen
  change launchRegion r u = (let a := startWaiting r ⟨u, n, []⟩ (.launch k l)
    modReg a.st r fun x => { x with posted := (s.clock.dayNo, a.posted) }) at hopen
  refine ⟨fun hn => ⟨_, hexec, ?_⟩, fun hn => ⟨_, hexec, ?_⟩⟩
  · rw [startWaiting_launch (by rw [hR]; exact hbusy) hfence (by rw [hfn]; exact hq) hn (by rw [hR]; exact hlaunched)
      (by unfold cellInRegion cellEntry; rw [hcells]; exact hcell), hargs] at hopen
    obtain ⟨a, b, o, ho⟩ := dropClean_onlySpills r u
    rw [ho] at hopen
    generalize hx : markStarted r k l { u with spill0 := a, spill1 := b, hostOut := o } = x at hopen
    have hxr : regOf x r = { regOf s r with launched := true, launches := tset (regOf s r).launches k { l with started := true } } := by
      rw [← hR, ← hx, markStarted, regOf_modReg_same]
      rfl
    have hxf : frontOf x r = frontOf s r := by
      rw [← hfront]
      unfold frontOf cellEntry
      rw [hxr, ← hR, ← hx]
      rfl
    have hxc : coreOf x (frontOf s r) = coreOf u (frontOf s r) := by
      rw [← hx]
      rfl
    have hpost := postLaunch_room (r := r) (kind := 1) (tag := k) (cell := l.cell.toNat) (laddr := l.laddr) (cid := l.cid) (s := x)
      (by rw [hxf, hxc, hcore]; exact hiso) (by rw [hxf, hxc, hcore]; exact hplace)
    rw [hxf] at hpost
    dsimp only at hpost hopen
    generalize postLaunch r 1 k l.cell.toNat l.laddr [] l.cid x = y at hpost hopen
    obtain ⟨g1, g2, g3, g4⟩ := hpost
    have hy : regOf y r = regOf x r := congrArg (tget Region.reset · r.val) g1
    rw [hopen]
    refine ⟨?_, ?_, ?_, ?_, g4, ?_⟩
    · change y.clock.cycle = 320
      rw [g2, ← hx]
      exact hclock
    · rw [regOf_modReg_same, hy, hxr]
    · rw [regOf_modReg_same, hy, hxr]
      exact tfind_tset_same ..
    · change (nqOf (coreOf y _) 4).items.length = _
      rw [g3, hxc, hcore]
      rfl
    · rw [regOf_modReg_same]
  · rw [startWaiting_full hn] at hopen
    dsimp only at hopen
    rw [hopen]
    refine ⟨hclock, by rw [regOf_modReg_same, hR], fun c => ?_⟩
    change { coreOf u c with passed := [] } = _
    rw [hcore]

end Sys2Proof.Machine

/-!
SUPPORT. The stream ports (R251–R253, R273).
-/
namespace Sys2Proof.Machine
open Sys2Proof Sys2Proof.Safety

@[simp] theorem engineOf_setEngine (s : State) (e : EngineId) (x : Engine) : engineOf (setEngine s e x) e = x := tget_tset_same ..

theorem rotate_readDesc (h : Hart) (s : State) (a : Nat) :
    readDesc (coreOf (rotate h s) h.core) h.thread a = readDesc (coreOf s h.core) h.thread a := by
  rw [rotate_core]
  rfl

/-! ### Submission -/

section
variable {s : State} {h : Hart} {r : RegionId} {v : Word}

theorem submitStream_port (hi : (coreOf s h.core).isolated = false) : portWrite h 0x2018 v s = streamSubmit h v s := by
  rw [show portWrite h 0x2018 v s = if (coreOf s h.core).isolated then .done 0 s else streamSubmit h v s from rfl, hi]
  rfl

/-- A descriptor that opens a command stream. -/
theorem streamSubmit_opens (h64 : v.toNat % 64 = 0) (htop : v.toNat + 64 ≤ 0xC0000) (hr : regionOf s h.core = some r)
    (hc : dChain (readDesc (coreOf s h.core) h.thread v.toNat) = false) : streamSubmit h v s =
      match idleEngine s r with
      | none => .wait
      | some e => if !stageFits s ⟨readDesc (coreOf s h.core) h.thread v.toNat, h, r⟩ then .wait
        else .done 0 (modTh (setEngine s e { engineOf s e with
          queue := [⟨readDesc (coreOf s h.core) h.thread v.toNat, h, r⟩], chain := (engineOf s e).chain + 1 }) h fun t =>
            { t with lastStream := some (e, (engineOf s e).chain + 1) }) := by
  have hf : addrFault v 64 = none := by
    have hle : ¬ localTop < v.toNat + 64 := by
      unfold localTop
      omega
    rw [addrFault, if_neg (not_not.2 h64), if_neg hle]
  rw [streamSubmit, hf, hr]
  dsimp only
  rw [hc]
  rfl

theorem idleEngine_run {e : EngineId} (he : idleEngine s r = some e) : (engineOf s e).run = none := by
  obtain ⟨n, hn, rfl⟩ := Option.map_eq_some_iff.1 he
  have hlt := List.mem_range.1 (List.mem_of_find?_eq_some hn)
  have hidle := List.find?_some hn
  have hv : (Fin.ofNat 256 n).val = n := finVal_lt hlt
  simp only [engineIdle, Bool.and_eq_true, Option.isNone_iff_eq_none] at hidle
  obtain ⟨-, ⟨⟨-, hrun⟩, -⟩, -⟩ := hidle
  rw [engineOf, hv]
  exact hrun

variable {p : Fin 8} {d : Fin 32} (hruns : Runs h p 4 s) (hr : regionOf s h.core = some r) (hi : (coreOf s h.core).isolated = false)
  (hv : gReg (thread s h) d = v) (h64 : v.toNat % 64 = 0) (htop : v.toNat + 64 ≤ 0xC0000)
  (hc : dChain (readDesc (coreOf s h.core) h.thread v.toNat) = false)
include hruns hr hi hv h64 htop hc

theorem stream_opens {e : EngineId} (he : idleEngine s r = some e)
    (hs : stageFits s ⟨readDesc (coreOf s h.core) h.thread v.toNat, h, r⟩ = true) :
    ∃ t, exec (.streamSubmit h p d) s = .next t ∧ (engineOf t e).queue = [⟨readDesc (coreOf s h.core) h.thread v.toNat, h, r⟩]
      ∧ (engineOf t e).run = none ∧ thread t h = { advPc 4 (thread s h) with lastStream := some (e, (engineOf s e).chain + 1) } := by
  have hs' : stageFits (rotate h s) ⟨readDesc (coreOf s h.core) h.thread v.toNat, h, r⟩ = true := hs
  have he' : idleEngine (rotate h s) r = some e := he
  have h1 := streamSubmit_opens h64 htop hr hc
  have h2 := streamSubmit_opens (s := rotate h s) h64 htop hr (by rw [rotate_readDesc]; exact hc)
  rw [rotate_readDesc, he'] at h2
  rw [he] at h1
  dsimp only at h1 h2
  rw [hs, Bool.not_true, if_neg Bool.false_ne_true] at h1
  rw [hs', Bool.not_true, if_neg Bool.false_ne_true] at h2
  have hexec := outInstr_done hruns ((submitStream_port hi).trans h1) ((submitStream_port ((rotate_isolated h s).trans hi)).trans h2)
  refine ⟨_, (congrArg (outInstr h p 4 0x2018 · s) hv).trans hexec, ?_, ?_, ?_⟩
  · exact congrArg Engine.queue (engineOf_setEngine (rotate h s) e _)
  · exact (congrArg Engine.run (engineOf_setEngine (rotate h s) e _)).trans (idleEngine_run he)
  · rw [thread_modTh_same, thread_modTh_same]
    have hth : thread (setEngine (rotate h s) e { engineOf (rotate h s) e with
        queue := [⟨readDesc (coreOf s h.core) h.thread v.toNat, h, r⟩], chain := (engineOf (rotate h s) e).chain + 1 }) h = thread s h :=
      rotate_thread h h s
    rw [hth]
    rfl

theorem stream_waits (he : idleEngine s r = none) : waits (.streamSubmit h p d) h (.portWrite 0x2018 v 4) s := by
  have h1 := streamSubmit_opens h64 htop hr hc
  have h2 := streamSubmit_opens (s := rotate h s) h64 htop hr (by rw [rotate_readDesc]; exact hc)
  rw [show idleEngine (rotate h s) r = none from he] at h2
  rw [he] at h1
  exact (congrArg (outInstr h p 4 0x2018 · s) hv).trans
    (outInstr_waits hruns ((submitStream_port hi).trans h1) ((submitStream_port ((rotate_isolated h s).trans hi)).trans h2))

end

/-! ### Records -/

theorem moveRecord_none {h : Hart} {s : State} (hu : ∀ k ∈ s.engines, k.2.undelivered = []) : moveRecord h s = s := by
  have hn : (s.engines.find? fun e => e.2.undelivered.any fun u => decide (u.1 = h)) = none :=
    List.find?_eq_none.2 fun e he => by rw [hu e he]; simp
  rw [moveRecord, hn]
  split <;> rfl

section
variable {s : State} {h : Hart} {p : Fin 8} (hr : Runs h p 4 s)

theorem streamDone_some {w : Word} {ws : List Word} (hd : (thread s h).streamDone = w :: ws) (hu : ∀ k ∈ s.engines, k.2.undelivered = []) :
    portRead h 0x2020 s = .done w (modTh s h fun t => { t with streamDone := ws }) := by
  rw [show portRead h 0x2020 s = streamDoneRead h s from rfl, streamDoneRead, hd]
  dsimp only
  rw [moveRecord_none (s := modTh s h fun t => { t with streamDone := ws }) hu]

theorem streamDone_none (hd : (thread s h).streamDone = []) : portRead h 0x2020 s = .wait := by
  rw [show portRead h 0x2020 s = streamDoneRead h s from rfl, streamDoneRead, hd]

include hr

theorem stream_gives (d : Fin 32) {w : Word} {ws : List Word} (hd : (thread s h).streamDone = w :: ws)
    (hu : ∀ k ∈ s.engines, k.2.undelivered = []) :
    gives (.streamDone h p d) h d w (fun u => modTh u h fun t => { t with streamDone := ws }) s :=
  inInstr_done hr (streamDone_some hd hu) (streamDone_some (by rw [rotate_thread]; exact hd) hu) d

theorem streamDone_waits (d : Fin 32) (hd : (thread s h).streamDone = []) : waits (.streamDone h p d) h (.portRead 0x2020 d 4) s :=
  inInstr_waits hr (streamDone_none hd) (streamDone_none (by rw [rotate_thread]; exact hd)) d

end

/-! ### Cancellation -/

theorem deliverRecord_hears {e : EngineId} {g : Hart} {w : Word} {s : State} (hh : hears g s) :
    deliverRecord e g w s = modTh s g fun t => { t with streamDone := t.streamDone ++ [w], evPending := t.evPending ||| 0x10 } := by
  rw [deliverRecord, hh.2, if_neg Bool.false_ne_true, if_pos hh.1, raiseEvent, modTh_modTh]
  rfl

section
variable {s : State} {e : EngineId} {y : StreamRun}

/-- The lone stream of the lone engine is cancelled. -/
theorem cancelWhere_lone {f : StreamCmd → Bool} (he : s.engines = [(e.val, engineOf s e)]) (hy : (engineOf s e).run = some y)
    (hf : f y.cmd = true) : cancelWhere f s = cancelEngine e 0x25 s := by
  have hid : Fin.ofNat 256 e.val = e := Fin.ext (finVal_lt e.isLt)
  have hfind : (activeRuns (engineOf s e)).findIdx? (fun r => f r.cmd) = some 0 := by
    rw [activeRuns, hy, Option.toList_some, List.singleton_append, List.findIdx?_cons, hf]
    rfl
  rw [cancelWhere, cancelRuns, he, List.map_cons, List.map_nil, List.foldl_cons, List.foldl_nil]
  dsimp only
  rw [hid, hfind]
  rfl

theorem cancelEngine_alone {st : BitVec 8} (hy : (engineOf s e).run = some y) (ha : (engineOf s e).ahead = []) (hq : (engineOf s e).queue = [])
    (hh : hears y.cmd.hart s) :
    (engineOf (cancelEngine e st s) e).run = none ∧ recorded y.cmd.hart (recordOf y.cmd st y.poisoned) s (cancelEngine e st s) := by
  rw [cancelEngine, hy, ha, hq]
  dsimp only [List.foldl_nil]
  generalize hd : (engineOf s e).dying ++ (activeRuns (engineOf s e)).filter (fun y => decide (y.bursts ≠ [])) = dying
  have hu : coreOf (dropJob e y.cmd.hart (setEngine s e { engineOf s e with run := none, ahead := [], queue := [], dying := dying }))
      y.cmd.hart.core = { coreOf s y.cmd.hart.core with
        moverQ := (coreOf s y.cmd.hart.core).moverQ.filter fun j => !decide (j.stream = some e) } := by
    rw [dropJob, coreOf_modCore_same]
    rfl
  have hth : thread (dropJob e y.cmd.hart (setEngine s e { engineOf s e with run := none, ahead := [], queue := [], dying := dying }))
      y.cmd.hart = thread s y.cmd.hart := by
    rw [thread, hu]
    rfl
  have heng : engineOf (dropJob e y.cmd.hart (setEngine s e { engineOf s e with run := none, ahead := [], queue := [], dying := dying })) e
      = { engineOf s e with run := none, ahead := [], queue := [], dying := dying } := engineOf_setEngine s e _
  generalize dropJob e y.cmd.hart (setEngine s e { engineOf s e with run := none, ahead := [], queue := [], dying := dying }) = u
    at hu hth heng
  rw [deliverRecord_hears ⟨by rw [hth]; exact hh.1, by rw [hu]; exact hh.2⟩]
  refine ⟨congrArg Engine.run heng, ?_, ?_⟩
  · rw [thread_modTh_same, hth]
    rfl
  · rw [thread_modTh_same, BitVec.getLsbD_or]
    simp

theorem cancel_port {h : Hart} {v : Word} {r : RegionId} (hi : (coreOf s h.core).isolated = false) (hr : regionOf s h.core = some r) :
    portWrite h 0x2028 v s = .done 0 (cancelXfer r (fld v 0 16) s) := by
  rw [show portWrite h 0x2028 v s = .done 0 (if (coreOf s h.core).isolated then s else match regionOf s h.core with
    | some r => cancelXfer r (fld v 0 16) s | none => s) from rfl, hi, hr]
  rfl

theorem stream_cancels {h : Hart} {p : Fin 8} {d : Fin 32} {r : RegionId} (hr : Runs h p 4 s) (hreg : regionOf s h.core = some r)
    (hi : (coreOf s h.core).isolated = false) (he : s.engines = [(e.val, engineOf s e)]) (hy : (engineOf s e).run = some y)
    (ha : (engineOf s e).ahead = []) (hq : (engineOf s e).queue = []) (hyr : y.cmd.region = r)
    (hx : dXfer y.cmd.desc = fld (gReg (thread s h) d) 0 16) (hh : hears y.cmd.hart s) :
    ∃ t, exec (.streamCancel h p d) s = .next t ∧ (engineOf t e).run = none
      ∧ recorded y.cmd.hart (recordOf y.cmd 0x25 y.poisoned) s t := by
  have hexec := outInstr_done hr (cancel_port (v := gReg (thread s h) d) hi hreg)
    (cancel_port (s := rotate h s) ((rotate_isolated h s).trans hi) hreg)
  have hh' : hears y.cmd.hart (rotate h s) := by
    have hiso : (coreOf (rotate h s) y.cmd.hart.core).isolated = (coreOf s y.cmd.hart.core).isolated := by
      by_cases hc : h.core = y.cmd.hart.core
      · rw [← hc]
        exact rotate_isolated h s
      · rw [rotate, coreOf_modCore_other _ _ _ _ hc]
    exact ⟨by rw [rotate_thread]; exact hh.1, hiso.trans hh.2⟩
  have hc := cancelEngine_alone (s := rotate h s) (st := 0x25) hy ha hq hh'
  have hw : cancelXfer r (fld (gReg (thread s h) d) 0 16) (rotate h s) = cancelEngine e 0x25 (rotate h s) :=
    cancelWhere_lone he hy (by simp [hyr, hx])
  rw [hw] at hexec
  refine ⟨_, hexec, hc.1, ?_⟩
  obtain ⟨h1, h2⟩ := hc.2
  rw [rotate_thread] at h1
  by_cases hg : h = y.cmd.hart
  · subst hg
    exact ⟨by rw [thread_modTh_same]; exact h1, by rw [thread_modTh_same]; exact h2⟩
  · rw [recorded, thread_modTh_other _ _ _ _ hg]
    exact ⟨h1, h2⟩

end

/-- Settles O48: the ports by `streamSubmit`, `streamDoneRead` and `cancelXfer`. -/
theorem streamPortsSubmitReadAndCancel : Obligations.StreamPortsSubmitReadAndCancel := by
  intro h p d r e w ws y s hr hreg hi v x
  exact ⟨fun h64 htop hc => ⟨stream_opens hr hreg hi rfl h64 htop hc, stream_waits hr hreg hi rfl h64 htop hc⟩,
    stream_gives hr d, streamDone_waits hr d, stream_cancels hr hreg hi⟩

end Sys2Proof.Machine

/-!
SUPPORT. Held tail writes: their release and their expiry (R222, R298, R299).
-/
namespace Sys2Proof.Machine
open Sys2Proof Sys2Proof.Safety

/-! ### What a landed payload writes -/

theorem putWord_congr {c d : Core} (hm : c.mem = d.mem) (hp : c.poison = d.poison) (a : Nat) (w : PWord) (b k : Bool) :
    (putWord c a w b k).mem = (putWord d a w b k).mem ∧ (putWord c a w b k).poison = (putWord d a w b k).poison := by
  obtain ⟨hmem, hpoison, -⟩ := memPut_congr hm hp a (natBytes 8 w.data.toNat) (w.poison || b) false
  cases k
  · exact ⟨hmem, hpoison⟩
  · exact ⟨hmem, hpoison⟩

theorem putWords_congr (spec b : Bool) (ws : List PWord) {c d : Core} (a : Nat) (hm : c.mem = d.mem) (hp : c.poison = d.poison) :
    (putWords spec b a ws c).mem = (putWords spec b a ws d).mem
    ∧ (putWords spec b a ws c).poison = (putWords spec b a ws d).poison := by
  induction ws generalizing a c d with
  | nil => exact ⟨hm, hp⟩
  | cons w ws ih =>
    obtain ⟨hmem, hpoison⟩ := putWord_congr hm hp a w b spec
    exact ih (a + 8) hmem hpoison

/-- The flits that are kept bind the core as they are written, which changes nothing of what they write. -/
theorem releaseTail_writes (m : LandMsg) (b : Bool) (c : Core) :
    (releaseTail m b c).mem = (m.kept.foldl (putFlit m.header b) c).mem
    ∧ (releaseTail m b c).poison = (m.kept.foldl (putFlit m.header b) c).poison := by
  have key : ∀ (l : List Flit) (x y : Core), x.mem = y.mem → x.poison = y.poison →
      (l.foldl (fun c f => putFlit m.header b (bindGroup f c) f) x).mem = (l.foldl (putFlit m.header b) y).mem
      ∧ (l.foldl (fun c f => putFlit m.header b (bindGroup f c) f) x).poison = (l.foldl (putFlit m.header b) y).poison := by
    intro l
    induction l with
    | nil => exact fun x y hm hp => ⟨hm, hp⟩
    | cons f l ih =>
      intro x y hm hp
      obtain ⟨hmem, hpoison⟩ := putWords_congr f.group.isSome b f.words (hLaddr m.header + 64 * f.index)
        (c := bindGroup f x) (d := y) hm hp
      exact ih _ _ hmem hpoison
  exact key m.kept c c rfl rfl

theorem releaseTail_landing (m : LandMsg) (b : Bool) (c : Core) :
    ∀ x ∈ (releaseTail m b c).landing, x.mid = m.mid → x = { m with held := false, kept := [], expired := b } := by
  intro x hx hmid
  obtain ⟨y, -, rfl⟩ := List.mem_map.1 hx
  split at hmid
  next h => exact if_pos h
  next h => exact absurd hmid h

/-! ### The hold counters -/

/-- The hold counters of a core (R297). -/
def holdsOf (c : Core) : Tab (BitVec 12) × Tab (BitVec 12) := (c.holdCtr, c.portHold)

theorem holdOf_congr {c d : Core} (h : holdsOf c = holdsOf d) (hd : Header) (src : SourceWord) : holdOf c hd src = holdOf d hd src := by
  obtain ⟨hctr, hport⟩ := Prod.mk.inj h
  simp only [holdOf, hctr, hport]

theorem memPut_holds (c : Core) (a : Nat) (bs : List Byte) (b k : Bool) : holdsOf (memPut c a bs b k) = holdsOf c :=
  List.foldlRecOn (motive := fun x : Core => holdsOf x = holdsOf c) _ _ rfl fun _ hx _ _ => hx

theorem putWord_holds (c : Core) (a : Nat) (w : PWord) (b k : Bool) : holdsOf (putWord c a w b k) = holdsOf c := by
  cases k
  · exact memPut_holds ..
  · exact memPut_holds c a (natBytes 8 w.data.toNat) (w.poison || b) false

theorem putWords_holds (spec b : Bool) (ws : List PWord) (a : Nat) (c : Core) : holdsOf (putWords spec b a ws c) = holdsOf c := by
  induction ws generalizing a c with
  | nil => rfl
  | cons w ws ih => exact (ih (a + 8) _).trans (putWord_holds c a w b spec)

theorem releaseTail_holds (m : LandMsg) (b : Bool) (c : Core) : holdsOf (releaseTail m b c) = holdsOf c :=
  List.foldlRecOn (motive := fun x : Core => holdsOf x = holdsOf c) m.kept _ rfl
    fun x hx f _ => (putWords_holds f.group.isSome b f.words (hLaddr m.header + 64 * f.index) (bindGroup f x)).trans hx

theorem holdOf_setHold (c : Core) (hd : Header) (src : SourceWord) (v : BitVec 12) : holdOf (setHold c hd src v) hd src = v := by
  unfold holdOf setHold
  split
  · exact tget_tset_same ..
  · exact tget_tset_same ..

/-- Taking the writes of a transfer from a hold counter leaves the rest of the core. -/
theorem tailTake_rest (c : Core) (hd : Header) (src : SourceWord) :
    (tailTake c hd src).mem = c.mem ∧ (tailTake c hd src).poison = c.poison ∧ (tailTake c hd src).group = c.group := by
  unfold tailTake setHold
  split
  · exact ⟨rfl, rfl, rfl⟩
  · exact ⟨rfl, rfl, rfl⟩

theorem conflicts_congr {c d : Core} (h : c.group = d.group) (f : Flit) : conflicts c f = conflicts d f := by
  simp only [conflicts, h]

/-! ### The release -/

/-- None of the kept flits meets a core bound to another group (R222). -/
def oursAt (c : Core) (m : LandMsg) : Prop := ∀ f ∈ m.kept, conflicts c f = none

theorem releaseHeld_ours {s : State} {core : CoreId} {m : LandMsg} (b : Bool) (h : oursAt (coreOf s core) m) :
    releaseHeld core m b s = modCore s core (releaseTail m b) := by
  have hnone : m.kept.find? (fun f => (conflicts (coreOf s core) f).isSome) = none :=
    List.find?_eq_none.2 fun f hf => by simp [h f hf]
  rw [releaseHeld, hnone]

theorem releaseHeld_foreign {s : State} {core : CoreId} {m : LandMsg} (b : Bool) (h : ¬ oursAt (coreOf s core) m) :
    ∃ f, releaseHeld core m b s = refuseRest core m.mid f s := by
  cases hfind : m.kept.find? fun f => (conflicts (coreOf s core) f).isSome with
  | none =>
    refine absurd (fun f hf => ?_) h
    have := List.find?_eq_none.1 hfind f hf
    exact Option.not_isSome_iff_eq_none.1 this
  | some f => exact ⟨f, by rw [releaseHeld, hfind]⟩

theorem refuseGroup_cores (core : CoreId) (f : Flit) (s : State) : (refuseGroup core f s).cores = s.cores := by
  simp [refuseGroup, streamConflict, noteCore]

theorem refuseRest_core (core : CoreId) (mid : Nat) (f : Flit) (s : State) : coreOf (refuseRest core mid f s) core
    = { coreOf s core with landing := (coreOf s core).landing.filter fun x => decide (x.mid ≠ mid) } := by
  rw [coreOf, refuseRest, refuseGroup_cores]
  exact coreOf_modCore_same ..

/-- A release counts nothing but the refusals of speculative landings. -/
theorem releaseHeld_counter (core : CoreId) (m : LandMsg) (b : Bool) (s : State) :
    tget 0 (releaseHeld core m b s).counters (ctrDie (dieOf core) 6) = tget 0 s.counters (ctrDie (dieOf core) 6) := by
  by_cases h : oursAt (coreOf s core) m
  · rw [releaseHeld_ours b h]
    rfl
  · obtain ⟨f, hf⟩ := releaseHeld_foreign b h
    have hne : ctrDie (dieOf core) 7 ≠ ctrDie (dieOf core) 6 := by simp [ctrDie]
    rw [hf, refuseRest, refuseGroup]
    simp only [streamConflict, noteCore, logItem_counters]
    exact tget_tset_other _ _ _ _ _ hne

/-- What becomes of the held message: written, or dropped where the core belongs to another group. -/
theorem releaseHeld_lands (core : CoreId) (m : LandMsg) (b : Bool) (s : State) :
    holdsOf (coreOf (releaseHeld core m b s) core) = holdsOf (coreOf s core)
    ∧ (oursAt (coreOf s core) m →
      (∀ x ∈ (coreOf (releaseHeld core m b s) core).landing, x.mid = m.mid → x = { m with held := false, kept := [], expired := b })
      ∧ (coreOf (releaseHeld core m b s) core).mem = (m.kept.foldl (putFlit m.header b) (coreOf s core)).mem
      ∧ (coreOf (releaseHeld core m b s) core).poison = (m.kept.foldl (putFlit m.header b) (coreOf s core)).poison)
    ∧ (¬ oursAt (coreOf s core) m → (∀ x ∈ (coreOf (releaseHeld core m b s) core).landing, x.mid ≠ m.mid)
      ∧ (coreOf (releaseHeld core m b s) core).mem = (coreOf s core).mem) := by
  by_cases h : oursAt (coreOf s core) m
  · rw [releaseHeld_ours b h, coreOf_modCore_same]
    exact ⟨releaseTail_holds .., fun _ => ⟨releaseTail_landing m b _, releaseTail_writes ..⟩, absurd h⟩
  · obtain ⟨f, hf⟩ := releaseHeld_foreign b h
    rw [hf, refuseRest_core]
    exact ⟨rfl, fun ho => absurd ho h, fun _ => ⟨fun x hx => by simpa using (List.mem_filter.1 hx).2, rfl⟩⟩

theorem foldl_putFlit_congr (hd : Header) (b : Bool) (l : List Flit) {c d : Core} (hm : c.mem = d.mem) (hp : c.poison = d.poison) :
    (l.foldl (putFlit hd b) c).mem = (l.foldl (putFlit hd b) d).mem := by
  induction l generalizing c d with
  | nil => exact hm
  | cons f l ih =>
    obtain ⟨hmem, hpoison⟩ := putWords_congr f.group.isSome b f.words (hLaddr hd + 64 * f.index) hm hp
    exact ih hmem hpoison

section
variable {core : CoreId} {i : Fin 8} {m : LandMsg} {s : State} (hm : (heldList (coreOf s core))[i.val]? = some m)
include hm

theorem tailWriteRelease_runs (hr : tailReady (coreOf s core) m.header m.source = true) :
    exec (.tailWriteRelease core i) s
      = .next (releaseHeld core m false (setCore s core (tailTake (coreOf s core) m.header m.source))) := by
  refine congrArg Host.Outcome.next ?_
  rw [hm]
  exact if_pos hr

theorem tailWriteRelease_waits (hr : tailReady (coreOf s core) m.header m.source = false) :
    exec (.tailWriteRelease core i) s = .next s := by
  refine congrArg Host.Outcome.next ?_
  rw [hm]
  exact if_neg (by simp [hr])

theorem tailHoldExpiry_waits (ht : holdTooLong s m = false) : exec (.tailHoldExpiry core i) s = .next s := by
  refine congrArg Host.Outcome.next ?_
  rw [hm]
  exact if_neg (by simp [ht])

theorem tailHoldExpiry_runs (ht : holdTooLong s m = true) : exec (.tailHoldExpiry core i) s
    = .next (logCore core 0 0x28 (BitVec.ofNat 64 (m.source.toNat + at_ (hXfer m.header) 32))
        (count (releaseHeld core m true s) (ctrDie (dieOf core) 6) 1)) := by
  refine congrArg Host.Outcome.next ?_
  dsimp only
  rw [hm]
  exact if_pos ht
end

/-- Settles O41: the kept flits write what they say, since binding the core to their group touches neither its bytes nor its
marks, and a release that is refused only takes the message away. -/
theorem heldTailWritesAreReleased : Obligations.HeldTailWritesAreReleased := by
  intro core i m s hm c ours
  refine ⟨fun hr => ?_, tailWriteRelease_waits hm, fun ht => ?_, tailHoldExpiry_waits hm⟩
  · refine ⟨_, tailWriteRelease_runs hm hr, ?_⟩
    obtain ⟨hmem, hpoison, hgroup⟩ := tailTake_rest c m.header m.source
    have hsame : oursAt (tailTake c m.header m.source) m ↔ ours :=
      forall₂_congr fun f _ => by rw [conflicts_congr hgroup]
    obtain ⟨hholds, hours, hforeign⟩ := releaseHeld_lands core m false (setCore s core (tailTake c m.header m.source))
    rw [coreOf_setCore_same] at hholds hours hforeign
    rw [hsame] at hours hforeign
    refine ⟨(holdOf_congr hholds ..).trans (holdOf_setHold ..), fun ho => ?_, fun ho => ?_⟩
    · obtain ⟨hland, hbytes, -⟩ := hours ho
      exact ⟨fun x hx hmid => by rw [hland x hx hmid]; exact ⟨rfl, rfl⟩, hbytes.trans (foldl_putFlit_congr _ _ _ hmem hpoison)⟩
    · obtain ⟨hland, hbytes⟩ := hforeign ho
      exact ⟨hland, hbytes.trans hmem⟩
  · refine ⟨_, tailHoldExpiry_runs hm ht, ?_⟩
    obtain ⟨-, hours, hforeign⟩ := releaseHeld_lands core m true s
    rw [logCore_core, logCore_counters]
    refine ⟨fun ho => ?_, hforeign, ?_⟩
    · obtain ⟨hland, -, hmarks⟩ := hours ho
      exact ⟨fun x hx hmid => by rw [hland x hx hmid]; exact ⟨rfl, rfl⟩, hmarks⟩
    · rw [← releaseHeld_counter core m true s]
      exact tget_tset_same ..

end Sys2Proof.Machine

/-!
SUPPORT. The management registers: `QUERY`, `SET` and the telemetry sample (R457–R464, R468, R469).
-/
namespace Sys2Proof.Machine
open Sys2Proof Sys2Proof.Safety

@[simp] theorem reply_status (st : BitVec 8) (data : List Word) (s : State) : (reply st data s).mgmt.reply = ⟨st, none, data⟩ := rfl

/-! ### Who may read and write -/

section
variable {s : State} {a len : Nat}

theorem speaks_commands (hc : commands s) : speaks s .operator = true := hc.1

theorem mayRead_commands (hc : commands s) (a : Nat) : mayRead s .operator a = true := by
  obtain ⟨-, howned, hauth⟩ := hc
  unfold mayRead
  split
  · rfl
  · simp [howned, hauth]

theorem mayWrite_commands (hc : commands s) (ha : a ≠ 0x70048) : mayWrite s .operator a = true := by
  obtain ⟨-, howned, hauth⟩ := hc
  simp [mayWrite, howned, hauth, ha]

/-! ### Queries -/

theorem queryOk_one {who : Requester} (ha : a % 8 = 0) :
    queryOk s who a 8 = ((mgmtReg s a).isSome && ((mgmtReg s a).isNone || mayRead s who a)) := by
  have hsame : a / 64 = (a + 8 - 1) / 64 := by omega
  have hrange : List.range (8 / 8) = [0] := rfl
  rw [queryOk, hrange]
  simp [hsame]

theorem query_refuses {who : Requester} {addr : BitVec 32} (hs : speaks s who = true) (hq : queryOk s who addr.toNat len = false) :
    exec (.managementQuery who addr len) s = .next (reply 0x0B [] s) := by
  refine congrArg Host.Outcome.next ?_
  rw [mgmtQuery, hs, hq]
  rfl

theorem query_answers {who : Requester} {addr : BitVec 32} (hs : speaks s who = true) (hq : queryOk s who addr.toNat len = true) :
    exec (.managementQuery who addr len) s
      = .next (readWindow who addr.toNat len (reply 0 (queryWords s addr.toNat len) s)) := by
  refine congrArg Host.Outcome.next ?_
  rw [mgmtQuery, hs, hq]
  rfl

/-! ### Writes -/

theorem set_runs {who : Requester} {addr : BitVec 32} {v : BitVec 64} (hs : speaks s who = true)
    (hr : (mgmtReg s addr.toNat).isSome = true) (hw : mayWrite s who addr.toNat = true) :
    exec (.mgmtSet who addr v) s = .next (mgmtWrite addr.toNat v s) := by
  refine congrArg Host.Outcome.next ?_
  rw [hs, hw, Option.isNone_eq_false_iff.2 hr]
  rfl

/-- A register of the device block. -/
theorem set_device {addr : BitVec 32} {v : BitVec 64} {n : Nat} (hc : commands s) (hn : n ∈ [0x08, 0x10, 0x18, 0x20])
    (ha : addr.toNat = n) : exec (.mgmtSet .operator addr v) s
      = .next (if s.dev = .daylight then answer none 0x3F s else reply 0 [] (setDevice n v s)) := by
  have hreg : (mgmtReg s n).isSome = true ∧ n ≠ 0x70048 ∧ n < 0x10000 ∧ isTwilightReg n = true := by
    simp only [List.mem_cons, List.not_mem_nil, or_false] at hn
    obtain rfl | rfl | rfl | rfl := hn
    · exact ⟨rfl, by decide, by decide, rfl⟩
    · exact ⟨rfl, by decide, by decide, rfl⟩
    · exact ⟨rfl, by decide, by decide, rfl⟩
    · exact ⟨rfl, by decide, by decide, rfl⟩
  obtain ⟨hsome, hne, hlt, htw⟩ := hreg
  rw [set_runs (speaks_commands hc) (ha ▸ hsome) (ha ▸ mayWrite_commands hc hne), ha, mgmtWrite, if_pos hlt, htw]
  simp only [Bool.true_and, decide_eq_true_eq]

/-- The address of a region's quota register. -/
theorem quota_address (r : RegionId) : (BitVec.ofNat 32 (0x10008 + 128 * r.val)).toNat = 0x10008 + 128 * r.val :=
  Nat.mod_eq_of_lt (by have := r.isLt; omega)

theorem quota_register {r : RegionId} (hv : (regOf s r).valid = true) : (mgmtReg s (0x10008 + 128 * r.val)).isSome = true := by
  have hlt := r.isLt
  have h8 : ¬ (0x10008 + 128 * r.val) % 8 ≠ 0 := by omega
  have hdev : ¬ 0x10008 + 128 * r.val < 0x10000 := by omega
  have hreg : 0x10008 + 128 * r.val < 0x18000 := by omega
  have hblock : (0x10008 + 128 * r.val - 0x10000) / 128 = r.val := by omega
  have hoff : (0x10008 + 128 * r.val) % 128 = 8 := by omega
  rw [mgmtReg, if_neg h8, if_neg hdev, if_pos hreg, hblock, hoff, regionReg, Fin.ofNat_val_eq_self]
  simp [hv]

theorem set_quota {r : RegionId} {v : BitVec 64} (hc : commands s) (hv : (regOf s r).valid = true) :
    exec (.mgmtSet .operator (BitVec.ofNat 32 (0x10008 + 128 * r.val)) v) s = .next (setQuota r (v.setWidth 11) s) := by
  have hlt := r.isLt
  have hne : 0x10008 + 128 * r.val ≠ 0x70048 := by omega
  have hdev : ¬ 0x10008 + 128 * r.val < 0x10000 := by omega
  have hreg : 0x10008 + 128 * r.val < 0x20000 := by omega
  have hblock : (0x10008 + 128 * r.val - 0x10000) / 128 = r.val := by omega
  have hoff : (0x10008 + 128 * r.val) % 128 = 8 := by omega
  have haddr := quota_address r
  rw [set_runs (speaks_commands hc) (by rw [haddr]; exact quota_register hv) (by rw [haddr]; exact mayWrite_commands hc hne),
    haddr, mgmtWrite, if_neg hdev, if_pos hreg, hblock, hoff, Fin.ofNat_val_eq_self, setRegion]
  simp [hv]

end

/-! ### Samples -/

theorem sample_untripped {s : State} {tm : Telemetry} (hb : 3 ≤ s.boot.step) (h : ∀ x ∈ tm.temps.zipIdx, x.1.toInt < tripTemp x.2) :
    ∃ t, exec (.telemetrySample tm) s = .next t ∧ t.telemetry = tm ∧ t.cores = s.cores ∧ t.mgmt = s.mgmt := by
  have hcool : tm.temps.zipIdx.any (fun t => decide (tripTemp t.2 ≤ t.1.toInt)) = false := by
    simpa only [List.any_eq_false, decide_eq_true_eq, not_le] using h
  refine ⟨_, congrArg Host.Outcome.next (if_neg (not_lt.2 hb)), ?_⟩
  rw [senseTemps, hcool]
  exact ⟨rfl, rfl, rfl⟩

/-- Settles O55: the accesses are read off who may speak, read and write, and off the place of the register's address. -/
theorem managementRegistersReadAndWrite : Obligations.ManagementRegistersReadAndWrite := by
  intro a len v tm r s hb read answered
  have hbmc : speaks s .bmc = true := decide_eq_true hb
  refine ⟨fun hc hl ha w hw => ?_, fun hc hbad => ?_, fun hl ha h0 hlt => ?_, fun howned => ?_, fun hc hd n hn => ?_,
    fun hc hd hok => ?_, fun hc hd => ?_, fun hc hv hq => ?_, fun hc hv hq => ?_, fun howned => ?_, sample_untripped hb⟩
  · subst hl
    have hq : queryOk s .operator a.toNat 8 = true := by
      rw [queryOk_one ha, mayRead_commands hc, show mgmtReg s a.toNat = some w from hw]
      rfl
    have hwords : queryWords s a.toNat 8 = [w] := congrArg (fun o : Option Word => [o.getD 0]) hw
    refine ⟨_, query_answers (speaks_commands hc) hq, ?_, rfl, rfl⟩
    rw [hwords]
    rfl
  · refine ⟨_, query_refuses (speaks_commands hc) ?_, rfl⟩
    obtain h | h | h | h := hbad
    · simp [queryOk, show ¬ 8 ≤ len from not_le.2 h]
    · simp [queryOk, show ¬ len ≤ 64 from not_le.2 h]
    · simp [queryOk, h]
    · simp [queryOk, show mgmtReg s a.toNat = none from h]
  · subst hl
    refine ⟨_, query_refuses hbmc ?_, rfl⟩
    have hne : ¬ a.toNat = 0 := fun h => h0 (BitVec.eq_of_toNat_eq h)
    have hsens : ¬ (0x60000 ≤ a.toNat ∧ a.toNat < 0x70000) := by omega
    have hlog : ¬ (0x70000 ≤ a.toNat ∧ a.toNat < 0x80000) := by omega
    have hno : mayRead s .bmc a.toNat = false := by
      rw [mayRead, if_neg hsens]
      simp only [hne, hlog, or_self, decide_false, Bool.and_false]
    rw [queryOk_one ha, hno]
    cases mgmtReg s a.toNat <;> rfl
  · have hq : queryOk s .bmc (0 : BitVec 32).toNat 8 = true := by
      have hread : mayRead s .bmc 0 = true := by simp [mayRead, howned]
      refine (queryOk_one rfl).trans ?_
      rw [show (0 : BitVec 32).toNat = 0 from rfl, hread]
      rfl
    exact ⟨_, query_answers hbmc hq, rfl⟩
  · have haddr : (BitVec.ofNat 32 n).toNat = n := by
      refine Nat.mod_eq_of_lt ?_
      simp only [List.mem_cons, List.not_mem_nil, or_false] at hn
      omega
    exact ⟨_, (set_device hc hn haddr).trans (congrArg Host.Outcome.next (if_pos hd)), rfl⟩
  · rw [set_device hc (n := 0x10) (by decide) rfl, if_neg hd]
    have hset : setDevice 0x10 v s = { s with clock := { s.clock with dayDivNext := v.setWidth 17 } } := by
      refine if_pos ?_
      rw [show fld v 0 17 = v.toNat % 2 ^ 17 by simp [fld]]
      exact hok
    rw [hset]
  · rw [set_device hc (n := 0x08) (by decide) rfl, if_neg hd]
    rfl
  · rw [set_quota hc hv, setQuota, if_neg (by rw [BitVec.toNat_setWidth]; omega)]
  · have hfull : 1024 < otherQuotas s r + (v.setWidth 11).toNat := by rw [BitVec.toNat_setWidth]; exact hq
    exact ⟨_, (set_quota hc hv).trans (congrArg Host.Outcome.next (if_pos hfull)), rfl⟩
  · have hw : mayWrite s .bmc 0x70048 = true := by simp [mayWrite, howned]
    exact set_runs (addr := 0x70048) hbmc rfl hw

end Sys2Proof.Machine

/-!
SUPPORT. Attestation: the negotiation, the measurements and the sessions (R392, R395, R401).
-/
namespace Sys2Proof.Machine
open Sys2Proof Sys2Proof.Safety

/-- An SPDM `ERROR` response, and nothing else. -/
def spdmRefuses (c : Instr) (s : State) : Prop := ∃ code, exec c s = .next { s with mgmt := { s.mgmt with reply := ⟨0, some code, []⟩ } }

/-! ### The negotiation -/

section
variable {tr : SpdmTransport} {ready : State → Bool} {f : State → State} {s : State}

theorem spdmAfter_ready (hc : carries s tr = true) (hr : ready s = true) : spdmAfter tr ready f s = f s := by
  rw [spdmAfter, hc, hr]
  rfl

theorem spdmAfter_early (hc : carries s tr = true) (hr : ready s = false) : spdmAfter tr ready f s = spdmError 4 s := by
  rw [spdmAfter, hc, hr]
  rfl
end

/-- The lowest session number that is free, the first ones being taken. -/
theorem lowestFree_range {n k : Nat} (h : k < n) : lowestFree n (List.range k) = some k := by
  rw [lowestFree, List.find?_range_eq_some]
  refine ⟨by simp, List.mem_range.2 h, fun j hj => ?_⟩
  simp [hj]

section
variable {tr : SpdmTransport} {s : State} (hc : carries s tr = true)
include hc

theorem keyExchange_opens {share : BitVec 768} {i : Fin 16} (ha : s.mgmt.spdmAlgs = true)
    (hi : s.mgmt.sessions.map Prod.fst = List.range i.val) :
    ∃ t, exec (.keyExchange tr share) s = .next t ∧ tfind t.mgmt.sessions i.val = some ⟨tr, false, none⟩ := by
  refine ⟨_, congrArg Host.Outcome.next (spdmAfter_ready hc ha), ?_⟩
  rw [hi, lowestFree_range i.isLt]
  dsimp only
  rw [Fin.ofNat_val_eq_self]
  exact tfind_tset_same ..

theorem early_refused {share : BitVec 768} {slot : Fin 8} {nonce : BitVec 256} (ha : s.mgmt.spdmAlgs = false) :
    ∀ c ∈ [Instr.getDigests tr, .getCertificate tr slot, .challenge tr nonce, .keyExchange tr share], spdmRefuses c s := by
  have key : ∀ f : State → State, spdmAfter tr negotiated f s = spdmError 4 s := fun f => spdmAfter_early hc ha
  intro c hmem
  simp only [List.mem_cons, List.not_mem_nil, or_false] at hmem
  obtain rfl | rfl | rfl | rfl := hmem
  · exact ⟨4, congrArg Host.Outcome.next (key _)⟩
  · exact ⟨4, congrArg Host.Outcome.next (key _)⟩
  · exact ⟨4, congrArg Host.Outcome.next (key _)⟩
  · exact ⟨4, congrArg Host.Outcome.next (key _)⟩

theorem getCertificate_otherSlot {slot : Fin 8} (ha : s.mgmt.spdmAlgs = true) (hs : slot ≠ 0) :
    spdmRefuses (.getCertificate tr slot) s :=
  ⟨1, congrArg Host.Outcome.next ((spdmAfter_ready hc ha).trans (if_neg hs))⟩
end

/-! ### Measurements -/

section
variable {s : State} {n : BitVec 8} {nonce : BitVec 256}

theorem deviceBlock_some {k : Nat} (h1 : 1 ≤ k) (h6 : k ≤ 6) : ∃ b, deviceBlock s k = some b := by
  interval_cases k
  · exact ⟨_, rfl⟩
  · exact ⟨_, rfl⟩
  · exact ⟨_, rfl⟩
  · exact ⟨_, rfl⟩
  · exact ⟨_, rfl⟩
  · exact ⟨_, rfl⟩

theorem deviceBlock_region {k : Nat} (hlo : 0x80 ≤ k) : deviceBlock s k = none := by
  unfold deviceBlock
  split <;> simp_all

theorem regionBlock_some {r : RegionId} {k : Nat} (hlo : 0x80 ≤ k) (hhi : k ≤ 0x83) : ∃ b, regionBlock s r k = some b := by
  interval_cases k
  · exact ⟨_, rfl⟩
  · exact ⟨_, rfl⟩
  · exact ⟨_, rfl⟩
  · exact ⟨_, rfl⟩

theorem answerMeasurements_some {r : Option RegionId} {b : List Word} (hlt : n.toNat ≠ 0xFF) (hb : measBlock s r n.toNat = some b) :
    ∃ v, answerMeasurements r n nonce s = spdmReply v s := by
  refine ⟨(BitVec.ofNat 64 n.toNat :: b) ++ signature s (wordsBytes (BitVec.ofNat 64 n.toNat :: b) ++ natBytes 32 nonce.toNat), ?_⟩
  rw [answerMeasurements, measuredBlocks, if_neg hlt, hb]
  rfl

theorem answerMeasurements_none {r : Option RegionId} (hlt : n.toNat ≠ 0xFF) (hb : measBlock s r n.toNat = none) :
    answerMeasurements r n nonce s = spdmError 1 s := by
  rw [answerMeasurements, measuredBlocks, if_neg hlt, hb]
  rfl

theorem getMeasurements_outside (hb : 3 ≤ s.boot.step) (ha : s.mgmt.spdmAlgs = true) (h1 : 1 ≤ n.toNat) (h6 : n.toNat ≤ 6) :
    ∃ v, responds (.getMeasurements none n nonce) v id s := by
  obtain ⟨b, hblock⟩ := deviceBlock_some (s := s) h1 h6
  have hmeas : measBlock s none n.toNat = some b := by rw [measBlock, hblock]
  obtain ⟨v, hv⟩ := answerMeasurements_some (nonce := nonce) (by omega) hmeas
  refine ⟨v, congrArg Host.Outcome.next ((if_neg (not_lt.2 hb)).trans ?_)⟩
  exact (if_pos ha).trans hv

variable {i : Fin 16} {x : Session} (hx : tfind s.mgmt.sessions i.val = some x)
include hx

theorem secured_finished (hf : x.finished = true) : secured s i = some x := by
  rw [secured, sessionOf, hx]
  exact Option.filter_some_pos hf

theorem secured_unfinished (hf : x.finished = false) : secured s i = none := by
  rw [secured, sessionOf, hx]
  exact Option.filter_some_neg (by simp [hf])

theorem getMeasurements_inside (hb : 3 ≤ s.boot.step) (hf : x.finished = true) :
    exec (.getMeasurements (some i) n nonce) s = .next (answerMeasurements x.region n nonce s) := by
  refine congrArg Host.Outcome.next ((if_neg (not_lt.2 hb)).trans ?_)
  dsimp only
  rw [secured_finished hx hf]

theorem getMeasurements_unbound (hb : 3 ≤ s.boot.step) (hlo : 0x80 ≤ n.toNat) (hhi : n.toNat ≤ 0x83) (hf : x.finished = true)
    (hr : x.region = none) : spdmRefuses (.getMeasurements (some i) n nonce) s := by
  have hmeas : measBlock s none n.toNat = none := by rw [measBlock, deviceBlock_region hlo]
  refine ⟨1, ?_⟩
  rw [getMeasurements_inside hx hb hf, hr, answerMeasurements_none (by omega) hmeas]
  rfl

theorem getMeasurements_bound {r : RegionId} (hb : 3 ≤ s.boot.step) (hlo : 0x80 ≤ n.toNat) (hhi : n.toNat ≤ 0x83)
    (hf : x.finished = true) (hr : x.region = some r) : ∃ v, responds (.getMeasurements (some i) n nonce) v id s := by
  obtain ⟨b, hblock⟩ := regionBlock_some (s := s) (r := r) hlo hhi
  have hmeas : measBlock s (some r) n.toNat = some b := by rw [measBlock, deviceBlock_region hlo, ← hblock]
  obtain ⟨v, hv⟩ := answerMeasurements_some (nonce := nonce) (by omega) hmeas
  exact ⟨v, (getMeasurements_inside hx hb hf).trans (by rw [hr, hv]; rfl)⟩
end

/-! ### Sessions -/

section
variable {s : State} {get : State → Fin 16 → Option Session} {i : Fin 16} {x : Session} {f : Session → State → State}

theorem inSession_some (hg : get s i = some x) (hc : carries s x.transport = true) : inSession i get f s = f x s := by
  rw [inSession, hg]
  exact if_pos hc

theorem inSession_none (hg : get s i = none) (hb : 3 ≤ s.boot.step) : inSession i get f s = spdmError 1 s := by
  rw [inSession, hg]
  exact if_neg (not_lt.2 hb)
end

section
variable {s : State} {i : Fin 16} {x : Session} {r : RegionId} {k : KeyReq}
  (hx : tfind s.mgmt.sessions i.val = some x) (hc : carries s x.transport = true)
include hx

theorem unfinished_refused (hf : x.finished = false) :
    ∀ c ∈ [Instr.heartbeat i, .bindRegion i r, .installKey i k], 3 ≤ s.boot.step → spdmRefuses c s := by
  have hsec := secured_unfinished hx hf
  intro c hmem hb
  have key : ∀ f : Session → State → State, inSession i secured f s = spdmError 1 s := fun f => inSession_none hsec hb
  simp only [List.mem_cons, List.not_mem_nil, or_false] at hmem
  obtain rfl | rfl | rfl := hmem
  · exact ⟨1, congrArg Host.Outcome.next (key _)⟩
  · exact ⟨1, congrArg Host.Outcome.next (key _)⟩
  · exact ⟨1, congrArg Host.Outcome.next (key _)⟩

include hc

theorem finish_good (hf : x.finished = false) : responds (.finish i true) []
    (fun m => { m with sessions := tset m.sessions i.val { x with finished := true } }) s := by
  refine congrArg Host.Outcome.next ((inSession_some (get := sessionOf) hx hc).trans ?_)
  rw [hf]
  rfl

theorem finish_bad (hf : x.finished = false) :
    ∃ t, exec (.finish i false) s = .next t ∧ t.mgmt.sessions = tdel s.mgmt.sessions i.val := by
  refine ⟨_, congrArg Host.Outcome.next (inSession_some (get := sessionOf) hx hc), ?_⟩
  rw [hf]
  rfl

variable (hf : x.finished = true)
include hf

theorem heartbeat_answered : responds (.heartbeat i) [] id s :=
  congrArg Host.Outcome.next (inSession_some (secured_finished hx hf) hc)

theorem bindRegion_binds (hr : x.region = none) (hv : (regOf s r).valid = true) :
    responds (.bindRegion i r) [] (fun m => { m with sessions := tset m.sessions i.val { x with region := some r } }) s := by
  refine congrArg Host.Outcome.next ((inSession_some (secured_finished hx hf) hc).trans ?_)
  rw [hr, hv]
  rfl

theorem bindRegion_again (hr : x.region.isSome = true) : spdmRefuses (.bindRegion i r) s :=
  ⟨1, congrArg Host.Outcome.next ((inSession_some (secured_finished hx hf) hc).trans (if_pos (Or.inl hr)))⟩

theorem installKey_refused (hr : x.region = some r)
    (hbad : k.measurement ≠ (regOf s r).measurement ∨ k.gen ≠ (regOf s r).gen ∨ keyOk k = false) :
    ∃ t, exec (.installKey i k) s = .next t ∧ t.mgmt.reply.status = 0x37 ∧ t.regions = s.regions := by
  refine ⟨_, congrArg Host.Outcome.next (inSession_some (secured_finished hx hf) hc), ?_⟩
  rw [hr]
  dsimp only
  rw [if_pos (Or.inr (by simpa using hbad))]
  exact ⟨rfl, logItem_regions ..⟩

theorem installKey_installs (hr : x.region = some r) (hv : (regOf s r).valid = true) (hm : k.measurement = (regOf s r).measurement)
    (hg : k.gen = (regOf s r).gen) (hk : keyOk k = true) : exec (.installKey i k) s = .next (reply 0 [] (modReg s r fun g =>
      { g with keys := tset g.keys k.slot.val ⟨k.key, k.imageId, k.imageBase, k.imageLen, k.tagBase, k.ivSalt⟩ })) := by
  refine congrArg Host.Outcome.next ((inSession_some (secured_finished hx hf) hc).trans ?_)
  rw [hr]
  dsimp only
  rw [if_neg (by simp [hv, hm, hg, hk])]
end

/-- Settles O54: every request runs past its transport, past the negotiation and, in a session, past the session's state, and
does what it does behind them. -/
theorem attestationFollowsItsOrder : Obligations.AttestationFollowsItsOrder := by
  intro tr algs slot nonce share i x r k s m refuses anew key early
  refine ⟨fun hc => ⟨⟨_, congrArg Host.Outcome.next (spdmAfter_ready hc rfl)⟩,
      fun hv => ⟨4, congrArg Host.Outcome.next (spdmAfter_early hc hv)⟩,
      fun hv => ⟨_, congrArg Host.Outcome.next (spdmAfter_ready hc hv)⟩,
      fun hv => ⟨4, congrArg Host.Outcome.next (spdmAfter_early hc hv)⟩, fun hv hall => ?_, early_refused hc,
      fun ha => ⟨⟨_, congrArg Host.Outcome.next (spdmAfter_ready hc ha)⟩, ⟨_, congrArg Host.Outcome.next (spdmAfter_ready hc ha)⟩,
        getCertificate_otherSlot hc ha, congrArg Host.Outcome.next (spdmAfter_ready hc ha),
        fun _ hi => keyExchange_opens hc ha hi⟩⟩,
    fun hb ha n => getMeasurements_outside hb ha,
    fun hb n hlo hhi hx hf => ⟨getMeasurements_unbound hx hb hlo hhi hf, getMeasurements_bound hx hb hlo hhi hf⟩,
    fun hx hc => ⟨fun hf => ⟨finish_good hx hc hf, unfinished_refused hx hf⟩, finish_bad hx hc,
      fun hf => ⟨heartbeat_answered hx hc hf, bindRegion_binds hx hc hf, bindRegion_again hx hc hf,
        fun hr hv hm hg hbase hlen hmod htag => installKey_installs hx hc hf hr hv hm hg
          (decide_eq_true ⟨hbase, hlen, hmod, htag⟩), installKey_refused hx hc hf⟩⟩, rfl⟩
  subst hall
  exact congrArg Host.Outcome.next (spdmAfter_ready hc hv)

end Sys2Proof.Machine

/-!
SUPPORT. The ports of the region monitor (R38, R39, R79, R115, R220, R337, R338).
-/
namespace Sys2Proof.Machine
open Sys2Proof Sys2Proof.Safety

/-! ### Reaching a port of the region monitor -/

section
variable {h : Hart} {p : Fin 8} {r : RegionId} {s : State} {x : Word} (hx : (0x8008 ≤ x.toNat ∧ x.toNat ≤ 0x80A0) ∧ x.toNat % 8 = 0)
include hx

theorem portFault_monitor (hm : (thread s h).mode = true) (hi : isMonitor s h = true) : portFault s h x = none := by
  obtain ⟨hrange, h8⟩ := hx
  have hname : portName x.toNat = .none := by rw [portName, if_neg (by omega), if_neg (by omega)]
  rw [portFault_of h8 (portMode_monitor hrange)]
  simp [hm, hi, hname]

theorem portRead_monitor (hm : (thread s h).mode = true) (hi : isMonitor s h = true) (hr : regionOf s h.core = some r) :
    portRead h x s = monRead r h x.toNat s := by
  obtain ⟨⟨hlo, hhi⟩, h8⟩ := hx
  rw [portRead, portFault_monitor ⟨⟨hlo, hhi⟩, h8⟩ hm hi]
  dsimp only
  rw [if_neg (by omega), if_neg (by omega), if_neg (by omega), if_neg (by omega), hr]

theorem portWrite_monitor (hm : (thread s h).mode = true) (hi : isMonitor s h = true) (hr : regionOf s h.core = some r) (v : Word) :
    portWrite h x v s = monWrite r x.toNat v s := by
  obtain ⟨⟨hlo, hhi⟩, h8⟩ := hx
  rw [portWrite, portFault_monitor ⟨⟨hlo, hhi⟩, h8⟩ hm hi]
  dsimp only
  rw [if_neg (by omega), if_neg (by omega), if_neg (by omega), if_neg (by omega), hr]

variable (hmon : monitors h p r s)
include hmon

omit hx in
/-- The monitor's thread runs on the region's front core. -/
theorem monitors_front : frontOf s r = h.core := by
  obtain ⟨-, -, hi, hr, -⟩ := hmon
  rw [isMonitor, hr] at hi
  exact congrArg Hart.core (of_decide_eq_true hi)

omit hx in
theorem monitors_open : (coreOf s (frontOf s r)).isolated = false := by
  obtain ⟨-, -, -, -, hiso⟩ := id hmon
  rw [monitors_front hmon, hiso]

omit hx in
theorem monitors_open_rotate : (coreOf (rotate h s) (frontOf (rotate h s) r)).isolated = false := by
  obtain ⟨-, -, -, -, hiso⟩ := id hmon
  have hf : frontOf (rotate h s) r = h.core := (show frontOf (rotate h s) r = frontOf s r from rfl).trans (monitors_front hmon)
  rw [hf, rotate_isolated, hiso]

/-- A read of one of its ports that does not wait. -/
theorem monitor_gives {i : Instr} {d : Fin 32} {v : Word} {f : State → State} (hi : exec i s = inInstr h p 4 d x s)
    (hs : monRead r h x.toNat s = .done v (f s)) (hd : monRead r h x.toNat (rotate h s) = .done v (f (rotate h s))) :
    gives i h d v f s := by
  obtain ⟨hruns, hm, hmi, hr, -⟩ := hmon
  refine hi.trans (inInstr_done hruns ((portRead_monitor hx hm hmi hr).trans hs)
    ((portRead_monitor (s := rotate h s) hx (by rw [rotate_thread]; exact hm) hmi hr).trans hd) d)

/-- A write of one of its ports. -/
theorem monitor_takes {i : Instr} {v : Word} {f : State → State} (hi : exec i s = outInstr h p 4 x v s)
    (hd : ∀ u, (coreOf u (frontOf u r)).isolated = false → monWrite r x.toNat v u = .done 0 (f u)) : takes i h f s := by
  have hopen := monitors_open hmon
  have hopen' := monitors_open_rotate hmon
  obtain ⟨hruns, hm, hmi, hr, -⟩ := hmon
  exact hi.trans (outInstr_done hruns ((portWrite_monitor hx hm hmi hr v).trans (hd s hopen))
    ((portWrite_monitor (s := rotate h s) hx (by rw [rotate_thread]; exact hm) hmi hr v).trans (hd _ hopen')))
end

/-- An open gate lets every write of the monitor through. -/
theorem monWrite_open {r : RegionId} {n : Nat} {s : State} (h : (coreOf s (frontOf s r)).isolated = false) :
    ¬ ((coreOf s (frontOf s r)).isolated = true ∧ n ≠ 0x8020 ∧ n ≠ 0x8028 ∧ n ≠ 0x8048) := fun hc => by
  rw [h] at hc
  exact absurd hc.1 (by decide)

/-! ### The group mask (R220) -/

/-- A field of a number replaced. -/
theorem fieldPut_eq (N lo n v : Nat) :
    N - N / 2 ^ lo % 2 ^ n * 2 ^ lo + v * 2 ^ lo = 2 ^ lo * (2 ^ n * (N / 2 ^ lo / 2 ^ n) + v) + N % 2 ^ lo := by
  have hsplit : N = 2 ^ lo * (2 ^ n * (N / 2 ^ lo / 2 ^ n) + N / 2 ^ lo % 2 ^ n) + N % 2 ^ lo := by
    rw [Nat.div_add_mod, Nat.div_add_mod]
  have hsub : N - N / 2 ^ lo % 2 ^ n * 2 ^ lo = 2 ^ lo * (2 ^ n * (N / 2 ^ lo / 2 ^ n)) + N % 2 ^ lo := by
    refine Nat.sub_eq_of_eq_add ?_
    conv_lhs => rw [hsplit]
    ring
  rw [hsub]
  ring

theorem fieldPut_testBit {N lo n v : Nat} (hv : v < 2 ^ n) (i : Nat) :
    (N - N / 2 ^ lo % 2 ^ n * 2 ^ lo + v * 2 ^ lo).testBit i
      = if lo ≤ i ∧ i < lo + n then v.testBit (i - lo) else N.testBit i := by
  rw [fieldPut_eq, Nat.testBit_two_pow_mul_add _ (Nat.mod_lt _ (Nat.two_pow_pos lo)), Nat.testBit_two_pow_mul_add _ hv]
  by_cases h1 : i < lo
  · rw [if_pos h1, if_neg (by omega)]
    simp [Nat.testBit_mod_two_pow, h1]
  · by_cases h2 : i - lo < n
    · rw [if_neg h1, if_pos h2, if_pos (by omega)]
    · rw [if_neg h1, if_neg h2, if_neg (by omega), Nat.testBit_div_two_pow, Nat.testBit_div_two_pow]
      congr 1
      omega

/-- The mask with 64 of its bits replaced. -/
def confirmed (c : BitVec 256) (n : Nat) (v : Word) : BitVec 256 :=
  BitVec.ofNat 256 (c.toNat - fld c (64 * n) 64 * 2 ^ (64 * n) + v.toNat * 2 ^ (64 * n))

theorem confirmed_bit {c : BitVec 256} {n i : Nat} {v : Word} (hi : i < 256) :
    (confirmed c n v).getLsbD i = if i / 64 = n then v.getLsbD (i % 64) else c.getLsbD i := by
  rw [← BitVec.testBit_toNat, confirmed, BitVec.toNat_ofNat, Nat.testBit_mod_two_pow, fld, fieldPut_testBit v.isLt,
    decide_eq_true hi, Bool.true_and]
  by_cases h : i / 64 = n
  · rw [if_pos h, if_pos (by omega), BitVec.testBit_toNat]
    congr 1
    omega
  · rw [if_neg h, if_neg (by omega), BitVec.testBit_toNat]

theorem confirm_taken {h : Hart} {p : Fin 8} {r : RegionId} {s : State} (hmon : monitors h p r s) (d : Fin 32) (n : Fin 4) :
    takes (.portOut h p d (BitVec.ofNat 16 (0x8080 + 8 * n.val))) h
      (fun u => modReg u r fun x => { x with confirm := confirmed (regOf s r).confirm n.val (gReg (thread s h) d) }) s := by
  change takes _ h (writeConfirm r n.val (gReg (thread s h) d)) s
  match n with
  | 0 => exact monitor_takes (x := 0x8080) (by decide) hmon rfl fun u hu => if_neg (monWrite_open hu)
  | 1 => exact monitor_takes (x := 0x8088) (by decide) hmon rfl fun u hu => if_neg (monWrite_open hu)
  | 2 => exact monitor_takes (x := 0x8090) (by decide) hmon rfl fun u hu => if_neg (monWrite_open hu)
  | 3 => exact monitor_takes (x := 0x8098) (by decide) hmon rfl fun u hu => if_neg (monWrite_open hu)

end Sys2Proof.Machine

/-!
SUPPORT. The requests of the region monitor and of the operator, and the monitor's notifications (R38, R39, R79, R337, R338).
-/
namespace Sys2Proof.Machine
open Sys2Proof Sys2Proof.Safety

/-! ### Functions (R10) -/

@[simp] theorem fnOf_modFn (s : State) (fn : FnId) (g : HostFn → HostFn) : fnOf (modFn s fn g) fn = g (fnOf s fn) := tget_tset_same ..

/-! ### Cell requests (R38, R39) -/

section
variable {h : Hart} {p : Fin 8} {d : Fin 32} {r : RegionId} {s : State} (hmon : monitors h p r s)

/-- A cell change waits for its Daybreak. -/
def pendCell (n : Nat) (i : Nat) (e : Option (BitVec 128)) (s : State) : State :=
  { s with cellChanges := s.cellChanges ++ [⟨n, BitVec.ofNat 11 i, e⟩] }

/-- `CELL_STATUS` says what became of a request. -/
def noteStatus (r : RegionId) (st : BitVec 8) (i : Nat) (s : State) : State :=
  modReg s r fun x => { x with cellStatus := statusWord st i }

theorem monCreate_eq {v : Word} {st : BitVec 8} {i : Nat} {e : BitVec 128}
    (hc : createCheck s (some r) (requested (regOf s r)) (if bit v 11 then none else some (BitVec.ofNat 11 (fld v 0 11))) = (st, i, e)) :
    monCreate r v s = if st = 0 then noteStatus r 0 i (pendCell (effDay s) i (some e) s) else noteStatus r st 0 s := by
  have hcreate : monCreate r v s = noteStatus r (cellCreate (some r) (requested (regOf s r))
      (if bit v 11 then none else some (BitVec.ofNat 11 (fld v 0 11))) s).1 (cellCreate (some r) (requested (regOf s r))
      (if bit v 11 then none else some (BitVec.ofNat 11 (fld v 0 11))) s).2.1 (cellCreate (some r) (requested (regOf s r))
      (if bit v 11 then none else some (BitVec.ofNat 11 (fld v 0 11))) s).2.2 := rfl
  rw [hcreate, cellCreate, hc]
  dsimp only
  split
  next h0 => rw [h0]; rfl
  · rfl

theorem monDelete_refused {v : Word} (hc : deleteCheck s (some r) (fld v 0 11) ≠ 0) :
    monDelete r v s = noteStatus r (deleteCheck s (some r) (fld v 0 11)) 0 s := by
  rw [monDelete, cellDelete, if_pos hc]
  rfl

theorem monDelete_pends {v : Word} (hc : deleteCheck s (some r) (fld v 0 11) = 0) (hnone : ∀ c ∈ s.cellChanges, c.entry = none) :
    monDelete r v s = noteStatus r 0 (fld v 0 11) { pendCell (effDay s) (fld v 0 11) none s with
      cellReuse := tset s.cellReuse (fld v 0 11) (effDay s + 2) } := by
  have hany : (s.cellChanges.any fun c => decide (c.index.toNat = fld v 0 11) && c.entry.isSome) = false :=
    List.any_eq_false.2 fun c hmem => by simp [hnone c hmem]
  rw [monDelete, cellDelete, hc]
  dsimp only
  rw [if_neg (not_not.2 rfl), hany]
  rfl

include hmon

theorem cellCreate_taken {st : BitVec 8} {i : Nat} {e : BitVec 128} (hc : createCheck s (some r) (requested (regOf s r))
      (if bit (gReg (thread s h) d) 11 then none else some (BitVec.ofNat 11 (fld (gReg (thread s h) d) 0 11))) = (st, i, e)) :
    takes (.cellCreate (.port h p d)) h
      (fun u => if st = 0 then noteStatus r 0 i (pendCell (effDay s) i (some e) u) else noteStatus r st 0 u) s := by
  have htake : takes (.cellCreate (.port h p d)) h (monCreate r (gReg (thread s h) d)) s :=
    monitor_takes (x := 0x8030) (by decide) hmon rfl fun u hu => if_neg (monWrite_open hu)
  have heq := monCreate_eq (s := rotate h s) (r := r) (v := gReg (thread s h) d) (st := st) (i := i) (e := e) hc
  rw [takes, heq] at htake
  exact htake

theorem cellDelete_refused {st : BitVec 8} (h0 : st ≠ 0) (hc : deleteCheck s (some r) (fld (gReg (thread s h) d) 0 11) = st) :
    takes (.cellDelete (.port h p d)) h (noteStatus r st 0) s := by
  have htake : takes (.cellDelete (.port h p d)) h (monDelete r (gReg (thread s h) d)) s :=
    monitor_takes (x := 0x8038) (by decide) hmon rfl fun u hu => if_neg (monWrite_open hu)
  have hc' : deleteCheck (rotate h s) (some r) (fld (gReg (thread s h) d) 0 11) = st := hc
  rw [takes, monDelete_refused (by rw [hc']; exact h0), hc'] at htake
  exact htake

theorem cellDelete_pends (hc : deleteCheck s (some r) (fld (gReg (thread s h) d) 0 11) = 0)
    (hnone : ∀ c ∈ s.cellChanges, c.entry = none) : takes (.cellDelete (.port h p d)) h
      (fun u => noteStatus r 0 (fld (gReg (thread s h) d) 0 11) { pendCell (effDay s) (fld (gReg (thread s h) d) 0 11) none u with
        cellReuse := tset u.cellReuse (fld (gReg (thread s h) d) 0 11) (effDay s + 2) }) s := by
  have htake : takes (.cellDelete (.port h p d)) h (monDelete r (gReg (thread s h) d)) s :=
    monitor_takes (x := 0x8038) (by decide) hmon rfl fun u hu => if_neg (monWrite_open hu)
  have heq := monDelete_pends (s := rotate h s) (r := r) (v := gReg (thread s h) d) hc hnone
  rw [takes, heq] at htake
  exact htake

/-! ### Notifications and completions (R331, R337, R338) -/

theorem hostNotify_taken : takes (.hostNotification h p d) h (hostNotify r (gReg (thread s h) d)) s :=
  monitor_takes (x := 0x80A0) (by decide) hmon rfl fun u hu => if_neg (monWrite_open hu)

variable {fn : FnId} (hb : bit (gReg (thread s h) d) 0 = false) (hfn : fnOfRegion s r = some fn)
  (hen : cqEnabled (fnOf s fn) (fld (gReg (thread s h) d) 1 4) = true)
include hb hfn hen

theorem notification_queued (hroom : ¬ (cqFull (cqOf (fnOf s fn) (fld (gReg (thread s h) d) 1 4)) = true ∧ 64 ≤ heldBack (fnOf s fn))) :
    takes (.hostNotification h p d) h (postCqe fn (fld (gReg (thread s h) d) 1 4)
      ⟨0, 0, 2, 0, 0, BitVec.ofNat 64 (fld (gReg (thread s h) d) 16 48), 0, none⟩) s := by
  have htake := hostNotify_taken (d := d) hmon
  have hr : fnOfRegion (rotate h s) r = some fn := hfn
  have he : cqEnabled (fnOf (rotate h s) fn) (fld (gReg (thread s h) d) 1 4) = true := hen
  rw [takes, hostNotify, if_neg (by rw [hb]; decide), notification, hr] at htake
  dsimp only at htake
  rw [he, if_neg (by decide)] at htake
  exact htake.trans (congrArg (fun u => Host.Outcome.next (modTh u h (advPc 4))) (if_neg hroom))

theorem notification_lost (hfull : cqFull (cqOf (fnOf s fn) (fld (gReg (thread s h) d) 1 4)) = true) (h64 : 64 ≤ heldBack (fnOf s fn)) :
    takes (.hostNotification h p d) h (notifyLost r) s := by
  have htake := hostNotify_taken (d := d) hmon
  have hr : fnOfRegion (rotate h s) r = some fn := hfn
  have he : cqEnabled (fnOf (rotate h s) fn) (fld (gReg (thread s h) d) 1 4) = true := hen
  rw [takes, hostNotify, if_neg (by rw [hb]; decide), notification, hr] at htake
  dsimp only at htake
  rw [he, if_neg (by decide)] at htake
  exact htake.trans (congrArg (fun u => Host.Outcome.next (modTh u h (advPc 4))) (if_pos ⟨hfull, h64⟩))
end

theorem writeBack_onlySpills (r : RegionId) (s : State) : OnlySpills s (writeBack r s) :=
  (cleanLines_onlySpills ..).trans (cleanLines_onlySpills ..)

/-- A completion that the host notes touches neither the regions, nor the cores, nor the functions. -/
theorem hostLog_rest (fn : FnId) (r : Option RegionId) (st : BitVec 8) (info : Word) (s : State) :
    (hostLog fn r st info s).regions = s.regions ∧ (hostLog fn r st info s).cores = s.cores ∧ (hostLog fn r st info s).fns = s.fns := by
  unfold hostLog
  split
  · exact ⟨logItem_regions .., logItem_cores .., logItem_fns ..⟩
  · exact ⟨rfl, rfl, rfl⟩

/-- A launch is marked ended in its region. -/
def markEnded (r : RegionId) (k : Nat) (l : Launch) (s : State) : State :=
  modReg s r fun x => { x with launches := tset x.launches k { l with ended := true } }

theorem endLaunch_ends {r : RegionId} {k : Nat} {st : BitVec 8} {info : Word} {l : Launch} {s : State}
    (hl : tfind (regOf s r).launches k = some l) (he : l.ended = false) (ho : l.orphan = false) (hc : l.noCqe = false) :
    (endLaunch r k st info s).cores = s.cores
    ∧ tfind (regOf (endLaunch r k st info s) r).launches k = some { l with ended := true }
    ∧ (fnOf (endLaunch r k st info s) l.fn).holding = (fnOf s l.fn).holding
      ++ [(Fin.ofNat 16 (sqCq (fnOf s l.fn) l.ring.val), ⟨l.cid, l.ring, 0, st, 1, 0, info, some (r, k)⟩)] := by
  have hend : endLaunch r k st info s = postCqe l.fn (sqCq (fnOf s l.fn) l.ring.val) ⟨l.cid, l.ring, 0, st, 1, 0, info, some (r, k)⟩
      (notLive l.fn l.ring l.seq (markEnded r k l (hostLog l.fn (some r) st info (writeBack r s)))) := by
    rw [endLaunch, hl]
    dsimp only
    rw [if_neg (by rw [he]; decide), if_neg (by rw [ho]; decide), if_neg (by simp [hc])]
    rfl
  obtain ⟨hregs, hcores, hfns⟩ := hostLog_rest l.fn (some r) st info (writeBack r s)
  obtain ⟨a, b, o, hback⟩ := writeBack_onlySpills r s
  have hsame : (hostLog l.fn (some r) st info (writeBack r s)).cores = s.cores
      ∧ regOf (hostLog l.fn (some r) st info (writeBack r s)) r = regOf s r
      ∧ fnOf (hostLog l.fn (some r) st info (writeBack r s)) l.fn = fnOf s l.fn := by
    refine ⟨hcores.trans (by rw [hback]), ?_, ?_⟩
    · rw [regOf, hregs, hback]
      rfl
    · rw [fnOf, hfns, hback]
      rfl
  rw [hend]
  generalize hostLog l.fn (some r) st info (writeBack r s) = u at hsame
  obtain ⟨hu, hreg, hfn⟩ := hsame
  refine ⟨hu, ?_, ?_⟩
  · change tfind (regOf (markEnded r k l u) r).launches k = _
    rw [markEnded, regOf_modReg_same]
    exact tfind_tset_same ..
  · rw [postCqe, fnOf_modFn, notLive, fnOf_modFn, show fnOf (markEnded r k l u) l.fn = fnOf u l.fn from rfl, hfn]

theorem launchCompletion_ends {h : Hart} {p : Fin 8} {d : Fin 32} {r : RegionId} {s : State} (hmon : monitors h p r s) {l : Launch}
    (hb : bit (gReg (thread s h) d) 0 = true) (hst : fld (gReg (thread s h) d) 16 8 < 0x40)
    (hl : tfind (regOf s r).launches (fld (gReg (thread s h) d) 8 6) = some l) (he : l.ended = false) (ho : l.orphan = false)
    (hc : l.noCqe = false) :
    ∃ t, exec (.launchCompletion h p d) s = .next t ∧ thread t h = advPc 4 (thread s h)
      ∧ tfind (regOf t r).launches (fld (gReg (thread s h) d) 8 6) = some { l with ended := true }
      ∧ ∃ e : Cqe, (fnOf t l.fn).holding = (fnOf s l.fn).holding ++ [(Fin.ofNat 16 (sqCq (fnOf s l.fn) l.ring.val), e)]
        ∧ e.cid = l.cid ∧ e.kind = 0 ∧ e.status.toNat = fld (gReg (thread s h) d) 16 8 ∧ e.opcode = 1
        ∧ e.slot = some (r, fld (gReg (thread s h) d) 8 6) := by
  have htake : takes (.launchCompletion h p d) h (hostNotify r (gReg (thread s h) d)) s :=
    monitor_takes (x := 0x80A0) (by decide) hmon rfl fun u hu => if_neg (monWrite_open hu)
  have hr : tfind (regOf (rotate h s) r).launches (fld (gReg (thread s h) d) 8 6) = some l := hl
  rw [takes, hostNotify, if_pos hb, if_neg (by omega), launchDone, hr] at htake
  obtain ⟨hcores, hlaunch, hheld⟩ := endLaunch_ends (st := BitVec.ofNat 8 (fld (gReg (thread s h) d) 16 8)) (info := 0) hr he ho hc
  refine ⟨_, htake, ?_, hlaunch, _, hheld, rfl, rfl, ?_, rfl, rfl⟩
  · rw [thread_modTh_same, thread, coreOf, hcores]
    exact congrArg (advPc 4) (rotate_thread ..)
  · exact Nat.mod_eq_of_lt (by omega)

/-! ### The operator's requests, and the variant (R219) -/

theorem operatorCmd_commands {s : State} (hc : commands s) (f : State → State) : operatorCmd f s = f s := by
  obtain ⟨hconn, howned, hauth⟩ := hc
  rw [operatorCmd, hconn, if_neg (by decide), if_neg (by simp [howned, hauth])]

theorem operator_creates {s : State} (hc : commands s) {e : BitVec 128} {w : Option (BitVec 11)} {i : Nat} {new : BitVec 128}
    (hk : createCheck s none e w = (0, i, new)) : exec (.cellCreate (.operator e w)) s
      = .next (reply 0 [BitVec.ofNat 64 i] (pendCell (effDay s) i (some new) s)) := by
  refine congrArg Host.Outcome.next ((operatorCmd_commands hc _).trans ?_)
  rw [cellCreate, hk]
  rfl

theorem operator_deletes_not {s : State} (hc : commands s) {i : BitVec 11} (hk : deleteCheck s none i.toNat ≠ 0) :
    exec (.cellDelete (.operator i)) s = .next (reply (deleteCheck s none i.toNat) [0] s) := by
  refine congrArg Host.Outcome.next ((operatorCmd_commands hc _).trans ?_)
  rw [cellDelete, if_pos hk]
  rfl

section
variable {h : Hart} {p : Fin 8} {r : RegionId} {s : State} (hruns : Runs h p 4 s) (hr : regionOf s h.core = some r) (d : Fin 32)
include hruns hr

omit hr in
theorem variant_waits (hearly : s.clock.cycle < 128) : waits (.portIn h p d 0x1020) h (.portRead 0x1020 d 4) s := by
  have hread : ∀ u : State, u.clock = s.clock → portRead h 0x1020 u = .wait := fun u hu =>
    if_pos (show u.clock.cycle < 128 by rw [hu]; exact hearly)
  exact inInstr_waits hruns (hread s rfl) (hread (rotate h s) rfl) d

theorem variant_read (hlate : 128 ≤ s.clock.cycle) : gives (.portIn h p d 0x1020) h d ((regOf s r).variant.setWidth 64) id s := by
  have hread : ∀ u : State, u.clock = s.clock → regionOf u h.core = some r → regOf u r = regOf s r →
      portRead h 0x1020 u = .done ((regOf s r).variant.setWidth 64) u := fun u hu hreg hx => by
    refine (if_neg (show ¬ u.clock.cycle < 128 by rw [hu]; omega)).trans ?_
    rw [hreg, ← hx]
  exact inInstr_done hruns (hread s rfl hr rfl) (hread (rotate h s) rfl hr rfl) d
end

/-- The selected entry of the cell table, a word at a time. -/
theorem entry_words (e : BitVec 128) : e.setWidth 64 = e.extractLsb' 0 64 ∧ BitVec.ofNat 64 (e.toNat / 2 ^ 64) = e.extractLsb' 64 64 := by
  refine ⟨?_, ?_⟩
  · ext i hi
    simp
  · apply BitVec.eq_of_toNat_eq
    simp [BitVec.extractLsb'_toNat, Nat.shiftRight_eq_div_pow]

theorem ofNat_fld_low {w : Nat} (v : BitVec w) (n : Nat) : BitVec.ofNat n (fld v 0 n) = v.setWidth n := by
  apply BitVec.eq_of_toNat_eq
  simp [fld]

/-- Settles O47: a port of the region monitor leads to its request, which looks at what no issue slot changes. -/
theorem monitorRequestsAct : Obligations.MonitorRequestsAct := by
  intro h p d r s v x wanted pend status
  refine ⟨fun hmon => ⟨monitor_gives (x := 0x8040) (by decide) hmon rfl rfl rfl, monitor_gives (x := 0x8018) (by decide) hmon rfl rfl rfl,
      ?_, ?_, ?_, fun n => ⟨_, confirm_taken hmon d n, fun i => confirmed_bit⟩, ?_, fun st i e => cellCreate_taken hmon,
      fun st => cellDelete_refused hmon, cellDelete_pends hmon, fun fn => notification_queued hmon, fun fn => notification_lost hmon,
      fun l => launchCompletion_ends hmon⟩,
    fun hruns hr => ⟨variant_waits hruns d, variant_read hruns hr d⟩, fun hc e w i new => operator_creates hc,
    fun hc i => operator_deletes_not hc⟩
  · obtain ⟨hlo, hhi⟩ := entry_words (selected s r)
    have h0 : gives (.portIn h p d 0x8050) h d ((selected s r).setWidth 64) id s :=
      monitor_gives (x := 0x8050) (by decide) hmon rfl rfl rfl
    have h64 : gives (.portIn h p d 0x8058) h d (BitVec.ofNat 64 ((selected s r).toNat / 2 ^ 64)) id s :=
      monitor_gives (x := 0x8058) (by decide) hmon rfl rfl rfl
    rw [hlo] at h0
    rw [hhi] at h64
    exact ⟨h0, h64⟩
  · rw [← ofNat_fld_low]
    exact monitor_takes (x := 0x8048) (by decide) hmon rfl fun u hu => if_neg (monWrite_open hu)
  · rw [← ofNat_fld_low]
    exact monitor_takes (x := 0x8078) (by decide) hmon rfl fun u hu => if_neg (monWrite_open hu)
  · exact monitor_takes (x := 0x8070) (by decide) hmon rfl fun u hu => if_neg (monWrite_open hu)

end Sys2Proof.Machine

/-!
SUPPORT. Route loads: their start, the reading of their image, and what they leave in the banks (R63–R68, R245).
-/
namespace Sys2Proof.Machine
open Sys2Proof Sys2Proof.Safety

/-! ### What the reading of an image looks at -/

/-- `t` is `s` but for cores, counters and what has been served. -/
def OnlyCounts (s t : State) : Prop :=
  ∃ c k w v, t = { s with cores := c, counters := k, serviceWindow := w, served := v }

theorem OnlyCounts.refl (s : State) : OnlyCounts s s := ⟨_, _, _, _, rfl⟩

theorem OnlyCounts.trans {s t u : State} (h : OnlyCounts s t) (k : OnlyCounts t u) : OnlyCounts s u := by
  obtain ⟨_, _, _, _, rfl⟩ := h
  obtain ⟨c, k, w, v, rfl⟩ := k
  exact ⟨c, k, w, v, rfl⟩

theorem scanImage_onlyCounts {s t : State} (h : OnlyCounts s t) (r : RegionId) (n a : Nat) (acc : LoadAcc) :
    scanImage t r n a acc = scanImage s r n a acc := by
  obtain ⟨c, k, w, v, rfl⟩ := h
  induction n generalizing a acc with
  | zero => rfl
  | succ n ih =>
    rw [scanImage, scanImage]
    simp only [ih]
    rfl

theorem scanRead_onlyCounts {s t : State} (h : OnlyCounts s t) (r : RegionId) (a : Nat) : scanRead t r a = scanRead s r a := by
  have hfuel : scanFuel t a = scanFuel s a := by
    obtain ⟨c, k, w, v, rfl⟩ := h
    rfl
  rw [scanRead, hfuel, scanImage_onlyCounts h]
  rfl

theorem scanLoad_onlyCounts {s t : State} (h : OnlyCounts s t) (r : RegionId) (a : Nat) : scanLoad t r a = scanLoad s r a := by
  rw [scanLoad, scanLoad, scanRead_onlyCounts h]

theorem scanLen_onlyCounts {s t : State} (h : OnlyCounts s t) (r : RegionId) (a : Nat) : scanLen t r a = scanLen s r a := by
  rw [scanLen, scanLen, scanRead_onlyCounts h]

theorem rotate_onlyCounts (h : Hart) (s : State) : OnlyCounts s (rotate h s) := ⟨_, _, _, _, rfl⟩

/-- Sectors with nothing worse than a corrected bit are counted. -/
theorem eccRead_counts (a n : Nat) {x : SectorEcc} (hx : x.bad = []) (s : State) : ∃ k, eccRead a n x s = { s with counters := k } := by
  unfold eccRead
  split
  · exact ⟨_, rfl⟩
  · refine List.foldlRecOn (motive := fun t : State => ∃ k, t = { s with counters := k }) _ _ ⟨_, rfl⟩ fun t ht w _ => ?_
    obtain ⟨k, rfl⟩ := ht
    rw [hx, if_neg (by simp)]
    split
    · exact ⟨_, rfl⟩
    · exact ⟨_, rfl⟩

theorem charge_onlyCounts (r : RegionId) (res : List Nat) (s : State) : OnlyCounts s (charge r res s) := ⟨_, _, _, _, rfl⟩

theorem chargeRange_onlyCounts (r : RegionId) (e a n : Nat) (b : Bool) (s : State) : OnlyCounts s (chargeRange r e a n b s) :=
  List.foldlRecOn (motive := OnlyCounts s) _ _ (.refl s) fun _ ht _ _ => ht.trans (charge_onlyCounts ..)

theorem granted_counters (s : State) (k : Tab (BitVec 32)) (c : Ready) : granted { s with counters := k } c = granted s c := rfl

/-! ### Banks -/

@[simp] theorem activeBank_setInactive (x : Router) (b : Tab (BitVec 128)) : activeBank (setInactive x b) = activeBank x := by
  unfold activeBank setInactive
  cases x.active <;> rfl

@[simp] theorem idleBank_setInactive (x : Router) (b : Tab (BitVec 128)) : idleBank (setInactive x b) = b := by
  unfold idleBank setInactive
  cases x.active <;> simp

@[simp] theorem routerOf_setRouter_same (s : State) (c : CoreId) (x : Router) : routerOf (setRouter s c x) c = x := tget_tset_same ..

theorem routerOf_setRouter_other (s : State) (c d : CoreId) (x : Router) (h : c ≠ d) :
    routerOf (setRouter s c x) d = routerOf s d := tget_tset_other _ _ _ _ _ fun hv => h (Fin.ext hv)

/-! ### The start of a load (R65) -/

/-- What a load clears at one core. -/
def clearCore (s : State) (c : CoreId) : State :=
  let s := if (tfind s.routers c.val).isSome then setRouter s c (setInactive (routerOf s c) []) else s
  if (coreOf s c).budgetNext = 0 then s else modCore s c fun x => { x with budgetNext := 0 }

/-- A core as a load finds it: no entry in the inactive bank, no pending budget. -/
def isClear (s : State) (c : CoreId) : Prop := (coreOf s c).budgetNext = 0 ∧ idleBank (routerOf s c) = []

theorem clearCore_router (s : State) (c d : CoreId) : routerOf (clearCore s c) d
    = if c = d then setInactive (routerOf s d) [] else routerOf s d := by
  have hcore : ∀ u : State, routerOf (if (coreOf u c).budgetNext = 0 then u else modCore u c fun x => { x with budgetNext := 0 }) d
      = routerOf u d := fun u => by
    split
    · rfl
    · rfl
  rw [clearCore, hcore]
  by_cases hcd : c = d
  · subst hcd
    rw [if_pos rfl]
    split
    · exact routerOf_setRouter_same ..
    next h =>
      have hreset : routerOf s c = Router.reset := by
        rw [routerOf, tget, Option.not_isSome_iff_eq_none.1 h]
        rfl
      rw [hreset]
      rfl
  · rw [if_neg hcd]
    split
    · exact routerOf_setRouter_other _ _ _ _ hcd
    · rfl

theorem clearCore_core (s : State) (c d : CoreId) : coreOf (clearCore s c) d
    = if c = d then { coreOf s d with budgetNext := 0 } else coreOf s d := by
  have hrouter : ∀ x, coreOf (if (tfind s.routers c.val).isSome then setRouter s c x else s) d = coreOf s d := fun x => by
    split
    · rfl
    · rfl
  have hcore : ∀ u : State, coreOf u d = coreOf s d →
      coreOf (if (coreOf u c).budgetNext = 0 then u else modCore u c fun x => { x with budgetNext := 0 }) d
        = if c = d then { coreOf s d with budgetNext := 0 } else coreOf s d := fun u hu => by
    by_cases hcd : c = d
    · subst hcd
      rw [if_pos rfl, ← hu]
      split
      next h0 => rw [← h0]
      · exact coreOf_modCore_same ..
    · rw [if_neg hcd, ← hu]
      split
      · rfl
      · exact coreOf_modCore_other _ _ _ _ hcd
  exact hcore _ (hrouter _)

theorem clearCore_regions (s : State) (c : CoreId) : (clearCore s c).regions = s.regions := by
  have hcore : ∀ u : State, (if (coreOf u c).budgetNext = 0 then u else modCore u c fun x => { x with budgetNext := 0 }).regions
      = u.regions := fun u => by
    split
    · rfl
    · rfl
  rw [clearCore, hcore]
  split
  · rfl
  · rfl

theorem clearCore_thread (s : State) (c : CoreId) (h : Hart) : thread (clearCore s c) h = thread s h := by
  rw [thread, clearCore_core]
  split
  · rfl
  · rfl

theorem clearCore_clears (s : State) (c : CoreId) : isClear (clearCore s c) c := by
  rw [isClear, clearCore_core, clearCore_router, if_pos rfl, if_pos rfl]
  exact ⟨rfl, idleBank_setInactive ..⟩

theorem clearCore_keeps_clear {s : State} {d : CoreId} (c : CoreId) (h : isClear s d) : isClear (clearCore s c) d := by
  by_cases hcd : c = d
  · exact hcd ▸ clearCore_clears s c
  · rw [isClear, clearCore_core, clearCore_router, if_neg hcd, if_neg hcd]
    exact h

theorem clearCore_active (s : State) (c d : CoreId) : activeBank (routerOf (clearCore s c) d) = activeBank (routerOf s d) := by
  rw [clearCore_router]
  split
  · exact activeBank_setInactive ..
  · rfl

theorem clearCores_clear (l : List CoreId) (s : State) : (∀ c, c ∈ l ∨ isClear s c → isClear (l.foldl clearCore s) c)
    ∧ (∀ c, activeBank (routerOf (l.foldl clearCore s) c) = activeBank (routerOf s c))
    ∧ (l.foldl clearCore s).regions = s.regions ∧ ∀ h, thread (l.foldl clearCore s) h = thread s h := by
  induction l generalizing s with
  | nil => exact ⟨fun c hc => hc.resolve_left List.not_mem_nil, fun _ => rfl, rfl, fun _ => rfl⟩
  | cons d l ih =>
    obtain ⟨hclear, hactive, hregs, hth⟩ := ih (clearCore s d)
    refine ⟨fun c hc => hclear c ?_, fun c => (hactive c).trans (clearCore_active ..), hregs.trans (clearCore_regions ..),
      fun h => (hth h).trans (clearCore_thread ..)⟩
    rw [List.mem_cons, or_assoc] at hc
    obtain rfl | hmem | hs := hc
    · exact .inr (clearCore_clears s c)
    · exact .inl hmem
    · exact .inr (clearCore_keeps_clear d hs)

/-- The region as a load starts in it. -/
def beginLoad (r : RegionId) (a : BitVec 40) (s : State) : State :=
  modReg s r fun x => { x with load := some ⟨a, s.clock.dayNo, true, false⟩, loadNext := none }

theorem startLoad_begins {r : RegionId} {a : BitVec 40} {s : State} (hs : (scanLoad s r a.toNat).isSome = true)
    (hd : s.clock.phase ≠ .dusk) : startLoad r a s = (regionCores s r).foldl clearCore (beginLoad r a s) := by
  obtain ⟨x, hx⟩ := Option.isSome_iff_exists.1 hs
  rw [startLoad, hx]
  dsimp only
  rw [if_neg (fun h => hd h.1), clearInactive]
  have hcores : regionCores (beginLoad r a s) r = regionCores s r := by
    rw [regionCores, beginLoad, regOf_modReg_same]
    rfl
  rw [← hcores]
  rfl

/-- A load has started. -/
def loadStarted (r : RegionId) (a : BitVec 40) (s t : State) : Prop :=
  (regOf t r).load = some ⟨a, s.clock.dayNo, true, false⟩ ∧ (regOf t r).loadNext = none
    ∧ ∀ c ∈ regionCores s r, (coreOf t c).budgetNext = 0 ∧ idleBank (routerOf t c) = []
      ∧ activeBank (routerOf t c) = activeBank (routerOf s c)

theorem startLoad_started {r : RegionId} {a : BitVec 40} {s : State} (hs : (scanLoad s r a.toNat).isSome = true)
    (hd : s.clock.phase ≠ .dusk) : loadStarted r a s (startLoad r a s) ∧ ∀ h, thread (startLoad r a s) h = thread s h := by
  rw [startLoad_begins hs hd]
  obtain ⟨hclear, hactive, hregs, hth⟩ := clearCores_clear (regionCores s r) (beginLoad r a s)
  have hreg : regOf ((regionCores s r).foldl clearCore (beginLoad r a s)) r
      = { regOf s r with load := some ⟨a, s.clock.dayNo, true, false⟩, loadNext := none } := by
    rw [regOf, hregs]
    exact regOf_modReg_same ..
  refine ⟨⟨by rw [hreg], by rw [hreg], fun c hc => ?_⟩, hth⟩
  obtain ⟨hbudget, hidle⟩ := hclear c (.inl hc)
  exact ⟨hbudget, hidle, hactive c⟩

theorem startLoad_rejects {r : RegionId} {a : BitVec 40} {s : State} (hs : scanLoad s r a.toNat = none) :
    (regOf (startLoad r a s) r).routeStatus = 0x19 ∧ (startLoad r a s).routers = s.routers ∧ (startLoad r a s).cores = s.cores := by
  rw [startLoad, hs]
  refine ⟨?_, rfl, rfl⟩
  dsimp only
  rw [regOf_setReg_same]

/-! ### The end of a load (R66) -/

theorem mem_tset {α : Type} {t : Tab α} {i : Nat} {v : α} {e : Nat × α} (h : e ∈ tset t i v) : e = (i, v) ∨ e ∈ t := by
  induction t with
  | nil => exact .inl (List.mem_singleton.1 h)
  | cons f t ih =>
    obtain ⟨k, w⟩ := f
    rw [tset] at h
    split_ifs at h
    · exact (List.mem_cons.1 h)
    · exact (List.mem_cons.1 h).imp id (List.mem_cons_of_mem _)
    · obtain rfl | h := List.mem_cons.1 h
      · exact .inr List.mem_cons_self
      · exact (ih h).imp id (List.mem_cons_of_mem _)

theorem tsorted_tset {α : Type} {t : Tab α} (i : Nat) (v : α) (h : tsorted t = true) : tsorted (tset t i v) = true := by
  induction t with
  | nil => rfl
  | cons f t ih =>
    obtain ⟨k, w⟩ := f
    have hlow := tsorted_low k w t h
    have htail := tsorted_tail (k, w) t h
    rw [tset]
    split_ifs with hlt heq
    · exact tsorted_cons _ _ _ (fun c hc => by
        obtain rfl | hc := List.mem_cons.1 hc
        · exact hlt
        · exact hlt.trans (hlow c hc)) h
    · exact tsorted_cons _ _ _ (fun c hc => heq ▸ hlow c hc) htail
    · refine tsorted_cons _ _ _ (fun c hc => ?_) (ih htail)
      obtain rfl | hc := mem_tset hc
      · exact lt_of_le_of_ne (not_lt.1 hlt) (Ne.symm heq)
      · exact hlow c hc

/-- A table by core, keys rising. -/
def coreTab {α : Type} (t : Tab α) : Prop := tsorted t = true ∧ ∀ e ∈ t, e.1 < 10240

theorem coreTab_tset {α : Type} {t : Tab α} (c : CoreId) (v : α) (h : coreTab t) : coreTab (tset t c.val v) := by
  refine ⟨tsorted_tset _ _ h.1, fun e he => ?_⟩
  obtain rfl | he := mem_tset he
  · exact c.isLt
  · exact h.2 e he

/-- What a fold over such a table leaves at one core, where each step acts on its own core. -/
theorem foldl_coreTab {α β : Type} (G : State → CoreId → β) (f : State → Nat × α → State) (g : β → α → β)
    (hstep : ∀ s (b : Nat × α) (c : CoreId), b.1 < 10240 → G (f s b) c = if b.1 = c.val then g (G s c) b.2 else G s c)
    {t : Tab α} (ht : coreTab t) (s : State) (c : CoreId) :
    G (t.foldl f s) c = (tfind t c.val).elim (G s c) (g (G s c)) := by
  induction t generalizing s with
  | nil => rfl
  | cons e t ih =>
    obtain ⟨k, w⟩ := e
    obtain ⟨hsort, hkeys⟩ := ht
    have htail : coreTab t := ⟨tsorted_tail (k, w) t hsort, fun e he => hkeys e (List.mem_cons_of_mem _ he)⟩
    rw [List.foldl_cons, ih htail, hstep s (k, w) c (hkeys _ List.mem_cons_self), tfind]
    by_cases hk : k = c.val
    · have hnone : tfind t c.val = none := tfind_below t c.val (fun e he => hk ▸ tsorted_low k w t hsort e he)
      rw [hnone, if_pos hk, if_pos hk]
      rfl
    · rw [if_neg hk, if_neg hk]

/-- The tables a load has read name cores. -/
def accOk (acc : LoadAcc) : Prop := coreTab acc.banks ∧ coreTab acc.budgets

theorem addRecord_ok {acc : LoadAcc} (x : RouteRec) (h : accOk acc) : accOk (addRecord acc x) := by
  obtain ⟨hbanks, hbudgets⟩ := h
  unfold addRecord
  dsimp only
  split
  · exact ⟨coreTab_tset _ _ hbanks, hbudgets⟩
  · exact ⟨hbanks, coreTab_tset _ _ hbudgets⟩

theorem scanImage_ok {s : State} {r : RegionId} (n a : Nat) {acc : LoadAcc} (h : accOk acc) :
    ∀ y ∈ scanImage s r n a acc, accOk y.2.1 := by
  induction n generalizing a acc with
  | zero => exact fun y hy => nomatch hy
  | succ n ih =>
    intro y hy
    rw [scanImage] at hy
    dsimp only at hy
    split_ifs at hy
    · cases hy
    · obtain rfl := Option.some.inj hy
      exact h
    · obtain rfl := Option.some.inj hy
      exact h
    · exact ih _ (addRecord_ok _ h) y hy

theorem scanLoad_ok {s : State} {r : RegionId} {a : Nat} {st : BitVec 8} {acc : LoadAcc} (h : scanLoad s r a = some (st, acc)) :
    accOk acc := by
  obtain ⟨y, hy, heq⟩ := Option.map_eq_some_iff.1 h
  obtain ⟨-, rfl⟩ := Prod.mk.inj heq
  exact scanImage_ok _ _ ⟨⟨rfl, fun e he => (List.not_mem_nil he).elim⟩, ⟨rfl, fun e he => (List.not_mem_nil he).elim⟩⟩ y hy

theorem coreOfKey {k : Nat} {c : CoreId} (hk : k < 10240) : (Fin.ofNat 10240 k : CoreId) = c ↔ k = c.val := by
  rw [Fin.ext_iff, finVal_lt hk]

/-- The entries of a committed load at one router, and its budget at one core. -/
def putBank (s : State) (b : Nat × Tab (BitVec 128)) : State :=
  setRouter s (Fin.ofNat 10240 b.1) (setInactive (routerOf s (Fin.ofNat 10240 b.1)) b.2)
def putBudget (s : State) (b : Nat × BitVec 24) : State := modCore s (Fin.ofNat 10240 b.1) fun x => { x with budgetNext := b.2 }

/-- What a committed load leaves: its entries and budgets, and everything else. -/
theorem storeLoad_stores {acc : LoadAcc} (h : accOk acc) (s : State) :
    (storeLoad acc s).regions = s.regions
    ∧ (∀ c, activeBank (routerOf (storeLoad acc s) c) = activeBank (routerOf s c))
    ∧ (∀ c, idleBank (routerOf (storeLoad acc s) c) = (tfind acc.banks c.val).getD (idleBank (routerOf s c)))
    ∧ ∀ (c : CoreId) n, tfind acc.budgets c.val = some n → (coreOf (storeLoad acc s) c).budgetNext = n := by
  obtain ⟨hbanks, hbudgets⟩ := h
  have hrouters : ∀ u : State, (acc.budgets.foldl putBudget u).routers = u.routers := fun u =>
    List.foldlRecOn (motive := fun t : State => t.routers = u.routers) _ _ rfl fun t ht b _ => ht
  have hregs : ∀ u : State, (acc.budgets.foldl putBudget u).regions = u.regions := fun u =>
    List.foldlRecOn (motive := fun t : State => t.regions = u.regions) _ _ rfl fun t ht b _ => ht
  have hregs' : (acc.banks.foldl putBank s).regions = s.regions :=
    List.foldlRecOn (motive := fun t : State => t.regions = s.regions) _ _ rfl fun t ht b _ => ht
  have hbank := foldl_coreTab routerOf putBank setInactive (fun u b c hb => by
    by_cases hk : b.1 = c.val
    · rw [if_pos hk, ← (coreOfKey hb).2 hk]
      exact routerOf_setRouter_same ..
    · rw [if_neg hk]
      exact routerOf_setRouter_other _ _ _ _ fun he => hk ((coreOfKey hb).1 he)) hbanks s
  have hbudget := foldl_coreTab coreOf putBudget (fun x v => { x with budgetNext := v }) (fun u b c hb => by
    by_cases hk : b.1 = c.val
    · rw [if_pos hk, ← (coreOfKey hb).2 hk]
      exact coreOf_modCore_same ..
    · rw [if_neg hk]
      exact coreOf_modCore_other _ _ _ _ fun he => hk ((coreOfKey hb).1 he)) hbudgets (acc.banks.foldl putBank s)
  have hrt : ∀ c, routerOf (storeLoad acc s) c = (tfind acc.banks c.val).elim (routerOf s c) (setInactive (routerOf s c)) := fun c => by
    rw [← hbank c, routerOf, routerOf]
    exact congrArg (tget Router.reset · c.val) (hrouters _)
  refine ⟨(hregs _).trans hregs', fun c => ?_, fun c => ?_, fun c n hn => ?_⟩
  · rw [hrt]
    cases tfind acc.banks c.val with
    | none => rfl
    | some v => exact activeBank_setInactive ..
  · rw [hrt]
    cases tfind acc.banks c.val with
    | none => rfl
    | some v => exact idleBank_setInactive ..
  · have hc := hbudget c
    rw [hn] at hc
    exact congrArg Core.budgetNext hc

section
variable {s : State} {r : RegionId} {l : RouteLoad} {st : BitVec 8} {acc : LoadAcc} (hl : (regOf s r).load = some l)
  (hrun : l.running = true) (hscan : scanLoad s r l.addr.toNat = some (st, acc))
include hl hrun hscan

/-- How a load ends, in a state that differs in cores, counters and what has been served. -/
theorem finishLoad_ends {t : State} (ht : OnlyCounts s t) :
    let u := finishLoad r t
    (regOf u r).routeStatus = st ∧ (st ≠ 0 → (regOf u r).load = none ∧ u.routers = s.routers)
    ∧ (st = 0 → (regOf u r).load = some { l with running := false, committed := true }
      ∧ ∀ c : CoreId, activeBank (routerOf u c) = activeBank (routerOf s c)
        ∧ idleBank (routerOf u c) = (tfind acc.banks c.val).getD (idleBank (routerOf s c))
        ∧ ∀ n, tfind acc.budgets c.val = some n → (coreOf u c).budgetNext = n) := by
  have hreg : regOf t r = regOf s r ∧ t.routers = s.routers := by
    obtain ⟨c, k, w, v, rfl⟩ := ht
    exact ⟨rfl, rfl⟩
  have hread := scanLoad_onlyCounts ht r l.addr.toNat
  obtain ⟨hregt, hroutert⟩ := hreg
  dsimp only
  rw [finishLoad, hregt, hl]
  dsimp only
  rw [hrun, if_neg (by decide), hread, hscan]
  dsimp only
  by_cases h0 : st = 0
  · subst h0
    rw [if_pos rfl]
    obtain ⟨hregs, hactive, hidle, hbudget⟩ := storeLoad_stores (scanLoad_ok hscan)
      (modReg t r fun x => { x with load := some { l with running := false, committed := true }, routeStatus := 0 })
    have hr : ∀ c : CoreId, routerOf (modReg t r fun x => { x with load := some { l with running := false, committed := true }, routeStatus := 0 }) c
        = routerOf s c := fun c => congrArg (tget Router.reset · c.val) hroutert
    rw [regOf, hregs]
    refine ⟨congrArg Region.routeStatus (regOf_modReg_same ..), fun h => absurd rfl h,
      fun _ => ⟨congrArg Region.load (regOf_modReg_same ..), fun c => ⟨?_, ?_, hbudget c⟩⟩⟩
    · rw [hactive, hr]
    · rw [hidle, hr]
  · rw [if_neg h0, regOf_modReg_same]
    exact ⟨rfl, fun _ => ⟨rfl, hroutert⟩, fun h => absurd h h0⟩

omit hscan in
theorem routeLoadDone_finishes {ecc : SectorEcc} (hecc : ecc.bad = [])
    (hg : scanLen s r l.addr.toNat = 0 ∨
      granted s (rangeReady s (256 + loadDie s r) r (loadDie s r) l.addr.toNat (scanLen s r l.addr.toNat)) = true) :
    ∃ t, OnlyCounts s t ∧ exec (.routeLoadDone ⟨r, ecc⟩) s = .next (finishLoad r t) := by
  obtain ⟨k, hk⟩ : ∃ k, readImage r l.addr.toNat ecc s = { s with counters := k } := eccRead_counts _ _ hecc s
  have hcounts : OnlyCounts s { s with counters := k } := ⟨_, _, _, _, rfl⟩
  have hlen : scanLen { s with counters := k } r l.addr.toNat = scanLen s r l.addr.toNat := scanLen_onlyCounts hcounts ..
  have hexec : ∀ u, (if scanLen s r l.addr.toNat = 0 then finishLoad r { s with counters := k }
      else if !granted s (rangeReady s (256 + loadDie s r) r (loadDie s r) l.addr.toNat (scanLen s r l.addr.toNat)) then s
      else finishLoad r (chargeRange r (loadDie s r) l.addr.toNat (scanLen s r l.addr.toNat) false { s with counters := k })) = u →
      exec (.routeLoadDone ⟨r, ecc⟩) s = .next u := fun u hu => by
    refine congrArg Host.Outcome.next ?_
    dsimp only
    rw [hl]
    dsimp only
    rw [hk, hlen, hrun, if_neg (by decide)]
    exact hu
  by_cases h0 : scanLen s r l.addr.toNat = 0
  · exact ⟨_, hcounts, hexec _ (if_pos h0)⟩
  · have hgo := hg.resolve_left h0
    exact ⟨_, hcounts.trans (chargeRange_onlyCounts ..), hexec _ ((if_neg h0).trans (if_neg (by rw [hgo]; decide)))⟩
end

theorem modTh_budgetNext (s : State) (h : Hart) (f : Thread → Thread) (c : CoreId) :
    (coreOf (modTh s h f) c).budgetNext = (coreOf s c).budgetNext := by
  by_cases hc : h.core = c
  · rw [← hc, modTh, coreOf_modCore_same]
    rfl
  · exact congrArg Core.budgetNext (coreOf_modCore_other _ _ _ _ hc)

theorem routeLoad_port {h : Hart} {p : Fin 8} {d : Fin 32} {r : RegionId} {a : BitVec 40} {s : State}
    (hs : (scanLoad s r a.toNat).isSome = true) (hd : s.clock.phase ≠ .dusk) (hmon : monitors h p r s)
    (ha : (gReg (thread s h) d).toNat % 2 ^ 40 = a.toNat) :
    ∃ t, exec (.routeLoad (.port h p d)) s = .next t ∧ loadStarted r a s t ∧ thread t h = advPc 4 (thread s h) := by
  have haddr : BitVec.ofNat 40 (fld (gReg (thread s h) d) 0 40) = a := by
    rw [ofNat_fld_low]
    exact BitVec.eq_of_toNat_eq ((BitVec.toNat_setWidth ..).trans ha)
  have htake : takes (.routeLoad (.port h p d)) h (startLoad r (BitVec.ofNat 40 (fld (gReg (thread s h) d) 0 40))) s :=
    monitor_takes (x := 0x8060) (by decide) hmon rfl fun u hu => if_neg (monWrite_open hu)
  rw [haddr] at htake
  have hs' : (scanLoad (rotate h s) r a.toNat).isSome = true := by rw [scanLoad_onlyCounts (rotate_onlyCounts h s)]; exact hs
  obtain ⟨⟨hload, hnext, hcores⟩, hth⟩ := startLoad_started hs' hd
  refine ⟨_, htake, ⟨hload, hnext, fun c hc => ?_⟩, ?_⟩
  · obtain ⟨hbudget, hidle, hactive⟩ := hcores c hc
    exact ⟨(modTh_budgetNext ..).trans hbudget, hidle, hactive⟩
  · rw [thread_modTh_same, hth, rotate_thread]

/-- Settles O42: an image reads alike wherever cores, counters and what has been served alone differ, and the tables that it
fills name each core once. -/
theorem routeLoadsFillTheInactiveBanks : Obligations.RouteLoadsFillTheInactiveBanks := by
  intro h p d r a l st acc ecc s hecc started
  refine ⟨fun hs hd => ⟨routeLoad_port hs hd, fun hc hv => ?_⟩, fun hs hc hv => ?_, fun hl hrun hscan hg => ?_⟩
  · refine ⟨_, congrArg Host.Outcome.next ((operatorCmd_commands hc _).trans (if_pos hv)), ?_⟩
    obtain ⟨hstart, -⟩ := startLoad_started hs hd
    exact hstart
  · refine ⟨_, congrArg Host.Outcome.next ((operatorCmd_commands hc _).trans (if_pos hv)), ?_⟩
    exact startLoad_rejects hs
  · obtain ⟨t, ht, hexec⟩ := routeLoadDone_finishes hl hrun hecc hg
    exact ⟨_, hexec, finishLoad_ends hl hrun hscan ht⟩

end Sys2Proof.Machine

/-!
SUPPORT. Landings: what a payload leaves in local memory, and the first and later flits of a message (R285–R287, R222).
-/
namespace Sys2Proof.Machine
open Sys2Proof Sys2Proof.Safety

/-! ### Words in bytes -/

theorem bytesNat_natBytes (n : Nat) : ∀ x, bytesNat (natBytes n x) = x % 256 ^ n := by
  induction n with
  | zero => exact fun x => (Nat.mod_one x).symm
  | succ n ih =>
    intro x
    rw [natBytes, bytesNat, ih, Nat.pow_succ', Nat.mod_mul, BitVec.toNat_ofNat]

theorem mread_mwrite {m : Mem} (hm : Mem.wf m = true) (a : Nat) (bs : List Byte) : mread (mwrite m a bs) a bs.length = bs := by
  rw [mread_eq]
  refine List.ext_getElem (by simp) fun i hi hi' => ?_
  rw [List.getElem_map, List.getElem_range', Nat.one_mul]
  exact mget_mwrite_inside bs m a i hm hi'

theorem mread_congr {m m' : Mem} {a n : Nat} (h : ∀ x, a ≤ x → x < a + n → mget m x = mget m' x) : mread m a n = mread m' a n := by
  rw [mread_eq, mread_eq]
  refine List.map_congr_left fun x hx => ?_
  obtain ⟨hlo, hhi⟩ := List.mem_range'_1.1 hx
  exact h x hlo hhi

/-! ### One word (R236) -/

theorem memPut_mem (c : Core) (a : Nat) (bs : List Byte) (b k : Bool) : (memPut c a bs b k).mem = mwrite c.mem a bs :=
  List.foldlRecOn (motive := fun x : Core => x.mem = mwrite c.mem a bs) _ _ rfl fun _ hx _ _ => hx

theorem putWord_mem (c : Core) (a : Nat) (w : PWord) (b k : Bool) : (putWord c a w b k).mem = mwrite c.mem a (natBytes 8 w.data.toNat) := by
  cases k
  · exact memPut_mem ..
  · exact memPut_mem c a (natBytes 8 w.data.toNat) (w.poison || b) false

theorem putWord_poison (c : Core) {a : Nat} (ha : a % 8 = 0) (w : PWord) (k : Bool) (x : Nat) :
    x ∈ (putWord c a w false k).poison ↔ if x = a / 8 then w.poison = true else x ∈ c.poison := by
  have hwords : wordsOf a (natBytes 8 w.data.toNat).length = [a / 8] := by
    rw [natBytes_length, wordsOf, show (a + 8 - 1) / 8 + 1 - a / 8 = 1 by omega]
    rfl
  have hput : x ∈ (memPut c a (natBytes 8 w.data.toNat) (w.poison || false) false).poison ↔
      if x = a / 8 then w.poison = true else x ∈ c.poison := by
    rw [memPut, hwords, List.foldl_cons, List.foldl_nil, markWord]
    dsimp only
    rw [natBytes_length, if_pos (show a ≤ 8 * (a / 8) ∧ 8 * (a / 8) + 8 ≤ a + 8 by omega), Bool.or_false]
    by_cases hx : x = a / 8
    · cases hw : w.poison <;> simp [hx, mem_sins, mem_sdel]
    · cases hw : w.poison <;> simp [hx, mem_sins, mem_sdel]
  cases k
  · exact hput
  · exact hput

/-! ### A payload (R286) -/

theorem putWords_outside (spec b : Bool) (ws : List PWord) (a : Nat) (c : Core) {x : Nat} (hx : x < a ∨ a + 8 * ws.length ≤ x) :
    mget (putWords spec b a ws c).mem x = mget c.mem x := by
  induction ws generalizing a c with
  | nil => rfl
  | cons w ws ih =>
    rw [List.length_cons] at hx
    rw [putWords, ih _ _ (by omega), putWord_mem, mget_mwrite_outside _ _ _ _ (by rw [natBytes_length]; omega)]

theorem putWords_poison_before (spec : Bool) (ws : List PWord) {a : Nat} (ha : a % 8 = 0) (c : Core) {x : Nat} (hx : x < a / 8) :
    x ∈ (putWords spec false a ws c).poison ↔ x ∈ c.poison := by
  induction ws generalizing a c with
  | nil => rfl
  | cons w ws ih => rw [putWords, ih (by omega) _ (by omega), putWord_poison c ha, if_neg (by omega)]

theorem putWord_wf {c : Core} (hm : Mem.wf c.mem = true) (a : Nat) (w : PWord) (b k : Bool) : Mem.wf (putWord c a w b k).mem = true := by
  rw [putWord_mem]
  exact mwrite_wf _ _ _ hm

theorem putWords_inside (spec : Bool) (ws : List PWord) {a : Nat} (ha : a % 8 = 0) {c : Core} (hm : Mem.wf c.mem = true) {j : Nat}
    (hj : j < ws.length) : mread (putWords spec false a ws c).mem (a + 8 * j) 8 = natBytes 8 ws[j].data.toNat
      ∧ (a / 8 + j ∈ (putWords spec false a ws c).poison ↔ ws[j].poison = true) := by
  induction ws generalizing a c j with
  | nil => exact absurd hj (Nat.not_lt_zero j)
  | cons w ws ih =>
    rw [putWords]
    cases j with
    | zero =>
      refine ⟨?_, ?_⟩
      · have hread : mread (putWords spec false (a + 8) ws (putWord c a w false spec)).mem a 8
            = mread (putWord c a w false spec).mem a 8 := mread_congr fun x hlo hhi => putWords_outside _ _ _ _ _ (.inl hhi)
        have hword := mread_mwrite hm a (natBytes 8 w.data.toNat)
        rw [natBytes_length] at hword
        exact hread.trans ((congrArg (mread · a 8) (putWord_mem c a w false spec)).trans hword)
      · rw [putWords_poison_before spec ws (by omega) _ (by omega), putWord_poison c ha, if_pos (Nat.add_zero _)]
        rfl
    | succ j =>
      obtain ⟨hread, hmark⟩ := ih (a := a + 8) (by omega) (putWord_wf hm a w false spec) (Nat.lt_of_succ_lt_succ hj)
      rw [show a + 8 + 8 * j = a + 8 * (j + 1) by omega] at hread
      rw [show (a + 8) / 8 + j = a / 8 + (j + 1) by omega] at hmark
      exact ⟨hread, hmark⟩

end Sys2Proof.Machine

/-! What has landed is written in the obligations' own name, which the model's namespace hides. -/
section
open Sys2Proof Sys2Proof.Machine

theorem stored_mread (c : Core) (a n : Nat) : stored c a n = bytesNat (mread c.mem a n) := by
  rw [mread_eq, bytesNat_map_range']
  rfl

theorem landed_putFlit {c : Core} (hm : Mem.wf c.mem = true) (hd : Header) (f : Flit) :
    landed c (putFlit hd false c f) (hLaddr hd + 64 * f.index) f := by
  have ha : (hLaddr hd + 64 * f.index) % 8 = 0 := by unfold hLaddr; omega
  refine ⟨fun j hj => ?_, fun x hx => putWords_outside _ _ _ _ _ hx⟩
  obtain ⟨hread, hmark⟩ := putWords_inside f.group.isSome f.words ha hm hj
  refine ⟨?_, hmark⟩
  have hlt := (f.words[j]).data.isLt
  rw [stored_mread, putFlit, hread, bytesNat_natBytes]
  exact Nat.mod_eq_of_lt hlt

/-- What has landed is seen in the bytes and marks alone. -/
theorem landed_congr {c d t u : Core} {a : Nat} {f : Flit} (hc : c.mem = d.mem) (hm : t.mem = u.mem) (hp : t.poison = u.poison)
    (h : landed d u a f) : landed c t a f := by
  obtain ⟨hin, hout⟩ := h
  refine ⟨fun j hj => ?_, fun x hx => ?_⟩
  · obtain ⟨hword, hmark⟩ := hin j hj
    rw [hp]
    rw [stored_mread] at hword ⊢
    rw [hm]
    exact ⟨hword, hmark⟩
  · rw [hm, hc]
    exact hout x hx

end

namespace Sys2Proof.Machine
open Sys2Proof Sys2Proof.Safety

/-! ### What a landing leaves alone -/

/-- `d` is `c` but for local memory and its marks. -/
def OnlyMem (c d : Core) : Prop := ∃ m p k, d = { c with mem := m, poison := p, specMark := k }

theorem putWord_onlyMem (c : Core) (a : Nat) (w : PWord) (b k : Bool) : OnlyMem c (putWord c a w b k) := by
  have hput : OnlyMem c (memPut c a (natBytes 8 w.data.toNat) (w.poison || b) false) :=
    List.foldlRecOn (motive := OnlyMem c) _ _ ⟨_, _, _, rfl⟩ fun d hd x _ => by
      obtain ⟨m, p, k, rfl⟩ := hd
      exact ⟨_, _, _, rfl⟩
  obtain ⟨m, p, l, hput⟩ := hput
  rw [putWord, hput]
  cases k
  · exact ⟨_, _, _, rfl⟩
  · exact ⟨_, _, _, rfl⟩

theorem putWords_onlyMem (spec b : Bool) (ws : List PWord) (a : Nat) (c : Core) : OnlyMem c (putWords spec b a ws c) := by
  induction ws generalizing a c with
  | nil => exact ⟨_, _, _, rfl⟩
  | cons w ws ih =>
    obtain ⟨m, p, k, hput⟩ := putWord_onlyMem c a w b spec
    obtain ⟨m', p', k', hrest⟩ := ih (a + 8) (putWord c a w b spec)
    rw [putWords, hrest, hput]
    exact ⟨_, _, _, rfl⟩

theorem putFlit_onlyMem (hd : Header) (b : Bool) (c : Core) (f : Flit) : OnlyMem c (putFlit hd b c f) := putWords_onlyMem ..

/-- The entry of a message whose first flit has landed. -/
def firstLanded (f : Flit) (queue : Option (Fin 5)) : LandMsg :=
  ⟨f.mid, f.header, f.source, 1, f.last, queue, hPoison f.header, false, false, [], 0⟩

/-- A message that is no held tail write is written at once. -/
theorem beginLand_open {core : CoreId} {f : Flit} {queue : Option (Fin 5)} {s : State}
    (ht : (hTail f.header && hHeld f.header) = false) : beginLand core f queue s
      = setCore s core (bindGroup f { putFlit f.header false (coreOf s core) f with
          landing := (putFlit f.header false (coreOf s core) f).landing ++ [firstLanded f queue] }) := by
  rw [beginLand, ht]
  rfl

/-- The entry of a message another flit of which has landed. -/
def nextLanded (f : Flit) (m : LandMsg) : LandMsg :=
  { m with landed := m.landed + 1, complete := m.complete || (f.last && decide (m.landed = f.index))
           poison := m.poison || hPoison f.header }

theorem landFlit_open {f : Flit} {m : LandMsg} {c : Core} (hh : m.held = false) :
    landFlit f m c = putLand (putFlit m.header m.expired (bindGroup f c) f) (nextLanded f m) := by
  have hif : landFlit f m c = if (nextLanded f m).held
      then putLand (bindGroup f c) { nextLanded f m with kept := (nextLanded f m).kept ++ [f] }
      else putLand (putFlit m.header m.expired (bindGroup f c) f) (nextLanded f m) := rfl
  have hheld : (nextLanded f m).held = false := hh
  rw [hif, hheld, if_neg (by decide)]

theorem refuseGroup_counts (core : CoreId) (f : Flit) (s : State) :
    tget 0 (refuseGroup core f s).counters (ctrDie (dieOf core) 7) = satAdd (tget 0 s.counters (ctrDie (dieOf core) 7)) 1 := by
  simp only [refuseGroup, streamConflict, noteCore, logItem_counters]
  exact tget_tset_same ..

theorem dropLanding_cores (core : CoreId) (src : SourceWord) (k n : Nat) (s : State) :
    (dropLanding core src k n s).cores = s.cores := by
  unfold dropLanding
  split
  · exact logItem_cores ..
  · rfl

theorem dropLanding_counts (core : CoreId) (src : SourceWord) (k n : Nat) (s : State) :
    tget 0 (dropLanding core src k n s).counters (ctrDie (dieOf core) n) = satAdd (tget 0 s.counters (ctrDie (dieOf core) n)) 1 := by
  unfold dropLanding
  split
  · exact (congrArg (tget 0 · _) (logItem_counters ..)).trans (tget_tset_same ..)
  · exact tget_tset_same ..

/-! ### The first flit of a message (R285) -/

section
variable {core : CoreId} {f : Flit} {rest : List Flit} {s : State} (hin : (coreOf s core).inbox = f :: rest)

/-- The flit has left the landing unit's inbox. -/
def takeIn (core : CoreId) (rest : List Flit) (s : State) : State := setCore s core { coreOf s core with inbox := rest }

theorem takeIn_core (core : CoreId) (rest : List Flit) (s : State) :
    coreOf (takeIn core rest s) core = { coreOf s core with inbox := rest } := coreOf_setCore_same ..

theorem verdict_takeIn (core : CoreId) (rest : List Flit) (s : State) (hd : Header) :
    verdict (takeIn core rest s) core hd = verdict s core hd := by
  have hmem : (coreOf (takeIn core rest s) core).mem = (coreOf s core).mem := by rw [takeIn_core]
  unfold verdict
  dsimp only
  rw [hmem]
  rfl

include hin

theorem messageLanding_eq (h0 : f.index = 0) : exec (.messageLanding core) s
    = .next (match verdict s core f.header with
      | .drop check counter => dropLanding core f.source check counter (takeIn core rest s)
      | .accept q => if (conflicts (coreOf s core) f).isSome then refuseGroup core f (takeIn core rest s)
        else beginLand core f q (takeIn core rest s)) := by
  refine congrArg Host.Outcome.next ?_
  dsimp only
  rw [hin]
  dsimp only
  rw [if_neg (not_not.2 h0)]
  change (match verdict (takeIn core rest s) core f.header with
      | .drop check counter => dropLanding core f.source check counter (takeIn core rest s)
      | .accept q => match conflicts (coreOf s core) f with
        | some _ => refuseGroup core f (takeIn core rest s)
        | none => beginLand core f q (takeIn core rest s)) = _
  rw [verdict_takeIn]
  cases verdict s core f.header with
  | drop check counter => rfl
  | accept q => cases conflicts (coreOf s core) f <;> rfl

theorem messageLanding_lands (h0 : f.index = 0) {q : Option (Fin 5)} (hv : verdict s core f.header = .accept q)
    (hc : conflicts (coreOf s core) f = none) (ht : (hTail f.header && hHeld f.header) = false)
    (hm : (coreOf s core).mem.wf = true) :
    ∃ t, exec (.messageLanding core) s = .next t ∧ (coreOf t core).inbox = rest
      ∧ landed (coreOf s core) (coreOf t core) (hLaddr f.header) f
      ∧ ∃ x, (coreOf t core).landing = (coreOf s core).landing ++ [x] ∧ x.mid = f.mid ∧ x.header = f.header ∧ x.landed = 1
        ∧ x.complete = f.last ∧ x.queue = q ∧ x.held = false := by
  have hexec := messageLanding_eq hin h0
  rw [hv] at hexec
  dsimp only at hexec
  rw [hc, if_neg (by decide), beginLand_open ht, takeIn_core] at hexec
  refine ⟨_, hexec, ?_⟩
  rw [coreOf_setCore_same]
  have hwrite := landed_putFlit (c := { coreOf s core with inbox := rest }) hm f.header f
  obtain ⟨mem, poison, mark, hput⟩ := putFlit_onlyMem f.header false { coreOf s core with inbox := rest } f
  rw [h0, hput] at hwrite
  rw [hput]
  exact ⟨rfl, landed_congr rfl rfl rfl hwrite, _, rfl, rfl, rfl, rfl, rfl, rfl, rfl⟩

theorem messageLanding_refused (h0 : f.index = 0) {q : Option (Fin 5)} (hv : verdict s core f.header = .accept q)
    (hc : (conflicts (coreOf s core) f).isSome = true) :
    ∃ t, exec (.messageLanding core) s = .next t ∧ coreOf t core = { coreOf s core with inbox := rest }
      ∧ tget 0 t.counters (ctrDie (dieOf core) 7) = satAdd (tget 0 s.counters (ctrDie (dieOf core) 7)) 1 := by
  have hexec := messageLanding_eq hin h0
  rw [hv] at hexec
  dsimp only at hexec
  rw [if_pos hc] at hexec
  refine ⟨_, hexec, ?_, refuseGroup_counts ..⟩
  rw [coreOf, refuseGroup_cores]
  exact takeIn_core ..

theorem messageLanding_drops (h0 : f.index = 0) {k n : Nat} (hv : verdict s core f.header = .drop k n) :
    ∃ t, exec (.messageLanding core) s = .next t ∧ coreOf t core = { coreOf s core with inbox := rest }
      ∧ tget 0 t.counters (ctrDie (dieOf core) n) = satAdd (tget 0 s.counters (ctrDie (dieOf core) n)) 1 := by
  have hexec := messageLanding_eq hin h0
  rw [hv] at hexec
  refine ⟨_, hexec, ?_, dropLanding_counts ..⟩
  rw [coreOf, dropLanding_cores]
  exact takeIn_core ..

/-! ### Later flits (R286) -/

variable (h0 : f.index ≠ 0)
include h0

theorem landingFlit_eq : exec (.landingFlit core) s
    = .next (match (coreOf s core).landing.find? fun m => decide (m.mid = f.mid) with
      | some m => if (conflicts (coreOf s core) f).isSome then refuseRest core m.mid f (takeIn core rest s)
        else setCore s core (landFlit f m { coreOf s core with inbox := rest })
      | none => takeIn core rest s) := by
  refine congrArg Host.Outcome.next ?_
  dsimp only
  rw [hin]
  dsimp only
  rw [if_neg h0]
  rfl

theorem landingFlit_unknown (hf : (coreOf s core).landing.find? (fun x => decide (x.mid = f.mid)) = none) :
    exec (.landingFlit core) s = .next (modCore s core fun c => { c with inbox := rest }) := by
  rw [landingFlit_eq hin h0, hf]
  rfl

variable {m : LandMsg} (hf : (coreOf s core).landing.find? (fun x => decide (x.mid = f.mid)) = some m)
include hf

theorem landingFlit_lands (hh : m.held = false) (he : m.expired = false) (hd : m.header = f.header)
    (hc : conflicts (coreOf s core) f = none) (hm : (coreOf s core).mem.wf = true) :
    ∃ t, exec (.landingFlit core) s = .next t ∧ (coreOf t core).inbox = rest
      ∧ landed (coreOf s core) (coreOf t core) (hLaddr f.header + 64 * f.index) f := by
  have hexec := landingFlit_eq hin h0
  rw [hf] at hexec
  dsimp only at hexec
  rw [hc, if_neg (by decide)] at hexec
  refine ⟨_, hexec, ?_⟩
  rw [coreOf_setCore_same, landFlit_open hh, he, hd]
  have hwrite := landed_putFlit (c := bindGroup f { coreOf s core with inbox := rest }) hm f.header f
  obtain ⟨mem, poison, mark, hput⟩ := putFlit_onlyMem f.header false (bindGroup f { coreOf s core with inbox := rest }) f
  rw [hput] at hwrite ⊢
  exact ⟨rfl, landed_congr rfl rfl rfl hwrite⟩

theorem landingFlit_refused (hc : (conflicts (coreOf s core) f).isSome = true) :
    ∃ t, exec (.landingFlit core) s = .next t
      ∧ coreOf t core = { coreOf s core with
          inbox := rest, landing := (coreOf s core).landing.filter fun x => decide (x.mid ≠ m.mid) }
      ∧ tget 0 t.counters (ctrDie (dieOf core) 7) = satAdd (tget 0 s.counters (ctrDie (dieOf core) 7)) 1 := by
  have hexec := landingFlit_eq hin h0
  rw [hf] at hexec
  dsimp only at hexec
  rw [if_pos hc] at hexec
  refine ⟨_, hexec, ?_, refuseGroup_counts ..⟩
  rw [refuseRest_core, takeIn_core]

end

end Sys2Proof.Machine

/-!
SUPPORT. The completion of a landed message: its notice, its signal and its hold counter (R286, R289, R297).
-/
namespace Sys2Proof.Machine
open Sys2Proof Sys2Proof.Safety

/-! ### What a notice leaves alone (R289) -/

/-- What of a core neither a notice nor an event touches. -/
def landState (c : Core) : List LandMsg × (Tab (BitVec 12) × Tab (BitVec 12)) × Bool := (c.landing, holdsOf c, c.isolated)

theorem modTh_landState (s : State) (h : Hart) (f : Thread → Thread) :
    landState (coreOf (modTh s h f) h.core) = landState (coreOf s h.core) := by
  rw [modTh, coreOf_modCore_same]
  rfl

theorem memPut_landState (c : Core) (a : Nat) (bs : List Byte) (b k : Bool) : landState (memPut c a bs b k) = landState c :=
  List.foldlRecOn (motive := fun x : Core => landState x = landState c) _ _ rfl fun _ hx _ _ => hx

theorem enqueue_landState {c x : Core} {q : Nat} {lo hi : Word} (h : enqueue c q lo hi = some x) : landState x = landState c := by
  unfold enqueue at h
  split at h
  · obtain rfl := Option.some.inj h
    rfl
  · split at h
    · cases h
    next i _ =>
      obtain rfl := Option.some.inj h
      exact memPut_landState c (16 * i) (wordsBytes [lo, hi]) false false

/-- `t` has the flag updates and the cell tables of `s`, and the core's landing unit is as it was. -/
def SameLanding (core : CoreId) (s t : State) : Prop :=
  landState (coreOf t core) = landState (coreOf s core) ∧ t.flight = s.flight ∧ t.cells = s.cells ∧ t.badReplicas = s.badReplicas

theorem noteE5_sameLanding (h : Hart) (cause : BitVec 8) (pc : BitVec 17) (info : Word) (s : State) :
    SameLanding h.core s (noteE5 h cause pc info s) := by
  unfold noteE5 raiseEvent
  split
  · exact ⟨modTh_landState .., rfl, rfl, rfl⟩
  · exact ⟨(modTh_landState ..).trans (modTh_landState ..), rfl, rfl, rfl⟩

theorem postNotice_sameLanding (c : CoreId) (q e : Nat) (lo hi : Word) (s : State) : SameLanding c s (postNotice c q e lo hi s) := by
  unfold postNotice
  split
  next x hx =>
    refine ⟨(modTh_landState (setCore s c x) (queueOwner c q) _).trans ?_, rfl, rfl, rfl⟩
    change landState (coreOf (setCore s c x) c) = _
    rw [coreOf_setCore_same]
    exact enqueue_landState hx
  · obtain ⟨hcore, hflight, hcells, hbad⟩ := noteE5_sameLanding (queueOwner c q) 0x27 0 (BitVec.ofNat 64 q)
      (logCore c (queueOwner c q).thread 0x27 (BitVec.ofNat 64 (fld lo 0 30)) (count s (ctrDie (dieOf c) 4) 1))
    refine ⟨hcore.trans ?_, hflight.trans (logItem_flight ..), hcells.trans (logItem_cells ..), hbad.trans (logItem_badReplicas ..)⟩
    change landState (coreOf (logCore c _ _ _ _) c) = _
    rw [logCore_core]
    rfl

/-- A notice whose queue has room stands at its end, and its event is raised. -/
theorem postNotice_posts {c : CoreId} {q e : Nat} {lo hi : Word} {s : State} (he : e < 8)
    (h : (ownPlace (coreOf s c) q).isSome = true) :
    (∃ p, (nqOf (coreOf (postNotice c q e lo hi s) c) q).items = (nqOf (coreOf s c) q).items ++ [⟨lo, hi, p⟩])
    ∧ (thread (postNotice c q e lo hi s) (queueOwner c q)).evPending.getLsbD e = true := by
  obtain ⟨p, x, hp, hpost⟩ := postNotice_room (e := e) (lo := lo) (hi := hi) h
  rw [hpost]
  refine ⟨⟨p, ?_⟩, ?_⟩
  · have hnq : nqOf (coreOf (raiseEvent (queueOwner c q) e (setCore s c (setNq (coreOf s c) q
        { x with items := x.items ++ [⟨lo, hi, p⟩] }))) c) q = { x with items := x.items ++ [⟨lo, hi, p⟩] } := by
      rw [raiseEvent, modTh]
      change nqOf (coreOf (modCore _ c _) c) q = _
      rw [coreOf_modCore_same, coreOf_setCore_same]
      exact tget_tset_same ..
    rw [hnq, ← ownPlace_items hp]
  · rw [raiseEvent, thread_modTh_same, BitVec.getLsbD_or, Bool.or_eq_true]
    right
    interval_cases e <;> rfl

/-! ### The end of a message (R286) -/

/-- The message has left the landing unit, and its hold counter counts it. -/
def leaveLanding (core : CoreId) (m : LandMsg) (s : State) : State :=
  let s := modCore s core fun c => { c with landing := c.landing.filter fun x => decide (x.mid ≠ m.mid) }
  if hHeld m.header && !hTail m.header then
    modCore s core fun c => setHold c m.header m.source (holdOf c m.header m.source + 1) else s

/-- The notice of a message, where it asks for one. -/
def postLanded (core : CoreId) (m : LandMsg) (s : State) : State :=
  match m.queue with
  | some q => postNotice core q.val (if hHandler m.header = 0 then 7 else 0) (noticeLo m.header m.source m.poison) (noticeHi m.header) s
  | none => s

theorem completeLand_eq (core : CoreId) (m : LandMsg) (s : State) :
    completeLand core m s = portLanded core m (sendSig core m.header (postLanded core m (leaveLanding core m s))) := by
  unfold completeLand postLanded
  cases m.queue <;> rfl

theorem leaveLanding_core (core : CoreId) (m : LandMsg) (s : State) :
    (coreOf (leaveLanding core m s) core).landing = (coreOf s core).landing.filter (fun x => decide (x.mid ≠ m.mid))
    ∧ holdOf (coreOf (leaveLanding core m s) core) m.header m.source = holdOf (coreOf s core) m.header m.source
        + (if hHeld m.header && !hTail m.header then 1 else 0)
    ∧ (coreOf (leaveLanding core m s) core).notices = (coreOf s core).notices
    ∧ (coreOf (leaveLanding core m s) core).isolated = (coreOf s core).isolated := by
  have hset : ∀ (c : Core) v, (setHold c m.header m.source v).landing = c.landing ∧ (setHold c m.header m.source v).notices = c.notices
      ∧ (setHold c m.header m.source v).isolated = c.isolated := fun c v => by
    unfold setHold
    split
    · exact ⟨rfl, rfl, rfl⟩
    · exact ⟨rfl, rfl, rfl⟩
  unfold leaveLanding
  dsimp only
  by_cases h : (hHeld m.header && !hTail m.header) = true
  · rw [if_pos h, if_pos h, coreOf_modCore_same, coreOf_modCore_same]
    obtain ⟨hland, hnotices, hiso⟩ := hset { coreOf s core with
      landing := (coreOf s core).landing.filter fun x => decide (x.mid ≠ m.mid) } (holdOf { coreOf s core with
      landing := (coreOf s core).landing.filter fun x => decide (x.mid ≠ m.mid) } m.header m.source + 1)
    exact ⟨hland, holdOf_setHold .., hnotices, hiso⟩
  · rw [if_neg h, if_neg h, coreOf_modCore_same]
    exact ⟨rfl, (BitVec.add_zero (x := holdOf (coreOf s core) m.header m.source)).symm, rfl, rfl⟩

theorem leaveLanding_rest (core : CoreId) (m : LandMsg) (s : State) : (leaveLanding core m s).flight = s.flight
    ∧ (leaveLanding core m s).cells = s.cells ∧ (leaveLanding core m s).badReplicas = s.badReplicas := by
  unfold leaveLanding
  dsimp only
  split
  · exact ⟨rfl, rfl, rfl⟩
  · exact ⟨rfl, rfl, rfl⟩

theorem ownPlace_congr {c d : Core} (h : c.notices = d.notices) (q : Nat) : ownPlace c q = ownPlace d q := by
  have hnq : ∀ k, nqOf c k = nqOf d k := fun k => congrArg (tget NoticeQ.reset · k) h
  simp only [ownPlace, poolUsed, hnq]

theorem postLanded_sameLanding (core : CoreId) (m : LandMsg) (s : State) : SameLanding core s (postLanded core m s) := by
  unfold postLanded
  split
  · exact postNotice_sameLanding ..
  · exact ⟨rfl, rfl, rfl, rfl⟩

theorem portLanded_rest (core : CoreId) (m : LandMsg) (s : State) :
    (portLanded core m s).cores = s.cores ∧ (portLanded core m s).flight = s.flight := by
  unfold portLanded
  split
  · exact ⟨rfl, rfl⟩
  · split
    · exact ⟨rfl, rfl⟩
    · exact ⟨rfl, rfl⟩

/-- A signal leaves for its bank; nothing passes an isolation gate (R305, R417). -/
theorem sendSig_sends (core : CoreId) (hd : Header) (s : State) :
    (sendSig core hd s).cores = s.cores
    ∧ (hSig hd = 0 ∨ (coreOf s core).isolated = true → (sendSig core hd s).flight = s.flight)
    ∧ (∀ d k, (coreOf s core).isolated = false → hSig hd = 1 →
        flagIn (replicaEntry s (dieOf core) (hCell hd)) (hSigIx hd) = some (d, k) →
        (sendSig core hd s).flight = s.flight ++ [⟨.landing core, d, .set k⟩])
    ∧ (∀ d k, (coreOf s core).isolated = false → hSig hd = 2 →
        ctrIn (replicaEntry s (dieOf core) (hCell hd)) (hSigIx hd) = some (d, k) →
        (sendSig core hd s).flight = s.flight ++ [⟨.landing core, d, .add k 1⟩]) := by
  unfold sendSig
  dsimp only
  refine ⟨?_, fun h => ?_, fun d k hi h1 hf => ?_, fun d k hi h2 hf => ?_⟩
  · cases (coreOf s core).isolated
    · split
      · rfl
      · split <;> rfl
      · split <;> rfl
    · split
      · rfl
      · split <;> rfl
      · split <;> rfl
  · obtain h0 | hi := h
    · rw [h0]
      rfl
    · rw [hi]
      split
      · rfl
      · split <;> rfl
      · split <;> rfl
  · rw [h1, hi]
    rw [hf]
    rfl
  · rw [h2, hi]
    rw [hf]
    rfl

theorem landingComplete_ends {core : CoreId} {m : LandMsg} {s : State}
    (hfind : (coreOf s core).landing.find? (fun m => m.complete && !m.held) = some m) :
    exec (.landingComplete core) s
      = .next (portLanded core m (sendSig core m.header (postLanded core m (leaveLanding core m s)))) := by
  refine congrArg Host.Outcome.next ?_
  rw [hfind, ← completeLand_eq]

/-- Settles O40: what lands is written word by word; a message that has landed whole leaves, and its notice and signal each
touch a part of the state of their own. -/
theorem messagesLandAndNotify : Obligations.MessagesLandAndNotify := by
  refine ⟨fun core f rest q k n m s => ?_, fun core m s hfind => ⟨_, landingComplete_ends hfind, ?_⟩⟩
  · intro c hin hm _
    exact ⟨fun h0 hv hc ht => messageLanding_lands hin h0 hv hc ht hm, fun h0 hv hc => messageLanding_refused hin h0 hv hc,
      fun h0 hv => messageLanding_drops hin h0 hv, fun h0 hf hh he hd => ⟨fun hc => landingFlit_lands hin h0 hf hh he hd hc hm,
        landingFlit_refused hin h0 hf⟩, landingFlit_unknown hin⟩
  obtain ⟨hland, hhold, hnotices, hiso⟩ := leaveLanding_core core m s
  obtain ⟨hflight, hcells, hbad⟩ := leaveLanding_rest core m s
  generalize leaveLanding core m s = u at hland hhold hnotices hiso hflight hcells hbad
  obtain ⟨hcore, hflight', hcells', hbad'⟩ := postLanded_sameLanding core m u
  obtain ⟨hland', hrest⟩ := Prod.mk.inj hcore
  obtain ⟨hholds, hiso'⟩ := Prod.mk.inj hrest
  have hposts : ∀ q : Fin 5, m.queue = some q → postLanded core m u = postNotice core q.val (if hHandler m.header = 0 then 7 else 0)
      (noticeLo m.header m.source m.poison) (noticeHi m.header) u := fun q hq => by rw [postLanded, hq]
  generalize postLanded core m u = v at hland' hholds hiso' hflight' hcells' hbad' hposts
  obtain ⟨hcores, hnone, hset, hadd⟩ := sendSig_sends core m.header v
  obtain ⟨hcores', hflights⟩ := portLanded_rest core m (sendSig core m.header v)
  have hreplica : replicaEntry v (dieOf core) (hCell m.header) = replicaEntry s (dieOf core) (hCell m.header) := by
    simp only [replicaEntry, cellEntry, hcells', hcells, hbad', hbad]
  have hc : ∀ k, coreOf (portLanded core m (sendSig core m.header v)) k = coreOf v k := fun k => by
    rw [coreOf, hcores', hcores]
    rfl
  rw [hiso', hiso, hflight', hflight] at hnone hset hadd
  rw [hreplica] at hset hadd
  rw [hc, hflights]
  refine ⟨hland'.trans hland, (holdOf_congr hholds ..).trans hhold, fun q hq hroom => ?_, hnone, hset, hadd⟩
  have he : (if hHandler m.header = 0 then 7 else 0) < 8 := by split <;> decide
  obtain ⟨⟨p, hp⟩, hev⟩ := postNotice_posts (lo := noticeLo m.header m.source m.poison) (hi := noticeHi m.header) he
    (show (ownPlace (coreOf u core) q.val).isSome = true by rw [ownPlace_congr hnotices]; exact hroom)
  rw [hposts q hq] at hc ⊢
  have hitems : (nqOf (coreOf u core) q.val).items = (nqOf (coreOf s core) q.val).items := by rw [nqOf, nqOf, hnotices]
  refine ⟨⟨p, hp.trans (by rw [hitems])⟩, ?_⟩
  rw [thread, hc]
  exact hev

end Sys2Proof.Machine

/-!
SUPPORT. A committed deferred fault that is taken in the middle of a `TLD` puts the `TLD` back to its row 0 (R169, R170).
-/
namespace Sys2Proof.Machine
open Sys2Proof Sys2Proof.Safety

/-- A ready thread with a deferred fault of a committed group. -/
def lateThread : Thread := { Thread.reset with run := .ready, deferredFault := some ⟨0x04, 0, 0, false⟩ }

/-- That thread on core 0, the one core of region 1, in Noon, at a `TLD` of which row 0 has moved. -/
def midTile : State :=
  { State.reset with
    clock := { State.reset.clock with phase := .noon }
    cells := [(1, BitVec.ofNat 128 7)]
    regions := [(1, { Region.reset with valid := true, cell := 1 })]
    cores := [(0, { Core.reset with threads := [(0, lateThread)], rowsAt := [(0, Instr.tld ⟨0, 0⟩ 0 0 0 0, 1)] })] }

theorem midTile_region : regionOf midTile 0 = some 1 := by decide +kernel

theorem midTile_enters : ∃ t, exec (.deferredFaultEntry ⟨0, 0⟩) midTile = .next t ∧ (coreOf t 0).rowsAt = [] := by
  refine ⟨takeDeferred ⟨0, 0⟩ ⟨0x04, 0, 0, false⟩ midTile, congrArg Host.Outcome.next ?_, rfl⟩
  have hstop : (match regionOf midTile 0 with | some r => (regOf midTile r).stopped | none => true) = false := by
    rw [midTile_region]
    rfl
  change (if !true || (match regionOf midTile 0 with | some r => (regOf midTile r).stopped | none => true) then _ else _) = _
  rw [hstop]
  rfl

/-- Refutes O46: the entry of a deferred fault also forgets the row that a `TLD` or `TST` of the thread has reached, which the
statement leaves as it was. -/
theorem not_shadowsAndDeferredFaultsResolve : ¬ Obligations.ShadowsAndDeferredFaultsResolve := by
  rintro ⟨-, -, -, hentry⟩
  obtain ⟨t, ht, hrows⟩ := midTile_enters
  have hsame := (hentry ⟨0, 0⟩ ⟨0x04, 0, 0, false⟩ 1 midTile rfl rfl midTile_region rfl rfl).1 rfl rfl
  rw [ht] at hsame
  obtain rfl := Host.Outcome.next.inj hsame
  exact absurd (congrArg List.length hrows) (by decide)

end Sys2Proof.Machine

/-!
SUPPORT. What a host's writes to BAR0 and to the configuration space do to the function, and what a function's reset leaves
(R10, R312, R317, R321, R432, R453–R456).
-/
namespace Sys2Proof.Machine
open Sys2Proof Sys2Proof.Safety

/-! ### The functions' table -/

@[simp] theorem fnOf_setFn (s : State) (fn : FnId) (x : HostFn) : fnOf (setFn s fn x) fn = x := tget_tset_same ..

/-- A write of a function leaves the functions of other keys. -/
theorem fnOf_modFn_other {s : State} {fn g : FnId} {f : HostFn → HostFn} (h : fnKey g ≠ fnKey fn) :
    fnOf (modFn s fn f) g = fnOf s g := tget_tset_other _ _ _ _ _ (Ne.symm h)

@[simp] theorem fnOf_storeReg (fn : FnId) (off mask : Nat) (v : BitVec 32) (s : State) :
    fnOf (storeReg fn off mask v s) fn = setFnReg (fnOf s fn) off (v &&& BitVec.ofNat 32 mask) := fnOf_modFn ..

@[simp] theorem fnReg_setFnReg (f : HostFn) (off : Nat) (v : BitVec 32) : fnReg (setFnReg f off v) off = v :=
  tget_tset_same ..

@[simp] theorem configOf_setConfig (f : HostFn) (off : Nat) (v : BitVec 32) : configOf (setConfig f off v) off = v :=
  tget_tset_same ..

@[simp] theorem fnOf_writeRecord (fn : FnId) (off v : Nat) (s : State) : fnOf (writeRecord fn off v s) fn = fnOf s fn := by
  unfold writeRecord
  dsimp only
  split <;> rfl

/-- A function whose host is up hears a write, and one whose host is not hears none. -/
theorem fromHost_up {fn : FnId} {s : State} (f : State → State) (h : hostUp s fn.link = true) : fromHost fn f s = f s := if_pos h

theorem fromHost_down {fn : FnId} {s : State} (f : State → State) (h : hostUp s fn.link = false) : fromHost fn f s = s :=
  if_neg (by rw [h]; decide)

/-! ### Registers -/

/-- A submission ring's control register is behind the lock. -/
theorem writeReg_sq {fn : FnId} {s : State} (k : Fin 16) (v : BitVec 32) :
    writeReg fn (sqBase k.val + 0x18) v s = if (fnOf s fn).lock then s else writeRingCtrl fn k.val v s := by
  have hk := k.isLt
  have hq : (sqBase k.val + 0x18 - 0x1000) / 32 = k.val := by unfold sqBase; omega
  have hr : (sqBase k.val + 0x18) % 32 = 0x18 := by unfold sqBase; omega
  have hb : sqBase k.val = 0x1000 + 32 * k.val := rfl
  unfold writeReg
  rw [if_neg (by omega), if_neg (by omega)]
  split
  · rfl
  · rw [if_neg (by omega), if_neg (by omega), if_pos (by omega), hq, hr]
    rfl

/-- A completion ring's size register is behind the lock. -/
theorem writeReg_cq {fn : FnId} {s : State} (k : Fin 16) (v : BitVec 32) :
    writeReg fn (cqBase k.val + 0x10) v s = if (fnOf s fn).lock then s else writeCqSize fn k.val v s := by
  have hk := k.isLt
  have hq : (cqBase k.val + 0x10 - 0x1400) / 32 = k.val := by unfold cqBase; omega
  have hr : (cqBase k.val + 0x10) % 32 = 0x10 := by unfold cqBase; omega
  have hb : cqBase k.val = 0x1400 + 32 * k.val := rfl
  unfold writeReg
  rw [if_neg (by omega), if_neg (by omega)]
  split
  · rfl
  · rw [if_neg (by omega), if_neg (by omega), if_neg (by omega), if_pos (by omega), hq, hr]
    rfl

/-- A submission ring that is enabled keeps the writable bits of its control register and starts at index 0 (R455). -/
theorem writeRingCtrl_starts {fn : FnId} {k : Nat} {v : BitVec 32} {s : State} (hoff : sqEnabled (fnOf s fn) k = false)
    (hv : v.getLsbD 0 = true) :
    fnReg (fnOf (writeRingCtrl fn k v s) fn) (sqBase k + 0x18) = v &&& 0xF1 ∧
    (sqOf (fnOf (writeRingCtrl fn k v s) fn) k).head = 0 ∧ (sqOf (fnOf (writeRingCtrl fn k v s) fn) k).tail = 0 := by
  have hw : writeRingCtrl fn k v s = startSq fn k (storeReg fn (sqBase k + 0x18) 0xF1 v s) := by
    unfold writeRingCtrl
    dsimp only
    rw [if_neg (by rw [hoff]; decide)]
    exact if_pos hv
  rw [hw]
  unfold startSq
  rw [fnOf_writeRecord, fnOf_modFn, fnOf_storeReg]
  exact ⟨fnReg_setFnReg .., congrArg SqRing.head (tget_tset_same ..), congrArg SqRing.tail (tget_tset_same ..)⟩

/-- A completion ring that is enabled keeps the writable bits of its size register and starts at index 0 (R455). -/
theorem writeCqSize_starts {fn : FnId} {k : Nat} {v : BitVec 32} {s : State} (hoff : cqEnabled (fnOf s fn) k = false)
    (hv : v.getLsbD 8 = true) (hsize : sizeOk v = true) :
    fnReg (fnOf (writeCqSize fn k v s) fn) (cqBase k + 0x10) = v &&& 0x11F ∧
    cqOf (fnOf (writeCqSize fn k v s) fn) k = { CqRing.reset with due := (cqOf (fnOf s fn) k).due } := by
  have hw : writeCqSize fn k v s = startCq fn k (storeReg fn (cqBase k + 0x10) 0x11F v s) := by
    unfold writeCqSize
    dsimp only
    rw [if_neg (by rw [hoff]; decide), if_neg (by rw [hsize]; decide)]
    exact if_pos hv
  rw [hw]
  unfold startCq
  rw [fnOf_modFn, fnOf_storeReg]
  exact ⟨fnReg_setFnReg .., tget_tset_same ..⟩

/-- The fields of a control or size register's writable bits. -/
theorem ringFields (v : BitVec 32) :
    bit (v &&& 0xF1) 0 = v.getLsbD 0 ∧ fld (v &&& 0xF1) 4 4 = v.toNat / 16 % 16 ∧
    bit (v &&& 0x11F) 8 = v.getLsbD 8 ∧ fld (v &&& 0x11F) 0 5 = v.toNat % 32 := by
  have hfour : (v &&& 0xF1 : BitVec 32).toNat / 16 = v.toNat / 16 &&& 0xF := by
    rw [BitVec.toNat_and]
    exact Nat.and_div_two_pow (n := 4) ..
  refine ⟨by simp [bit], ?_, by simp [bit], ?_⟩
  · change (v &&& 0xF1 : BitVec 32).toNat / 16 % 16 = _
    rw [hfour, show (0xF : Nat) = 2 ^ 4 - 1 by rfl, Nat.and_two_pow_sub_one_eq_mod]
    omega
  · change (v &&& 0x11F : BitVec 32).toNat / 1 % 32 = _
    rw [Nat.div_one, BitVec.toNat_and]
    change (v.toNat &&& 0x11F) % 2 ^ 5 = _
    rw [Nat.and_mod_two_pow, show (0x11F % 2 ^ 5 : Nat) = 2 ^ 5 - 1 by rfl, Nat.and_two_pow_sub_one_eq_mod]
    omega

/-! ### The configuration space -/

theorem sum_four (g : Nat → Nat) : ((List.range 4).map g).sum = g 0 + (g 1 + (g 2 + g 3)) := by
  simp [List.range, List.range.loop]

/-- The four bytes of a word that a write merges. -/
def mergedByte (old v : BitVec 32) (en : BitVec 4) (i : Nat) : Nat := fld (if bit en i then v else old) (8 * i) 8

theorem mergeBytes_sum (old v : BitVec 32) (en : BitVec 4) : mergeBytes old v en
    = BitVec.ofNat 32 ((List.range 4).map fun i => mergedByte old v en i * 2 ^ (8 * i)).sum := by
  unfold mergeBytes mergedByte
  rfl

theorem toNat_ofNat_word (x : Nat) : (BitVec.ofNat 32 x).toNat = x % 4294967296 := by
  rw [BitVec.toNat_ofNat]

theorem sum_bytes (f : Nat → Nat) (h : ∀ i, f i < 256) :
    ((List.range 4).map fun i => f i * 2 ^ (8 * i)).sum % 4294967296 = f 0 + 256 * (f 1 + 256 * (f 2 + 256 * f 3)) := by
  have h0 := h 0
  have h1 := h 1
  have h2 := h 2
  have h3 := h 3
  rw [sum_four]
  omega

theorem mergeBytes_toNat (old v : BitVec 32) (en : BitVec 4) : (mergeBytes old v en).toNat
    = mergedByte old v en 0 + 256 * (mergedByte old v en 1 + 256 * (mergedByte old v en 2 + 256 * mergedByte old v en 3)) := by
  have hlt : ∀ i, mergedByte old v en i < 256 := by
    intro i
    unfold mergedByte fld
    exact Nat.mod_lt _ (by decide)
  exact (congrArg BitVec.toNat (mergeBytes_sum old v en)).trans ((toNat_ofNat_word _).trans (sum_bytes _ hlt))

/-- A write that enables the low byte takes it. -/
theorem mergeBytes_low {old v : BitVec 32} {en : BitVec 4} (h : en.getLsbD 0 = true) :
    (mergeBytes old v en).toNat % 4 = v.toNat % 4 := by
  have h0 : mergedByte old v en 0 = v.toNat / 2 ^ 0 % 2 ^ 8 := by
    unfold mergedByte
    rw [if_pos (show bit en 0 = true from h)]
    rfl
  rw [mergeBytes_toNat, h0]
  omega

/-- A write that enables all bytes takes the word. -/
theorem mergeBytes_ones (old : BitVec 32) : mergeBytes old 0xFFFFFFFF 15 = 0xFFFFFFFF := by
  have hb : ∀ i < 4, mergedByte old 0xFFFFFFFF 15 i = mergedByte 0 0xFFFFFFFF 15 i := by
    intro i hi
    have he : bit (15 : BitVec 4) i = true := by
      interval_cases i <;> decide
    unfold mergedByte
    rw [if_pos he, if_pos he]
  apply BitVec.eq_of_toNat_eq
  rw [mergeBytes_toNat, hb 0 (by decide), hb 1 (by decide), hb 2 (by decide), hb 3 (by decide)]
  decide

/-- A write of the power state takes the low bits of its low byte. -/
theorem power_written {old v : BitVec 32} {en : BitVec 4} (h : en.getLsbD 0 = true) :
    fld (mergeBytes old v en &&& 0x3) 0 2 = v.toNat % 4 := by
  change (mergeBytes old v en &&& 0x3 : BitVec 32).toNat / 1 % 4 = _
  rw [Nat.div_one, BitVec.toNat_and]
  have hand : (mergeBytes old v en).toNat &&& (0x3 : BitVec 32).toNat = (mergeBytes old v en).toNat % 4 :=
    Nat.and_two_pow_sub_one_eq_mod _ 2
  rw [hand, mergeBytes_low h, Nat.mod_mod]

theorem putConfig_power (fn : FnId) (v : BitVec 32) (s : State) : putConfig fn 0x44 v s = writePower fn v s := rfl

/-- The word of Power Management is written as the power state (R312). -/
theorem writeConfig_power (fn : FnId) (en : BitVec 4) (v : BitVec 32) (s : State) :
    writeConfig fn 0x44 en v s = writePower fn (mergeBytes (configOf (fnOf s fn) 0x44) v en &&& 0x3) s := by
  have hmask : configMask fn.vf.isNone 0x44 = 0x3 := by cases fn.vf.isNone <;> rfl
  unfold writeConfig
  dsimp only
  rw [if_neg (by decide), hmask, if_neg (by decide), if_neg (by omega), if_neg (by omega)]
  exact putConfig_power ..

/-- D3hot is taken, and nothing is sent. -/
theorem writePower_off {fn : FnId} {v : BitVec 32} {s : State} (h : fld v 0 2 = 3) :
    inD3 (fnOf (writePower fn v s) fn) = true ∧ (writePower fn v s).hostOut = s.hostOut := by
  have hd : inD3 (setConfig (fnOf s fn) 0x44 v) = true := by rw [inD3, configOf_setConfig]; exact decide_eq_true h
  have hw : writePower fn v s = setFn s fn (setConfig (fnOf s fn) 0x44 v) := by
    unfold writePower
    dsimp only
    rw [if_neg (by omega)]
    exact if_pos hd
  rw [hw, fnOf_setFn]
  exact ⟨hd, rfl⟩

/-- The function is in D0, and no message of it is withheld. -/
def Awake (fn : FnId) (s : State) : Prop := inD3 (fnOf s fn) = false ∧ (fnOf s fn).withheld = []

/-- A function in D0 sends its message or sets its pending bit, and withholds none. -/
theorem sendMsix_awake {fn : FnId} {k : Nat} {s : State} (h : Awake fn s) : Awake fn (sendMsix fn k s) := by
  obtain ⟨hd, hw⟩ := h
  unfold sendMsix
  dsimp only
  split
  · rw [Awake, fnOf_setFn]
    exact ⟨hd, hw⟩
  · rw [if_neg (by rw [hd]; decide)]
    exact ⟨hd, hw⟩

theorem sendAll_awake {fn : FnId} (l : List (BitVec 6)) {s : State} (h : Awake fn s) :
    Awake fn (l.foldl (fun s k => sendMsix fn k.toNat s) s) := by
  induction l generalizing s with
  | nil => exact h
  | cons k l ih => exact ih (sendMsix_awake h)

/-- In D0 what was withheld is sent. -/
theorem writePower_on {fn : FnId} {v : BitVec 32} {s : State} (h : fld v 0 2 = 0) : Awake fn (writePower fn v s) := by
  have hd : inD3 (setConfig (fnOf s fn) 0x44 v) = false := by
    rw [inD3, configOf_setConfig, h]
    rfl
  unfold writePower
  dsimp only
  rw [if_neg (by omega), if_neg (by rw [hd]; decide)]
  apply sendAll_awake
  rw [Awake, fnOf_setFn]
  exact ⟨hd, rfl⟩

/-- Device Control's `Initiate FLR` resets the function (R313). -/
theorem writeConfig_flr {fn : FnId} {en : BitVec 4} {v : BitVec 32} {s : State} (hen : en.getLsbD 1 = true) (hv : v.getLsbD 15 = true) :
    writeConfig fn 0x78 en v s = flr fn s := by
  unfold writeConfig
  dsimp only
  rw [if_neg (by decide), if_neg (show ¬ (0x78 % 4 ≠ 0 ∨ configMask _ 0x78 = 0) by change ¬ (0x78 % 4 ≠ 0 ∨ 0x70FF = 0); decide)]
  exact if_pos ⟨rfl, hen, hv⟩

/-- BAR0 of a physical function sized by writing ones: 64 KiB, 64 bits wide, not prefetchable (R314). -/
theorem bar0_sized {fn : FnId} {s : State} (h : fn.vf = none) :
    configRead (fnOf (writeConfig fn 0x10 15 0xFFFFFFFF s) fn) true 0x10 = 0xFFFF0004 := by
  have hw : writeConfig fn 0x10 15 0xFFFFFFFF s = setFn s fn (setConfig (fnOf s fn) 0x10 0xFFFF0000) := by
    have hmask : configMask true 0x10 = 0xFFFF0000 := rfl
    unfold writeConfig
    dsimp only
    rw [h, Option.isNone_none, hmask, if_neg (by decide), if_neg (by decide), if_neg (by decide), if_neg (by decide), mergeBytes_ones]
    rfl
  have hrest : ∀ x : BitVec 32, (0xFFFF0000 &&& 0xFFFF0000 ||| (0x4 &&& 0xFFFF) ||| (x &&& ~~~ (0xFFFF ||| 0xFFFF0000)) : BitVec 32)
      = 0xFFFF0004 := fun x => by simp
  rw [hw, fnOf_setFn]
  unfold configRead
  rw [configOf_setConfig]
  exact hrest _

/-! ### Resets -/

theorem dropTranslations_onlySpills (link : LinkId) (f : Translation → Bool) (s : State) : OnlySpills s (dropTranslations link f s) :=
  (cleanLines_onlySpills link _ s).trans (setSpill_onlySpills ..)

/-- A launch of the function has started, and lost the function that waited for its completion. -/
def Orphaned (fn : FnId) (s : State) : Prop :=
  ∀ k x, (k, x) ∈ s.regions → ∀ e ∈ x.launches, e.2.fn = fn → e.2.started = true ∧ e.2.orphan = true

/-- A reset clears its function and no other, and orphans or drops its launches (R317). -/
theorem resetFn_fnOf (fn g : FnId) (s : State) :
    fnOf (resetFn fn s) g = if fnKey g = fnKey fn
      then { HostFn.reset with farBase := (fnOf s fn).farBase, farPasid := (fnOf s fn).farPasid } else fnOf s g := by
  obtain ⟨a, b, o, hd⟩ := dropTranslations_onlySpills fn.link (fun t => decide (t.fn = fn)) s
  unfold resetFn
  dsimp only
  rw [hd]
  split
  case isTrue h =>
    change tget _ (tset s.fns (fnKey fn) _) (fnKey g) = _
    rw [h, tget_tset_same]
    rfl
  case isFalse h => exact tget_tset_other _ _ _ _ _ (Ne.symm h)

theorem resetFn_cores (fn : FnId) (s : State) : (resetFn fn s).cores = s.cores := by
  obtain ⟨a, b, o, hd⟩ := dropTranslations_onlySpills fn.link (fun t => decide (t.fn = fn)) s
  unfold resetFn
  dsimp only
  rw [hd]
  rfl

theorem resetFn_regions (fn : FnId) (s : State) : (resetFn fn s).regions = tmap (fun _ x => { x with
    launches := resetLaunches fn x.launches
    notifies := x.notifies.filter fun n => decide (n.fn ≠ fn) }) s.regions := by
  obtain ⟨a, b, o, hd⟩ := dropTranslations_onlySpills fn.link (fun t => decide (t.fn = fn)) s
  unfold resetFn
  dsimp only
  rw [hd]
  rfl

theorem mem_tmap {α : Type} {f : Nat → α → α} {t : Tab α} {k : Nat} {y : α} (h : (k, y) ∈ tmap f t) : ∃ x, (k, x) ∈ t ∧ y = f k x := by
  induction t with
  | nil => cases h
  | cons e t ih =>
    rcases List.mem_cons.mp h with h | h
    · obtain ⟨rfl, rfl⟩ := Prod.mk.inj h
      exact ⟨e.2, List.mem_cons_self, rfl⟩
    · obtain ⟨x, hx, hy⟩ := ih h
      exact ⟨x, List.mem_cons_of_mem _ hx, hy⟩

/-- A launch that a reset leaves was there, under the same function, and is orphaned if it was or if that function reset. -/
theorem mem_resetLaunches {fn : FnId} {l : Tab Launch} {e : Nat × Launch} (h : e ∈ resetLaunches fn l) :
    ∃ d ∈ l, e.2.fn = d.2.fn ∧ e.2.started = d.2.started ∧ (d.2.orphan = true → e.2.orphan = true) ∧
      (d.2.fn = fn → d.2.started = true ∧ e.2.orphan = true) := by
  obtain ⟨d, hd, rfl⟩ := List.mem_map.mp h
  obtain ⟨hmem, hkeep⟩ := List.mem_filter.mp hd
  refine ⟨d, hmem, ?_⟩
  dsimp only
  split
  case isTrue hf =>
    refine ⟨rfl, rfl, fun _ => rfl, fun _ => ⟨?_, rfl⟩⟩
    rw [hf, decide_eq_false (by simp)] at hkeep
    exact (Bool.and_eq_true _ _ ▸ (Bool.false_or _ ▸ hkeep)).1
  case isFalse hf => exact ⟨rfl, rfl, id, fun h => absurd h hf⟩

theorem resetFn_orphans (fn : FnId) (s : State) : Orphaned fn (resetFn fn s) := by
  intro k x hx e he hf
  rw [resetFn_regions] at hx
  obtain ⟨y, -, rfl⟩ := mem_tmap hx
  obtain ⟨d, -, hfn, hst, -, hown⟩ := mem_resetLaunches he
  obtain ⟨hstarted, horphan⟩ := hown (hfn ▸ hf)
  exact ⟨hst.trans hstarted, horphan⟩

theorem resetFn_keepsOrphans {fn : FnId} (g : FnId) {s : State} (h : Orphaned fn s) : Orphaned fn (resetFn g s) := by
  intro k x hx e he hf
  rw [resetFn_regions] at hx
  obtain ⟨y, hy, rfl⟩ := mem_tmap hx
  obtain ⟨d, hd, hfn, hst, hor, -⟩ := mem_resetLaunches he
  obtain ⟨hstarted, horphan⟩ := h k y hy d hd (hfn ▸ hf)
  exact ⟨hst.trans hstarted, hor horphan⟩

theorem fnCleared_resetFn {fn g : FnId} {s : State} (h : fn = g ∨ fnCleared (fnOf s g)) : fnCleared (fnOf (resetFn fn s) g) := by
  rw [resetFn_fnOf]
  split
  case isTrue => exact ⟨rfl, rfl, rfl, rfl, rfl, rfl, rfl⟩
  case isFalse hk => exact h.resolve_left fun e => hk (e ▸ rfl)

/-- The resets of a list of functions clear each and orphan its launches. -/
theorem foldl_resetFn (l : List FnId) (s : State) :
    (∀ g, g ∈ l ∨ fnCleared (fnOf s g) → fnCleared (fnOf (l.foldl (fun s g => resetFn g s) s) g)) ∧
    (∀ g, g ∈ l ∨ Orphaned g s → Orphaned g (l.foldl (fun s g => resetFn g s) s)) ∧
    (l.foldl (fun s g => resetFn g s) s).cores = s.cores := by
  induction l generalizing s with
  | nil => exact ⟨fun g h => h.resolve_left (List.not_mem_nil), fun g h => h.resolve_left (List.not_mem_nil), rfl⟩
  | cons f l ih =>
    obtain ⟨hclear, horphan, hcores⟩ := ih (resetFn f s)
    refine ⟨fun g h => hclear g ?_, fun g h => horphan g ?_, hcores.trans (resetFn_cores f s)⟩
    · rcases h with h | h
      · rcases List.mem_cons.mp h with rfl | h
        · exact Or.inr (fnCleared_resetFn (Or.inl rfl))
        · exact Or.inl h
      · exact Or.inr (fnCleared_resetFn (Or.inr h))
    · rcases h with h | h
      · rcases List.mem_cons.mp h with rfl | h
        · exact Or.inr (resetFn_orphans g s)
        · exact Or.inl h
      · exact Or.inr (resetFn_keepsOrphans f h)

theorem mem_allFns (g : FnId) : g ∈ allFns := by
  obtain ⟨l, vf⟩ := g
  have hl : l ∈ [(0 : LinkId), 1] := by
    rcases Fin.exists_fin_two.mp ⟨l, rfl⟩ with h | h <;> simp [← h]
  refine List.mem_flatMap.mpr ⟨l, hl, ?_⟩
  cases vf with
  | none => exact List.mem_cons_self
  | some v =>
    refine List.mem_cons_of_mem _ (List.mem_map.mpr ⟨v.val, List.mem_range.mpr v.isLt, ?_⟩)
    simp

/-- The functions that the reset of one resets. -/
def resetBy (fn : FnId) : List FnId :=
  match fn.vf with
  | some _ => [fn]
  | none => allFns.filter fun g => decide (g.link = fn.link)

theorem flr_eq (fn : FnId) (s : State) : flr fn s = (resetBy fn).foldl (fun s g => resetFn g s) s := by
  unfold flr resetBy
  cases fn.vf <;> rfl

theorem mem_resetBy_pf {fn g : FnId} (h : fn.vf = none) (hl : g.link = fn.link) : g ∈ resetBy fn := by
  unfold resetBy
  rw [h]
  exact List.mem_filter.mpr ⟨mem_allFns g, decide_eq_true hl⟩

theorem mem_resetBy (fn : FnId) : fn ∈ resetBy fn := by
  cases h : fn.vf with
  | none => exact mem_resetBy_pf h rfl
  | some v =>
    unfold resetBy
    rw [h]
    exact List.mem_singleton.mpr rfl

/-- A launch that a region's table has is orphaned, if those of its function are. -/
theorem Orphaned.launch {fn : FnId} {s : State} (h : Orphaned fn s) {r : RegionId} {j : Nat} {l : Launch}
    (hl : tfind (regOf s r).launches j = some l) (hf : l.fn = fn) : l.started = true ∧ l.orphan = true := by
  unfold regOf tget at hl
  cases hr : tfind s.regions r.val with
  | none =>
    rw [hr] at hl
    cases hl
  | some x =>
    rw [hr] at hl
    exact h r.val x (mem_of_tfind hr) (j, l) (mem_of_tfind hl) hf

/-! ### Host writes -/

theorem hostSilent {fn : FnId} {v : BitVec 32} {ring : RingName} {s : State} (h : hostUp s fn.link = false) :
    ∀ i, i ∈ [Instr.setupLock fn v, .notifyWrite fn v, .ringEnable fn ring v, .functionLevelReset fn] → exec i s = .next s := by
  intro i hi
  simp only [List.mem_cons, List.not_mem_nil, or_false] at hi
  rcases hi with rfl | rfl | rfl | rfl <;> exact congrArg Host.Outcome.next (fromHost_down _ h)

theorem doorbell_congr {f g : HostFn} (h : f.regs = g.regs) : doorbell f = doorbell g := by
  unfold doorbell addr64 fnReg
  rw [h]

theorem writeReg_notify (fn : FnId) (v : BitVec 32) (s : State) : writeReg fn 0x40 v s = notifyPoll fn s := by
  unfold writeReg
  rw [if_neg (by decide), if_pos rfl]

theorem notifyPoll_fn (fn : FnId) (s : State) :
    fnOf (notifyPoll fn s) fn = { fnOf s fn with idle := false, lastPoll := false, quiet := false, polls := 0 } := by
  unfold notifyPoll
  rw [fnOf_writeRecord, fnOf_modFn]

theorem natBytes_zero : natBytes 8 0 = List.replicate 8 0 := by decide

theorem writeRecord_eq {fn : FnId} {off v : Nat} {s : State} (h : doorbell (fnOf s fn) ≠ 0) : writeRecord fn off v s
    = { s with hostOut := s.hostOut ++ [.write fn (.untranslated (BitVec.ofNat 64 (doorbell (fnOf s fn) + off))) (natBytes 8 v)] } :=
  if_neg h

theorem notifyPoll_hostOut {fn : FnId} {s : State} (h : doorbell (fnOf s fn) ≠ 0) : (notifyPoll fn s).hostOut
      = s.hostOut ++ [.write fn (.untranslated (BitVec.ofNat 64 (doorbell (fnOf s fn) + 0x180))) (List.replicate 8 0)] := by
  have hd : doorbell (fnOf (modFn s fn fun f => { f with idle := false, lastPoll := false, quiet := false, polls := 0 }) fn)
      = doorbell (fnOf s fn) := by
    rw [fnOf_modFn]
    exact doorbell_congr rfl
  unfold notifyPoll
  rw [writeRecord_eq (by rw [hd]; exact h), hd, natBytes_zero]
  rfl

theorem notify_resumes {fn : FnId} {v : BitVec 32} {s : State} (hup : hostUp s fn.link = true) (h : doorbell (fnOf s fn) ≠ 0) :
    ∃ t, exec (.notifyWrite fn v) s = .next t ∧ (fnOf t fn).quiet = false ∧ (fnOf t fn).idle = false ∧ (fnOf t fn).polls = 0
      ∧ t.hostOut = s.hostOut ++ [.write fn (.untranslated (BitVec.ofNat 64 (doorbell (fnOf s fn) + 0x180))) (List.replicate 8 0)] := by
  have hfn := notifyPoll_fn fn s
  refine ⟨notifyPoll fn s, congrArg Host.Outcome.next ((fromHost_up _ hup).trans (writeReg_notify fn v s)), ?_, ?_, ?_, notifyPoll_hostOut h⟩ <;> rw [hfn]

theorem ring_starts {fn : FnId} {v : BitVec 32} {k : Fin 16} {s : State} (hup : hostUp s fn.link = true)
    (hlock : (fnOf s fn).lock = false) (hoff : sqEnabled (fnOf s fn) k.val = false) (hv : v.getLsbD 0 = true) :
    ∃ t, exec (.ringEnable fn (.sq k) v) s = .next t ∧ sqEnabled (fnOf t fn) k.val = true
      ∧ sqCq (fnOf t fn) k.val = v.toNat / 16 % 16 ∧ (sqOf (fnOf t fn) k.val).head = 0 ∧ (sqOf (fnOf t fn) k.val).tail = 0 := by
  obtain ⟨hreg, hhead, htail⟩ := writeRingCtrl_starts hoff hv
  obtain ⟨hen, hcq, -, -⟩ := ringFields v
  refine ⟨writeRingCtrl fn k.val v s, congrArg Host.Outcome.next ?_, ?_, ?_, hhead, htail⟩
  · rw [fromHost_up _ hup]
    exact (writeReg_sq k v).trans (if_neg (by rw [hlock]; decide))
  · rw [sqEnabled, hreg, hen, hv]
  · rw [sqCq, hreg, hcq]

theorem completionRing_starts {fn : FnId} {v : BitVec 32} {k : Fin 16} {s : State} (hup : hostUp s fn.link = true)
    (hlock : (fnOf s fn).lock = false) (hoff : cqEnabled (fnOf s fn) k.val = false) (hv : v.getLsbD 8 = true)
    (hlo : 6 ≤ v.toNat % 32) (hhi : v.toNat % 32 ≤ 16) :
    ∃ t, exec (.ringEnable fn (.cq k) v) s = .next t ∧ cqEnabled (fnOf t fn) k.val = true
      ∧ cqSize (fnOf t fn) k.val = 2 ^ (v.toNat % 32)
      ∧ cqOf (fnOf t fn) k.val = { CqRing.reset with due := (cqOf (fnOf s fn) k.val).due } := by
  have hsize : sizeOk v = true := by
    refine decide_eq_true ?_
    change 6 ≤ v.toNat / 1 % 32 ∧ v.toNat / 1 % 32 ≤ 16
    omega
  obtain ⟨hreg, hring⟩ := writeCqSize_starts hoff hv hsize
  obtain ⟨-, -, hen, hlog⟩ := ringFields v
  refine ⟨writeCqSize fn k.val v s, congrArg Host.Outcome.next ?_, ?_, ?_, hring⟩
  · rw [fromHost_up _ hup]
    exact (writeReg_cq k v).trans (if_neg (by rw [hlock]; decide))
  · rw [cqEnabled, hreg, hen, hv]
  · rw [cqSize, hreg, hlog]

theorem locked_ring {fn : FnId} {v : BitVec 32} {ring : RingName} {s : State} (hup : hostUp s fn.link = true)
    (hlock : (fnOf s fn).lock = true) : exec (.ringEnable fn ring v) s = .next s := by
  refine congrArg Host.Outcome.next ?_
  rw [fromHost_up _ hup]
  cases ring with
  | sq k => exact (writeReg_sq k v).trans (if_pos hlock)
  | cq k => exact (writeReg_cq k v).trans (if_pos hlock)

theorem functionReset {fn : FnId} {s : State} (hup : hostUp s fn.link = true) :
    ∃ t, exec (.functionLevelReset fn) s = .next t ∧ fnCleared (fnOf t fn)
      ∧ (fn.vf = none → ∀ g : FnId, g.link = fn.link → fnCleared (fnOf t g))
      ∧ (∀ (r : RegionId) j l, tfind (regOf t r).launches j = some l → l.fn = fn → l.started = true ∧ l.orphan = true)
      ∧ t.cores = s.cores := by
  obtain ⟨hclear, horphan, hcores⟩ := foldl_resetFn (resetBy fn) s
  refine ⟨flr fn s, congrArg Host.Outcome.next (fromHost_up _ hup), ?_⟩
  rw [flr_eq]
  exact ⟨hclear fn (.inl (mem_resetBy fn)), fun hpf g hg => hclear g (.inl (mem_resetBy_pf hpf hg)),
    fun r j l hl hf => (horphan fn (.inl (mem_resetBy fn))).launch hl hf, hcores⟩

theorem linkReset (link : LinkId) (s : State) :
    ∃ t, exec (.perst link) s = .next t ∧ perstN t link = false ∧ t.cores = s.cores
      ∧ ∀ g : FnId, g.link = link → fnCleared (fnOf t g) := by
  obtain ⟨hclear, -, hcores⟩ := foldl_resetFn (resetBy ⟨link, none⟩) s
  rw [← flr_eq] at hclear hcores
  refine ⟨_, rfl, ?_, hcores, fun g hg => hclear g (.inl (mem_resetBy_pf rfl hg))⟩
  unfold perstN
  dsimp only
  split <;> rfl

theorem linkReset_ends (link : LinkId) (s : State) :
    ∃ t, exec (.perstNDeassert link) s = .next t ∧ perstN t link = true ∧ t.fns = s.fns := by
  refine ⟨_, rfl, ?_, rfl⟩
  unfold perstN
  dsimp only
  split <;> rfl

theorem lockRegister_written {fn : FnId} {w : BitVec 64} {s : State} :
    exec (.registerWrite (.bar0 fn 0x08 false 0x0F w)) s = exec (.setupLock fn (w.setWidth 32)) s := rfl

theorem config_heard {fn : FnId} {off : BitVec 12} {en : BitVec 4} {v : BitVec 32} {s : State} (h : hostUp s fn.link = true) :
    exec (.registerWrite (.config fn off en v)) s = .next (writeConfig fn off.toNat en v s) :=
  congrArg Host.Outcome.next (fromHost_up _ h)

/-- Settles O56: behind the lock, the rings' registers and the notification by the fields that their writes keep; the resets by
induction over the functions they reset; the configuration space by the words of its writes. -/
theorem hostRegistersAndResets : Obligations.HostRegistersAndResets := by
  unfold Obligations.HostRegistersAndResets
  intro fn v k ring link en w s f up
  refine ⟨fun h => hostSilent h, fun h => congrArg Host.Outcome.next (fromHost_up _ h), fun h hl => locked_ring h hl,
    fun h hl hoff hv => ring_starts h hl hoff hv, fun h hl hoff hv hlo hhi => completionRing_starts h hl hoff hv hlo hhi,
    fun h hd => notify_resumes h hd, fun h => functionReset h, linkReset link s, linkReset_ends link s,
    fun _ => lockRegister_written, fun h hen hv => ?flr, fun h hen hv => ?off, fun h hen hv => ?on, fun h hpf => ?bar⟩
  case flr => exact (config_heard h).trans (congrArg Host.Outcome.next ((writeConfig_flr hen hv).trans (fromHost_up (flr fn) h).symm))
  case off =>
    refine ⟨_, config_heard h, ?_⟩
    rw [show BitVec.toNat (0x44 : BitVec 12) = 0x44 by rfl, writeConfig_power]
    exact writePower_off ((power_written hen).trans hv)
  case on =>
    refine ⟨_, config_heard h, ?_⟩
    rw [show BitVec.toNat (0x44 : BitVec 12) = 0x44 by rfl, writeConfig_power]
    exact writePower_on ((power_written hen).trans hv)
  case bar => exact ⟨_, config_heard h, bar0_sized hpf⟩

end Sys2Proof.Machine

/-!
SUPPORT. Who may command over the management path, what the presence list asks for, and what a debug session reaches
(R402–R408, R423, R443).
-/
namespace Sys2Proof.Machine
open Sys2Proof Sys2Proof.Safety

/-! ### The presence log -/

theorem logPresence_log (cmd : Nat) (s : State) : ∃ l, logPresence cmd s = { s with log := l } := by
  unfold logPresence noteArmaik logItem
  dsimp only
  split
  · exact ⟨_, rfl⟩
  · exact ⟨_, rfl⟩

/-- A presence command of an operator in a presence window runs after its log record. -/
theorem presence_runs (cmd : Nat) (f : State → State) {s : State} (hc : commands s) (hw : s.mgmt.presence ≠ []) :
    ∃ l, presenceCmd cmd f s = f { s with log := l } := by
  obtain ⟨l, hl⟩ := logPresence_log cmd s
  obtain ⟨hconn, hown, hauth⟩ := hc
  refine ⟨l, ?_⟩
  unfold presenceCmd operatorCmd withPresence
  rw [hl, if_neg (by rw [hconn]; decide), if_neg (by rw [hconn]; decide), if_neg (by simp [hown, hauth]), if_pos hw]

/-! ### Refused commands -/

/-- The command answers `st` and changes nothing else but the log. -/
def AnswersOnly (i : Instr) (st : BitVec 8) (s : State) : Prop :=
  ∃ t, exec i s = .next t ∧ t.mgmt.reply = ⟨st, none, []⟩ ∧ apartFromReply s t

theorem answers_reply {i : Instr} {st : BitVec 8} {s : State} {l : ErrLog} (h : exec i s = .next (reply st [] { s with log := l })) :
    AnswersOnly i st s := ⟨_, h, rfl, rfl⟩

/-- An unowned device refuses an operator's command. -/
theorem operatorCmd_unowned (f : State → State) {s : State} (hconn : s.mgmt.connected = true) (hown : s.mgmt.owned = []) :
    operatorCmd f s = reply 0x0B [] { s with log := s.log } := by
  unfold operatorCmd
  rw [if_neg (by rw [hconn]; decide), if_pos (Or.inl hown)]

theorem presenceCmd_unowned (cmd : Nat) (f : State → State) {s : State} (hconn : s.mgmt.connected = true) (hown : s.mgmt.owned = []) :
    ∃ l, presenceCmd cmd f s = reply 0x0B [] { s with log := l } := by
  obtain ⟨l, hl⟩ := logPresence_log cmd s
  refine ⟨l, ?_⟩
  unfold presenceCmd
  rw [hl, if_neg (by rw [hconn]; decide)]
  exact operatorCmd_unowned (s := { s with log := l }) _ hconn hown

/-- With no presence window a command of the presence list is refused. -/
theorem presenceCmd_closed (cmd : Nat) (f : State → State) {s : State} (hc : commands s) (hw : s.mgmt.presence = []) :
    ∃ l, presenceCmd cmd f s = reply 0x34 [] { s with log := l } := by
  obtain ⟨l, hl⟩ := logPresence_log cmd s
  obtain ⟨hconn, hown, hauth⟩ := hc
  refine ⟨l, ?_⟩
  unfold presenceCmd operatorCmd withPresence
  rw [hl, if_neg (by rw [hconn]; decide), if_neg (by rw [hconn]; decide), if_neg (by simp [hown, hauth]), if_neg (by simp [hw])]

theorem unowned_refuses {img : FwImage} {slot : Fin 2} {rr : Option RegionId} {who : FailedCore} {passed : Bool} {r : RegionId}
    {s : State} (hconn : s.mgmt.connected = true) (hown : s.mgmt.owned = []) :
    ∀ i, i ∈ [Instr.releaseOwnership, .firmwareUpdate img, .firmwareRollback slot, .clearKeys rr, .clearSpareMap,
      .reinstate who passed, .debugOpen r, .debugClose, .enterDaylight, .enterTwilight, .deleteRegion r, .wakeRegion r] →
      AnswersOnly i 0x0B s := by
  have plain : ∀ (i : Instr) f, exec i s = .next (operatorCmd f s) → AnswersOnly i 0x0B s := fun i f h =>
    answers_reply (h.trans (congrArg Host.Outcome.next (operatorCmd_unowned f hconn hown)))
  have present : ∀ (i : Instr) cmd f, exec i s = .next (presenceCmd cmd f s) → AnswersOnly i 0x0B s := by
    intro i cmd f h
    obtain ⟨l, hl⟩ := presenceCmd_unowned cmd f hconn hown
    exact answers_reply (h.trans (congrArg Host.Outcome.next hl))
  intro i hi
  simp only [List.mem_cons, List.not_mem_nil, or_false] at hi
  rcases hi with rfl | rfl | rfl | rfl | rfl | rfl | rfl | rfl | rfl | rfl | rfl | rfl
  · exact present _ _ _ rfl
  · exact plain _ _ rfl
  · exact present _ _ _ rfl
  · exact present _ _ _ rfl
  · exact present _ _ _ rfl
  · exact present _ _ _ rfl
  · exact plain _ _ rfl
  · exact plain _ _ rfl
  · exact plain _ _ rfl
  · exact plain _ _ rfl
  · exact plain _ _ rfl
  · exact plain _ _ rfl

/-- `TAKE_OWNERSHIP` of a connection that may give it, after its log record. -/
theorem takeOwnership_heard (certs : List (BitVec 384)) {s : State} (hconn : s.mgmt.connected = true)
    (hmay : s.mgmt.owned ≠ [] → s.mgmt.authenticated = true) :
    ∃ l, exec (.takeOwnership certs) s = .next (withPresence (takeOwnership certs) { s with log := l }) := by
  obtain ⟨l, hl⟩ := logPresence_log 0 s
  refine ⟨l, congrArg Host.Outcome.next ?_⟩
  rw [if_pos hconn, hl, if_neg (by rw [hconn]; decide), if_neg]
  rintro ⟨hown, hauth⟩
  have hyes : s.mgmt.authenticated = true := hmay hown
  rw [hyes] at hauth
  cases hauth

theorem closed_refuses {certs : List (BitVec 384)} {slot : Fin 2} {rr : Option RegionId} {who : FailedCore} {passed : Bool}
    {s : State} (hc : commands s) (hw : s.mgmt.presence = []) :
    ∀ i, i ∈ [Instr.takeOwnership certs, .releaseOwnership, .firmwareRollback slot, .clearKeys rr, .clearSpareMap,
      .reinstate who passed] → AnswersOnly i 0x34 s := by
  have present : ∀ (i : Instr) cmd f, exec i s = .next (presenceCmd cmd f s) → AnswersOnly i 0x34 s := by
    intro i cmd f h
    obtain ⟨l, hl⟩ := presenceCmd_closed cmd f hc hw
    exact answers_reply (h.trans (congrArg Host.Outcome.next hl))
  intro i hi
  simp only [List.mem_cons, List.not_mem_nil, or_false] at hi
  rcases hi with rfl | rfl | rfl | rfl | rfl | rfl
  · obtain ⟨l, hl⟩ := takeOwnership_heard certs hc.1 fun _ => hc.2.2
    exact answers_reply (hl.trans (congrArg Host.Outcome.next (if_neg (by simp [hw]))))
  · exact present _ _ _ rfl
  · exact present _ _ _ rfl
  · exact present _ _ _ rfl
  · exact present _ _ _ rfl
  · exact present _ _ _ rfl

/-! ### Connections -/

theorem handshake_unowned {cert : Option (BitVec 384)} {s : State} (hstep : 3 ≤ s.boot.step) (hown : s.mgmt.owned = []) :
    exec (.tlsHandshake ⟨cert, s.boot.activeEs⟩) s = .next (openConnection false s) := by
  refine congrArg Host.Outcome.next ?_
  rw [if_neg (by simp; omega), if_pos hown]

theorem handshake_standby {cert : Option (BitVec 384)} {s : State} : exec (.tlsHandshake ⟨cert, !s.boot.activeEs⟩) s = .next s := by
  refine congrArg Host.Outcome.next (if_pos (Or.inr ?_))
  exact Bool.not_ne_self _

theorem handshake_owned {c : BitVec 384} {s : State} (hstep : 3 ≤ s.boot.step) (hown : s.mgmt.owned ≠ []) :
    exec (.tlsHandshake ⟨some c, s.boot.activeEs⟩) s = .next (if c ∈ s.mgmt.owned then openConnection true s else s) := by
  refine congrArg Host.Outcome.next ?_
  rw [if_neg (by simp; omega), if_neg hown]
  simp only [List.contains_iff_mem]

/-! ### Stores -/

theorem mem_wantStore (i : FlashItem) (s : State) : i ∈ (wantStore i s).flash.busy := by
  unfold wantStore
  split
  case isTrue h => exact List.contains_iff_mem.mp h
  case isFalse => exact List.mem_append_right _ List.mem_cons_self

/-- A store that is asked for changes nothing but the list of those asked for, which it only lengthens. -/
theorem wantStore_flash (i : FlashItem) (s : State) :
    ∃ b, wantStore i s = { s with flash := { s.flash with busy := b } } ∧ ∀ j ∈ s.flash.busy, j ∈ b := by
  unfold wantStore
  split
  · exact ⟨s.flash.busy, rfl, fun _ h => h⟩
  · exact ⟨_, rfl, fun _ h => List.mem_append_left _ h⟩

theorem setOwners_stores (certs : List (BitVec 384)) (s : State) : (setOwners certs s).mgmt.owned = certs ∧
    FlashItem.certificates ∈ (setOwners certs s).flash.busy ∧ (setOwners certs s).mgmt.reply.status = 0 := by
  obtain ⟨b, hb, -⟩ := wantStore_flash .certificates (modMgmt (fun m => { m with owned := certs }) s)
  refine ⟨?_, mem_wantStore .certificates (modMgmt (fun m => { m with owned := certs }) s), rfl⟩
  unfold setOwners
  rw [hb]
  rfl

theorem ownership_taken {certs : List (BitVec 384)} {s : State} (hconn : s.mgmt.connected = true) (hown : s.mgmt.owned = [])
    (hw : s.mgmt.presence ≠ []) (hne : certs ≠ []) (hlen : certs.length ≤ 4) :
    ∃ t, exec (.takeOwnership certs) s = .next t ∧ t.mgmt.owned = certs ∧ FlashItem.certificates ∈ t.flash.busy
      ∧ t.mgmt.reply.status = 0 := by
  obtain ⟨l, hl⟩ := takeOwnership_heard certs hconn fun h => absurd hown h
  refine ⟨setOwners certs { s with log := l }, hl.trans (congrArg Host.Outcome.next ?_), setOwners_stores ..⟩
  unfold withPresence takeOwnership
  rw [if_pos hw, if_neg (by simp only [hne, false_or]; omega)]

theorem ownership_released {s : State} (hc : commands s) (hw : s.mgmt.presence ≠ []) :
    ((∀ x ∈ s.regions, existsOrPending x.2 = false) →
      ∃ t, exec .releaseOwnership s = .next t ∧ t.mgmt.owned = [] ∧ t.mgmt.reply.status = 0)
    ∧ (∀ x ∈ s.regions, existsOrPending x.2 = true → AnswersOnly .releaseOwnership 0x17 s) := by
  obtain ⟨l, hl⟩ := presence_runs 1 (fun s => if s.regions.any fun e => existsOrPending e.2 then reply 0x17 [] s else setOwners [] s) hc hw
  have hexec : exec .releaseOwnership s = .next _ := congrArg Host.Outcome.next hl
  refine ⟨fun hno => ?_, fun x hx hyes => ?_⟩
  · have hany : ¬ (s.regions.any fun e => existsOrPending e.2) = true := by
      rw [List.any_eq_true]
      rintro ⟨x, hx, hyes⟩
      rw [hno x hx] at hyes
      cases hyes
    obtain ⟨howned, -, hstatus⟩ := setOwners_stores [] { s with log := l }
    exact ⟨_, hexec.trans (congrArg Host.Outcome.next (if_neg hany)), howned, hstatus⟩
  · have hany : (s.regions.any fun e => existsOrPending e.2) = true := List.any_eq_true.mpr ⟨x, hx, hyes⟩
    exact answers_reply (hexec.trans (congrArg Host.Outcome.next (if_pos hany)))

/-- A slot that is written holds the image, not yet valid, its store asked for, and the other slot stays. -/
theorem writeSlot_slots (b : Bool) (n : Nat) (i : FwImage) (s : State) :
    slotOf (writeSlot b n i s).flash (!b) = slotOf s.flash (!b) ∧ (slotOf (writeSlot b n i s).flash b).valid = false ∧
    (∃ j, (slotOf (writeSlot b n i s).flash b).image = some j ∧ j.image = i.image ∧ j.svn = i.svn) ∧
    FlashItem.firmware (if b then 1 else 0) ∈ (writeSlot b n i s).flash.busy ∧
    (writeSlot b n i s).mgmt = s.mgmt ∧ ∀ j ∈ s.flash.busy, j ∈ (writeSlot b n i s).flash.busy := by
  unfold writeSlot
  dsimp only
  generalize hp : setSlot b _ s = p
  obtain ⟨q, hq, hkeep⟩ := wantStore_flash (.firmware (if b then 1 else 0)) p
  have hbusy := mem_wantStore (.firmware (if b then 1 else 0)) p
  refine ⟨?_, ?_, ?_, hbusy, ?_, ?_⟩
  · rw [hq, ← hp]
    cases b <;> rfl
  · rw [hq, ← hp]
    cases b <;> rfl
  · rw [hq, ← hp]
    cases b
    · exact ⟨_, rfl, rfl, rfl⟩
    · exact ⟨_, rfl, rfl, rfl⟩
  · rw [hq, ← hp]
    cases b <;> rfl
  · intro j hj
    rw [hq]
    refine hkeep j ?_
    rw [← hp]
    cases b <;> exact hj

theorem firmware_updated {img : FwImage} {s : State} (hc : commands s) :
    ∃ t, exec (.firmwareUpdate img) s = .next t ∧ t.mgmt.reply.status = 0
      ∧ slotOf t.flash s.boot.slot = slotOf s.flash s.boot.slot ∧ (slotOf t.flash (!s.boot.slot)).valid = false
      ∧ ∃ i, (slotOf t.flash (!s.boot.slot)).image = some i ∧ i.image = img.image ∧ i.svn = img.svn
        ∧ FlashItem.firmware (if s.boot.slot then 0 else 1) ∈ t.flash.busy := by
  obtain ⟨hother, hvalid, ⟨i, himage, hbytes, hsvn⟩, hbusy, -, -⟩ :=
    writeSlot_slots (!s.boot.slot) (slotSeq (slotOf s.flash s.boot.slot) + 1) img s
  rw [Bool.not_not] at hother
  refine ⟨_, congrArg Host.Outcome.next (operatorCmd_commands hc _), rfl, hother, hvalid, i, himage, hbytes, hsvn, ?_⟩
  have hslot : (if s.boot.slot then (0 : Fin 2) else 1) = if !s.boot.slot then 1 else 0 := by cases s.boot.slot <;> rfl
  rw [hslot]
  exact hbusy

theorem firmware_rolledBack {slot : Fin 2} {i : FwImage} {s : State} (hc : commands s) (hw : s.mgmt.presence ≠ [])
    (hi : (slotOf s.flash (decide (slot = 1))).image = some i) :
    ∃ t, exec (.firmwareRollback slot) s = .next t ∧ t.mgmt.rollback = i.svn ∧ FlashItem.rollback ∈ t.flash.busy := by
  obtain ⟨l, hl⟩ := presence_runs 2 (rollBack (decide (slot = 1))) hc hw
  refine ⟨_, congrArg Host.Outcome.next hl, ?_⟩
  unfold rollBack
  dsimp only
  rw [hi]
  dsimp only
  generalize hp : wantStore .rollback _ = p
  obtain ⟨-, -, -, -, hmgmt, hkeep⟩ :=
    writeSlot_slots (decide (slot = 1)) (slotSeq (slotOf p.flash (!decide (slot = 1))) + 1) i p
  have hasked : FlashItem.rollback ∈ p.flash.busy := hp ▸ mem_wantStore ..
  refine ⟨?_, hkeep _ hasked⟩
  obtain ⟨b, hb, -⟩ := wantStore_flash .rollback (modMgmt (fun m => { m with rollback := i.svn }) { s with log := l })
  change (writeSlot _ _ i p).mgmt.rollback = _
  rw [hmgmt, ← hp, hb]
  rfl

/-! ### Keys, the spare map and tests -/

/-- Where keys of a list of regions are dropped, those regions hold none and the others keep theirs. -/
theorem foldl_dropKeys (l : List RegionId) (s : State) (q : RegionId) :
    (regOf (l.foldl (fun s r => dropKeys r s) s) q).keys = if q ∈ l then [] else (regOf s q).keys := by
  induction l generalizing s with
  | nil => rfl
  | cons r l ih =>
    rw [List.foldl_cons, ih]
    by_cases hq : q = r
    · have hone : (regOf (dropKeys r s) r).keys = [] := congrArg Region.keys (regOf_modReg_same ..)
      rw [hq, hone, if_pos List.mem_cons_self]
      split <;> rfl
    · have hother : regOf (dropKeys r s) q = regOf s q := regOf_modReg_other _ _ _ _ (Ne.symm hq)
      simp only [hother, List.mem_cons, hq, false_or]

theorem mem_regionIds_of_tfind {s : State} {q : RegionId} (h : (tfind s.regions q.val).isSome = true) : q ∈ regionIds s := by
  obtain ⟨x, hx⟩ := Option.isSome_iff_exists.mp h
  exact List.mem_map.mpr ⟨(q.val, x), mem_of_tfind hx, by simp⟩

/-- A region that the table does not name holds no key. -/
theorem regOf_absent {s : State} {q : RegionId} (h : ¬ (tfind s.regions q.val).isSome = true) : regOf s q = Region.reset := by
  unfold regOf tget
  rw [Option.not_isSome_iff_eq_none.mp h]
  rfl

theorem keys_cleared {rr : Option RegionId} {s : State} (hc : commands s) (hw : s.mgmt.presence ≠ []) :
    ∃ t, exec (.clearKeys rr) s = .next t ∧ ∀ q : RegionId, (regOf t q).keys =
      if rr = none ∨ rr = some q then [] else (regOf s q).keys := by
  obtain ⟨l, hl⟩ := presence_runs 3 (fun s =>
    reply 0 [] (match rr with
      | some r => if (tfind s.regions r.val).isSome then dropKeys r s else s
      | none => eachRegion dropKeys s)) hc hw
  refine ⟨_, congrArg Host.Outcome.next hl, fun q => ?_⟩
  cases rr with
  | none =>
    rw [if_pos (Or.inl rfl)]
    change (regOf ((regionIds s).foldl (fun s r => dropKeys r s) { s with log := l }) q).keys = []
    rw [foldl_dropKeys]
    split
    · rfl
    case isFalse hq =>
      have habs : regOf { s with log := l } q = Region.reset := regOf_absent fun h => hq (mem_regionIds_of_tfind h)
      rw [habs]
      rfl
  | some r =>
    change (regOf (if (tfind s.regions r.val).isSome then dropKeys r { s with log := l } else { s with log := l }) q).keys = _
    by_cases hr : (tfind s.regions r.val).isSome = true
    · rw [if_pos hr]
      have hdrop := foldl_dropKeys [r] { s with log := l } q
      have hlog : regOf { s with log := l } q = regOf s q := rfl
      rw [List.foldl_cons, List.foldl_nil, hlog] at hdrop
      rw [hdrop]
      simp only [List.mem_singleton, reduceCtorEq, Option.some.injEq, false_or, eq_comm]
    · rw [if_neg hr]
      split
      case isTrue h =>
        have hq : r = q := by simpa using h
        rw [← hq]
        exact congrArg Region.keys (regOf_absent (s := { s with log := l }) hr)
      case isFalse => rfl

/-- Rows that are cleared stand cleared. -/
theorem foldl_planRow (l : List Nat) (s : State) (i : Nat) (h : i ∈ l ∨ (rowOf_ s i).pending = some (31, 31)) :
    (rowOf_ (l.foldl (fun s i => planRow (s.clock.dayNo + 1) i 31 31 s) s) i).pending = some (31, 31) := by
  induction l generalizing s with
  | nil => exact h.resolve_left List.not_mem_nil
  | cons j l ih =>
    refine ih _ ?_
    by_cases hj : i = j
    · refine Or.inr ?_
      subst hj
      exact congrArg SpareRow.pending (tget_tset_same ..)
    · refine h.imp (fun h => (List.mem_cons.mp h).resolve_left hj) fun h => ?_
      exact (congrArg SpareRow.pending (tget_tset_other _ _ _ _ _ (Ne.symm hj))).trans h

theorem spareMap_cleared {s : State} (hc : commands s) (hw : s.mgmt.presence ≠ []) :
    ∃ t, exec .clearSpareMap s = .next t ∧ ∀ x ∈ s.spares, (rowOf_ t x.1).pending = some (31, 31) := by
  obtain ⟨l, hl⟩ := presence_runs 4 (fun s => reply 0 [] (clearMap s)) hc hw
  refine ⟨_, congrArg Host.Outcome.next hl, fun x hx => ?_⟩
  have hkey : x.1 ∈ s.spares.map Prod.fst := List.mem_map.mpr ⟨x, hx, rfl⟩
  exact foldl_planRow _ { s with log := l } _ (Or.inl hkey)

theorem reinstated {who : FailedCore} {passed : Bool} {s : State} (hc : commands s) (hw : s.mgmt.presence ≠ [])
    (hdev : s.dev = .twilight) (hwho : namedFailed s who = true) :
    ∃ t, exec (.reinstate who passed) s = .next t ∧ t.mgmt.reply.status = 0 ∧ t.spares = s.spares
      ∧ t.mgmt.testing = s.mgmt.testing ++ [(testedCore s who, passed, s.clock.now + 11520000)] := by
  obtain ⟨l, hl⟩ := presence_runs 5 (reinstate who passed) hc hw
  have hnamed : namedFailed { s with log := l } who = true := hwho
  have htested : testedCore { s with log := l } who = testedCore s who := by cases who <;> rfl
  refine ⟨_, congrArg Host.Outcome.next (hl.trans (if_neg ?_)), rfl, rfl, ?_⟩
  · rw [hnamed]
    change ¬ (s.dev ≠ .twilight ∨ _)
    simp [hdev]
  · rw [htested]
    rfl

/-- The one test under way ends. -/
theorem finishTests_one {u : UnderTest} {passed : Bool} {n : Nat} {s : State} (ht : s.mgmt.testing = [(u, passed, n)])
    (hn : n ≤ s.clock.now) :
    let s' := { s with mgmt := { s.mgmt with testing := [] } }
    finishTests s = if passed then clearFailed s.clock.dayNo u s' else logArmaik none 0x3B (drawFree s').1 (drawFree s').2 := by
  have hdue : (s.mgmt.testing.filter fun t => decide (t.2.2 ≤ s.clock.now)) = [(u, passed, n)] := by simp [ht, hn]
  have hleft : (s.mgmt.testing.filter fun t => decide (s.clock.now < t.2.2)) = [] := by simp [ht, Nat.not_lt.mpr hn]
  unfold finishTests
  dsimp only
  rw [hdue, hleft]
  rfl

theorem tests_finish {n : Nat} {u : UnderTest} {passed : Bool} {s : State} (ht : s.mgmt.testing = [(u, passed, n)])
    (hn : n ≤ s.clock.now) :
    (finishTests s).mgmt.testing = []
    ∧ (passed = true → ∀ i c, u = .spare i c → (rowOf_ (finishTests s) i.val).shiftDay = some s.clock.dayNo
        ∧ ∃ f k, (rowOf_ (finishTests s) i.val).pending = some (f, k) ∧ f.toNat ≠ c.val ∧ k.toNat ≠ c.val)
    ∧ (passed = true → s.removalsNext = [] → ∀ x, u = .removal x →
        (finishTests s).removalsNext = [(s.clock.dayNo, s.removals.erase x, s.removedDies)])
    ∧ (passed = false → (finishTests s).spares = s.spares ∧ (finishTests s).removalsNext = s.removalsNext) := by
  rw [finishTests_one ht hn]
  have hclear : ∀ (v : BitVec 5) (c : Fin 17), (if v.toNat = c.val then (31 : BitVec 5) else v).toNat ≠ c.val := by
    intro v c
    split
    case isTrue =>
      have hc := c.isLt
      change 31 ≠ c.val
      omega
    case isFalse h => exact h
  refine ⟨?_, ?_, ?_, ?_⟩
  · cases passed with
    | true => cases u <;> rfl
    | false =>
      rw [if_neg (by decide)]
      unfold logArmaik
      rw [logItem_mgmt]
      rfl
  · rintro rfl i c rfl
    rw [if_pos rfl]
    unfold clearFailed planRow
    dsimp only
    have hrow : ∀ x t, rowOf_ (setRow i.val x t) i.val = x := fun x t => tget_tset_same ..
    rw [hrow]
    exact ⟨rfl, _, _, rfl, hclear _ c, hclear _ c⟩
  · rintro rfl hnext x rfl
    rw [if_pos rfl]
    unfold clearFailed changeRemovals removalsOn
    simp only [hnext]
    rfl
  · rintro rfl
    rw [if_neg (by decide)]
    unfold logArmaik
    rw [logItem_spares, logItem_removalsNext]
    exact ⟨rfl, rfl⟩

/-! ### Debugging -/

theorem opInside_g {s : State} {r : Option RegionId} {h : Hart} (hr : regionOf s h.core = r ∨ r = none ∧ (regionOf s h.core).isSome = true)
    {op : DebugOp} (hop : (∃ g, op = .readG h g) ∨ (∃ g v, op = .writeG h g v) ∨ op = .halt h) : opInside s r op = true := by
  have hcore : (decide (regionOf s h.core = r) || (r.isNone && (regionOf s h.core).isSome)) = true := by
    rcases hr with hr | ⟨rfl, hs⟩
    · simp [hr]
    · simp [hs]
  rcases hop with ⟨g, rfl⟩ | ⟨g, v, rfl⟩ | rfl <;> exact (congrArg (· && true) hcore)

/-- A debug command on a thread of a core that the session may reach. -/
theorem debugRun_inside {r : Option RegionId} {h : Hart} {s : State} (g : Fin 32) (v : Word)
    (hr : regionOf s h.core = r ∨ r = none ∧ (regionOf s h.core).isSome = true) :
    debugRun r (.readG h g) s = reply 0 [gReg (thread s h) g] s ∧
    debugRun r (.writeG h g v) s = reply 0 [] (modTh s h (putG g v)) ∧
    debugRun r (.halt h) s = reply 0 [] (modTh s h fun t => { t with debugHalt := true }) :=
  ⟨if_pos (opInside_g hr (.inl ⟨g, rfl⟩)), if_pos (opInside_g hr (.inr (.inl ⟨g, v, rfl⟩))), if_pos (opInside_g hr (.inr (.inr rfl)))⟩

/-- A debug session over the management network reaches its own region alone. -/
theorem debug_inRegion {r : RegionId} {h : Hart} {g : Fin 32} {v : Word} {s : State} (hc : commands s) (hd : s.mgmt.debug = some r) :
    (regionOf s h.core ≠ some r → AnswersOnly (.debugCommand ⟨false, .writeG h g v⟩) 0x0B s)
    ∧ (regionOf s h.core = some r →
      exec (.debugCommand ⟨false, .readG h g⟩) s = .next (reply 0 [gReg (thread s h) g] s)
      ∧ exec (.debugCommand ⟨false, .writeG h g v⟩) s = .next (reply 0 [] (modTh s h (putG g v)))
      ∧ exec (.debugCommand ⟨false, .halt h⟩) s = .next (reply 0 [] (modTh s h fun t => { t with debugHalt := true }))) := by
  have hrun : ∀ op, exec (.debugCommand ⟨false, op⟩) s = .next (debugRun (some r) op s) := by
    intro op
    refine congrArg Host.Outcome.next ((if_neg Bool.false_ne_true).trans ((operatorCmd_commands hc _).trans ?_))
    rw [hd]
  refine ⟨fun hr => ?_, fun hr => ?_⟩
  · refine answers_reply (l := s.log) ((hrun _).trans (congrArg Host.Outcome.next (if_neg ?_)))
    change ¬ ((decide (regionOf s h.core = some r) || ((some r : Option RegionId).isNone && (regionOf s h.core).isSome)) && true) = true
    simp [hr]
  · obtain ⟨hread, hwrite, hhalt⟩ := debugRun_inside g v (.inl hr)
    exact ⟨(hrun _).trans (congrArg _ hread), (hrun _).trans (congrArg _ hwrite), (hrun _).trans (congrArg _ hhalt)⟩

/-- A session over the debug TAP reaches any region. -/
theorem debug_tap {h : Hart} {g : Fin 32} {v : Word} {s : State} (hj : s.mgmt.jtagSessions ≠ 0) (hr : (regionOf s h.core).isSome = true) :
    exec (.debugCommand ⟨true, .readG h g⟩) s = .next (reply 0 [gReg (thread s h) g] s)
    ∧ exec (.debugCommand ⟨true, .writeG h g v⟩) s = .next (reply 0 [] (modTh s h (putG g v))) := by
  obtain ⟨hread, hwrite, -⟩ := debugRun_inside (r := none) g v (.inr ⟨rfl, hr⟩)
  exact ⟨congrArg Host.Outcome.next ((if_neg hj).trans hread), congrArg Host.Outcome.next ((if_neg hj).trans hwrite)⟩

theorem countDebug_mgmt (r : RegionId) (s : State) : (countDebug r s).mgmt = s.mgmt := by
  unfold countDebug
  split <;> rfl

theorem foldl_countDebug_mgmt (l : List RegionId) (s : State) : (l.foldl (fun s r => countDebug r s) s).mgmt = s.mgmt := by
  induction l generalizing s with
  | nil => rfl
  | cons r l ih => exact (ih _).trans (countDebug_mgmt r s)

theorem debug_opened {r : RegionId} {s : State} (hc : commands s) (hv : (regOf s r).valid = true) :
    ∃ t, exec (.debugOpen r) s = .next t ∧ t.mgmt.debug = some r ∧ (regOf t r).debugCount = satAdd (regOf s r).debugCount 1 := by
  refine ⟨_, congrArg Host.Outcome.next ((operatorCmd_commands hc _).trans (if_neg (by rw [hv]; decide))), rfl, ?_⟩
  have hcount : countDebug r s = modReg s r fun x => { x with debugCount := satAdd x.debugCount 1 } := if_pos hv
  rw [hcount]
  exact congrArg Region.debugCount (regOf_modReg_same s r fun x => { x with debugCount := satAdd x.debugCount 1 })

theorem tap_counted (s : State) : ∃ t, exec .jtagDebugSession s = .next t ∧ t.mgmt.jtagSessions = satAdd s.mgmt.jtagSessions 1 := by
  refine ⟨_, rfl, ?_⟩
  change satAdd (eachRegion countDebug s).mgmt.jtagSessions 1 = _
  unfold eachRegion
  rw [foldl_countDebug_mgmt]

/-- Settles O53: a command of the presence list runs after its log record; a refused one leaves the state but for the log; the
keys by induction over the regions, the spare map over its rows. -/
theorem managementCommandsNeedTheirRights : Obligations.ManagementCommandsNeedTheirRights := by
  unfold Obligations.ManagementCommandsNeedTheirRights
  intro cert certs img slot who passed r rr h g v s window hello status
  refine ⟨fun h3 ho => handshake_unowned h3 ho, handshake_standby, fun c h3 ho => handshake_owned h3 ho, rfl,
    fun hc ho => unowned_refuses hc ho, fun hc hw => closed_refuses hc hw, fun hc ho hw hn hl => ownership_taken hc ho hw hn hl,
    fun hc hw => ownership_released hc hw, fun hc => firmware_updated hc, fun i hc hw hi => firmware_rolledBack hc hw hi,
    fun hc hw => keys_cleared hc hw, fun hc hw => spareMap_cleared hc hw, fun hc hw hd hn => reinstated hc hw hd hn,
    fun n u ht hn => tests_finish ht hn, fun hc hv => debug_opened hc hv,
    fun hc => ⟨_, congrArg Host.Outcome.next (operatorCmd_commands hc _), rfl⟩, fun hc hd => debug_inRegion hc hd,
    fun hj => congrArg Host.Outcome.next (if_pos hj), fun hj hr => debug_tap hj hr, tap_counted s, fun h3 => ?_, rfl⟩
  refine ⟨_, congrArg Host.Outcome.next (if_pos ?_), rfl, rfl⟩
  unfold watchesPresence
  rw [Bool.or_eq_true]
  exact Or.inl (decide_eq_true h3)

end Sys2Proof.Machine

/-!
SUPPORT. What no step of a Daybreak changes once the clock has turned (R41–R52): the clock, the device's identity, its state and
the cell table.
-/
namespace Sys2Proof.Machine
open Sys2Proof Sys2Proof.Safety

/-- From `s` to `t` the clock, boot, the pins, the device's state and identity, and the cell table with its changes stand. -/
def DayHeld (s t : State) : Prop :=
  t.dev = s.dev ∧ t.clock = s.clock ∧ t.boot = s.boot ∧ t.pins = s.pins ∧ t.deviceId = s.deviceId ∧ t.assigned = s.assigned
    ∧ t.cells = s.cells ∧ t.cellChanges = s.cellChanges

/-- So do the spare map and the removal list. -/
def Plain (s t : State) : Prop :=
  DayHeld s t ∧ t.spares = s.spares ∧ t.removals = s.removals ∧ t.removedDies = s.removedDies ∧ t.removalsNext = s.removalsNext

/-- So do the regions. -/
def Aside (s t : State) : Prop := Plain s t ∧ t.regions = s.regions

/-- So do the cores and the routers. -/
def HostSide (s t : State) : Prop := Aside s t ∧ t.cores = s.cores ∧ t.routers = s.routers

theorem DayHeld.refl (s : State) : DayHeld s s := ⟨rfl, rfl, rfl, rfl, rfl, rfl, rfl, rfl⟩
theorem Plain.refl (s : State) : Plain s s := ⟨DayHeld.refl s, rfl, rfl, rfl, rfl⟩
theorem Aside.refl (s : State) : Aside s s := ⟨Plain.refl s, rfl⟩
theorem HostSide.refl (s : State) : HostSide s s := ⟨Aside.refl s, rfl, rfl⟩

theorem DayHeld.trans {s t u : State} (a : DayHeld s t) (b : DayHeld t u) : DayHeld s u := by grind [DayHeld]
theorem Plain.trans {s t u : State} (a : Plain s t) (b : Plain t u) : Plain s u := by grind [Plain, DayHeld]
theorem Aside.trans {s t u : State} (a : Aside s t) (b : Aside t u) : Aside s u := ⟨a.1.trans b.1, b.2.trans a.2⟩
theorem HostSide.trans {s t u : State} (a : HostSide s t) (b : HostSide t u) : HostSide s u :=
  ⟨a.1.trans b.1, b.2.1.trans a.2.1, b.2.2.trans a.2.2⟩

theorem foldl_held {α : Type} {f : State → α → State} (hf : ∀ s x, DayHeld s (f s x)) (l : List α) (s : State) :
    DayHeld s (l.foldl f s) := foldl_ok (P := DayHeld s) (fun _ x h => h.trans (hf _ x)) l s (DayHeld.refl s)
theorem foldl_plain {α : Type} {f : State → α → State} (hf : ∀ s x, Plain s (f s x)) (l : List α) (s : State) :
    Plain s (l.foldl f s) := foldl_ok (P := Plain s) (fun _ x h => h.trans (hf _ x)) l s (Plain.refl s)
theorem foldl_aside {α : Type} {f : State → α → State} (hf : ∀ s x, Aside s (f s x)) (l : List α) (s : State) :
    Aside s (l.foldl f s) := foldl_ok (P := Aside s) (fun _ x h => h.trans (hf _ x)) l s (Aside.refl s)
theorem foldl_hostSide {α : Type} {f : State → α → State} (hf : ∀ s x, HostSide s (f s x)) (l : List α) (s : State) :
    HostSide s (l.foldl f s) := foldl_ok (P := HostSide s) (fun _ x h => h.trans (hf _ x)) l s (HostSide.refl s)

theorem modCore_aside (c : CoreId) (f : Core → Core) (s : State) : Aside s (modCore s c f) := Aside.refl s
theorem modReg_plain (r : RegionId) (f : Region → Region) (s : State) : Plain s (modReg s r f) := Plain.refl s

theorem coresIn_held {f : CoreId → State → State} (hf : ∀ c s, DayHeld s (f c s)) (s : State) (r : RegionId) :
    DayHeld s (coresIn s r f) := foldl_held (fun s c => hf c s) _ _
theorem coresIn_aside {f : CoreId → State → State} (hf : ∀ c s, Aside s (f c s)) (s : State) (r : RegionId) :
    Aside s (coresIn s r f) := foldl_aside (fun s c => hf c s) _ _

/-! ### The host's side -/

theorem logItem_hostSide (i : LogItem) (s : State) : HostSide s (logItem i s) := by
  obtain ⟨l, f, h⟩ := logItem_eq i s
  rw [h]
  exact HostSide.refl s

theorem wantStore_hostSide (i : FlashItem) (s : State) : HostSide s (wantStore i s) := by
  obtain ⟨b, h, -⟩ := wantStore_flash i s
  rw [h]
  exact HostSide.refl s

theorem OnlySpills.hostSide {s t : State} (h : OnlySpills s t) : HostSide s t := by
  obtain ⟨a, b, o, rfl⟩ := h
  exact HostSide.refl s

theorem writeBack_hostSide (r : RegionId) (s : State) : HostSide s (writeBack r s) := (writeBack_onlySpills r s).hostSide

theorem hostLog_hostSide (fn : FnId) (r : Option RegionId) (st : BitVec 8) (info : Word) (s : State) :
    HostSide s (hostLog fn r st info s) := ite_ok (P := HostSide s) (logItem_hostSide ..) (HostSide.refl s)

theorem postCqe_hostSide (fn : FnId) (c : Nat) (e : Cqe) (s : State) : HostSide s (postCqe fn c e s) := HostSide.refl s

theorem notLive_hostSide (fn : FnId) (ring : Fin 16) (seq : Nat) (s : State) : HostSide s (notLive fn ring seq s) :=
  HostSide.refl s

theorem completeDesc_hostSide (fn : FnId) (r : Nat) (cid : BitVec 16) (op st : BitVec 8) (info : Word) (noCqe : Bool)
    (s : State) : HostSide s (completeDesc fn r cid op st info noCqe s) :=
  ite_ok (P := HostSide s) (hostLog_hostSide ..) (hostLog_hostSide ..)

theorem fnEvent_hostSide (fn : FnId) (n : Nat) (st : BitVec 8) (info : Word) (s : State) :
    HostSide s (fnEvent fn n st info s) := ite_ok (P := HostSide s) (hostLog_hostSide ..) (hostLog_hostSide ..)

theorem closePort_hostSide (fn : FnId) (k : Nat) (st : BitVec 8) (info : Word) (s : State) :
    HostSide s (closePort fn k st info s) := by
  unfold closePort
  split
  · exact HostSide.refl s
  next p _ =>
    have hclosed : HostSide s (hostLog fn (regionOfFn s fn) st info
        (setFn s fn { fnOf s fn with ports := tdel (fnOf s fn).ports k })) := hostLog_hostSide ..
    dsimp only
    generalize hostLog fn (regionOfFn s fn) st info _ = t at hclosed ⊢
    have hposted := fun c e => hclosed.trans (postCqe_hostSide fn c e t)
    split
    · exact hposted _ _
    · exact (hposted _ _).trans ((notLive_hostSide ..).trans (completeDesc_hostSide ..))

theorem closePorts_hostSide (fn : FnId) (st : BitVec 8) (s : State) : HostSide s (closePorts fn st s) :=
  foldl_hostSide (fun _ _ => closePort_hostSide ..) _ _

theorem endNotify_hostSide (n : PendNotify) (st : BitVec 8) (info : Word) (s : State) : HostSide s (endNotify n st info s) :=
  (notLive_hostSide ..).trans (completeDesc_hostSide ..)

theorem freeSlot_plain (slot : Option (RegionId × Nat)) (s : State) : Plain s (freeSlot slot s) := by
  cases slot <;> exact Plain.refl s

theorem endLaunch_plain (r : RegionId) (k : Nat) (st : BitVec 8) (info : Word) (s : State) :
    Plain s (endLaunch r k st info s) := by
  unfold endLaunch
  dsimp only
  split
  · exact Plain.refl s
  next l _ =>
    have hsettled : Plain s (hostLog l.fn (some r) st info (writeBack r s)) :=
      (writeBack_hostSide r s).1.1.trans (hostLog_hostSide ..).1.1
    have hended : Plain s (notLive l.fn l.ring l.seq (modReg (hostLog l.fn (some r) st info (writeBack r s)) r
        fun x => { x with launches := tset x.launches k { l with ended := true } })) := hsettled
    exact ite_ok (P := Plain s) (Plain.refl s) (ite_ok (P := Plain s) (hostLog_hostSide ..).1.1
      (ite_ok (P := Plain s) (hended.trans (freeSlot_plain ..)) hended))

/-! ### Streams, threads and cores -/

theorem raiseEvent_aside (h : Hart) (e : Nat) (s : State) : Aside s (raiseEvent h e s) := Aside.refl s

theorem setEngine_aside (s : State) (e : EngineId) (x : Engine) : Aside s (setEngine s e x) := Aside.refl s

theorem deliverRecord_aside (e : EngineId) (h : Hart) (w : Word) (s : State) : Aside s (deliverRecord e h w s) :=
  ite_ok (P := Aside s) (Aside.refl s) (ite_ok (P := Aside s) (Aside.refl s) (Aside.refl s))

theorem cancelEngine_aside (e : EngineId) (st : BitVec 8) (s : State) : Aside s (cancelEngine e st s) := by
  unfold cancelEngine
  dsimp only
  split
  · exact Aside.refl s
  · refine Aside.trans ?_ (foldl_aside (fun _ _ => deliverRecord_aside ..) _ _)
    refine Aside.trans ?_ (foldl_aside (fun _ _ => deliverRecord_aside ..) _ _)
    exact Aside.trans (Aside.refl s) (deliverRecord_aside ..)

theorem focused_aside (e : EngineId) (i : Nat) {f : State → State} (hf : ∀ s, Aside s (f s)) (s : State) :
    Aside s (focused e i f s) :=
  ite_ok (P := Aside s) (hf s) (((setEngine_aside ..).trans (hf _)).trans (setEngine_aside ..))

theorem cancelQueued_aside (e : EngineId) (f : StreamCmd → Bool) (s : State) : Aside s (cancelQueued e f s) :=
  (setEngine_aside ..).trans (foldl_aside (fun _ _ => deliverRecord_aside ..) _ _)

theorem cancelRuns_aside (g : StreamRun → Bool) (f : StreamCmd → Bool) (s : State) : Aside s (cancelRuns g f s) := by
  refine foldl_aside (fun s e => ?_) _ _
  split
  · exact focused_aside _ _ (fun s => cancelEngine_aside e 0x25 s) _
  · exact cancelQueued_aside ..

theorem cancelRegion_aside (r : RegionId) (s : State) : Aside s (cancelRegion r s) := cancelRuns_aside ..

theorem startThread_aside (core : CoreId) (i : Fin 4) (s : State) : Aside s (startThread core i s) := Aside.refl s

theorem firstStatus_plain (core : CoreId) (s : State) : Plain s (firstStatus core s) := by
  unfold firstStatus
  split
  · exact ite_ok (P := Plain s) (modReg_plain ..) (Plain.refl s)
  · exact Plain.refl s

theorem releaseCore_plain (core : CoreId) (s : State) : Plain s (releaseCore core s) := by
  refine Plain.trans ((modCore_aside ..).1.trans (firstStatus_plain core _)) (foldl_plain (fun s i => ?_) _ _)
  exact ite_ok (P := Plain s) (startThread_aside ..).1 (modCore_aside ..).1

theorem startTasks_aside (core : CoreId) (s : State) : Aside s (startTasks core s) :=
  foldl_aside (fun s _ => ite_ok (P := Aside s) (startThread_aside ..) (Aside.refl s)) _ _

theorem startHeld_aside (core : CoreId) (s : State) : Aside s (startHeld core s) :=
  foldl_aside (fun s _ => ite_ok (P := Aside s) (startThread_aside ..) (Aside.refl s)) _ _

theorem resetZero_aside (core : CoreId) (s : State) : Aside s (resetZero core s) := Aside.refl s

theorem placeMember_aside (s : State) (h : BootHeader) (cell : BitVec 128) (m : Nat) (t : State) :
    Aside t (placeMember s h cell m t) := Aside.refl t

theorem reloadCore_aside (r : RegionId) (core : CoreId) (s : State) : Aside s (reloadCore r core s).2 := by
  unfold reloadCore
  dsimp only
  split
  · exact placeMember_aside ..
  · exact Aside.refl s

theorem setRouter_aside (s : State) (c : CoreId) (x : Router) : Aside s (setRouter s c x) := Aside.refl s

theorem clearBanks_aside (core : CoreId) (s : State) : Aside s (clearBanks core s) :=
  (ite_ok (P := Aside s) (setRouter_aside ..) (Aside.refl s)).trans (modCore_aside ..)

theorem clearActive_aside (core : CoreId) (s : State) : Aside s (clearActive core s) :=
  (ite_ok (P := Aside s) (setRouter_aside ..) (Aside.refl s)).trans (modCore_aside ..)

theorem clearInactive_aside (r : RegionId) (s : State) : Aside s (clearInactive r s) := by
  refine foldl_aside (fun s c => ?_) _ _
  have hrouter : Aside s (if (tfind s.routers c.val).isSome then setRouter s c (setInactive (routerOf s c) []) else s) :=
    ite_ok (P := Aside s) (setRouter_aside ..) (Aside.refl s)
  exact ite_ok (P := Aside s) hrouter (hrouter.trans (modCore_aside ..))

theorem quietThread_aside (core : CoreId) (s : State) (i : Fin 4) : Aside s (quietThread core s i) := Aside.refl s

theorem count_aside (s : State) (a n : Nat) : Aside s (count s a n) := Aside.refl s

theorem quiesce_aside (r : RegionId) (s : State) : Aside s (quiesce r s) := by
  refine Aside.trans ((foldl_aside (fun _ _ => count_aside ..) _ _).trans (coresIn_aside (fun c s => ?_) _ _))
    (cancelRegion_aside r _)
  exact (foldl_aside (quietThread_aside c) _ _).trans (modCore_aside ..)

/-! ### Regions -/

theorem endStarted_plain (r : RegionId) (cause : BitVec 8) (s : State) : Plain s (endStarted r cause s) :=
  foldl_plain (fun _ _ => endLaunch_plain ..) _ _

theorem stopRegion_plain (r : RegionId) (cause : BitVec 8) (tell : Bool) (s : State) : Plain s (stopRegion r cause tell s) := by
  have hevent : HostSide s (match fnOfRegion s r with
      | some fn => fnEvent fn 3 cause (BitVec.ofNat 64 r.val) s
      | none => s) := by
    split
    · exact fnEvent_hostSide ..
    · exact HostSide.refl s
  have hended := (hevent.trans (writeBack_hostSide r _)).1.1.trans (endStarted_plain r cause _)
  refine Plain.trans (Plain.trans ?_ (modReg_plain ..)) (quiesce_aside r _).1
  exact ite_ok (P := Plain s) (hended.trans (logItem_hostSide ..).1.1) hended

theorem countersZero_hostSide (r : RegionId) (s : State) : HostSide s (countersZero r s) := by
  unfold countersZero
  dsimp only
  split <;> exact HostSide.refl s

theorem bornRegion_plain (r : RegionId) (s : State) : Plain s (bornRegion r s) := by
  have hborn := (countersZero_hostSide r s).1.1.trans (modReg_plain r (fun x =>
    { x with valid := true, gen := x.gen + 1, bootDue := true, loaded := false, loadFailed := false,
             measurement := 0, borderOk := true, farVf := x.vf, posted := (0, 0) }) _)
  unfold bornRegion
  dsimp only
  split
  · exact hborn.trans (fnEvent_hostSide ..).1.1
  · exact hborn

theorem dropLines_hostSide (r : RegionId) (s : State) : HostSide s (dropLines r s) := HostSide.refl s

/-- What a deletion does to the launches and notifications of its region. -/
theorem ends_plain (r : RegionId) (a b : BitVec 8) (w v : Word) (l : Tab Launch) (n : List PendNotify) (s : State) :
    Plain s (n.foldl (fun s n => endNotify n b v s) (l.foldl (fun s e => endLaunch r e.1 a w s) s)) :=
  (foldl_plain (fun _ _ => endLaunch_plain ..) _ _).trans (foldl_plain (fun _ _ => (endNotify_hostSide ..).1.1) _ _)

theorem deadRegion_plain (r : RegionId) (s : State) : Plain s (deadRegion r s) := by
  have hquiet : Plain s (quiesce r (writeBack r s)) := (writeBack_hostSide r s).1.1.trans (quiesce_aside r _).1
  have hend : ∀ l n, Plain s (List.foldl (fun s (n : PendNotify) => endNotify n 0x2B 0 s) (List.foldl (fun s
      (e : Nat × Launch) => endLaunch r e.1 0x2E (BitVec.ofNat 64 r.val) s) (quiesce r (writeBack r s)) l) n) :=
    fun l n => hquiet.trans (ends_plain ..)
  have hlines : ∀ t, Plain s t → Plain s (dropLines r (coresIn t r resetZero)) := fun t ht =>
    ht.trans ((coresIn_aside resetZero_aside _ _).1.trans (dropLines_hostSide r _).1.1)
  unfold deadRegion
  dsimp only
  split
  · exact hlines _ ((hend _ _).trans ((closePorts_hostSide ..).trans (fnEvent_hostSide ..)).1.1)
  · exact hlines _ (hend _ _)

theorem reboot_plain (r : RegionId) (image : BitVec 40) (s : State) : Plain s (reboot r image s) :=
  (coresIn_aside resetZero_aside _ _).1.trans (modReg_plain ..)

theorem genUp_plain (r : RegionId) (s : State) : Plain s (genUp r s) := modReg_plain ..

theorem switchRegion_plain (r : RegionId) (image : BitVec 40) (s : State) : Plain s (switchRegion r image s) := by
  have hboot := (reboot_plain r image s).trans (genUp_plain r _)
  unfold switchRegion
  generalize genUp r (reboot r image s) = t at hboot ⊢
  exact hboot

theorem rejoinCore_plain (core : CoreId) (s : State) : Plain s (rejoinCore core s) := by
  have hbanks : Plain s (clearBanks core (modCore s core fun c => { emptyQueues c with night := none, selfTest := none })) :=
    ((modCore_aside ..).trans (clearBanks_aside ..)).1
  have hfree := ite_ok (P := Plain s) (p := ((coreOf (clearBanks core (modCore s core fun c =>
    { emptyQueues c with night := none, selfTest := none })) core).released && mayRun (clearBanks core (modCore s core fun c =>
    { emptyQueues c with night := none, selfTest := none })) core) = true) (hbanks.trans (releaseCore_plain core _)) hbanks
  exact hfree

theorem coresIn_plain {f : CoreId → State → State} (hf : ∀ c s, Plain s (f c s)) (s : State) (r : RegionId) :
    Plain s (coresIn s r f) := foldl_plain (fun s c => hf c s) _ _

theorem rejoinRegion_plain (r : RegionId) (s : State) : Plain s (rejoinRegion r s) := by
  have hjoin : Plain s (genUp r (coresIn s r rejoinCore)) := (coresIn_plain rejoinCore_plain s r).trans (genUp_plain ..)
  unfold rejoinRegion
  dsimp only
  generalize genUp r (coresIn s r rejoinCore) = t at hjoin ⊢
  split
  · have hboot := hjoin.trans (reboot_plain r (regOf t r).bootImage t)
    generalize reboot r (regOf t r).bootImage t = u at hboot ⊢
    exact hboot
  · exact hjoin.trans (modReg_plain ..)

theorem startWake_plain (r : RegionId) (s : State) : Plain s (startWake r s) :=
  (coresIn_aside (fun _ _ => modCore_aside ..) s r).1.trans (modReg_plain ..)

/-! ### Spare cores -/

theorem holdCore_aside (c : CoreId) (s : State) : Aside s (holdCore c s) := modCore_aside ..

theorem openGate_aside (c : CoreId) (s : State) : Aside s (openGate c s) :=
  ite_ok (P := Aside s) (modCore_aside ..) (Aside.refl s)

theorem restoreCore_plain (fresh : Bool) (s : State) (c : CoreId) : Plain s (restoreCore fresh s c) := by
  have hopen := (openGate_aside c s).1
  unfold restoreCore
  dsimp only
  split
  next r _ =>
    have hload : Plain s (modCore (reloadCore r c (modCore (openGate c s) c fun y => zeroedCore (clearedCore y))).2 c
        fun y => { y with released := (reloadCore r c (modCore (openGate c s) c fun y => zeroedCore (clearedCore y))).1 }) :=
      hopen.trans (((modCore_aside ..).trans (reloadCore_aside r c _)).trans (modCore_aside ..)).1
    exact ite_ok (P := Plain s) (ite_ok (P := Plain s) hload (hload.trans (rejoinCore_plain ..)))
      (ite_ok (P := Plain s) hopen (hopen.trans (rejoinCore_plain ..)))
  · exact ite_ok (P := Plain s) (hopen.trans (modCore_aside ..).1) hopen

theorem newBanks_aside (c : CoreId) (s : State) : Aside s (newBanks c s) :=
  ite_ok (P := Aside s) (clearActive_aside ..) (clearBanks_aside ..)

theorem moveAsleep_plain (c : CoreId) (s : State) : Plain s (moveAsleep c s) := by
  unfold moveAsleep
  dsimp only
  split
  · exact ite_ok (P := Plain s) (Plain.refl s) (Plain.refl s)
  · exact Plain.refl s

theorem moveCore_plain (migrated : Bool) (s : State) (c : CoreId) : Plain s (moveCore migrated s c) := by
  have hbanks : Plain s (newBanks c (openGate c s)) := ((openGate_aside c s).trans (newBanks_aside c _)).1
  have hmoved := ite_ok (P := Plain s) (p := (coreOf (newBanks c (openGate c s)) c).night.isSome = true)
    (hbanks.trans (moveAsleep_plain c _))
    (ite_ok (P := Plain s) (p := ((regionOf (newBanks c (openGate c s)) c).isSome = true ∧ (!migrated) = true))
      (hbanks.trans (modCore_aside c migrateCore _).1) hbanks)
  exact ite_ok (P := Plain s) (hmoved.trans (releaseCore_plain c _)) hmoved

theorem delayResume_plain (s : State) (r : RegionId) : Plain s (delayResume s r) := modReg_plain ..

theorem shiftRow_held (s : State) (i : Nat) : DayHeld s (shiftRow s i) := by
  have hmoved : ∀ x m l, DayHeld s (List.foldl (moveCore m) (wantStore .spareMap (setRow i x s)) l) := fun x m l =>
    DayHeld.trans (show DayHeld s _ from (wantStore_hostSide .spareMap (setRow i x s)).1.1.1)
      (foldl_held (fun s c => (moveCore_plain m s c).1) _ _)
  unfold shiftRow
  dsimp only
  split
  · exact DayHeld.refl s
  · refine ite_ok (P := DayHeld s) (DayHeld.refl s) ?_
    split
    · refine DayHeld.trans ?_ (modCore_aside ..).1.1
      refine ((hmoved _ _ _).trans (foldl_held (fun s r => (delayResume_plain s r).1) _ _)).trans (foldl_held (fun s _ => ?_) _ _)
      exact ite_ok (P := DayHeld s) (DayHeld.refl s) (restoreCore_plain ..).1
    · refine ((hmoved _ _ _).trans (foldl_held (fun s r => (delayResume_plain s r).1) _ _)).trans (foldl_held (fun s _ => ?_) _ _)
      exact ite_ok (P := DayHeld s) (DayHeld.refl s) (restoreCore_plain ..).1

theorem shiftRemovals_held (s : State) : DayHeld s (shiftRemovals s) :=
  ite_ok (P := DayHeld s) (DayHeld.refl s) (DayHeld.trans (show DayHeld s _ from (wantStore_hostSide .spareMap
    { s with
      removals := (removalsOn s s.clock.dayNo).1
      removedDies := (removalsOn s s.clock.dayNo).2
      removalsNext := s.removalsNext.filter fun e => decide (s.clock.dayNo < e.1) }).1.1.1)
    (foldl_held (fun s c => (restoreCore_plain true s c).1) _ _))

theorem shiftMap_held (s : State) : DayHeld s (shiftMap s) :=
  ((foldl_held shiftRow_held _ s).trans (shiftRemovals_held _)).trans (foldl_held (fun s r => (genUp_plain r s).1) _ _)

theorem finishTests_held (s : State) : DayHeld s (finishTests s) := by
  have hcleared : ∀ n u s, DayHeld s (clearFailed n u s) := fun n u s => by cases u <;> exact DayHeld.refl s
  have htested : DayHeld s { s with mgmt := { s.mgmt with
      testing := s.mgmt.testing.filter fun t => decide (s.clock.now < t.2.2) } } := DayHeld.refl s
  refine htested.trans (foldl_held (fun s t => ?_) _ _)
  exact ite_ok (P := DayHeld s) (hcleared ..) (logItem_hostSide _ (drawFree s).2).1.1.1

theorem borderStep_plain (s : State) (r : RegionId) : Plain s (borderStep s r) :=
  ite_ok (P := Plain s) (Plain.refl s) (((foldl_plain (fun _ _ => (logItem_hostSide ..).1.1) _ _).trans (modReg_plain ..)).trans
    (coresIn_aside (fun _ s => ite_ok (P := Aside s) (holdCore_aside ..) (Aside.refl s)) _ _).1)

/-! ### The steps of Daybreak -/

theorem eachRegion_held {f : RegionId → State → State} (hf : ∀ r s, Plain s (f r s)) (s : State) : DayHeld s (eachRegion f s) :=
  foldl_held (fun s r => (hf r s).1) _ _

theorem stopStep_plain (wasDay twi : Bool) (r : RegionId) (s : State) : Plain s (stopStep wasDay twi r s) := by
  refine ite_ok (P := Plain s) (Plain.refl s) (ite_ok (P := Plain s) (deadRegion_plain r s) ?_)
  split
  · exact stopRegion_plain ..
  · exact Plain.refl s

theorem applyRegionChange_plain (r : RegionId) (s : State) (c : RegionChange) : Plain s (applyRegionChange r s c) := by
  cases c with
  | create => exact bornRegion_plain r s
  | delete => exact Plain.refl s
  | switch image => exact switchRegion_plain r image s
  | night kind wake => exact modReg_plain ..

theorem changeStep_plain (r : RegionId) (s : State) : Plain s (changeStep r s) :=
  ite_ok (P := Plain s) (Plain.refl s) ((modReg_plain ..).trans (foldl_plain (applyRegionChange_plain r) _ _))

theorem bindVf_plain (r : RegionId) (vf : BitVec 9) (s : State) : Plain s (bindVf r vf s) := by
  have hold : HostSide s (match fnOfRegion s r with
      | some fn => fnEvent fn 2 0 (BitVec.ofNat 64 r.val) (closePorts fn 0x2B s)
      | none => s) := by
    split
    · exact (closePorts_hostSide ..).trans (fnEvent_hostSide ..)
    · exact HostSide.refl s
  have hbound : ∀ t l n f, Plain s t → Plain s (modReg (List.foldl (fun s (n : PendNotify) => endNotify n 0x2B 0 s)
      (List.foldl (fun s (e : Nat × Launch) => endLaunch r e.1 0x2B 0 s) t l) n) r f) := fun t l n f ht =>
    (ht.trans (ends_plain ..)).trans (modReg_plain ..)
  unfold bindVf
  dsimp only
  split
  · exact (hbound _ _ _ _ hold.1.1).trans (fnEvent_hostSide ..).1.1
  · exact hbound _ _ _ _ hold.1.1

theorem bindStep_plain (r : RegionId) (s : State) : Plain s (bindStep r s) :=
  ite_ok (P := Plain s) (Plain.refl s) (ite_ok (P := Plain s) (modReg_plain ..) ((modReg_plain ..).trans (bindVf_plain ..)))

theorem swapBanks_plain (r : RegionId) (s : State) : Plain s (swapBanks r s) := by
  refine Plain.trans (coresIn_aside (fun c s => ?_) s r).1 (modReg_plain ..)
  have hrouter : Aside s (if (tfind s.routers c.val).isSome then
      setRouter s c { routerOf s c with active := !(routerOf s c).active } else s) :=
    ite_ok (P := Aside s) (setRouter_aside ..) (Aside.refl s)
  exact ite_ok (P := Aside s) hrouter hrouter

theorem swapStep_plain (r : RegionId) (s : State) : Plain s (swapStep r s) := by
  have hswap := swapBanks_plain r s
  refine ite_ok (P := Plain s) (Plain.refl s) (ite_ok (P := Plain s) (hswap.trans (coresIn_aside startHeld_aside _ _).1)
    (ite_ok (P := Plain s) ?_ (Plain.refl s)))
  refine Plain.trans ?_ (coresIn_aside startTasks_aside _ _).1
  have hruns := hswap.trans (modReg_plain r (fun x => { x with stopped := false, stopE5 := false, resumeReq := false }) _)
  split
  · exact hruns.trans (fnEvent_hostSide ..).1.1
  · exact hruns

theorem wakeStep_plain (r : RegionId) (s : State) : Plain s (wakeStep r s) := by
  refine ite_ok (P := Plain s) (Plain.refl s) ?_
  split
  · exact ite_ok (P := Plain s) (rejoinRegion_plain r s) (Plain.refl s)
  · exact ite_ok (P := Plain s) (startWake_plain r s) (Plain.refl s)

theorem joinStop_plain (r : RegionId) (s : State) : Plain s (joinStop r s) :=
  ite_ok (P := Plain s) (stopRegion_plain ..) (Plain.refl s)

theorem sampleStep_plain (r : RegionId) (s : State) : Plain s (sampleStep r s) :=
  ite_ok (P := Plain s) (modReg_plain ..) (Plain.refl s)

theorem loadStep_plain (r : RegionId) (s : State) : Plain s (loadStep r s) := by
  unfold loadStep
  split
  · exact (modReg_plain ..).trans (clearInactive_aside r _).1
  · exact Plain.refl s

theorem farStep_plain (r : RegionId) (s : State) : Plain s (farStep r s) :=
  ite_ok (P := Plain s) (Plain.refl s) ((writeBack_hostSide r s).1.1.trans (modReg_plain ..))

theorem farFlush_hostSide (s : State) : HostSide s (farFlush s) :=
  foldl_hostSide (fun _ _ => (cleanLines_onlySpills ..).hostSide) _ _

theorem finishTests_twilightAt (s : State) : (finishTests s).twilightAt = s.twilightAt := by
  refine foldl_ok (P := fun t : State => t.twilightAt = s.twilightAt) (fun t u h => ?_) _ _ rfl
  dsimp only
  split
  · cases u.1 <;> exact h
  · exact (logItem_twilightAt ..).trans h

theorem finishTests_twilightDue (s : State) : twilightDue (finishTests s) = twilightDue s := by
  obtain ⟨-, hclock, -⟩ := finishTests_held s
  unfold twilightDue
  rw [finishTests_twilightAt, hclock]

/-- The device's state once the operator's and the conditions' turn is taken (R446, R447). -/
def turned (s : State) : State :=
  if twilightDue s then { s with dev := .twilight, twilightAt := none }
  else if daylightOk s then { s with dev := .daylight, daylightReq := false } else s

/-- The state of the device in which a Daybreak leaves it. -/
def dayDev (s : State) : DevState :=
  if twilightDue s then .twilight else if daylightOk (finishTests s) then .daylight else s.dev

theorem turned_held (s : State) : DayHeld { s with dev := (turned s).dev } (turned s) := by
  unfold turned
  split
  · exact DayHeld.refl _
  split
  · exact DayHeld.refl _
  · exact DayHeld.refl s

theorem turned_dev (s : State) : (turned (finishTests s)).dev = dayDev s := by
  obtain ⟨hdev, -⟩ := finishTests_held s
  unfold turned dayDev
  rw [finishTests_twilightDue]
  split
  · rfl
  split
  · rfl
  · exact hdev

/-- What follows the cell table's change at a Daybreak. -/
def afterCells (checked : List RegionId) (s : State) : State :=
  let s := eachRegion changeStep s
  let s := checked.foldl borderStep (eachRegion farStep (eachRegion bindStep s))
  let s := if s.dev = .daylight then eachRegion swapStep s else s
  let s := eachRegion wakeStep s
  let s := eachRegion joinStop s
  let s := eachRegion sampleStep s
  let s := eachRegion loadStep s
  let s := farFlush (if s.log.unsaved = 0 then s else wantStore .persistentLog s)
  routeDay { s with
    cores := tmap coreDay s.cores
    routers := tmap routerDay s.routers
    fns := tmap (farDay s) s.fns
    ports := tmap (portDay s) s.ports }

theorem afterCells_held (checked : List RegionId) (s : State) : DayHeld s (afterCells checked s) := by
  have hborder : DayHeld s (checked.foldl borderStep (eachRegion farStep (eachRegion bindStep (eachRegion changeStep s)))) :=
    (((eachRegion_held changeStep_plain s).trans (eachRegion_held bindStep_plain _)).trans (eachRegion_held farStep_plain _)).trans
      (foldl_held (fun s r => (borderStep_plain s r).1) _ _)
  unfold afterCells
  dsimp only
  generalize checked.foldl borderStep (eachRegion farStep (eachRegion bindStep (eachRegion changeStep s))) = t at hborder ⊢
  have hswap : DayHeld s (if t.dev = .daylight then eachRegion swapStep t else t) :=
    ite_ok (P := DayHeld s) (hborder.trans (eachRegion_held swapStep_plain t)) hborder
  generalize (if t.dev = .daylight then eachRegion swapStep t else t) = u at hswap ⊢
  have hload : DayHeld s (eachRegion loadStep (eachRegion sampleStep (eachRegion joinStop (eachRegion wakeStep u)))) :=
    (((hswap.trans (eachRegion_held wakeStep_plain u)).trans (eachRegion_held joinStop_plain _)).trans
      (eachRegion_held sampleStep_plain _)).trans (eachRegion_held loadStep_plain _)
  generalize eachRegion loadStep (eachRegion sampleStep (eachRegion joinStop (eachRegion wakeStep u))) = v at hload ⊢
  have hflush : DayHeld s (farFlush (if v.log.unsaved = 0 then v else wantStore .persistentLog v)) :=
    DayHeld.trans (ite_ok (P := DayHeld s) hload (hload.trans (wantStore_hostSide ..).1.1.1)) (farFlush_hostSide _).1.1.1
  generalize farFlush (if v.log.unsaved = 0 then v else wantStore .persistentLog v) = w at hflush ⊢
  exact hflush

/-- The regions stop, and bad words of the flag banks have been seen. -/
def stopped (wasDay : Bool) (s : State) : State :=
  { eachRegion (stopStep wasDay (twilightDue (finishTests s))) (turned (finishTests s)) with badFlagWords := [] }

theorem daybreakBody_eq (wasDay : Bool) (s : State) : daybreakBody wasDay s
    = afterCells (checkedRegions (swapCells (stopped wasDay s))) (shiftMap (swapCells (stopped wasDay s))) := by
  unfold daybreakBody afterCells stopped turned
  dsimp only

theorem stopped_held (wasDay : Bool) (s : State) : DayHeld { s with dev := dayDev s } (stopped wasDay s) := by
  have hturn : DayHeld { s with dev := dayDev s } (turned (finishTests s)) := by
    have hheld := turned_held (finishTests s)
    rw [turned_dev] at hheld
    exact DayHeld.trans (s := { s with dev := dayDev s }) (t := { finishTests s with dev := dayDev s })
      ⟨rfl, (finishTests_held s).2⟩ hheld
  have hstop := hturn.trans (eachRegion_held (stopStep_plain wasDay (twilightDue (finishTests s))) _)
  unfold stopped
  generalize eachRegion (stopStep wasDay (twilightDue (finishTests s))) (turned (finishTests s)) = t at hstop ⊢
  exact hstop

/-- The body of Daybreak keeps the clock and the device's identity, decides the device's state, and puts the cell-table
changes of the new Day in force. -/
theorem daybreakBody_held (wasDay : Bool) (s : State) :
    let t := daybreakBody wasDay s
    t.dev = dayDev s ∧ t.clock = s.clock ∧ t.boot = s.boot ∧ t.pins = s.pins ∧ t.deviceId = s.deviceId ∧ t.assigned = s.assigned
      ∧ t.cells = (s.cellChanges.filter fun c => decide (c.day ≤ s.clock.dayNo)).foldl applyChange s.cells
      ∧ t.cellChanges = s.cellChanges.filter fun c => decide (s.clock.dayNo < c.day) := by
  have hstop := stopped_held wasDay s
  rw [daybreakBody_eq]
  generalize stopped wasDay s = u at hstop ⊢
  obtain ⟨hdev, hclock, hboot, hpins, hid, hassigned, hcells, hchanges⟩ := hstop
  obtain ⟨kdev, kclock, kboot, kpins, kid, kassigned, kcells, kchanges⟩ :=
    (shiftMap_held (swapCells u)).trans (afterCells_held (checkedRegions (swapCells u)) _)
  refine ⟨kdev.trans hdev, kclock.trans hclock, kboot.trans hboot, kpins.trans hpins, kid.trans hid, kassigned.trans hassigned,
    kcells.trans ?_, kchanges.trans ?_⟩
  · unfold swapCells
    dsimp only
    rw [hcells, hchanges, hclock]
  · unfold swapCells
    dsimp only
    rw [hchanges, hclock]

end Sys2Proof.Machine

/-!
SUPPORT. What a reset leaves, what boot reads, and what the first Daybreak and the end of the memory tests leave (R429–R444,
R478).
-/
namespace Sys2Proof.Machine
open Sys2Proof Sys2Proof.Safety

/-! ### Boot -/

/-- From `s` to `t` all that Midnight speaks of stands. -/
def BootSide (s t : State) : Prop :=
  t.dev = s.dev ∧ t.cores = s.cores ∧ t.regions = s.regions ∧ t.cells = s.cells ∧ t.counters = s.counters ∧ t.fns = s.fns
    ∧ t.pending = s.pending ∧ t.flash = s.flash ∧ t.clock = s.clock

theorem BootSide.refl (s : State) : BootSide s s := ⟨rfl, rfl, rfl, rfl, rfl, rfl, rfl, rfl, rfl⟩

theorem BootSide.trans {s t u : State} (a : BootSide s t) (b : BootSide t u) : BootSide s u := by grind [BootSide]

theorem BootSide.midnight {s t u : State} (a : inMidnight s t) (b : BootSide t u) : inMidnight s u := by
  grind [BootSide, inMidnight]

theorem midnight_inMidnight (keep : Bool) (s : State) : inMidnight s (midnight keep s) :=
  ⟨rfl, rfl, rfl, rfl, rfl, rfl, rfl, rfl, rfl, rfl⟩

/-- A record that no flash keeps changes the log alone. -/
theorem logItem_volatile {i : LogItem} (s : State) (h : ¬ (0x39 ≤ i.cause.toNat ∧ i.cause.toNat ≤ 0x3B)) :
    ∃ l, logItem i s = { s with log := l } := by
  obtain ⟨l, f, hl⟩ := logItem_eq i s
  have hf := logItem_flash i s h
  rw [hl] at hf
  change f = s.flash at hf
  exact ⟨l, by rw [hl, hf]⟩

theorem loadMap_side (s : State) : BootSide s (loadMap s) ∧ (loadMap s).boot = s.boot ∧ (loadMap s).mgmt = s.mgmt := by
  unfold loadMap
  split
  · exact ⟨BootSide.refl s, rfl, rfl⟩
  · obtain ⟨l, hl⟩ := logItem_volatile (i := ⟨0x3D, 48, 0, none, 0, false, 0, []⟩) s (by decide)
    have hlog : logArmaik none 0x3D 0 s = { s with log := l } := hl
    rw [hlog]
    exact ⟨BootSide.refl s, rfl, rfl⟩

theorem logRefused_side (s : State) : BootSide s (logRefused s) ∧ (logRefused s).boot = { s.boot with refused := [] }
    ∧ (logRefused s).mgmt = s.mgmt := by
  have hlogs : ∀ r : List (Bool × Nat), ∃ l, r.foldl (fun s e => noteArmaik none 0x3F [b2n e.1, e.2] s) s = { s with log := l } := by
    intro r
    refine foldl_ok (P := fun t : State => ∃ l, t = { s with log := l }) (fun t e ht => ?_) r s ⟨s.log, rfl⟩
    obtain ⟨l, rfl⟩ := ht
    exact logItem_volatile (i := ⟨0x3F, 48, 0, none, 0, false, Config.infoOf 0x3F [b2n e.1, e.2], [b2n e.1, e.2]⟩)
      { s with log := l } (fun h => absurd h.2 (by change ¬ 0x3F ≤ 0x3B; decide))
  obtain ⟨l, hl⟩ := hlogs s.boot.refused
  unfold logRefused
  rw [hl]
  exact ⟨BootSide.refl s, rfl, rfl⟩

/-- Step 3 of boot reads the persistent items and touches no flash (R436). -/
theorem firmwareStart_starts (s : State) : BootSide s (firmwareStart s)
    ∧ (firmwareStart s).boot = { s.boot with step := 3, recovery := false, refused := [] }
    ∧ (firmwareStart s).mgmt.owned = (readPair s.flash.certs).getD []
    ∧ (firmwareStart s).mgmt.rollback = rollbackOf s.flash.rollback := by
  unfold firmwareStart
  dsimp only
  generalize hread : State.mk .. = p
  obtain ⟨kmap, bmap, mmap⟩ := loadMap_side p
  obtain ⟨kref, bref, mref⟩ := logRefused_side (loadMap p)
  have hp : BootSide s p ∧ p.boot = { s.boot with step := 3, recovery := false }
      ∧ p.mgmt.owned = (readPair s.flash.certs).getD [] ∧ p.mgmt.rollback = rollbackOf s.flash.rollback := by
    rw [← hread]
    exact ⟨BootSide.refl s, rfl, rfl, rfl⟩
  obtain ⟨hside, hboot, howned, hroll⟩ := hp
  have hdone := hside.trans (kmap.trans kref)
  have hb := bref.trans (congrArg (fun b : Boot => { b with refused := [] }) (bmap.trans hboot))
  have hm := mref.trans mmap
  split
  · exact ⟨hdone, hb, (congrArg Mgmt.owned hm).trans howned, (congrArg Mgmt.rollback hm).trans hroll⟩
  · exact ⟨hdone, hb, (congrArg Mgmt.owned hm).trans howned, (congrArg Mgmt.rollback hm).trans hroll⟩

/-- The choice of a slot depends on the flash and on what boot has marked. -/
theorem selectSlot_congr {s t : State} (hf : t.flash = s.flash) (hb : t.boot = s.boot) (l : List Bool) :
    selectSlot t l = selectSlot s l := by
  induction l with
  | nil => rfl
  | cons b l ih =>
    unfold selectSlot
    rw [ih, hf, hb]

/-- What the ROMs have seen. -/
def romSeen (roms : RomReport) (s : State) : State :=
  { s with pins := { s.pins with presenceN := !roms.presenceLow }, boot := { s.boot with activeEs := !roms.es0Ok } }

theorem marked_setMark (b : Bool) (x : Boot) : marked (setMark b x) b = true := by
  unfold marked setMark markIn
  dsimp only
  cases x.activeEs <;> cases b <;> rfl

/-- Boot runs the first slot that passes its checks (R441). -/
theorem runRom_boots {roms : RomReport} {s : State} {b : Bool} {l : List (Bool × Nat)}
    (h : selectSlot (romSeen roms s) (slotOrder s.flash) = (some b, l)) :
    BootSide s (runRom roms s) ∧ (runRom roms s).boot.step = 3 ∧ (runRom roms s).boot.slot = b
      ∧ (runRom roms s).mgmt.owned = (readPair s.flash.certs).getD []
      ∧ (runRom roms s).mgmt.rollback = rollbackOf s.flash.rollback
      ∧ marked (runRom roms s).boot b = true ∧ (runRom roms s).boot.udsLocked = true := by
  have hrun : runRom roms s = firmwareStart { romSeen roms s with
      boot := { measureSlot b s.flash (setMark b (romSeen roms s).boot) with refused := l } } := by
    unfold runRom
    dsimp only
    unfold romSeen at h
    rw [h]
    rfl
  rw [hrun]
  obtain ⟨hside, hboot, howned, hroll⟩ := firmwareStart_starts { romSeen roms s with
      boot := { measureSlot b s.flash (setMark b (romSeen roms s).boot) with refused := l } }
  refine ⟨hside, ?_, ?_, howned, hroll, ?_, ?_⟩
  · rw [hboot]
  · rw [hboot]
    rfl
  · rw [hboot]
    exact marked_setMark b (romSeen roms s).boot
  · rw [hboot]
    rfl

/-- Where no slot passes, boot waits for a recovery image (R444). -/
theorem runRom_recovers {roms : RomReport} {s : State} {l : List (Bool × Nat)}
    (h : selectSlot (romSeen roms s) (slotOrder s.flash) = (none, l)) :
    BootSide s (runRom roms s) ∧ (runRom roms s).boot.recovery = true ∧ (runRom roms s).boot.step = 1 := by
  have hrun : runRom roms s = { romSeen roms s with
      boot := { (romSeen roms s).boot with step := 1, recovery := true, refused := l } } := by
    unfold runRom
    dsimp only
    unfold romSeen at h
    rw [h]
    rfl
  rw [hrun]
  exact ⟨BootSide.refl s, rfl, rfl⟩

theorem runRom_side (roms : RomReport) (s : State) : BootSide s (runRom roms s) ∧ (runRom roms s).boot.step ≤ 3 := by
  match h : selectSlot (romSeen roms s) (slotOrder s.flash) with
  | (some b, l) =>
    obtain ⟨hside, hstep, -⟩ := runRom_boots h
    exact ⟨hside, hstep.le⟩
  | (none, l) =>
    obtain ⟨hside, -, hstep⟩ := runRom_recovers h
    exact ⟨hside, hstep.trans_le (by decide)⟩

/-- A reset that boots at once brings Midnight. -/
theorem reset_boots (keep : Bool) (roms : RomReport) (s : State) :
    inMidnight s (bootStart roms (midnight keep s)) ∧ (bootStart roms (midnight keep s)).boot.step ≤ 3 := by
  unfold bootStart
  dsimp only
  split
  · obtain ⟨hside, hstep⟩ := runRom_side roms (midnight keep s)
    exact ⟨hside.midnight (midnight_inMidnight keep s), hstep⟩
  · exact ⟨midnight_inMidnight keep s, Nat.zero_le 3⟩

/-- Boot starts once nothing holds the reset. -/
theorem bootStart_runs {roms : RomReport} {s : State} (hdev : s.dev = .midnight) (hstep : s.boot.step = 0) (hreset : s.pins.resetN = true)
    (hrails : s.pins.railsOk = true) (hsvc : s.pins.svcClk = true) (hcore : s.pins.coreClk = true) (htrip : s.boot.tripped = false) :
    bootStart roms s = runRom roms s := if_pos ⟨hdev, hstep, hreset, hrails, hsvc, hcore, by rw [htrip]; rfl⟩

/-- What boot shows when the last of what held it is gone. -/
def BootsFrom (roms : RomReport) (l : List (Bool × Nat)) (b : Bool) (s : State) (i : Instr) : Prop :=
  (selectSlot (romSeen roms s) (slotOrder s.flash) = (some b, l) → ∃ t, exec i s = .next t ∧ t.boot.step = 3 ∧ t.boot.slot = b
    ∧ t.mgmt.owned = (readPair s.flash.certs).getD [] ∧ t.mgmt.rollback = rollbackOf s.flash.rollback
    ∧ marked t.boot b = true ∧ t.boot.udsLocked = true)
  ∧ (selectSlot (romSeen roms s) (slotOrder s.flash) = (none, l) → ∃ t, exec i s = .next t ∧ t.boot.recovery = true ∧ t.boot.step = 1)

theorem boots_from {roms : RomReport} {l : List (Bool × Nat)} {b : Bool} {s : State} {i : Instr} (p : Pins)
    (h : exec i s = .next (runRom roms { s with pins := p })) : BootsFrom roms l b s i := by
  have hsel : selectSlot (romSeen roms { s with pins := p }) (slotOrder s.flash) = selectSlot (romSeen roms s) (slotOrder s.flash) :=
    selectSlot_congr (s := romSeen roms s) (t := romSeen roms { s with pins := p }) rfl rfl _
  refine ⟨fun hb => ?_, fun hn => ?_⟩
  · obtain ⟨-, hstep, hslot, howned, hroll, hmark, huds⟩ := runRom_boots (s := { s with pins := p }) (hsel.trans hb)
    exact ⟨_, h, hstep, hslot, howned, hroll, hmark, huds⟩
  · obtain ⟨-, hrec, hstep⟩ := runRom_recovers (s := { s with pins := p }) (hsel.trans hn)
    exact ⟨_, h, hrec, hstep⟩

theorem boot_starts {roms : RomReport} {l : List (Bool × Nat)} {b : Bool} {s : State} (hdev : s.dev = .midnight)
    (hstep : s.boot.step = 0) (hrails : s.pins.railsOk = true) (htrip : s.boot.tripped = false) :
    (s.pins.resetN = true → s.pins.coreClk = true → BootsFrom roms l b s (.referenceClockReturn .svc roms))
    ∧ (s.pins.resetN = true → s.pins.svcClk = true → BootsFrom roms l b s (.referenceClockReturn .core roms))
    ∧ (s.pins.svcClk = true → s.pins.coreClk = true → BootsFrom roms l b s (.resetNDeassert roms)) := by
  refine ⟨fun hreset hcore => boots_from { s.pins with svcClk := true } (congrArg Host.Outcome.next ?_),
    fun hreset hsvc => boots_from { s.pins with coreClk := true } (congrArg Host.Outcome.next ?_),
    fun hsvc hcore => boots_from { s.pins with resetN := true } (congrArg Host.Outcome.next ?_)⟩
  · exact bootStart_runs hdev hstep hreset hrails rfl hcore htrip
  · exact bootStart_runs hdev hstep hreset hrails hsvc rfl htrip
  · exact bootStart_runs hdev hstep rfl hrails hsvc hcore htrip

theorem clock_returns_held {roms : RomReport} {s : State} (h : s.pins.resetN = false ∨ s.pins.coreClk = false) :
    exec (.referenceClockReturn .svc roms) s = .next { s with pins := { s.pins with svcClk := true } } := by
  refine congrArg Host.Outcome.next (if_neg ?_)
  rintro ⟨-, -, hreset, -, -, hcore, -⟩
  change s.pins.resetN = true at hreset
  change s.pins.coreClk = true at hcore
  rcases h with h | h
  · rw [h] at hreset
    cases hreset
  · rw [h] at hcore
    cases hcore

theorem reset_released_held {roms : RomReport} {s : State}
    (h : s.pins.railsOk = false ∨ s.pins.svcClk = false ∨ s.pins.coreClk = false ∨ s.boot.tripped = true) :
    exec (.resetNDeassert roms) s = .next { s with pins := { s.pins with resetN := true } } := by
  refine congrArg Host.Outcome.next (if_neg ?_)
  rintro ⟨-, -, -, hrails, hsvc, hcore, htrip⟩
  change s.pins.railsOk = true at hrails
  change s.pins.svcClk = true at hsvc
  change s.pins.coreClk = true at hcore
  change (!s.boot.tripped) = true at htrip
  rcases h with h | h | h | h
  · rw [h] at hrails
    cases hrails
  · rw [h] at hsvc
    cases hsvc
  · rw [h] at hcore
    cases hcore
  · rw [h] at htrip
    cases htrip

/-! ### Memory tests -/

/-- Local memory and code space of every core are zero without mark, and boot stands as it stood. -/
def Zeroed (b : Boot) (s : State) : Prop :=
  s.boot = b ∧ ∀ c : CoreId, (coreOf s c).mem = [] ∧ (coreOf s c).code = [] ∧ (coreOf s c).poison = []

theorem isolate_zeroed {b : Boot} {s : State} (c : CoreId) (h : Zeroed b s) : Zeroed b (isolate c s) := by
  obtain ⟨hboot, hmem⟩ := h
  refine ⟨hboot, fun d => ?_⟩
  by_cases hd : c = d
  · subst hd
    unfold isolate
    rw [coreOf_modCore_same]
    exact hmem c
  · unfold isolate
    rw [coreOf_modCore_other _ _ _ _ hd]
    exact hmem d

theorem logItem_zeroed {b : Boot} {s : State} (i : LogItem) (h : Zeroed b s) : Zeroed b (logItem i s) := by
  obtain ⟨l, f, hl⟩ := logItem_eq i s
  rw [hl]
  exact h

theorem mergeBist_zeroed {b : Boot} {s : State} (f : Fin 640 × Fin 17) (h : Zeroed b s) : Zeroed b (mergeBist s f) := by
  unfold mergeBist
  dsimp only
  have hlog : Zeroed b (logFailed f.1.val f.2.val .bist s) := logItem_zeroed _ h
  generalize logFailed f.1.val f.2.val .bist s = t at hlog ⊢
  refine ite_ok (P := Zeroed b) h (ite_ok (P := Zeroed b) hlog (ite_ok (P := Zeroed b) hlog ?_))
  split
  · exact hlog
  · exact ite_ok (P := Zeroed b) (isolate_zeroed _ hlog)
      (ite_ok (P := Zeroed b) (isolate_zeroed _ hlog) (isolate_zeroed _ hlog))

theorem closeGates_zeroed {b : Boot} {s : State} (h : Zeroed b s) : Zeroed b (closeGates s) := by
  refine foldl_ok (P := Zeroed b) (fun t e ht => ?_) _ _ h
  split
  · exact isolate_zeroed _ ht
  · exact ht

theorem bist_zeroes {bad : List (Fin 640 × Fin 17)} {s : State} (h : s.boot.step = 5) :
    ∃ t, exec (.bistDone bad) s = .next t ∧ t.boot.step = 6
      ∧ ∀ c : CoreId, (coreOf t c).mem = [] ∧ (coreOf t c).code = [] ∧ (coreOf t c).poison = [] := by
  have htests : Zeroed s.boot { s with cores := tmap (fun _ c => zeroedCore c) s.cores } := by
    refine ⟨rfl, fun c => ?_⟩
    have hc : coreOf { s with cores := tmap (fun _ c => zeroedCore c) s.cores } c = zeroedCore (coreOf s c) :=
      tget_tmap (fun _ c => zeroedCore c) Core.reset s.cores c.val rfl
    rw [hc]
    exact ⟨rfl, rfl, rfl⟩
  have hmerged := foldl_ok (P := Zeroed s.boot) (fun _ f h => mergeBist_zeroed f h) bad _ htests
  refine ⟨_, congrArg Host.Outcome.next (if_neg (by simp [h])), ?_⟩
  generalize bad.foldl mergeBist { s with cores := tmap (fun _ c => zeroedCore c) s.cores } = u at hmerged ⊢
  dsimp only
  have hended : Zeroed { u.boot with step := 6, bistDone := true } { u with boot := { u.boot with step := 6, bistDone := true } } :=
    ⟨rfl, hmerged.2⟩
  obtain ⟨hboot, hmem⟩ := closeGates_zeroed hended
  generalize closeGates { u with boot := { u.boot with step := 6, bistDone := true } } = t at hboot hmem ⊢
  split
  · exact ⟨congrArg Boot.step hboot, hmem⟩
  · obtain ⟨q, hq, -⟩ := wantStore_flash .spareMap t
    rw [hq]
    exact ⟨congrArg Boot.step hboot, hmem⟩

/-! ### The first Daybreak -/

/-- Twilight's first Day (R436, R447): no step of the Daybreak enters Daylight where that is not asked for. -/
theorem dayDev_unasked {s : State} (hdev : s.dev = .twilight) (hreq : s.daylightReq = false) : dayDev s = .twilight := by
  have hno : daylightOk (finishTests s) = false := by
    unfold daylightOk
    rw [finishTests_daylightReq, hreq]
    rfl
  unfold dayDev
  rw [hno, hdev]
  split <;> rfl

theorem deviceCell_valid : cValid deviceCell = true := by decide

theorem raiseRollback_rest (s : State) : (raiseRollback s).dev = s.dev ∧ (raiseRollback s).boot = s.boot ∧ (raiseRollback s).clock = s.clock
    ∧ (raiseRollback s).cells = s.cells := by
  unfold raiseRollback
  dsimp only
  split
  · obtain ⟨q, hq, -⟩ := wantStore_flash .rollback (modMgmt (fun m => { m with rollback := slotSvn (slotOf s.flash s.boot.slot) }) s)
    rw [hq]
    exact ⟨rfl, rfl, rfl, rfl⟩
  · exact ⟨rfl, rfl, rfl, rfl⟩

theorem first_daybreak {s : State} (hdev : s.dev = .midnight) (hstep : s.boot.step = 6) (hbusy : FlashItem.spareMap ∉ s.flash.busy)
    (hchanges : s.cellChanges = []) :
    ∃ t, exec .firstDaybreak s = .next t ∧ t.dev = .twilight ∧ t.boot.step = 8 ∧ t.clock.dayCount = 0 ∧ t.clock.cycle = 0
      ∧ t.clock.phase = .dawn ∧ cValid (cellEntry t 0) = true ∧ t.boot.marks0 = (false, false) ∧ t.boot.marks1 = (false, false) := by
  refine ⟨_, congrArg Host.Outcome.next (if_neg ?_), ?_⟩
  · rw [hdev, hstep]
    simp [hbusy]
  · dsimp only
    generalize hd : newDay { s with cells := tset s.cells 0 deviceCell, daylightReq := false } = d
    have hreq : d.daylightReq = false := by rw [← hd]; rfl
    have hcycle : d.clock.cycle = 0 ∧ d.clock.phase = .dawn := by rw [← hd]; exact ⟨rfl, rfl⟩
    have hcells : d.cells = tset s.cells 0 deviceCell ∧ d.cellChanges = [] := by rw [← hd]; exact ⟨rfl, hchanges⟩
    obtain ⟨hcycle, hphase⟩ := hcycle
    obtain ⟨hcells, hnone⟩ := hcells
    obtain ⟨bdev, bclock, bboot, -, -, -, bcells, -⟩ :=
      daybreakBody_held false { d with dev := .twilight, clock := { d.clock with dayCount := 0 } }
    have htwi := bdev.trans (dayDev_unasked (s := { d with dev := .twilight, clock := { d.clock with dayCount := 0 } }) rfl hreq)
    generalize daybreakBody false { d with dev := .twilight, clock := { d.clock with dayCount := 0 } } = b at *
    obtain ⟨rdev, rboot, rclock, rcells⟩ := raiseRollback_rest { b with
      daylightReq := s.daylightReq, boot := { b.boot with step := 8, marks0 := (false, false), marks1 := (false, false) } }
    have hentry : b.cells = tset s.cells 0 deviceCell := by
      rw [bcells]
      change (d.cellChanges.filter _).foldl _ d.cells = _
      rw [hnone, hcells]
      rfl
    refine ⟨rdev.trans htwi, congrArg Boot.step rboot, ?_, ?_, ?_, ?_, congrArg Boot.marks0 rboot, congrArg Boot.marks1 rboot⟩
    · rw [rclock]
      exact congrArg Clock.dayCount bclock
    · rw [rclock]
      exact (congrArg Clock.cycle bclock).trans hcycle
    · rw [rclock]
      exact (congrArg Clock.phase bclock).trans hphase
    · unfold cellEntry
      rw [rcells]
      change cValid (tget 0 b.cells 0) = true
      rw [hentry, tget_tset_same]
      exact deviceCell_valid

/-! ### Recovery, clocks and temperature -/

theorem recovery_image {img : FwImage} {s : State} (hrec : s.boot.recovery = true) (hpres : s.mgmt.presence ≠ []) :
    (slotCheck (rollbackOf s.flash.rollback) ⟨some img, true⟩ = none → ∃ t, exec (.recoveryImage img) s = .next t ∧ t.boot.step = 3
      ∧ t.boot.recovery = false ∧ t.flash.slotA = ⟨some img, true⟩)
    ∧ (slotCheck (rollbackOf s.flash.rollback) ⟨some img, true⟩ ≠ none → ∃ t, exec (.recoveryImage img) s = .next t
      ∧ t.boot.step = s.boot.step ∧ t.boot.recovery = true) := by
  have hheard : ¬ ((!s.boot.recovery) = true ∨ s.mgmt.presence = []) := by simp [hrec, hpres]
  refine ⟨fun hok => ?_, fun hbad => ?_⟩
  · obtain ⟨⟨-, -, -, -, -, -, -, hflash, -⟩, hboot, -, -⟩ := firmwareStart_starts { s with
      flash := { s.flash with slotA := ⟨some img, true⟩ },
      boot := measureSlot false { s.flash with slotA := ⟨some img, true⟩ } (setMark false s.boot) }
    refine ⟨_, congrArg Host.Outcome.next ((if_neg hheard).trans ?_), congrArg Boot.step hboot, congrArg Boot.recovery hboot,
      congrArg Flash.slotA hflash⟩
    dsimp only
    rw [hok]
  · obtain ⟨k, hk⟩ := Option.ne_none_iff_exists'.mp hbad
    refine ⟨{ s with
      flash := { s.flash with slotA := ⟨some img, true⟩ },
      boot := { s.boot with refused := s.boot.refused ++ [(false, k)] } },
      congrArg Host.Outcome.next ((if_neg hheard).trans ?_), rfl, hrec⟩
    dsimp only
    rw [hk]

/-- A port that its clock leaves. -/
def unclocked (p : LinkPort) : LinkPort :=
  { (if p.state = .up then downPort p else { p with state := .down }) with fecLock := false }

theorem downAll_port (s : State) (k : PortId) :
    (portAt (downAll s) k).state = .down ∧ (portAt (downAll s) k).replay = (portAt s k).replay := by
  have hport : portAt (downAll s) k = unclocked (portAt s k) :=
    tget_tmap (fun _ p => unclocked p) LinkPort.reset s.ports k.val rfl
  rw [hport]
  unfold unclocked
  dsimp only
  split <;> exact ⟨rfl, rfl⟩

theorem linkClock_lost (s : State) : ∃ t, exec (.clockLoss .link) s = .next t ∧ t.pins.linkClk = false ∧ t.cores = s.cores
    ∧ ∀ k : PortId, (portAt t k).state = .down ∧ (portAt t k).replay = (portAt s k).replay :=
  ⟨downAll { s with pins := { s.pins with linkClk := false } }, rfl, rfl, rfl, fun k => downAll_port _ k⟩

theorem pcieClock_lost (h : LinkId) (s : State) :
    ∃ t, exec (.clockLoss (.pcie h)) s = .next t ∧ pcieClk t h = false ∧ t.fns = s.fns ∧ t.cores = s.cores := by
  refine ⟨_, rfl, ?_, rfl, rfl⟩
  unfold pcieClk
  dsimp only
  split <;> rfl

theorem pcieClock_returns (roms : RomReport) (h : LinkId) (s : State) :
    ∃ t, exec (.referenceClockReturn (.pcie h) roms) s = .next t ∧ pcieClk t h = true ∧ t.fns = s.fns := by
  refine ⟨_, rfl, ?_, rfl⟩
  unfold pcieClk
  dsimp only
  split <;> rfl

/-- A sensor reads what `q` says of it. -/
def SensorReads (temps : List (BitVec 16)) (q : Int → Nat → Prop) : Prop := ∃ n x, temps[n]? = some x ∧ q x.toInt n

theorem reads_iff (temps : List (BitVec 16)) (q : Int → Nat → Prop) [∀ x n, Decidable (q x n)] :
    temps.zipIdx.any (fun t => decide (q t.1.toInt t.2)) = true ↔ SensorReads temps q := by
  rw [List.any_eq_true]
  constructor
  · rintro ⟨⟨x, n⟩, hmem, hq⟩
    exact ⟨n, x, List.mem_zipIdx_iff_getElem?.mp hmem, of_decide_eq_true hq⟩
  · rintro ⟨n, x, hx, hq⟩
    exact ⟨(x, n), List.mem_zipIdx_iff_getElem?.mpr hx, decide_eq_true hq⟩

theorem all_cool_iff (temps : List (BitVec 16)) :
    temps.zipIdx.all (fun t => decide (t.1.toInt ≤ maxTemp t.2 - 20)) = true ↔ ¬ SensorReads temps fun x n => maxTemp n - 20 < x := by
  rw [← reads_iff temps fun x n => maxTemp n - 20 < x, List.all_eq_true, List.any_eq_true]
  simp only [decide_eq_true_eq, not_exists, not_and, not_lt]

theorem sensors_act (temps : List (BitVec 16)) (s : State) :
    let pin := fun v : Bool => exec (.thermalAlert temps) s = .next { s with pins := { s.pins with thermalertN := v } }
    (SensorReads temps (fun x n => tripTemp n ≤ x) → exec (.thermalAlert temps) s = exec .thermalTrip s)
    ∧ (¬ SensorReads temps (fun x n => tripTemp n ≤ x) →
      (SensorReads temps (fun x n => maxTemp n < x) → pin false)
      ∧ (¬ SensorReads temps (fun x n => maxTemp n - 20 < x) → pin true)
      ∧ (¬ SensorReads temps (fun x n => maxTemp n < x) → SensorReads temps (fun x n => maxTemp n - 20 < x) → pin s.pins.thermalertN)) := by
  have htrip := reads_iff temps fun x n => tripTemp n ≤ x
  have hhot := reads_iff temps fun x n => maxTemp n < x
  have hcool := all_cool_iff temps
  refine ⟨fun h => congrArg Host.Outcome.next (if_pos (htrip.mpr h)), fun h => ⟨fun hot => ?_, fun cool => ?_, fun hot warm => ?_⟩⟩
  · refine congrArg Host.Outcome.next ((if_neg (mt htrip.mp h)).trans ?_)
    rw [if_pos (hhot.mpr hot)]
    rfl
  · have hnot : ¬ SensorReads temps fun x n => maxTemp n < x := fun ⟨n, x, hx, hlt⟩ => cool ⟨n, x, hx, by omega⟩
    refine congrArg Host.Outcome.next ((if_neg (mt htrip.mp h)).trans ?_)
    rw [if_neg (mt hhot.mp hnot), if_pos (hcool.mpr cool)]
    rfl
  · refine congrArg Host.Outcome.next ((if_neg (mt htrip.mp h)).trans ?_)
    rw [if_neg (mt hhot.mp hot), if_neg (fun hall => hcool.mp hall warm)]
    dsimp only
    rw [Bool.not_not]

/-- Settles O59: a reset's state is Midnight's, which boot leaves as it is but for its own registers; the first Daybreak by what
every Daybreak keeps. -/
theorem resetsBringMidnightAndBootLeavesIt : Obligations.ResetsBringMidnightAndBootLeavesIt := by
  unfold Obligations.ResetsBringMidnightAndBootLeavesIt
  intro roms img bad h b temps l s down es boots
  have hmid := midnight_inMidnight false s
  refine ⟨⟨_, rfl, hmid, rfl, rfl, rfl⟩, ⟨_, rfl, hmid, rfl, rfl⟩, ⟨_, rfl, hmid, rfl, rfl, rfl⟩, ⟨_, rfl, hmid, rfl, rfl, rfl⟩,
    ⟨_, rfl, hmid, rfl, rfl⟩, ⟨_, rfl, hmid, rfl, rfl⟩,
    fun hc => ⟨_, congrArg Host.Outcome.next (operatorCmd_commands hc _), reset_boots false roms s⟩,
    fun hd hs hr ht => boot_starts hd hs hr ht, fun hp => clock_returns_held hp, fun hp => reset_released_held hp,
    fun hs => ⟨_, congrArg Host.Outcome.next (if_pos hs), rfl, rfl, rfl⟩, fun hs => bist_zeroes hs,
    fun hd hs hf hc _ => first_daybreak hd hs hf hc, fun hr hp => recovery_image hr hp, linkClock_lost s, pcieClock_lost h s,
    pcieClock_returns roms h s, sensors_act temps s,
    fun hs => ⟨_, congrArg Host.Outcome.next ((if_neg hs).trans (if_pos rfl)), rfl, rfl, rfl, rfl, rfl⟩,
    fun hs => ⟨_, congrArg Host.Outcome.next ((if_neg hs).trans (if_neg Bool.false_ne_true)), (reset_boots true roms s).1⟩,
    fun hd hs => ⟨_, congrArg Host.Outcome.next (if_pos ⟨hd, hs⟩), (reset_boots true roms s).1⟩⟩

end Sys2Proof.Machine

/-!
SUPPORT. The Day that Daybreak begins (R41–R52, R75, R446, R447).
-/
namespace Sys2Proof.Machine
open Sys2Proof Sys2Proof.Safety

/-! ### The state in which the new Day starts -/

/-- The Day that ends, run to its end where the device leads. -/
def dayEnd (s : State) : State := if s.dev = .daylight ∨ s.clock.src = 0 then toCycle (dayLen s) s else s

/-- The new Day, its reference judged. -/
def dayStart (s : State) : State :=
  if missedReference (dayEnd s) then logArmaik none 0x1A ((dayEnd s).clock.offset.setWidth 64) (newDay (judgeReference (dayEnd s)))
  else newDay (judgeReference (dayEnd s))

/-- What the end of a Day passes on. -/
def DayPasses (s t : State) : Prop :=
  t.dev = s.dev ∧ t.regions = s.regions ∧ t.cells = s.cells ∧ t.cellChanges = s.cellChanges ∧ t.spares = s.spares
    ∧ t.removals = s.removals ∧ t.removedDies = s.removedDies ∧ t.removalsNext = s.removalsNext ∧ t.badFlagWords = s.badFlagWords
    ∧ t.routers = s.routers ∧ t.mgmt = s.mgmt ∧ t.twilightAt = s.twilightAt
    ∧ ∀ c : CoreId, coreOf t c = { coreOf s c with passed := (coreOf t c).passed }

theorem DayPasses.trans {s t u : State} (a : DayPasses s t) (b : DayPasses t u) : DayPasses s u := by
  obtain ⟨a1, a2, a3, a4, a5, a6, a7, a8, a9, a10, a11, a12, acore⟩ := a
  obtain ⟨b1, b2, b3, b4, b5, b6, b7, b8, b9, b10, b11, b12, bcore⟩ := b
  refine ⟨b1.trans a1, b2.trans a2, b3.trans a3, b4.trans a4, b5.trans a5, b6.trans a6, b7.trans a7, b8.trans a8, b9.trans a9,
    b10.trans a10, b11.trans a11, b12.trans a12, fun c => ?_⟩
  rw [bcore c, acore c]

theorem DayPasses.refl (s : State) : DayPasses s s := ⟨rfl, rfl, rfl, rfl, rfl, rfl, rfl, rfl, rfl, rfl, rfl, rfl, fun _ => rfl⟩

theorem toCycle_passes (n : Nat) (s : State) : DayPasses s (toCycle n s) := by
  have h := toCycle_rest n s
  exact ⟨(congrArg State.dev h :), (congrArg State.regions h :), (congrArg State.cells h :), (congrArg State.cellChanges h :),
    (congrArg State.spares h :), (congrArg State.removals h :), (congrArg State.removedDies h :), (congrArg State.removalsNext h :),
    (congrArg State.badFlagWords h :), (congrArg State.routers h :), (congrArg State.mgmt h :), (congrArg State.twilightAt h :),
    toCycle_core n s⟩

theorem dayEnd_passes (s : State) : DayPasses s (dayEnd s) := ite_ok (P := DayPasses s) (toCycle_passes ..) (DayPasses.refl s)

theorem newDay_passes (s : State) : DayPasses s (newDay (judgeReference s)) := by
  unfold judgeReference
  dsimp only
  split <;> exact DayPasses.refl s

theorem logItem_passes (i : LogItem) (s : State) : DayPasses s (logItem i s) := by
  obtain ⟨l, f, h⟩ := logItem_eq i s
  rw [h]
  exact DayPasses.refl s

theorem dayStart_passes (s : State) : DayPasses s (dayStart s) := by
  have h := (dayEnd_passes s).trans (newDay_passes (dayEnd s))
  exact ite_ok (P := DayPasses s) (h.trans (logItem_passes ..)) h

/-- The clock, the pins and the identity of the new Day. -/
theorem newDay_fields (s : State) : let t := newDay (judgeReference s)
    t.clock.dayNo = s.clock.dayNo + 1 ∧ t.clock.dayCount = s.clock.dayCount + 1 ∧ t.clock.cycle = 0 ∧ t.clock.phase = .dawn
      ∧ t.clock.dayDiv = s.clock.dayDivNext ∧ t.clock.duskDiv = s.clock.duskDivNext
      ∧ t.clock.src = s.clock.srcNext ∧ t.clock.port = s.clock.portNext ∧ t.clock.now = s.clock.now
      ∧ t.pins.daybreakOut = true ∧ t.deviceId = s.deviceIdNext ∧ t.assigned = s.assignedNext := by
  unfold judgeReference
  dsimp only
  split <;> exact ⟨rfl, rfl, rfl, rfl, rfl, rfl, rfl, rfl, rfl, rfl, rfl, rfl⟩

/-- What the end of the Day leaves of the clock and the identity. -/
theorem dayEnd_clock (s : State) : (dayEnd s).deviceIdNext = s.deviceIdNext ∧ (dayEnd s).assignedNext = s.assignedNext
    ∧ ∃ n m, (dayEnd s).clock = { s.clock with now := n, cycle := m } ∧ (s.dev = .daylight → n = s.clock.now + (dayLen s - s.clock.cycle)) := by
  unfold dayEnd
  split
  · have h := toCycle_rest (dayLen s) s
    exact ⟨(congrArg State.deviceIdNext h :), (congrArg State.assignedNext h :), _, _, toCycle_clock .., fun _ => rfl⟩
  case isFalse hn => exact ⟨rfl, rfl, s.clock.now, s.clock.cycle, rfl, fun hd => absurd (Or.inl hd) hn⟩

theorem dayStart_fields (s : State) : let t := dayStart s
    t.clock.dayNo = s.clock.dayNo + 1 ∧ t.clock.dayCount = s.clock.dayCount + 1 ∧ t.clock.cycle = 0 ∧ t.clock.phase = .dawn
      ∧ t.clock.dayDiv = s.clock.dayDivNext ∧ t.clock.duskDiv = s.clock.duskDivNext
      ∧ t.clock.src = s.clock.srcNext ∧ t.clock.port = s.clock.portNext
      ∧ (s.dev = .daylight → t.clock.now = s.clock.now + (dayLen s - s.clock.cycle))
      ∧ t.pins.daybreakOut = true ∧ t.deviceId = s.deviceIdNext ∧ t.assigned = s.assignedNext := by
  obtain ⟨n1, n2, n3, n4, n5, n6, n7, n8, n9, n10, n11, n12⟩ := newDay_fields (dayEnd s)
  obtain ⟨eid, eassigned, now, cycle, eclock, enow⟩ := dayEnd_clock s
  rw [eclock] at n1 n2 n5 n6 n7 n8 n9
  have hlog : ∀ i : LogItem, (logItem i (newDay (judgeReference (dayEnd s)))).clock = (newDay (judgeReference (dayEnd s))).clock
      ∧ (logItem i (newDay (judgeReference (dayEnd s)))).pins = (newDay (judgeReference (dayEnd s))).pins
      ∧ (logItem i (newDay (judgeReference (dayEnd s)))).deviceId = (newDay (judgeReference (dayEnd s))).deviceId
      ∧ (logItem i (newDay (judgeReference (dayEnd s)))).assigned = (newDay (judgeReference (dayEnd s))).assigned := fun i =>
    ⟨logItem_clock .., logItem_pins .., logItem_deviceId .., logItem_assigned ..⟩
  unfold dayStart
  dsimp only
  split
  · unfold logArmaik
    obtain ⟨hclock, hpins, hid, hassigned⟩ := hlog ⟨0x1A, 48, 0, none, 0, false, (dayEnd s).clock.offset.setWidth 64, []⟩
    rw [hclock, hpins, hid, hassigned]
    exact ⟨n1, n2, n3, n4, n5, n6, n7, n8, fun hd => n9.trans (enow hd), n10, n11.trans eid, n12.trans eassigned⟩
  · exact ⟨n1, n2, n3, n4, n5, n6, n7, n8, fun hd => n9.trans (enow hd), n10, n11.trans eid, n12.trans eassigned⟩

theorem daybreak_runs {s : State} (h : s.dev ≠ .midnight) :
    exec .daybreak s = .next (daybreakBody (decide (s.dev = .daylight)) (dayStart s)) := by
  have hdev : (dayEnd s).dev = s.dev := (dayEnd_passes s).1
  refine congrArg Host.Outcome.next ((if_neg h).trans ?_)
  change daybreakBody (decide ((dayEnd s).dev = .daylight)) (dayStart s) = _
  rw [hdev]

/-! ### The device's state -/

/-- Two states that differ in their logs alone, and not in what a failed test's record asks of them. -/
def SameButLog (s t : State) : Prop :=
  t = { s with log := t.log } ∧ t.log.unsaved = s.log.unsaved ∧ srcCount t.log.counts 48 0x3B = srcCount s.log.counts 48 0x3B

theorem srcCount_bump (l : List (BitVec 6 × BitVec 8 × Nat)) (a : BitVec 6) (c : BitVec 8) :
    srcCount (srcBump l a c) a c = srcCount l a c + 1 := by
  unfold srcBump
  generalize srcCount l a c + 1 = n
  unfold srcCount
  rw [List.find?_cons_of_pos (by simp)]

theorem wantStore_same {s t : State} (i : FlashItem) (h : SameButLog s t) : SameButLog (wantStore i s) (wantStore i t) := by
  obtain ⟨heq, hunsaved, hcount⟩ := h
  generalize t.log = l at heq hunsaved hcount
  subst heq
  unfold wantStore
  dsimp only
  split <;> exact ⟨rfl, hunsaved, hcount⟩

theorem storeLog_same {s t : State} (h : SameButLog s t) : SameButLog (storeLog s) (storeLog t) := by
  unfold storeLog
  rw [h.2.1]
  split
  · exact wantStore_same _ h
  · exact h

/-- A failed test's record. -/
def failedTest (info : Word) : LogItem := ⟨0x3B, 48, 0, none, 0, false, info, []⟩

theorem failedTest_same {s t : State} (info : Word) (h : SameButLog s t) :
    SameButLog (logItem (failedTest info) s) (logItem (failedTest info) t) := by
  obtain ⟨heq, hunsaved, hcount⟩ := h
  generalize t.log = l at heq hunsaved hcount
  subst heq
  have hsuppress : (64 ≤ srcCount l.counts 48 0x3B) = (64 ≤ srcCount s.log.counts 48 0x3B) := by rw [hcount]
  by_cases hs : 64 ≤ srcCount s.log.counts 48 0x3B
  · have hl : ∀ u : State, u.log.counts = s.log.counts ∨ u.log.counts = l.counts →
        logItem (failedTest info) u = { u with log := { u.log with suppressed := satAdd u.log.suppressed 1 } } := by
      intro u hu
      refine if_pos ?_
      rcases hu with hu | hu
      · change 64 ≤ srcCount u.log.counts 48 0x3B
        rw [hu]
        exact hs
      · change 64 ≤ srcCount u.log.counts 48 0x3B
        rw [hu, hcount]
        exact hs
    rw [hl s (Or.inl rfl), hl _ (Or.inr rfl)]
    exact ⟨rfl, hunsaved, hcount⟩
  · have hno : ∀ u : State, u.log.counts = s.log.counts ∨ u.log.counts = l.counts →
        ¬ 64 ≤ srcCount u.log.counts (failedTest info).source (failedTest info).cause := by
      intro u hu
      rcases hu with hu | hu
      · change ¬ 64 ≤ srcCount u.log.counts 48 0x3B
        rw [hu]
        exact hs
      · change ¬ 64 ≤ srcCount u.log.counts 48 0x3B
        rw [hu, hcount]
        exact hs
    have hkeep : decide (0x39 ≤ (failedTest info).cause.toNat ∧ (failedTest info).cause.toNat ≤ 0x3B) = true := rfl
    have hcounts : ∀ c, srcCount (srcBump c (failedTest info).source (failedTest info).cause) 48 0x3B = srcCount c 48 0x3B + 1 :=
      fun c => srcCount_bump c 48 0x3B
    unfold logItem
    dsimp only
    rw [if_neg (hno s (Or.inl rfl)), if_neg (hno { s with log := l } (Or.inr rfl))]
    simp only [hkeep, if_true]
    exact storeLog_same ⟨rfl, by rw [hunsaved], by rw [hcounts, hcounts, hcount]⟩

theorem foldl_both {α : Type} {R : State → State → Prop} {f : State → α → State} (hf : ∀ s t x, R s t → R (f s x) (f t x))
    (l : List α) : ∀ {s t}, R s t → R (l.foldl f s) (l.foldl f t) := by
  induction l with
  | nil => exact id
  | cons x l ih => exact fun h => ih (hf _ _ x h)

/-- One test that ends. -/
def testStep (s : State) (t : UnderTest × Bool × Nat) : State :=
  if t.2.1 then clearFailed s.clock.dayNo t.1 s
  else logArmaik none 0x3B (drawFree s).1 (drawFree s).2

theorem finishTests_eq (s : State) : finishTests s = (s.mgmt.testing.filter fun t => decide (t.2.2 ≤ s.clock.now)).foldl testStep
    { s with mgmt := { s.mgmt with testing := s.mgmt.testing.filter fun t => decide (s.clock.now < t.2.2) } } := rfl

theorem testStep_same {s t : State} (u : UnderTest × Bool × Nat) (h : SameButLog s t) : SameButLog (testStep s u) (testStep t u) := by
  unfold testStep
  by_cases hu : u.2.1 = true
  · rw [if_pos hu, if_pos hu]
    obtain ⟨heq, hunsaved, hcount⟩ := h
    generalize t.log = l at heq hunsaved hcount
    subst heq
    cases u.1 <;> exact ⟨rfl, hunsaved, hcount⟩
  · rw [if_neg hu, if_neg hu]
    have hinfo : (drawFree t).1 = (drawFree s).1 := by
      rw [h.1]
      rfl
    have hdrawn : SameButLog (drawFree s).2 (drawFree t).2 := by
      obtain ⟨heq, hunsaved, hcount⟩ := h
      generalize t.log = l at heq hunsaved hcount
      subst heq
      exact ⟨rfl, hunsaved, hcount⟩
    rw [hinfo]
    exact failedTest_same _ hdrawn

theorem finishTests_same {s t : State} (h : SameButLog s t) : SameButLog (finishTests s) (finishTests t) := by
  obtain ⟨heq, hunsaved, hcount⟩ := h
  generalize t.log = l at heq hunsaved hcount
  subst heq
  rw [finishTests_eq, finishTests_eq]
  exact foldl_both (fun _ _ u h => testStep_same u h) _ ⟨rfl, hunsaved, hcount⟩

theorem daylightOk_same {s t : State} (h : SameButLog s t) : daylightOk t = daylightOk s := by
  rw [h.1]
  rfl

/-- The record of a reference that did not come. -/
theorem missed_same (info : Word) {s : State} (h : s.log.counts = []) : SameButLog s (logArmaik none 0x1A info s) := by
  unfold logArmaik logItem
  dsimp only
  rw [h]
  exact ⟨rfl, rfl, by rw [h]; rfl⟩

theorem newDay_counts (s : State) : (newDay s).log.counts = [] := rfl

theorem dayStart_same (s : State) : SameButLog (newDay (judgeReference (dayEnd s))) (dayStart s) :=
  ite_ok (P := SameButLog (newDay (judgeReference (dayEnd s)))) (missed_same _ (newDay_counts _)) ⟨rfl, rfl, rfl⟩

theorem dayStart_daylightOk (s : State) :
    daylightOk (finishTests (dayStart s)) = daylightOk (finishTests (newDay (judgeReference (dayEnd s)))) :=
  daylightOk_same (finishTests_same (dayStart_same s))

theorem twilightDue_iff (s : State) : twilightDue s = true ↔ ∃ n, s.twilightAt = some n ∧ n ≤ s.clock.dayNo := by
  unfold twilightDue
  cases h : s.twilightAt with
  | none => simp
  | some n => simp

/-- The state of the device on the new Day. -/
theorem dayDev_dayStart (s : State) : dayDev (dayStart s)
    = if ∃ n, s.twilightAt = some n ∧ n ≤ s.clock.dayNo + 1 then .twilight
      else if daylightOk (finishTests (newDay (judgeReference (dayEnd s)))) = true then .daylight else s.dev := by
  obtain ⟨hdev, -, -, -, -, -, -, -, -, -, -, htwi, -⟩ := dayStart_passes s
  obtain ⟨hday, -⟩ := dayStart_fields s
  have hiff := twilightDue_iff (dayStart s)
  rw [htwi, hday] at hiff
  unfold dayDev
  rw [dayStart_daylightOk, hdev]
  by_cases ht : ∃ n, s.twilightAt = some n ∧ n ≤ s.clock.dayNo + 1
  · rw [if_pos ht, if_pos (hiff.mpr ht)]
  · rw [if_neg ht, if_neg (mt hiff.mp ht)]

/-- The cores' records of the Day that ended are clear. -/
theorem afterCells_core (checked : List RegionId) (s : State) (c : CoreId) :
    (coreOf (afterCells checked s) c).dayDone = false ∧ (coreOf (afterCells checked s) c).overrun = false := by
  unfold afterCells
  dsimp only
  generalize farFlush _ = w
  have hc : ∀ f p r, coreOf (routeDay { w with cores := tmap coreDay w.cores, routers := r, fns := f, ports := p }) c
      = coreDay 0 (coreOf w c) := fun f p r => tget_tmap coreDay Core.reset w.cores c.val rfl
  rw [hc]
  exact ⟨rfl, rfl⟩

/-- Daybreak begins the next Day. -/
theorem nextDay {s : State} (h : s.dev ≠ .midnight) :
    let d := newDay (judgeReference (dayEnd s))
    ∃ t, exec .daybreak s = .next t
      ∧ t.clock.dayNo = s.clock.dayNo + 1 ∧ t.clock.dayCount = s.clock.dayCount + 1
      ∧ t.clock.cycle = 0 ∧ t.clock.phase = .dawn ∧ t.pins.daybreakOut = true
      ∧ t.clock.dayDiv = s.clock.dayDivNext ∧ t.clock.duskDiv = s.clock.duskDivNext
      ∧ t.clock.src = s.clock.srcNext ∧ t.clock.port = s.clock.portNext
      ∧ t.deviceId = s.deviceIdNext ∧ t.assigned = s.assignedNext
      ∧ (s.dev = .daylight → t.clock.now = s.clock.now + (dayLen s - s.clock.cycle))
      ∧ t.dev = (if ∃ n, s.twilightAt = some n ∧ n ≤ s.clock.dayNo + 1 then .twilight
          else if daylightOk (finishTests d) = true then .daylight else s.dev)
      ∧ (∀ c : CoreId, (coreOf t c).dayDone = false ∧ (coreOf t c).overrun = false)
      ∧ t.cellChanges = s.cellChanges.filter (fun c => decide (s.clock.dayNo + 1 < c.day))
      ∧ t.cells = (s.cellChanges.filter fun c => decide (c.day ≤ s.clock.dayNo + 1)).foldl applyChange s.cells := by
  obtain ⟨-, -, pcells, pchanges, -⟩ := dayStart_passes s
  obtain ⟨f1, f2, f3, f4, f5, f6, f7, f8, fnow, fpin, fid, fassigned⟩ := dayStart_fields s
  obtain ⟨bdev, bclock, -, bpins, bid, bassigned, bcells, bchanges⟩ :=
    daybreakBody_held (decide (s.dev = .daylight)) (dayStart s)
  rw [pcells, pchanges, f1] at bcells
  rw [pchanges, f1] at bchanges
  have hcore : ∀ c, _ := fun c => afterCells_core (checkedRegions (swapCells (stopped (decide (s.dev = .daylight)) (dayStart s))))
    (shiftMap (swapCells (stopped (decide (s.dev = .daylight)) (dayStart s)))) c
  rw [← daybreakBody_eq] at hcore
  refine ⟨_, daybreak_runs h, ?_⟩
  rw [bclock, bpins, bid, bassigned]
  exact ⟨f1, f2, f3, f4, fpin, f5, f6, f7, f8, fid, fassigned, fnow, bdev.trans (dayDev_dayStart s), hcore, bchanges, bcells⟩

end Sys2Proof.Machine

/-!
SUPPORT. What a Daybreak does to a region that is the only one (R67, R77, R218, R385–R388, R448, R463).
-/
namespace Sys2Proof.Machine
open Sys2Proof Sys2Proof.Safety

/-- Region `r` is the only one, and it is `x`. -/
def Has (r : RegionId) (x : Region) (s : State) : Prop := s.regions = [(r.val, x)]

section
variable {r : RegionId} {x : Region} {s t : State}

theorem Has.regOf (h : Has r x s) : regOf s r = x := by
  have hr : s.regions = [(r.val, x)] := h
  simp [Machine.regOf, tget, tfind, hr]

theorem Has.aside (h : Has r x s) (ha : Aside s t) : Has r x t := ha.2.trans h

theorem Has.hostSide (h : Has r x s) (ha : HostSide s t) : Has r x t := h.aside ha.1

theorem Has.setReg (h : Has r x s) (y : Region) : Has r y (setReg s r y) := by
  unfold Has Machine.setReg
  rw [h]
  unfold tset
  rw [if_neg (Nat.lt_irrefl _), if_pos rfl]

theorem Has.modReg (h : Has r x s) (f : Region → Region) : Has r (f x) (modReg s r f) := by
  have hset := h.setReg (f (Machine.regOf s r))
  rw [h.regOf] at hset
  unfold Machine.modReg
  rw [h.regOf]
  exact hset

theorem Has.each (h : Has r x s) (f : RegionId → State → State) : eachRegion f s = f r s := eachRegion_one h

/-- A launch that ends changes the region's launches alone. -/
theorem endLaunch_has (k : Nat) (st : BitVec 8) (info : Word) (h : Has r x s) :
    ∃ y, Has r y (endLaunch r k st info s) ∧ y = { x with launches := y.launches } := by
  unfold endLaunch
  dsimp only
  split
  · exact ⟨x, h, rfl⟩
  next l _ =>
    split
    · exact ⟨x, h, rfl⟩
    split
    · exact ⟨_, (h.modReg fun x => { x with launches := tdel x.launches k }).hostSide (hostLog_hostSide ..), rfl⟩
    · have hended := ((h.hostSide (writeBack_hostSide r s)).hostSide (hostLog_hostSide l.fn (some r) st info _)).modReg
        fun x => { x with launches := tset x.launches k { l with ended := true } }
      have hlive := hended.hostSide (notLive_hostSide l.fn l.ring l.seq _)
      split
      · exact ⟨_, hlive.modReg fun x => { x with launches := tdel x.launches k }, rfl⟩
      · exact ⟨_, hlive.hostSide (postCqe_hostSide ..), rfl⟩

/-- Launches that end one after the other. -/
theorem foldl_ends_has {α : Type} {f : State → α → State} (hf : ∀ y t a, Has r y t → ∃ z, Has r z (f t a) ∧ z = { y with launches := z.launches })
    (l : List α) (h : Has r x s) : ∃ y, Has r y (l.foldl f s) ∧ y = { x with launches := y.launches } := by
  refine foldl_ok (P := fun t => ∃ y, Has r y t ∧ y = { x with launches := y.launches }) (fun t a ht => ?_) l s ⟨x, h, rfl⟩
  obtain ⟨y, hy, heq⟩ := ht
  obtain ⟨z, hz, hzeq⟩ := hf y t a hy
  refine ⟨z, hz, ?_⟩
  rw [hzeq, heq]

theorem foldl_endNotify_hostSide (st : BitVec 8) (info : Word) (l : List PendNotify) (s : State) :
    HostSide s (l.foldl (fun s n => endNotify n st info s) s) := foldl_hostSide (fun _ _ => endNotify_hostSide ..) l s

theorem endStarted_has (cause : BitVec 8) (h : Has r x s) :
    ∃ y, Has r y (endStarted r cause s) ∧ y = { x with launches := y.launches } :=
  foldl_ends_has (fun _ _ _ ht => endLaunch_has _ _ _ ht) _ h

/-- A region that stops. -/
def stoppedRegion (cause : BitVec 8) (tell : Bool) (x : Region) : Region :=
  { x with stopped := true, stopCause := cause, monError := cause, stopE5 := tell, load := none,
           resumeReq := false, late := false, failStop := none }

theorem stopRegion_has (cause : BitVec 8) (tell : Bool) (h : Has r x s) :
    ∃ y, Has r y (stopRegion r cause tell s) ∧ y = stoppedRegion cause tell { x with launches := y.launches } := by
  have hevent : Has r x (match fnOfRegion s r with
      | some fn => fnEvent fn 3 cause (BitVec.ofNat 64 r.val) s
      | none => s) := by
    split
    · exact h.hostSide (fnEvent_hostSide ..)
    · exact h
  obtain ⟨y, hy, heq⟩ := endStarted_has cause (hevent.hostSide (writeBack_hostSide r _))
  refine ⟨stoppedRegion cause tell y, Has.aside ?_ (quiesce_aside r _), ?_⟩
  · exact Has.modReg (ite_ok (P := Has r y) (hy.hostSide (logItem_hostSide ..)) hy) (stoppedRegion cause tell)
  · exact congrArg (stoppedRegion cause tell) heq

/-- A region that is deleted is no region, and nothing waits for it. -/
def Dead (x : Region) : Prop :=
  x.valid = false ∧ x.pending = [] ∧ x.failStop = none ∧ x.night = none ∧ x.load = none

/-- A region's number when its region is gone: what of it stays. -/
def buriedRegion (x : Region) (n : Nat) : Region :=
  { Region.reset with gen := x.gen, entry := x.entry, freeFrom := n, zeroing := true, launches := x.launches }

/-- The windows of a deleted region wait to be filled with zeros. -/
def buried (r : RegionId) (d : State) : State :=
  setReg { d with scrubbing := d.scrubbing ++ (regOf d r).bulk.filter fun w => decide (w.2 ≠ 0) } r
    (buriedRegion (regOf d r) (d.clock.dayNo + 2))

theorem buried_has {d : State} (h : Has r x d) : ∃ y, Has r y (buried r d) ∧ Dead y := by
  have hscrub : Has r x { d with scrubbing := d.scrubbing ++ (regOf d r).bulk.filter fun w => decide (w.2 ≠ 0) } := h
  exact ⟨_, hscrub.setReg (buriedRegion (regOf d r) (d.clock.dayNo + 2)), rfl, rfl, rfl, rfl, rfl⟩

theorem deadRegion_has (h : Has r x s) : ∃ y, Has r y (deadRegion r s) ∧ Dead y := by
  have hquiet := (h.hostSide (writeBack_hostSide r s)).aside (quiesce_aside r _)
  have hlines : ∀ {y c}, Has r y c → ∃ z, Has r z (buried r (dropLines r (coresIn c r resetZero))) ∧ Dead z := fun hc =>
    buried_has ((hc.aside (coresIn_aside resetZero_aside _ r)).hostSide (dropLines_hostSide r _))
  unfold deadRegion
  dsimp only
  generalize quiesce r (writeBack r s) = q at hquiet ⊢
  obtain ⟨y, hl, -⟩ := foldl_ends_has (f := fun s (e : Nat × Launch) => endLaunch r e.1 0x2E (BitVec.ofNat 64 r.val) s)
    (fun _ _ _ ht => endLaunch_has _ _ _ ht) (regOf q r).launches hquiet
  generalize (regOf q r).launches.foldl (fun s e => endLaunch r e.1 0x2E (BitVec.ofNat 64 r.val) s) q = a at hl ⊢
  have hn := hl.hostSide (foldl_endNotify_hostSide 0x2B 0 (regOf a r).notifies a)
  generalize (regOf a r).notifies.foldl (fun s n => endNotify n 0x2B 0 s) a = b at hn ⊢
  split
  · exact hlines (hn.hostSide ((closePorts_hostSide ..).trans (fnEvent_hostSide ..)))
  · exact hlines hn

theorem bornRegion_has (h : Has r x s) : Has r { x with
    valid := true, gen := x.gen + 1, bootDue := true, loaded := false, loadFailed := false,
    measurement := 0, borderOk := true, farVf := x.vf, posted := (0, 0) } (bornRegion r s) := by
  have hborn := (h.hostSide (countersZero_hostSide r s)).modReg fun x => { x with
    valid := true, gen := x.gen + 1, bootDue := true, loaded := false, loadFailed := false,
    measurement := 0, borderOk := true, farVf := x.vf, posted := (0, 0) }
  unfold bornRegion
  dsimp only
  split
  · exact hborn.hostSide (fnEvent_hostSide ..)
  · exact hborn

theorem switchRegion_has (image : BitVec 40) (h : Has r x s) : Has r { x with
    keys := [], bootImage := image, bootDue := true, loaded := false, loadFailed := false, measurement := 0,
    launched := false, stopped := true, stopE5 := false, night := none, waking := false, wakeAt := none, gen := x.gen + 1 }
    (switchRegion r image s) := by
  have hboot := ((h.aside (coresIn_aside resetZero_aside s r)).modReg fun x => { x with
    keys := [], bootImage := image, bootDue := true, loaded := false, loadFailed := false, measurement := 0,
    launched := false, stopped := true, stopE5 := false, night := none, waking := false, wakeAt := none }).modReg
    fun x => { x with gen := x.gen + 1 }
  have hup : genUp r (reboot r image s) = modReg (modReg (coresIn s r resetZero) r fun x => { x with
    keys := [], bootImage := image, bootDue := true, loaded := false, loadFailed := false, measurement := 0,
    launched := false, stopped := true, stopE5 := false, night := none, waking := false, wakeAt := none }) r
    fun x => { x with gen := x.gen + 1 } := rfl
  rw [← hup] at hboot
  unfold switchRegion
  generalize genUp r (reboot r image s) = t at hboot ⊢
  exact hboot

/-! ### The steps after the changes -/

/-- What a region loses with its VF. -/
theorem unbound_has (f : Region → Region) (l : Tab Launch) (n : List PendNotify) (h : Has r x s) :
    ∃ y, Has r (f y) (modReg (n.foldl (fun s n => endNotify n 0x2B 0 s) (l.foldl (fun s e => endLaunch r e.1 0x2B 0 s) s)) r f)
      ∧ y = { x with launches := y.launches } := by
  obtain ⟨y, hy, heq⟩ := foldl_ends_has (f := fun s (e : Nat × Launch) => endLaunch r e.1 0x2B 0 s)
    (fun _ _ _ ht => endLaunch_has _ _ _ ht) l h
  exact ⟨y, (hy.hostSide (foldl_endNotify_hostSide 0x2B 0 n _)).modReg f, heq⟩

theorem bindVf_has (vf : BitVec 9) (h : Has r x s) :
    ∃ y, Has r y (bindVf r vf s) ∧ y = { x with vf := vf, launches := y.launches, notifies := y.notifies } := by
  have hold : Has r x (match fnOfRegion s r with
      | some fn => fnEvent fn 2 0 (BitVec.ofNat 64 r.val) (closePorts fn 0x2B s)
      | none => s) := by
    split
    · exact h.hostSide ((closePorts_hostSide ..).trans (fnEvent_hostSide ..))
    · exact h
  have hall := fun l n => unbound_has (fun x => { x with
    vf := vf, notifies := x.notifies.filter fun n => !decide (some n.fn = fnOfRegion s r) }) l n hold
  unfold bindVf
  dsimp only
  split
  · exact (hall _ _).elim fun y hy => ⟨_, hy.1.hostSide (fnEvent_hostSide ..), by rw [hy.2]⟩
  · exact (hall _ _).elim fun y hy => ⟨_, hy.1, by rw [hy.2]⟩

theorem bindStep_has (h : Has r x s) : ∃ y, Has r y (bindStep r s)
    ∧ y = { x with quota := y.quota, quotaNext := y.quotaNext, vf := y.vf, vfNext := y.vfNext, launches := y.launches, notifies := y.notifies }
    ∧ (∀ k q, x.quotaNext = [(k, q)] → k ≤ s.clock.dayNo → y.quota = q ∧ y.quotaNext = []) := by
  unfold bindStep
  dsimp only
  rw [h.regOf]
  split
  case isTrue hnone => exact ⟨x, h, rfl, fun k q hq => by simp [hnone.1] at hq⟩
  case isFalse =>
    have hbound := h.modReg fun x => { x with
      quota := lastNext (x.quotaNext.filter fun e => decide (e.1 ≤ s.clock.dayNo)) x.quota
      quotaNext := x.quotaNext.filter fun e => !decide (e.1 ≤ s.clock.dayNo)
      vfNext := x.vfNext.filter fun e => !decide (e.1 ≤ s.clock.dayNo) }
    have htaken : ∀ k q, x.quotaNext = [(k, q)] → k ≤ s.clock.dayNo →
        lastNext (x.quotaNext.filter fun e => decide (e.1 ≤ s.clock.dayNo)) x.quota = q ∧
        (x.quotaNext.filter fun e => !decide (e.1 ≤ s.clock.dayNo)) = [] := by
      intro k q hq hk
      rw [hq]
      simp [hk, lastNext]
    split
    · exact ⟨_, hbound, rfl, htaken⟩
    · obtain ⟨y, hy, heq⟩ := bindVf_has (lastNext (x.vfNext.filter fun e => decide (e.1 ≤ s.clock.dayNo)) x.vf) hbound
      refine ⟨y, hy, by rw [heq], fun k q hq hk => ?_⟩
      rw [heq]
      exact htaken k q hq hk

theorem farStep_has (h : Has r x s) : ∃ y, Has r y (farStep r s) ∧ y = { x with farVf := y.farVf } := by
  refine ite_ok (P := fun t => ∃ y, Has r y t ∧ y = { x with farVf := y.farVf }) ⟨x, h, rfl⟩ ?_
  have hfar := (h.hostSide (writeBack_hostSide r s)).modReg fun x => { x with farVf := x.vf }
  exact ⟨_, hfar, rfl⟩

theorem borderStep_has (h : Has r x s) : ∃ y, Has r y (borderStep s r) ∧ y = { x with borderOk := y.borderOk } := by
  unfold borderStep
  dsimp only
  generalize (if (regOf s r).valid = true then (perimeter s r).filter (maskWrong s) else []) = bad
  refine ite_ok (P := fun t => ∃ y, Has r y t ∧ y = { x with borderOk := y.borderOk }) ⟨x, h, rfl⟩
    ⟨{ x with borderOk := false }, ?_, rfl⟩
  have hlog : HostSide s (bad.foldl (fun s c => logCore c 0 0x13 0 s) s) := foldl_hostSide (fun _ _ => logItem_hostSide ..) bad s
  refine Has.aside ((h.hostSide hlog).modReg fun x => { x with borderOk := false }) ?_
  exact coresIn_aside (fun _ s => ite_ok (P := Aside s) (holdCore_aside ..) (Aside.refl s)) _ _

theorem swapBanks_aside_load (r : RegionId) (s : State) :
    ∃ u, Aside s u ∧ swapBanks r s = modReg u r fun x => { x with load := none } := by
  refine ⟨_, ?_, rfl⟩
  refine coresIn_aside (fun c s => ?_) s r
  have hrouter : Aside s (if (tfind s.routers c.val).isSome then
      setRouter s c { routerOf s c with active := !(routerOf s c).active } else s) :=
    ite_ok (P := Aside s) (setRouter_aside ..) (Aside.refl s)
  exact ite_ok (P := Aside s) hrouter hrouter

theorem swapBanks_has (h : Has r x s) : Has r { x with load := none } (swapBanks r s) := by
  obtain ⟨u, hu, heq⟩ := swapBanks_aside_load r s
  rw [heq]
  exact (h.aside hu).modReg fun x => { x with load := none }

theorem swapStep_has (h : Has r x s) : ∃ y, Has r y (swapStep r s)
    ∧ y = { x with load := y.load, stopped := y.stopped, stopE5 := y.stopE5, resumeReq := y.resumeReq }
    ∧ (x.load = none → y.stopped = x.stopped) ∧ (x.stopped = false → y.stopped = false) := by
  have hswap := swapBanks_has h
  unfold swapStep
  dsimp only
  rw [h.regOf]
  cases hl : x.load with
  | none =>
    rw [if_pos (by simp)]
    exact ⟨x, h, rfl, fun _ => rfl, id⟩
  | some l =>
    refine ite_ok (P := fun t => ∃ y, Has r y t ∧ y = { x with load := y.load, stopped := y.stopped, stopE5 := y.stopE5, resumeReq := y.resumeReq }
      ∧ (some l = none → y.stopped = x.stopped) ∧ (x.stopped = false → y.stopped = false)) ⟨x, h, rfl, fun _ => rfl, id⟩ ?_
    refine ite_ok (P := fun t => ∃ y, Has r y t ∧ y = { x with load := y.load, stopped := y.stopped, stopE5 := y.stopE5, resumeReq := y.resumeReq }
      ∧ (some l = none → y.stopped = x.stopped) ∧ (x.stopped = false → y.stopped = false))
      ⟨{ x with load := none }, hswap.aside (coresIn_aside startHeld_aside _ _), rfl, fun _ => rfl, id⟩ ?_
    refine ite_ok (P := fun t => ∃ y, Has r y t ∧ y = { x with load := y.load, stopped := y.stopped, stopE5 := y.stopE5, resumeReq := y.resumeReq }
      ∧ (some l = none → y.stopped = x.stopped) ∧ (x.stopped = false → y.stopped = false))
      ⟨{ x with load := none, stopped := false, stopE5 := false, resumeReq := false }, ?_, rfl, nofun, fun _ => rfl⟩
      ⟨x, h, rfl, fun _ => rfl, id⟩
    have hruns := hswap.modReg fun x => { x with stopped := false, stopE5 := false, resumeReq := false }
    refine Has.aside ?_ (coresIn_aside startTasks_aside _ _)
    split
    · exact hruns.hostSide (fnEvent_hostSide ..)
    · exact hruns

theorem wakeStep_has (hn : x.night = none ∨ x.wakeAt = none) (h : Has r x s) :
    ∃ y, Has r y (wakeStep r s) ∧ y = { x with waking := y.waking, wakeAt := y.wakeAt } := by
  have hsame : ∃ y, Has r y s ∧ y = { x with waking := y.waking, wakeAt := y.wakeAt } := ⟨x, h, rfl⟩
  unfold wakeStep
  dsimp only
  rw [h.regOf]
  by_cases hasleep : (!x.valid) = true ∨ x.night.isNone = true
  · rw [if_pos hasleep]
    exact hsame
  · rw [if_neg hasleep]
    have hwake : x.wakeAt = none := hn.resolve_left fun hno => hasleep (Or.inr (by rw [hno]; rfl))
    rw [hwake]
    refine ite_ok (P := fun t => ∃ y, Has r y t ∧ y = { x with waking := y.waking, wakeAt := y.wakeAt })
      ⟨{ x with waking := true, wakeAt := none }, ?_, rfl⟩ hsame
    exact (h.aside (coresIn_aside (fun _ _ => modCore_aside ..) s r)).modReg fun x => { x with waking := true, wakeAt := none }

/-- A region with no lost position joins no stop for one. -/
theorem joinStop_has (hspares : s.spares = []) (h : Has r x s) : ∃ y, Has r y (joinStop r s) ∧ y.valid = x.valid ∧ y.gen = x.gen
    ∧ y.bootDue = x.bootDue ∧ (x.failStop = none → y = x) := by
  have hq : mustQuiesce s r = false := by
    unfold mustQuiesce
    rw [hspares]
    rfl
  unfold joinStop
  dsimp only
  rw [h.regOf, hq]
  split
  case isTrue hstop =>
    obtain ⟨y, hy, heq⟩ := stopRegion_has 0x3A true h
    refine ⟨y, hy, (congrArg Region.valid heq :), (congrArg Region.gen heq :), (congrArg Region.bootDue heq :), fun hf => ?_⟩
    rw [lostDue, hf] at hstop
    simp at hstop
  case isFalse => exact ⟨x, h, rfl, rfl, rfl, fun _ => rfl⟩

/-- The confirmation vector is sampled and cleared. -/
def sampled (x : Region) : Region :=
  if x.valid then { x with sampledVariant := x.variantNext, sampledMask := x.confirm, confirm := 0 } else x

theorem sampleStep_has (h : Has r x s) : Has r (sampled x) (sampleStep r s) := by
  unfold sampleStep sampled
  rw [h.regOf]
  split
  · exact h.modReg fun x => { x with sampledVariant := x.variantNext, sampledMask := x.confirm, confirm := 0 }
  · exact h

theorem loadStep_has (h : Has r x s) : ∃ y, Has r y (loadStep r s) ∧ y = { x with load := y.load, loadNext := y.loadNext }
    ∧ (x.loadNext = none → y = x) := by
  unfold loadStep
  rw [h.regOf]
  split
  next a ha =>
    refine ⟨_, (h.modReg fun x => { x with loadNext := none, load := some ⟨a, s.clock.dayNo, true, false⟩ }).aside
      (clearInactive_aside r _), rfl, fun hn => ?_⟩
    rw [ha] at hn
    cases hn
  · exact ⟨x, h, rfl, fun _ => rfl⟩

end

end Sys2Proof.Machine

/-!
SUPPORT. A Daybreak with one region, from the stops to the steps that follow its changes (R67, R77, R385–R388, R448, R463).
-/
namespace Sys2Proof.Machine
open Sys2Proof Sys2Proof.Safety

section
variable {r : RegionId} {x : Region} {s : State}

/-! ### After the changes -/

/-- What follows the changes of the regions at a Daybreak. -/
def afterChanges (checked : List RegionId) (s : State) : State :=
  let s := checked.foldl borderStep (eachRegion farStep (eachRegion bindStep s))
  let s := if s.dev = .daylight then eachRegion swapStep s else s
  let s := eachRegion wakeStep s
  let s := eachRegion joinStop s
  let s := eachRegion sampleStep s
  let s := eachRegion loadStep s
  let s := farFlush (if s.log.unsaved = 0 then s else wantStore .persistentLog s)
  routeDay { s with
    cores := tmap coreDay s.cores
    routers := tmap routerDay s.routers
    fns := tmap (farDay s) s.fns
    ports := tmap (portDay s) s.ports }

theorem afterCells_eq (checked : List RegionId) (s : State) : afterCells checked s = afterChanges checked (eachRegion changeStep s) := rfl

/-- What the steps after a region's changes leave of it alone. -/
def kept (x : Region) : Bool × BitVec 8 × Bool × BitVec 40 × Option NightKind × Bool × BitVec 8 × Option Nat :=
  (x.valid, x.gen, x.bootDue, x.bootImage, x.night, x.wakeOnLaunch, x.stopCause, x.failStop)

theorem kept_fields {x y : Region} (h : kept x = kept y) : x.valid = y.valid ∧ x.gen = y.gen ∧ x.bootDue = y.bootDue
    ∧ x.bootImage = y.bootImage ∧ x.night = y.night ∧ x.wakeOnLaunch = y.wakeOnLaunch ∧ x.stopCause = y.stopCause
    ∧ x.failStop = y.failStop := by
  simpa only [kept, Prod.mk.injEq] using h

/-- The next variant and the confirmations. -/
def votes (x : Region) : BitVec 4 × BitVec 256 := (x.variantNext, x.confirm)

/-- The night and the wake. -/
def sleep (x : Region) : Option NightKind × Option Nat := (x.night, x.wakeAt)

/-- The quota in force and the one accepted. -/
def quotas (x : Region) : BitVec 11 × List (Nat × BitVec 11) := (x.quota, x.quotaNext)

theorem borders_has {checked : List RegionId} (hc : checked = [] ∨ checked = [r]) (h : Has r x s) :
    ∃ y, Has r y (checked.foldl borderStep s) ∧ y = { x with borderOk := y.borderOk } := by
  rcases hc with rfl | rfl
  · exact ⟨x, h, rfl⟩
  · exact borderStep_has h

/-- The last step: per-Day state, which no region has. -/
theorem dayTables_has (h : Has r x s) : Has r x (routeDay { s with
    cores := tmap coreDay s.cores, routers := tmap routerDay s.routers, fns := tmap (farDay s) s.fns,
    ports := tmap (portDay s) s.ports }) := h

theorem afterChanges_has {checked : List RegionId} (hc : checked = [] ∨ checked = [r]) (hspares : s.spares = [])
    (hn : x.night = none ∨ x.wakeAt = none) (h : Has r x s) :
    ∃ y, Has r y (afterChanges checked s) ∧ y.valid = x.valid ∧ y.gen = x.gen ∧ y.bootDue = x.bootDue
      ∧ (x.failStop = none → kept y = kept x ∧ (x.load = none → y.stopped = x.stopped)
        ∧ (x.valid = true → y.sampledVariant = x.variantNext ∧ y.sampledMask = x.confirm ∧ y.confirm = 0)
        ∧ ∀ k q, x.quotaNext = [(k, q)] → k ≤ s.clock.dayNo → y.quota = q ∧ y.quotaNext = []) := by
  obtain ⟨a, ha, ea, hquota⟩ := bindStep_has h
  obtain ⟨b, hb, eb⟩ := farStep_has ha
  obtain ⟨c, hborder, ec⟩ := borders_has hc hb
  have hplain : Plain s (checked.foldl borderStep (farStep r (bindStep r s))) :=
    ((bindStep_plain r s).trans (farStep_plain r _)).trans (foldl_plain borderStep_plain _ _)
  unfold afterChanges
  dsimp only
  rw [h.each, ha.each]
  generalize checked.foldl borderStep (farStep r (bindStep r s)) = t at hborder hplain ⊢
  have hswap : ∃ d, Has r d (if t.dev = .daylight then eachRegion swapStep t else t)
      ∧ d = { c with load := d.load, stopped := d.stopped, stopE5 := d.stopE5, resumeReq := d.resumeReq }
      ∧ (c.load = none → d.stopped = c.stopped) := by
    rw [hborder.each]
    split
    · obtain ⟨d, hd, ed, hload, -⟩ := swapStep_has hborder
      exact ⟨d, hd, ed, hload⟩
    · exact ⟨c, hborder, rfl, fun _ => rfl⟩
  have hplain2 : Plain s (if t.dev = .daylight then eachRegion swapStep t else t) := by
    rw [hborder.each]
    exact ite_ok (P := Plain s) (hplain.trans (swapStep_plain r t)) hplain
  generalize (if t.dev = .daylight then eachRegion swapStep t else t) = u at hswap hplain2 ⊢
  obtain ⟨d, hd, ed, hstopped⟩ := hswap
  have hsleep : sleep d = sleep x :=
    (congrArg sleep ed :).trans ((congrArg sleep ec :).trans ((congrArg sleep eb :).trans (congrArg sleep ea :)))
  have hdn : d.night = none ∨ d.wakeAt = none := by
    rw [(Prod.mk.inj hsleep).1, (Prod.mk.inj hsleep).2]
    exact hn
  obtain ⟨e, he, ee⟩ := wakeStep_has hdn hd
  obtain ⟨g, hg, gvalid, ggen, gdue, gsame⟩ := joinStop_has (s := wakeStep r u)
    ((wakeStep_plain r u).2.1.trans (hplain2.2.1.trans hspares)) he
  have hsample := sampleStep_has hg
  obtain ⟨l, hl, el, -⟩ := loadStep_has hsample
  have hflush : Has r l (farFlush (if (loadStep r (sampleStep r (joinStop r (wakeStep r u)))).log.unsaved = 0 then
      loadStep r (sampleStep r (joinStop r (wakeStep r u)))
      else wantStore .persistentLog (loadStep r (sampleStep r (joinStop r (wakeStep r u)))))) :=
    Has.hostSide (ite_ok (P := Has r l) hl (hl.hostSide (wantStore_hostSide ..))) (farFlush_hostSide _)
  rw [hd.each, he.each, hg.each, hsample.each]
  have kearly : kept e = kept x := (congrArg kept ee :).trans ((congrArg kept ed :).trans ((congrArg kept ec :).trans
    ((congrArg kept eb :).trans (congrArg kept ea :))))
  have kvotes : votes e = votes x := (congrArg votes ee :).trans ((congrArg votes ed :).trans ((congrArg votes ec :).trans
    ((congrArg votes eb :).trans (congrArg votes ea :))))
  have ksampled : kept (sampled g) = kept g := by
    unfold sampled
    split <;> rfl
  have klast : kept l = kept g := (congrArg kept el :).trans ksampled
  obtain ⟨kvalid, kgen, kdue, -⟩ := kept_fields klast
  obtain ⟨evalid, egen, edue, -, -, -, -, efail⟩ := kept_fields kearly
  have hfields : l.valid = x.valid ∧ l.gen = x.gen ∧ l.bootDue = x.bootDue :=
    ⟨kvalid.trans (gvalid.trans evalid), kgen.trans (ggen.trans egen), kdue.trans (gdue.trans edue)⟩
  refine ⟨l, dayTables_has hflush, hfields.1, hfields.2.1, hfields.2.2, fun hf => ?_⟩
  have hge : g = e := gsame (efail.trans hf)
  rw [hge] at klast el
  refine ⟨klast.trans kearly, fun hload => ?_, fun hv => ?_, fun k q hq hk => ?_⟩
  · have hcload : c.load = none := (congrArg Region.load ec :).trans ((congrArg Region.load eb :).trans ((congrArg Region.load ea :).trans hload))
    have hs : (sampled e).stopped = e.stopped := by
      unfold sampled
      split <;> rfl
    exact (congrArg Region.stopped el :).trans (hs.trans ((congrArg Region.stopped ee :).trans ((hstopped hcload).trans
      ((congrArg Region.stopped ec :).trans ((congrArg Region.stopped eb :).trans (congrArg Region.stopped ea :))))))
  · have hve : e.valid = true := evalid.trans hv
    have hs : sampled e = { e with sampledVariant := e.variantNext, sampledMask := e.confirm, confirm := 0 } := if_pos hve
    rw [hs] at el
    exact ⟨(congrArg Region.sampledVariant el :).trans (Prod.mk.inj kvotes).1,
      (congrArg Region.sampledMask el :).trans (Prod.mk.inj kvotes).2, (congrArg Region.confirm el :)⟩
  · obtain ⟨hq1, hq2⟩ := hquota k q hq hk
    have hs : quotas (sampled e) = quotas e := by
      unfold sampled
      split <;> rfl
    have hall : quotas l = quotas a := (congrArg quotas el :).trans (hs.trans ((congrArg quotas ee :).trans
      ((congrArg quotas ed :).trans ((congrArg quotas ec :).trans (congrArg quotas eb :)))))
    exact ⟨(Prod.mk.inj hall).1.trans hq1, (Prod.mk.inj hall).2.trans hq2⟩

/-! ### Stops and changes -/

theorem dueChanges_none (h : x.pending = []) : dueChanges s x = [] := by
  unfold dueChanges
  rw [h]
  rfl

theorem dueChanges_one {n : Nat} {c : RegionChange} (h : x.pending = [(n, c)]) (hn : n ≤ s.clock.dayNo) : dueChanges s x = [c] := by
  unfold dueChanges
  rw [h]
  simp [hn]

theorem changeStep_none (hx : Has r x s) (h : dueChanges s x = []) : changeStep r s = s := by
  unfold changeStep
  dsimp only
  rw [hx.regOf]
  exact if_pos h

/-- The region without its changes that are due. -/
def undue (n : Nat) (x : Region) : Region := { x with pending := x.pending.filter fun e => decide (n < e.1) }

theorem changeStep_one {c : RegionChange} (hx : Has r x s) (h : dueChanges s x = [c]) :
    changeStep r s = applyRegionChange r (modReg s r (undue s.clock.dayNo)) c := by
  unfold changeStep
  dsimp only
  rw [hx.regOf, h, if_neg (List.cons_ne_nil c [])]
  rfl

theorem checkedRegions_one (hx : Has r x s) (hspares : s.spares = []) : checkedRegions s = [] ∨ checkedRegions s = [r] := by
  have hr : Fin.ofNat 256 r.val = r := Fin.ext (Nat.mod_eq_of_lt r.isLt)
  have hids : regionIds s = [r] := by
    have hreg : s.regions = [(r.val, x)] := hx
    rw [regionIds, hreg, List.map_cons, List.map_nil, hr]
  have hc : checkedRegions s
      = [r].filter (fun r => (regOf s r).pending.any fun e => decide (e.1 ≤ s.clock.dayNo) && decide (e.2 = .create)) := by
    unfold checkedRegions
    rw [hids, hspares]
    exact List.append_nil _
  rw [hc, List.filter_singleton]
  generalize ((regOf s r).pending.any fun e => decide (e.1 ≤ s.clock.dayNo) && decide (e.2 = .create)) = b
  cases b
  · exact Or.inl rfl
  · exact Or.inr rfl

theorem stopStep_invalid (wasDay twi : Bool) (hx : Has r x s) (hv : x.valid = false) : stopStep wasDay twi r s = s := by
  unfold stopStep
  dsimp only
  rw [hx.regOf]
  exact if_pos (by rw [hv]; rfl)

theorem stopStep_dead {wasDay twi : Bool} (hx : Has r x s) (hv : x.valid = true) (hd : (dueChanges s x).contains .delete = true) :
    stopStep wasDay twi r s = deadRegion r s := by
  unfold stopStep
  dsimp only
  rw [hx.regOf]
  exact (if_neg (by rw [hv]; decide)).trans (if_pos hd)

theorem stopStep_stops {wasDay twi : Bool} {c : BitVec 8} (hx : Has r x s) (hv : x.valid = true)
    (hd : (dueChanges s x).contains .delete = false) (hc : stopCauseOf s wasDay twi r = some c) :
    stopStep wasDay twi r s = stopRegion r c (!(dueChanges s x).any isNight) s := by
  unfold stopStep
  dsimp only
  rw [hx.regOf, hc]
  exact (if_neg (by rw [hv]; decide)).trans (if_neg (by rw [hd]; decide))

theorem stopStep_runs {wasDay twi : Bool} (hx : Has r x s) (hv : x.valid = true)
    (hd : (dueChanges s x).contains .delete = false) (hc : stopCauseOf s wasDay twi r = none) : stopStep wasDay twi r s = s := by
  unfold stopStep
  dsimp only
  rw [hx.regOf, hc]
  exact (if_neg (by rw [hv]; decide)).trans (if_neg (by rw [hd]; decide))

/-- A change that stops a region. -/
theorem stopCause_change {wasDay : Bool} (hx : Has r x s) (hn : x.night = none)
    (hd : (dueChanges s x).any (fun c => isSwitch c || isNight c) = true) : stopCauseOf s wasDay false r = some 0x3E := by
  unfold stopCauseOf
  dsimp only
  rw [hx.regOf, hd, if_neg (by rw [hn]; decide)]
  rfl

/-- With no change, no failure and no bad flag word a region stops by its overruns or its late load alone. -/
theorem stopCause_own {wasDay : Bool} (hx : Has r x s) (hn : x.night = none) (hf : x.failStop = none)
    (hspares : s.spares = []) (hflags : s.badFlagWords = []) (hd : dueChanges s x = []) :
    stopCauseOf s wasDay false r
      = if (!x.stopped && wasDay && overran s r) = true then some 0x0C else if x.late = true then some 0x18 else none := by
  have hq : mustQuiesce s r = false := by
    unfold mustQuiesce
    rw [hspares]
    rfl
  have hl : lostDue s x = false := by
    unfold lostDue
    rw [hf]
    rfl
  have hfl : flagHit s r = false := by
    unfold flagHit
    rw [hflags]
    rfl
  unfold stopCauseOf
  dsimp only
  rw [hx.regOf, hd, hq, hl, hfl, if_neg (by rw [hn]; decide), if_neg (by decide), if_neg (by decide), if_neg (by decide)]

/-! ### The Daybreak of one region -/

theorem finishTests_idle (h : s.mgmt.testing = []) : finishTests s = s := by
  rw [finishTests_eq, h]
  change { s with mgmt := { s.mgmt with testing := [] } } = s
  rw [← h]

theorem turned_regions (s : State) : (turned s).regions = s.regions ∧ (turned s).spares = s.spares ∧ (turned s).removals = s.removals
    ∧ (turned s).removedDies = s.removedDies ∧ (turned s).removalsNext = s.removalsNext ∧ (turned s).badFlagWords = s.badFlagWords
    ∧ (turned s).clock = s.clock ∧ (turned s).cells = s.cells ∧ (turned s).cellChanges = s.cellChanges ∧ (turned s).cores = s.cores
    ∧ (turned s).routers = s.routers := by
  unfold turned
  split
  · exact ⟨rfl, rfl, rfl, rfl, rfl, rfl, rfl, rfl, rfl, rfl, rfl⟩
  split
  · exact ⟨rfl, rfl, rfl, rfl, rfl, rfl, rfl, rfl, rfl, rfl, rfl⟩
  · exact ⟨rfl, rfl, rfl, rfl, rfl, rfl, rfl, rfl, rfl, rfl, rfl⟩

/-- No row and no list of removals waits: the map stays. -/
theorem shiftMap_idle (hspares : s.spares = []) (hnext : s.removalsNext = []) : shiftMap s = s := by
  have hrows : shiftSpares s = s := by
    unfold shiftSpares
    rw [hspares]
    rfl
  have hlist : shiftRemovals s = s := by
    unfold shiftRemovals
    rw [hnext]
    rfl
  have hback : rejoining s = [] := by
    have hon : removalsOn s s.clock.dayNo = (s.removals, s.removedDies) := by
      unfold removalsOn
      rw [hnext]
      rfl
    have hnone : (s.removals.filter fun c => !s.removals.contains c) = [] := by
      rw [List.filter_eq_nil_iff]
      intro c hc
      simp [hc]
    unfold rejoining restoredList
    rw [hspares, hon, hnone]
    rfl
  unfold shiftMap
  dsimp only
  rw [hback, hrows, hlist]
  rfl

/-- The state in which the regions stop. -/
def beforeStops (s : State) : State := turned (dayStart s)

/-- The state after the stops of the regions, the cell table turned. -/
def afterStops (r : RegionId) (s : State) : State :=
  swapCells { stopStep (decide (s.dev = .daylight)) (twilightDue (dayStart s)) r (beforeStops s) with badFlagWords := [] }

theorem beforeStops_fields (s : State) : (beforeStops s).regions = s.regions ∧ (beforeStops s).spares = s.spares
    ∧ (beforeStops s).removalsNext = s.removalsNext ∧ (beforeStops s).badFlagWords = s.badFlagWords
    ∧ (beforeStops s).clock.dayNo = s.clock.dayNo + 1 ∧ (beforeStops s).cells = s.cells ∧ (beforeStops s).cellChanges = s.cellChanges
    ∧ (beforeStops s).routers = s.routers ∧ ∀ c : CoreId, coreOf (beforeStops s) c = { coreOf s c with passed := (coreOf (beforeStops s) c).passed } := by
  obtain ⟨-, pregions, pcells, pchanges, pspares, -, -, pnext, pflags, prouters, -, -, pcore⟩ := dayStart_passes s
  obtain ⟨pday, -⟩ := dayStart_fields s
  obtain ⟨tregions, tspares, -, -, tnext, tflags, tclock, tcells, tchanges, tcores, trouters⟩ := turned_regions (dayStart s)
  refine ⟨tregions.trans pregions, tspares.trans pspares, tnext.trans pnext, tflags.trans pflags, ?_, tcells.trans pcells,
    tchanges.trans pchanges, trouters.trans prouters, fun c => ?_⟩
  · exact (congrArg Clock.dayNo tclock).trans pday
  · have hc : coreOf (beforeStops s) c = coreOf (dayStart s) c := congrArg (tget Core.reset · c.val) tcores
    rw [hc]
    exact pcore c

theorem afterStops_has {y : Region} (h : Has r y (stopStep (decide (s.dev = .daylight)) (twilightDue (dayStart s)) r (beforeStops s))) :
    Has r y (afterStops r s) := h

theorem afterStops_fields (r : RegionId) (s : State) : (afterStops r s).spares = s.spares ∧ (afterStops r s).removalsNext = s.removalsNext
    ∧ (afterStops r s).clock.dayNo = s.clock.dayNo + 1 ∧ (afterStops r s).dev = (beforeStops s).dev := by
  obtain ⟨-, bspares, bnext, -, bday, -⟩ := beforeStops_fields s
  obtain ⟨⟨hdev, hclock, -⟩, hspares, -, -, hnext⟩ :=
    stopStep_plain (decide (s.dev = .daylight)) (twilightDue (dayStart s)) r (beforeStops s)
  exact ⟨hspares.trans bspares, hnext.trans bnext, (congrArg Clock.dayNo hclock).trans bday, hdev⟩

/-- The Daybreak of a device with one region, no row of the map waiting and no test under way. -/
theorem daybreak_one (hdev : s.dev ≠ .midnight) (hx : s.regions = [(r.val, x)]) (hspares : s.spares = []) (hnext : s.removalsNext = [])
    (htests : s.mgmt.testing = []) :
    exec .daybreak s = .next (afterChanges (checkedRegions (afterStops r s)) (eachRegion changeStep (afterStops r s))) := by
  obtain ⟨-, pregions, -, -, -, -, -, -, -, -, pmgmt, -⟩ := dayStart_passes s
  obtain ⟨bregions, -⟩ := beforeStops_fields s
  obtain ⟨aspares, anext, -⟩ := afterStops_fields r s
  have hidle : finishTests (dayStart s) = dayStart s := finishTests_idle (by rw [pmgmt]; exact htests)
  have hstop : swapCells (stopped (decide (s.dev = .daylight)) (dayStart s)) = afterStops r s := by
    unfold stopped afterStops
    rw [hidle]
    change swapCells { eachRegion _ (beforeStops s) with badFlagWords := [] } = _
    rw [eachRegion_one (bregions.trans hx)]
  rw [daybreak_runs hdev, daybreakBody_eq, hstop, shiftMap_idle (aspares.trans hspares) (anext.trans hnext)]
  rfl

end

end Sys2Proof.Machine

/-!
SUPPORT. A committed route load takes effect at Daybreak: banks and budgets swap (R67), and what the steps around it leave alone.
-/
namespace Sys2Proof.Machine
open Sys2Proof Sys2Proof.Safety

/-! ### Steps that leave the mesh alone -/

/-- From `s` to `t` no core and no router changes. -/
def SameMesh (s t : State) : Prop := t.cores = s.cores ∧ t.routers = s.routers

theorem SameMesh.refl (s : State) : SameMesh s s := ⟨rfl, rfl⟩
theorem SameMesh.trans {s t u : State} (a : SameMesh s t) (b : SameMesh t u) : SameMesh s u := ⟨b.1.trans a.1, b.2.trans a.2⟩
theorem HostSide.mesh {s t : State} (h : HostSide s t) : SameMesh s t := h.2
theorem modReg_mesh (r : RegionId) (f : Region → Region) (s : State) : SameMesh s (modReg s r f) := SameMesh.refl s

theorem SameMesh.core {s t : State} (h : SameMesh s t) (c : CoreId) : coreOf t c = coreOf s c :=
  congrArg (tget Core.reset · c.val) h.1
theorem SameMesh.router {s t : State} (h : SameMesh s t) (c : CoreId) : routerOf t c = routerOf s c :=
  congrArg (tget Router.reset · c.val) h.2

theorem foldl_mesh {α : Type} {f : State → α → State} (hf : ∀ s x, SameMesh s (f s x)) (l : List α) (s : State) :
    SameMesh s (l.foldl f s) := foldl_ok (P := SameMesh s) (fun t x h => h.trans (hf t x)) l s (SameMesh.refl s)

theorem endLaunch_mesh (r : RegionId) (k : Nat) (st : BitVec 8) (info : Word) (s : State) :
    SameMesh s (endLaunch r k st info s) := by
  unfold endLaunch
  dsimp only
  split
  · exact SameMesh.refl s
  next l _ =>
    have hended : SameMesh s (notLive l.fn l.ring l.seq (modReg (hostLog l.fn (some r) st info (writeBack r s)) r
        fun x => { x with launches := tset x.launches k { l with ended := true } })) :=
      ((writeBack_hostSide r s).mesh.trans (hostLog_hostSide ..).mesh).trans
        ((modReg_mesh ..).trans (notLive_hostSide ..).mesh)
    split
    · exact SameMesh.refl s
    split
    · exact SameMesh.trans (modReg_mesh ..) (hostLog_hostSide ..).mesh
    split
    · exact hended.trans (modReg_mesh ..)
    · exact hended.trans (postCqe_hostSide ..).mesh

theorem ends_mesh (r : RegionId) (f : Region → Region) (l : Tab Launch) (n : List PendNotify) (s : State) :
    SameMesh s (modReg (n.foldl (fun s n => endNotify n 0x2B 0 s) (l.foldl (fun s e => endLaunch r e.1 0x2B 0 s) s)) r f) :=
  ((foldl_mesh (fun _ _ => endLaunch_mesh ..) l s).trans (foldl_mesh (fun _ _ => (endNotify_hostSide ..).mesh) n _)).trans
    (modReg_mesh ..)

theorem bindVf_mesh (r : RegionId) (vf : BitVec 9) (s : State) : SameMesh s (bindVf r vf s) := by
  have hold : SameMesh s (match fnOfRegion s r with
      | some fn => fnEvent fn 2 0 (BitVec.ofNat 64 r.val) (closePorts fn 0x2B s)
      | none => s) := by
    split
    · exact ((closePorts_hostSide ..).trans (fnEvent_hostSide ..)).mesh
    · exact SameMesh.refl s
  unfold bindVf
  dsimp only
  split
  · exact (hold.trans (ends_mesh ..)).trans (fnEvent_hostSide ..).mesh
  · exact hold.trans (ends_mesh ..)

theorem bindStep_mesh (r : RegionId) (s : State) : SameMesh s (bindStep r s) :=
  ite_ok (P := SameMesh s) (SameMesh.refl s) (ite_ok (P := SameMesh s) (modReg_mesh ..) ((modReg_mesh ..).trans (bindVf_mesh ..)))

theorem farStep_mesh (r : RegionId) (s : State) : SameMesh s (farStep r s) :=
  ite_ok (P := SameMesh s) (SameMesh.refl s) ((writeBack_hostSide r s).mesh.trans (modReg_mesh ..))

/-! ### Banks and budgets swap -/

/-- From `s` to `t` the banks and budgets of core `c` swap. -/
def Swaps (s t : State) (c : CoreId) : Prop :=
  activeBank (routerOf t c) = idleBank (routerOf s c) ∧ idleBank (routerOf t c) = activeBank (routerOf s c)
    ∧ (coreOf t c).budget = (coreOf s c).budgetNext ∧ (coreOf t c).budgetNext = (coreOf s c).budget

/-- The four values that swap. -/
def swapping (s : State) (c : CoreId) : Tab (BitVec 128) × Tab (BitVec 128) × BitVec 24 × BitVec 24 :=
  (activeBank (routerOf s c), idleBank (routerOf s c), (coreOf s c).budget, (coreOf s c).budgetNext)

theorem swaps_iff {s t : State} {c : CoreId} : Swaps s t c ↔ swapping t c
    = (idleBank (routerOf s c), activeBank (routerOf s c), (coreOf s c).budgetNext, (coreOf s c).budget) := by
  simp [Swaps, swapping]

/-- The swap at one core. -/
def swapCore (c : CoreId) (s : State) : State :=
  let s := if (tfind s.routers c.val).isSome then setRouter s c { routerOf s c with active := !(routerOf s c).active } else s
  let x := coreOf s c
  if x.budget = x.budgetNext then s else setCore s c { x with budget := x.budgetNext, budgetNext := x.budget }

theorem swapBanks_eq (r : RegionId) (s : State) :
    swapBanks r s = modReg (coresIn s r swapCore) r fun x => { x with load := none } := rfl

/-- A router's banks, swapped where the router is in the table: one that is not has empty banks. -/
theorem swapRouter_swaps (c : CoreId) (s : State) :
    let t := if (tfind s.routers c.val).isSome then setRouter s c { routerOf s c with active := !(routerOf s c).active } else s
    activeBank (routerOf t c) = idleBank (routerOf s c) ∧ idleBank (routerOf t c) = activeBank (routerOf s c) := by
  dsimp only
  split
  · rw [routerOf_setRouter_same]
    unfold activeBank idleBank
    cases (routerOf s c).active <;> exact ⟨rfl, rfl⟩
  case isFalse h =>
    have hreset : routerOf s c = Router.reset := by
      unfold routerOf tget
      rw [Option.not_isSome_iff_eq_none.mp h]
      rfl
    rw [hreset]
    exact ⟨rfl, rfl⟩

theorem swapCore_swaps (c : CoreId) (s : State) : Swaps s (swapCore c s) c := by
  obtain ⟨hactive, hidle⟩ := swapRouter_swaps c s
  have hcores : (if (tfind s.routers c.val).isSome then setRouter s c { routerOf s c with active := !(routerOf s c).active } else s).cores
      = s.cores := ite_ok (P := fun t : State => t.cores = s.cores) rfl rfl
  unfold swapCore
  dsimp only
  generalize (if (tfind s.routers c.val).isSome then setRouter s c { routerOf s c with active := !(routerOf s c).active } else s) = t
    at hactive hidle hcores ⊢
  have hcore : coreOf t c = coreOf s c := congrArg (tget Core.reset · c.val) hcores
  rw [hcore]
  split
  case isTrue heq =>
    refine ⟨hactive, hidle, ?_⟩
    rw [hcore]
    exact ⟨heq, heq.symm⟩
  case isFalse =>
    refine ⟨hactive, hidle, ?_⟩
    rw [coreOf_setCore_same]
    exact ⟨rfl, rfl⟩

theorem swapCore_other {c d : CoreId} (h : c ≠ d) (s : State) : swapping (swapCore c s) d = swapping s d := by
  have hrouter : swapping (if (tfind s.routers c.val).isSome then
      setRouter s c { routerOf s c with active := !(routerOf s c).active } else s) d = swapping s d := by
    split
    · unfold swapping
      rw [routerOf_setRouter_other _ _ _ _ h]
      rfl
    · rfl
  unfold swapCore
  dsimp only
  generalize (if (tfind s.routers c.val).isSome then setRouter s c { routerOf s c with active := !(routerOf s c).active } else s) = t
    at hrouter ⊢
  split
  · exact hrouter
  · rw [← hrouter]
    unfold swapping
    rw [coreOf_setCore_other _ _ _ _ h]
    rfl

theorem Swaps.of_same {s t u : State} {c : CoreId} (hs : swapping t c = swapping s c) (h : Swaps t u c) : Swaps s u c := by
  simp only [swapping, Prod.mk.injEq] at hs
  obtain ⟨ha, hi, hb, hn⟩ := hs
  rw [Swaps, ← ha, ← hi, ← hb, ← hn]
  exact h

theorem Swaps.then_same {s t u : State} {c : CoreId} (h : Swaps s t c) (hs : swapping u c = swapping t c) : Swaps s u c :=
  swaps_iff.mpr (hs.trans (swaps_iff.mp h))

theorem foldl_swapCore_other {d : CoreId} (l : List CoreId) (h : d ∉ l) (s : State) :
    swapping (l.foldl (fun s c => swapCore c s) s) d = swapping s d := by
  induction l generalizing s with
  | nil => rfl
  | cons c l ih =>
    rw [List.mem_cons, not_or] at h
    exact (ih h.2 _).trans (swapCore_other (Ne.symm h.1) s)

/-- Each core of the list swaps once. -/
theorem foldl_swapCore {l : List CoreId} (hl : l.Nodup) (s : State) {c : CoreId} (hc : c ∈ l) :
    Swaps s (l.foldl (fun s c => swapCore c s) s) c := by
  induction l generalizing s with
  | nil => cases hc
  | cons d l ih =>
    obtain ⟨hd, hl⟩ := List.nodup_cons.mp hl
    rw [List.foldl_cons]
    rcases List.mem_cons.mp hc with rfl | hmem
    · exact (swapCore_swaps c s).then_same (foldl_swapCore_other l hd _)
    · have hne : d ≠ c := fun h => hd (h ▸ hmem)
      exact Swaps.of_same (swapCore_other hne s) (ih hl _ hmem)

theorem swapBanks_swaps {r : RegionId} {s : State} (h : (regionCores s r).Nodup) {c : CoreId} (hc : c ∈ regionCores s r) :
    Swaps s (swapBanks r s) c := foldl_swapCore h s hc

theorem SameMesh.swapping {s t : State} (h : SameMesh s t) (c : CoreId) : swapping t c = swapping s c := by
  unfold Machine.swapping
  rw [h.core, h.router]

/-- A thread that starts keeps its core's budgets. -/
theorem startThread_swapping (core : CoreId) (i : Fin 4) (s : State) (c : CoreId) : swapping (startThread core i s) c = swapping s c := by
  have hcore : ∀ f, (∀ x, (f x).budget = x.budget ∧ (f x).budgetNext = x.budgetNext) →
      swapping (modCore { s with nextEpoch := s.nextEpoch + 1 } core f) c = swapping s c := by
    intro f hf
    unfold swapping
    by_cases h : core = c
    · subst h
      rw [coreOf_modCore_same, (hf _).1, (hf _).2]
      rfl
    · rw [coreOf_modCore_other _ _ _ _ h]
      rfl
  exact hcore _ fun x => ⟨rfl, rfl⟩

theorem startHeld_swapping (core : CoreId) (s : State) (c : CoreId) : swapping (startHeld core s) c = swapping s c :=
  foldl_ok (P := fun t => swapping t c = swapping s c) (fun t i h =>
    ite_ok (P := fun t => swapping t c = swapping s c) ((startThread_swapping core i t c).trans h) h) _ s rfl

theorem coresIn_startHeld_swapping (s : State) (r : RegionId) (c : CoreId) : swapping (coresIn s r startHeld) c = swapping s c :=
  foldl_ok (P := fun t => swapping t c = swapping s c) (fun t d h => (startHeld_swapping d t c).trans h) _ s rfl

/-- The per-Day state of routers and cores holds no bank and no budget. -/
theorem dayTables_swapping (s : State) (f : Tab HostFn) (p : Tab LinkPort) (c : CoreId) :
    swapping (routeDay { s with cores := tmap coreDay s.cores, routers := tmap routerDay s.routers, fns := f, ports := p }) c
      = swapping s c := by
  have hcore : coreOf (routeDay { s with cores := tmap coreDay s.cores, routers := tmap routerDay s.routers, fns := f, ports := p }) c
      = coreDay 0 (coreOf s c) := tget_tmap coreDay Core.reset s.cores c.val rfl
  have hrouter : routerOf (routeDay { s with cores := tmap coreDay s.cores, routers := tmap routerDay s.routers, fns := f, ports := p }) c
      = routerDay 0 (routerOf s c) := tget_tmap routerDay Router.reset s.routers c.val rfl
  unfold swapping
  rw [hcore, hrouter]
  rfl

/-! ### The swap among the steps of a Daybreak -/

section
variable {r : RegionId} {x : Region} {s : State}

theorem regionCores_congr {t : State} {y : Region} (hx : Has r x s) (hy : Has r y t) (hcell : y.cell = x.cell) (hcells : t.cells = s.cells) :
    regionCores t r = regionCores s r := by
  unfold regionCores cellEntry
  rw [hx.regOf, hy.regOf, hcell, hcells]

theorem swapStep_swaps {l : RouteLoad} (hx : Has r x s) (hv : x.valid = true) (hn : x.night = none) (hb : x.borderOk = true)
    (hs : x.stopped = false) (hl : x.load = some l) (hc : l.committed = true) (hd : l.day < s.clock.dayNo) :
    swapStep r s = coresIn (swapBanks r s) r startHeld := by
  unfold swapStep
  dsimp only
  rw [hx.regOf, hl, hv, hn, hb, hs]
  exact (if_neg (by simp [hc, hd])).trans (if_pos rfl)

theorem wakeStep_idle (hx : Has r x s) (hn : x.night = none) : wakeStep r s = s := by
  unfold wakeStep
  dsimp only
  rw [hx.regOf]
  exact if_pos (Or.inr (by rw [hn]; rfl))

theorem joinStop_idle (hx : Has r x s) (hspares : s.spares = []) (hf : x.failStop = none) : joinStop r s = s := by
  have hq : mustQuiesce s r = false := by
    unfold mustQuiesce
    rw [hspares]
    rfl
  have hl : lostDue s x = false := by
    unfold lostDue
    rw [hf]
    rfl
  unfold joinStop
  dsimp only
  rw [hx.regOf, hq, hl]
  exact if_neg (by simp)

theorem loadStep_idle (hx : Has r x s) (hn : x.loadNext = none) : loadStep r s = s := by
  unfold loadStep
  rw [hx.regOf, hn]

theorem sampleStep_mesh (r : RegionId) (s : State) : SameMesh s (sampleStep r s) :=
  ite_ok (P := SameMesh s) (modReg_mesh ..) (SameMesh.refl s)

/-- A committed load of a region that runs takes effect. -/
theorem afterChanges_swaps {l : RouteLoad} (hx : Has r x s) (hdev : s.dev = .daylight) (hspares : s.spares = [])
    (hv : x.valid = true) (hn : x.night = none) (hb : x.borderOk = true) (hf : x.failStop = none)
    (hs : x.stopped = false) (hl : x.load = some l) (hc : l.committed = true) (hd : l.day < s.clock.dayNo) (hnext : x.loadNext = none)
    (hnodup : (regionCores s r).Nodup) :
    ∃ y, Has r y (afterChanges [] s) ∧ y.load = none ∧ y.stopped = false
      ∧ ∀ c ∈ regionCores s r, Swaps s (afterChanges [] s) c := by
  obtain ⟨a, ha, ea, -⟩ := bindStep_has hx
  obtain ⟨b, hbr, eb⟩ := farStep_has ha
  have hmesh : SameMesh s (farStep r (bindStep r s)) := (bindStep_mesh r s).trans (farStep_mesh r _)
  have hplain : Plain s (farStep r (bindStep r s)) := (bindStep_plain r s).trans (farStep_plain r _)
  have bvalid : b.valid = true := (congrArg Region.valid eb :).trans ((congrArg Region.valid ea :).trans hv)
  have bnight : b.night = none := (congrArg Region.night eb :).trans ((congrArg Region.night ea :).trans hn)
  have bborder : b.borderOk = true := (congrArg Region.borderOk eb :).trans ((congrArg Region.borderOk ea :).trans hb)
  have bfail : b.failStop = none := (congrArg Region.failStop eb :).trans ((congrArg Region.failStop ea :).trans hf)
  have bstopped : b.stopped = false := (congrArg Region.stopped eb :).trans ((congrArg Region.stopped ea :).trans hs)
  have bload : b.load = some l := (congrArg Region.load eb :).trans ((congrArg Region.load ea :).trans hl)
  have bnext : b.loadNext = none := (congrArg Region.loadNext eb :).trans ((congrArg Region.loadNext ea :).trans hnext)
  have bcell : b.cell = x.cell := (congrArg Region.cell eb :).trans (congrArg Region.cell ea :)
  obtain ⟨⟨pdev, pclock, -, -, -, -, pcells, -⟩, pspares, -⟩ := hplain
  unfold afterChanges
  dsimp only
  rw [hx.each, ha.each, List.foldl_nil]
  generalize farStep r (bindStep r s) = t at hbr hmesh pdev pclock pcells pspares ⊢
  have hcores : regionCores t r = regionCores s r := regionCores_congr hx hbr bcell pcells
  rw [if_pos (pdev.trans hdev), hbr.each, swapStep_swaps hbr bvalid bnight bborder bstopped bload hc (by rw [pclock]; exact hd)]
  have hu : Has r { b with load := none } (coresIn (swapBanks r t) r startHeld) :=
    (swapBanks_has hbr).aside (coresIn_aside startHeld_aside _ r)
  have huspares : (coresIn (swapBanks r t) r startHeld).spares = [] :=
    ((swapBanks_plain r t).trans (coresIn_aside startHeld_aside _ r).1).2.1.trans (pspares.trans hspares)
  have hswaps : ∀ c ∈ regionCores s r, Swaps s (coresIn (swapBanks r t) r startHeld) c := fun c hc =>
    Swaps.of_same (hmesh.swapping c) ((swapBanks_swaps (hcores.symm ▸ hnodup) (hcores.symm ▸ hc)).then_same
      (coresIn_startHeld_swapping _ r c))
  generalize coresIn (swapBanks r t) r startHeld = u at hu huspares hswaps ⊢
  have hsample := sampleStep_has hu
  have hsmesh := sampleStep_mesh r u
  have hsload : (sampled { b with load := none }).loadNext = none ∧ (sampled { b with load := none }).load = none
      ∧ (sampled { b with load := none }).stopped = false := by
    unfold sampled
    split <;> exact ⟨bnext, rfl, bstopped⟩
  rw [hu.each, wakeStep_idle hu bnight, hu.each, joinStop_idle hu huspares bfail, hu.each, hsample.each,
    loadStep_idle hsample hsload.1]
  generalize sampleStep r u = v at hsample hsmesh ⊢
  have hflush : HostSide v (farFlush (if v.log.unsaved = 0 then v else wantStore .persistentLog v)) :=
    (ite_ok (P := HostSide v) (HostSide.refl v) (wantStore_hostSide ..)).trans (farFlush_hostSide _)
  refine ⟨_, dayTables_has (hsample.hostSide hflush), hsload.2.1, hsload.2.2, fun c hc => ?_⟩
  exact (hswaps c hc).then_same ((dayTables_swapping _ _ _ c).trans ((hflush.mesh.swapping c).trans (hsmesh.swapping c)))

end

end Sys2Proof.Machine

/-!
SUPPORT. The Daybreak of a device with one region, case by case, and what settles the statement about it (R41–R52, R67, R77, R385–R388).
-/
namespace Sys2Proof.Machine
open Sys2Proof Sys2Proof.Safety

section
variable {r : RegionId} {x : Region} {s : State}

/-- The stops of the regions at this Daybreak. -/
def stops (r : RegionId) (s : State) : State :=
  stopStep (decide (s.dev = .daylight)) (twilightDue (dayStart s)) r (beforeStops s)

/-- A Daybreak that meets one region with no row of the map waiting and no test under way. -/
structure OneRegion (r : RegionId) (x : Region) (s : State) : Prop where
  runs : s.dev ≠ .midnight
  only : s.regions = [(r.val, x)]
  spares : s.spares = []
  removals : s.removalsNext = []
  tests : s.mgmt.testing = []
  asleep : x.night = none

theorem checkedRegions_none (hx : Has r x s) (hspares : s.spares = []) (hp : x.pending = []) : checkedRegions s = [] := by
  have hnot : ∀ q ∈ regionIds s, ¬ ((Machine.regOf s q).pending.any fun e => decide (e.1 ≤ s.clock.dayNo) && decide (e.2 = .create)) = true := by
    intro q hq
    have hone : regionIds s = [Fin.ofNat 256 r.val] := by
      have hreg : s.regions = [(r.val, x)] := hx
      rw [regionIds, hreg, List.map_cons, List.map_nil]
    have hr : q = r := (List.mem_singleton.mp (hone ▸ hq)).trans (Fin.ext (Nat.mod_eq_of_lt r.isLt))
    rw [hr, hx.regOf, hp]
    exact Bool.false_ne_true
  have hnone := List.filter_eq_nil_iff.mpr hnot
  unfold checkedRegions
  rw [hspares, hnone]
  rfl

/-- The state after such a Daybreak. -/
def dawned (r : RegionId) (s : State) : State := afterChanges (checkedRegions (afterStops r s)) (changeStep r (afterStops r s))

theorem OneRegion.before (h : OneRegion r x s) : Has r x (beforeStops s) := (beforeStops_fields s).1.trans h.only

theorem OneRegion.runsTo {z : Region} (h : OneRegion r x s) (hz : Has r z (stops r s)) : exec .daybreak s = .next (dawned r s) := by
  rw [daybreak_one h.runs h.only h.spares h.removals h.tests, Has.each (afterStops_has hz)]
  rfl

theorem stops_dayNo (r : RegionId) (s : State) : (beforeStops s).clock.dayNo = s.clock.dayNo + 1
    ∧ (afterStops r s).clock.dayNo = s.clock.dayNo + 1 :=
  ⟨(beforeStops_fields s).2.2.2.2.1, (afterStops_fields r s).2.2.1⟩

/-- The steps after the changes, from the region that the changes leave. -/
theorem OneRegion.dawned_has {z w : Region} (h : OneRegion r x s) (hz : Has r z (stops r s)) (hw : Has r w (changeStep r (afterStops r s)))
    (hn : w.night = none ∨ w.wakeAt = none) :
    ∃ y, Has r y (dawned r s) ∧ y.valid = w.valid ∧ y.gen = w.gen ∧ y.bootDue = w.bootDue
      ∧ (w.failStop = none → kept y = kept w ∧ (w.load = none → y.stopped = w.stopped)
        ∧ (w.valid = true → y.sampledVariant = w.variantNext ∧ y.sampledMask = w.confirm ∧ y.confirm = 0)
        ∧ ∀ k q, w.quotaNext = [(k, q)] → k ≤ s.clock.dayNo + 1 → y.quota = q ∧ y.quotaNext = []) := by
  have hspares : (afterStops r s).spares = [] := (afterStops_fields r s).1.trans h.spares
  obtain ⟨⟨-, hclock, -⟩, hsp, -⟩ := changeStep_plain r (afterStops r s)
  have hall := afterChanges_has (checkedRegions_one (afterStops_has hz) hspares) (hsp.trans hspares) hn hw
  rw [hclock, (stops_dayNo r s).2] at hall
  exact hall

theorem OneRegion.untouched {z : Region} (hz : Has r z (stops r s)) (hp : z.pending = []) :
    changeStep r (afterStops r s) = afterStops r s := changeStep_none (afterStops_has hz) (dueChanges_none hp)

/-! ### A region with no change that waits -/

/-- What the stops keep of a region that is not deleted. -/
theorem stopStep_has {wasDay twi : Bool} {t : State} (hx : Has r x t) (hv : x.valid = true)
    (hd : (dueChanges t x).contains .delete = false) :
    ∃ z, Has r z (stopStep wasDay twi r t)
      ∧ z.pending = x.pending ∧ z.valid = x.valid ∧ z.night = x.night ∧ votes z = votes x
      ∧ z.quotaNext = x.quotaNext ∧ z.gen = x.gen ∧ (x.failStop = none → z.failStop = none)
      ∧ ∀ c, stopCauseOf t wasDay twi r = some c → z.stopped = true ∧ z.load = none ∧ z.stopCause = c ∧ z.failStop = none := by
  cases hc : stopCauseOf t wasDay twi r with
  | none =>
    rw [stopStep_runs hx hv hd hc]
    exact ⟨x, hx, rfl, rfl, rfl, rfl, rfl, rfl, id, fun c hc => by cases hc⟩
  | some c =>
    rw [stopStep_stops hx hv hd hc]
    obtain ⟨y, hy, heq⟩ := stopRegion_has c (!(dueChanges t x).any isNight) hx
    refine ⟨y, hy, (congrArg Region.pending heq :), (congrArg Region.valid heq :), (congrArg Region.night heq :),
      (congrArg votes heq :), (congrArg Region.quotaNext heq :), (congrArg Region.gen heq :), fun _ => (congrArg Region.failStop heq :), fun d hd => ?_⟩
    cases hd
    exact ⟨(congrArg Region.stopped heq :), (congrArg Region.load heq :), (congrArg Region.stopCause heq :),
      (congrArg Region.failStop heq :)⟩

/-- A region that is the only one at this Daybreak, which is no change to Twilight. -/
structure LoneDay (r : RegionId) (x : Region) (s : State) : Prop extends OneRegion r x s where
  valid : x.valid = true
  whole : x.failStop = none
  flags : s.badFlagWords = []
  cellsStay : s.cellChanges = []
  staysDay : ∀ n, s.twilightAt = some n → s.clock.dayNo + 1 < n

theorem LoneDay.notTwilight (h : LoneDay r x s) : twilightDue (dayStart s) = false := by
  have hiff := twilightDue_iff (dayStart s)
  obtain ⟨-, -, -, -, -, -, -, -, -, -, -, htwi, -⟩ := dayStart_passes s
  obtain ⟨hday, -⟩ := dayStart_fields s
  rw [htwi, hday] at hiff
  rw [← Bool.not_eq_true]
  intro htrue
  obtain ⟨n, hn, hle⟩ := hiff.mp htrue
  exact absurd (h.staysDay n hn) (Nat.not_lt.mpr hle)

theorem loneRegion_day (h : loneRegion s r) (hdev : s.dev ≠ .midnight) : LoneDay r (regOf s r) s := by
  obtain ⟨honly, hvalid, hnight, hwhole, hspares, hnext, hcells, hflags, htests, htwi⟩ := h
  exact { runs := hdev, only := honly, spares := hspares, removals := hnext, tests := htests, asleep := hnight,
          valid := hvalid, whole := hwhole, flags := hflags, cellsStay := hcells, staysDay := htwi }

/-- Whatever waits, the region stands after the stops. -/
theorem LoneDay.runsTo (h : LoneDay r x s) : exec .daybreak s = .next (dawned r s) := by
  have hz : ∃ z, Has r z (stops r s) := by
    cases hd : (dueChanges (beforeStops s) x).contains .delete with
    | false => exact (stopStep_has h.before h.valid hd).imp fun _ hz => hz.1
    | true =>
      have hdead : stops r s = deadRegion r (beforeStops s) := stopStep_dead h.before h.valid hd
      rw [hdead]
      exact (deadRegion_has h.before).imp fun _ hz => hz.1
  exact hz.elim fun _ hz => h.toOneRegion.runsTo hz

theorem LoneDay.cause (h : LoneDay r x s) (hp : x.pending = []) :
    stopCauseOf (beforeStops s) (decide (s.dev = .daylight)) (twilightDue (dayStart s)) r
      = if (!x.stopped && decide (s.dev = .daylight) && overran (beforeStops s) r) = true then some 0x0C
        else if x.late = true then some 0x18 else none := by
  obtain ⟨-, hspares, -, hflags, -⟩ := beforeStops_fields s
  rw [h.notTwilight]
  exact stopCause_own h.before h.asleep h.whole (hspares.trans h.spares) (hflags.trans h.flags) (dueChanges_none hp)

/-- A region with no change that waits: its confirmation is sampled, its quota taken, and it stops when its load was late. -/
theorem LoneDay.unchanged (h : LoneDay r x s) (hp : x.pending = []) :
    ∃ y, Has r y (dawned r s) ∧ y.valid = true ∧ y.sampledVariant = x.variantNext ∧ y.sampledMask = x.confirm ∧ y.confirm = 0
      ∧ (∀ k q, x.quotaNext = [(k, q)] → k ≤ s.clock.dayNo + 1 → y.quota = q ∧ y.quotaNext = [])
      ∧ (x.late = true → y.stopped = true ∧ (s.dev = .twilight → y.stopCause = 0x18)) := by
  obtain ⟨z, hz, zpending, zvalid, znight, zvotes, zquota, -, zfail, zcause⟩ := stopStep_has (wasDay := decide (s.dev = .daylight))
    (twi := twilightDue (dayStart s)) h.before h.valid (by rw [dueChanges_none hp]; rfl)
  rw [h.cause hp] at zcause
  have hsame : changeStep r (afterStops r s) = afterStops r s := OneRegion.untouched (s := s) hz (zpending.trans hp)
  obtain ⟨y, hy, yvalid, -, -, hrest⟩ := h.toOneRegion.dawned_has hz (w := z) (by rw [hsame]; exact afterStops_has hz) (Or.inl (znight.trans h.asleep))
  obtain ⟨ykept, ystopped, ysampled, yquota⟩ := hrest (zfail h.whole)
  obtain ⟨yvariant, ymask, yconfirm⟩ := ysampled (zvalid.trans h.valid)
  obtain ⟨zvariant, zconfirm⟩ := Prod.mk.inj zvotes
  obtain ⟨-, -, -, -, -, -, ycause, -⟩ := kept_fields ykept
  refine ⟨y, hy, yvalid.trans (zvalid.trans h.valid), yvariant.trans zvariant, ymask.trans zconfirm, yconfirm, ?_, fun hlate => ?_⟩
  · exact fun k q hq hk => yquota k q (zquota.trans hq) hk
  · rw [if_pos hlate] at zcause
    by_cases hover : (!x.stopped && decide (s.dev = .daylight) && overran (beforeStops s) r) = true
    · rw [if_pos hover] at zcause
      obtain ⟨zstopped, zload, -⟩ := zcause _ rfl
      refine ⟨(ystopped zload).trans zstopped, fun htwi => ?_⟩
      rw [htwi] at hover
      simp at hover
    · rw [if_neg hover] at zcause
      obtain ⟨zstopped, zload, hcause, -⟩ := zcause _ rfl
      exact ⟨(ystopped zload).trans zstopped, fun _ => ycause.trans hcause⟩

/-! ### A region with a change -/

theorem LoneDay.deleted {n : Nat} (h : LoneDay r x s) (hp : x.pending = [(n, .delete)]) (hn : n ≤ s.clock.dayNo + 1) :
    ∃ y, Has r y (dawned r s) ∧ y.valid = false := by
  have hdue : dueChanges (beforeStops s) x = [.delete] := dueChanges_one hp ((stops_dayNo r s).1.symm ▸ hn)
  obtain ⟨z, hz, zvalid, zpending, zfail, znight, -⟩ := deadRegion_has h.before
  rw [← stopStep_dead (wasDay := decide (s.dev = .daylight)) (twi := twilightDue (dayStart s)) h.before h.valid
    (by rw [hdue]; rfl)] at hz
  have hsame : changeStep r (afterStops r s) = afterStops r s := OneRegion.untouched (s := s) hz zpending
  obtain ⟨y, hy, yvalid, -⟩ := h.toOneRegion.dawned_has hz (w := z) (by rw [hsame]; exact afterStops_has hz) (Or.inl znight)
  exact ⟨y, hy, yvalid.trans zvalid⟩

/-- A change that stops its region is applied to the stopped region. -/
theorem LoneDay.changes {n : Nat} {c : RegionChange} (h : LoneDay r x s) (hp : x.pending = [(n, c)]) (hn : n ≤ s.clock.dayNo + 1)
    (hstops : isSwitch c = true ∨ isNight c = true) :
    ∃ u z t, Has r u (stops r s) ∧ Has r z t ∧ changeStep r (afterStops r s) = applyRegionChange r t c
      ∧ z.stopped = true ∧ z.load = none ∧ z.stopCause = 0x3E ∧ z.failStop = none ∧ z.gen = x.gen := by
  obtain ⟨dbefore, dafter⟩ := stops_dayNo r s
  have hdue : dueChanges (beforeStops s) x = [c] := dueChanges_one hp (dbefore.symm ▸ hn)
  have hkept : (dueChanges (beforeStops s) x).contains .delete = false := by
    rw [hdue]
    cases c <;> simp_all [isSwitch, isNight]
  obtain ⟨z, hz, zpending, -, -, -, -, zgen, -, zcause⟩ := stopStep_has (wasDay := decide (s.dev = .daylight))
    (twi := twilightDue (dayStart s)) h.before h.valid hkept
  have hcause : stopCauseOf (beforeStops s) (decide (s.dev = .daylight)) (twilightDue (dayStart s)) r = some 0x3E := by
    rw [h.notTwilight]
    refine stopCause_change h.before h.asleep ?_
    rw [hdue]
    simpa using hstops
  obtain ⟨zstopped, zload, zc, zfail⟩ := zcause _ hcause
  exact ⟨z, undue (s.clock.dayNo + 1) z, modReg (afterStops r s) r (undue (s.clock.dayNo + 1)), hz,
    (afterStops_has hz).modReg (undue (s.clock.dayNo + 1)), by
      rw [changeStep_one (afterStops_has hz) (dueChanges_one (zpending.trans hp) (dafter.symm ▸ hn)), dafter],
    zstopped, zload, zc, zfail, zgen⟩

theorem LoneDay.switched {n : Nat} {image : BitVec 40} (h : LoneDay r x s) (hp : x.pending = [(n, .switch image)])
    (hn : n ≤ s.clock.dayNo + 1) :
    ∃ y, Has r y (dawned r s) ∧ y.stopped = true ∧ y.stopCause = 0x3E ∧ y.bootImage = image ∧ y.bootDue = true ∧ y.gen = x.gen + 1 := by
  obtain ⟨u, z, t, hu, hz, hchange, -, zload, zcause, zfail, zgen⟩ := h.changes hp hn (Or.inl rfl)
  have hw := switchRegion_has image hz
  change Has r _ (applyRegionChange r t (.switch image)) at hw
  rw [← hchange] at hw
  obtain ⟨y, hy, -, ygen, ydue, hrest⟩ := h.toOneRegion.dawned_has hu hw (Or.inl rfl)
  obtain ⟨ykept, ystopped, -⟩ := hrest zfail
  obtain ⟨-, -, -, yimage, -, -, ycause, -⟩ := kept_fields ykept
  exact ⟨y, hy, ystopped zload, ycause.trans zcause, yimage, ydue, ygen.trans (congrArg (· + 1) zgen)⟩

theorem LoneDay.asleepAt {n : Nat} {kind : NightKind} {wake : Bool} (h : LoneDay r x s) (hp : x.pending = [(n, .night kind wake)])
    (hn : n ≤ s.clock.dayNo + 1) :
    ∃ y, Has r y (dawned r s) ∧ y.stopped = true ∧ y.stopCause = 0x3E ∧ y.night = some kind ∧ y.wakeOnLaunch = wake := by
  obtain ⟨u, z, t, hu, hz, hchange, zstopped, zload, zcause, zfail, -⟩ := h.changes hp hn (Or.inr rfl)
  have hw := hz.modReg fun x => { x with night := some kind, wakeOnLaunch := wake, waking := false, wakeAt := none }
  change Has r _ (applyRegionChange r t (.night kind wake)) at hw
  rw [← hchange] at hw
  obtain ⟨y, hy, -, -, -, hrest⟩ := h.toOneRegion.dawned_has hu hw (Or.inr rfl)
  obtain ⟨ykept, ystopped, -⟩ := hrest zfail
  obtain ⟨-, -, -, -, ynight, ywake, ycause, -⟩ := kept_fields ykept
  exact ⟨y, hy, (ystopped zload).trans zstopped, ycause.trans zcause, ynight, ywake⟩

theorem OneRegion.created {n : Nat} (h : OneRegion r x s) (hv : x.valid = false) (hp : x.pending = [(n, .create)])
    (hn : n ≤ s.clock.dayNo + 1) :
    exec .daybreak s = .next (dawned r s) ∧ ∃ y, Has r y (dawned r s) ∧ y.valid = true ∧ y.bootDue = true ∧ y.gen = x.gen + 1 := by
  obtain ⟨-, dafter⟩ := stops_dayNo r s
  have hz : Has r x (stops r s) := by
    unfold stops
    rw [stopStep_invalid _ _ h.before hv]
    exact h.before
  have hchange : changeStep r (afterStops r s) = bornRegion r (modReg (afterStops r s) r (undue (s.clock.dayNo + 1))) := by
    rw [changeStep_one (afterStops_has hz) (dueChanges_one hp (dafter.symm ▸ hn)), dafter]
    rfl
  have hw := bornRegion_has ((afterStops_has hz).modReg (undue (s.clock.dayNo + 1)))
  rw [← hchange] at hw
  obtain ⟨y, hy, yvalid, ygen, ydue, -⟩ := h.dawned_has hz hw (Or.inl h.asleep)
  exact ⟨h.runsTo hz, y, hy, yvalid, ydue, ygen⟩

/-! ### The swap -/

/-- A core's record of its Day, which the clock's turn leaves alone. -/
theorem LoneDay.notOverrun (h : LoneDay r x s) (hover : ∀ c ∈ regionCores s r,
    (coreOf s c).overrun = false ∧ ((coreOf s c).budget = 0 ∨ (coreOf s c).dayDone = true)) : overran (beforeStops s) r = false := by
  obtain ⟨-, -, -, -, -, bcells, -, -, bcore⟩ := beforeStops_fields s
  have hcores : regionCores (beforeStops s) r = regionCores s r := regionCores_congr h.only h.before rfl bcells
  unfold overran
  rw [hcores, List.any_eq_false]
  intro c hc
  obtain ⟨hno, hdone⟩ := hover c hc
  rw [bcore c]
  rcases hdone with hbudget | hdone
  · simp [hno, hbudget]
  · simp [hno, hdone]

/-- The device stays in Daylight. -/
theorem LoneDay.staysLight (h : LoneDay r x s) (hdev : s.dev = .daylight) : (afterStops r s).dev = .daylight := by
  have hidle : finishTests (dayStart s) = dayStart s :=
    finishTests_idle (by rw [(dayStart_passes s).2.2.2.2.2.2.2.2.2.2.1]; exact h.tests)
  have hturned : (beforeStops s).dev = dayDev (dayStart s) := by
    have := turned_dev (dayStart s)
    rwa [hidle] at this
  have hnot : ¬ ∃ n, s.twilightAt = some n ∧ n ≤ s.clock.dayNo + 1 := fun ⟨n, hn, hle⟩ =>
    absurd (h.staysDay n hn) (Nat.not_lt.mpr hle)
  rw [(afterStops_fields r s).2.2.2, hturned, dayDev_dayStart, if_neg hnot, hdev]
  exact ite_self _

theorem LoneDay.swaps {l : RouteLoad} (h : LoneDay r x s) (hp : x.pending = []) (hdev : s.dev = .daylight) (hs : x.stopped = false)
    (hlate : x.late = false) (hb : x.borderOk = true)
    (hover : ∀ c ∈ regionCores s r, (coreOf s c).overrun = false ∧ ((coreOf s c).budget = 0 ∨ (coreOf s c).dayDone = true))
    (hl : x.load = some l) (hc : l.committed = true) (hd : l.day ≤ s.clock.dayNo) (hnext : x.loadNext = none)
    (hnodup : (regionCores s r).Nodup) :
    ∃ y, Has r y (dawned r s) ∧ y.load = none ∧ y.stopped = false ∧ ∀ c ∈ regionCores s r, Swaps s (dawned r s) c := by
  obtain ⟨-, -, -, -, -, bcells, bchanges, brouters, bcore⟩ := beforeStops_fields s
  have hcause : stopCauseOf (beforeStops s) (decide (s.dev = .daylight)) (twilightDue (dayStart s)) r = none := by
    rw [h.cause hp, h.notOverrun hover, hlate, Bool.and_false, if_neg Bool.false_ne_true, if_neg Bool.false_ne_true]
  have hstops : stops r s = beforeStops s :=
    stopStep_runs h.before h.valid (by rw [dueChanges_none hp]; rfl) hcause
  have hz : Has r x (stops r s) := hstops ▸ h.before
  have hafter := afterStops_has hz
  have hspares : (afterStops r s).spares = [] := (afterStops_fields r s).1.trans h.spares
  have hsame : SameMesh (beforeStops s) (afterStops r s) := by
    unfold afterStops
    change SameMesh _ (swapCells { stops r s with badFlagWords := [] })
    rw [hstops]
    exact SameMesh.refl _
  have hstay : ∀ c, swapping (afterStops r s) c = swapping s c := by
    intro c
    rw [hsame.swapping]
    unfold swapping routerOf
    rw [bcore c, brouters]
  have hcells : (afterStops r s).cells = s.cells := by
    unfold afterStops
    change (swapCells { stops r s with badFlagWords := [] }).cells = _
    rw [hstops]
    unfold swapCells
    dsimp only
    rw [bchanges, h.cellsStay]
    exact bcells
  have hcores : regionCores (afterStops r s) r = regionCores s r := regionCores_congr h.only hafter rfl hcells
  obtain ⟨y, hy, yload, ystopped, hswaps⟩ := afterChanges_swaps hafter (h.staysLight hdev) hspares
    h.valid h.asleep hb h.whole hs hl hc ((stops_dayNo r s).2 ▸ Nat.lt_succ_of_le hd) hnext (hcores.symm ▸ hnodup)
  have hdawned : dawned r s = afterChanges [] (afterStops r s) := by
    unfold dawned
    rw [checkedRegions_none hafter hspares hp, OneRegion.untouched (s := s) hz hp]
  rw [hdawned]
  exact ⟨y, hy, yload, ystopped, fun c hc => Swaps.of_same (hstay c) (hswaps c (hcores.symm ▸ hc))⟩

end

/-- Settles O43: the steps of a Daybreak, taken one after the other from the clock's turn; for a region that is the only one each
of them is followed on the region's record, and the swap on the banks and budgets as well. -/
theorem daybreakBeginsTheNextDay : Obligations.DaybreakBeginsTheNextDay := by
  unfold Obligations.DaybreakBeginsTheNextDay
  refine ⟨fun s h => nextDay h, fun r n image kind wake l s hdev hlone hn => ?_, fun r n s hdev honly hv hp hn htests hspares hnext hnight => ?_⟩
  · have hday := loneRegion_day hlone hdev
    generalize regOf s r = x at hday ⊢
    have hrun : exec .daybreak s = .next (dawned r s) := hday.runsTo
    refine ⟨dawned r s, hrun, fun hp => ?_, fun q hp hq => ?_, fun hp => ?_, fun hp => ?_, fun hp => ?_, fun hp hlate => ?_,
      fun hp hlight hs hlate hb hover hl hc hd hnext hnodup => ?_⟩
    · obtain ⟨y, hy, hvalid, hvariant, hmask, hconfirm, -⟩ := hday.unchanged hp
      rw [hy.regOf]
      exact ⟨hvalid, hvariant, hmask, hconfirm⟩
    · obtain ⟨y, hy, -, -, -, -, hquota, -⟩ := hday.unchanged hp
      rw [hy.regOf]
      exact hquota n q hq hn
    · obtain ⟨y, hy, hgone⟩ := hday.deleted hp hn
      rw [hy.regOf]
      exact hgone
    · obtain ⟨y, hy, hall⟩ := hday.switched hp hn
      rw [hy.regOf]
      exact hall
    · obtain ⟨y, hy, hall⟩ := hday.asleepAt hp hn
      rw [hy.regOf]
      exact hall
    · obtain ⟨y, hy, -, -, -, -, -, hstop⟩ := hday.unchanged hp
      rw [hy.regOf]
      exact hstop hlate
    · obtain ⟨y, hy, hload, hstopped, hswaps⟩ := hday.swaps hp hlight hs hlate hb hover hl hc hd hnext hnodup
      rw [hy.regOf]
      exact ⟨hload, hstopped, hswaps⟩
  · have hone : OneRegion r (regOf s r) s := ⟨hdev, honly, hspares, hnext, htests, hnight⟩
    obtain ⟨hrun, y, hy, hall⟩ := hone.created hv hp hn
    exact ⟨_, hrun, by rw [hy.regOf]; exact hall⟩

end Sys2Proof.Machine

/-!
SUPPORT. The operator's commands on regions (R384–R388, R446–R450), and the fill of a deleted region's windows (R387).
-/
namespace Sys2Proof.Machine
open Sys2Proof Sys2Proof.Safety

/-! ### Requests of the operator -/

theorem answer_regions (r : Option RegionId) (st : BitVec 8) (s : State) : (answer r st s).regions = s.regions :=
  ite_ok (P := fun t : State => t.regions = s.regions) (logItem_hostSide ..).1.2 rfl

theorem hasPending_nil {x : Region} (hp : x.pending = []) (f : RegionChange → Bool) : hasPending x f = false := by
  unfold hasPending
  rw [hp]
  rfl

section
variable {q : RegionReq} {r : RegionId} {x : Region} {i : Nat} {s : State} (hc : commands s)
include hc

theorem createRegion_accepts (hst : createStatus s q = 0) (hi : grantIndex s none = some i) :
    exec (.createRegion q) s = .next (reply 0 [BitVec.ofNat 64 i] (acceptRegion q i s)) := by
  refine congrArg Host.Outcome.next ((operatorCmd_commands hc _).trans ?_)
  unfold createRegion
  dsimp only
  rw [hi]
  exact if_pos hst

theorem createRegion_refuses (hst : createStatus s q ≠ 0) (hi : grantIndex s none = some i) :
    exec (.createRegion q) s = .next (answer (some q.region) (createStatus s q) s) := by
  refine congrArg Host.Outcome.next ((operatorCmd_commands hc _).trans ?_)
  unfold createRegion
  dsimp only
  rw [hi]
  exact if_neg hst

/-- A request that is accepted answers 0. -/
theorem operator_asks {f : State → State} {c : RegionChange} {ins : Instr} {t : State} (hexec : exec ins s = .next (operatorCmd f s))
    (hf : f s = reply 0 [] t) (ht : regOf t r = { regOf s r with pending := (regOf s r).pending ++ [(effDay s, c)] })
    (hcores : t.cores = s.cores) (hcells : t.cells = s.cells) : asks ins r c s :=
  ⟨reply 0 [] t, by rw [hexec, operatorCmd_commands hc, hf], rfl, ht, hcores, hcells⟩

theorem deleteRegion_asks (hv : (regOf s r).valid = true) (hp : (regOf s r).pending = []) (hn : hasNested s r = false) :
    asks (.deleteRegion r) r .delete s := by
  have hrun : deleteRegion r s = reply 0 [] { modReg s r (fun x => { x with pending := x.pending ++ [(effDay s, .delete)] }) with
      cellChanges := s.cellChanges ++ [⟨effDay s, (regOf s r).cell, none⟩]
      cellReuse := tset s.cellReuse (regOf s r).cell.toNat (effDay s + 2) } := by
    unfold deleteRegion
    dsimp only
    rw [if_neg (by simp [hv, hasPending_nil hp]), if_neg (by simp [hn])]
    rfl
  exact operator_asks hc rfl hrun (regOf_modReg_same s r fun x => { x with pending := x.pending ++ [(effDay s, .delete)] }) rfl rfl

theorem switchContext_asks (image : BitVec 40) (hv : (regOf s r).valid = true) (hp : (regOf s r).pending = []) :
    asks (.switchContext r image) r (.switch image) s := by
  have hrun : switchContext r image s
      = reply 0 [] (modReg s r fun x => { x with pending := x.pending ++ [(effDay s, .switch image)] }) := by
    unfold switchContext
    dsimp only
    exact if_neg (by simp [hv, hasPending_nil hp])
  exact operator_asks hc rfl hrun (regOf_modReg_same ..) rfl rfl

theorem nightRegion_asks (kind : NightKind) (wake : Bool) (hv : (regOf s r).valid = true) (hp : (regOf s r).pending = []) :
    asks (.nightCommand (.region r wake) kind) r (.night kind wake) s := by
  have hrun : nightRegion r wake kind s
      = reply 0 [] (modReg s r fun x => { x with pending := x.pending ++ [(effDay s, .night kind wake)] }) := by
    unfold nightRegion
    dsimp only
    rw [if_neg (by simp [hasPending_nil hp])]
    exact if_neg (by simp [hv])
  exact operator_asks (f := nightRegion r wake kind) hc rfl hrun (regOf_modReg_same ..) rfl rfl

theorem coreNight_runs (core : CoreId) (kind : NightKind) (hno : coveredSoon s core = false) :
    exec (.nightCommand (.core core) kind) s = .next (reply 0 [] { s with coreNights := s.coreNights ++ [(effDay s, core, kind)] }) := by
  refine congrArg Host.Outcome.next ((operatorCmd_commands hc _).trans ?_)
  exact if_neg (by simp [hno])

theorem enterDaylight_runs : exec .enterDaylight s = .next (reply 0 [] { s with daylightReq := true }) :=
  congrArg Host.Outcome.next (operatorCmd_commands hc _)

theorem enterTwilight_runs (hn : s.twilightAt = none) :
    exec .enterTwilight s = .next (reply 0 [] { s with daylightReq := false, twilightAt := some (effDay s) }) := by
  refine congrArg Host.Outcome.next ((operatorCmd_commands hc _).trans ?_)
  dsimp only
  rw [hn]

end

/-! ### Waking -/

theorem modCore_selfTest_fold (l : List CoreId) (s : State) :
    ∀ c ∈ l, (coreOf (l.foldl (fun s c => modCore s c fun x => { x with selfTest := some false }) s) c).selfTest = some false := by
  induction l using List.reverseRecOn with
  | nil => exact fun c hc => absurd hc List.not_mem_nil
  | append_singleton l d ih =>
    intro c hc
    rw [List.foldl_append, List.foldl_cons, List.foldl_nil]
    by_cases h : d = c
    · rw [h, coreOf_modCore_same]
    · rw [coreOf_modCore_other _ _ _ _ h]
      exact ih c ((List.mem_append.mp hc).resolve_right fun hd => h (List.mem_singleton.mp hd).symm)

theorem wakeRegion_wakes {r : RegionId} {s : State} (hc : commands s) (hv : (regOf s r).valid = true) (hn : (regOf s r).night.isSome = true)
    (hw : (regOf s r).waking = false) :
    ∃ t, exec (.wakeRegion r) s = .next t ∧ (regOf t r).waking = true ∧ ∀ c ∈ regionCores s r, (coreOf t c).selfTest = some false := by
  have hasleep : (regOf s r).night.isNone = false := by
    rw [← Option.not_isSome, hn]
    rfl
  have hrun : exec (.wakeRegion r) s = .next (reply 0 [] (startWake r s)) := by
    refine congrArg Host.Outcome.next ((operatorCmd_commands hc _).trans ?_)
    exact (if_neg (by simp [hv])).trans (if_neg (by simp [hasleep, hw]))
  refine ⟨_, hrun, ?_, modCore_selfTest_fold (regionCores s r) s⟩
  exact congrArg Region.waking (regOf_modReg_same _ r fun x => { x with waking := true, wakeAt := none })

/-! ### After a deletion (R387) -/

/-- What a table finds once its entries are kept by their keys. -/
theorem tfind_filter_key {α : Type} (p : Nat → Bool) (t : Tab α) (a : Nat) :
    tfind (t.filter fun e => p e.1) a = if p a = true then tfind t a else none := by
  induction t with
  | nil => exact (ite_self _).symm
  | cons e t ih =>
    obtain ⟨k, v⟩ := e
    by_cases hk : k = a
    · subst hk
      by_cases hp : p k = true
      · simp [hp, tfind]
      · simp [hp, ih]
    · by_cases hp : p k = true <;> simp [hp, tfind, hk, ih]

theorem mget_mzero (m : Mem) (lo hi a : Nat) : mget (mzero m lo hi) a = if lo ≤ a ∧ a < hi then 0 else mget m a := by
  have hfind := tfind_filter_key (fun n => decide (n < lo) || decide (hi ≤ n)) m a
  unfold mget tget mzero
  rw [hfind]
  by_cases h : lo ≤ a ∧ a < hi
  · rw [if_pos h, if_neg (by simp; omega)]
    rfl
  · rw [if_neg h, if_pos (by simp; omega)]

theorem zeroFill_fills {base size : BitVec 11} {s : State} (h : (base, size) ∈ s.scrubbing) :
    ∃ t, exec (.bulkWindowZeroFill base size) s = .next t ∧ t.scrubbing = s.scrubbing.erase (base, size)
      ∧ ∀ a, mget t.bulk a = if base.toNat * 2 ^ 28 ≤ a ∧ a < (base.toNat + size.toNat) * 2 ^ 28 then 0 else mget s.bulk a :=
  ⟨_, congrArg Host.Outcome.next (if_pos (List.contains_iff_mem.mpr h)), rfl, mget_mzero s.bulk _ _⟩

theorem zeroing_completes {r : RegionId} {s : State} (h : (regOf s r).zeroing = true) :
    exec (.coreZeroingComplete r) s = .next (modReg s r fun y => { y with zeroing := false }) :=
  congrArg Host.Outcome.next (if_pos h)

end Sys2Proof.Machine

/-!
SUPPORT. Boot images (R393, logs 65, 206): what a load that fails leaves, and what one that passes releases.
-/
namespace Sys2Proof.Machine
open Sys2Proof Sys2Proof.Safety

/-! ### The reads of a load -/

theorem eccRead_clean (a n : Nat) (s : State) : eccRead a n ⟨[], []⟩ s = s := by
  refine ite_ok (P := fun t => t = s) rfl ?_
  exact foldl_ok (P := fun t => t = s) (fun t w h => h) _ s rfl

theorem readBoot_clean (r : RegionId) (n : Nat) (s : State) : readBoot r n ⟨[], []⟩ s = s := by
  unfold readBoot
  dsimp only
  rw [eccRead_clean, ite_self]
  refine ite_ok (P := fun t => t = s) rfl ?_
  exact foldl_ok (P := fun t => t = s) (fun t x h => (eccRead_clean ..).trans h) _ s rfl

section
variable {r : RegionId} {s : State} {x : Region} (hx : regOf s r = x) (hv : x.valid = true) (hdue : x.bootDue = true)
    (hn : x.night = none) (hb : x.borderOk = true)
include hx hv hdue hn hb

/-- A load that is due runs. -/
theorem bootImageLoad_runs : exec (.bootImageLoad ⟨r, ⟨[], []⟩⟩) s = .next (bootLoad r s) := by
  have hruns : (regOf s r).valid = true ∧ (regOf s r).bootDue = true ∧ (regOf s r).night.isNone = true ∧ (regOf s r).borderOk = true := by
    rw [hx, hn]
    exact ⟨hv, hdue, rfl, hb⟩
  refine congrArg Host.Outcome.next ((if_pos hruns).trans ?_)
  rw [readBoot_clean]

end

/-- A load that fails leaves the cores as they are, and the region without a load. -/
theorem failBoot_fails (r : RegionId) (st : BitVec 8) (info : Word) (s : State) :
    (failBoot r st info s).cores = s.cores ∧ (failBoot r st info s).mgmt.reply = ⟨st, none, [info]⟩
      ∧ regOf (failBoot r st info s) r = { regOf s r with bootDue := false, loadFailed := true } := by
  have hreg := regOf_modReg_same s r fun x => { x with bootDue := false, loadFailed := true }
  unfold failBoot
  dsimp only
  generalize hm : modReg s r (fun x => { x with bootDue := false, loadFailed := true }) = t at hreg ⊢
  have hcores : t.cores = s.cores := by
    rw [← hm]
    rfl
  have hlog : HostSide t (if loggedStatus st = true then logArmaik (some r) st info t else t) :=
    ite_ok (P := HostSide t) (logItem_hostSide ..) (HostSide.refl t)
  refine ⟨hlog.2.1.trans hcores, rfl, ?_⟩
  refine Eq.trans ?_ hreg
  exact congrArg (fun g : Tab Region => tget Region.reset g r.val) hlog.1.2

/-! ### The release of the cores -/

/-- From `s` to `t` every isolation gate stands, every released core stays released, and of the regions only the status of
cells may change. -/
def Wakes (s t : State) : Prop :=
  (∀ c : CoreId, (coreOf t c).isolated = (coreOf s c).isolated ∧ ((coreOf s c).released = true → (coreOf t c).released = true))
    ∧ ∀ r : RegionId, (regOf t r).loaded = (regOf s r).loaded ∧ (regOf t r).stopped = (regOf s r).stopped

theorem Wakes.refl (s : State) : Wakes s s := ⟨fun _ => ⟨rfl, id⟩, fun _ => ⟨rfl, rfl⟩⟩
theorem Wakes.trans {s t u : State} (a : Wakes s t) (b : Wakes t u) : Wakes s u :=
  ⟨fun c => ⟨(b.1 c).1.trans (a.1 c).1, fun h => (b.1 c).2 ((a.1 c).2 h)⟩,
    fun r => ⟨(b.2 r).1.trans (a.2 r).1, (b.2 r).2.trans (a.2 r).2⟩⟩

theorem modCore_wakes (d : CoreId) {f : Core → Core} (hf : ∀ x, (f x).isolated = x.isolated ∧ (x.released = true → (f x).released = true))
    (s : State) : Wakes s (modCore s d f) := by
  refine ⟨fun c => ?_, fun r => ⟨rfl, rfl⟩⟩
  by_cases h : d = c
  · rw [h, coreOf_modCore_same]
    exact hf _
  · rw [coreOf_modCore_other _ _ _ _ h]
    exact ⟨rfl, id⟩

theorem startThread_wakes (d : CoreId) (i : Fin 4) (s : State) : Wakes s (startThread d i s) := by
  have hcore : ∀ (x : Core) (u : Thread), (setTh (dropRows i (unreadNotices i x)) i u).isolated = x.isolated
      ∧ (setTh (dropRows i (unreadNotices i x)) i u).released = x.released := fun _ _ => ⟨rfl, rfl⟩
  have hepoch : Wakes s { s with nextEpoch := s.nextEpoch + 1 } := Wakes.refl s
  exact hepoch.trans (modCore_wakes d (fun x => ⟨(hcore x _).1, fun h => (hcore x _).2.trans h⟩) _)

theorem firstStatus_wakes (d : CoreId) (s : State) : Wakes s (firstStatus d s) := by
  unfold firstStatus
  split
  next r _ =>
    refine ite_ok (P := Wakes s) ⟨fun _ => ⟨rfl, id⟩, fun q => ?_⟩ (Wakes.refl s)
    by_cases h : r = q
    · subst h
      rw [regOf_modReg_same]
      exact ⟨rfl, rfl⟩
    · rw [regOf_modReg_other _ _ _ _ h]
      exact ⟨rfl, rfl⟩
  · exact Wakes.refl s

theorem holdThreads_released (x : Core) :
    let y := ([0, 1, 2, 3] : List (Fin 4)).foldl (fun x i => setTh x i { thOf x i with run := .held }) x
    y.isolated = x.isolated ∧ y.released = x.released := ⟨rfl, rfl⟩

theorem setTh_wakes (d : CoreId) (i : Fin 4) (f : Core → Thread) (s : State) : Wakes s (modCore s d fun c => setTh c i (f c)) :=
  modCore_wakes d (f := fun c => setTh c i (f c)) (fun _ => ⟨rfl, id⟩) s

theorem startAll_wakes (d : CoreId) (s : State) :
    Wakes s (([0, 1, 2, 3] : List (Fin 4)).foldl (fun s i =>
      if bootMode (coreOf s d) i then startThread d i s else modCore s d fun c => setTh c i { thOf c i with run := .held }) s) :=
  foldl_ok (P := Wakes s) (fun t i h =>
    ite_ok (P := Wakes s) (h.trans (startThread_wakes d i t)) (h.trans (setTh_wakes d i (fun c => { thOf c i with run := .held }) t))) _ s (Wakes.refl s)

theorem releaseCore_releases (d : CoreId) (s : State) : Wakes s (releaseCore d s) ∧ (coreOf (releaseCore d s) d).released = true := by
  have hmod : Wakes s (modCore s d fun c => { c with released := true, trapBase := 0xFFFC0, rot := 0, holdCtr := [], portHold := [] }) :=
    modCore_wakes d (f := fun c => { c with released := true, trapBase := 0xFFFC0, rot := 0, holdCtr := [], portHold := [] }) (fun _ => ⟨rfl, fun _ => rfl⟩) s
  have hset : (coreOf (modCore s d fun c => { c with released := true, trapBase := 0xFFFC0, rot := 0, holdCtr := [], portHold := [] }) d).released
      = true := by rw [coreOf_modCore_same]
  have hrest := (firstStatus_wakes d _).trans (startAll_wakes d (firstStatus d
    (modCore s d fun c => { c with released := true, trapBase := 0xFFFC0, rot := 0, holdCtr := [], portHold := [] })))
  exact ⟨hmod.trans hrest, (hrest.1 d).2 hset⟩

theorem releaseLater_releases (d : CoreId) (s : State) : Wakes s (releaseLater d s) ∧ (coreOf (releaseLater d s) d).released = true := by
  have hmod : Wakes s (modCore s d fun x => { x with released := true }) :=
    modCore_wakes d (f := fun x => { x with released := true }) (fun _ => ⟨rfl, fun _ => rfl⟩) s
  have hset : (coreOf (modCore s d fun x => { x with released := true }) d).released = true := by rw [coreOf_modCore_same]
  have hrest : Wakes _ (holdCore d (modCore s d fun x => { x with released := true })) :=
    modCore_wakes d (fun x => ⟨(holdThreads_released x).1, fun h => (holdThreads_released x).2.trans h⟩) _
  exact ⟨hmod.trans hrest, (hrest.1 d).2 hset⟩

/-- What the map says of one member of the region. -/
def releaseMember (s0 : State) (h : BootHeader) (cell : BitVec 128) (s : State) (m : Nat) : State :=
  if bit (mapEntry s0 h m) 15 ∨ (coreOf s (cMember cell m)).isolated then s
  else if isMoving s (cMember cell m) then releaseLater (cMember cell m) s
  else releaseCore (cMember cell m) s

theorem releaseMember_wakes (s0 : State) (h : BootHeader) (cell : BitVec 128) (s : State) (m : Nat) :
    Wakes s (releaseMember s0 h cell s m) :=
  ite_ok (P := Wakes s) (Wakes.refl s) (ite_ok (P := Wakes s) (releaseLater_releases ..).1 (releaseCore_releases ..).1)

theorem releaseMember_releases {s0 : State} {h : BootHeader} {cell : BitVec 128} {s : State} {m : Nat}
    (hmap : bit (mapEntry s0 h m) 15 = false) (hgate : (coreOf s (cMember cell m)).isolated = false) :
    (coreOf (releaseMember s0 h cell s m) (cMember cell m)).released = true := by
  unfold releaseMember
  rw [if_neg (by simp [hmap, hgate])]
  exact ite_ok (P := fun t => (coreOf t (cMember cell m)).released = true) (releaseLater_releases ..).2 (releaseCore_releases ..).2

theorem releaseMembers_wakes (s0 : State) (h : BootHeader) (cell : BitVec 128) (l : List Nat) (s : State) :
    Wakes s (l.foldl (releaseMember s0 h cell) s) :=
  foldl_ok (P := Wakes s) (fun t m ht => ht.trans (releaseMember_wakes s0 h cell t m)) l s (Wakes.refl s)

theorem foldl_releaseMember {s0 : State} {h : BootHeader} {cell : BitVec 128} {m : Nat} (hmap : bit (mapEntry s0 h m) 15 = false)
    {l : List Nat} (hm : m ∈ l) (s : State) (hgate : (coreOf s (cMember cell m)).isolated = false) :
    (coreOf (l.foldl (releaseMember s0 h cell) s) (cMember cell m)).released = true := by
  induction l generalizing s with
  | nil => cases hm
  | cons k l ih =>
    rw [List.foldl_cons]
    rcases List.mem_cons.mp hm with rfl | hmem
    · exact ((releaseMembers_wakes s0 h cell l _).1 _).2 (releaseMember_releases hmap hgate)
    · exact ih hmem _ (((releaseMember_wakes s0 h cell s k).1 _).1.trans hgate)

theorem placeMember_wakes (s0 : State) (h : BootHeader) (cell : BitVec 128) (m : Nat) (s : State) :
    Wakes s (placeMember s0 h cell m s) := by
  have hcore : ∀ (b : BootBlock) (i : BootImage) (l : List Byte) (w : List Nat) (x : Core),
      (placeBoot b i l w x).isolated = x.isolated ∧ (placeBoot b i l w x).released = x.released := fun _ _ _ _ _ => ⟨rfl, rfl⟩
  exact modCore_wakes _ (fun x => ⟨(hcore _ _ _ _ x).1, fun h => (hcore _ _ _ _ x).2.trans h⟩) s

/-- Placing the blocks and images opens no isolation gate. -/
theorem placeMembers_wakes (s : State) (h : BootHeader) (cell : BitVec 128) (n : Nat) :
    Wakes s ((List.range n).foldl (fun t m => placeMember s h cell m t) s) :=
  foldl_ok (P := Wakes s) (fun t m ht => ht.trans (placeMember_wakes s h cell m t)) _ s (Wakes.refl s)

/-- A load that passes. -/
def bootPasses (r : RegionId) (h : BootHeader) (cell : BitVec 128) (n : Nat) (s : State) : State :=
  let t := (List.range n).foldl (fun t m => placeMember s h cell m t) s
  (List.range n).foldl (releaseMember s h cell) (modReg t r fun x =>
    { x with bootDue := false, loaded := true, loadFailed := false
             stopped := x.lostPosition || (regionCores s r).any (isMoving s)
             measurement := BitVec.ofNat 384 (bytesNat (measured s t r h cell n)) })

theorem bootPasses_releases {r : RegionId} {h : BootHeader} {cell : BitVec 128} {n m : Nat} {s : State} (hm : m < n)
    (hmap : bit (mapEntry s h m) 15 = false) (hgate : (coreOf s (cMember cell m)).isolated = false) :
    (regOf (bootPasses r h cell n s) r).loaded = true
      ∧ (regOf (bootPasses r h cell n s) r).stopped = ((regOf s r).lostPosition || (regionCores s r).any (isMoving s))
      ∧ (coreOf (bootPasses r h cell n s) (cMember cell m)).released = true := by
  have hplaced := placeMembers_wakes s h cell n
  have hregions : ((List.range n).foldl (fun t m => placeMember s h cell m t) s).regions = s.regions :=
    foldl_ok (P := fun t => t.regions = s.regions) (fun t m ht => (placeMember_aside s h cell m t).2.trans ht) _ s rfl
  unfold bootPasses
  dsimp only
  generalize (List.range n).foldl (fun t m => placeMember s h cell m t) s = t at hplaced hregions ⊢
  have hreg := regOf_modReg_same t r fun x => { x with
    bootDue := false, loaded := true, loadFailed := false, stopped := x.lostPosition || (regionCores s r).any (isMoving s)
    measurement := BitVec.ofNat 384 (bytesNat (measured s t r h cell n)) }
  have hsame : regOf t r = regOf s r := congrArg (fun g : Tab Region => tget Region.reset g r.val) hregions
  have hgate' : (coreOf (modReg t r fun x => { x with
    bootDue := false, loaded := true, loadFailed := false, stopped := x.lostPosition || (regionCores s r).any (isMoving s)
    measurement := BitVec.ofNat 384 (bytesNat (measured s t r h cell n)) }) (cMember cell m)).isolated = false :=
      (hplaced.1 _).1.trans hgate
  generalize modReg t r (fun x => { x with
    bootDue := false, loaded := true, loadFailed := false, stopped := x.lostPosition || (regionCores s r).any (isMoving s)
    measurement := BitVec.ofNat 384 (bytesNat (measured s t r h cell n)) }) = u at hreg hgate' ⊢
  obtain ⟨hloaded, hstopped⟩ := (releaseMembers_wakes s h cell (List.range n) u).2 r
  refine ⟨hloaded.trans ?_, hstopped.trans ?_, foldl_releaseMember hmap (List.mem_range.mpr hm) u hgate'⟩
  · rw [hreg]
  · rw [hreg, hsame]

/-! ### The branches of a load -/

section
variable {r : RegionId} {s : State} {x : Region} {n : Nat} {cell : BitVec 128} {h : BootHeader} (hx : regOf s r = x)
    (hcell : cellEntry s x.cell.toNat = cell) (hn : cW cell * cH cell = n) (hh : bootHeader s x.bootImage.toNat = h)
include hx hcell hn

theorem bootLoad_tables (hbad : tablesOk s r n = false ∨ tablesPoisoned s r n = true) : bootLoad r s = failBoot r 0x38 0 s := by
  unfold bootLoad
  dsimp only
  rw [hx, hcell, hn]
  exact if_pos (by rcases hbad with h | h <;> simp [h])

include hh
variable (ht : tablesOk s r n = true) (hp : tablesPoisoned s r n = false)
include ht hp

theorem bootLoad_block {m : Nat} (hb : badBlock s h n (cFront cell) = some m) :
    bootLoad r s = failBoot r 0x1F (BitVec.ofNat 64 (cMember cell m).val) s := by
  unfold bootLoad
  dsimp only
  rw [hx, hcell, hn, hh, if_neg (by simp [ht, hp]), hb]

variable (hb : badBlock s h n (cFront cell) = none)
include hb

theorem bootLoad_spare (hs : badSpare s h = true) :
    bootLoad r s = failBoot r 0x1F (drawFree s).1 (drawFree s).2 := by
  unfold bootLoad
  dsimp only
  rw [hx, hcell, hn, hh, if_neg (by simp [ht, hp]), hb]
  exact if_pos hs

theorem bootLoad_passes (hs : badSpare s h = false)
    (hd : badDigest s ((List.range n).foldl (fun t m => placeMember s h cell m t) s) h cell n = none) :
    bootLoad r s = bootPasses r h cell n s := by
  unfold bootLoad
  dsimp only
  rw [hx, hcell, hn, hh, if_neg (by simp [ht, hp]), hb]
  dsimp only
  rw [if_neg (by simp [hs]), hd]
  rfl

end

end Sys2Proof.Machine

/-!
SUPPORT. What `CORE_RESTART` keeps and starts anew (log 123), and what settles the statement about regions.
-/
namespace Sys2Proof.Machine
open Sys2Proof Sys2Proof.Safety

/-! ### The core -/

/-- With no word marked, a restart keeps the memories and the boot block, and drops the stores that wait. -/
theorem dropMma_core (j : Option MmaJob) (c : Core) : (dropMma j c).mem = c.mem ∧ (dropMma j c).code = c.code
    ∧ (dropMma j c).boot = c.boot ∧ (dropMma j c).specMark = c.specMark := by
  cases j with
  | none => exact ⟨rfl, rfl, rfl, rfl⟩
  | some j =>
    unfold dropMma
    dsimp only
    split <;> exact ⟨rfl, rfl, rfl, rfl⟩

theorem endBinding_core (c : Core) : (endBinding c).mem = c.mem ∧ (endBinding c).code = c.code ∧ (endBinding c).boot = c.boot :=
  ite_ok (P := fun x : Core => x.mem = c.mem ∧ x.code = c.code ∧ x.boot = c.boot) ⟨rfl, rfl, rfl⟩ ⟨rfl, rfl, rfl⟩

theorem dropSpec_core {c : Core} (h : c.specMark = []) : (dropSpec c).mem = c.mem ∧ (dropSpec c).code = c.code
    ∧ (dropSpec c).boot = c.boot := by
  obtain ⟨wmem, wcode, wboot, wspec⟩ := dropMma_core c.mmaWait c
  obtain ⟨rmem, rcode, rboot, rspec⟩ := dropMma_core c.mmaRun (dropMma c.mmaWait c)
  have hnone : (dropMma c.mmaRun (dropMma c.mmaWait c)).specMark = [] := rspec.trans (wspec.trans h)
  unfold dropSpec discardCore
  dsimp only
  generalize dropMma c.mmaRun (dropMma c.mmaWait c) = d at rmem rcode rboot hnone ⊢
  have hwords : (discardWords d).mem = d.mem := by
    unfold discardWords
    rw [hnone]
    rfl
  obtain ⟨emem, ecode, eboot⟩ := endBinding_core { thAll discardThread (discardWords d) with
    mmaRun := keepJob d.mmaRun, mmaWait := keepJob d.mmaWait, resolving := (shadowKeys d).map fun k => (k, false) }
  exact ⟨emem.trans (hwords.trans (rmem.trans wmem)), ecode.trans (rcode.trans wcode), eboot.trans (rboot.trans wboot)⟩

theorem restartedCore_core {c : Core} (h : c.specMark = []) : (restartedCore c).mem = c.mem ∧ (restartedCore c).code = c.code
    ∧ (restartedCore c).boot = c.boot ∧ (restartedCore c).stores = [] := by
  obtain ⟨hmem, hcode, hboot⟩ := dropSpec_core h
  exact ⟨hmem, hcode, hboot, rfl⟩

/-! ### The threads -/

/-- A thread of core `d` starts anew. -/
def restartThread (d : CoreId) (s : State) (i : Fin 4) : State :=
  let s := startThread d i s
  if bootMode (coreOf s d) i then s else modCore s d fun c => setTh c i { thOf c i with run := .held }

/-- From `s` to `t` the memories, the stores and the boot block of core `d` stand. -/
def SameStore (d : CoreId) (s t : State) : Prop :=
  (coreOf t d).mem = (coreOf s d).mem ∧ (coreOf t d).code = (coreOf s d).code ∧ (coreOf t d).stores = (coreOf s d).stores
    ∧ (coreOf t d).boot = (coreOf s d).boot

theorem SameStore.refl (d : CoreId) (s : State) : SameStore d s s := ⟨rfl, rfl, rfl, rfl⟩
theorem SameStore.trans {d : CoreId} {s t u : State} (a : SameStore d s t) (b : SameStore d t u) : SameStore d s u :=
  ⟨b.1.trans a.1, b.2.1.trans a.2.1, b.2.2.1.trans a.2.2.1, b.2.2.2.trans a.2.2.2⟩

/-- A thread as a restart leaves it. -/
def Fresh (b : BootBlock) (i : Fin 4) (t : Thread) : Prop :=
  let super := bit (bootWord b i) 16
  t.run = (if super then .ready else .held) ∧ t.g = [] ∧ t.acc = []
    ∧ (super = true → t.pc = ((bootWord b i).setWidth 16).setWidth 17 ∧ t.mode = true)

theorem startThread_core (d : CoreId) (i : Fin 4) (s : State) : SameStore d s (startThread d i s)
    ∧ thOf (coreOf (startThread d i s) d) i
      = started (s.nextEpoch + 1) (bootEntry (coreOf s d) i) (bootMode (coreOf s d) i) (thOf (coreOf s d) i)
    ∧ ∀ j, i ≠ j → thOf (coreOf (startThread d i s) d) j = thOf (coreOf s d) j := by
  have hcore : coreOf (startThread d i s) d = setTh (dropRows i (unreadNotices i (coreOf s d))) i
      (started (s.nextEpoch + 1) (bootEntry (coreOf s d) i) (bootMode (coreOf s d) i) (thOf (coreOf s d) i)) := by
    unfold startThread
    dsimp only
    rw [coreOf_modCore_same]
    rfl
  refine ⟨?_, ?_, fun j hj => ?_⟩
  · unfold SameStore
    rw [hcore]
    exact ⟨rfl, rfl, rfl, rfl⟩
  · rw [hcore, thOf_setTh_same]
  · rw [hcore, thOf_setTh_other _ _ _ _ hj]
    rfl

theorem restartThread_core (d : CoreId) (s : State) (i : Fin 4) : SameStore d s (restartThread d s i)
    ∧ Fresh (coreOf s d).boot i (thOf (coreOf (restartThread d s i) d) i)
    ∧ ∀ j, i ≠ j → thOf (coreOf (restartThread d s i) d) j = thOf (coreOf s d) j := by
  obtain ⟨hsame, hstart, hother⟩ := startThread_core d i s
  have hmode : bootMode (coreOf (startThread d i s) d) i = bit (bootWord (coreOf s d).boot i) 16 := by
    unfold bootMode
    rw [hsame.2.2.2]
  unfold restartThread Fresh
  dsimp only
  rw [hmode]
  generalize startThread d i s = t at hsame hstart hother hmode ⊢
  cases hb : bit (bootWord (coreOf s d).boot i) 16 with
  | true =>
    have hboot : bootMode (coreOf s d) i = true := hb
    rw [if_pos rfl, if_pos rfl, hstart, hboot]
    exact ⟨hsame, ⟨rfl, rfl, rfl, fun _ => ⟨rfl, rfl⟩⟩, hother⟩
  | false =>
    rw [if_neg Bool.false_ne_true, if_neg Bool.false_ne_true]
    refine ⟨hsame.trans ?_, ?_, fun j hj => ?_⟩
    · unfold SameStore
      rw [coreOf_modCore_same]
      exact ⟨rfl, rfl, rfl, rfl⟩
    · rw [coreOf_modCore_same, thOf_setTh_same, hstart]
      exact ⟨rfl, rfl, rfl, fun h => absurd h Bool.false_ne_true⟩
    · rw [coreOf_modCore_same, thOf_setTh_other _ _ _ _ hj]
      exact hother j hj

theorem restartThreads_core (d : CoreId) (l : List (Fin 4)) (s : State) :
    SameStore d s (l.foldl (restartThread d) s)
      ∧ ∀ i ∈ l, Fresh (coreOf s d).boot i (thOf (coreOf (l.foldl (restartThread d) s) d) i) := by
  induction l using List.reverseRecOn with
  | nil => exact ⟨SameStore.refl d s, fun i hi => absurd hi List.not_mem_nil⟩
  | append_singleton l j ih =>
    obtain ⟨hsame, hfresh⟩ := ih
    rw [List.foldl_append, List.foldl_cons, List.foldl_nil]
    obtain ⟨hstep, hj, hother⟩ := restartThread_core d (l.foldl (restartThread d) s) j
    refine ⟨hsame.trans hstep, fun i hi => ?_⟩
    by_cases h : j = i
    · rw [← h]
      rw [hsame.2.2.2] at hj
      exact hj
    · rw [hother i h]
      exact hfresh i ((List.mem_append.mp hi).resolve_right fun hm => h (List.mem_singleton.mp hm).symm)

theorem coreRestart_restarts {d : CoreId} {s : State} (hc : commands s) (hr : (coreOf s d).released = true) (hn : (coreOf s d).night = none)
    (hm : mayRun s d = true) (hspec : (coreOf s d).specMark = []) :
    ∃ t, exec (.coreRestart d) s = .next t ∧ (coreOf t d).mem = (coreOf s d).mem ∧ (coreOf t d).code = (coreOf s d).code
      ∧ (coreOf t d).stores = [] ∧ ∀ k : Fin 4, Fresh (coreOf s d).boot k (thread t ⟨d, k⟩) := by
  obtain ⟨hmem, hcode, hboot, hstores⟩ := restartedCore_core hspec
  have hcore : coreOf (firstStatus d (modCore s d restartedCore)) d = restartedCore (coreOf s d) := by
    have hstatus : (firstStatus d (modCore s d restartedCore)).cores = (modCore s d restartedCore).cores := by
      unfold firstStatus
      split
      · exact ite_ok (P := fun t : State => t.cores = (modCore s d restartedCore).cores) rfl rfl
      · rfl
    rw [← coreOf_modCore_same s d restartedCore]
    exact congrArg (tget Core.reset · d.val) hstatus
  obtain ⟨⟨smem, scode, sstores, -⟩, hfresh⟩ := restartThreads_core d [0, 1, 2, 3] (firstStatus d (modCore s d restartedCore))
  rw [hcore] at smem scode sstores hfresh
  refine ⟨reply 0 [] (restartThreads d (firstStatus d (modCore s d restartedCore))), ?_, smem.trans hmem, scode.trans hcode,
    sstores.trans hstores, fun k => ?_⟩
  · refine congrArg Host.Outcome.next ((operatorCmd_commands hc _).trans ?_)
    exact if_neg (by simp [hr, hn, hm])
  · have hk := hfresh k (by fin_cases k <;> simp)
    rw [hboot] at hk
    exact hk

/-! ### The statement -/

/-- A load that fails answers its status and leaves the cores and the other regions alone. -/
def BootFails (r : RegionId) (st : BitVec 8) (s t : State) : Prop :=
  t.cores = s.cores ∧ t.mgmt.reply.status = st ∧ regOf t r = { regOf s r with bootDue := false, loadFailed := true }

theorem failBoot_bootFails (r : RegionId) (st : BitVec 8) (info : Word) {s u : State} (hcores : u.cores = s.cores)
    (hregions : u.regions = s.regions) : BootFails r st s (failBoot r st info u) := by
  obtain ⟨fcores, freply, freg⟩ := failBoot_fails r st info u
  have hreg : regOf u r = regOf s r := congrArg (fun g : Tab Region => tget Region.reset g r.val) hregions
  rw [hreg] at freg
  exact ⟨fcores.trans hcores, by rw [freply], freg⟩

section
variable {r : RegionId} {s : State} (hv : (regOf s r).valid = true) (hdue : (regOf s r).bootDue = true)
    (hn : (regOf s r).night = none) (hb : (regOf s r).borderOk = true)
include hv hdue hn hb

/-- The branches of a load as the statement has them. -/
theorem bootImageLoad_branches (m : Nat) :
    let x := regOf s r
    let cell := cellEntry s x.cell.toNat
    let n := cW cell * cH cell
    let h := bootHeader s x.bootImage.toNat
    (tablesOk s r n = false ∨ tablesPoisoned s r n = true →
      ∃ t, exec (.bootImageLoad ⟨r, ⟨[], []⟩⟩) s = .next t ∧ BootFails r 0x38 s t)
    ∧ (tablesOk s r n = true → tablesPoisoned s r n = false → badBlock s h n (cFront cell) = some m →
      ∃ t, exec (.bootImageLoad ⟨r, ⟨[], []⟩⟩) s = .next t ∧ BootFails r 0x1F s t
        ∧ t.mgmt.reply = ⟨0x1F, none, [BitVec.ofNat 64 (cMember cell m).val]⟩)
    ∧ (tablesOk s r n = true → tablesPoisoned s r n = false → badBlock s h n (cFront cell) = none → badSpare s h = true →
      ∃ t, exec (.bootImageLoad ⟨r, ⟨[], []⟩⟩) s = .next t ∧ BootFails r 0x1F s t)
    ∧ (tablesOk s r n = true → tablesPoisoned s r n = false → badBlock s h n (cFront cell) = none → badSpare s h = false →
      badDigest s ((List.range n).foldl (fun t m => placeMember s h cell m t) s) h cell n = none → m < n →
      bit (mapEntry s h m) 15 = false → (coreOf s (cMember cell m)).isolated = false →
      ∃ t, exec (.bootImageLoad ⟨r, ⟨[], []⟩⟩) s = .next t ∧ (regOf t r).loaded = true
        ∧ (regOf t r).stopped = (x.lostPosition || (regionCores s r).any (isMoving s))
        ∧ (coreOf t (cMember cell m)).released = true) := by
  intro x cell n h
  have hexec := bootImageLoad_runs (r := r) rfl hv hdue hn hb
  refine ⟨fun hbad => ?_, fun ht hp hblock => ?_, fun ht hp hblock hspare => ?_, fun ht hp hblock hspare hdigest hm hmap hgate => ?_⟩
  · rw [hexec, bootLoad_tables rfl rfl rfl hbad]
    exact ⟨_, rfl, failBoot_bootFails r 0x38 0 rfl rfl⟩
  · rw [hexec, bootLoad_block rfl rfl rfl rfl ht hp hblock]
    exact ⟨_, rfl, failBoot_bootFails r 0x1F _ rfl rfl, (failBoot_fails ..).2.1⟩
  · rw [hexec, bootLoad_spare rfl rfl rfl rfl ht hp hblock hspare]
    exact ⟨_, rfl, failBoot_bootFails r 0x1F _ rfl rfl⟩
  · rw [hexec, bootLoad_passes rfl rfl rfl rfl ht hp hblock hspare hdigest]
    exact ⟨_, rfl, bootPasses_releases hm hmap hgate⟩

end

/-- Settles O52: each accepted command as the model's operation, the branches of a boot image's load, and the restart of a core
thread by thread. -/
theorem regionsAreCreatedChangedAndDeleted : Obligations.RegionsAreCreatedChangedAndDeleted := by
  unfold Obligations.RegionsAreCreatedChangedAndDeleted
  intro q r image base size core kind wake i m s x cell n h read
  refine ⟨fun hc hst hi => ?_, fun hc hst hi => ?_, fun hc => deleteRegion_asks hc, fun hc => switchContext_asks hc image,
    fun hc => nightRegion_asks hc kind wake, fun hc => coreNight_runs hc core kind, fun hc => wakeRegion_wakes hc,
    fun hc => enterDaylight_runs hc, fun hc => enterTwilight_runs hc, fun hv hdue hn hb => ?_, zeroFill_fills, zeroing_completes,
    fun hc hr hn hm hspec => ?_⟩
  · refine ⟨_, _, createRegion_accepts hc hst hi, rfl, rfl, ?_⟩
    have hreg : regOf (reply 0 [BitVec.ofNat 64 i] (acceptRegion q i s)) q.region = { Region.reset with
        pending := [(effDay s, .create)], cell := BitVec.ofNat 11 i, entry := q.entry, quota := q.quota
        cellQuota := q.cellQuota, engines := q.engines, staging := q.staging, bulk := q.bulk, domain := q.domain
        vf := q.vf, bootImage := q.bootImage, gen := (regOf s q.region).gen, launches := (regOf s q.region).launches } :=
      regOf_setReg_same ..
    rw [hreg]
    exact ⟨rfl, rfl, rfl, rfl, rfl, rfl, rfl, rfl⟩
  · exact ⟨_, createRegion_refuses hc hst hi, rfl, answer_regions ..⟩
  · obtain ⟨htables, hblocks, hspares, hpasses⟩ := bootImageLoad_branches hv hdue hn hb m
    refine ⟨fun hbad => ?_, fun ht hp hblock => ?_, fun ht hp hblock hspare => ?_, hpasses⟩
    · obtain ⟨t, ht, hcores, hreply, hreg⟩ := htables hbad
      exact ⟨t, ht, hcores, hreply, hreg⟩
    · obtain ⟨t, ht, ⟨hcores, -, hreg⟩, hreply⟩ := hblocks ht hp hblock
      exact ⟨t, ht, hcores, hreply, hreg⟩
    · obtain ⟨t, ht, hcores, hreply, hreg⟩ := hspares ht hp hblock hspare
      exact ⟨t, ht, hcores, hreply, hreg⟩
  · obtain ⟨t, ht, hmem, hcode, hstores, hfresh⟩ := coreRestart_restarts hc hr hn hm hspec
    exact ⟨t, ht, hmem, hcode, hstores, fun k => hfresh k⟩

end Sys2Proof.Machine

/-!
SUPPORT. Copies of a flit that leave a router (R60–R62, R73, R417): what each port takes, and what stands.
-/
namespace Sys2Proof.Machine
open Sys2Proof Sys2Proof.Safety

/-! ### Saturating counts -/

theorem satAdd_zero (x : BitVec 32) : satAdd x 0 = x := by
  unfold satAdd
  apply BitVec.eq_of_toNat_eq
  have := x.isLt
  rw [BitVec.toNat_ofNat]
  omega

theorem satAdd_satAdd (x : BitVec 32) (a b : Nat) : satAdd (satAdd x a) b = satAdd x (a + b) := by
  unfold satAdd
  apply BitVec.eq_of_toNat_eq
  have := x.isLt
  rw [BitVec.toNat_ofNat, BitVec.toNat_ofNat, BitVec.toNat_ofNat]
  omega

/-! ### What stands when copies leave -/

/-- From `s` to `t` the map, the clock, the routers' masks and the cores' gates stand. -/
structure SameMap (s t : State) : Prop where
  cells : t.cells = s.cells
  regions : t.regions = s.regions
  clock : t.clock = s.clock
  replicas : t.badReplicas = s.badReplicas
  device : t.deviceId = s.deviceId
  masks : ∀ d, (routerOf t d).badPorts = (routerOf s d).badPorts
  cores : ∀ d : CoreId, (coreOf t d).isolated = (coreOf s d).isolated

theorem SameMap.refl (s : State) : SameMap s s := ⟨rfl, rfl, rfl, rfl, rfl, fun _ => rfl, fun _ => rfl⟩

theorem SameMap.symm {s t : State} (a : SameMap s t) : SameMap t s :=
  ⟨a.cells.symm, a.regions.symm, a.clock.symm, a.replicas.symm, a.device.symm, fun d => (a.masks d).symm,
    fun d => (a.cores d).symm⟩

theorem SameMap.trans {s t u : State} (a : SameMap s t) (b : SameMap t u) : SameMap s u :=
  ⟨b.cells.trans a.cells, b.regions.trans a.regions, b.clock.trans a.clock, b.replicas.trans a.replicas, b.device.trans a.device,
    fun d => (b.masks d).trans (a.masks d), fun d => (b.cores d).trans (a.cores d)⟩

theorem SameMap.regionOf {s t : State} (h : SameMap s t) (c : CoreId) : regionOf t c = regionOf s c := by
  unfold Machine.regionOf cellsOver
  rw [h.cells]

theorem SameMap.bordered {s t : State} (h : SameMap s t) (c : CoreId) (k : Nat) : bordered t c k = bordered s c k := by
  unfold Machine.bordered
  cases hop c k <;> simp only [h.regionOf]

/-- Port `k` of router `c` lets a copy out: it is not masked, and does not lead out of the region. -/
def sends (s : State) (c : CoreId) (k : Nat) : Bool := !bit (routerOf s c).badPorts k && !bordered s c k

/-- Port `k` of router `c` would let a copy out of the region. -/
def strays (s : State) (c : CoreId) (k : Nat) : Bool := !bit (routerOf s c).badPorts k && bordered s c k

theorem SameMap.sends {s t : State} (h : SameMap s t) (c : CoreId) (k : Nat) : sends t c k = sends s c k := by
  unfold Machine.sends
  rw [h.masks, h.bordered]

theorem SameMap.strays {s t : State} (h : SameMap s t) (c : CoreId) (k : Nat) : strays t c k = strays s c k := by
  unfold Machine.strays
  rw [h.masks, h.bordered]

/-- The log entry of a copy at the border. -/
def borderLog (c : CoreId) (s : State) : State := logCore c 0 0x13 (BitVec.ofNat 64 c.val) s

theorem storeLog_log (s : State) : (storeLog s).log = s.log := by
  unfold storeLog wantStore
  split
  · split <;> rfl
  · rfl

theorem logItem_log_congr {s t : State} (i : LogItem) (hlog : t.log = s.log) (hclock : t.clock = s.clock) :
    (logItem i t).log = (logItem i s).log := by
  unfold logItem
  dsimp only
  rw [hlog, hclock]
  split
  · rfl
  · split
    · rw [storeLog_log, storeLog_log]
    · rfl

theorem borderLog_map (c : CoreId) (s : State) : SameMap s (borderLog c s) := by
  obtain ⟨l, f, h⟩ := logItem_eq ⟨0x13, BitVec.ofNat 6 (dieOf c), BitVec.ofNat 14 c.val, Machine.regionOf s c, 0, false, BitVec.ofNat 64 c.val, []⟩ s
  have hb : borderLog c s = { s with log := l, flash := f } := h
  rw [hb]
  exact ⟨rfl, rfl, rfl, rfl, rfl, fun _ => rfl, fun _ => rfl⟩

theorem borderLog_congr {s t : State} (c : CoreId) (h : SameMap s t) (hlog : t.log = s.log) :
    (borderLog c t).log = (borderLog c s).log := by
  unfold borderLog logCore
  rw [h.regionOf]
  exact logItem_log_congr _ hlog h.clock

theorem borderLogs_map (c : CoreId) (n : Nat) (s : State) : SameMap s ((borderLog c)^[n] s) := by
  induction n generalizing s with
  | zero => exact SameMap.refl s
  | succ n ih => exact (borderLog_map c s).trans (ih _)

theorem borderLogs_congr {s t : State} (c : CoreId) (n : Nat) (h : SameMap s t) (hlog : t.log = s.log) :
    ((borderLog c)^[n] t).log = ((borderLog c)^[n] s).log := by
  induction n generalizing s t with
  | zero => exact hlog
  | succ n ih => exact ih ((borderLog_map c s).symm.trans (h.trans (borderLog_map c t))) (borderLog_congr c h hlog)

/-! ### Copies -/

/-- Copies of flit `f` leave router `c` by the ports of `l`. -/
structure Copies (c : CoreId) (f : Flit) (l : List Nat) (s t : State) : Prop where
  map : SameMap s t
  queues : ∀ d : CoreId, (coreOf t d).inj = (coreOf s d).inj
  inputs : ∀ (d : CoreId) j, tget [] (routerOf t d).inputs j = tget [] (routerOf s d).inputs j
    ++ (l.filter fun k => sends s c k && decide (hop c k = .router d j)).map fun _ => f
  shore : ∀ p : ShoreId, tget [] t.shoreOut p.val = tget [] s.shoreOut p.val
    ++ (l.filter fun k => sends s c k && decide (hop c k = .shore p)).map fun _ => f
  inbox : ∀ d : CoreId, (coreOf t d).inbox = (coreOf s d).inbox
    ++ (l.filter fun k => sends s c k && decide (hop c k = .landing ∧ d = c ∧ (coreOf s c).isolated = false)).map fun _ => f
  strayed : tget 0 t.counters (ctrCore c.val 1) = satAdd (tget 0 s.counters (ctrCore c.val 1)) (l.filter (strays s c)).length
  logged : t.log = ((borderLog c)^[(l.filter (strays s c)).length] s).log

theorem filter_congr_map {c : CoreId} {s t : State} (h : SameMap s t) (p : Nat → Bool) (l : List Nat) :
    (l.filter fun k => sends t c k && p k) = l.filter fun k => sends s c k && p k := by
  congr 1
  funext k
  rw [h.sends]

theorem Copies.nil (c : CoreId) (f : Flit) (s : State) : Copies c f [] s s :=
  ⟨SameMap.refl s, fun _ => rfl, fun _ _ => (List.append_nil _).symm, fun _ => (List.append_nil _).symm, fun _ => (List.append_nil _).symm,
    (satAdd_zero _).symm, rfl⟩

theorem Copies.append {c : CoreId} {f : Flit} {l k : List Nat} {s t u : State} (a : Copies c f l s t) (b : Copies c f k t u) :
    Copies c f (l ++ k) s u := by
  have hstrays : (k.filter (strays t c)).length = (k.filter (strays s c)).length := by
    congr 2
    funext n
    exact a.map.strays c n
  refine ⟨a.map.trans b.map, fun d => (b.queues d).trans (a.queues d), fun d j => ?_, fun p => ?_, fun d => ?_, ?_, ?_⟩
  · rw [b.inputs, a.inputs, filter_congr_map a.map, List.filter_append, List.map_append, List.append_assoc]
  · rw [b.shore, a.shore, filter_congr_map a.map, List.filter_append, List.map_append, List.append_assoc]
  · rw [b.inbox, a.inbox, filter_congr_map a.map, List.filter_append, List.map_append, List.append_assoc, a.map.cores c]
  · rw [b.strayed, a.strayed, hstrays, satAdd_satAdd, List.filter_append, List.length_append]
  · rw [b.logged, hstrays, List.filter_append, List.length_append, Nat.add_comm, Function.iterate_add_apply]
    exact borderLogs_congr c _ ((borderLogs_map c _ s).symm.trans a.map) a.logged

/-! ### One copy -/

section
variable {c : CoreId} {f : Flit} {k : Nat} {s : State}

/-- What one port's copy changes, from what it does to each place. -/
theorem Copies.one {t : State} (hmap : SameMap s t) (hqueues : ∀ d : CoreId, (coreOf t d).inj = (coreOf s d).inj)
    (hin : ∀ (d : CoreId) j, tget [] (routerOf t d).inputs j = tget [] (routerOf s d).inputs j
      ++ (if sends s c k = true ∧ hop c k = .router d j then [f] else []))
    (hshore : ∀ p : ShoreId, tget [] t.shoreOut p.val = tget [] s.shoreOut p.val
      ++ (if sends s c k = true ∧ hop c k = .shore p then [f] else []))
    (hbox : ∀ d : CoreId, (coreOf t d).inbox = (coreOf s d).inbox
      ++ (if sends s c k = true ∧ (hop c k = .landing ∧ d = c ∧ (coreOf s c).isolated = false) then [f] else []))
    (hstray : strays s c k = false → tget 0 t.counters (ctrCore c.val 1) = tget 0 s.counters (ctrCore c.val 1) ∧ t.log = s.log)
    (hstray' : strays s c k = true → tget 0 t.counters (ctrCore c.val 1) = satAdd (tget 0 s.counters (ctrCore c.val 1)) 1
      ∧ t.log = (borderLog c s).log) : Copies c f [k] s t := by
  have hone : ∀ (P : Prop) [Decidable P], ([k].filter fun k' => sends s c k && decide P).map (fun _ => f)
      = if sends s c k = true ∧ P then [f] else [] := by
    intro P _
    rw [List.filter_singleton]
    by_cases h : sends s c k = true ∧ P
    · simp [h.1, h.2]
    · rw [if_neg h]
      by_cases hs : sends s c k = true
      · have hp : ¬ P := fun hp => h ⟨hs, hp⟩
        simp [hp]
      · simp [hs]
  refine ⟨hmap, hqueues, fun d j => ?_, fun p => ?_, fun d => ?_, ?_, ?_⟩
  · rw [hin]
    exact congrArg _ (hone _).symm
  · rw [hshore]
    exact congrArg _ (hone _).symm
  · rw [hbox]
    exact congrArg _ (hone _).symm
  · rw [List.filter_singleton]
    cases hs : strays s c k with
    | true => exact (hstray' hs).1
    | false => exact (hstray hs).1.trans (satAdd_zero _).symm
  · rw [List.filter_singleton]
    cases hs : strays s c k with
    | true => exact (hstray' hs).2
    | false => exact (hstray hs).2

/-- A port that lets nothing out, and drops nothing at a border. -/
theorem Copies.none (hs : sends s c k = false) (hb : strays s c k = false) : Copies c f [k] s s := by
  have hno : ∀ P : Prop, ¬ (sends s c k = true ∧ P) := fun P h => by simp [hs] at h
  refine Copies.one (SameMap.refl s) (fun _ => rfl) (fun d j => ?_) (fun p => ?_) (fun d => ?_) (fun _ => ⟨rfl, rfl⟩) (fun h => ?_)
  · rw [if_neg (hno _), List.append_nil]
  · rw [if_neg (hno _), List.append_nil]
  · rw [if_neg (hno _), List.append_nil]
  · rw [hb] at h
    cases h

end

/-- A router's inputs, set. -/
theorem setInputs_map (s : State) (d : CoreId) (t : Tab (List Flit)) : SameMap s (setRouter s d { routerOf s d with inputs := t }) := by
  refine ⟨rfl, rfl, rfl, rfl, rfl, fun e => ?_, fun _ => rfl⟩
  by_cases h : d = e
  · rw [h, routerOf_setRouter_same]
  · rw [routerOf_setRouter_other _ _ _ _ h]

theorem inputs_setRouter (s : State) (d e : CoreId) (i j : Nat) (l : List Flit) :
    tget [] (routerOf (setRouter s d { routerOf s d with inputs := tset (routerOf s d).inputs i l }) e).inputs j
      = if d = e ∧ i = j then l else tget [] (routerOf s e).inputs j := by
  by_cases hd : d = e
  · subst hd
    rw [routerOf_setRouter_same]
    by_cases hi : i = j
    · rw [if_pos ⟨rfl, hi⟩, hi]
      exact tget_tset_same ..
    · rw [if_neg fun h => hi h.2]
      exact tget_tset_other _ _ _ _ _ hi
  · rw [if_neg fun h => hd h.1, routerOf_setRouter_other _ _ _ _ hd]

theorem inbox_map (s : State) (d : CoreId) (f : Flit) : SameMap s (modCore s d fun x => { x with inbox := x.inbox ++ [f] }) := by
  refine ⟨rfl, rfl, rfl, rfl, rfl, fun _ => rfl, fun e => ?_⟩
  by_cases h : d = e
  · rw [h, coreOf_modCore_same]
  · rw [coreOf_modCore_other _ _ _ _ h]

theorem inbox_queues (s : State) (c d : CoreId) (f : Flit) :
    (coreOf (modCore s c fun x => { x with inbox := x.inbox ++ [f] }) d).inj = (coreOf s d).inj := by
  by_cases h : c = d
  · rw [h, coreOf_modCore_same]
  · rw [coreOf_modCore_other _ _ _ _ h]

/-- A counter counts, and the map stands. -/
theorem count_map (s : State) (a n : Nat) : SameMap s (count s a n) := ⟨rfl, rfl, rfl, rfl, rfl, fun _ => rfl, fun _ => rfl⟩

/-- A copy at the border is counted and logged (R73). -/
theorem border_copies {c : CoreId} {k : Nat} {s : State} (f : Flit) (hb : strays s c k = true) :
    Copies c f [k] s (borderLog c (count s (ctrCore c.val 1) 1)) := by
  have hno : ∀ P : Prop, ¬ (sends s c k = true ∧ P) := fun P h => by
    unfold sends at h
    unfold strays at hb
    simp_all
  have hmap := (count_map s (ctrCore c.val 1) 1).trans (borderLog_map c _)
  obtain ⟨hside, hcores, hrouters⟩ := logItem_hostSide ⟨0x13, BitVec.ofNat 6 (dieOf c), BitVec.ofNat 14 c.val,
    regionOf (count s (ctrCore c.val 1) 1) c, 0, false, BitVec.ofNat 64 c.val, []⟩ (count s (ctrCore c.val 1) 1)
  have hshore : (borderLog c (count s (ctrCore c.val 1) 1)).shoreOut = s.shoreOut := logItem_shoreOut ..
  have hcount : (borderLog c (count s (ctrCore c.val 1) 1)).counters = (count s (ctrCore c.val 1) 1).counters := logItem_counters ..
  refine Copies.one hmap (fun d => congrArg (fun r : Tab Core => (tget Core.reset r d.val).inj) hcores) (fun d j => ?_) (fun p => ?_) (fun d => ?_) (fun h => by rw [hb] at h; cases h) (fun _ => ⟨?_, ?_⟩)
  · rw [if_neg (hno _), List.append_nil]
    exact congrArg (fun r : Tab Router => tget [] (tget Router.reset r d.val).inputs j) hrouters
  · rw [if_neg (hno _), List.append_nil, hshore]
  · rw [if_neg (hno _), List.append_nil]
    exact congrArg (fun r : Tab Core => (tget Core.reset r d.val).inbox) hcores
  · rw [hcount]
    exact tget_tset_same ..
  · exact borderLog_congr c (count_map ..) rfl

/-- A place that takes no copy stands. -/
theorem append_unless {P : Prop} [Decidable P] {f : Flit} {a b : List Flit} (h : ¬ P) (e : a = b) : a = b ++ (if P then [f] else []) := by
  rw [if_neg h, List.append_nil, e]

/-- A copy that a port lets out goes where the port leads (R62, R417). -/
theorem sent_copies {c : CoreId} {k : Nat} {s : State} (f : Flit) (hs : sends s c k = true) : Copies c f [k] s (sendCopy c f s k) := by
  have hstray : strays s c k = false := by
    unfold sends at hs
    unfold strays
    simp_all
  have hmask : bit (routerOf s c).badPorts k = false ∧ bordered s c k = false := by
    unfold sends at hs
    simpa using hs
  have hnot : strays s c k = true → False := fun h => by
    rw [hstray] at h
    cases h
  have hcopy : sendCopy c f s k = match hop c k with
    | .landing =>
      if (coreOf s c).isolated then count s (ctrCore c.val 3) 1
      else modCore s c fun x => { x with inbox := x.inbox ++ [f] }
    | .router d i => setRouter s d { routerOf s d with inputs := tset (routerOf s d).inputs i (tget [] (routerOf s d).inputs i ++ [f]) }
    | .shore p => { s with shoreOut := tset s.shoreOut p.val (tget [] s.shoreOut p.val ++ [f]) }
    | .nothing => s :=
    (if_neg (by rw [hmask.1]; exact Bool.false_ne_true)).trans (if_neg (by rw [hmask.2]; exact Bool.false_ne_true))
  rw [hcopy]
  cases hhop : hop c k with
  | landing =>
    cases hgate : (coreOf s c).isolated with
    | true =>
      dsimp only
      rw [if_pos rfl]
      refine Copies.one (count_map ..) (fun _ => rfl) (fun d j => ?_) (fun p => ?_) (fun d => ?_) (fun _ => ⟨?_, rfl⟩) (fun h => (hnot h).elim)
      · exact append_unless (by simp [hhop]) rfl
      · exact append_unless (by simp [hhop]) rfl
      · exact append_unless (by simp [hgate]) rfl
      · exact tget_tset_other _ _ _ _ _ (by unfold ctrCore; omega)
    | false =>
      dsimp only
      rw [if_neg Bool.false_ne_true]
      refine Copies.one (inbox_map ..) (fun d => inbox_queues s c d f) (fun d j => ?_) (fun p => ?_) (fun d => ?_) (fun _ => ⟨rfl, rfl⟩) (fun h => (hnot h).elim)
      · exact append_unless (by simp [hhop]) rfl
      · exact append_unless (by simp [hhop]) rfl
      · by_cases hd : c = d
        · subst hd
          simp [hs, hhop, hgate]
        · rw [coreOf_modCore_other _ _ _ _ hd, if_neg fun h => hd h.2.2.1.symm, List.append_nil]
  | router d i =>
    dsimp only
    refine Copies.one (setInputs_map ..) (fun _ => rfl) (fun e j => ?_) (fun p => ?_) (fun e => ?_) (fun _ => ⟨rfl, rfl⟩) (fun h => (hnot h).elim)
    · rw [inputs_setRouter]
      by_cases h : d = e ∧ i = j
      · obtain ⟨rfl, rfl⟩ := h
        simp [hs, hhop]
      · rw [if_neg h, if_neg fun hh => h (by simpa [hhop] using hh.2), List.append_nil]
    · exact append_unless (by simp [hhop]) rfl
    · exact append_unless (by simp [hhop]) rfl
  | shore p =>
    dsimp only
    refine Copies.one ⟨rfl, rfl, rfl, rfl, rfl, fun _ => rfl, fun _ => rfl⟩ (fun _ => rfl) (fun e j => ?_) (fun q => ?_) (fun e => ?_)
      (fun _ => ⟨rfl, rfl⟩) (fun h => (hnot h).elim)
    · exact append_unless (by simp [hhop]) rfl
    · by_cases h : p = q
      · subst h
        simp [hs, hhop]
      · rw [if_neg fun hh => h (by simpa [hhop] using hh.2), List.append_nil]
        exact tget_tset_other _ _ _ _ _ fun hv => h (Fin.ext hv)
    · exact append_unless (by simp [hhop]) rfl
  | nothing =>
    dsimp only
    refine Copies.one (SameMap.refl s) (fun _ => rfl) (fun e j => ?_) (fun q => ?_) (fun e => ?_) (fun _ => ⟨rfl, rfl⟩) (fun h => (hnot h).elim)
    · exact append_unless (by simp [hhop]) rfl
    · exact append_unless (by simp [hhop]) rfl
    · exact append_unless (by simp [hhop]) rfl

theorem sendCopy_copies (c : CoreId) (f : Flit) (s : State) (k : Nat) : Copies c f [k] s (sendCopy c f s k) := by
  cases hs : sends s c k with
  | true => exact sent_copies f hs
  | false =>
    cases hb : strays s c k with
    | true =>
      have hmask : bit (routerOf s c).badPorts k = false ∧ bordered s c k = true := by
        unfold strays at hb
        simpa using hb
      have hcopy : sendCopy c f s k = borderLog c (count s (ctrCore c.val 1) 1) := by
        unfold sendCopy
        rw [hmask.1, hmask.2]
        rfl
      rw [hcopy]
      exact border_copies f hb
    | false =>
      have hmask : bit (routerOf s c).badPorts k = true := by
        unfold sends at hs
        unfold strays at hb
        simp_all
      have hcopy : sendCopy c f s k = s := by
        unfold sendCopy
        rw [hmask]
        rfl
      rw [hcopy]
      exact Copies.none hs hb

theorem sendCopies (c : CoreId) (f : Flit) (l : List Nat) (s : State) : Copies c f l s (l.foldl (sendCopy c f) s) := by
  induction l generalizing s with
  | nil => exact Copies.nil c f s
  | cons k l ih => exact (sendCopy_copies c f s k).append (ih _)

end Sys2Proof.Machine

/-!
SUPPORT. One flit at a router in Daylight (R60, R61, R69, R73, R74).
-/
namespace Sys2Proof.Machine
open Sys2Proof Sys2Proof.Safety

/-! ### Where the ports lead -/

/-- No port leads back to its own router. -/
theorem hop_ne_self {c d : CoreId} {k j : Nat} (h : hop c k = .router d j) : d ≠ c := by
  rintro rfl
  have hlt := d.isLt
  unfold hop at h
  split at h
  · cases h
  · split at h
    · cases h
    · injection h with hd hj
      have hv := congrArg Fin.val hd
      simp only [coreAt, coreX, coreY, Fin.val_ofNat] at hv
      simp only [coreY] at *
      omega
  · split at h
    · cases h
    · injection h with hd hj
      have hv := congrArg Fin.val hd
      simp only [coreAt, coreX, coreY, Fin.val_ofNat] at hv
      simp only [coreX] at *
      omega
  · split at h
    · cases h
    · injection h with hd hj
      have hv := congrArg Fin.val hd
      simp only [coreAt, coreX, coreY, Fin.val_ofNat] at hv
      simp only [coreY] at *
      omega
  · split at h
    · cases h
    · injection h with hd hj
      have hv := congrArg Fin.val hd
      simp only [coreAt, coreX, coreY, Fin.val_ofNat] at hv
      simp only [coreX] at *
      omega
  · cases h

/-- The port that leads to a place: a router's input says which of its neighbours it is. -/
def portTo : Hop → Nat
  | .landing => 0
  | .router _ i => (i + 1) % 4 + 1
  | .shore p => if p.val < 128 then 1 else 3
  | .nothing => 0

theorem portTo_hop {c : CoreId} : ∀ {k : Nat}, hop c k ≠ .nothing → portTo (hop c k) = k
  | 0, _ => rfl
  | 1, _ => by
    have hx : coreX c < 128 := Nat.mod_lt _ (by decide)
    have hp : (shoreOfCol true (coreX c)).val = coreX c := Nat.mod_eq_of_lt (show coreX c < 256 by omega)
    exact ite_ok (P := fun h => portTo h = 1) (if_pos (by rw [hp]; exact hx)) rfl
  | 2, hne => by
    by_cases h : coreX c = 127
    · exact absurd (if_pos h) hne
    · have hhop : hop c 2 = .router (coreAt (coreX c + 1) (coreY c)) 4 := if_neg h
      rw [hhop]
      rfl
  | 3, _ => by
    have hx : coreX c < 128 := Nat.mod_lt _ (by decide)
    have hp : (shoreOfCol false (coreX c)).val = 128 + coreX c := Nat.mod_eq_of_lt (show 128 + coreX c < 256 by omega)
    exact ite_ok (P := fun h => portTo h = 3) (if_neg (by rw [hp]; omega)) rfl
  | 4, hne => by
    by_cases h : coreX c = 0
    · exact absurd (if_pos h) hne
    · have hhop : hop c 4 = .router (coreAt (coreX c - 1) (coreY c)) 2 := if_neg h
      rw [hhop]
      rfl
  | _ + 5, hne => absurd rfl hne

/-- Ports that lead to the same place are the same. -/
theorem hop_inj {c : CoreId} {k l : Nat} (hne : hop c k ≠ .nothing) (h : hop c l = hop c k) : l = k :=
  calc l = portTo (hop c l) := (portTo_hop (by rw [h]; exact hne)).symm
    _ = portTo (hop c k) := by rw [h]
    _ = k := portTo_hop hne

/-! ### The ports of an entry -/

section
variable {s : State} {c : CoreId} {e : BitVec 128} {k : Nat}

theorem copiesTo_iff : copiesTo s c e k ↔ k < 5 ∧ reOut e k = true ∧ sends s c k = true := by
  unfold copiesTo sends bit
  simp

/-- Of the ports of an entry one alone leads to the place that it leads to. -/
theorem ports_one (h : copiesTo s c e k) (hne : hop c k ≠ .nothing) :
    ((List.range 5).filter (reOut e)).filter (fun l => sends s c l && decide (hop c l = hop c k)) = [k] := by
  obtain ⟨hlt, hout, hsends⟩ := copiesTo_iff.mp h
  have hiff : ∀ l ∈ (List.range 5).filter (reOut e), (sends s c l && decide (hop c l = hop c k)) = decide (l = k) := by
    intro l _
    by_cases hl : l = k
    · subst hl
      simp [hsends]
    · have hno : hop c l ≠ hop c k := fun hh => hl (hop_inj hne hh)
      simp [hno, hl]
  have hmem : k ∈ (List.range 5).filter (reOut e) := List.mem_filter.mpr ⟨List.mem_range.mpr hlt, hout⟩
  rw [List.filter_congr hiff, List.filter_eq, List.count_eq_one_of_mem (List.nodup_range.filter _) hmem]
  rfl

/-- No port of an entry leads to a place that none of its copies goes to. -/
theorem ports_none {P : Nat → Prop} [DecidablePred P] (h : ∀ k, copiesTo s c e k → ¬ P k) :
    ((List.range 5).filter (reOut e)).filter (fun l => sends s c l && decide (P l)) = [] := by
  rw [List.filter_eq_nil_iff]
  intro l hl
  obtain ⟨hlt, hout⟩ := List.mem_filter.mp hl
  intro hboth
  rw [Bool.and_eq_true, decide_eq_true_eq] at hboth
  exact h l (copiesTo_iff.mpr ⟨List.mem_range.mp hlt, hout, hboth.1⟩) hboth.2

end

/-! ### The cycle -/

section
variable {s : State} {n : Nat} {c : CoreId}

theorem toCycle_router (d : CoreId) : routerOf (toCycle n s) d = routerOf s d := by
  have h : (toCycle n s).routers = s.routers := (congrArg State.routers (toCycle_rest n s) :)
  unfold routerOf
  rw [h]

theorem toCycle_regionOf (d : CoreId) : regionOf (toCycle n s) d = regionOf s d := by
  unfold regionOf cellsOver
  rw [toCycle_cells]

theorem toCycle_bordered (k : Nat) : bordered (toCycle n s) c k = bordered s c k := by
  unfold bordered
  cases hop c k <;> simp only [toCycle_regionOf]

theorem toCycle_sends (k : Nat) : sends (toCycle n s) c k = sends s c k := by
  unfold sends
  rw [toCycle_bordered, toCycle_router]

theorem toCycle_strays (k : Nat) : strays (toCycle n s) c k = strays s c k := by
  unfold strays
  rw [toCycle_bordered, toCycle_router]

theorem toCycle_asleep : asleep (toCycle n s) c = asleep s c := by
  unfold asleep
  rw [toCycle_core]

theorem toCycle_entryFor (i off : Nat) : entryFor (toCycle n s) c i off = entryFor s c i off := by
  unfold entryFor
  rw [toCycle_regionOf]
  split
  · rfl
  · simp only [toCycle_regOf, toCycle_asleep, toCycle_router]

end

/-! ### What the copies of an entry do -/

section
variable {s u t v : State} {c : CoreId} {e : BitVec 128} {f : Flit} {i : Fin 5}

/-- The copies of an entry, once the flit has left input `i`, are those of the statement. -/
theorem Copies.forwarded {n : Nat} (hu : u = toCycle n s) (hmap : SameMap u v)
    (hin : ∀ (d : CoreId) j, (d ≠ c ∨ j ≠ i.val) → tget [] (routerOf v d).inputs j = tget [] (routerOf s d).inputs j)
    (hshore : v.shoreOut = s.shoreOut) (hbox : ∀ d : CoreId, (coreOf v d).inbox = (coreOf s d).inbox)
    (hcount : v.counters = s.counters) (hlog : v.log = u.log)
    (h : Copies c f ((List.range 5).filter (reOut e)) v t) : forwarded c e f i s u t := by
  have hsends : ∀ k, sends v c k = sends s c k := fun k => by rw [hmap.sends, hu, toCycle_sends]
  have hgate : (coreOf v c).isolated = (coreOf s c).isolated := by rw [hmap.cores, hu, toCycle_core]
  have hstrays : ((List.range 5).filter (reOut e)).filter (strays v c)
      = (List.range 5).filter fun k => reOut e k && !(routerOf s c).badPorts.getLsbD k && bordered s c k := by
    rw [List.filter_filter]
    congr 1
    funext k
    rw [hmap.strays, hu, toCycle_strays]
    unfold strays bit
    rw [Bool.and_comm, Bool.and_assoc]
  have hports : ∀ (P : Nat → Bool), ((List.range 5).filter (reOut e)).filter (fun k => sends v c k && P k)
      = ((List.range 5).filter (reOut e)).filter (fun k => sends s c k && P k) := fun P => by
    congr 1
    funext k
    rw [hsends]
  refine ⟨fun k hk => ?_, fun d j hd hno => ?_, fun p hno => ?_, fun d hd => ?_, ?_, ?_⟩
  · unfold leftThrough
    cases hhop : hop c k with
    | landing =>
      intro hopen
      have hone : ((List.range 5).filter (reOut e)).filter
          (fun l => sends v c l && decide (hop c l = .landing ∧ c = c ∧ (coreOf v c).isolated = false)) = [k] := by
        rw [hports, hgate, hopen, ← ports_one hk (by rw [hhop]; exact fun h => by cases h), hhop]
        simp
      rw [h.inbox, hone, hbox]
      rfl
    | router d j =>
      have hself : d ≠ c := hop_ne_self hhop
      have hone := ports_one hk (by rw [hhop]; exact fun h => by cases h)
      rw [hhop] at hone
      dsimp only
      rw [h.inputs, hports, hone, hin d j (Or.inl hself)]
      rfl
    | shore p =>
      have hone := ports_one hk (by rw [hhop]; exact fun h => by cases h)
      rw [hhop] at hone
      dsimp only
      rw [h.shore, hports, hone, hshore]
      rfl
    | nothing => trivial
  · rw [h.inputs, hports, ports_none hno, hin d j hd]
    exact List.append_nil _
  · rw [h.shore, hports, ports_none hno, hshore]
    exact List.append_nil _
  · have hnone : ∀ k, copiesTo s c e k → ¬ (hop c k = .landing ∧ d = c ∧ (coreOf v c).isolated = false) := by
      rintro k hk ⟨hl, hdc, -⟩
      have hzero : k = 0 := hop_inj (k := 0) (fun h => by cases h) hl
      exact hd.elim (fun hne => hne hdc) (fun hno => hno (hzero ▸ hk))
    rw [h.inbox, hports, ports_none hnone, hbox]
    exact List.append_nil _
  · rw [h.strayed, hstrays, hcount]
  · rw [h.logged, hstrays, borderLogs_congr c _ hmap hlog, List.foldl_const, List.length_range]
    rfl

end

/-! ### A flit in Daylight -/

section
variable {s : State} {c : CoreId} {i : Fin 5} {n : BitVec 24} {e : BitVec 128} {f : Flit}

theorem flitAtRouter_daylight (hdev : s.dev = .daylight) :
    exec (.flitAtRouter c i n .ok) s = .next (scheduledFlit c i.val n.toNat .ok (toCycle n.toNat s)) := by
  have hd : (toCycle n.toNat s).dev = .daylight := (pass_dev _ s).trans hdev
  change Host.Outcome.next (match (toCycle n.toNat s).dev with
    | .daylight => scheduledFlit c i.val n.toNat .ok (toCycle n.toNat s)
    | .twilight => twilightFlit c i.val n.toNat .ok (toCycle n.toNat s)
    | .midnight => toCycle n.toNat s) = _
  rw [hd]

section
variable (hn : 512 ≤ n.toNat) (hopen : ¬ (enters c i.val = true ∧ s.clock.phase = .dusk))
include hn hopen

/-- The cycle is one at which entries run. -/
theorem noon_open : ¬ (n.toNat < 512 ∨ (enters c i.val = true ∧ (toCycle n.toNat s).clock.phase = .dusk)) := by
  have hphase : (toCycle n.toNat s).clock.phase = s.clock.phase := by rw [toCycle_clock]
  rw [hphase]
  exact fun h => h.elim (fun hlt => by omega) hopen

theorem scheduledFlit_passes {q : Option Nat} (hq : (if i.val = 0 then some (reQueue e) else none) = q)
    (he : entryFor s c i.val (n.toNat - 512) = some e) (hat : flitAt (toCycle n.toNat s) c i.val q = some f) :
    scheduledFlit c i.val n.toNat .ok (toCycle n.toNat s)
      = passFlit c i.val q f .ok ((List.range 5).filter (reOut e)) (toCycle n.toNat s) := by
  unfold scheduledFlit
  dsimp only
  rw [if_neg (noon_open hn hopen), toCycle_entryFor, he]
  dsimp only
  rw [hq, hat]

theorem scheduledFlit_waits {q : Option Nat} (hq : (if i.val = 0 then some (reQueue e) else none) = q)
    (he : entryFor s c i.val (n.toNat - 512) = some e) (hat : flitAt (toCycle n.toNat s) c i.val q = none) :
    scheduledFlit c i.val n.toNat .ok (toCycle n.toNat s) = toCycle n.toNat s := by
  unfold scheduledFlit
  dsimp only
  rw [if_neg (noon_open hn hopen), toCycle_entryFor, he]
  dsimp only
  rw [hq, hat]

theorem scheduledFlit_unnamed (he : entryFor s c i.val (n.toNat - 512) = none) :
    scheduledFlit c i.val n.toNat .ok (toCycle n.toNat s)
      = if i.val ≠ 0 ∧ (flitAt (toCycle n.toNat s) c i.val none).isSome then dropFlit c i.val (toCycle n.toNat s)
        else toCycle n.toNat s := by
  unfold scheduledFlit
  dsimp only
  rw [if_neg (noon_open hn hopen), toCycle_entryFor, he]

end

end

end Sys2Proof.Machine

/-!
SUPPORT. The cases of a flit at a router: an input's flit goes on or is dropped, and a queue releases its oldest flit (R60, R61, R69).
-/
namespace Sys2Proof.Machine
open Sys2Proof Sys2Proof.Safety

/-! ### A flit leaves its input -/

section
variable {s u : State} {c : CoreId} {i : Fin 5} {n : BitVec 24} {e : BitVec 128} {f : Flit}

/-- The oldest flit of an input of `c` is gone. -/
def inputTaken (c : CoreId) (i : Nat) (s : State) : State :=
  setRouter s c { routerOf s c with inputs := tset (routerOf s c).inputs i ((tget [] (routerOf s c).inputs i).drop 1) }

theorem takeFlit_input (hi : i ≠ 0) : takeFlit c i.val none s = inputTaken c i.val s :=
  if_neg fun h => hi (Fin.ext h)

theorem inputTaken_other (d : CoreId) (i j : Nat) (h : d ≠ c ∨ j ≠ i) :
    tget [] (routerOf (inputTaken c i s) d).inputs j = tget [] (routerOf s d).inputs j := by
  unfold inputTaken
  rw [inputs_setRouter, if_neg fun hh => h.elim (fun hd => hd hh.1.symm) fun hj => hj hh.2.symm]

theorem inputTaken_same (i : Nat) :
    tget [] (routerOf (inputTaken c i s) c).inputs i = (tget [] (routerOf s c).inputs i).drop 1 := by
  unfold inputTaken
  rw [inputs_setRouter, if_pos ⟨rfl, rfl⟩]

theorem inputTaken_map (c : CoreId) (i : Nat) (s : State) : SameMap s (inputTaken c i s) := setInputs_map ..

theorem flitAt_input (hi : i ≠ 0) : flitAt s c i.val none = (tget [] (routerOf s c).inputs i.val).head? :=
  if_neg fun h => hi (Fin.ext h)

theorem passFlit_input (hi : i ≠ 0) (l : List Nat) :
    passFlit c i.val none f .ok l s = l.foldl (sendCopy c f) (inputTaken c i.val s) := by
  unfold passFlit
  dsimp only
  rw [takeFlit_input hi, if_neg fun h => hi (Fin.ext h.1)]
  rfl

/-! ### Daylight -/

theorem input_forwards (hi : i ≠ 0) (hf : (tget [] (routerOf s c).inputs i.val).head? = some f) (hdev : s.dev = .daylight)
    (hn : 512 ≤ n.toNat) (hopen : ¬ (enters c i.val = true ∧ s.clock.phase = .dusk))
    (he : entryFor s c i.val (n.toNat - 512) = some e) :
    ∃ t, exec (.flitAtRouter c i n .ok) s = .next t
      ∧ tget [] (routerOf t c).inputs i.val = (tget [] (routerOf s c).inputs i.val).drop 1
      ∧ forwarded c e f i s (toCycle n.toNat s) t := by
  have hat : flitAt (toCycle n.toNat s) c i.val none = some f := by rw [flitAt_input hi, toCycle_router, hf]
  have hrun : scheduledFlit c i.val n.toNat .ok (toCycle n.toNat s)
      = ((List.range 5).filter (reOut e)).foldl (sendCopy c f) (inputTaken c i.val (toCycle n.toNat s)) := by
    rw [scheduledFlit_passes hn hopen (if_neg fun h => hi (Fin.ext h)) he hat]
    exact passFlit_input hi _
  have hcopies := sendCopies c f ((List.range 5).filter (reOut e)) (inputTaken c i.val (toCycle n.toNat s))
  refine ⟨_, by rw [flitAtRouter_daylight hdev, hrun], ?_, hcopies.forwarded rfl (inputTaken_map ..) (fun d j h => ?_) ?_ (fun d => ?_) ?_ rfl⟩
  · have hnone : ((List.range 5).filter (reOut e)).filter (fun k => sends (inputTaken c i.val (toCycle n.toNat s)) c k
        && decide (hop c k = .router c i.val)) = [] := ports_none fun k _ h => hop_ne_self h rfl
    rw [hcopies.inputs, hnone, inputTaken_same, toCycle_router]
    exact List.append_nil _
  · rw [inputTaken_other d i.val j h, toCycle_router]
  · exact (congrArg State.shoreOut (toCycle_rest n.toNat s) :)
  · have hcore : coreOf (inputTaken c i.val (toCycle n.toNat s)) d = coreOf (toCycle n.toNat s) d := rfl
    rw [hcore, toCycle_core]
  · exact (congrArg State.counters (toCycle_rest n.toNat s) :)

theorem input_drops (hi : i ≠ 0) (hf : (tget [] (routerOf s c).inputs i.val).head? = some f) (hdev : s.dev = .daylight)
    (hn : 512 ≤ n.toNat) (hopen : ¬ (enters c i.val = true ∧ s.clock.phase = .dusk))
    (he : entryFor s c i.val (n.toNat - 512) = none) :
    ∃ t, exec (.flitAtRouter c i n .ok) s = .next t
      ∧ tget [] (routerOf t c).inputs i.val = (tget [] (routerOf s c).inputs i.val).drop 1
      ∧ tget 0 t.counters (ctrCore c.val 0) = satAdd (tget 0 s.counters (ctrCore c.val 0)) 1
      ∧ t.shoreOut = s.shoreOut ∧ (∀ d : CoreId, (coreOf t d).inbox = (coreOf s d).inbox)
      ∧ ∀ d, d ≠ c → routerOf t d = routerOf s d := by
  have hat : flitAt (toCycle n.toNat s) c i.val none = some f := by rw [flitAt_input hi, toCycle_router, hf]
  have hrun : scheduledFlit c i.val n.toNat .ok (toCycle n.toNat s)
      = count (inputTaken c i.val (toCycle n.toNat s)) (ctrCore c.val 0) 1 := by
    rw [scheduledFlit_unnamed hn hopen he, hat, if_pos ⟨fun h => hi (Fin.ext h), rfl⟩, dropFlit, takeFlit_input hi]
  refine ⟨_, by rw [flitAtRouter_daylight hdev, hrun], ?_, ?_, ?_, fun d => ?_, fun d hd => ?_⟩
  · refine (inputTaken_same i.val).trans ?_
    rw [toCycle_router]
  · refine (tget_tset_same ..).trans ?_
    exact congrArg (satAdd · 1) (congrArg (fun x : State => tget 0 x.counters (ctrCore c.val 0)) (toCycle_rest n.toNat s) :)
  · exact (congrArg State.shoreOut (toCycle_rest n.toNat s) :)
  · have hcore : coreOf (count (inputTaken c i.val (toCycle n.toNat s)) (ctrCore c.val 0) 1) d = coreOf (toCycle n.toNat s) d := rfl
    rw [hcore, toCycle_core]
  · have hr : routerOf (count (inputTaken c i.val (toCycle n.toNat s)) (ctrCore c.val 0) 1) d = routerOf (toCycle n.toNat s) d :=
      routerOf_setRouter_other _ _ _ _ (Ne.symm hd)
    rw [hr, toCycle_router]

/-! ### Queues -/

/-- The oldest flit of a queue is gone. -/
def queueTaken (q : Nat) (x : Core) : Core := setInj x q { injOf x q with flits := (injOf x q).flits.drop 1 }

theorem enterN_idle {s : State} {core : CoreId} {q : Nat} (k : Nat) {x : Core} (h : (injOf x q).plans = []) : enterN s core q k x = x := by
  induction k with
  | zero => rfl
  | succ k ih =>
    have hone : enterOne s core x q = x := by
      unfold enterOne
      dsimp only
      rw [h]
    rw [enterN, hone, ih]

theorem injOf_queueTaken (q k : Nat) (x : Core) : injOf (queueTaken q x) k
    = if q = k then { injOf x q with flits := (injOf x q).flits.drop 1 } else injOf x k := by
  unfold queueTaken injOf setInj
  by_cases h : q = k
  · rw [if_pos h, ← h]
    exact tget_tset_same ..
  · rw [if_neg h]
    exact tget_tset_other _ _ _ _ _ h

/-- A queue with no flit on its way gives its oldest, and nothing takes its place. -/
theorem takeFlit_queue {q : Nat} (hp : (injOf (coreOf s c) q).plans = []) :
    ∃ v, takeFlit c 0 (some q) s = v ∧ (∀ d, coreOf v d = if c = d then queueTaken q (coreOf s c) else coreOf s d)
      ∧ v.routers = s.routers ∧ SameMap s v ∧ v.shoreOut = s.shoreOut ∧ v.counters = s.counters ∧ v.log = s.log ∧ v.dev = s.dev := by
  have hcore : ∀ d, coreOf (takeFlit c 0 (some q) s) d = if c = d then queueTaken q (coreOf s c) else coreOf s d := by
    intro d
    have hplans : (injOf (coreOf (modCore s c fun x => queueTaken q x) c) q).plans = [] := by
      rw [coreOf_modCore_same, injOf_queueTaken, if_pos rfl]
      exact hp
    have hrefill : takeFlit c 0 (some q) s = setCore (modCore s c fun x => queueTaken q x) c
        (coreOf (modCore s c fun x => queueTaken q x) c) := by
      refine Eq.trans (b := refill c q (modCore s c fun x => queueTaken q x)) rfl ?_
      unfold refill
      rw [enterN_idle 8 hplans]
    rw [hrefill]
    by_cases h : c = d
    · rw [if_pos h, ← h, coreOf_setCore_same, coreOf_modCore_same]
    · rw [if_neg h, coreOf_setCore_other _ _ _ _ h, coreOf_modCore_other _ _ _ _ h]
  refine ⟨_, rfl, hcore, rfl, ⟨rfl, rfl, rfl, rfl, rfl, fun _ => rfl, fun d => ?_⟩, rfl, rfl, rfl, rfl⟩
  rw [hcore]
  split
  case isTrue h => rw [← h]; rfl
  case isFalse => rfl

theorem queue_forwards {q : Nat} (hq : q = reQueue e) (hdev : s.dev = .daylight) (hn : 512 ≤ n.toNat)
    (hopen : ¬ (enters c 0 = true ∧ s.clock.phase = .dusk)) (he : entryFor s c 0 (n.toNat - 512) = some e)
    (hf : (injOf (coreOf s c) q).flits.head? = some f) (hp : (injOf (coreOf s c) q).plans = []) (hgate : (coreOf s c).isolated = false) :
    ∃ t, exec (.flitAtRouter c 0 n .ok) s = .next t ∧ (injOf (coreOf t c) q).flits = (injOf (coreOf s c) q).flits.drop 1
      ∧ (∀ k, k ≠ q → injOf (coreOf t c) k = injOf (coreOf s c) k) ∧ forwarded c e f 0 s (toCycle n.toNat s) t := by
  have hinj : (coreOf (toCycle n.toNat s) c).inj = (coreOf s c).inj := by rw [toCycle_core]
  have hqueue : ∀ k, injOf (coreOf (toCycle n.toNat s) c) k = injOf (coreOf s c) k := fun k => by
    unfold injOf
    rw [hinj]
  obtain ⟨v, htake, hcore, hrouters, hmap, hshore, hcount, hlog, -⟩ := takeFlit_queue (s := toCycle n.toNat s) (c := c) (q := q)
    (by rw [hqueue, hp])
  have hrun : scheduledFlit c 0 n.toNat .ok (toCycle n.toNat s) = ((List.range 5).filter (reOut e)).foldl (sendCopy c f) v := by
    have hat : flitAt (toCycle n.toNat s) c 0 (some q) = some f := by
      refine (if_pos rfl).trans ?_
      dsimp only
      rw [hqueue, hf]
    have hpass := scheduledFlit_passes (s := s) (c := c) (i := 0) (n := n) hn hopen ((if_pos rfl).trans (congrArg some hq.symm)) he hat
    refine hpass.trans ?_
    unfold passFlit
    dsimp only
    have hopenGate : (coreOf v c).isolated = false := by rw [hmap.cores, toCycle_core, hgate]
    rw [show takeFlit c (0 : Fin 5).val (some q) (toCycle n.toNat s) = v from htake, if_neg (by rw [hopenGate]; simp)]
    rfl
  have hcopies := sendCopies c f ((List.range 5).filter (reOut e)) v
  have hkept : ∀ k, injOf (coreOf (((List.range 5).filter (reOut e)).foldl (sendCopy c f) v) c) k
      = if q = k then { injOf (coreOf s c) q with flits := (injOf (coreOf s c) q).flits.drop 1 } else injOf (coreOf s c) k := by
    intro k
    unfold injOf
    rw [hcopies.queues, hcore, if_pos rfl]
    refine (injOf_queueTaken q k _).trans ?_
    rw [hqueue, hqueue]
    rfl
  refine ⟨_, by rw [flitAtRouter_daylight hdev]; exact congrArg Host.Outcome.next hrun, ?_, fun k hk => ?_,
    hcopies.forwarded rfl hmap (fun d j _ => ?_) ?_ (fun d => ?_) ?_ hlog⟩
  · rw [hkept, if_pos rfl]
  · rw [hkept, if_neg (Ne.symm hk)]
  · have hr : routerOf v d = routerOf (toCycle n.toNat s) d := congrArg (tget Router.reset · d.val) hrouters
    rw [hr, toCycle_router]
  · exact hshore.trans (congrArg State.shoreOut (toCycle_rest n.toNat s) :)
  · rw [hcore]
    split
    case isTrue h =>
      rw [← h]
      refine Eq.trans (b := (coreOf (toCycle n.toNat s) c).inbox) rfl ?_
      rw [toCycle_core]
    case isFalse => rw [toCycle_core]
  · exact hcount.trans (congrArg State.counters (toCycle_rest n.toNat s) :)

theorem queue_waits (hdev : s.dev = .daylight) (hn : 512 ≤ n.toNat)
    (hopen : ¬ (enters c 0 = true ∧ s.clock.phase = .dusk))
    (he : entryFor s c 0 (n.toNat - 512) = none ∨ (entryFor s c 0 (n.toNat - 512) = some e ∧ (injOf (coreOf s c) (reQueue e)).flits = [])) :
    exec (.flitAtRouter c 0 n .ok) s = .next (toCycle n.toNat s) := by
  have hinj : (coreOf (toCycle n.toNat s) c).inj = (coreOf s c).inj := by rw [toCycle_core]
  rw [flitAtRouter_daylight hdev]
  rcases he with he | ⟨he, hempty⟩
  · exact congrArg Host.Outcome.next ((scheduledFlit_unnamed (s := s) (c := c) (i := 0) (n := n) hn hopen he).trans (if_neg fun h => h.1 rfl))
  · have hat : flitAt (toCycle n.toNat s) c (0 : Fin 5).val (some (reQueue e)) = none := by
      refine (if_pos rfl).trans ?_
      dsimp only
      unfold injOf at hempty ⊢
      rw [hinj, hempty]
      rfl
    exact congrArg Host.Outcome.next (scheduledFlit_waits (s := s) (c := c) (i := 0) (n := n) hn hopen (if_pos rfl) he hat)

end

end Sys2Proof.Machine

/-!
SUPPORT. One flit at a router in Twilight (R57, R80, R81), and what settles the statement about routers.
-/
namespace Sys2Proof.Machine
open Sys2Proof Sys2Proof.Safety

/-! ### Where a flit goes -/

/-- From `s` to `t` what resolves a destination stands. -/
def SamePlan (s t : State) : Prop :=
  t.cells = s.cells ∧ t.regions = s.regions ∧ t.badReplicas = s.badReplicas ∧ t.deviceId = s.deviceId

theorem SameMap.plan {s t : State} (h : SameMap s t) : SamePlan s t := ⟨h.cells, h.regions, h.replicas, h.device⟩

theorem toCycle_plan (n : Nat) (s : State) : SamePlan s (toCycle n s) :=
  ⟨toCycle_cells n s, toCycle_regions n s, (congrArg State.badReplicas (toCycle_rest n s) :), (congrArg State.deviceId (toCycle_rest n s) :)⟩

theorem SamePlan.trans {s t u : State} (a : SamePlan s t) (b : SamePlan t u) : SamePlan s u :=
  ⟨b.1.trans a.1, b.2.1.trans a.2.1, b.2.2.1.trans a.2.2.1, b.2.2.2.trans a.2.2.2⟩

section
variable {s t : State} {c : CoreId} {f : Flit}

theorem SamePlan.dests (h : SamePlan s t) : twilightDests t c f = twilightDests s c f := by
  obtain ⟨hcells, -, hreplicas, hdevice⟩ := h
  unfold twilightDests replicaEntry shoreBound cellEntry
  rw [hcells, hreplicas, hdevice]

theorem SamePlan.port (h : SamePlan s t) (d : CoreId) : twilightPort t c f d = twilightPort s c f d := by
  obtain ⟨hcells, hregions, -, hdevice⟩ := h
  unfold twilightPort shoreBound shoreOf cellEntry Machine.regionOf cellsOver regOf
  rw [hcells, hregions, hdevice]

theorem SamePlan.via (h : SamePlan s t) (o : Nat) : destsVia t c f o = destsVia s c f o := by
  unfold destsVia
  rw [h.dests]
  congr 1
  funext d
  rw [h.port]

theorem SamePlan.beside (h : SamePlan s t) (o : Nat) : destsBeside t c f o = destsBeside s c f o := by
  unfold destsBeside
  rw [h.dests]
  congr 1
  funext d
  rw [h.port]

/-! ### The copy that leaves -/

/-- From `s` to `w` nothing has changed that a copy out of router `c` meets. -/
structure Meets (c : CoreId) (s w : State) : Prop where
  plan : SamePlan s w
  sends : ∀ k, sends w c k = sends s c k
  gate : (coreOf w c).isolated = (coreOf s c).isolated
  inputs : ∀ d : CoreId, d ≠ c → ∀ j, tget [] (routerOf w d).inputs j = tget [] (routerOf s d).inputs j
  shore : w.shoreOut = s.shoreOut
  inbox : ∀ d : CoreId, (coreOf w d).inbox = (coreOf s d).inbox

theorem Meets.trans {t u : State} (a : Meets c s t) (b : Meets c t u) : Meets c s u :=
  ⟨a.plan.trans b.plan, fun k => (b.sends k).trans (a.sends k), b.gate.trans a.gate,
    fun d hd j => (b.inputs d hd j).trans (a.inputs d hd j), b.shore.trans a.shore, fun d => (b.inbox d).trans (a.inbox d)⟩

theorem Meets.hasRoom {w : State} (h : Meets c s w) (o : Nat) : hasRoom w c o = hasRoom s c o := by
  unfold Machine.hasRoom
  cases hhop : hop c o with
  | router d i => dsimp only; rw [h.inputs d (hop_ne_self hhop)]
  | landing => rfl
  | shore p => rfl
  | nothing => rfl

theorem setOldest_meets {w : State} (h : Meets c s w) (i : Nat) (g : Option Flit) : Meets c s (setOldest c i g w) := by
  have hmap : SameMap w (setOldest c i g w) := setInputs_map ..
  refine ⟨h.plan.trans hmap.plan, fun k => (hmap.sends c k).trans (h.sends k), (hmap.cores c).trans h.gate, fun d hd j => ?_, h.shore, h.inbox⟩
  refine Eq.trans ?_ (h.inputs d hd j)
  exact (inputs_setRouter ..).trans (if_neg fun hh => hd hh.1.symm)

/-- A copy that a port lets out has left through it. -/
theorem Copies.left {w t : State} {o : Nat} (h : Meets c s w) (hs : Machine.sends s c o = true) (hcopies : Copies c f [o] w t) :
    leftThrough c f s t o := by
  have hone : ∀ P : Nat → Prop, [DecidablePred P] → P o → [o].filter (fun k => Machine.sends w c k && decide (P k)) = [o] := fun P _ hp => by
    rw [List.filter_singleton, h.sends, hs, decide_eq_true hp]
    rfl
  unfold leftThrough
  cases hhop : hop c o with
  | landing =>
    intro hopen
    have hbox := hcopies.inbox c
    rw [hone (fun k => hop c k = .landing ∧ c = c ∧ (coreOf w c).isolated = false) ⟨hhop, rfl, h.gate.trans hopen⟩, h.inbox] at hbox
    exact hbox
  | router d j =>
    dsimp only
    rw [hcopies.inputs, hone (fun k => hop c k = .router d j) hhop, h.inputs d (hop_ne_self hhop)]
    rfl
  | shore p =>
    dsimp only
    rw [hcopies.shore, hone (fun k => hop c k = .shore p) hhop, h.shore]
    rfl
  | nothing => trivial

/-- What a router's oldest flit at an input leaves by an output, and what stays. -/
theorem twilightCopy_sends {w : State} {i o : Nat} (h : Meets c s w)
    (hgoes : (routerOf s c).badPorts.getLsbD o = false ∧ bordered s c o = false) :
    let t := twilightCopy c i o .ok f w
    leftThrough c { f with dest := some (destsVia s c f o) } s t o
      ∧ (destsBeside s c f o = [] → tget [] (routerOf t c).inputs i = (tget [] (routerOf w c).inputs i).drop 1)
      ∧ (destsBeside s c f o ≠ [] → tget [] (routerOf t c).inputs i
        = { f with dest := some (destsBeside s c f o) } :: (tget [] (routerOf w c).inputs i).drop 1) := by
  have hs : Machine.sends s c o = true := by
    unfold Machine.sends bit
    rw [hgoes.1, hgoes.2]
    rfl
  have hrun : twilightCopy c i o .ok f w = sendCopy c { f with dest := some (destsVia s c f o) }
      (setOldest c i (if destsBeside s c f o = [] then none else some { f with dest := some (destsBeside s c f o) }) w) o := by
    unfold twilightCopy
    dsimp only
    rw [h.plan.via, h.plan.beside]
    rfl
  have hat : ∀ g : Option Flit, tget [] (routerOf (sendCopy c { f with dest := some (destsVia s c f o) } (setOldest c i g w) o) c).inputs i
      = g.toList ++ (tget [] (routerOf w c).inputs i).drop 1 := fun g => by
    have hnone : [o].filter (fun k => Machine.sends (setOldest c i g w) c k && decide (hop c k = .router c i)) = [] := by
      rw [List.filter_eq_nil_iff]
      intro k _ hh
      rw [Bool.and_eq_true, decide_eq_true_eq] at hh
      exact hop_ne_self hh.2 rfl
    rw [(sendCopy_copies ..).inputs, hnone]
    refine (List.append_nil _).trans ?_
    exact (inputs_setRouter ..).trans (if_pos ⟨rfl, rfl⟩)
  dsimp only
  rw [hrun]
  refine ⟨(sendCopy_copies ..).left (setOldest_meets h ..) hs, fun hb => ?_, fun hb => ?_⟩
  · rw [if_pos hb, hat]
    rfl
  · rw [if_neg hb, hat]
    rfl

end

/-! ### A router at one cycle -/

section
variable {s : State} {c : CoreId} {f : Flit} {i : Fin 5} {n : BitVec 24} {o : Nat}

theorem flitAtRouter_twilight (hdev : s.dev = .twilight) :
    exec (.flitAtRouter c i n .ok) s = .next (twilightFlit c i.val n.toNat .ok (toCycle n.toNat s)) := by
  have hd : (toCycle n.toNat s).dev = .twilight := (pass_dev _ s).trans hdev
  change Host.Outcome.next (match (toCycle n.toNat s).dev with
    | .daylight => scheduledFlit c i.val n.toNat .ok (toCycle n.toNat s)
    | .twilight => twilightFlit c i.val n.toNat .ok (toCycle n.toNat s)
    | .midnight => toCycle n.toNat s) = _
  rw [hd]

/-- The output that an input is offered in a frame cycle (R80). -/
theorem servedBy_eq (ho : o < 5) (h : (o + n.toNat % 4 + 1) % 5 = i.val) : servedBy i.val n.toNat = o := by
  unfold servedBy
  omega

/-- An output serves the oldest flit at the input. -/
theorem twilightFlit_serves (hawake : asleep s c = false) (ho : o < 5) (h : (o + n.toNat % 4 + 1) % 5 = i.val)
    {w : State} (hw : (if i.val = 0 then fillBuffer c 4 s else s) = w) (hf : (tget [] (routerOf w c).inputs i.val).head? = some f) :
    twilightFlit c i.val n.toNat .ok s = if destsVia w c f o = [] ∨ !hasRoom w c o then w else twilightCopy c i.val o .ok f w := by
  unfold twilightFlit
  dsimp only
  rw [hawake, if_neg Bool.false_ne_true, servedBy_eq ho h, hw, hf]

theorem twilightFlit_idle (hawake : asleep s c = false) {w : State} (hw : (if i.val = 0 then fillBuffer c 4 s else s) = w)
    (hempty : tget [] (routerOf w c).inputs i.val = []) : twilightFlit c i.val n.toNat .ok s = w := by
  unfold twilightFlit
  dsimp only
  rw [hawake, if_neg Bool.false_ne_true, hw, hempty]
  rfl

theorem toCycle_meets (c : CoreId) (k : Nat) (s : State) : Meets c s (toCycle k s) :=
  ⟨toCycle_plan k s, fun _ => toCycle_sends _, by rw [toCycle_core], fun d _ j => by rw [toCycle_router],
    (congrArg State.shoreOut (toCycle_rest k s) :), fun d => by rw [toCycle_core]⟩

/-- Input 1 to 4: the oldest flit leaves where it has to go, and stays for the positions beside. -/
theorem input_leaves (hi : i ≠ 0) (hf : (tget [] (routerOf s c).inputs i.val).head? = some f) (hdev : s.dev = .twilight)
    (hawake : asleep s c = false) (ho : o < 5) (h : (o + n.toNat % 4 + 1) % 5 = i.val) (hvia : destsVia s c f o ≠ [])
    (hroom : hasRoom s c o = true) (hgoes : (routerOf s c).badPorts.getLsbD o = false ∧ bordered s c o = false) :
    ∃ t, exec (.flitAtRouter c i n .ok) s = .next t ∧ leftThrough c { f with dest := some (destsVia s c f o) } s t o
      ∧ (destsBeside s c f o = [] → tget [] (routerOf t c).inputs i.val = (tget [] (routerOf s c).inputs i.val).drop 1)
      ∧ (destsBeside s c f o ≠ [] → tget [] (routerOf t c).inputs i.val
        = { f with dest := some (destsBeside s c f o) } :: (tget [] (routerOf s c).inputs i.val).drop 1) := by
  have hmeets := toCycle_meets c n.toNat s
  have hserves := (twilightFlit_serves (f := f) (s := toCycle n.toNat s) (c := c) (i := i) (w := toCycle n.toNat s)
    (toCycle_asleep.trans hawake) ho h (if_neg fun h => hi (Fin.ext h))) (by rw [toCycle_router]; exact hf)
  rw [if_neg (by rw [hmeets.plan.via, hmeets.hasRoom, hroom]; simp [hvia])] at hserves
  have hcopy := twilightCopy_sends (f := f) (i := i.val) hmeets hgoes
  rw [toCycle_router] at hcopy
  exact ⟨_, by rw [flitAtRouter_twilight hdev, hserves], hcopy⟩

/-! ### Input 0 -/

theorem twilightQueue_none {x : Core} (h : ∀ k, (injOf x k).flits = []) : twilightQueue x = none := by
  have hfirst : ((List.range 16).find? fun q => match (injOf x q).flits.head? with | some f => decide (f.index ≠ 0) | none => false) = none := by
    rw [List.find?_eq_none]
    intro k _
    rw [h k]
    exact Bool.false_ne_true
  have hsecond : ((List.range 16).find? fun q => decide ((injOf x q).flits ≠ [])) = none := by
    rw [List.find?_eq_none]
    intro k _
    simp [h k]
  have hcases : twilightQueue x = match ((List.range 16).find? fun q => match (injOf x q).flits.head? with
      | some f => decide (f.index ≠ 0) | none => false) with
    | some q => some q
    | none => (List.range 16).find? fun q => decide ((injOf x q).flits ≠ []) := rfl
  rw [hcases, hfirst, hsecond]

theorem find_range_one {p : Nat → Bool} {q : Nat} (hq : q < 16) (hp : p q = true) (hother : ∀ k, k ≠ q → p k = false) :
    (List.range 16).find? p = some q := by
  rw [List.find?_range_eq_some]
  exact ⟨hp, List.mem_range.mpr hq, fun j hj => by rw [hother j (Nat.ne_of_lt hj)]; rfl⟩

theorem twilightQueue_one {x : Core} {q : Nat} (hq : q < 16) (hf : (injOf x q).flits = [f])
    (hother : ∀ k, k ≠ q → (injOf x k).flits = []) : twilightQueue x = some q := by
  have hsecond : ((List.range 16).find? fun q => decide ((injOf x q).flits ≠ [])) = some q :=
    find_range_one hq (by rw [hf]; rfl) fun k hk => by rw [hother k hk]; rfl
  have hcases : twilightQueue x = match ((List.range 16).find? fun q => match (injOf x q).flits.head? with
      | some f => decide (f.index ≠ 0) | none => false) with
    | some q => some q
    | none => (List.range 16).find? fun q => decide ((injOf x q).flits ≠ []) := rfl
  rw [hcases, hsecond]
  by_cases hindex : f.index = 0
  · have hfirst : ((List.range 16).find? fun q => match (injOf x q).flits.head? with
        | some f => decide (f.index ≠ 0) | none => false) = none := by
      rw [List.find?_eq_none]
      intro k _
      by_cases hk : k = q
      · rw [hk, hf]
        simp [hindex]
      · rw [hother k hk]
        exact Bool.false_ne_true
    rw [hfirst]
  · have hfirst : ((List.range 16).find? fun q => match (injOf x q).flits.head? with
        | some f => decide (f.index ≠ 0) | none => false) = some q :=
      find_range_one hq (by rw [hf]; exact decide_eq_true hindex) fun k hk => by rw [hother k hk]; rfl
    rw [hfirst]

theorem enterBuffer_idle {w : State} (h : ∀ k, (injOf (coreOf w c) k).flits = []) : enterBuffer c w = w := by
  unfold enterBuffer
  dsimp only
  rw [twilightQueue_none h]
  rfl

theorem fillBuffer_idle {w : State} (h : ∀ k, (injOf (coreOf w c) k).flits = []) (k : Nat) : fillBuffer c k w = w := by
  induction k with
  | zero => rfl
  | succ k ih =>
    rw [fillBuffer, enterBuffer_idle h, ih]
    exact ite_self _

/-- The one flit of a core's queues enters the empty buffer of input 0. -/
theorem fillBuffer_one {q : Nat} (hphase : s.clock.phase = .noon) (hempty : tget [] (routerOf s c).inputs 0 = [])
    (hgate : (coreOf s c).isolated = false) (hq : q < 16) (hinj : (coreOf s c).inj = [(q, ⟨[f], []⟩)]) :
    ∃ w, fillBuffer c 4 s = w ∧ Meets c s w ∧ tget [] (routerOf w c).inputs 0 = [f] ∧ ∀ k, (injOf (coreOf w c) k).flits = [] := by
  have hone : injOf (coreOf s c) q = ⟨[f], []⟩ := by
    unfold injOf
    rw [hinj]
    simp [tget, tfind]
  have hother : ∀ k, k ≠ q → (injOf (coreOf s c) k).flits = [] := fun k hk => by
    unfold injOf
    rw [hinj]
    simp [tget, tfind, Ne.symm hk]
  obtain ⟨v, htake, hcore, hrouters, hmap, hshore, -, -, -⟩ := takeFlit_queue (s := s) (c := c) (q := q) (by rw [hone])
  have hempty' : tget [] (routerOf v c).inputs 0 = [] := by
    have hr : routerOf v c = routerOf s c := congrArg (tget Router.reset · c.val) hrouters
    rw [hr, hempty]
  have henter : enterBuffer c s = setRouter v c { routerOf v c with inputs := tset (routerOf v c).inputs 0 [f] } := by
    unfold enterBuffer
    dsimp only
    have hat : flitAt s c 0 (some q) = some f := by
      refine (if_pos rfl).trans ?_
      dsimp only
      rw [hone]
      rfl
    rw [twilightQueue_one hq (by rw [hone]) hother, hat, htake]
    dsimp only
    rw [hmap.cores, hgate, if_neg Bool.false_ne_true, hempty']
    rfl
  have hdrained : ∀ k, (injOf (coreOf v c) k).flits = [] := fun k => by
    rw [hcore, if_pos rfl, injOf_queueTaken]
    split
    · rw [hone]
      rfl
    case isFalse h => exact hother k (Ne.symm h)
  have hset : SameMap v (setRouter v c { routerOf v c with inputs := tset (routerOf v c).inputs 0 [f] }) := setInputs_map ..
  have hfill : fillBuffer c 4 s = enterBuffer c s := by
    rw [fillBuffer, if_neg (by rw [hphase, hempty]; simp), henter]
    exact fillBuffer_idle (w := setRouter v c { routerOf v c with inputs := tset (routerOf v c).inputs 0 [f] }) hdrained 3
  refine ⟨_, hfill.trans henter, ⟨(hmap.trans hset).plan, (hmap.trans hset).sends c, (hmap.trans hset).cores c, fun d hd j => ?_, hshore,
    fun d => ?_⟩, ?_, hdrained⟩
  · refine (inputs_setRouter ..).trans ((if_neg fun hh => hd hh.1.symm).trans ?_)
    exact congrArg (fun r : Tab Router => tget [] (tget Router.reset r d.val).inputs j) hrouters
  · refine Eq.trans (b := (coreOf v d).inbox) rfl ?_
    rw [hcore]
    split
    case isTrue h => rw [← h]; rfl
    case isFalse => rfl
  · exact (inputs_setRouter ..).trans (if_pos ⟨rfl, rfl⟩)

theorem fillBuffer_closed (k : Nat) (hphase : s.clock.phase ≠ .noon) : fillBuffer c k s = s := by
  cases k with
  | zero => rfl
  | succ k => exact if_pos (Or.inl hphase)

/-- Input 0: outside Noon nothing enters. -/
theorem buffer_closed (hdev : s.dev = .twilight) (hawake : asleep s c = false)
    (hempty : tget [] (routerOf s c).inputs 0 = []) (hphase : s.clock.phase ≠ .noon) :
    exec (.flitAtRouter c 0 n .ok) s = .next (toCycle n.toNat s) := by
  have hclosed : (toCycle n.toNat s).clock.phase ≠ .noon := by rw [toCycle_clock]; exact hphase
  have hidle := twilightFlit_idle (s := toCycle n.toNat s) (c := c) (i := 0) (n := n) (toCycle_asleep.trans hawake)
    ((if_pos rfl).trans (fillBuffer_closed 4 hclosed)) (by rw [toCycle_router]; exact hempty)
  rw [flitAtRouter_twilight hdev, hidle]

/-- Input 0 in Noon: the flit of the queues enters the buffer, and goes on from there. -/
theorem buffer_leaves {q : Nat} (hdev : s.dev = .twilight) (hawake : asleep s c = false) (ho : o < 5)
    (h : (o + n.toNat % 4 + 1) % 5 = 0) (hempty : tget [] (routerOf s c).inputs 0 = []) (hgate : (coreOf s c).isolated = false)
    (hinj : (coreOf s c).inj = [(q, ⟨[f], []⟩)]) (hq : q < 16) (hphase : s.clock.phase = .noon) :
    ∃ t, exec (.flitAtRouter c 0 n .ok) s = .next t ∧ (injOf (coreOf t c) q).flits = []
      ∧ (destsVia s c f o = [] → tget [] (routerOf t c).inputs 0 = [f])
      ∧ (destsVia s c f o ≠ [] → hasRoom s c o = true →
        (routerOf s c).badPorts.getLsbD o = false ∧ bordered s c o = false →
        leftThrough c { f with dest := some (destsVia s c f o) } s t o
          ∧ (destsBeside s c f o = [] → tget [] (routerOf t c).inputs 0 = [])
          ∧ (destsBeside s c f o ≠ [] → tget [] (routerOf t c).inputs 0 = [{ f with dest := some (destsBeside s c f o) }])) := by
  have hcycle := toCycle_meets c n.toNat s
  have hcore := toCycle_core n.toNat s c
  obtain ⟨w, hfill, hmeets, hat, hdrained⟩ := fillBuffer_one (s := toCycle n.toNat s) (c := c) (f := f) (q := q)
    (by rw [toCycle_clock]; exact hphase) (by rw [toCycle_router]; exact hempty) (by rw [hcore]; exact hgate) hq
    (by rw [hcore]; exact hinj)
  have hall := hcycle.trans hmeets
  have hserves := twilightFlit_serves (s := toCycle n.toNat s) (c := c) (i := 0) (f := f)
    (toCycle_asleep.trans hawake) ho h ((if_pos rfl).trans hfill) (by rw [show ((0 : Fin 5) : ℕ) = 0 from rfl, hat]; rfl)
  rw [hall.plan.via, hall.hasRoom] at hserves
  have hcopies := sendCopy_copies c { f with dest := some (destsVia w c f o) }
    (setOldest c 0 (if destsBeside w c f o = [] then none else some { f with dest := some (destsBeside w c f o) }) w) o
  have hcopied : ∀ k, (injOf (coreOf (twilightCopy c 0 o .ok f w) c) k).flits = [] := fun k => by
    refine Eq.trans ?_ (hdrained k)
    exact congrArg (fun t : Tab InjQ => (tget ⟨[], []⟩ t k).flits) (hcopies.queues c)
  refine ⟨_, by rw [flitAtRouter_twilight hdev, hserves], ?_, fun hvia => ?_, fun hvia hroom hgoes => ?_⟩
  · exact ite_ok (P := fun t => (injOf (coreOf t c) q).flits = []) (hdrained q) (hcopied q)
  · rw [if_pos (Or.inl hvia), hat]
  · rw [if_neg (by simp [hvia, hroom])]
    have hcopy := twilightCopy_sends (f := f) (i := 0) hall hgoes
    rw [hat] at hcopy
    exact hcopy

end

/-- Settles O39: in Daylight the copies of an entry's flit, port by port; in Twilight the one copy of the oldest flit, with the
buffer of input 0 filled from the queues in Noon. -/
theorem routersForwardFlits : Obligations.RoutersForwardFlits := by
  unfold Obligations.RoutersForwardFlits
  intro c i n f e s
  refine ⟨fun hi hf ⟨hdev, hn, hopen⟩ => ⟨input_forwards hi hf hdev hn hopen, input_drops hi hf hdev hn hopen⟩,
    fun hi ⟨hdev, hn, hopen⟩ => ?_, fun o hdev hawake ho h => ⟨fun hi hf hvia hgoes => ?_, fun hi hempty hgate hinj hq => ?_⟩⟩
  · subst hi
    exact ⟨fun he hf hp hgate => queue_forwards rfl hdev hn hopen he hf hp hgate, queue_waits hdev hn hopen⟩
  · obtain ⟨hroom, hmask, hborder⟩ := hgoes
    exact input_leaves hi hf hdev hawake ho h hvia hroom ⟨hmask, hborder⟩
  · subst hi
    refine ⟨buffer_closed hdev hawake hempty, fun hphase => ?_⟩
    obtain ⟨t, ht, hq, hnone, hleaves⟩ := buffer_leaves hdev hawake ho h hempty hgate hinj hq hphase
    exact ⟨t, ht, hq, hnone, fun hvia ⟨hroom, hmask, hborder⟩ => hleaves hvia hroom ⟨hmask, hborder⟩⟩

end Sys2Proof.Machine

/-!
SUPPORT. Shore slots (R71, R260, R261, R376, R379): what a slot carries in, and what the E-die takes out.
-/
namespace Sys2Proof.Machine
open Sys2Proof Sys2Proof.Safety

/-! ### The cycle of a slot -/

section
variable {s : State} {n : Nat} {p : ShoreId}

theorem toCycle_isSlot (dir : SlotDir) (off : Nat) : isSlot (toCycle n s) p dir off = isSlot s p dir off := by
  unfold isSlot
  simp only [toCycle_regionOf, toCycle_regOf, toCycle_asleep, toCycle_router]

theorem toCycle_replica (unit i : Nat) : replicaEntry (toCycle n s) unit i = replicaEntry s unit i := by
  obtain ⟨hcells, -, hreplicas, -⟩ := toCycle_plan n s
  unfold replicaEntry cellEntry
  rw [hcells, hreplicas]

theorem toCycle_shoreOf (c : CoreId) : shoreOf (toCycle n s) c = shoreOf s c := by
  unfold shoreOf cellEntry
  simp only [toCycle_regionOf, toCycle_regOf, toCycle_cells]

theorem toCycle_messageFor (k : PortId) (hd : Header) : messageFor (toCycle n s) k hd = messageFor s k hd := by
  unfold messageFor
  simp only [toCycle_replica, toCycle_regionOf]

/-- A replay is judged by the port, the cell tables and the map: as functions of the state, so that nothing is evaluated. -/
theorem replayedAt_congr {t : State} {k : PortId} (hport : portAt t k = portAt s k) (hmessage : messageFor t k = messageFor s k)
    (hreg : regOf t = regOf s) (hdevice : t.deviceId = s.deviceId) (hreplica : replicaEntry t = replicaEntry s)
    (hshore : shoreOf t = shoreOf s) : replayedAt t p k = replayedAt s p k := by
  unfold replayedAt
  rw [hport, hmessage, hreg, hdevice, hreplica, hshore]

theorem toCycle_replayedAt (k : PortId) : replayedAt (toCycle n s) p k = replayedAt s p k := by
  have hports : (toCycle n s).ports = s.ports := (congrArg State.ports (toCycle_rest n s) :)
  obtain ⟨-, -, -, hdevice⟩ := toCycle_plan n s
  exact replayedAt_congr (congrArg (tget LinkPort.reset · k.val) hports) (funext fun hd => toCycle_messageFor k hd)
    (funext fun r => toCycle_regOf n s r) hdevice (funext fun u => funext fun i => toCycle_replica u i) (funext fun c => toCycle_shoreOf c)

theorem toCycle_dayNo : (toCycle n s).clock.dayNo = s.clock.dayNo := by rw [toCycle_clock]

theorem windowLive_congr {t : State} (h : t.clock.dayNo = s.clock.dayNo) (off : Nat) : windowLive t off = windowLive s off := by
  funext w
  unfold windowLive
  rw [h]

theorem toCycle_slotOwner (dir : SlotDir) (off : Nat) : slotOwner (toCycle n s) p dir off = slotOwner s p dir off := by
  have hengines : (toCycle n s).engines = s.engines := (congrArg State.engines (toCycle_rest n s) :)
  unfold slotOwner allRuns
  rw [hengines, windowLive_congr toCycle_dayNo]

theorem toCycle_nextFlit (r : StreamRun) : nextFlit (toCycle n s) r p = nextFlit s r p :=
  (congrArg (fun t => nextFlit t r p) (toCycle_rest n s) :)

theorem toCycle_stagedNext (r : StreamRun) : stagedNext (toCycle n s) r p = stagedNext s r p := by
  unfold stagedNext
  rw [toCycle_nextFlit]

theorem toCycle_streamFlit (r : StreamRun) (i : Nat) (ws : List PWord) : streamFlit (toCycle n s) r i ws = streamFlit s r i ws :=
  (congrArg (fun t => streamFlit t r i ws) (toCycle_rest n s) :)

/-! ### A flit enters the mesh -/

/-- The input of its router through which a shore port's flits enter. -/
def shoreInput (p : ShoreId) : Nat := if p.val < 128 then 1 else 3

theorem enterMesh_enters (p : ShoreId) (f : Flit) (s : State) : tget [] (routerOf (enterMesh p f s) (shoreCore p)).inputs (shoreInput p)
    = tget [] (routerOf s (shoreCore p)).inputs (shoreInput p) ++ [f] :=
  (inputs_setRouter ..).trans (if_pos ⟨rfl, rfl⟩)

/-! ### Inbound -/

theorem shoreSlot_inbound {n : BitVec 24} (hdev : s.dev = .daylight) (hphase : s.clock.phase = .noon) (hn : 512 ≤ n.toNat)
    (hslot : isSlot s p .inbound (n.toNat - 512) = true) :
    exec (.shoreSlot p .inbound n) s = .next (inboundSlot p (n.toNat - 512) (toCycle n.toNat s)) := by
  have hd : (toCycle n.toNat s).dev = .daylight := (pass_dev _ s).trans hdev
  have hph : (toCycle n.toNat s).clock.phase = .noon := by rw [toCycle_clock]; exact hphase
  change Host.Outcome.next (if (toCycle n.toNat s).clock.phase ≠ .noon ∨ n.toNat < 512 then toCycle n.toNat s
    else match (toCycle n.toNat s).dev with
      | .daylight => if isSlot (toCycle n.toNat s) p .inbound (n.toNat - 512) then inboundSlot p (n.toNat - 512) (toCycle n.toNat s)
        else toCycle n.toNat s
      | .twilight => inboundTwilight p (toCycle n.toNat s)
      | .midnight => toCycle n.toNat s) = _
  rw [if_neg (fun h => h.elim (fun hne => hne hph) (fun hlt => by omega)), hd]
  dsimp only
  rw [toCycle_isSlot, if_pos hslot]

/-- A slot that no stream owns and no replay claims carries what waits. -/
theorem inboundSlot_unowned {off : Nat} (hengines : s.engines = []) (hdead : tget [] s.deadSlots p.val = [])
    (hreplay : ∀ k, replayedAt s p k = false) : inboundSlot p off s = sendOffer p s := by
  have howner : slotOwner s p .inbound off = none := by
    unfold slotOwner allRuns
    rw [hengines]
    rfl
  have hnot : deadSlot s p off = false := by
    unfold deadSlot
    rw [hdead]
    rfl
  have hfind : ((List.range 16).find? fun k => decide (tget [] s.shoreTc0 p.val = []) && replayedAt s p (Fin.ofNat 16 k)) = none := by
    rw [List.find?_eq_none]
    intro k _
    rw [hreplay, Bool.and_false]
    exact Bool.false_ne_true
  unfold inboundSlot
  rw [howner]
  dsimp only
  rw [hnot, if_neg Bool.false_ne_true, hfind]

theorem sendOffer_tc0 {f : Flit} {l : List Flit} (h : tget [] s.shoreTc0 p.val = f :: l) :
    sendOffer p s = enterMesh p f { s with shoreTc0 := tset s.shoreTc0 p.val l } := by
  unfold sendOffer
  rw [h]

theorem sendOffer_message {f : Flit} {l : List Flit} (hengines : s.engines = []) (htc0 : tget [] s.shoreTc0 p.val = [])
    (h : tget [] s.shoreIn p.val = f :: l) : sendOffer p s = enterMesh p f { s with shoreIn := tset s.shoreIn p.val l } := by
  have hoffers : offers s p = [.message f] := by
    unfold offers allRuns
    rw [hengines, h]
    rfl
  unfold sendOffer
  rw [htc0, hoffers, h]
  rfl

section
variable {port : ShoreId} {n : BitVec 24} {f : Flit} {l : List Flit}
    (hdev : s.dev = .daylight) (hphase : s.clock.phase = .noon) (hn : 512 ≤ n.toNat)
    (hslot : isSlot s port .inbound (n.toNat - 512) = true) (hengines : s.engines = []) (hdead : tget [] s.deadSlots port.val = [])
    (hreplay : ∀ k, replayedAt s port k = false)
include hdev hphase hn hslot hengines hdead hreplay

theorem slot_offers : exec (.shoreSlot port .inbound n) s = .next (sendOffer port (toCycle n.toNat s)) := by
  have he : (toCycle n.toNat s).engines = [] := (congrArg State.engines (toCycle_rest n.toNat s) :).trans hengines
  have hd : (toCycle n.toNat s).deadSlots = s.deadSlots := (congrArg State.deadSlots (toCycle_rest n.toNat s) :)
  rw [shoreSlot_inbound hdev hphase hn hslot, inboundSlot_unowned he (by rw [hd, hdead]) fun k => by rw [toCycle_replayedAt, hreplay]]

theorem slot_message (htc0 : tget [] s.shoreTc0 port.val = []) (hin : tget [] s.shoreIn port.val = f :: l) :
    ∃ t, exec (.shoreSlot port .inbound n) s = .next t ∧ tget [] t.shoreIn port.val = l
      ∧ tget [] (routerOf t (shoreCore port)).inputs (shoreInput port)
        = tget [] (routerOf s (shoreCore port)).inputs (shoreInput port) ++ [f] := by
  have he : (toCycle n.toNat s).engines = [] := (congrArg State.engines (toCycle_rest n.toNat s) :).trans hengines
  have ht : (toCycle n.toNat s).shoreTc0 = s.shoreTc0 := (congrArg State.shoreTc0 (toCycle_rest n.toNat s) :)
  have hi : (toCycle n.toNat s).shoreIn = s.shoreIn := (congrArg State.shoreIn (toCycle_rest n.toNat s) :)
  have hoffer := sendOffer_message he (by rw [ht, htc0]) (by rw [hi, hin] : tget [] (toCycle n.toNat s).shoreIn port.val = f :: l)
  refine ⟨_, slot_offers hdev hphase hn hslot hengines hdead hreplay, ?_, ?_⟩
  · rw [hoffer]
    exact tget_tset_same ..
  · rw [hoffer, enterMesh_enters]
    exact congrArg (· ++ [f]) (congrArg (fun x : Router => tget [] x.inputs (shoreInput port)) (toCycle_router (n := n.toNat) (s := s) (shoreCore port)))

theorem slot_tc0 (htc0 : tget [] s.shoreTc0 port.val = f :: l) :
    ∃ t, exec (.shoreSlot port .inbound n) s = .next t ∧ tget [] t.shoreTc0 port.val = l ∧ t.shoreIn = s.shoreIn
      ∧ tget [] (routerOf t (shoreCore port)).inputs (shoreInput port)
        = tget [] (routerOf s (shoreCore port)).inputs (shoreInput port) ++ [f] := by
  have ht : (toCycle n.toNat s).shoreTc0 = s.shoreTc0 := (congrArg State.shoreTc0 (toCycle_rest n.toNat s) :)
  have hoffer := sendOffer_tc0 (by rw [ht, htc0] : tget [] (toCycle n.toNat s).shoreTc0 port.val = f :: l)
  refine ⟨_, slot_offers hdev hphase hn hslot hengines hdead hreplay, ?_, ?_, ?_⟩
  · rw [hoffer]
    exact tget_tset_same ..
  · rw [hoffer]
    exact (congrArg State.shoreIn (toCycle_rest n.toNat s) :)
  · rw [hoffer, enterMesh_enters]
    exact congrArg (· ++ [f]) (congrArg (fun x : Router => tget [] x.inputs (shoreInput port)) (toCycle_router (n := n.toNat) (s := s) (shoreCore port)))

end

/-! ### Slots of streams -/

/-- The runs of an engine change, and nothing else of the state. -/
theorem modRun_engines (e : EngineId) (base : Nat) (g : StreamRun → StreamRun) (s : State) :
    modRun e base g s = { s with engines := (modRun e base g s).engines } := rfl

/-- A slot whose flit is not there, where the stream does not abort: a poisoned one goes in its place (R261). -/
theorem lateSlot_poisons {e : EngineId} {y : StreamRun} {k : Nat} (habort : dAbort y.cmd.desc = false)
    (hnext : nextFlit (count s (ctrRegion y.cmd.region.val 0) 1) y p = some k) :
    ∃ m x, lateSlot p e y s = enterMesh p (streamFlit (count s (ctrRegion y.cmd.region.val 0) 1) y k (List.replicate m ⟨0, true⟩))
      { count s (ctrRegion y.cmd.region.val 0) 1 with engines := x } := by
  unfold lateSlot
  dsimp only
  rw [habort, if_neg Bool.false_ne_true, hnext]
  exact ⟨_, _, rfl⟩

section
variable {port : ShoreId} {n : BitVec 24} {e : EngineId} {y : StreamRun} {k : Nat}
    (hdev : s.dev = .daylight) (hphase : s.clock.phase = .noon) (hn : 512 ≤ n.toNat)
    (hslot : isSlot s port .inbound (n.toNat - 512) = true)
    (howner : slotOwner s port .inbound (n.toNat - 512) = some (e, y)) (hnext : nextFlit s y port = some k)
include hdev hphase hn hslot howner hnext

theorem slot_staged {x : StagedFlit} (hx : stagedNext s y port = some x) :
    ∃ t, exec (.shoreSlot port .inbound n) s = .next t
      ∧ tget [] (routerOf t (shoreCore port)).inputs (shoreInput port)
        = tget [] (routerOf s (shoreCore port)).inputs (shoreInput port) ++ [streamFlit s y k x.words]
      ∧ t.counters = s.counters := by
  have hpos : x.position = k := by
    unfold stagedNext at hx
    rw [hnext] at hx
    dsimp only at hx
    have hfound := List.find?_some hx
    exact of_decide_eq_true hfound
  have hrun : inboundSlot port (n.toNat - 512) (toCycle n.toNat s) = sendStaged port e y x (toCycle n.toNat s) := by
    unfold inboundSlot
    rw [toCycle_slotOwner, howner]
    dsimp only
    rw [toCycle_stagedNext, hx]
  refine ⟨_, by rw [shoreSlot_inbound hdev hphase hn hslot, hrun], ?_, ?_⟩
  · unfold sendStaged
    rw [enterMesh_enters, toCycle_streamFlit, hpos, modRun_engines]
    exact congrArg (· ++ [streamFlit s y k x.words]) (congrArg (fun z : Router => tget [] z.inputs (shoreInput port)) (toCycle_router (n := n.toNat) (s := s) (shoreCore port)))
  · exact (congrArg State.counters (toCycle_rest n.toNat s) :)

theorem slot_late (hx : stagedNext s y port = none) (habort : dAbort y.cmd.desc = false) :
    ∃ t g, exec (.shoreSlot port .inbound n) s = .next t
      ∧ tget [] (routerOf t (shoreCore port)).inputs (shoreInput port)
        = tget [] (routerOf s (shoreCore port)).inputs (shoreInput port) ++ [g]
      ∧ g.mid = (streamFlit s y k []).mid ∧ g.index = (streamFlit s y k []).index ∧ (∀ w ∈ g.words, w = ⟨0, true⟩)
      ∧ tget 0 t.counters (ctrRegion y.cmd.region.val 0) = satAdd (tget 0 s.counters (ctrRegion y.cmd.region.val 0)) 1 := by
  have hnext' : nextFlit (count (toCycle n.toNat s) (ctrRegion y.cmd.region.val 0) 1) y port = some k :=
    (toCycle_nextFlit (n := n.toNat) (s := s) y).trans hnext
  have hrun : inboundSlot port (n.toNat - 512) (toCycle n.toNat s) = lateSlot port e y (toCycle n.toNat s) := by
    unfold inboundSlot
    rw [toCycle_slotOwner, howner]
    dsimp only
    rw [toCycle_stagedNext, hx]
  obtain ⟨m, x, hlate⟩ := lateSlot_poisons (e := e) habort hnext'
  have hin := enterMesh_enters port (streamFlit (count (toCycle n.toNat s) (ctrRegion y.cmd.region.val 0) 1) y k (List.replicate m ⟨0, true⟩))
    { count (toCycle n.toNat s) (ctrRegion y.cmd.region.val 0) 1 with engines := x }
  have hrouter : tget [] (routerOf (toCycle n.toNat s) (shoreCore port)).inputs (shoreInput port)
      = tget [] (routerOf s (shoreCore port)).inputs (shoreInput port) := by rw [toCycle_router]
  refine ⟨_, _, by rw [shoreSlot_inbound hdev hphase hn hslot, hrun, hlate], hin.trans (congrArg (· ++ _) hrouter), rfl, rfl,
    fun w hw => List.eq_of_mem_replicate hw, ?_⟩
  refine (tget_tset_same ..).trans ?_
  exact congrArg (fun t => satAdd (tget 0 t (ctrRegion y.cmd.region.val 0)) 1) (congrArg State.counters (toCycle_rest n.toNat s) :)

end

/-! ### Outbound -/

theorem outbound_dropped {n : BitVec 24} {f : Flit} {l : List Flit} (hout : tget [] s.shoreOut p.val = f :: l) (hf : f.outbound = none)
    (hd : hDevice f.header = s.deviceId.toNat) (hi : f.index = 0) :
    ∃ t, exec (.shoreSlot p .outbound n) s = .next t ∧ tget [] t.shoreOut p.val = l
      ∧ tget 0 t.counters (ctrEdie (edieOf p) 12) = satAdd (tget 0 s.counters (ctrEdie (edieOf p) 12)) 1 := by
  have ho : (toCycle n.toNat s).shoreOut = s.shoreOut := (congrArg State.shoreOut (toCycle_rest n.toNat s) :)
  have hid : (toCycle n.toNat s).deviceId = s.deviceId := (congrArg State.deviceId (toCycle_rest n.toNat s) :)
  have hc : (toCycle n.toNat s).counters = s.counters := (congrArg State.counters (toCycle_rest n.toNat s) :)
  have hrun : outboundSlot p (toCycle n.toNat s)
      = count { toCycle n.toNat s with shoreOut := tset s.shoreOut p.val l } (ctrEdie (edieOf p) 12) 1 := by
    unfold outboundSlot
    rw [ho, hout]
    dsimp only
    rw [hf]
    dsimp only
    rw [if_neg (by rw [hid]; exact fun h => h hd), if_pos hi]
  refine ⟨_, congrArg Host.Outcome.next hrun, tget_tset_same .., ?_⟩
  refine (tget_tset_same ..).trans ?_
  exact congrArg (fun t => satAdd (tget 0 t (ctrEdie (edieOf p) 12)) 1) hc

end

end Sys2Proof.Machine

/-!
SUPPORT. The spill caches (R276–R278, R461): pieces of lines that arrive, ways that leave, and what settles the statement about
the shore.
-/
namespace Sys2Proof.Machine
open Sys2Proof Sys2Proof.Safety

/-! ### A cache of a link -/

theorem spillOf_setSpill_same (s : State) (l : LinkId) (x : Spill) : spillOf (setSpill s l x) l = x := by
  unfold spillOf setSpill
  split
  · rfl
  · rfl

theorem spillOf_setSpill_other (s : State) {l m : LinkId} (x : Spill) (h : l ≠ m) : spillOf (setSpill s l x) m = spillOf s m := by
  unfold spillOf setSpill
  by_cases hm : m = 0
  · rw [if_pos hm, if_neg fun hl => h (hl.trans hm.symm), if_pos hm]
  · by_cases hl : l = 0
    · rw [if_neg hm, if_pos hl, if_neg hm]
    · have hlt := l.isLt
      have hmt := m.isLt
      exact absurd (Fin.ext (by have := Fin.val_ne_of_ne hl; have := Fin.val_ne_of_ne hm; simp only [Fin.val_zero] at *; omega)) h

/-- What stands of a cache when lines are lost: its ways, and its lines. -/
def cached (sp : Spill) : BitVec 16 × BitVec 16 × BitVec 16 × List SpillLine := (sp.power, sp.gated, sp.disabled, sp.lines)

theorem markLost_cached (link m : LinkId) (r : RegionId) (line : BitVec 36) (s : State) :
    cached (spillOf (markLost m r line s) link) = cached (spillOf s link) := by
  unfold markLost
  by_cases h : m = link
  · rw [h, spillOf_setSpill_same]
    rfl
  · rw [spillOf_setSpill_other _ _ h]

theorem lineOut_cached (link : LinkId) (l : SpillLine) (s : State) : cached (spillOf (lineOut l s) link) = cached (spillOf s link) := by
  unfold lineOut
  split
  · rfl
  · exact markLost_cached ..

/-- The cache without the lines that bear the name of `l`. -/
def without (l : SpillLine) (sp : BitVec 16 × BitVec 16 × BitVec 16 × List SpillLine) :
    BitVec 16 × BitVec 16 × BitVec 16 × List SpillLine :=
  (sp.1, sp.2.1, sp.2.2.1, sp.2.2.2.filter fun x => !isLine l.region l.line x)

theorem evict_cached (link : LinkId) (l : SpillLine) (s : State) :
    cached (spillOf (evict link l s) link) = without l (cached (spillOf s link)) := by
  have hset := spillOf_setSpill_same s link { spillOf s link with lines := (spillOf s link).lines.filter fun x => !isLine l.region l.line x }
  have hcached := congrArg cached hset
  exact ite_ok (P := fun t => cached (spillOf t link) = without l (cached (spillOf s link)))
    ((lineOut_cached link l _).trans hcached) hcached

theorem loseLine_cached (link : LinkId) (l : SpillLine) (s : State) :
    cached (spillOf (loseLine link l s) link) = without l (cached (spillOf s link)) := by
  have hset := spillOf_setSpill_same s link { spillOf s link with lines := (spillOf s link).lines.filter fun x => !isLine l.region l.line x }
  have hlost := (markLost_cached link link l.region l.line _).trans (congrArg cached hset)
  have hlog : ∀ e loc r c i (t : State), spillOf (logEdie e loc r c i t) link = spillOf t link := fun e loc r c i t => by
    unfold spillOf logEdie
    rw [logItem_spill0, logItem_spill1]
  unfold loseLine
  dsimp only
  rw [hlog]
  exact hlost

/-- Lines leave one after the other. -/
theorem leaves_cached (link : LinkId) (unreadable : List (BitVec 36)) (l : List SpillLine) (s : State) :
    cached (spillOf (l.foldl (fun s l => if l.dirty ∧ unreadable.contains l.line then loseLine link l s else evict link l s) s) link)
      = l.foldl (fun sp x => without x sp) (cached (spillOf s link)) := by
  induction l generalizing s with
  | nil => rfl
  | cons x l ih =>
    rw [List.foldl_cons, List.foldl_cons, ih]
    congr 1
    exact ite_ok (P := fun t => cached (spillOf t link) = without x (cached (spillOf s link))) (loseLine_cached ..) (evict_cached ..)

theorem foldl_without (l : List SpillLine) (sp : BitVec 16 × BitVec 16 × BitVec 16 × List SpillLine) :
    l.foldl (fun sp x => without x sp) sp
      = (sp.1, sp.2.1, sp.2.2.1, sp.2.2.2.filter fun x => l.all fun y => !isLine y.region y.line x) := by
  induction l generalizing sp with
  | nil => simp
  | cons y l ih =>
    rw [List.foldl_cons, ih]
    unfold without
    simp only [List.filter_filter, List.all_cons, Bool.and_comm]

/-- A way is emptied, and nothing else of the cache changes. -/
theorem cleanWay_cached (link : LinkId) (way : Nat) (unreadable : List (BitVec 36)) (s : State) :
    ∃ l, cached (spillOf (cleanWay link way unreadable s) link)
        = ((spillOf s link).power, (spillOf s link).gated, (spillOf s link).disabled, l)
      ∧ (∀ x ∈ l, x ∈ (spillOf s link).lines) ∧ ∀ x ∈ l, x.way.val ≠ way := by
  refine ⟨_, (leaves_cached link unreadable _ s).trans (foldl_without ..), fun x hx => List.mem_of_mem_filter hx, fun x hx hway => ?_⟩
  obtain ⟨hmem, hall⟩ := List.mem_filter.mp hx
  have hself := List.all_eq_true.mp hall x (List.mem_filter.mpr ⟨hmem, decide_eq_true hway⟩)
  unfold isLine at hself
  simp at hself

/-! ### Ways that fail or lose power -/

section
variable {s : State} {link : LinkId} {way : Fin 16} {lost : List (BitVec 36)}

theorem wayDisable_disables (h : lost ≠ [] ∨ wayFailed (spillOf s link) s.clock.now way = true) :
    ∃ t, exec (.spillWayDisable link way lost) s = .next t ∧ (spillOf t link).disabled.getLsbD way.val = true
      ∧ ∀ x ∈ (spillOf t link).lines, x.way ≠ way := by
  obtain ⟨l, hcached, -, hway⟩ := cleanWay_cached link way.val lost s
  have hlines : (spillOf (count (cleanWay link way.val lost s) (ctrEdie (ehDie link.val) 8) lost.length) link).lines = l :=
    congrArg (fun c => c.2.2.2) hcached
  refine ⟨_, congrArg Host.Outcome.next (if_neg ?_), ?_, ?_⟩
  · rintro ⟨hnone, hnot⟩
    rcases h with h | h
    · exact h hnone
    · rw [h] at hnot
      exact absurd hnot (by decide)
  · rw [spillOf_setSpill_same]
    have hbit : (BitVec.ofNat 16 (2 ^ way.val)).getLsbD way.val = true := by
      rw [BitVec.getLsbD_ofNat, Nat.testBit_two_pow_self, decide_eq_true way.isLt]
      rfl
    exact (BitVec.getLsbD_or ..).trans (by rw [hbit, Bool.or_true])
  · rw [spillOf_setSpill_same]
    intro x hx hw
    rw [hlines] at hx
    exact hway x hx (congrArg Fin.val hw)

theorem wayDisable_nothing (hl : lost = []) (hw : wayFailed (spillOf s link) s.clock.now way = false) :
    exec (.spillWayDisable link way lost) s = .next s :=
  congrArg Host.Outcome.next (if_pos ⟨hl, by rw [hw]; rfl⟩)

/-- The ways of a mask are gated, and no line stays in one. -/
theorem gateWays_gates (mask : BitVec 16) (s : State) : (spillOf (gateWays link mask s) link).power = (spillOf s link).power &&& ~~~mask
    ∧ ∀ x ∈ (spillOf (gateWays link mask s) link).lines, bit mask x.way.val = false := by
  have hfold : ∀ (ws : List Nat) (t : State), let u := ws.foldl (fun s w => if bit mask w then cleanWay link w [] s else s) t
      (spillOf u link).power = (spillOf t link).power ∧ (∀ x ∈ (spillOf u link).lines, x ∈ (spillOf t link).lines)
      ∧ ∀ x ∈ (spillOf u link).lines, x.way.val ∈ ws → bit mask x.way.val = false := by
    intro ws
    induction ws with
    | nil => exact fun t => ⟨rfl, fun _ h => h, fun _ _ h => absurd h List.not_mem_nil⟩
    | cons w ws ih =>
      intro t
      obtain ⟨l, hcached, hsub, hway⟩ := cleanWay_cached link w [] t
      dsimp only at ih ⊢
      rw [List.foldl_cons]
      cases hb : bit mask w with
      | true =>
        rw [if_pos rfl]
        obtain ⟨hpower, hmem, hgone⟩ := ih (cleanWay link w [] t)
        have hp : (spillOf (cleanWay link w [] t) link).power = (spillOf t link).power := congrArg Prod.fst hcached
        have hl : (spillOf (cleanWay link w [] t) link).lines = l := congrArg (fun c => c.2.2.2) hcached
        rw [hl] at hmem
        refine ⟨hpower.trans hp, fun x hx => hsub x (hmem x hx), fun x hx hw => ?_⟩
        rcases List.mem_cons.mp hw with hw | hw
        · exact absurd hw (hway x (hmem x hx))
        · exact hgone x hx hw
      | false =>
        rw [if_neg Bool.false_ne_true]
        obtain ⟨hpower, hmem, hgone⟩ := ih t
        refine ⟨hpower, hmem, fun x hx hw => ?_⟩
        rcases List.mem_cons.mp hw with hw | hw
        · rw [hw, hb]
        · exact hgone x hx hw
  obtain ⟨hpower, -, hgone⟩ := hfold (List.range 16)
    (setSpill s link { spillOf s link with power := (spillOf s link).power &&& ~~~mask })
  unfold gateWays
  dsimp only
  rw [spillOf_setSpill_same]
  refine ⟨hpower.trans ?_, fun x hx => hgone x hx (List.mem_range.mpr x.way.isLt)⟩
  rw [spillOf_setSpill_same]

theorem waysPower_powers {v : BitVec 64} (hc : commands s) :
    ∃ t, exec (.spillWaysPower link v) s = .next t ∧ (spillOf t link).power = v.setWidth 16
      ∧ ∀ x ∈ (spillOf t link).lines, (spillOf s link).power.getLsbD x.way.val = true → v.getLsbD x.way.val = true := by
  obtain ⟨hpower, hlines⟩ := gateWays_gates (link := link) ((spillOf s link).power &&& ~~~v.setWidth 16) s
  have hset := spillOf_setSpill_same (gateWays link ((spillOf s link).power &&& ~~~v.setWidth 16) s) link
    { spillOf (gateWays link ((spillOf s link).power &&& ~~~v.setWidth 16) s) link with
      power := (spillOf (gateWays link ((spillOf s link).power &&& ~~~v.setWidth 16) s) link).power ||| (v.setWidth 16 &&& ~~~(spillOf s link).power)
      gated := (spillOf (gateWays link ((spillOf s link).power &&& ~~~v.setWidth 16) s) link).gated
        &&& ~~~(v.setWidth 16 &&& ~~~(spillOf s link).power) }
  refine ⟨reply 0 [] (setWays link (v.setWidth 16) s), congrArg Host.Outcome.next (operatorCmd_commands hc _), ?_, fun x hx hold => ?_⟩
  · refine (congrArg Spill.power hset).trans ?_
    dsimp only
    rw [hpower]
    apply BitVec.eq_of_getLsbD_eq
    intro i hi
    simp only [BitVec.getLsbD_or, BitVec.getLsbD_and, BitVec.getLsbD_not, hi, decide_true, Bool.true_and]
    cases (spillOf s link).power.getLsbD i <;> cases (v.setWidth 16).getLsbD i <;> rfl
  · have hmem : x ∈ (spillOf (gateWays link ((spillOf s link).power &&& ~~~v.setWidth 16) s) link).lines :=
      (congrArg (fun sp : Spill => x ∈ sp.lines) hset).mp hx
    have hgate := hlines x hmem
    unfold bit at hgate
    have hlt := x.way.isLt
    rw [BitVec.getLsbD_and, BitVec.getLsbD_not, hold, BitVec.getLsbD_setWidth] at hgate
    simpa [hlt] using hgate

end

/-! ### Pieces of a line -/

/-- From `s` to `t` the engines alone may change. -/
def OnlyEngines (s t : State) : Prop := ∃ x, t = { s with engines := x }

theorem OnlyEngines.refl (s : State) : OnlyEngines s s := ⟨s.engines, rfl⟩
theorem OnlyEngines.trans {s t u : State} (a : OnlyEngines s t) (b : OnlyEngines t u) : OnlyEngines s u := by
  obtain ⟨x, rfl⟩ := a
  obtain ⟨y, rfl⟩ := b
  exact ⟨y, rfl⟩

theorem OnlyEngines.spill {s t : State} (h : OnlyEngines s t) (link : LinkId) : spillOf t link = spillOf s link := by
  obtain ⟨x, rfl⟩ := h
  rfl

theorem setEngine_onlyEngines (s : State) (e : EngineId) (x : Engine) : OnlyEngines s (setEngine s e x) := ⟨_, rfl⟩

theorem focused_onlyEngines (e : EngineId) (i : Nat) {f : State → State} (hf : ∀ s, OnlyEngines s (f s)) (s : State) :
    OnlyEngines s (focused e i f s) :=
  ite_ok (P := OnlyEngines s) (hf s) (((setEngine_onlyEngines ..).trans (hf _)).trans (setEngine_onlyEngines ..))

theorem onRun_onlyEngines (e : EngineId) {f : StreamRun → State → State} (hf : ∀ r s, OnlyEngines s (f r s)) (s : State) :
    OnlyEngines s (onRun e f s) := by
  unfold onRun
  split
  · exact hf ..
  · exact OnlyEngines.refl s

theorem onBurst_onlyEngines (e : EngineId) (i : Nat) {f : StreamRun → Nat → Burst → State → State}
    (hf : ∀ r k b s, OnlyEngines s (f r k b s)) (s : State) : OnlyEngines s (onBurst e i f s) := by
  unfold onBurst
  split
  · exact OnlyEngines.refl s
  · refine focused_onlyEngines _ _ (fun s => onRun_onlyEngines _ (fun r s => ?_) s) s
    split
    · exact hf ..
    · exact OnlyEngines.refl s

/-- A piece serves who waits for it, in the engines alone. -/
theorem servePiece_onlyEngines (link : LinkId) (w : WantedLine) (k : Nat) (data : List (BitVec 64)) (s : State) (x : EngineId × Nat) :
    OnlyEngines s (servePiece link w k data s x) :=
  onBurst_onlyEngines _ _ (fun _ _ _ s => ite_ok (P := OnlyEngines s) (OnlyEngines.refl s) (setEngine_onlyEngines ..)) s

/-- The entry that a search finds is replaced by another that the search finds too. -/
theorem find_replaced {α : Type} {p : α → Bool} {l : List α} {x : α} (hx : p x = true) :
    ((l.takeWhile fun u => !p u) ++ x :: ((l.dropWhile fun u => !p u).drop 1)).find? p = some x := by
  have hnone : (l.takeWhile fun u => !p u).find? p = none := by
    rw [List.find?_eq_none]
    intro u hu
    have hnot := List.mem_takeWhile_imp hu
    simpa using hnot
  rw [List.find?_append, hnone, Option.none_or, List.find?_cons_of_pos hx]

section
variable {s : State} {link : LinkId} {r : RegionId} {line : BitVec 36} {w : WantedLine} {data : List (BitVec 64)}
    (hw : (spillOf s link).wanted.find? (isWanted r line) = some w)
include hw

theorem wanted_names : w.region = r ∧ w.line = line := by
  have hfound := List.find?_some hw
  exact of_decide_eq_true hfound

theorem missFill_piece (hlt : w.pieces.length < 3) :
    ∃ t, exec (.spillCacheMissFill link r line data) s = .next t ∧ (spillOf t link).lines = (spillOf s link).lines
      ∧ (spillOf t link).wanted.find? (isWanted r line) = some { w with pieces := w.pieces ++ [data] } := by
  obtain ⟨hr, hl⟩ := wanted_names hw
  have hrun : exec (.spillCacheMissFill link r line data) s = .next (takePiece link w data s) := by
    change Host.Outcome.next (match (spillOf s link).wanted.find? (isWanted r line) with
      | none => s
      | some w => if w.pieces.length < 3 then takePiece link w data s else wholeLine link w data s) = _
    rw [hw]
    exact congrArg Host.Outcome.next (if_pos hlt)
  have hset := spillOf_setSpill_same s link { spillOf s link with
    wanted := ((spillOf s link).wanted.takeWhile fun u => !isWanted w.region w.line u) ++ { w with pieces := w.pieces ++ [data] } ::
      (((spillOf s link).wanted.dropWhile fun u => !isWanted w.region w.line u).drop 1) }
  have hserved : ∀ (l : List (EngineId × Nat)) (k : Nat) (t : State), spillOf (l.foldl (servePiece link w k data) t) link = spillOf t link :=
    fun l k t => (foldl_ok (P := OnlyEngines t) (fun u x h => h.trans (servePiece_onlyEngines ..)) l t (OnlyEngines.refl t)).spill link
  have htake : spillOf (takePiece link w data s) link = { spillOf s link with
    wanted := ((spillOf s link).wanted.takeWhile fun u => !isWanted w.region w.line u) ++ { w with pieces := w.pieces ++ [data] } ::
      (((spillOf s link).wanted.dropWhile fun u => !isWanted w.region w.line u).drop 1) } := (hserved ..).trans hset
  refine ⟨_, hrun, by rw [htake], ?_⟩
  rw [htake, hr, hl]
  exact find_replaced (decide_eq_true ⟨rfl, rfl⟩)

end

/-- A way that takes a line without a victim is a way that serves. -/
theorem victimWay_usable {sp : Spill} {set k : Nat} (h : victimWay sp set = some (k, none)) : noWays sp = false := by
  have hused : ∃ w ∈ (List.range 16).filter (wayUsable sp), true := by
    unfold victimWay at h
    dsimp only at h
    split at h
    next v hv => exact ⟨v, List.mem_of_find?_eq_some hv, rfl⟩
    next =>
      split at h
      · cases h
      · cases h
  obtain ⟨v, hv, -⟩ := hused
  obtain ⟨hrange, husable⟩ := List.mem_filter.mp hv
  unfold noWays
  rw [← Bool.not_eq_true, List.all_eq_true]
  intro hall
  have hno := hall v hrange
  rw [husable] at hno
  cases hno

theorem endInvalidations_spill (fn : FnId) (s : State) (link : LinkId) : spillOf (endInvalidations fn s) link = spillOf s link :=
  ite_ok (P := fun t => spillOf t link = spillOf s link) rfl rfl

/-- A line that has come whole is cached, where a way takes it. -/
theorem placeLine_places {s : State} {link : LinkId} {w : WantedLine} {ws : List PWord} {k : Nat}
    (hnew : lineAt (spillOf s link) w.region w.line = none) (hv : victimWay (spillOf s link) (setOfLine w.line) = some (k, none)) :
    (spillOf (placeLine link w ws s) link).lines
      = (spillOf s link).lines ++ [⟨w.region, w.fn, w.line, Fin.ofNat 16 k, false, ws, (spillOf s link).clock + 1⟩] := by
  have hrun : placeLine link w ws s = setSpill s link { spillOf s link with
      clock := (spillOf s link).clock + 1
      lines := (spillOf s link).lines ++ [⟨w.region, w.fn, w.line, Fin.ofNat 16 k, false, ws, (spillOf s link).clock + 1⟩] } := by
    unfold placeLine
    dsimp only
    rw [hnew, if_neg (by simp), hv]
  rw [hrun, spillOf_setSpill_same]

theorem arrivedWords_nth {sp : Spill} {w : WantedLine} {pieces : List (List (BitVec 64))} {j : Nat} (hj : j < 32)
    (hlost : (w.region, w.line) ∉ sp.lost) :
    nth ⟨0, false⟩ (arrivedWords sp w pieces) j = ⟨nth 0 (nth [] pieces ((j / 8 + 4 - w.first.val) % 4)) (j % 8), false⟩ := by
  have hno : sp.lost.contains (w.region, w.line) = false := by
    rw [← Bool.not_eq_true, List.contains_iff_mem]
    exact hlost
  unfold nth arrivedWords
  rw [List.getElem?_map, List.getElem?_range hj, hno]
  rfl

theorem missFill_whole {s : State} {link : LinkId} {r : RegionId} {line : BitVec 36} {w : WantedLine} {data : List (BitVec 64)}
    (hw : (spillOf s link).wanted.find? (isWanted r line) = some w) (hlen : w.pieces.length = 3) (hvoid : w.void = false)
    (hnew : lineAt (spillOf s link) r line = none) (hlost : (r, line) ∉ (spillOf s link).lost)
    (hv : ∃ k, victimWay (spillOf s link) (line.toNat % 32768) = some (k, none)) :
    ∃ t x, exec (.spillCacheMissFill link r line data) s = .next t ∧ x ∈ (spillOf t link).lines ∧ x.region = r
      ∧ x.line = line ∧ x.fn = w.fn ∧ x.dirty = false
      ∧ ∀ j < 32, nth ⟨0, false⟩ x.words j
          = ⟨nth 0 (nth [] (w.pieces ++ [data]) ((j / 8 + 4 - w.first.val) % 4)) (j % 8), false⟩ := by
  obtain ⟨hr, hl⟩ := wanted_names hw
  obtain ⟨k, hk⟩ := hv
  have hrun : exec (.spillCacheMissFill link r line data) s = .next (wholeLine link w data s) := by
    change Host.Outcome.next (match (spillOf s link).wanted.find? (isWanted r line) with
      | none => s
      | some w => if w.pieces.length < 3 then takePiece link w data s else wholeLine link w data s) = _
    rw [hw]
    exact congrArg Host.Outcome.next (if_neg (by omega))
  have hgot := spillOf_setSpill_same s link { spillOf s link with
    wanted := (spillOf s link).wanted.eraseP (isWanted w.region w.line), lost := (spillOf s link).lost.erase (w.region, w.line) }
  change spillOf (gotLine link w s) link = _ at hgot
  have hkept : lineAt (spillOf (gotLine link w s) link) w.region w.line = none := by
    rw [hgot, hr, hl]
    exact hnew
  have hway : victimWay (spillOf (gotLine link w s) link) (setOfLine w.line) = some (k, none) := by
    rw [hgot, hl]
    exact hk
  have hwhole : wholeLine link w data s
      = endInvalidations w.fn (placeLine link w (arrivedWords (spillOf s link) w (w.pieces ++ [data])) (gotLine link w s)) := by
    unfold wholeLine
    dsimp only
    rw [hvoid, if_neg Bool.false_ne_true, victimWay_usable hway, if_neg Bool.false_ne_true]
  refine ⟨_, ⟨w.region, w.fn, w.line, Fin.ofNat 16 k, false, arrivedWords (spillOf s link) w (w.pieces ++ [data]),
    (spillOf (gotLine link w s) link).clock + 1⟩, hrun, ?_, hr, hl, rfl, rfl, fun j hj => arrivedWords_nth hj (by rw [hr, hl]; exact hlost)⟩
  rw [hwhole, endInvalidations_spill, placeLine_places hkept hway]
  exact List.mem_append_right _ (List.mem_singleton.mpr rfl)

/-- Settles O50: the slot's cases in the order of the model, and the caches' lines as they come and go. -/
theorem shoreAndSpillCacheMoveData : Obligations.ShoreAndSpillCacheMoveData := by
  unfold Obligations.ShoreAndSpillCacheMoveData
  intro port n f l link r line w data way v s
  refine ⟨fun hdev hphase hn hslot hengines hdead hreplay => ⟨?_, ?_⟩, fun e y k hdev hphase hn hslot _ howner hnext => ⟨?_, ?_⟩,
    outbound_dropped, fun hw => ⟨missFill_piece hw, missFill_whole hw⟩, fun lost => ⟨wayDisable_disables, wayDisable_nothing⟩,
    fun hc => waysPower_powers hc⟩
  · exact fun htc0 hin => slot_message hdev hphase hn hslot hengines hdead hreplay htc0 hin
  · exact fun htc0 => slot_tc0 hdev hphase hn hslot hengines hdead hreplay htc0
  · intro x hx
    obtain ⟨t, ht, henters, hcount⟩ := slot_staged hdev hphase hn hslot howner hnext hx
    exact ⟨t, ht, henters, by rw [hcount]⟩
  · exact fun hx habort => slot_late hdev hphase hn hslot howner hnext hx habort

end Sys2Proof.Machine

/-!
SUPPORT. Errors of memories, tables and queues stay where they are found (R242, R295, R409–R413).
-/
namespace Sys2Proof.Machine
open Sys2Proof Sys2Proof.Safety

/-- From `s` to `t` bulk memory, the regions, the engines and the banks stand. -/
def InFrame (s t : State) : Prop := t.bulk = s.bulk ∧ t.regions = s.regions ∧ t.engines = s.engines ∧ t.banks = s.banks

theorem InFrame.refl (s : State) : InFrame s s := ⟨rfl, rfl, rfl, rfl⟩
theorem InFrame.trans {s t u : State} (a : InFrame s t) (b : InFrame t u) : InFrame s u :=
  ⟨b.1.trans a.1, b.2.1.trans a.2.1, b.2.2.1.trans a.2.2.1, b.2.2.2.trans a.2.2.2⟩

theorem logItem_frame (i : LogItem) (s : State) : InFrame s (logItem i s) :=
  ⟨logItem_bulk .., logItem_regions .., logItem_engines .., logItem_banks ..⟩

/-- One more of the count at `a`, whatever else `t` changed of `s`. -/
theorem counted_of {a : Nat} {s t : State} (h : t.counters = (count s a 1).counters) : counted a s t :=
  (congrArg (tget 0 · a) h).trans (tget_tset_same ..)

theorem counted_log {a : Nat} {s t : State} (h : t.counters = (count s a 1).counters) (i : LogItem) : counted a s (logItem i t) :=
  counted_of ((logItem_counters ..).trans h)

theorem core_log (i : LogItem) (s : State) (c : CoreId) : coreOf (logItem i s) c = coreOf s c := by
  unfold coreOf
  rw [logItem_cores]

theorem thread_log (i : LogItem) (s : State) (h : Hart) : thread (logItem i s) h = thread s h := by
  unfold thread
  rw [core_log]

theorem router_log (i : LogItem) (s : State) (c : CoreId) : routerOf (logItem i s) c = routerOf s c := by
  unfold routerOf
  rw [logItem_routers]

/-! ### Memories -/

section
variable {core : CoreId} {code : Bool} {w : Nat} {s : State}

/-- The state in which a word of a memory stands poisoned, before the log has it. -/
def wordMarked (core : CoreId) (code : Bool) (w : Nat) (s : State) : State :=
  noteWord core code w (count (modCore s core fun c =>
    if code then { c with codePoison := sins c.codePoison w } else { c with poison := sins c.poison w }) (ctrDie (dieOf core) 9) 1)

theorem wordMarked_core : (w ∈ if code then (coreOf (wordMarked core code w s) core).codePoison else (coreOf (wordMarked core code w s) core).poison)
    ∧ (coreOf (wordMarked core code w s) core).mem = (coreOf s core).mem
    ∧ (coreOf (wordMarked core code w s) core).code = (coreOf s core).code := by
  have hcore : coreOf (wordMarked core code w s) core = if code then { coreOf s core with codePoison := sins (coreOf s core).codePoison w }
      else { coreOf s core with poison := sins (coreOf s core).poison w } :=
    coreOf_modCore_same s core fun c =>
      if code then { c with codePoison := sins c.codePoison w } else { c with poison := sins c.poison w }
  rw [hcore]
  cases code
  · exact ⟨(mem_sins ..).mpr (Or.inl rfl), rfl, rfl⟩
  · exact ⟨(mem_sins ..).mpr (Or.inl rfl), rfl, rfl⟩

theorem wordMarked_history : (historyOf (wordMarked core code w s) (physicalOf s core)).words
    = (historyOf s (physicalOf s core)).words ++ [(code, w, s.clock.now)] := by
  refine (congrArg ErrHistory.words (tget_tset_same ..)).trans ?_
  rfl

theorem wordMarked_counters : (wordMarked core code w s).counters = (count s (ctrDie (dieOf core) 9) 1).counters := rfl

theorem wordMarked_other {d : CoreId} (h : d ≠ core) : coreOf (wordMarked core code w s) d = coreOf s d :=
  coreOf_modCore_other s core d (fun c =>
    if code then { c with codePoison := sins c.codePoison w } else { c with poison := sins c.poison w }) (Ne.symm h)

theorem wordMarked_frame : InFrame s (wordMarked core code w s) := InFrame.refl s

theorem historyOf_log (i : LogItem) (t : State) (k : Nat) : historyOf (logItem i t) k = historyOf t k := by
  unfold historyOf
  rw [logItem_history]

theorem memory_uncorrectable (hw : w < if code then 0x2000 else 0x18000) :
    ∃ t, exec (.localScrub (.memory core code) w 0 .uncorrectable) s = .next t ∧ counted (ctrDie (dieOf core) 9) s t ∧ InFrame s t
      ∧ (w ∈ if code then (coreOf t core).codePoison else (coreOf t core).poison)
      ∧ (coreOf t core).mem = (coreOf s core).mem ∧ (coreOf t core).code = (coreOf s core).code
      ∧ (historyOf t (physicalOf s core)).words = (historyOf s (physicalOf s core)).words ++ [(code, w, s.clock.now)]
      ∧ ∀ d, d ≠ core → coreOf t d = coreOf s d := by
  have hexists : wordExists (.memory core code) w 0 = true := by
    cases code <;> exact (Bool.and_true _).trans (decide_eq_true hw)
  obtain ⟨hmark, hmem, hcode⟩ := wordMarked_core (core := core) (code := code) (w := w) (s := s)
  let i : LogItem := ⟨0x39, BitVec.ofNat 6 (dieOf core), BitVec.ofNat 14 core.val, regionOf (wordMarked core code w s) core, 0, false,
    BitVec.ofNat 64 (8 * w + at_ (b2n code) 63), []⟩
  have hcore : ∀ d, coreOf (logItem i (wordMarked core code w s)) d = coreOf (wordMarked core code w s) d := core_log i _
  refine ⟨logItem i (wordMarked core code w s), congrArg Host.Outcome.next (if_pos hexists), counted_log wordMarked_counters i,
    wordMarked_frame.trans (logItem_frame ..), ?_, ?_, ?_, ?_, fun d hd => (hcore d).trans (wordMarked_other hd)⟩
  · rw [hcore]
    exact hmark
  · rw [hcore]
    exact hmem
  · rw [hcore]
    exact hcode
  · rw [historyOf_log]
    exact wordMarked_history

theorem memory_clean (hw : w < if code then 0x2000 else 0x18000) :
    exec (.localScrub (.memory core code) w 0 .clean) s = .next s
      ∧ exec (.localScrub (.memory core code) w 0 .corrected) s = .next (count s (ctrDie (dieOf core) 8) 1) := by
  have hexists : wordExists (.memory core code) w 0 = true := by
    cases code <;> exact (Bool.and_true _).trans (decide_eq_true hw)
  exact ⟨congrArg Host.Outcome.next (if_pos hexists), congrArg Host.Outcome.next (if_pos hexists)⟩

end

/-- A sector of bulk memory (R242). -/
theorem patrol {stack : Fin 8} {sec : BitVec 30} {s : State} (h : (sec.toNat / 4 * 8 + stack.val) * 256 + sec.toNat % 4 * 64 < 0x6000000000) :
    let a := (sec.toNat / 4 * 8 + stack.val) * 256 + sec.toNat % 4 * 64
    exec (.hbmPatrol stack sec .clean) s = .next s
      ∧ exec (.hbmPatrol stack sec .corrected) s = .next (count s (ctrEdie (emDie stack.val) 5) 1)
      ∧ ∃ t, exec (.hbmPatrol stack sec .uncorrectable) s = .next t ∧ counted (ctrEdie (emDie stack.val) 6) s t ∧ InFrame s t
        ∧ a / 64 ∈ t.bulkPoison ∧ t.cores = s.cores := by
  intro a
  have hin : ¬ bulkTop ≤ a := Nat.not_le.mpr h
  refine ⟨congrArg Host.Outcome.next (if_neg hin), congrArg Host.Outcome.next (if_neg hin), _, congrArg Host.Outcome.next (if_neg hin),
    ?_, ?_, ?_, ?_⟩
  · exact counted_log rfl _
  · exact InFrame.trans (InFrame.refl s) (logItem_frame ..)
  · refine (congrArg (a / 64 ∈ ·) (logItem_bulkPoison ..)).mpr ?_
    exact (mem_sins ..).mpr (Or.inl rfl)
  · exact logItem_cores ..

end Sys2Proof.Machine

/-!
SUPPORT. Errors of tables, spill ways, queues and crossings (R278, R295, R296, R409, R412).
-/
namespace Sys2Proof.Machine
open Sys2Proof Sys2Proof.Safety

/-! ### Table words -/

section
variable {s : State}

theorem setRouter_router (s : State) (c : CoreId) (x : Router) : routerOf (setRouter s c x) c = x := tget_tset_same ..

theorem routeBank_wrong (core : CoreId) (entry : Fin 1024) :
    ∃ t, exec (.tableUncorrectable (.routeBank core (routerOf s core).active entry)) s = .next t ∧ InFrame s t
      ∧ counted (ctrDie (dieOf core) 16) s t ∧ entry.val ∈ (routerOf t core).badEntries := by
  let rt := routerOf s core
  let u : State := noteLink core (setRouter (count s (ctrDie (dieOf core) 15 + 8) 1) core { rt with badEntries := sins rt.badEntries entry.val })
  have hu : exec (.tableUncorrectable (.routeBank core (routerOf s core).active entry)) s
      = .next (logTable core [b2n rt.active, entry.val] u) :=
    congrArg (fun x => Host.Outcome.next (logTable core [b2n rt.active, entry.val] (noteLink core x))) (if_pos rfl)
  refine ⟨_, hu, (InFrame.refl s).trans (logItem_frame _ u), counted_log (t := u) rfl _, ?_⟩
  have hrouter : routerOf u core = { rt with badEntries := sins rt.badEntries entry.val } := tget_tset_same ..
  refine (congrArg (entry.val ∈ ·) (congrArg Router.badEntries ((router_log ..).trans hrouter))).mpr ?_
  exact (mem_sins ..).mpr (Or.inl rfl)

theorem borderMask_wrong (core : CoreId) (ports : BitVec 5) :
    ∃ t, exec (.tableUncorrectable (.borderMask core ports false)) s = .next t ∧ InFrame s t
      ∧ (routerOf t core).badPorts = (routerOf s core).badPorts ||| ports
      ∧ (routerOf t core).stuckPorts = (routerOf s core).stuckPorts := by
  let rt := routerOf s core
  let u : State := noteLink core (setRouter (count s (ctrDie (dieOf core) 15 + 8) 1) core { rt with badPorts := rt.badPorts ||| ports })
  have hu : exec (.tableUncorrectable (.borderMask core ports false)) s = .next (logTable core [ports.toNat] u) := rfl
  have hrouter : routerOf (logTable core [ports.toNat] u) core = { rt with badPorts := rt.badPorts ||| ports } :=
    (router_log ..).trans (tget_tset_same ..)
  exact ⟨_, hu, (InFrame.refl s).trans (logItem_frame _ u), (congrArg Router.badPorts hrouter :),
    (congrArg Router.stuckPorts hrouter :)⟩

theorem replica_wrong (unit : Fin 48) (k : Fin 2048) :
    ∃ t, exec (.tableUncorrectable (.replica unit k)) s = .next t ∧ InFrame s t ∧ t.cells = s.cells
      ∧ replicaEntry t unit.val k.val = 0 := by
  refine ⟨_, rfl, (InFrame.refl s).trans (logItem_frame ..), logItem_cells .., ?_⟩
  refine if_pos ?_
  refine (congrArg (fun l => List.contains l (unit.val, k.val)) (logItem_badReplicas ..)).trans ?_
  simp

theorem flagBank_wrong (die : DieId) (fw : Fin 136) :
    ∃ t, exec (.tableUncorrectable (.flagBank die fw)) s = .next t ∧ InFrame s t ∧ (die.val, fw.val) ∈ t.badFlagWords := by
  refine ⟨_, rfl, (InFrame.refl s).trans (logItem_frame ..), ?_⟩
  refine (congrArg ((die.val, fw.val) ∈ ·) (logItem_badFlagWords ..)).mpr ?_
  simp

theorem table_scrub (tw : TableWord) :
    exec (.localScrub (.table tw) 0 0 .corrected) s = .next (count s (tableCtr tw) 1)
      ∧ exec (.localScrub (.table tw) 0 0 .uncorrectable) s = exec (.tableUncorrectable tw) s :=
  ⟨rfl, rfl⟩

/-! ### Spill ways and the landing buffer -/

theorem noteWay_spill (link : LinkId) (way : Fin 16) (x : Option Nat) :
    spillOf (noteWay link way x s) link = { spillOf s link with faults := (spillOf s link).faults ++ [(way, x)] } := by
  unfold noteWay
  rw [spillOf_setSpill_same]

theorem setSpill_frame (link : LinkId) (x : Spill) : InFrame s (setSpill s link x) ∧ (setSpill s link x).counters = s.counters := by
  unfold setSpill
  split
  case isTrue => exact ⟨InFrame.refl s, rfl⟩
  case isFalse => exact ⟨InFrame.refl s, rfl⟩

theorem spill_corrected (link : LinkId) (way : Fin 16) :
    ∃ t, exec (.localScrub (.spill link way) 0 0 .corrected) s = .next t ∧ counted (ctrEdie (ehDie link.val) 7) s t ∧ InFrame s t := by
  let u := count s (ctrEdie (ehDie link.val) 7) 1
  obtain ⟨hframe, hcounters⟩ := setSpill_frame (s := u) link
    { spillOf u link with faults := (spillOf u link).faults ++ [(way, some s.clock.now)] }
  exact ⟨_, rfl, counted_of hcounters, hframe⟩

/-- One uncorrectable word fails its way (R278). -/
theorem wayFailed_none {x : Spill} {way : Fin 16} {l : List (Fin 16 × Option Nat)} (h : x.faults = l ++ [(way, none)]) (now : Nat) :
    wayFailed x now way = true := by
  unfold wayFailed
  rw [h]
  simp

theorem spill_uncorrectable (link : LinkId) (way : Fin 16) :
    ∃ t, exec (.localScrub (.spill link way) 0 0 .uncorrectable) s = .next t ∧ counted (ctrEdie (ehDie link.val) 8) s t ∧ InFrame s t
      ∧ wayFailed (spillOf t link) s.clock.now way = true := by
  let u := count s (ctrEdie (ehDie link.val) 8) 1
  obtain ⟨hframe, hcounters⟩ := setSpill_frame (s := u) link { spillOf u link with faults := (spillOf u link).faults ++ [(way, none)] }
  have hfaults : (spillOf (noteWay link way none u) link).faults = (spillOf u link).faults ++ [(way, none)] :=
    congrArg Spill.faults (noteWay_spill ..)
  exact ⟨noteWay link way none u, rfl, counted_of hcounters, hframe, wayFailed_none hfaults _⟩

theorem landing_uncorrectable {core : CoreId} {f : Flit} (h : (coreOf s core).inbox = [f]) :
    ∃ t, exec (.localScrub (.landing core) 0 0 .uncorrectable) s = .next t
      ∧ counted (ctrDie (dieOf core) 12) s t ∧ InFrame s t
      ∧ (coreOf t core).inbox = [{ f with words := updAt f.words 0 fun y => { y with poison := true } }] := by
  let u := count s (ctrDie (dieOf core) 12) 1
  have hcore : coreOf (modCore u core fun c => { c with inbox := updAt c.inbox 0 (poisonFlit 0) }) core
      = { coreOf s core with inbox := updAt (coreOf s core).inbox 0 (poisonFlit 0) } :=
    coreOf_modCore_same u core fun c => { c with inbox := updAt c.inbox 0 (poisonFlit 0) }
  refine ⟨_, rfl, counted_of rfl, InFrame.refl s, ?_⟩
  refine (congrArg Core.inbox hcore).trans ?_
  dsimp only
  rw [h]
  rfl

/-! ### Queues whose pointer copies differ (R295) -/

/-- E5 is pending after it was noted. -/
theorem noteE5_pending (h : Hart) (cause : BitVec 8) (pc : BitVec 17) (info : Word) :
    (thread (noteE5 h cause pc info s) h).evPending.getLsbD 5 = true := by
  unfold noteE5
  split
  case isTrue hb =>
    rw [thread_modTh_same]
    exact hb
  case isFalse =>
    rw [raiseEvent, modTh_modTh, thread_modTh_same]
    simp

/-- Noting E5 changes threads alone. -/
theorem noteE5_thread (h : Hart) (cause : BitVec 8) (pc : BitVec 17) (info : Word) : ∃ f, noteE5 h cause pc info s = modTh s h f := by
  unfold noteE5
  split
  case isTrue => exact ⟨_, rfl⟩
  case isFalse =>
    unfold raiseEvent
    rw [modTh_modTh]
    exact ⟨_, rfl⟩

theorem notice_mismatch (core : CoreId) (q : Fin 5) :
    ∃ t, exec (.queuePointerMismatch (.notice core q)) s = .next t ∧ InFrame s t ∧ (nqOf (coreOf t core) q.val).items = []
      ∧ (thread t (queueOwner core q.val)).evPending.getLsbD 5 = true := by
  let u : State := modCore s core fun c => setNq c q.val (emptyNq (nqOf c q.val))
  let v := noteE5 (queueOwner core q.val) 0x10 0 (BitVec.ofNat 64 q.val) u
  obtain ⟨f, hf⟩ := noteE5_thread (s := u) (queueOwner core q.val) 0x10 0 (BitVec.ofNat 64 q.val)
  have hnotices : (coreOf v core).notices = (coreOf u core).notices := by
    have hv : v = modTh u (queueOwner core q.val) f := hf
    rw [hv]
    exact (congrArg Core.notices (coreOf_modCore_same u core fun c =>
      setTh c (queueOwner core q.val).thread (f (thOf c (queueOwner core q.val).thread))) :)
  have hu : (coreOf u core).notices = tset (coreOf s core).notices q.val NoticeQ.reset :=
    congrArg Core.notices (coreOf_modCore_same s core fun c => setNq c q.val (emptyNq (nqOf c q.val)))
  have hframe : InFrame u v := by
    have hv : v = modTh u (queueOwner core q.val) f := hf
    rw [hv]
    exact InFrame.refl u
  refine ⟨_, rfl, (InFrame.refl s).trans (hframe.trans (logItem_frame _ v)), ?_, ?_⟩
  · have hitems : nqOf (coreOf v core) q.val = NoticeQ.reset := by
      unfold nqOf
      rw [hnotices, hu, tget_tset_same]
    exact (congrArg (fun c => (nqOf c q.val).items) (core_log _ v core)).trans (congrArg NoticeQ.items hitems)
  · exact (congrArg (fun x : Thread => x.evPending.getLsbD 5) (thread_log _ v _)).trans (noteE5_pending ..)

end

end Sys2Proof.Machine

/-!
SUPPORT. Injection queues, staging queues and crossings that are reset (R295, R296).
-/
namespace Sys2Proof.Machine
open Sys2Proof Sys2Proof.Safety

section
variable {s : State}

/-! ### Injection queues -/

/-- From `s` to `t` only threads of the core change. -/
def OnlyThreads (c : CoreId) (s t : State) : Prop := InFrame s t ∧ (coreOf t c).inj = (coreOf s c).inj

theorem OnlyThreads.refl (c : CoreId) (s : State) : OnlyThreads c s s := ⟨InFrame.refl s, rfl⟩
theorem OnlyThreads.trans {c : CoreId} {s t u : State} (a : OnlyThreads c s t) (b : OnlyThreads c t u) : OnlyThreads c s u :=
  ⟨a.1.trans b.1, b.2.trans a.2⟩

theorem onlyThreads_modTh (c : CoreId) (i : Fin 4) (f : Thread → Thread) (s : State) : OnlyThreads c s (modTh s ⟨c, i⟩ f) :=
  ⟨InFrame.refl s, (congrArg Core.inj (coreOf_modCore_same s c fun x => setTh x i (f (thOf x i))) :)⟩

/-- What a sender that waits for one of the discarded messages does. -/
def senderFreed (core : CoreId) (q : Fin 16) (mids : List Nat) (s : State) (i : Fin 4) : State :=
  match (thread s ⟨core, i⟩).run with
  | .waiting (.send k mid) => if k = q ∧ mids.contains mid then wake ⟨core, i⟩ (modTh s ⟨core, i⟩ (advPc 4)) else s
  | _ => s

theorem senderFreed_onlyThreads (core : CoreId) (q : Fin 16) (mids : List Nat) (s : State) (i : Fin 4) :
    OnlyThreads core s (senderFreed core q mids s i) := by
  unfold senderFreed
  split
  next =>
    refine ite_ok (P := OnlyThreads core s) ?_ (OnlyThreads.refl core s)
    exact (onlyThreads_modTh core i _ s).trans (onlyThreads_modTh core i _ _)
  next => exact OnlyThreads.refl core s

/-- The queue when its flits are gone, before its waiting messages enter. -/
def emptiedInj (core : CoreId) (q : Fin 16) (s : State) : State :=
  let mids := (injOf (coreOf s core) q.val).flits.map fun f => f.mid
  ([0, 1, 2, 3] : List (Fin 4)).foldl (senderFreed core q mids) (modCore s core fun c =>
    let x := injOf c q.val
    setInj c q.val { flits := [], plans := x.plans.filter fun p => !mids.contains p.mid })

theorem refill_frame (core : CoreId) (q : Nat) (t : State) : InFrame t (refill core q t) := InFrame.refl t

theorem resetInj_eq (core : CoreId) (q : Fin 16) : resetInj core q s = refill core q.val (emptiedInj core q s) := rfl

theorem emptiedInj_inj (core : CoreId) (q : Fin 16) : InFrame s (emptiedInj core q s)
    ∧ injOf (coreOf (emptiedInj core q s) core) q.val = { flits := [], plans := (injOf (coreOf s core) q.val).plans.filter fun p =>
        !((injOf (coreOf s core) q.val).flits.map fun f => f.mid).contains p.mid } := by
  obtain ⟨hframe, hinj⟩ : OnlyThreads core _ (emptiedInj core q s) :=
    foldl_ok (P := OnlyThreads core _) (fun t i h => h.trans (senderFreed_onlyThreads ..)) _ _ (OnlyThreads.refl core _)
  refine ⟨(InFrame.refl s).trans hframe, ?_⟩
  unfold injOf
  rw [hinj, coreOf_modCore_same]
  exact tget_tset_same ..

theorem injection_mismatch (core : CoreId) (iq : Fin 16) :
    ∃ t, exec (.queuePointerMismatch (.injection core iq)) s = .next t ∧ InFrame s t
      ∧ ((∀ x ∈ (injOf (coreOf s core) iq.val).plans, ∃ f ∈ (injOf (coreOf s core) iq.val).flits, f.mid = x.mid) →
        (injOf (coreOf t core) iq.val).flits = [] ∧ (injOf (coreOf t core) iq.val).plans = []) := by
  obtain ⟨hframe, hinj⟩ := emptiedInj_inj (s := s) core iq
  refine ⟨_, rfl, InFrame.trans (t := resetInj core iq s) ?_ (logItem_frame _ (resetInj core iq s)), fun h => ?_⟩
  · rw [resetInj_eq]
    exact hframe.trans (refill_frame ..)
  · have hplans : (injOf (coreOf (emptiedInj core iq s) core) iq.val).plans = [] := by
      rw [hinj]
      refine List.filter_eq_nil_iff.mpr fun p hp => ?_
      obtain ⟨f, hf, hmid⟩ := h p hp
      have hmem : ((injOf (coreOf s core) iq.val).flits.map fun f => f.mid).contains p.mid = true :=
        List.contains_iff_mem.mpr (List.mem_map.mpr ⟨f, hf, hmid⟩)
      rw [hmem]
      exact Bool.false_ne_true
    have hcore : coreOf (logCore core 0 0x10 (BitVec.ofNat 64 iq.val) (resetInj core iq s)) core = coreOf (emptiedInj core iq s) core := by
      unfold logCore
      rw [core_log, resetInj_eq, refill, coreOf_setCore_same, enterN_idle 8 hplans]
    rw [hcore, hinj]
    exact ⟨rfl, by rw [hinj] at hplans; exact hplans⟩

/-! ### Staging queues -/

theorem staging_mismatch {port : ShoreId} {e : EngineId} {y : StreamRun} (hy : (engineOf s e).run = some y)
    (ha : (engineOf s e).ahead = []) (hq : (engineOf s e).queue = []) (hp : port.val ∈ portsOf s y.cmd) (hh : hears y.cmd.hart s) :
    ∃ t, exec (.queuePointerMismatch (.staging port e)) s = .next t ∧ (engineOf t e).run = none
      ∧ recorded y.cmd.hart (recordOf y.cmd 0x25 y.poisoned) s t := by
  let uses := fun r : StreamRun => (portsOf s r.cmd).contains port.val
  let x := engineOf s e
  let u := setEngine s e { x with draining := x.draining.filter fun r => !uses r, dying := x.dying.filter fun r => !uses r }
  have hu : engineOf u e = { x with draining := x.draining.filter fun r => !uses r, dying := x.dying.filter fun r => !uses r } :=
    tget_tset_same ..
  have hfind : (activeRuns x).findIdx? uses = some 0 := by
    have huses : uses y = true := List.contains_iff_mem.mpr hp
    have hactive : activeRuns x = [y] := by
      unfold activeRuns
      rw [show x.run = some y from hy, show x.ahead = [] from ha]
      rfl
    rw [hactive, List.findIdx?_cons, huses]
    rfl
  have hreset : resetStaging port e s = cancelEngine e 0x25 u :=
    (congrArg (fun o : Option Nat => match o with | some i => focused e i (cancelEngine e 0x25) u | none => u) hfind :)
  have hhears : hears y.cmd.hart u := hh
  obtain ⟨hrun, hrec⟩ := cancelEngine_alone (s := u) (y := y) (st := 0x25) (by rw [hu]; exact hy) (by rw [hu]; exact ha) (by rw [hu]; exact hq) hhears
  refine ⟨logEdie (edieOf port) e.val none 0x10 (BitVec.ofNat 64 port.val) (cancelEngine e 0x25 u), by rw [← hreset]; rfl, ?_, ?_⟩
  · have he : engineOf (logEdie (edieOf port) e.val none 0x10 (BitVec.ofNat 64 port.val) (cancelEngine e 0x25 u)) e
        = engineOf (cancelEngine e 0x25 u) e := by
      unfold engineOf logEdie
      rw [logItem_engines]
    rw [he]
    exact hrun
  · obtain ⟨hdone, hevent⟩ := hrec
    unfold recorded logEdie
    rw [thread_log]
    exact ⟨hdone, hevent⟩

/-! ### Crossings -/

theorem elDie_cases : ∀ n < 4, (List.range 8).find? (fun m => decide (emDie m = elDie n)) = none
    ∧ (List.range 4).find? (fun m => decide (elDie m = elDie n)) = some n := by decide

theorem crossing_kept (ed : EDie) (u : Fin 32) :
    (resetCrossing ed u s).bulk = s.bulk ∧ (resetCrossing ed u s).regions = s.regions ∧ (resetCrossing ed u s).cores = s.cores
      ∧ (resetCrossing ed u s).routers = s.routers := by
  let P := fun t : State => t.bulk = s.bulk ∧ t.regions = s.regions ∧ t.cores = s.cores ∧ t.routers = s.routers
  have hself : P s := ⟨rfl, rfl, rfl, rfl⟩
  unfold resetCrossing
  refine ite_ok (P := P) ⟨rfl, rfl, rfl, rfl⟩ ?_
  split
  next => exact ite_ok (P := P) ⟨rfl, rfl, rfl, rfl⟩ hself
  next => exact ite_ok (P := P) ⟨rfl, rfl, rfl, rfl⟩ (ite_ok (P := P) ⟨rfl, rfl, rfl, rfl⟩ hself)
  next => exact hself

theorem resetCrossing_shore {ed : EDie} {u : Fin 32} (h : 16 ≤ u.val) :
    resetCrossing ed u s = { s with shoreOut := tset s.shoreOut (16 * ed.val + u.val % 16) [] } := if_pos h

/-- The crossings of an E-L reset the queue or the ingress buffer of a port. -/
theorem resetCrossing_port {ed : EDie} {u : Fin 32} {n : Nat} (hn : n < 4) (he : ed.val = elDie n) (h : ¬ 16 ≤ u.val) :
    resetCrossing ed u s = if u.val < 4 then modPortL s (Fin.ofNat 16 (4 * n + u.val % 4)) fun p => { p with queue := [] }
      else if u.val < 8 then modPortL s (Fin.ofNat 16 (4 * n + u.val % 4)) emptyIngress else s := by
  obtain ⟨hem, hel⟩ := elDie_cases n hn
  rw [resetCrossing]
  dsimp only
  rw [if_neg h, he, hem, hel]

/-- Owing credits leaves the messages in the ingress buffer. -/
theorem emptyIngress_rxOpen (p : LinkPort) : (emptyIngress p).rxOpen = [] := by
  unfold emptyIngress
  exact foldl_ok (P := fun q : LinkPort => q.rxOpen = []) (f := fun p e => owe e.1 e.2.length p) (fun q e h => h) p.rxOpen
    { p with rxOpen := [], missed := none } rfl

theorem portAt_modPortL (k : PortId) (f : LinkPort → LinkPort) : portAt (modPortL s k f) k = f (portAt s k) := tget_tset_same ..

theorem crossing_mismatch (ed : EDie) (u : Fin 32) :
    ∃ t, exec (.queuePointerMismatch (.crossing ed u)) s = .next t ∧ t.bulk = s.bulk ∧ t.regions = s.regions ∧ t.cores = s.cores
      ∧ t.routers = s.routers
      ∧ (16 ≤ u.val → InFrame s t ∧ tget [] t.shoreOut (16 * ed.val + u.val % 16) = [])
      ∧ ∀ n < 4, ed.val = elDie n → let k : PortId := Fin.ofNat 16 (4 * n + u.val % 4)
        (u.val < 4 → (portAt t k).queue = []) ∧ (4 ≤ u.val → u.val < 8 → (portAt t k).rxOpen = []) := by
  obtain ⟨hbulk, hregions, hcores, hrouters⟩ := crossing_kept (s := s) ed u
  refine ⟨logEdie ed.val u.val none 0x10 (BitVec.ofNat 64 u.val) (resetCrossing ed u s), rfl, ?_, ?_, ?_, ?_, fun h => ⟨?_, ?_⟩,
    fun n hn he => ⟨fun h => ?_, fun hl hh => ?_⟩⟩
  · exact (logItem_bulk ..).trans hbulk
  · exact (logItem_regions ..).trans hregions
  · exact (logItem_cores ..).trans hcores
  · exact (logItem_routers ..).trans hrouters
  · rw [resetCrossing_shore h]
    exact (InFrame.refl s).trans (logItem_frame ..)
  · rw [logEdie, logItem_shoreOut, resetCrossing_shore h]
    exact tget_tset_same ..
  · rw [logEdie, portAt, logItem_ports, resetCrossing_port hn he (by omega), if_pos h]
    exact congrArg LinkPort.queue (portAt_modPortL ..)
  · rw [logEdie, portAt, logItem_ports, resetCrossing_port hn he (by omega), if_neg (by omega), if_pos hh]
    exact (congrArg LinkPort.rxOpen (portAt_modPortL ..)).trans (emptyIngress_rxOpen _)

end

end Sys2Proof.Machine

/-!
SUPPORT. Failed cores are replaced (R416–R422, R425), and stores complete or fail (R430).
-/
namespace Sys2Proof.Machine
open Sys2Proof Sys2Proof.Safety

section
variable {s : State}

theorem rowOf_log (i : LogItem) (t : State) (n : Nat) : rowOf_ (logItem i t) n = rowOf_ t n := by
  unfold rowOf_
  rw [logItem_spares]

theorem rowOf_setRow (n : Nat) (x : SpareRow) (t : State) : rowOf_ (setRow n x t) n = x := tget_tset_same ..

/-! ### Declarations -/

/-- The five bits of a physical column. -/
theorem colBits (c : Fin 17) : (BitVec.ofNat 5 c.val).toNat = c.val := Nat.mod_eq_of_lt (by have := c.isLt; omega)

theorem ne_col {f : BitVec 5} {c : Fin 17} (h : f ≠ BitVec.ofNat 5 c.val) : f.toNat ≠ c.val :=
  fun he => h (BitVec.eq_of_toNat_eq (he.trans (colBits c).symm))

theorem last_ne_col (c : Fin 17) : (31 : BitVec 5).toNat ≠ c.val := fun h => absurd (h ▸ c.isLt : (31 : BitVec 5).toNat < 17) (by decide)

/-- What a declaration finds once it is logged. -/
def declared (row : Fin 640) (col : Fin 17) (trig : FailTrigger) (s : State) : State := logFailed row.val col.val trig s

theorem declared_row (row : Fin 640) (col : Fin 17) (trig : FailTrigger) : rowOf_ (declared row col trig s) row.val = rowOf_ s row.val :=
  rowOf_log ..

theorem declaration_holds {row : Fin 640} {col : Fin 17} {trig : FailTrigger} (h : triggerHolds s row.val col.val trig = true) :
    exec (.coreFailureDeclaration row col trig) s = .next (declareFailed row.val col.val (declared row col trig s)) :=
  congrArg Host.Outcome.next (if_pos h)

theorem declaration_idle {row : Fin 640} {col : Fin 17} {trig : FailTrigger} (h : triggerHolds s row.val col.val trig = false) :
    exec (.coreFailureDeclaration row col trig) s = .next s :=
  congrArg Host.Outcome.next (if_neg (by rw [h]; exact Bool.false_ne_true))

/-- The values in force for a row without a pending change decide. -/
theorem declareFailed_known {i c : Nat} (hp : (rowOf_ s i).pending = none)
    (h : (rowOf_ s i).first.toNat = c ∨ (rowOf_ s i).second.toNat = c) : declareFailed i c s = s := by
  unfold declareFailed
  dsimp only
  rw [hp]
  exact if_pos h

theorem declareFailed_first {i c : Nat} (hp : (rowOf_ s i).pending = none) (h1 : (rowOf_ s i).first = 31) (h2 : (rowOf_ s i).second = 31)
    (hc : (31 : BitVec 5).toNat ≠ c) : declareFailed i c s = if c = 16 then
      setRow i { rowOf_ s i with pending := some (16, 31), stopDay := s.clock.dayNo, shiftDay := some (s.clock.dayNo + 1) } s
    else firstFailure i c (rowOf_ s i) s := by
  unfold declareFailed
  dsimp only
  rw [hp, h1, h2]
  exact (if_neg fun h => h.elim hc hc).trans (if_pos rfl)

theorem declareFailed_second {i c : Nat} (hp : (rowOf_ s i).pending = none) (h1 : (rowOf_ s i).first ≠ 31)
    (hc : (rowOf_ s i).first.toNat ≠ c) (h2 : (rowOf_ s i).second = 31) (hl : (31 : BitVec 5).toNat ≠ c) :
    declareFailed i c s = secondFailure i c (rowOf_ s i) s := by
  unfold declareFailed
  dsimp only
  rw [hp, h2]
  exact (if_neg fun h => h.elim hc hl).trans ((if_neg h1).trans (if_pos rfl))

theorem firstFailure_plans (i c : Nat) (x : SpareRow) : (rowOf_ (firstFailure i c x s) i).pending = some (BitVec.ofNat 5 c, x.second)
    ∧ (firstFailure i c x s).routers = s.routers ∧ (coreOf (firstFailure i c x s) (rowCore i c)).isolated = true := by
  refine ⟨?_, rfl, ?_⟩
  · refine (congrArg SpareRow.pending (rowOf_setRow ..)).trans ?_
    split
    case isTrue => rfl
    case isFalse => rfl
  · exact congrArg Core.isolated (coreOf_modCore_same s (rowCore i c) fun x => { x with isolated := true })

/-- A lost position changes its region alone. -/
theorem failRegion_spares (n : Nat) (lost : Bool) (s : State) (r : RegionId) : (failRegion n lost s r).spares = s.spares
    ∧ (failRegion n lost s r).removalsNext = s.removalsNext :=
  ite_ok (P := fun t : State => t.spares = s.spares ∧ t.removalsNext = s.removalsNext) ⟨rfl, rfl⟩ ⟨rfl, rfl⟩

theorem secondFailure_plans {i c : Nat} {x : SpareRow} (hp : x.pending = none) :
    (rowOf_ (secondFailure i c x s) i).pending = some (x.first, BitVec.ofNat 5 c) := by
  have hset : ∀ y t, y.pending = some (x.first, BitVec.ofNat 5 c) → (rowOf_ (setRow i y t) i).pending = some (x.first, BitVec.ofNat 5 c) :=
    fun y t hy => (congrArg SpareRow.pending (rowOf_setRow i y t)).trans hy
  unfold secondFailure
  dsimp only
  rw [hp]
  split
  next =>
    split
    next =>
      refine Eq.trans (congrArg (fun l => (tget SpareRow.reset l i).pending) (failRegion_spares ..).1) ?_
      exact hset _ _ rfl
    next => exact hset _ _ rfl
  next => exact hset _ _ rfl

section
variable {row : Fin 640} {col : Fin 17} {trig : FailTrigger}

theorem declaration_first (h : triggerHolds s row.val col.val trig = true) (hp : (rowOf_ s row.val).pending = none)
    (h1 : (rowOf_ s row.val).first = 31) (h2 : (rowOf_ s row.val).second = 31) :
    ∃ t, exec (.coreFailureDeclaration row col trig) s = .next t ∧ (rowOf_ t row.val).pending = some (BitVec.ofNat 5 col.val, 31)
      ∧ t.routers = s.routers ∧ (col.val < 16 → (coreOf t (rowCore row.val col.val)).isolated = true) := by
  have hrow := declared_row (s := s) row col trig
  have hrouters : (declared row col trig s).routers = s.routers := logItem_routers ..
  refine ⟨_, declaration_holds h, ?_⟩
  rw [declareFailed_first (by rw [hrow]; exact hp) (by rw [hrow]; exact h1) (by rw [hrow]; exact h2) (last_ne_col col), hrow]
  split
  case isTrue hc =>
    rw [hc]
    exact ⟨congrArg SpareRow.pending (rowOf_setRow ..), hrouters, fun hlt => absurd hlt (Nat.lt_irrefl _)⟩
  case isFalse =>
    obtain ⟨hpending, hr, hgate⟩ := firstFailure_plans (s := declared row col trig s) row.val col.val (rowOf_ s row.val)
    exact ⟨by rw [hpending, h2], hr.trans hrouters, fun _ => hgate⟩

theorem declaration_second (h : triggerHolds s row.val col.val trig = true) (hp : (rowOf_ s row.val).pending = none)
    (h1 : (rowOf_ s row.val).first ≠ 31) (hc : (rowOf_ s row.val).first ≠ BitVec.ofNat 5 col.val) (h2 : (rowOf_ s row.val).second = 31) :
    ∃ t, exec (.coreFailureDeclaration row col trig) s = .next t
      ∧ (rowOf_ t row.val).pending = some ((rowOf_ s row.val).first, BitVec.ofNat 5 col.val) := by
  have hrow := declared_row (s := s) row col trig
  refine ⟨_, declaration_holds h, ?_⟩
  rw [declareFailed_second (by rw [hrow]; exact hp) (by rw [hrow]; exact h1) (by rw [hrow]; exact ne_col hc) (by rw [hrow]; exact h2)
    (last_ne_col col), hrow, secondFailure_plans hp]

theorem declaration_known (h : triggerHolds s row.val col.val trig = true)
    (hc : (rowOf_ s row.val).first = BitVec.ofNat 5 col.val ∨ (rowOf_ s row.val).second = BitVec.ofNat 5 col.val)
    (hp : (rowOf_ s row.val).pending = none) :
    ∃ t, exec (.coreFailureDeclaration row col trig) s = .next t ∧ t.spares = s.spares ∧ t.cores = s.cores := by
  have hrow := declared_row (s := s) row col trig
  refine ⟨_, declaration_holds h, ?_⟩
  rw [declareFailed_known (by rw [hrow]; exact hp) (by
    rw [hrow]
    exact hc.imp (fun e => (congrArg BitVec.toNat e).trans (colBits col)) fun e => (congrArg BitVec.toNat e).trans (colBits col))]
  exact ⟨logItem_spares .., logItem_cores ..⟩

end

/-! ### Migration -/

/-- From `s` to `t` only the cores change. -/
def OnlyCores (s t : State) : Prop := t.spares = s.spares ∧ t.regions = s.regions ∧ t.clock = s.clock ∧ t.dev = s.dev

/-- A migration that runs changes cores, then plans the shift. -/
theorem migrateRow_runs {i : Nat} {readable : Bool} {bad : List Nat} {f g : BitVec 5} (hp : (rowOf_ s i).pending = some (f, g))
    (hgo : ¬ ((rowOf_ s i).migrated = true ∨ (rowOf_ s i).shiftDay.isSome = true ∨ f = (rowOf_ s i).first ∨ s.clock.dayNo < (rowOf_ s i).stopDay)) :
    ∃ u, OnlyCores s u ∧ migrateRow i readable bad s
      = setRow i { rowOf_ s i with migrated := true, shiftDay := some (effDay u) } u := by
  have hmod : ∀ u c h, OnlyCores s u → OnlyCores s (modCore u c h) := fun u c h hu => hu
  unfold migrateRow
  dsimp only
  split
  next h => exact absurd (hp.symm.trans h) (by simp)
  next f' g' h =>
    obtain ⟨rfl, rfl⟩ : f = f' ∧ g = g' := by simpa using hp.symm.trans h
    rw [if_neg hgo]
    refine ⟨_, ?_, rfl⟩
    split
    case isTrue => exact hmod _ _ _ (foldl_ok (fun u c hu => hmod u c _ hu) _ _ ⟨rfl, rfl, rfl, rfl⟩)
    case isFalse => exact foldl_ok (fun u c hu => hmod u c _ hu) _ _ ⟨rfl, rfl, rfl, rfl⟩

theorem migration_plans {row : Fin 640} {readable : Bool} {bad : List Nat} {f g : BitVec 5} (hp : (rowOf_ s row.val).pending = some (f, g))
    (hm : (rowOf_ s row.val).migrated = false) (hs : (rowOf_ s row.val).shiftDay = none) (hf : f ≠ (rowOf_ s row.val).first)
    (hday : (rowOf_ s row.val).stopDay ≤ s.clock.dayNo) :
    ∃ t, exec (.migration row readable bad) s = .next t
      ∧ rowOf_ t row.val = { rowOf_ s row.val with migrated := true, shiftDay := some (effDay s) } ∧ t.regions = s.regions := by
  have hgo : ¬ ((rowOf_ s row.val).migrated = true ∨ (rowOf_ s row.val).shiftDay.isSome = true ∨ f = (rowOf_ s row.val).first
      ∨ s.clock.dayNo < (rowOf_ s row.val).stopDay) := by
    rw [hm, hs]
    simpa using ⟨hf, hday⟩
  obtain ⟨u, ⟨-, hregions, hclock, hdev⟩, hrun⟩ := migrateRow_runs (readable := readable) (bad := bad) hp hgo
  have heff : effDay u = effDay s := by
    unfold effDay
    rw [hclock, hdev]
  refine ⟨_, congrArg Host.Outcome.next hrun, ?_, hregions⟩
  rw [rowOf_setRow, heff]

/-! ### Removed positions -/

/-- A row without a pending change keeps the position of its cores. -/
theorem logical_physical (f : BitVec 5) {p : Nat} (h : p < 16) : logicalCol f (physicalCol f p) = some p := by
  unfold logicalCol
  by_cases hf : f.toNat < 16
  · rw [if_pos hf]
    by_cases hle : f.toNat ≤ p
    · rw [show physicalCol f p = p + 1 from if_pos ⟨hf, hle⟩, if_neg (by omega), if_neg (by omega)]
      rfl
    · rw [show physicalCol f p = p from if_neg fun hc => hle hc.2, if_pos (by omega)]
  · rw [if_neg hf, show physicalCol f p = p from if_neg fun hc => hf hc.1, if_pos h]

theorem rowCore_spareRow (c : CoreId) : rowCore (spareRow c) (coreX c % 16) = c := by
  have hc := c.isLt
  have hrow : spareRow c / 20 = dieOf c := by
    unfold spareRow
    omega
  have hline : spareRow c % 20 = coreY c % 20 := by
    unfold spareRow
    omega
  have hdown : dieOf c / 8 = coreY c / 20 := by
    unfold dieOf coreX
    omega
  have hover : dieOf c % 8 = coreX c / 16 := by
    unfold dieOf coreX
    omega
  refine Fin.ext (?_ : _ % 10240 = c.val)
  rw [hrow, hline, hdown, hover]
  unfold coreX coreY
  omega

theorem relabel_same (n : Nat) {c : CoreId} (h : (rowAt s c).pending = none) : relabel s n c = some c := by
  have hrow : rowOn n (rowAt s c) = rowAt s c := by
    unfold rowOn
    rw [h]
  unfold relabel
  dsimp only
  rw [hrow, logical_physical _ (Nat.mod_lt _ (by decide))]
  exact congrArg some (rowCore_spareRow c)

theorem removalsOn_none (h : s.removalsNext = []) (n : Nat) : removalsOn s n = (s.removals, s.removedDies) := by
  unfold removalsOn
  rw [h]
  rfl

theorem changeRemovals_none (h : s.removalsNext = []) (n : Nat) (f : List (BitVec 14) × List (Fin 32) → List (BitVec 14) × List (Fin 32)) :
    (changeRemovals n f s).removalsNext = [(n, f (s.removals, s.removedDies))] := by
  unfold changeRemovals
  dsimp only
  rw [h, removalsOn_none h]
  rfl

/-- The positions of removed cores, each named once. -/
theorem core_code {c d : CoreId} (h : BitVec.ofNat 14 c.val = BitVec.ofNat 14 d.val) : c = d := by
  have hc := c.isLt
  have hd := d.isLt
  have hn := congrArg BitVec.toNat h
  rw [BitVec.toNat_ofNat, BitVec.toNat_ofNat, Nat.mod_eq_of_lt (by omega), Nat.mod_eq_of_lt (by omega)] at hn
  exact Fin.ext hn

end

end Sys2Proof.Machine

/-!
SUPPORT. Hops, self-tests and flash stores (R422, R425, R429–R431), and all of `FailuresAreHandled`.
-/
namespace Sys2Proof.Machine
open Sys2Proof Sys2Proof.Safety

section
variable {s : State}

/-! ### Bad hops -/

/-- The positions of `l` that no list of removals names yet. -/
def newPositions (l : List CoreId) (s : State) : List (BitVec 14) :=
  (l.map fun c => BitVec.ofNat 14 c.val).filter fun c => !s.removals.contains c

/-- The C-dies of `l` that no list names yet. -/
def newDies (l : List CoreId) (s : State) : List (Fin 32) :=
  (l.map fun c => (Fin.ofNat 32 (dieOf c) : Fin 32)).eraseDups.filter fun d => !s.removedDies.contains d

theorem removePositions_next {l : List CoreId} (hn : s.removalsNext = []) (hl : (l.filterMap (relabel s (effDay s))).eraseDups = l) :
    (removePositions l s).removalsNext = [(effDay s, if decide (64 < s.removals.length + (newPositions l s).length) = true
      then (s.removals, s.removedDies ++ newDies l s) else (s.removals ++ newPositions l s, s.removedDies))] := by
  unfold removePositions
  dsimp only
  rw [hl]
  refine (foldl_ok (P := fun t : State => t.removalsNext = _) (fun u r hu => (failRegion_spares ..).2.trans hu) _ _
    (changeRemovals_none hn _ _)).trans rfl

theorem newPositions_all {l : List CoreId} (h : ∀ c ∈ l, BitVec.ofNat 14 c.val ∉ s.removals) :
    newPositions l s = l.map fun c => BitVec.ofNat 14 c.val := by
  refine List.filter_eq_self.mpr fun x hx => ?_
  obtain ⟨c, hc, rfl⟩ := List.mem_map.mp hx
  have hnot : s.removals.contains (BitVec.ofNat 14 c.val) = false := Bool.eq_false_iff.mpr fun hm => h c hc (List.contains_iff_mem.mp hm)
  rw [hnot]
  rfl

theorem hop_pair {a b : CoreId} (hab : a ≠ b) (hn : s.removalsNext = []) (hpa : (rowAt s a).pending = none)
    (hpb : (rowAt s b).pending = none) (hlen : s.removals.length ≤ 62) (ha : BitVec.ofNat 14 a.val ∉ s.removals)
    (hb : BitVec.ofNat 14 b.val ∉ s.removals) :
    ∃ t, exec (.hopFault a b) s = .next t
      ∧ t.removalsNext = [(effDay s, s.removals ++ [BitVec.ofNat 14 a.val, BitVec.ofNat 14 b.val], s.removedDies)] := by
  have hpair : [a, b].eraseDups = [a, b] := by
    have hba : (b == a) = false := beq_false_of_ne (Ne.symm hab)
    simp [List.eraseDups_cons, hba]
  have hl : ([a, b].filterMap (relabel s (effDay s))).eraseDups = [a, b] := by
    rw [List.filterMap_cons_some (relabel_same _ hpa), List.filterMap_cons_some (relabel_same _ hpb)]
    exact hpair
  have hnew := newPositions_all (s := s) (l := [a, b]) (by simpa using ⟨ha, hb⟩)
  refine ⟨removePositions [a, b] s, by rw [← hpair]; rfl, ?_⟩
  rw [removePositions_next hn hl, hnew, if_neg]
  · rfl
  · simp
    omega

theorem hop_full {a : CoreId} (hn : s.removalsNext = []) (hp : (rowAt s a).pending = none) (hlen : s.removals.length = 64)
    (ha : BitVec.ofNat 14 a.val ∉ s.removals) (hd : s.removedDies = []) :
    ∃ t, exec (.hopFault a a) s = .next t ∧ t.removalsNext = [(effDay s, s.removals, [Fin.ofNat 32 (dieOf a)])] := by
  have hone : [a, a].eraseDups = [a] := by simp [List.eraseDups_cons]
  have hl : ([a].filterMap (relabel s (effDay s))).eraseDups = [a] := by
    rw [List.filterMap_cons_some (relabel_same _ hp)]
    rfl
  have hnew := newPositions_all (s := s) (l := [a]) (by simpa using ha)
  have hdies : newDies [a] s = [Fin.ofNat 32 (dieOf a)] := by
    unfold newDies
    rw [hd]
    rfl
  refine ⟨removePositions [a] s, by rw [← hone]; rfl, ?_⟩
  rw [removePositions_next hn hl, hnew, if_pos, hdies, hd]
  · rfl
  · simp [hlen]

/-! ### Self-tests -/

theorem selfTest_passed {core : CoreId} (h : (coreOf s core).selfTest = some false) :
    ∃ t, exec (.selfTestComplete core true) s = .next t ∧ coreOf t core = { coreOf s core with selfTest := some true } := by
  let u := modCore s core fun c => { c with selfTest := some true }
  have hu : coreOf u core = { coreOf s core with selfTest := some true } := coreOf_modCore_same s core fun c => { c with selfTest := some true }
  refine ⟨_, congrArg Host.Outcome.next (if_neg (fun hne => hne h)), ?_⟩
  rw [if_pos rfl]
  dsimp only
  split
  next r hr =>
    split
    case isTrue => exact hu
    case isFalse => exact hu
  next => exact hu

/-! ### Flash stores -/

/-- A store under way that ends. -/
theorem store_due {item : FlashItem} (h : item ∈ s.flash.busy) (ok : Bool) : exec (.flashStore item ok) s
    = .next (if ok then stored item { s with flash := { s.flash with busy := s.flash.busy.erase item } }
      else reply 0x3D [] (logArmaik none 0x3D (drawFree s).1 (drawFree
        { s with flash := spoilItem { s.flash with busy := s.flash.busy.erase item } item }).2)) := by
  have hdue : (!s.flash.busy.contains item) = false := by simp [h]
  exact congrArg Host.Outcome.next (if_neg (by rw [hdue]; exact Bool.false_ne_true))

theorem spoilPair_read {α : Type} {p : FlashPair α} (h : p.last = false) :
    readPair (spoilPair p) = if p.a.valid then some p.a.value else none := by
  unfold spoilPair readPair
  rw [h]
  cases hv : p.a.valid <;> simp [hv]

theorem store_failed {item : FlashItem} (h : item ∈ s.flash.busy) :
    ∃ t, exec (.flashStore item false) s = .next t ∧ t.flash = spoilItem { s.flash with busy := s.flash.busy.erase item } item
      ∧ t.mgmt.reply.status = 0x3D
      ∧ (item = .certificates → s.flash.certs.last = false → (if s.flash.certs.a.valid then readPair t.flash.certs = some s.flash.certs.a.value
          else readPair t.flash.certs = none)) := by
  let u : State := (drawFree { s with flash := spoilItem { s.flash with busy := s.flash.busy.erase item } item }).2
  let t : State := reply 0x3D [] (logArmaik none 0x3D (drawFree s).1 u)
  have hflash : t.flash = spoilItem { s.flash with busy := s.flash.busy.erase item } item :=
    logItem_flash ⟨0x3D, 48, 0, none, 0, false, (drawFree s).1, []⟩ u
      (show ¬ (0x39 ≤ (0x3D : BitVec 8).toNat ∧ (0x3D : BitVec 8).toNat ≤ 0x3B) by decide)
  refine ⟨t, store_due h false, hflash, rfl, ?_⟩
  rintro rfl hlast
  have hread : readPair t.flash.certs = if s.flash.certs.a.valid then some s.flash.certs.a.value else none := by
    rw [hflash]
    exact spoilPair_read hlast
  rw [hread]
  split
  case isTrue => rfl
  case isFalse => rfl

/-- An item that is wanted again stands among those under way. -/
theorem wantStore_busy (i j : FlashItem) (s : State) : j ∈ (wantStore i s).flash.busy ↔ j ∈ s.flash.busy ∨ j = i := by
  unfold wantStore
  split
  case isTrue h =>
    refine ⟨Or.inl, fun hj => hj.elim id ?_⟩
    rintro rfl
    exact List.contains_iff_mem.mp h
  case isFalse => simp

theorem wantStore_rollback (i : FlashItem) (s : State) : (wantStore i s).flash.rollback = s.flash.rollback := by
  unfold wantStore
  split
  case isTrue => rfl
  case isFalse => rfl

theorem rollback_stored : (stored .rollback s).flash.rollback = writePair s.mgmt.rollback s.flash.rollback
    ∧ (.rollback ∈ (stored .rollback s).flash.busy ↔ .rollback ∈ s.flash.busy
      ∨ rollbackOf (stored .rollback s).flash.rollback ≠ s.mgmt.rollback) := by
  let p := writePair s.mgmt.rollback s.flash.rollback
  let u : State := { s with flash := { s.flash with rollback := p } }
  by_cases hp : rollbackOf p = s.mgmt.rollback
  · have hstored : stored .rollback s = u := if_pos hp
    rw [hstored]
    exact ⟨rfl, fun h => Or.inl h, fun h => h.elim id fun hne => absurd hp hne⟩
  · have hstored : stored .rollback s = wantStore .rollback u := if_neg hp
    rw [hstored, wantStore_rollback, wantStore_busy]
    exact ⟨rfl, fun h => h.imp id fun _ => hp, fun h => h.imp id fun _ => rfl⟩

/-- The other firmware slot than 0. -/
theorem stored_second {slot : Fin 2} (h : slot ≠ 0) :
    stored (.firmware slot) s = { s with flash := { s.flash with slotB := storeSlot s.flash.slotB true } } :=
  (congrArg (fun f => { s with flash := f }) (if_neg h) :)

theorem store_completed {item : FlashItem} (h : item ∈ s.flash.busy) :
    ∃ t, exec (.flashStore item true) s = .next t ∧ (item ≠ .rollback → t.flash.busy = s.flash.busy.erase item)
      ∧ (item = .certificates → t.flash.certs = writePair s.mgmt.owned s.flash.certs)
      ∧ (item = .rollback → t.flash.rollback = writePair s.mgmt.rollback s.flash.rollback
        ∧ (.rollback ∈ t.flash.busy ↔ .rollback ∈ s.flash.busy.erase .rollback ∨ rollbackOf t.flash.rollback ≠ s.mgmt.rollback))
      ∧ (item = .persistentLog → t.flash.plog = writePair s.log.persistent s.flash.plog)
      ∧ (item = .firmware 0 → t.flash.slotA = { s.flash.slotA with valid := true })
      ∧ (item = .spareMap → t.flash.spare = writePair ⟨mapRows s, s.removals, s.removedDies⟩ s.flash.spare) := by
  refine ⟨_, store_due h true, ?_, ?_, ?_, ?_, ?_, ?_⟩
  · intro hne
    cases item with
    | rollback => exact absurd rfl hne
    | firmware slot =>
      by_cases hslot : slot = 0
      · rw [hslot]
        rfl
      · exact congrArg (fun u : State => u.flash.busy) (stored_second hslot)
    | spareMap => rfl
    | certificates => rfl
    | persistentLog => rfl
  · rintro rfl
    rfl
  · rintro rfl
    exact rollback_stored
  · rintro rfl
    rfl
  · rintro rfl
    rfl
  · rintro rfl
    rfl

end

/-- Settles O51: an error stays where its memory, table or queue holds it, a failed core's row plans its spare, and a store completes
in the slot that the last one did not write. -/
theorem failuresAreHandled : Obligations.FailuresAreHandled := by
  unfold Obligations.FailuresAreHandled
  refine ⟨?_, ?_⟩
  · intro core w link way tw f0 stack sec entry ports unit k die fw q iq port e ed u y s
    refine ⟨fun code hw => ?_, ?_, ?_, ?_, ?_, ?_, ?_, ?_, ?_, ?_, ?_, ?_, ?_, ?_, ?_, ?_⟩
    · obtain ⟨hclean, hcorrected⟩ := memory_clean (s := s) (core := core) hw
      exact ⟨hclean, hcorrected, memory_uncorrectable hw⟩
    · exact (table_scrub tw).1
    · exact (table_scrub tw).2
    · exact spill_corrected link way
    · exact spill_uncorrectable link way
    · rfl
    · exact landing_uncorrectable
    · exact patrol
    · exact routeBank_wrong core entry
    · exact borderMask_wrong core ports
    · exact replica_wrong unit k
    · exact flagBank_wrong die fw
    · exact notice_mismatch core q
    · exact injection_mismatch core iq
    · exact staging_mismatch
    · exact crossing_mismatch ed u
  · intro row col trig f g readable bad a b core item s
    refine ⟨declaration_idle, declaration_first, declaration_second, declaration_known, migration_plans, hop_pair, hop_full,
      selfTest_passed, fun h => ⟨store_failed h, store_completed h⟩⟩

end Sys2Proof.Machine

/-!
SUPPORT. The flag clear, the start of Noon and of Dusk, and the budget watchdog (R52, R56, R57, R67, R75, R308, R367).
-/
namespace Sys2Proof.Machine
open Sys2Proof Sys2Proof.Safety

section
variable {s : State} {n : Nat}

/-! ### The steps of Dawn -/

theorem dawnAt_runs {f : State → State} (hdev : s.dev ≠ .midnight) (hp : s.clock.phase = .dawn) (hn : s.clock.cycle ≤ n) :
    dawnAt n f s = f (toCycle n s) := if_pos ⟨hdev, hp, hn⟩

theorem dawnAt_idle {f : State → State} (h : s.clock.phase ≠ .dawn ∨ n < s.clock.cycle) : dawnAt n f s = s :=
  if_neg fun hc => h.elim (fun hp => hp hc.2.1) fun hn => Nat.not_le.mpr hn hc.2.2

theorem toCycle_reaches (hn : s.clock.cycle ≤ n) : (toCycle n s).clock.cycle = n := by
  rw [toCycle_clock]
  exact max_eq_right hn

theorem dawnSteps_idle {i : Instr} {d : DieId}
    (hi : (n, i) ∈ [(32, .dawnControlWords), (128, .variantLatch), (319, .dawnFlagClear d), (448, .dawnEvent), (512, .noonStart)])
    (h : s.clock.phase ≠ .dawn ∨ n < s.clock.cycle) : exec i s = .next s := by
  simp only [List.mem_cons, Prod.mk.injEq, List.not_mem_nil, or_false] at hi
  obtain ⟨rfl, rfl⟩ | ⟨rfl, rfl⟩ | ⟨rfl, rfl⟩ | ⟨rfl, rfl⟩ | ⟨rfl, rfl⟩ := hi
  all_goals exact congrArg Host.Outcome.next (dawnAt_idle h)

/-- A core after time has passed, but for whom its slot was offered to. -/
theorem toCycle_fresh (n : Nat) (s : State) (c : CoreId) : freshSlot (coreOf (toCycle n s) c) = freshSlot (coreOf s c) := by
  rw [toCycle_core]
  rfl

/-- A cycle that passes offers the slot to every thread again. -/
theorem toCycle_passed (h : s.clock.cycle < n) (c : CoreId) : (coreOf (toCycle n s) c).passed = [] := by
  have hn : n - s.clock.cycle ≠ 0 := by omega
  have hcores : (toCycle n s).cores = (ticked (n - s.clock.cycle) s).cores := (dueInvalidations_fields (ticked (n - s.clock.cycle) s)).1
  have hcore : coreOf (toCycle n s) c = { coreOf s c with passed := [] } :=
    (congrArg (tget Core.reset · c.val) hcores).trans ((congrArg (tget Core.reset · c.val) (if_neg hn)).trans
      (tget_tmap (fun _ c => { c with passed := [] }) Core.reset s.cores c.val rfl))
  rw [hcore]

theorem noonStart_begins (hdev : s.dev ≠ .midnight) (hp : s.clock.phase = .dawn) (hn : s.clock.cycle ≤ 512) :
    ∃ t, exec .noonStart s = .next t ∧ t.clock.phase = .noon ∧ t.clock.cycle = 512
      ∧ (∀ c : CoreId, { coreOf t c with passed := [] } = { coreOf s c with passed := [] })
      ∧ (s.clock.cycle < 512 → ∀ c : CoreId, (coreOf t c).passed = []) :=
  ⟨{ toCycle 512 s with clock := { (toCycle 512 s).clock with phase := .noon } }, congrArg Host.Outcome.next (dawnAt_runs hdev hp hn), rfl,
    toCycle_reaches hn, fun c => toCycle_fresh 512 s c, fun h c => toCycle_passed h c⟩

/-! ### The flags of a Dawn -/

theorem bankOf_setBank (s : State) (d : DieId) (b : FlagBank) : bankOf (setBank s d b) d = b := tget_tset_same ..

theorem bankOf_setBank_other {d e : DieId} (h : e ≠ d) (s : State) (b : FlagBank) : bankOf (setBank s d b) e = bankOf s e :=
  tget_tset_other _ _ _ _ _ fun hv => h (Fin.ext hv.symm)

/-- A window of flags cleared. -/
theorem clearWindow_flags (b : FlagBank) (w : DieId × Nat × Nat) {n : Nat} (hn : n < 512) :
    (clearWindow b w).flags.getLsbD n = (b.flags.getLsbD n && !decide (w.2.1 ≤ n ∧ n < w.2.1 + w.2.2)) := by
  have hrange : ∀ k, ((List.range k).foldl (fun b i => putFlag b (w.2.1 + i) false) b).flags.getLsbD n
      = (b.flags.getLsbD n && !decide (w.2.1 ≤ n ∧ n < w.2.1 + k)) := by
    intro k
    induction k with
    | zero =>
      have hnone : decide (w.2.1 ≤ n ∧ n < w.2.1 + 0) = false := decide_eq_false (by omega)
      rw [hnone, Bool.not_false, Bool.and_true]
      rfl
    | succ k ih =>
      rw [List.range_succ, List.foldl_append, List.foldl_cons, List.foldl_nil, putFlag_flags _ _ _ hn, ih]
      by_cases hk : w.2.1 + k = n
      · have hin : w.2.1 ≤ n ∧ n < w.2.1 + (k + 1) := by omega
        simp [hk, hin]
      · have hiff : (w.2.1 ≤ n ∧ n < w.2.1 + (k + 1)) ↔ (w.2.1 ≤ n ∧ n < w.2.1 + k) := by omega
        simp [hk, hiff]
  exact hrange w.2.2

theorem clearWindows_flags (ws : List (DieId × Nat × Nat)) {n : Nat} (hn : n < 512) : ∀ b : FlagBank,
    (ws.foldl clearWindow b).flags.getLsbD n
      = (b.flags.getLsbD n && !ws.any fun w => decide (w.2.1 ≤ n ∧ n < w.2.1 + w.2.2)) := by
  induction ws with
  | nil => simp
  | cons w ws ih =>
    intro b
    rw [List.foldl_cons, ih, clearWindow_flags b w hn, List.any_cons, Bool.not_or, Bool.and_assoc]

theorem deliver_aside (c : CoreId) {f : State → State} (hf : ∀ s, Aside s (f s)) (s : State) : Aside s (deliver c f s) :=
  ite_ok (P := Aside s) (Aside.refl s) (hf s)

theorem modTh_aside (h : Hart) (f : Thread → Thread) (s : State) : Aside s (modTh s h f) := Aside.refl s

theorem latchWait_aside (d : DieId) (s : State) (h : Hart) : Aside s (latchWait d s h) := by
  refine ite_ok (P := Aside s) (Aside.refl s) ?_
  split
  · split
    · split
      · exact ite_ok (P := Aside s) (modTh_aside ..) (Aside.refl s)
      · exact Aside.refl s
    · exact Aside.refl s
  · exact Aside.refl s

theorem testWatch_aside (d : DieId) (us : List FlagUpd) (s : State) (h : Hart) : Aside s (testWatch d us s h) := by
  unfold testWatch
  dsimp only
  split
  · exact ite_ok (P := Aside s) (deliver_aside _ (fun s => (modTh_aside ..).trans (raiseEvent_aside ..)) s) (Aside.refl s)
  · exact Aside.refl s

theorem setBank_aside (d : DieId) (b : FlagBank) (s : State) : Aside s (setBank s d b) := Aside.refl s

theorem bankCycle_aside (d : DieId) (us : List FlagUpd) (s : State) : Aside s (bankCycle d us s) :=
  ((setBank_aside ..).trans (foldl_aside (latchWait_aside d) _ _)).trans (foldl_aside (testWatch_aside d us) _ _)

theorem Aside.clock {s t : State} (h : Aside s t) : t.clock = s.clock := h.1.1.2.1

/-- The updates of a bank that reach it one by one. -/
theorem deliverAll_bank (d : DieId) (s : State) : (∀ u ∈ (deliverAll d s).flight, u.die ≠ d)
    ∧ (∀ e : DieId, e ≠ d → bankOf (deliverAll d s) e = bankOf s e) ∧ (deliverAll d s).clock = s.clock := by
  let P := fun t : State => (∀ u ∈ t.flight, u.die ≠ d) ∧ (∀ e : DieId, e ≠ d → bankOf t e = bankOf s e) ∧ t.clock = s.clock
  refine foldl_ok (P := P) (fun t u h => ?_) _ _ ⟨fun u hu => by simpa using (List.mem_filter.mp hu).2, fun _ _ => rfl, rfl⟩
  obtain ⟨hflight, hbanks, hclock⟩ := h
  obtain ⟨-, hother, hsame⟩ := bankCycle_bank d [u] t
  exact ⟨by rw [hsame]; exact hflight, fun e he => (hother e he).trans (hbanks e he), (bankCycle_aside d [u] t).clock.trans hclock⟩

theorem deliverAll_none {d : DieId} (h : ∀ u ∈ s.flight, u.die ≠ d) : deliverAll d s = s := by
  have hmine : s.flight.filter (fun u => decide (u.die = d)) = [] := List.filter_eq_nil_iff.mpr fun u hu => by simpa using h u hu
  have hrest : s.flight.filter (fun u => decide (u.die ≠ d)) = s.flight := List.filter_eq_self.mpr fun u hu => by simpa using h u hu
  unfold deliverAll
  rw [hmine, hrest]
  rfl

/-- The clear of one bank. -/
def cleared (d : DieId) (s : State) : State :=
  let ws := s.dawnClear.filter fun w => decide (w.1 = d)
  if ws = [] then s
  else setBank (deliverAll d s) d (ws.foldl clearWindow (bankOf (deliverAll d s) d))

theorem cleared_other {d e : DieId} (h : e ≠ d) : bankOf (cleared d s) e = bankOf s e := by
  refine ite_ok (P := fun t : State => bankOf t e = bankOf s e) rfl ?_
  exact (bankOf_setBank_other h ..).trans ((deliverAll_bank d s).2.1 e h)

theorem cleared_clock (d : DieId) : (cleared d s).clock = s.clock :=
  ite_ok (P := fun t : State => t.clock = s.clock) rfl (deliverAll_bank d s).2.2

theorem windows_any (d : DieId) (n : Nat) : ((s.dawnClear.filter fun w => decide (w.1 = d)).any fun w => decide (w.2.1 ≤ n ∧ n < w.2.1 + w.2.2))
    = s.dawnClear.any fun w => decide (w.1 = d ∧ w.2.1 ≤ n ∧ n < w.2.1 + w.2.2) := by
  rw [List.any_filter]
  exact congrArg (List.any s.dawnClear) (funext fun w => by simp [Bool.decide_and])

theorem cleared_window {d : DieId} {w : DieId × Nat × Nat} (hw : w ∈ s.dawnClear) (hd : w.1 = d) :
    (∀ n, w.2.1 ≤ n → n < w.2.1 + w.2.2 → flagAt (cleared d s) d n = false) ∧ ∀ u ∈ (cleared d s).flight, u.die ≠ d := by
  have hmem : w ∈ s.dawnClear.filter fun w => decide (w.1 = d) := List.mem_filter.mpr ⟨hw, decide_eq_true hd⟩
  have hclear : cleared d s = setBank (deliverAll d s) d ((s.dawnClear.filter fun w => decide (w.1 = d)).foldl clearWindow
      (bankOf (deliverAll d s) d)) := if_neg fun h => by rw [h] at hmem; exact List.not_mem_nil hmem
  rw [hclear]
  refine ⟨fun n hl hh => ?_, (deliverAll_bank d s).1⟩
  unfold flagAt bit
  rw [bankOf_setBank]
  by_cases hn : n < 512
  · have hany : ((s.dawnClear.filter fun w => decide (w.1 = d)).any fun w => decide (w.2.1 ≤ n ∧ n < w.2.1 + w.2.2)) = true :=
      List.any_eq_true.mpr ⟨w, hmem, decide_eq_true ⟨hl, hh⟩⟩
    rw [clearWindows_flags _ hn, hany, Bool.not_true, Bool.and_false]
  · exact BitVec.getLsbD_of_ge _ _ (by omega)

theorem cleared_none {d : DieId} (h : ∀ u ∈ s.flight, u.die ≠ d) : (cleared d s).cores = s.cores
    ∧ ∀ n < 512, flagAt (cleared d s) d n = (flagAt s d n && !(s.dawnClear.any fun w =>
        decide (w.1 = d ∧ w.2.1 ≤ n ∧ n < w.2.1 + w.2.2))) := by
  unfold cleared
  dsimp only
  rw [deliverAll_none h]
  split
  case isTrue hnone =>
    refine ⟨rfl, fun n hn => ?_⟩
    rw [← windows_any, hnone]
    simp
  case isFalse =>
    refine ⟨rfl, fun n hn => ?_⟩
    unfold flagAt bit
    rw [← windows_any, bankOf_setBank, clearWindows_flags _ hn]

theorem dawnFlagClear_clears (hdev : s.dev ≠ .midnight) (hp : s.clock.phase = .dawn) (hn : s.clock.cycle ≤ 319) (d : DieId) :
    ∃ t, exec (.dawnFlagClear d) s = .next t ∧ t.clock.cycle = 319
      ∧ (∀ w ∈ s.dawnClear, w.1 = d →
          (∀ n, w.2.1 ≤ n → n < w.2.1 + w.2.2 → flagAt t d n = false) ∧ ∀ u ∈ t.flight, u.die ≠ d)
      ∧ (∀ e : DieId, e ≠ d → bankOf t e = bankOf s e)
      ∧ ((∀ u ∈ s.flight, u.die ≠ d) → (∀ c : CoreId, { coreOf t c with passed := [] } = { coreOf s c with passed := [] })
          ∧ ∀ n < 512, flagAt t d n = (flagAt s d n && !(s.dawnClear.any fun w =>
            decide (w.1 = d ∧ w.2.1 ≤ n ∧ n < w.2.1 + w.2.2)))) := by
  have hclear : (toCycle 319 s).dawnClear = s.dawnClear := (congrArg State.dawnClear (toCycle_rest 319 s) :)
  have hflight : (toCycle 319 s).flight = s.flight := (congrArg State.flight (toCycle_rest 319 s) :)
  have hbanks : (toCycle 319 s).banks = s.banks := (congrArg State.banks (toCycle_rest 319 s) :)
  have hbank : ∀ e, bankOf (toCycle 319 s) e = bankOf s e := fun e => congrArg (tget FlagBank.reset · e.val) hbanks
  refine ⟨cleared d (toCycle 319 s), congrArg Host.Outcome.next (dawnAt_runs hdev hp hn), ?_, fun w hw hd => ?_, fun e he => ?_, fun h => ?_⟩
  · rw [cleared_clock]
    exact toCycle_reaches hn
  · exact cleared_window (by rw [hclear]; exact hw) hd
  · exact (cleared_other he).trans (hbank e)
  · obtain ⟨hcores, hflags⟩ := cleared_none (s := toCycle 319 s) (d := d) (by rw [hflight]; exact h)
    refine ⟨fun c => ?_, fun n hn => ?_⟩
    · have hcore : coreOf (cleared d (toCycle 319 s)) c = coreOf (toCycle 319 s) c := congrArg (tget Core.reset · c.val) hcores
      rw [hcore]
      exact toCycle_fresh 319 s c
    · rw [hflags n hn, hclear]
      unfold flagAt
      rw [hbank]

end

end Sys2Proof.Machine

/-!
SUPPORT. The start of Dusk, the budget watchdog and the events of Dawn (R52, R57, R67, R75–R78, R367, R417).
-/
namespace Sys2Proof.Machine
open Sys2Proof Sys2Proof.Safety

/-- A run over a list that meets `a` establishes `Q`, when `a` does and the others keep it. -/
theorem foldl_reaches {α β : Type} {f : β → α → β} {P Q : β → Prop} {a : α} (hP : ∀ b x, P b → P (f b x)) (hQ : ∀ b x, P b → Q b → Q (f b x))
    (ha : ∀ b, P b → Q (f b a)) {l : List α} (hm : a ∈ l) {b : β} (hb : P b) : Q (l.foldl f b) := by
  induction l generalizing b with
  | nil => exact absurd hm List.not_mem_nil
  | cons x l ih =>
    by_cases hx : a = x
    · subst hx
      exact (foldl_ok (P := fun b => P b ∧ Q b) (fun b x h => ⟨hP b x h.1, hQ b x h.1 h.2⟩) l _ ⟨hP b a hb, ha b hb⟩).2
    · exact ih (List.mem_of_ne_of_mem hx hm) (hP b x hb)

section
variable {s : State}

/-! ### The start of Dusk -/

theorem lateLoad_plain (r : RegionId) (s : State) : Plain s (lateLoad r s) := by
  unfold lateLoad
  split
  next l _ => exact ite_ok (P := Plain s) ((modReg_plain ..).trans (logItem_hostSide ..).1.1) (Plain.refl s)
  next => exact Plain.refl s

theorem lateLoad_ports (r : RegionId) (s : State) : (lateLoad r s).ports = s.ports := by
  unfold lateLoad
  split
  next l _ => exact ite_ok (P := fun t : State => t.ports = s.ports) (logItem_ports ..) rfl
  next => rfl

/-- A region whose load has been abandoned. -/
def LoadLate (r : RegionId) (t : State) : Prop :=
  (regOf t r).load = none ∧ (regOf t r).late = true ∧ (regOf t r).routeStatus = 0x18

/-- A region with a load under way. -/
def Loading (r : RegionId) (t : State) : Prop := ∃ l, (regOf t r).load = some l ∧ l.running = true

theorem regOf_log (i : LogItem) (t : State) (r : RegionId) : regOf (logItem i t) r = regOf t r := by
  unfold regOf
  rw [logItem_regions]

theorem lateLoad_other {r q : RegionId} (h : q ≠ r) (s : State) : regOf (lateLoad q s) r = regOf s r := by
  unfold lateLoad
  split
  next l _ =>
    refine ite_ok (P := fun t : State => regOf t r = regOf s r) ?_ rfl
    exact (regOf_log ..).trans (regOf_modReg_other _ _ _ _ h)
  next => rfl

theorem lateLoad_self {r : RegionId} (h : Loading r s) : LoadLate r (lateLoad r s) := by
  obtain ⟨l, hl, hrun⟩ := h
  have hlate : lateLoad r s = logArmaik (some r) 0x18 (BitVec.ofNat 64 r.val)
      (modReg s r fun x => { x with load := none, late := true, routeStatus := 0x18 }) := by
    unfold lateLoad
    rw [hl]
    exact if_pos hrun
  have hreg : regOf (lateLoad r s) r = { regOf s r with load := none, late := true, routeStatus := 0x18 } := by
    rw [hlate]
    exact (regOf_log ..).trans (regOf_modReg_same s r fun x => { x with load := none, late := true, routeStatus := 0x18 })
  exact ⟨by rw [hreg], by rw [hreg], by rw [hreg]⟩

theorem lateLoad_none {r : RegionId} (h : (regOf s r).load = none) : lateLoad r s = s := by
  unfold lateLoad
  rw [h]

/-- Dusk finds a load under way, and abandons it. -/
theorem eachRegion_late {r : RegionId} (hr : r ∈ regionIds s) (h : Loading r s) : LoadLate r (eachRegion lateLoad s) := by
  refine foldl_reaches (f := fun s r => lateLoad r s) (P := fun t => Loading r t ∨ LoadLate r t) (Q := LoadLate r) (a := r) ?_ ?_ ?_ hr (Or.inl h)
  · intro t q ht
    by_cases hq : q = r
    · subst hq
      exact Or.inr (ht.elim lateLoad_self fun hd => by rw [lateLoad_none hd.1]; exact hd)
    · unfold Loading LoadLate
      rw [lateLoad_other hq]
      exact ht
  · intro t q _ hd
    by_cases hq : q = r
    · subst hq
      rw [lateLoad_none hd.1]
      exact hd
    · unfold LoadLate
      rw [lateLoad_other hq]
      exact hd
  · exact fun t ht => ht.elim lateLoad_self fun hd => by rw [lateLoad_none hd.1]; exact hd

theorem latePort_aside (k : Nat) (s : State) : Aside s (latePort k s) :=
  ite_ok (P := Aside s) (Aside.refl s) (logItem_hostSide _ _).1

/-- A port at the start of Dusk. -/
def dusked (p : LinkPort) : LinkPort := if p.loading.isNone then p else { p with loading := none, loaded := none }

theorem latePort_other {j k : Nat} (h : j ≠ k) (s : State) : tget LinkPort.reset (latePort j s).ports k = tget LinkPort.reset s.ports k := by
  refine ite_ok (P := fun t : State => tget LinkPort.reset t.ports k = tget LinkPort.reset s.ports k) rfl ?_
  refine (congrArg (tget LinkPort.reset · k) (logItem_ports ..)).trans ?_
  exact tget_tset_other _ _ _ _ _ h

theorem latePort_self (k : Nat) (s : State) : tget LinkPort.reset (latePort k s).ports k = dusked (tget LinkPort.reset s.ports k) := by
  unfold latePort dusked
  dsimp only
  split
  case isTrue => rfl
  case isFalse =>
    refine (congrArg (tget LinkPort.reset · k) (logItem_ports ..)).trans ?_
    exact tget_tset_same ..

theorem latePorts_upTo (k m : Nat) : tget LinkPort.reset ((List.range m).foldl (fun s k => latePort k s) s).ports k
    = if k < m then dusked (tget LinkPort.reset s.ports k) else tget LinkPort.reset s.ports k := by
  induction m with
  | zero => rfl
  | succ m ih =>
    rw [List.range_succ, List.foldl_append, List.foldl_cons, List.foldl_nil]
    by_cases hm : m = k
    · subst hm
      rw [latePort_self, ih, if_neg (Nat.lt_irrefl _), if_pos (Nat.lt_succ_self _)]
    · rw [latePort_other hm, ih]
      by_cases hk : k < m
      · rw [if_pos hk, if_pos (by omega)]
      · rw [if_neg hk, if_neg (by omega)]

/-- What Dusk finds, once the clock is there. -/
def duskClock (s : State) : State :=
  { toCycle (dayLen s - duskLen s) s with clock := { (toCycle (dayLen s - duskLen s) s).clock with phase := .dusk } }

/-- The state once Dusk has begun. -/
def duskBegun (s : State) : State := (List.range 16).foldl (fun s k => latePort k s) (eachRegion lateLoad (duskClock s))

theorem duskStart_runs (hdev : s.dev ≠ .midnight) (hp : s.clock.phase = .noon) : exec .duskStart s = .next (duskBegun s) :=
  congrArg Host.Outcome.next (if_neg fun h => h.elim hdev fun hne => hne hp)

theorem eachRegion_plain {f : RegionId → State → State} (hf : ∀ r s, Plain s (f r s)) (s : State) : Plain s (eachRegion f s) :=
  foldl_plain (fun s r => hf r s) _ _

theorem Plain.clock {s t : State} (h : Plain s t) : t.clock = s.clock := h.1.2.1

theorem duskBegun_aside : Aside (eachRegion lateLoad (duskClock s)) (duskBegun s) := foldl_aside (fun s k => latePort_aside k s) _ _

theorem duskBegun_clock (hn : s.clock.cycle ≤ dayLen s - duskLen s) :
    (duskBegun s).clock.phase = .dusk ∧ (duskBegun s).clock.cycle = dayLen s - duskLen s := by
  rw [duskBegun_aside.clock, (eachRegion_plain lateLoad_plain _).clock]
  exact ⟨rfl, toCycle_reaches hn⟩

theorem duskBegun_regions {r : RegionId} (hr : (tfind s.regions r.val).isSome = true) (h : Loading r s) : LoadLate r (duskBegun s) := by
  have hregions : (duskClock s).regions = s.regions := toCycle_regions ..
  have hreg : ∀ q, regOf (duskClock s) q = regOf s q := fun q => congrArg (tget Region.reset · q.val) hregions
  have hlate := eachRegion_late (s := duskClock s) (r := r) (mem_regionIds_of_tfind (by rw [hregions]; exact hr))
    (by unfold Loading; rw [hreg]; exact h)
  have hsame : regOf (duskBegun s) r = regOf (eachRegion lateLoad (duskClock s)) r :=
    congrArg (tget Region.reset · r.val) duskBegun_aside.2
  unfold LoadLate
  rw [hsame]
  exact hlate

theorem duskBegun_port (k : PortId) : portAt (duskBegun s) k = dusked (portAt s k) := by
  have hports : (eachRegion lateLoad (duskClock s)).ports = s.ports := by
    have hload : (eachRegion lateLoad (duskClock s)).ports = (duskClock s).ports :=
      foldl_ok (P := fun t : State => t.ports = (duskClock s).ports) (fun t r h => (lateLoad_ports r t).trans h) _ _ rfl
    exact hload.trans (congrArg State.ports (toCycle_rest (dayLen s - duskLen s) s) :)
  unfold portAt duskBegun
  rw [latePorts_upTo, if_pos k.isLt, hports]

theorem duskStart_idle (hp : s.clock.phase ≠ .noon) : exec .duskStart s = .next s := congrArg Host.Outcome.next (if_pos (Or.inr hp))

theorem dusked_fields (p : LinkPort) : (dusked p).loading = none ∧ (dusked p).loaded = if p.loading.isSome then none else p.loaded := by
  unfold dusked
  cases hl : p.loading with
  | none => exact ⟨hl, rfl⟩
  | some l => exact ⟨rfl, rfl⟩

/-! ### The budget watchdog -/

theorem dayOverrun_marks {core : CoreId} {r : RegionId} (hdev : s.dev = .daylight) (hr : regionOf s core = some r)
    (hrun : (regOf s r).stopped = false) (hb : (coreOf s core).budget ≠ 0) (hd : (coreOf s core).dayDone = false) :
    ∃ t, exec (.dayOverrun core) s = .next t
      ∧ { coreOf t core with passed := [] } = { coreOf s core with overrun := true, passed := [] }
      ∧ t.clock.cycle = max s.clock.cycle (coreOf s core).budget.toNat := by
  let u := toCycle (coreOf s core).budget.toNat s
  have hexec : exec (.dayOverrun core) s = .next (modCore u core fun c => { c with overrun := true }) := by
    refine congrArg Host.Outcome.next (if_pos ⟨hdev, ?_, hb, ?_⟩)
    · rw [hr]
      simp [hrun]
    · simp [hd]
  refine ⟨_, hexec, ?_, congrArg Clock.cycle (toCycle_clock ..)⟩
  have hcore : coreOf (modCore u core fun c => { c with overrun := true }) core = { coreOf u core with overrun := true } :=
    coreOf_modCore_same u core fun c => { c with overrun := true }
  rw [hcore]
  exact congrArg (fun c : Core => { c with overrun := true }) (toCycle_fresh _ s core)

end

end Sys2Proof.Machine

/-!
SUPPORT. The events of Dawn: the stop of a region told at D+32, and E2 at D+448 (R52, R78, R417, R448).
-/
namespace Sys2Proof.Machine
open Sys2Proof Sys2Proof.Safety

section
variable {s : State}

/-! ### Events that are raised -/

/-- From `s` to `t` no event is taken back; who runs and what is isolated stand. -/
def Raised (s t : State) : Prop :=
  Plain s t ∧ (∀ c, (coreOf t c).isolated = (coreOf s c).isolated)
    ∧ ∀ h, (thread t h).run = (thread s h).run
      ∧ ∀ k, (thread s h).evPending.getLsbD k = true → (thread t h).evPending.getLsbD k = true

theorem Raised.refl (s : State) : Raised s s := ⟨Plain.refl s, fun _ => rfl, fun _ => ⟨rfl, fun _ h => h⟩⟩

theorem Raised.trans {s t u : State} (a : Raised s t) (b : Raised t u) : Raised s u :=
  ⟨a.1.trans b.1, fun c => (b.2.1 c).trans (a.2.1 c),
    fun h => ⟨(b.2.2 h).1.trans (a.2.2 h).1, fun k hk => (b.2.2 h).2 k ((a.2.2 h).2 k hk)⟩⟩

theorem isolated_modTh (h : Hart) (f : Thread → Thread) (c : CoreId) : (coreOf (modTh s h f) c).isolated = (coreOf s c).isolated := by
  by_cases hc : h.core = c
  · subst hc
    exact (congrArg Core.isolated (coreOf_modCore_same s h.core fun c => setTh c h.thread (f (thOf c h.thread))) :)
  · exact congrArg Core.isolated (coreOf_modCore_other s h.core c (fun c => setTh c h.thread (f (thOf c h.thread))) hc)

theorem modTh_raised {h : Hart} {f : Thread → Thread} (hrun : ∀ t, (f t).run = t.run)
    (hev : ∀ t k, t.evPending.getLsbD k = true → (f t).evPending.getLsbD k = true) (s : State) : Raised s (modTh s h f) := by
  refine ⟨Plain.refl s, isolated_modTh h f, fun g => ?_⟩
  by_cases hg : h = g
  · subst hg
    rw [thread_modTh_same]
    exact ⟨hrun _, hev _⟩
  · rw [thread_modTh_other _ _ _ _ hg]
    exact ⟨rfl, fun _ hk => hk⟩

theorem logItem_raised (i : LogItem) (s : State) : Raised s (logItem i s) :=
  ⟨(logItem_hostSide i s).1.1, fun c => congrArg Core.isolated (core_log ..), fun h => by rw [thread_log]; exact ⟨rfl, fun _ hk => hk⟩⟩

theorem raiseEvent_raised (h : Hart) (e : Nat) (s : State) : Raised s (raiseEvent h e s) := by
  unfold raiseEvent
  refine modTh_raised ?_ ?_ s
  · exact fun _ => rfl
  · exact fun t k hk => by simp [hk]

theorem noteE5_raised (h : Hart) (cause : BitVec 8) (pc : BitVec 17) (info : Word) (s : State) : Raised s (noteE5 h cause pc info s) := by
  unfold noteE5
  split
  case isTrue =>
    refine modTh_raised ?_ ?_ s
    · exact fun _ => rfl
    · exact fun _ _ hk => hk
  case isFalse =>
    refine Raised.trans ?_ (raiseEvent_raised ..)
    refine modTh_raised ?_ ?_ s
    · exact fun _ => rfl
    · exact fun _ _ hk => hk

theorem raiseE5_raised (h : Hart) (cause : BitVec 8) (pc : BitVec 17) (info : Word) (s : State) : Raised s (raiseE5 h cause pc info s) :=
  ite_ok (P := Raised s) ((noteE5_raised ..).trans (logItem_raised ..)) (noteE5_raised ..)

theorem raiseE5_pending (h : Hart) (cause : BitVec 8) (pc : BitVec 17) (info : Word) (s : State) :
    (thread (raiseE5 h cause pc info s) h).evPending.getLsbD 5 = true := by
  refine ite_ok (P := fun t : State => (thread t h).evPending.getLsbD 5 = true) ?_ (noteE5_pending ..)
  exact (congrArg (fun x : Thread => x.evPending.getLsbD 5) (thread_log ..)).trans (noteE5_pending ..)

theorem deliver_raised (c : CoreId) {f : State → State} (hf : ∀ s, Raised s (f s)) (s : State) : Raised s (deliver c f s) :=
  ite_ok (P := Raised s) (Raised.refl s) (hf s)

theorem toCycle_raised (n : Nat) (s : State) (h : Hart) : thread (toCycle n s) h = thread s h ∧
    (coreOf (toCycle n s) h.core).isolated = (coreOf s h.core).isolated :=
  ⟨toCycle_thread .., by rw [toCycle_core]⟩

/-! ### E2 at D+448 -/

/-- E2 on one thread. -/
def dawnThread (h : Hart) (s : State) : State := if (thread s h).run = .unreleased then s else deliver h.core (raiseEvent h 2) s

theorem dawnThread_raised (h : Hart) (s : State) : Raised s (dawnThread h s) ∧ (dawnThread h s).regions = s.regions :=
  ⟨ite_ok (P := Raised s) (Raised.refl s) (deliver_raised _ (raiseEvent_raised h 2) s),
    ite_ok (P := fun t : State => t.regions = s.regions) rfl (ite_ok (P := fun t : State => t.regions = s.regions) rfl rfl)⟩

theorem dawnThread_pending {h : Hart} (hr : (thread s h).run ≠ .unreleased) (hi : (coreOf s h.core).isolated = false) :
    (thread (dawnThread h s) h).evPending.getLsbD 2 = true := by
  have hraise : dawnThread h s = raiseEvent h 2 s := (if_neg hr).trans (if_neg (by rw [hi]; exact Bool.false_ne_true))
  rw [hraise, raiseEvent, thread_modTh_same]
  simp

/-- A thread that is to hear of Dawn. -/
def Hears (h : Hart) (t : State) : Prop := (thread t h).run ≠ .unreleased ∧ (coreOf t h.core).isolated = false

theorem Raised.hears {s t : State} (a : Raised s t) {h : Hart} (hh : Hears h s) : Hears h t :=
  ⟨fun e => hh.1 ((a.2.2 h).1.symm.trans e), (a.2.1 h.core).trans hh.2⟩

/-- E2 on the threads of a core. -/
def dawnCore (c : CoreId) (s : State) : State := eachThread c dawnThread s

theorem dawnCore_raised (c : CoreId) (s : State) : Raised s (dawnCore c s) ∧ (dawnCore c s).regions = s.regions :=
  foldl_ok (P := fun t => Raised s t ∧ t.regions = s.regions)
    (fun t i h => ⟨h.1.trans (dawnThread_raised ⟨c, i⟩ t).1, (dawnThread_raised ⟨c, i⟩ t).2.trans h.2⟩) _ _ ⟨Raised.refl s, rfl⟩

theorem dawnCore_pending {h : Hart} (hh : Hears h s) : (thread (dawnCore h.core s) h).evPending.getLsbD 2 = true := by
  have hall : ∀ i : Fin 4, i ∈ ([0, 1, 2, 3] : List (Fin 4)) := by decide
  unfold dawnCore eachThread
  refine foldl_reaches (f := fun s i => dawnThread ⟨h.core, i⟩ s) (P := Hears h) (Q := fun t => (thread t h).evPending.getLsbD 2 = true)
    (a := h.thread) ?_ ?_ ?_ (hall h.thread) hh
  · exact fun t i ht => (dawnThread_raised ⟨h.core, i⟩ t).1.hears ht
  · exact fun t i _ ht => ((dawnThread_raised ⟨h.core, i⟩ t).1.2.2 h).2 2 ht
  · exact fun t ht => dawnThread_pending ht.1 ht.2

theorem dawnRegion_cores {r : RegionId} (hv : (regOf s r).valid = true) (hs : (regOf s r).stopped = false) (hn : (regOf s r).night = none) :
    dawnRegion r s = coresIn s r dawnCore := by
  refine if_neg ?_
  rw [hv, hs, hn]
  simp

theorem dawnRegion_raised (r : RegionId) (s : State) : Raised s (dawnRegion r s) ∧ (dawnRegion r s).regions = s.regions :=
  ite_ok (P := fun t => Raised s t ∧ t.regions = s.regions) ⟨Raised.refl s, rfl⟩
    (foldl_ok (P := fun t => Raised s t ∧ t.regions = s.regions)
      (fun t c h => ⟨h.1.trans (dawnCore_raised c t).1, (dawnCore_raised c t).2.trans h.2⟩) _ _ ⟨Raised.refl s, rfl⟩)

theorem dawnRegion_pending {r : RegionId} {h : Hart} (hv : (regOf s r).valid = true) (hs : (regOf s r).stopped = false)
    (hn : (regOf s r).night = none) (hm : h.core ∈ regionCores s r) (hh : Hears h s) :
    (thread (dawnRegion r s) h).evPending.getLsbD 2 = true := by
  rw [dawnRegion_cores hv hs hn]
  exact foldl_reaches (f := fun s c => dawnCore c s) (P := Hears h) (Q := fun t => (thread t h).evPending.getLsbD 2 = true) (a := h.core)
    (fun t c ht => (dawnCore_raised c t).1.hears ht) (fun t c _ ht => ((dawnCore_raised c t).1.2.2 h).2 2 ht)
    (fun t ht => dawnCore_pending ht) hm hh

theorem Raised.regionCores {s t : State} (a : Raised s t) (hr : t.regions = s.regions) (r : RegionId) : regionCores t r = regionCores s r := by
  unfold Machine.regionCores cellEntry regOf
  rw [hr, a.1.1.2.2.2.2.2.2.1]

theorem mem_regionIds_of_valid {r : RegionId} (h : (regOf s r).valid = true) : r ∈ regionIds s := by
  refine mem_regionIds_of_tfind ?_
  unfold regOf tget at h
  cases hf : tfind s.regions r.val with
  | none =>
    rw [hf] at h
    exact absurd h Bool.false_ne_true
  | some x => rfl

theorem dawnEvent_raises (hdev : s.dev ≠ .midnight) (hp : s.clock.phase = .dawn) (hn : s.clock.cycle ≤ 448) :
    ∃ t, exec .dawnEvent s = .next t ∧ t.clock.cycle = 448
      ∧ ∀ (r : RegionId) (h : Hart), (regOf s r).valid = true → (regOf s r).stopped = false → (regOf s r).night = none →
          h.core ∈ regionCores s r → (thread s h).run ≠ .unreleased → (coreOf s h.core).isolated = false →
          (thread t h).evPending.getLsbD 2 = true := by
  let u := toCycle 448 s
  let P := fun t : State => Raised u t ∧ t.regions = u.regions
  have hP : ∀ t q, P t → P (dawnRegion q t) := fun t q h => ⟨h.1.trans (dawnRegion_raised ..).1, (dawnRegion_raised ..).2.trans h.2⟩
  have hend : P (eachRegion dawnRegion u) := foldl_ok (P := P) hP _ _ ⟨Raised.refl u, rfl⟩
  refine ⟨eachRegion dawnRegion u, congrArg Host.Outcome.next (dawnAt_runs hdev hp hn), ?_, fun r h hv hs hnight hm hrun hi => ?_⟩
  · rw [hend.1.1.clock]
    exact toCycle_reaches hn
  · have hreg : regOf u r = regOf s r := toCycle_regOf ..
    have hcells : regionCores u r = regionCores s r := by
      unfold regionCores cellEntry
      rw [hreg, toCycle_cells]
    have hhears : Hears h u := by
      obtain ⟨hthread, hiso⟩ := toCycle_raised 448 s h
      exact ⟨by rw [hthread]; exact hrun, hiso.trans hi⟩
    refine foldl_reaches (f := fun s r => dawnRegion r s) (P := P) (Q := fun t => (thread t h).evPending.getLsbD 2 = true) (a := r) hP
      (fun t q _ ht => ((dawnRegion_raised ..).1.2.2 h).2 2 ht) (fun t ht => ?_) (mem_regionIds_of_valid (by rw [hreg]; exact hv))
      ⟨Raised.refl u, rfl⟩
    have hregt : regOf t r = regOf s r := (congrArg (tget Region.reset · r.val) ht.2).trans hreg
    refine dawnRegion_pending (by rw [hregt]; exact hv) (by rw [hregt]; exact hs) (by rw [hregt]; exact hnight) ?_ (ht.1.hears hhears)
    rw [ht.1.regionCores ht.2, hcells]
    exact hm

end

end Sys2Proof.Machine

/-!
SUPPORT. The control words of Dawn: the monitors of stopped regions are told (R52, R78, R419, R448).
-/
namespace Sys2Proof.Machine
open Sys2Proof Sys2Proof.Safety

section
variable {s : State}

/-! ### Cores that are held or drained keep their events -/

/-- From `s` to `t` every thread's pending events stand, and all that is no core. -/
def EventsKept (s t : State) : Prop := Aside s t ∧ ∀ h, (thread t h).evPending = (thread s h).evPending

theorem EventsKept.refl (s : State) : EventsKept s s := ⟨Aside.refl s, fun _ => rfl⟩
theorem EventsKept.trans {s t u : State} (a : EventsKept s t) (b : EventsKept t u) : EventsKept s u :=
  ⟨a.1.trans b.1, fun h => (b.2 h).trans (a.2 h)⟩

theorem modCore_eventsKept (c : CoreId) {f : Core → Core} (hf : ∀ x i, (thOf (f x) i).evPending = (thOf x i).evPending) (s : State) :
    EventsKept s (modCore s c f) := by
  refine ⟨modCore_aside .., fun h => ?_⟩
  unfold thread
  by_cases hc : c = h.core
  · rw [← hc, coreOf_modCore_same]
    exact hf _ _
  · rw [coreOf_modCore_other _ _ _ _ hc]

theorem setTh_events {t : Thread} {x : Core} {i : Fin 4} (ht : t.evPending = (thOf x i).evPending) (j : Fin 4) :
    (thOf (setTh x i t) j).evPending = (thOf x j).evPending := by
  by_cases hj : i = j
  · subst hj
    rw [thOf_setTh_same, ht]
  · rw [thOf_setTh_other _ _ _ _ hj]

theorem holdCore_eventsKept (c : CoreId) (s : State) : EventsKept s (holdCore c s) := by
  refine modCore_eventsKept c (fun x i => ?_) s
  refine foldl_ok (P := fun y : Core => (thOf y i).evPending = (thOf x i).evPending) (fun y j hy => ?_) _ _ rfl
  refine Eq.trans (setTh_events ?_ i) hy
  rfl

theorem holdMoved_eventsKept (s : State) : EventsKept s (holdMoved s) := by
  refine foldl_ok (P := EventsKept s) (fun t e ht => ?_) _ _ (EventsKept.refl s)
  refine ite_ok (P := EventsKept s) (foldl_ok (P := EventsKept s) (fun u c hu => ?_) _ _ ht) ht
  exact ite_ok (P := EventsKept s) hu (hu.trans (holdCore_eventsKept c u))

theorem thOf_thAll {f : Thread → Thread} (hf : f Thread.reset = Thread.reset) (c : Core) (i : Fin 4) : thOf (thAll f c) i = f (thOf c i) :=
  tget_tmap (fun _ t => f t) Thread.reset c.threads i.val hf

theorem dropMma_events (j : Option MmaJob) (c : Core) (i : Fin 4) : (thOf (dropMma j c) i).evPending = (thOf c i).evPending := by
  unfold dropMma
  split
  next j =>
    refine ite_ok (P := fun x : Core => (thOf x i).evPending = (thOf c i).evPending) (setTh_events ?_ i) rfl
    rfl
  next => rfl

theorem discardThread_events (t : Thread) : (discardThread t).evPending = t.evPending := by
  unfold discardThread
  dsimp only
  split
  next j _ => exact ite_ok (P := fun x : Thread => x.evPending = t.evPending) rfl rfl
  next => rfl

theorem endBinding_threads (c : Core) : (endBinding c).threads = c.threads :=
  ite_ok (P := fun x : Core => x.threads = c.threads) rfl rfl

theorem thOf_congr {c d : Core} (h : c.threads = d.threads) (i : Fin 4) : thOf c i = thOf d i := congrArg (tget Thread.reset · i.val) h

/-- The threads of a core that discards its group. -/
theorem discardCore_thread (c : Core) (i : Fin 4) :
    thOf (discardCore c) i = discardThread (thOf (dropMma c.mmaRun (dropMma c.mmaWait c)) i) :=
  (thOf_congr (endBinding_threads _) i).trans (thOf_thAll rfl (discardWords (dropMma c.mmaRun (dropMma c.mmaWait c))) i)

theorem dropSpec_events (c : Core) (i : Fin 4) : (thOf (dropSpec c) i).evPending = (thOf c i).evPending := by
  have hdrop : thOf (dropSpec c) i = { thOf (discardCore c) i with accSpec := [] } :=
    thOf_thAll (f := fun t => { t with accSpec := [] }) rfl (discardCore c) i
  rw [hdrop, discardCore_thread]
  exact (discardThread_events _).trans ((dropMma_events ..).trans (dropMma_events ..))

theorem drainNight_eventsKept (r : RegionId) (s : State) : EventsKept s (drainNight r s) := by
  refine ite_ok (P := EventsKept s) (foldl_ok (P := EventsKept s) (fun t c ht => ?_) _ _ (EventsKept.refl s)) (EventsKept.refl s)
  refine ite_ok (P := EventsKept s) ht (ht.trans (modCore_eventsKept c (fun x i => ?_) t))
  exact (congrArg Thread.evPending (thOf_congr (retireN_threads _ (dropSpec x)) i)).trans (dropSpec_events x i)

/-! ### The stop is told -/

/-- Whether region `r` has heard of its stop, or need not. -/
def Told (s t : State) (r : RegionId) : Prop :=
  (regOf s r).stopE5 = true → running (thread s (monitorOf s r)) = true → (coreOf s (frontOf s r)).isolated = false →
    (regOf t r).stopE5 = true ∨ (thread t (monitorOf s r)).evPending.getLsbD 5 = true

/-- On the way from `s` to `t` some regions have been told. -/
def Telling (s t : State) : Prop := Raised s t ∧ ∀ r, (∃ b, regOf t r = { regOf s r with stopE5 := b }) ∧ Told s t r

theorem Telling.refl (s : State) : Telling s s := ⟨Raised.refl s, fun _ => ⟨⟨_, rfl⟩, fun h _ _ => Or.inl h⟩⟩

theorem Telling.front {s t : State} (a : Telling s t) (r : RegionId) : frontOf t r = frontOf s r := by
  obtain ⟨b, hb⟩ := (a.2 r).1
  unfold frontOf cellEntry
  rw [hb, a.1.1.1.2.2.2.2.2.2.1]

theorem tellStop_raised (r : RegionId) (s : State) : Raised s (tellStop r s) := by
  have hmod : ∀ f, Raised s (modReg s r f) := fun f => ⟨Plain.refl s, fun _ => rfl, fun _ => ⟨rfl, fun _ h => h⟩⟩
  refine ite_ok (P := Raised s) (Raised.refl s) (ite_ok (P := Raised s) ?_ (hmod _))
  exact (hmod _).trans (deliver_raised _ (raiseE5_raised _ _ _ _) _)

theorem raiseE5_regions (h : Hart) (cause : BitVec 8) (pc : BitVec 17) (info : Word) (s : State) :
    (raiseE5 h cause pc info s).regions = s.regions := by
  obtain ⟨f, hf⟩ := noteE5_thread (s := s) h cause pc info
  have hnote : (noteE5 h cause pc info s).regions = s.regions := by
    rw [hf]
    rfl
  exact ite_ok (P := fun t : State => t.regions = s.regions) ((logItem_regions ..).trans hnote) hnote

theorem deliver_regions (c : CoreId) {f : State → State} (hf : ∀ s, (f s).regions = s.regions) (s : State) :
    (deliver c f s).regions = s.regions := ite_ok (P := fun t : State => t.regions = s.regions) rfl (hf s)

theorem tellStop_regions (r : RegionId) (s : State) :
    (tellStop r s).regions = s.regions ∨ (tellStop r s).regions = (modReg s r fun x => { x with stopE5 := false }).regions := by
  unfold tellStop
  dsimp only
  split
  case isTrue => exact Or.inl rfl
  case isFalse =>
    split
    case isTrue => exact Or.inr (deliver_regions _ (raiseE5_regions _ _ _ _) _)
    case isFalse => exact Or.inr rfl

theorem tellStop_other {q r : RegionId} (h : q ≠ r) (s : State) : regOf (tellStop q s) r = regOf s r := by
  unfold regOf
  rcases tellStop_regions q s with he | he
  · rw [he]
  · rw [he]
    exact regOf_modReg_other s q r (fun x => { x with stopE5 := false }) h

theorem tellStop_idle {r : RegionId} (h : (regOf s r).stopE5 = false) : tellStop r s = s := if_pos (by rw [h]; rfl)

theorem tellStop_self (r : RegionId) (s : State) : regOf (tellStop r s) r = { regOf s r with stopE5 := false } := by
  by_cases h : (regOf s r).stopE5 = true
  · have hreg : (tellStop r s).regions = (modReg s r fun x => { x with stopE5 := false }).regions := by
      unfold tellStop
      dsimp only
      rw [h, if_neg (by decide)]
      split
      case isTrue => exact deliver_regions _ (raiseE5_regions _ _ _ _) _
      case isFalse => rfl
    unfold regOf
    rw [hreg]
    exact regOf_modReg_same s r fun x => { x with stopE5 := false }
  · have hoff : (regOf s r).stopE5 = false := Bool.eq_false_iff.mpr h
    rw [tellStop_idle hoff, ← hoff]

theorem tellStop_pending {r : RegionId} (h : (regOf s r).stopE5 = true) (hrun : running (thread s (monitorOf s r)) = true)
    (hi : (coreOf s (frontOf s r)).isolated = false) : (thread (tellStop r s) (monitorOf s r)).evPending.getLsbD 5 = true := by
  let u := modReg s r fun x => { x with stopE5 := false }
  have hreg : regOf u r = { regOf s r with stopE5 := false } := regOf_modReg_same s r fun x => { x with stopE5 := false }
  have hmon : monitorOf u r = monitorOf s r := by
    unfold monitorOf frontOf
    rw [hreg]
    rfl
  have htell : tellStop r s = raiseE5 (monitorOf u r) (regOf s r).stopCause 0 (BitVec.ofNat 64 r.val) u := by
    unfold tellStop
    dsimp only
    rw [h, if_neg (by decide)]
    refine (if_pos ?_).trans (if_neg ?_)
    · exact (congrArg (fun m => running (thread s m)) hmon).trans hrun
    · refine fun hc => Bool.false_ne_true (hi.symm.trans ?_)
      exact (congrArg (fun m : Hart => (coreOf s m.core).isolated) hmon).symm.trans hc
  rw [htell, ← hmon]
  exact raiseE5_pending ..

theorem Telling.step {t : State} (a : Telling s t) (q : RegionId) : Telling s (tellStop q t) := by
  have hraised := tellStop_raised q t
  refine ⟨a.1.trans hraised, fun r => ?_⟩
  obtain ⟨⟨b, hb⟩, htold⟩ := a.2 r
  have hkeeps : (thread t (monitorOf s r)).evPending.getLsbD 5 = true → (thread (tellStop q t) (monitorOf s r)).evPending.getLsbD 5 = true :=
    (hraised.2.2 _).2 5
  by_cases hq : q = r
  · subst hq
    refine ⟨⟨false, by rw [tellStop_self, hb]⟩, fun hs hrun hi => Or.inr ?_⟩
    rcases htold hs hrun hi with hon | hdone
    · have hmon : monitorOf t q = monitorOf s q := congrArg (Hart.mk · 0) (a.front q)
      have hrunt : running (thread t (monitorOf s q)) = true := by
        unfold running at hrun ⊢
        rw [(a.1.2.2 _).1]
        exact hrun
      rw [← hmon]
      exact tellStop_pending hon (by rw [hmon]; exact hrunt) (by rw [a.front q]; exact (a.1.2.1 _).trans hi)
    · exact hkeeps hdone
  · have hreg := tellStop_other hq t
    exact ⟨⟨b, hreg.trans hb⟩, fun hs hrun hi => (htold hs hrun hi).imp (fun hon => by rw [hreg]; exact hon) hkeeps⟩

theorem told_all {r : RegionId} (hr : r ∈ regionIds s) : Telling s (eachRegion tellStop s) ∧ (regOf (eachRegion tellStop s) r).stopE5 = false := by
  refine ⟨foldl_ok (P := Telling s) (fun t q ht => ht.step q) _ _ (Telling.refl s), ?_⟩
  refine foldl_reaches (f := fun s r => tellStop r s) (P := fun _ => True) (Q := fun t => (regOf t r).stopE5 = false) (a := r) (fun _ _ _ => trivial)
    (fun t q _ ht => ?_) (fun t _ => by rw [tellStop_self]) hr trivial
  by_cases hq : q = r
  · subst hq
    rw [tellStop_self]
  · rw [tellStop_other hq]
    exact ht

/-- The end of D+32. -/
def dawnTold (s : State) : State := eachRegion drainNight (holdMoved (eachRegion tellStop s))

theorem dawnTold_kept : EventsKept (eachRegion tellStop s) (dawnTold s) :=
  (holdMoved_eventsKept _).trans (foldl_ok (P := EventsKept _) (fun t r ht => ht.trans (drainNight_eventsKept r t)) _ _ (EventsKept.refl _))

theorem dawnControlWords_tell (hdev : s.dev ≠ .midnight) (hp : s.clock.phase = .dawn) (hn : s.clock.cycle ≤ 32) :
    ∃ t, exec .dawnControlWords s = .next t ∧ t.clock.cycle = 32
      ∧ ∀ r : RegionId, (tfind s.regions r.val).isSome → (regOf t r).stopE5 = false
        ∧ ((regOf s r).stopE5 = true → running (thread s (monitorOf s r)) = true → (coreOf s (frontOf s r)).isolated = false →
          (thread t (monitorOf s r)).evPending.getLsbD 5 = true) := by
  let u := toCycle 32 s
  have hkept : EventsKept (eachRegion tellStop u) (dawnTold u) := dawnTold_kept
  have htelling : Telling u (eachRegion tellStop u) := foldl_ok (P := Telling u) (fun t q ht => ht.step q) _ _ (Telling.refl u)
  refine ⟨dawnTold u, congrArg Host.Outcome.next (dawnAt_runs hdev hp hn), ?_, fun r hr => ?_⟩
  · rw [hkept.1.clock, htelling.1.1.clock]
    exact toCycle_reaches hn
  · have hregions : u.regions = s.regions := toCycle_regions ..
    have hreg : regOf u r = regOf s r := toCycle_regOf ..
    have hfront : frontOf u r = frontOf s r := by
      unfold frontOf cellEntry
      rw [hreg, toCycle_cells]
    have hmon : monitorOf u r = monitorOf s r := congrArg (Hart.mk · 0) hfront
    obtain ⟨-, hoff⟩ := told_all (s := u) (r := r) (mem_regionIds_of_tfind (by rw [hregions]; exact hr))
    have hregt : regOf (dawnTold u) r = regOf (eachRegion tellStop u) r := congrArg (tget Region.reset · r.val) hkept.1.2
    refine ⟨by rw [hregt]; exact hoff, fun hs hrun hi => ?_⟩
    obtain ⟨hthread, hiso⟩ := toCycle_raised 32 s (monitorOf s r)
    have htold := (htelling.2 r).2 (by rw [hreg]; exact hs) (by rw [hmon, hthread]; exact hrun) (by rw [hfront]; exact hiso.trans hi)
    rw [hkept.2, ← hmon]
    exact htold.resolve_left (by rw [hoff]; exact Bool.false_ne_true)

end

end Sys2Proof.Machine

/-!
SUPPORT. What D+128 leaves of a core whose group it commits or discards (R232–R234).
-/
namespace Sys2Proof.Machine
open Sys2Proof Sys2Proof.Safety

/-! ### Tables -/

theorem tfind_above {α : Type} {t : Tab α} {k : Nat} (h : ∀ e ∈ t, k < e.1) : tfind t k = none := by
  induction t with
  | nil => rfl
  | cons e t ih =>
    have hk : e.1 ≠ k := Nat.ne_of_gt (h e (List.mem_cons_self ..))
    exact (if_neg hk).trans (ih fun x hx => h x (List.mem_cons_of_mem _ hx))

/-- A merged table finds what the one written over it holds. -/
theorem tfind_tmerge {α : Type} {u : Tab α} (hu : tsorted u = true) (t : Tab α) (n : Nat) :
    tfind (tmerge t u) n = (tfind u n).or (tfind t n) := by
  induction u generalizing t with
  | nil => rfl
  | cons e u ih =>
    obtain ⟨k, v⟩ := e
    refine (ih (tsorted_tail _ _ hu) (tset t k v)).trans ?_
    by_cases hk : k = n
    · subst hk
      rw [tfind_above (tsorted_low k v u hu), tfind_tset_same, show tfind ((k, v) :: u) k = some v from if_pos rfl]
      rfl
    · rw [tfind_tset_other _ _ _ _ hk, show tfind ((k, v) :: u) n = tfind u n from if_neg hk]

/-- The entries that a filter keeps. -/
theorem tfind_filter_value {α : Type} (p : α → Bool) {t : Tab α} (ht : tsorted t = true) (n : Nat) :
    tfind (t.filter fun e => p e.2) n = (tfind t n).filter p := by
  induction t with
  | nil => rfl
  | cons e t ih =>
    obtain ⟨k, v⟩ := e
    have htail := ih (tsorted_tail _ _ ht)
    by_cases hk : k = n
    · subst hk
      have hnone : tfind t k = none := tfind_above (tsorted_low k v t ht)
      by_cases hp : p v = true
      · simp [hp, tfind, Option.filter]
      · simp [hp, tfind, htail, hnone, Option.filter]
    · by_cases hp : p v = true
      · simp [hp, tfind, hk, htail]
      · simp [hp, tfind, hk, htail]

theorem tmap_fixed {α : Type} {f : Nat → α → α} {t : Tab α} (h : ∀ e ∈ t, f e.1 e.2 = e.2) : tmap f t = t := by
  induction t with
  | nil => rfl
  | cons e t ih =>
    obtain ⟨k, v⟩ := e
    have hv : f k v = v := h (k, v) (List.mem_cons_self ..)
    rw [tmap, hv, ih fun x hx => h x (List.mem_cons_of_mem _ hx)]

theorem tmap_tmap {α : Type} (f g : Nat → α → α) (t : Tab α) : tmap f (tmap g t) = tmap (fun k v => f k (g k v)) t := by
  induction t with
  | nil => rfl
  | cons e t ih =>
    obtain ⟨k, v⟩ := e
    rw [tmap, tmap, tmap, ih]

/-! ### A thread that commits -/

/-- A row as a commit leaves it, the marks of failed parity aside. -/
def ordinaryRow (x : TileRow) : TileRow := { x with spec := false }

/-- The rows of a commit. -/
def committedRows (t : Thread) : Tab TileRow := (deferredOf t).parity.foldl markFailed (tmap (fun _ x => ordinaryRow x) t.rows)

theorem markFailed_cases (l : Tab TileRow) (e : Nat × TileRow) : markFailed l e = l
    ∨ (tget ⟨0, false, false, false⟩ l e.1 = ordinaryRow e.2 ∧ markFailed l e = tset l e.1 { ordinaryRow e.2 with poison := true }) := by
  unfold markFailed
  split
  case isTrue h => exact Or.inr ⟨h, rfl⟩
  case isFalse => exact Or.inl rfl

theorem committedRows_spec (t : Thread) : ∀ e ∈ committedRows t, e.2.spec = false := by
  refine foldl_ok (P := fun l : Tab TileRow => ∀ e ∈ l, e.2.spec = false) (fun l x hl => ?_) _ _ ?_
  · rcases markFailed_cases l x with h | ⟨-, h⟩
    · rw [h]
      exact hl
    · rw [h]
      intro e he
      rcases mem_tset he with heq | hm
      · rw [heq]
        rfl
      · exact hl e hm
  · intro e he
    obtain ⟨v, -, hv⟩ := mem_tmap he
    rw [hv]
    rfl

theorem markFailed_row {l : Tab TileRow} {k : Nat} {x y : TileRow} (e : Nat × TileRow) (hy : tfind l k = some y)
    (h : y.spec = false ∧ y.data = x.data ∧ y.valid = x.valid) :
    ∃ z, tfind (markFailed l e) k = some z ∧ z.spec = false ∧ z.data = x.data ∧ z.valid = x.valid := by
  rcases markFailed_cases l e with hm | ⟨hrow, hm⟩
  · exact ⟨y, by rw [hm]; exact hy, h⟩
  · rw [hm]
    by_cases hk : e.1 = k
    · subst hk
      have hget : tget ⟨0, false, false, false⟩ l e.1 = y := by
        unfold tget
        rw [hy]
        rfl
      have hey : ordinaryRow e.2 = y := hrow.symm.trans hget
      refine ⟨_, tfind_tset_same .., rfl, ?_, ?_⟩
      · exact (congrArg TileRow.data hey).trans h.2.1
      · exact (congrArg TileRow.valid hey).trans h.2.2
    · exact ⟨y, by rw [tfind_tset_other _ _ _ _ hk]; exact hy, h⟩

theorem committedRows_find {t : Thread} {k : Nat} {x : TileRow} (hx : tfind t.rows k = some x) :
    ∃ y, tfind (committedRows t) k = some y ∧ y.spec = false ∧ y.data = x.data ∧ y.valid = x.valid
      ∧ ((deferredOf t).parity = [] → y.poison = x.poison) := by
  have hstart : tfind (tmap (fun _ x => ordinaryRow x) t.rows) k = some (ordinaryRow x) := by
    rw [tfind_tmap, hx]
    rfl
  obtain ⟨y, hy, hfields⟩ := foldl_ok (f := markFailed)
    (P := fun l : Tab TileRow => ∃ y, tfind l k = some y ∧ y.spec = false ∧ y.data = x.data ∧ y.valid = x.valid)
    (fun l e hl => by obtain ⟨y, hy, h⟩ := hl; exact markFailed_row e hy h) (deferredOf t).parity _ ⟨_, hstart, rfl, rfl, rfl⟩
  refine ⟨y, hy, hfields.1, hfields.2.1, hfields.2.2, fun hnone => ?_⟩
  have hrows : committedRows t = tmap (fun _ x => ordinaryRow x) t.rows := by
    unfold committedRows
    rw [hnone]
    rfl
  have hsame : y = ordinaryRow x := by
    have h : tfind (committedRows t) k = some y := hy
    rw [hrows, hstart] at h
    exact (Option.some.inj h).symm
  rw [hsame]
  rfl

/-- A second commit finds nothing to do. -/
theorem commitThread_twice (t : Thread) : commitThread (commitThread t) = commitThread t := by
  have hrows : (commitThread (commitThread t)).rows = (commitThread t).rows :=
    tmap_fixed fun e he => by
      have hspec : e.2.spec = false := committedRows_spec t e he
      change ({ e.2 with spec := false } : TileRow) = e.2
      rw [← hspec]
  have hflags : (commitThread (commitThread t)).fpFlags = (commitThread t).fpFlags := BitVec.or_zero
  have hjob : (commitThread (commitThread t)).acvt = (commitThread t).acvt := by
    change (Option.map _ (Option.map _ t.acvt)) = Option.map _ t.acvt
    rw [Option.map_map]
    rfl
  calc commitThread (commitThread t)
      = { commitThread t with rows := (commitThread (commitThread t)).rows, fpFlags := (commitThread (commitThread t)).fpFlags,
                              acvt := (commitThread (commitThread t)).acvt } := rfl
    _ = commitThread t := by rw [hrows, hflags, hjob]

end Sys2Proof.Machine

/-!
SUPPORT. A core that commits or discards its group, and does so once (R232–R234).
-/
namespace Sys2Proof.Machine
open Sys2Proof Sys2Proof.Safety

section
variable {c : Core}

theorem shadowsOf_congr {t u : Thread} (h : t.accSpec = u.accSpec) : shadowsOf t = shadowsOf u := by
  unfold shadowsOf
  rw [h]

theorem shadowKeys_congr {c d : Core} (h : ∀ i, (thOf c i).accSpec = (thOf d i).accSpec) : shadowKeys c = shadowKeys d := by
  unfold shadowKeys
  exact congrArg (List.flatMap · (List.range 4)) (funext fun i => by rw [shadowsOf_congr (h (Fin.ofNat 4 i))])

theorem thAll_twice {f : Thread → Thread} (hf : ∀ t, f (f t) = f t) (c : Core) : thAll f (thAll f c) = thAll f c := by
  unfold thAll
  dsimp only
  rw [tmap_tmap]
  exact congrArg (fun l => { c with threads := l }) (congrArg (tmap · c.threads) (funext fun _ => funext fun t => hf t))

theorem endBinding_none (h : c.resolving = []) : (endBinding c).group = none := by
  unfold endBinding
  rw [h]
  rfl

theorem endBinding_resolving (c : Core) : (endBinding c).resolving = c.resolving :=
  ite_ok (P := fun x : Core => x.resolving = c.resolving) rfl rfl

/-- What is done twice to a core, its binding ended after each, is done once. -/
theorem bound_twice {f : Core → Core} (hf : ∀ x, f (f x) = f x) (hg : ∀ x, f { x with group := none } = { f x with group := none })
    (c : Core) : endBinding (f (endBinding (f c))) = endBinding (f c) := by
  by_cases h : (f c).resolving.isEmpty = true
  · have hend : endBinding (f c) = { f c with group := none } := if_pos h
    rw [hend, hg, hf]
    exact if_pos h
  · have hend : endBinding (f c) = f c := if_neg h
    rw [hend, hf, hend]

/-! ### A commit -/

/-- A core that commits, its binding aside. -/
def commitBound (c : Core) : Core :=
  { thAll commitThread c with
    specMark := []
    stores := c.stores.map fun e => { e with spec := false }
    mmaRun := unspecJob c.mmaRun
    mmaWait := unspecJob c.mmaWait
    resolving := (shadowKeys c).map fun k => (k, true) }

theorem commitCore_thread (c : Core) (i : Fin 4) : thOf (commitCore c) i = commitThread (thOf c i) :=
  (thOf_congr (endBinding_threads (commitBound c)) i).trans (thOf_thAll (by decide) c i)

/-- What a commit leaves of the group. -/
theorem commitCore_binding (c : Core) : (commitCore c).resolving = (shadowKeys c).map (fun k => (k, true))
    ∧ (shadowKeys c = [] → (commitCore c).group = none) :=
  ⟨endBinding_resolving (commitBound c), fun h => endBinding_none (c := commitBound c) (by
    change (shadowKeys c).map _ = []
    rw [h]
    rfl)⟩

theorem commitCore_fields (c : Core) : (commitCore c).specMark = [] ∧ (commitCore c).mem = c.mem ∧ (commitCore c).poison = c.poison
    ∧ (commitCore c).stores = c.stores.map fun e => { e with spec := false } :=
  ite_ok (P := fun x : Core => x.specMark = [] ∧ x.mem = c.mem ∧ x.poison = c.poison
    ∧ x.stores = c.stores.map fun e => { e with spec := false }) ⟨rfl, rfl, rfl, rfl⟩ ⟨rfl, rfl, rfl, rfl⟩

theorem commitCore_committed (h : ∀ i, tsorted (thOf c i).pSpec = true ∧ tsorted (thOf c i).vSpec = true) : committed c (commitCore c) := by
  obtain ⟨hmark, hmem, hpoison, hstores⟩ := commitCore_fields c
  refine ⟨hmark, hmem, hpoison, fun e he => ?_, fun i => ?_⟩
  · rw [hstores] at he
    obtain ⟨x, -, rfl⟩ := List.mem_map.mp he
    rfl
  · obtain ⟨hp, hv⟩ := h i
    dsimp only
    rw [commitCore_thread]
    refine ⟨rfl, rfl, rfl, fun n => ⟨tfind_tmerge hp _ n, tfind_tmerge hv _ n⟩, fun k x hx => committedRows_find hx, rfl, rfl, ?_⟩
    change (match (deferredOf (thOf c i)).fault with | some f => some f | none => (thOf c i).deferredFault) = _
    cases (deferredOf (thOf c i)).fault with
    | some f => rfl
    | none => rfl

theorem unspecJob_twice (j : Option MmaJob) : unspecJob (unspecJob j) = unspecJob j := by
  cases j with
  | none => rfl
  | some j => rfl

theorem commitBound_twice (c : Core) : commitBound (commitBound c) = commitBound c := by
  have hkeys : shadowKeys (commitBound c) = shadowKeys c :=
    shadowKeys_congr fun i => (congrArg Thread.accSpec (thOf_thAll (f := commitThread) (by decide) c i) :)
  have hthreads : (thAll commitThread (commitBound c)).threads = (thAll commitThread c).threads :=
    (congrArg Core.threads (thAll_twice commitThread_twice c) :)
  have hstores : (c.stores.map fun e => { e with spec := false }).map (fun e => { e with spec := false })
      = c.stores.map fun e : StoreEntry => { e with spec := false } := by rw [List.map_map]; rfl
  calc commitBound (commitBound c)
      = { commitBound c with
          threads := (thAll commitThread (commitBound c)).threads
          stores := (c.stores.map fun e => { e with spec := false }).map fun e => { e with spec := false }
          mmaRun := unspecJob (unspecJob c.mmaRun)
          mmaWait := unspecJob (unspecJob c.mmaWait)
          resolving := (shadowKeys (commitBound c)).map fun k => (k, true) } := rfl
    _ = commitBound c := by rw [hthreads, hstores, unspecJob_twice, unspecJob_twice, hkeys]; rfl

theorem commitCore_twice (c : Core) : commitCore (commitCore c) = commitCore c := bound_twice (f := commitBound) commitBound_twice (fun _ => rfl) c

end

end Sys2Proof.Machine

/-!
SUPPORT. A core that discards its group (R233, R234).
-/
namespace Sys2Proof.Machine
open Sys2Proof Sys2Proof.Safety

section
variable {c : Core}

/-! ### Marked words -/

theorem mget_marked (ws : List Nat) (m : Mem) (a : Nat) :
    mget (ws.foldl (fun m w => mzero m (8 * w) (8 * w + 8)) m) a = if a / 8 ∈ ws then 0 else mget m a := by
  induction ws generalizing m with
  | nil => simp
  | cons w ws ih =>
    rw [List.foldl_cons, ih, mget_mzero]
    by_cases hw : a / 8 = w
    · have hin : 8 * w ≤ a ∧ a < 8 * w + 8 := by omega
      simp [hw, hin]
    · have hout : ¬ (8 * w ≤ a ∧ a < 8 * w + 8) := by omega
      by_cases hm : a / 8 ∈ ws
      · simp [hm]
      · simp [hw, hm, hout]

/-! ### Threads -/

/-- From `t` to `u` a thread may stop waiting for a dropped job. -/
def Unstuck (t u : Thread) : Prop := ∃ pc run, u = { t with pc := pc, run := run }

theorem Unstuck.refl (t : Thread) : Unstuck t t := ⟨t.pc, t.run, rfl⟩

theorem Unstuck.trans {t u v : Thread} (a : Unstuck t u) (b : Unstuck u v) : Unstuck t v := by
  obtain ⟨pc, run, rfl⟩ := a
  obtain ⟨pc', run', rfl⟩ := b
  exact ⟨pc', run', rfl⟩

/-- A core in which a job's thread is freed. -/
theorem dropMma_cases (j : Option MmaJob) (c : Core) : dropMma j c = c
    ∨ ∃ i, dropMma j c = setTh c i (advPc 4 { thOf c i with run := .ready }) := by
  unfold dropMma
  split
  next j =>
    split
    case isTrue => exact Or.inr ⟨_, rfl⟩
    case isFalse => exact Or.inl rfl
  next => exact Or.inl rfl

theorem dropMma_thread (j : Option MmaJob) (c : Core) (i : Fin 4) : Unstuck (thOf c i) (thOf (dropMma j c) i) := by
  rcases dropMma_cases j c with h | ⟨k, h⟩
  · rw [h]
    exact Unstuck.refl _
  · rw [h]
    by_cases hk : k = i
    · subst hk
      rw [thOf_setTh_same]
      exact ⟨_, _, rfl⟩
    · rw [thOf_setTh_other _ _ _ _ hk]
      exact Unstuck.refl _

/-- Only threads differ. -/
theorem dropMma_rest (j : Option MmaJob) (c : Core) : { dropMma j c with threads := c.threads } = c := by
  rcases dropMma_cases j c with h | ⟨k, h⟩
  · rw [h]
  · rw [h]
    rfl

/-- The core before its words are discarded. -/
def freed (c : Core) : Core := dropMma c.mmaRun (dropMma c.mmaWait c)

theorem freed_thread (c : Core) (i : Fin 4) : Unstuck (thOf c i) (thOf (freed c) i) := (dropMma_thread ..).trans (dropMma_thread ..)

theorem freed_rest (c : Core) : { freed c with threads := c.threads } = c :=
  (congrArg (fun x : Core => { x with threads := c.threads }) (dropMma_rest c.mmaRun (dropMma c.mmaWait c))).trans (dropMma_rest c.mmaWait c)

/-- What a discard drops of a thread. -/
def quieted (t : Thread) : Thread := { t with pSpec := [], vSpec := [], rows := t.rows.filter fun e => !e.2.spec, deferred := none }

theorem discardThread_cases (t : Thread) : (discardThread t = quieted t ∧ ∀ j, t.acvt = some j → j.spec = false)
    ∨ discardThread t = advPc 4 { quieted t with acvt := none, run := .ready } := by
  unfold discardThread
  dsimp only
  split
  next j hj =>
    split
    case isTrue => exact Or.inr rfl
    case isFalse hs => exact Or.inl ⟨rfl, fun k hk => by rw [hj] at hk; cases hk; exact Bool.eq_false_iff.mpr hs⟩
  next hj => exact Or.inl ⟨rfl, fun k hk => by rw [hj] at hk; cases hk⟩

theorem discardThread_rest (t : Thread) : ∃ pc run acvt, discardThread t = { quieted t with pc := pc, run := run, acvt := acvt } := by
  rcases discardThread_cases t with ⟨h, -⟩ | h
  · exact ⟨_, _, _, h⟩
  · exact ⟨_, _, _, h⟩

theorem quieted_twice (t : Thread) : quieted (quieted t) = quieted t := by
  have hrows : (t.rows.filter fun e => !e.2.spec).filter (fun e => !e.2.spec) = t.rows.filter fun e => !e.2.spec := by
    rw [List.filter_filter]
    exact congrArg (List.filter · t.rows) (funext fun e => Bool.and_self _)
  exact (congrArg (fun l => { quieted t with rows := l }) hrows :)

/-- A thread that waits for no speculative job loses its copies alone. -/
theorem discardThread_settled {t : Thread} (h : ∀ j, t.acvt = some j → j.spec = false) : discardThread t = quieted t := by
  unfold discardThread
  dsimp only
  split
  next j hj => exact if_neg (by rw [h j hj]; exact Bool.false_ne_true)
  next => rfl

theorem discardThread_twice (t : Thread) : discardThread (discardThread t) = discardThread t := by
  rcases discardThread_cases t with ⟨h, hj⟩ | h
  · rw [h]
    exact (discardThread_settled (t := quieted t) hj).trans (quieted_twice t)
  · rw [h]
    refine (discardThread_settled (t := advPc 4 { quieted t with acvt := none, run := .ready }) fun j hj => by cases hj).trans ?_
    exact (congrArg (fun u : Thread => advPc 4 { u with acvt := none, run := .ready }) (quieted_twice t) :)

/-! ### The core -/

/-- A core that discards, its binding aside. -/
def discardBound (c : Core) : Core :=
  { thAll discardThread (discardWords (freed c)) with
    mmaRun := keepJob (freed c).mmaRun
    mmaWait := keepJob (freed c).mmaWait
    resolving := (shadowKeys (freed c)).map fun k => (k, false) }

theorem discardCore_eq (c : Core) : discardCore c = endBinding (discardBound c) := rfl

theorem freed_keys (c : Core) : shadowKeys (freed c) = shadowKeys c :=
  shadowKeys_congr fun i => by
    obtain ⟨pc, run, h⟩ := freed_thread c i
    rw [h]

theorem discardBound_thread (c : Core) (i : Fin 4) : thOf (discardBound c) i = discardThread (thOf (freed c) i) :=
  thOf_thAll rfl (discardWords (freed c)) i

theorem discardCore_binding (c : Core) : (discardCore c).resolving = (shadowKeys c).map (fun k => (k, false))
    ∧ (shadowKeys c = [] → (discardCore c).group = none) := by
  have hkeys : (discardBound c).resolving = (shadowKeys c).map fun k => (k, false) := by
    rw [← freed_keys c]
    rfl
  exact ⟨(endBinding_resolving (discardBound c)).trans hkeys, fun h => endBinding_none (c := discardBound c) (by rw [hkeys, h]; rfl)⟩

/-- The words and the stores of a core that discards. -/
theorem discardBound_words (c : Core) : (discardBound c).specMark = [] ∧ (discardBound c).stores = c.stores.filter (fun e => !e.spec)
    ∧ (discardBound c).mem = c.specMark.foldl (fun m w => mzero m (8 * w) (8 * w + 8)) c.mem
    ∧ (discardBound c).poison = c.poison.filter fun w => !c.specMark.contains w := by
  have hrest := freed_rest c
  have hmark : (freed c).specMark = c.specMark := (congrArg Core.specMark hrest :)
  have hstores : (freed c).stores = c.stores := (congrArg Core.stores hrest :)
  have hmem : (freed c).mem = c.mem := (congrArg Core.mem hrest :)
  have hpoison : (freed c).poison = c.poison := (congrArg Core.poison hrest :)
  refine ⟨rfl, ?_, ?_, ?_⟩
  · rw [← hstores]
    rfl
  · rw [← hmem, ← hmark]
    rfl
  · rw [← hpoison, ← hmark]
    rfl

theorem endBinding_words (c : Core) : (endBinding c).specMark = c.specMark ∧ (endBinding c).stores = c.stores
    ∧ (endBinding c).mem = c.mem ∧ (endBinding c).poison = c.poison :=
  ite_ok (P := fun x : Core => x.specMark = c.specMark ∧ x.stores = c.stores ∧ x.mem = c.mem ∧ x.poison = c.poison)
    ⟨rfl, rfl, rfl, rfl⟩ ⟨rfl, rfl, rfl, rfl⟩

theorem discardCore_discarded (h : ∀ i, tsorted (thOf c i).rows = true) : discarded c (discardCore c) := by
  obtain ⟨hmark, hstores, hmem, hpoison⟩ := discardBound_words c
  obtain ⟨emark, estores, emem, epoison⟩ := endBinding_words (discardBound c)
  refine ⟨emark.trans hmark, estores.trans hstores, fun a => ?_, fun w => ?_, fun i => ?_⟩
  · rw [show (discardCore c).mem = _ from emem.trans hmem]
    exact mget_marked ..
  · rw [show (discardCore c).poison = _ from epoison.trans hpoison]
    simp
  · have hthread : thOf (discardCore c) i = discardThread (thOf (freed c) i) :=
      (thOf_congr (endBinding_threads (discardBound c)) i).trans (discardBound_thread c i)
    obtain ⟨pc, run, hfreed⟩ := freed_thread c i
    obtain ⟨pc', run', acvt, hdiscard⟩ := discardThread_rest (thOf (freed c) i)
    dsimp only
    rw [hthread, hdiscard, hfreed]
    exact ⟨rfl, rfl, rfl, rfl, rfl, rfl, rfl, fun k => tfind_filter_value (fun x : TileRow => !x.spec) (h i) k, rfl, rfl, rfl⟩

/-! ### Once -/

theorem keepJob_twice (j : Option MmaJob) : keepJob (keepJob j) = keepJob j := by
  unfold keepJob
  cases j with
  | none => rfl
  | some j => cases hj : j.spec <;> simp [Option.filter, hj]

theorem dropMma_kept (j : Option MmaJob) (c : Core) : dropMma (keepJob j) c = c := by
  unfold keepJob dropMma
  cases j with
  | none => rfl
  | some j => cases hj : j.spec <;> simp [Option.filter, hj]

theorem freed_settled (c : Core) : freed (discardBound c) = discardBound c := by
  have hwait : dropMma (discardBound c).mmaWait (discardBound c) = discardBound c := dropMma_kept ..
  have hrun : dropMma (discardBound c).mmaRun (discardBound c) = discardBound c := dropMma_kept ..
  unfold freed
  rw [hwait, hrun]

theorem discardWords_twice (c : Core) : discardWords (discardWords c) = discardWords c := by
  have hpoison : (c.poison.filter fun w => !c.specMark.contains w).filter (fun w => !([] : List Nat).contains w)
      = c.poison.filter fun w => !c.specMark.contains w := List.filter_eq_self.mpr fun w _ => rfl
  have hstores : (c.stores.filter fun e => !e.spec).filter (fun e => !e.spec) = c.stores.filter fun e => !e.spec := by
    rw [List.filter_filter]
    exact congrArg (List.filter · c.stores) (funext fun e => Bool.and_self _)
  calc discardWords (discardWords c)
      = { discardWords c with
          poison := (c.poison.filter fun w => !c.specMark.contains w).filter fun w => !([] : List Nat).contains w
          stores := (c.stores.filter fun e => !e.spec).filter fun e => !e.spec } := rfl
    _ = discardWords c := by rw [hpoison, hstores]; rfl

/-- The parts of a discard that look at words and threads. -/
def emptied (c : Core) : Core := thAll discardThread (discardWords c)

theorem emptied_twice (c : Core) : emptied (emptied c) = emptied c := by
  calc emptied (emptied c) = thAll discardThread (thAll discardThread (discardWords (discardWords c))) := rfl
    _ = emptied c := by rw [discardWords_twice, thAll_twice discardThread_twice]; rfl

theorem discardBound_twice (c : Core) : discardBound (discardBound c) = discardBound c := by
  have hkeys : shadowKeys (discardBound c) = shadowKeys c := by
    rw [← freed_keys c]
    refine shadowKeys_congr fun i => ?_
    obtain ⟨pc, run, acvt, h⟩ := discardThread_rest (thOf (freed c) i)
    rw [discardBound_thread, h]
    rfl
  have hresolving : (discardBound c).resolving = (shadowKeys c).map fun k => (k, false) := by
    rw [← freed_keys c]
    rfl
  calc discardBound (discardBound c)
      = { emptied (freed (discardBound c)) with
          mmaRun := keepJob (freed (discardBound c)).mmaRun
          mmaWait := keepJob (freed (discardBound c)).mmaWait
          resolving := (shadowKeys (freed (discardBound c))).map fun k => (k, false) } := rfl
    _ = { emptied (discardBound c) with
          mmaRun := keepJob (discardBound c).mmaRun
          mmaWait := keepJob (discardBound c).mmaWait
          resolving := (shadowKeys (discardBound c)).map fun k => (k, false) } := by rw [freed_settled]
    _ = { emptied (emptied (freed c)) with
          mmaRun := keepJob (keepJob (freed c).mmaRun)
          mmaWait := keepJob (keepJob (freed c).mmaWait)
          resolving := (shadowKeys (discardBound c)).map fun k => (k, false) } := rfl
    _ = discardBound c := by rw [emptied_twice, keepJob_twice, keepJob_twice, hkeys, ← hresolving]; rfl

theorem discardCore_twice (c : Core) : discardCore (discardCore c) = discardCore c := by
  have hfree : ∀ x : Core, freed { x with group := none } = { freed x with group := none } := by
    intro x
    have hdrop : ∀ (j : Option MmaJob) (x : Core), dropMma j { x with group := none } = { dropMma j x with group := none } := by
      intro j x
      cases j with
      | none => rfl
      | some j =>
        by_cases h : j.spec = true ∧ j.blocks = true ∧ (thOf x j.thread).run = .waiting .mma
        · have hx : dropMma (some j) x = setTh x j.thread (advPc 4 { thOf x j.thread with run := .ready }) := if_pos h
          rw [hx]
          exact if_pos h
        · have hx : dropMma (some j) x = x := if_neg h
          rw [hx]
          exact if_neg h
    unfold freed
    rw [hdrop, hdrop]
  refine bound_twice (f := discardBound) discardBound_twice (fun x => ?_) c
  unfold discardBound
  rw [hfree]
  rfl

end

end Sys2Proof.Machine

/-!
SUPPORT. The variants and the groups that D+128 resolves (R219, R232–R234), and the statement about Dawn, Noon and Dusk.
-/
namespace Sys2Proof.Machine
open Sys2Proof Sys2Proof.Safety

section
variable {s : State}

/-! ### The variants -/

theorem commitStreams_aside (r : RegionId) (g : BitVec 8) (s : State) : Aside s (commitStreams r g s) := Aside.refl s

theorem discardStreams_aside (r : RegionId) (g : BitVec 8) (s : State) : Aside s (discardStreams r g s) := by
  unfold discardStreams
  exact Aside.trans (cancelRuns_aside ..) (Aside.refl _)

theorem logParity_aside (h : Hart) (k : Nat) (s : State) : Aside s (logParity h k s) := Aside.trans (logItem_hostSide ..).1 (Aside.refl _)

theorem logFailedRows_aside (c : CoreId) (s : State) : Aside s (logFailedRows c s) :=
  foldl_aside (fun _ _ => (foldl_aside (fun t _ => logParity_aside _ _ t) _ _).trans (foldl_aside (fun _ _ => (logItem_hostSide ..).1) _ _)) _ _

/-- A core of a region when one of its groups resolves. -/
def groupStep (g : BitVec 8) (commit : Bool) (c : CoreId) (s : State) : State :=
  if (coreOf s c).group = some g then
    if commit then modCore (logFailedRows c s) c commitCore else modCore s c discardCore
  else s

theorem groupStep_aside (g : BitVec 8) (commit : Bool) (c : CoreId) (s : State) : Aside s (groupStep g commit c s) :=
  ite_ok (P := Aside s) (ite_ok (P := Aside s) ((logFailedRows_aside c s).trans (modCore_aside ..)) (modCore_aside ..)) (Aside.refl s)

/-- A region's group once its cores have resolved. -/
def groupCounted (r : RegionId) (g : BitVec 8) (commit : Bool) (s : State) : State :=
  count (coresIn s r (groupStep g commit)) (ctrRegion r.val (if commit then 1 else 2)) 1

theorem resolveGroup_eq (r : RegionId) (s : State) (g : BitVec 8) : resolveGroup r s g
    = if bit (regOf s r).sampledMask g.toNat then commitStreams r g (groupCounted r g (bit (regOf s r).sampledMask g.toNat) s)
      else discardStreams r g (groupCounted r g (bit (regOf s r).sampledMask g.toNat) s) := rfl

theorem resolveGroup_aside (r : RegionId) (s : State) (g : BitVec 8) : Aside s (resolveGroup r s g) := by
  have hcounted : ∀ commit, Aside s (groupCounted r g commit s) := fun commit => coresIn_aside (groupStep_aside g commit) s r
  rw [resolveGroup_eq]
  exact ite_ok (P := Aside s) ((hcounted _).trans (commitStreams_aside ..)) ((hcounted _).trans (discardStreams_aside ..))

theorem gateDie_aside (d : Nat) (s : State) : Aside s (gateDie d s) := ite_ok (P := Aside s) (Aside.refl s) (Aside.refl s)

theorem gateCore_aside (k : NightKind) (c : CoreId) (s : State) : Aside s (gateCore k c s) := (modCore_aside ..).trans (clearBanks_aside ..)

/-- A region with its variant latched. -/
def variantLatched (x : Region) : Region := { x with variant := x.sampledVariant }

/-- The region's groups resolved. -/
def groupsResolved (r : RegionId) (s : State) : State :=
  (groupsOf (modReg s r variantLatched) r).foldl (resolveGroup r) (modReg s r variantLatched)

theorem groupsResolved_aside (r : RegionId) (s : State) : Aside (modReg s r variantLatched) (groupsResolved r s) :=
  foldl_aside (resolveGroup_aside r) _ _

theorem latchRegion_awake {r : RegionId} (hv : (regOf s r).valid = true) (hn : (regOf s r).night = none) :
    latchRegion r s = groupsResolved r s := by
  unfold latchRegion
  dsimp only
  rw [hv, hn]
  rfl

/-- From `s` to `t` the region differs in its variant and its keys alone. -/
def LatchKept (r : RegionId) (s t : State) : Prop := Plain s t ∧ (∀ q, q ≠ r → regOf t q = regOf s q)
  ∧ (regOf t r).valid = (regOf s r).valid ∧ (regOf t r).sampledVariant = (regOf s r).sampledVariant

theorem LatchKept.refl (r : RegionId) (s : State) : LatchKept r s s := ⟨Plain.refl s, fun _ _ => rfl, rfl, rfl⟩

theorem LatchKept.trans {r : RegionId} {s t u : State} (a : LatchKept r s t) (b : LatchKept r t u) : LatchKept r s u :=
  ⟨a.1.trans b.1, fun q hq => (b.2.1 q hq).trans (a.2.1 q hq), b.2.2.1.trans a.2.2.1, b.2.2.2.trans a.2.2.2⟩

theorem Aside.regOf {s t : State} (a : Aside s t) (r : RegionId) : regOf t r = regOf s r := congrArg (tget Region.reset · r.val) a.2

theorem Aside.latchKept {s t : State} (a : Aside s t) (r : RegionId) : LatchKept r s t :=
  ⟨a.1, fun q _ => a.regOf q, by rw [a.regOf r], by rw [a.regOf r]⟩

theorem modReg_latchKept (r : RegionId) {f : Region → Region} (hv : ∀ x, (f x).valid = x.valid)
    (hs : ∀ x, (f x).sampledVariant = x.sampledVariant) (s : State) : LatchKept r s (modReg s r f) :=
  ⟨modReg_plain .., fun q hq => regOf_modReg_other s r q f (Ne.symm hq), by rw [regOf_modReg_same, hv], by rw [regOf_modReg_same, hs]⟩

theorem groupsResolved_latchKept (r : RegionId) (s : State) : LatchKept r s (groupsResolved r s) :=
  (modReg_latchKept r (f := variantLatched) (fun _ => rfl) (fun _ => rfl) s).trans ((groupsResolved_aside r s).latchKept r)

theorem groupsResolved_variant (r : RegionId) (s : State) : (regOf (groupsResolved r s) r).variant = (regOf s r).sampledVariant := by
  rw [(groupsResolved_aside r s).regOf, regOf_modReg_same]
  rfl

/-- A region's cores enter Night. -/
def coresGated (r : RegionId) (k : NightKind) (s : State) : State :=
  coresIn s r fun c s => if (coreOf s c).night = some k then s else gateDie (dieOf c) (gateCore k c s)

theorem coresGated_aside (r : RegionId) (k : NightKind) (s : State) : Aside s (coresGated r k s) :=
  coresIn_aside (fun _ s => ite_ok (P := Aside s) (Aside.refl s) ((gateCore_aside ..).trans (gateDie_aside ..))) s r

theorem latchRegion_latches (r : RegionId) (s : State) : LatchKept r s (latchRegion r s)
    ∧ ((regOf s r).valid = true → (regOf (latchRegion r s) r).variant = (regOf s r).sampledVariant) := by
  by_cases hv : (regOf s r).valid = true
  · obtain hn | ⟨k, hn⟩ : (regOf s r).night = none ∨ ∃ k, (regOf s r).night = some k := by
      cases (regOf s r).night with
      | none => exact Or.inl rfl
      | some k => exact Or.inr ⟨k, rfl⟩
    · rw [latchRegion_awake hv hn]
      exact ⟨groupsResolved_latchKept r s, fun _ => groupsResolved_variant r s⟩
    · let u := if k = .full then modReg (groupsResolved r s) r fun x => { x with keys := [] } else groupsResolved r s
      have hlatch : latchRegion r s = coresGated r k u := by
        unfold latchRegion
        dsimp only
        rw [hv, hn]
        rfl
      have hu : LatchKept r s u ∧ (regOf u r).variant = (regOf s r).sampledVariant := by
        refine ite_ok (P := fun t : State => LatchKept r s t ∧ (regOf t r).variant = (regOf s r).sampledVariant) ⟨?_, ?_⟩
          ⟨groupsResolved_latchKept r s, groupsResolved_variant r s⟩
        · refine (groupsResolved_latchKept r s).trans (modReg_latchKept r ?_ ?_ _)
          · exact fun _ => rfl
          · exact fun _ => rfl
        · rw [regOf_modReg_same]
          exact groupsResolved_variant r s
      have hgated := coresGated_aside r k u
      rw [hlatch]
      exact ⟨hu.1.trans (hgated.latchKept r), fun _ => by rw [hgated.regOf]; exact hu.2⟩
  · have hidle : latchRegion r s = s := if_pos (by rw [Bool.eq_false_iff.mpr hv]; rfl)
    rw [hidle]
    exact ⟨LatchKept.refl r s, fun h => absurd h hv⟩

theorem latchCores_aside (s : State) : Aside s (latchCores s) :=
  Aside.trans (Aside.refl s) (foldl_aside (fun _ _ => (gateCore_aside ..).trans (gateDie_aside ..)) _ _)

/-- The end of D+128. -/
def variantsLatched (s : State) : State := latchCores (eachRegion latchRegion s)

theorem variantsLatched_variant {r : RegionId} (hv : (regOf s r).valid = true) :
    (regOf (variantsLatched s) r).variant = (regOf s r).sampledVariant := by
  unfold variantsLatched
  rw [(latchCores_aside _).regOf]
  refine foldl_reaches (f := fun s r => latchRegion r s)
    (P := fun t => (regOf t r).valid = true ∧ (regOf t r).sampledVariant = (regOf s r).sampledVariant)
    (Q := fun t => (regOf t r).variant = (regOf s r).sampledVariant) (a := r) ?_ ?_ ?_ (mem_regionIds_of_valid hv) ⟨hv, rfl⟩
  · intro t q ht
    obtain ⟨⟨-, hother, hvalid, hsampled⟩, -⟩ := latchRegion_latches q t
    by_cases hq : r = q
    · subst hq
      exact ⟨hvalid.trans ht.1, hsampled.trans ht.2⟩
    · rw [hother r hq]
      exact ht
  · intro t q ht hvar
    obtain ⟨⟨-, hother, -, -⟩, hlatch⟩ := latchRegion_latches q t
    by_cases hq : r = q
    · subst hq
      exact (hlatch ht.1).trans ht.2
    · rw [hother r hq]
      exact hvar
  · exact fun t ht => ((latchRegion_latches r t).2 ht.1).trans ht.2

theorem variantsLatched_clock : (variantsLatched s).clock = s.clock :=
  (latchCores_aside _).clock.trans (foldl_plain (fun s r => (latchRegion_latches r s).1.1) _ _).clock

end

end Sys2Proof.Machine

/-!
SUPPORT. The cores of the one region at D+128 (R232–R234), and what settles the statement about Dawn, Noon and Dusk.
-/
namespace Sys2Proof.Machine
open Sys2Proof Sys2Proof.Safety

section
variable {s : State}

/-! ### The cores of a group -/

/-- A core once its group resolves. -/
def resolved (g : BitVec 8) (commit : Bool) (c : Core) : Core :=
  if c.group = some g then (if commit then commitCore c else discardCore c) else c

theorem resolved_twice (g : BitVec 8) (commit : Bool) (c : Core) : resolved g commit (resolved g commit c) = resolved g commit c := by
  by_cases hg : c.group = some g
  · have hone : resolved g commit c = if commit then commitCore c else discardCore c := if_pos hg
    rw [hone]
    cases commit
    · by_cases hd : (discardCore c).group = some g
      · exact (if_pos hd).trans (discardCore_twice c)
      · exact if_neg hd
    · by_cases hd : (commitCore c).group = some g
      · exact (if_pos hd).trans (commitCore_twice c)
      · exact if_neg hd
  · have hone : resolved g commit c = c := if_neg hg
    rw [hone, hone]

/-- From `s` to `t` no core changes, no engine, no counter of a region, and no Night of a core. -/
def Noted (s t : State) : Prop := t.cores = s.cores ∧ t.engines = s.engines ∧ t.coreNights = s.coreNights
  ∧ ∀ (r : RegionId) (k : Nat), k < 8 → tget 0 t.counters (ctrRegion r.val k) = tget 0 s.counters (ctrRegion r.val k)

theorem Noted.refl (s : State) : Noted s s := ⟨rfl, rfl, rfl, fun _ _ _ => rfl⟩
theorem Noted.trans {s t u : State} (a : Noted s t) (b : Noted t u) : Noted s u :=
  ⟨b.1.trans a.1, b.2.1.trans a.2.1, b.2.2.1.trans a.2.2.1, fun r k hk => (b.2.2.2 r k hk).trans (a.2.2.2 r k hk)⟩

theorem logItem_noted (i : LogItem) (s : State) : Noted s (logItem i s) :=
  ⟨logItem_cores .., logItem_engines .., logItem_coreNights .., fun _ _ _ => congrArg (tget 0 · _) (logItem_counters ..)⟩

/-- The counters of dies stand above those of regions. -/
theorem ctrDie_above {d r k n : Nat} (hr : r < 256) (hk : k < 8) : ctrDie d n ≠ ctrRegion r k := by
  unfold ctrDie ctrRegion
  omega

theorem logParity_noted (h : Hart) (k : Nat) (s : State) : Noted s (logParity h k s) := by
  refine (logItem_noted _ s).trans ⟨rfl, rfl, rfl, fun r k hk => ?_⟩
  exact tget_tset_other _ _ _ _ _ (ctrDie_above r.isLt hk)

theorem logFailedRows_noted (c : CoreId) (s : State) : Noted s (logFailedRows c s) := by
  refine foldl_ok (P := Noted s) (fun t i ht => ?_) _ _ (Noted.refl s)
  refine foldl_ok (P := Noted s) (fun u _ hu => hu.trans (logItem_noted _ u)) _ _ ?_
  exact foldl_ok (P := Noted s) (fun u _ hu => hu.trans (logParity_noted _ _ u)) _ _ ht

/-- From `s` to `t` cores of a group resolve. -/
def Resolving (g : BitVec 8) (commit : Bool) (s t : State) : Prop :=
  (∀ d, coreOf t d = coreOf s d ∨ coreOf t d = resolved g commit (coreOf s d)) ∧ t.engines = s.engines ∧ t.coreNights = s.coreNights
  ∧ ∀ (r : RegionId) (k : Nat), k < 8 → tget 0 t.counters (ctrRegion r.val k) = tget 0 s.counters (ctrRegion r.val k)

theorem Resolving.refl (g : BitVec 8) (commit : Bool) (s : State) : Resolving g commit s s :=
  ⟨fun _ => Or.inl rfl, rfl, rfl, fun _ _ _ => rfl⟩

theorem Noted.coreOf {s t : State} (a : Noted s t) (c : CoreId) : coreOf t c = coreOf s c := congrArg (tget Core.reset · c.val) a.1

theorem groupStep_core (g : BitVec 8) (commit : Bool) (c : CoreId) (s : State) :
    coreOf (groupStep g commit c s) c = resolved g commit (coreOf s c) ∧ ∀ d, c ≠ d → coreOf (groupStep g commit c s) d = coreOf s d := by
  have hnoted := logFailedRows_noted c s
  unfold groupStep resolved
  split
  case isTrue =>
    cases commit
    · exact ⟨coreOf_modCore_same .., fun d hd => coreOf_modCore_other _ _ _ _ hd⟩
    · exact ⟨(coreOf_modCore_same ..).trans (by rw [hnoted.coreOf]; rfl),
        fun d hd => (coreOf_modCore_other _ _ _ _ hd).trans (hnoted.coreOf d)⟩
  case isFalse => exact ⟨rfl, fun _ _ => rfl⟩

theorem groupStep_rest (g : BitVec 8) (commit : Bool) (c : CoreId) (s : State) :
    (groupStep g commit c s).engines = s.engines ∧ (groupStep g commit c s).coreNights = s.coreNights
    ∧ ∀ (r : RegionId) (k : Nat), k < 8 → tget 0 (groupStep g commit c s).counters (ctrRegion r.val k) = tget 0 s.counters (ctrRegion r.val k) := by
  obtain ⟨-, hrest⟩ := logFailedRows_noted c s
  unfold groupStep
  generalize logFailedRows c s = t at hrest ⊢
  split
  case isTrue =>
    cases commit
    · exact ⟨rfl, rfl, fun _ _ _ => rfl⟩
    · exact hrest
  case isFalse => exact ⟨rfl, rfl, fun _ _ _ => rfl⟩

theorem Resolving.step {g : BitVec 8} {commit : Bool} {t : State} (a : Resolving g commit s t) (c : CoreId) :
    Resolving g commit s (groupStep g commit c t) := by
  obtain ⟨hcores, hengines, hnights, hcounters⟩ := a
  obtain ⟨hself, hother⟩ := groupStep_core g commit c t
  obtain ⟨hengines', hnights', hcounters'⟩ := groupStep_rest g commit c t
  refine ⟨fun d => ?_, hengines'.trans hengines, hnights'.trans hnights, fun r k hk => (hcounters' r k hk).trans (hcounters r k hk)⟩
  by_cases hd : c = d
  · subst hd
    rw [hself]
    exact Or.inr ((hcores c).elim (fun h => by rw [h]) fun h => by rw [h, resolved_twice])
  · rw [hother d hd]
    exact hcores d

theorem coresIn_resolve (r : RegionId) (g : BitVec 8) (commit : Bool) (s : State) : Resolving g commit s (coresIn s r (groupStep g commit))
    ∧ ∀ c ∈ regionCores s r, coreOf (coresIn s r (groupStep g commit)) c = resolved g commit (coreOf s c) := by
  refine ⟨foldl_ok (P := Resolving g commit s) (fun t c ht => ht.step c) _ _ (Resolving.refl ..), fun c hc => ?_⟩
  refine foldl_reaches (f := fun s c => groupStep g commit c s) (P := Resolving g commit s)
    (Q := fun t => coreOf t c = resolved g commit (coreOf s c)) (a := c) (fun t d ht => ht.step d) (fun t d _ hq => ?_) (fun t ht => ?_) hc
    (Resolving.refl ..)
  · obtain ⟨hself, hother⟩ := groupStep_core g commit d t
    by_cases hd : d = c
    · subst hd
      rw [hself, hq, resolved_twice]
    · rw [hother c hd, hq]
  · rw [(groupStep_core g commit c t).1]
    exact (ht.1 c).elim (fun h => by rw [h]) fun h => by rw [h, resolved_twice]

/-! ### The streams of a group, and the whole of D+128 -/

/-- A core but for the flits that have not landed. -/
def landless (c : Core) : Core := { c with inbox := [], landing := [] }

theorem commitStreams_core (r : RegionId) (g : BitVec 8) (s : State) (c : CoreId) :
    landless (coreOf (commitStreams r g s) c) = landless (coreOf s c) :=
  (congrArg landless (tget_tmap (fun (_ : Nat) (c : Core) => { c with
    inbox := c.inbox.map (ordinaryFlit r g), landing := c.landing.map fun m => { m with kept := m.kept.map (ordinaryFlit r g) } })
    Core.reset s.cores c.val rfl) :)

theorem discardStreams_core {r : RegionId} {g : BitVec 8} (h : s.engines = []) (c : CoreId) :
    coreOf (discardStreams r g s) c = coreOf s c ∧ (discardStreams r g s).counters = s.counters
      ∧ (discardStreams r g s).coreNights = s.coreNights := by
  have hnone : ∀ f k, cancelRuns f k s = s := by
    intro f k
    unfold cancelRuns
    rw [h]
    rfl
  unfold discardStreams
  dsimp only
  rw [hnone]
  exact ⟨rfl, rfl, rfl⟩

theorem groupCounted_counts (r : RegionId) (g : BitVec 8) (commit : Bool) (s : State) :
    tget 0 (groupCounted r g commit s).counters (ctrRegion r.val (if commit then 1 else 2))
      = satAdd (tget 0 s.counters (ctrRegion r.val (if commit then 1 else 2))) 1 := by
  refine (tget_tset_same ..).trans (congrArg (satAdd · 1) ((coresIn_resolve r g commit s).1.2.2.2 r _ ?_))
  cases commit <;> decide

/-- One group of a region resolves, with no stream about. -/
theorem resolveGroup_resolves {r : RegionId} {g : BitVec 8} (h : s.engines = []) {c : CoreId} (hc : c ∈ regionCores s r) :
    let commit := (regOf s r).sampledMask.getLsbD g.toNat
    landless (coreOf (resolveGroup r s g) c) = landless (resolved g commit (coreOf s c))
      ∧ tget 0 (resolveGroup r s g).counters (ctrRegion r.val (if commit then 1 else 2))
        = satAdd (tget 0 s.counters (ctrRegion r.val (if commit then 1 else 2))) 1
      ∧ (resolveGroup r s g).coreNights = s.coreNights := by
  intro commit
  obtain ⟨⟨-, hengines, hnights, -⟩, hcores⟩ := coresIn_resolve r g commit s
  have hcore : coreOf (groupCounted r g commit s) c = resolved g commit (coreOf s c) := hcores c hc
  have hcounts := groupCounted_counts r g commit s
  rw [resolveGroup_eq]
  change landless (coreOf (if commit then commitStreams r g (groupCounted r g commit s) else discardStreams r g (groupCounted r g commit s)) c) = _
    ∧ tget 0 (if commit then commitStreams r g (groupCounted r g commit s) else discardStreams r g (groupCounted r g commit s)).counters _ = _
    ∧ (if commit then commitStreams r g (groupCounted r g commit s) else discardStreams r g (groupCounted r g commit s)).coreNights = _
  by_cases hcommit : commit = true
  · rw [if_pos hcommit]
    exact ⟨(commitStreams_core ..).trans (congrArg landless hcore), hcounts, hnights⟩
  · rw [if_neg hcommit]
    obtain ⟨hsame, hcounters, hsleep⟩ := discardStreams_core (s := groupCounted r g commit s) (r := r) (g := g) (hengines.trans h) c
    exact ⟨by rw [hsame, hcore], by rw [hcounters]; exact hcounts, hsleep.trans hnights⟩

theorem latchCores_none (h : s.coreNights = []) : (latchCores s).cores = s.cores ∧ (latchCores s).counters = s.counters := by
  unfold latchCores
  dsimp only
  rw [h]
  exact ⟨rfl, rfl⟩

/-- The one region's one group at D+128. -/
theorem variantsLatched_group {r : RegionId} {c : CoreId} {g : BitVec 8} (hr : s.regions = [(r.val, regOf s r)])
    (hv : (regOf s r).valid = true) (hnight : (regOf s r).night = none) (hnights : s.coreNights = []) (he : s.engines = [])
    (hg : groupsOf s r = [g]) (hc : c ∈ regionCores s r) :
    let commit := (regOf s r).sampledMask.getLsbD g.toNat
    landless (coreOf (variantsLatched s) c) = landless (resolved g commit (coreOf s c))
      ∧ tget 0 (variantsLatched s).counters (ctrRegion r.val (if commit then 1 else 2))
        = satAdd (tget 0 s.counters (ctrRegion r.val (if commit then 1 else 2))) 1 := by
  let u := modReg s r variantLatched
  have hreg : regOf u r = variantLatched (regOf s r) := regOf_modReg_same ..
  have hcores : regionCores u r = regionCores s r := by
    unfold regionCores
    rw [hreg]
    rfl
  have hgroups : groupsOf u r = [g] := by
    rw [← hg]
    unfold groupsOf
    rw [hcores]
    rfl
  have hone : eachRegion latchRegion s = resolveGroup r u g := by
    have hid : (Fin.ofNat 256 r.val : RegionId) = r := Fin.ext (Nat.mod_eq_of_lt r.isLt)
    have hids : regionIds s = [r] := by
      unfold regionIds
      rw [hr, List.map_cons, List.map_nil, hid]
    unfold eachRegion
    rw [hids, List.foldl_cons, List.foldl_nil, latchRegion_awake hv hnight, groupsResolved]
    change (groupsOf u r).foldl (resolveGroup r) u = _
    rw [hgroups]
    rfl
  have hstep := resolveGroup_resolves (s := u) (r := r) (g := g) he (c := c) (by rw [hcores]; exact hc)
  dsimp only at hstep
  rw [hreg] at hstep
  obtain ⟨hcore, hcount, hsleep⟩ := hstep
  obtain ⟨hkept, hcounters⟩ := latchCores_none (s := resolveGroup r u g) (hsleep.trans hnights)
  unfold variantsLatched
  rw [hone]
  refine ⟨?_, ?_⟩
  · exact (congrArg (fun l => landless (tget Core.reset l c.val)) hkept).trans hcore
  · rw [hcounters]
    exact hcount

theorem committed_landless {c d : Core} : committed c (landless d) ↔ committed c d := Iff.rfl
theorem discarded_landless {c d : Core} : discarded c (landless d) ↔ discarded c d := Iff.rfl

theorem committed_fresh {c d : Core} {p : List (Fin 4)} : committed { c with passed := p } d ↔ committed c d := Iff.rfl
theorem discarded_fresh {c d : Core} {p : List (Fin 4)} : discarded { c with passed := p } d ↔ discarded c d := Iff.rfl

/-- What D+128 leaves of a core of the group. -/
theorem group_resolved {c d : Core} {g : BitVec 8} {commit : Bool} {p : List (Fin 4)} (hg : c.group = some g)
    (hs : ∀ i, tsorted (thOf c i).pSpec = true ∧ tsorted (thOf c i).vSpec = true ∧ tsorted (thOf c i).rows = true)
    (hd : landless d = landless (resolved g commit { c with passed := p })) :
    (commit = true → committed c d) ∧ (commit = false → discarded c d) ∧ (shadowKeys c = [] → d.group = none)
      ∧ d.resolving = (shadowKeys c).map (fun k => (k, commit)) := by
  have hgroup : ({ c with passed := p } : Core).group = some g := hg
  have hkeys : shadowKeys { c with passed := p } = shadowKeys c := rfl
  have hthreads : ∀ i, thOf { c with passed := p } i = thOf c i := fun _ => rfl
  have hfresh := committed_fresh (c := c) (d := d) (p := p)
  have hfresh' := discarded_fresh (c := c) (d := d) (p := p)
  generalize { c with passed := p } = x at hd hgroup hkeys hthreads hfresh hfresh'
  have hx : resolved g commit x = if commit then commitCore x else discardCore x := if_pos hgroup
  rw [hx] at hd
  have hdgroup : d.group = (if commit then commitCore x else discardCore x).group := (congrArg Core.group hd :)
  have hdres : d.resolving = (if commit then commitCore x else discardCore x).resolving := (congrArg Core.resolving hd :)
  rw [hdgroup, hdres, ← hkeys]
  cases commit
  · obtain ⟨hres, hnone⟩ := discardCore_binding x
    refine ⟨fun h => absurd h Bool.false_ne_true, fun _ => ?_, hnone, hres⟩
    refine hfresh'.mp (discarded_landless.mp ?_)
    rw [hd]
    exact discarded_landless.mpr (discardCore_discarded fun i => by rw [hthreads]; exact (hs i).2.2)
  · obtain ⟨hres, hnone⟩ := commitCore_binding x
    refine ⟨fun _ => ?_, fun h => absurd h.symm Bool.false_ne_true, hnone, hres⟩
    refine hfresh.mp (committed_landless.mp ?_)
    rw [hd]
    exact committed_landless.mpr (commitCore_committed fun i => by rw [hthreads]; exact ⟨(hs i).1, (hs i).2.1⟩)

theorem variantLatch_latches (hdev : s.dev ≠ .midnight) (hp : s.clock.phase = .dawn) (hn : s.clock.cycle ≤ 128) :
    ∃ t, exec .variantLatch s = .next t ∧ t.clock.cycle = 128
      ∧ (∀ r : RegionId, (regOf s r).valid = true → (regOf t r).variant = (regOf s r).sampledVariant)
      ∧ ∀ (r : RegionId) (c : CoreId) (g : BitVec 8), s.regions = [(r.val, regOf s r)] → (regOf s r).valid = true →
          (regOf s r).night = none → s.coreNights = [] → s.engines = [] → groupsOf s r = [g] → c ∈ regionCores s r →
          (coreOf s c).group = some g → (coreOf s c).resolving = [] →
          (∀ i, tsorted (thOf (coreOf s c) i).pSpec = true ∧ tsorted (thOf (coreOf s c) i).vSpec = true
            ∧ tsorted (thOf (coreOf s c) i).rows = true) →
        let commit := (regOf s r).sampledMask.getLsbD g.toNat
        (commit = true → committed (coreOf s c) (coreOf t c)) ∧ (commit = false → discarded (coreOf s c) (coreOf t c))
          ∧ (shadowKeys (coreOf s c) = [] → (coreOf t c).group = none)
          ∧ (coreOf t c).resolving = (shadowKeys (coreOf s c)).map (fun k => (k, commit))
          ∧ tget 0 t.counters (ctrRegion r.val (if commit then 1 else 2))
            = satAdd (tget 0 s.counters (ctrRegion r.val (if commit then 1 else 2))) 1 := by
  let u := toCycle 128 s
  have hreg : ∀ q, regOf u q = regOf s q := toCycle_regOf 128 s
  refine ⟨variantsLatched u, congrArg Host.Outcome.next (dawnAt_runs hdev hp hn), ?_, fun r hv => ?_, ?_⟩
  · rw [variantsLatched_clock]
    exact toCycle_reaches hn
  · rw [variantsLatched_variant (by rw [hreg]; exact hv), hreg]
  · intro r c g hregions hv hnight hnights he hg hc hgroup _ hsorted commit
    have hcores : regionCores u r = regionCores s r := by
      unfold regionCores cellEntry
      rw [hreg, toCycle_cells]
    have hcore : ∀ d, ∃ p, coreOf u d = { coreOf s d with passed := p } := fun d => ⟨_, toCycle_core 128 s d⟩
    have hgroups : groupsOf u r = [g] := by
      rw [← hg]
      unfold groupsOf
      rw [hcores]
      refine congrArg List.eraseDups (congrArg (List.filterMap · (regionCores s r)) (funext fun d => ?_))
      obtain ⟨p, hd⟩ := hcore d
      rw [hd]
    obtain ⟨p, hcu⟩ := hcore c
    obtain ⟨hend, hcount⟩ := variantsLatched_group (s := u) (r := r) (c := c) (g := g) (by rw [hreg]; exact (toCycle_regions 128 s).trans hregions)
      (by rw [hreg]; exact hv) (by rw [hreg]; exact hnight) ((congrArg State.coreNights (toCycle_rest 128 s) :).trans hnights)
      ((congrArg State.engines (toCycle_rest 128 s) :).trans he) hgroups (by rw [hcores]; exact hc)
    have hcounters : u.counters = s.counters := (congrArg State.counters (toCycle_rest 128 s) :)
    rw [hreg, hcu] at hend
    rw [hreg, hcounters] at hcount
    obtain ⟨hcommit, hdiscard, hnone, hleft⟩ := group_resolved hgroup hsorted hend
    exact ⟨hcommit, hdiscard, hnone, hleft, hcount⟩

end

/-- Settles O44: the steps of Dawn act at their cycles and not after, Noon and Dusk begin at theirs, and an overrun is marked. -/
theorem dawnNoonAndDuskDoTheirWork : Obligations.DawnNoonAndDuskDoTheirWork := by
  unfold Obligations.DawnNoonAndDuskDoTheirWork
  refine ⟨fun s hdev hp => ⟨dawnControlWords_tell hdev hp, variantLatch_latches hdev hp, dawnFlagClear_clears hdev hp, dawnEvent_raises hdev hp⟩,
    fun n i d s hi h => dawnSteps_idle hi h, fun core r s hdev => ⟨noonStart_begins hdev, fun hp hn => ?_, fun hp hn => ?_, duskStart_idle,
    dayOverrun_marks⟩⟩
  · exact ⟨duskBegun s, duskStart_runs hdev hp, (duskBegun_clock hn).1, (duskBegun_clock hn).2,
      fun l hr hl hrun => duskBegun_regions hr ⟨l, hl, hrun⟩⟩
  · refine ⟨duskBegun s, duskStart_runs hdev hp, fun k => ?_⟩
    rw [duskBegun_port]
    exact dusked_fields _

end Sys2Proof.Machine

/-!
SUPPORT. A window load keeps no reserved bit of its entries (R11, log 203), which refutes the statement about link ports.
-/
namespace Sys2Proof.Machine
open Sys2Proof Sys2Proof.Safety

/-- An entry with its top bit set, which is reserved: bits [127:96] of an entry are. -/
def reservedEntry : BitVec 128 := BitVec.ofNat 128 (2 ^ 127)

theorem reservedEntry_dropped : windowBits reservedEntry = 0 := by decide

/-- A device in reset whose operator's connection is open. -/
def operatedReset : State :=
  { State.reset with mgmt := { State.reset.mgmt with owned := [1], connected := true, authenticated := true } }

theorem operatedReset_commands : commands operatedReset := ⟨rfl, by decide, rfl⟩

theorem operatedReset_idle : (portAt operatedReset 0).loading = none := rfl

/-- The load of a first piece that holds the entry stands without the bit. -/
theorem reservedEntry_loads :
    ∃ t, exec (.linkWindowLoad 0 ⟨[reservedEntry], true⟩) operatedReset = .next t ∧ (portAt t 0).loading = some [0] := by
  refine ⟨_, congrArg Host.Outcome.next (operatorCmd_commands operatedReset_commands _), ?_⟩
  change some [windowBits reservedEntry] = some [0]
  rw [reservedEntry_dropped]

/-- Refutes O58: a load of an entry whose reserved bit 127 is set holds the entry without it (`windowBits`, R11), while the
statement has the load hold the entry as it was written. -/
theorem not_linkPortsTrainSendAndReceive : ¬ Obligations.LinkPortsTrainSendAndReceive := by
  rintro ⟨hports, -⟩
  obtain ⟨-, -, -, -, -, -, -, -, -, hload, -⟩ := hports 0 [] 0 0 [reservedEntry] 0 0 0 0 operatedReset
  obtain ⟨⟨t, ht, ⟨hloading, -⟩, -⟩, -⟩ := hload operatedReset_commands
  obtain ⟨u, hu, hdropped⟩ := reservedEntry_loads
  obtain rfl : t = u := Host.Outcome.next.inj (ht.symm.trans hu)
  rw [hdropped, operatedReset_idle] at hloading
  exact absurd hloading (by decide)

end Sys2Proof.Machine

/-!
SUPPORT. A burst written into a bulk memory that is not in canonical form, which refutes the statement about rings and data ports.
-/
namespace Sys2Proof.Machine
open Sys2Proof Sys2Proof.Safety

/-- A burst of one byte, at bulk address 0. -/
def byteBurst : PortBurst := ⟨0, 0, 0, 1, 0⟩

/-- An inbound port whose one burst, the byte 0, waits for its controller. -/
def bytePort : DataPort :=
  { cid := 0, ring := 0, seq := 0, words := [], cursor := 0, hostCursor := 0, left := 0, buffer := [], bursts := [], held := []
    toBulk := [(byteBurst, [(0, false)])], moved := 0, writes := 0, landed := false, arrived := 0, closing := none, poisonAt := none, blocks := 0 }

/-- The first VF of link 0. -/
def firstVf : FnId := ⟨0, some 0⟩

/-- The port is open, region 0 is bound to its VF, and bulk memory holds address 0 twice: it is not in canonical form. -/
def doubledBulk : State :=
  { State.reset with
    regions := [(0, { Region.reset with valid := true, vf := 0 })]
    fns := [(fnKey firstVf, { HostFn.reset with ports := [(0, bytePort)] })]
    bulk := [(0, 5), (0, 7)] }

theorem doubledBulk_region : regionOfFn doubledBulk firstVf = some 0 := by decide

theorem doubledBulk_granted : granted doubledBulk (portReady 0 firstVf.link byteBurst true) = true := by decide

/-- The write of 0 removes one of the two entries, and the other is read. -/
theorem doubledBulk_writes (read : BurstRead) :
    ∃ t, exec (.portBurstDone firstVf 0 0 [] read) doubledBulk = .next t ∧ t.bulk = [(0, 7)] := ⟨_, rfl, rfl⟩

/-- Refutes O57: over a bulk memory that is not in canonical form the byte 0 of an inbound burst does not stand at its address, while
the statement asks for it from every state (the other statements about writes have `Mem.wf` as their premise). -/
theorem not_ringsAndDataPorts : ¬ Obligations.RingsAndDataPorts := by
  rintro ⟨-, hports⟩
  have hall := hports firstVf 0 [] 0 0 0 byteBurst bytePort [] 0 ⟨0, false, false⟩ 0 0 0 0 0 ⟨false, ⟨[], []⟩⟩ ⟨[], ⟨[], []⟩⟩
    ⟨0, 0, firstVf, 0, [], false⟩ doubledBulk
  obtain ⟨-, -, -, -, -, -, -, hbulk, -⟩ := hall
  obtain ⟨-, hserved⟩ := hbulk [(0, false)] rfl rfl rfl rfl rfl doubledBulk_region
  obtain ⟨t, q, ht, -, -, -, hstored⟩ := hserved doubledBulk_granted
  obtain ⟨u, hu, hdoubled⟩ := doubledBulk_writes ⟨[], ⟨[], []⟩⟩
  obtain rfl : t = u := Host.Outcome.next.inj (ht.symm.trans hu)
  have hbyte : mget t.bulk 0 = 0 := hstored 0 (by decide)
  rw [hdoubled] at hbyte
  exact absurd hbyte (by decide)

end Sys2Proof.Machine

/-!
SUPPORT. The next burst of an engine with one active run (R245, R264, R266–R268, R271).
-/
namespace Sys2Proof.Machine
open Sys2Proof Sys2Proof.Safety

/-! ### The memory that bursts write -/

theorem mwrite_append (xs ys : List Byte) (m : Mem) (a : Nat) : mwrite m a (xs ++ ys) = mwrite (mwrite m a xs) (a + xs.length) ys := by
  induction xs generalizing m a with
  | nil => rfl
  | cons b xs ih => rw [List.cons_append, mwrite, ih, mwrite, List.length_cons, Nat.add_assoc a, Nat.add_comm 1]

theorem writePiecesBulk_bulk (l : List (List Byte × Bool)) (a : Nat) (s : State) :
    (writePiecesBulk a l s).bulk = mwrite s.bulk a (l.flatMap Prod.fst) := by
  induction l generalizing a s with
  | nil => rfl
  | cons x l ih =>
    obtain ⟨bs, bad⟩ := x
    rw [writePiecesBulk, ih, List.flatMap_cons, mwrite_append]
    rfl

theorem writePiecesBulk_clock (l : List (List Byte × Bool)) (a : Nat) (s : State) : (writePiecesBulk a l s).clock = s.clock := by
  induction l generalizing a s with
  | nil => rfl
  | cons x l ih => exact ih ..

/-! ### Service -/

theorem foldl_served (l : List Nat) (r : RegionId) (n : Nat) (t : Tab Nat) (h : n ∉ l) :
    tget 0 (l.foldl (fun t k => tset t (256 * k + r.val) (tget 0 t (256 * k + r.val) + 1)) t) (256 * n + r.val)
      = tget 0 t (256 * n + r.val) := by
  induction l generalizing t with
  | nil => rfl
  | cons k l ih =>
    obtain ⟨hk, hl⟩ := not_or.1 (mt List.mem_cons.2 h)
    rw [List.foldl_cons, ih _ hl, tget_tset_other _ _ _ _ _ (by omega)]

theorem servedFor_charge {r : RegionId} {n : Nat} {l : List Nat} (h : n ∉ l) (s : State) :
    servedFor (charge r (n :: l) s) n r = servedFor s n r + 1 := by
  rw [servedFor, if_pos (show (charge r (n :: l) s).serviceWindow = windowNow (charge r (n :: l) s) from rfl), charge, List.foldl_cons]
  dsimp only
  rw [foldl_served _ _ _ _ h, tget_tset_same, servedFor]
  split <;> rfl

theorem mem_ringPath {a b k : Nat} (h : k ∈ ringPath a b) : 8 ≤ k := by
  rw [ringPath] at h
  split at h
  all_goals
    obtain ⟨i, -, rfl⟩ := List.mem_map.1 h
    omega

/-! ### An engine with one active run (R266) -/

section
variable {s : State} {e : EngineId} {y z : StreamRun}

theorem runOf_putRun (s : State) (e : EngineId) (y : StreamRun) : runOf (putRun e y s) e = some y :=
  congrArg Engine.run (engineOf_setEngine s e _)

theorem putRun_putRun (s : State) (e : EngineId) (y z : StreamRun) : engineOf (putRun e z (putRun e y s)) e = engineOf (putRun e z s) e := by
  rw [putRun, engineOf_setEngine, putRun, engineOf_setEngine, putRun, engineOf_setEngine]

theorem onRuns_lone (f : StreamRun → State → State) (hy : (engineOf s e).run = some y) (ha : (engineOf s e).ahead = []) :
    onRuns e f s = f y s := by
  have hon : onRun e f s = f y s := by rw [onRun, show runOf s e = some y from hy]
  rw [onRuns, activeRuns, hy, ha]
  exact hon

theorem activeRuns_putRun (ha : (engineOf s e).ahead = []) : activeRuns (engineOf (putRun e y s) e) = [y] := by
  rw [putRun, engineOf_setEngine, activeRuns, ha]
  rfl

theorem engineReady_lone (hy : (engineOf s e).run = some y) (ha : (engineOf s e).ahead = []) : engineReady s e = runReady s e y := by
  rw [engineReady, activeRuns, hy, ha]
  cases h : runReady s e y <;> simp [h]

theorem engineReady_putRun (ha : (engineOf s e).ahead = []) : engineReady (putRun e y s) e = runReady (putRun e y s) e y :=
  engineReady_lone (runOf_putRun s e y) (by rw [putRun, engineOf_setEngine]; exact ha)

/-- A lone run is prepared; its burst then goes, waits, or cannot go. -/
theorem burstIssue_lone (hy : (engineOf s e).run = some y) (ha : (engineOf s e).ahead = []) (hz : dropOverflow (prepare s y) = z) :
    (∀ c, engineReady (putRun e z s) e = some c → granted (putRun e z s) c = true →
        exec (.burstIssue e) s = .next (serve c (handOver e z (putRun e z s))))
      ∧ (∀ c, engineReady (putRun e z s) e = some c → granted (putRun e z s) c = false → exec (.burstIssue e) s = .next (putRun e z s))
      ∧ (engineReady (putRun e z s) e = none → exec (.burstIssue e) s = .next (askNext e z (putRun e z s))) := by
  have hprep : onRuns e (fun r s => putRun e (dropOverflow (prepare s r)) s) s = putRun e z s := by rw [onRuns_lone _ hy ha, hz]
  have hahead : (engineOf (putRun e z s) e).ahead = [] := by rw [putRun, engineOf_setEngine]; exact ha
  have hon : onRun e (handOver e) (putRun e z s) = handOver e z (putRun e z s) := by rw [onRun, runOf_putRun]
  have hexec : exec (.burstIssue e) s = execBurstIssue e s := rfl
  rw [hexec, execBurstIssue, hprep, activeRuns_putRun ha, engineReady_putRun ha, List.findIdx?_singleton]
  refine ⟨fun c hc hg => ?_, fun c hc hg => ?_, fun hc => ?_⟩
  · rw [hc]
    dsimp only [Option.isSome_some]
    rw [if_pos rfl]
    exact congrArg Host.Outcome.next ((if_pos hg).trans (congrArg (serve c) hon))
  · rw [hc]
    dsimp only [Option.isSome_some]
    rw [if_pos rfl]
    exact congrArg Host.Outcome.next (if_neg (Bool.eq_false_iff.1 hg))
  · rw [hc]
    dsimp only [Option.isSome_none]
    exact congrArg Host.Outcome.next (onRuns_lone _ (runOf_putRun s e z) hahead)

end

end Sys2Proof.Machine

/-!
SUPPORT. The bursts of reads, writes, fills and compares that an engine hands over (R245, R264, R266–R268, R271).
-/
namespace Sys2Proof.Machine
open Sys2Proof Sys2Proof.Safety

/-! ### The burst that waits -/

theorem burstReady_deadline {s : State} {e : EngineId} {r : RegionId} {a n : Nat} {far write : Bool} {c : Ready}
    (h : burstReady s e r a far write n = some c) : c.deadline = n := by
  cases far with
  | false => exact (congrArg Ready.deadline (Option.some.inj h)).symm
  | true =>
    rw [burstReady, if_pos rfl] at h
    split at h
    · split at h
      · exact (congrArg Ready.deadline (Option.some.inj h)).symm
      · exact absurd h (Option.some_ne_none c).symm
    · exact absurd h (Option.some_ne_none c).symm

theorem runReady_write {r : StreamRun} (hk : dKind r.cmd.desc = 1) (s : State) (e : EngineId) :
    runReady s e r = (nextWrite r).bind fun b => if r.overflowed then none
      else burstReady s e r.cmd.region (burstAddr r.cmd.desc ⟨b.offset, b.len, false⟩) (dFarA r.cmd.desc) true (writeDeadline s r) := by
  rw [runReady, hk]
  cases nextWrite r <;> rfl

theorem runReady_burst {r : StreamRun} (hw : dKind r.cmd.desc ≠ 1) (hm : dKind r.cmd.desc ≠ 4) (s : State) (e : EngineId) :
    runReady s e r = (nextBurst r).bind fun b => if dKind r.cmd.desc ≠ 2 ∧ fetchHeld s r then none
      else burstReady s e r.cmd.region (burstAddr r.cmd.desc b) (burstFar r.cmd.desc b) (decide (dKind r.cmd.desc = 2))
        (if dKind r.cmd.desc = 0 then readDeadline s r b else agedDeadline r.ready) := by
  rw [runReady]
  split
  next h => exact absurd h hw
  next h => exact absurd h hm
  next => cases nextBurst r <;> rfl

theorem runReady_aged {r : StreamRun} {c : Ready} {s : State} {e : EngineId} (hk : dKind r.cmd.desc = 2 ∨ dKind r.cmd.desc = 3)
    (h : runReady s e r = some c) : c.deadline = r.ready + 65536 := by
  rw [runReady_burst (by omega) (by omega)] at h
  obtain ⟨b, -, hb⟩ := Option.bind_eq_some_iff.1 h
  split at hb
  · exact absurd hb (Option.some_ne_none c).symm
  · rw [if_neg (show ¬ dKind r.cmd.desc = 0 by omega)] at hb
    exact burstReady_deadline hb

/-- Only a compare asks for a second range. -/
theorem nextBurst_second {r : StreamRun} {b : Burst} (hk : dKind r.cmd.desc ≠ 3) (h : nextBurst r = some b) : b.second = false := by
  have htotal : burstTotal r = dStored r.bitmap r.cmd.desc := if_neg fun h => hk h.1
  rw [nextBurst] at h
  dsimp only at h
  split at h
  · exact absurd h (Option.some_ne_none b).symm
  next hle =>
    rw [← Option.some.inj h]
    exact decide_eq_false (htotal ▸ hle)

theorem burstFar_near {d : Desc} {b : Burst} (h : b.second = false) : burstFar d b = dFarA d := by rw [burstFar, h]; rfl

/-! ### Preparation and marks -/

theorem prepare_other {r : StreamRun} (hk : dKind r.cmd.desc ≠ 0) (s : State) : prepare s r = r := if_pos hk

theorem dropOverflow_within {r : StreamRun} (h : r.overflowed = false) : dropOverflow r = r := by rw [dropOverflow, h]; rfl

theorem markPort_full (s : State) (p : Nat) (r : StreamRun) : ∃ l, markPort s p r = { r with full := l } := by
  rw [markPort]
  split
  · exact ⟨_, rfl⟩
  · split
    · exact ⟨_, rfl⟩
    · exact ⟨r.full, rfl⟩

theorem markBurst_full (s : State) (b : Burst) (r : StreamRun) : ∃ l, markBurst s b r = { r with full := l } := by
  rw [markBurst]
  generalize burstPorts s r b = ports
  induction ports generalizing r with
  | nil => exact ⟨r.full, rfl⟩
  | cons p ports ih =>
    obtain ⟨l, hl⟩ := markPort_full s p r
    rw [List.foldl_cons, hl]
    exact ih { r with full := l }

theorem prepare_dense {r : StreamRun} {b : Burst} {s : State} (hk : dKind r.cmd.desc = 0) (hs : dSparse r.cmd.desc = 0)
    (hb : nextBurst r = some b) : prepare s r = markBurst s b r := by
  have hmap : passBitmap s r = r := if_pos (.inl (by rw [hs]; decide))
  rw [prepare]
  dsimp only
  rw [if_neg (not_not.2 hk), if_neg (by rw [hs]; decide), hmap, hb]

/-! ### The clauses of `BURST_ISSUE` -/

section
variable {s : State} {e : EngineId} {y : StreamRun} {b : Burst} {wb : WriteBurst} (hy : (engineOf s e).run = some y)
  (ha : (engineOf s e).ahead = [])
include hy ha

theorem burst_due {c : Ready} (hk : dKind y.cmd.desc = 2 ∨ dKind y.cmd.desc = 3) (hc : engineReady s e = some c) :
    c.deadline = y.ready + 65536 :=
  runReady_aged hk ((engineReady_lone hy ha).symm.trans hc)

/-- What a run that needs no preparation hands over. -/
theorem handed {c : Ready} (hk : dKind y.cmd.desc ≠ 0) (ho : y.overflowed = false)
    (hg : ∀ c, engineReady (putRun e y s) e = some c → granted (putRun e y s) c = true)
    (hc : runReady (putRun e y s) e y = some c) : exec (.burstIssue e) s = .next (serve c (handOver e y (putRun e y s))) := by
  have hz : dropOverflow (prepare s y) = y := by rw [prepare_other hk, dropOverflow_within ho]
  have hc' := (engineReady_putRun (y := y) ha).trans hc
  exact (burstIssue_lone hy ha hz).1 c hc' (hg c hc')

theorem burst_passedOver {c : Ready} (hk : dKind y.cmd.desc = 2 ∨ dKind y.cmd.desc = 3) (ho : y.overflowed = false)
    (hc : engineReady (putRun e y s) e = some c) (hg : granted (putRun e y s) c = false) :
    exec (.burstIssue e) s = .next (putRun e y s) := by
  have hz : dropOverflow (prepare s y) = y := by rw [prepare_other (by omega), dropOverflow_within ho]
  exact (burstIssue_lone hy ha hz).2.1 c hc hg

/-- The bytes of a fill's burst. -/
def fillBytes (d : Desc) (b : Burst) : List Byte :=
  (List.range b.len).map fun i => BitVec.ofNat 8 (fld (dWord d 3) (8 * ((b.offset + i) % 8)) 8)

omit hy ha in
theorem fillBytes_getElem (d : Desc) (b : Burst) (j : Nat) (hj : j < (fillBytes d b).length) :
    (fillBytes d b)[j] = (dWord d 3).extractLsb' (8 * ((b.offset + j) % 8)) 8 := by
  simp only [fillBytes, List.getElem_map, List.getElem_range]
  refine BitVec.eq_of_toNat_eq ?_
  rw [BitVec.toNat_ofNat, BitVec.extractLsb'_toNat, fld, Nat.shiftRight_eq_div_pow]
  exact Nat.mod_mod _ _

theorem fill_issues (hk : dKind y.cmd.desc = 2) (ho : y.overflowed = false)
    (hg : ∀ c, engineReady (putRun e y s) e = some c → granted (putRun e y s) c = true) (hwf : s.bulk.wf = true)
    (hfar : dFarA y.cmd.desc = false) (hb : nextBurst y = some b) :
    ∃ t, exec (.burstIssue e) s = .next t
      ∧ runOf t e = some { y with issued := y.issued + b.len, written := y.written + b.len, ready := s.clock.now }
      ∧ servedFor t (burstAddr y.cmd.desc b / 256 % 8) y.cmd.region = servedFor s (burstAddr y.cmd.desc b / 256 % 8) y.cmd.region + 1
      ∧ (∀ j < b.len, mget t.bulk (burstAddr y.cmd.desc b + j) = (dWord y.cmd.desc 3).extractLsb' (8 * ((b.offset + j) % 8)) 8)
      ∧ ∀ j, j < burstAddr y.cmd.desc b ∨ burstAddr y.cmd.desc b + b.len ≤ j → mget t.bulk j = mget s.bulk j := by
  have hnear : burstFar y.cmd.desc b = false := (burstFar_near (nextBurst_second (by omega) hb)).trans hfar
  generalize hA : burstAddr y.cmd.desc b = a
  have hready : runReady (putRun e y s) e y = some ⟨e.val, y.cmd.region, [a / 256 % 8], (bulkResources (engineDie e) a true).drop 1,
      agedDeadline y.ready⟩ := by
    rw [runReady_burst (by omega) (by omega), hb, Option.bind_some, hk, hnear, hA]
    rfl
  have hover : handOver e y (putRun e y s) = putRun e { y with issued := y.issued + b.len, written := y.written + b.len, ready := s.clock.now }
      (bulkWrite a (fillBytes y.cmd.desc b) false (putRun e y s)) := by
    rw [handOver, hk]
    rw [handFill, hb]
    dsimp only
    rw [hfar, hA]
    rfl
  have hlen : (fillBytes y.cmd.desc b).length = b.len := by rw [fillBytes, List.length_map, List.length_range]
  refine ⟨_, handed hy ha (by omega) ho hg hready, ?_, ?_, fun j hj => ?_, fun j hj => ?_⟩
  · rw [hover]
    exact runOf_putRun ..
  · rw [hover]
    refine servedFor_charge (fun h => ?_) _
    have := mem_ringPath h
    omega
  · rw [hover, ← fillBytes_getElem _ b j (hlen.symm ▸ hj)]
    exact mget_mwrite_inside _ _ _ _ hwf (hlen.symm ▸ hj)
  · rw [hover]
    exact mget_mwrite_outside _ _ _ _ (hlen.symm ▸ hj)

theorem write_issues (hk : dKind y.cmd.desc = 1) (ho : y.overflowed = false)
    (hg : ∀ c, engineReady (putRun e y s) e = some c → granted (putRun e y s) c = true) (hwf : s.bulk.wf = true)
    (hfar : dFarA y.cmd.desc = false) (hwb : nextWrite y = some wb) :
    let bs := (writePieces y.part wb.len wb.run).flatMap Prod.fst
    let A := burstAddr y.cmd.desc ⟨wb.offset, wb.len, false⟩
    ∃ t, exec (.burstIssue e) s = .next t ∧ runOf t e = some (wroteBurst s.clock.now wb y)
      ∧ mread t.bulk A bs.length = bs ∧ ∀ j, j < A ∨ A + bs.length ≤ j → mget t.bulk j = mget s.bulk j := by
  intro bs A
  have hready : runReady (putRun e y s) e y = some ⟨e.val, y.cmd.region, [A / 256 % 8], (bulkResources (engineDie e) A true).drop 1,
      writeDeadline (putRun e y s) y⟩ := by
    rw [runReady_write hk, hwb, ho, hfar]
    rfl
  have hover : handOver e y (putRun e y s)
      = putRun e (wroteBurst s.clock.now wb y) (writePiecesBulk A (writePieces y.part wb.len wb.run) (putRun e y s)) := by
    rw [handOver, hk]
    rw [handWrite, hwb]
    dsimp only
    rw [hfar, if_neg Bool.false_ne_true, writePiecesBulk_clock]
    rfl
  have hbulk : (handOver e y (putRun e y s)).bulk = mwrite s.bulk A bs := by
    rw [hover]
    exact writePiecesBulk_bulk _ _ (putRun e y s)
  refine ⟨_, handed hy ha (by omega) ho hg hready, ?_, ?_, fun j hj => ?_⟩
  · rw [hover]
    exact runOf_putRun ..
  · exact (congrArg (mread · A bs.length) hbulk).trans (mread_mwrite hwf A bs)
  · exact (congrArg (mget · j) hbulk).trans (mget_mwrite_outside bs s.bulk A j hj)

theorem compare_issues (hk : dKind y.cmd.desc = 3) (ho : y.overflowed = false)
    (hg : ∀ c, engineReady (putRun e y s) e = some c → granted (putRun e y s) c = true) (hb : nextBurst y = some b)
    (hfar : burstFar y.cmd.desc b = false) (hroom : y.bursts.length < 8) :
    ∃ t, exec (.burstIssue e) s = .next t
      ∧ runOf t e = some { y with bursts := y.bursts ++ [b], issued := y.issued + b.len, ready := s.clock.now } := by
  have hheld : fetchHeld (putRun e y s) y = false := by
    rw [fetchHeld, hb]
    dsimp only
    rw [hk, decide_eq_false (by omega)]
    rfl
  obtain ⟨c, hc⟩ : ∃ c, runReady (putRun e y s) e y = some c := by
    rw [runReady_burst (by omega) (by omega), hb, Option.bind_some, hheld, if_neg fun h => Bool.false_ne_true h.2, hfar]
    exact ⟨_, rfl⟩
  refine ⟨_, handed hy ha (by omega) ho hg hc, ?_⟩
  have hover : handOver e y (putRun e y s)
      = putRun e { y with bursts := y.bursts ++ [b], issued := y.issued + b.len, ready := s.clock.now } (putRun e y s) := by
    rw [handOver, hk]
    rw [handFetch, hb]
    dsimp only
    rw [hfar, hk]
    rfl
  rw [hover]
  exact runOf_putRun ..

variable (hk : dKind y.cmd.desc = 0) (hs : dSparse y.cmd.desc = 0) (hb : nextBurst y = some b) (hfar : burstFar y.cmd.desc b = false)
  (ho : y.overflowed = false)
include hk hs hb hfar ho

theorem read_held (hheld : fetchHeld s (markBurst s b y) = true) :
    exec (.burstIssue e) s = .next (putRun e (markBurst s b y) s) := by
  obtain ⟨l, hl⟩ := markBurst_full s b y
  have hz : dropOverflow (prepare s y) = markBurst s b y := by
    rw [prepare_dense hk hs hb, hl]
    exact dropOverflow_within ho
  have hnone : runReady (putRun e (markBurst s b y) s) e (markBurst s b y) = none := by
    have hheld' : fetchHeld (putRun e (markBurst s b y) s) (markBurst s b y) = true := hheld
    rw [runReady_burst (by rw [hl]; dsimp only; omega) (by rw [hl]; dsimp only; omega), hheld', hl,
      show nextBurst { y with full := l } = some b from hb, hk]
    rfl
  have hask : askNext e (markBurst s b y) (putRun e (markBurst s b y) s) = putRun e (markBurst s b y) s := by
    rw [hl, askNext]
    dsimp only
    rw [hk, show nextBurst { y with full := l } = some b from hb]
    dsimp only
    rw [hfar]
    rfl
  exact ((burstIssue_lone hy ha hz).2.2 ((engineReady_putRun ha).trans hnone)).trans (congrArg Host.Outcome.next hask)

theorem read_issues (hheld : fetchHeld s (markBurst s b y) = false)
    (hg : ∀ c, engineReady (putRun e (markBurst s b y) s) e = some c → granted (putRun e (markBurst s b y) s) c = true) :
    ∃ t z, exec (.burstIssue e) s = .next t ∧ runOf t e = some z ∧ z.bursts = y.bursts ++ [b] ∧ z.queue = y.queue
      ∧ z.issued = y.issued + b.len ∧ z.ready = s.clock.now ∧ t.bulk = s.bulk := by
  obtain ⟨l, hl⟩ := markBurst_full s b y
  have hz : dropOverflow (prepare s y) = markBurst s b y := by
    rw [prepare_dense hk hs hb, hl]
    exact dropOverflow_within ho
  obtain ⟨c, hc⟩ : ∃ c, runReady (putRun e (markBurst s b y) s) e (markBurst s b y) = some c := by
    have hheld' : fetchHeld (putRun e (markBurst s b y) s) (markBurst s b y) = false := hheld
    rw [runReady_burst (by rw [hl]; dsimp only; omega) (by rw [hl]; dsimp only; omega), hheld', hl,
      show nextBurst { y with full := l } = some b from hb]
    rw [Option.bind_some, if_neg fun h => Bool.false_ne_true h.2]
    dsimp only
    rw [hfar]
    exact ⟨_, rfl⟩
  have hexec := (burstIssue_lone hy ha hz).1 c ((engineReady_putRun ha).trans hc) (hg c ((engineReady_putRun ha).trans hc))
  rw [hl] at hexec
  generalize hu : putRun e { y with full := l } s = u at hexec
  have hover : handOver e { y with full := l } u = putRun e (markBurst u b
      { y with full := l, bursts := y.bursts ++ [b], issued := y.issued + b.len, ready := u.clock.now }) u := by
    rw [handOver]
    dsimp only
    rw [hk]
    rw [handFetch, show nextBurst { y with full := l } = some b from hb]
    dsimp only
    rw [hfar, hk]
    rfl
  obtain ⟨l', hl'⟩ := markBurst_full u b
    { y with full := l, bursts := y.bursts ++ [b], issued := y.issued + b.len, ready := u.clock.now }
  rw [hover, hl'] at hexec
  exact ⟨_, _, hexec, runOf_putRun .., rfl, rfl, rfl, by rw [← hu]; rfl, by rw [← hu]; rfl⟩

end

end Sys2Proof.Machine

/-!
SUPPORT. The start and the end of stream descriptors, their windows and the choice among bursts (R245, R256, R260, R273–R275).
-/
namespace Sys2Proof.Machine
open Sys2Proof Sys2Proof.Safety

/-! ### The start of a descriptor (R256) -/

theorem mayStart_idle {x : Engine} (hrun : x.run = none) (hahead : x.ahead = []) (s : State) (q : StreamCmd) : mayStart s x q = true := by
  rw [mayStart, hrun, hahead]
  rfl

section
variable {s : State} {e : EngineId} {q : StreamCmd} {rest : List StreamCmd} (hq : (engineOf s e).queue = q :: rest)
  (hrun : (engineOf s e).run = none) (hahead : (engineOf s e).ahead = [])
include hq hrun hahead

theorem descriptor_fails (ecc : SectorEcc) (hok : descOk s e q = false) (hh : hears q.hart s) :
    ∃ t, exec (.streamDescriptorStart ⟨e, ecc⟩) s = .next t ∧ (engineOf t e).queue = rest ∧ (engineOf t e).run = none
      ∧ recorded q.hart (recordOf q 0x23 0) s t := by
  have hstart : startDesc e ecc s = deliverRecord e q.hart (streamRec (dXfer q.desc) 0x23 0)
      (setEngine s e { engineOf s e with queue := rest }) := by
    have hmay := mayStart_idle hrun hahead s q
    rw [startDesc, hq]
    dsimp only
    rw [hmay, Bool.not_true, if_neg Bool.false_ne_true, hok, Bool.not_false, if_pos rfl]
  rw [deliverRecord_hears (s := setEngine s e { engineOf s e with queue := rest }) hh] at hstart
  refine ⟨_, congrArg Host.Outcome.next hstart, congrArg Engine.queue (engineOf_setEngine s e _),
    (congrArg Engine.run (engineOf_setEngine s e _)).trans hrun, ?_, ?_⟩
  · rw [thread_modTh_same]
    rfl
  · rw [thread_modTh_same, BitVec.getLsbD_or]
    simp

/-- The mover transfer that a write stream asks its core for. -/
def writeJobs (e : EngineId) (q : StreamCmd) : List MoverJob := if dKind q.desc = 1 then [⟨q.hart.thread, 0, some e⟩] else []

theorem startDesc_dense (ecc : SectorEcc) (hok : descOk s e q = true) (hfits : stageFits s q = true)
    (hdense : dKind q.desc ≠ 0 ∨ dSparse q.desc = 0) :
    ∃ n, startDesc e ecc s =
      let u := setEngine { s with nextMid := n } e { engineOf s e with run := some (freshRun s q ((windowsOf s q).getD [])), queue := rest }
      if dKind q.desc = 1 then modCore u q.hart.core fun c => { c with moverQ := c.moverQ ++ [⟨q.hart.thread, 0, some e⟩] } else u := by
  have hmay := mayStart_idle hrun hahead s q
  have hd : ¬ (dKind q.desc = 0 ∧ dSparse q.desc ≠ 0) := fun h => hdense.elim (· h.1) h.2
  have hmap : mapPoison s q.desc = false := by rw [mapPoison, decide_eq_false hd]; rfl
  have hsound : ∀ p : Prop, ¬ (false = true ∧ p) := fun _ h => Bool.false_ne_true h.1
  refine ⟨s.nextMid + if dKind q.desc = 0 then allFlits (readBitmap s q.desc) q.desc else 0, ?_⟩
  rw [startDesc, hq]
  dsimp only
  rw [hmay, Bool.not_true, if_neg Bool.false_ne_true, hok, Bool.not_true, if_neg Bool.false_ne_true, hfits, Bool.not_true,
    if_neg Bool.false_ne_true, if_neg hd, hmap, if_neg (hsound _), if_neg (hsound _), startRun, hrun]
  rfl

theorem descriptor_starts (ecc : SectorEcc) (hok : descOk s e q = true) (hfits : stageFits s q = true)
    (hdense : dKind q.desc ≠ 0 ∨ dSparse q.desc = 0) :
    ∃ t z, exec (.streamDescriptorStart ⟨e, ecc⟩) s = .next t ∧ (engineOf t e).queue = rest ∧ (engineOf t e).run = some z
      ∧ z.cmd = q ∧ z.issued = 0 ∧ z.bursts = [] ∧ z.staged = 0 ∧ z.written = 0 ∧ z.status = 0
      ∧ z.window = (windowsOf s q).getD [] ∧ t.bulk = s.bulk
      ∧ (coreOf t q.hart.core).moverQ = (coreOf s q.hart.core).moverQ ++ writeJobs e q := by
  obtain ⟨n, hn⟩ := startDesc_dense hq hrun hahead ecc hok hfits hdense
  dsimp only at hn
  by_cases hk : dKind q.desc = 1
  · rw [if_pos hk] at hn
    refine ⟨_, _, congrArg Host.Outcome.next hn, congrArg Engine.queue (engineOf_setEngine _ e _),
      congrArg Engine.run (engineOf_setEngine _ e _), rfl, rfl, rfl, rfl, rfl, rfl, rfl, rfl, ?_⟩
    rw [coreOf_modCore_same, writeJobs, if_pos hk]
    rfl
  · rw [if_neg hk] at hn
    refine ⟨_, _, congrArg Host.Outcome.next hn, congrArg Engine.queue (engineOf_setEngine _ e _),
      congrArg Engine.run (engineOf_setEngine _ e _), rfl, rfl, rfl, rfl, rfl, rfl, rfl, rfl, ?_⟩
    rw [writeJobs, if_neg hk, List.append_nil]
    rfl

end

/-! ### Windows (R260) -/

theorem find?_first {l : List Nat} {x start : Nat} (hl : l.Pairwise (· < ·)) (h : l.find? (fun x => decide (start ≤ x)) = some x) :
    x ∈ l ∧ start ≤ x ∧ ∀ y ∈ l, start ≤ y → x ≤ y := by
  obtain ⟨hx, as, bs, rfl, has⟩ := List.find?_eq_some_iff_append.1 h
  refine ⟨by simp, of_decide_eq_true hx, fun y hy hs => ?_⟩
  rcases List.mem_append.1 hy with hy | hy
  · exact absurd hs (of_decide_eq_false (by simpa using has y hy))
  · rcases List.mem_cons.1 hy with rfl | hy
    · exact Nat.le_refl _
    · exact Nat.le_of_lt ((List.pairwise_cons.1 (List.pairwise_append.1 hl).2.1).1 y hy)

theorem windowFor_today {s : State} {p : ShoreId} {dir : SlotDir} {start n : Nat} {w : SlotWindow}
    (h : windowFor s p dir start n = some w) : w.left = n ∧ (w.day = s.clock.dayNo →
      isSlot s p dir w.offset = true ∧ start ≤ w.offset ∧ s.clock.cycle < 512 + w.offset
        ∧ ∀ off, start ≤ off → off < w.offset → isSlot s p dir off = false) := by
  have hlater : ∀ {k : Nat} {y : Option Nat}, (y.map fun y => (⟨s.clock.dayNo + (k + 1), y, n⟩ : SlotWindow)) = some w →
      w.left = n ∧ w.day ≠ s.clock.dayNo := by
    intro k y hy
    obtain ⟨v, -, rfl⟩ := Option.map_eq_some_iff.1 hy
    exact ⟨rfl, by dsimp only; omega⟩
  rw [windowFor, portSlots] at h
  dsimp only at h
  split at h
  next x hx =>
    split at h
    next hahead =>
      obtain rfl := Option.some.inj h
      obtain ⟨hmem, hstart, hfirst⟩ := find?_first (List.pairwise_lt_range.filter _) hx
      obtain ⟨hrange, hslot⟩ := List.mem_filter.1 hmem
      refine ⟨rfl, fun _ => ⟨hslot, hstart, hahead, fun off hoff hlt => Bool.eq_false_iff.2 fun hs => ?_⟩⟩
      exact absurd (hfirst off (List.mem_filter.2 ⟨List.mem_range.2 (hlt.trans (List.mem_range.1 hrange)), hs⟩) hoff) (not_le_of_gt hlt)
    next =>
      split at h
      next y hy => exact ⟨(hlater (k := 0) (y := some y) h).1, fun hd => absurd hd (hlater (k := 0) (y := some y) h).2⟩
      next => exact ⟨(hlater (k := 1) h).1, fun hd => absurd hd (hlater (k := 1) h).2⟩
  next => exact ⟨(hlater (k := 0) h).1, fun hd => absurd hd (hlater (k := 0) h).2⟩

/-! ### The choice among the bursts that wait (R245) -/

theorem before_iff (s : State) (m : Nat) (x c : Ready) : before s m x c = true ↔
    (withinQuota s m x.region = true ∧ ¬ withinQuota s m c.region = true)
      ∨ ((withinQuota s m x.region = true ↔ withinQuota s m c.region = true)
        ∧ (x.deadline < c.deadline ∨ (x.deadline = c.deadline ∧ x.rank < c.rank))) := by
  have horder : (if x.deadline ≠ c.deadline then decide (x.deadline < c.deadline) else decide (x.rank < c.rank)) = true
      ↔ x.deadline < c.deadline ∨ (x.deadline = c.deadline ∧ x.rank < c.rank) := by
    split
    next hne => simp [hne]
    next heq => simp [not_not.1 heq]
  rw [before]
  by_cases hq : withinQuota s m x.region = withinQuota s m c.region
  · rw [if_neg (not_not.2 hq), horder, hq]
    cases withinQuota s m c.region <;> simp
  · rw [if_pos hq]
    cases hc : withinQuota s m c.region <;> simp_all

theorem granted_single {s : State} {c : Ready} {m : Nat} (hm : c.controllers = [m]) (hs : c.segments = []) :
    granted s c = true ↔ ∀ x ∈ waiting s, m ∈ x.controllers → ¬ before s m x c = true := by
  rw [granted]
  simp only [firstAt, hm, hs, List.all_nil, List.all_cons, Bool.and_true, List.all_eq_true, Bool.or_eq_true, Bool.not_eq_true',
    List.contains_eq_mem, decide_eq_false_iff_not]
  exact forall₂_congr fun x _ => by rw [imp_iff_not_or, Bool.not_eq_true]

/-! ### The end of a descriptor -/

section
variable {s : State} {e : EngineId} {y : StreamRun}

theorem streamRec_recordOf (x : StreamCmd) (st : BitVec 8) (n : Nat) : streamRec (dXfer x.desc) st n = recordOf x st n := rfl

theorem finishRun_records (ha : (engineOf s e).ahead = []) (hk : dKind y.cmd.desc ≠ 3) (hh : hears y.cmd.hart s) :
    (engineOf (finishRun e y s) e).run = none
      ∧ recorded y.cmd.hart (recordOf y.cmd y.status y.poisoned) s (finishRun e y s) := by
  rw [finishRun]
  rw [if_neg hk, ha]
  generalize hx : (Engine.mk ..) = x
  rw [deliverRecord_hears (s := setEngine s e x) hh]
  refine ⟨(congrArg Engine.run (engineOf_setEngine s e x)).trans (by rw [← hx]; rfl), ?_, ?_⟩
  · rw [thread_modTh_same]
    rfl
  · rw [thread_modTh_same, BitVec.getLsbD_or]
    simp

theorem marker_releases (hy : (engineOf s e).run = some y) (ha : (engineOf s e).ahead = []) (hk : dKind y.cmd.desc = 4)
    (hm : markerReached s y.cmd.desc = true) (hh : hears y.cmd.hart s) :
    ∃ t, exec (.dependenceMarkerRelease e) s = .next t ∧ (engineOf t e).run = none
      ∧ recorded y.cmd.hart (recordOf y.cmd y.status y.poisoned) s t := by
  refine ⟨finishRun e y s, ?_, finishRun_records ha (by omega) hh⟩
  rw [show exec (.dependenceMarkerRelease e) s = execDependenceMarkerRelease e s from rfl, execDependenceMarkerRelease,
    show runOf s e = some y from hy]
  exact congrArg Host.Outcome.next (if_pos ⟨hk, hm⟩)

theorem stream_completes (hy : (engineOf s e).run = some y) (ha : (engineOf s e).ahead = []) (hk : dKind y.cmd.desc ≠ 3)
    (hf : streamFinished y = true) (hh : hears y.cmd.hart s) :
    ∃ t, exec (.streamComplete e) s = .next t ∧ (engineOf t e).run = none
      ∧ recorded y.cmd.hart (recordOf y.cmd y.status y.poisoned) s t := by
  refine ⟨finishRun e y s, ?_, finishRun_records ha hk hh⟩
  rw [show exec (.streamComplete e) s = execStreamComplete e s from rfl, execStreamComplete, show runOf s e = some y from hy]
  exact congrArg Host.Outcome.next (if_pos hf)

theorem arrival_signals {cell : BitVec 11} {ix : BitVec 10} {l : List (BitVec 11 × BitVec 2 × BitVec 10)} {die : DieId} {n : Nat}
    (hl : (engineOf s e).arrivals = (cell, 1, ix) :: l) (hflag : flagIn (cellEntry s cell.toNat) ix.toNat = some (die, n)) :
    ∃ t, exec (.streamArrivalSignal e) s = .next t ∧ (engineOf t e).arrivals = l
      ∧ t.flight = s.flight ++ [⟨.engine e, die, .set n⟩] := by
  refine ⟨sendUpd ⟨.engine e, die, .set n⟩ (setEngine s e { engineOf s e with arrivals := l }), ?_,
    congrArg Engine.arrivals (engineOf_setEngine s e _), rfl⟩
  rw [show exec (.streamArrivalSignal e) s = execStreamArrivalSignal e s from rfl, execStreamArrivalSignal, hl]
  dsimp only
  rw [if_pos rfl, show flagIn (cellEntry (setEngine s e _) cell.toNat) ix.toNat = some (die, n) from hflag]
  rfl

end

end Sys2Proof.Machine

/-!
SUPPORT. The data of a burst that has come, bursts of cancelled streams, and decryption blocks (R259, R263, R264, R273, R397).
-/
namespace Sys2Proof.Machine
open Sys2Proof Sys2Proof.Safety

/-! ### Bursts of cancelled streams (R273) -/

/-- The outstanding bursts of cancelled streams in order. -/
def outstanding (l : List StreamRun) : List (StreamRun × Burst) := l.flatMap fun r => r.bursts.map fun b => (r, b)

theorem dropAt_length {α : Type} : ∀ (l : List α) (i : Nat), i < l.length → (dropAt l i).length + 1 = l.length
  | _ :: _, 0, _ => rfl
  | _ :: l, i + 1, h => congrArg (· + 1) (dropAt_length l i (Nat.lt_of_succ_lt_succ h))

theorem dyingBurst_length (e : EngineId) (l : List StreamRun) (i : Nat) (h : i < (outstanding l).length) :
    (outstanding (dyingBurst e i l)).length + 1 = (outstanding l).length := by
  induction l generalizing i with
  | nil => exact absurd h (Nat.not_lt_zero i)
  | cons r l ih =>
    have hcons : ∀ (r : StreamRun) (l : List StreamRun), (outstanding (r :: l)).length = r.bursts.length + (outstanding l).length :=
      fun r l => by simp [outstanding]
    rw [hcons] at h
    rw [dyingBurst, hcons]
    split
    next hi =>
      split
      next hone => omega
      next =>
        have hdrop := dropAt_length r.bursts i hi
        rw [hcons]
        dsimp only
        omega
    next hi =>
      have hrest := ih (i - r.bursts.length) (by omega)
      rw [hcons]
      omega

theorem dying_completes {s : State} {e : EngineId} {i : Nat} {z : StreamRun} {b : Burst}
    (hi : (dyingBursts (engineOf s e))[i]? = some (z, b)) (hfar : burstFar z.cmd.desc b = false) :
    ∃ t, exec (.burstComplete e i [] []) s = .next t ∧ runOf t e = runOf s e ∧ t.bulk = s.bulk
      ∧ (dyingBursts (engineOf t e)).length + 1 = (dyingBursts (engineOf s e)).length := by
  have hengine := engineOf_setEngine s e { engineOf s e with dying := dyingBurst e i (engineOf s e).dying }
  refine ⟨setEngine s e { engineOf s e with dying := dyingBurst e i (engineOf s e).dying }, ?_, (congrArg Engine.run hengine :), rfl, ?_⟩
  · rw [show exec (.burstComplete e i [] []) s = execBurstComplete e i [] [] s from rfl, execBurstComplete]
    dsimp only
    rw [hi]
    dsimp only
    rw [hfar, if_neg fun h => Bool.false_ne_true h.1, if_neg Bool.false_ne_true, eccRead_clean]
  · rw [hengine]
    exact dyingBurst_length e _ i (List.getElem?_eq_some_iff.1 hi).1

/-! ### A lone run's burst -/

section
variable {s : State} {e : EngineId} {y : StreamRun} {b : Burst} {i : Nat}

theorem readied_ready (s : State) (old new : StreamRun) : ∃ n, readied s old new = { new with ready := n } := by
  rw [readied]
  split
  · exact ⟨_, rfl⟩
  · exact ⟨new.ready, rfl⟩

theorem bulkData_sound {a : Nat} (h : ∀ j < b.len, bulkBad s (a + j) = false) : (bulkData s b a).bad = false := by
  rw [bulkData]
  split
  · refine List.any_eq_false.2 fun x hx => ?_
    obtain ⟨j, hj, rfl⟩ := List.mem_map.1 hx
    simpa using h j (List.mem_range.1 hj)
  · refine List.any_eq_false.2 fun x hx => ?_
    obtain ⟨j, hj, rfl⟩ := List.mem_map.1 hx
    simpa using h (8 * j) (by have := List.mem_range.1 hj; omega)

/-- What the data of a burst leaves of its run, before anything is staged. -/
def ingested (y : StreamRun) (i : Nat) (b : Burst) : BurstData → StreamRun
  | .words ws => ingestWords { y with bursts := dropAt y.bursts i } b ws
  | .bytes l => ingestSecond { y with bursts := dropAt y.bursts i } b fun k => nth (0, false) l k

theorem ingested_frame (x : BurstData) : ∃ t, ingested y i b x = { y with bursts := dropAt y.bursts i, ingest := t } := by
  cases x with
  | words => exact ⟨_, rfl⟩
  | bytes => exact ⟨_, rfl⟩

theorem burstData_other {x : BurstData} (hx : x.bad = false) (hk : dKind y.cmd.desc ≠ 0) :
    burstData e y i b x s = putRun e (readied s y (ingested y i b x)) s := by
  rw [burstData, hx]
  dsimp only
  rw [if_neg fun h => Bool.false_ne_true h.1, if_neg hk]
  cases x <;> rfl

theorem burstData_read {x : BurstData} (hx : x.bad = false) (hk : dKind y.cmd.desc = 0) :
    burstData e y i b x s = putRun e (readied s y (markBurst s b (stageNew s y (ingested y i b x)
      (flitOfStored y.bitmap y.cmd.desc b.offset)
      (flitOfStored y.bitmap y.cmd.desc (b.offset + b.len - 1) + 1 + 1 - flitOfStored y.bitmap y.cmd.desc b.offset)))) s := by
  rw [burstData, hx]
  dsimp only
  rw [if_neg fun h => Bool.false_ne_true h.1, if_pos hk]
  cases x <;> rfl

theorem burstComplete_lone (hy : (engineOf s e).run = some y) (hd : (engineOf s e).dying = []) (hb : y.bursts[i]? = some b)
    (hfar : burstFar y.cmd.desc b = false) :
    exec (.burstComplete e i [] []) s = .next (burstData e y i b (bulkData s b (burstAddr y.cmd.desc b)) s) := by
  have hdead : dyingBursts (engineOf s e) = [] := by rw [dyingBursts, hd]; rfl
  have hat : burstAt (activeRuns (engineOf s e)) i = some (0, i) := by
    rw [activeRuns, hy]
    exact if_pos (List.getElem?_eq_some_iff.1 hb).1
  rw [show exec (.burstComplete e i [] []) s = execBurstComplete e i [] [] s from rfl, execBurstComplete]
  dsimp only
  rw [hdead, List.getElem?_nil]
  dsimp only [List.length_nil]
  rw [Nat.sub_zero, onBurst, hat]
  dsimp only
  rw [focused, if_pos rfl, onRun, show runOf s e = some y from hy]
  dsimp only
  rw [hb]
  dsimp only
  rw [hfar, if_neg Bool.false_ne_true, eccRead_clean]

theorem compare_takes (hy : (engineOf s e).run = some y) (hd : (engineOf s e).dying = []) (hb : y.bursts[i]? = some b)
    (hfar : burstFar y.cmd.desc b = false) (hsound : ∀ j < b.len, bulkBad s (burstAddr y.cmd.desc b + j) = false)
    (hk : dKind y.cmd.desc = 3) :
    ∃ t z, exec (.burstComplete e i [] []) s = .next t ∧ runOf t e = some z ∧ z.bursts = dropAt y.bursts i
      ∧ z.status = y.status ∧ t.bulk = s.bulk := by
  have hexec := burstComplete_lone hy hd hb hfar
  rw [burstData_other (bulkData_sound hsound) (by omega)] at hexec
  obtain ⟨t, ht⟩ := ingested_frame (y := y) (i := i) (b := b) (bulkData s b (burstAddr y.cmd.desc b))
  obtain ⟨n, hn⟩ := readied_ready s y (ingested y i b (bulkData s b (burstAddr y.cmd.desc b)))
  rw [hn, ht] at hexec
  exact ⟨_, _, hexec, runOf_putRun .., rfl, rfl, rfl⟩

end

/-! ### The flits of a dense read (R259, R264) -/

/-- What a read does with flit `i` of those that a burst may have completed. -/
def stageStep (s : State) (old new r : StreamRun) (i : Nat) : StreamRun :=
  if i < payFlits r.bitmap r.cmd.desc ∧ (storedFor r.bitmap r.cmd.desc i).isSome ∧ (flitData old i).isNone then
    (flitData new i).elim r (stageFlit s r i)
  else r

theorem stageNew_steps (s : State) (old new : StreamRun) (lo n : Nat) :
    stageNew s old new lo n = (List.range' lo n).foldl (stageStep s old new) new := by
  rw [stageNew]
  refine congrArg (fun f => (List.range' lo n).foldl f new) (funext fun r => funext fun i => ?_)
  rw [stageStep]
  cases flitData new i <;> rfl

theorem stageFlit_appends {s : State} {r : StreamRun} (h : r.replaced = []) (i : Nat) (ws : List PWord) :
    ∃ m, stageFlit s r i ws = { r with
      staged := r.staged + 1
      poisoned := m
      queue := tset r.queue (flitShore s r.bitmap r.cmd i).val (queueAt r (flitShore s r.bitmap r.cmd i).val ++ [⟨i, ws⟩]) } := by
  rw [stageFlit, h]
  exact ⟨_, rfl⟩

theorem stageFlit_released (s : State) (r : StreamRun) (i : Nat) (ws : List PWord) : (stageFlit s r i ws).released = r.released := by
  rw [stageFlit]
  split <;> rfl

theorem stageNew_released (s : State) (old new : StreamRun) (lo n : Nat) : (stageNew s old new lo n).released = new.released := by
  rw [stageNew_steps]
  refine List.foldlRecOn _ _ (motive := fun r : StreamRun => r.released = new.released) rfl fun r hr i _ => ?_
  rw [stageStep]
  split
  · cases flitData new i with
    | none => exact hr
    | some ws => exact (stageFlit_released s r i ws).trans hr
  · exact hr

/-- Flits that come whole, all for one port, join its queue in order. -/
theorem foldl_stageStep {s : State} {old new : StreamRun} {p : Nat} {words : Nat → List PWord} (l : List Nat) (r : StreamRun)
    (hcmd : r.cmd = new.cmd) (hmap : r.bitmap = new.bitmap) (hrep : r.replaced = [])
    (hl : ∀ i ∈ l, i < payFlits new.bitmap new.cmd.desc ∧ (storedFor new.bitmap new.cmd.desc i).isSome ∧ flitData old i = none
      ∧ flitData new i = some (words i) ∧ (flitShore s new.bitmap new.cmd i).val = p) :
    let z := l.foldl (stageStep s old new) r
    z.cmd = r.cmd ∧ z.bitmap = r.bitmap ∧ z.bursts = r.bursts ∧ z.status = r.status ∧ z.staged = r.staged + l.length
      ∧ queueAt z p = queueAt r p ++ l.map fun i => ⟨i, words i⟩ := by
  induction l generalizing r with
  | nil => exact ⟨rfl, rfl, rfl, rfl, rfl, (List.append_nil _).symm⟩
  | cons i l ih =>
    obtain ⟨hpay, hstored, hold, hnew, hport⟩ := hl i List.mem_cons_self
    have hstep : stageStep s old new r i = stageFlit s r i (words i) := by
      rw [stageStep, hcmd, hmap, if_pos ⟨hpay, hstored, by rw [hold]; rfl⟩, hnew]
      rfl
    have hp : (flitShore s r.bitmap r.cmd i).val = p := by rw [hcmd, hmap]; exact hport
    obtain ⟨m, hm⟩ := stageFlit_appends (s := s) hrep i (words i)
    rw [hp] at hm
    dsimp only
    rw [List.foldl_cons, hstep, hm]
    obtain ⟨h1, h2, h3, h4, h5, h6⟩ := ih { r with
      staged := r.staged + 1, poisoned := m, queue := tset r.queue p (queueAt r p ++ [⟨i, words i⟩]) } hcmd hmap hrep
      fun j hj => hl j (List.mem_cons_of_mem i hj)
    refine ⟨h1, h2, h3, h4, h5.trans ?_, h6.trans ?_⟩
    · dsimp only
      rw [List.length_cons]
      omega
    · rw [queueAt, tget_tset_same, List.append_assoc]
      rfl

theorem tfind_foldl_tset {α : Type} (f : Nat → α) (k n : Nat) (t : Tab α) (w : Nat) :
    tfind ((List.range n).foldl (fun t j => tset t (k + j) (f j)) t) w = if k ≤ w ∧ w < k + n then some (f (w - k)) else tfind t w := by
  induction n with
  | zero => exact (if_neg (by omega)).symm
  | succ n ih =>
    rw [List.range_succ, List.foldl_append, List.foldl_cons, List.foldl_nil]
    by_cases hw : w = k + n
    · subst hw
      rw [tfind_tset_same, if_pos (by omega), Nat.add_sub_cancel_left]
    · rw [tfind_tset_other _ _ _ _ (Ne.symm hw), ih]
      exact if_congr (by omega) rfl rfl

section
variable {r : StreamRun} (hs : dSparse r.cmd.desc = 0) (ht : dT2 r.cmd.desc = false)
include hs ht

theorem storedFor_dense (i : Nat) : storedFor r.bitmap r.cmd.desc i = some (64 * i, 64) := by
  rw [storedFor, ht]
  dsimp only
  rw [if_pos hs, if_neg Bool.false_ne_true, Nat.zero_add]

theorem flitOfStored_dense (o : Nat) : flitOfStored r.bitmap r.cmd.desc o = o / 64 := by
  rw [flitOfStored, if_pos hs, unpackedByte, ht]
  rfl

theorem flitData_dense (hd : dDecrypt r.cmd.desc = false) (i : Nat) :
    flitData r i = if ((List.range' (8 * i) 8).filterMap fun w => tfind r.ingest w).length < 8 then none
      else some ((List.range' (8 * i) 8).filterMap fun w => tfind r.ingest w) := by
  have hreleased : released r (64 * i) 64 = true := by rw [released, hd]; rfl
  have hfirst : 64 * i / 8 = 8 * i := by omega
  have hcount : (64 * i + 64 - 1) / 8 + 1 - 8 * i = 8 := by omega
  rw [flitData]
  dsimp only
  rw [storedFor_dense hs ht]
  dsimp only
  rw [hfirst, hcount, hreleased, ht, List.length_range']
  simp

end

end Sys2Proof.Machine

/-!
SUPPORT. The settling proof of the stream engines: a dense read's data, and decryption blocks (R259, R263, R264, R397).
-/
namespace Sys2Proof.Machine
open Sys2Proof Sys2Proof.Safety

/-! ### A dense read takes its burst (R259, R264) -/

/-- The words of the flit at bulk address `a`: the obligation's own `flitAt`, whose name the model's `flitAt` hides here. -/
def bulkFlit (s : State) (a : Nat) : List PWord := (List.range 8).map fun j => ⟨bytes64 (bulkRead s (a + 8 * j) 8), false⟩

section
variable {s : State} {y : StreamRun} {b : Burst} {i a : Nat} (hs : dSparse y.cmd.desc = 0) (ht : dT2 y.cmd.desc = false)
  (hd : dDecrypt y.cmd.desc = false) (hsecond : b.second = false) (hk : dKind y.cmd.desc = 0)
  (hsound : ∀ j < b.len, bulkBad s (a + j) = false) (hoff : b.offset % 64 = 0) (hlen : b.len % 64 = 0)

include hk hsecond hsound hlen in
theorem ingested_word (w : Nat) : tfind (ingested y i b (bulkData s b a)).ingest w
    = if b.offset / 8 ≤ w ∧ w < b.offset / 8 + b.len / 8 then some ⟨bytes64 (bulkRead s (a + 8 * (w - b.offset / 8)) 8), false⟩
      else tfind y.ingest w := by
  have hdata : bulkData s b a = .words (bulkWords s a b.len) := by rw [bulkData, hsecond]; rfl
  have hkey : ∀ j, ingestKey y.cmd.desc b.second (b.offset / 8 + j) = b.offset / 8 + j := fun j => if_neg (by omega)
  have hcount : (bulkWords s a b.len).length = b.len / 8 := by
    rw [bulkWords, List.length_map, List.length_range]
    omega
  have hfold : (ingested y i b (bulkData s b a)).ingest = (List.range (b.len / 8)).foldl (fun t j =>
      tset t (b.offset / 8 + j) (nth ⟨0, false⟩ (bulkWords s a b.len) j)) y.ingest := by
    rw [hdata, ingested, ingestWords, hcount]
    dsimp only
    simp only [hkey]
  rw [hfold, tfind_foldl_tset]
  refine ite_congr rfl (fun h => congrArg some ?_) fun _ => rfl
  have hj : w - b.offset / 8 < (b.len + 7) / 8 := by omega
  have hfull : min 8 (b.len - 8 * (w - b.offset / 8)) = 8 := by omega
  rw [nth, bulkWords, List.getElem?_map, List.getElem?_range hj, Option.map_some, Option.getD_some, hfull, hsound _ (by omega)]

include hs ht hd hk hsecond hsound hoff hlen in
theorem ingested_flit {f : Nat} (hlo : b.offset / 64 ≤ f) (hhi : f < (b.offset + b.len) / 64) :
    flitData (ingested y i b (bulkData s b a)) f = some (bulkFlit s (a + 64 * (f - b.offset / 64))) := by
  have hwords : ((List.range' (8 * f) 8).filterMap fun w => tfind (ingested y i b (bulkData s b a)).ingest w)
      = bulkFlit s (a + 64 * (f - b.offset / 64)) := by
    rw [List.range'_eq_map_range, List.filterMap_map, bulkFlit, ← List.filterMap_eq_map]
    refine List.filterMap_congr fun j hj => ?_
    have hj8 := List.mem_range.1 hj
    rw [Function.comp_apply, ingested_word hsecond hk hsound hlen, if_pos (by omega), Function.comp_apply,
      show 8 * (8 * f + j - b.offset / 8) = 64 * (f - b.offset / 64) + 8 * j by omega, ← Nat.add_assoc a]
  obtain ⟨t, hframe⟩ := ingested_frame (y := y) (i := i) (b := b) (bulkData s b a)
  rw [flitData_dense (by rw [hframe]; exact hs) (by rw [hframe]; exact ht) (by rw [hframe]; exact hd), hwords, bulkFlit, List.length_map,
    List.length_range]
  rfl

include hs ht hd hk hsecond hsound hoff hlen in
theorem ingested_beyond : flitData (ingested y i b (bulkData s b a)) ((b.offset + b.len) / 64) = flitData y ((b.offset + b.len) / 64) := by
  have hwords : ((List.range' (8 * ((b.offset + b.len) / 64)) 8).filterMap fun w => tfind (ingested y i b (bulkData s b a)).ingest w)
      = (List.range' (8 * ((b.offset + b.len) / 64)) 8).filterMap fun w => tfind y.ingest w := by
    refine List.filterMap_congr fun w hw => ?_
    obtain ⟨hlo, -⟩ := List.mem_range'_1.1 hw
    rw [ingested_word hsecond hk hsound hlen, if_neg (by omega)]
  obtain ⟨t, hframe⟩ := ingested_frame (y := y) (i := i) (b := b) (bulkData s b a)
  rw [flitData_dense (by rw [hframe]; exact hs) (by rw [hframe]; exact ht) (by rw [hframe]; exact hd), hwords, flitData_dense hs ht hd]

theorem flitShore_single {bm : List Byte} {x : StreamCmd} (hn : dNmem x.desc = 1) {f : Nat} (hf : f < payFlits bm x.desc) :
    flitShore s bm x f = memberShore s x.region (dCell x.desc) (dMember0 x.desc) := by
  rw [flitShore, writeOf]
  dsimp only
  rw [if_pos hf, hn, Nat.mod_one]
  rfl

include hs ht hd hk hsecond hsound hoff hlen in
theorem stageNew_dense (hn : dNmem y.cmd.desc = 1) (hrep : y.replaced = []) (hend : b.offset + b.len ≤ dLength y.cmd.desc)
    (hmissing : ∀ f, b.offset / 64 ≤ f → f < (b.offset + b.len) / 64 → flitData y f = none) (_hpos : 0 < b.len) :
    let p := (flitShore s y.bitmap y.cmd (b.offset / 64)).val
    let z := stageNew s y (ingested y i b (bulkData s b a)) (b.offset / 64) (b.len / 64 + 1)
    z.bursts = dropAt y.bursts i ∧ z.status = y.status ∧ z.staged = y.staged + b.len / 64
      ∧ queueAt z p = queueAt y p ++ (List.range (b.len / 64)).map fun j => ⟨b.offset / 64 + j, bulkFlit s (a + 64 * j)⟩ := by
  intro p z
  have hpay : payFlits y.bitmap y.cmd.desc = dLength y.cmd.desc / 64 := by
    rw [payFlits, dDelivered, if_neg (by rw [hs]; decide)]
  have hin : ∀ f ∈ List.range' (b.offset / 64) (b.len / 64), b.offset / 64 ≤ f ∧ f < (b.offset + b.len) / 64 := fun f hf => by
    obtain ⟨hlo, hhi⟩ := List.mem_range'_1.1 hf
    omega
  have hbeyond := ingested_beyond (i := i) hs ht hd hsecond hk hsound hoff hlen
  have hflit : ∀ f ∈ List.range' (b.offset / 64) (b.len / 64),
      flitData (ingested y i b (bulkData s b a)) f = some (bulkFlit s (a + 64 * (f - b.offset / 64))) := fun f hf =>
    ingested_flit hs ht hd hsecond hk hsound hoff hlen (hin f hf).1 (hin f hf).2
  obtain ⟨t, hframe⟩ := ingested_frame (y := y) (i := i) (b := b) (bulkData s b a)
  have hz : z = (List.range' (b.offset / 64) (b.len / 64)).foldl (stageStep s y (ingested y i b (bulkData s b a)))
      (ingested y i b (bulkData s b a)) := by
    have hlast : ∀ r, stageStep s y (ingested y i b (bulkData s b a)) r ((b.offset + b.len) / 64) = r := fun r => by
      rw [stageStep, hbeyond]
      cases flitData y ((b.offset + b.len) / 64) <;> simp
    have hlo : b.offset / 64 + b.len / 64 = (b.offset + b.len) / 64 := by omega
    rw [show z = _ from stageNew_steps .., List.range'_1_concat, List.foldl_append, List.foldl_cons, List.foldl_nil, hlo]
    exact hlast _
  generalize ingested y i b (bulkData s b a) = new at *
  subst hframe
  obtain ⟨-, -, h1, h2, h3, h4⟩ := foldl_stageStep (s := s) (old := y) (p := p)
    (words := fun f => bulkFlit s (a + 64 * (f - b.offset / 64))) (List.range' (b.offset / 64) (b.len / 64))
    { y with bursts := dropAt y.bursts i, ingest := t } rfl rfl hrep fun f hf => by
      obtain ⟨hlo, hhi⟩ := hin f hf
      have hf' : f < payFlits y.bitmap y.cmd.desc := by omega
      refine ⟨hf', ?_, hmissing f hlo hhi, hflit f hf, congrArg Fin.val ?_⟩
      · dsimp only
        rw [storedFor_dense hs ht]
        rfl
      · exact (flitShore_single hn hf').trans (flitShore_single hn (by omega)).symm
  rw [← hz] at h1 h2 h3 h4
  refine ⟨h1, h2, h3.trans (by rw [List.length_range']), h4.trans (congrArg (queueAt y p ++ ·) ?_)⟩
  rw [List.range'_eq_map_range, List.map_map]
  refine List.map_congr_left fun j _ => ?_
  rw [Function.comp_apply, Nat.add_sub_cancel_left]

end

theorem read_takes {s : State} {e : EngineId} {y : StreamRun} {b : Burst} {i : Nat} (hy : (engineOf s e).run = some y)
    (hdying : (engineOf s e).dying = []) (hb : y.bursts[i]? = some b) (hfar : burstFar y.cmd.desc b = false)
    (hsound : ∀ j < b.len, bulkBad s (burstAddr y.cmd.desc b + j) = false)
    (hk : dKind y.cmd.desc = 0) (hs : dSparse y.cmd.desc = 0) (ht : dT2 y.cmd.desc = false) (hd : dDecrypt y.cmd.desc = false)
    (hn : dNmem y.cmd.desc = 1) (hrep : y.replaced = []) (hsecond : b.second = false) (hoff : b.offset % 64 = 0)
    (hlen : b.len % 64 = 0) (hpos : 0 < b.len) (hend : b.offset + b.len ≤ dLength y.cmd.desc)
    (hmissing : ∀ f, b.offset / 64 ≤ f → f < (b.offset + b.len) / 64 → flitData y f = none) :
    let p := (flitShore s y.bitmap y.cmd (b.offset / 64)).val
    ∃ t z, exec (.burstComplete e i [] []) s = .next t ∧ runOf t e = some z ∧ z.bursts = dropAt y.bursts i
      ∧ z.status = y.status ∧ z.staged = y.staged + b.len / 64
      ∧ queueAt z p = queueAt y p
        ++ (List.range (b.len / 64)).map fun j => ⟨b.offset / 64 + j, bulkFlit s (burstAddr y.cmd.desc b + 64 * j)⟩ := by
  intro p
  have hexec := burstComplete_lone hy hdying hb hfar
  rw [burstData_read (bulkData_sound hsound) hk, flitOfStored_dense hs ht, flitOfStored_dense hs ht,
    show (b.offset + b.len - 1) / 64 + 1 + 1 - b.offset / 64 = b.len / 64 + 1 by omega] at hexec
  obtain ⟨h1, h2, h3, h4⟩ := stageNew_dense (i := i) hs ht hd hsecond hk hsound hoff hlen hn hrep hend hmissing hpos
  generalize stageNew s y (ingested y i b (bulkData s b (burstAddr y.cmd.desc b))) (b.offset / 64) (b.len / 64 + 1) = z at hexec h1 h2 h3 h4
  obtain ⟨l, hl⟩ := markBurst_full s b z
  obtain ⟨n, hready⟩ := readied_ready s y (markBurst s b z)
  rw [hready, hl] at hexec
  exact ⟨_, _, hexec, runOf_putRun .., h1, h2, h3, h4⟩

/-! ### Decryption blocks (R263, R397) -/

/-- A stream's fault marks E5 on its thread, and takes back no record and no event. -/
theorem streamE5_recorded {g : Hart} {w : Word} {s t : State} (cause : BitVec 8) (info : Nat) (h : recorded g w s t) :
    (streamE5 g cause info t).engines = t.engines ∧ recorded g w s (streamE5 g cause info t) := by
  obtain ⟨hdone, hevent⟩ := h
  have hnoted : (noteE5 g cause 0 (BitVec.ofNat 64 info) t).engines = t.engines
      ∧ recorded g w s (noteE5 g cause 0 (BitVec.ofNat 64 info) t) := by
    unfold noteE5
    split
    · refine ⟨rfl, ?_, ?_⟩
      · rw [thread_modTh_same]
        exact hdone
      · rw [thread_modTh_same]
        exact hevent
    · rw [raiseEvent, modTh_modTh]
      refine ⟨rfl, ?_, ?_⟩
      · rw [thread_modTh_same]
        exact hdone
      · rw [thread_modTh_same, BitVec.getLsbD_or, hevent]
        rfl
  obtain ⟨heng, hdone', hevent'⟩ := hnoted
  unfold streamE5 deliver
  split
  · exact ⟨rfl, hdone, hevent⟩
  · unfold raiseE5
    split
    · unfold logCore recorded
      rw [logItem_engines, thread_log]
      exact ⟨heng, hdone', hevent'⟩
    · exact ⟨heng, hdone', hevent'⟩

theorem wordsBytes_length (l : List Word) : (wordsBytes l).length = 8 * l.length := by
  induction l with
  | nil => rfl
  | cons w l ih => rw [wordsBytes, List.length_append, natBytes_length, ih, List.length_cons]; omega

section
variable {s : State} {e : EngineId} {y : StreamRun} {key : KeySlot} (hk : dKind y.cmd.desc = 0)
  (hlen : 4096 * (y.released + 1) ≤ dStored y.bitmap y.cmd.desc)
  (hcame : ∀ j < 512, (tfind y.ingest (512 * y.released + j)).isSome = true)
include hlen

theorem nextBlock_whole : nextBlock y = (4096 * y.released, 4096) := by
  rw [nextBlock, Nat.min_eq_left (by omega)]

include hk hcame

theorem blockWords_whole : blockWords y = (List.range' (512 * y.released) 512).map fun j => tget ⟨0, false⟩ y.ingest j := by
  have hkey : ∀ w, ingestKey y.cmd.desc false w = w := fun w => if_neg (by omega)
  rw [blockWords, nextBlock_whole hlen]
  dsimp only
  rw [show 4096 * y.released / 8 = 512 * y.released by omega, ← List.filterMap_eq_map]
  refine List.filterMap_congr fun w hw => ?_
  obtain ⟨hlo, hhi⟩ := List.mem_range'_1.1 hw
  obtain ⟨v, hv⟩ := Option.isSome_iff_exists.1 (hcame (w - 512 * y.released) (by omega))
  rw [show 512 * y.released + (w - 512 * y.released) = w by omega] at hv
  rw [hkey, Function.comp_apply, tget, hv]
  rfl

theorem blockCame_whole (hd : dDecrypt y.cmd.desc = true) : blockCame y = true := by
  have hwords : (blockWords y).length = 512 := by rw [blockWords_whole hk hlen hcame, List.length_map, List.length_range']
  rw [blockCame, nextBlock_whole hlen]
  dsimp only
  rw [hwords, hd, hk]
  rfl

end

theorem blockCheck_lone {s : State} {e : EngineId} {y : StreamRun} {key : KeySlot} (hy : (engineOf s e).run = some y)
    (ha : (engineOf s e).ahead = []) (hcame : blockCame y = true)
    (hkey : tfind (regOf s y.cmd.region).keys (dKeySlot y.cmd.desc) = some key) :
    let n := (dAddrA y.cmd.desc - key.imageBase.toNat) / 4096 + y.released
    let c := tagReady s e.val y.cmd.region (engineDie e) key n
    granted s c = true → exec (.decryptBlockCheck ⟨e, ⟨[], []⟩⟩) s = .next (checkBlock e y (serve c s)) := by
  intro n c hg
  have hfind : (activeRuns (engineOf s e)).findIdx? blockCame = some 0 := by
    rw [activeRuns, hy, ha, Option.toList_some, List.append_nil, List.findIdx?_singleton, hcame]
    rfl
  have hblock : blockKey s y = (some key, n) := by rw [blockKey, hkey]
  rw [show exec (.decryptBlockCheck ⟨e, ⟨[], []⟩⟩) s = execDecryptBlockCheck ⟨e, ⟨[], []⟩⟩ s from rfl, execDecryptBlockCheck]
  dsimp only
  rw [hfind]
  dsimp only
  rw [focused, if_pos rfl, onRun, show runOf s e = some y from hy]
  dsimp only
  rw [tagThenCheck, hblock]
  dsimp only
  rw [if_pos hg, readTag, eccRead_clean]

theorem block_checked {s : State} {e : EngineId} {y : StreamRun} {key : KeySlot} (hy : (engineOf s e).run = some y)
    (ha : (engineOf s e).ahead = []) (hk : dKind y.cmd.desc = 0) (hd : dDecrypt y.cmd.desc = true)
    (hkey : tfind (regOf s y.cmd.region).keys (dKeySlot y.cmd.desc) = some key)
    (hlen : 4096 * (y.released + 1) ≤ dStored y.bitmap y.cmd.desc) (hq : (engineOf s e).queue = []) (hh : hears y.cmd.hart s)
    (hcame : ∀ j < 512, (tfind y.ingest (512 * y.released + j)).isSome = true) :
    let n := (dAddrA y.cmd.desc - key.imageBase.toNat) / 4096 + y.released
    let ct := wordsBytes ((List.range' (512 * y.released) 512).map fun j => (tget ⟨0, false⟩ y.ingest j).data)
    granted s (tagReady s e.val y.cmd.region (engineDie e) key n) = true →
      ∃ t, exec (.decryptBlockCheck ⟨e, ⟨[], []⟩⟩) s = .next t
        ∧ ((∃ bs, openBlock s key n ct = some bs ∧ ∃ z, runOf t e = some z ∧ z.released = y.released + 1)
          ∨ (openBlock s key n ct = none ∧ (engineOf t e).run = none ∧ recorded y.cmd.hart (recordOf y.cmd 0x0E y.poisoned) s t)) := by
  intro n ct hg
  have hexec := blockCheck_lone hy ha (blockCame_whole hk hlen hcame hd) hkey hg
  generalize hu : serve (tagReady s e.val y.cmd.region (engineDie e) key n) s = u at hexec
  have hct : (wordsBytes ((blockWords y).map fun w => w.data)).take 4096 = ct := by
    rw [blockWords_whole hk hlen hcame, List.map_map]
    refine List.take_of_length_le ?_
    rw [wordsBytes_length, List.length_map, List.length_range']
  have hblock : blockKey u y = (some key, n) := by
    rw [← hu, blockKey, show tfind (regOf (serve _ s) y.cmd.region).keys (dKeySlot y.cmd.desc) = some key from hkey]
  have hopen : openBlock u key n ct = openBlock s key n ct := by rw [← hu]; rfl
  refine ⟨_, hexec, ?_⟩
  rw [checkBlock, nextBlock_whole hlen]
  dsimp only
  rw [hblock]
  dsimp only [Option.bind_some]
  rw [hct, hopen]
  cases h : openBlock s key n ct with
  | some bs =>
    refine .inl ⟨bs, rfl, ?_⟩
    dsimp only
    rw [if_pos hk]
    exact ⟨_, runOf_putRun .., stageNew_released ..⟩
  | none =>
    obtain ⟨hrun, hrec⟩ := cancelEngine_alone (s := u) (e := e) (y := y) (st := 0x0E) (by rw [← hu]; exact hy) (by rw [← hu]; exact ha)
      (by rw [← hu]; exact hq) (by rw [← hu]; exact hh)
    have hrec' : recorded y.cmd.hart (recordOf y.cmd 0x0E y.poisoned) s (cancelEngine e 0x0E u) := by rw [← hu] at hrec ⊢; exact hrec
    obtain ⟨heng, hres⟩ := streamE5_recorded 0x0E (dXfer y.cmd.desc + 2 ^ 16 * n) hrec'
    refine .inr ⟨rfl, ?_, hres⟩
    exact (congrArg (fun l => (tget Engine.reset l e.val).run) heng).trans hrun

/-! ### The obligation -/

/-- Settles O49: a lone run's engine by `burstIssue_lone` and `burstComplete_lone`, descriptors by `startDesc` and `finishRun`,
decryption blocks by `checkBlock`. -/
theorem streamsRunTheirDescriptors : Obligations.StreamsRunTheirDescriptors := by
  intro e q rest y b wb i s k a u goes
  refine ⟨fun hq hrun hahead => ⟨fun ecc hok hfits hdense => descriptor_starts hq hrun hahead ecc hok hfits hdense,
      fun ecc hok hh => descriptor_fails hq hrun hahead ecc hok hh⟩,
    fun p dir start n w h => windowFor_today h, fun c m hm hs => ?_, fun z b' hi hfar => dying_completes hi hfar,
    fun hy ha => ?_, fun cell ix l die n hl hflag => arrival_signals hl hflag⟩
  · rw [granted_single hm hs]
    exact forall₂_congr fun x _ => imp_congr_right fun _ => not_congr (before_iff s m x c)
  refine ⟨fun c hk hc => burst_due hy ha hk hc, fun c hk ho hc hg => burst_passedOver hy ha hk ho hc hg,
    fun hk hgoes hwf hfar hb => fill_issues hy ha hk hgoes.1 hgoes.2 hwf hfar hb,
    fun hk hgoes hwf hfar hwb => write_issues hy ha hk hgoes.1 hgoes.2 hwf hfar hwb,
    fun hk hs hb hfar ho => ⟨read_held hy ha hk hs hb hfar ho, read_issues hy ha hk hs hb hfar ho⟩,
    fun hk hgoes hb hfar hroom => compare_issues hy ha hk hgoes.1 hgoes.2 hb hfar hroom,
    fun hdying hb hfar hsound => ⟨compare_takes hy hdying hb hfar hsound, read_takes hy hdying hb hfar hsound⟩,
    fun hk hm hh => marker_releases hy ha hk hm hh, fun hk hf hh => stream_completes hy ha hk hf hh,
    fun key hk hd hkey hlen hq hh hcame hg => ?_⟩
  obtain ⟨t, hexec, ⟨bs, hopen, hz⟩ | ⟨hopen, hrest⟩⟩ := block_checked hy ha hk hd hkey hlen hq hh hcame hg
  · exact ⟨t, hexec, by rw [hopen]; exact hz⟩
  · exact ⟨t, hexec, by rw [hopen]; exact hrest⟩

end Sys2Proof.Machine
